-- ==== Sys2Proof/Word.lean ====
section
/-! DEFINITION. The word types of the DX-9400 model and their plainest conversions (R2, R5). -/

namespace Sys2Proof

/-- One byte at an interface. -/
abbrev Byte := BitVec 8

/-- An IEEE 754 binary32 value, as its bits (R2). -/
abbrev F32 := BitVec 32

/-- An IEEE 754 binary64 value, as its bits (R2). -/
abbrev F64 := BitVec 64

/-- The 8-byte VALUE field of R82, left-aligned in its type. -/
abbrev Value := BitVec 64

/-- All ones in `n` bits: the manual's "all ones" marker. -/
def allOnes (n : Nat) : Nat := 2 ^ n - 1

/-- An unsigned number saturated at the largest value of `n` bits (R504). -/
def satU (n v : Nat) : Nat := min v (2 ^ n - 1)

/-- A signed number as an `n`-bit two's complement pattern. -/
def ofSigned (n : Nat) (v : Int) : Nat := (v % (2 ^ n : Int)).toNat

/-- The signed reading of an `n`-bit pattern. -/
def toSigned (n v : Nat) : Int :=
  if v % 2 ^ n < 2 ^ (n - 1) then ((v % 2 ^ n : Nat) : Int) else ((v % 2 ^ n : Nat) : Int) - 2 ^ n

/-- A signed number saturated to `n` bits, as its pattern (R504). -/
def satS (n : Nat) (v : Int) : Nat :=
  ofSigned n (max (-(2 ^ (n - 1) : Int)) (min v ((2 ^ (n - 1) : Int) - 1)))

end Sys2Proof
end

