-- ==== Sys2Proof/Syntax.lean ====
section
/-! DEFINITION. The commands of the block: one constructor of `Instr` per row of spec/opcode_table.json, with the
operands the row's rule gives it. A host opcode carries the packet's header and parameters (R40); an event carries
what the outside world decides (a measured value, a received frame, a level). -/

namespace Sys2Proof

/-- Where a packet comes from: an Ethernet port with the sender's IPv4 address and UDP port, or the SPI host port. -/
inductive Src where
  | eth (portB : Bool) (ip : BitVec 32) (udp : BitVec 16)
  | spi
  deriving DecidableEq, Repr

/-- The header of a command packet (Table 02-2) but for OPCODE, its trailer, its source, over Ethernet the UDP port it was sent to and
whether its IPv4 datagram came fragmented (R38), and how many commit points the command passes before the next row of the queue
(`burst`, log 4). -/
structure Req where
  src : Src
  dstPort : BitVec 16
  ipFragment : Bool
  magic : BitVec 16
  flags : Byte
  cls : Byte
  session : BitVec 16
  tag : Byte
  fragment : Byte
  seq : BitVec 32
  paramLen : BitVec 16
  status : BitVec 16
  epoch : BitVec 16
  trailer : BitVec 32
  burst : Nat
  deriving DecidableEq, Repr

/-- The kind of a CAN frame (R198): CAN FD or classical, with bit-rate switch, remote. -/
structure CanKind where
  fd : Bool
  brs : Bool
  remote : Bool
  deriving DecidableEq, Repr

/-- A time on the wire or from a source: seconds and nanoseconds (R4). -/
structure Stamp where
  sec : Nat
  ns : Nat
  deriving DecidableEq, Repr

/-- The events this model records (chapter 17; SOURCE by Table 17-3). -/
inductive Ev where
  | reset
  | bowWarning
  | bowRecovered
  | bowStop
  | pwrEnter
  | pwrExit
  | pwrSchedSkipped
  | pwrEntryAbandoned
  | clockSkew
  | thermalGradient
  | optionsFallback
  | optionsInvalid
  | retentionLost
  | junctionHot
  | sessionExpired
  | journalCorrupt
  | tableCorrupt
  | periodRealigned
  | timeSet
  | timeStep
  | timeOffsetLarge
  | txStampOverflow
  | holdoverEnter
  | holdoverExit
  | evtCleared
  | evtLost
  | evtCorrupt
  | evtControlLost
  | gnssBandFault
  | gnssJamming
  | gnssBaseChanged
  | gnssHeadingClosure
  | acqThreshold
  | acqModFault
  | acqSync
  | acqSyncLate
  | canErrorPassive
  | canBusOff
  | canRecovered
  | driveNonconforming
  | driveOwnerConflict
  | driveStale
  | driveLost
  | driveHbLost
  | serialChecksum
  | moduleRemoved
  | moduleUnidentified
  | moduleChanged
  | roleYielded
  | ownerEpoch
  | clockSlip
  | clockSlipCleared
  | refExcluded
  | refLost
  | refDispute
  | refDisputeResolved
  | refDisputeTimeout
  | refLostTimeout
  | assocIncomplete
  | anchorSet
  | obsInit
  | obsReinit
  | obsReject
  | obsDisagree
  | obsAgree
  | rnnLate
  | rnnFault
  | rnnLoaded
  | solverDeadlineMiss
  | baRejected
  | structureLost
  | mapFull
  | mapPromoted
  | mapRetired
  | modeChanged
  | modeDegraded
  | followWarn
  | followLimit
  | windLost
  | joyTimeout
  | trackWaypoint
  | trackEnd
  | targetLost
  | berthPhase
  | berthOptLost
  | thrusterLost
  | thrusterReturned
  | allocHeld
  | actSatWarn
  | actSatFault
  | solverLate
  | periodLate
  | scheduleLost
  | tileRetired
  | placementFail
  | replayMismatch
  | replayConfig
  | replayGap
  | safetyTrip
  | safetyTripReset
  | safetyConfirmed
  | safetyCheckMismatch
  | safetyEvtLost
  | brakeTest
  | brakeTestDue
  | cascLinkUp
  | cascLinkDown
  | cascDuplicate
  | roleConflict
  | handover
  | handoverFailed
  | groupDisagree
  | standbyOdd
  | arbiterOdd
  | groupNoStandby
  | ownerOverlap
  | extMasterLost
  | configMismatch
  | mtrSealChanged
  deriving DecidableEq, Repr

/-- SOURCE of an event: its producer in Table 17-3 (R501, R505). -/
def Ev.source : Ev → Nat
  | .reset => 15
  | .bowWarning => 15
  | .bowRecovered => 15
  | .bowStop => 15
  | .pwrEnter => 15
  | .pwrExit => 15
  | .pwrSchedSkipped => 15
  | .pwrEntryAbandoned => 15
  | .clockSkew => 15
  | .thermalGradient => 15
  | .optionsFallback => 15
  | .optionsInvalid => 15
  | .retentionLost => 15
  | .junctionHot => 15
  | .sessionExpired => 1
  | .journalCorrupt => 1
  | .tableCorrupt => 1
  | .periodRealigned => 2
  | .timeSet => 2
  | .timeStep => 2
  | .timeOffsetLarge => 2
  | .txStampOverflow => 2
  | .holdoverEnter => 2
  | .holdoverExit => 2
  | .evtCleared => 16
  | .evtLost => 16
  | .evtCorrupt => 16
  | .evtControlLost => 16
  | .gnssBandFault => 3
  | .gnssJamming => 3
  | .gnssBaseChanged => 3
  | .gnssHeadingClosure => 3
  | .acqThreshold => 4
  | .acqModFault => 4
  | .acqSync => 4
  | .acqSyncLate => 4
  | .canErrorPassive => 5
  | .canBusOff => 5
  | .canRecovered => 5
  | .driveNonconforming => 5
  | .driveOwnerConflict => 5
  | .driveStale => 5
  | .driveLost => 5
  | .driveHbLost => 5
  | .serialChecksum => 5
  | .moduleRemoved => 5
  | .moduleUnidentified => 5
  | .moduleChanged => 5
  | .roleYielded => 12
  | .ownerEpoch => 12
  | .clockSlip => 6
  | .clockSlipCleared => 6
  | .refExcluded => 6
  | .refLost => 6
  | .refDispute => 6
  | .refDisputeResolved => 6
  | .refDisputeTimeout => 6
  | .refLostTimeout => 6
  | .assocIncomplete => 6
  | .anchorSet => 6
  | .obsInit => 7
  | .obsReinit => 7
  | .obsReject => 7
  | .obsDisagree => 7
  | .obsAgree => 7
  | .rnnLate => 7
  | .rnnFault => 7
  | .rnnLoaded => 7
  | .solverDeadlineMiss => 8
  | .baRejected => 8
  | .structureLost => 8
  | .mapFull => 8
  | .mapPromoted => 8
  | .mapRetired => 8
  | .modeChanged => 9
  | .modeDegraded => 9
  | .followWarn => 9
  | .followLimit => 9
  | .windLost => 9
  | .joyTimeout => 9
  | .trackWaypoint => 9
  | .trackEnd => 9
  | .targetLost => 9
  | .berthPhase => 9
  | .berthOptLost => 9
  | .thrusterLost => 10
  | .thrusterReturned => 10
  | .allocHeld => 10
  | .actSatWarn => 10
  | .actSatFault => 10
  | .solverLate => 11
  | .periodLate => 11
  | .scheduleLost => 11
  | .tileRetired => 11
  | .placementFail => 11
  | .replayMismatch => 0
  | .replayConfig => 0
  | .replayGap => 0
  | .safetyTrip => 13
  | .safetyTripReset => 13
  | .safetyConfirmed => 13
  | .safetyCheckMismatch => 13
  | .safetyEvtLost => 13
  | .brakeTest => 13
  | .brakeTestDue => 13
  | .cascLinkUp => 12
  | .cascLinkDown => 12
  | .cascDuplicate => 12
  | .roleConflict => 12
  | .handover => 12
  | .handoverFailed => 12
  | .groupDisagree => 12
  | .standbyOdd => 12
  | .arbiterOdd => 12
  | .groupNoStandby => 12
  | .ownerOverlap => 12
  | .extMasterLost => 12
  | .configMismatch => 12
  | .mtrSealChanged => 14

/-- A received IEEE 1588 message (R137): type, domain, transport, sender, sequence, its time field, its correctionField in units of
2^-16 ns, twoStepFlag, the step count and error estimate a cascade Sync carries (R142, R144), and of an Announce the UTC offset (R126) and
the data set that the best-master algorithm compares, most significant first (IEEE 1588-2019: priority1, clockClass, clockAccuracy,
offsetScaledLogVariance, priority2, grandmaster identity, stepsRemoved). -/
structure PtpMsg where
  typ : Nat
  domain : Nat
  udp : Bool
  sender : Nat
  seqId : Nat
  time : Stamp
  corr : Int
  twoStep : Bool
  stepCount : Nat
  errNs : Nat
  utc : Option Int
  rank : List Nat
  deriving DecidableEq, Repr

/-- One complex sample of an antenna band as the data pairs carry it: two's complement codes of I and Q (R149). -/
structure Iq where
  i : BitVec 4
  q : BitVec 4
  deriving DecidableEq, Repr

/-- What the correlators give for a channel at a measurement epoch (R165, R166): the transmit time read from code phase and navigation
data, in units of 2^-32 ns of device time scale since the PTP epoch, where it is known; the cycles the carrier loop has turned since the
lock, which grow with the received frequency; the Doppler in Hz; and whether the half cycle is resolved. -/
structure ChanMeas where
  ch : Nat
  tx : Option Nat
  turned : F64
  doppler : F32
  halfCycle : Bool
  deriving DecidableEq, Repr

/-- What the navigation computation finds for an antenna at an epoch (R168): the channels whose pseudoranges it used and those its residual
test excluded, the last residual test, age of the oldest SBAS correction of the satellites used, the ambiguity ratio and the ambiguity
estimates by satellite (the system times 256 plus SVID), the position, and the time of the epoch in the scale of a navigation system
(0 GPS, 1 Galileo, 2 BeiDou), in seconds and nanoseconds from the PTP epoch on that scale (R126, R173). -/
structure SolMeas where
  ant : Nat
  used : List Nat
  excluded : List Nat
  residualOk : Bool
  sbasAgeMs : Option Nat
  ratio : Option F32
  amb : List (Nat × F64)
  lat : F64
  lon : F64
  height : F32
  sigma : F32
  system : Fin 3
  time : Stamp
  deriving DecidableEq, Repr

/-- What level A takes for a channel from navigation data and corrections (R321): the satellite's position and velocity in the earth-centred
frame at transmission, the metres to take from the pseudorange and the metres per second from the range rate for its clock and the path,
and the base station's carrier phase of the same signal, in metres, where the newest corrections carry it. -/
structure LevelSat where
  ch : Nat
  x : F64
  y : F64
  z : F64
  vx : F64
  vy : F64
  vz : F64
  delay : F64
  drift : F64
  base : Option F64
  deriving DecidableEq, Repr

/-- What the carrier phases give for a baseline at an epoch (R170): the ambiguity ratio and the NED vector. -/
structure BaseMeas where
  pair : Nat
  ratio : F32
  n : F64
  e : F64
  d : F64
  deriving DecidableEq, Repr

/-- What a tracking loop judges of one millisecond (R155, R156): C/N0 in 0.01 dB-Hz, the phase lock indicator, whether FLL and DLL are settled,
whether symbol timing is found, and a cycle slip. -/
structure LoopObs where
  ch : Nat
  cn0 : Nat
  phase : F32
  settled : Bool
  synced : Bool
  slip : Bool
  deriving DecidableEq, Repr

/-- What a search is for and where its detected cell lies (R157, R159): antenna, signal and satellite, whether ephemeris or almanac place
the satellite and at what elevation (0.001 rad), the Doppler of the cell and the predicted one in Hz, and the cell's code phase in half
chips from the predicted one. -/
structure SearchTarget where
  ant : Nat
  signal : Nat
  svid : Nat
  visible : Bool
  elev : Nat
  doppler : Int
  predicted : Int
  halfChips : Int
  deriving DecidableEq, Repr

/-- A navigation unit as it leaves the decoder (R163): its bits, whether symbol and BCH decoding succeeded, the reception of its first
symbol, which page of its message it is, whether it carries almanac, and the UTC offset where it carries one (R126). -/
structure NavUnit where
  bits : List Byte
  decoded : Bool
  first : Stamp
  page : Nat
  almanac : Bool
  utc : Option Int
  deriving DecidableEq, Repr

/-- What a brake circuit answers in its test (R473): whether the high-side, the low-side readback and the position follow. -/
structure TestObs where
  hs : Bool
  ls : Bool
  pos : Bool
  deriving DecidableEq, Repr

/-- A cascade frame taken by this device (Table 14-1): the port it arrived on and its fields. -/
structure CascMsg where
  down : Bool
  src : Nat
  dst : Nat
  seq : Nat
  period : Nat
  payload : List Byte
  deriving DecidableEq, Repr

/-- How a self-test cycle ends (R434): passed, a tile failed (solver or work tile, its number), the recurrent engine or the marver failed its
known-answer job, or shared SRAM or DRAM failed. -/
inductive SelfTest where
  | passed
  | tile (solver : Bool) (n : Fin 12)
  | recurrent
  | marver
  | memory
  deriving DecidableEq, Repr

/-- What of MRAM fails its check when firmware starts: journal entries and event records with the bytes stored for them, tables whose body was cut short, and whether either copy of the
recorder's control block and the locked image verify (R75, R96, R513, R569). -/
structure StartFaults where
  journal : List (Nat × List Byte)
  records : List (Nat × List Byte)
  tables : List Nat
  control : Bool
  image : Bool
  deriving DecidableEq, Repr

/-- The commands of the block (spec/opcode_table.json). -/
inductive Instr where
  /-- SESSION_OPEN (R47). -/
  | sessionOpen (r : Req) (p : List Byte)
  /-- SESSION_AUTH (R48). -/
  | sessionAuth (r : Req) (p : List Byte)
  /-- SESSION_RESYNC (R68). -/
  | sessionResync (r : Req) (p : List Byte)
  /-- SESSION_PING (R50). -/
  | sessionPing (r : Req) (p : List Byte)
  /-- SESSION_CLOSE (R90). -/
  | sessionClose (r : Req) (p : List Byte)
  /-- TAG_ABORT (R77). -/
  | tagAbort (r : Req) (p : List Byte)
  /-- FRAGMENT_RECEIVED (R60). -/
  | fragmentReceived (r : Req) (opcode : BitVec 16) (p : List Byte)
  /-- FRAG_GAP_EXPIRY (R61). -/
  | fragGapExpiry (slot : Fin 8) (tag : Fin 128)
  /-- FRAG_TOTAL_EXPIRY (R61). -/
  | fragTotalExpiry (slot : Fin 8) (tag : Fin 128)
  /-- SESSION_IDLE_EXPIRY (R50). -/
  | sessionIdleExpiry (slot : Fin 8)
  /-- AUTH_TIMEOUT (R49). -/
  | authTimeout (slot : Fin 8)
  /-- LOCKOUT_EXPIRY (R49). -/
  | lockoutExpiry (src : Src)
  /-- INTERIM_ACCEPTED_REPLY (R64). -/
  | interimAcceptedReply (entry : Nat)
  /-- COMMIT_POINT (R71). -/
  | commitPoint (entry : Nat)
  /-- JOURNAL_BUFFER_FLUSH (R72). -/
  | journalBufferFlush
  /-- CONFIG_LOCK (R94). -/
  | configLock (r : Req) (p : List Byte)
  /-- CONFIG_UNLOCK (R15). -/
  | configUnlock (r : Req) (p : List Byte)
  /-- CONFIG_SET (R92). -/
  | configSet (r : Req) (p : List Byte)
  /-- CONFIG_GET (R91). -/
  | configGet (r : Req) (p : List Byte)
  /-- TABLE_WRITE (R95). -/
  | tableWrite (r : Req) (p : List Byte)
  /-- TABLE_READ (R95). -/
  | tableRead (r : Req) (p : List Byte)
  /-- TABLE_INFO (R95). -/
  | tableInfo (r : Req) (p : List Byte)
  /-- SIGNAL_READ (R98). -/
  | signalRead (r : Req) (p : List Byte)
  /-- SIGNAL_INFO (R97). -/
  | signalInfo (r : Req) (p : List Byte)
  /-- SOURCE_SELECT (R271). -/
  | sourceSelect (r : Req) (p : List Byte)
  /-- MODE_SET (R333). -/
  | modeSet (r : Req) (p : List Byte)
  /-- CONTROL_STATUS (R100). -/
  | controlStatus (r : Req) (p : List Byte)
  /-- SETPOINT_SET (R339). -/
  | setpointSet (r : Req) (p : List Byte)
  /-- SETPOINT_GET (R340). -/
  | setpointGet (r : Req) (p : List Byte)
  /-- JOYSTICK_SET (R354). -/
  | joystickSet (r : Req) (p : List Byte)
  /-- THRUSTER_AVAIL (R371). -/
  | thrusterAvail (r : Req) (p : List Byte)
  /-- THRUST_STOP (R383). -/
  | thrustStop (r : Req) (p : List Byte)
  /-- GNSS_STATUS (R176). -/
  | gnssStatus (r : Req) (p : List Byte)
  /-- GNSS_RAW_READ (R166). -/
  | gnssRawRead (r : Req) (p : List Byte)
  /-- RTCM_INPUT (R102). -/
  | rtcmInput (r : Req) (p : List Byte)
  /-- NAV_BITS_READ (R163). -/
  | navBitsRead (r : Req) (p : List Byte)
  /-- TIME_GET (R125). -/
  | timeGet (r : Req) (p : List Byte)
  /-- TIME_SET (R129). -/
  | timeSet (r : Req) (p : List Byte)
  /-- TIME_STEP (R134). -/
  | timeStep (r : Req) (p : List Byte)
  /-- TIME_RATE (R131). -/
  | timeRate (r : Req) (p : List Byte)
  /-- TX_STAMP_READ (R140). -/
  | txStampRead (r : Req) (p : List Byte)
  /-- STRUCT_LOAD (R307). -/
  | structLoad (r : Req) (p : List Byte)
  /-- STRUCT_UPDATE (R311). -/
  | structUpdate (r : Req) (p : List Byte)
  /-- SOLVE (R313). -/
  | solve (r : Req) (p : List Byte)
  /-- STRUCT_DROP (R310). -/
  | structDrop (r : Req) (p : List Byte)
  /-- MAP_WRITE (R326). -/
  | mapWrite (r : Req) (p : List Byte)
  /-- MAP_READ (R326). -/
  | mapRead (r : Req) (p : List Byte)
  /-- MAP_STATUS (R330). -/
  | mapStatus (r : Req) (p : List Byte)
  /-- GROUP_STATUS (R447). -/
  | groupStatus (r : Req) (p : List Byte)
  /-- ROLE_SET (R420). -/
  | roleSet (r : Req) (p : List Byte)
  /-- HANDOVER_REQUEST (R444). -/
  | handoverRequest (r : Req) (p : List Byte)
  /-- HEALTH_READ (R435). -/
  | healthRead (r : Req) (p : List Byte)
  /-- SAFETY_STATUS (R477). -/
  | safetyStatus (r : Req) (p : List Byte)
  /-- SAFETY_PARAM_WRITE (R110). -/
  | safetyParamWrite (r : Req) (p : List Byte)
  /-- SAFETY_CHECK_READ (R472). -/
  | safetyCheckRead (r : Req) (p : List Byte)
  /-- SAFETY_CHECK_CONFIRM (R472). -/
  | safetyCheckConfirm (r : Req) (p : List Byte)
  /-- BRAKE_TEST (R473). -/
  | brakeTest (r : Req) (p : List Byte) (obs : List TestObs)
  /-- TRIP_RESET (R464). -/
  | tripReset (r : Req) (p : List Byte)
  /-- SAFE_STOP (R461). -/
  | safeStop (r : Req) (p : List Byte)
  /-- MTR_MAILBOX_READ (R497). -/
  | mtrMailboxRead (r : Req) (p : List Byte)
  /-- MTR_IDENT_READ (R500). -/
  | mtrIdentRead (r : Req) (p : List Byte)
  /-- EVT_INFO (R509). -/
  | evtInfo (r : Req) (p : List Byte)
  /-- EVT_READ (R510). -/
  | evtRead (r : Req) (p : List Byte)
  /-- EVT_CLEAR (R514). -/
  | evtClear (r : Req) (p : List Byte)
  /-- PWR_STATUS (R540). -/
  | pwrStatus (r : Req) (p : List Byte)
  /-- PWR_STATE_SET (R517). -/
  | pwrStateSet (r : Req) (p : List Byte)
  /-- RESET (R114). -/
  | reset (r : Req) (p : List Byte)
  /-- RESET_CAUSE_READ (R113). -/
  | resetCauseRead (r : Req) (p : List Byte)
  /-- RESET_CAUSE_CLEAR (R120). -/
  | resetCauseClear (r : Req) (p : List Byte)
  /-- IDENTITY_READ (R115). -/
  | identityRead (r : Req) (p : List Byte)
  /-- MODULE_LIST (R115). -/
  | moduleList (r : Req) (p : List Byte)
  /-- MODULE_READ (R115). -/
  | moduleRead (r : Req) (p : List Byte)
  /-- MODULE_ACCEPT (R116). -/
  | moduleAccept (r : Req) (p : List Byte)
  /-- MODULE_RESCAN (R116). -/
  | moduleRescan (r : Req) (p : List Byte)
  /-- ROLE_KEY_SET (R116). -/
  | roleKeySet (r : Req) (p : List Byte)
  /-- JOURNAL_QUERY (R76). -/
  | journalQuery (r : Req) (p : List Byte)
  /-- JOURNAL_LIST (R117). -/
  | journalList (r : Req) (p : List Byte)
  /-- JOURNAL_REJECTS (R76). -/
  | journalRejects (r : Req) (p : List Byte)
  /-- READ_PACKET (R39). -/
  | readPacket (clocked : Nat)
  /-- HOST_STATUS_CLEAR (R119). -/
  | hostStatusClear (value : BitVec 32)
  /-- RESET_CAUSE_WRITE (R120). -/
  | resetCauseWrite (value : BitVec 32)
  /-- DOORBELL_WAKE (R121). -/
  | doorbellWake
  /-- DOORBELL_IRQ_EN (R121). -/
  | doorbellIrqEn (on : Bool)
  /-- WINDOW_WRITE_OTHER (R118). -/
  | windowWriteOther (addr : Byte) (data : List Byte)
  /-- VESSEL_PERIOD_BOUNDARY (R16). -/
  | vesselPeriodBoundary
  /-- TP_BOUNDARY (R23). -/
  | tpBoundary
  /-- PERIOD_WAKE_REQUEST (R34). -/
  | periodWakeRequest
  /-- SNAPSHOT (R21). -/
  | snapshot
  /-- PROJECTION_ASSOCIATION_VOTE (R248). -/
  | projectionAssociationVote
  /-- REF_HOLD_TIMEOUT (R269). -/
  | refHoldTimeout (group : Fin 8)
  /-- CLOCK_SLIP_CLEARED (R246). -/
  | clockSlipCleared (input : Fin 64)
  /-- OBSERVER_UPDATE (R299). -/
  | observerUpdate
  /-- OBS_REINIT (R283). -/
  | obsReinit (heading : Bool)
  /-- RNN_WAIT_EXPIRY (R299). -/
  | rnnWaitExpiry (lateUs : BitVec 32)
  /-- RNN_WARMUP_END (R295). -/
  | rnnWarmupEnd
  /-- OBS_AGREE (R297). -/
  | obsAgree (q : Fin 9)
  /-- CONTROL (R338). -/
  | control
  /-- JOY_TIMEOUT (R354). -/
  | joyTimeout
  /-- FOLLOW_WARN (R356). -/
  | followWarn (axis : Fin 3)
  /-- FOLLOW_LIMIT (R356). -/
  | followLimit (axis : Fin 3)
  /-- TARGET_LOST_TIMEOUT (R361). -/
  | targetLostTimeout
  /-- BERTH_OPT_LOST (R364). -/
  | berthOptLost
  /-- TRACK_HOLD_EXPIRY (R358). -/
  | trackHoldExpiry
  /-- ALLOCATION (R378). -/
  | allocation (lateUs : BitVec 32)
  /-- SOLVER_DEADLINE (R319). -/
  | solverDeadline (structure_ : Fin 64) (iters : Nat)
  /-- THRUSTER_RETURNED (R372). -/
  | thrusterReturned (thruster : Fin 32)
  /-- HAND_OFF (R379). -/
  | handOff
  /-- MIRROR (R431). -/
  | mirror
  /-- HEALTH (R435). -/
  | health
  /-- LOG_BLOCK_RX (R409). -/
  | logBlockRx (portB : Bool) (data : List Byte)
  /-- PARISON_CHAIN (R395). -/
  | parisonChain
  /-- PARISON_CHAIN_COMPLETE (R396). -/
  | parisonChainComplete
  /-- TILE_RETIRED (R394). -/
  | tileRetired (solver : Bool) (tile : Fin 12)
  /-- PTP_MESSAGE_RX (R137). -/
  | ptpMessageRx (port : Fin 4) (m : PtpMsg)
  /-- SERVO_MEASUREMENT (R132). -/
  | servoMeasurement (src : Fin 4)
  /-- HOLDOVER_ENTER (R127). -/
  | holdoverEnter
  /-- TIME_STEP_INSTANT (R134). -/
  | timeStepInstant
  /-- CATCH_UP_STEP (R144). -/
  | catchUpStep (master : Stamp)
  /-- PTP_SYNC_TX (R142). -/
  | ptpSyncTx (down : Bool)
  /-- PDELAY_REQ_TX (R142). -/
  | pdelayReqTx (down : Bool)
  /-- PPS_OUT_PULSE (R146). -/
  | ppsOutPulse
  /-- PPS_IN_EDGE (R148). -/
  | ppsInEdge (rising : Bool)
  /-- MEASUREMENT_EPOCH (R165). -/
  | measurementEpoch (chans : List ChanMeas) (sols : List SolMeas) (bases : List BaseMeas)
  /-- GNSS_RAW_PUBLISH (R167). -/
  | gnssRawPublish
  /-- GNSS_SOLUTION_PUBLISH (R167). -/
  | gnssSolutionPublish (what : Fin 6) (completed : Bool)
  /-- LEVEL_A_PUBLISH (R322). -/
  | levelAPublish (completed : Bool) (lateUs : BitVec 32) (iters : BitVec 16) (sats : List LevelSat)
  /-- BAND_CLOCK_CHECK (R150). -/
  | bandClockCheck (counts : List Nat)
  /-- FRONT_END_REPLAY (R151). -/
  | frontEndReplay (antenna : Fin 3)
  /-- BAND_HEALTHY (R151). -/
  | bandHealthy (band : Fin 6)
  /-- AGC_UPDATE (R153). -/
  | agcUpdate (band : Fin 6) (codes : List Iq)
  /-- TRACKING_LOOP (R156). -/
  | trackingLoop (samples : List (List Iq)) (asks : List SearchTarget) (obs : List LoopObs)
  /-- CHANNEL_LOSS_OF_LOCK (R156). -/
  | channelLossOfLock (ch : Fin 256)
  /-- SEARCH_COMPLETE (R159). -/
  | searchComplete (ch : Fin 256) (found : Bool) (target : SearchTarget)
  /-- NOTCH_UPDATE (R161). -/
  | notchUpdate (band : Fin 6) (tracked : List Nat) (spectrum : List F32)
  /-- JAM_INDICATOR (R162). -/
  | jamIndicator (band : Fin 6)
  /-- GNSS_JAMMING (R162). -/
  | gnssJamming (band : Fin 6)
  /-- NAV_UNIT_DECODED (R163). -/
  | navUnitDecoded (ch : Fin 256) (unit : NavUnit)
  /-- EPHEMERIS_COPY (R160). -/
  | ephemerisCopy
  /-- ACQ_OUTPUT (R184). -/
  | acqOutput (ch : Fin 16) (bits : List Bool)
  /-- ACQ_MOD_FAULT (R180). -/
  | acqModFault (ch : Fin 16)
  /-- MOD_FAULT_CLEAR (R180). -/
  | modFaultClear (ch : Fin 16)
  /-- SETTLING_END (R190). -/
  | settlingEnd (ch : Fin 16)
  /-- ACQ_SYNC_PIN_EDGE (R195). -/
  | acqSyncPinEdge (rising : Bool)
  /-- ACQ_SYNC (R194). -/
  | acqSync
  /-- CAN_FRAME_RX (R223). -/
  | canFrameRx (bus : Fin 8) (kind : CanKind) (ext : Bool) (id : BitVec 29) (sofNs : Nat) (data : List Byte)
  /-- CAN_BUS_OFF (R205). -/
  | canBusOff (bus : Fin 8)
  /-- CAN_RECOVERED (R206). -/
  | canRecovered (bus : Fin 8)
  /-- FEEDBACK_RX (R216). -/
  | feedbackRx (bus : Fin 8) (node : Fin 32) (data : List Byte)
  /-- DRIVE_STATUS_RX (R213). -/
  | driveStatusRx (bus : Fin 8) (node : Fin 32) (data : List Byte)
  /-- DRIVE_HB_LOST (R218). -/
  | driveHbLost (thruster : Fin 16)
  /-- DRIVE_LOST (R218). -/
  | driveLost (thruster : Fin 16)
  /-- ACT_SAT_WARN (R387). -/
  | actSatWarn (thruster : Fin 32) (steering : Bool)
  /-- ACT_SAT_FAULT (R387). -/
  | actSatFault (thruster : Fin 32) (steering : Bool)
  /-- SERIAL_SENTENCE_RX (R227). -/
  | serialSentenceRx (port : Fin 8) (startNs : Nat) (chars : List Byte) (framing : Bool)
  /-- MODULE_PRESENT (R229). -/
  | modulePresent (slot : Fin 8)
  /-- MODULE_READ_COMPLETE (R232). -/
  | moduleReadComplete (slot : Fin 8) (data : List Byte)
  /-- MODULE_NACK_RETRY (R229). -/
  | moduleNackRetry (slot : Fin 8)
  /-- MODULE_REMOVED (R229). -/
  | moduleRemoved (slot : Fin 8)
  /-- OPTICAL_FRAME_RX (R255). -/
  | opticalFrameRx (portB : Bool) (data : List Byte)
  /-- MAP_MAINTENANCE (R327). -/
  | mapMaintenance
  /-- BA_PASS (R328). -/
  | baPass
  /-- CASC_LINK_UP (R413). -/
  | cascLinkUp (down : Bool)
  /-- CASC_LINK_DOWN (R413). -/
  | cascLinkDown (down : Bool)
  /-- CASC_FRAME_RX (R415). -/
  | cascFrameRx (down : Bool) (frame : List Byte)
  /-- ANNOUNCE_TX (R415). -/
  | announceTx
  /-- ANNOUNCE_RX (R421). -/
  | announceRx (m : CascMsg)
  /-- HEALTH_RX (R437). -/
  | healthRx (m : CascMsg)
  /-- HANDOVER_RESEND (R440). -/
  | handoverResend
  /-- HANDOVER_ACK_TIMEOUT (R440). -/
  | handoverAckTimeout
  /-- TAKE (R441). -/
  | take (m : CascMsg)
  /-- YIELD (R442). -/
  | yield (m : CascMsg)
  /-- ACK (R444). -/
  | ack (m : CascMsg)
  /-- MIRROR_RX (R432). -/
  | mirrorRx (m : CascMsg)
  /-- EXT_CMD (R426). -/
  | extCmd (m : CascMsg)
  /-- EXT_FB (R427). -/
  | extFb (m : CascMsg)
  /-- EXT_MASTER_LOST (R428). -/
  | extMasterLost
  /-- STOP (R429). -/
  | stop (m : CascMsg)
  /-- STEP_NOTICE (R144). -/
  | stepNotice (m : CascMsg)
  /-- SYNC_NOTICE (R196). -/
  | syncNotice (m : CascMsg)
  /-- BOOT_REQ (R417). -/
  | bootReq (m : CascMsg)
  /-- BOOT_REQ_TX (R417). -/
  | bootReqTx
  /-- BOOT_DATA (R417). -/
  | bootData (m : CascMsg)
  /-- ARBITER_DATAGRAM_RX (R446). -/
  | arbiterDatagramRx (portB : Bool) (ip : BitVec 32) (data : List Byte)
  /-- PERMIT_IN_LOW (R442). -/
  | permitInLow (returns : Bool)
  /-- OWNER_OVERLAP (R445). -/
  | ownerOverlap
  /-- OWNERSHIP_TAKE_UP (R568). -/
  | ownershipTakeUp
  /-- SELFTEST_CYCLE (R434). -/
  | selftestCycle (outcome : SelfTest)
  /-- SAFE_INPUT_FILTERED (R459). -/
  | safeInputFiltered (input : Fin 10) (high : Bool)
  /-- TEST_PULSE (R458). -/
  | testPulse (output : Fin 2) (before : List Bool) (after : List Bool)
  /-- DISCREPANCY (R457). -/
  | discrepancy (pair : Fin 5)
  /-- RAMP_END (R462). -/
  | rampEnd (channel : Fin 8)
  /-- RELEASE_REQUEST_FALL_EXPIRY (R454). -/
  | releaseRequestFallExpiry (channel : Fin 8)
  /-- READBACK_DEVIATION (R455). -/
  | readbackDeviation (channel : Fin 8)
  /-- SWITCH_TEST (R456). -/
  | switchTest (channel : Fin 8) (passes : Bool)
  /-- CLOCK_WINDOW (R466). -/
  | clockWindow (count : Nat)
  /-- HEARTBEAT_ABSENT (R467). -/
  | heartbeatAbsent
  /-- SAFETY_RESET_REQUEST (R467). -/
  | safetyResetRequest
  /-- MONITOR_DIAGNOSTIC (R468). -/
  | monitorDiagnostic (kind : Fin 3) (passes : Bool)
  /-- BRAKE_TEST_DUE (R475). -/
  | brakeTestDue (channel : Fin 8)
  /-- MTR_SAMPLE (R483). -/
  | mtrSample (bits : List (List Bool))
  /-- MTR_SECOND (R483). -/
  | mtrSecond (freq : List F32)
  /-- MTR_PULSE (R490). -/
  | mtrPulse (feeder : Fin 4)
  /-- PHASE_LOSS (R485). -/
  | phaseLoss (feeder : Fin 4) (phase : Fin 3)
  /-- MTR_CLOCK_CHECK (R486). -/
  | mtrClockCheck (ppm : Nat) (edges : Bool)
  /-- MTR_REGISTER_COMMIT (R495). -/
  | mtrRegisterCommit
  /-- MTR_WATCHDOG (R481). -/
  | mtrWatchdog
  /-- MTR_POWER_UP (R481). -/
  | mtrPowerUp (newer older : Bool)
  /-- UNSEALED (R491). -/
  | unsealed
  /-- SEALED (R491). -/
  | sealed
  /-- READ_IDENT (R500). -/
  | readIdent (payload : List Byte) (crc : BitVec 32)
  /-- READ_MAILBOX (R499). -/
  | readMailbox (payload : List Byte) (crc : BitVec 32)
  /-- READ_PARAM (R499). -/
  | readParam (payload : List Byte) (crc : BitVec 32)
  /-- WRITE_PARAM (R491). -/
  | writeParam (payload : List Byte) (crc : BitVec 32)
  /-- COMMIT (R492). -/
  | commit (payload : List Byte) (crc : BitVec 32)
  /-- READ_LOG (R499). -/
  | readLog (payload : List Byte) (crc : BitVec 32)
  /-- FW_BLOCK (R493). -/
  | fwBlock (payload : List Byte) (crc : BitVec 32)
  /-- FW_ACTIVATE (R493). -/
  | fwActivate (payload : List Byte) (crc : BitVec 32)
  /-- EVENT_ENTRY (R506). -/
  | eventEntry (ev : Ev) (data : List Byte)
  /-- EVENT_FLUSH (R508). -/
  | eventFlush
  /-- CONTROL_BLOCK_WRITE (R502). -/
  | controlBlockWrite
  /-- BOW_WARNING (R529). -/
  | bowWarning (rail : Fin 11) (mv : Nat)
  /-- BOW_RECOVERED (R530). -/
  | bowRecovered (lowest : List Nat)
  /-- BOW_STOP (R530). -/
  | bowStop
  /-- SUPPLY_RESET (R531). -/
  | supplyReset (rail : Fin 11)
  /-- RST_N (R533). -/
  | rstN
  /-- WATCHDOG (R534). -/
  | watchdog
  /-- RESET_SEQUENCE (R536). -/
  | resetSequence (straps : BitVec 7) (copyA : Bool) (copyB : Bool)
  /-- FIRMWARE_START (R8). -/
  | firmwareStart (faults : StartFaults)
  /-- POWER_STATE_ENTRY (R517). -/
  | powerStateEntry
  /-- PWR_ENTRY_ABANDONED (R517). -/
  | pwrEntryAbandoned
  /-- PWR_SCHED_ENTER (R517). -/
  | pwrSchedEnter
  /-- PWR_SCHED_WAKE (R518). -/
  | pwrSchedWake
  /-- WAKE_PIN (R518). -/
  | wakePin
  /-- WAKE_FRAME (R518). -/
  | wakeFrame (portB : Bool) (data : List Byte)
  /-- POWER_STATE_EXIT (R519). -/
  | powerStateExit (imageOk : Bool)
  /-- DOMAIN_WAKE_REQUEST (R524). -/
  | domainWakeRequest (domain : Fin 25) (cls : Fin 4)
  /-- WAKE_GOVERNOR_WINDOW (R524). -/
  | wakeGovernorWindow
  /-- IDLE_ENTRY (R516). -/
  | idleEntry
  /-- CLOCK_SKEW (R527). -/
  | clockSkew (cd : Fin 14) (tile : Option (Fin 14))
  /-- THERMAL_GRADIENT (R527). -/
  | thermalGradient (cd : Fin 14) (tile : Option (Fin 14)) (hot cold : BitVec 16)
  /-- DOMAIN_RETURN (R527). -/
  | domainReturn (cd : Fin 14)
  /-- JUNCTION_HOT (R560). -/
  | junctionHot (tenths : BitVec 16)
  /-- WRITE_PACKET (R39). -/
  | writePacket (data : List Byte) (whole : Bool)
  /-- UNKNOWN_OPCODE (R13). -/
  | unknownOpcode (r : Req) (opcode : BitVec 16) (p : List Byte)
  /-- COMMANDED_RESET (R114). -/
  | commandedReset
  /-- VDD_MTR_WARNING (R495). -/
  | vddMtrWarning
  /-- VDD_MTR_LOSS (R481). -/
  | vddMtrLoss
  /-- VDD_SAFE_WARNING (R468). -/
  | vddSafeWarning (held : Bool)
  /-- MONITOR_START_UP (R478). -/
  | monitorStartUp (copyA : Bool) (copyB : Bool)
  /-- PTP_MESSAGE_TX (R140). -/
  | ptpMessageTx (portB : Bool) (typ : Fin 5) (seqId : BitVec 16)
  /-- CAN_ERROR_PASSIVE (R205). -/
  | canErrorPassive (bus : Fin 8) (tec : BitVec 8) (rec_ : BitVec 8)
  /-- RNN_FAULT (R295). -/
  | rnnFault
  /-- HB_IN_TOGGLE (R437). -/
  | hbInToggle (chan : Fin 2)
  /-- DOMAIN_READY (R523). -/
  | domainReady (domain : Fin 25)
  /-- ARP_ICMP_REQUEST (R38). -/
  | arpIcmpRequest (portB : Bool) (ip : BitVec 32) (arp : Bool)
  /-- JUNCTION_HOT_END (R560). -/
  | junctionHotEnd (tenths : BitVec 16)
  /-- CLOCK_WINDOW_TIMEOUT (R466). -/
  | clockWindowTimeout
  deriving DecidableEq, Repr

end Sys2Proof
end

