-- ==== Sys2Proof/WellFormed.lean ====
section
/-! DEFINITION. The shape of a command that its types do not already say (R40, R38, R198, R225, R414 and the rows' own tables). -/

namespace Sys2Proof

/-- Parameters of one packet, with its 20 header bytes and its trailer, fit a UDP datagram over IPv4. -/
def packetFits (p : List Byte) : Bool := decide (p.length ≤ 65483)

/-- A UDP payload over IPv4. -/
def datagramFits (d : List Byte) : Bool := decide (d.length ≤ 65507)

/-- Nanoseconds of a stamp stay below one second (R122). -/
def stampOk (t : Stamp) : Bool := decide (t.ns < 1000000000)

/-- A cascade message as Table 14-1 carries it. -/
def cascOk (m : CascMsg) : Bool := decide (m.src < 256 ∧ m.dst < 256 ∧ m.seq < 65536 ∧ m.payload.length ≤ 2048)

/-- A service frame of the island carries at most 65,535 bytes. -/
def serviceOk (p : List Byte) : Bool := decide (p.length ≤ 65535)

/-- A well-formed command. -/
def Instr.wf (i : Instr) : Bool :=
  match i with
  | .sessionOpen _ p => packetFits p
  | .sessionAuth _ p => packetFits p
  | .sessionResync _ p => packetFits p
  | .sessionPing _ p => packetFits p
  | .sessionClose _ p => packetFits p
  | .tagAbort _ p => packetFits p
  | .fragmentReceived _ _ p => packetFits p
  | .fragGapExpiry _ _ => true
  | .fragTotalExpiry _ _ => true
  | .sessionIdleExpiry _ => true
  | .authTimeout _ => true
  | .lockoutExpiry _ => true
  | .interimAcceptedReply _ => true
  | .commitPoint _ => true
  | .journalBufferFlush => true
  | .configLock _ p => packetFits p
  | .configUnlock _ p => packetFits p
  | .configSet _ p => packetFits p
  | .configGet _ p => packetFits p
  | .tableWrite _ p => packetFits p
  | .tableRead _ p => packetFits p
  | .tableInfo _ p => packetFits p
  | .signalRead _ p => packetFits p
  | .signalInfo _ p => packetFits p
  | .sourceSelect _ p => packetFits p
  | .modeSet _ p => packetFits p
  | .controlStatus _ p => packetFits p
  | .setpointSet _ p => packetFits p
  | .setpointGet _ p => packetFits p
  | .joystickSet _ p => packetFits p
  | .thrusterAvail _ p => packetFits p
  | .thrustStop _ p => packetFits p
  | .gnssStatus _ p => packetFits p
  | .gnssRawRead _ p => packetFits p
  | .rtcmInput _ p => packetFits p
  | .navBitsRead _ p => packetFits p
  | .timeGet _ p => packetFits p
  | .timeSet _ p => packetFits p
  | .timeStep _ p => packetFits p
  | .timeRate _ p => packetFits p
  | .txStampRead _ p => packetFits p
  | .structLoad _ p => packetFits p
  | .structUpdate _ p => packetFits p
  | .solve _ p => packetFits p
  | .structDrop _ p => packetFits p
  | .mapWrite _ p => packetFits p
  | .mapRead _ p => packetFits p
  | .mapStatus _ p => packetFits p
  | .groupStatus _ p => packetFits p
  | .roleSet _ p => packetFits p
  | .handoverRequest _ p => packetFits p
  | .healthRead _ p => packetFits p
  | .safetyStatus _ p => packetFits p
  | .safetyParamWrite _ p => packetFits p
  | .safetyCheckRead _ p => packetFits p
  | .safetyCheckConfirm _ p => packetFits p
  | .brakeTest _ p obs => packetFits p && decide (obs.length ≤ 8)
  | .tripReset _ p => packetFits p
  | .safeStop _ p => packetFits p
  | .mtrMailboxRead _ p => packetFits p
  | .mtrIdentRead _ p => packetFits p
  | .evtInfo _ p => packetFits p
  | .evtRead _ p => packetFits p
  | .evtClear _ p => packetFits p
  | .pwrStatus _ p => packetFits p
  | .pwrStateSet _ p => packetFits p
  | .reset _ p => packetFits p
  | .resetCauseRead _ p => packetFits p
  | .resetCauseClear _ p => packetFits p
  | .identityRead _ p => packetFits p
  | .moduleList _ p => packetFits p
  | .moduleRead _ p => packetFits p
  | .moduleAccept _ p => packetFits p
  | .moduleRescan _ p => packetFits p
  | .roleKeySet _ p => packetFits p
  | .journalQuery _ p => packetFits p
  | .journalList _ p => packetFits p
  | .journalRejects _ p => packetFits p
  | .readPacket _ => true
  | .hostStatusClear _ => true
  | .resetCauseWrite _ => true
  | .doorbellWake => true
  | .doorbellIrqEn _ => true
  | .windowWriteOther _ data => decide (data.length ≤ 4)
  | .vesselPeriodBoundary => true
  | .tpBoundary => true
  | .periodWakeRequest => true
  | .snapshot => true
  | .projectionAssociationVote => true
  | .refHoldTimeout _ => true
  | .clockSlipCleared _ => true
  | .observerUpdate => true
  | .obsReinit _ => true
  | .rnnWaitExpiry _ => true
  | .rnnWarmupEnd => true
  | .obsAgree _ => true
  | .control => true
  | .joyTimeout => true
  | .followWarn _ => true
  | .followLimit _ => true
  | .targetLostTimeout => true
  | .berthOptLost => true
  | .trackHoldExpiry => true
  | .allocation _ => true
  | .solverDeadline _ _ => true
  | .thrusterReturned _ => true
  | .handOff => true
  | .mirror => true
  | .health => true
  | .logBlockRx _ data => datagramFits data
  | .parisonChain => true
  | .parisonChainComplete => true
  | .tileRetired _ _ => true
  | .ptpMessageRx _ m => decide (m.typ ≤ 15 ∧ m.domain ≤ 255 ∧ m.seqId < 65536) && stampOk m.time
  | .servoMeasurement _ => true
  | .holdoverEnter => true
  | .timeStepInstant => true
  | .catchUpStep master => stampOk master
  | .ptpSyncTx _ => true
  | .pdelayReqTx _ => true
  | .ppsOutPulse => true
  | .ppsInEdge _ => true
  | .measurementEpoch chans sols bases => chans.all (fun c => decide (c.ch < 256)) && sols.all (fun x => decide (x.ant < 3)) && bases.all fun b => decide (b.pair < 3)
  | .gnssRawPublish => true
  | .gnssSolutionPublish _ _ => true
  | .levelAPublish _ _ _ sats => decide (sats.length ≤ 256)
  | .bandClockCheck counts => decide (counts.length = 6)
  | .frontEndReplay _ => true
  | .bandHealthy _ => true
  | .agcUpdate _ codes => decide (1 ≤ codes.length)
  | .trackingLoop samples asks obs => decide (samples.length = 6) && asks.all (fun t => decide (t.ant < 3 ∧ t.signal ≤ 8 ∧ t.svid < 256)) &&
      obs.all fun o => decide (o.ch < 256)
  | .channelLossOfLock _ => true
  | .searchComplete _ _ target => decide (target.ant < 3 ∧ target.signal ≤ 8 ∧ target.svid < 256)
  | .notchUpdate _ tracked spectrum => decide (tracked.length ≤ 4 ∧ spectrum.length = 1024) && tracked.all fun k => decide (k < 1024)
  | .jamIndicator _ => true
  | .gnssJamming _ => true
  | .navUnitDecoded _ unit => decide (unit.bits.length ≤ 128) && stampOk unit.first
  | .ephemerisCopy => true
  | .acqOutput _ _ => true
  | .acqModFault _ => true
  | .modFaultClear _ => true
  | .settlingEnd _ => true
  | .acqSyncPinEdge _ => true
  | .acqSync => true
  | .canFrameRx _ kind ext id _ data =>
    decide (data.length ≤ 64) && (ext || decide (id.toNat < 2048)) && !(kind.remote && kind.fd) && !(kind.brs && !kind.fd)
  | .canBusOff _ => true
  | .canRecovered _ => true
  | .feedbackRx _ _ data => decide (data.length ≤ 64)
  | .driveStatusRx _ _ data => decide (data.length ≤ 64)
  | .driveHbLost _ => true
  | .driveLost _ => true
  | .actSatWarn _ _ => true
  | .actSatFault _ _ => true
  | .serialSentenceRx _ _ chars _ => decide (1 ≤ chars.length)
  | .modulePresent _ => true
  | .moduleReadComplete _ data => decide (data.length = 256)
  | .moduleNackRetry _ => true
  | .moduleRemoved _ => true
  | .opticalFrameRx _ data => datagramFits data
  | .mapMaintenance => true
  | .baPass => true
  | .cascLinkUp _ => true
  | .cascLinkDown _ => true
  | .cascFrameRx _ frame => decide (frame.length ≤ 2068)
  | .announceTx => true
  | .announceRx m => cascOk m
  | .healthRx m => cascOk m
  | .handoverResend => true
  | .handoverAckTimeout => true
  | .take m => cascOk m
  | .yield m => cascOk m
  | .ack m => cascOk m
  | .mirrorRx m => cascOk m
  | .extCmd m => cascOk m
  | .extFb m => cascOk m
  | .extMasterLost => true
  | .stop m => cascOk m
  | .stepNotice m => cascOk m
  | .syncNotice m => cascOk m
  | .bootReq m => cascOk m
  | .bootReqTx => true
  | .bootData m => cascOk m
  | .arbiterDatagramRx _ _ data => datagramFits data
  | .permitInLow _ => true
  | .ownerOverlap => true
  | .ownershipTakeUp => true
  | .selftestCycle _ => true
  | .safeInputFiltered _ _ => true
  | .testPulse _ before after => decide (before.length = 10 ∧ after.length = 10)
  | .discrepancy _ => true
  | .rampEnd _ => true
  | .releaseRequestFallExpiry _ => true
  | .readbackDeviation _ => true
  | .switchTest _ _ => true
  | .clockWindow _ => true
  | .heartbeatAbsent => true
  | .safetyResetRequest => true
  | .monitorDiagnostic _ _ => true
  | .brakeTestDue _ => true
  | .mtrSample bits => decide (bits.length = 24)
  | .mtrSecond freq => decide (freq.length = 4)
  | .mtrPulse _ => true
  | .phaseLoss _ _ => true
  | .mtrClockCheck _ _ => true
  | .mtrRegisterCommit => true
  | .mtrWatchdog => true
  | .mtrPowerUp _ _ => true
  | .unsealed => true
  | .sealed => true
  | .readIdent payload _ => serviceOk payload
  | .readMailbox payload _ => serviceOk payload
  | .readParam payload _ => serviceOk payload
  | .writeParam payload _ => serviceOk payload
  | .commit payload _ => serviceOk payload
  | .readLog payload _ => serviceOk payload
  | .fwBlock payload _ => serviceOk payload
  | .fwActivate payload _ => serviceOk payload
  | .eventEntry _ data => decide (data.length ≤ 6)
  | .eventFlush => true
  | .controlBlockWrite => true
  | .bowWarning _ _ => true
  | .bowRecovered lowest => decide (lowest.length = 11)
  | .bowStop => true
  | .supplyReset _ => true
  | .rstN => true
  | .watchdog => true
  | .resetSequence _ _ _ => true
  | .firmwareStart _ => true
  | .powerStateEntry => true
  | .pwrEntryAbandoned => true
  | .pwrSchedEnter => true
  | .pwrSchedWake => true
  | .wakePin => true
  | .wakeFrame _ data => datagramFits data
  | .powerStateExit _ => true
  | .domainWakeRequest _ _ => true
  | .wakeGovernorWindow => true
  | .idleEntry => true
  | .clockSkew _ _ => true
  | .thermalGradient _ _ _ _ => true
  | .domainReturn _ => true
  | .junctionHot _ => true
  | .writePacket data _ => datagramFits data
  | .unknownOpcode _ _ p => packetFits p
  | .commandedReset => true
  | .vddMtrWarning => true
  | .vddMtrLoss => true
  | .vddSafeWarning _ => true
  | .monitorStartUp _ _ => true
  | .ptpMessageTx _ _ _ => true
  | .canErrorPassive _ _ _ => true
  | .rnnFault => true
  | .hbInToggle _ => true
  | .domainReady _ => true
  | .arpIcmpRequest _ _ _ => true
  | .junctionHotEnd _ => true
  | .clockWindowTimeout => true

end Sys2Proof
end

