-- ==== Sys2Proof/Decode.lean ====
section
/-! DEFINITION. Commands read from words. No row of the table gives a command any bits, so no word spells one (log 71). -/

namespace Sys2Proof

/-- The command that a word of the table spells: none, since the rows give no bits. -/
def decodeTableWord (_nbits _w : Nat) : Option Instr := none

end Sys2Proof
end

