-- ==== Sys2Proof/Machine/Bytes.lean ====
section
/-! DEFINITION. Byte strings: big-endian and little-endian fields, slices, zero-padding and list updates (R5, R79). -/

namespace Sys2Proof.Machine

/-- `n` bytes of `v`, most significant first (R5). -/
def be : Nat → Nat → List Byte
  | 0, _ => []
  | n + 1, v => BitVec.ofNat 8 (v / 256 ^ n) :: be n v

/-- `n` bytes of `v`, least significant first. -/
def le : Nat → Nat → List Byte
  | 0, _ => []
  | n + 1, v => BitVec.ofNat 8 v :: le n (v / 256)

/-- The number a big-endian byte string spells. -/
def beNat (bs : List Byte) : Nat := bs.foldl (fun a b => a * 256 + b.toNat) 0

/-- The number a little-endian byte string spells. -/
def leNat (bs : List Byte) : Nat := beNat bs.reverse

/-- `len` bytes from offset `off`. -/
def slice (bs : List Byte) (off len : Nat) : List Byte := (bs.drop off).take len

/-- The unsigned big-endian field of `len` bytes at offset `off`. -/
def fieldU (bs : List Byte) (off len : Nat) : Nat := beNat (slice bs off len)

/-- The signed big-endian field of `len` bytes at offset `off`. -/
def fieldS (bs : List Byte) (off len : Nat) : Int := toSigned (8 * len) (fieldU bs off len)

/-- The little-endian field of `len` bytes at offset `off`. -/
def fieldLe (bs : List Byte) (off len : Nat) : Nat := leNat (slice bs off len)

/-- One byte at offset `off`; 0 past the end. -/
def byteAt (bs : List Byte) (off : Nat) : Nat := (bs.getD off 0).toNat

/-- A big-endian f32 field. -/
def fieldF32 (bs : List Byte) (off : Nat) : F32 := BitVec.ofNat 32 (fieldU bs off 4)

/-- A big-endian f64 field. -/
def fieldF64 (bs : List Byte) (off : Nat) : F64 := BitVec.ofNat 64 (fieldU bs off 8)

/-- `n` zero bytes. -/
def zeros (n : Nat) : List Byte := List.replicate n 0

/-- A string cut or zero-padded to `n` bytes. -/
def padTo (n : Nat) (bs : List Byte) : List Byte := (bs ++ zeros (n - bs.length)).take n

/-- Whether every byte is zero. -/
def allZero (bs : List Byte) : Bool := bs.all (· == 0)

/-- Whether bit `i` of `v` is set. -/
def bitOf (v i : Nat) : Bool := v.testBit i

/-- `v` with bit `i` set to `b`. -/
def putBit (v i : Nat) (b : Bool) : Nat :=
  if v.testBit i then (if b then v else v - 2 ^ i) else (if b then v + 2 ^ i else v)

/-- A Bool as 0 or 1. -/
def b2n (b : Bool) : Nat := if b then 1 else 0

/-- A word of flags, first flag in bit 0. -/
def flagsWord : List Bool → Nat
  | [] => 0
  | b :: bs => b2n b + 2 * flagsWord bs

/-- Element `i` of a list, or the default. -/
def at_ {α : Type} (d : α) (l : List α) (i : Nat) : α := l.getD i d

/-- The list with element `i` changed by `f`; unchanged where there is none. -/
def modAt {α : Type} (l : List α) (i : Nat) (f : α → α) : List α :=
  match l, i with
  | [], _ => []
  | x :: xs, 0 => f x :: xs
  | x :: xs, i + 1 => x :: modAt xs i f

/-- The body cut into records of `n` bytes; an incomplete tail is dropped. -/
def records (n : Nat) (bs : List Byte) : List (List Byte) :=
  (List.range (bs.length / n)).map fun i => slice bs (i * n) n

/-- ASCII bytes of a string, zero-padded to `n` (R98). -/
def ascii (n : Nat) (t : String) : List Byte :=
  padTo n (t.toList.map fun c => BitVec.ofNat 8 c.toNat)

/-- Insert into a list of keyed entries that rises strictly by key, replacing an entry of the same key. -/
def keyPut {α : Type} (k : Nat) (v : α) : List (Nat × α) → List (Nat × α)
  | [] => [(k, v)]
  | (k', v') :: r =>
    if k < k' then (k, v) :: (k', v') :: r
    else if k = k' then (k, v) :: r
    else (k', v') :: keyPut k v r

/-- Remove a key. -/
def keyDel {α : Type} (k : Nat) (l : List (Nat × α)) : List (Nat × α) := l.filter (fun p => p.1 != k)

/-- The entry of a key. -/
def keyGet {α : Type} (k : Nat) (l : List (Nat × α)) : Option α := (l.find? (fun p => p.1 == k)).map (·.2)

/-- Keys rise strictly: the canonical form of every keyed list of the model. -/
def keysRise {α : Type} : List (Nat × α) → Bool
  | [] => true
  | [_] => true
  | (a, _) :: (b, y) :: r => decide (a < b) && keysRise ((b, y) :: r)

end Sys2Proof.Machine
end

