-- ==== Sys2Proof/Machine/Crypto.lean ====
section
/-! DEFINITION. The checks and digests of the spec: CRC-32C (R41), CRC-16 (R512), CRC-24Q of RTCM frames (R102),
SHA-256 and HMAC-SHA-256 (R47). -/

namespace Sys2Proof.Machine

/-- One bit step of the reflected CRC-32C register. -/
def crc32cBit (c : BitVec 32) : BitVec 32 :=
  if c.getLsbD 0 then (c >>> 1) ^^^ 0x82F63B78#32 else c >>> 1

/-- One byte of CRC-32C, polynomial 0x1EDC_6F41 processed reflected. -/
def crc32cByte (c : BitVec 32) (b : Byte) : BitVec 32 :=
  let x := c ^^^ b.setWidth 32
  crc32cBit (crc32cBit (crc32cBit (crc32cBit (crc32cBit (crc32cBit (crc32cBit (crc32cBit x)))))))

/-- CRC-32C with initial value and final XOR all ones (R41). -/
def crc32c (bs : List Byte) : BitVec 32 := (bs.foldl crc32cByte 0xFFFFFFFF#32) ^^^ 0xFFFFFFFF#32

/-- CRC-32C as a number. -/
def crcNat (bs : List Byte) : Nat := (crc32c bs).toNat

/-- One bit step of CRC-16 with polynomial 0x1021. -/
def crc16Bit (c : BitVec 16) : BitVec 16 :=
  if c.getLsbD 15 then (c <<< 1) ^^^ 0x1021#16 else c <<< 1

/-- CRC-16 of R512: initial 0xFFFF, no reflection, no final XOR. -/
def crc16 (bs : List Byte) : BitVec 16 :=
  bs.foldl (fun c b =>
    let x := c ^^^ BitVec.shiftLeft (b.setWidth 16) 8
    crc16Bit (crc16Bit (crc16Bit (crc16Bit (crc16Bit (crc16Bit (crc16Bit (crc16Bit x)))))))) 0xFFFF#16

/-- One bit step of CRC-24Q, the parity of an RTCM 3 frame. -/
def crc24Bit (c : BitVec 24) : BitVec 24 :=
  if c.getLsbD 23 then (c <<< 1) ^^^ 0x864CFB#24 else c <<< 1

/-- CRC-24Q over a byte string (the RTCM 3 frame check that R102 names, log 13). -/
def crc24q (bs : List Byte) : BitVec 24 :=
  bs.foldl (fun c b =>
    let x := c ^^^ BitVec.shiftLeft (b.setWidth 24) 16
    crc24Bit (crc24Bit (crc24Bit (crc24Bit (crc24Bit (crc24Bit (crc24Bit (crc24Bit x)))))))) 0#24

/-- The words of SHA-256 are read from numbers that hold eight of them each, the first one highest. -/
def shaWord (packed i : Nat) : BitVec 32 := BitVec.ofNat 32 (packed >>> (32 * (7 - i % 8)))

/-- The round constants of SHA-256, eight to a row. -/
def shaRows : List Nat := [
  0x428a2f9871374491b5c0fbcfe9b5dba53956c25b59f111f1923f82a4ab1c5ed5,
  0xd807aa9812835b01243185be550c7dc372be5d7480deb1fe9bdc06a7c19bf174,
  0xe49b69c1efbe47860fc19dc6240ca1cc2de92c6f4a7484aa5cb0a9dc76f988da,
  0x983e5152a831c66db00327c8bf597fc7c6e00bf3d5a7914706ca635114292967,
  0x27b70a852e1b21384d2c6dfc53380d13650a7354766a0abb81c2c92e92722c85,
  0xa2bfe8a1a81a664bc24b8b70c76c51a3d192e819d6990624f40e3585106aa070,
  0x19a4c1161e376c082748774c34b0bcb5391c0cb34ed8aa4a5b9cca4f682e6ff3,
  0x748f82ee78a5636f84c878148cc7020890befffaa4506cebbef9a3f7c67178f2]

/-- The constant of each of the 64 rounds. -/
def shaKeys : List (BitVec 32) := (List.range 64).map fun i => shaWord (shaRows.getD (i / 8) 0) i

/-- The running digest: the eight words fall into two runs of four, each the last four values of one sequence, the
newest first. A round adds one value to each run and drops the oldest. -/
structure Digest where
  high : List (BitVec 32)
  low : List (BitVec 32)
  deriving DecidableEq, Repr

/-- The digest that a 256-bit number packs. -/
def Digest.unpack (packed : Nat) : Digest :=
  ⟨(List.range 4).map (shaWord packed), (List.range 4).map fun i => shaWord packed (i + 4)⟩

/-- Word by word sum of two digests. -/
def Digest.plus (p q : Digest) : Digest :=
  ⟨p.high.zipWith (· + ·) q.high, p.low.zipWith (· + ·) q.low⟩

/-- The digest before the first block. -/
def Digest.first : Digest :=
  .unpack 0x6a09e667bb67ae853c6ef372a54ff53a510e527f9b05688c1f83d9ab5be0cd19

/-- The exclusive or of a word turned right by each of the counts of `by_`. -/
def turned (by_ : List Nat) (x : BitVec 32) : BitVec 32 := by_.foldl (fun acc n => acc ^^^ x.rotateRight n) 0

/-- `n` more schedule words in front of those at hand (newest first), each from four of the sixteen before it. -/
def shaExtend : Nat → List (BitVec 32) → List (BitVec 32)
  | 0, ws => ws
  | n + 1, ws =>
    let near := ws.getD 1 0
    let far := ws.getD 14 0
    let mixed := turned [17, 19] near ^^^ (near >>> 10)
    shaExtend n ((ws.getD 15 0 + ws.getD 6 0 + mixed + (turned [7, 18] far ^^^ (far >>> 3))) :: ws)

/-- One round with `add`, the sum of its constant and its schedule word: `carried` goes into both runs. -/
def Digest.round (v : Digest) (add : BitVec 32) : Digest :=
  let up := fun i => v.high.getD i 0
  let dn := fun i => v.low.getD i 0
  let chosen := dn 2 ^^^ (dn 0 &&& (dn 1 ^^^ dn 2))
  let most := (up 0 &&& up 1) ||| (up 2 &&& (up 0 ||| up 1))
  let carried := add + chosen + turned [6, 11, 25] (dn 0) + dn 3
  ⟨(turned [2, 13, 22] (up 0) + most + carried) :: v.high.take 3, (carried + up 3) :: v.low.take 3⟩

/-- The digest after one more block of 64 bytes. -/
def Digest.block (v : Digest) (blk : List Byte) : Digest :=
  let given := (records 4 blk).map fun q => BitVec.ofNat 32 (fieldU q 0 4)
  let adds := shaKeys.zipWith (· + ·) (shaExtend 48 given.reverse).reverse
  v.plus (adds.foldl Digest.round v)

/-- SHA-256 of a byte string: the string, a bit 1, zeros up to 8 bytes before a whole block, its length in bits. -/
def sha256 (bs : List Byte) : List Byte :=
  let fill := (119 - bs.length % 64) % 64
  let v := (records 64 (bs ++ 0x80#8 :: zeros fill ++ be 8 (8 * bs.length))).foldl Digest.block .first
  (v.high ++ v.low).flatMap fun x => be 4 x.toNat

/-- HMAC-SHA-256. -/
def hmac (key msg : List Byte) : List Byte :=
  let k := padTo 64 (if key.length > 64 then sha256 key else key)
  sha256 (k.map (· ^^^ 0x5C#8) ++ sha256 (k.map (· ^^^ 0x36#8) ++ msg))

end Sys2Proof.Machine
end

