-- ==== Sys2Proof/Config.lean ====
section
/-! DEFINITION. What the spec leaves open: every constant here is a free value with no body, so that nothing
can be proved of it (notes/assumptions name each one and the point of the spec that leaves it open). -/

namespace Sys2Proof.Config

/-- Payload and sign of the NaN an invalid operation gives (log 12). -/
opaque nanPayload32 : BitVec 32

/-- Payload and sign of the binary64 NaN an invalid operation gives (log 12). -/
opaque nanPayload64 : BitVec 64

/-- The `k`-th byte drawn from the controller's random source (R47, log 11). -/
opaque randomByte : Nat → Byte

/-- The running main firmware's build number; firmware start masks it into the range of Table 00-6 (log 10). -/
opaque fwBuildLow : BitVec 8

/-- The event index that EVT_CATALOG assigns to an event (R503, log 17). -/
opaque evIndex : Ev → Byte

/-- The SEVERITY that EVT_CATALOG assigns to an event (R503, log 17). -/
opaque evSeverity : Ev → Byte

/-- The body of the read-only table EVT_CATALOG (R503, log 17). -/
opaque evtCatalog : Unit → List Byte

/-- The old period index of PERIOD_REALIGNED before any period has begun (R18 names the last period begun; log 174). -/
opaque noPeriod : BitVec 16

/-- Of the two binary32 values about an atan2 that is none itself, whether the controller gives the one farther from zero (R171, log 22). -/
opaque atan2Out : F64 → F64 → Bool

/-- The spreading code of a SIGNAL and SVID, component 0 tracked or 1 the other, at a code phase in chips, with its subcarrier and secondary code:
+1 or −1 (the interface control documents give them, not the spec; log 225). -/
opaque codeReplica : Nat → Nat → Nat → F64 → Int

/-- The carrier replica at a phase in cycles, as the correlators hold it (R155, log 225). -/
opaque carrierReplica : F64 → Int × Int

/-- What notches at some frequencies, in Hz from the band's centre, leave of a millisecond of samples: R161 bounds their rejection and width and gives
no coefficients (log 225). -/
opaque notched : List Int → List (Int × Int) → List (Int × Int)

/-- One step of a channel's loop filters: from the bandwidths of PLL, FLL and DLL, the seven sums, and carrier frequency, code rate and filter memory, the
next carrier frequency, code rate and memory (R156 gives orders and bandwidths, no filter; log 225). -/
opaque loopStep : List F32 → List (Int × Int) → List F64 → List F64

/-- Carrier wavelength of a SIGNAL in metres (the interface control documents give it, not the spec; log 49). -/
opaque wavelength : Nat → F64

/-- 10^(k / 2000) in binary64 (R321 gives no routine, log 49). -/
opaque tenth2000 : Nat → F64

/-- What LEVEL_A_Q adds, over an interval in seconds, to the variance of a column of structure 57 (R321 gives no form, log 49). -/
opaque levelANoise : Nat → F64 → F64 → F64

/-- Prior value and weight of a column of structure 57 at the first epoch (R321 gives none, log 49). -/
opaque levelAStart : Nat → F64 × F64

/-- Prior value of the ambiguity of a new channel or after LOCK_LOSS, by epoch instant and channel (R321 gives its weight only, log 49). -/
opaque levelANew : Nat → Nat → F64

/-- Tap `k` (0 to 7) of phase `p` (0 to 63) of the resampler's ROM prototype, 22 fraction bits (R183 prints none, log 23). -/
opaque romTap : Nat → Nat → BitVec 24

/-- The firmware servo's frequency estimate F after its `k`-th update (R132 gives no estimator, log 24). -/
opaque servoFreq : Nat → F64

/-- The firmware servo's estimate of its offset error in nanoseconds after its `k`-th update (R127, log 24). -/
opaque servoErr : Nat → BitVec 32

/-- REC above 127 falls to 119 plus this value, 119 to 127, on a good frame (ISO 11898-1 leaves the choice; log 32). -/
opaque canRecAfter : Fin 9

/-- The marver's sine of an angle (R251 gives no routine, log 34). -/
opaque mSin : F64 → F64

/-- The marver's cosine (log 34). -/
opaque mCos : F64 → F64

/-- The marver's tangent (log 34). -/
opaque mTan : F64 → F64

/-- The marver's arctangent of y over x, in [−π, π] (log 34). -/
opaque mAtan2 : F64 → F64 → F64

/-- The marver's square root (log 34). -/
opaque mSqrt : F64 → F64

/-- The prediction of quantity `k` (Table 09-7, 0x0360 + k) before any has been made, and for k of 8 to 15 the value of
vote group k − 8 before it has fused (log 35). -/
opaque unpredicted : Nat → F64

/-- Where phase 1 of R315 moves along directions in which its model is flat: after so many iterations from a point, one number for each
column (R315 gives no step there; log 45). -/
opaque phase1Free : Nat → List F64 → List F64

/-- What a bundle adjustment adds to the diagonal of its normal equations: by iterations done, the unknowns' values and the unknown (R328;
log 48). -/
opaque lmDamp : Nat → List F64 → Nat → F64

/-- Whether a bundle adjustment has converged after so many iterations, from the unknowns before and after the last (R328; log 48). -/
opaque lmEnd : Nat → List F64 → List F64 → Bool

/-- By how much the calibrated count is off after a sleep of so many nanoseconds, before it is held to the bound of R128 (log 66). -/
opaque sleepDrift : Nat → Int

end Sys2Proof.Config
end

