-- ==== Sys2Proof/Machine/Float.lean ====
section
/-! DEFINITION. IEEE 754 binary32 and binary64 arithmetic with round to nearest, ties to even, on bit patterns (R2).
A finite number is held exactly as sign, mantissa and power of two; each operation is exact and rounds once. -/

namespace Sys2Proof.Machine

/-- A binary format: exponent bits and fraction bits. -/
structure Fmt where
  eb : Nat
  mb : Nat
  deriving DecidableEq, Repr

/-- binary32. -/
def fmt32 : Fmt := ⟨8, 23⟩

/-- binary64. -/
def fmt64 : Fmt := ⟨11, 52⟩

/-- An unpacked number; `fin s m e` is (-1)^s · m · 2^e. -/
inductive Num where
  | nan
  | inf (s : Bool)
  | fin (s : Bool) (m : Nat) (e : Int)
  deriving DecidableEq, Repr

/-- Exponent of the least significant bit of the smallest subnormal. -/
def Fmt.emin (f : Fmt) : Int := 2 - (2 ^ (f.eb - 1) : Int) - f.mb

/-- The bits of infinity without its sign. -/
def Fmt.infBits (f : Fmt) : Nat := (2 ^ f.eb - 1) * 2 ^ f.mb

/-- Read a pattern. -/
def Fmt.unpack (f : Fmt) (w : Nat) : Num :=
  let s := w.testBit (f.eb + f.mb)
  let x := (w / 2 ^ f.mb) % 2 ^ f.eb
  let m := w % 2 ^ f.mb
  if x = 2 ^ f.eb - 1 then (if m = 0 then .inf s else .nan)
  else if x = 0 then .fin s m f.emin
  else .fin s (m + 2 ^ f.mb) (f.emin + x - 1)

/-- Divide by 2^k, rounding to nearest, ties to even. -/
def rneShift (m k : Nat) : Nat :=
  let q := m / 2 ^ k
  let r := 2 * (m % 2 ^ k)
  if r > 2 ^ k ∨ (r = 2 ^ k ∧ q % 2 = 1) then q + 1 else q

/-- Magnitude bits of m · 2^e, rounded. -/
def Fmt.roundMag (f : Fmt) (m : Nat) (e : Int) : Nat :=
  if m = 0 then 0
  else
    let q : Int := max (e + (m.log2 : Int) - f.mb) f.emin
    let d := q - e
    let m' := if d ≤ 0 then m * 2 ^ (-d).toNat else rneShift m d.toNat
    min ((q - f.emin).toNat * 2 ^ f.mb + m') f.infBits

/-- Write a number, rounded; a NaN takes the given bits. -/
def Fmt.pack (f : Fmt) (nanBits : Nat) : Num → Nat
  | .nan => nanBits
  | .inf s => b2 s * 2 ^ (f.eb + f.mb) + f.infBits
  | .fin s m e => b2 s * 2 ^ (f.eb + f.mb) + f.roundMag m e
where
  b2 (s : Bool) : Nat := if s then 1 else 0

/-- Quiet NaN bits with a free payload and sign (log 12). -/
def nan32 : Nat := (0x7FC00000#32 ||| (Config.nanPayload32 &&& 0x803FFFFF#32)).toNat

/-- Quiet NaN bits with a free payload and sign (log 12). -/
def nan64 : Nat := (0x7FF8000000000000#64 ||| (Config.nanPayload64 &&& 0x8007FFFFFFFFFFFF#64)).toNat

/-- binary32 pattern of a number. -/
def pack32 (x : Num) : F32 := BitVec.ofNat 32 (fmt32.pack nan32 x)

/-- binary64 pattern of a number. -/
def pack64 (x : Num) : F64 := BitVec.ofNat 64 (fmt64.pack nan64 x)

/-- Number of a binary32 pattern. -/
def num32 (w : F32) : Num := fmt32.unpack w.toNat

/-- Number of a binary64 pattern. -/
def num64 (w : F64) : Num := fmt64.unpack w.toNat

/-- Signed mantissa. -/
def sgnInt (s : Bool) (m : Nat) : Int := if s then -(m : Int) else m

/-- Exact sum; an exact zero of unlike signs is +0. -/
def Num.add : Num → Num → Num
  | .nan, _ => .nan
  | _, .nan => .nan
  | .inf s, .inf t => if s = t then .inf s else .nan
  | .inf s, _ => .inf s
  | _, .inf t => .inf t
  | .fin s m e, .fin t n g =>
    let k := min e g
    let a := sgnInt s (m * 2 ^ (e - k).toNat) + sgnInt t (n * 2 ^ (g - k).toNat)
    if a = 0 then .fin (s && t) 0 k else .fin (decide (a < 0)) a.natAbs k

/-- Negation. -/
def Num.neg : Num → Num
  | .nan => .nan
  | .inf s => .inf (!s)
  | .fin s m e => .fin (!s) m e

/-- Magnitude. -/
def Num.abs : Num → Num
  | .nan => .nan
  | .inf _ => .inf false
  | .fin _ m e => .fin false m e

/-- Exact product. -/
def Num.mul : Num → Num → Num
  | .nan, _ => .nan
  | _, .nan => .nan
  | .inf s, .inf t => .inf (s != t)
  | .inf s, .fin t n _ => if n = 0 then .nan else .inf (s != t)
  | .fin s m _, .inf t => if m = 0 then .nan else .inf (s != t)
  | .fin s m e, .fin t n g => .fin (s != t) (m * n) (e + g)

/-- Quotient to well over the format's precision, with a sticky low bit. -/
def Num.div : Num → Num → Num
  | .nan, _ => .nan
  | _, .nan => .nan
  | .inf _, .inf _ => .nan
  | .inf s, .fin t _ _ => .inf (s != t)
  | .fin s _ _, .inf t => .fin (s != t) 0 0
  | .fin s m e, .fin t n g =>
    if n = 0 then (if m = 0 then .nan else .inf (s != t))
    else
      let k := 70 + n.log2
      let a := m * 2 ^ k
      .fin (s != t) (2 * (a / n) + (if a % n = 0 then 0 else 1)) (e - g - k - 1)

/-- Integer square root by bits, from bit `k` down. -/
def isqrtFrom : Nat → Nat → Nat → Nat
  | 0, r, n => if (r + 1) * (r + 1) ≤ n then r + 1 else r
  | k + 1, r, n =>
    let t := r + 2 ^ (k + 1)
    isqrtFrom k (if t * t ≤ n then t else r) n

/-- Integer square root. -/
def isqrt (n : Nat) : Nat := isqrtFrom (n.log2 / 2 + 1) 0 n

/-- Square root to well over the format's precision, with a sticky low bit. -/
def Num.sqrt : Num → Num
  | .nan => .nan
  | .inf s => if s then .nan else .inf false
  | .fin s m e =>
    if m = 0 then .fin s 0 e
    else if s then .nan
    else
      let odd := e % 2
      let a := m * 2 ^ (140 + odd.toNat)
      let r := isqrt a
      .fin false (2 * r + (if r * r = a then 0 else 1)) ((e - odd - 140) / 2 - 1)

/-- Order of two numbers; none where one is a NaN. -/
def Num.cmp : Num → Num → Option Ordering
  | .nan, _ => none
  | _, .nan => none
  | .inf s, .inf t => some (if s = t then .eq else if s then .lt else .gt)
  | .inf s, _ => some (if s then .lt else .gt)
  | _, .inf t => some (if t then .gt else .lt)
  | .fin s m e, .fin t n g =>
    let k := min e g
    some (compare (sgnInt s (m * 2 ^ (e - k).toNat)) (sgnInt t (n * 2 ^ (g - k).toNat)))

/-- Less than; false with a NaN. -/
def Num.lt (x y : Num) : Bool := x.cmp y == some .lt

/-- At most; false with a NaN. -/
def Num.le (x y : Num) : Bool := x.cmp y == some .lt || x.cmp y == some .eq

/-- An integer. -/
def Num.ofInt (i : Int) : Num := .fin (decide (i < 0)) i.natAbs 0

/-- i · 2^e. -/
def Num.ofDyadic (i : Int) (e : Int) : Num := .fin (decide (i < 0)) i.natAbs e

/-- A decimal i / d, to well over the format's precision. -/
def Num.ofRat (i : Int) (d : Nat) : Num := (Num.ofInt i).div (Num.ofInt d)

/-- Rounded down to an integer; none for NaN and infinity. -/
def Num.floor? : Num → Option Int
  | .fin s m e => some (if e ≥ 0 then sgnInt s (m * 2 ^ e.toNat) else sgnInt s m / (2 ^ (-e).toNat : Int))
  | _ => none

/-- Rounded to the nearest integer, ties to even; none for NaN and infinity. -/
def Num.rint? : Num → Option Int
  | .fin s m e => some (if e ≥ 0 then sgnInt s (m * 2 ^ e.toNat) else sgnInt s (rneShift m (-e).toNat))
  | _ => none

/-- Rounded to the nearest integer, ties away from zero; none for NaN and infinity. -/
def Num.round? : Num → Option Int
  | .fin s m e =>
    some (if e ≥ 0 then sgnInt s (m * 2 ^ e.toNat)
      else sgnInt s ((2 * m + 2 ^ (-e).toNat) / (2 * 2 ^ (-e).toNat)))
  | _ => none

/-- Finite. -/
def Num.isFin : Num → Bool
  | .fin .. => true
  | _ => false

/-! binary32 operations. -/

/-- Sum. -/
def fadd (a b : F32) : F32 := pack32 ((num32 a).add (num32 b))
/-- Difference. -/
def fsub (a b : F32) : F32 := pack32 ((num32 a).add (num32 b).neg)
/-- Product. -/
def fmul (a b : F32) : F32 := pack32 ((num32 a).mul (num32 b))
/-- Quotient. -/
def fdiv (a b : F32) : F32 := pack32 ((num32 a).div (num32 b))
/-- Square root. -/
def fsqrt (a : F32) : F32 := pack32 (num32 a).sqrt
/-- Negation. -/
def fneg (a : F32) : F32 := a ^^^ 0x80000000#32
/-- Magnitude. -/
def fabs (a : F32) : F32 := a &&& 0x7FFFFFFF#32
/-- Less than. -/
def flt (a b : F32) : Bool := (num32 a).lt (num32 b)
/-- At most. -/
def fle (a b : F32) : Bool := (num32 a).le (num32 b)
/-- The smaller. -/
def fmin (a b : F32) : F32 := if flt b a then b else a
/-- The larger. -/
def fmax (a b : F32) : F32 := if flt a b then b else a
/-- Clamped to lo ≤ x ≤ hi. -/
def fclamp (x lo hi : F32) : F32 := fmin (fmax x lo) hi
/-- An integer, rounded. -/
def fofInt (i : Int) : F32 := pack32 (Num.ofInt i)
/-- The quotient i / d, rounded once. -/
def fofRat (i : Int) (d : Nat) : F32 := pack32 (Num.ofRat i d)
/-- Zero. -/
def f0 : F32 := 0#32
/-- One. -/
def f1 : F32 := 0x3F800000#32
/-- Not a NaN and not infinite. -/
def ffinite (a : F32) : Bool := (num32 a).isFin
/-- Widened to binary64, exactly. -/
def f2d (a : F32) : F64 := pack64 (num32 a)

/-! binary64 operations. -/

/-- Sum. -/
def dadd (a b : F64) : F64 := pack64 ((num64 a).add (num64 b))
/-- Difference. -/
def dsub (a b : F64) : F64 := pack64 ((num64 a).add (num64 b).neg)
/-- Product. -/
def dmul (a b : F64) : F64 := pack64 ((num64 a).mul (num64 b))
/-- Quotient. -/
def ddiv (a b : F64) : F64 := pack64 ((num64 a).div (num64 b))
/-- Square root. -/
def dsqrt (a : F64) : F64 := pack64 (num64 a).sqrt
/-- Negation. -/
def dneg (a : F64) : F64 := a ^^^ 0x8000000000000000#64
/-- Magnitude. -/
def dabs (a : F64) : F64 := a &&& 0x7FFFFFFFFFFFFFFF#64
/-- Less than. -/
def dlt (a b : F64) : Bool := (num64 a).lt (num64 b)
/-- At most. -/
def dle (a b : F64) : Bool := (num64 a).le (num64 b)
/-- The smaller. -/
def dmin (a b : F64) : F64 := if dlt b a then b else a
/-- The larger. -/
def dmax (a b : F64) : F64 := if dlt a b then b else a
/-- Clamped. -/
def dclamp (x lo hi : F64) : F64 := dmin (dmax x lo) hi
/-- An integer, rounded. -/
def dofInt (i : Int) : F64 := pack64 (Num.ofInt i)
/-- The quotient i / d, rounded once. -/
def dofRat (i : Int) (d : Nat) : F64 := pack64 (Num.ofRat i d)
/-- Zero. -/
def d0 : F64 := 0#64
/-- Not a NaN and not infinite. -/
def dfinite (a : F64) : Bool := (num64 a).isFin
/-- Narrowed to binary32. -/
def d2f (a : F64) : F32 := pack32 (num64 a)

/-! The arctangent, exact far beyond either format (R171). -/

/-- One halving of an angle: from tan a to tan (a / 2), in units of 2^-160. -/
def halfTan (t : Nat) : Nat := t * 2 ^ 160 / (2 ^ 160 + Nat.sqrt (2 ^ 320 + t * t))

/-- atan of t in [0, 1], both in units of 2^-160: the series after three halvings. -/
def atanUnits (t0 : Nat) : Int :=
  let t := halfTan (halfTan (halfTan t0))
  let step (a : Int × Nat) (k : Nat) : Int × Nat :=
    (a.1 + sgnInt (k % 2 == 1) (a.2 / (2 * k + 1)), a.2 * t / 2 ^ 160 * t / 2 ^ 160)
  8 * ((List.range 32).foldl step (0, t)).1

/-- atan of y / x in [0, π/2], in units of 2^-160; 0 where both are 0. -/
def atan2Units (y x : Nat) : Int :=
  if x = 0 ∧ y = 0 then 0
  else if y ≤ x then atanUnits (y * 2 ^ 160 / x)
  else 2 * atanUnits (2 ^ 160) - atanUnits (x * 2 ^ 160 / y)

end Sys2Proof.Machine
end

