-- ==== Sys2Proof/Machine/Params.lean ====
section
/-! DEFINITION. The catalogue of configuration parameters: identifier, TYPE, LIVE attribute, default and admitted
range, from the parameter table of each chapter (R92 and Tables 01-1, 02-6, 03-4, 04-4, 05-11, 06, 07, 08, 09, 10, 11,
12, 13, 14, 18-12). A value outside a range is OUT_OF_RANGE, an undefined enumerator BAD_ENUM. -/

namespace Sys2Proof.Machine

/-- Statuses of Tables 02-8 and 03-1. -/
def stOk : Nat := 0x0000
def stAccepted : Nat := 0x0001
def stPartial : Nat := 0x0002
def stParison : Nat := 0x0003
def stUnknownSession : Nat := 0x0101
def stStaleEpoch : Nat := 0x0102
def stSeqGap : Nat := 0x0103
def stDuplicate : Nat := 0x0104
def stTagBusy : Nat := 0x0105
def stWindowFull : Nat := 0x0106
def stBadLength : Nat := 0x0107
def stFragmentError : Nat := 0x0108
def stUnknownOpcode : Nat := 0x0109
def stClassMismatch : Nat := 0x010A
def stBadHeader : Nat := 0x010B
def stAbortedByHost : Nat := 0x010C
def stNotAuthenticated : Nat := 0x0201
def stRoleInsufficient : Nat := 0x0202
def stAuthFailed : Nat := 0x0203
def stLockedOut : Nat := 0x0204
def stRoleHeld : Nat := 0x0205
def stNotStandby : Nat := 0x0301
def stConfigLocked : Nat := 0x0302
def stConfigUnlocked : Nat := 0x0303
def stModeRefused : Nat := 0x0304
def stNotReady : Nat := 0x0305
def stBrakeReleased : Nat := 0x0306
def stStopped : Nat := 0x0307
def stTimeAlreadySet : Nat := 0x0308
def stTimeNotSet : Nat := 0x0309
def stOutOfRange : Nat := 0x0401
def stBadEnum : Nat := 0x0402
def stUnknownObject : Nat := 0x0403
def stInconsistent : Nat := 0x0404
def stBadTime : Nat := 0x0405
def stParamSize : Nat := 0x0406
def stTableCrc : Nat := 0x0407
def stReassemblyBusy : Nat := 0x0501
def stNoSession : Nat := 0x0502
def stNoTagCapacity : Nat := 0x0503
def stNoSpace : Nat := 0x0504
def stDeadlineMiss : Nat := 0x0601
def stWarmRejected : Nat := 0x0602
def stStructureUnknown : Nat := 0x0603
def stInfeasible : Nat := 0x0604
def stNotMaster : Nat := 0x0701
def stPeerAbsent : Nat := 0x0702
def stHandoverBusy : Nat := 0x0703
def stNotEligible : Nat := 0x0704
def stCheckMismatch : Nat := 0x0801
def stNotConfirmed : Nat := 0x0802
def stTripActive : Nat := 0x0803
def stParamSetInvalid : Nat := 0x0804

/-- An admitted range of a parameter. -/
inductive Rng where
  | any
  | nat (lo hi : Nat)
  | natOr (lo hi extra : Nat)
  | int (lo hi : Int)
  | enum (vals : List Nat)
  | oneOf (vals : List Nat)
  | mask (m : Nat)
  | real (lo hi : Num)
  deriving DecidableEq, Repr

/-- One parameter. -/
structure ParamDef where
  id : Nat
  ty : Nat
  live : Bool
  dflt : Value
  rng : Rng
  deriving DecidableEq, Repr

/-- Bytes of a TYPE (R82). -/
def tyBytes : Nat → Nat
  | 0 => 4
  | 1 => 8
  | 2 => 4
  | 3 => 4
  | _ => 8

/-- A u32 as a left-aligned VALUE. -/
def vU32 (n : Nat) : Value := BitVec.ofNat 64 (n % 2 ^ 32 * 2 ^ 32)
/-- A signed 32-bit number as a VALUE. -/
def vI32 (i : Int) : Value := BitVec.ofNat 64 (ofSigned 32 i * 2 ^ 32)
/-- A u64 as a VALUE. -/
def vU64 (n : Nat) : Value := BitVec.ofNat 64 n
/-- An f32 as a VALUE. -/
def vF32 (x : F32) : Value := BitVec.ofNat 64 (x.toNat * 2 ^ 32)
/-- An f64 as a VALUE. -/
def vF64 (x : F64) : Value := x
/-- The u32 of a VALUE. -/
def valU32 (v : Value) : Nat := v.toNat / 2 ^ 32
/-- The signed 32-bit number of a VALUE. -/
def valI32 (v : Value) : Int := toSigned 32 (v.toNat / 2 ^ 32)
/-- The f32 of a VALUE. -/
def valF32 (v : Value) : F32 := BitVec.ofNat 32 (v.toNat / 2 ^ 32)

/-- A decimal default or limit num / den as a number. -/
def rat (i : Int) (d : Nat) : Num := Num.ofRat i d

def pU (id : Nat) (live : Bool) (dflt : Nat) (rng : Rng) : ParamDef := ⟨id, 3, live, vU32 dflt, rng⟩
def pI (id : Nat) (live : Bool) (dflt : Int) (lo hi : Int) : ParamDef := ⟨id, 2, live, vI32 dflt, .int lo hi⟩
def pF (id : Nat) (live : Bool) (dflt lo hi : Num) : ParamDef := ⟨id, 0, live, vF32 (pack32 dflt), .real (num32 (pack32 lo)) (num32 (pack32 hi))⟩
def pD (id : Nat) (live : Bool) (dflt lo hi : Num) : ParamDef := ⟨id, 1, live, vF64 (pack64 dflt), .real (num64 (pack64 lo)) (num64 (pack64 hi))⟩

/-- π, rounded to binary64 (LOCAL_ORIGIN limits, log 14). -/
def dPi : F64 := 0x400921FB54442D18#64
/-- π/2. -/
def dHalfPi : F64 := 0x3FF921FB54442D18#64

def paramsHost : List ParamDef :=
  [pU 0x0101 false 20000 (.nat 5000 100000), pU 0x0102 false 10 (.nat 4 40),
   pU 0x0103 false 0 (.nat 0 99999999), pU 0x0104 false 2 (.nat 1 40), pU 0x0105 false 0 (.enum [0, 1]),
   pU 0x0106 false 100 (.nat 80 1000), pU 0x0110 false 30940 (.nat 1024 65535),
   pU 0x0111 false 10000 (.nat 1000 600000), pU 0x0112 false 200 (.nat 20 5000), pU 0x0113 false 5000 (.nat 100 60000)]

def paramsSensors : List ParamDef :=
  [pD 0x0210 false (rat 0 1) (num64 dHalfPi).neg (num64 dHalfPi), pD 0x0211 false (rat 0 1) (num64 dPi).neg (num64 dPi),
   pF 0x0212 false (rat 0 1) (rat (-1000) 1) (rat 10000 1), pU 0x0213 true 60000 (.nat 1000 600000),
   pU 0x0214 true 30000 (.nat 1000 600000), pU 0x0215 true 0 (.enum [0, 1]),
   pF 0x0216 true (rat 1134 100) (rat 1 1) (rat 100 1), pU 0x0217 true 20000 (.nat 1000 200000),
   pU 0x0218 false 30941 (.nat 1024 65535), pU 0x0219 false 0 (.enum [0, 1]),
   pU 0x0250 false 0 (.enum [0, 1]), pU 0x0251 true 0 (.mask 0xFFFF), ⟨0x0252, 4, true, 0, .any⟩,
   pU 0x0253 true 0 (.enum [0, 1, 2]), pU 0x0254 false 0 (.enum [0, 1])] ++
  [pU 0x02A0 true 0 (.mask 0xFF), pU 0x02A1 true 3 (.nat 1 20), pU 0x02A2 true 5 (.nat 2 40),
   pU 0x02A3 true 500 (.nat 200 5000), pU 0x02A4 false 50 (.nat 5 1000)]

def paramsControl : List ParamDef :=
  [pU 0x0301 true 1000 (.nat 0 10000), pU 0x0302 true 1000 (.nat 100 10000),
   pF 0x0303 true (rat 2 100) (rat 0 1) (rat 2 10), pF 0x0304 true (rat 500 1) (rat 1 1) (rat 10000 1),
   pF 0x0305 true (rat 10 1) (rat 0 1) (rat 60 1), pU 0x0306 true 10000 (.nat 0 60000),
   pF 0x0307 true (rat 1 1) (rat 0 1) (rat 15 10), pF 0x0308 true (rat 1 1) (rat 0 1) (rat 15 10),
   pF 0x0309 false (rat 1226 1000) (rat 1 1) (rat 15 10), pF 0x030A false (rat 500 1) (rat 1 1) (rat 10000 1),
   pF 0x030B false (rat 2000 1) (rat 1 1) (rat 50000 1), pF 0x030C false (rat 100 1) (rat 10 1) (rat 500 1),
   pU 0x030D false 0xFF (.natOr 4 7 0xFF), pU 0x030E false 0xFF (.natOr 4 7 0xFF),
   pU 0x0310 true 0 (.nat 0 2), pU 0x0311 true 0xFF (.natOr 0 15 0xFF)] ++
  [pU 0x0312 true 5000 (.nat 100 60000), pU 0x0313 true 2000 (.nat 100 60000),
   pF 0x0314 true (rat 5 100) (rat 1 100) (rat 5 10),
   pU 0x0320 true 2000 (.nat 20 50000), pF 0x0321 true (rat 1 1) (rat 0 1) (rat 100 1),
   pF 0x0322 true (rat 1000 1) (rat 1 1) (rat 1000000 1), pF 0x0323 true (rat 2 100) (rat 0 1) (rat 2 10),
   pU 0x0324 false 0xFFFF (.natOr 0x1000 0x3FFF 0xFFFF), pU 0x0325 false 0xFFFF (.natOr 0x1000 0x3FFF 0xFFFF),
   pU 0x0326 false 0xFFFF (.natOr 0x1000 0x3FFF 0xFFFF), pU 0x0327 false 0xFFFF (.natOr 0x1000 0x3FFF 0xFFFF),
   pF 0x0328 true (rat 1000000000 1) (rat 0 1) (rat 1000000000 1),
   pF 0x0329 true (rat 1000000000 1) (rat 0 1) (rat 1000000000 1),
   pF 0x032A true (rat 1000000000 1) (rat 0 1) (rat 1000000000 1),
   pF 0x032B true (rat 1000000000 1) (rat 0 1) (rat 1000000000 1), pU 0x032C true 2000 (.nat 0 60000)] ++
  [pU 0x0340 true 0 (.enum [0, 1]), pF 0x0341 true (rat 4 1) (rat 1 1) (rat 20 1), pU 0x0342 true 50 (.nat 1 10000),
   pU 0x0343 false 500 (.nat 0 10000), pU 0x0344 true 200 (.nat 0 5000),
   pF 0x0350 false (rat 20 100) (rat 5 100) (rat 50 100), pU 0x0351 false 200 (.nat 0 5000),
   pU 0x0352 true 1 (.enum [0, 1]), pF 0x0353 true (rat 1 1000) (rat 0 1) (rat 1 10),
   pF 0x0354 true (rat 1 10000) (rat 0 1) (rat 1 100), pF 0x0355 true (rat 1 1000) (rat 0 1) (rat 1 10),
   pF 0x0356 true (rat 1 10000) (rat 0 1) (rat 1 100), pF 0x0357 true (rat 1 1000) (rat 0 1) (rat 1 100),
   pU 0x0358 true 20 (.nat 0 1000), pU 0x0359 true 0 (.enum [0, 1]), pU 0x035A false 0 .any,
   pU 0x035B false 30942 (.nat 1024 65535), pU 0x035C false 0 (.enum [0, 1]), pU 0x035D false 0 (.enum [0, 1])]

def paramsGnss : List ParamDef :=
  [pU 0x0401 false 0x1F (.mask 0x1F), pU 0x0402 false 0x3F (.mask 0x3F), pU 0x0403 false 10 (.enum [1, 2, 5, 10, 20, 50]),
   pF 0x0404 true (rat 1745 10000) (rat 0 1) (rat 5236 10000), pF 0x0405 true (rat 28 1) (rat 20 1) (rat 45 1),
   pU 0x0406 false 1 (.enum [0, 1, 2, 3]), pF 0x0407 true (rat 15 1) (rat 2 1) (rat 30 1),
   pF 0x0408 true (rat 5 10) (rat 5 100) (rat 2 1), pU 0x0409 true 8000 (.nat 1000 50000),
   pU 0x040A true 4 (.nat 1 16), pU 0x040B false 24 (.nat 0 64), pU 0x0410 true 0x3F (.mask 0x3F),
   pF 0x0411 true (rat 15 1) (rat 6 1) (rat 40 1), pU 0x0412 true 100 (.nat 21 255),
   pF 0x0413 true (rat 30 100) (rat 10 100) (rat 50 100), pF 0x0414 false (rat 5 100) (rat 1 1000) (rat 1 1)] ++
  ((List.range 6).map fun b => pU (0x0418 + b) true 65535 (.natOr 0 1023 65535)) ++
  [pU 0x0420 false 0 (.nat 0 2), pU 0x0421 true 10000 (.nat 1000 60000), pF 0x0422 true (rat 3 1) (rat 15 10) (rat 10 1),
   pU 0x0430 false 1 (.mask 7), pF 0x0431 true (rat 20 1000) (rat 5 1000) (rat 200 1000)] ++
  ((List.range 6).map fun b => pI (0x0440 + b) false 0 (-5000000) 5000000) ++
  ((List.range 3).map fun a => pI (0x0450 + a) true 0 (-100000) 100000)

def paramsTime : List ParamDef :=
  [pU 0x0501 false 1 (.enum [0, 1, 2, 3]), pU 0x0502 false 0 (.enum [0, 1]), pU 0x0503 false 1 (.enum [0, 1]),
   pU 0x0504 true 5000 (.nat 100 5000), pU 0x0505 true 1000 (.nat 10 100000),
   pU 0x0506 true 1000000 (.nat 1000 1000000000), pU 0x0507 true 2000 (.nat 100 60000),
   pU 0x0510 false 0 (.mask 3), pU 0x0511 false 0 (.enum [0, 1]), pU 0x0512 false 0 (.nat 0 127),
   pU 0x0513 false 1 (.enum [0, 1]), pU 0x0514 false 0 (.enum [0, 1]), ⟨0x0515, 4, true, 0, .any⟩] ++
  ((List.range 8).map fun i => pI (0x0520 + i) true 0 (-10000) 10000) ++
  [pU 0x0530 true 100000 (.nat 1 500000), pI 0x0531 true 0 (-100000) 100000, pU 0x0532 true 1 (.enum [0, 1, 2]),
   pU 0x0533 true 0 (.enum [0, 1])]

def paramsRest : List ParamDef :=
  [pD 0x0601 true (rat 1 1000000000) (rat 1 1000000000000) (rat 1 1000),
   pD 0x0602 true (rat 1 1000000000) (rat 1 1000000000000) (rat 1 1000),
   pU 0x0603 true 50 (.nat 1 1000), pU 0x0604 true 1 (.nat 0 2), pU 0x0610 false 5000 (.nat 1000 10000),
   pF 0x0611 true (rat 1 100) (rat 1 1000000) (rat 10 1), pU 0x0620 true 0 (.nat 0 1),
   pU 0x0621 true 8000000 (.nat 0 8388607), pU 0x0622 true 0 (.nat 0 1), pU 0x0623 true 1024 (.nat 16 4096),
   pF 0x0624 true (rat 25 100) (rat 1 1000) (rat 10 1), pU 0x0625 true 20 (.nat 3 1000),
   pF 0x0626 true (rat 5 100) (rat 1 1000) (rat 1 1), pU 0x0627 true 500 (.nat 50 100000)] ++
  [pU 0x0710 false 0xFF (.natOr 0 3 0xFF), pU 0x0711 false 0xFF (.oneOf [0, 1, 2, 3, 0xFE, 0xFF]),
   pU 0x0712 false 0xFF (.natOr 0 3 0xFF), pU 0x0713 false 0 (.nat 0 1), pU 0x0714 false 1 (.nat 0 1),
   pF 0x0715 true (rat 1 1) (rat 1 10) (rat 20 1), pF 0x0716 true (rat 35 1000) (rat 1 1000) (rat 2 10),
   pF 0x0717 true (rat 2 10) (rat 1 100) (rat 1 1), pU 0x0718 true 25 (.nat 1 1000), pU 0x0719 true 10 (.nat 2 100),
   pU 0x071A false 300 (.nat 60 3600), pU 0x071B false 0xFF (.natOr 0 3 0xFF), pU 0x071C false 0xFF (.natOr 0 3 0xFF),
   pU 0x071D false 30943 (.nat 1024 65535), pU 0x071E false 0 .any] ++
  [pU 0x0B01 true 100 (.nat 25 1000), pU 0x0B02 false 500 (.nat 50 5000), pU 0x0B03 true 3 (.mask 3),
   pU 0x0B04 true 0 (.enum [0, 2, 3]), pU 0x0B05 true 0 (.nat 0 86399), pU 0x0B06 true 3600 (.nat 60 86340)]

/-- Every writable parameter, in ascending PARAM_ID. -/
def paramDefs : List ParamDef :=
  paramsHost ++ paramsSensors ++ paramsControl ++ paramsGnss ++ paramsTime ++ paramsRest

/-- The definition of a PARAM_ID. -/
def paramDef (id : Nat) : Option ParamDef := paramDefs.find? (fun d => d.id == id)

/-- The read-only parameters: TIME_INCR (R123) and the reports of Table 13-11 (0x03B0 to 0x03BE). -/
def isReport (id : Nat) : Bool := id == 0x0580 || (0x03B0 ≤ id && id ≤ 0x03BE)

/-- What a range says of a VALUE of a TYPE: none where it is admitted. -/
def rngStatus (ty : Nat) (r : Rng) (v : Value) : Option Nat :=
  match r with
  | .any => none
  | .nat lo hi => if lo ≤ valU32 v ∧ valU32 v ≤ hi then none else some stOutOfRange
  | .natOr lo hi e => if (lo ≤ valU32 v ∧ valU32 v ≤ hi) ∨ valU32 v = e then none else some stOutOfRange
  | .int lo hi => if lo ≤ valI32 v ∧ valI32 v ≤ hi then none else some stOutOfRange
  | .enum l => if valU32 v ∈ l then none else some stBadEnum
  | .oneOf l => if valU32 v ∈ l then none else some stOutOfRange
  | .mask m => if valU32 v &&& m = valU32 v then none else some stOutOfRange
  | .real lo hi =>
    let x := if ty = 0 then num32 (valF32 v) else num64 v
    if lo.le x && x.le hi then none else some stOutOfRange

/-- The checks of one value against its TYPE's padding (R82) and its own range. -/
def valueStatus (d : ParamDef) (v : Value) : Option Nat :=
  if tyBytes d.ty = 4 ∧ v.toNat % 2 ^ 32 ≠ 0 then some stOutOfRange else rngStatus d.ty d.rng v

end Sys2Proof.Machine
end

