-- ==== Sys2Proof/Machine/State.lean ====
section
/-! DEFINITION. The state of the DX-9400 as plain data, one structure per chapter of the spec, and its reset value.
Lists that stand for sparse storage are kept in one canonical form (keys rise strictly, Machine/Bytes.lean).
Elapsed time is the model's own measure: nanoseconds of the free-running oscillator since power-on (log 2). -/

namespace Sys2Proof.Machine

/-- Why a step stops. No command of the table gives this model a fault (NOTES.md, Stops). -/
inductive Fault where
  /-- Kept so that the type has a value to compare; nothing raises it, so it is neither safe nor unsafe. -/
  | none
  deriving DecidableEq, Repr

/-- Why a command is turned away. -/
inductive Refusal where
  /-- A row of the table that has no meaning yet; raised by Dispatch's refused arms only (safe: nothing is claimed of it). -/
  | notModelled (mnemonic : String)
  deriving DecidableEq, Repr

/-- Device time as fields of a record, its nanoseconds all ones while the time is not valid (R127); none where no instant was recorded. -/
abbrev WhenRec := Option Stamp

/-- One event record (Table 17-1); SOURCE, CODE and SEVERITY follow from `ev`. `mram` is what MRAM holds of it:
REPEAT and PARAMS at the last write, none before the first (R508); `bad` what is stored of a record whose CRC fails, and whether the
controller has met it (R513). -/
structure EvRec where
  num : Nat
  oper : Nat
  cycles : Nat
  ev : Ev
  rep : Nat
  lostBefore : Bool
  stamp : WhenRec
  params : List Byte
  mram : Option (Nat × List Byte)
  bad : Option (Bool × List Byte)
  deriving DecidableEq, Repr

/-- The event recorder (chapter 17). Records oldest first; `slot` that of the newest record (R507). -/
structure RecState where
  recs : List EvRec
  newest : Nat
  slot : Nat
  dropped : Nat
  operNs : Nat
  cycles : Nat
  ctrlOper : Nat
  ctrlCycles : Nat
  deriving DecidableEq, Repr

/-- Time states of Table 04-2. -/
inductive TState where
  | unset | free | locked | slewing | holdover
  deriving DecidableEq, Repr

/-- A transmit stamp of the host queue (R140). -/
structure TxStamp where
  id : Nat
  port : Nat
  at_ : Stamp
  deriving DecidableEq, Repr

/-- A step of the time waiting for its instant (R134, R144). `delta` is in whole nanoseconds; `origin` 0 TIME_STEP,
1 step notice, 2 catch-up; `entry` the command's journal entry. -/
structure PendStep where
  delta : Int
  instant : Nat
  origin : Nat
  count : Nat
  entry : Option Nat
  deriving DecidableEq, Repr

/-- The master a port hears (R131): its data set for the best-master comparison, its identity, and when its last Announce came. -/
structure PtpMaster where
  rank : List Nat
  sender : Nat
  heardAt : Nat
  deriving DecidableEq, Repr

/-- State of an Ethernet PTP port (R137, R139). -/
inductive PortState where
  | disabled
  | listening
  | master
  | slave
  deriving DecidableEq, Repr

/-- The exchange in progress on a port (R138, R139), its stamps in quarter nanoseconds of the counter: t1, correction and t2 of its Sync;
sequence and t3 of its request; t2, correction and t4 of a peer's two-step answer; sequence and receive stamp of a peer's request to be
answered; the last mean path delay; the offset measured and not yet taken by the servo; and the master heard. -/
structure PtpEx where
  syncSeq : Nat
  t1 : Option Int
  corr : Int
  t2 : Int
  reqSeq : Nat
  t3 : Int
  peer : Option (Int × Int × Int)
  asked : Option (Nat × Int)
  delay : Int
  offset : Option Int
  heard : Option PtpMaster
  deriving DecidableEq, Repr

/-- The time base (chapter 04). `lastValidAt` is the elapsed instant of the last valid source epoch, `lastSyncAt` that of a follower's last
Sync; ERR_NS grows from `holdErr0` since `errAt` (R128, R143, R174). `ppsOff` is the offset that the last valid pulse of PPS_IN measured, not yet
taken; `ppsFall` the elapsed instant at which PPS_OUT falls (R147). -/
structure TimeState where
  elapsed : Nat
  counting : Bool
  sec : Nat
  ns : Nat
  frac : Nat
  incr : BitVec 64
  state : TState
  rate : F64
  freq : F64
  slew : F64
  errNs : Nat
  offsetLarge : Bool
  sourceValid : Bool
  lastValidAt : Nat
  lastSyncAt : Nat
  errAt : Nat
  holdErr0 : Nat
  steps : List PendStep
  stepCount : Nat
  masterStepCount : Nat
  utcOffset : Int
  txQueue : List TxStamp
  txOverflow : Bool
  txDiscarded : Nat
  txEpisode : Bool
  ppsOn : Bool
  ppsLast : Option Nat
  ppsIn : Option Nat
  ppsGood : Nat
  ppsBad : Bool
  ppsOff : Option Int
  ppsFall : Nat
  ptpSeq : List Nat
  ptpAt : List Nat
  ptpEx : List PtpEx
  masterErr : Nat
  calib : Option (Nat × Nat)
  deriving DecidableEq, Repr

/-- The period grid (chapter 01). `startT` is the start of the period in progress on the counter in force, so that
counter − startT is elapsed counter time (R18); `vp`, `tp` and `phase` are the period, the thruster period and the phase it opened under, in
nanoseconds (R14); `everBegun` says that a period has begun since power-on. -/
structure GridState where
  running : Bool
  everBegun : Bool
  period : Nat
  startT : Int
  endT : Int
  vp : Nat
  tp : Nat
  phase : Nat
  tpDone : Nat
  tpTotal : Nat
  deriving DecidableEq, Repr

/-- The configuration and the option store (R91 to R96, R569). Parameters hold only values that differ from their
default; tables only bodies that are not empty. `mramTabs` holds the table bodies of the staged image and of the two regions as MRAM has
them (step 3 of TABLE_WRITE); `imageTabs` those of the locked image with the regions' beside them. -/
structure CfgState where
  locked : Bool
  staged : List (Nat × Value)
  stagedTabs : List (Nat × List Byte)
  force : List (Nat × Value)
  forceTabs : List (Nat × List Byte)
  everLocked : Bool
  image : List (Nat × Value)
  imageTabs : List (Nat × List Byte)
  mramTabs : List (Nat × List Byte)
  stagingBuf : List (Nat × List Byte)
  optUdpPort : Nat
  optGroupDev : Nat
  udpPort : Nat
  groupDev : Nat
  roleKeys : List (List Byte)
  corruptTabs : List Nat
  deriving DecidableEq, Repr

/-- Journal states of Table 02-9. -/
inductive JState where
  | accepted | started | partial_ | done | aborted
  deriving DecidableEq, Repr

/-- A journal entry (Table 02-10); `corrupt` holds its stored bytes where they fail their CRC (R75). -/
structure JEntry where
  entry : Nat
  session : Nat
  epoch : Nat
  tag : Nat
  cls : Nat
  opcode : Nat
  seq : Nat
  state : JState
  interrupted : Bool
  replySent : Bool
  parisonSent : Bool
  posted : Bool
  k : Nat
  n : Nat
  status : Nat
  fragments : Nat
  paramCrc : Nat
  firstPeriod : Option Nat
  accepted : WhenRec
  ended : WhenRec
  cycles : Nat
  corrupt : Option (List Byte)
  deriving DecidableEq, Repr

/-- An entry as the management core holds it and as MRAM holds it (R71, R72). -/
structure JSlot where
  cur : JEntry
  mram : Option JEntry
  deriving DecidableEq, Repr

/-- A reply as it is sent: status, epoch-free header copies and parameters. -/
structure Reply where
  cls : Nat
  session : Nat
  tag : Nat
  fragment : Nat
  seq : Nat
  opcode : Nat
  status : Nat
  last : Bool
  params : List Byte
  deriving DecidableEq, Repr

/-- A command in flight (R44, R45). `busy` says that a step has begun and not reached its commit point, `data` is what its own rule keeps
while that step waits. -/
structure Cmd where
  entry : Nat
  slot : Nat
  epoch : Nat
  src : Src
  tag : Nat
  noTag : Bool
  seq : Nat
  opcode : Nat
  cls : Nat
  params : List Byte
  specOk : Bool
  k : Nat
  n : Nat
  started : Bool
  orphan : Bool
  interim : Bool
  abort : Bool
  busy : Bool
  validElapsed : Nat
  validT : Int
  validC : Nat
  data : List Nat
  deriving DecidableEq, Repr

/-- What a tag of a session holds (R78). A tag that is free has no entry in the session's list. -/
inductive TagState where
  | reassembling (seq opcode cls : Nat) (frags : List (Nat × List Byte)) (last : Option Nat) (firstAt lastAt : Nat)
      (specOk : Bool)
  | inFlight (seq opcode cls entry : Nat)
  | ended (seq opcode cls : Nat) (replies : List Reply) (jstate k n status : Nat)
  deriving DecidableEq, Repr

/-- A session slot (R46 to R58). Bit i of `marks` is the received mark of H − i. -/
structure Session where
  isOpen : Bool
  epoch : Nat
  src : Src
  authed : Bool
  role : Nat
  wantRole : Nat
  window : Nat
  challenge : List Byte
  nonce : List Byte
  high : BitVec 32
  marks : BitVec 64
  retries : Nat
  lastAt : Nat
  openedAt : Nat
  tags : List (Nat × TagState)
  rejCount : Nat
  rejLast : List Byte
  deriving DecidableEq, Repr

/-- Where failed proofs are counted (R49): an IPv4 address, or the SPI host port. -/
inductive Origin where
  | ip (a : BitVec 32)
  | spi
  deriving DecidableEq, Repr

/-- The host interface (chapters 02 and 03). -/
structure HostState where
  sessions : List Session
  epochCounter : Nat
  fails : List (Origin × Nat)
  lockouts : List (Origin × Nat)
  cmds : List Cmd
  journal : List JSlot
  nextEntry : Nat
  reserveMark : Nat
  spiIn : List (List Byte)
  spiOut : List (List Byte)
  inOverrun : Bool
  outOverrun : Bool
  irqEn : Bool
  randoms : Nat
  deriving DecidableEq, Repr

/-- Power states of Table 18-1. -/
inductive PState where
  | run | idle | sleep | deepSleep | off
  deriving DecidableEq, Repr

/-- Reset levels, narrow to wide. -/
inductive Level where
  | core | system | powerOn
  deriving DecidableEq, Repr

/-- Reset sources of Table 18-7. -/
inductive RSrc where
  | por | supply (rail : Nat) | pin | watchdog | cmdSystem | safetyReq | cmdCore
  deriving DecidableEq, Repr

/-- Where firmware stands: sequencing at a level's hold point, loading the option record, boot ROM, or running. -/
inductive Boot where
  | inReset (at_ : Level)
  | loading
  | rom
  | running
  deriving DecidableEq, Repr

/-- A switched domain's wake: stopped, asked for at an elapsed instant by a class, admitted, or awake. -/
inductive Wake where
  | stopped
  | waiting (cls at_ : Nat)
  | waking (since : Nat)
  | awake
  deriving DecidableEq, Repr

/-- Power, clocks and reset (chapter 18), with the package's straps and temperature episode (chapter 19). -/
structure PwrState where
  state : PState
  boot : Boot
  fwBuild : BitVec 16
  cause : BitVec 32
  sources : List RSrc
  reach : Level
  straps : BitVec 7
  oldMode : Nat
  oldPeriod : Nat
  fwAt : Nat
  deepExit : Bool
  entryPending : Option (PState × Nat × Bool)
  resetPending : Option (Level × Nat)
  wakePend : Nat
  lastExit : Nat
  lastWake : Nat
  schedWakeAt : Option Nat
  enteredAt : Nat
  pwrReq : Bool
  railMv : List Nat
  bowSince : Option Nat
  bowLow : List Nat
  bowRails : BitVec 11
  bowStopped : Bool
  bowCount : Nat
  bowLastUs : Nat
  wdtServed : Nat
  loadCount : Nat
  optionsFallback : Bool
  domains : List Wake
  window : Nat
  windowCharge : Nat
  wakeQueued : Nat
  wakeStallMax : Nat
  isolated : BitVec 14
  skewActive : BitVec 14
  thermalDomain : Option Nat
  retentionLost : Bool
  retention : Option (List Byte)
  tempMax : Int
  tempMin : Int
  hotEpisode : Bool
  serial : List Byte
  deriving DecidableEq, Repr

/-- What the block has sent to the outside, newest first (the model's own record, log 3). -/
inductive Out where
  | udp (portB : Bool) (ip : BitVec 32) (dst srcPort : Nat) (bytes : List Byte)
  | reply (dst : Src) (srcPort : Nat) (bytes : List Byte)
  | can (bus : Nat) (ext fd brs : Bool) (id : Nat) (bytes : List Byte)
  | casc (port : Nat) (dst typ prio : Nat) (bytes : List Byte)
  | ptp (port : Nat) (msg : Nat) (bytes : List Byte)
  | pin (name : String) (high : Bool)
  | pulse (name : String) (n : Nat)
  | i2c (bus : Nat) (addr : Nat)
  | icmp (portB : Bool) (ip : BitVec 32) (arp : Bool)
  | service (bytes : List Byte)
  | spiFe (ant : Nat) (bytes : List Byte) (pauseUs : Nat)
  deriving DecidableEq, Repr

/-- One publication of a signal: value, whether its producer marks it invalid, arrival stamp and validity stamp, both
in nanoseconds of the counter, since when its producer has marked it invalid after publishing it, and the whole microseconds of an OWN_STAMP
entry (R223, R238, R242, R243). -/
structure SigVal where
  value : Value
  fault : Bool
  arr : Nat
  valid : Option Nat
  badAt : Option Nat
  own : Option Int
  deriving DecidableEq, Repr

/-- A signal produced by stages 3 to 7: value and QUALITY (Table 08-2). -/
structure OutVal where
  value : Value
  q : Nat
  deriving DecidableEq, Repr

/-- A value as SIGNAL_READ returns it: VALUE, QUALITY and AGE_US (R98). -/
structure ReadVal where
  value : Value
  q : Nat
  age : Nat
  deriving DecidableEq, Repr

/-- The signal table (R235): by ID, the publications still needed, newest first (R33); the outputs of the stages; and what
the latest period whose stage 9 has completed left for SIGNAL_READ; and the values restored from retention SRAM with the counter
instants (microseconds) their ages run from (R522). -/
structure SigState where
  tab : List (Nat × List SigVal)
  outs : List (Nat × OutVal)
  read : List (Nat × ReadVal)
  readPeriod : Option Nat
  kept : List (Nat × ReadVal)
  deriving DecidableEq, Repr

/-- Nothing published. -/
def sigReset : SigState := { tab := [], outs := [], read := [], readPeriod := none, kept := [] }

/-- A notch filter (R161): its frequency in Hz and, while its line is weak, since when. -/
structure Notch where
  freq : Int
  weakSince : Option Nat
  deriving DecidableEq, Repr

/-- One antenna band (R150 to R153, R161, R162). `fill` is what the elastic buffer holds; `learn` counts the 100 ms means of the AGC code,
in hundredths of a code, while the reference is being learned. -/
structure Band where
  fill : Int
  fault : Bool
  faultSince : Nat
  cleanSince : Option Nat
  replayed : Bool
  duty : Nat
  dutySum : Nat
  dutyCount : Nat
  learned : Option Nat
  learn : List (Nat × Nat)
  learnCount : Nat
  notches : List (Option Notch)
  fifth : Bool
  disturbed : Bool
  jam : Nat
  jammed : Bool
  jamSince : Option Nat
  calmSince : Option Nat
  deriving DecidableEq, Repr

/-- The loops and taps of a channel (R155, R156): code offsets of its seven taps in chips, the I and Q sums of the last millisecond, the
bandwidths of PLL, FLL and DLL in Hz; carrier frequency in Hz, carrier phase in cycles, code rate in chips per second, code phase in chips, and the
filters' memory. -/
structure Tracker where
  carrHz : F64
  carrPh : F64
  codeRate : F64
  codePh : F64
  mem : List F64
  offsets : List F32
  sums : List (Int × Int)
  pll : F32
  fll : F32
  dll : F32
  deriving DecidableEq, Repr

/-- A tracking channel (R155, R156), from when it lost lock and has been searched for, with its latest record (Table 05-6) and navigation unit (Table 05-5). -/
structure Chan where
  trk : Tracker
  state : Nat
  ant : Nat
  signal : Nat
  svid : Nat
  prio : Nat
  elev : Nat
  settled : Option Nat
  phaseGood : Option Nat
  weakSince : Option Nat
  phaseBad : Option Nat
  lostAt : Option Nat
  searchAt : Option Nat
  lockSince : Option Nat
  slipped : Bool
  cn0 : Nat
  flags : Nat
  pr : F64
  cp : F64
  doppler : F32
  lockMs : Nat
  navFormat : Nat
  navCheck : Nat
  navBits : Nat
  navStamp : WhenRec
  navData : List Byte
  deriving DecidableEq, Repr

/-- A position solution of an antenna (R168): kind of Table 05-7. -/
structure Sol where
  kind : Nat
  sats : Nat
  lat : F64
  lon : F64
  height : F32
  sigma : F32
  deriving DecidableEq, Repr

/-- A baseline (R170, R171): 0 NONE, 1 FLOAT, 2 FIXED; NED vector, azimuth, elevation, length. -/
structure Base where
  state : Nat
  vec : List F64
  az : F32
  el : F32
  len : F32
  deriving DecidableEq, Repr

/-- An observation slot of level A as latched at the epoch (R321). -/
structure LevelSlot where
  ch : Nat
  signal : Nat
  pr : F64
  cp : F64
  doppler : F32
  cn0 : Nat
  flags : Nat
  deriving DecidableEq, Repr

/-- What level A takes at an epoch (R321): the slots, roll, pitch and heading published by the latest completed stage 3, the specific
force of the ACC inputs where all three are usable, and whether corrections are valid. -/
structure LevelIn where
  slots : List LevelSlot
  att : Option (F64 × F64 × F64)
  acc : Option (F64 × F64 × F64)
  corr : Bool
  deriving DecidableEq, Repr

/-- Level A's solution of an epoch (R321): the reference point and velocity, clock offset and drift, and the biases, columns 0 to 10;
their covariance by rows; the ambiguity and its variance by channel. -/
structure LevelSol where
  epoch : Nat
  x : List F64
  cov : List (List F64)
  amb : List (Nat × F64 × F64)
  deriving DecidableEq, Repr

/-- An output of an earlier epoch whose job has not completed (R167): the epoch, which antenna or baseline, and what it will publish. -/
structure HeldOut where
  epoch : Nat
  what : Nat
  sol : Sol
  base : Base
  deriving DecidableEq, Repr

/-- The GNSS baseband (chapter 05). `heldSols` and `heldBases` are the solutions and baselines of the latest epoch; `timeOff` the offset of
its time solution, not yet taken by the servo (R173); `corrSats` the satellites of the newest corrections and `amb` the ambiguity estimates
(R169); `startCase` 0 cold, 1 warm, 2 hot (Table 05-4); `refClk` FE_REFCLK in Hz (R150). -/
structure GnssState where
  on : Bool
  bands : List Band
  chans : List Chan
  epoch : Option Nat
  epochWhen : WhenRec
  rawWhen : WhenRec
  pendRaw : Bool
  latched : List (Nat × List Byte)
  asks : List SearchTarget
  olds : List HeldOut
  raw : List (Nat × List Byte)
  rawEpoch : Option Nat
  heldSols : List Sol
  heldBases : List Base
  awaiting : List Nat
  levelA : Bool
  levelIn : Option LevelIn
  level : Option LevelSol
  raimFail : Bool
  closure : Bool
  dropped : Nat
  baseId : Option Nat
  arp : Option (Int × Int × Int)
  arps : List (Nat × (Int × Int × Int))
  corrAt : Option Nat
  baseChangedAt : Option Nat
  corrSats : List (Nat × Nat)
  amb : List (Nat × F64)
  timeOff : Option Int
  eph : List (Nat × List Byte)
  alm : List (Nat × List Byte)
  ephCopy : List (Nat × List Byte)
  almCopy : List (Nat × List Byte)
  ephAt : Nat
  startCase : Nat
  refClk : Nat
  replays : List (Nat × Nat)
  replayHeld : List Nat
  loopAt : Nat
  agcAt : List Nat
  notchAt : List Nat
  jamAt : List Nat
  clockAt : Nat
  startedAt : Nat
  deriving DecidableEq, Repr

/-- A band at baseband start (duty code 0, log 8). -/
def bandReset : Band :=
  { fill := 32, fault := false, faultSince := 0, cleanSince := none, replayed := false, duty := 0, dutySum := 0, dutyCount := 0,
    learned := none, learn := [], learnCount := 0, notches := List.replicate 4 none, fifth := false, disturbed := false,
    jam := 0, jammed := false, jamSince := none, calmSince := none }

/-- Loops of a channel that has not run. -/
def trackerReset : Tracker := { carrHz := 0, carrPh := 0, codeRate := 0, codePh := 0, mem := [], offsets := [], sums := [], pll := 0, fll := 0, dll := 0 }

/-- A channel in IDLE. -/
def chanReset : Chan :=
  { trk := trackerReset, state := 0, ant := 0, signal := 0, svid := 0, prio := 0, elev := 0, settled := none, phaseGood := none,
    weakSince := none, phaseBad := none, lostAt := none, searchAt := none, lockSince := none, slipped := false, cn0 := 0, flags := 0, pr := 0,
    cp := 0, doppler := 0, lockMs := 0, navFormat := 0, navCheck := 2, navBits := 0, navStamp := none, navData := [] }

/-- No solution. -/
def solReset : Sol := { kind := 0, sats := 0, lat := 0, lon := 0, height := 0, sigma := 0 }

/-- No baseline. -/
def baseReset : Base := { state := 0, vec := [0, 0, 0], az := 0, el := 0, len := 0 }

/-- The baseband just started: nothing tracked, no epoch yet. -/
def gnssReset : GnssState :=
  { on := true, bands := List.replicate 6 bandReset, chans := List.replicate 256 chanReset, epoch := none, epochWhen := none,
    rawWhen := none, pendRaw := false, latched := [], asks := [], olds := [], raw := [], rawEpoch := none, heldSols := List.replicate 3 solReset, heldBases := List.replicate 3 baseReset, awaiting := [], levelA := false, levelIn := none,
    level := none, raimFail := false, closure := false, dropped := 0, baseId := none, arp := none, arps := [], corrAt := none, baseChangedAt := none,
    corrSats := [], amb := [], timeOff := none, eph := [], alm := [], ephCopy := [], almCopy := [], ephAt := 0, startCase := 0, refClk := 10000000, replays := [], replayHeld := [], loopAt := 0, agcAt := List.replicate 6 0, notchAt := List.replicate 6 0,
    jamAt := List.replicate 6 0, clockAt := 0, startedAt := 0 }

/-- One acquisition channel (chapter 06). `state` 0 STOPPED, 1 SETTLING, 2 RUNNING; `edge` the device time of its last
modulator edge in 2^-40 ns; `y` the FIR outputs with their validity instants in quarter nanoseconds, newest first. -/
structure AcqChan where
  state : Nat
  fault : Bool
  lastRun : Nat
  runLen : Nat
  runBit : Bool
  high : Bool
  low : Bool
  sat : Bool
  hiCount : Nat
  loCount : Nat
  hiFirst : Int
  loFirst : Int
  settle : Nat
  edge : Nat
  sincPhase : Nat
  firPhase : Nat
  integ : List Int
  comb : List Int
  x : List Int
  y : List (Int × Int)
  nextT : Option Int
  deriving DecidableEq, Repr

/-- The acquisition chain. Pending synchronisations: instant and origin (0 pin, 1 command, 2 cascade, log 19); the common phase as the device time
of a modulator edge, in 2^-40 ns, and the clocks from the synchronisation's first edge to it; the frequencies of ACQ_MCLK0 and ACQ_MCLK1 in
Hz, 0 while held low (R178, R179); the starts of the latest vessel periods with their thruster periods, newest first (R183). -/
structure AcqState where
  chans : List AcqChan
  syncs : List (Nat × Nat)
  syncPeriod : Option Nat
  lastSync : Nat
  lastPin : Option Nat
  needSync : Bool
  phase : Nat
  phaseClocks : Nat
  mclk : List Nat
  grids : List (Int × Nat)
  deriving DecidableEq, Repr

/-- A stopped channel with every history cleared. -/
def acqChanReset : AcqChan :=
  { state := 0, fault := false, lastRun := 0, runLen := 0, runBit := false, high := false, low := false, sat := false,
    hiCount := 0, loCount := 0, hiFirst := 0, loFirst := 0, settle := 0, edge := 0, sincPhase := 0, firPhase := 0, integ := [],
    comb := [], x := [], y := [], nextT := none }

/-- Every channel stopped (R197). -/
def acqReset : AcqState :=
  { chans := List.replicate 16 acqChanReset, syncs := [], syncPeriod := none, lastSync := 0, lastPin := none, needSync := true,
    phase := 0, phaseClocks := 0, mclk := [0, 0], grids := [] }

/-- A CAN controller (R198 to R207): STATE of R207, the error counters, the buses still to be recovered at the next
boundary, and the fields not published (R223). -/
structure CanBus where
  state : Nat
  tec : Nat
  rec_ : Nat
  recoverAsked : Bool
  short : Nat
  joinAt : Nat
  deriving DecidableEq, Repr

/-- A drive node of this device (R212 to R218): FEEDBACKs with their arrival in counter nanoseconds, newest first; the
boundaries since the last one; the conditions of Table 07-5; the SEQ last sent. -/
structure Drive where
  fbs : List (Nat × List Byte)
  missed : Nat
  gotFb : Bool
  status : List Byte
  statusAt : Nat
  stale : Bool
  lost : Bool
  hbLost : Bool
  seq : Nat
  nonEnforcing : Bool
  deriving DecidableEq, Repr

/-- A module slot (R228 to R232): STATE of R115, the descriptor read, the identity recorded at the last CONFIG_LOCK,
whether a read is under way and how often it was refused. -/
structure Slot where
  state : Nat
  desc : List Byte
  ident : Option (List Byte)
  present : Bool
  reading : Bool
  nacks : Nat
  due : Bool
  gone : Bool
  deriving DecidableEq, Repr

/-- Field buses and modules (chapter 07). `slotMarks` holds the slots as of the snapshot instants of periods not yet run, by period (R232). -/
structure BusState where
  can : List CanBus
  drives : List Drive
  serialDiscards : List Nat
  slots : List Slot
  slotMarks : List (Nat × List Slot)
  deriving DecidableEq, Repr

/-- A CAN controller off. -/
def canReset : CanBus := { state := 0, tec := 0, rec_ := 0, recoverAsked := false, short := 0, joinAt := 0 }

/-- A drive not yet heard. -/
def driveReset : Drive :=
  { fbs := [], missed := 0, gotFb := false, status := [], statusAt := 0, stale := false, lost := false, hbLost := false, seq := 0, nonEnforcing := false }

/-- An absent module. -/
def slotReset : Slot := { state := 0, desc := [], ident := none, present := false, reading := false, nacks := 0, due := false, gone := false }

/-- Every bus off, every slot absent. -/
def busReset : BusState :=
  { can := List.replicate 8 canReset, drives := List.replicate 16 driveReset, serialDiscards := List.replicate 8 0,
    slots := List.replicate 8 slotReset, slotMarks := [] }

/-- A fusion input's entry of the snapshot (R242): value with its TYPE, QUALITY, arrival stamp, validity instant and age
in nanoseconds. -/
structure InSnap where
  value : Value
  ty : Nat
  q : Nat
  arr : Nat
  valid : Int
  age : Nat
  deriving DecidableEq, Repr

/-- What is kept of an input's own stamps (R245, R246): CLOCK_SLIP, the consecutive good samples, the kind 3 offset and
the samples it is being learned from, and the arrival stamp of the last sample judged. -/
structure InTrack where
  slip : Bool
  good : Nat
  offset : Option Nat
  samples : List Nat
  upto : Option Nat
  deriving DecidableEq, Repr

/-- A reference's projected point of the period (R252 to R260). -/
structure RefOut where
  usable : Bool
  n : F64
  e : F64
  sigma : F64
  age : Nat
  deriving DecidableEq, Repr

/-- A representative (R265). Members are references 1 to 12 or 0x40 + input. -/
structure Rep where
  low : Nat
  members : List Nat
  value : List F64
  sigma : F64
  age : Nat
  deriving DecidableEq, Repr

/-- A vote group (R264 to R271): the source preferred by the host with its members and those it rejected, the
disputants, the hold timer (periods counted and whether it has expired), the last fused value, and the period's outcome. -/
structure VGroup where
  named : Option Nat
  preferred : List Nat
  dispute : List Nat
  lost : Bool
  hold : Option Nat
  fired : Bool
  fused : Option (List F64)
  sigma : F64
  quality : Nat
  used : List Rep
  deriving DecidableEq, Repr

/-- A landmark track (R261): the node, the frame it was last associated in, whether the count is of frames associated,
the count, and the last d². -/
structure Track where
  node : Nat
  lastHit : Nat
  hit : Bool
  count : Nat
  d2 : F64
  deriving DecidableEq, Repr

/-- An observation passed to map maintenance (R261, R327): the arrival stamp of its frame, its head and place in the frame, its local position
where it carries a range, FEATURE and standard deviation. -/
structure Loose where
  frame : Nat
  head : Nat
  idx : Nat
  pos : Option (List F64)
  feature : Nat
  sigma : F64
  deriving DecidableEq, Repr

/-- The fusion engine (chapter 08). Heads hold their frames with arrival stamps, newest first; `deselected` and
`anchors` are those of R271; `states` the states of Table 08-9 by source number, `doneStates` those of the period before the
one in progress. -/
structure FusState where
  snap : List (Option InSnap)
  tracks : List InTrack
  heads : List (List (Nat × List Byte))
  headDone : List Nat
  dropped : Nat
  refs : List RefOut
  groups : List VGroup
  states : List (Nat × Nat)
  doneStates : List (Nat × Nat)
  deselected : List Nat
  anchors : List (Nat × List F64)
  landmarks : List Track
  loose : List Loose
  degrade : List Nat
  deriving DecidableEq, Repr

/-- An input with no sample judged. -/
def inTrackReset : InTrack := { slip := false, good := 0, offset := none, samples := [], upto := none }

/-- A reference without a value. -/
def refReset : RefOut := { usable := false, n := 0, e := 0, sigma := 0, age := 0 }

/-- A group that has not voted. -/
def vgroupReset : VGroup :=
  { named := none, preferred := [], dispute := [], lost := false, hold := none, fired := false, fused := none, sigma := 0,
    quality := 0, used := [] }

/-- Fusion as it starts (R274). -/
def fusReset : FusState :=
  { snap := List.replicate 64 none, tracks := List.replicate 64 inTrackReset, heads := List.replicate 8 [],
    headDone := List.replicate 8 0, dropped := 0, refs := List.replicate 12 refReset, groups := List.replicate 8 vgroupReset,
    states := [], doneStates := [], deselected := [], anchors := [], landmarks := [], loose := [], degrade := [] }

/-- The physics observer (R277 to R284): x and P in binary32, row-major; the consecutive periods in which every position,
every heading measurement was rejected; measurements rejected or skipped; and the predicted roll and pitch. -/
structure PhysState where
  running : Bool
  x : List F32
  p : List F32
  rejPos : Nat
  rejHdg : Nat
  rejected : Nat
  roll : Option F32
  pitch : Option F32
  pred : Option (List F32)
  posDone : Bool
  hdgDone : Bool
  posAged : Bool
  hdgAged : Bool
  deriving DecidableEq, Repr

/-- The recurrent observer (R285 to R295): state of Table 09-5, periods since the reset, hidden states by member and
layer, the ensemble means of the previous period and their spreads by output, and whether it is late this period. -/
structure RnnState where
  state : Nat
  since : Nat
  hidden : List (List (List Int))
  mean : List (Option F32)
  spread : List F32
  late : Bool
  deriving DecidableEq, Repr

/-- Cross-check of a quantity (R296, R297): DISAGREE, the agreeing periods counted, uncertain in the period. -/
structure Xchk where
  disagree : Bool
  count : Nat
  uncertain : Bool
  deriving DecidableEq, Repr

/-- The observers (chapter 09): authoritative estimates with their standard deviations and QUALITY in order q. -/
structure ObsState where
  phys : PhysState
  rnn : RnnState
  xchk : List Xchk
  auth : List F32
  authSd : List F32
  authQ : List Nat
  deriving DecidableEq, Repr

/-- The physics observer WAITING. -/
def physReset : PhysState :=
  { running := false, x := List.replicate 15 0, p := List.replicate 225 0, rejPos := 0, rejHdg := 0, rejected := 0, roll := none,
    pitch := none, pred := none, posDone := false, hdgDone := false, posAged := false, hdgAged := false }

/-- The recurrent observer without an image. -/
def rnnReset : RnnState := { state := 0, since := 0, hidden := [], mean := [], spread := [], late := false }

/-- No cross-check made. -/
def xchkReset : Xchk := { disagree := false, count := 0, uncertain := false }

/-- Both observers stopped (R303). -/
def obsReset : ObsState :=
  { phys := physReset, rnn := rnnReset, xchk := List.replicate 9 xchkReset, auth := List.replicate 9 0,
    authSd := List.replicate 9 0, authQ := List.replicate 9 0 }

/-- A resident structure (R306, R307): KIND, size, entries in body order, hash and tile. -/
structure Struct where
  kind : Nat
  rows : Nat
  cols : Nat
  entries : List (Nat × Nat × F64)
  hash : Nat
  tile : Nat
  bytes : Nat
  deriving DecidableEq, Repr

/-- What a solve retains (R316): hash, iterate and working set. -/
structure Retained where
  hash : Nat
  x : List F64
  work : List Nat
  mirrored : Bool
  deriving DecidableEq, Repr

/-- What maintenance keeps of a provisional node (R327): frames it was observed in, the latest of them, and whether bundle
adjustment has set its standard deviation. -/
structure ProvNode where
  frames : Nat
  last : Nat
  adjusted : Bool
  deriving DecidableEq, Repr

/-- An optical frame kept for bundle adjustment (R328): its head, arrival stamp and period, what its associations were made from (predicted
reference point, attitude, the head's rotation and lever arm), the authoritative north, east and heading of its period with their standard
deviations once stage 4 has given them, and its observations with the node that each is associated with. -/
structure BaFrame where
  head : Nat
  frame : Nat
  period : Nat
  pos : List F64
  att : List F64
  mount : List F64
  arm : List F64
  est : Option (List F64 × List F32)
  obs : List (Option Nat × List Byte)
  deriving DecidableEq, Repr

/-- What a bundle adjustment pass finds for a node (R328): ECEF position in units of 4 mm and SIGMA code. -/
structure NodeMove where
  node : Nat
  x : Int
  y : Int
  z : Int
  sigma : Byte
  deriving DecidableEq, Repr

/-- A bundle adjustment pass in progress (R328, R329): the generation it started from and what it comes to: iterations, root-mean-square, nodes and
the iterate that structure 58 retains. -/
structure BaRun where
  gen : Nat
  iters : Nat
  rms : F32
  nodes : List NodeMove
  x : List F64
  deriving DecidableEq, Repr

/-- The solver array and the map (chapter 10). `map` holds the slots with VALID set, `changed` the generation in which a
MAP_WRITE or maintenance last changed a node, `prov` what is kept of provisional nodes, `frames` the
optical frames kept for bundle adjustment, newest first, `baRun` the pass in progress. -/
structure SlvState where
  structs : List (Nat × Struct)
  retained : List (Nat × Retained)
  map : List (Nat × List Byte)
  gen : Nat
  changed : List (Nat × Nat)
  mapLost : Bool
  mapFull : Bool
  prov : List (Nat × ProvNode)
  frames : List BaFrame
  baRun : Option BaRun
  baIter : Nat
  baRms : Option F32
  baMoved : Nat
  baAt : WhenRec
  deriving DecidableEq, Repr

/-- No structure, no node (R324, R331). -/
def slvReset : SlvState :=
  { structs := [], retained := [], map := [], gen := 0, changed := [], mapLost := true, mapFull := false, prov := [],
    frames := [], baRun := none, baIter := 0, baRms := none, baMoved := 0, baAt := none }

/-- Following-error supervision of an axis (R356): WARN and LIMIT with the consecutive periods counted toward a change. -/
structure FeAxis where
  warn : Bool
  warnCount : Nat
  limit : Bool
  limitCount : Nat
  deriving DecidableEq, Repr

/-- Blending of an axis (R355): the demand held, the period counted, and the source (0 none, 1 joystick, 2 + gain set
automatic) with the last demand. -/
structure Blend where
  from_ : F32
  m : Nat
  on : Bool
  src : Nat
  last : F32
  clipped : Bool
  deriving DecidableEq, Repr

/-- The control state of R368. Targets are binary64 local metres; profiles are binary32. `posSet` and `hdgSet` say that
the axis group is automatic with a target in use. -/
structure CtlState where
  mode : Nat
  degraded : Bool
  pos : List F32
  vel : List F32
  acc : List F32
  psi : F32
  yawRate : F32
  yawAcc : F32
  target : F64 × F64
  hdgTarget : F32
  arrivedPos : Bool
  arrivedHdg : Bool
  pendPos : Option (F64 × F64)
  pendHdg : Option F32
  posSet : Bool
  hdgSet : Bool
  integ : List F32
  joy : List F32
  joyAge : Nat
  joyTimeout : Bool
  wind : List F32
  windForce : List F32
  windFrom : List F32
  windLost : Nat
  windSeen : Bool
  blend : List Blend
  fe : List FeAxis
  waypoint : Nat
  legFrom : F64 × F64
  holdAge : Nat
  trackEnd : Bool
  lostCount : Nat
  targetLost : Bool
  heldTarget : F64 × F64 × F32
  phase : Nat
  berthA : F64 × F64
  berthB : F64 × F64
  optCount : Nat
  optLost : Bool
  halted : Bool
  feRequest : Bool
  targetRequest : Bool
  demand : List F32
  demandPeriod : Nat
  alarms : Nat
  deriving DecidableEq, Repr

/-- An axis not supervised. -/
def feReset : FeAxis := { warn := false, warnCount := 0, limit := false, limitCount := 0 }

/-- An axis without demand. -/
def blendReset : Blend := { from_ := 0, m := 0, on := false, src := 0, last := 0, clipped := false }

/-- The control engine in STANDBY with its state cleared (R368). -/
def ctlReset : CtlState :=
  { mode := 0, degraded := false, pos := [0, 0], vel := [0, 0], acc := [0, 0], psi := 0, yawRate := 0, yawAcc := 0,
    target := (0, 0), hdgTarget := 0, arrivedPos := false, arrivedHdg := false, pendPos := none, pendHdg := none, posSet := false,
    hdgSet := false, integ := [0, 0, 0], joy := [0, 0, 0], joyAge := 0, joyTimeout := false, wind := [0, 0], windForce := [0, 0, 0],
    windFrom := [0, 0, 0], windLost := 0, windSeen := false, blend := List.replicate 3 blendReset, fe := List.replicate 3 feReset,
    waypoint := 0, legFrom := (0, 0), holdAge := 0, trackEnd := false, lostCount := 0, targetLost := false, heldTarget := (0, 0, 0),
    phase := 0, berthA := (0, 0), berthB := (0, 0), optCount := 0, optLost := false, halted := false, feRequest := false,
    targetRequest := false, demand := [0, 0, 0], demandPeriod := 0, alarms := 0 }

/-- A thruster's command (R382): ENABLE, the setpoint of R380 and the commanded azimuth α_c. -/
structure ThrCmd where
  enable : Bool
  setpoint : F32
  ac : F32
  deriving DecidableEq, Repr

/-- An actuator channel (R387): consecutive saturated and unsaturated TP boundaries, WARN and FAULT. -/
structure SatChan where
  count : Nat
  clear : Nat
  warn : Bool
  fault : Bool
  deriving DecidableEq, Repr

/-- A steering loop (R386). -/
structure Loop where
  aref : F32
  ie : F32
  eprev : F32
  satp : Bool
  steer : F32
  deriving DecidableEq, Repr

/-- A thruster of the allocation (R371 to R387): ready (every condition of Table 12-2 but the mode's holds), parked in a sector (R375), available
in the period, lost and the periods every condition has held since, allocated force (fx, fy or f⁺, f⁻) and azimuth handed over, at a sector edge, its two channels and its loop. -/
structure Thr where
  ready : Bool
  parked : Bool
  avail : Bool
  lost : Bool
  held : Nat
  force : F64 × F64
  ac : F32
  thrust : F32
  edge : Bool
  prop : SatChan
  steer : SatChan
  loop : Loop
  deriving DecidableEq, Repr

/-- A thruster as TP boundary 0 of a period leaves it (R31): its channels, its loop, its drive supervision, and the two
saturation codes of Table 12-7. -/
structure ThrMark where
  prop : SatChan
  steer : SatChan
  loop : Loop
  sup : Nat
  propSat : Nat
  steerSat : Nat
  deriving DecidableEq, Repr

/-- A hand-off of stage 7 waiting for its release boundary (R23, R404). -/
structure Handoff where
  period : Nat
  cmds : List ThrCmd
  deriving DecidableEq, Repr

/-- Thrusters and allocation (chapter 12). `mask` is the THRUSTER_AVAIL mask in force, `current` the commands of the
output unit, `result` the stage 6 result with its status and FEASIBLE, `flags` the allocation flags, `frames` the
COMMAND frames formed with SEQ zero, by period, `used` the FEEDBACKs used (period, thruster, TP index, arrival, frame), `stopPending` the
opcodes of stops received over the cascade that wait for a TP boundary (R383), `stopAt` the period whose hand-off a stop discards,
`marks` the thrusters as boundary 0 left them, by period (R31); `extClear` the thrusters 16 to 31 whose FAULT a THRUSTER_AVAIL has cleared and
EXT_FB still shows (R387, log 222); `s6Due` the deadline instant of stage 6 in progress (R378). -/
structure ThrState where
  mask : Nat
  thr : List Thr
  current : List ThrCmd
  handoffs : List Handoff
  result : List F64
  status : Nat
  feasible : Bool
  deadlineMiss : Bool
  flags : Nat
  allocated : List F32
  achieved : List F32
  s7Period : Nat
  frames : List (Nat × List Byte)
  used : List (Nat × Nat × Nat × Nat × List Byte)
  stopPending : List Nat
  stopAt : Option Nat
  marks : List (Nat × List ThrMark)
  extClear : Nat
  s6Due : Int
  deriving DecidableEq, Repr

/-- A channel not saturated. -/
def satReset : SatChan := { count := 0, clear := 0, warn := false, fault := false }

/-- A loop at rest. -/
def loopReset : Loop := { aref := 0, ie := 0, eprev := 0, satp := false, steer := 0 }

/-- A thruster not available. -/
def thrReset1 : Thr :=
  { ready := false, parked := false, avail := false, lost := false, held := 0, force := (0, 0), ac := 0, thrust := 0, edge := false, prop := satReset,
    steer := satReset, loop := loopReset }

/-- The STANDBY command of R382. -/
def standbyCmd : ThrCmd := { enable := false, setpoint := 0, ac := 0 }

/-- No thruster available, every command STANDBY (R373, R384). -/
def thrReset : ThrState :=
  { mask := 0, thr := List.replicate 32 thrReset1, current := List.replicate 32 standbyCmd, handoffs := [], result := [], status := 0,
    feasible := false, deadlineMiss := false, flags := 0, allocated := [0, 0, 0], achieved := [0, 0, 0],
    s7Period := 0, frames := [], used := [], stopPending := [], stopAt := none, marks := [], extClear := 0, s6Due := 0 }

/-- What a completed command changes from the first snapshot after its end (R22). `clear` of a THRUSTER_AVAIL is what its MASK still has of
thrusters with no FAULT entered since it completed (R387). -/
inductive Effect where
  | lock (params : List (Nat × Value)) (tabs : List (Nat × List Byte))
  | param (id : Nat) (v : Value)
  | table (id : Nat) (body : List Byte)
  | mode (m : Nat)
  | setpoint (ps : List Byte)
  | joystick (ps : List Byte)
  | avail (mask clear : Nat)
  | source (ref sel : Nat)
  | nodes (recs : List (Nat × List Byte)) (ba : Option Nat)
  deriving DecidableEq, Repr

/-- An effect waiting for its first snapshot: the instant its command ended, its opcode and parameters, and the effect. -/
structure Pend where
  at_ : Int
  opcode : Nat
  params : List Byte
  eff : Effect
  deriving DecidableEq, Repr

/-- A parison chain (R395 to R401): its period, the predicted record, whether it is complete, and what it holds aside:
control state, signals and events; `base` is the control state it began from. -/
structure Chain where
  period : Nat
  pred : List Byte
  done : Bool
  base : CtlState
  ctl : CtlState
  sigs : List (Nat × OutVal)
  evs : List (Ev × List Byte)
  deriving DecidableEq, Repr

/-- A log block whose period has completed stage 9 but not yet its TP boundaries (R408): entries but for the FEEDBACKs, and what the
digest takes before and after the COMMAND frames; CONFIG_CRC and the destination (port A or B, address, port) of the configuration of its period. -/
structure LogOpen where
  period : Nat
  block : Nat
  full : Bool
  crc : Nat
  portB : Bool
  ip : Nat
  port : Nat
  entries : List (List Byte)
  head : List Byte
  tail : List Byte
  deriving DecidableEq, Repr

/-- The scheduler (chapters 01 and 13). `begun` holds the periods begun and not yet started with their boundaries,
oldest first; `stage` the last stage completed of the period `cur` (0 when none runs); `b`, `start` and `snap` its
boundary, start and snapshot instants; `nextA` the start instant fixed for the next; `skip` the periods skipped before this one and `skipNext` before the next; `cmds` the commands first in force in
it; `rec5` the input record of the latest completed stage 5, `enter5` the modes that its data let enter (R333); `counts` the reports of Table 13-11 in order; `retired` the tiles
retired and `tilesShown` what TILES_RETIRED reports of them, `homes` the work tile whose memory holds the data of a kind of job (R392); `relAt` the release boundaries already met, by period (R404); `late`, `lost` and `placeFail` what HEALTH reports of it (R435);
`mirrorOut` the period's mirror stream as stage 6 left it (log 171); `logOpen` the blocks still to be sent (R408); `rxBlock` the block being received under REPLAY with its next part, `rxLast` the last block run (R409). -/
structure SchState where
  pend : List Pend
  begun : List (Nat × Int)
  cur : Nat
  stage : Nat
  s8 : Bool
  s9 : Bool
  b : Int
  start : Int
  snap : Int
  dt : Nat
  nextA : Option Int
  relAt : List (Nat × Int)
  prevSnap : Int
  durs : List Nat
  nominal : Bool
  skip : Nat
  skipNext : Nat
  cmds : List Pend
  cmdGen : Nat
  counts : List Nat
  chain : Option Chain
  rec5 : List Byte
  enter5 : List Nat
  chainDue : Bool
  waiting : List (Nat × Nat)
  late : Bool
  lost : Bool
  placeFail : Bool
  mirrorOut : List Byte
  logBlock : Nat
  logFull : Bool
  logOpen : List LogOpen
  gnssLogged : Option Nat
  logPrev : List (Option InSnap)
  rtcm : List (List Byte)
  retired : Nat
  tilesShown : Nat
  homes : List (Nat × Nat)
  rxBlock : Option (Nat × Nat × List Byte)
  rxLast : Option Nat
  rxWait : Bool
  deriving DecidableEq, Repr

/-- No period started; every report zero (R411). -/
def schReset : SchState :=
  { pend := [], begun := [], cur := 0, stage := 0, s8 := false, s9 := false, b := 0, start := 0, snap := 0, dt := 0, nextA := none,
    relAt := [], prevSnap := 0, durs := [], nominal := true, skip := 0, skipNext := 0, cmds := [], cmdGen := 0,
    counts := List.replicate 15 0, chain := none, rec5 := [], enter5 := [], chainDue := false, waiting := [], late := false, lost := false, placeFail := false, mirrorOut := [], logBlock := 0, logFull := true,
    logOpen := [], gnssLogged := none, logPrev := List.replicate 64 none, rtcm := [], retired := 0, tilesShown := 0, homes := [], rxBlock := none, rxLast := none, rxWait := true }

/-- What a device knows of a device number of its group: its latest ANNOUNCE and the distance to it on each port
(R415), its latest HEALTH (R435) and its heartbeat (R437). -/
structure Peer where
  announced : Bool
  role : Nat
  owning : Bool
  crc : Nat
  epoch : Nat
  upDist : Option Nat
  downDist : Option Nat
  upSeq : Nat
  downSeq : Nat
  health : List Byte
  healthPeriod : Option Nat
  fresh : Bool
  freshMax : Option Nat
  misses : Nat
  deriving DecidableEq, Repr

/-- A handover conversation in progress (R440, R444). `cmd` is the journal entry of a planned one. -/
structure Handover where
  id : Nat
  epoch : Nat
  target : Nat
  old : Nat
  cause : Nat
  tried : List Nat
  startedAt : Nat
  lastSent : Nat
  oldAcked : Bool
  targetAcked : Bool
  cmd : Option Nat
  deriving DecidableEq, Repr

/-- A pair's disagreement (R438): the two devices, state and consecutive compared periods counting toward a change. -/
structure PairState where
  who : Option (Nat × Nat)
  disagrees : Bool
  count : Nat
  lastPeriod : Option Nat
  deriving DecidableEq, Repr

/-- One EXT_CMD held for its release boundary (R426). -/
structure ExtCmd where
  period : Nat
  k : Nat
  epoch : Nat
  body : List Byte
  deriving DecidableEq, Repr

/-- A frame that waits in a port's transmit queue (R416): its port, destination, TYPE and bytes. -/
structure TxFrame where
  port : Nat
  dst : Nat
  typ : Nat
  bytes : List Byte
  deriving DecidableEq, Repr

/-- The redundant group and the cascade link (chapter 14). `txq` holds the frames that no port has begun to send, oldest first, `txFree` the elapsed
time at which each port ends the frame in transmission; `startEpoch` is the epoch held when firmware stopped and `rival` the highest owner's epoch
learned since (R568). Links and pins by index: 0 UP, 1 DOWN; channels 0, 1. -/
structure GrpState where
  role : Nat
  excluded : Bool
  links : List Bool
  txSeq : List (Nat × Nat)
  txq : List TxFrame
  txFree : List Nat
  seen : List (Nat × List Nat)
  peers : List Peer
  lastAnnounce : Nat
  epoch : Nat
  ownEpoch : Nat
  owns : Bool
  owner : Option Nat
  ownerEpoch : Nat
  ownedAtReset : Bool
  startEpoch : Nat
  rival : Option Nat
  stopped : Bool
  ho : Option Handover
  hoCount : Nat
  handovers : Nat
  lastHandover : Option Nat
  lastTake : Option (Nat × Nat × Nat)
  ackTo : Option (Nat × Nat × Nat × Nat × Nat)
  rxPeriod : Option Nat
  rxParts : List (Nat × List Byte)
  mirrorTaken : Option Nat
  takenHistory : List Bool
  mirrorMissed : Nat
  stream : List Byte
  shadowHandoff : Option Handoff
  pairs : List PairState
  disagree : Bool
  selftestCycles : Nat
  cyclesAsStandby : Nat
  memoryFail : Bool
  extPending : List ExtCmd
  extMissed : Nat
  extSeen : Bool
  extLost : Bool
  extLate : Nat
  extFb : List (Nat × List Byte)
  extFbMissed : Nat
  extFbSeen : Bool
  framesDropped : Nat
  badCrcAt : List (List Nat)
  activeOut : Bool
  hbOut : Bool
  permitIn : Bool
  permitOutLow : List Bool
  activeIn : List Bool
  hbIn : List Bool
  datagramSeen : Nat
  datagramSent : Nat
  bootAskedAt : Nat
  bootParts : List (Nat × Nat × List Byte)
  bootOk : Bool
  deriving DecidableEq, Repr

/-- A device number nothing is known of. -/
def peerReset : Peer :=
  { announced := false, role := 0, owning := false, crc := 0, epoch := 0, upDist := none, downDist := none, upSeq := 0, downSeq := 0,
    health := [], healthPeriod := none, fresh := false, freshMax := none, misses := 0 }

/-- A pair not yet compared. -/
def pairReset : PairState := { who := none, disagrees := false, count := 0, lastPeriod := none }

/-- The group after a power-on reset: role of the strap 0 (R420, log 8), links DOWN, PERMIT_IN pulled high (R445). -/
def grpReset : GrpState :=
  { role := 0, excluded := false, links := [false, false], txSeq := [], txq := [], txFree := [0, 0], seen := [],
    peers := List.replicate 4 peerReset, lastAnnounce := 0, epoch := 0, ownEpoch := 0, owns := false, owner := none, ownerEpoch := 0,
    ownedAtReset := false, startEpoch := 0, rival := none, stopped := false, ho := none, hoCount := 0, handovers := 0, lastHandover := none,
    lastTake := none, ackTo := none, rxPeriod := none, rxParts := [], mirrorTaken := none, takenHistory := [],
    mirrorMissed := 0, stream := [], shadowHandoff := none, pairs := List.replicate 3 pairReset, disagree := false,
    selftestCycles := 0, cyclesAsStandby := 0, memoryFail := false, extPending := [], extMissed := 0, extSeen := false,
    extLost := false, extLate := 0, extFb := [], extFbMissed := 0, extFbSeen := false, framesDropped := 0, badCrcAt := [[], []], activeOut := false, hbOut := false,
    permitIn := true, permitOutLow := [false, false], activeIn := [false, false],
    hbIn := [false, false], datagramSeen := 0, datagramSent := 0, bootAskedAt := 0, bootParts := [], bootOk := false }

/-- A filtered safe input (R457 to R459): its level, a test pulse failure and the pulses passed since. -/
structure SafIn where
  high : Bool
  fail : Bool
  passes : Nat
  deriving DecidableEq, Repr

/-- A brake channel (R453 to R455): its release request and, while it has fallen, since when (elapsed); released; the start of
a running ramp (elapsed); CH_FAULT; the operating time of its last passing test; recorded as due. -/
structure Brake where
  request : Bool
  fallAt : Option Nat
  released : Bool
  ramp : Option Nat
  fault : Bool
  testAt : Option Nat
  due : Bool
  deriving DecidableEq, Repr

/-- The parameter set as stored, with its confirmation record: CHECK, session and time (R472). -/
structure SafSet where
  body : List Byte
  confirm : Option (Nat × Nat × WhenRec)
  deriving DecidableEq, Repr

/-- A BRAKE_TEST under way (R473): its journal entry, mask, what the circuits answer, the channel under test, its holding test
(whether all is well so far, when it began, and the azimuths at its start), and the verdicts given. -/
structure BTest where
  entry : Nat
  mask : Nat
  obs : List TestObs
  chan : Nat
  hold : Option (Bool × Nat × List (Nat × F32))
  verdicts : List Nat
  deriving DecidableEq, Repr

/-- The safety monitor (chapter 15). `phase` 0 held in reset, 1 start-up tests, 2 running; `stored` what MRAM holds, `set`
the set loaded; `inputs` SIN0 to SIN7, ESTOP_A, ESTOP_B; `disc` the pairs' discrepancy with whether both inputs have since
shown demand; `hb` the last accepted heartbeat with its instant; `queue` the events firmware has not taken, with the operating and device
time of each. -/
structure SafState where
  phase : Nat
  stored : Option SafSet
  set : Option SafSet
  inputs : List SafIn
  disc : List (Bool × Bool)
  latched : Nat
  detail : Nat
  brakes : List Brake
  hb : Option (Nat × Nat)
  hbAbsent : Option Nat
  resetReq : Bool
  clockCount : Nat
  clockAt : Nat
  trips : Nat
  lastTrip : WhenRec
  test : Option BTest
  queue : List (Ev × List Byte × Nat × WhenRec)
  lost : Nat
  deriving DecidableEq, Repr

/-- An input seen healthy. -/
def safInReset : SafIn := { high := true, fail := false, passes := 0 }

/-- A channel applied. -/
def brakeReset : Brake :=
  { request := false, fallAt := none, released := false, ramp := none, fault := false, testAt := none, due := false }

/-- The monitor in its start-up tests with no set stored. -/
def safReset : SafState :=
  { phase := 1, stored := none, set := none, inputs := List.replicate 10 safInReset, disc := List.replicate 5 (false, false),
    latched := 0, detail := 0, brakes := List.replicate 8 brakeReset, hb := none, hbAbsent := none, resetReq := false, clockCount := 0,
    clockAt := 0, trips := 0, lastTrip := none, test := none, queue := [], lost := 0 }

/-- A feeder's registers (Table 16-5) in mWh and mvarh with the joules carried, the sums of the second in progress, what the last
second measured, its phases in PHASE_LOSS, OVERRANGE of the second, pulses owed and the energy not yet pulsed in mWh (R490). -/
structure Feeder where
  eImp : Nat
  eExp : Nat
  qInd : Nat
  qCap : Nat
  eDp : Nat
  carry : List F64
  pacc : F64
  qacc : F64
  squares : List F64
  p : F32
  q : F32
  freq : F32
  urms : List F32
  irms : List F32
  loss : List Bool
  ovr : Bool
  owed : Nat
  unpulsed : Nat
  deriving DecidableEq, Repr

/-- A channel of the island: decimator state (R482), the latest samples, newest first. -/
structure MtrChan where
  integ : List Int
  comb : List Int
  xs : List Int
  deriving DecidableEq, Repr

/-- An island log record (Table 16-2) but for its CRC, with the number that READ_LOG counts by. -/
structure MtrRec where
  num : Nat
  oper : Nat
  code : Nat
  feeder : Nat
  param : Nat
  sealCount : Nat
  old : Nat
  new : Nat
  cycles : Nat
  deriving DecidableEq, Repr

/-- What a register commit holds (R495): the energy registers, DP_TIME_MS, SEAL and the parameters. -/
structure MtrStore where
  energy : List (List Nat)
  dpMs : Nat
  sealCount : Nat
  params : List (Nat × BitVec 32)
  deriving DecidableEq, Repr

/-- The metrology island (chapter 16). `on` it runs; `gap` when a stop of measurement began, in elapsed time; `dp` the latest
indication (mode, low period index, its instant), `dpAll` DP throughout the second so far; `image` the current mailbox
image; `seen` SEAL and IDENT of the image the controller read last; `blocks` the blocks of a firmware image being loaded, in order of
receipt; `firmware` the image last activated, empty for the one the island was made with; `steady` the windows within 2 % in a row;
`store` and `older` the two copies of the register store. -/
structure MtrState where
  on : Bool
  measuring : Bool
  gap : Option Nat
  unsealed : Bool
  sealCount : Nat
  params : List (Nat × BitVec 32)
  staged : List (Nat × BitVec 32)
  feeders : List Feeder
  chans : List MtrChan
  dp : Option (Nat × Nat × Nat)
  dpAll : Bool
  dpMs : Nat
  dpFrac : Nat
  samples : Nat
  sampleAt : Nat
  operS : Nat
  cycles : Nat
  seq : Nat
  image : Option (List Byte)
  seen : Option (Nat × List Byte)
  clockFault : Bool
  steady : Nat
  checkAt : Nat
  storeLost : Bool
  log : List MtrRec
  logNext : Nat
  store : Option MtrStore
  older : Option MtrStore
  firmware : List Byte
  blocks : List (Nat × List Byte)
  since60 : Nat
  pulseAt : List Nat
  deriving DecidableEq, Repr

/-- A feeder with nothing measured. -/
def feederReset : Feeder :=
  { eImp := 0, eExp := 0, qInd := 0, qCap := 0, eDp := 0, carry := [0, 0, 0, 0, 0], pacc := 0, qacc := 0, squares := [0, 0, 0, 0, 0, 0], p := 0, q := 0,
    freq := 0, urms := [0, 0, 0], irms := [0, 0, 0], loss := [false, false, false], ovr := false, owed := 0, unpulsed := 0 }

/-- A channel with no sample. -/
def mtrChanReset : MtrChan := { integ := [0, 0, 0], comb := [0, 0, 0], xs := [] }

/-- The island before VDD_MTR has first risen (MTR_POWER_UP starts it). -/
def mtrReset : MtrState :=
  { on := false, measuring := false, gap := none, unsealed := false, sealCount := 0, params := [], staged := [],
    feeders := List.replicate 4 feederReset, chans := List.replicate 24 mtrChanReset, dp := none, dpAll := false, dpMs := 0, dpFrac := 0,
    samples := 0, sampleAt := 0, operS := 0, cycles := 0, seq := 0, image := none, seen := none, clockFault := false, steady := 0, checkAt := 0, storeLost := false,
    log := [], logNext := 0, store := none, older := none, firmware := [], blocks := [], since60 := 0, pulseAt := [0, 0, 0, 0] }

/-- The whole state of the block. `pending` is the queue of waiting commands, `out` what has been sent (newest
first, log 3), `fresh` the counter free values are drawn with (log 11). -/
structure State where
  pending : List Instr
  time : TimeState
  grid : GridState
  cfg : CfgState
  host : HostState
  evt : RecState
  pwr : PwrState
  sig : SigState
  gnss : GnssState
  acq : AcqState
  bus : BusState
  fus : FusState
  obs : ObsState
  slv : SlvState
  ctl : CtlState
  thr : ThrState
  sch : SchState
  grp : GrpState
  saf : SafState
  mtr : MtrState
  out : List Out
  fresh : Nat
  deriving DecidableEq, Repr

/-- No exchange begun. -/
def ptpExReset : PtpEx :=
  { syncSeq := 0, t1 := none, corr := 0, t2 := 0, reqSeq := 0, t3 := 0, peer := none, asked := none, delay := 0, offset := none, heard := none }

/-- Time base after reset (R122, R123, R127). -/
def timeReset : TimeState :=
  { elapsed := 0, counting := true, sec := 0, ns := 0, frac := 0, incr := 0x400000000#64, state := .unset,
    rate := 0, freq := 0, slew := 0, errNs := 0xFFFFFFFF, offsetLarge := false, sourceValid := false,
    lastValidAt := 0, lastSyncAt := 0, errAt := 0, holdErr0 := 0, steps := [], stepCount := 0, masterStepCount := 0, utcOffset := 0, txQueue := [],
    txOverflow := false, txDiscarded := 0, txEpisode := false, ppsOn := false, ppsLast := none, ppsIn := none,
    ppsGood := 0, ppsBad := false, ppsOff := none, ppsFall := 0, ptpSeq := List.replicate 8 0, ptpAt := List.replicate 8 0,
    ptpEx := List.replicate 4 ptpExReset, masterErr := 0, calib := none }

/-- No period has begun. -/
def gridReset : GridState :=
  { running := false, everBegun := false, period := 0, startT := 0, endT := 0, vp := 20000000, tp := 2000000, phase := 0, tpDone := 0,
    tpTotal := 0 }

/-- No configuration has ever been locked (R92); role keys are not given by the spec (R561, log 9). -/
def cfgReset : CfgState :=
  { locked := false, staged := [], stagedTabs := [], force := [], forceTabs := [],
    everLocked := false, image := [], imageTabs := [], mramTabs := [], stagingBuf := [], optUdpPort := 30940,
    optGroupDev := 0xFF, udpPort := 30940, groupDev := 0xFF, roleKeys := List.replicate 4 (List.replicate 32 0) ++ [[]],
    corruptTabs := [] }

/-- A slot not used since firmware start. -/
def sessionReset : Session :=
  { isOpen := false, epoch := 0, src := .spi, authed := false, role := 0, wantRole := 0, window := 0, challenge := [],
    nonce := [], high := 0, marks := BitVec.allOnes 64, retries := 0, lastAt := 0, openedAt := 0, tags := [],
    rejCount := 0, rejLast := List.replicate 20 0 }

/-- Host interface: eight closed slots, empty journal, HOST_STATUS and DOORBELL at their reset values (R119, R121). -/
def hostReset : HostState :=
  { sessions := List.replicate 8 sessionReset, epochCounter := 0, fails := [], lockouts := [], cmds := [], journal := [],
    nextEntry := 0, reserveMark := 4096, spiIn := [], spiOut := [], inOverrun := false, outOverrun := false, irqEn := true,
    randoms := 0 }

/-- Event recorder: no record, the first one goes to slot 0 (log 8); the power-cycle count stands at the first power-on reset (R502). -/
def recReset : RecState :=
  { recs := [], newest := 0xFFFFFFFF, slot := 262079, dropped := 0, operNs := 0, cycles := 1, ctrlOper := 0, ctrlCycles := 1 }

/-- Power: RUN, firmware held at the core hold point's end by the boot ROM, POR in RESET_CAUSE with LEVEL 3
(Table 18-7, R120, R537), every rail at its nominal level (log 8). -/
def pwrReset : PwrState :=
  { state := .run, boot := .rom, fwBuild := 0, cause := 0x301#32, sources := [], reach := .powerOn, straps := 0, oldMode := 0, oldPeriod := 0, fwAt := 0, deepExit := false,
    entryPending := none, resetPending := none, wakePend := 0, lastExit := 0, lastWake := 0, schedWakeAt := none, enteredAt := 0,
    pwrReq := true, railMv := [750, 800, 800, 900, 1100, 600, 1800, 1800, 3300, 1800, 3300], bowSince := none,
    bowLow := List.replicate 11 0, bowRails := 0, bowStopped := false, bowCount := 0, bowLastUs := 0, wdtServed := 0, loadCount := 0,
    optionsFallback := false, domains := List.replicate 25 .stopped, window := 0, windowCharge := 0, wakeQueued := 0,
    wakeStallMax := 0, isolated := 0, skewActive := 0, thermalDomain := none, retentionLost := false, retention := none,
    tempMax := 250, tempMin := 250, hotEpisode := false, serial := List.replicate 8 0 }

/-- The machine right after a power-on reset with firmware not yet running (log 1). -/
def State.reset : State :=
  { pending := [],
    time := timeReset,
    grid := gridReset,
    cfg := cfgReset,
    host := hostReset,
    evt := recReset,
    pwr := pwrReset,
    sig := sigReset,
    gnss := gnssReset,
    acq := acqReset,
    bus := busReset,
    fus := fusReset,
    obs := obsReset,
    slv := slvReset,
    ctl := ctlReset,
    thr := thrReset,
    sch := schReset,
    grp := grpReset,
    saf := safReset,
    mtr := mtrReset,
    out := [],
    fresh := 0 }

end Sys2Proof.Machine
end

