-- ==== Sys2Proof/Machine/Ops.lean ====
section
/-! DEFINITION. The operations every family shares: the passing of time, parameter and table reads, the event
recorder's entry rule, and what is sent to the outside. -/

namespace Sys2Proof.Machine

/-- What a meaning answers. -/
abbrev Result := Host.Outcome State Fault Refusal

/-! Time (R122). -/

/-- The counter in units of 2^-32 ns. -/
def TimeState.units (t : TimeState) : Nat := (t.sec * 10 ^ 9 + t.ns) * 2 ^ 32 + t.frac

/-- The counter in whole nanoseconds since the PTP epoch: T of R16. -/
def TimeState.total (t : TimeState) : Nat := t.sec * 10 ^ 9 + t.ns

/-- The counter set from units of 2^-32 ns, with the carry of R122. -/
def TimeState.setUnits (t : TimeState) (u : Nat) : TimeState :=
  { t with frac := u % 2 ^ 32, ns := u / 2 ^ 32 % 10 ^ 9, sec := u / 2 ^ 32 / 10 ^ 9 % 2 ^ 64 }

/-- The three fields of the counter as a stamp. -/
def TimeState.stamp (t : TimeState) : Stamp := ⟨t.sec, t.ns⟩

/-- `n` ticks of CD9: the counter adds TIME_INCR per tick while it counts (R122); elapsed time and the operating
time of CD0 (R502) go on in any case. -/
def passTicks (n : Nat) (s : State) : State :=
  let t := s.time
  let t' := if t.counting then t.setUnits (t.units + n * t.incr.toNat) else t
  { s with time := { t' with elapsed := t.elapsed + 4 * n }, evt := { s.evt with operNs := s.evt.operNs + 4 * n } }

/-- Time moved on to an elapsed instant; unchanged where the instant has passed (log 2). -/
def elapseTo (e : Nat) (s : State) : State := passTicks ((e - s.time.elapsed + 3) / 4) s

/-- Time moved on to the first tick at which the counter has reached T; unchanged where it has (log 2). -/
def countTo (t : Nat) (s : State) : State :=
  passTicks ((t * 2 ^ 32 - s.time.units + (s.time.incr.toNat - 1)) / max 1 s.time.incr.toNat) s

/-- Milliseconds in elapsed nanoseconds. -/
def ms (n : Nat) : Nat := n * 1000000

/-- Microseconds in elapsed nanoseconds. -/
def us (n : Nat) : Nat := n * 1000

/-- Whether device time is valid (R127). -/
def timeValid (s : State) : Bool := s.time.state != .unset

/-- Device time as a record carries it (R74, R127). -/
def now (s : State) : WhenRec := some ⟨s.time.sec, if timeValid s then s.time.ns else 2 ^ 32 - 1⟩

/-! Parameters and tables in force (R92). -/

/-- The VALUE of a parameter among the given ones, or its default. -/
def valueIn (l : List (Nat × Value)) (id : Nat) : Value :=
  (keyGet id l).getD (((paramDef id).map (·.dflt)).getD 0)

/-- The VALUE in force. -/
def pVal (s : State) (id : Nat) : Value := valueIn s.cfg.force id

/-- A u32 parameter in force. -/
def pNat (s : State) (id : Nat) : Nat := valU32 (pVal s id)

/-- A signed parameter in force. -/
def pInt (s : State) (id : Nat) : Int := valI32 (pVal s id)

/-- An f32 parameter in force. -/
def pReal (s : State) (id : Nat) : F32 := valF32 (pVal s id)

/-- An f64 parameter in force. -/
def pDbl (s : State) (id : Nat) : F64 := pVal s id

/-- The body of a table in force; empty where none has been written. -/
def tab (s : State) (id : Nat) : List Byte := (keyGet id s.cfg.forceTabs).getD []

/-- Record `i` of `n` bytes of a table in force, zero-padded where the table is empty. -/
def tabRec (s : State) (id n i : Nat) : List Byte := padTo n (slice (tab s id) (i * n) n)

/-- The vessel period in nanoseconds (R14). -/
def vpNs (s : State) : Nat := pNat s 0x0101 * 1000

/-- The thruster period in nanoseconds. -/
def tpNs (s : State) : Nat := vpNs s / max 1 (pNat s 0x0102)

/-- GUARANTEE is DET (Table 01-1). -/
def isDet (s : State) : Bool := pNat s 0x0105 == 0

/-! The device's running state. -/

/-- Firmware runs (R8). -/
def fwRunning (s : State) : Bool := s.pwr.boot == .running

/-- Firmware runs and the power state is RUN or IDLE. -/
def awake (s : State) : Bool := fwRunning s && (s.pwr.state == .run || s.pwr.state == .idle)

/-- The brown-out warning is raised (R529). -/
def bowRaised (s : State) : Bool := s.pwr.bowSince.isSome

/-- Warning, clear and reset thresholds of a rail in mV (Table 18-6). -/
def railLevels (i : Nat) : Nat × Nat × Nat :=
  at_ (0, 0, 0) [(640, 660, 600), (740, 760, 700), (740, 760, 700), (840, 860, 800), (1030, 1050, 980), (560, 570, 520), (1680, 1710, 1600),
    (1680, 1710, 1600), (3100, 3150, 2900), (1680, 1710, 1600), (3100, 3150, 2900)] i

/-- A rail marked for the brown-out warning: all but VDD_SAFE and VDD_MTR. -/
def bowRail (i : Nat) : Bool := i != 7 && i != 8

/-- VDD_SAFE or VDD_MTR stands below its warning level, at `mv` (R528, R540). -/
def railBelow (i mv : Nat) (s : State) : State :=
  { s with pwr := { s.pwr with bowRails := s.pwr.bowRails ||| BitVec.ofNat 11 (2 ^ i), railMv := modAt s.pwr.railMv i fun _ => mv } }

/-- The rails of `left` alone stand below their warning level, the others that did at their clear level. -/
def railsUp (left : BitVec 11) (s : State) : State :=
  let mv (i v : Nat) : Nat := if s.pwr.bowRails.getLsbD i && !left.getLsbD i then (railLevels i).2.1 else v
  { s with pwr := { s.pwr with bowRails := s.pwr.bowRails &&& left, railMv := s.pwr.railMv.mapIdx mv } }

/-- The rails that stay below their warning level when every rail marked for the warning has crossed its clear level: VDD_SAFE while it holds the
monitor in reset, VDD_MTR while the island has none. -/
def railsHeld (s : State) : BitVec 11 := (if s.saf.phase = 0 then 0x080#11 else 0) ||| (if s.mtr.on then 0 else 0x100#11)

/-! Changes of the configuration that wait for their first snapshot (R22, R92, R94). -/

/-- A table held in a list that leaves out empty bodies. -/
def putTab (id : Nat) (b : List Byte) (l : List (Nat × List Byte)) : List (Nat × List Byte) :=
  if b.isEmpty then keyDel id l else keyPut id b l

/-- A parameter's VALUE put into a list that leaves out defaults. -/
def putParam (id : Nat) (v : Value) (l : List (Nat × Value)) : List (Nat × Value) :=
  if some v = (paramDef id).map (·.dflt) then keyDel id l else keyPut id v l

/-- An effect's part in the configuration in force. -/
def cfgEffect (c : CfgState) (e : Effect) : CfgState :=
  match e with
  | .lock ps ts => { c with force := ps, forceTabs := ts }
  | .param id v => { c with force := putParam id v c.force }
  | .table id b => { c with forceTabs := putTab id b c.forceTabs }
  | _ => c

/-- The configuration as every change complete before an instant leaves it. -/
def cfgBefore (b : Int) (s : State) : CfgState :=
  (s.sch.pend.filter fun p => decide (p.at_ < b)).foldl (fun c p => cfgEffect c p.eff) s.cfg

/-- A period of the grid has begun and its snapshot is still to come. -/
def unsnapped (s : State) : Bool := s.sch.begun.any fun p => p.1 == s.grid.period

/-- The state with the configuration of the period in progress, which a late snapshot takes only later: what the
thruster output unit runs on (R22). -/
def gridView (s : State) : State := if unsnapped s then { s with cfg := cfgBefore s.grid.startT s } else s

/-- The grid of a device whose firmware does not run; the last period begun is still known (R18). -/
def gridStop (g : GridState) : GridState := { gridReset with everBegun := g.everBegun, period := g.period }

/-! Events (R501 to R508). -/

/-- KEY_LEN of the events that are repeat-counted (R505, Table 17-7); none for the others. -/
def repKey : Ev → Option Nat
  | .txStampOverflow => some 0
  | .evtCorrupt => some 4
  | .gnssHeadingClosure => some 0
  | .acqThreshold => some 2
  | .driveNonconforming => some 1
  | .driveOwnerConflict => some 1
  | .driveStale => some 1
  | .driveLost => some 1
  | .driveHbLost => some 1
  | .serialChecksum => some 1
  | .clockSlip => some 2
  | .refExcluded => some 2
  | .assocIncomplete => some 1
  | .obsReject => some 1
  | .obsDisagree => some 1
  | .rnnLate => some 0
  | .solverDeadlineMiss => some 1
  | .baRejected => some 4
  | .followWarn => some 1
  | .followLimit => some 1
  | .allocHeld => some 0
  | .actSatWarn => some 2
  | .solverLate => some 1
  | .periodLate => some 0
  | .groupNoStandby => some 0
  | _ => none

/-- The slots of the partition (R507). -/
def evtCapacity : Nat := 262080

/-- Entries of the event buffer (R508). -/
def evtBuffer : Nat := 1024

/-- A record not yet in MRAM as it stands. -/
def EvRec.dirty (r : EvRec) : Bool := r.mram != some (r.rep, r.params)

/-- Entries of the buffer in use. -/
def RecState.waiting (r : RecState) : Nat := (r.recs.filter EvRec.dirty).length

/-- A repeat of an event in a record (R506): REPEAT up by one to 65,535, the bytes after the key new. -/
def EvRec.repeated (r : EvRec) (key : Nat) (ps : List Byte) : EvRec :=
  { r with rep := min (r.rep + 1) 65535, params := r.params.take key ++ ps.drop key }

/-- Whether a record matches an event for repeat counting; one whose CRC fails never does. -/
def EvRec.matches (r : EvRec) (ev : Ev) (cycles key : Nat) (ps : List Byte) : Bool :=
  r.bad.isNone && r.ev == ev && r.cycles == cycles && r.params.take key == ps.take key

/-- A new record at the end of the ring, the oldest leaving when every slot is full (R507). -/
def pushRec (ev : Ev) (ps : List Byte) (lost : Bool) (s : State) : State :=
  let e := s.evt
  let r : EvRec :=
    { num := (e.newest + 1) % 2 ^ 32, oper := e.operNs / 10000000 % 2 ^ 40, cycles := e.cycles, ev := ev, rep := 0,
      lostBefore := lost, stamp := now s, params := padTo 6 ps, mram := none, bad := none }
  { s with evt := { e with recs := (if e.recs.length < evtCapacity then e.recs else e.recs.drop 1) ++ [r], newest := r.num, slot := (e.slot + 1) % evtCapacity } }

/-- The newest of the last 16 records that the event repeats, by its number (R506). -/
def repeatOf (ev : Ev) (key : Nat) (ps : List Byte) (e : RecState) : Option EvRec :=
  ((e.recs.drop (e.recs.length - 16)).reverse).find? (fun r => r.matches ev e.cycles key ps)

/-- An event is entered (R505 to R508): a repeat updates its record, any other event takes a new one, and an event
that finds the buffer full is dropped and counted. -/
def record (ev : Ev) (ps : List Byte) (s : State) : State :=
  let ps := padTo 6 ps
  match (repKey ev).bind (fun k => (repeatOf ev k ps s.evt).map (fun r => (k, r))) with
  | some (k, r) =>
    if r.dirty || decide (s.evt.waiting < evtBuffer) then
      { s with evt := { s.evt with recs := s.evt.recs.map fun q => if q.num == r.num then q.repeated k ps else q } }
    else { s with evt := { s.evt with dropped := s.evt.dropped + 1 } }
  | none =>
    if s.evt.waiting < evtBuffer then pushRec ev ps false s
    else { s with evt := { s.evt with dropped := s.evt.dropped + 1 } }

/-! Sending. -/

/-- Add to the record of what was sent (log 3). -/
def emit (o : Out) (s : State) : State := { s with out := o :: s.out }

/-- An isolated Ethernet port has its link DOWN (R527): nothing is received from it or sent on it. -/
def portDown (src : Src) (s : State) : Bool :=
  match src with
  | .eth b .. => s.pwr.isolated.getLsbD (if b then 7 else 6)
  | .spi => false

/-- A reply packet to its destination: a UDP datagram from the port the device receives on, or the outbound queue of the SPI host port, whose oldest
reply is discarded when 32 wait (R38, R39). -/
def sendReply (dst : Src) (bytes : List Byte) (s : State) : State :=
  match dst with
  | .eth .. => if portDown dst s then s else emit (.reply dst s.cfg.udpPort bytes) s
  | .spi =>
    if s.host.spiOut.length < 32 then { s with host := { s.host with spiOut := s.host.spiOut ++ [bytes] } }
    else { s with host := { s.host with spiOut := s.host.spiOut.drop 1 ++ [bytes], outOverrun := true } }

/-- HOST_IRQ_N is low: replies wait and IRQ_EN is 1 (R39, R121). -/
def hostIrqLow (s : State) : Bool := s.host.irqEn && !s.host.spiOut.isEmpty

/-- A fresh index for a free value (log 11). -/
def freshen (s : State) : State := { s with fresh := s.fresh + 1 }

end Sys2Proof.Machine
end

