-- ==== Sys2Proof/Machine/Host.lean ====
section
/-! DEFINITION. The host conversation (chapter 02): packets, validation, sessions, tags, fragments, the journal and
the running of a command step by step. What an opcode itself does comes in as an `OpDef`. -/

namespace Sys2Proof.Machine

/-! Headers and replies. -/

/-- The 20 header bytes of a request (Table 02-2). -/
def reqHeader (r : Req) (opcode : Nat) : List Byte :=
  be 2 r.magic.toNat ++ [r.flags, r.cls] ++ be 2 r.session.toNat ++ [r.tag, r.fragment] ++ be 4 r.seq.toNat ++
    be 2 opcode ++ be 2 r.paramLen.toNat ++ be 2 r.status.toNat ++ be 2 r.epoch.toNat

/-- The trailer matches (R41). -/
def crcOk (r : Req) (opcode : Nat) (p : List Byte) : Bool := crc32c (reqHeader r opcode ++ p) == r.trailer

/-- A reply packet: header with REPLY set, parameters, trailer (R40, R64). -/
def Reply.packet (q : Reply) (epoch : Nat) (retry : Bool) : List Byte :=
  let h := be 2 0x564B ++ be 1 (1 + 2 * b2n retry + 8 * b2n q.last) ++ be 1 q.cls ++ be 2 q.session ++ be 1 q.tag ++
    be 1 q.fragment ++ be 4 q.seq ++ be 2 q.opcode ++ be 2 q.params.length ++ be 2 q.status ++ be 2 epoch
  h ++ q.params ++ be 4 (crcNat (h ++ q.params))

/-- Parameters cut into reply fragments of 1,440 bytes, at most 64 (R63). -/
def replyFragments (q : Reply) (ps : List Byte) : List Reply :=
  let m := min 64 (max 1 ((ps.length + 1439) / 1440))
  (List.range m).map fun i => { q with fragment := i, last := i + 1 == m, params := slice ps (i * 1440) 1440 }

/-- Send every fragment of a reply. -/
def sendReplies (dst : Src) (epoch : Nat) (retry : Bool) (qs : List Reply) (s : State) : State :=
  qs.foldl (fun s q => sendReply dst (q.packet epoch retry) s) s

/-- Bit 0 of FLAGS. -/
def isReplyPkt (r : Req) : Bool := r.flags.getLsbD 0
/-- Bit 1 of FLAGS. -/
def isRetryPkt (r : Req) : Bool := r.flags.getLsbD 1
/-- Bit 2 of FLAGS. -/
def isSpecOk (r : Req) : Bool := r.flags.getLsbD 2
/-- Bit 3 of FLAGS. -/
def isLastFrag (r : Req) : Bool := r.flags.getLsbD 3

/-! Sessions. -/

/-- The slot numbered `n` (0x0001 to 0x0008), where there is one. -/
def slotNo (s : State) (n : Nat) : Option Session :=
  if n = 0 then none else s.host.sessions[n - 1]?

/-- The slot numbered `n`, where it is open. -/
def openSlot (s : State) (n : Nat) : Option Session := (slotNo s n).filter (·.isOpen)

/-- Change slot `n`. -/
def modSlot (n : Nat) (f : Session → Session) (s : State) : State :=
  if n = 0 then s else { s with host := { s.host with sessions := modAt s.host.sessions (n - 1) f } }

/-- What is counted against a source (R49): its IPv4 address, or the SPI host port. -/
def originOf : Src → Origin
  | .eth _ ip _ => .ip ip
  | .spi => .spi

/-- The rejection record of a session: a count, which stays at 2^32 − 1 (log 176), and the last header (R43). -/
def countReject (n : Nat) (hdr : List Byte) (s : State) : State :=
  modSlot n (fun x => if x.isOpen then { x with rejCount := min (x.rejCount + 1) (2 ^ 32 - 1), rejLast := hdr } else x) s

/-- The reply copy of a request's header fields (R64): one packet, so that LAST is set whatever FRAGMENT it copies (log 177). -/
def replyOf (r : Req) (opcode status : Nat) (ps : List Byte) : Reply :=
  { cls := r.cls.toNat, session := r.session.toNat, tag := r.tag.toNat, fragment := r.fragment.toNat, seq := r.seq.toNat,
    opcode := opcode, status := status, last := true, params := ps }

/-- A packet rejected: its reply goes to the packet's own source or to the session's bound source, and the session's
rejection record counts it (R42, R43, R64). -/
def reject (r : Req) (opcode status : Nat) (toSource : Bool) (ps : List Byte) (s : State) : State :=
  let n := r.session.toNat
  let (dst, ep) := match openSlot s n with
    | some x => (if toSource then r.src else x.src, x.epoch)
    | none => (r.src, 0)
  countReject n (reqHeader r opcode) (sendReply dst ((replyOf r opcode status ps).packet ep false) s)

/-- Commands of closed sessions still in flight, of classes 1 to 3 (R54). -/
def orphans (s : State) : Nat := (s.host.cmds.filter (fun c => c.orphan && c.cls != 0)).length

/-- Free window capacity (R54). -/
def freeCapacity (s : State) : Nat :=
  120 - ((s.host.sessions.filter (·.isOpen)).map (·.window)).sum - orphans s

/-- Tags of a session held by a command reassembling or in flight, of class 0 or of the others. -/
def heldTags (x : Session) (zero : Bool) : Nat :=
  (x.tags.filter (fun t => match t.2 with
    | .reassembling _ _ c .. => (c == 0) == zero
    | .inFlight _ _ c _ => (c == 0) == zero
    | .ended .. => false)).length

/-- A place is free for the class (R55): class 0 in the session's class 0 slot or a window place, others in the window. Of the class 0
commands held, one counts in the slot, whichever came first (log 229). -/
def placeFree (x : Session) (cls : Nat) : Bool :=
  let z := heldTags x true
  let w := heldTags x false + (z - 1)
  if cls = 0 then z == 0 || decide (w < x.window) else decide (w < x.window)

/-- Reassemblies in progress across the device (R62). -/
def reassemblies (s : State) : Nat :=
  (s.host.sessions.map (fun x => (x.tags.filter (fun t => match t.2 with
    | .reassembling .. => true
    | _ => false)).length)).sum

/-- The bitmap of fragment indices received, 32 bytes (R61). -/
def fragBitmap (fs : List (Nat × List Byte)) : List Byte :=
  let v := (fs.map (fun f => 2 ^ f.1)).sum
  le 32 v

/-! The journal (R70 to R76). -/

/-- Change the entry numbered `e`; `commit` says that the record is in MRAM at once (R71), as opposed to the buffer. -/
def modEntry (e : Nat) (commit : Bool) (f : JEntry → JEntry) (s : State) : State :=
  { s with host := { s.host with journal := s.host.journal.map fun j =>
      if j.cur.entry == e then { cur := f j.cur, mram := if commit then some (f j.cur) else j.mram } else j } }

/-- The entry numbered `e`. -/
def findEntry (s : State) (e : Nat) : Option JEntry :=
  (s.host.journal.find? (fun j => j.cur.entry == e)).map (·.cur)

/-- A command of an entry is in flight. -/
def inFlight (s : State) (e : Nat) : Bool := s.host.cmds.any (fun c => c.entry == e)

/-- Drop the oldest entry whose command is not in flight (R75). -/
def dropOldest (s : State) : List JSlot → List JSlot
  | [] => []
  | j :: js => if inFlight s j.cur.entry then j :: dropOldest s js else js

/-- The reserve mark raised by 4,096 while fewer than 2,048 numbers remain below it (R75). -/
def reserve (next mark : Nat) : Nat := if mark < next + 2048 then mark + 4096 else mark

/-- A new journal entry in state ACCEPTED, in the journal buffer (R44, R70, R72). -/
def newEntry (j : JEntry) (s : State) : State :=
  let h := s.host
  let old := if h.journal.length < 16384 then h.journal else dropOldest s h.journal
  { s with host := { h with journal := old ++ [⟨j, none⟩], nextEntry := h.nextEntry + 1,
                            reserveMark := reserve (h.nextEntry + 1) h.reserveMark } }

/-- Journal state code (Table 02-9). -/
def JState.code : JState → Nat
  | .accepted => 1
  | .started => 2
  | .partial_ => 3
  | .done => 4
  | .aborted => 5

/-- Six bytes of seconds and four of nanoseconds; all ones where no instant was recorded. -/
def stampBytes (w : WhenRec) : List Byte :=
  match w with
  | some t => be 6 t.sec ++ be 4 t.ns
  | none => be 6 (2 ^ 48 - 1) ++ be 4 (2 ^ 32 - 1)

/-- The 64 bytes of an entry (Table 02-10). END_SEC of an entry not final is zero, its END_NS all ones; a corrupt
entry gives its stored bytes with STATE 0 and FLAGS 0xFF (R75). -/
def JEntry.bytes (j : JEntry) : List Byte :=
  let final := j.state == .done || j.state == .aborted
  let fl := flagsWord [j.interrupted, j.replySent, j.parisonSent, j.posted]
  let b := be 2 j.session ++ be 2 j.epoch ++ be 1 j.tag ++ be 1 j.cls ++ be 2 j.opcode ++ be 4 j.seq ++
    be 1 j.state.code ++ be 1 fl ++ be 1 j.k ++ be 1 j.n ++ be 2 j.status ++ be 2 j.fragments ++ be 4 j.paramCrc ++
    be 8 (j.firstPeriod.getD (2 ^ 64 - 1)) ++ stampBytes j.accepted ++
    (if final then stampBytes j.ended else be 6 0 ++ be 4 (2 ^ 32 - 1)) ++ be 3 j.cycles ++ be 1 0 ++ be 4 j.entry
  match j.corrupt with
  | some raw => slice raw 0 12 ++ be 1 0 ++ be 1 0xFF ++ slice raw 14 50
  | none => b ++ be 4 (crcNat b)

/-! Opcodes. -/

/-- What one step of a command does. `first` is the first period in force under R22. -/
inductive StepRes where
  | commit (s : State) (first : Option Nat)
  | finish (s : State) (status : Nat) (reply : List Byte) (first : Option Nat)
  | abort (s : State) (status : Nat)
  | wait (s : State) (data : List Nat)

/-- An opcode: its row in chapter 03, the objects it writes (R45), its refusals before the first step (R566) and its
steps; `run c s` performs step `c.k + 1`. -/
structure OpDef where
  code : Nat
  cls : Nat
  role : Nat
  n : Nat
  objs : Cmd → List Nat
  check : Cmd → State → Nat
  run : Cmd → State → StepRes

/-- Role required by each opcode (Tables 03-2 to 03-16): the opcodes whose role is not VIEWER. -/
def roleTable : List (Nat × Nat) :=
  [(0x0101, 2), (0x0102, 2), (0x0103, 2), (0x0110, 2), (0x0210, 1), (0x0301, 1), (0x0310, 1), (0x0320, 1), (0x0330, 1),
   (0x03F0, 1), (0x0403, 1), (0x0502, 2), (0x0503, 2), (0x0504, 2), (0x0601, 2), (0x0602, 2), (0x0603, 2), (0x0604, 2),
   (0x0610, 2), (0x0702, 2), (0x0703, 1), (0x0802, 3), (0x0804, 3), (0x0805, 2), (0x0806, 1), (0x08F0, 1), (0x0A03, 3),
   (0x0B02, 2), (0x0B03, 2), (0x0B05, 2), (0x0C04, 2), (0x0C05, 2), (0x0C10, 3)]

/-- Role required by an opcode. -/
def roleOf (op : Nat) : Nat := (keyGet op roleTable).getD 0

/-- Role that a packet requires: TAG_ABORT takes that of the command its tag holds (R77). -/
def roleNeeded (op : Nat) (x : Session) (p : List Byte) : Nat :=
  if op = 0x0006 then
    match keyGet (byteAt p 0) x.tags with
    | some (.reassembling _ o ..) => roleOf o
    | some (.inFlight _ o ..) => roleOf o
    | _ => 0
  else roleOf op

/-- Change a command in flight. -/
def modCmd (e : Nat) (f : Cmd → Cmd) (s : State) : State :=
  { s with host := { s.host with cmds := s.host.cmds.map fun c => if c.entry == e then f c else c } }

/-- A command in flight, by entry number. -/
def findCmd (s : State) (e : Nat) : Option Cmd := s.host.cmds.find? (fun c => c.entry == e)

/-- The parameters STATE, K, N of an ACCEPTED or PARTIAL reply (R83). -/
def progressBytes (j : JEntry) : List Byte := be 1 j.state.code ++ be 1 j.k ++ be 1 j.n

/-- Whether a command's replies are sent: its session is open and it is no orphan (R51). -/
def answers (c : Cmd) (s : State) : Bool := !c.orphan && (openSlot s c.slot).isSome

/-- The reply of a command under the session's current epoch to its bound source (R64). -/
def sendFor (c : Cmd) (status : Nat) (ps : List Byte) (s : State) : State :=
  match openSlot s c.slot with
  | some x =>
    if c.orphan then s
    else sendReplies x.src x.epoch false
      (replyFragments { cls := c.cls, session := c.slot, tag := c.tag, fragment := 0, seq := c.seq, opcode := c.opcode,
                        status := status, last := true, params := [] } ps) s
  | none => s

/-- Set what a tag of a session holds. -/
def putTag (slot tag : Nat) (t : TagState) (s : State) : State :=
  modSlot slot (fun x => { x with tags := keyPut tag t x.tags }) s

/-- A command ends: journal entry final, final reply sent and retained on its tag, its place left (R55, R56, R70). A
tag that was in flight at a SESSION_RESYNC becomes free instead (R68). -/
def endCmd (c : Cmd) (state : JState) (k status : Nat) (reply : List Byte) (first : Option Nat) (s : State) : State :=
  let sent := answers c s
  let commit := state == .done
  let s1 := modEntry c.entry (commit && (c.cls != 0)) (fun j =>
    { j with state := state, k := k, status := status, replySent := sent, ended := now s,
             firstPeriod := first <|> j.firstPeriod }) s
  let s2 := sendFor c status reply s1
  let s3 := { s2 with host := { s2.host with cmds := s2.host.cmds.filter (fun d => d.entry != c.entry) } }
  if c.noTag || c.orphan then s3
  else
    match (openSlot s3 c.slot).bind (fun x => keyGet c.tag x.tags) with
    | some (.inFlight q _ _ e) =>
      if e = c.entry ∧ q = c.seq then
        let x := (openSlot s3 c.slot).getD sessionReset
        if x.epoch = c.epoch then
          putTag c.slot c.tag (.ended c.seq c.opcode c.cls
            (replyFragments { cls := c.cls, session := c.slot, tag := c.tag, fragment := 0, seq := c.seq, opcode := c.opcode,
                              status := status, last := true, params := [] } reply) state.code k c.n status) s3
        else modSlot c.slot (fun y => { y with tags := keyDel c.tag y.tags }) s3
      else s3
    | _ => s3

/-- Abandon a reassembly with a status: the reply carries the fragment bitmap under FRAGMENT_ERROR and is retained (R61). -/
def abandonTag (slot tag status : Nat) (s : State) : State :=
  match openSlot s slot with
  | none => s
  | some x =>
    match keyGet tag x.tags with
    | some (.reassembling q o c fs ..) =>
      let rep : Reply := { cls := c, session := slot, tag := tag, fragment := 0, seq := q, opcode := o, status := status,
                           last := true, params := if status = stFragmentError then fragBitmap fs else [] }
      putTag slot tag (.ended q o c [rep] 0 0 0 status) (sendReply x.src (rep.packet x.epoch false) s)
    | _ => s

/-- Close a slot (R50, R51): its reassemblies are abandoned, its commands in flight become orphans, and those of
group 0x00 that have not begun end ABORTED with UNKNOWN_SESSION; the slot keeps its rejection record (R76). -/
def closeSession (n : Nat) (s : State) : State :=
  match openSlot s n with
  | none => s
  | some x =>
    let s1 := x.tags.foldl (fun s t => abandonTag n t.1 stFragmentError s) s
    let s2 := { s1 with host := { s1.host with cmds := s1.host.cmds.map fun (c : Cmd) => if c.slot == n then { c with orphan := true } else c } }
    let dead := s2.host.cmds.filter (fun (c : Cmd) => c.slot == n && c.opcode / 256 == 0 && !c.started)
    let s3 := dead.foldl (fun s c => endCmd c .aborted 0 stUnknownSession [] none s) s2
    modSlot n (fun y => { sessionReset with rejCount := y.rejCount, rejLast := y.rejLast, epoch := y.epoch, retries := y.retries }) s3

/-- Two objects of R45 are the same, or one is every table and the other a table. -/
def sameObj (a b : Nat) : Bool :=
  a == b || (a == 0x1FFFF && b / 0x10000 == 1) || (b == 0x1FFFF && a / 0x10000 == 1)

/-- An earlier command in flight writes an object this command writes (R45). -/
def blocked (objs : Cmd → List Nat) (objsOf : Nat → Cmd → List Nat) (c : Cmd) (s : State) : Bool :=
  s.host.cmds.any fun d => decide (d.entry < c.entry) && (objsOf d.opcode d).any (fun o => (objs c).any (sameObj o))

/-- The setpoint axes that a SETPOINT_SET writes (R339): position 0x3_0000, heading 0x3_0001. -/
def setpointAxes (ps : List Byte) : List Nat :=
  let ax := byteAt ps 0
  (if bitOf ax 0 || bitOf ax 2 then [0x30000] else []) ++ if bitOf ax 1 || bitOf ax 3 then [0x30001] else []

/-- The objects of R45 by opcode, as numbers: a table 0x1_0000 + its ID, every table 0x1_FFFF, the configuration set 0x2_0000, the setpoint
axes from 0x3_0000, thruster availability 0x4_0000, a solver structure 0x5_0000 + its ID, the time base 0x6_0000 (R135), the
event recorder 0x7_0000 (R511). The map, 0x8_0000, and the source selections, 0x9_0000, are objects of the model's choice (log 228). ACQ_CHANNELS
and its coefficient tables are one object (chapter 06). -/
def objsOf (op : Nat) (c : Cmd) : List Nat :=
  match op with
  | 0x0101 => [0x20000, 0x1FFFF]
  | 0x0102 => [0x20000]
  | 0x0103 => if fieldU c.params 0 2 = 0x0251 then [0x20000, 0x10260] else [0x20000]
  | 0x0110 =>
    let t := fieldU c.params 0 2
    [if (0x0270 ≤ t ∧ t ≤ 0x027F) ∨ t = 0x0260 then 0x10260 else 0x10000 + t]
  | 0x0210 => [0x90000]
  | 0x0310 => setpointAxes c.params
  | 0x0330 => [0x40000]
  | 0x0502 => [0x60000]
  | 0x0503 => [0x60000]
  | 0x0504 => [0x60000]
  | 0x0601 => [0x50000 + byteAt c.params 0]
  | 0x0602 => [0x50000 + byteAt c.params 0]
  | 0x0603 => [0x50000 + byteAt c.params 0]
  | 0x0604 => [0x50000 + byteAt c.params 0]
  | 0x0610 => [0x80000]
  | 0x0A02 => [0x70000]
  | 0x0A03 => [0x70000]
  | _ => []

/-- One step of a command in flight, and up to `burst` commit points in all. A command waits behind an earlier one on
the same object (R45) and, while the brown-out warning is raised, at its commit point (R529). -/
def runCmd (d : OpDef) : Nat → Nat → State → State
  | 0, _, s => s
  | burst + 1, e, s =>
    match findCmd s e with
    | none => s
    | some c =>
      if blocked (objsOf c.opcode) objsOf c s || (bowRaised s && c.cls != 0) then s
      else
        let st := if c.started then 0 else d.check c s
        let s := modCmd e (fun c => { c with started := true }) (if c.started then s
          else modEntry e false (fun j => { j with state := .started }) s)
        let c := { c with started := true }
        if st ≠ 0 then endCmd c .aborted 0 st [] none s
        else
          match d.run c s with
          | .commit s' first =>
            let upd (j : JEntry) : JEntry :=
              { j with state := .partial_, k := c.k + 1, firstPeriod := first <|> j.firstPeriod }
            let s2 := modEntry e true upd s'
            let s3 := modCmd e (fun c => { c with k := c.k + 1, busy := false, data := [] }) s2
            if c.abort then endCmd c .aborted (c.k + 1) stAbortedByHost [] none s3 else runCmd d burst e s3
          | .finish s' status reply first =>
            let c' := (findCmd s' e).getD c
            let s2 := endCmd c' .done c.n status reply first s'
            if c.opcode = 0x0005 then closeSession c.slot s2 else s2
          | .abort s' status =>
            let s2 := endCmd c .aborted c.k status [] none s'
            if status = stAuthFailed ∧ c.opcode = 0x0002 then closeSession c.slot s2 else s2
          | .wait s' data => modCmd e (fun c => { c with busy := true, data := data }) s'

/-- Packet validation of a command has ended: it receives its journal entry in state ACCEPTED and begins (R44). A
class 0 command takes effect at once, its record POSTED (R71). -/
def accept (d : OpDef) (r : Req) (noTag : Bool) (ps : List Byte) (frags : Nat) (spec : Bool) (s : State) : State :=
  let n := r.session.toNat
  let e := s.host.nextEntry
  let c : Cmd :=
    { entry := e, slot := n, epoch := r.epoch.toNat, src := r.src, tag := r.tag.toNat, noTag := noTag, seq := r.seq.toNat,
      opcode := d.code, cls := d.cls, params := ps, specOk := spec, k := 0, n := d.n, started := false, orphan := false,
      interim := false, abort := false, busy := false, validElapsed := s.time.elapsed, validT := s.time.total, validC := s.time.total,
      data := [] }
  let j : JEntry :=
    { entry := e, session := n, epoch := r.epoch.toNat, tag := r.tag.toNat, cls := d.cls, opcode := d.code,
      seq := r.seq.toNat, state := .accepted, interrupted := false, replySent := false, parisonSent := false,
      posted := d.cls == 0, k := 0, n := d.n, status := 0, fragments := frags, paramCrc := crcNat ps, firstPeriod := none,
      accepted := now s, ended := none, cycles := s.evt.cycles, corrupt := none }
  let s1 := newEntry j s
  let s2 := { s1 with host := { s1.host with cmds := s1.host.cmds ++ [c] } }
  let s3 := if noTag then s2 else putTag n r.tag.toNat (.inFlight r.seq.toNat d.code d.cls e) s2
  runCmd d (if d.cls = 0 then 1 else r.burst) e s3

/-! Sequence window (R52, R53). -/

/-- D of R52. -/
def seqD (x : Session) (q : BitVec 32) : Nat := (q - x.high).toNat

/-- D lies in the window behind H. -/
def behind (d : Nat) : Bool := d == 0 || decide (4294967233 ≤ d)

/-- The received mark of a number behind H. -/
def marked (x : Session) (d : Nat) : Bool := x.marks.getLsbD (if d = 0 then 0 else 4294967296 - d)

/-- Mark a number received; H advances on D of 1 to 64 and the numbers skipped stay unmarked (R52). -/
def markSeq (q : BitVec 32) (x : Session) : Session :=
  let d := seqD x q
  if 1 ≤ d ∧ d ≤ 64 then { x with high := q, marks := (x.marks <<< d) ||| 1#64 }
  else if behind d then { x with marks := x.marks ||| (1#64 <<< (if d = 0 then 0 else 4294967296 - d)) }
  else x

/-- SESSION_OPEN and SESSION_RESYNC set H and mark all 64 numbers received. -/
def setHigh (q : BitVec 32) (x : Session) : Session := { x with high := q, marks := BitVec.allOnes 64 }

/-- A duplicate is answered by the state of its tag and never executed again (R57); on a free tag it is answered DUPLICATE (log 178). -/
def duplicate (r : Req) (opcode : Nat) (x : Session) (s : State) : State :=
  match keyGet r.tag.toNat x.tags with
  | some (.ended q o c reps ..) =>
    if q = r.seq.toNat ∧ o = opcode ∧ c = r.cls.toNat then sendReplies x.src x.epoch true reps s
    else reject r opcode stDuplicate false [] s
  | some (.inFlight q o c e) =>
    if q = r.seq.toNat ∧ o = opcode ∧ c = r.cls.toNat then
      match findEntry s e with
      | some j => sendReply x.src
          ((replyOf r opcode (if j.k = 0 then stAccepted else stPartial) (progressBytes j)).packet x.epoch false) s
      | none => s
    else reject r opcode stDuplicate false [] s
  | _ => reject r opcode stDuplicate false [] s

/-- Fragments 0 to m − 1 all present, joined; none while some are missing (R60). -/
def joined (fs : List (Nat × List Byte)) (last : Option Nat) : Option (List Byte) :=
  match last with
  | none => none
  | some m => if fs.length = m + 1 then some (fs.flatMap (·.2)) else none

/-- A tag held by another command of the session (R55). -/
def tagHeld (x : Session) (tag : Nat) : Bool :=
  match keyGet tag x.tags with
  | some (.reassembling ..) => true
  | some (.inFlight ..) => true
  | _ => false

/-- A fragment that fails step 14 under its own command's tag abandons the command: the reply copies the failing packet's header, its
bitmap counts that fragment too (log 179), and it is retained for the command (R42, R43, R61). -/
def spoilTag (d : OpDef) (r : Req) (fs : List (Nat × List Byte)) (o c : Nat) (p : List Byte) (x : Session) (s : State) : State :=
  let n := r.session.toNat
  let rep := replyOf r d.code stFragmentError (fragBitmap (keyPut r.fragment.toNat p fs))
  countReject n (reqHeader r d.code)
    (putTag n r.tag.toNat (.ended r.seq.toNat o c [rep] 0 0 0 stFragmentError) (sendReply x.src (rep.packet x.epoch false) s))

/-- A further fragment of the command its tag reassembles (R60, R61). A second copy changes nothing, FRAG_GAP_MS included (log 180);
SPEC_OK counts from whichever fragment carries it (log 181). -/
def furtherFragment (d : OpDef) (r : Req) (p : List Byte) (x : Session) (s : State) : State :=
  let n := r.session.toNat
  let tag := r.tag.toNat
  let i := r.fragment.toNat
  match keyGet tag x.tags with
  | some (.reassembling q o c fs last t0 _ sp) =>
    if (keyGet i fs).isSome then s
    else
      let bad := decide (o ≠ d.code ∨ c ≠ r.cls.toNat) || (isLastFrag r && last.isSome) ||
        (match last with | some m => decide (m < i) | none => false) ||
        (isLastFrag r && fs.any (fun f => decide (i < f.1))) || (!isLastFrag r && p.length != 1440)
      if bad then spoilTag d r fs o c p x s
      else
        let fs' := keyPut i p fs
        let last' := if isLastFrag r then some i else last
        match joined fs' last' with
        | some ps => accept d r false ps fs'.length (sp || isSpecOk r) s
        | none => putTag n tag (.reassembling q o c fs' last' t0 s.time.elapsed (sp || isSpecOk r)) s
  | _ => s

/-- Steps 14 and 15 of Table 02-3 for a packet whose number is new (R42, R43, R62). -/
def newCommand (d : OpDef) (r : Req) (p : List Byte) (x : Session) (s : State) : State :=
  let n := r.session.toNat
  let tag := r.tag.toNat
  let whole := r.fragment.toNat == 0 && isLastFrag r
  let mark := modSlot n (markSeq r.seq)
  if !isLastFrag r && p.length != 1440 then
    if tagHeld x tag then reject r d.code stTagBusy false [] s
    else spoilTag d r [] d.code r.cls.toNat p x (mark s)
  else if tagHeld x tag then reject r d.code stTagBusy false [] s
  else if !placeFree x r.cls.toNat then reject r d.code stWindowFull false [] s
  else if whole then accept d r false p 1 (isSpecOk r) (mark s)
  else if 4 ≤ reassemblies s then reject r d.code stReassemblyBusy false [] s
  else putTag n tag (.reassembling r.seq.toNat d.code r.cls.toNat [(r.fragment.toNat, p)]
    (if isLastFrag r then some r.fragment.toNat else none) s.time.elapsed s.time.elapsed (isSpecOk r)) (mark s)

/-- Step 13 of Table 02-3 (R53). -/
def bySequence (d : OpDef) (r : Req) (p : List Byte) (x : Session) (s : State) : State :=
  let dd := seqD x r.seq
  if 1 ≤ dd ∧ dd ≤ 64 then newCommand d r p x s
  else if behind dd then
    if marked x dd then
      match keyGet r.tag.toNat x.tags with
      | some (.reassembling q ..) =>
        if q = r.seq.toNat then furtherFragment d r p x s else duplicate r d.code x s
      | _ => duplicate r d.code x s
    else newCommand d r p x s
  else reject r d.code stSeqGap false [] s

/-- The bytes of a packet. -/
def packetBytes (r : Req) (opcode : Nat) (p : List Byte) : List Byte := reqHeader r opcode ++ p ++ be 4 r.trailer.toNat

/-- Bytes of an inbound buffer that steps 1 to 3 of Table 02-3 discard. -/
def discards (b : List Byte) : Bool :=
  let n := b.length - 4
  decide (b.length < 24) || fieldU b 0 2 != 0x564B || fieldU b n 4 != crcNat (b.take n) || bitOf (byteAt b 2) 0

/-- The inbound buffers from the first that holds something other than what is silently discarded before a packet. -/
def fromPacket (pkt : List Byte) (l : List (List Byte)) : List (List Byte) := l.dropWhile fun b => b != pkt && discards b

/-- A packet is there to be validated: over Ethernet, in one unfragmented datagram to the UDP port in force (R38); over SPI, as the
first packet of the inbound buffers that is not discarded (R39). -/
def arrives (r : Req) (opcode : Nat) (p : List Byte) (s : State) : Bool :=
  match r.src with
  | .eth .. => !r.ipFragment && r.dstPort.toNat == s.cfg.udpPort
  | .spi => (fromPacket (packetBytes r opcode p) s.host.spiIn).head? == some (packetBytes r opcode p)

/-- A packet of the SPI host port is taken out of its inbound buffer, and with it what was discarded before it (R39). -/
def takeBuffer (r : Req) (opcode : Nat) (p : List Byte) (s : State) : State :=
  match r.src with
  | .spi =>
    if awake s && arrives r opcode p s then
      { s with host := { s.host with spiIn := (fromPacket (packetBytes r opcode p) s.host.spiIn).drop 1 } }
    else s
  | _ => s

/-- Steps 1 to 3 of Table 02-3: what is discarded silently; and nothing is answered unless firmware runs in RUN or
IDLE (R11, R517). -/
def readable (r : Req) (opcode : Nat) (p : List Byte) (s : State) : Bool :=
  awake s && arrives r opcode p s && !portDown r.src s && r.magic == 0x564B#16 && crcOk r opcode p && !isReplyPkt r

/-- Steps 4 and 5 of Table 02-3; 0 where both pass. -/
def headerStatus (r : Req) (p : List Byte) : Nat :=
  if r.paramLen.toNat > 1440 ∨ r.paramLen.toNat ≠ p.length then stBadLength
  else if r.tag.toNat > 127 ∨ r.cls.toNat > 3 then stBadHeader
  else 0

/-- Steps 7 to 12 of Table 02-3 for an open, bound session: the status of the first that fails, 0 where all pass. -/
def sessionStatus (implemented : Bool) (d : OpDef) (r : Req) (p : List Byte) (x : Session) : Nat :=
  if r.epoch.toNat ≠ x.epoch then stStaleEpoch
  else if ¬ x.authed ∧ d.code ≠ 0x0002 ∧ d.code ≠ 0x0005 then stNotAuthenticated
  else if ¬ implemented then stUnknownOpcode
  else if r.cls.toNat ≠ d.cls then stClassMismatch
  else if x.role < roleNeeded d.code x p then stRoleInsufficient
  else 0

/-- A rebinding SESSION_RESYNC is judged whatever its source (R69). -/
def rebinds (d : OpDef) (p : List Byte) : Bool := d.code == 0x0003 && byteAt p 4 == 1

/-- Packet validation (Table 02-3), for every opcode but SESSION_OPEN. A packet counts for its session, RETRY among it, once it passes
step 7 (log 230). -/
def packetIn (implemented : Bool) (d : OpDef) (r : Req) (p : List Byte) (s0 : State) : State :=
  let s := takeBuffer r d.code p s0
  let n := r.session.toNat
  if !readable r d.code p s0 then s
  else if headerStatus r p ≠ 0 then reject r d.code (headerStatus r p) true [] s
  else
    match openSlot s n with
    | none => reject r d.code stUnknownSession true [] s
    | some x =>
      if x.src ≠ r.src ∧ ¬ rebinds d p then reject r d.code stUnknownSession true [] s
      else
        let seen (y : Session) : Session :=
          { y with retries := y.retries + b2n (isRetryPkt r),
                   lastAt := if r.epoch.toNat = y.epoch then s.time.elapsed else y.lastAt }
        let s := modSlot n seen s
        let st := sessionStatus implemented d r p x
        if st ≠ 0 then reject r d.code st false [] s
        else if d.code = 0x0003 then accept d r true p 1 (isSpecOk r) s
        else bySequence d r p ((openSlot s n).getD x) s

/-! Layout checks common to opcodes (R79, R80, R566). -/

/-- An exact parameter length (R80). -/
def sizeIs (n : Nat) (c : Cmd) : Nat := if c.params.length = n then 0 else stParamSize

/-- The first status that is not 0. -/
def firstOf : List Nat → Nat
  | [] => 0
  | 0 :: r => firstOf r
  | x :: _ => x

/-- A status where a condition holds. -/
def when_ (b : Bool) (st : Nat) : Nat := if b then st else 0

/-- The zero fields of a layout (R79). -/
def zeroAt (c : Cmd) (off len : Nat) : Nat := when_ (!allZero (slice c.params off len)) stOutOfRange

/-- An opcode of one step with no refusals that reads the state and replies. -/
def readOp (code cls : Nat) (size : Nat) (check : Cmd → State → Nat) (reply : Cmd → State → List Byte) : OpDef :=
  { code := code, cls := cls, role := roleOf code, n := 1, objs := objsOf code,
    check := fun c s => firstOf [sizeIs size c, check c s], run := fun c s => .finish s 0 (reply c s) none }

/-- An opcode of one step. -/
def stepOp (code cls : Nat) (check : Cmd → State → Nat) (run : Cmd → State → StepRes) : OpDef :=
  { code := code, cls := cls, role := roleOf code, n := 1, objs := objsOf code, check := check, run := run }

end Sys2Proof.Machine
end

