-- ==== Sys2Proof/Machine/Sessions.lean ====
section
/-! DEFINITION. The session opcodes (Table 03-2), the journal opcodes (Table 03-16) and the events of sessions,
reassemblies, the journal buffer and the SPI host port. -/

namespace Sys2Proof.Machine

/-! Opening (R47, R49, R89). -/

/-- The next epoch: 0x0001 to 0xFFFF, then 0x0001 again (R46). -/
def nextEpoch (e : Nat) : Nat := if e + 1 < 0x10000 ∧ 0 < e + 1 then e + 1 else 1

/-- `n` bytes from the random source (R47, log 11). -/
def randomBytes (n from_ : Nat) : List Byte := (List.range n).map fun i => Config.randomByte (from_ + i)

/-- A source is LOCKED_OUT: less than 60 s since its third failure (R49). -/
def lockedOut (src : Src) (s : State) : Bool :=
  s.host.lockouts.any fun l => l.1 == originOf src && decide (s.time.elapsed < l.2 + ms 60000)

/-- Index of the lowest free slot. -/
def freeSlot (s : State) : Option Nat := s.host.sessions.findIdx? (fun x => !x.isOpen)

/-- The refusals of SESSION_OPEN in the order of R49; 0 where none applies. -/
def openStatus (src : Src) (p : List Byte) (s : State) : Nat :=
  firstOf [when_ (lockedOut src s) stLockedOut, when_ (p.length != 18) stParamSize, when_ (decide (3 < byteAt p 0)) stBadEnum,
    when_ (decide (byteAt p 1 = 0 ∨ 120 < byteAt p 1)) stOutOfRange, when_ (freeSlot s).isNone stNoSession,
    when_ (freeCapacity s == 0) stNoTagCapacity]

/-- The slot taken by a SESSION_OPEN (R47). -/
def openedSession (src : Src) (p : List Byte) (s : State) : Session :=
  { sessionReset with isOpen := true, epoch := nextEpoch s.host.epochCounter, src := src, wantRole := byteAt p 0,
                      window := min (byteAt p 1) (freeCapacity s), challenge := randomBytes 16 s.host.randoms,
                      nonce := slice p 2 16, lastAt := s.time.elapsed, openedAt := s.time.elapsed }

/-- SESSION_OPEN as a packet: steps 1 to 5 of Table 02-3, then R49. It takes no journal entry (log 15). -/
def sessionOpenPacket (r : Req) (p : List Byte) (s0 : State) : State :=
  let s := takeBuffer r 1 p s0
  if !readable r 1 p s0 then s
  else if headerStatus r p ≠ 0 then reject r 1 (headerStatus r p) true [] s
  else
    let st := openStatus r.src p s
    let rep := { replyOf r 1 st [] with session := 0 }
    if st ≠ 0 then sendReply r.src (rep.packet 0 false) s
    else
      let i := (freeSlot s).getD 0
      let x := openedSession r.src p s
      let ps := be 2 (i + 1) ++ be 2 x.epoch ++ be 1 x.window ++ be 1 0 ++ be 4 (pNat s 0x0111) ++ x.challenge
      let h := { s.host with sessions := modAt s.host.sessions i (fun _ => x), epochCounter := x.epoch, randoms := s.host.randoms + 16 }
      sendReply r.src ({ rep with params := ps }.packet x.epoch false) { s with host := h }

/-- SESSION_OPEN (R47). -/
def execSessionOpen (r : Req) (p : List Byte) (s : State) : Result := .next (sessionOpenPacket r p s)

/-! Authentication (R47, R48). -/

/-- The first 16 bytes of HMAC-SHA-256 over Table 02-4. -/
def proof (key challenge nonce : List Byte) (session epoch role dir : Nat) : List Byte :=
  (hmac key (challenge ++ nonce ++ be 2 session ++ be 2 epoch ++ be 1 role ++ be 1 dir)).take 16

/-- The key of a role (R47). -/
def roleKey (s : State) (role : Nat) : List Byte := s.cfg.roleKeys.getD role (zeros 32)

/-- An AUTH_FAILED result counted against a source; the third within 60 s locks it out, and so does each further one while three lie
within 60 s, for 60 s from it (R49, log 182). -/
def countFailure (src : Src) (s : State) : State :=
  let o := originOf src
  let t := s.time.elapsed
  let fs := s.host.fails.filter (fun f => decide (t ≤ f.2 + ms 60000)) ++ [(o, t)]
  let h := { s.host with fails := fs }
  if 3 ≤ (fs.filter (fun f => f.1 == o)).length then
    { s with host := { h with lockouts := (h.lockouts.filter (fun l => l.1 != o)) ++ [(o, t)] } }
  else { s with host := h }

/-- Another session holds COMMISSIONER (R48). -/
def commissionerHeld (slot : Nat) (s : State) : Bool :=
  (List.range 8).any fun i => i + 1 != slot && (match openSlot s (i + 1) with
    | some x => x.authed && x.role == 3
    | none => false)

/-- SESSION_AUTH's step: the proof is judged by the role key of that step (log 236). -/
def runAuth (c : Cmd) (s : State) : StepRes :=
  match openSlot s c.slot with
  | none => .abort s stUnknownSession
  | some x =>
    if x.authed then .abort s stInconsistent
    else
      let key := roleKey s x.wantRole
      if c.params ≠ proof key x.challenge x.nonce c.slot x.epoch x.wantRole 1 then .abort (countFailure c.src s) stAuthFailed
      else if x.wantRole = 3 ∧ commissionerHeld c.slot s then .abort s stRoleHeld
      else
        .finish (modSlot c.slot (fun y => { y with authed := true, role := x.wantRole }) s) 0
          (be 1 x.wantRole ++ be 1 0 ++ proof key x.challenge x.nonce c.slot x.epoch x.wantRole 2) none

/-- SESSION_AUTH. -/
def opSessionAuth : OpDef := stepOp 0x0002 1 (fun c _ => sizeIs 16 c) runAuth

/-- SESSION_AUTH (R48). -/
def execSessionAuth (r : Req) (p : List Byte) (s : State) : Result := .next (packetIn true opSessionAuth r p s)

/-! Resynchronisation (R68, R69). -/

/-- One entry of the SESSION_RESYNC reply. -/
def tagEntry (s : State) (t : Nat × TagState) : List Byte :=
  match t.2 with
  | .reassembling q .. => be 1 t.1 ++ be 3 0 ++ be 4 q ++ be 2 stFragmentError
  | .inFlight q _ _ e =>
    match findEntry s e with
    | some j => be 1 t.1 ++ be 1 j.state.code ++ be 1 j.k ++ be 1 j.n ++ be 4 q ++ be 2 0
    | none => be 1 t.1 ++ be 3 0 ++ be 4 q ++ be 2 0
  | .ended q _ _ _ js k n st => be 1 t.1 ++ be 1 js ++ be 1 k ++ be 1 n ++ be 4 q ++ be 2 st

/-- A tag still in flight. -/
def tagInFlight (t : Nat × TagState) : Bool :=
  match t.2 with
  | .inFlight .. => true
  | _ => false

/-- SESSION_RESYNC's step. The FRAGMENT_ERROR replies of the reassemblies it abandons leave before the new epoch (log 183). -/
def runResync (c : Cmd) (s : State) : StepRes :=
  match openSlot s c.slot with
  | none => .abort s stUnknownSession
  | some x =>
    let s0 := fieldU c.params 0 4
    let rebind := byteAt c.params 4 == 1
    let good := slice c.params 6 16 == proof (roleKey s x.role) x.challenge (be 4 s0 ++ zeros 12) c.slot x.epoch x.role 3
    if rebind && !good then .abort (countFailure c.src s) stAuthFailed
    else
      let ep := nextEpoch s.host.epochCounter
      let list := x.tags.flatMap (tagEntry s)
      let s1 := x.tags.foldl (fun s t => abandonTag c.slot t.1 stFragmentError s) s
      let upd (y : Session) : Session :=
        { setHigh (BitVec.ofNat 32 (s0 + 2 ^ 32 - 1)) y with
          epoch := ep, tags := y.tags.filter tagInFlight, src := if rebind then c.src else y.src }
      let s2 := modSlot c.slot upd { s1 with host := { s1.host with epochCounter := ep } }
      .finish s2 0 (be 2 ep ++ be 1 x.tags.length ++ be 1 0 ++ list) none

/-- SESSION_RESYNC. -/
def opSessionResync : OpDef := stepOp 0x0003 1
  (fun c _ => firstOf [sizeIs 22 c, when_ (decide (1 < byteAt c.params 4)) stBadEnum, zeroAt c 5 1,
    when_ (byteAt c.params 4 == 0 && !allZero (slice c.params 6 16)) stOutOfRange]) runResync

/-- SESSION_RESYNC (R68). -/
def execSessionResync (r : Req) (p : List Byte) (s : State) : Result := .next (packetIn true opSessionResync r p s)

/-- The index of the period in progress; before the first boundary the index R16 gives the instant (log 16). -/
def periodIndex (s : State) : Nat :=
  if s.grid.running then s.grid.period else (s.time.total - pNat s 0x0103) / max 1 (vpNs s)

/-- SESSION_PING. -/
def opSessionPing : OpDef := readOp 0x0004 1 0 (fun _ _ => 0) (fun _ s => be 8 (periodIndex s))

/-- SESSION_PING (R50). -/
def execSessionPing (r : Req) (p : List Byte) (s : State) : Result := .next (packetIn true opSessionPing r p s)

/-- SESSION_CLOSE: the reply is sent, then the slot closes (R90; the closing is in `runCmd`). -/
def opSessionClose : OpDef := readOp 0x0005 1 0 (fun _ _ => 0) (fun _ _ => [])

/-- SESSION_CLOSE (R50, R51, R90). -/
def execSessionClose (r : Req) (p : List Byte) (s : State) : Result := .next (packetIn true opSessionClose r p s)

/-- TAG_ABORT's step (R77): the state and the reply. A step already begun runs on. Its own tag or a class 0 command is reported and left
as it is (log 184); after an abandonment or an end the reply gives the state then reached (log 185). -/
def runAbort (c : Cmd) (s : State) : StepRes :=
  let tag := byteAt c.params 0
  match (openSlot s c.slot).bind (fun x => keyGet tag x.tags) with
  | none => .finish s 0 (be 6 0) none
  | some (.ended _ _ _ _ js k n st) => .finish s 0 (be 1 js ++ be 1 k ++ be 1 n ++ be 1 0 ++ be 2 st) none
  | some (.reassembling ..) => .finish (abandonTag c.slot tag stAbortedByHost s) 0 (be 4 0 ++ be 2 stAbortedByHost) none
  | some (.inFlight _ _ _ e) =>
    match findCmd s e with
    | none => .finish s 0 (be 6 0) none
    | some d =>
      let js := match findEntry s e with | some j => j.state.code | none => 0
      if e = c.entry ∨ d.cls = 0 then .finish s 0 (be 1 js ++ be 1 d.k ++ be 1 d.n ++ be 1 0 ++ be 2 0) none
      else if d.busy then
        .finish (modCmd e (fun d => { d with abort := true }) s) 0 (be 1 js ++ be 1 d.k ++ be 1 d.n ++ be 1 0 ++ be 2 0) none
      else .finish (endCmd d .aborted d.k stAbortedByHost [] none s) 0
        (be 1 5 ++ be 1 d.k ++ be 1 d.n ++ be 1 0 ++ be 2 stAbortedByHost) none

/-- TAG_ABORT. -/
def opTagAbort : OpDef := stepOp 0x0006 1
  (fun c _ => firstOf [sizeIs 1 c, when_ (decide (127 < byteAt c.params 0)) stOutOfRange]) runAbort

/-- TAG_ABORT (R77). -/
def execTagAbort (r : Req) (p : List Byte) (s : State) : Result := .next (packetIn true opTagAbort r p s)

/-! The journal opcodes (R76, R117). -/

/-- The entries a journal query can see. -/
def entries (s : State) : List JEntry := s.host.journal.map (·.cur)

/-- The block of a query that matches no entry (R76). -/
def noEntry (session epoch tag seq : Nat) : List Byte :=
  let b := be 2 session ++ be 2 epoch ++ be 1 tag ++ zeros 3 ++ be 4 seq ++ zeros 48
  b ++ be 4 (crcNat b)

/-- JOURNAL_QUERY. -/
def opJournalQuery : OpDef := readOp 0x0D01 1 10 (fun c _ => zeroAt c 5 1) fun c s =>
  let n := fieldU c.params 0 2
  let ep := fieldU c.params 2 2
  let tg := fieldU c.params 4 1
  let q := fieldU c.params 6 4
  match (entries s).reverse.find? (fun j => j.session == n && j.epoch == ep && j.tag == tg && j.seq == q) with
  | some j => j.bytes
  | none => noEntry n ep tg q

/-- JOURNAL_QUERY (R76). -/
def execJournalQuery (r : Req) (p : List Byte) (s : State) : Result := .next (packetIn true opJournalQuery r p s)

/-- JOURNAL_LIST. -/
def opJournalList : OpDef := readOp 0x0D02 3 10
  (fun c _ => when_ (decide (fieldU c.params 8 2 = 0 ∨ 1024 < fieldU c.params 8 2)) stOutOfRange) fun c s =>
    let l := ((entries s).filter (fun j => j.session == fieldU c.params 0 2 && j.epoch == fieldU c.params 2 2 &&
      decide (fieldU c.params 4 4 ≤ j.entry))).take (fieldU c.params 8 2)
    be 2 l.length ++ be 2 0 ++ l.flatMap (·.bytes)

/-- JOURNAL_LIST (R117). -/
def execJournalList (r : Req) (p : List Byte) (s : State) : Result := .next (packetIn true opJournalList r p s)

/-- JOURNAL_REJECTS. -/
def opJournalRejects : OpDef := readOp 0x0D03 1 2
  (fun c s => when_ (slotNo s (fieldU c.params 0 2)).isNone stUnknownObject) fun c s =>
    let x := (slotNo s (fieldU c.params 0 2)).getD sessionReset
    be 4 x.rejCount ++ padTo 20 x.rejLast

/-- JOURNAL_REJECTS (R76). -/
def execJournalRejects (r : Req) (p : List Byte) (s : State) : Result := .next (packetIn true opJournalRejects r p s)

/-! Expiries. Each row says that its instant has come; where the state holds no such timer nothing happens (log 5). -/

/-- The reassembly a tag holds: instants of its first and latest fragment. -/
def reassemblyOf (s : State) (slot tag : Nat) : Option (Nat × Nat) :=
  match (openSlot s slot).bind (fun x => keyGet tag x.tags) with
  | some (.reassembling _ _ _ _ _ t0 t1 _) => some (t0, t1)
  | _ => none

/-- FRAG_GAP_EXPIRY (R61); it runs in SLEEP too (log 231). -/
def execFragGapExpiry (slot : Fin 8) (tag : Fin 128) (s : State) : Result :=
  match reassemblyOf s (slot.val + 1) tag.val with
  | some (_, t1) => .next (abandonTag (slot.val + 1) tag.val stFragmentError (elapseTo (t1 + ms (pNat s 0x0112)) s))
  | none => .next s

/-- FRAG_TOTAL_EXPIRY (R61); it runs in SLEEP too (log 231). -/
def execFragTotalExpiry (slot : Fin 8) (tag : Fin 128) (s : State) : Result :=
  match reassemblyOf s (slot.val + 1) tag.val with
  | some (t0, _) => .next (abandonTag (slot.val + 1) tag.val stFragmentError (elapseTo (t0 + ms (pNat s 0x0113)) s))
  | none => .next s

/-- SESSION_EXPIRED (Table 17-7): session, cause 0 idle or 1 not authenticated, epoch. -/
def expire (slot cause : Nat) (x : Session) (s : State) : State :=
  closeSession slot (record .sessionExpired (be 1 slot ++ be 1 cause ++ be 2 x.epoch) s)

/-- SESSION_IDLE_EXPIRY (R50). -/
def execSessionIdleExpiry (slot : Fin 8) (s : State) : Result :=
  match openSlot s (slot.val + 1) with
  | some x => if awake s then .next (expire (slot.val + 1) 0 x (elapseTo (x.lastAt + ms (pNat s 0x0111)) s)) else .next s
  | none => .next s

/-- AUTH_TIMEOUT (R49). -/
def execAuthTimeout (slot : Fin 8) (s : State) : Result :=
  match openSlot s (slot.val + 1) with
  | some x =>
    if awake s && !x.authed then .next (expire (slot.val + 1) 1 x (elapseTo (x.openedAt + ms 5000) s)) else .next s
  | none => .next s

/-- LOCKOUT_EXPIRY (R49). -/
def execLockoutExpiry (src : Src) (s : State) : Result :=
  match s.host.lockouts.find? (fun l => l.1 == originOf src) with
  | some l =>
    let s1 := elapseTo (l.2 + ms 60000) s
    .next { s1 with host := { s1.host with lockouts := s1.host.lockouts.filter (fun m => m.1 != originOf src) } }
  | none => .next s

/-- INTERIM_ACCEPTED_REPLY (R64, R83): once, to a command of class 1 to 3 that has not ended 1 ms after validation. -/
def execInterimAcceptedReply (entry : Nat) (s : State) : Result :=
  match findCmd s entry, findEntry s entry with
  | some c, some j =>
    if c.cls = 0 ∨ c.interim then .next s
    else
      let s1 := elapseTo (c.validElapsed + ms 1) s
      .next (sendFor c (if j.k = 0 then stAccepted else stPartial) (progressBytes j)
        (modCmd entry (fun c => { c with interim := true }) s1))
  | _, _ => .next s

/-- The journal buffer is written out (R72). -/
def flushJournal (s : State) : State :=
  { s with host := { s.host with journal := s.host.journal.map fun j => { j with mram := some j.cur } } }

/-- JOURNAL_BUFFER_FLUSH (R72); held while the brown-out warning is raised (R529). -/
def execJournalBufferFlush (s : State) : Result := .next (if bowRaised s then s else flushJournal s)

/-! The SPI host port (R39, R118 to R121). -/

/-- WRITE_PACKET (R39): into an inbound buffer; discarded with INBOUND_OVERRUN where both are occupied, discarded
where the transaction ends on an incomplete byte (R554) or the device sleeps (R517). While firmware runs, validation has freed the buffers before
the first packet that it does not discard silently (steps 1 to 3 of Table 02-3). -/
def execWritePacket (data : List Byte) (whole : Bool) (s : State) : Result :=
  if !whole || !(s.pwr.state == .run || s.pwr.state == .idle) then .next s
  else
    let held := if awake s then s.host.spiIn.dropWhile discards else s.host.spiIn
    if held.length < 2 then .next { s with host := { s.host with spiIn := held ++ [data] } }
    else .next { s with host := { s.host with inOverrun := true } }

/-- READ_PACKET (R39): a 2-byte length, then the oldest reply, which leaves the queue once clocked out whole. -/
def execReadPacket (clocked : Nat) (s : State) : Result :=
  match s.host.spiOut with
  | [] => .next (emit (.reply .spi 0 (be 2 0)) s)
  | q :: qs =>
    if clocked < q.length + 2 then .next s
    else .next (emit (.reply .spi 0 (be 2 q.length ++ q)) { s with host := { s.host with spiOut := qs } })

/-- ARP_ICMP_REQUEST (R38): answered. -/
def execArpIcmpRequest (portB : Bool) (ip : BitVec 32) (arp : Bool) (s : State) : Result :=
  .next (if awake s then emit (.icmp portB ip arp) s else s)

end Sys2Proof.Machine
end

