-- ==== Sys2Proof/Machine/Table.lean ====
section
/-! DEFINITION. The writable tables of the configuration (R92, R95), CONFIG_CRC (R94) and REVISION (R7). -/

namespace Sys2Proof.Machine

/-- A writable table: LIVE and MAX_LEN. -/
structure TabDef where
  id : Nat
  live : Bool
  maxLen : Nat
  deriving DecidableEq, Repr

/-- The writable tables in ascending TABLE_ID, with the longest body each admits. -/
def tabDefs : List TabDef :=
  [⟨0x0200, true, 196608⟩, ⟨0x0201, false, 2048⟩, ⟨0x0202, false, 576⟩, ⟨0x0203, false, 128⟩, ⟨0x0204, true, 196608⟩,
   ⟨0x0260, true, 768⟩] ++ ((List.range 16).map fun i => ⟨0x0270 + i, true, 512⟩) ++
  [⟨0x0290, false, 256⟩, ⟨0x0291, false, 128⟩, ⟨0x0292, true, 24576⟩, ⟨0x0293, false, 64⟩, ⟨0x0294, true, 12288⟩,
   ⟨0x0360, false, 256⟩, ⟨0x0361, false, 64⟩] ++ ((List.range 8).map fun i => ⟨0x0362 + i, false, 368628⟩) ++
  [⟨0x036A, false, 2048⟩, ⟨0x036B, false, 256⟩, ⟨0x036C, true, 144⟩, ⟨0x0390, true, 144⟩, ⟨0x0391, true, 144⟩,
   ⟨0x0392, false, 432⟩, ⟨0x0393, true, 8192⟩, ⟨0x0394, true, 32⟩, ⟨0x0395, true, 512⟩, ⟨0x03A0, false, 2048⟩,
   ⟨0x03A1, true, 17408⟩, ⟨0x0400, true, 4096⟩, ⟨0x0700, false, 16352⟩, ⟨0x0701, false, 128⟩, ⟨0x0B20, false, 4096⟩]

/-- The definition of a TABLE_ID. -/
def tabDef (id : Nat) : Option TabDef := tabDefs.find? fun d => d.id == id

/-- A parameter that CONFIG_CRC leaves out (R94): option-store items, one-shot requests, log and replay parameters. -/
def outsideCrc (id : Nat) : Bool :=
  id == 0x0110 || id == 0x0710 || id == 0x0252 || id == 0x02A0 || decide (0x0359 ≤ id ∧ id ≤ 0x035D)

/-- The byte string of R94 over given parameters and tables. -/
def crcString (params : List (Nat × Value)) (tabs : List (Nat × List Byte)) : List Byte :=
  ((paramDefs.filter fun d => !outsideCrc d.id).flatMap fun d => be 2 d.id ++ be 8 (valueIn params d.id).toNat) ++
    tabDefs.flatMap fun d => let b := (keyGet d.id tabs).getD []; be 2 d.id ++ be 4 b.length ++ b

/-- CONFIG_CRC of the configuration in force. -/
def configCrc (s : State) : Nat := crcNat (crcString s.cfg.force s.cfg.forceTabs)

/-- REVISION (R7): silicon A, minor 0, and FW_BUILD, zero while firmware does not run (R8, R9). -/
def revision (s : State) : Nat := 0x41000000 + (if fwRunning s then s.pwr.fwBuild.toNat else 0)

end Sys2Proof.Machine
end

