-- ==== Sys2Proof/Machine/Casc.lean ====
section
/-! DEFINITION. The cascade link's frames (R414 to R416): building one, the ports it leaves on, and sending it. -/

namespace Sys2Proof.Machine

/-- The device number (R419). -/
def deviceNo (s : State) : Nat := if s.cfg.groupDev ≤ 3 then s.cfg.groupDev else s.pwr.straps.toNat / 32 % 4

/-- The cascade ports run: RUN and IDLE, from the system steps on. -/
def cascUp (s : State) : Bool :=
  (s.pwr.state == .run || s.pwr.state == .idle) && (match s.pwr.boot with
    | .inReset .core => true
    | .inReset _ => false
    | .loading => false
    | _ => true)

/-- A link is UP (R413). -/
def linkUp (s : State) (port : Nat) : Bool := cascUp s && at_ false s.grp.links port

/-- What is known of device `d`. -/
def peerOf (s : State) (d : Nat) : Peer := at_ peerReset s.grp.peers d

/-- The ports a frame leaves on (R415): both for a broadcast; for one device the shorter path, UP on equal paths, the
intact one where the other is broken. A distance not yet learned counts as longest. -/
def portsTo (s : State) (dst : Nat) : List Nat :=
  let up := linkUp s 0
  let dn := linkUp s 1
  if dst = 0xFF then (if up then [0] else []) ++ (if dn then [1] else [])
  else
    let p := peerOf s dst
    if up && (!dn || decide (p.upDist.getD 4 ≤ p.downDist.getD 4)) then [0] else if dn then [1] else []

/-- The 16-byte header and payload of a frame with its CRC-32C trailer (Table 14-1). -/
def cascFrame (typ src dst hops seq period : Nat) (payload : List Byte) : List Byte :=
  let b := be 1 typ ++ be 1 src ++ be 1 dst ++ be 1 hops ++ be 2 payload.length ++ be 2 seq ++ be 8 period ++ payload
  b ++ be 4 (crcNat b)

/-- Priority of a message (Table 14-2). -/
def cascPrio (typ : Nat) : Nat :=
  if typ = 0x01 ∨ typ = 0x02 then 1 else if typ = 0x10 then 2 else if typ = 0x40 ∨ typ = 0x41 then 3 else 0

/-! Transmit queues (R416): one per port and priority. -/

/-- Nanoseconds that a frame takes on a lane: 10 Gbit/s after 64b/66b coding (R412). -/
def frameNs (f : TxFrame) : Nat := (8 * f.bytes.length + 9) / 10

/-- The frame that a port sends next: the oldest of the highest priority waiting for it. -/
def nextTx (port : Nat) (q : List TxFrame) : Option TxFrame :=
  (List.range 4).findSome? fun pr => q.find? fun f => f.port == port && cascPrio f.typ == pr

/-- A port that is free by now sends what waits for it, each frame when the one before it has ended. -/
def drainPort : Nat → State → Nat → State
  | 0, s, _ => s
  | n + 1, s, port =>
    let free := at_ 0 s.grp.txFree port
    match nextTx port s.grp.txq with
    | some f =>
      if s.time.elapsed < free then s
      else
        let t := { s with grp := { s.grp with txq := s.grp.txq.erase f, txFree := modAt s.grp.txFree port fun _ => free + frameNs f } }
        drainPort n (emit (.casc port f.dst f.typ (cascPrio f.typ) f.bytes) t) port
    | none => s

/-- Both ports send what their queues let them by now (log 226). -/
def drainCasc (s : State) : State := [0, 1].foldl (fun s p => drainPort s.grp.txq.length s p) s

/-- A frame is queued on a port; a port at rest sends it at once. -/
def queueCasc (f : TxFrame) (s : State) : State :=
  let s1 := drainCasc s
  drainCasc { s1 with grp := { s1.grp with txq := s1.grp.txq ++ [f], txFree := s1.grp.txFree.map (max s1.time.elapsed) } }

/-- A message is sent carrying a period: one SEQ per SRC and TYPE (Table 14-1), on the ports of R415. -/
def sendCascOf (period typ dst : Nat) (payload : List Byte) (s : State) : State :=
  let q := ((keyGet typ s.grp.txSeq).getD 0)
  let s1 := { s with grp := { s.grp with txSeq := keyPut typ ((q + 1) % 65536) s.grp.txSeq } }
  let f := cascFrame typ (deviceNo s) dst 3 q period payload
  (portsTo s dst).foldl (fun s p => queueCasc ⟨p, dst, typ, f⟩ s) s1

/-- A message is sent now. -/
def sendCasc (typ dst : Nat) (payload : List Byte) (s : State) : State := sendCascOf (periodIndex s) typ dst payload s

/-- ANNOUNCE (R415): number, role, owning state, a zero byte, CONFIG_CRC and highest command epoch (the layout is the model's, log 57). -/
def announce (s : State) : State :=
  sendCasc 0x01 0xFF (be 1 (deviceNo s) ++ be 1 s.grp.role ++ be 1 (b2n s.grp.owns) ++ be 1 0 ++ be 4 (configCrc s) ++ be 2 s.grp.epoch)
    { s with grp := { s.grp with lastAnnounce := s.time.elapsed } }

/-- A follower's time source is the cascade (R142): the device is not the MASTER of its group. -/
def isFollower (s : State) : Bool := s.grp.role != 0

end Sys2Proof.Machine
end

