-- ==== Sys2Proof/Machine/Signals.lean ====
section
/-! DEFINITION. The signal table (R235 to R239): publishing a value, the latest value and the value a snapshot takes. -/

namespace Sys2Proof.Machine

/-- A signal is published. -/
def publishAs (id : Nat) (v : SigVal) (s : State) : State :=
  { s with sig := { s.sig with tab := keyPut id (v :: (keyGet id s.sig.tab).getD []) s.sig.tab } }

/-- A signal is published now, with no validity stamp of its own. -/
def publish (id : Nat) (v : Value) (s : State) : State := publishAs id ⟨v, false, s.time.total, none, none, none⟩ s

/-- The latest publication. -/
def latest (s : State) (id : Nat) : Option SigVal := ((keyGet id s.sig.tab).getD []).head?

/-- The latest publication whose arrival stamp is strictly earlier than an instant (R21). -/
def before (s : State) (id at_ : Nat) : Option SigVal := ((keyGet id s.sig.tab).getD []).find? (fun v => decide (v.arr < at_))

/-- The producer marks a publication invalid at an instant: from the start, or since an earlier instant (Table 08-2). -/
def SigVal.badBy (v : SigVal) (at_ : Int) : Bool := v.fault || (v.badAt.map fun t => decide ((t : Int) < at_)).getD false

/-- The producer marks the latest value of a signal invalid from now on; value, stamps and age stay (R180, R238). -/
def markBad (id : Nat) (s : State) : State :=
  let mark : List SigVal → List SigVal
    | v :: vs => { v with badAt := v.badAt <|> some s.time.total } :: vs
    | [] => []
  { s with sig := { s.sig with tab := s.sig.tab.map fun e => if e.1 = id then (e.1, mark e.2) else e } }

/-- A signal's producer starts again: no value has been published since (Table 08-2). -/
def startSignal (id : Nat) (s : State) : State := { s with sig := { s.sig with tab := keyDel id s.sig.tab } }

/-- The latest value as f32, zero where nothing is published. -/
def sigF32 (s : State) (id : Nat) : F32 := ((latest s id).map (fun v => valF32 v.value)).getD 0

/-- The latest value as u32, zero where nothing is published. -/
def sigU32 (s : State) (id : Nat) : Nat := ((latest s id).map (fun v => valU32 v.value)).getD 0

/-- Publications no later snapshot can need are forgotten: all older than the newest one before `at_` (R33). -/
def pruneBefore (at_ : Nat) : List SigVal → List SigVal
  | [] => []
  | v :: vs => if v.arr < at_ then [v] else v :: pruneBefore at_ vs

/-- The table with each signal's history pruned. -/
def pruneSignals (at_ : Nat) (s : State) : State :=
  { s with sig := { s.sig with tab := s.sig.tab.map fun e => (e.1, pruneBefore at_ e.2) } }

/-- A signal ceases to exist with its producer (R235). -/
def dropSignal (id : Nat) (s : State) : State := { s with sig := { s.sig with tab := keyDel id s.sig.tab, kept := keyDel id s.sig.kept } }

end Sys2Proof.Machine
end

