-- ==== Sys2Proof/Machine/Gnss.lean ====
section
/-! DEFINITION. The GNSS baseband (chapter 05): front ends, AGC, notches, jamming, channels, measurement epochs,
solutions, baselines, corrections and the GNSS opcodes (Table 03-7). What the antennas receive comes in with the rows. -/

namespace Sys2Proof.Machine

/-- The baseband's domains run: after baseband start, in RUN and IDLE. -/
def gnssUp (s : State) : Bool := s.gnss.on && (s.pwr.state == .run || s.pwr.state == .idle)

/-- Change a band. -/
def modBand (b : Nat) (f : Band → Band) (s : State) : State :=
  { s with gnss := { s.gnss with bands := modAt s.gnss.bands b f } }

/-- Change a channel. -/
def modChan (c : Nat) (f : Chan → Chan) (s : State) : State :=
  { s with gnss := { s.gnss with chans := modAt s.gnss.chans c f } }

/-- Band `b`. -/
def bandOf (s : State) (b : Nat) : Band := at_ bandReset s.gnss.bands b

/-- Channel `c`. -/
def chanOf (s : State) (c : Nat) : Chan := at_ chanReset s.gnss.chans c

/-- Band 0 or 1 of a SIGNAL (Table 05-1). -/
def signalBand (sg : Nat) : Nat := if sg = 1 ∨ sg = 3 ∨ sg = 5 ∨ sg = 7 then 1 else 0

/-- The antenna band a channel listens to. -/
def Chan.band (c : Chan) : Nat := 2 * c.ant + signalBand c.signal

/-- GNSS_CONST bit of a SIGNAL. -/
def signalSystem (sg : Nat) : Nat := at_ 0 [0, 0, 1, 1, 2, 2, 3, 3, 4] sg

/-- A SIGNAL tracks a pilot (Table 05-1). -/
def hasPilot (sg : Nat) : Bool := !(sg == 0 || sg == 6 || sg == 8)

/-- SVID belongs to the signal's system (R154). -/
def svidOk (sg v : Nat) : Bool :=
  match signalSystem sg with
  | 0 => decide (1 ≤ v ∧ v ≤ 32)
  | 1 => decide (1 ≤ v ∧ v ≤ 36)
  | 2 => decide (1 ≤ v ∧ v ≤ 63)
  | 3 => decide (193 ≤ v ∧ v ≤ 202)
  | _ => decide (120 ≤ v ∧ v ≤ 158)

/-- The source that disciplines the time base: 0 the cascade, 1 GNSS, 2 PTP, 3 PPS_IN; none for NONE (R142). -/
def timeSource (s : State) : Option Nat :=
  if isFollower s then some 0 else if pNat s 0x0501 = 0 then none else some (pNat s 0x0501)

/-! Front ends (R150 to R152). -/

/-- FE_REFCLK in Hz: 10 MHz from the OCXO and the clock recovered from the cascade, 38.4 MHz from the TCXO and the crystal (R150). -/
def feRefClk (clkmode : Nat) : Nat := if clkmode = 0 ∨ clkmode = 3 then 10000000 else 38400000

/-- An entry of the front-end table is sent: NBYTES of DATA to ANTENNA, then the pause of DELAY_US (R152). -/
def sendEntry (e : List Byte) (s : State) : State := emit (.spiFe (byteAt e 0) ((slice e 4 4).take (byteAt e 1)) (fieldU e 2 2)) s

/-- The front-end table has been written: replays held back start again (R151). -/
def frontEndWritten (s : State) : State := { s with gnss := { s.gnss with replays := [], replayHeld := [] } }

/-- The entries of the front-end table for an antenna, sent in order (R152). -/
def sendFrontEnd (ant : Nat) (s : State) : State :=
  ((records 8 (tab s 0x0400)).filter (fun e => byteAt e 0 == ant)).foldl
    (fun s e => sendEntry e s) s

/-- Every entry, in table order, at baseband start (R152). -/
def startFrontEnd (s : State) : State :=
  (records 8 (tab s 0x0400)).foldl (fun s e => sendEntry e s) s

/-- Step 2 of TABLE_WRITE for table 0x0400 (R152). -/
def frontEndTableStatus (body : List Byte) : Nat :=
  if body.length % 8 ≠ 0 then stInconsistent
  else if body.length = 0 ∨ 4096 < body.length then stOutOfRange
  else if (records 8 body).all (fun e => decide (byteAt e 0 ≤ 2 ∧ 1 ≤ byteAt e 1 ∧ byteAt e 1 ≤ 4)) then 0
  else stOutOfRange

/-- A band enters BAND_FAULT: its channels stop, which their measurements show from the next epoch on, and GNSS_BAND_FAULT is recorded (R151). -/
def bandFault (b : Nat) (s : State) : State :=
  if (bandOf s b).fault then modBand b (fun x => { x with cleanSince := none }) s
  else
    let s1 := modBand b (fun x => { x with fault := true, faultSince := s.time.elapsed, cleanSince := none, replayed := false }) s
    record .gnssBandFault (be 1 b)
      { s1 with gnss := { s1.gnss with chans := s1.gnss.chans.map fun (c : Chan) =>
          if c.state ≠ 0 ∧ c.band = b then { c with state := 0, slipped := true, lockSince := none, lostAt := none, searchAt := none } else c } }

/-- A count of 100 ms is off by more than 61 (R150). -/
def countBad (count : Nat) : Bool := decide (count + 61 < 6144000 ∨ 6144000 + 61 < count)

/-- What the elastic buffer of 64 samples holds after 100 ms: CD4 has written a sample for each cycle counted and CD5 has read the nominal number
(R150); it starts half full (log 193). -/
def fillAfter (count : Nat) (fill : Int) : Int := fill + count - 6144000

/-- The buffer has slipped: it has run empty or over. -/
def slipped (fill : Int) : Bool := decide (fill < 0 ∨ 64 < fill)

/-- A GNSS domain is isolated, which puts every band in BAND_FAULT (R527). -/
def gnssIsolated (s : State) : Bool := s.pwr.isolated.getLsbD 4 || s.pwr.isolated.getLsbD 5

/-- One band's count at the end of 100 ms: the buffer follows it, and the band faults, as under isolation, or has been clean (R150, R151). -/
def checkBand (count b : Nat) (s : State) : State :=
  let f := fillAfter count (bandOf s b).fill
  let s1 := modBand b (fun x => { x with fill := if slipped f then 32 else f }) s
  if countBad count || slipped f || gnssIsolated s then bandFault b s1
  else modBand b (fun x => { x with cleanSince := x.cleanSince <|> some s1.time.elapsed }) s1

/-- BAND_CLOCK_CHECK (R150), every 100 ms: the clock cycles counted of each band, disabled ones too (log 20); a band the row leaves out has counted
the nominal number. -/
def execBandClockCheck (counts : List Nat) (s : State) : Result :=
  if !gnssUp s then .next s
  else
    let s1 := elapseTo (s.gnss.clockAt + ms 100) s
    let s2 := { s1 with gnss := { s1.gnss with clockAt := s1.time.elapsed } }
    .next ((List.range 6).foldl (fun s b => checkBand (counts.getD b 6144000) b s) s2)

/-- FRONT_END_REPLAY (R151): the fault has persisted for 1 s; after three replays of an antenna within 60 s no more. -/
def execFrontEndReplay (antenna : Fin 3) (s : State) : Result :=
  let a := antenna.val
  match [2 * a, 2 * a + 1].find? (fun b => (bandOf s b).fault && !(bandOf s b).replayed) with
  | none => .next s
  | some b =>
    if !gnssUp s || s.gnss.replayHeld.contains a then .next s
    else
      let s1 := elapseTo ((bandOf s b).faultSince + ms 1000) s
      let past := s1.gnss.replays.filter (fun r => r.1 == a && decide (s1.time.elapsed ≤ r.2 + ms 60000))
      let s2 := modBand b (fun x => { x with replayed := true }) (sendFrontEnd a s1)
      let held := if past.length + 1 < 3 then s2.gnss.replayHeld else a :: s2.gnss.replayHeld
      .next { s2 with gnss := { s2.gnss with replays := s2.gnss.replays ++ [(a, s2.time.elapsed)], replayHeld := held } }

/-- BAND_HEALTHY (R151): free of fault for 1 s; its channels return to acquisition. -/
def execBandHealthy (band : Fin 6) (s : State) : Result :=
  let x := bandOf s band.val
  match x.cleanSince with
  | none => .next s
  | some t =>
    if !x.fault || !gnssUp s then .next s
    else
      let s1 := elapseTo (t + ms 1000) s
      let s2 := modBand band.val (fun x => { x with fault := false, cleanSince := none, replayed := false }) s1
      .next { s2 with gnss := { s2.gnss with chans := s2.gnss.chans.map fun (c : Chan) =>
        if c.svid ≠ 0 ∧ c.state = 0 ∧ c.band = band.val then { c with state := 1 } else c } }

/-! AGC, notches, jamming (R153, R161, R162). -/

/-- The duty code one step on: up where H is above AGC_TARGET + 0.02, down where it is below AGC_TARGET − 0.02 (R153). -/
def agcStep (target : F32) (high total d : Nat) : Nat :=
  let h := Num.ofRat high (max 1 total)
  let lo := (num32 target).add (Num.ofRat (-2) 100)
  let hi := (num32 target).add (Num.ofRat 2 100)
  if hi.lt h then min 1023 (d + 1) else if h.lt lo then d - 1 else d

/-- Code c stands for the amplitude c + 0.5 (R149). -/
def sampleAmp (c : BitVec 4) : Num := (Num.ofInt c.toInt).add (Num.ofRat 1 2)

/-- A code at or above +4 or at or below −5: an amplitude of 4.5 or more either way (R149, R153). -/
def highCode (c : BitVec 4) : Bool := (Num.ofRat 9 2).le (sampleAmp c).abs

/-- I and Q codes of a millisecond that count toward H. -/
def highCount (codes : List Iq) : Nat := codes.foldl (fun n x => n + b2n (highCode x.i) + b2n (highCode x.q)) 0

/-- Every sample of the millisecond is the same (R150, log 194). -/
def stuckCodes (codes : List Iq) : Bool :=
  match codes with
  | x :: y :: r => (y :: r).all (· == x)
  | _ => false

/-- The median of counted values: the lower of the two middle ones for an even count (log 196). -/
def medianOf (half : Nat) : List (Nat × Nat) → Nat
  | [] => 0
  | [(d, _)] => d
  | (d, n) :: r => if half < n then d else medianOf (half - n) r

/-- d of R162, the mean duty code of the last 100 ms, in hundredths of a code (log 195). -/
def meanCode (x : Band) : Nat := x.dutySum * 100 / max 1 x.dutyCount

/-- One d counted toward the learned reference, complete after 600 s of them (R162). -/
def learnCode (dataChans : Nat) (x : Band) : Band :=
  if x.learned.isSome ∨ dataChans < 4 then x
  else
    let d := meanCode x
    let l := keyPut d ((keyGet d x.learn).getD 0 + 1) x.learn
    if x.learnCount + 1 < 6000 then { x with learn := l, learnCount := x.learnCount + 1 }
    else { x with learn := [], learnCount := 0, learned := some (medianOf 2999 l) }

/-- Channels of a band in DATA. -/
def dataChans (s : State) (b : Nat) : Nat := (s.gnss.chans.filter (fun c => c.state == 5 && c.band == b)).length

/-- AGC_UPDATE (R149, R150, R153), every 1 ms, with the samples of the millisecond: D moves toward AGC_TARGET, and samples all alike fault the band. -/
def execAgcUpdate (band : Fin 6) (codes : List Iq) (s : State) : Result :=
  if !gnssUp s then .next s
  else
    let b := band.val
    let s1 := elapseTo (s.gnss.agcAt.getD b 0 + ms 1) s
    let s2 := { s1 with gnss := { s1.gnss with agcAt := modAt s1.gnss.agcAt b (fun _ => s1.time.elapsed) } }
    let d := agcStep (pReal s 0x0413) (highCount codes) (2 * codes.length) (bandOf s b).duty
    let s3 := modBand b (fun x => { x with duty := d, dutySum := x.dutySum + d, dutyCount := x.dutyCount + 1 }) s2
    .next (if stuckCodes codes then bandFault b s3 else s3)

/-- Bin `i` of the 1,024-point spectrum lies at so many Hz from the band's centre: the bins are 60 kHz apart (R149, R161). -/
def binFreq (i : Nat) : Int := ((i : Int) - 512) * 60000

/-- Insert into an ascending list. -/
def insertF (x : F32) : List F32 → List F32
  | [] => [x]
  | y :: ys => if flt y x then y :: insertF x ys else x :: y :: ys

/-- The median of the bin powers: the lower of the two middle ones (log 196). -/
def medianBin (l : List F32) : F32 := (l.foldl (fun a x => insertF x a) []).getD ((l.length - 1) / 2) 0

/-- How far a bin stands above the median, dB. -/
def lineOver (spectrum : List F32) (i : Nat) : F32 := fsub (spectrum.getD i 0) (medianBin spectrum)

/-- A notch after following its line, which lies in a bin: what it becomes, and whether the phase is disturbed (R158, R161). -/
def notchFollow (thr : F32) (nowE : Nat) (n : Notch) (freq : Int) (level : F32) : Option Notch × Bool :=
  let moved := decide (100000 < (freq - n.freq).natAbs)
  if flt level (fsub thr (fofInt 3)) then
    let since := n.weakSince.getD nowE
    if since + ms 100 ≤ nowE then (none, true) else (some { freq := freq, weakSince := some since }, moved)
  else (some { freq := freq, weakSince := none }, moved)

/-- A bin more than 60 kHz from every engaged notch. -/
def clearOf (ns : List (Option Notch)) (i : Nat) : Bool :=
  ns.all fun n => match n with
    | some n => decide (60000 < (n.freq - binFreq i).natAbs)
    | none => true

/-- The strongest line above the threshold and clear of every engaged notch (R161). -/
def strongestFree (thr : F32) (overs : List F32) (ns : List (Option Notch)) : Option Nat :=
  (List.range overs.length).foldl (fun best i =>
    if !(flt thr (overs.getD i 0) && clearOf ns i) then best
    else match best with
      | some j => if flt (overs.getD j 0) (overs.getD i 0) then some i else best
      | none => some i) none

/-- Free notches engage, strongest line first. -/
def notchEngage (thr : F32) (overs : List F32) : Nat → List (Option Notch) → List (Option Notch) × Bool
  | 0, ns => (ns, false)
  | k + 1, ns =>
    match ns.findIdx? Option.isNone, strongestFree thr overs ns with
    | some i, some l => ((notchEngage thr overs k (modAt ns i (fun _ => some { freq := binFreq l, weakSince := none }))).1, true)
    | _, _ => (ns, false)

/-- The phase of every channel of a band is disturbed: carrier lock starts again, and the next epoch shows LOCK_LOSS (R158). -/
def disturb (b : Nat) (s : State) : State :=
  let hit (c : Chan) : Chan := if c.svid ≠ 0 ∧ c.band = b then { c with slipped := true, lockSince := none, phaseGood := none } else c
  { s with gnss := { s.gnss with chans := s.gnss.chans.map hit, bands := modAt s.gnss.bands b fun x => { x with disturbed := true } } }

/-- NOTCH_UPDATE (R158, R161), every 1 ms: the power spectrum of the band in dB, and for each engaged notch the bin its line has gone to. -/
def execNotchUpdate (band : Fin 6) (tracked : List Nat) (spectrum : List F32) (s : State) : Result :=
  if !gnssUp s then .next s
  else
    let b := band.val
    let s1 := elapseTo (s.gnss.notchAt.getD b 0 + ms 1) s
    let s2 := { s1 with gnss := { s1.gnss with notchAt := modAt s1.gnss.notchAt b (fun _ => s1.time.elapsed) } }
    let thr := pReal s 0x0411
    let enabled := bitOf (pNat s 0x0410) b
    let overs := (List.range spectrum.length).map (lineOver spectrum)
    let followed := (List.range 4).map fun i => match (bandOf s b).notches.getD i none, tracked[i]? with
      | none, _ => ((none : Option Notch), false)
      | some n, some k => if enabled then notchFollow thr s2.time.elapsed n (binFreq k) (overs.getD k 0) else (none, true)
      | some n, none => if enabled then notchFollow thr s2.time.elapsed n n.freq (overs.getD (n.freq / 60000 + 512).toNat 0) else (none, true)
    let ns := followed.map (·.1)
    let (ns', engaged) := if enabled then notchEngage thr overs 4 ns else (ns, false)
    let fifth := enabled && ns'.all Option.isSome && (strongestFree thr overs ns').isSome
    let s3 := modBand b (fun x => { x with notches := ns', fifth := fifth }) s2
    .next (if engaged || followed.any (·.2) then disturb b s3 else s3)

/-- The jamming indicator (R162): round(10 · max(0, g)) + 24 n, at most 255; `ref` in hundredths of a code. Rounding is half away from zero (log 21). -/
def jamValue (dbPerCode : F32) (sum count : Nat) (ref : Option Nat) (notches : Nat) : Nat :=
  let g : Num := match ref with
    | none => Num.ofInt 0
    | some r => ((Num.ofRat sum (max 1 count)).add (Num.ofRat (-(r : Int)) 100)).mul (num32 dbPerCode)
  let j := (((Num.ofInt 10).mul (if g.lt (Num.ofInt 0) then Num.ofInt 0 else g)).round?).getD 0
  min 255 (j.toNat + 24 * notches)

/-- The AGC reference of a band in hundredths of a code: AGC_REF_CODE, or what was learned where it is 65,535 (R162). -/
def agcRef (s : State) (b : Nat) : Option Nat :=
  if pNat s (0x0418 + b) = 65535 then (bandOf s b).learned else some (100 * pNat s (0x0418 + b))

/-- JAM_INDICATOR (R162), every 100 ms. -/
def execJamIndicator (band : Fin 6) (s : State) : Result :=
  if !gnssUp s then .next s
  else
    let b := band.val
    let s1 := elapseTo (s.gnss.jamAt.getD b 0 + ms 100) s
    let s2 := { s1 with gnss := { s1.gnss with jamAt := modAt s1.gnss.jamAt b (fun _ => s1.time.elapsed) } }
    let x := bandOf s b
    let n := (x.notches.filter Option.isSome).length + b2n x.fifth
    let j := jamValue (pReal s 0x0414) x.dutySum x.dutyCount (agcRef s b) n
    let e := s2.time.elapsed
    let judged (x : Band) : Band :=
      { x with jam := j, dutySum := 0, dutyCount := 0, jamSince := if pNat s 0x0412 ≤ j then x.jamSince <|> some e else none,
               calmSince := if j < pNat s 0x0412 - 20 then x.calmSince <|> some e else none }
    .next (modBand b (fun x => judged (learnCode (dataChans s b) x)) s2)

/-- GNSS_JAMMING (R162): set after 1 s at or above JAM_ALARM, cleared after 5 s below JAM_ALARM − 20. -/
def execGnssJamming (band : Fin 6) (s : State) : Result :=
  let x := bandOf s band.val
  match x.jammed, x.jamSince, x.calmSince with
  | false, some t, _ =>
    .next (record .gnssJamming (be 1 band.val ++ be 1 1)
      (modBand band.val (fun x => { x with jammed := true }) (elapseTo (t + ms 1000) s)))
  | true, _, some t =>
    .next (record .gnssJamming (be 1 band.val ++ be 1 0)
      (modBand band.val (fun x => { x with jammed := false }) (elapseTo (t + ms 5000) s)))
  | _, _, _ => .next s

/-! Channels (R155 to R159). -/

/-- Chips of a primary code (Table 05-1). -/
def codeLength (sg : Nat) : Nat := at_ 1023 [1023, 10230, 4092, 10230, 10230, 10230, 1023, 10230, 1023] sg

/-- Correlator spacing d in chips (CORR_SPACING). -/
def spacing (k : Nat) : Num := at_ (Num.ofRat 1 5) [Num.ofRat 1 10, Num.ofRat 1 5, Num.ofRat 1 2, Num.ofInt 1] k

/-- Code offset of tap `k` in chips: VE, E, P, L and VL at −d, −d/2, 0, d/2 and d; the prompt of the other component, or one delayed by 1.5 d
where the signal has one component; the noise tap half a primary code away (R155). -/
def tapOffset (sg : Nat) (d : Num) (k : Nat) : Num :=
  match k with
  | 0 => d.neg
  | 1 => d.neg.mul (Num.ofRat 1 2)
  | 2 => Num.ofInt 0
  | 3 => d.mul (Num.ofRat 1 2)
  | 4 => d
  | 5 => if hasPilot sg then Num.ofInt 0 else d.mul (Num.ofRat 3 2)
  | _ => Num.ofRat (codeLength sg) 2

/-- Chips per second of a primary code (Table 05-1). -/
def chipRate (sg : Nat) : Nat := if signalBand sg = 1 then 10230000 else 1023000

/-- Samples per second of a band (R149). -/
def sampleRate : Nat := 61440000

/-- A millisecond of a band's samples as the correlators see it: amplitudes in half steps, after the engaged notches (R149, R161). -/
def cleanSamples (b : Band) (xs : List Iq) : List (Int × Int) :=
  let amps := xs.map fun x => (2 * x.i.toInt + 1, 2 * x.q.toInt + 1)
  let fs := b.notches.filterMap fun n => n.map (·.freq)
  if fs.isEmpty then amps else Config.notched fs amps

/-- A phase after `k` samples at a rate per second. -/
def phaseAfter (ph rate : F64) (k : Nat) : F64 := dadd ph (ddiv (dmul rate (dofInt k)) (dofInt sampleRate))

/-- The I and Q sums of a tap over a millisecond: the samples turned back by the carrier, times the code of its component at its offset (R155). -/
def tapSum (c : Chan) (comp : Nat) (off : F32) (xs : List (Int × Int)) : Int × Int :=
  let one (a : Int × Int) (p : (Int × Int) × Nat) : Int × Int :=
    let w := Config.carrierReplica (phaseAfter c.trk.carrPh c.trk.carrHz p.2)
    let g := Config.codeReplica c.signal c.svid comp (dsub (phaseAfter c.trk.codePh c.trk.codeRate p.2) (f2d off))
    (a.1 + g * (p.1.1 * w.1 + p.1.2 * w.2), a.2 + g * (p.1.2 * w.1 - p.1.1 * w.2))
  (xs.zip (List.range xs.length)).foldl one (0, 0)

/-- A phase within one turn of length `n`. -/
def wrapPhase (n : Nat) (x : F64) : F64 :=
  let k := ((num64 (ddiv x (dofInt n))).floor?).getD 0
  dsub x (dofInt (k * n))

/-- The loops of a channel over a millisecond: its taps correlated, then the filters at their bandwidths set carrier and code for the next; the FLL of
10 Hz runs during pull-in (R155, R156). -/
def runLoops (s : State) (xs : List Iq) (c : Chan) : Tracker :=
  let offs := (List.range 7).map fun k => pack32 (tapOffset c.signal (spacing (pNat s 0x0406)) k)
  let ys := cleanSamples (bandOf s c.band) xs
  let sums := (List.range 7).map fun k => tapSum c (if k = 5 ∧ hasPilot c.signal = true then 1 else 0) (offs.getD k 0) ys
  let fll := if c.state = 2 then fofInt 10 else 0
  let f := Config.loopStep [pReal s 0x0407, fll, pReal s 0x0408] sums (c.trk.carrHz :: c.trk.codeRate :: c.trk.mem)
  { carrHz := f.getD 0 0, codeRate := f.getD 1 0, mem := f.drop 2, carrPh := wrapPhase 1 (phaseAfter c.trk.carrPh c.trk.carrHz 61440),
    codePh := wrapPhase (codeLength c.signal) (phaseAfter c.trk.codePh c.trk.codeRate 61440), offsets := offs, sums := sums,
    pll := pReal s 0x0407, fll := fll, dll := pReal s 0x0408 }

/-- The system and band of a channel are enabled: a disabled system is neither acquired nor used (R154). -/
def enabledChan (s : State) (c : Chan) : Bool := bitOf (pNat s 0x0401) (signalSystem c.signal) && bitOf (pNat s 0x0402) c.band

/-- A channel that has to be IDLE: its system or band is disabled, or 10 s of re-acquisition have found nothing (R154, R156). -/
def pruneChan (s : State) (c : Chan) : Chan :=
  let gaveUp := c.state == 1 && (c.lostAt.map fun t => decide (t + ms 10000 ≤ s.time.elapsed)).getD false
  if c.svid ≠ 0 ∧ (!enabledChan s c || gaveUp) = true then { c with state := 0, svid := 0, lockSince := none, lostAt := none, searchAt := none, flags := 0 } else c

/-- A channel after one millisecond of its loops (Table 05-2) over the samples of its band. A slip ends carrier lock, which is found
again as it was at first, after 100 ms of a good phase lock indicator (log 197). -/
def loopChan (s : State) (e : Nat) (samples : List (List Iq)) (o : LoopObs) (c : Chan) : Chan :=
  let weak := (Num.ofRat o.cn0 100).lt ((num32 (pReal s 0x0405)).add (Num.ofInt (-3)))
  let bad := (num32 o.phase).lt (Num.ofRat 1 2)
  let good := (Num.ofRat 8 10).lt (num32 o.phase)
  let c := { c with trk := runLoops s (samples.getD c.band []) c, cn0 := o.cn0, slipped := c.slipped || o.slip,
                    lockSince := if o.slip then none else c.lockSince,
                    weakSince := if weak then c.weakSince <|> some e else none,
                    phaseBad := if bad then c.phaseBad <|> some e else none,
                    settled := if o.settled then c.settled <|> some e else none,
                    phaseGood := if good && !o.slip then c.phaseGood <|> some e else none }
  let held (t : Option Nat) (n : Nat) : Bool := (t.map (fun t => decide (t + ms n ≤ e))).getD false
  let c := if 4 ≤ c.state ∧ c.lockSince = none ∧ held c.phaseGood 100 = true then { c with lockSince := some e } else c
  match c.state with
  | 2 => if held c.settled 200 then { c with state := 3, phaseGood := none } else c
  | 3 => if held c.phaseGood 100 then { c with state := 4, lockSince := some e } else c
  | 4 => if o.synced then { c with state := 5 } else c
  | _ => c

/-- The same satellite's L1-band signal is found on the same antenna (R159). -/
def l1Found (s : State) (t : SearchTarget) : Bool :=
  s.gnss.chans.any fun c => decide (2 ≤ c.state) && c.ant == t.ant && c.svid == t.svid && signalBand c.signal == 0 &&
    signalSystem c.signal == signalSystem t.signal

/-- A search may run for a target: system and band enabled, band healthy, SVID of the system, and an L5-band search
only after the L1-band signal is found (R154, R157, R159). -/
def searchable (s : State) (t : SearchTarget) : Bool :=
  decide (t.ant < 3 ∧ t.signal < 9) && bitOf (pNat s 0x0401) (signalSystem t.signal) && svidOk t.signal t.svid &&
    bitOf (pNat s 0x0402) (2 * t.ant + signalBand t.signal) && !(bandOf s (2 * t.ant + signalBand t.signal)).fault &&
    (signalBand t.signal == 0 || l1Found s t)

/-- Above ELEV_MASK. -/
def aboveMask (s : State) (elev : Nat) : Bool := (num32 (pReal s 0x0404)).lt (Num.ofRat elev 1000)

/-- An antenna that HEADING_PAIRS names. -/
def inPairs (s : State) (a : Nat) : Bool :=
  (List.range 3).any fun q => bitOf (pNat s 0x0430) q && (at_ [0, 1] [[0, 1], [0, 2], [1, 2]] q).contains a

/-- A channel lost lock within the last 10 s and searches for its signal again. -/
def lostNow (s : State) (c : Chan) : Bool := c.state == 1 && (c.lostAt.map fun t => decide (s.time.elapsed ≤ t + ms 10000)).getD false

/-- Priority that a channel holds: 1 while it re-acquires, else that of its assignment (R157). -/
def chanPrio (s : State) (c : Chan) : Nat := if lostNow s c then 1 else c.prio

/-- Priority of a request (R157): 2 satellites above ELEV_MASK on RTK_ANTENNA; 3 the same on the other antennas of HEADING_PAIRS, within CH_RESERVE
channels of each; 4 any other visible satellite; 5 blind search. Re-acquisition, which has its channel, comes before them. -/
def searchPrio (s : State) (t : SearchTarget) : Nat :=
  let held := (s.gnss.chans.filter fun c => c.state != 0 && c.prio == 3 && c.ant == t.ant).length
  if !t.visible then 5
  else if aboveMask s t.elev && t.ant == pNat s 0x0420 then 2
  else if aboveMask s t.elev && inPairs s t.ant && decide (held < pNat s 0x040B) then 3
  else 4

/-- The signal of a satellite on an antenna that a channel is assigned to. -/
def sameSignal (t : SearchTarget) (c : Chan) : Bool := c.ant == t.ant && c.signal == t.signal && c.svid == t.svid

/-- A request comes in, in place of an earlier one for the same signal; for a signal that a channel has there is nothing to ask. -/
def askSearch (s : State) (t : SearchTarget) : State :=
  if s.gnss.chans.any fun c => c.svid != 0 && sameSignal t c then s
  else { s with gnss := { s.gnss with asks := (s.gnss.asks.filter fun u => !(u.ant == t.ant && u.signal == t.signal && u.svid == t.svid)) ++ [t] } }

/-- Order of service: by priority, and the highest elevation first (R157). -/
def servedFirst (p q : Nat × Nat) : Bool := decide (p.1 < q.1) || (p.1 == q.1 && decide (q.2 < p.2))

/-- The request to be served next among those that may be searched for. -/
def firstAsk (s : State) : Option SearchTarget :=
  (s.gnss.asks.filter (searchable s)).foldl (fun best t => match best with
    | none => some t
    | some u => if servedFirst (searchPrio s t, t.elev) (searchPrio s u, u.elev) then some t else some u) none

/-- The channel for a request: the lowest unassigned one; when all 256 are busy, for priority 1 to 3 that of the lowest-elevation satellite of
priority 4 or 5 (R157). -/
def chanFor (s : State) (p : Nat) : Option Nat :=
  match s.gnss.chans.findIdx? fun c => c.state == 0 && c.svid == 0 with
  | some i => some i
  | none =>
    if 3 < p then none
    else (List.range 256).foldl (fun best i =>
      if chanPrio s (chanOf s i) < 4 then best
      else match best with
        | some j => if (chanOf s i).elev < (chanOf s j).elev then some i else best
        | none => some i) none

/-- The next request gets its channel, which enters ACQ; without one it waits (Table 05-2, R157). -/
def assignOne (s : State) : State :=
  match firstAsk s with
  | none => s
  | some t =>
    match chanFor s (searchPrio s t) with
    | none => s
    | some i =>
      modChan i (fun _ => { chanReset with state := 1, ant := t.ant, signal := t.signal, svid := t.svid, prio := searchPrio s t, elev := t.elev })
        { s with gnss := { s.gnss with asks := s.gnss.asks.filter (· != t) } }

/-- Searches that the acquisition engine runs. -/
def searching (s : State) : Nat := (s.gnss.chans.filter fun c => c.state == 1 && c.searchAt.isSome).length

/-- The engine takes up the next channel in ACQ, up to 16 at once, in the order of service (R159). -/
def searchOne (s : State) : State :=
  if 16 ≤ searching s then s
  else
    let next := (List.range 256).foldl (fun (best : Option Nat) i =>
      let c := chanOf s i
      if c.state != 1 || c.searchAt.isSome then best
      else match best with
        | some j => if servedFirst (chanPrio s c, c.elev) (chanPrio s (chanOf s j), (chanOf s j).elev) then some i else best
        | none => some i) none
    next.elim s fun i => modChan i (fun c => { c with searchAt := some s.time.elapsed }) s

/-- Requests get their channels and channels in ACQ their searches (R157, R159). -/
def serveSearches (s : State) : State :=
  let s1 := (List.range s.gnss.asks.length).foldl (fun s _ => assignOne s) s
  (List.range 16).foldl (fun s _ => searchOne s) s1

/-- A millisecond of the loop processor begins: channels that have to be IDLE are freed, and requests served. -/
def loopStart (asks : List SearchTarget) (s : State) : State :=
  let s1 := elapseTo (s.gnss.loopAt + ms 1) s
  let s2 := { s1 with gnss := { s1.gnss with loopAt := s1.time.elapsed, chans := s1.gnss.chans.map (pruneChan s1) } }
  serveSearches (asks.foldl askSearch s2)

/-- TRACKING_LOOP (R155 to R157), every 1 ms: the samples of the six antenna bands, what firmware asks to be searched for (log 198), and what the loops
of the channels observed judge. -/
def execTrackingLoop (samples : List (List Iq)) (asks : List SearchTarget) (obs : List LoopObs) (s : State) : Result :=
  if !gnssUp s then .next s
  else
    .next (obs.foldl (fun s o => modChan o.ch (fun c => if 2 ≤ c.state then loopChan s s.time.elapsed samples o c else c) s) (loopStart asks s))

/-- CHANNEL_LOSS_OF_LOCK (R156): C/N0 low for 1 s or phase bad for 200 ms; the channel returns to ACQ. -/
def execChannelLossOfLock (ch : Fin 256) (s : State) : Result :=
  let c := chanOf s ch.val
  let due := match c.weakSince, c.phaseBad with
    | some a, some b => some (min (a + ms 1000) (b + ms 200))
    | some a, none => some (a + ms 1000)
    | none, some b => some (b + ms 200)
    | none, none => none
  match due with
  | none => .next s
  | some t =>
    if c.state < 2 then .next s
    else
      let s1 := elapseTo t s
      .next (serveSearches (modChan ch.val (fun c => { c with state := 1, lostAt := some s1.time.elapsed, searchAt := none, lockSince := none, slipped := true,
                                                              weakSince := none, phaseBad := none, settled := none, phaseGood := none }) s1))

/-- Ephemeris or almanac of the satellite is held (R159, R160). -/
def satKnown (s : State) (t : SearchTarget) : Bool :=
  (s.gnss.eph ++ s.gnss.alm).any fun e => decide (e.1 / 64 % 256 = t.svid) && signalSystem (e.1 / 16384) == signalSystem t.signal

/-- Doppler bin 1/(2T) of a signal in Hz (Table 05-3). -/
def dopplerBin (sg : Nat) : Int := if sg = 2 then 125 else if sg = 4 then 50 else 500

/-- Coherent time of a dwell in milliseconds (Table 05-3). -/
def coherentMs (sg : Nat) : Nat := if sg = 2 then 4 else if sg = 4 then 10 else 1

/-- A dwell lasts ACQ_NONCOH sums of the coherent time (Table 05-3). -/
def dwellNs (s : State) (sg : Nat) : Nat := ms (coherentMs sg * max 1 (pNat s 0x040A))

/-- Doppler bins of a search on either side of its centre (R159). -/
def dopplerSpan (s : State) (sg : Nat) : Nat := (if signalBand sg = 1 then 500 else pNat s 0x0409) / (dopplerBin sg).toNat

/-- The Doppler that a search is centred on (R156, R159): the channel's last one in re-acquisition, what L1 predicts in the L5 band, the predicted one where
ephemeris or almanac is known, else 0 Hz. -/
def searchCentre (s : State) (c : Chan) (t : SearchTarget) : Int :=
  if lostNow s c then ((num64 c.trk.carrHz).round?).getD 0
  else if signalBand t.signal == 1 || satKnown s t then t.predicted
  else 0

/-- The cell lies in the search's window (R159): whole Doppler bins about the centre, and the full code period, or in the L5 band two chips about what
L1 predicts. -/
def inWindow (s : State) (ch : Nat) (t : SearchTarget) : Bool :=
  let d := t.doppler - searchCentre s (chanOf s ch) t
  decide (d % dopplerBin t.signal = 0) && decide (d.natAbs ≤ dopplerSpan s t.signal * (dopplerBin t.signal).toNat) &&
    (if signalBand t.signal == 1 then decide (t.halfChips.natAbs ≤ 4) else decide (t.halfChips.natAbs < 2 * codeLength t.signal))

/-- The instant a search ends: a detection needs its dwell and the second dwell at its cell, an exhausted search one for each bin (R159). -/
def searchEnd (s : State) (found : Bool) (c : Chan) : Option Nat :=
  c.searchAt.map fun t => t + (if found then 2 else 2 * dopplerSpan s c.signal + 1) * dwellNs s c.signal

/-- SEARCH_COMPLETE (R157, R159): a search of the channel ends. A detection confirmed by its second dwell enters PULL_IN at the cell's Doppler and code
phase; an exhausted search frees the channel, but re-acquisition is searched for again until 10 s have passed (R156). -/
def execSearchComplete (ch : Fin 256) (found : Bool) (target : SearchTarget) (s : State) : Result :=
  let c := chanOf s ch.val
  match searchEnd s found c with
  | none => .next s
  | some t =>
    let s1 := elapseTo t s
    let lock (c : Chan) : Chan :=
      { c with state := 2, elev := target.elev, lostAt := none, searchAt := none,
               trk := { trackerReset with carrHz := dofInt target.doppler, codeRate := dofInt (chipRate c.signal), codePh := ddiv (dofInt target.halfChips) (dofInt 2) } }
    if !gnssUp s || c.state != 1 then .next s
    else if found then
      if sameSignal target c && searchable s target && inWindow s ch.val target then .next (serveSearches (modChan ch.val lock s1)) else .next s
    else if lostNow s1 c then .next (serveSearches (modChan ch.val (fun c => { c with searchAt := none }) s1))
    else .next (serveSearches (modChan ch.val (fun c => { c with state := 0, svid := 0, lostAt := none, searchAt := none }) s1))

/-! Navigation data (R126, R160, R163). -/

/-- FORMAT of a SIGNAL's message (Tables 05-1, 05-5). -/
def navFormatOf (sg : Nat) : Nat := at_ 0 [0, 1, 2, 3, 4, 5, 0, 1, 6] sg

/-- Bits [off, off + len) of a byte string, most significant first. -/
def bitsAt (bs : List Byte) (off len : Nat) : Nat :=
  beNat bs / 2 ^ (8 * bs.length - off - len) % 2 ^ len

/-- Bits of a signal's unit (Table 05-1). -/
def unitBits (sg : Nat) : Nat := at_ 300 [300, 300, 240, 244, 878, 288, 300, 300, 250] sg

/-- The first `n` bits of a unit in 128 bytes, zero after them (Table 05-5). -/
def unitBody (n : Nat) (bits : List Byte) : List Byte := be 128 (bitsAt (padTo 128 bits) 0 n * 2 ^ (1024 - n))

/-- CRC-24Q over bits whose last 24 are the CRC: leading zeros to whole bytes change nothing (log 199). -/
def crcBits (len v : Nat) : Bool := (crc24q (be ((len + 7) / 8) v)).toNat == 0

/-- Parity of an LNAV word of 30 transmitted bits after one that ended with D29 and D30: each parity bit sums its bits of the data word and one of
these two, and D30 turns the data bits round (the interface control document of GPS, log 199). -/
def lnavWord (d29 d30 w : Nat) : Bool :=
  let d (i : Nat) : Nat := (w / 2 ^ (30 - i) + d30) % 2
  let sum (l : List Nat) : Nat := (l.map d).foldl (· + ·) 0
  let rows : List (Nat × List Nat) :=
    [(d29, [1, 2, 3, 5, 6, 10, 11, 12, 13, 14, 17, 18, 20, 23]), (d30, [2, 3, 4, 6, 7, 11, 12, 13, 14, 15, 18, 19, 21, 24]),
     (d29, [1, 3, 4, 5, 7, 8, 12, 13, 14, 15, 16, 19, 20, 22]), (d30, [2, 4, 5, 6, 8, 9, 13, 14, 15, 16, 17, 20, 21, 23]),
     (d30, [1, 3, 5, 6, 7, 9, 10, 14, 15, 16, 17, 18, 21, 22, 24]), (d29, [3, 5, 6, 8, 9, 10, 11, 13, 15, 19, 22, 23, 24])]
  (List.range 6).all fun k => let r := at_ (0, []) rows k; decide ((r.1 + sum r.2 + w / 2 ^ (5 - k)) % 2 = 0)

/-- Parity of the ten words of an LNAV subframe. -/
def lnavCheck (bits : List Byte) : Bool :=
  (List.range 10).all fun i =>
    let p := if i = 0 then 0 else bitsAt bits (30 * i - 2) 2
    lnavWord (p / 2) (p % 2) (bitsAt bits (30 * i) 30)

/-- Every check that a signal's unit carries (Table 05-1). The I/NAV page pair has its CRC over 114 bits of the even page and 82 of the odd one, the
F/NAV page before its six tail bits, B-CNAV1 one for each of subframes 2 and 3 (log 199). -/
def unitCheck (sg : Nat) (bits : List Byte) : Bool :=
  match navFormatOf sg with
  | 0 => lnavCheck bits
  | 2 => crcBits 220 (bitsAt bits 0 114 * 2 ^ 106 + bitsAt bits 120 106)
  | 3 => crcBits 238 (bitsAt bits 0 238)
  | 4 => crcBits 600 (bitsAt bits 14 600) && crcBits 264 (bitsAt bits 614 264)
  | _ => crcBits (unitBits sg) (bitsAt bits 0 (unitBits sg))

/-- Key of a unit in the stores of ephemeris and almanac: signal, satellite and page of the message. -/
def unitKey (c : Chan) (page : Nat) : Nat := (c.signal * 256 + c.svid) * 64 + page % 64

/-- A unit whose CHECK passed is used: stored with the ephemeris or the almanac, and its UTC offset taken (R126, R160, R163). -/
def useUnit (c : Chan) (unit : NavUnit) (body : List Byte) (s : State) : State :=
  let g := s.gnss
  let k := unitKey c unit.page
  let s1 := { s with gnss := if unit.almanac then { g with alm := keyPut k body g.alm } else { g with eph := keyPut k body g.eph } }
  match unit.utc with
  | some u => publish 0x0031 (vI32 u) { s1 with time := { s1.time with utcOffset := u } }
  | none => s1

/-- NAV_UNIT_DECODED (R163): a channel in DATA keeps its latest complete unit; only a unit whose CHECK passed is used. -/
def execNavUnitDecoded (ch : Fin 256) (unit : NavUnit) (s : State) : Result :=
  let c := chanOf s ch.val
  if !gnssUp s || c.state ≠ 5 then .next s
  else
    let body := unitBody (unitBits c.signal) unit.bits
    let ok := unit.decoded && unitCheck c.signal body
    let s1 := modChan ch.val (fun c => { c with navFormat := navFormatOf c.signal, navCheck := if ok then 0 else 1, navBits := unitBits c.signal,
                                                navData := body, navStamp := some ⟨unit.first.sec, if timeValid s then unit.first.ns else 2 ^ 32 - 1⟩ }) s
    .next (if ok then useUnit c unit body s1 else s1)

/-- Ephemeris and almanac copied to MRAM (R160). -/
def copyEphemeris (s : State) : State :=
  { s with gnss := { s.gnss with ephCopy := s.gnss.eph, almCopy := s.gnss.alm, ephAt := s.time.elapsed } }

/-- EPHEMERIS_COPY (R160), every 15 minutes; no MRAM write starts under the brown-out warning (R529). -/
def execEphemerisCopy (s : State) : Result :=
  .next (if gnssUp s && !bowRaised s then copyEphemeris (elapseTo (s.gnss.ephAt + ms 900000) s) else s)

/-- The navigation bit record (Table 05-5). -/
def navRecord (i : Nat) (c : Chan) : List Byte :=
  let chk := if c.state = 0 then 2 else c.navCheck
  let has := chk != 2
  be 2 i ++ be 1 c.signal ++ be 1 c.svid ++ be 1 (if has then c.navFormat else 0) ++ be 1 chk ++
    be 2 (if has then c.navBits else 0) ++
    (if has then stampBytes c.navStamp else be 6 0 ++ be 4 (2 ^ 32 - 1)) ++ be 2 0 ++
    (if has then padTo 128 c.navData else zeros 128)

/-- NAV_BITS_READ. -/
def opNavBitsRead : OpDef := readOp 0x0404 3 2
  (fun c _ => when_ (decide (255 < fieldU c.params 0 2)) stUnknownObject)
  (fun c s => navRecord (fieldU c.params 0 2) (chanOf s (fieldU c.params 0 2)))

/-- NAV_BITS_READ (R163). -/
def execNavBitsRead (r : Req) (p : List Byte) (s : State) : Result := .next (packetIn true opNavBitsRead r p s)

/-! Measurement epochs (R165 to R172). -/

/-- The next measurement epoch strictly after an instant: a whole multiple of 1 / MEAS_RATE_HZ (R165). -/
def nextEpochT (s : State) (t : Nat) : Nat :=
  let d := 10 ^ 9 / max 1 (pNat s 0x0403)
  (t / d + 1) * d

/-- Pseudorange c × (t_e − t_tx) in metres of a transmit time in units of 2^-32 ns (R165). -/
def pseudorange (te tx : Nat) : F64 := pack64 (Num.ofRat (((te * 2 ^ 32 : Nat) - (tx : Int)) * 299792458) (10 ^ 9 * 2 ^ 32))

/-- One channel latched at an epoch `te`: a record with PR_VALID clear keeps the values of its last valid epoch (R166). Carrier phase grows with the
range, so it is what the carrier loop has turned, negated; CP_VALID needs carrier lock since the last loss. -/
def latchChan (s : State) (te : Nat) (m : Option ChanMeas) (c : Chan) : Chan :=
  let b := bandOf s c.band
  let cnOk := (num32 (pReal s 0x0405)).le (Num.ofRat c.cn0 100)
  let loss := c.slipped || b.disturbed
  let pr := decide (4 ≤ c.state) && cnOk && (m.bind (·.tx)).isSome && !b.fault && enabledChan s c
  let cp := pr && !loss && c.lockSince.isSome
  let half := (m.map (·.halfCycle)).getD false
  let fl := flagsWord [pr, cp, half, loss, b.notches.any Option.isSome, b.jammed, hasPilot c.signal && decide (2 ≤ c.state)]
  let lock := match c.lockSince with
    | some t => satU 32 ((s.time.elapsed - t) / 1000000)
    | none => 0
  if c.svid = 0 then { c with slipped := false }
  else
    let c := { c with flags := fl, lockMs := lock, slipped := false }
    match m.bind (fun m => m.tx.map fun t => (t, m)), pr with
    | some (t, m), true => { c with pr := pseudorange te t, cp := dneg m.turned, doppler := m.doppler }
    | _, _ => c

/-- A channel record (Table 05-6). -/
def Chan.bytes (i : Nat) (c : Chan) : List Byte :=
  be 2 i ++ be 1 c.ant ++ be 1 (signalBand c.signal) ++ be 1 c.signal ++ be 1 c.svid ++ be 1 c.state ++ be 1 c.flags ++
    be 8 c.pr.toNat ++ be 8 c.cp.toNat ++ be 4 c.doppler.toNat ++ be 2 (satU 16 c.cn0) ++ be 2 0 ++ be 4 c.lockMs

/-- Corrections are older than CORR_AGE_MAX_MS, or there are none (R169). -/
def corrStale (s : State) : Bool :=
  match s.gnss.corrAt with
  | some t => decide (t + ms (pNat s 0x0421) < s.time.elapsed)
  | none => true

/-- A channel gives a valid pseudorange, or with `cp` a valid carrier phase, at the epoch just latched. -/
def chanValid (cp : Bool) (c : Chan) : Bool := c.svid != 0 && bitOf c.flags (b2n cp)

/-- The satellites of some channels, each once: system and SVID. -/
def satsOf (cs : List Chan) : List (Nat × Nat) := (cs.map fun c => (signalSystem c.signal, c.svid)).eraseDups

/-- The channels a solution rests on: those it used and did not exclude, on its antenna, valid and above ELEV_MASK (R168). -/
def solChans (s : State) (m : SolMeas) : List Chan :=
  ((m.used.filter fun i => !m.excluded.contains i).map (chanOf s)).filter fun c => c.ant == m.ant && chanValid false c && aboveMask s c.elev

/-- Unknowns of a solution: position, clock offset and a bias for each system beyond the first (R168). -/
def unknowns (sats : List (Nat × Nat)) : Nat := 4 + ((sats.map (·.1)).eraseDups.length - 1)

/-- Satellites of a solution with CP_VALID for which the newest corrections hold an observation (Table 05-7). -/
def commonSats (s : State) (m : SolMeas) : Nat :=
  ((satsOf ((solChans s m).filter (chanValid true))).filter fun x => s.gnss.corrSats.contains x).length

/-- SOLUTION of an antenna (R168, Table 05-7). -/
def solKind (s : State) (m : SolMeas) : Nat :=
  let sats := satsOf (solChans s m)
  let valid := decide (unknowns sats + 1 ≤ sats.length ∧ m.excluded.length ≤ 2) && m.residualOk
  if !valid then 0
  else if m.ant == pNat s 0x0420 && !corrStale s && decide (5 ≤ commonSats s m) then
    (if (m.ratio.map fun r => fle (pReal s 0x0422) r).getD false then 4 else 3)
  else if (m.sbasAgeMs.map (fun a => decide (a < 12000))).getD false then 2
  else 1

/-- An antenna whose band 0 is enabled and healthy: it has a solution at each epoch (R168). -/
def antennaOn (s : State) (a : Nat) : Bool := bitOf (pNat s 0x0402) (2 * a) && !(bandOf s (2 * a)).fault

/-- The solution of an antenna at an epoch; none where its band 0 is disabled or faulted. -/
def solOf (s : State) (ms_ : List SolMeas) (a : Nat) : Sol :=
  match ms_.find? (fun m => m.ant == a) with
  | none => solReset
  | some m =>
    let k := if antennaOn s a then solKind s m else 0
    if k = 0 then solReset
    else { kind := k, sats := (satsOf (solChans s m)).length, lat := m.lat, lon := m.lon, height := m.height, sigma := m.sigma }

/-- Seconds by which a system's time scale lies behind TAI: 19 for GPS and Galileo, 33 for BeiDou (R126; the interface control documents, log 200). -/
def taiLead (system : Fin 3) : Nat := if system.val = 2 then 33 else 19

/-- The antenna whose solution gives the time: RTK_ANTENNA, or the lowest with a healthy band 0 where its own is faulted (R173). -/
def timeAntenna (s : State) : Option Nat :=
  if (bandOf s (2 * pNat s 0x0420)).fault then (List.range 3).find? (antennaOn s) else some (pNat s 0x0420)

/-- The offset that the time solution of an epoch gives: device less source time, in TAI, less the antenna's signal delay (R126, R173). -/
def timeOffset (s : State) (te : Nat) (ms_ : List SolMeas) : Option Int :=
  match (timeAntenna s).bind fun a => ms_.find? fun m => m.ant == a with
  | none => none
  | some m =>
    if (solOf s ms_ m.ant).kind = 0 then none
    else some ((te : Int) - (((m.time.sec + taiLead m.system) * 10 ^ 9 + m.time.ns : Nat) : Int) - pInt s (0x0450 + m.ant))

/-- LEVER_ARM of the descriptor in a module slot (R233). -/
def slotArm (s : State) (slot : Nat) : List F32 :=
  let b := padTo 256 (at_ slotReset s.bus.slots slot).desc
  [fieldF32 b 56, fieldF32 b 60, fieldF32 b 64]

/-- The lever arm of antenna `a` in the fusion configuration: of the first GNSS reference that names it, and where that is NaN of the descriptor of
the slot carrying the reference's IN0 (R170, R233); zero where none names it. -/
def antennaArm (s : State) (a : Nat) : List F32 :=
  match (records 48 (tab s 0x0202)).find? (fun r => byteAt r 1 == 1 && byteAt r 3 == a) with
  | some r => if num32 (fieldF32 r 8) == .nan then slotArm s (byteAt (tabRec s 0x0201 32 (byteAt r 4)) 7)
              else [fieldF32 r 8, fieldF32 r 12, fieldF32 r 16]
  | none => [0, 0, 0]

/-- Length of a vector of binary64 components. -/
def dnorm (v : List F64) : F64 := dsqrt (v.foldl (fun a x => dadd a (dmul x x)) d0)

/-- The antennas of a pair (R170). -/
def pairAnts (q : Nat) : Nat × Nat := at_ (0, 1) [(0, 1), (0, 2), (1, 2)] q

/-- The configured length of a baseline (R170). -/
def baseLength (s : State) (q : Nat) : F64 :=
  let a := antennaArm s (pairAnts q).1
  let b := antennaArm s (pairAnts q).2
  dnorm ((List.range 3).map fun i => dsub (f2d (b.getD i 0)) (f2d (a.getD i 0)))

/-- One of two neighbours in binary32 of a number of at least 0: the one above, or the one not above. -/
def neighbour (up : Bool) (x : Num) : F32 :=
  let r := pack32 x
  if up then (if (num32 r).lt x then r + 1 else r) else if x.lt (num32 r) then r - 1 else r

/-- atan2 of two numbers, but that its rounding is free between the two binary32 values about it (R171, log 22). -/
def atan2Near (y x : F64) : F32 :=
  match num64 y, num64 x with
  | .fin sy my ey, .fin sx mx ex =>
    let e := min ey ex
    let a := atan2Units (my * 2 ^ (ey - e).toNat) (mx * 2 ^ (ex - e).toNat)
    let t := if sx then 4 * atanUnits (2 ^ 160) - a else a
    let r := neighbour (Config.atan2Out y x) (Num.ofDyadic t (-160))
    if sy then fneg r else r
  | _, _ => pack32 .nan

/-- An angle of the controller's arctangent brought into [0, 2π), which is what the rule says of it (R171). -/
def fullTurn (a : F32) : F32 :=
  let t : F32 := 0x40C90FDB#32
  let b := if flt a 0 then fadd a t else a
  if flt b t && fle 0 b then b else 0

/-- Common satellites of a pair: band 0 carrier phase valid on both antennas (R170). -/
def pairSats (s : State) (q : Nat) : Nat :=
  let on (a : Nat) : List (Nat × Nat) := satsOf (s.gnss.chans.filter fun c => c.ant == a && signalBand c.signal == 0 && chanValid true c)
  ((on (pairAnts q).1).filter fun x => (on (pairAnts q).2).contains x).length

/-- The baseline of a pair at an epoch (R170, R171); its azimuth and elevation are atan2 but for their rounding (log 22). -/
def baseOf (s : State) (ms_ : List BaseMeas) (q : Nat) : Base :=
  match ms_.find? (fun m => m.pair == q) with
  | none => baseReset
  | some m =>
    if !bitOf (pNat s 0x0430) q || decide (pairSats s q < 5) then baseReset
    else
      let v := [m.n, m.e, m.d]
      let len := dnorm v
      let near := dle (dabs (dsub len (baseLength s q))) (f2d (pReal s 0x0431))
      let fixed := fle (pReal s 0x0422) m.ratio && near
      let horiz := dsqrt (dadd (dmul m.n m.n) (dmul m.e m.e))
      { state := if fixed then 2 else 1, vec := v, len := d2f len, az := fullTurn (atan2Near m.e m.n), el := atan2Near (dneg m.d) horiz }

/-- The closure b01 + b12 − b02 exceeds BASELINE_TOL_M with all three pairs FIXED (R172); the magnitude in mm. -/
def closureFail (s : State) (bs : List Base) : Option Nat :=
  if bs.all (fun b => b.state == 2) && bs.length == 3 then
    let g (q i : Nat) : F64 := (at_ baseReset bs q).vec.getD i 0
    let m := dnorm ((List.range 3).map fun i => dsub (dadd (g 0 i) (g 2 i)) (g 1 i))
    if dle m (f2d (pReal s 0x0431)) then none
    else some (((((num64 m).mul (Num.ofInt 1000)).floor?).getD 0).toNat)
  else none

/-- The jobs of an epoch: a solution for each antenna with an enabled, healthy band 0, a baseline for each pair selected (R168, R170). -/
def solJobs (s : State) : List Nat :=
  (List.range 6).filter fun w => if w < 3 then antennaOn s w else bitOf (pNat s 0x0430) (w - 3)

/-- The specific force of the usable ACC_X, ACC_Y and ACC_Z inputs of the snapshot, the lowest of each role (R321). -/
def accOf (s : State) : Option (F64 × F64 × F64) :=
  let axis (role : Nat) : Option F64 :=
    ((List.range 64).find? fun i => byteAt (tabRec s 0x0201 32 i) 1 == role && (match at_ none s.fus.snap i with
      | some x => x.q == 1 || x.q == 4
      | none => false)).bind fun i => (at_ none s.fus.snap i).map fun x => if x.ty = 1 then x.value else f2d (valF32 x.value)
  match axis 7, axis 8, axis 9 with
  | some x, some y, some z => some (x, y, z)
  | _, _, _ => none

/-- What level A takes at the epoch: the channels of RTK_ANTENNA with PR_VALID in ascending number, at most 64 (R321). -/
def levelInput (s : State) : LevelIn :=
  let ok (p : Nat × Chan) : Bool := p.2.ant == pNat s 0x0420 && chanValid false p.2
  let slot (p : Nat × Chan) : LevelSlot := ⟨p.1, p.2.signal, p.2.pr, p.2.cp, p.2.doppler, p.2.cn0, p.2.flags⟩
  let out (id : Nat) : Option F64 := (keyGet id s.sig.outs).map fun v => f2d (valF32 v.value)
  { slots := ((((List.range 256).zip s.gnss.chans).filter ok).take 64).map slot,
    att := match out 0x0104, out 0x0105, out 0x0103 with
      | some r, some p, some h => some (r, p, h)
      | _, _, _ => none,
    acc := accOf s, corr := !corrStale s }

/-- The jobs of the epoch before that have not completed: their outputs are dropped and counted under BOUNDED and still awaited under DET (R167). -/
def leaveJobs (s : State) : State :=
  let g := s.gnss
  let old := (g.epoch.map fun t => g.awaiting.map fun w => (⟨t, w, at_ solReset g.heldSols w, at_ baseReset g.heldBases (w - 3)⟩ : HeldOut)).getD []
  if isDet s then { s with gnss := { g with awaiting := [], olds := g.olds ++ old } }
  else { s with gnss := { g with awaiting := [], olds := [], dropped := min 65535 (g.dropped + g.awaiting.length + g.olds.length) } }

/-- The solutions of an epoch: outputs held for their arrival stamps, the time solution, ambiguities of RTK_ANTENNA, and the source's validity (R167
to R173). -/
def solveEpoch (te : Nat) (sols : List SolMeas) (bases : List BaseMeas) (s : State) : State :=
  let bs := (List.range 3).map (baseOf s bases)
  let fail := closureFail s bs
  let rtk := sols.find? (fun m => m.ant == pNat s 0x0420)
  let logged := pNat s 0x035D == 1
  let off := timeOffset s te sols
  let s1 := { s with
    gnss := { s.gnss with heldSols := (List.range 3).map (solOf s sols), heldBases := if fail.isSome then bs.map (fun b => { b with state := 1 }) else bs,
                          awaiting := solJobs s, levelA := !logged, levelIn := if logged then none else some (levelInput s), raimFail := (rtk.map fun m => !m.residualOk).getD false, closure := fail.isSome,
                          amb := (rtk.map (·.amb)).getD s.gnss.amb, timeOff := off },
    time := { s.time with sourceValid := s.time.sourceValid && (timeSource s != some 1 || off.isSome) } }
  match fail with
  | some mm => record .gnssHeadingClosure (be 4 (satU 32 mm)) s1
  | none => s1

/-- MEASUREMENT_EPOCH (R165, R168 to R172): every channel latched at the next epoch instant; while firmware runs solutions and baselines are computed
and held for their arrival stamps (R164, R167). -/
def execMeasurementEpoch (chans : List ChanMeas) (sols : List SolMeas) (bases : List BaseMeas) (s : State) : Result :=
  if !gnssUp s then .next s
  else
    let s1 := countTo (nextEpochT s s.time.total) (leaveJobs s)
    let d := 10 ^ 9 / max 1 (pNat s 0x0403)
    let t := s1.time.total / d * d
    let g := s1.gnss
    let cs := g.chans.mapIdx fun i c => latchChan s1 t (chans.find? (fun m => m.ch == i)) c
    let s2 := { s1 with gnss := { g with chans := cs, bands := g.bands.map (fun b => { b with disturbed := false }), epoch := some t, pendRaw := true,
                                         latched := ((List.range 256).zip cs).map fun p => (p.1, p.2.bytes p.1),
                                         epochWhen := some ⟨t / 10 ^ 9, if timeValid s1 then t % 10 ^ 9 else 2 ^ 32 - 1⟩ } }
    .next (if fwRunning s1 then solveEpoch t sols bases s2 else s2)

/-- GNSS_RAW_PUBLISH (R165, R167): the records latched at the latest epoch, at t_e + 1 ms, whatever firmware does. -/
def execGnssRawPublish (s : State) : Result :=
  match s.gnss.epoch with
  | some t =>
    if !s.gnss.pendRaw || !gnssUp s then .next s
    else
      let s1 := countTo (t + 1000000) s
      .next { s1 with gnss := { s1.gnss with pendRaw := false, rawEpoch := some t, rawWhen := s1.gnss.epochWhen,
                                             raw := s1.gnss.latched } }
  | none => .next s

/-- Publish the signals of antenna `a` (R239). -/
def publishSol (a t : Nat) (x : Sol) (s : State) : State :=
  let arr := t + 10000000
  let put (k : Nat) (v : Value) (s : State) : State := publishAs (0x0200 + 16 * a + k) ⟨v, x.kind == 0, arr, some t, none, none⟩ s
  put 5 (vU32 x.sats) (put 4 (vU32 x.kind) (put 3 (vF32 x.sigma) (put 2 (vF32 x.height) (put 1 (vF64 x.lon) (put 0 (vF64 x.lat) s)))))

/-- Publish the signals of baseline `q` (R239). -/
def publishBase (q t : Nat) (x : Base) (s : State) : State :=
  let arr := t + 10000000
  let put (k : Nat) (v : Value) (s : State) : State := publishAs (0x0240 + 8 * q + k) ⟨v, x.state == 0, arr, some t, none, none⟩ s
  put 3 (vF32 x.len) (put 2 (vU32 x.state) (put 1 (vF32 x.el) (put 0 (vF32 x.az) s)))

/-- A solution or baseline of the epoch that is not to be had: nothing stands in its place. -/
def dropHeld (w : Nat) (g : GnssState) : GnssState :=
  if w < 3 then { g with heldSols := modAt g.heldSols w fun _ => solReset } else { g with heldBases := modAt g.heldBases (w - 3) fun _ => baseReset }

/-- The job of an antenna or baseline that has waited longest: of an earlier epoch, else of the latest. -/
def heldJob (s : State) (w : Nat) : Option HeldOut :=
  (s.gnss.olds.find? (·.what == w)).or
    (if s.gnss.awaiting.contains w then s.gnss.epoch.map fun t => ⟨t, w, at_ solReset s.gnss.heldSols w, at_ baseReset s.gnss.heldBases (w - 3)⟩ else none)

/-- A job is awaited no more. -/
def endJob (h : HeldOut) (g : GnssState) : GnssState :=
  if g.olds.contains h then { g with olds := g.olds.filter (· != h) } else { g with awaiting := g.awaiting.filter (· != h.what) }

/-- GNSS_SOLUTION_PUBLISH (R167): `what` 0 to 2 an antenna, 3 to 5 a baseline, at t_e + 10 ms. A job not completed is dropped and counted under
BOUNDED; under DET its output is waited for. -/
def execGnssSolutionPublish (what : Fin 6) (completed : Bool) (s : State) : Result :=
  let w := what.val
  match heldJob s w with
  | none => .next s
  | some h =>
    if !awake s then .next s
    else
      let s1 := countTo (h.epoch + 10000000) s
      let s2 := { s1 with gnss := endJob h s1.gnss }
      if completed then .next (if w < 3 then publishSol w h.epoch h.sol s2 else publishBase (w - 3) h.epoch h.base s2)
      else if isDet s then .next s1
      else .next { s2 with gnss := { dropHeld w s2.gnss with dropped := min 65535 (s2.gnss.dropped + 1) } }

/-- Solutions, headings and the jobs behind them stop with firmware; the baseband goes on (R164). -/
def solutionsStop (s : State) : State :=
  { s with gnss := { s.gnss with heldSols := List.replicate 3 solReset, heldBases := List.replicate 3 baseReset, awaiting := [], olds := [], levelA := false,
                                 levelIn := none, level := none, timeOff := none } }

/-- The reply body of GNSS_RAW_READ: up to `n` channels of antenna `a` (0xFF all) from channel `from_` on (R166). -/
def rawBody (s : State) (a from_ n : Nat) : List Byte :=
  let hits := (s.gnss.raw.filter (fun r => decide (from_ ≤ r.1) && (a == 0xFF || byteAt r.2 2 == a))).take n
  stampBytes s.gnss.rawWhen ++ be 2 hits.length ++ be 2 0 ++ hits.flatMap (·.2)

/-- GNSS_RAW_READ. -/
def opGnssRawRead : OpDef := readOp 0x0402 3 6
  (fun c s => firstOf [when_ (decide (2 < byteAt c.params 0 ∧ byteAt c.params 0 ≠ 0xFF)) stOutOfRange, zeroAt c 1 1,
    when_ (decide (fieldU c.params 4 2 = 0 ∨ 256 < fieldU c.params 4 2)) stOutOfRange,
    when_ (!gnssUp s || s.gnss.rawEpoch.isNone) stNotReady]) fun c s =>
    rawBody s (byteAt c.params 0) (fieldU c.params 2 2) (fieldU c.params 4 2)

/-- GNSS_RAW_READ (R166). -/
def execGnssRawRead (r : Req) (p : List Byte) (s : State) : Result := .next (packetIn true opGnssRawRead r p s)

/-! Corrections (R102, R169). -/

/-- Cut the next RTCM 3 frame off a body: its payload where its CRC holds, and the rest. None where no whole frame
is left (the frame format is RTCM's own, log 13). -/
def nextFrame (bs : List Byte) : Option (Option (List Byte) × List Byte) :=
  match bs with
  | p :: a :: b :: rest =>
    let n := (a.toNat % 4) * 256 + b.toNat
    if p ≠ 0xD3#8 ∨ rest.length < n + 3 then none
    else
      let ok := (crc24q (p :: a :: b :: rest.take n)).toNat == beNat (slice rest n 3)
      some (if ok then some (rest.take n) else none, rest.drop (n + 3))
  | _ => none

/-- Message types taken (R102): 1005, 1006, MSM4 and MSM7. -/
def rtcmTaken (t : Nat) : Bool :=
  t == 1005 || t == 1006 || (decide (1074 ≤ t ∧ t ≤ 1137) && (t % 10 == 4 || t % 10 == 7))

/-- MSM frames whose content is used (R169). -/
def rtcmUsed (t : Nat) : Bool := [1074, 1077, 1094, 1097, 1114, 1117, 1124, 1127].contains t

/-- The reference station moves: its ID changes or its antenna reference point by more than 0.01 m (R169). -/
def baseChanged (id : Nat) (p : Int × Int × Int) (g : GnssState) : Bool :=
  match g.baseId, g.arp with
  | some i, some q =>
    i != id || decide (100 * 100 < (p.1 - q.1) * (p.1 - q.1) + (p.2.1 - q.2.1) * (p.2.1 - q.2.1) + (p.2.2 - q.2.2) * (p.2.2 - q.2.2))
  | _, _ => false

/-- A reference station comes into use; a change resets every ambiguity, sets BASE_CHANGED for 60 s and records GNSS_BASE_CHANGED (R169). -/
def useBase (id : Nat) (p : Int × Int × Int) (s : State) : State :=
  let g := { s.gnss with baseId := some id, arp := some p }
  if baseChanged id p s.gnss then
    record .gnssBaseChanged (be 2 id) { s with gnss := { g with baseChangedAt := some s.time.elapsed, amb := [], corrSats := [] } }
  else { s with gnss := g }

/-- System of a used MSM frame. -/
def msmSystem (t : Nat) : Nat := match t / 10 with | 107 => 0 | 109 => 1 | 112 => 2 | _ => 3

/-- Signal numbers of a system's MSM signal mask that are signals of Table 05-1 (RTCM 10403.3, log 13). -/
def msmSignals (sys : Nat) : List Nat := at_ [2, 22, 23, 24] [[2, 22, 23, 24], [2, 4, 5, 22, 23, 24], [30, 31, 32, 22, 23, 24], [2, 22, 23, 24]] sys

/-- Set bits of a mask of `n` bits, from 1, most significant first. -/
def maskBits (n v : Nat) : List Nat := ((List.range n).filter fun i => v.testBit (n - 1 - i)).map (· + 1)

/-- The satellites for which an MSM frame holds a cell of a used signal: satellite, signal and cell masks at bits 73, 137 and 169 (log 13). -/
def msmSats (f : List Byte) : List (Nat × Nat) :=
  let sys := msmSystem (bitsAt f 0 12)
  let sats := maskBits 64 (bitsAt f 73 64)
  let sigs := maskBits 32 (bitsAt f 137 32)
  let cell (i j : Nat) : Bool := bitsAt f (169 + i * sigs.length + j) 1 == 1
  ((List.range sats.length).filter fun i => (List.range sigs.length).any fun j => (msmSignals sys).contains (sigs.getD j 0) && cell i j).map
    fun i => (sys, sats.getD i 0 + if sys = 3 then 192 else 0)

/-- A frame taken (R169): positions in units of 0.0001 m. -/
def takeFrame (f : List Byte) (s : State) : State :=
  let t := bitsAt f 0 12
  let id := bitsAt f 12 12
  if t = 1005 ∨ t = 1006 then
    let p := (toSigned 38 (bitsAt f 34 38), toSigned 38 (bitsAt f 74 38), toSigned 38 (bitsAt f 114 38))
    let s1 := { s with gnss := { s.gnss with arps := keyPut id p s.gnss.arps } }
    if s.gnss.baseId = some id then useBase id p s1 else s1
  else if rtcmUsed t then
    match keyGet id s.gnss.arps with
    | some p => let s1 := useBase id p s
                { s1 with gnss := { s1.gnss with corrAt := some s1.time.elapsed,
                                                 corrSats := (s1.gnss.corrSats.filter fun x => x.1 != msmSystem t) ++ msmSats f } }
    | none => s
  else s

/-- A frame taken is kept for the input log, with its arrival stamp first (R408). -/
def keepRtcm (f : List Byte) (s : State) : State :=
  if pNat s 0x0359 = 1 then
    { s with sch := { s.sch with rtcm := s.sch.rtcm ++ [be 6 (s.time.total / 10 ^ 9) ++ be 4 (s.time.total % 10 ^ 9) ++ f] } }
  else s

/-- Every frame of a body: state, TAKEN and REFUSED; a frame cut off at the end is refused (R102). -/
def takeFrames : Nat → List Byte → State → Nat → Nat → State × Nat × Nat
  | 0, _, s, t, u => (s, t, u)
  | k + 1, bs, s, t, u =>
    if bs.isEmpty then (s, t, u)
    else
      match nextFrame bs with
      | none => (s, t, u + 1)
      | some (none, r) => takeFrames k r s t (u + 1)
      | some (some f, r) =>
        if rtcmTaken (bitsAt f 0 12) then takeFrames k r (keepRtcm (bs.take (bs.length - r.length)) (takeFrame f s)) (t + 1) u
        else takeFrames k r s t (u + 1)

/-- RTCM_INPUT. -/
def opRtcmInput : OpDef := stepOp 0x0403 1
  (fun c _ => when_ (c.params.length != 2 + fieldU c.params 0 2 || decide (c.params.length < 2)) stParamSize) fun c s =>
    let (s', t, u) := takeFrames c.params.length (c.params.drop 2) s 0 0
    .finish s' 0 (be 2 (satU 16 t) ++ be 2 (satU 16 u)) none

/-- RTCM_INPUT (R102). -/
def execRtcmInput (r : Req) (p : List Byte) (s : State) : Result := .next (packetIn true opRtcmInput r p s)

/-! Time error and status (R174, R176). -/

/-- k1 in 0.1 ns/s and k2 in 10^-6 ns/s², by CLKMODE (Table 05-8). -/
def holdoverCoef (clkmode : Nat) : Nat × Nat := at_ (5, 6) [(5, 6), (200, 10000), (2000, 100000), (500, 20000)] clkmode

/-- ERR_NS `t` nanoseconds after the last valid source epoch (R174). -/
def holdoverErr (clkmode e0 t : Nat) : Nat :=
  let (k1, k2) := holdoverCoef clkmode
  min 4294967294 (e0 + k1 * t / 10000000000 + k2 * t * t / 10 ^ 24)

/-- CLKMODE[1:0] as sampled. -/
def clkMode (s : State) : Nat := s.pwr.straps.toNat / 8 % 4

/-- How long after its last valid epoch a source that gives no further one is lost: two Syncs of the cascade, an interval of the measurement epochs
with the 10 ms of a solution, two PTP Syncs at the default interval of 1 s, the window of the pulses (log 201). -/
def sourceLapse (s : State) : Nat :=
  match timeSource s with
  | some 0 => ms 125
  | some 1 => 10 ^ 9 / max 1 (pNat s 0x0403) + ms 10
  | some 2 => ms 2000
  | some 3 => 1000100000
  | _ => 0

/-- The source is lost, whether or not HOLDOVER has been entered (R174, R176). -/
def sourceLost (s : State) : Bool := !s.time.sourceValid || decide (s.time.lastValidAt + sourceLapse s < s.time.elapsed)

/-- The device's own part of ERR_NS: the servo's estimate, or what it has grown to without a source (R127, R174). -/
def ownErr (s : State) : Nat :=
  if sourceLost s then holdoverErr (clkMode s) s.time.holdErr0 (s.time.elapsed - s.time.errAt) else s.time.errNs

/-- ERR_NS as it stands now (Table 04-2, R142, R174). -/
def errNs (s : State) : Nat :=
  match s.time.state with
  | .unset => 0xFFFFFFFF
  | .free => 0xFFFFFFFF
  | _ => min 4294967294 (ownErr s + (if isFollower s then s.time.masterErr else 0))

/-- STATE code (Table 04-2). -/
def tstateCode : TState → Nat
  | .unset => 0
  | .free => 1
  | .locked => 2
  | .slewing => 3
  | .holdover => 4

/-- The best baseline: the lowest-numbered pair of the best state (R176). -/
def bestBase (g : GnssState) : Base :=
  match g.heldBases.find? (fun b => b.state == 2) with
  | some b => b
  | none => (g.heldBases.find? (fun b => b.state == 1)).getD baseReset

/-- The GNSS status block (Table 05-10). -/
def gnssStatus (s : State) : List Byte :=
  let g := s.gnss
  let x := at_ solReset g.heldSols (pNat s 0x0420)
  let b := bestBase g
  let fl := flagsWord [g.raimFail, corrStale s, (g.baseChangedAt.map (fun t => decide (s.time.elapsed < t + ms 60000))).getD false, g.closure]
  stampBytes g.epochWhen ++ be 1 x.kind ++ be 1 x.sats ++
    be 1 b.state ++ be 1 (tstateCode s.time.state) ++ be 2 fl ++ be 1 (flagsWord (g.bands.map (·.fault))) ++
    be 1 (flagsWord (g.bands.map (·.jammed))) ++ g.bands.flatMap (fun b => be 1 b.jam) ++
    be 2 (g.chans.filter (fun c => c.state != 0)).length ++ be 2 g.dropped ++
    be 8 (if x.kind = 0 then nan64 else x.lat.toNat) ++ be 8 (if x.kind = 0 then nan64 else x.lon.toNat) ++
    be 4 (if x.kind = 0 then nan32 else x.height.toNat) ++ be 4 (if b.state = 0 then nan32 else b.az.toNat) ++
    be 4 (if b.state = 0 then nan32 else b.el.toNat) ++
    be 4 (match g.corrAt with | some t => satU 32 ((s.time.elapsed - t) / 1000000) | none => 2 ^ 32 - 1) ++ be 4 (errNs s) ++
    be 4 (if sourceLost s then satU 32 ((s.time.elapsed - s.time.lastValidAt) / 10 ^ 9) else 0) ++
    be 2 (g.baseId.getD 0xFFFF) ++ be 2 0

/-- GNSS_STATUS. -/
def opGnssStatus : OpDef := readOp 0x0401 1 0 (fun _ s => when_ (!gnssUp s || s.gnss.epoch.isNone) stNotReady)
  (fun _ s => gnssStatus s)

/-- GNSS_STATUS (R176). -/
def execGnssStatus (r : Req) (p : List Byte) (s : State) : Result := .next (packetIn true opGnssStatus r p s)

/-- Baseband start: warm from the stored almanac, cold without one (R160, R164); every channel stops, and FE_REFCLK runs (R150). -/
def gnssStart (s : State) : State :=
  startFrontEnd { s with gnss := { gnssReset with ephCopy := s.gnss.ephCopy, eph := s.gnss.ephCopy, almCopy := s.gnss.almCopy, alm := s.gnss.almCopy,
                                                  startCase := if s.gnss.almCopy.isEmpty then 0 else 1, refClk := feRefClk (clkMode s),
                                                  ephAt := s.time.elapsed, startedAt := s.time.elapsed,
                                                  loopAt := s.time.elapsed, agcAt := List.replicate 6 s.time.elapsed, notchAt := List.replicate 6 s.time.elapsed,
                                                  jamAt := List.replicate 6 s.time.elapsed, clockAt := s.time.elapsed } }

end Sys2Proof.Machine
end

