-- ==== Sys2Proof/Machine/Acq.lean ====
section
/-! DEFINITION. The acquisition chain (chapter 06): sinc, FIR and resampler in exact integers, stamps, thresholds,
starting, stopping and synchronisation. The bitstreams come in with ACQ_OUTPUT. -/

namespace Sys2Proof.Machine

/-- Nearest integer to n / d, ties away from zero. -/
def roundAway (n : Int) (d : Nat) : Int :=
  let q : Int := ((2 * n.natAbs + d) / (2 * d) : Nat)
  if n < 0 then -q else q

/-- Saturated to 24 bits signed. -/
def sat24 (v : Int) : Int := max (-8388608) (min v 8388607)

/-- A channel record decoded (Table 06-1), with its coefficient set. -/
structure AcqCfg where
  order : Nat
  dec : Nat
  firDec : Nat
  mode : Nat
  perTp : Nat
  set : Nat
  sigId : Nat
  statId : Nat
  gain : F32
  offset : F32
  delay : Int
  thrHi : F32
  thrLo : F32
  hyst : F32
  debounce : Nat
  h : List Int
  deriving DecidableEq, Repr

/-- The coefficients of a set's body (R188). -/
def acqCoefs (body : List Byte) : List Int := (records 4 body).map fun b => toSigned 32 (beNat b)

/-- A channel record's fields. -/
def acqCfgOf (r : List Byte) (h : List Int) : AcqCfg :=
  { order := byteAt r 1, dec := fieldU r 2 2, firDec := byteAt r 4, mode := byteAt r 5, perTp := byteAt r 6, set := byteAt r 7,
    sigId := fieldU r 8 2, statId := fieldU r 10 2, gain := fieldF32 r 12, offset := fieldF32 r 16, delay := fieldS r 20 4,
    thrHi := fieldF32 r 24, thrLo := fieldF32 r 28, hyst := fieldF32 r 32, debounce := byteAt r 36, h := h }

/-- Channel `c` as the configuration of the period in progress has it (R190); none while table 0x0260 is empty. -/
def acqCfg (s0 : State) (c : Nat) : Option AcqCfg :=
  let s := gridView s0
  if (tab s 0x0260).isEmpty then none
  else
    let r := tabRec s 0x0260 48 c
    some (acqCfgOf r (acqCoefs (tab s (0x0270 + byteAt r 7))))

/-- f_mod in hertz (R179). -/
def fMod (sel : Nat) : Nat := if sel = 0 then 10240000 else 20480000

/-- ACQ_MCLK_HZ of the period in progress. -/
def mclkSel (s : State) : Nat := pNat (gridView s) 0x0250

/-- Device time of one modulator clock, in 2^-40 ns: both clocks come from one reference, so the rate correction applies. -/
def clockUnits (s : State) : Nat := s.time.incr.toNat * (if mclkSel s = 0 then 6250 else 3125)

/-- Σ h and Σ i·h of a set: g is their quotient (R185). -/
def sumH (h : List Int) : Int := h.foldl (· + ·) 0
def sumIH (h : List Int) : Int := (h.mapIdx fun i x => (i : Int) * x).foldl (· + ·) 0

/-- v = d − D_front in quarter nanoseconds (R185), from d in 2^-40 ns. -/
def validityQ (f : Nat) (k : AcqCfg) (d : Nat) : Int :=
  let s0 := sumH k.h
  let s0n := s0.natAbs
  let s1 := if s0 < 0 then -(sumIH k.h) else sumIH k.h
  -- D_front · f · 2 · |Σh| in nanoseconds · hertz
  let num : Int := 10 ^ 9 * ((4 + (k.order : Int) * (k.dec - 1)) * s0n + 2 * s1 * k.dec) + 2 * k.delay * f * s0n
  let den : Nat := 2 * f * max 1 s0n
  -- (d / 2^40 − num / den) · 4, rounded
  roundAway ((d : Int) * den * 4 - num * 4 * 2 ^ 40) (den * 2 ^ 40)

/-- GAIN · out / 2^23 + OFFSET, rounded once to nearest even (R184). -/
def convert (k : AcqCfg) (out : Int) : F32 :=
  pack32 (((num32 k.gain).mul (Num.ofDyadic out (-23))).add (num32 k.offset))

/-- What the chain gives for one bit: an FIR output with its validity, and the channel outputs it completes. -/
structure AcqOut where
  fir : Option (Int × Int)
  outs : List (Int × Int)
  deriving DecidableEq, Repr

/-- K integrators in chain. -/
def integrate (v : Int) : List Int → List Int
  | [] => []
  | i :: is => (i + v) :: integrate (i + v) is

/-- K combs in chain: the differences and what each comb keeps. -/
def combs (v : Int) : List Int → Int × List Int
  | [] => (v, [])
  | p :: ps => let (r, qs) := combs (v - p) ps; (r, v :: qs)

/-- The FIR over the newest-first history (R182). -/
def firSum (h x : List Int) : Int := (List.zipWith (· * ·) h x).foldl (· + ·) 0

/-- A tap of the ROM prototype as it is stored. Phase 64 is phase 0 of m+1 and needs no output beyond y[m+4], so the last tap of phase 0 is 0
(R183, log 23). -/
def romRaw (p k : Nat) : Int := if p = 0 ∧ k = 7 then 0 else (Config.romTap p k).toInt

/-- A phase of the ROM: its tap on y[m] makes the sum unity, 2^22 (R183). -/
def romPhase (p : Nat) : List Int :=
  let others := ((List.range 8).map fun k => if k = 3 then 0 else romRaw p k).foldl (· + ·) 0
  (List.range 8).map fun k => if k = 3 then 2 ^ 22 - others else romRaw p k

/-- The body of table 0x0280: 64 phases of 8 taps, each 32 bits as in a coefficient set (log 23). -/
def romBody : List Byte := (List.range 64).flatMap fun p => (romPhase p).flatMap fun c => be 4 (ofSigned 32 c)

/-- The taps of phase 0 to 64 over y[m-3] to y[m+4]: phase 64 is phase 0 one output later (R183). -/
def polyTaps (p : Nat) : List Int := if p < 64 then romPhase p else 0 :: (romPhase 0).take 7

/-- The exact output of a phase, in units of 2^-22. -/
def polyphase (p : Nat) (ys : List Int) : Int := (List.zipWith (· * ·) (polyTaps p) ys).foldl (· + ·) 0

/-- The resampler's output at t from y[m+4 … m−3], newest first (R183). -/
def resample (t : Int) (ys : List (Int × Int)) : Int :=
  let vm := (ys.getD 4 (0, 0)).2
  let vn := (ys.getD 3 (0, 0)).2
  let mu := (4096 * (4 * t - vm) / max 1 (vn - vm)).toNat
  let p := mu / 64
  let w : Int := (mu % 64 : Nat)
  let taps := (ys.take 8).reverse.map (·.1)
  roundAway ((64 - w) * polyphase p taps + w * polyphase (p + 1) taps) (64 * 2 ^ 22)

/-- The output instant after `t`: TP / P of its own period later, or the start of the period after it where that comes first (R183). `gs` lists
the starts of periods with their thruster periods, newest first. -/
def nextOut (gs : List (Int × Nat)) (perTp : Nat) (t : Int) : Int :=
  let later := gs.takeWhile fun g => decide (t < g.1)
  let own := (((gs.drop later.length).head?).orElse fun _ => later.getLast?).getD (0, 2000000)
  let u := t + (own.2 / max 1 perTp : Nat)
  match later.getLast? with
  | some g => min g.1 u
  | none => u

/-- The outputs of TP-locked mode that a new FIR output completes, at most P per call (R183): the next instant, and
the outputs with their instants in nanoseconds. -/
def lockedOuts (gs : List (Int × Nat)) (perTp : Nat) (ys : List (Int × Int)) : Nat → Int → List (Int × Int) → Int × List (Int × Int)
  | 0, t, acc => (t, acc)
  | k + 1, t, acc =>
    let vm := (ys.getD 4 (0, 0)).2
    let vn := (ys.getD 3 (0, 0)).2
    if ys.length < 8 ∨ vn ≤ 4 * t then (t, acc)
    else if 4 * t < vm then lockedOuts gs perTp ys k (nextOut gs perTp t) acc
    else lockedOuts gs perTp ys k (nextOut gs perTp t) (acc ++ [(resample t ys, t)])

/-- One modulator bit through the chain (R181 to R183). `clk` is the clock's length in 2^-40 ns, `gs` the latest periods. -/
def acqBit (f clk : Nat) (gs : List (Int × Nat)) (k : AcqCfg) (b : Bool) (c : AcqChan) : AcqChan × AcqOut :=
  let run := if b = c.runBit then c.runLen + 1 else 1
  let ints := integrate (if b then 1 else -1) (padInts k.order c.integ)
  let c := { c with edge := c.edge + clk, runBit := b, runLen := run, integ := ints, sincPhase := c.sincPhase + 1,
                    settle := c.settle - 1 }
  if c.sincPhase < k.dec then (c, ⟨none, []⟩)
  else
    let (acc, cb) := combs (ints.getLastD 0) (padInts k.order c.comb)
    let x := sat24 (roundAway (acc * 2 ^ 23) (k.dec ^ k.order))
    let xs := (x :: c.x).take 128
    let c := { c with sincPhase := 0, comb := cb, x := xs, firPhase := c.firPhase + 1 }
    if c.firPhase < k.firDec then (c, ⟨none, []⟩)
    else
      let y0 := roundAway (firSum k.h xs) (2 ^ 22)
      let y := sat24 y0
      let v := validityQ f k c.edge
      let ys := ((y, v) :: c.y).take 16
      let c := { c with firPhase := 0, y := ys, sat := c.sat || y != y0 }
      if k.mode = 0 then (c, ⟨some (y, v), [(y, (v + 2) / 4)]⟩)
      else
        let (t, outs) := lockedOuts gs k.perTp ys 64 (c.nextT.getD 0) []
        ({ c with nextT := some t }, ⟨some (y, v), outs⟩)
where
  padInts (n : Nat) (l : List Int) : List Int := (l ++ List.replicate (n - l.length) 0).take n

/-- One threshold's debounce (R192): the state, the count, the first instant of the run, and the event if any
(true on entry). `inside` says that the output counts toward a change. -/
def debounce (n : Nat) (set inside : Bool) (count : Nat) (first v : Int) : Bool × Nat × Int × Option Bool :=
  if !inside then (set, 0, first, none)
  else
    let first := if count = 0 then v else first
    if n ≤ count + 1 then (!set, 0, first, some (!set)) else (set, count + 1, first, none)

/-- Is a NaN. -/
def isNan32 (x : F32) : Bool := num32 x == .nan

/-- ACQ_THRESHOLD's parameters: channel, direction, nanoseconds of the first output's validity instant (Table 17-7). -/
def thrEvent (c dir : Nat) (v : Int) : List Byte := be 1 c ++ be 1 dir ++ be 4 ((v / 4) % 10 ^ 9).toNat

/-- A converted FIR output against both thresholds (R192). -/
def thresholds (i : Nat) (k : AcqCfg) (val : F32) (v : Int) (c : AcqChan) : AcqChan × List (List Byte) :=
  let hiIn := if c.high then flt val (fsub k.thrHi k.hyst) else !isNan32 k.thrHi && fle k.thrHi val
  let loIn := if c.low then flt (fadd k.thrLo k.hyst) val else !isNan32 k.thrLo && fle val k.thrLo
  let (h, hc, hf, he) := debounce k.debounce c.high hiIn c.hiCount c.hiFirst v
  let (l, lc, lf, le_) := debounce k.debounce c.low loIn c.loCount c.loFirst v
  let evs := (match he with | some e => [thrEvent i (if e then 0 else 1) hf] | none => []) ++
    (match le_ with | some e => [thrEvent i (if e then 2 else 3) lf] | none => [])
  ({ c with high := h, hiCount := hc, hiFirst := hf, low := l, loCount := lc, loFirst := lf }, evs)

/-- The status word of a channel (R193). -/
def acqStatus (c : AcqChan) : Nat := flagsWord [c.high, c.low, c.state == 1, c.fault, c.sat, c.state == 0]

/-- Change channel `c`. -/
def modAcq (c : Nat) (f : AcqChan → AcqChan) (s : State) : State :=
  { s with acq := { s.acq with chans := modAt s.acq.chans c f } }

/-- Clocks that SETTLING lasts (R190). -/
def settleClocks (k : AcqCfg) : Nat := k.order * k.dec + 128 * k.dec + (if k.mode = 1 then 8 * k.dec * k.firDec else 0)

/-- TP / P of the period in progress, in nanoseconds. -/
def outStep (s : State) (k : AcqCfg) : Int := (s.grid.tp / max 1 k.perTp : Nat)

/-- The first output instant at or after now on the period's TP / P grid (R183). -/
def firstOut (s : State) (k : AcqCfg) : Int :=
  let st := max 1 (outStep s k)
  let t : Int := s.time.total
  s.grid.startT + ((t - s.grid.startT + st - 1) / st) * st

/-- Clocks of the common phase to the last edge at or before now. -/
def phaseClock (s : State) : Nat := (s.time.units * 256 - s.acq.phase) / max 1 (clockUnits s)

/-- Clocks of the common phase to the first edge at or after instant `u`, in units of 2^-40 ns (R194). -/
def edgeFrom (s : State) (u : Nat) : Nat := (u - s.acq.phase + (clockUnits s - 1)) / max 1 (clockUnits s)

/-- The common phase counted on by `n` clocks. -/
def phaseOn (n : Nat) (s : State) : State :=
  { s with acq := { s.acq with phase := s.acq.phase + n * clockUnits s, phaseClocks := s.acq.phaseClocks + n } }

/-- The common phase brought up to now, before the rate changes. -/
def phaseNow (s : State) : State := phaseOn (phaseClock s) s

/-- A channel enters SETTLING with every filter history cleared, on the common phase of the last synchronisation; the bits counted toward MOD_FAULT
and the fault itself go on (R180, R190, R194). -/
def enterSettling (s : State) (k : AcqCfg) (c : AcqChan) : AcqChan :=
  let n := phaseClock s
  let m := s.acq.phaseClocks + n
  { acqChanReset with state := 1, fault := c.fault, lastRun := c.lastRun, runLen := c.runLen, runBit := c.runBit, settle := settleClocks k,
                      edge := s.acq.phase + n * clockUnits s, sincPhase := m % max 1 k.dec, firPhase := m / max 1 k.dec % max 1 k.firDec,
                      nextT := some (firstOut s k) }

/-- The chain runs: domains clocked, not in a system reset. -/
def acqUp (s : State) : Bool := gnssUp s

/-- The output signal of channel `i` is marked invalid: MOD_FAULT or SETTLING (Table 08-2). -/
def markOutput (i : Nat) (s : State) : State := (acqCfg s i).elim s fun k => markBad k.sigId s

/-- Elapsed time at which the counter showed `t`, no later than now. -/
def elapsedAt (s : State) (t : Nat) : Nat := s.time.elapsed - (s.time.total - t)

/-- A channel enters MOD_FAULT; the 10 ms count from the clock edge of the run's last bit (R180). -/
def acqFault (i : Nat) (s : State) : State :=
  record .acqModFault (be 1 i) (markOutput i (modAcq i (fun c => { c with fault := true, lastRun := elapsedAt s (c.edge / 2 ^ 40), high := false, low := false,
                                                                          hiCount := 0, loCount := 0 }) s))

/-- The channel's outputs are not held back: SETTLING has ended by time and by the clocks counted, and there is no MOD_FAULT (R180, R190). -/
def AcqChan.open (c : AcqChan) : Bool := c.state == 2 && c.settle == 0 && !c.fault

/-- Publish a channel's outputs, and with each its status, where firmware runs (R186, R193, R197) and CD11 is not isolated, over whose crossings
nothing then goes (R527); an output held back leaves its status to be published (log 202). -/
def acqPublish (k : AcqCfg) (d : Nat) (outs : List (Int × Int)) (c : AcqChan) (s : State) : State :=
  if !awake s || outs.isEmpty || s.pwr.isolated.getLsbD 11 then s
  else
    let s1 := if c.open then outs.foldl (fun s o => publishAs k.sigId ⟨vF32 (convert k o.1), false, d, some o.2.toNat, none, none⟩ s) s else s
    publishAs k.statId ⟨vU32 (acqStatus c), false, d, none, none, none⟩ s1

/-- One bit of channel `i` with all its consequences. -/
def acqStep (i : Nat) (k : AcqCfg) (s : State) (b : Bool) : State :=
  let c0 := at_ acqChanReset s.acq.chans i
  if c0.state = 0 then s
  else
    let (c, o) := acqBit (fMod (mclkSel s)) (clockUnits s) s.acq.grids k b c0
    let s1 := modAcq i (fun _ => { c with state := if c.state = 1 ∧ c.settle = 0 then 2 else c.state }) s
    let then_ := countTo (c.edge / 2 ^ 40) s1
    let s2 := if 256 ≤ c.runLen then
        (if c.fault then modAcq i (fun c => { c with lastRun := elapsedAt then_ (c.edge / 2 ^ 40) }) then_ else acqFault i then_) else s1
    match o.fir with
    | none => s2
    | some (y, v) =>
      let s3 := countTo (c.edge / 2 ^ 40) s2
      let c3 := at_ acqChanReset s3.acq.chans i
      let (c4, evs) := if c3.open then thresholds i k (convert k y) v c3 else (c3, [])
      let told := if s3.pwr.isolated.getLsbD 11 then [] else evs
      let s4 := told.foldl (fun s e => record .acqThreshold e s) (modAcq i (fun _ => c4) s3)
      acqPublish k (c.edge / 2 ^ 40) o.outs c4 s4

/-- ACQ_OUTPUT (R178, R181 to R186, R192, R193): the next modulator bits of a channel, oldest first, one for each clock of its group's ACQ_MCLK. -/
def execAcqOutput (ch : Fin 16) (bits : List Bool) (s : State) : Result :=
  match acqCfg s ch.val with
  | none => .next s
  | some k => if acqUp s && s.acq.mclk.getD (ch.val / 8) 0 != 0 then .next (bits.foldl (acqStep ch.val k) s) else .next s

/-- ACQ_MOD_FAULT (R180): 256 identical bits in a row. -/
def execAcqModFault (ch : Fin 16) (s : State) : Result :=
  let c := at_ acqChanReset s.acq.chans ch.val
  if c.state = 0 ∨ c.fault ∨ ¬ acqUp s then .next s else .next (acqFault ch.val s)

/-- MOD_FAULT_CLEAR (R180): 10 ms without such a run, then SETTLING. -/
def execModFaultClear (ch : Fin 16) (s : State) : Result :=
  let c := at_ acqChanReset s.acq.chans ch.val
  match acqCfg s ch.val with
  | some k =>
    if c.fault ∧ c.state ≠ 0 then
      let s1 := elapseTo (c.lastRun + ms 10) s
      .next (modAcq ch.val (fun c => { enterSettling s1 k c with fault := false, runLen := 0 }) s1)
    else .next s
  | none => .next s

/-- SETTLING_END (R190): the remaining clocks pass and the channel runs; outputs of clocks inside SETTLING whose bits come later stay
unpublished. -/
def execSettlingEnd (ch : Fin 16) (s : State) : Result :=
  let c := at_ acqChanReset s.acq.chans ch.val
  if c.state = 1 then
    let s1 := countTo ((c.edge + c.settle * clockUnits s) / 2 ^ 40) s
    .next (modAcq ch.val (fun c => { c with state := 2 }) s1)
  else .next s

/-! Synchronisation (R194 to R196). -/

/-- Whether the device acts on its own ACQ_SYNC pin and writes (R196). -/
def syncOwner (s : State) : Bool := pNat s 0x0254 == 0 || !isFollower s

/-- A synchronisation is requested at instant I, told to the group where ACQ_SYNC_GROUP is 1 (R196). -/
def requestSync (i origin : Nat) (s : State) : State :=
  let s1 := { s with acq := { s.acq with syncs := s.acq.syncs ++ [(i, origin)] } }
  if pNat s 0x0254 = 1 ∧ ¬ isFollower s then sendCasc 0x31 0xFF (be 8 (i / 10 ^ 9) ++ be 4 (i % 10 ^ 9)) s1 else s1

/-- ACQ_SYNC_PIN_EDGE (R195): I is the first whole 100 µs at least 200 µs after the edge. -/
def execAcqSyncPinEdge (rising : Bool) (s : State) : Result :=
  let sel := pNat s 0x0253
  let early := match s.acq.lastPin with
    | some t => decide (s.time.elapsed < t + ms 1)
    | none => false
  if !acqUp s || !((sel == 1 && rising) || (sel == 2 && !rising)) || !syncOwner s || early then .next s
  else
    let t := s.time.total
    let i := (t + 200000 + 99999) / 100000 * 100000
    .next (requestSync i 0 { s with acq := { s.acq with lastPin := some s.time.elapsed } })

/-- Index of the period that an instant falls in, which may be the one that the next boundary opens. -/
def periodAt (next : Nat) (i : Nat) (s : State) : Nat := if s.grid.running && decide (s.grid.endT ≤ i) then next else periodIndex s

/-- Every running channel reset onto the common phase from E, the first clock edge at or after I, or after now where I has passed unused; clocks held
low start at I (R194). IN_FORCE of ACQ_SYNC is the period `p` it falls in (R195). -/
def applySync (i origin p : Nat) (s : State) : State :=
  let running := s.acq.mclk.any (· != 0)
  let u := if s.time.units < i * 2 ^ 32 + s.time.incr.toNat then i * 2 ^ 40 else s.time.units * 256
  let e := if running then (phaseOn (edgeFrom s u) s).acq.phase else u
  let s1 := { s with acq := { s.acq with phase := e, phaseClocks := 0, needSync := false, lastSync := p,
                                         syncs := s.acq.syncs.filter (fun x => x.1 != i) } }
  let onE (k : AcqCfg) (c : AcqChan) : AcqChan := { enterSettling s1 k c with edge := e, sincPhase := 0, firPhase := 0 }
  let cs := s1.acq.chans.mapIdx fun j (c : AcqChan) => match acqCfg s1 j with
    | some k => if c.state = 0 then c else onE k c
    | none => c
  let s2 := (List.range 16).foldl (fun s j => if (at_ acqChanReset s.acq.chans j).state = 0 then s else markOutput j s) s1
  record .acqSync (be 5 (i / 100000 % 2 ^ 40) ++ be 1 origin) { s2 with acq := { s2.acq with chans := cs } }

/-- The earliest pending synchronisation. -/
def firstSync (l : List (Nat × Nat)) : Option (Nat × Nat) :=
  l.foldl (fun a x => match a with
    | none => some x
    | some y => if x.1 < y.1 then some x else some y) none

/-- ACQ_SYNC (R194): at instant I. -/
def execAcqSync (s : State) : Result :=
  match firstSync s.acq.syncs with
  | some (i, o) => if acqUp s then .next (applySync i o (periodAt (s.grid.period + 1) i s) (countTo i s)) else .next s
  | none => .next s

/-- A synchronisation asked for the next period is requested with that period's boundary as I, so that its notice leaves before I; one asked for a
period that has come is requested now (R195, R196, log 205). -/
def scheduleSync (n next : Nat) (nextAt : Int) (s : State) : State :=
  match s.acq.syncPeriod with
  | some p =>
    if !syncOwner s then s
    else
      let s1 := { s with acq := { s.acq with syncPeriod := none } }
      if p ≤ n then requestSync s.time.total 1 s1 else if p = next then requestSync nextAt.toNat 1 s1 else s
  | none => s

/-- The modulator clocks run while a channel does, at f_mod, and are held low otherwise (R179). -/
def runClocks (s : State) : State :=
  let f := if s.acq.chans.any (fun c => c.state != 0) then fMod (mclkSel s) else 0
  { s with acq := { s.acq with mclk := [f, f] } }

/-- A channel starts: on the common phase, with no value published since (R190, R194). -/
def startChan (k : AcqCfg) (i : Nat) (s : State) : State := startSignal k.sigId (modAcq i (enterSettling s k) s)

/-- At a vessel-period boundary: a synchronisation asked for is requested, channels start and stop with ACQ_RUN in force, a stopped channel publishes
its status, SAT of the period before ends, and the first boundary with channels to run synchronises them (R182, R190, R193, R195, R197). -/
def acqBoundary (n : Nat) (s : State) : State :=
  let s0 := scheduleSync n (n + 1) s.grid.endT { s with acq := { s.acq with grids := (s.grid.startT, s.grid.tp) :: s.acq.grids.take 15 } }
  let s1 := if s0.acq.needSync ∧ pNat s0 0x0251 ≠ 0 then applySync s0.grid.startT.toNat 1 n s0 else s0
  runClocks ((List.range 16).foldl (fun s i =>
    match acqCfg s i with
    | none => s
    | some k =>
      let c := at_ acqChanReset s.acq.chans i
      let run := bitOf (pNat s 0x0251) i
      if run && c.state == 0 then startChan k i s
      else if run then modAcq i (fun c => { c with sat := false }) s
      else publish k.statId (vU32 32) (modAcq i (fun _ => acqChanReset) s)) s1)

/-- A threshold that the configuration now disables: its state is left at once, recorded with the present instant (R192, log 204). -/
def thresholdsOff (s : State) : State :=
  (List.range 16).foldl (fun s i =>
    match acqCfg s i with
    | none => s
    | some k =>
      let c := at_ acqChanReset s.acq.chans i
      let v : Int := 4 * (s.time.total : Int)
      let s1 := if c.high && isNan32 k.thrHi then record .acqThreshold (thrEvent i 1 v) (modAcq i (fun c => { c with high := false, hiCount := 0 }) s) else s
      if c.low && isNan32 k.thrLo then record .acqThreshold (thrEvent i 3 v) (modAcq i (fun c => { c with low := false, loCount := 0 }) s1) else s1) s

/-- The chain's instants on a counter moved by `d` nanoseconds: edges, periods, output instants to come and the places of the outputs that they are
interpolated from stay where they are in elapsed time; stamps already taken keep the old time (R134, R135, R185, log 203). -/
def shiftAcq (d : Int) (a : AcqState) : AcqState :=
  let mv (t : Nat) : Nat := ((t : Int) + d * 2 ^ 40).toNat
  let ch (c : AcqChan) : AcqChan :=
    { c with edge := mv c.edge, y := c.y.map fun y => (y.1, y.2 + 4 * d), nextT := c.nextT.map (· + d) }
  { a with phase := mv a.phase, chans := a.chans.map ch, grids := a.grids.map fun g => (g.1 + d, g.2) }

/-- Every channel stopped, a synchronisation due at the first boundary after (R197). -/
def acqStop (s : State) : State :=
  { s with acq := { acqReset with lastSync := s.acq.lastSync } }

/-! Table and lock checks (R187, R188, R191). -/

/-- A channel record within its ranges (Table 06-1). -/
def acqRangeOk (r : List Byte) : Bool :=
  let k := acqCfgOf r []
  decide (byteAt r 0 ≤ 15) && decide (1 ≤ k.order ∧ k.order ≤ 4) && decide (16 ≤ k.dec ∧ k.dec ≤ 512) &&
    decide (1 ≤ k.firDec ∧ k.firDec ≤ 8) && decide (k.mode ≤ 1) && (k.mode == 0 || decide (1 ≤ k.perTp ∧ k.perTp ≤ 16)) &&
    decide (k.set ≤ 15) && decide (k.sigId ≤ 0x3FFF ∧ k.statId ≤ 0x3FFF) && ffinite k.gain && fabs k.gain != f0 &&
    ffinite k.offset && decide (-100000 ≤ k.delay ∧ k.delay ≤ 100000) && fle f0 k.hyst && decide (1 ≤ k.debounce) &&
    allZero (slice r 37 11)

/-- The rate conditions of R187 for a record, under given ACQ_MCLK_HZ and TP. -/
def acqRateOk (mclk tp : Nat) (r : List Byte) : Bool :=
  let k := acqCfgOf r []
  let f := fMod mclk
  decide (f ≤ 640000 * k.dec) &&
    (k.mode == 0 || (decide (k.dec * k.firDec * k.perTp * 10 ^ 9 ≤ f * tp ∧ f * tp ≤ 256 * (k.dec * k.firDec * k.perTp * 10 ^ 9)) &&
      tp % max 1 k.perTp == 0))

/-- THR_HI ≤ THR_LO when both are numbers. -/
def acqThrBad (r : List Byte) : Bool :=
  let k := acqCfgOf r []
  !isNan32 k.thrHi && !isNan32 k.thrLo && fle k.thrHi k.thrLo

/-- No element twice. -/
def distinct (l : List Nat) : Bool := l.length == l.eraseDups.length

/-- Step 2 of TABLE_WRITE for table 0x0260 (R187); R191 and R236 are judged beside it. -/
def acqTableStatus (mclk tp : Nat) (body : List Byte) : Nat :=
  let rs := records 48 body
  if body.length ≠ 768 then stInconsistent
  else if !rs.all acqRangeOk then stOutOfRange
  else if !((rs.mapIdx fun i r => byteAt r 0 == i).all id) || !rs.all (acqRateOk mclk tp) || rs.any acqThrBad ||
      !distinct (rs.flatMap fun r => [fieldU r 8 2, fieldU r 10 2]) then stInconsistent
  else 0

/-- Step 2 of TABLE_WRITE for tables 0x0270 to 0x027F (R188). -/
def coefTableStatus (body : List Byte) : Nat :=
  let h := acqCoefs body
  if body.length ≠ 512 then stInconsistent
  else if !h.all (fun x => decide (-8388608 ≤ x ∧ x ≤ 8388607)) then stOutOfRange
  else
    let a := sumH h
    let b := if a < 0 then -(sumIH h) else sumIH h
    if a = 0 ∨ b < 0 ∨ 127 * (a.natAbs : Int) < b then stInconsistent else 0

/-- Filter fields of a record (R191). -/
def filterFields (r : List Byte) : List Byte := slice r 1 7 ++ slice r 20 4

/-- A write would change the filter fields, or the coefficients, of a running channel (R191). -/
def acqRunningClash (s : State) (id : Nat) (body : List Byte) : Bool :=
  (List.range 16).any fun i =>
    (at_ acqChanReset s.acq.chans i).state != 0 &&
      (if id = 0x0260 then filterFields (slice body (48 * i) 48) != filterFields (tabRec s 0x0260 48 i)
       else byteAt (tabRec s 0x0260 48 i) 7 == id - 0x0270 && body != tab s id)

/-- CONFIG_LOCK's tests of the chain (R179, R187), on staged values. -/
def acqLockOk (s : State) (mclk tp run : Nat) (body : List Byte) : Bool :=
  (mclk == pNat s 0x0250 || pNat s 0x0251 == 0) &&
    (body.isEmpty || (List.range 16).all (fun i => !bitOf run i ||
      (acqRateOk mclk tp (slice body (48 * i) 48) && !acqThrBad (slice body (48 * i) 48))))

end Sys2Proof.Machine
end

