-- ==== Sys2Proof/Machine/Recorder.lean ====
section
/-! DEFINITION. The event recorder's opcodes and events (chapter 17, Table 03-13). -/

namespace Sys2Proof.Machine

/-- CODE of an event: SOURCE in bits [15:8], the event index below. Table 17-4 gives the recorder's own; every other
index is the catalogue's, which the spec does not print (R503, log 17). -/
def evCode (ev : Ev) : Nat :=
  match ev with
  | .evtCleared => 0x1001
  | .evtLost => 0x1002
  | .evtCorrupt => 0x1003
  | .evtControlLost => 0x1004
  | e => e.source * 256 + (Config.evIndex e).toNat

/-- SEVERITY of an event (Tables 17-2, 17-4; JUNCTION_HOT under R560); the others are the catalogue's (R503, log 17). -/
def evSeverity (ev : Ev) : Nat :=
  match ev with
  | .evtCleared => 1
  | .evtLost => 2
  | .evtCorrupt => 3
  | .evtControlLost => 3
  | .junctionHot => 2
  | e => (Config.evSeverity e).toNat % 5

/-- The 32 bytes of a record (Table 17-1); one whose CRC fails is returned as stored (R513). -/
def EvRec.bytes (r : EvRec) : List Byte :=
  let fl := evSeverity r.ev + 8 * b2n (r.rep == 65535) + 16 * b2n r.lostBefore
  let t := match r.stamp with
    | some t => be 6 t.sec ++ be 4 t.ns
    | none => be 6 (2 ^ 48 - 1) ++ be 4 (2 ^ 32 - 1)
  let b := be 5 r.oper ++ be 3 r.cycles ++ be 2 (evCode r.ev) ++ be 1 r.ev.source ++ be 1 fl ++ be 2 r.rep ++ t ++ padTo 6 r.params
  match r.bad with
  | some q => padTo 32 q.2
  | none => b ++ be 2 (crc16 b).toNat

/-- Number of the oldest record; NEWEST + 1 when there is none (R509). -/
def oldest (e : RecState) : Nat :=
  match e.recs with
  | [] => (e.newest + 1) % 2 ^ 32
  | r :: _ => r.num

/-- EVT_INFO. -/
def opEvtInfo : OpDef := readOp 0x0A01 1 0 (fun _ _ => 0) fun _ s =>
  be 4 evtCapacity ++ be 4 s.evt.recs.length ++ be 4 (oldest s.evt) ++ be 4 s.evt.newest

/-- EVT_INFO (R509). -/
def execEvtInfo (r : Req) (p : List Byte) (s : State) : Result := .next (packetIn true opEvtInfo r p s)

/-- A record matches the three filters of EVT_READ (R510); one whose CRC fails only where all of them are open (R513). -/
def evMatches (minSev src code : Nat) (r : EvRec) : Bool :=
  if r.bad.isSome then minSev == 0 && src == 0xFF && code == 0xFFFF
  else decide (minSev ≤ evSeverity r.ev) && (src == 0xFF || src == r.ev.source) && (code == 0xFFFF || code == evCode r.ev)

/-- Scan records in ascending number: those matched, newest first, and the number after the last examined. -/
def evScan (minSev src code : Nat) : Nat → Nat → List EvRec → List EvRec → Nat → List EvRec × Nat
  | _, _, acc, [], next => (acc, next)
  | 0, _, acc, _, next => (acc, next)
  | _, 0, acc, _, next => (acc, next)
  | want + 1, exam + 1, acc, r :: rs, _ =>
    if evMatches minSev src code r then evScan minSev src code want exam (r :: acc) rs ((r.num + 1) % 2 ^ 32)
    else evScan minSev src code (want + 1) exam acc rs ((r.num + 1) % 2 ^ 32)

/-- The records from FROM on, or from OLDEST where that is larger, compared modulo 2^32 against NEWEST (R510). -/
def evFrom (from_ : Nat) (e : RecState) : List EvRec :=
  let back := (e.newest + 2 ^ 32 - from_) % 2 ^ 32
  if 2 ^ 31 ≤ back then [] else e.recs.drop (e.recs.length - (back + 1))

/-- What EVT_READ finds: the records matched, newest first, and the number after the last examined (R510). -/
def evFound (c : Cmd) (e : RecState) : List EvRec × Nat :=
  let rs := evFrom (fieldU c.params 0 4) e
  let start := match rs with
    | [] => (e.newest + 1) % 2 ^ 32
    | r :: _ => r.num
  evScan (byteAt c.params 6) (byteAt c.params 7) (fieldU c.params 8 2) (fieldU c.params 4 2) 65536 [] rs start

/-- The reply of EVT_READ (R510). -/
def evRead (c : Cmd) (e : RecState) : List Byte :=
  let (hits, next) := evFound c e
  be 4 next ++ be 2 hits.length ++ be 2 0 ++ hits.reverse.flatMap (·.bytes)

/-- The controller meets a record whose CRC fails for the first time: EVT_CORRUPT with its number (R513). -/
def meetBad (s : State) (r : EvRec) : State :=
  match r.bad with
  | some (false, b) =>
    let f (q : EvRec) : EvRec := if q.num = r.num then { q with bad := some (true, b) } else q
    record .evtCorrupt (be 4 r.num) { s with evt := { s.evt with recs := s.evt.recs.map f } }
  | _ => s

/-- The records that EVT_READ examines are met (R513). -/
def meetExamined (c : Cmd) (s : State) : State :=
  let rs := evFrom (fieldU c.params 0 4) s.evt
  (rs.take (((evFound c s.evt).2 + 2 ^ 32 - (rs.head?.map (·.num)).getD (evFound c s.evt).2) % 2 ^ 32)).foldl meetBad s

/-- EVT_READ. -/
def opEvtRead : OpDef := stepOp 0x0A02 3
  (fun c _ => firstOf [sizeIs 10 c, when_ (decide (fieldU c.params 4 2 = 0 ∨ 2048 < fieldU c.params 4 2)) stOutOfRange,
    when_ (decide (4 < byteAt c.params 6)) stOutOfRange]) fun c s => .finish (meetExamined c s) 0 (evRead c s.evt) none

/-- EVT_READ (R510). -/
def execEvtRead (r : Req) (p : List Byte) (s : State) : Result := .next (packetIn true opEvtRead r p s)

/-- Every record removed, then EVT_CLEARED with the count and the clearing session (R514). -/
def clearEvents (session : Nat) (s : State) : State :=
  let n := s.evt.recs.length
  record .evtCleared (be 4 n ++ be 2 session) { s with evt := { s.evt with recs := [] } }

/-- EVT_CLEAR. -/
def opEvtClear : OpDef := stepOp 0x0A03 1 (fun c _ => sizeIs 0 c)
  fun c s => .finish (clearEvents c.slot s) 0 (be 4 s.evt.recs.length) none

/-- EVT_CLEAR (R514). -/
def execEvtClear (r : Req) (p : List Byte) (s : State) : Result := .next (packetIn true opEvtClear r p s)

/-- EVENT_ENTRY (R506). -/
def execEventEntry (ev : Ev) (data : List Byte) (s : State) : Result := .next (record ev data s)

/-- The buffer is written to MRAM; events dropped before are then told by EVT_LOST, with LOST_BEFORE set (R508). -/
def flushEvents (s : State) : State :=
  let s1 := { s with evt := { s.evt with recs := s.evt.recs.map fun r => { r with mram := some (r.rep, r.params) } } }
  if s1.evt.dropped = 0 then s1
  else pushRec .evtLost (be 4 (satU 32 s1.evt.dropped)) true { s1 with evt := { s1.evt with dropped := 0 } }

/-- EVENT_FLUSH (R508): once firmware runs, and held while the brown-out warning is raised (R529). -/
def execEventFlush (s : State) : Result := .next (if bowRaised s || !fwRunning s then s else flushEvents s)

/-- CONTROL_BLOCK_WRITE (R502): the stored operating time and power-cycle count. -/
def execControlBlockWrite (s : State) : Result :=
  .next (if bowRaised s then s else { s with evt := { s.evt with ctrlOper := s.evt.operNs, ctrlCycles := s.evt.cycles } })

end Sys2Proof.Machine
end

