-- ==== Sys2Proof/Machine/Time.lean ====
section
/-! DEFINITION. The time base (chapter 04): rate, steps, the period grid's realignment, the servo, IEEE 1588 messages,
the pulse per second and the time opcodes (Table 03-8). -/

namespace Sys2Proof.Machine

/-! Rate (R123, R124). -/

/-- n / d rounded to nearest, ties to even. -/
def rneDiv (n d : Nat) : Nat :=
  let q := n / max 1 d
  let r := 2 * (n % max 1 d)
  if r > d ∨ (r = d ∧ q % 2 = 1) then q + 1 else q

/-- TIME_INCR of a rate in ppb: 4 ns · (1 + r · 10^-9) in units of 2^-32 ns, rounded half to even (R124). -/
def incrOf (r : Num) : BitVec 64 :=
  match r with
  | .fin s m e =>
    let k := (-e).toNat
    let v : Int := (10 ^ 9 * 2 ^ k : Nat) + sgnInt s (m * 2 ^ (e + k).toNat)
    BitVec.ofNat 64 (rneDiv (v.toNat * 2 ^ 34) (10 ^ 9 * 2 ^ k))
  | _ => 0x400000000#64

/-- The rate a value of TIME_INCR applies, exactly. -/
def rateOf (incr : BitVec 64) : Num := Num.ofDyadic (((incr.toNat : Int) - 2 ^ 34) * 10 ^ 9) (-34)

/-- TIME_INCR and the rate it applies (R124). -/
def setRate (r : Num) (s : State) : State :=
  let i := incrOf r
  { s with time := { s.time with incr := i, rate := pack64 (rateOf i) } }

/-- The rate written (R124); the chain's common phase is counted on at the old rate to now. -/
def writeRate (r : Num) (s : State) : State := setRate r (phaseNow s)

/-- The firmware writes the rate: TIME_SERVO is FIRMWARE, or the device is a follower (R131, R143, log 25). -/
def servoOwns (s : State) : Bool := isFollower s || pNat s 0x0502 == 0

/-! The grid (R16, R18). -/

/-- The first instant at or after `t` of the grid of period `vp` and phase `ph`. -/
def gridFrom (vp ph : Nat) (t : Int) : Int :=
  let p : Int := (max 1 vp : Nat)
  ph + ((t - ph + p - 1) / p) * p

/-- Index of the period that begins at an instant of that grid. -/
def indexFrom (vp ph : Nat) (t : Int) : Nat := ((t - ph) / (max 1 vp : Nat)).toNat

/-- The first grid instant at or after an instant. -/
def gridAt (s : State) (t : Int) : Int := gridFrom (vpNs s) (pNat s 0x0103) t

/-- Period index of a grid instant (R16). -/
def indexOf (s : State) (t : Int) : Nat := indexFrom (vpNs s) (pNat s 0x0103) t

/-- The first instant at or after `t` of the grid that the period in progress opened under; with none in progress, of the grid in force. -/
def ownGridAt (s : State) (t : Int) : Int := if s.grid.running then gridFrom s.grid.vp s.grid.phase t else gridAt s t

/-- Index of the period that begins at boundary `b`, under the configuration it takes; a boundary that the grid of that configuration
does not have is numbered by the grid before (R16, log 105). -/
def boundaryIndex (s : State) (b : Int) : Nat :=
  let v := { s with cfg := cfgBefore b s }
  if gridAt v b = b ∨ !s.grid.running then indexOf v b else indexFrom s.grid.vp s.grid.phase b

/-- The next boundary of the grid after this instant, with the index of the period it begins (R16, R18). -/
def nextBoundary (s : State) : Int × Nat :=
  let t : Int := s.time.total
  let b := if s.grid.running && decide (t < s.grid.endT) then s.grid.endT else ownGridAt s (t + 1)
  (b, boundaryIndex s b)

/-- The first period whose snapshot instant follows this instant (R22): the oldest begun and not yet snapshot that takes its snapshot under
BOUNDED, else the next to begin. -/
def firstPeriod (s : State) : Nat :=
  match s.sch.begun.find? fun p => !isDet { s with cfg := cfgBefore p.2 s } with
  | some p => p.1
  | none => (nextBoundary s).2

/-- TP boundaries of a period from `a` to `b` at thruster periods of `tp` (R18). -/
def tpCount (tp : Nat) (a b : Int) : Nat := ((b - a + tp - 1) / (max 1 tp : Nat)).toNat

/-- A synchronisation asked for by command at the boundary `old` is asked for at the boundary `b` that takes its place (R195, log 205). -/
def askAgain (old b : Int) (s : State) : State :=
  let mine := s.acq.syncs.filter fun x => x.2 == 1 && (x.1 : Int) == old
  if mine.isEmpty then s
  else requestSync b.toNat 1 { s with acq := { s.acq with syncs := s.acq.syncs.filter fun x => !(x.2 == 1 && (x.1 : Int) == old) } }

/-- The grid realigned after the counter has moved by `delta` (R18): the period in progress keeps its own cadence and
ends at the first grid instant of the new time at least one TP after its start, the first not in the past where that one is
(log 173). With no period in progress only the event is recorded; before any period has begun it has no old index to carry (log 174). -/
def realign (cause : Nat) (delta : Int) (s : State) : State :=
  let g := s.grid
  let old := if s.grid.everBegun then s.grid.period else Config.noPeriod.toNat
  let a := s.grid.startT + delta
  let b := if g.running then ownGridAt s (max (a + g.tp) s.time.total) else gridAt s s.time.total
  let s1 := if g.running then askAgain g.endT b { s with grid := { g with startT := a, endT := b, tpTotal := tpCount g.tp a b } } else s
  record .periodRealigned (be 1 cause ++ be 1 0 ++ be 2 old ++ be 2 (boundaryIndex s1 b)) s1

/-! Steps (R129, R130, R134). -/

/-- The scheduler's instants on a counter moved by `d`: they stay where they are in elapsed time. -/
def shiftSch (d : Int) (c : SchState) : SchState :=
  let mv (p : Pend) : Pend := { p with at_ := p.at_ + d }
  { c with pend := c.pend.map mv, begun := c.begun.map fun p => (p.1, p.2 + d), b := c.b + d, start := c.start + d,
           snap := c.snap + d, nextA := c.nextA.map (· + d), relAt := c.relAt.map (fun p => (p.1, p.2 + d)),
           prevSnap := c.prevSnap + d, nominal := true }

/-- The counter moved by whole nanoseconds, FRACTION kept; commands in flight keep the time they showed at validation
relative to it (R134). The period after a step takes nominal dt (R567). Offsets measured and not yet taken move with the counter, and an
exchange that spans the step is given up (log 188). -/
def moveCounter (delta : Int) (s : State) : State :=
  let mv (c : Cmd) : Cmd := { c with validT := c.validT + delta }
  let ex (x : PtpEx) : PtpEx := { x with t1 := none, peer := none, asked := none, offset := x.offset.map (· + delta) }
  let t := { s.time with ptpEx := s.time.ptpEx.map ex, ppsOff := s.time.ppsOff.map (· + delta) }
  { s with gnss := { s.gnss with timeOff := s.gnss.timeOff.map (· + delta) }, acq := shiftAcq delta s.acq,
           time := t.setUnits ((s.time.units : Int) + delta * 2 ^ 32).toNat, sch := shiftSch delta s.sch,
           thr := { s.thr with s6Due := s.thr.s6Due + delta }, host := { s.host with cmds := s.host.cmds.map mv } }

/-- The initial step (R129): time loaded, FRACTION cleared, TIME_SET recorded, grid realigned with cause 4. -/
def initialStep (t : Nat) (origin : Nat) (state : TState) (s : State) : State :=
  let delta : Int := (t : Int) - s.time.total
  let s1 := moveCounter delta s
  let s2 := { s1 with time := { s1.time with frac := 0, state := state } }
  realign 4 delta (record .timeSet (be 1 origin) s2)

/-- A step takes effect at its instant: counter, S zero and F kept, TIME_STEP recorded, grid realigned (R134, R144). -/
def applyStep (p : PendStep) (s0 : State) : State :=
  let s := countTo p.instant s0
  let s1 := moveCounter p.delta s
  let s2 := { s1 with time := { s1.time with steps := s1.time.steps.filter (· != p), slew := 0, stepCount := p.count } }
  let s3 := if servoOwns s2 then writeRate (num64 s2.time.freq) s2 else s2
  realign p.origin p.delta (record .timeStep (be 1 p.origin ++ be 5 (p.instant / 1000000)) s3)

/-- The earliest pending step. -/
def firstStep (l : List PendStep) : Option PendStep :=
  l.foldl (fun a x => match a with
    | none => some x
    | some y => if x.instant < y.instant then some x else some y) none

/-- The step that a command waits for. -/
def stepOfEntry (s : State) (e : Nat) : Option PendStep := s.time.steps.find? (fun p => p.entry == some e)

/-- The step count with every step whose notice has been given or received: what a Sync carries, and what shows a step that was missed (R144). -/
def noticeCount (s : State) : Nat := (s.time.steps.getLast?.map (·.count)).getD s.time.stepCount

/-- The interval from an instant to the first pulse of PPS_OUT at or after it in the time that the step makes, from `t` on the counter (R147). -/
def gapOver (p : PendStep) (t : Nat) (s : State) : Nat :=
  let u : Int := p.instant + p.delta
  let o := pInt s 0x0531
  let i := ((p.instant : Int) - t + (o + ((u - o + 999999999) / 10 ^ 9) * 10 ^ 9 - u)).toNat
  if i < ms 500 then i + 10 ^ 9 else i

/-- A step waits for its instant: a pulse of PPS_OUT in progress ends by half the interval that the step leaves to the next; the pin's record shows
the width that it now gets (R147, log 224). -/
def addStep (p : PendStep) (s0 : State) : State :=
  let s := { s0 with time := { s0.time with steps := s0.time.steps ++ [p] } }
  match s.time.ppsLast with
  | some e =>
    let since := s.time.elapsed - e
    let fall := max s.time.elapsed (e + gapOver p (s.time.total - since) s / 2)
    if s.time.elapsed < s.time.ppsFall ∧ fall < s.time.ppsFall then
      emit (.pulse "PPS_OUT" (fall - e)) { s with time := { s.time with ppsFall := fall } }
    else s
  | none => s

/-- The step notice of a MASTER: Δ, I and the step count (R144; the layout is the model's, log 26). -/
def stepNotice (p : PendStep) (s : State) : State :=
  if s.grp.role = 0 then
    sendCasc 0x30 0xFF (be 16 (ofSigned 128 p.delta) ++ be 8 (p.instant / 10 ^ 9) ++ be 4 (p.instant % 10 ^ 9) ++ be 2 p.count) s
  else s

/-- Whole nanoseconds of the SEC and NS fields at an offset. -/
def timeField (c : Cmd) (off : Nat) : Nat := fieldU c.params off 8 * 10 ^ 9 + fieldU c.params (off + 8) 4

/-- BAD_TIME for an NS field of 10^9 or more (R4). -/
def badNs (c : Cmd) (off : Nat) : Nat := when_ (decide (10 ^ 9 ≤ fieldU c.params off 4)) stBadTime

/-- TIME_STEP's step (R134): it waits for I, then answers I. -/
def runTimeStep (c : Cmd) (s : State) : StepRes :=
  match c.data with
  | [] =>
    let i := ((s.time.total + b2n (s.time.frac != 0) + 10000000 + 999999) / 1000000) * 1000000
    let p : PendStep := { delta := (timeField c 0 : Int) - c.validT, instant := i, origin := 0,
                          count := (s.time.stepCount + 1) % 65536, entry := some c.entry }
    .wait (stepNotice p (addStep p s)) [i]
  | i :: _ =>
    let s1 := match stepOfEntry s c.entry with
      | some p => applyStep p s
      | none => s
    .finish s1 0 (be 8 (i / 10 ^ 9) ++ be 4 (i % 10 ^ 9)) none

/-- TIME_STEP; a follower's INCONSISTENT comes first (log 232). -/
def opTimeStep : OpDef := stepOp 0x0503 1 (fun c s => firstOf [sizeIs 12 c, badNs c 8, when_ (isFollower s) stInconsistent,
  when_ (!timeValid s) stTimeNotSet]) runTimeStep

/-- TIME_STEP (R134, R143). -/
def execTimeStep (r : Req) (p : List Byte) (s : State) : Result := .next (packetIn true opTimeStep r p s)

/-- TIME_STEP_INSTANT (R134): the step applies at I whatever waits (log 27); its command then ends. -/
def execTimeStepInstant (s : State) : Result :=
  match firstStep s.time.steps with
  | none => .next s
  | some p =>
    let s1 := applyStep p s
    match p.entry with
    | some e => .next (runCmd opTimeStep 1 e s1)
    | none => .next s1

/-- TIME_SET; a follower's INCONSISTENT comes first (log 232). -/
def opTimeSet : OpDef := stepOp 0x0502 1 (fun c s => firstOf [sizeIs 12 c, badNs c 8, when_ (isFollower s) stInconsistent,
  when_ (timeValid s) stTimeAlreadySet, when_ s.cfg.locked stConfigLocked])
  (fun c s => .finish (initialStep (timeField c 0) 0 .free s) 0 [] none)

/-- TIME_SET (R104, R129, R143). -/
def execTimeSet (r : Req) (p : List Byte) (s : State) : Result := .next (packetIn true opTimeSet r p s)

/-- TIME_GET. -/
def opTimeGet : OpDef := readOp 0x0501 1 0 (fun _ _ => 0) fun _ s =>
  be 8 s.time.sec ++ be 4 (if timeValid s then s.time.ns else 2 ^ 32 - 1) ++ be 2 (s.time.frac / 65536) ++
    be 1 (tstateCode s.time.state) ++ be 1 0 ++ be 4 (errNs s)

/-- TIME_GET (R125, R127). -/
def execTimeGet (r : Req) (p : List Byte) (s : State) : Result := .next (packetIn true opTimeGet r p s)

/-- A rate within −100,000 and +100,000 ppb. -/
def rateInRange (r : Num) : Bool := (Num.ofInt (-100000)).le r && r.le (Num.ofInt 100000)

/-- TIME_RATE. -/
def opTimeRate : OpDef := stepOp 0x0504 1
  (fun c s =>
    let r := num64 (fieldF64 c.params 0)
    firstOf [sizeIs 8 c, when_ (!rateInRange r) stOutOfRange, when_ (!timeValid s) stTimeNotSet,
      when_ (isFollower s || pNat s 0x0502 == 0) stInconsistent,
      when_ (!((r.add (rateOf s.time.incr).neg).abs.le (Num.ofInt (pNat s 0x0504)))) stInconsistent])
  fun c s =>
    let s1 := writeRate (num64 (fieldF64 c.params 0)) s
    .finish s1 0 (be 8 s1.time.rate.toNat) none

/-- TIME_RATE (R131). -/
def execTimeRate (r : Req) (p : List Byte) (s : State) : Result := .next (packetIn true opTimeRate r p s)

/-! The transmit stamp queue (R140, R141). -/

/-- TIME_SERVO is HOST (R131). -/
def hostServo (s : State) : Bool := pNat s 0x0502 == 1

/-- A transmit stamp for the host: queued, or discarded where 256 wait. -/
def queueStamp (t : TxStamp) (s : State) : State :=
  if !hostServo s then s
  else if s.time.txQueue.length < 256 then { s with time := { s.time with txQueue := s.time.txQueue ++ [t] } }
  else { s with time := { s.time with txOverflow := true, txEpisode := true, txDiscarded := s.time.txDiscarded + 1 } }

/-- Under FIRMWARE the queue is empty from the instant TIME_SERVO comes into force (R140). -/
def pruneStamps (s : State) : State := if hostServo s then s else { s with time := { s.time with txQueue := [] } }

/-- TX_STAMP_READ's step; an overflow episode ends, and is recorded, at the read that empties the queue (log 28). -/
def runTxStampRead (c : Cmd) (s : State) : StepRes :=
  let n := byteAt c.params 0
  let out := s.time.txQueue.take n
  let rest := s.time.txQueue.drop n
  let rep := be 1 out.length ++ be 1 (b2n s.time.txOverflow) ++
    out.flatMap fun t => be 2 t.id ++ be 1 t.port ++ be 1 0 ++ be 6 t.at_.sec ++ be 4 t.at_.ns
  let done := s.time.txEpisode && rest.isEmpty
  let s1 := { s with time := { s.time with txQueue := rest, txOverflow := false, txEpisode := s.time.txEpisode && !done,
                                           txDiscarded := if done then 0 else s.time.txDiscarded } }
  .finish (if done then record .txStampOverflow (be 4 (satU 32 s.time.txDiscarded)) s1 else s1) 0 rep none

/-- TX_STAMP_READ. -/
def opTxStampRead : OpDef := stepOp 0x0505 1
  (fun c _ => firstOf [sizeIs 1 c, when_ (decide (byteAt c.params 0 = 0 ∨ 100 < byteAt c.params 0)) stOutOfRange]) runTxStampRead

/-- TX_STAMP_READ (R140, R141). -/
def execTxStampRead (r : Req) (p : List Byte) (s : State) : Result := .next (packetIn true opTxStampRead r p s)

/-! The servo (R127, R132, R133, R175). -/

/-- Distance of an instant from the nearest whole second, positive after it (R148). -/
def fromSecond (t : Nat) : Int :=
  let r : Int := (t % 10 ^ 9 : Nat)
  if r < 500000000 then r else r - 10 ^ 9

/-- The slew of an offset: −offset / 8 bounded by SLEW_MAX_PPB; at the bound beyond STEP_ALARM_NS (R132, R133). -/
def slewOf (s : State) (offset : Int) : Num :=
  let m : Int := pNat s 0x0504
  if (pNat s 0x0506 : Int) < offset.natAbs then Num.ofInt (if offset < 0 then m else -m)
  else if 8 * m < offset.natAbs then Num.ofInt (if offset < 0 then m else -m)
  else Num.ofDyadic (-offset) (-3)

/-- HOLDOVER_EXIT at the first valid source epoch: duration in seconds and the offset, ns (R175; widths by log 29). -/
def holdoverExit (offset : Int) (s : State) : State :=
  if s.time.state = .holdover then
    record .holdoverExit (be 2 (satU 16 ((s.time.elapsed - s.time.lastValidAt) / 10 ^ 9)) ++ be 4 (satS 32 offset)) s
  else s

/-- TIME_OFFSET_LARGE, once per excursion beyond STEP_ALARM_NS (R133; width by log 29). -/
def offsetAlarm (offset : Int) (s : State) : State :=
  if (pNat s 0x0506 : Int) < offset.natAbs then
    if s.time.offsetLarge then s
    else record .timeOffsetLarge (be 4 (satS 32 offset)) { s with time := { s.time with offsetLarge := true } }
  else { s with time := { s.time with offsetLarge := false } }

/-- A measurement of the offset is taken: estimates, rate, state and alarms. -/
def takeOffset (offset : Int) (s0 : State) : State :=
  let s := freshen (offsetAlarm offset (holdoverExit offset s0))
  let f := Config.servoFreq s.fresh
  let est := (Config.servoErr s.fresh).toNat
  let e := s.time.elapsed
  let locked := decide (offset.natAbs ≤ pNat s 0x0505) && !s.time.offsetLarge
  let err := min 4294967294 (if locked then est else offset.natAbs + est)
  let t := { s.time with sourceValid := true, lastValidAt := e, errAt := e, errNs := err, holdErr0 := err,
                         state := if locked then .locked else .slewing }
  if servoOwns s then
    let sl := slewOf s offset
    writeRate ((num64 f).add sl) { s with time := { t with freq := f, slew := pack64 sl } }
  else { s with time := t }

/-- In HOLDOVER the firmware servo applies the last frequency estimate, without slew (R127). -/
def holdRate (s : State) : State :=
  if s.time.state = .holdover ∧ servoOwns s = true then writeRate (num64 s.time.freq) { s with time := { s.time with slew := 0 } } else s

/-- HOLDOVER_ENTER (R127, R143): HOLDOVER_AFTER_MS without a valid source after LOCKED or SLEWING; on a follower, whose source is the
MASTER's Sync, after FREE too, counted from the last Sync. While firmware is stopped the rate in force is held until it runs again (R128). -/
def execHoldoverEnter (s : State) : Result :=
  if s.time.state = .locked ∨ s.time.state = .slewing ∨ (s.time.state = .free ∧ isFollower s = true) then
    let s1 := elapseTo ((if isFollower s then s.time.lastSyncAt else s.time.lastValidAt) + ms (pNat s 0x0507)) s
    let s2 := { s1 with time := { s1.time with state := .holdover, sourceValid := false } }
    .next (record .holdoverEnter [] (if fwRunning s then holdRate s2 else s2))
  else .next s

/-! IEEE 1588 (R137 to R144). -/

/-- The LAT_RX or LAT_TX correction of a port, 0 Ethernet A to 3 cascade DOWN (R138). -/
def latency (s : State) (port : Nat) (tx : Bool) : Int := pInt s (0x0520 + 2 * port + b2n tx)

/-- The counter in quarter nanoseconds: the resolution of a stamp (R138). -/
def counterQ (s : State) : Int := (s.time.units / 2 ^ 30 : Nat)

/-- A stamp now at a port's reference plane, in quarter nanoseconds (R138). -/
def portStamp (s : State) (port : Nat) (tx : Bool) : Int := counterQ s + 4 * latency s port tx

/-- Whole nanoseconds of a stamp, rounded down (log 189). -/
def stampNs (q : Int) : Nat := (q / 4).toNat

/-- A stamp as a record: seconds, and nanoseconds that are all ones while the time is not valid (R127). -/
def stampOf (s : State) (q : Int) : Stamp := ⟨stampNs q / 10 ^ 9, if timeValid s then stampNs q % 10 ^ 9 else 2 ^ 32 - 1⟩

/-- Port `p`'s exchange. -/
def exOf (s : State) (p : Nat) : PtpEx := at_ ptpExReset s.time.ptpEx p

/-- Change a port's exchange. -/
def modEx (port : Nat) (f : PtpEx → PtpEx) (s : State) : State :=
  { s with time := { s.time with ptpEx := modAt s.time.ptpEx port f } }

/-- The time field of a message in quarter nanoseconds. -/
def msgQ (m : PtpMsg) : Int := ((4 * (m.time.sec * 10 ^ 9 + m.time.ns) : Nat) : Int)

/-- Its correctionField in quarter nanoseconds, rounded down (log 189). -/
def corrQ (m : PtpMsg) : Int := m.corr / 2 ^ 14

/-- The PTP port is enabled. -/
def ptpOn (s : State) (p : Nat) : Bool := bitOf (pNat s 0x0510) p

/-- A port hears a master: an Announce within the last three announce intervals of 2 s (IEEE 1588-2019's defaults, log 190). -/
def heardNow (s : State) (p : Nat) : Option PtpMaster :=
  (exOf s p).heard.filter fun m => ptpOn s p && decide (s.time.elapsed ≤ m.heardAt + ms 6000)

/-- Data set `a` is better than `b`: the first difference decides, and the smaller value is better (IEEE 1588-2019, log 190). -/
def rankLt : List Nat → List Nat → Bool
  | a :: as, b :: bs => if a = b then rankLt as bs else decide (a < b)
  | _, _ => false

/-- The better of two ports' masters, port A's where they are equal. -/
def betterMaster (x y : Option PtpMaster) : Option Nat :=
  match x, y with
  | some a, some b => some (if rankLt b.rank a.rank then 1 else 0)
  | some _, none => some 0
  | none, some _ => some 1
  | none, none => none

/-- The port in SLAVE state, at most one (R137): under HOST the first that hears the host's parent (R139), under FIRMWARE with TIME_SOURCE PTP the
one that the best-master algorithm chooses (R131). -/
def slavePort (s : State) : Option Nat :=
  if hostServo s then
    (List.range 2).find? fun p => pVal s 0x0515 != 0 && ((heardNow s p).map fun m => BitVec.ofNat 64 m.sender == pVal s 0x0515).getD false
  else if timeSource s = some 2 then betterMaster (heardNow s 0) (heardNow s 1)
  else none

/-- State of an Ethernet PTP port: LISTENING on every port but the slave under HOST and while no master is known to a clock that follows PTP, else
MASTER (R137, R139, log 190). -/
def portState (s : State) (p : Nat) : PortState :=
  if !ptpOn s p then .disabled
  else if slavePort s = some p then .slave
  else if hostServo s || (timeSource s == some 2 && (slavePort s).isNone) then .listening
  else .master

/-- A completed exchange is published while the host owns the servo (R139); it gives the offset to be measured. -/
def publishExchange (port : Nat) (t1 t2 t3 t4 off delay : Int) (s0 : State) : State :=
  let s := modEx port (fun x => { x with delay := delay, offset := some (off / 4) }) s0
  if !hostServo s then s
  else
    let b := 0x0010 + 8 * port
    let u (q : Int) : Value := vU64 (stampNs q)
    publish (b + 5) (vI32 (delay / 4)) (publish (b + 4) (vI32 (off / 4)) (publish (b + 3) (u t4) (publish (b + 2) (u t3)
      (publish (b + 1) (u t2) (publish b (u t1) s)))))

/-- A Delay_Resp ends a delay request-response exchange (IEEE 1588-2019, log 30). -/
def endDelay (port : Nat) (m : PtpMsg) (s : State) : State :=
  let x := exOf s port
  match x.t1 with
  | none => s
  | some t1 =>
    let t4 := msgQ m - corrQ m
    let a := x.t2 - t1 - x.corr
    let d := (a + (t4 - x.t3)) / 2
    publishExchange port t1 x.t2 x.t3 t4 (a - d) d s

/-- The last response of a peer delay ends its exchange: request sent at t1, received at t2, answered at t3, the answer
received at t4, the answers' corrections `corr`; the offset is that of the last Sync (IEEE 1588-2019, log 30). -/
def endPdelay (port : Nat) (t2 t3 corr t4 : Int) (s : State) : State :=
  let x := exOf s port
  let d := (t4 - x.t3 - (t3 - t2) - corr) / 2
  let s1 := modEx port (fun x => { x with delay := d, peer := none }) s
  match x.t1 with
  | some t1 => publishExchange port x.t3 t2 t3 t4 (x.t2 - t1 - x.corr - d) d s1
  | none => s1

/-- A Pdelay_Resp: complete in one step, whose correction holds the turnaround, or kept for its Follow_Up. -/
def pdelayResp (port : Nat) (m : PtpMsg) (s : State) : State :=
  let t4 := portStamp s port false
  if m.twoStep then modEx port (fun x => { x with peer := some (msgQ m, corrQ m, t4) }) s
  else endPdelay port (msgQ m) (msgQ m) (corrQ m) t4 s

/-- A Sync or its Follow_Up completes t1; with the peer delay mechanism that completes an offset. -/
def syncDone (port : Nat) (s : State) : State :=
  let x := exOf s port
  match x.t1 with
  | some t1 => if pNat s 0x0511 = 1 then modEx port (fun x => { x with offset := some ((x.t2 - t1 - x.corr - x.delay) / 4) }) s else s
  | none => s

/-- The bytes of a message sent, as the record of what is sent shows them: sequence number, time field, correction in units of 2^-16 ns and what
the type adds (log 191). -/
def ptpBytes (seq : Nat) (t : Option Int) (corr : Int) (more : List Byte) : List Byte :=
  be 2 seq ++ (match t with
    | some t => be 6 (stampNs t / 10 ^ 9) ++ be 4 (stampNs t % 10 ^ 9)
    | none => zeros 10) ++ be 8 (ofSigned 64 corr) ++ more

/-- What a stamp has beyond whole nanoseconds, as a correction. -/
def fracCorr (q : Int) : Int := (q % 4) * 2 ^ 14

/-- Messages of a transmission: in one step the stamp, or for a Pdelay_Resp the turnaround since the request, stands in the message itself; in two
the Follow_Up carries it (R137). -/
def txMessages (port typ seq : Nat) (twoStep : Bool) (t : Int) (asked : Option Int) (more : List Byte) : List Out :=
  let turn : Int := (t - asked.getD t) * 2 ^ 14
  match typ, twoStep with
  | 0, false => [.ptp port 0 (ptpBytes seq (some t) (fracCorr t) more)]
  | 0, true => [.ptp port 0 (ptpBytes seq none 0 more), .ptp port 8 (ptpBytes seq (some t) (fracCorr t) [])]
  | 3, false => [.ptp port 3 (ptpBytes seq none turn more)]
  | 3, true => [.ptp port 3 (ptpBytes seq asked 0 more), .ptp port 10 (ptpBytes seq (some t) (fracCorr t) [])]
  | _, _ => [.ptp port typ (ptpBytes seq none 0 more)]

/-- ID of a transmit stamp (Table 04-6). -/
def stampId (typ seq : Nat) : Nat := typ * 4096 + seq % 4096

/-- An event message leaves a port: its stamp is taken, queued for the host, and kept for the exchange (R138, R140). -/
def sendEvent (port typ seq : Nat) (twoStep : Bool) (asked : Option Int) (more : List Byte) (s : State) : State :=
  let t := portStamp s port true
  let s1 := (txMessages port typ seq twoStep t asked more).foldl (fun s o => emit o s) s
  let s2 := if typ = 1 ∨ typ = 2 then modEx port (fun x => { x with reqSeq := seq, t3 := t }) s1 else s1
  queueStamp ⟨stampId typ seq, port, stampOf s t⟩ s2

/-- An Announce: the master heard is renewed by its own, replaced by a better one, or by any once it is heard no more (R131, log 190). -/
def hearAnnounce (port : Nat) (m : PtpMsg) (s : State) : State :=
  let take := match heardNow s port with
    | some h => h.sender == m.sender || rankLt m.rank h.rank
    | none => true
  let s1 := if take then modEx port (fun x => { x with heard := some ⟨m.rank, m.sender, s.time.elapsed⟩ }) s else s
  match m.utc, portState s1 port with
  | some u, .slave => publish 0x0031 (vI32 u) { s1 with time := { s1.time with utcOffset := u } }
  | _, _ => s1

/-- The parent chosen by the host sends the message; under FIRMWARE any sender may (R139). -/
def hostAllows (m : PtpMsg) (s : State) : Bool := !hostServo s || (m.sender != 0 && BitVec.ofNat 64 m.sender == pVal s 0x0515)

/-- A message of an Ethernet port (R137, R139): domain, transport and port must be the configured ones, and under TIME_SERVO = HOST the sender the
parent chosen by the host. Sync, Follow_Up and Delay_Resp are taken in SLAVE state from the master heard, Delay_Req is answered in MASTER
state; the profile decides the delay mechanism. -/
def ethPtp (port : Nat) (m : PtpMsg) (s : State) : State :=
  let x := exOf s port
  let st := portState s port
  let e2e := pNat s 0x0511 == 0
  let mine := st == .slave && (((heardNow s port).map fun h => h.sender == m.sender).getD false)
  if !ptpOn s port || m.domain != pNat s 0x0512 || m.udp != (pNat s 0x0514 == 0) || !hostAllows m s then s
  else
    match m.typ with
    | 0 => if !mine then s
           else
            let s1 := modEx port (fun x => { x with syncSeq := m.seqId, corr := corrQ m, t2 := portStamp s port false,
                                                    t1 := if m.twoStep then none else some (msgQ m) }) s
            syncDone port s1
    | 8 => if mine && x.syncSeq == m.seqId then
             syncDone port (modEx port (fun x => { x with t1 := some (msgQ m), corr := x.corr + corrQ m }) s)
           else s
    | 1 => if st == .master && e2e then
             emit (.ptp port 9 (ptpBytes m.seqId (some (portStamp s port false)) (m.corr - fracCorr (portStamp s port false)) [])) s
           else s
    | 9 => if mine && e2e && m.seqId == x.reqSeq then endDelay port m s else s
    | 2 => if e2e then s else modEx port (fun x => { x with asked := some (m.seqId, portStamp s port false) }) s
    | 3 => if !e2e && m.seqId == x.reqSeq then pdelayResp port m s else s
    | 10 =>
      match x.peer with
      | some (t2, c, t4) => if !e2e && m.seqId == x.reqSeq then endPdelay port t2 (msgQ m) (c + corrQ m) t4 s else s
      | none => s
    | 11 => hearAnnounce port m s
    | _ => s

/-- The cascade port a follower listens to: the shorter path to the MASTER, UP on equal paths (R142). -/
def masterPort (s : State) : Option Nat :=
  match (List.range 4).find? (fun d => (peerOf s d).announced && (peerOf s d).role == 0) with
  | some d => (portsTo s d).head?
  | none => (portsTo s 0xFF).head?

/-- A Sync of the cascade (R138, R142 to R144), stamped as it is received: the first makes a follower's initial step, the later ones of the port to
the MASTER measure the offset; the step count it carries shows a step that was missed. -/
def cascSync (port : Nat) (m : PtpMsg) (s : State) : State :=
  let q := port + 2
  let x := exOf s q
  let src := msgQ m + corrQ m + x.delay
  let carry (s : State) : State :=
    { s with time := { s.time with masterErr := m.errNs, masterStepCount := m.stepCount % 65536, lastSyncAt := s.time.elapsed } }
  if !isFollower s || m.twoStep then s
  else if s.time.state = .unset then
    let s1 := carry (initialStep (src / 4).toNat 3 .free s)
    { s1 with time := { s1.time with stepCount := m.stepCount % 65536 } }
  else if masterPort s = some port then
    carry (modEx q (fun x => { x with syncSeq := m.seqId, t1 := some (msgQ m), corr := corrQ m, t2 := portStamp s q false,
                                      offset := some ((portStamp s q false - src) / 4) }) s)
  else s

/-- A message of a cascade port: Sync, and the peer delay mechanism in one step (R142). A request is answered as it comes (log 192). -/
def cascPtp (port : Nat) (m : PtpMsg) (s : State) : State :=
  let q := port + 2
  match m.typ with
  | 0 => cascSync port m s
  | 2 => sendEvent q 3 m.seqId false (some (portStamp s q false)) [] s
  | 3 => if m.seqId = (exOf s q).reqSeq then pdelayResp q m s else s
  | _ => s

/-- PTP_MESSAGE_RX (R137 to R139, R142 to R144): ports 0 and 1 are Ethernet, 2 and 3 the cascade's. -/
def execPtpMessageRx (port : Fin 4) (m : PtpMsg) (s : State) : Result :=
  if !awake s then .next s
  else if port.val < 2 then .next (ethPtp port.val m s)
  else if linkUp s (port.val - 2) then .next (cascPtp (port.val - 2) m s)
  else .next s

/-- What a port may send (R137, R139): Sync and Announce in MASTER state, Delay_Req in SLAVE state with the delay mechanism of the default profile,
Pdelay_Req with that of the power profile, and a Pdelay_Resp to a request that waits. Under HOST with no parent a port only listens. -/
def maySend (s : State) (p typ : Nat) : Bool :=
  let st := portState s p
  let e2e := pNat s 0x0511 == 0
  let quiet := hostServo s && pVal s 0x0515 == 0
  match typ with
  | 0 => st == .master
  | 1 => st == .slave && e2e
  | 2 => st != .disabled && !e2e && !quiet
  | 3 => st != .disabled && (exOf s p).asked.isSome && !quiet
  | _ => st == .master

/-- PTP_MESSAGE_TX (R137, R140): `typ` 0 Sync, 1 Delay_Req, 2 Pdelay_Req, 3 Pdelay_Resp, 4 Announce, on an Ethernet port. An Announce, which is no
event message, takes no stamp and carries the UTC offset (R126, log 191). -/
def execPtpMessageTx (portB : Bool) (typ : Fin 5) (seqId : BitVec 16) (s : State) : Result :=
  let p := b2n portB
  let two := pNat s 0x0513 == 1
  if !awake s || !maySend s p typ.val then .next s
  else if typ.val = 4 then .next (emit (.ptp p 11 (ptpBytes seqId.toNat none 0 (be 2 (ofSigned 16 s.time.utcOffset)))) s)
  else
    match typ.val, (exOf s p).asked with
    | 3, some (q, t) => .next (modEx p (fun x => { x with asked := none }) (sendEvent p 3 q two (some t) [] s))
    | _, _ => .next (sendEvent p typ.val seqId.toNat two none [] s)

/-- A cascade event message, its interval after the last of its kind (R142). -/
def cascEvent (slot port typ interval : Nat) (more : List Byte) (s : State) : State :=
  if !linkUp s (port - 2) || !awake s then s
  else
    let s1 := elapseTo (s.time.ptpAt.getD slot 0 + interval) s
    let q := s1.time.ptpSeq.getD slot 0
    let s2 := { s1 with time := { s1.time with ptpAt := modAt s1.time.ptpAt slot (fun _ => s1.time.elapsed),
                                               ptpSeq := modAt s1.time.ptpSeq slot (fun q => (q + 1) % 65536) } }
    sendEvent port typ q false none more s2

/-- PTP_SYNC_TX (R142, R144): one-step Sync every 62.5 ms on a cascade port, with the MASTER's step count and ERR_NS; a follower relays time away
from the MASTER. -/
def execPtpSyncTx (down : Bool) (s : State) : Result :=
  if isFollower s && masterPort s == some (b2n down) then .next s
  else .next (cascEvent (b2n down) (2 + b2n down) 0 62500000 (be 2 (if isFollower s then s.time.masterStepCount else noticeCount s) ++ be 4 (errNs s)) s)

/-- PDELAY_REQ_TX (R142): every second. -/
def execPdelayReqTx (down : Bool) (s : State) : Result := .next (cascEvent (4 + b2n down) (2 + b2n down) 2 1000000000 [] s)

/-! The servo's measurements (R129, R131 to R133, R148, R173). -/

/-- The offset a source has measured and that has not been taken: the Sync of the cascade, the time solution, the PTP exchange, the pulse. -/
def sourceOffset (s : State) (src : Nat) : Option Int :=
  match src with
  | 0 => (masterPort s).bind fun p => (exOf s (p + 2)).offset
  | 1 => s.gnss.timeOff
  | 2 => (slavePort s).bind fun p => (exOf s p).offset
  | _ => s.time.ppsOff.map fun o => fromSecond (o % 10 ^ 9).toNat

/-- A measurement is taken once. -/
def useOffset (src : Nat) (s : State) : State :=
  match src with
  | 0 => (masterPort s).elim s fun p => modEx (p + 2) (fun x => { x with offset := none }) s
  | 1 => { s with gnss := { s.gnss with timeOff := none } }
  | 2 => (slavePort s).elim s fun p => modEx p (fun x => { x with offset := none }) s
  | _ => { s with time := { s.time with ppsOff := none } }

/-- SERVO_MEASUREMENT (R129, R131 to R133): what the source has measured is taken: 0 the cascade, 1 GNSS, 2 PTP, 3 PPS_IN. While the time is UNSET
the first valid time of GNSS or PTP, which is the counter less the offset, makes the initial step under TIME_AUTOSET. -/
def execServoMeasurement (src : Fin 4) (s : State) : Result :=
  match sourceOffset s src.val with
  | none => .next s
  | some o =>
    if !awake s || timeSource s != some src.val then .next s
    else if s.time.state ≠ .unset then .next (takeOffset o (useOffset src.val s))
    else if pNat s 0x0503 = 1 ∧ (src.val = 1 ∨ src.val = 2) then
      .next (takeOffset 0 (initialStep ((s.time.total : Int) - o).toNat src.val .free (useOffset src.val s)))
    else .next s

/-! Pulse per second (R146 to R148). -/

/-- The states in which PPS_OUT pulses (Table 04-4). -/
def ppsGate (s : State) : Bool :=
  match pNat s 0x0532 with
  | 0 => true
  | 1 => s.time.state != .unset && s.time.state != .free
  | _ => s.time.state == .locked

/-- The next instant at which the time less PPS_OUT_OFFSET_NS is a whole second, after the last pulse's own. -/
def nextPps (s : State) : Nat :=
  let o := pInt s 0x0531
  let t : Int := s.time.total
  let t' := if s.time.ppsLast = some s.time.elapsed then t + 1 else t
  (o + ((t' - o + 999999999) / 10 ^ 9) * 10 ^ 9).toNat

/-- The interval from a pulse to the next in counter time: a second, or what a step that waits makes of it (R147). -/
def pulseGap (s : State) : Nat :=
  match firstStep s.time.steps with
  | some p => if s.time.total + 10 ^ 9 ≤ p.instant then 10 ^ 9 else gapOver p s.time.total s
  | none => 10 ^ 9

/-- PPS_OUT_PULSE (R146, R147): suppressed less than 500 ms after the previous pulse; its width is at most half the
interval to the next, which a step accepted while it is high may shorten. -/
def execPpsOutPulse (s : State) : Result :=
  if !s.time.counting then .next s
  else
    let s1 := countTo (nextPps s) s
    let soon := match s1.time.ppsLast with
      | some e => decide (s1.time.elapsed < e + ms 500)
      | none => false
    if s1.time.ppsOn && ppsGate s1 && !soon then
      let w := min (us (pNat s1 0x0530)) (pulseGap s1 / 2)
      .next (emit (.pulse "PPS_OUT" w) { s1 with time := { s1.time with ppsLast := some s1.time.elapsed, ppsFall := s1.time.elapsed + w } })
    else .next s1

/-- PPS_IN_EDGE (R148): the selected edge is stamped and published; a pulse 999.9 to 1,000.1 ms after the one before gives a measurement, three
of them in a row after one outside that window. -/
def execPpsInEdge (rising : Bool) (s : State) : Result :=
  if !awake s || rising != (pNat s 0x0533 == 0) then .next s
  else
    let e := s.time.elapsed
    let near := match s.time.ppsIn with
      | some l => decide (999900000 ≤ e - l ∧ e - l ≤ 1000100000)
      | none => false
    let first := s.time.ppsIn.isNone
    let good := if near then s.time.ppsGood + 1 else 0
    let bad := if near then s.time.ppsBad && decide (good < 3) else s.time.ppsBad || !first
    let s1 := publish 0x0030 (vU64 s.time.total) s
    let valid := near && !bad
    .next { s1 with time := { s1.time with ppsIn := some e, ppsGood := min good 3, ppsBad := bad, ppsOff := if valid then some (fromSecond s.time.total) else none,
                                           sourceValid := s1.time.sourceValid && (timeSource s != some 3 || valid) } }

end Sys2Proof.Machine
end

