-- ==== Sys2Proof/Machine/Buses.lean ====
section
/-! DEFINITION. Field buses and attached modules (chapter 07): the CAN controllers, the drive profile's reception and
supervision, the CAN and sentence mappings, module slots and their opcodes (Table 03-15). -/

namespace Sys2Proof.Machine

/-- The field buses run: RUN and IDLE, after the system steps. -/
def busUp (s : State) : Bool := cascUp s

/-- Change a CAN controller. -/
def modCan (b : Nat) (f : CanBus → CanBus) (s : State) : State :=
  { s with bus := { s.bus with can := modAt s.bus.can b f } }

/-- Change a drive. -/
def modDrive (t : Nat) (f : Drive → Drive) (s : State) : State :=
  { s with bus := { s.bus with drives := modAt s.bus.drives t f } }

/-- Change a slot. -/
def modSlotM (i : Nat) (f : Slot → Slot) (s : State) : State :=
  { s with bus := { s.bus with slots := modAt s.bus.slots i f } }

/-- Controller `b`, drive `t`, slot `i`. -/
def canOf (s : State) (b : Nat) : CanBus := at_ canReset s.bus.can b
def driveSt (s : State) (t : Nat) : Drive := at_ driveReset s.bus.drives t
def slotOf (s : State) (i : Nat) : Slot := at_ slotReset s.bus.slots i

/-! Drive maps (R219, R425). -/

/-- A DRIVE_MAP record: bus, node, flags and slot of a mapped thruster. -/
structure DriveMap where
  bus : Nat
  node : Nat
  enforcing : Bool
  slot : Nat
  deriving DecidableEq, Repr

/-- Record `t` of a drive map; none where the thruster is unmapped. -/
def driveRec (body : List Byte) (t : Nat) : Option DriveMap :=
  let r := slice body (8 * t) 8
  if r.length < 8 ∨ byteAt r 1 = 0xFF then none
  else some ⟨byteAt r 1, byteAt r 2, bitOf (byteAt r 3) 0, byteAt r 4⟩

/-- The map of this device's own drives: EXT_DRIVE_MAP on an EXTENSION (R423). -/
def ownMap (s : State) : List Byte := if s.grp.role = 3 then tab s 0x0701 else tab s 0x0291

/-- The mapped drives of this device: thruster 0 to 15 and its record. -/
def ownDrives (s : State) : List (Nat × DriveMap) :=
  (List.range 16).filterMap fun t => (driveRec (ownMap s) t).map fun d => (t, d)

/-- The thruster of a bus and node. -/
def thrusterAt (s : State) (bus node : Nat) : Option (Nat × DriveMap) :=
  (ownDrives s).find? (fun d => d.2.bus == bus && d.2.node == node)

/-! Epochs and ownership (R214, R424, R442). -/

/-- E is higher than H (R214). -/
def epochHigher (e h : Nat) : Bool :=
  let d := (e + 65536 - h % 65536) % 65536
  decide (1 ≤ d ∧ d ≤ 32767)

/-- The highest epoch held takes in one seen (R424). -/
def seeEpoch (e : Nat) (s : State) : State :=
  if epochHigher e s.grp.epoch then { s with grp := { s.grp with epoch := e } } else s

/-- Release requests fall with ownership, but in a brake test (R453, R454). -/
def fallRequests (s : State) : State :=
  let f (b : Brake) : Brake :=
    if b.request then { b with request := false, fallAt := if b.released && b.ramp.isNone then some s.time.elapsed else b.fallAt } else b
  if s.saf.test.isSome then s else { s with saf := { s.saf with brakes := s.saf.brakes.map f } }

/-- The device owns its drives no longer: no frames, ACTIVE_OUT low. -/
def dropOwnership (s : State) : State :=
  if s.grp.owns then
    fallRequests (emit (.pin "ACTIVE_OUT" false) { s with grp := { s.grp with owns := false, activeOut := false } })
  else s

/-- The device stops owning drives (R442); the firmware, if it runs, sets role STANDBY and records ROLE_YIELDED. -/
def stopOwning (s : State) : State :=
  if !s.grp.owns then s
  else
    let s1 := dropOwnership { s with grp := { s.grp with stopped := true } }
    if fwRunning s then announce (record .roleYielded [] { s1 with grp := { s1.grp with role := 1, cyclesAsStandby := 0 } }) else s1

/-- An owner of the drives that this device would own is met, under an epoch (R568). -/
def meetOwner (e : Nat) (s : State) : State :=
  if s.grp.role = 3 then s
  else { s with grp := { s.grp with rival := some (match s.grp.rival with
                                                   | some r => if epochHigher e r then e else r
                                                   | none => e) } }

/-- An owner learns of another owner's higher epoch (R442). -/
def learnOwner (e : Nat) (s : State) : State :=
  let s1 := if s.grp.owns && epochHigher e s.grp.ownEpoch then stopOwning s else s
  seeEpoch e s1

/-! CAN controllers (R198 to R207). -/

/-- A CAN bus record: MODE. -/
def canMode (s : State) (b : Nat) : Nat := byteAt (tabRec s 0x0290 32 b) 1

/-- FORMAT: 0 classical only, 1 CAN FD without BRS, 2 CAN FD with BRS. -/
def canFormat (s : State) (b : Nat) : Nat := byteAt (tabRec s 0x0290 32 b) 2

/-- Cycles of CD10 in a nominal and in a data bit (R199). -/
def nomCycles (r : List Byte) : Nat := fieldU r 4 2 * (1 + fieldU r 6 2 + byteAt r 8)
def dataCycles (r : List Byte) : Nat := byteAt r 10 * (1 + byteAt r 11 + byteAt r 12)

/-- A controller joins its bus after 11 recessive nominal bits, the bus being idle (R203; log 206). -/
def joinInstant (s : State) (b : Nat) : Nat := s.time.elapsed + (11 * nomCycles (tabRec s 0x0290 32 b) * 25 + 1) / 2

/-- The state MODE gives a controller without errors. -/
def canFresh (s : State) (b : Nat) : Nat := if canMode s b = 1 then 1 else if canMode s b = 2 then 5 else 0

/-- A controller as its record in force starts it. -/
def canStart (s : State) (b : Nat) : CanBus := { canReset with state := canFresh s b, joinAt := joinInstant s b }

/-- Every controller joins its bus again, error state and counters kept, on return from SLEEP (R205, R234). -/
def canWake (s : State) : State := { s with bus := { s.bus with can := s.bus.can.mapIdx fun b c => { c with joinAt := joinInstant s b } } }

/-- Every controller reinitialised (R206, R234). -/
def canInit (s : State) : State := { s with bus := { s.bus with can := (List.range 8).map (canStart s) } }

/-- Controller `b` under the records in force, those before being `old`; BUS_OFF and a recovery under way stay until software and 128
occurrences end them (R205, R206), and MODE then says what the controller becomes (log 207). -/
def canRejoinOne (old : List Byte) (s : State) (b : Nat) (c : CanBus) : CanBus :=
  if slice old (32 * b) 32 = slice (tab s 0x0290) (32 * b) 32 ∨ c.state = 3 ∨ c.state = 4 then c
  else
    let st := if canMode s b = 1 ∧ (128 ≤ c.tec ∨ 128 ≤ c.rec_) then 2 else canFresh s b
    { c with recoverAsked := false, state := st, joinAt := joinInstant s b }

/-- Controllers whose record changed leave their bus and join again with the new timing (R203). -/
def canRejoin (old : List Byte) (s : State) : State :=
  { s with bus := { s.bus with can := s.bus.can.mapIdx (canRejoinOne old s) } }

/-- Controller `b` receives: ACTIVE, PASSIVE or LISTEN, and joined. -/
def canHears (s : State) (b : Nat) : Bool :=
  let c := canOf s b
  (c.state == 1 || c.state == 2 || c.state == 5) && decide (c.joinAt ≤ s.time.elapsed)

/-- A frame of ISO 11898-1 that controller `b` can take under its FORMAT (R198, R202; log 208). -/
def canTakes (s : State) (b : Nat) (kind : CanKind) (ext : Bool) (id n : Nat) : Bool :=
  (ext || decide (id < 2048)) &&
    (if kind.fd then !kind.remote && canFormat s b != 0 && (!kind.brs || canFormat s b == 2) &&
        (decide (n ≤ 8) || [12, 16, 20, 24, 32, 48, 64].contains n)
     else !kind.brs && decide (n ≤ 8) && (!kind.remote || n == 0))

/-- REC after a frame received without error (ISO 11898-1: one less, or 119 to 127 from above 127; log 32). -/
def recAfter (c : CanBus) : CanBus :=
  if c.state = 5 then c
  else
    let r := if 127 < c.rec_ then 119 + Config.canRecAfter.val else c.rec_ - 1
    { c with rec_ := r, state := if c.state = 2 ∧ c.tec < 128 ∧ r < 128 then 1 else c.state }

/-- The controller after a frame sent without error (ISO 11898-1: TEC one less), error-active again once both counters are below 128. -/
def sentOk (c : CanBus) : CanBus :=
  let t := c.tec - 1
  { c with tec := t, state := if c.state = 2 ∧ t < 128 ∧ c.rec_ < 128 then 1 else c.state }

/-- CAN_ERROR_PASSIVE (R205): a bus error raises the counters; the event is recorded where one of them brings the controller into
error-passive, at 128. -/
def execCanErrorPassive (bus : Fin 8) (tec rec_ : BitVec 8) (s : State) : Result :=
  let c := canOf s bus.val
  let high := decide (128 ≤ tec.toNat) || decide (128 ≤ rec_.toNat)
  if busUp s && (c.state == 1 || c.state == 2) && decide (c.tec ≤ tec.toNat ∧ c.rec_ ≤ rec_.toNat) then
    let s1 := modCan bus.val (fun c => { c with state := if high then 2 else c.state, tec := tec.toNat, rec_ := rec_.toNat }) s
    .next (if high && c.state == 1 then record .canErrorPassive (be 1 bus.val) s1 else s1)
  else .next s

/-- Signals of a bus's mapping carry FAULT while it is off (Table 08-2). -/
def faultSignals (bus : Nat) (s : State) : State :=
  (((records 24 (tab s 0x0292)).filter (fun e => byteAt e 0 == bus)).map (fun e => fieldU e 14 2)).foldl (fun s id => markBad id s) s

/-- Drives on a bus that is off are LOST (R218). -/
def loseDrive (t : Nat) (s : State) : State :=
  match driveRec (ownMap s) t with
  | none => s
  | some d =>
    if (driveSt s t).lost then s
    else
      let gap := ((driveSt s t).seq + 65536 - (match (driveSt s t).fbs.head? with | some f => fieldU f.2 4 2 | none => 0)) % 65536
      record .driveLost (be 1 t ++ be 1 d.bus ++ be 2 gap) (modDrive t (fun x => { x with lost := true }) s)

/-- CAN_BUS_OFF (R205): TEC exceeds 255; the bus sends nothing and its drives are LOST. -/
def execCanBusOff (bus : Fin 8) (s : State) : Result :=
  let c := canOf s bus.val
  if busUp s && (c.state == 1 || c.state == 2) then
    let s1 := record .canBusOff (be 1 bus.val) (modCan bus.val (fun c => { c with state := 3, tec := 256 }) s)
    .next ((ownDrives s).foldl (fun s d => if d.2.bus = bus.val then loseDrive d.1 s else s) (faultSignals bus.val s1))
  else .next s

/-- A CONFIG_SET of CAN_RECOVER asks for recovery at the boundary it is in force from; each write acts (R206). -/
def canRecoverAsk (mask : Nat) (s : State) : State :=
  let f (b : Nat) (c : CanBus) : CanBus := { c with recoverAsked := c.recoverAsked || bitOf mask b }
  { s with bus := { s.bus with can := s.bus.can.mapIdx f } }

/-- At the boundary: the buses named that are in BUS_OFF start recovering. -/
def canRecoverStart (s : State) : State :=
  let f (c : CanBus) : CanBus := { c with recoverAsked := false, state := if c.recoverAsked ∧ c.state = 3 then 4 else c.state }
  { s with bus := { s.bus with can := s.bus.can.map f } }

/-- The mask of buses recovering: CAN_RECOVER's IN_FORCE. -/
def canRecovering (s : State) : Nat := flagsWord (s.bus.can.map (fun c => c.state == 4))

/-- CAN_RECOVERED (R206): 128 occurrences of 11 recessive bits; the MODE in force then applies (R203). -/
def execCanRecovered (bus : Fin 8) (s : State) : Result :=
  if busUp s && (canOf s bus.val).state == 4 then
    .next (record .canRecovered (be 1 bus.val) (modCan bus.val (fun c => { c with state := canFresh s bus.val, tec := 0, rec_ := 0 }) s))
  else .next s

/-- Status word of a bus (R207). -/
def canStatus (c : CanBus) : Nat := c.state + 256 * min 255 c.tec + 65536 * min 255 c.rec_

/-- Bus and serial port status signals, once per vessel period (R207, R225). -/
def busBoundary (s : State) : State :=
  let s1 := if (tab s 0x0290).isEmpty then s
    else (List.range 8).foldl (fun s b => publish (fieldU (tabRec s 0x0290 32 b) 16 2) (vU32 (canStatus (canOf s b))) s) s
  if (tab s 0x0293).isEmpty then s1
  else (List.range 8).foldl (fun s p => publish (fieldU (tabRec s 0x0293 8 p) 4 2) (vU32 (s.bus.serialDiscards.getD p 0)) s) s1

/-! Field extraction and the CAN mapping (R222, R223). -/

/-- `len` bits from bit `start` (0 the most significant bit of byte 0), most significant first. -/
def beField (data : List Byte) (start len : Nat) : Nat :=
  beNat data / 2 ^ (8 * data.length - start - len) % 2 ^ len

/-- The same bits as octets in the order received, the first least significant (log 31). -/
def leField (data : List Byte) (start : Nat) : Nat → Nat → Nat
  | 0, _ => 0
  | k + 1, len =>
    if len ≤ 8 then beField data start len
    else beField data start 8 + 256 * leField data (start + 8) k (len - 8)

/-- The field's number by its TYPE. -/
def canNumber (ty len v : Nat) : Num :=
  match ty with
  | 0 => Num.ofInt v
  | 1 => Num.ofInt (toSigned len v)
  | 2 => num32 (BitVec.ofNat 32 v)
  | _ => num64 (BitVec.ofNat 64 v)

/-- SCALE × field + OFFSET in the TYPE published: binary64 for a field of TYPE 3, else binary32 (R237; log 31). -/
def scaleField (scale offset : F32) (wide : Bool) (x : Num) : Value :=
  if wide then vF64 (dadd (dmul (f2d scale) (pack64 x)) (f2d offset)) else vF32 (fadd (fmul scale (pack32 x)) offset)

/-- The whole microseconds of SCALE × field + OFFSET, exactly: what an OWN_STAMP entry gives fusion (R223; log 209). -/
def ownMicros (scale offset : F32) (x : Num) : Option Int := ((num32 scale).mul x |>.add (num32 offset)).floor?

/-- A received frame, stamped at its start of frame, against one entry. -/
def canEntry (bus : Nat) (ext : Bool) (id arr : Nat) (data : List Byte) (s : State) (e : List Byte) : State :=
  let fl := byteAt e 1
  if byteAt e 0 != bus || bitOf fl 0 != ext || (id &&& fieldU e 8 4) != (fieldU e 4 4 &&& fieldU e 8 4) then s
  else
    let st := fieldU e 2 2
    let len := byteAt e 12
    if 8 * data.length < st + len then modCan bus (fun c => { c with short := c.short + 1 }) s
    else
      let v := if bitOf fl 1 then leField data st 8 len else beField data st len
      let x := canNumber (byteAt e 13) len v
      publishAs (fieldU e 14 2) { value := scaleField (fieldF32 e 16) (fieldF32 e 20) (byteAt e 13 == 3) x, fault := false, arr := arr, valid := none,
                                  badAt := none, own := if bitOf fl 2 then ownMicros (fieldF32 e 16) (fieldF32 e 20) x else none } s

/-- CAN_FRAME_RX (R198, R204, R223): stamped `sofNs` ago, at its start of frame, and published through the mapping while firmware runs
(R234). A remote frame is acknowledged and otherwise ignored. -/
def execCanFrameRx (bus : Fin 8) (kind : CanKind) (ext : Bool) (id : BitVec 29) (sofNs : Nat) (data : List Byte) (s : State) : Result :=
  if !busUp s || !canHears s bus.val || !canTakes s bus.val kind ext id.toNat data.length then .next s
  else
    let s1 := modCan bus.val recAfter s
    if awake s && !kind.remote then .next ((records 24 (tab s 0x0292)).foldl (canEntry bus.val ext id.toNat (s.time.total - sofNs) data) s1)
    else .next s1

/-! Drive reception and supervision (R212 to R218). -/

/-- The latest FEEDBACK of drive `t`. -/
def lastFb (s : State) (t : Nat) : Option (Nat × List Byte) := (driveSt s t).fbs.head?

/-- sent SEQ − SEQ_ECHO modulo 2^16. -/
def echoGap (x : Drive) : Nat :=
  match x.fbs.head? with
  | some f => (x.seq + 65536 - fieldU f.2 4 2) % 65536
  | none => 0

/-- R216: the FEEDBACK against the drive's record and, at the device that issues one, the epoch; a device that owns no drives reports
the epoch it holds (log 210). -/
def judgeFeedback (t : Nat) (d : DriveMap) (fb : List Byte) (s : State) : State :=
  let seen := fieldU fb 2 2
  let e := if s.grp.owns then s.grp.ownEpoch else s.grp.epoch
  let bad := d.enforcing && !bitOf (byteAt fb 1) 0
  let s0 := modDrive t (fun x => { x with nonEnforcing := bad }) s
  let s1 := if bad then record .driveNonconforming (be 1 t ++ be 1 0 ++ be 2 seen ++ be 2 e) s0 else s0
  if bitOf (byteAt fb 1) 1 || (s.grp.owns && epochHigher seen e) then
    record .driveOwnerConflict (be 1 t ++ be 1 (byteAt fb 6) ++ be 2 seen ++ be 2 e) s1
  else s1

/-- A profile frame reaches the device: CAN FD, on a bus that takes it (R208). -/
def profileRx (s : State) (bus : Nat) : Bool := busUp s && canHears s bus && canFormat s bus != 0

/-- FEEDBACK_RX (R208, R212, R216, R218, R424, R442): EPOCH_SEEN counts whether or not the device maps the drive. -/
def execFeedbackRx (bus : Fin 8) (node : Fin 32) (data : List Byte) (s : State) : Result :=
  if !profileRx s bus.val || data.length != 24 then .next s
  else
    let s1 := modCan bus.val recAfter s
    if !awake s then .next s1
    else
      let s2 := match thrusterAt s bus.val node.val with
        | none => s1
        | some (t, d) =>
          let on := (canOf s bus.val).state == 1 || (canOf s bus.val).state == 2
          judgeFeedback t d data (modDrive t (fun x => { x with fbs := ((s.time.total, data) :: x.fbs).take 128, gotFb := true, missed := 0,
                                                                lost := x.lost && !on }) s1)
      .next (learnOwner (fieldU data 2 2) (meetOwner (fieldU data 2 2) s2))

/-- DRIVE_STATUS_RX (R213, R218). -/
def execDriveStatusRx (bus : Fin 8) (node : Fin 32) (data : List Byte) (s : State) : Result :=
  if !profileRx s bus.val || data.length != 8 then .next s
  else
    let s1 := modCan bus.val recAfter s
    match thrusterAt s bus.val node.val with
    | none => .next s1
    | some (t, _) =>
      if awake s then .next (modDrive t (fun x => { x with status := data, statusAt := s.time.elapsed, hbLost := false }) s1)
      else .next s1

/-- DRIVE_HB_LOST (R218): DRV_HB_LOST_MS without a DRIVE_STATUS. -/
def execDriveHbLost (thruster : Fin 16) (s : State) : Result :=
  let t := thruster.val
  match driveRec (ownMap s) t with
  | none => .next s
  | some d =>
    if (driveSt s t).hbLost || !awake s then .next s
    else
      let s1 := elapseTo ((driveSt s t).statusAt + ms (pNat s 0x02A3)) s
      .next (record .driveHbLost (be 1 t ++ be 1 d.bus ++ be 2 (echoGap (driveSt s t))) (modDrive t (fun x => { x with hbLost := true }) s1))

/-- DRIVE_LOST (R218): no FEEDBACK before DRV_FB_LOST_TP boundaries, or the bus off. -/
def execDriveLost (thruster : Fin 16) (s : State) : Result :=
  let t := thruster.val
  match driveRec (ownMap s) t with
  | none => .next s
  | some d =>
    if awake s && (decide (pNat s 0x02A2 ≤ (driveSt s t).missed) || (canOf s d.bus).state == 3) then .next (loseDrive t s) else .next s

/-- Supervision of one drive at a TP boundary, before its COMMAND (R218): a boundary without FEEDBACK counts, the age of
the echo is judged. -/
def superviseDrive (s : State) (p : Nat × DriveMap) : State :=
  let t := p.1
  let d := p.2
  let x := driveSt s t
  let missed := if x.gotFb then 0 else x.missed + 1
  let s1 := modDrive t (fun x => { x with missed := missed, gotFb := false }) s
  let s2 := if pNat s 0x02A2 ≤ missed ∨ (canOf s d.bus).state = 3 then loseDrive t s1 else s1
  let old := decide (pNat s 0x02A1 < echoGap x)
  let s3 := if old && !x.stale then record .driveStale (be 1 t ++ be 1 d.bus ++ be 2 (echoGap x)) s2 else s2
  modDrive t (fun x => { x with stale := old }) s3

/-- The drive state shown: 0 OK, 1 STALE, 2 LOST, 3 HB_LOST (R218, Table 12-7). -/
def supervision (x : Drive) : Nat := if x.hbLost then 3 else if x.lost then 2 else if x.stale then 1 else 0

/-! Serial sentences (R224 to R227). -/

/-- Value of an ASCII digit. -/
def digit (b : Byte) : Option Nat := if 48 ≤ b.toNat ∧ b.toNat ≤ 57 then some (b.toNat - 48) else none

/-- Value of a hexadecimal digit. -/
def hexDigit (b : Byte) : Option Nat :=
  if 48 ≤ b.toNat ∧ b.toNat ≤ 57 then some (b.toNat - 48)
  else if 65 ≤ b.toNat ∧ b.toNat ≤ 70 then some (b.toNat - 55)
  else if 97 ≤ b.toNat ∧ b.toNat ≤ 102 then some (b.toNat - 87) else none

/-- Decimal digits with an optional point: the number without the point and the digits after it. -/
def digits : List Byte → Bool → Nat → Nat → Option (Nat × Nat)
  | [], _, v, k => some (v, k)
  | b :: bs, point, v, k =>
    if b = 46#8 ∧ ¬ point then digits bs true v k
    else
      match digit b with
      | some d => digits bs point (10 * v + d) (if point then k + 1 else k)
      | none => none

/-- A decimal number: signed numerator and power of ten of its denominator; at least one digit. -/
def decimal (t : List Byte) : Option (Int × Nat) :=
  let neg := t.head? == some 45#8
  let u := if neg || t.head? == some 43#8 then t.drop 1 else t
  if u.any (fun b => (digit b).isSome) then
    (digits u false 0 0).map fun p => (if neg then -(p.1 : Int) else p.1, p.2)
  else none

/-- Exactly `n` digits, then nothing or a decimal point and digits. -/
def fixedDigits (n : Nat) (t : List Byte) : Bool :=
  decide (n ≤ t.length) && (t.take n).all (fun b => (digit b).isSome) && ((t.drop n).isEmpty || t[n]? == some 46#8)

/-- A sexagesimal field: `lead` leading digits and minutes of two digits below 60, as minutes · 10^k and k. -/
def sexagesimal (lead limit : Nat) (t : List Byte) : Option (Nat × Nat) :=
  if !fixedDigits (lead + 2) t then none
  else
    match digits (t.take lead) false 0 0, digits (t.drop lead) false 0 0 with
    | some (d, _), some (m, k) => if m < 60 * 10 ^ k ∧ d ≤ limit then some (60 * 10 ^ k * d + m, k) else none
    | _, _ => none

/-- Comma-separated fields. -/
def splitFields : List Byte → List Byte → List (List Byte)
  | [], cur => [cur.reverse]
  | b :: bs, cur => if b = 44#8 then cur.reverse :: splitFields bs [] else splitFields bs (b :: cur)

/-- A sentence's body between the start character and "*" or CR LF, and its checksum result: none without "*hh". -/
structure Sentence where
  body : List Byte
  check : Option Bool
  deriving DecidableEq, Repr

/-- Read a sentence; none where it has not the form of R225. -/
def readSentence (cs : List Byte) : Option Sentence :=
  match cs with
  | [] => none
  | c :: rest =>
    if (c ≠ 36#8 ∧ c ≠ 33#8) ∨ rest.drop (rest.length - 2) ≠ [13#8, 10#8] then none
    else
      let t := rest.take (rest.length - 2)
      match t.findIdx? (· == 42#8) with
      | none => some ⟨t, none⟩
      | some i =>
        let x := (t.take i).foldl (fun a b => a ^^^ b.toNat) 0
        let ok := match (t.drop (i + 1)) with
          | [h, l] => (match hexDigit h, hexDigit l with
            | some a, some b => 16 * a + b == x
            | _, _ => false)
          | _ => false
        some ⟨t.take i, some ok⟩

/-- π / 180 times a decimal, binary64 throughout (log 31). -/
def degToRad (x : F64) : F64 := ddiv (dmul x dPi) (dofInt 180)

/-- The value a conversion takes from a field and the one after it (Table 07-10). -/
def convField (conv : Nat) (scale offset : F32) (f next : List Byte) : Option Value :=
  match conv with
  | 0 => (decimal f).map fun p => scaleField scale offset false (Num.ofRat p.1 (10 ^ p.2))
  | 1 => (sexagesimal 2 90 f).bind fun p =>
    let v := degToRad (dofRat p.1 (60 * 10 ^ p.2))
    if next = [78#8] then some (vF64 v) else if next = [83#8] then some (vF64 (dneg v)) else none
  | 2 => (sexagesimal 3 180 f).bind fun p =>
    let v := degToRad (dofRat p.1 (60 * 10 ^ p.2))
    if next = [69#8] then some (vF64 v) else if next = [87#8] then some (vF64 (dneg v)) else none
  | 3 => (sexagesimal 2 23 (f.take 4)).bind fun p => match digits (f.drop 4) false 0 0 with
    | some (sec, k) => if !fixedDigits 6 f ∨ 60 * 10 ^ k ≤ sec then none else some (vF64 (dofRat (60 * p.1 * 10 ^ k + sec : Nat) (10 ^ k)))
    | none => none
  | _ => (decimal f).map fun p => vF32 (fadd (fdiv (fmul (fmul scale (fofRat p.1 (10 ^ p.2))) (d2f dPi)) (fofInt 180)) offset)

/-- ADDRESS against the five characters after the start character; "?" matches any. -/
def addressOk (addr body : List Byte) : Bool :=
  (body.take 5).length == 5 && (addr.zip (body.take 5)).all (fun p => p.1 == 63#8 || p.1 == p.2)

/-- A sentence, stamped at the start bit of its first character, against one entry (R225 to R227). -/
def sentenceEntry (port arr : Nat) (q : Sentence) (fs : List (List Byte)) (s : State) (e : List Byte) : State :=
  let p := byteAt e 0
  let used := (p == 0xFF || p == port) && addressOk (slice e 4 5) q.body && (q.check.isSome || bitOf (byteAt e 10) 0)
  let vf := byteAt e 3
  let valid := vf == 0 || fs.getD vf [] == slice e 9 1
  let f := fs.getD (byteAt e 2) []
  if used && valid && !f.isEmpty then
    match convField (byteAt e 1) (fieldF32 e 16) (fieldF32 e 20) f (fs.getD (byteAt e 2 + 1) []) with
    | some v => publishAs (fieldU e 12 2) ⟨v, false, arr, none, none, none⟩ s
    | none => s
  else s

/-- A sentence discarded and counted. -/
def discardSentence (port : Nat) (s : State) : State :=
  { s with bus := { s.bus with serialDiscards := modAt s.bus.serialDiscards port (fun n => min (n + 1) (2 ^ 32 - 1)) } }

/-- SERIAL_SENTENCE_RX (R224 to R227), its first start bit `startNs` ago. After a core reset sentences are discarded until firmware runs (R234). -/
def execSerialSentenceRx (port : Fin 8) (startNs : Nat) (chars : List Byte) (framing : Bool) (s : State) : Result :=
  let on := !(tab s 0x0293).isEmpty && byteAt (tabRec s 0x0293 8 port.val) 2 == 1
  if !busUp s || !on then .next s
  else if !awake s || framing || decide (82 < chars.length) then .next (discardSentence port.val s)
  else
    match readSentence chars with
    | none => .next (discardSentence port.val s)
    | some q =>
      if q.check = some false then
        let s1 := discardSentence port.val s
        .next (record .serialChecksum (be 1 port.val ++ be 1 0 ++ be 4 (satU 32 (s1.bus.serialDiscards.getD port.val 0))) s1)
      else .next ((records 24 (tab s 0x0294)).foldl (sentenceEntry port.val (s.time.total - startNs) q (splitFields q.body [])) s)

/-! Module slots (R228 to R233). -/

/-- A slot's identity memory is addressed; the read is due later while the brown-out warning is raised or no firmware runs (R229, R234).
The slot keeps its state until the read ends (log 234). -/
def startRead (i : Nat) (s : State) : State :=
  if !awake s || bowRaised s then modSlotM i (fun x => { x with due := true }) s
  else emit (.i2c (i % 4) (0x50 + i / 4)) (modSlotM i (fun x => { x with reading := true, nacks := 0, due := false }) s)

/-- A slot becomes ABSENT (R229). -/
def leaveSlot (i : Nat) (s : State) : State :=
  record .moduleRemoved (be 1 i) (modSlotM i (fun x => { x with reading := false, state := 0, desc := [], gone := false }) s)

/-- A removal that no firmware has seen is taken up (R229). -/
def serveGone (s : State) (i : Nat) : State := if (slotOf s i).gone then leaveSlot i s else s

/-- What has become due of slot `i` while no firmware ran or the warning stood: the removal, then the read. -/
def serveSlot (s : State) (i : Nat) : State :=
  let x := slotOf s i
  let s1 := serveGone s i
  if x.present && (x.due || x.reading) then startRead i s1 else s1

/-- Every slot served (R229, R234). -/
def serveSlots (s : State) : State := if awake s then (List.range 8).foldl serveSlot s else s

/-- Reads of every present slot: at boot and on return to RUN (R229, R234). -/
def bootReads (s : State) : State :=
  (List.range 8).foldl (fun s i => if (slotOf s i).present then startRead i s else s) ((List.range 8).foldl serveGone s)

/-- VENDOR, MODEL and SERIAL of a descriptor. -/
def identityOf (d : List Byte) : List Byte := slice d 6 2 ++ slice d 8 32

/-- A descriptor that identifies, but for the recorded identity (R232). -/
def descriptorOk (d : List Byte) : Bool :=
  let arm := [fieldF32 d 56, fieldF32 d 60, fieldF32 d 64]
  d.length == 256 && fieldU d 0 4 == 0x564B4D44 && byteAt d 4 == 1 && fieldU d 252 4 == crcNat (d.take 252) &&
    decide (byteAt d 5 ≤ 4) && allZero (slice d 70 54) && (arm.all ffinite || arm.all isNan32)

/-- A slot's read ends with its descriptor (R232). -/
def identify (i : Nat) (d : List Byte) (s : State) : State :=
  let x := slotOf s i
  let same := match x.ident with
    | some k => k == identityOf d
    | none => true
  let st := if descriptorOk d && same then 1 else 2
  let s1 := modSlotM i (fun x => { x with reading := false, desc := padTo 256 d, state := st }) s
  if st = 1 then s1 else record (if descriptorOk d then .moduleChanged else .moduleUnidentified) (be 1 i) s1

/-- MODULE_PRESENT (R229): high for 10 ms after a rising edge; a read abandoned by an edge starts again. -/
def execModulePresent (slot : Fin 8) (s : State) : Result :=
  .next (startRead slot.val (modSlotM slot.val (fun x => { x with present := true }) s))

/-- MODULE_READ_COMPLETE (R232); held while the brown-out warning is raised (R234). -/
def execModuleReadComplete (slot : Fin 8) (data : List Byte) (s : State) : Result :=
  if (slotOf s slot.val).reading && awake s && !bowRaised s then .next (identify slot.val data s) else .next s

/-- MODULE_NACK_RETRY (R229): after the third retry the read has failed. -/
def execModuleNackRetry (slot : Fin 8) (s : State) : Result :=
  let x := slotOf s slot.val
  if !x.reading || !awake s || bowRaised s then .next s
  else if x.nacks < 3 then
    .next (emit (.i2c (slot.val % 4) (0x50 + slot.val / 4)) (modSlotM slot.val (fun x => { x with nacks := x.nacks + 1 })
      (elapseTo (s.time.elapsed + ms 1) s)))
  else
    .next (record .moduleUnidentified (be 1 slot.val) (modSlotM slot.val (fun x => { x with reading := false, state := 2, desc := [] }) s))

/-- MODULE_REMOVED (R229): low for 10 ms; recorded once firmware runs. -/
def execModuleRemoved (slot : Fin 8) (s : State) : Result :=
  let x := slotOf s slot.val
  if !x.present ∧ x.state = 0 then .next s
  else
    let s1 := modSlotM slot.val (fun x => { x with present := false, due := false, gone := true }) s
    .next (if awake s then leaveSlot slot.val s1 else s1)

/-- CONFIG_LOCK records the identity of every slot IDENTIFIED or ACCEPTED (R232). -/
def recordIdentities (s : State) : State :=
  let f (x : Slot) : Slot := { x with ident := if x.state = 1 ∨ x.state = 3 then some (identityOf x.desc) else none }
  { s with bus := { s.bus with slots := s.bus.slots.map f } }

/-- A slot serves: it is IDENTIFIED or ACCEPTED (R232). -/
def Slot.serves (x : Slot) : Bool := x.state == 1 || x.state == 3

/-- What the configuration attributes to a slot may be used: the slot serves, or none is named (R232). -/
def slotUsed (s : State) (i : Nat) : Bool := decide (7 < i) || (slotOf s i).serves

/-- The slots as they now stand are those of period `n`'s snapshot instant; marks of periods that have run are forgotten (R22, R232). -/
def keepSlots (n : Nat) (s : State) : State :=
  let live (n : Nat) : Bool := n == s.sch.cur || s.sch.begun.any (·.1 == n)
  { s with bus := { s.bus with slotMarks := (n, s.bus.slots) :: s.bus.slotMarks.filter fun m => m.1 != n && live m.1 } }

/-- A slot as of the snapshot instant of the period in hand, however late its stages run (R232). -/
def slotThen (s : State) (i : Nat) : Slot :=
  match s.bus.slotMarks.find? fun m => m.1 == s.sch.cur with
  | some m => at_ slotReset m.2 i
  | none => slotOf s i

/-- What the configuration attributes to a slot is used in the period in hand. -/
def slotServes (s : State) (i : Nat) : Bool := decide (7 < i) || (slotThen s i).serves

/-- MODULE_LIST: a slot with no descriptor lists CLASS 0 (log 33). -/
def opModuleList : OpDef := readOp 0x0C02 1 0 (fun _ _ => 0) fun _ s => (List.range 8).flatMap fun i =>
  let x := slotOf s i
  be 1 i ++ be 1 (i % 4) ++ be 1 (0x50 + i / 4) ++ be 1 x.state ++ be 1 (byteAt x.desc 5) ++ be 3 0

/-- MODULE_LIST (R115). -/
def execModuleList (r : Req) (p : List Byte) (s : State) : Result := .next (packetIn true opModuleList r p s)

/-- MODULE_READ: a slot with no descriptor reads zeros (log 33). -/
def opModuleRead : OpDef := readOp 0x0C03 1 1 (fun c _ => when_ (decide (7 < byteAt c.params 0)) stUnknownObject) fun c s =>
  let x := slotOf s (byteAt c.params 0)
  be 1 (byteAt c.params 0) ++ be 1 x.state ++ be 2 0 ++ padTo 256 x.desc

/-- MODULE_READ (R115). -/
def execModuleRead (r : Req) (p : List Byte) (s : State) : Result := .next (packetIn true opModuleRead r p s)

/-- MODULE_ACCEPT. -/
def opModuleAccept : OpDef := stepOp 0x0C04 1
  (fun c s => firstOf [sizeIs 1 c, when_ (decide (7 < byteAt c.params 0)) stUnknownObject,
    when_ ((slotOf s (byteAt c.params 0)).state != 2) stInconsistent])
  fun c s => .finish (modSlotM (byteAt c.params 0) (fun x => { x with state := 3 }) s) 0 (be 1 3) (some (firstPeriod s))

/-- MODULE_ACCEPT (R116, R232). -/
def execModuleAccept (r : Req) (p : List Byte) (s : State) : Result := .next (packetIn true opModuleAccept r p s)

/-- MODULE_RESCAN: an empty slot has nothing to read (log 235). -/
def opModuleRescan : OpDef := stepOp 0x0C05 1
  (fun c _ => firstOf [sizeIs 1 c, when_ (decide (7 < byteAt c.params 0 ∧ byteAt c.params 0 ≠ 0xFF)) stUnknownObject])
  fun c s =>
    let i := byteAt c.params 0
    .finish (if i = 0xFF then bootReads s else if (slotOf s i).present then startRead i s else s) 0 [] none

/-- MODULE_RESCAN (R116, R229). -/
def execModuleRescan (r : Req) (p : List Byte) (s : State) : Result := .next (packetIn true opModuleRescan r p s)

/-! Table and lock checks (R202, R203, R204, R219, R221, R222). -/

/-- A CAN bus record within its ranges (Table 07-1). -/
def canRangeOk (r : List Byte) : Bool :=
  decide (byteAt r 0 ≤ 7) && decide (byteAt r 1 ≤ 2 ∧ byteAt r 2 ≤ 2 ∧ byteAt r 3 ≤ 1) &&
    decide (1 ≤ fieldU r 4 2 ∧ fieldU r 4 2 ≤ 256 ∧ 2 ≤ fieldU r 6 2 ∧ fieldU r 6 2 ≤ 256) &&
    decide (1 ≤ byteAt r 8 ∧ byteAt r 8 ≤ 128 ∧ 1 ≤ byteAt r 9 ∧ byteAt r 9 ≤ 128) &&
    decide (1 ≤ byteAt r 10 ∧ byteAt r 10 ≤ 32 ∧ 1 ≤ byteAt r 11 ∧ byteAt r 11 ≤ 32) &&
    decide (1 ≤ byteAt r 12 ∧ byteAt r 12 ≤ 16 ∧ 1 ≤ byteAt r 13 ∧ byteAt r 13 ≤ 16) &&
    decide (byteAt r 14 ≤ 127 ∧ byteAt r 15 = 0 ∧ fieldU r 16 2 ≤ 0x3FFF) && allZero (slice r 18 14)

/-- Step 2 of TABLE_WRITE for 0x0290 (R202, R203). -/
def canTableStatus (body : List Byte) : Nat :=
  let rs := records 32 body
  if body.length ≠ 256 then stInconsistent
  else if !rs.all canRangeOk then stOutOfRange
  else if rs.any (fun r => decide (nomCycles r < 80 ∨ dataCycles r < 10 ∨ nomCycles r < dataCycles r) ||
      decide (fieldU r 6 2 < byteAt r 9 ∨ byteAt r 8 < byteAt r 9 ∨ byteAt r 11 < byteAt r 13 ∨ byteAt r 12 < byteAt r 13)) then stInconsistent
  else 0

/-- Step 2 of TABLE_WRITE for 0x0291 and 0x0701 (R219, R425). -/
def driveTableStatus (body : List Byte) : Nat :=
  let rs := records 8 body
  let mapped := rs.filter (fun r => byteAt r 1 != 0xFF)
  if body.length ≠ 128 then stInconsistent
  else if !rs.all fun r => (decide (byteAt r 1 ≤ 7) || byteAt r 1 == 0xFF) && decide (byteAt r 2 ≤ 31 ∧ byteAt r 3 ≤ 1) &&
      (decide (byteAt r 4 ≤ 7) || byteAt r 4 == 0xFF) && allZero (slice r 5 3) then stOutOfRange
  else if !distinct (mapped.map (fun r => 32 * byteAt r 1 + byteAt r 2)) then stInconsistent
  else 0

/-- Profile identifiers of Table 07-2. -/
def profileIds : List Nat :=
  ((List.range 4).map (0x090 + ·)) ++ ((List.range 32).map (0x0A0 + ·)) ++ ((List.range 32).map (0x0C0 + ·)) ++ ((List.range 32).map (0x4E0 + ·))

/-- Step 2 of TABLE_WRITE for 0x0292 (R222), given the buses DRIVE_MAP names. -/
def canMapStatus (driveBuses : List Nat) (body : List Byte) : Nat :=
  let es := records 24 body
  let ok (e : List Byte) : Bool :=
    let len := byteAt e 12
    let ty := byteAt e 13
    decide (byteAt e 0 ≤ 7 ∧ byteAt e 1 ≤ 7 ∧ 1 ≤ len ∧ len ≤ 64 ∧ ty ≤ 3) && (ty != 2 || len == 32) && (ty != 3 || len == 64) &&
      decide (fieldU e 14 2 ≤ 0x3FFF) && ffinite (fieldF32 e 16) && ffinite (fieldF32 e 20)
  let clash (e : List Byte) : Bool :=
    driveBuses.contains (byteAt e 0) && !bitOf (byteAt e 1) 0 &&
      profileIds.any (fun i => (i &&& fieldU e 8 4) == (fieldU e 4 4 &&& fieldU e 8 4))
  if body.length % 24 ≠ 0 ∨ 1024 < es.length then stInconsistent
  else if !es.all ok then stOutOfRange
  else if es.any clash then stInconsistent
  else 0

/-- Step 2 of TABLE_WRITE for 0x0293 (R224). -/
def serialTableStatus (body : List Byte) : Nat :=
  let rs := records 8 body
  if body.length ≠ 64 then stInconsistent
  else if !rs.all fun r => decide (byteAt r 0 ≤ 7 ∧ byteAt r 1 ≤ 5 ∧ byteAt r 2 ≤ 1 ∧ byteAt r 3 = 0 ∧ fieldU r 4 2 ≤ 0x3FFF) &&
      allZero (slice r 6 2) then stOutOfRange
  else 0

/-- Step 2 of TABLE_WRITE for 0x0294 (R226). -/
def sentenceTableStatus (body : List Byte) : Nat :=
  let es := records 24 body
  let ok (e : List Byte) : Bool :=
    (decide (byteAt e 0 ≤ 7) || byteAt e 0 == 0xFF) && decide (byteAt e 1 ≤ 4 ∧ 1 ≤ byteAt e 2 ∧ byteAt e 2 ≤ 40 ∧ byteAt e 3 ≤ 40) &&
      decide (byteAt e 10 ≤ 1 ∧ byteAt e 11 = 0 ∧ fieldU e 12 2 ≤ 0x3FFF) && allZero (slice e 14 2) && ffinite (fieldF32 e 16) && ffinite (fieldF32 e 20)
  if body.length % 24 ≠ 0 ∨ 512 < es.length then stInconsistent else if es.all ok then 0 else stOutOfRange

/-- Bus time of a frame of `l` data bytes, in cycles of CD10 (R221): with BRS where FORMAT is 2. -/
def frameCycles (r : List Byte) (l : Nat) : Nat :=
  if byteAt r 2 = 2 then 48 * nomCycles r + (32 + 10 * l) * dataCycles r else (80 + 10 * l) * nomCycles r

/-- CONFIG_LOCK's tests of a drive map against the bus records (R204, R221, R425, R443): normal mode, not classical, at
most half a TP (in ns) of bus time, and a COMMAND of at most 1,000 µs. -/
def driveMapLockOk (buses map : List Byte) (tp : Nat) : Bool :=
  let ds := (List.range 16).filterMap (driveRec map)
  ds.all fun d =>
    let r := padTo 32 (slice buses (32 * d.bus) 32)
    let n := (ds.filter (fun e => e.bus == d.bus)).length
    byteAt r 1 == 1 && byteAt r 2 != 0 &&
      decide (2 * (frameCycles r 8 + n * (frameCycles r 16 + frameCycles r 24)) * 25 ≤ 2 * tp) &&
      decide (frameCycles r 16 * 25 ≤ 2 * 1000000)

end Sys2Proof.Machine
end

