-- ==== Sys2Proof/Machine/Marver.lean ====
section
/-! DEFINITION. The marver's arithmetic (R250, R251): angles, vectors, rotations and the local frame, binary64 in the order
written, with the marver's own sine, cosine, arctangent and square root (log 34). -/

namespace Sys2Proof.Machine

open Sys2Proof.Config (mSin mCos mTan mAtan2 mSqrt)

/-- 2π. -/
def dTwoPi : F64 := 0x401921FB54442D18#64

/-- One. -/
def d1 : F64 := 0x3FF0000000000000#64

/-- One half. -/
def dHalf : F64 := 0x3FE0000000000000#64

/-- Rounded down to an integer; 0 where there is none. -/
def dfloor (a : F64) : Int := ((num64 a).floor?).getD 0

/-- An angle wrapped into [−π, π). -/
def wrapSigned (a : F64) : F64 := dsub a (dmul (dofInt (dfloor (ddiv (dadd a dPi) dTwoPi))) dTwoPi)

/-- An angle wrapped into (−π, π] about a centre (R264). -/
def unwrapAbout (c a : F64) : F64 :=
  let d := wrapSigned (dsub a c)
  dadd c (if d = dneg dPi then dPi else d)

/-- An angle wrapped into [0, 2π); a result that rounds to 2π is 0. -/
def wrapFull (a : F64) : F64 :=
  let r := dsub a (dmul (dofInt (dfloor (ddiv a dTwoPi))) dTwoPi)
  if dle dTwoPi r then d0 else r

/-- An angle in [0, 2π) as binary32; one that rounds to 2π or above is 0 (R275). -/
def wrapFull32 (a : F64) : F32 :=
  let r := d2f (wrapFull a)
  if dle dTwoPi (f2d r) then 0 else r

/-- A vector of three components. -/
structure V3 where
  x : F64
  y : F64
  z : F64
  deriving DecidableEq, Repr

/-- Sum. -/
def V3.add (a b : V3) : V3 := ⟨dadd a.x b.x, dadd a.y b.y, dadd a.z b.z⟩
/-- Difference. -/
def V3.sub (a b : V3) : V3 := ⟨dsub a.x b.x, dsub a.y b.y, dsub a.z b.z⟩
/-- Multiple. -/
def V3.scale (k : F64) (a : V3) : V3 := ⟨dmul k a.x, dmul k a.y, dmul k a.z⟩
/-- Scalar product. -/
def V3.dot (a b : V3) : F64 := dadd (dadd (dmul a.x b.x) (dmul a.y b.y)) (dmul a.z b.z)
/-- Length. -/
def V3.norm (a : V3) : F64 := mSqrt (a.dot a)
/-- Zero. -/
def v3zero : V3 := ⟨d0, d0, d0⟩
/-- Components in order, and back. -/
def V3.list (a : V3) : List F64 := [a.x, a.y, a.z]
def listV3 (l : List F64) : V3 := ⟨at_ d0 l 0, at_ d0 l 1, at_ d0 l 2⟩

/-- Three binary32 components at an offset, widened. -/
def vecAt (b : List Byte) (off : Nat) : V3 := ⟨f2d (fieldF32 b off), f2d (fieldF32 b (off + 4)), f2d (fieldF32 b (off + 8))⟩

/-- Rx(φ) (R250). -/
def rotX (a : F64) (v : V3) : V3 :=
  ⟨v.x, dsub (dmul v.y (mCos a)) (dmul v.z (mSin a)), dadd (dmul v.y (mSin a)) (dmul v.z (mCos a))⟩

/-- Ry(θ) (R250). -/
def rotY (a : F64) (v : V3) : V3 :=
  ⟨dadd (dmul v.x (mCos a)) (dmul v.z (mSin a)), v.y, dadd (dmul (dneg v.x) (mSin a)) (dmul v.z (mCos a))⟩

/-- Rz(ψ) (R250). -/
def rotZ (a : F64) (v : V3) : V3 :=
  ⟨dsub (dmul v.x (mCos a)) (dmul v.y (mSin a)), dadd (dmul v.x (mSin a)) (dmul v.y (mCos a)), v.z⟩

/-- Roll, pitch and heading. -/
structure Att where
  roll : F64
  pitch : F64
  yaw : F64
  deriving DecidableEq, Repr

/-- Roll, pitch and yaw in order, and back. -/
def Att.list (a : Att) : List F64 := [a.roll, a.pitch, a.yaw]
def listAtt (l : List F64) : Att := ⟨at_ d0 l 0, at_ d0 l 1, at_ d0 l 2⟩

/-- C_nb · v: Rz(ψ) Ry(θ) Rx(φ) v. -/
def Att.rot (a : Att) (v : V3) : V3 := rotZ a.yaw (rotY a.pitch (rotX a.roll v))

/-- C_nbᵀ · v. -/
def Att.rotT (a : Att) (v : V3) : V3 := rotX (dneg a.roll) (rotY (dneg a.pitch) (rotZ (dneg a.yaw) v))

/-! WGS 84 (R251). -/

/-- a. -/
def wgsA : F64 := dofInt 6378137
/-- f = 1 / 298.257223563. -/
def wgsF : F64 := ddiv d1 (dofRat 298257223563 1000000000)
/-- e2 = f (2 − f). -/
def wgsE2 : F64 := dmul wgsF (dsub (dofInt 2) wgsF)

/-- Earth-centred position. -/
def ecef (lat lon h : F64) : V3 :=
  let nn := ddiv wgsA (mSqrt (dsub d1 (dmul (dmul wgsE2 (mSin lat)) (mSin lat))))
  ⟨dmul (dmul (dadd nn h) (mCos lat)) (mCos lon), dmul (dmul (dadd nn h) (mCos lat)) (mSin lon),
    dmul (dadd (dmul nn (dsub d1 wgsE2)) h) (mSin lat)⟩

/-- The local origin: latitude, longitude, height. -/
def originLat (s : State) : F64 := pDbl s 0x0210
def originLon (s : State) : F64 := pDbl s 0x0211
def originH (s : State) : F64 := f2d (pReal s 0x0212)

/-- The local origin's earth-centred position. -/
def originEcef (s : State) : V3 := ecef (originLat s) (originLon s) (originH s)

/-- A difference of earth-centred positions in the local north, east, down frame. -/
def toLocal (s : State) (d : V3) : V3 :=
  let la := originLat s
  let lo := originLon s
  ⟨dadd (dsub (dmul (dmul (dneg (mSin la)) (mCos lo)) d.x) (dmul (dmul (mSin la) (mSin lo)) d.y)) (dmul (mCos la) d.z),
    dadd (dmul (dneg (mSin lo)) d.x) (dmul (mCos lo) d.y),
    dsub (dsub (dmul (dmul (dneg (mCos la)) (mCos lo)) d.x) (dmul (dmul (mCos la) (mSin lo)) d.y)) (dmul (mSin la) d.z)⟩

/-- A geodetic position in the local frame. -/
def geodetic (s : State) (lat lon h : F64) : V3 := toLocal s ((ecef lat lon h).sub (originEcef s))

/-- A local vector as a difference of earth-centred positions: the transpose of the rotation of R251. -/
def fromLocal (s : State) (v : V3) : V3 :=
  let la := originLat s
  let lo := originLon s
  ⟨dsub (dsub (dmul (dmul (dneg (mSin la)) (mCos lo)) v.x) (dmul (mSin lo) v.y)) (dmul (dmul (mCos la) (mCos lo)) v.z),
    dsub (dadd (dmul (dmul (dneg (mSin la)) (mSin lo)) v.x) (dmul (mCos lo) v.y)) (dmul (dmul (mCos la) (mSin lo)) v.z),
    dsub (dmul (mCos la) v.x) (dmul (mSin la) v.z)⟩

/-- Meridian radius of curvature at the origin (R252). -/
def meridianRadius (s : State) : F64 :=
  let w := dsub d1 (dmul (dmul wgsE2 (mSin (originLat s))) (mSin (originLat s)))
  ddiv (dmul wgsA (dsub d1 wgsE2)) (dmul w (mSqrt w))

/-- One step of the inverse of R251 by Bowring's relation: latitude, longitude and height from an earth-centred position,
from a latitude estimate (log 36). -/
def latStep (p z lat : F64) : F64 :=
  let nn := ddiv wgsA (mSqrt (dsub d1 (dmul (dmul wgsE2 (mSin lat)) (mSin lat))))
  mAtan2 (dadd z (dmul (dmul wgsE2 nn) (mSin lat))) p

/-- Geodetic latitude and longitude of a local point of the plane through the origin (log 36). -/
def planeGeodetic (s : State) (n e : F64) : F64 × F64 :=
  let c := (originEcef s).add (fromLocal s ⟨n, e, d0⟩)
  let p := mSqrt (dadd (dmul c.x c.x) (dmul c.y c.y))
  ((List.range 5).foldl (fun l _ => latStep p c.z l) (originLat s), mAtan2 c.y c.x)

/-- One correction of a trial point toward the point whose conversion of R339 is (n, e). -/
def inverseStep (s : State) (n e : F64) (t : F64 × F64) : F64 × F64 :=
  let g := planeGeodetic s t.1 t.2
  let v := geodetic s g.1 g.2 (originH s)
  (dadd t.1 (dsub n v.x), dadd t.2 (dsub e v.y))

/-- The inverse of R339's conversion: four corrections, each leaving at most about 3 · 10^-5 of the error within 50 km,
well inside the 0.001 m of R339 (log 36). -/
def toGeodetic (s : State) (n e : F64) : F64 × F64 :=
  let t := (List.range 4).foldl (fun t _ => inverseStep s n e t) (n, e)
  planeGeodetic s t.1 t.2

/-! The map's nodes (R324). -/

/-- The record of a node in force; none where the slot is empty. -/
def nodeRec (s : State) (i : Nat) : Option (List Byte) := keyGet i s.slv.map

/-- FLAGS bits of a node record. -/
def nodeValid (r : List Byte) : Bool := bitOf (byteAt r 15) 0
def nodeFixed (r : List Byte) : Bool := bitOf (byteAt r 15) 1
def nodeProv (r : List Byte) : Bool := bitOf (byteAt r 15) 2
def nodeRetired (r : List Byte) : Bool := bitOf (byteAt r 15) 3

/-- A candidate for association (R324). -/
def nodeCand (r : List Byte) : Bool := nodeValid r && !nodeProv r && !nodeRetired r

/-- A node's local position. -/
def nodeLocal (s : State) (r : List Byte) : V3 :=
  let mm (off : Nat) : F64 := dmul (dofInt (fieldS r off 4)) (dofRat 4 1000)
  toLocal s ((⟨mm 0, mm 4, mm 8⟩ : V3).sub (originEcef s))

/-- The local position of a node that is a candidate. -/
def candLocal (s : State) (i : Nat) : Option V3 := ((nodeRec s i).filter nodeCand).map (nodeLocal s)

end Sys2Proof.Machine
end

