-- ==== Sys2Proof/Machine/Inputs.lean ====
section
/-! DEFINITION. Signals by identifier (R235 to R239), what the stages produce, the fusion inputs, sensor clocks and the
snapshot's entries (R240 to R247), and optical frames (R255). -/

namespace Sys2Proof.Machine

/-! The outputs of the stages. -/

/-- A stage publishes a signal with a QUALITY. -/
def outPut (id : Nat) (v : Value) (q : Nat) (s : State) : State :=
  { s with sig := { s.sig with outs := keyPut id ⟨v, q⟩ s.sig.outs } }

/-- A signal of the stages as last published. -/
def outGet (s : State) (id : Nat) : Option OutVal := keyGet id s.sig.outs

/-! Types (R237, R239; Tables 08-3, 09-7, 11-9, 12-6). -/

/-- TYPE of a device-defined signal (Tables 08-3, 09-7, 11-9, 12-6). -/
def deviceType (id : Nat) : Option Nat :=
  if 0x0010 ≤ id ∧ id < 0x0030 then (if (id - 0x0010) % 8 ≤ 3 then some 4 else if (id - 0x0010) % 8 ≤ 5 then some 2 else none)
  else if id = 0x0030 then some 4
  else if id = 0x0031 then some 2
  else if id = 0x0100 ∨ id = 0x0101 then some 1
  else if 0x0102 ≤ id ∧ id ≤ 0x0105 then some 0
  else if 0x0114 ≤ id ∧ id ≤ 0x0117 then some 0
  else if 0x0121 ≤ id ∧ id ≤ 0x012C then some 3
  else if 0x0130 ≤ id ∧ id < 0x0160 then (if id % 4 ≤ 1 then some 1 else if id % 4 = 2 then some 0 else none)
  else if 0x0180 ≤ id ∧ id ≤ 0x0182 then some 3
  else if 0x0188 ≤ id ∧ id ≤ 0x018F then some 3
  else if 0x0200 ≤ id ∧ id < 0x0230 then
    (if id % 16 ≤ 1 then some 1 else if id % 16 ≤ 3 then some 0 else if id % 16 ≤ 5 then some 3 else none)
  else if 0x0240 ≤ id ∧ id < 0x0258 then
    (if id % 8 ≤ 1 then some 0 else if id % 8 = 2 then some 3 else if id % 8 = 3 then some 0 else none)
  else if id = 0x0260 ∨ id = 0x0261 then some 1
  else if id = 0x0262 then some 0
  else if (0x0300 ≤ id ∧ id ≤ 0x0308) ∨ (0x0320 ≤ id ∧ id ≤ 0x0328) ∨ (0x0330 ≤ id ∧ id ≤ 0x0338) then
    some (if id % 16 ≤ 1 then 1 else 0)
  else if (0x0310 ≤ id ∧ id ≤ 0x0318) ∨ (0x0340 ≤ id ∧ id ≤ 0x0348) ∨ (0x0350 ≤ id ∧ id ≤ 0x0352) then some 0
  else if 0x0360 ≤ id ∧ id ≤ 0x0367 then some (if id ≤ 0x0361 then 1 else 0)
  else if 0x0370 ≤ id ∧ id ≤ 0x0373 then some 3
  else if id = 0x0400 ∨ id = 0x0401 ∨ id = 0x0420 then some 3
  else if 0x0402 ≤ id ∧ id ≤ 0x0422 then some (if id = 0x0417 ∨ id = 0x0418 ∨ id = 0x041D ∨ id = 0x041E then 1 else 0)
  else if 0x0440 ≤ id ∧ id ≤ 0x0448 then some 0
  else if 0x0449 ≤ id ∧ id ≤ 0x044B then some 3
  else if 0x0450 ≤ id ∧ id < 0x0470 then some 3
  else if 0x0470 ≤ id ∧ id < 0x04D8 then some 0
  else if 0x04E0 ≤ id ∧ id < 0x0500 then some 3
  else none

/-- The bodies of the five tables that name configurable signals: 0x0260, 0x0290, 0x0292, 0x0293, 0x0294. -/
structure Producers where
  acq : List Byte
  can : List Byte
  canMap : List Byte
  serial : List Byte
  sentence : List Byte
  deriving DecidableEq, Repr

/-- The producers in force. -/
def producers (s : State) : Producers := ⟨tab s 0x0260, tab s 0x0290, tab s 0x0292, tab s 0x0293, tab s 0x0294⟩

/-- Every configurable signal named by a record or entry, with its TYPE and SOURCE (R236, R237). -/
def Producers.named (p : Producers) : List (Nat × Nat × Nat) :=
  (records 48 p.acq).flatMap (fun r => [(fieldU r 8 2, 0, 1), (fieldU r 10 2, 3, 1)]) ++
  (records 32 p.can).map (fun r => (fieldU r 16 2, 3, 2)) ++
  (records 24 p.canMap).map (fun e => (fieldU e 14 2, if byteAt e 13 = 3 then 1 else 0, 2)) ++
  (records 8 p.serial).map (fun r => (fieldU r 4 2, 3, 3)) ++
  (records 24 p.sentence).map (fun e => (fieldU e 12 2, if 1 ≤ byteAt e 1 ∧ byteAt e 1 ≤ 3 then 1 else 0, 3))

/-- TYPE and SOURCE of a configurable signal. -/
def Producers.find (p : Producers) (id : Nat) : Option (Nat × Nat) := (p.named.find? (fun n => n.1 == id)).map (·.2)

/-- The producer of a device-defined signal runs in the configuration in force (R235; log 212): a PTP port of PTP_PORTS; a head that an OPTICAL_HEAD input names; an antenna with a band enabled; a pair of HEADING_PAIRS; level A. Every other one
runs with the firmware. -/
def deviceRuns (s : State) (id : Nat) : Bool :=
  if 0x0010 ≤ id ∧ id < 0x0020 then bitOf (pNat s 0x0510) ((id - 0x0010) / 8)
  else if 0x0188 ≤ id ∧ id ≤ 0x018F then
    (records 32 (tab s 0x0201)).any fun r => byteAt r 1 == 17 && fieldU r 2 2 == id
  else if 0x0200 ≤ id ∧ id < 0x0230 then (pNat s 0x0402) / 4 ^ ((id - 0x0200) / 16) % 4 != 0
  else if 0x0240 ≤ id ∧ id < 0x0258 then bitOf (pNat s 0x0430) ((id - 0x0240) / 8)
  else if 0x0260 ≤ id ∧ id ≤ 0x0262 then pNat s 0x0219 == 1
  else true

/-- TYPE of a signal that exists (R235). -/
def sigType (s : State) (id : Nat) : Option Nat :=
  if id < 0x1000 then (if deviceRuns s id then deviceType id else none) else ((producers s).find id).map (·.1)

/-- Configurable signals that no record or entry names any longer cease to exist (R235, R238). -/
def dropUnnamed (s : State) : State :=
  let ids := (producers s).named.map (·.1)
  let stays (id : Nat) : Bool := decide (id < 0x1000) || ids.contains id
  { s with sig := { s.sig with tab := s.sig.tab.filter (fun e => stays e.1), kept := s.sig.kept.filter (fun e => stays e.1) } }

/-- A VALUE as a number, by its TYPE (R82). -/
def valNum (ty : Nat) (v : Value) : Num :=
  match ty with
  | 0 => num32 (valF32 v)
  | 1 => num64 v
  | 2 => Num.ofInt (valI32 v)
  | 3 => Num.ofInt (valU32 v)
  | _ => Num.ofInt v.toNat

/-- A VALUE in binary64. -/
def valD (ty : Nat) (v : Value) : F64 := pack64 (valNum ty v)

/-! Fusion inputs (Table 08-4). -/

/-- Record of input `i`. -/
def finRec (s : State) (i : Nat) : List Byte := tabRec s 0x0201 32 i
/-- ROLE. -/
def finRole (s : State) (i : Nat) : Nat := byteAt (finRec s i) 1
/-- SIGNAL_ID. -/
def finSig (s : State) (i : Nat) : Nat := fieldU (finRec s i) 2 2
/-- LATENCY_US in nanoseconds. -/
def finLatency (s : State) (i : Nat) : Int := (fieldU (finRec s i) 8 4 : Int) * 1000
/-- SIGMA. -/
def finSigma (s : State) (i : Nat) : F64 := f2d (fieldF32 (finRec s i) 16)
/-- MOUNT: roll, pitch, yaw. -/
def finMount (s : State) (i : Nat) : Att :=
  let r := finRec s i
  ⟨f2d (fieldF32 r 20), f2d (fieldF32 r 24), f2d (fieldF32 r 28)⟩
/-- The head of an OPTICAL_HEAD input. -/
def finHead (s : State) (i : Nat) : Nat := finSig s i - 0x0188

/-- What is kept of input `i`. -/
def trackOf (s : State) (i : Nat) : InTrack := at_ inTrackReset s.fus.tracks i

/-- Change it. -/
def modTrack (i : Nat) (f : InTrack → InTrack) (s : State) : State :=
  { s with fus := { s.fus with tracks := modAt s.fus.tracks i f } }

/-- The snapshot's entry of input `i`. -/
def snapOf (s : State) (i : Nat) : Option InSnap := (at_ none s.fus.snap i)

/-- An input is usable (R244). -/
def inUsable (s : State) (i : Nat) : Bool :=
  match snapOf s i with
  | some x => x.q == 1 || x.q == 4
  | none => false

/-- Value of an input in the snapshot, binary64. -/
def inValue (s : State) (i : Nat) : F64 :=
  match snapOf s i with
  | some x => valD x.ty x.value
  | none => d0

/-- Age of an input in the snapshot. -/
def inAge (s : State) (i : Nat) : Nat := ((snapOf s i).map (·.age)).getD 0

/-! Own stamps (R245, R246). -/

/-- n modulo m as the residue nearest to zero, in (−m/2, m/2]. -/
def nearest (n : Int) (m : Nat) : Int :=
  let r := n % (m : Int)
  if 2 * r ≤ m then r else r - m

/-- The number of an own stamp in its kind's unit: whole microseconds, or nanoseconds of the UTC day for kind 2. -/
def stampNumber (kind ty : Nat) (v : Value) : Option Int :=
  if kind = 2 then ((valNum ty v).mul (Num.ofInt 1000000000)).rint? else (valNum ty v).floor?

/-- The own stamp that came with a sample: that of the frame for an optical head, the publication of STAMP_ID with the same
arrival stamp otherwise (log 37). -/
def ownStamp (s : State) (i arr : Nat) : Option Int :=
  let r := finRec s i
  if finRole s i = 17 then
    ((at_ [] s.fus.heads (finHead s i)).find? (fun f => f.1 == arr)).map (fun f => ((fieldU f.2 8 4 : Nat) : Int))
  else
    let id := fieldU r 4 2
    (((keyGet id s.sig.tab).getD []).find? (fun v => v.arr == arr)).bind fun v => match v.own with
      | some us => some (if byteAt r 6 = 2 then us * 1000 else us)
      | none => stampNumber (byteAt r 6) ((sigType s id).getD 3) v.value

/-- An own stamp mapped to device time near `base` = a − LATENCY (R245). -/
def mapStamp (s : State) (kind : Nat) (offset : Option Nat) (base stamp : Int) : Option Int :=
  let micro (st : Int) : Int := base / 1000 * 1000 + nearest (st - base / 1000) (2 ^ 32) * 1000
  match kind with
  | 1 => some (micro stamp)
  | 2 =>
    if (latest s 0x0031).isNone then none
    else some (base + nearest (stamp - (base - s.time.utcOffset * 10 ^ 9)) 86400000000000)
  | 3 => offset.map fun o => micro (stamp + o)
  | _ => none

/-- The middle one of the samples. -/
def medianNat (l : List Nat) : Nat := (l.mergeSort (· ≤ ·)).getD (l.length / 2) 0

/-- CLOCK_SLIP clears after 100 consecutive samples within half a VP (R246). -/
def clearSlip (i : Nat) (s : State) : State :=
  let t := trackOf s i
  if t.slip && decide (100 ≤ t.good) then
    record .clockSlipCleared (be 1 i) (modTrack i (fun t => { t with slip := false, good := 0 }) s)
  else s

/-- One sample of an input judged against device time (R245, R246). -/
def judgeSample (i : Nat) (s : State) (arr : Nat) : State :=
  let kind := byteAt (finRec s i) 6
  let base := (arr : Int) - finLatency s i
  let t := trackOf s i
  let s0 := modTrack i (fun t => { t with upto := some arr }) s
  match ownStamp s i arr with
  | none => s0
  | some st =>
    if kind = 3 ∧ t.offset = none then
      let l := t.samples ++ [((base / 1000 - st) % (2 ^ 32 : Int)).toNat]
      modTrack i (fun t => if l.length < 15 then { t with samples := l } else { t with samples := [], offset := some (medianNat l) }) s0
    else
      match mapStamp s kind t.offset base st with
      | none => s0
      | some m =>
        let d := m - base
        if vpNs s < d.natAbs then
          if t.slip then modTrack i (fun t => { t with good := 0 }) s0
          else record .clockSlip (be 2 i ++ be 4 (satS 32 (d.tdiv 1000)))
            (modTrack i (fun t => { t with slip := true, good := 0, offset := none, samples := [] }) s0)
        else if t.slip then
          clearSlip i (modTrack i (fun t => { t with good := if 2 * d.natAbs ≤ vpNs s then t.good + 1 else 0 }) s0)
        else s0

/-- Arrival stamps of an input's samples not yet judged, before an instant, oldest first; a signal stamped on the device clock has none to
judge (R247). -/
def newSamples (s : State) (i : Nat) (upto : Int) : List Nat :=
  let late (a : Nat) : Bool := decide ((a : Int) < upto) && (match (trackOf s i).upto with | some u => decide (u < a) | none => true)
  (((((keyGet (finSig s i) s.sig.tab).getD []).filter (·.valid.isNone)).map (·.arr)).filter late).reverse

/-- CLOCK_SLIP_CLEARED (R246). -/
def execClockSlipCleared (input : Fin 64) (s : State) : Result := .next (clearSlip input.val s)

/-- The producer marks an input's value at the snapshot instant (Table 08-2): the publication itself, or a module slot not in use. -/
def inFaulty (s : State) (i : Nat) (at_ : Int) (v : SigVal) : Bool := v.badBy at_ || !slotServes s (byteAt (finRec s i) 7)

/-- The snapshot's entry of a used input at the instant `at_` (R242 to R244), its samples judged first. -/
def snapInput (at_ : Int) (s0 : State) (i : Nat) : State :=
  if finRole s0 i = 0 then { s0 with fus := { s0.fus with snap := modAt s0.fus.snap i (fun _ => none) } }
  else
    let s := if byteAt (finRec s0 i) 6 = 0 then s0 else (newSamples s0 i at_).foldl (judgeSample i) s0
    let entry : Option InSnap := match before s (finSig s i) at_.toNat with
      | none => none
      | some v =>
        let t := trackOf s i
        let base := (v.arr : Int) - finLatency s i
        let own := if t.slip || v.valid.isSome then none
          else (ownStamp s i v.arr).bind (mapStamp s (byteAt (finRec s i) 6) t.offset base)
        let inst : Int := min v.arr (match v.valid with
          | some w => (w : Int)
          | none => own.getD base)
        let age := (at_ - inst).toNat
        let q := if inFaulty s i at_ v then 3 else if fieldU (finRec s i) 12 4 * 1000000 < age then 2 else if t.slip then 4 else 1
        some ⟨v.value, (sigType s (finSig s i)).getD 0, q, v.arr, inst, age⟩
    { s with fus := { s.fus with snap := modAt s.fus.snap i (fun _ => entry) } }

/-! Optical frames (R255). -/

/-- A datagram is an optical frame for a configured head. -/
def opticalOk (s : State) (d : List Byte) : Bool :=
  let n := byteAt d 5
  decide (20 ≤ d.length) && fieldU d 0 4 == 0x564B4F48 && decide (n ≤ 56) && d.length == 20 + 24 * n &&
    fieldU d (16 + 24 * n) 4 == crcNat (d.take (16 + 24 * n)) &&
    (List.range 64).any (fun i => finRole s i == 17 && finHead s i == byteAt d 4)

/-- An observation's FEATURE names a class or any (R255). -/
def featureOk (o : List Byte) : Bool := decide (fieldU o 0 4 ≤ 0xFFFF) || fieldU o 0 4 == 0xFFFFFFFF

/-- Count in signal 0x0182. -/
def countDropped (n : Nat) (s : State) : State := { s with fus := { s.fus with dropped := min (2 ^ 32 - 1) (s.fus.dropped + n) } }

/-- OPTICAL_FRAME_RX (R255). -/
def execOpticalFrameRx (portB : Bool) (data : List Byte) (s : State) : Result :=
  let _ := portB
  if !awake s then .next s
  else if !opticalOk s data then .next (countDropped 1 s)
  else
    let h := byteAt data 4
    let os := records 24 (slice data 16 (24 * byteAt data 5))
    let good := os.filter featureOk
    let frame := data.take (16 + 24 * byteAt data 5)
    let s1 := { s with fus := { s.fus with heads := modAt s.fus.heads h (fun l => (s.time.total, frame) :: l) } }
    .next (countDropped (os.length - good.length) (publish (0x0188 + h) (vU32 (fieldU data 6 2)) s1))

end Sys2Proof.Machine
end

