-- ==== Sys2Proof/Machine/Assoc.lean ====
section
/-! DEFINITION. Landmark association (R256 to R261): candidates, gating, the auction, the optical fix and the landmark tracks. -/

namespace Sys2Proof.Machine

open Sys2Proof.Config (mSin mCos mTan mAtan2 mSqrt)

/-- What an association is made from: the head, the predicted reference point, the attitude of sub-steps 3.1 and 3.2, the
head's rotation and lever arm. -/
structure HeadPose where
  p : V3
  att : Att
  mount : Att
  arm : V3
  deriving DecidableEq, Repr

/-- The predicted vector to a landmark in the head frame: C_bhᵀ (C_nbᵀ (ℓ − p) − L) (R256). -/
def HeadPose.toHead (h : HeadPose) (l : V3) : V3 := h.mount.rotT ((h.att.rotT (l.sub h.p)).sub h.arm)

/-- Azimuth and elevation of a vector in the head frame (R256). -/
def azOf (q : V3) : F64 := mAtan2 q.y q.x
def elOf (q : V3) : F64 := mAtan2 (dneg q.z) (mSqrt (dadd (dmul q.x q.x) (dmul q.y q.y)))

/-- A candidate: node, CLASS, local position, predicted vector and range. -/
structure Cand where
  node : Nat
  cls : Nat
  pos : V3
  q : V3
  range : F64
  deriving DecidableEq, Repr

/-- Candidates of a head (R256): within MAX_RANGE and FOV of the boresight, at most 256, nearest first, ties to the lower
node index. -/
def candidates (s : State) (h : HeadPose) (maxRange fov : F64) : List Cand :=
  let all := s.slv.map.filterMap fun e =>
    if !nodeCand e.2 then none
    else
      let l := nodeLocal s e.2
      let q := h.toHead l
      let r := q.norm
      if dle r maxRange && dle (dmul r (mCos fov)) q.x then some (⟨e.1, fieldU e.2 12 2, l, q, r⟩ : Cand) else none
  (all.mergeSort (fun a b => dlt a.range b.range || (a.range == b.range && decide (a.node ≤ b.node)))).take 256

/-- The number 256 · x rounded to nearest. -/
def cost256 (x : F64) : Int := ((num64 (dmul (dofInt 256) x)).rint?).getD 0

/-- d² of an observation against a candidate (R257). -/
def innovation (o : List Byte) (c : Cand) : F64 :=
  let sa := f2d (fieldF32 o 16)
  let da := ddiv (wrapSigned (dsub (f2d (fieldF32 o 4)) (azOf c.q))) sa
  let de := ddiv (wrapSigned (dsub (f2d (fieldF32 o 8)) (elOf c.q))) sa
  let a := dadd (dmul da da) (dmul de de)
  if isNan32 (fieldF32 o 12) then a
  else
    let dr := ddiv (dsub (f2d (fieldF32 o 12)) c.range) (f2d (fieldF32 o 20))
    dadd a (dmul dr dr)

/-- Benefits of observation `o` by candidate index: (m + 1)(cg − c) where the pair is gated (R257, R258). -/
def benefits (m : Nat) (gate : F64) (o : List Byte) (cs : List Cand) : List (Nat × Int) :=
  (cs.mapIdx fun j c => (j, c)).filterMap fun p =>
    let f := fieldU o 0 4
    if f ≠ 0xFFFFFFFF ∧ f ≠ p.2.cls then none
    else
      let d := innovation o p.2
      if dle d gate then some (p.1, ((m : Int) + 1) * (cost256 gate - cost256 d)) else none

/-- The auction's state (R258): prices by candidate, each observation's assignment (none, some none for the dummy), and whether it ran to
its end at eps 1. -/
structure Auction where
  prices : List Int
  asg : List (Option (Option Nat))
  bids : Nat
  done : Bool
  deriving DecidableEq, Repr

/-- The best benefit less price: ties to the lower node, with the next best (0 for the dummy). -/
def bestBid (nodes : List Nat) (prices : List Int) (bs : List (Nat × Int)) : Option (Nat × Int) × Int :=
  let vs := bs.map fun b => (b.1, b.2 - at_ 0 prices b.1)
  let better (a b : Nat × Int) : Bool := decide (b.2 < a.2) || (a.2 == b.2 && decide (at_ 0 nodes a.1 < at_ 0 nodes b.1))
  let best := vs.foldl (fun a v => match a with
    | none => some v
    | some w => if better v w then some v else some w) none
  let rest := vs.filter (fun v => some v.1 != best.map (·.1))
  (best, rest.foldl (fun a v => max a v.2) 0)

/-- One bid of observation `i`. -/
def bid (nodes : List Nat) (bs : List (List (Nat × Int))) (eps : Int) (limit : Nat) (a : Auction) (i : Nat) : Auction :=
  if (at_ none a.asg i).isSome ∨ limit ≤ a.bids then a
  else
    match bestBid nodes a.prices (at_ [] bs i) with
    | (some (j, v1), v2) =>
      if v1 ≤ 0 then { a with asg := modAt a.asg i (fun _ => some none), bids := a.bids + 1 }
      else
        let freed := a.asg.map fun x => if x = some (some j) then none else x
        { a with prices := modAt a.prices j (fun p => p + (v1 - v2) + eps), asg := modAt freed i (fun _ => some (some j)), bids := a.bids + 1 }
    | (none, _) => { a with asg := modAt a.asg i (fun _ => some none), bids := a.bids + 1 }

/-- Passes over the observations until all are assigned at every eps, or the bid limit is reached. Every pass with one
unassigned makes a bid, so `fuel` of the limit plus the eps steps is enough. -/
def auctionRun (nodes : List Nat) (bs : List (List (Nat × Int))) (limit : Nat) : Nat → Int → Auction → Auction
  | 0, _, a => a
  | fuel + 1, eps, a =>
    if eps = 1 ∧ a.asg.all (·.isSome) then { a with done := true }
    else if limit ≤ a.bids then a
    else if a.asg.any (·.isNone) then
      auctionRun nodes bs limit fuel eps ((List.range a.asg.length).foldl (bid nodes bs eps limit) a)
    else auctionRun nodes bs limit fuel (max 1 (eps / 4)) { a with asg := a.asg.map fun _ => none }

/-- The assignment of a head's observations (R258, R259): candidate index for each, and whether all were decided. -/
def assign (gate : F64) (limit : Nat) (os : List (List Byte)) (cs : List Cand) : Auction :=
  let bs := os.map fun o => benefits os.length gate o cs
  let top := bs.foldl (fun a b => b.foldl (fun a x => max a x.2) a) 0
  auctionRun (cs.map (·.node)) bs limit (limit + 64) (max 1 (top / 8)) ⟨cs.map fun _ => 0, os.map fun _ => none, 0, false⟩

/-- Residual and its derivatives by north and east, divided by its standard deviation. -/
structure Row where
  r : F64
  dn : F64
  de : F64
  deriving DecidableEq, Repr

/-- The rows of one association at a trial reference point (R260). -/
def fixRows (h : HeadPose) (o : List Byte) (l : V3) : List Row :=
  let q := h.toHead l
  let dN := h.mount.rotT (h.att.rotT ⟨dneg d1, d0, d0⟩)
  let dE := h.mount.rotT (h.att.rotT ⟨d0, dneg d1, d0⟩)
  let rho2 := dadd (dmul q.x q.x) (dmul q.y q.y)
  let rho := mSqrt rho2
  let r2 := dadd rho2 (dmul q.z q.z)
  let rng := mSqrt r2
  let sa := f2d (fieldF32 o 16)
  let daz (d : V3) : F64 := ddiv (dsub (dmul q.x d.y) (dmul q.y d.x)) rho2
  let del (d : V3) : F64 :=
    let drho := ddiv (dadd (dmul q.x d.x) (dmul q.y d.y)) rho
    ddiv (dsub (dmul q.z drho) (dmul rho d.z)) r2
  let drg (d : V3) : F64 := ddiv (q.dot d) rng
  let az : Row := ⟨ddiv (wrapSigned (dsub (f2d (fieldF32 o 4)) (azOf q))) sa, ddiv (daz dN) sa, ddiv (daz dE) sa⟩
  let el : Row := ⟨ddiv (wrapSigned (dsub (f2d (fieldF32 o 8)) (elOf q))) sa, ddiv (del dN) sa, ddiv (del dE) sa⟩
  if isNan32 (fieldF32 o 12) then [az, el]
  else
    let sr := f2d (fieldF32 o 20)
    [az, el, ⟨ddiv (dsub (f2d (fieldF32 o 12)) rng) sr, ddiv (drg dN) sr, ddiv (drg dE) sr⟩]

/-- The normal matrix (nn, ne, ee) and right-hand side of rows. -/
def normalEq (rows : List Row) : F64 × F64 × F64 × F64 × F64 :=
  rows.foldl (fun a r =>
    (dadd a.1 (dmul r.dn r.dn), dadd a.2.1 (dmul r.dn r.de), dadd a.2.2.1 (dmul r.de r.de),
      dadd a.2.2.2.1 (dmul r.dn r.r), dadd a.2.2.2.2 (dmul r.de r.r))) (d0, d0, d0, d0, d0)

/-- One Gauss-Newton iteration: the new point and √(trace / 2) of the inverse normal matrix. -/
def gnStep (h : HeadPose) (as_ : List (List Byte × V3)) : HeadPose × F64 :=
  let m := normalEq (as_.flatMap fun a => fixRows h a.1 a.2)
  let det := dsub (dmul m.1 m.2.2.1) (dmul m.2.1 m.2.1)
  let n := ddiv (dsub (dmul m.2.2.1 m.2.2.2.1) (dmul m.2.1 m.2.2.2.2)) det
  let e := ddiv (dsub (dmul m.1 m.2.2.2.2) (dmul m.2.1 m.2.2.2.1)) det
  ({ h with p := ⟨dadd h.p.x n, dadd h.p.y e, h.p.z⟩ }, mSqrt (ddiv (ddiv (dadd m.1 m.2.2.1) det) (dofInt 2)))

/-- The optical fix (R260): three iterations from the predicted point; none without enough associations or where the
normal matrix has no inverse. -/
def opticalFix (h : HeadPose) (as_ : List (List Byte × V3)) : Option (F64 × F64 × F64) :=
  if 2 ≤ as_.length ∨ as_.any (fun a => !isNan32 (fieldF32 a.1 12)) then
    let r := gnStep (gnStep (gnStep h as_).1 as_).1 as_
    if dfinite r.1.p.x && dfinite r.1.p.y && dfinite r.2 then some (r.1.p.x, r.1.p.y, r.2) else none
  else none

/-! Landmark tracks (R261). -/

/-- A candidate's track after a frame numbered `f`: associated with d², or missed. -/
def trackFrame (f : Nat) (d2 : Option F64) (node : Nat) (ts : List Track) : List Track :=
  let t := (ts.find? (fun t => t.node == node)).getD ⟨node, 0, true, 0, d0⟩
  let t' : Track := match d2 with
    | some d => ⟨node, f, true, (if t.hit then t.count else 0) + 1, d⟩
    | none => ⟨node, t.lastHit, false, (if t.hit then 0 else t.count) + 1, t.d2⟩
  t' :: ts.filter (fun t => t.node != node)

/-- At most 1,024 tracks, the least recently associated dropped first. -/
def capTracks (ts : List Track) : List Track :=
  if ts.length ≤ 1024 then ts else (ts.mergeSort (fun a b => decide (b.lastHit ≤ a.lastHit))).take 1024

/-- Tracks missed for 50 consecutive frames, for map maintenance. -/
def missedTracks (s : State) : List Track := s.fus.landmarks.filter (fun t => !t.hit && decide (50 ≤ t.count))

/-- An unassociated observation as map maintenance takes it (R261): with a range, the local position it points at. -/
def looseOf (frame head idx : Nat) (h : HeadPose) (o : List Byte) : Loose :=
  if isNan32 (fieldF32 o 12) then ⟨frame, head, idx, none, fieldU o 0 4, f2d (fieldF32 o 16)⟩
  else
    let az := f2d (fieldF32 o 4)
    let el := f2d (fieldF32 o 8)
    let r := f2d (fieldF32 o 12)
    let v : V3 := ⟨dmul r (dmul (mCos el) (mCos az)), dmul r (dmul (mCos el) (mSin az)), dneg (dmul r (mSin el))⟩
    let l := h.p.add (h.att.rot (h.arm.add (h.mount.rot v)))
    ⟨frame, head, idx, some [l.x, l.y, l.z], fieldU o 0 4, dmax (f2d (fieldF32 o 20)) (dmul r (f2d (fieldF32 o 16)))⟩

/-- What stage 3 gets from a head. -/
structure HeadResult where
  fix : Option (F64 × F64 × F64)
  taken : Nat
  associated : Nat
  deriving DecidableEq, Repr

/-- Association of one head within the period's remaining room for observations (R256 to R261). A frame already
processed in an earlier period counts no track again (log 38). -/
def associateHead (head : Nat) (h : HeadPose) (maxRange fov : F64) (frame : Nat × List Byte) (room : Nat) (s : State) : HeadResult × State :=
  let all := (records 24 (slice frame.2 16 (24 * byteAt frame.2 5))).filter featureOk
  let os := all.take room
  let cs := candidates s h maxRange fov
  let gate := f2d (pReal s 0x0216)
  let a := assign gate (pNat s 0x0217) os cs
  let left := (a.asg.filter (·.isNone)).length
  let pairs : List (List Byte × Cand) := (os.zip a.asg).filterMap fun p => match p.2 with
    | some (some j) => (cs[j]?).map fun c => (p.1, c)
    | _ => none
  let loose := (os.zip a.asg).zipIdx.filterMap fun p => match p.1.2 with
    | some (some _) => none
    | _ => some (looseOf frame.1 head p.2 h p.1.1)
  let s1 := countDropped (all.length - os.length) s
  let s2 := if !a.done then record .assocIncomplete (be 1 head ++ be 1 0 ++ be 4 left) s1 else s1
  let fresh := decide (at_ 0 s.fus.headDone head ≠ frame.1)
  let marks := cs.foldl (fun ts c =>
    trackFrame frame.1 ((pairs.find? (fun p => p.2.node == c.node)).map fun p => innovation p.1 p.2) c.node ts) s.fus.landmarks
  let kept : BaFrame :=
    { head := head, frame := frame.1, period := s.sch.cur, pos := h.p.list, att := h.att.list, mount := h.mount.list, arm := h.arm.list,
      est := none, obs := (os.zip a.asg).map fun p => ((p.2.join.bind fun j => cs[j]?).map (·.node), p.1) }
  let s3 := if fresh then
      { s2 with fus := { s2.fus with landmarks := capTracks marks, loose := s2.fus.loose ++ loose,
                                     headDone := modAt s2.fus.headDone head (fun _ => frame.1) },
                slv := { s2.slv with frames := (kept :: s2.slv.frames).take (pNat s 0x0623) } }
    else s2
  (⟨opticalFix h (pairs.map fun p => (p.1, p.2.pos)), os.length, pairs.length⟩, s3)

end Sys2Proof.Machine
end

