-- ==== Sys2Proof/Machine/Fusion.lean ====
section
/-! DEFINITION. Stage 3 (R248 to R274): attitude and heading votes, projection, the optical references, the vote of every
group with disputes and hold timers, and SOURCE_SELECT. -/

namespace Sys2Proof.Machine

open Sys2Proof.Config (mSin mCos mTan mAtan2 mSqrt)

/-! Predictions (R249, R284). -/

/-- Prediction `k` (0x0360 + k) made in the period before; a free value before any has been made (log 35). -/
def predicted (s : State) (k : Nat) : F64 :=
  match outGet s (0x0360 + k) with
  | some v => valD (if k ≤ 1 then 1 else 0) v.value
  | none => Config.unpredicted k

/-- The prediction of a vote group's quantity: position, heading, roll, pitch; the last fused value for groups 4 to 7 (log 35). -/
def groupPrediction (s : State) (g : Nat) : List F64 :=
  match g with
  | 0 => [predicted s 0, predicted s 1]
  | 1 => [predicted s 2]
  | 2 => [predicted s 6]
  | 3 => [predicted s 7]
  | _ => ((at_ vgroupReset s.fus.groups g).fused).getD [Config.unpredicted (8 + g)]

/-! Vote groups (Table 08-7, R264). -/

/-- Record of group `g`. -/
def groupRec (s : State) (g : Nat) : List Byte := tabRec s 0x0203 16 g

/-- Group `g` votes. -/
def groupOn (s : State) (g : Nat) : Bool := byteAt (groupRec s g) 1 == 1

/-- GATE. -/
def groupGate (s : State) (g : Nat) : F64 := f2d (fieldF32 (groupRec s g) 4)

/-- Members as source numbers: references 1 to 12 of group 0, 0x40 + input of the others. -/
def groupMembers (s : State) (g : Nat) : List Nat :=
  let m := fieldU (groupRec s g) 8 8
  if !groupOn s g then []
  else if g = 0 then ((List.range 12).filter fun i => bitOf m i).map (· + 1)
  else ((List.range 64).filter fun i => bitOf m i).map (· + 0x40)

/-- The groups a source belongs to. -/
def groupsOf (s : State) (src : Nat) : List Nat := (List.range 8).filter (fun g => (groupMembers s g).contains src)

/-- Record of reference `r`, 1 to 12. -/
def refRec (s : State) (r : Nat) : List Byte := tabRec s 0x0202 48 (r - 1)
/-- KIND. -/
def refKind (s : State) (r : Nat) : Nat := byteAt (refRec s r) 1
/-- Input number IN0, IN1 or IN2. -/
def refIn (s : State) (r k : Nat) : Nat := byteAt (refRec s r) (4 + k)
/-- Common-cause group: 16 for GNSS and TIGHT (R263). -/
def refCause (s : State) (r : Nat) : Nat := if refKind s r = 1 ∨ refKind s r = 2 then 16 else byteAt (refRec s r) 2

/-- The lever arm: the configured one, or where it is NaN that of the descriptor of the slot carrying IN0 (R233, R252). -/
def refArm (s : State) (r : Nat) : V3 :=
  if isNan32 (fieldF32 (refRec s r) 8) then
    vecAt (padTo 256 (slotThen s (byteAt (finRec s (refIn s r 0)) 7)).desc) 56
  else vecAt (refRec s r) 8

/-- SIGMA_MIN. -/
def refSigmaMin (s : State) (r : Nat) : F64 := f2d (fieldF32 (refRec s r) 20)

/-! Voting (R265 to R267). -/

/-- A usable source of a vote: its number, common-cause group, value, standard deviation and age. -/
structure Src1 where
  id : Nat
  cause : Nat
  value : List F64
  sigma : F64
  age : Nat
  deriving DecidableEq, Repr

/-- Median of binary64 numbers: the mean of the two middle values for an even count. -/
def medianD (l : List F64) : F64 :=
  let m := l.mergeSort (fun a b => dle a b)
  let k := m.length / 2
  if m.length % 2 = 1 then m.getD k d0 else ddiv (dadd (m.getD (k - 1) d0) (m.getD k d0)) (dofInt 2)

/-- Component-wise median of values of `n` components. -/
def medianV (n : Nat) (vs : List (List F64)) : List F64 := (List.range n).map fun i => medianD (vs.map fun v => v.getD i d0)

/-- Distance: Euclidean for two components, the absolute difference for one (R265). -/
def distance (a b : List F64) : F64 :=
  match a, b with
  | [x], [y] => dabs (dsub x y)
  | x :: x' :: _, y :: y' :: _ => mSqrt (dadd (dmul (dsub x y) (dsub x y)) (dmul (dsub x' y') (dsub x' y')))
  | _, _ => d0

/-- Representatives in ascending order of their lowest source (R265, R267). -/
def representatives (n : Nat) (cs : List Src1) : List Rep :=
  let causes := (cs.map (fun c => if c.cause = 0 then 1000 + c.id else c.cause)).eraseDups
  let reps := causes.filterMap fun k =>
    let ms := cs.filter (fun c => (if c.cause = 0 then 1000 + c.id else c.cause) == k)
    match ms with
    | [] => none
    | m :: _ => some (⟨m.id, ms.map (·.id), medianV n (ms.map (·.value)), ms.foldl (fun a c => dmin a c.sigma) m.sigma,
        ms.foldl (fun a c => min a c.age) m.age⟩ : Rep)
  reps.mergeSort (fun a b => decide (a.low ≤ b.low))

/-- Members farther than GATE from their representative, with the distance (R265). -/
def memberOuts (gate : F64) (cs : List Src1) (r : Rep) : List (Nat × F64) :=
  (cs.filter (fun c => r.members.contains c.id)).filterMap fun c =>
    let d := distance c.value r.value
    if dle d gate then none else some (c.id, d)

/-- Inverse-variance mean and standard deviation (R267). -/
def fuse (n : Nat) (rs : List Rep) : List F64 × F64 :=
  let w (r : Rep) : F64 := ddiv d1 (dmul r.sigma r.sigma)
  let sw := rs.foldl (fun a r => dadd a (w r)) d0
  ((List.range n).map fun i => ddiv (rs.foldl (fun a r => dadd a (dmul (w r) (r.value.getD i d0))) d0) sw, ddiv d1 (mSqrt sw))

/-- Outcome of Table 08-8: included representatives and sources excluded with their distances, or a disagreement. -/
inductive Outcome8 where
  | none
  | stands (single : Bool) (used : List Rep) (out : List (Nat × F64))
  | disputed (reps : List Rep)
  deriving DecidableEq, Repr

/-- The vote of Table 08-8 on the usable sources. -/
def vote (n : Nat) (gate : F64) (cs : List Src1) : Outcome8 :=
  let rs := representatives n cs
  match rs with
  | [] => .none
  | [r] => .stands true [r] (memberOuts gate cs r)
  | [a, b] =>
    if dle (distance a.value b.value) gate then .stands false [a, b] (memberOuts gate cs a ++ memberOuts gate cs b)
    else .disputed [a, b]
  | _ =>
    let m := medianV n (rs.map (·.value))
    let ins := rs.filter (fun r => dle (distance r.value m) gate)
    let outs := rs.filter (fun r => !dle (distance r.value m) gate)
    if 2 ≤ ins.length then
      .stands false ins (ins.flatMap (memberOuts gate cs) ++ outs.flatMap fun r => r.members.map fun i => (i, distance r.value m))
    else .disputed rs

/-- Number of representatives. -/
def repCount (n : Nat) (cs : List Src1) : Nat := (representatives n cs).length

/-- Change group `g`. -/
def modGroup (g : Nat) (f : VGroup → VGroup) (s : State) : State :=
  { s with fus := { s.fus with groups := modAt s.fus.groups g f } }

/-- Group `g`. -/
def groupSt (s : State) (g : Nat) : VGroup := at_ vgroupReset s.fus.groups g

/-- Set a source's state (Table 08-9). -/
def setState (src st : Nat) (s : State) : State := { s with fus := { s.fus with states := keyPut src st s.fus.states } }

/-- A source's state in the latest period. -/
def sourceState (s : State) (src : Nat) : Nat := (keyGet src s.fus.states).getD 0

/-- Periods of a hold timer (R269). -/
def holdPeriods (s : State) (lost : Bool) : Nat :=
  (pNat s (if lost then 0x0214 else 0x0213) * 1000 + pNat s 0x0101 - 1) / max 1 (pNat s 0x0101)

/-- The hold timer of a group expires: the event and the request to stage 5, once (R269). -/
def fireHold (g : Nat) (s : State) : State :=
  let v := groupSt s g
  match v.hold with
  | some c =>
    if holdPeriods s v.lost ≤ c ∧ ¬ v.fired then
      let s1 := record (if v.lost then .refLostTimeout else .refDisputeTimeout) (be 1 g) (modGroup g (fun v => { v with fired := true }) s)
      if g ≤ 3 then { s1 with fus := { s1.fus with degrade := s1.fus.degrade ++ [g] } } else s1
    else s
  | none => s

/-- REF_HOLD_TIMEOUT (R269). -/
def execRefHoldTimeout (group : Fin 8) (s : State) : Result := .next (fireHold group.val s)

/-- A period of a group on prediction: the timer starts, or counts on (R269). -/
def holdOn (g : Nat) (lost : Bool) (s : State) : State :=
  let v := groupSt s g
  let s1 := if lost && !(v.hold.isSome && v.lost) then record .refLost (be 1 g) s else s
  fireHold g (modGroup g (fun v => { v with lost := lost, quality := if lost then 6 else 7, used := [],
                                            hold := some (match v.hold with
                                              | some c => c + 1 + s.sch.skip
                                              | none => 0) }) s1)

/-- A group fuses: value, standard deviation and QUALITY; the timer is cleared. -/
def fusedOn (g : Nat) (single : Bool) (used : List Rep) (s : State) : State :=
  let n := if g = 0 then 2 else 1
  let (v, sg) := match single, used with
    | true, [r] => (r.value, r.sigma)
    | _, _ => fuse n used
  modGroup g (fun x => { x with fused := some v, sigma := sg, quality := if single then 5 else 1, used := used, hold := none,
                                lost := false, fired := false }) s

/-- REF_EXCLUDED (Table 17-7): distance in millimetres. -/
def recordExcluded (g : Nat) (x : Nat × F64) (s : State) : State :=
  let mm := ((num64 (dmul x.2 (dofInt 1000))).rint?).getD 0
  record .refExcluded (be 1 g ++ be 1 x.1 ++ be 4 (satU 32 mm.toNat)) s

/-- A vote that stands: states and events of its sources. -/
def standOn (g : Nat) (single : Bool) (cs : List Src1) (used : List Rep) (out : List (Nat × F64)) (s : State) : State :=
  let s1 := out.foldl (fun s x => recordExcluded g x (setState x.1 4 s)) s
  let ins := (cs.map (·.id)).filter (fun i => !(out.map (·.1)).contains i)
  fusedOn g single used (ins.foldl (fun s i => setState i 3 s) s1)

/-- A dispute ends (R268): cause 0 SOURCE_SELECT, 1 a vote of the others that stands (log 39). -/
def resolveDispute (g cause : Nat) (s : State) : State :=
  record .refDisputeResolved (be 1 g ++ be 1 cause) (modGroup g (fun v => { v with dispute := [] }) s)

/-- A dispute is declared (R268): REF_DISPUTE carries the group and its disputants as a mask over the group's sources. -/
def declareDispute (g : Nat) (reps : List Rep) (s : State) : State :=
  let ms := reps.flatMap (·.members)
  let mask := (ms.map fun i => 2 ^ (if g = 0 then i - 1 else i - 0x40)).sum
  let s1 := record .refDispute (be 1 g ++ be 5 (satU 40 mask)) (modGroup g (fun v => { v with dispute := ms }) s)
  holdOn g false (ms.foldl (fun s i => setState i 5 s) s1)

/-- The vote of group `g` on its usable sources (R264 to R271). -/
def voteGroup (g : Nat) (usable : List Src1) (s0 : State) : State :=
  let n := if g = 0 then 2 else 1
  let gate := groupGate s0 g
  let members := groupMembers s0 g
  let desel := members.filter (fun i => s0.fus.deselected.contains i)
  let isUsable (i : Nat) : Bool := usable.any (fun c => c.id == i)
  let s := members.foldl (fun s i => setState i (if desel.contains i then 1 else 2) s) s0
  let v0 := groupSt s g
  let lapse := match v0.named with
    | some p => !isUsable p || desel.contains p
    | none => false
  let s := if lapse then modGroup g (fun v => { v with named := none, preferred := [] }) s else s
  let v := groupSt s g
  let cs := usable.filter (fun c => !desel.contains c.id)
  if v.named.isSome then
    let ps := cs.filter (fun c => v.preferred.contains c.id)
    let s1 := members.foldl (fun s i => if desel.contains i then s else setState i (if v.preferred.contains i then (if isUsable i then 6 else 2) else 7) s) s
    fusedOn g true ((representatives n ps).take 1) s1
  else if !v.dispute.isEmpty then
    let others := cs.filter (fun c => !v.dispute.contains c.id)
    let s1 := v.dispute.foldl (fun s i => setState i 5 s) s
    match decide (3 ≤ repCount n others), vote n gate others with
    | true, .stands single used out => standOn g single others used out (resolveDispute g 1 s1)
    | _, _ => holdOn g false s1
  else
    match vote n gate cs with
    | .none => holdOn g true s
    | .stands single used out => standOn g single cs used out s
    | .disputed reps => declareDispute g reps s

/-- The value a group hands on: fused, or its prediction (R249, R268). -/
def groupValue (s : State) (g : Nat) : List F64 :=
  let v := groupSt s g
  if v.quality = 1 ∨ v.quality = 5 then (v.fused).getD (groupPrediction s g) else groupPrediction s g

/-- The centre angles are unwrapped about: the fused value of the period before, or the prediction (R264). -/
def angleCentre (s : State) (g : Nat) : F64 :=
  let v := groupSt s g
  if v.quality = 1 ∨ v.quality = 5 then (v.fused.getD []).getD 0 d0 else (groupPrediction s g).getD 0 d0

/-- Inputs of role WIND_DIR vote as angles (R264). -/
def isAngleGroup (s : State) (g : Nat) : Bool :=
  decide (1 ≤ g ∧ g ≤ 3) || (groupMembers s g).any (fun i => finRole s (i - 0x40) == 11)

/-! Attitude (R248, R254). -/

/-- A heading of a BASELINE input (R254). -/
def baselineHeading (s : State) (i : Nat) (roll pitch : F64) : F64 :=
  let q := (finSig s i - 0x0240) / 8
  let a := antennaArm s (pairAnts q).1
  let b := antennaArm s (pairAnts q).2
  let c (k : Nat) : F64 := dsub (f2d (b.getD k 0)) (f2d (a.getD k 0))
  let v := rotY pitch (rotX roll ⟨c 0, c 1, c 2⟩)
  wrapFull (dsub (inValue s i) (mAtan2 v.y v.x))

/-- The baseline state behind an input is FIXED (R254). -/
def baselineFixed (s : State) (i : Nat) : Bool := (((before s (finSig s i + 2) s.sch.snap.toNat).map (fun v => valU32 v.value)).getD 0) == 2

/-- The value an input brings to its group: mounting angle subtracted, heading formed from a baseline (R250, R254). -/
def inputVote (s : State) (g i : Nat) (roll pitch : F64) : Option F64 :=
  if !inUsable s i then none
  else
    match finRole s i with
    | 1 => some (dsub (inValue s i) (finMount s i).yaw)
    | 2 => some (dsub (inValue s i) (finMount s i).roll)
    | 3 => some (dsub (inValue s i) (finMount s i).pitch)
    | 18 => if baselineFixed s i then some (baselineHeading s i roll pitch) else none
    | _ => if g ≤ 3 then none else some (inValue s i)

/-- The usable sources of a group of inputs. -/
def inputSources (s : State) (g : Nat) (roll pitch : F64) : List Src1 :=
  let c := angleCentre s g
  (groupMembers s g).filterMap fun m =>
    let i := m - 0x40
    (inputVote s g i roll pitch).map fun x =>
      (⟨m, 0, [if isAngleGroup s g then unwrapAbout c x else x], finSigma s i, inAge s i⟩ : Src1)

/-- A group of inputs votes, where it is enabled. -/
def voteInputs (g : Nat) (roll pitch : F64) (s : State) : State :=
  if groupOn s g then voteGroup g (inputSources s g roll pitch) s else s

/-- The attitude of the period so far. -/
def attitude (s : State) : Att :=
  ⟨(groupValue s 2).getD 0 d0, (groupValue s 3).getD 0 d0, (groupValue s 1).getD 0 d0⟩

/-! Projection (R252, R253, R262). -/

/-- The snapshot's publication of a signal that is no fusion input. -/
def snapSignal (s : State) (id : Nat) : Option SigVal := before s id s.sch.snap.toNat

/-- Age of a publication at the snapshot instant. -/
def ageOf (s : State) (v : SigVal) : Nat := (s.sch.snap - (v.valid.getD v.arr : Nat)).toNat

/-- A binary64 signal of the snapshot. -/
def snapD (s : State) (id : Nat) : F64 := ((snapSignal s id).map (fun v => valD ((sigType s id).getD 0) v.value)).getD d0

/-- A projected reference. -/
def projected (s : State) (r : Nat) (p : V3) (sigma : F64) (age : Nat) (att : Att) : RefOut :=
  let q := p.sub (att.rot (refArm s r))
  ⟨true, q.x, q.y, dmax (refSigmaMin s r) sigma, age⟩

/-- A reference of KIND GNSS (R252): the antenna's solution of the snapshot. -/
def refGnss (s : State) (r : Nat) (att : Att) : RefOut :=
  let b := 0x0200 + 16 * byteAt (refRec s r) 3
  match snapSignal s b with
  | some v =>
    if v.badBy s.sch.snap then refReset
    else projected s r (geodetic s (snapD s b) (snapD s (b + 1)) (snapD s (b + 2))) (snapD s (b + 3)) (ageOf s v) att
  | none => refReset

/-- A reference of KIND EXTERNAL_FIX (R252). -/
def refExternal (s : State) (r : Nat) (att : Att) : RefOut :=
  let a := refIn s r 0
  let b := refIn s r 1
  if inUsable s a && inUsable s b then
    projected s r (geodetic s (inValue s a) (inValue s b) (originH s)) (dmul (finSigma s a) (meridianRadius s))
      (min (inAge s a) (inAge s b)) att
  else refReset

/-- A reference of KIND TIGHT (R262): level A's point, without further projection. -/
def refTight (s : State) (r : Nat) : RefOut :=
  match snapSignal s 0x0260 with
  | some v => ⟨true, snapD s 0x0260, snapD s 0x0261, dmax (refSigmaMin s r) (snapD s 0x0262), ageOf s v⟩
  | none => refReset

/-- The taut wire's unit vector toward the anchor in the local frame, k, and the wire length; none where an input is not
usable or an angle exceeds 1.2 rad (R253). -/
def wire (s : State) (r : Nat) (att : Att) : Option (V3 × F64 × F64) :=
  let i := refIn s r 0
  let j := refIn s r 1
  let k := refIn s r 2
  let lim := dofRat 12 10
  if inUsable s i && inUsable s j && inUsable s k && dle (dabs (inValue s i)) lim && dle (dabs (inValue s j)) lim then
    let tx := mTan (inValue s i)
    let ty := mTan (inValue s j)
    let c := ddiv d1 (mSqrt (dadd (dadd (dmul tx tx) (dmul ty ty)) d1))
    some (att.rot ⟨dmul tx c, dmul ty c, c⟩, c, inValue s k)
  else none

/-- The anchor in use: configured, or learned (R253). -/
def anchorOf (s : State) (r : Nat) : Option V3 :=
  let b := refRec s r
  if isNan32 (fieldF32 b 24) || isNan32 (fieldF32 b 28) then
    (keyGet r s.fus.anchors).map fun a => ⟨a.getD 0 d0, a.getD 1 d0, f2d (fieldF32 b 32)⟩
  else some (vecAt b 24)

/-- A reference of KIND TAUT_WIRE (R253). -/
def refTaut (s : State) (r : Nat) (att : Att) : RefOut :=
  match wire s r att, anchorOf s r with
  | some (un, k, l), some a =>
    projected s r (a.sub (un.scale l)) (dmul (dmul l k) (finSigma s (refIn s r 0)))
      (min (inAge s (refIn s r 0)) (min (inAge s (refIn s r 1)) (inAge s (refIn s r 2)))) att
  | _, _ => refReset

/-- An anchor to be learned is learned while the physics observer is RUNNING with its prediction published (R253). -/
def learnAnchor (r : Nat) (att : Att) (s : State) : State :=
  match wire s r att with
  | some (un, _, l) =>
    if refKind s r == 3 && (anchorOf s r).isNone && s.obs.phys.running && s.obs.phys.pred.isSome then
      let p : V3 := ⟨predicted s 0, predicted s 1, d0⟩
      let a := (p.add (att.rot (refArm s r))).add (un.scale l)
      let mm (x : F64) : Int := ((num64 (dmul x (dofInt 1000))).rint?).getD 0
      record .anchorSet (be 1 r ++ be 2 (satS 16 ((mm a.x) / 1000)) ++ be 2 (satS 16 ((mm a.y) / 1000)))
        { s with fus := { s.fus with anchors := keyPut r [a.x, a.y] s.fus.anchors } }
    else s
  | none => s

/-- The latest frame of a head in the snapshot. -/
def headFrame (s : State) (h : Nat) : Option (Nat × List Byte) :=
  (at_ [] s.fus.heads h).find? (fun f => decide ((f.1 : Int) < s.sch.snap))

/-- Set the projected point of reference `r`. -/
def setRef (r : Nat) (x : RefOut) (s : State) : State := { s with fus := { s.fus with refs := modAt s.fus.refs (r - 1) (fun _ => x) } }

/-- Sub-step 3.3 for one reference. -/
def projectRef (att : Att) (s : State) (r : Nat) : State :=
  match refKind s r with
  | 1 => setRef r (refGnss s r att) s
  | 2 => setRef r (refTight s r) s
  | 3 => let s1 := learnAnchor r att s
         setRef r (refTaut s1 r att) s1
  | 5 => setRef r (refExternal s r att) s
  | _ => setRef r refReset s

/-- Sub-step 3.4: heads in ascending order; the state carries observations taken and associated so far. -/
def opticalRef (att : Att) (acc : Nat × Nat × State) (r : Nat) : Nat × Nat × State :=
  let s := acc.2.2
  let i := refIn s r 0
  if refKind s r ≠ 4 ∨ !inUsable s i then acc
  else
    match headFrame s (finHead s i) with
    | none => acc
    | some f =>
      let h : HeadPose := ⟨⟨predicted s 0, predicted s 1, d0⟩, att, finMount s i, refArm s r⟩
      let b := refRec s r
      let x := associateHead (finHead s i) h (f2d (fieldF32 b 36)) (f2d (fieldF32 b 40)) f (256 - acc.1) s
      let out := match x.1.fix with
        | some (n, e, sg) => (⟨true, n, e, dmax (refSigmaMin s r) sg, inAge s i⟩ : RefOut)
        | none => refReset
      (acc.1 + x.1.taken, acc.2.1 + x.1.associated, setRef r out x.2)

/-- The usable references as vote sources. -/
def refSources (s : State) : List Src1 :=
  (groupMembers s 0).filterMap fun r =>
    let x := at_ refReset s.fus.refs (r - 1)
    if x.usable && refKind s r != 0 then some ⟨r, refCause s r, [x.n, x.e], x.sigma, x.age⟩ else none

/-! Publication (sub-step 3.6). -/

/-- One vote group's fused signals. -/
def publishGroup (s : State) (g : Nat) : State :=
  let v := groupSt s g
  if !groupOn s g then s
  else
    let x := groupValue s g
    match g with
    | 0 => outPut 0x0102 (vF32 (d2f v.sigma)) v.quality (outPut 0x0101 (x.getD 1 d0) v.quality (outPut 0x0100 (x.getD 0 d0) v.quality s))
    | 1 => outPut 0x0103 (vF32 (d2f (wrapFull (x.getD 0 d0)))) v.quality s
    | 2 => outPut 0x0104 (vF32 (d2f (wrapSigned (x.getD 0 d0)))) v.quality s
    | 3 => outPut 0x0105 (vF32 (d2f (wrapSigned (x.getD 0 d0)))) v.quality s
    | _ => outPut (0x0110 + g) (vF32 (d2f (x.getD 0 d0))) v.quality s

/-- The inputs behind a reference. -/
def refInputs (s : State) (r : Nat) : List Nat :=
  match refKind s r with
  | 3 => [refIn s r 0, refIn s r 1, refIn s r 2]
  | 4 => [refIn s r 0]
  | 5 => [refIn s r 0, refIn s r 1]
  | _ => []

/-- One reference's state and projected signals; a reference without a value keeps its last projected signals. -/
def publishRef (s : State) (r : Nat) : State :=
  let st := if refKind s r = 0 then 0 else sourceState s r
  let slip := (refInputs s r).any (fun i => (trackOf s i).slip)
  let s1 := outPut (0x0120 + r) (vU32 (st + 16 * b2n slip)) 1 s
  let x := at_ refReset s.fus.refs (r - 1)
  let b := 0x0130 + 4 * (r - 1)
  if x.usable then outPut (b + 2) (vF32 (d2f x.sigma)) 1 (outPut (b + 1) x.e 1 (outPut b x.n 1 s1)) else s1

/-- Stage 3 (R248, Table 08-5); what made the recurrent observer LATE was of the period before (R295). -/
def stage3 (s0 : State) : State :=
  let s := { s0 with fus := { s0.fus with states := [], degrade := [] }, obs := { s0.obs with rnn := { s0.obs.rnn with late := false } } }
  let s := voteInputs 3 d0 d0 (voteInputs 2 d0 d0 s)
  let s := voteInputs 1 (attitude s).roll (attitude s).pitch s
  let att := attitude s
  let refs := (List.range 12).map (· + 1)
  let s := refs.foldl (projectRef att) s
  let byHead := refs.mergeSort (fun a b => decide (finHead s (refIn s a 0) ≤ finHead s (refIn s b 0)))
  let o := byHead.foldl (opticalRef att) (0, 0, s)
  let s := outPut 0x0181 (vU32 o.2.1) 1 (outPut 0x0180 (vU32 o.1) 1 o.2.2)
  let s := outPut 0x0182 (vU32 s.fus.dropped) 1 s
  let s := if groupOn s 0 then voteGroup 0 (refSources s) s else s
  let s := [4, 5, 6, 7].foldl (fun s g => voteInputs g d0 d0 s) s
  refs.foldl publishRef ((List.range 8).foldl publishGroup s)

/-! Host selection (R271). -/

/-- A source that SOURCE_SELECT may name. -/
def sourceKnown (s : State) (src : Nat) : Bool := !(groupsOf s src).isEmpty && (decide (12 < src) || refKind s src != 0)

/-- A source is a disputant of a group. -/
def disputes (s : State) (src : Nat) (g : Nat) : Bool := (groupSt s g).dispute.contains src

/-- A SOURCE_SELECT in one of its source's groups (R271): a preference of the group lapses; a dispute the source is in ends, with the source
preferred where it is selected. -/
def selectIn (src : Nat) (prefer : Bool) (s : State) (g : Nat) : State :=
  let v := groupSt s g
  let s1 := if v.named.isSome then modGroup g (fun v => { v with named := none, preferred := [] }) s else s
  if !disputes s src g then s1
  else if !prefer then resolveDispute g 0 s1
  else
    let cause := if src ≤ 12 then refCause s src else 0
    let same := if cause = 0 then [src] else v.dispute.filter (fun i => decide (i ≤ 12) && refCause s i == cause)
    modGroup g (fun v => { v with named := some src, preferred := same, hold := none, fired := false }) (resolveDispute g 0 s1)

/-- SOURCE_SELECT takes effect at its first snapshot (R270, R271). -/
def selectSource (src sel : Nat) (s : State) : State :=
  let gs := groupsOf s src
  let rest := s.fus.deselected.filter (· != src)
  if gs.isEmpty then s
  else if sel = 0 then
    gs.foldl (selectIn src false) { s with fus := { s.fus with deselected := rest ++ [src] } }
  else
    let s1 := gs.foldl (selectIn src (!s.fus.deselected.contains src)) { s with fus := { s.fus with deselected := rest } }
    if src ≤ 12 ∧ refKind s src = 3 then { s1 with fus := { s1.fus with anchors := keyDel src s1.fus.anchors } } else s1

/-- The period in hand has ended its stages 8 and 9, or none has started. -/
def periodEnded (s : State) : Bool := s.sch.stage == 0 || (s.sch.stage == 7 && s.sch.s9 && (s.sch.s8 || s.grp.role != 0))

/-- The state a SOURCE_SELECT imposes or, where it imposes none, the source's in the latest completed period (R271). -/
def selectReply (s : State) (src sel : Nat) : Nat :=
  if sel = 0 then 1
  else if (groupsOf s src).any (disputes s src) && !s.fus.deselected.contains src then 6
  else (keyGet src (if periodEnded s then s.fus.states else s.fus.doneStates)).getD 0

/-- A lock clears selections, preferences and learned anchors, and a group that it disables holds nothing of its votes (R249, R253, R271;
log 213). -/
def fusionLock (s : State) : State :=
  let off := (List.range 8).filter fun g => !groupOn s g
  let outsOf (g : Nat) : List Nat := match g with
    | 0 => [0x0100, 0x0101, 0x0102]
    | 1 => [0x0103]
    | 2 => [0x0104]
    | 3 => [0x0105]
    | _ => [0x0110 + g]
  { s with fus := { s.fus with deselected := [], anchors := [],
                               groups := s.fus.groups.mapIdx fun g v => if off.contains g then vgroupReset else { v with named := none, preferred := [] } },
           sig := { s.sig with outs := (off.flatMap outsOf).foldl (fun l id => keyDel id l) s.sig.outs } }

/-- Fusion stops: everything but the selections and anchors is cleared (R274). -/
def fusionStop (s : State) : State :=
  { s with fus := { fusReset with deselected := s.fus.deselected, anchors := s.fus.anchors } }

end Sys2Proof.Machine
end

