-- ==== Sys2Proof/Machine/Rnn.lean ====
section
/-! DEFINITION. The recurrent observer's arithmetic (R285 to R294): activation tables, features, gated layers and readout,
exact integers but for the conversions named, and the weight image. -/

namespace Sys2Proof.Machine

/-! Activation tables (R289). Fixed-point with 200 fraction bits; e^(1/32) by its series. -/

/-- 2^200. -/
def fixOne : Nat := 2 ^ 200

/-- Terms of the series of e^(1/32), from term `n` of value `t`. -/
def expSeries : Nat → Nat → Nat → Nat
  | 0, _, _ => 0
  | k + 1, n, t => t + expSeries k (n + 1) (t / (32 * (n + 1)))

/-- e^(1/32). -/
def expStep : Nat := expSeries 30 0 fixOne

/-- e^(j/32). -/
def expPow : Nat → Nat
  | 0 => fixOne
  | j + 1 => expPow j * expStep / fixOne

/-- round_half_even(logistic(j/32) · 16,384) for j from −256. -/
def sigEntry (j : Int) : Int :=
  let a := expPow j.natAbs
  (rneDiv (16384 * (if 0 ≤ j then a else fixOne)) (fixOne + a) : Nat)

/-- round_half_even(tanh(j/32) · 16,384). -/
def tanhEntry (j : Int) : Int :=
  let a := expPow (2 * j.natAbs)
  let v : Int := (rneDiv (16384 * (a - fixOne)) (a + fixOne) : Nat)
  if 0 ≤ j then v else -v

/-- Table 0x0380. -/
def sigTable : List Int := (List.range 513).map fun k => sigEntry ((k : Int) - 256)
/-- Table 0x0381. -/
def tanhTable : List Int := (List.range 513).map fun k => tanhEntry ((k : Int) - 256)

/-- floor((v + 2^(s−1)) / 2^s). -/
def rsh (v : Int) (s : Nat) : Int := (v + 2 ^ (s - 1)) / 2 ^ s

/-- Saturated to int16. -/
def sat16 (v : Int) : Int := max (-32768) (min v 32767)

/-- The activation lookup (R288), `tab k` being entry k. -/
def lut (tab : Nat → Int) (a : Int) : Int :=
  let t := max (-16384) (min (rsh a 12) 16383)
  let u := (t + 16384).toNat
  let k := u / 64
  tab k + rsh ((tab (k + 1) - tab k) * ((u % 64 : Nat) : Int)) 6

/-- SIG and TANH by entry. -/
def sigAt (k : Nat) : Int := sigEntry ((k : Int) - 256)
def tanhAt (k : Nat) : Int := tanhEntry ((k : Int) - 256)

/-! The weight image (R292, R293). -/

/-- The header's fields. -/
structure RnnHdr where
  layers : Nat
  width : Nat
  nIn : Nat
  nOut : Nat
  segments : Nat
  imageLen : Nat
  digest : List Byte
  deriving DecidableEq, Repr

/-- Read a header body; none where it is empty. -/
def rnnHdr (b : List Byte) : Option RnnHdr :=
  if b.isEmpty then none
  else some ⟨byteAt b 5, fieldU b 6 2, byteAt b 8, byteAt b 9, byteAt b 11, fieldU b 12 4, slice b 16 32⟩

/-- A gated layer's weights, row-major, and biases. -/
structure Layer where
  wz : List (List Int)
  wr : List (List Int)
  wn : List (List Int)
  uz : List (List Int)
  ur : List (List Int)
  un : List (List Int)
  bz : List Int
  br : List Int
  bi : List Int
  bh : List Int
  deriving DecidableEq, Repr

/-- A member's mask and readout. -/
structure Member where
  mask : List Byte
  wo : List (List Int)
  bo : List Int
  deriving DecidableEq, Repr

/-- `n` signed fields of `k` bytes from offset `o`. -/
def ints (img : List Byte) (o k n : Nat) : List Int := (records k (slice img o (k * n))).map fun b => toSigned (8 * k) (beNat b)

/-- A matrix of int16 of `r` rows of `c`. -/
def mat16 (img : List Byte) (o r c : Nat) : List (List Int) := (List.range r).map fun i => ints img (o + 2 * i * c) 2 c

/-- Bytes of a layer of `i` inputs and width `w`. -/
def layerBytes (i w : Nat) : Nat := 6 * w * i + 6 * w * w + 16 * w

/-- Read a layer at offset `o`. -/
def readLayer (img : List Byte) (o i w : Nat) : Layer :=
  let u := o + 6 * w * i
  let b := u + 6 * w * w
  { wz := mat16 img o w i, wr := mat16 img (o + 2 * w * i) w i, wn := mat16 img (o + 4 * w * i) w i,
    uz := mat16 img u w w, ur := mat16 img (u + 2 * w * w) w w, un := mat16 img (u + 4 * w * w) w w,
    bz := ints img b 4 w, br := ints img (b + 4 * w) 4 w, bi := ints img (b + 8 * w) 4 w, bh := ints img (b + 12 * w) 4 w }

/-- Offset of layer `l` (from 0). -/
def layerAt (h : RnnHdr) (l : Nat) : Nat := if l = 0 then 0 else layerBytes h.nIn h.width + (l - 1) * layerBytes h.width h.width

/-- IMAGE_LEN of R293. -/
def imageLen (h : RnnHdr) : Nat := layerAt h h.layers + 16 * (16 + 2 * h.nOut * h.width + 4 * h.nOut)

/-- The image's layers. -/
def imageLayers (h : RnnHdr) (img : List Byte) : List Layer :=
  (List.range h.layers).map fun l => readLayer img (layerAt h l) (if l = 0 then h.nIn else h.width) h.width

/-- Member `m`. -/
def imageMember (h : RnnHdr) (img : List Byte) (m : Nat) : Member :=
  let o := layerAt h h.layers + m * (16 + 2 * h.nOut * h.width + 4 * h.nOut)
  ⟨slice img o 16, mat16 img (o + 16) h.nOut h.width, ints img (o + 16 + 2 * h.nOut * h.width) 4 h.nOut⟩

/-- The segments joined. -/
def imageOf (h : RnnHdr) (segs : Nat → List Byte) : List Byte := (List.range h.segments).flatMap fun k => segs k

/-! The layers (R288). -/

/-- Σ of products, index ascending. -/
def dotI (a b : List Int) : Int := (a.zipWith (· * ·) b).foldl (· + ·) 0

/-- One unit's new state. -/
def unitNext (l : Layer) (x h : List Int) (i : Nat) : Int :=
  let az := at_ 0 l.bz i + dotI (at_ [] l.wz i) x + dotI (at_ [] l.uz i) h
  let ar := at_ 0 l.br i + dotI (at_ [] l.wr i) x + dotI (at_ [] l.ur i) h
  let ax := at_ 0 l.bi i + dotI (at_ [] l.wn i) x
  let ah := at_ 0 l.bh i + dotI (at_ [] l.un i) h
  let z := lut sigAt az
  let r := lut sigAt ar
  let nn := rsh (lut tanhAt (ax + rsh (ah * r) 14)) 3
  sat16 (nn + rsh (z * (at_ 0 h i - nn)) 14)

/-- One layer. -/
def layerNext (l : Layer) (x h : List Int) : List Int := (List.range l.bz.length).map (unitNext l x h)

/-- All layers of a member: each takes the state of the one below. -/
def layersNext : List Layer → List Int → List (List Int) → List (List Int)
  | l :: ls, x, h :: hs =>
    let y := layerNext l x h
    y :: layersNext ls y hs
  | _, _, _ => []

/-- A member's features: those its mask clears are 0. -/
def masked (mask : List Byte) (x : List Int) : List Int := x.mapIdx fun j v => if bitOf (byteAt mask (j / 8)) (j % 8) then v else 0

/-! Features (R286, R287). -/

/-- A feature's source: value, age in nanoseconds, and whether it is usable. -/
def featureSource (s : State) (id : Nat) : F64 × Nat × Bool :=
  match (List.range 64).find? (fun i => finRole s i != 0 && finSig s i == id) with
  | some i => (inValue s i, inAge s i, inUsable s i)
  | none =>
    match outGet s id with
    | some v => (valD ((sigType s id).getD 0) v.value, 0, v.q == 1 || v.q == 4 || v.q == 5)
    | none => (d0, 0, false)

/-- round_half_even saturated to int16; an infinity saturates. -/
def satRound (x : Num) : Int :=
  match x with
  | .nan => 0
  | .inf neg => if neg then -32768 else 32767
  | x => sat16 ((x.rint?).getD 0)

/-- One output's record: quantity, INCREMENT, OUT_SCALE, OUT_MEAN. -/
structure RnnOut where
  quantity : Nat
  increment : Bool
  scale : F64
  mean : F64
  deriving DecidableEq, Repr

/-- Read an RNN_OUTPUTS entry. -/
def rnnOut (e : List Byte) : RnnOut := ⟨byteAt e 0, byteAt e 1 == 1, f2d (fieldF32 e 4), f2d (fieldF32 e 8)⟩

/-- The outputs in force. -/
def rnnOuts (s : State) : List RnnOut := (records 16 (tab s 0x036B)).map rnnOut

/-- The mean an INCREMENT output starts from after a hidden-state reset (R291). -/
def firstMean (s : State) (o : RnnOut) : F64 :=
  match o.quantity with
  | 0 => (groupValue s 0).getD 0 d0
  | 1 => (groupValue s 0).getD 1 d0
  | 2 => (groupValue s 1).getD 0 d0
  | _ => d0

/-- ȳ(n − 1) of output `k`: the mean of the period before; after a hidden-state reset what an INCREMENT output starts from, and none of an ABSOLUTE
one (R291, log 41). -/
def prevMean (s : State) (k : Nat) : Option F64 :=
  match at_ none s.obs.rnn.mean k, (rnnOuts s)[k]? with
  | some v, _ => some (f2d v)
  | none, some o => if o.increment then some (firstMean s o) else none
  | none, none => none

/-- A feature's conversion to Q4.11 (R287). An INNOVATION whose output has no mean yet is not usable (log 41). -/
def feature (s : State) (e : List Byte) : Int :=
  let src := featureSource s (fieldU e 2 2)
  let mean := prevMean s (byteAt e 12)
  let kind := byteAt e 0
  if !src.2.2 || (kind == 3 && mean.isNone) then 0
  else if kind = 2 then 2048
  else
    let v := match kind with
      | 1 => pack64 (Num.ofRat src.2.1 (10 ^ 9))
      | 3 => dsub src.1 (mean.getD d0)
      | _ => src.1
    let d := dsub v (f2d (fieldF32 e 4))
    let d := if bitOf (byteAt e 1) 0 then wrapSigned d else d
    satRound (num64 (dmul (dmul d (f2d (fieldF32 e 8))) (dofInt 2048)))

/-- The features of the period. -/
def features (s : State) : List Int := (records 16 (tab s 0x036A)).map (feature s)

/-! Readout (R290, R291). -/

/-- A member's value for an output, `prev` the ensemble mean of the period before. -/
def memberValue (o : RnnOut) (prev : F64) (acc : Int) : F64 :=
  let v := ddiv (pack64 (Num.ofDyadic acc (-23))) o.scale
  dadd v (if o.increment then prev else o.mean)

/-- Ensemble mean and spread of an output (R290). -/
def ensemble (o : RnnOut) (ys : List F64) : F32 × F32 :=
  let y0 := ys.getD 0 d0
  let ys := if o.quantity = 2 then ys.map fun y => dadd y0 (wrapSigned (dsub y y0)) else ys
  let m := ddiv (ys.foldl dadd d0) (dofInt 16)
  let v := ddiv (ys.foldl (fun a y => dadd a (dmul (dsub y m) (dsub y m))) d0) (dofInt 15)
  (if o.quantity = 2 then wrapFull32 m else d2f m, d2f (dsqrt v))

/-- Steps 4.1 to 4.3 of the recurrent observer: hidden states, means and spreads. -/
def rnnStep (h : RnnHdr) (s : State) : State :=
  let img := imageOf h (fun k => tab s (0x0362 + k))
  let ls := imageLayers h img
  let x := features s
  let outs := rnnOuts s
  let blank := List.replicate h.layers (List.replicate h.width 0)
  let ms := (List.range 16).map (imageMember h img)
  let hid := ms.mapIdx fun m mem => layersNext ls (masked mem.mask x) (at_ blank s.obs.rnn.hidden m)
  let top (m : Nat) : List Int := (at_ blank hid m).getLastD []
  let stats := outs.mapIdx fun k o =>
    ensemble o (ms.mapIdx fun m mem => memberValue o ((prevMean s k).getD d0) (at_ 0 mem.bo k + dotI (at_ [] mem.wo k) (top m)))
  { s with obs := { s.obs with rnn := { s.obs.rnn with hidden := hid, mean := stats.map (fun p => some p.1), spread := stats.map (·.2),
                                                       since := s.obs.rnn.since + 1 } } }

/-- Every hidden state zero, WARMUP entered; DISABLED without an image (R294, R295). -/
def rnnRestart (s : State) : State :=
  let st := if (tab s 0x0361).isEmpty then 0 else 1
  { s with obs := { s.obs with rnn := { rnnReset with state := st } } }

/-- WARMUP ends once the reset lies RNN_WARMUP periods back; `since` counts the periods computed since (R295). -/
def endWarmup (s : State) : State :=
  if s.obs.rnn.state = 1 ∧ pNat s 0x0343 ≤ s.obs.rnn.since then
    { s with obs := { s.obs with rnn := { s.obs.rnn with state := 2 } } }
  else s

/-- RNN_WARMUP_END (R295): before stage 4 of a period. -/
def execRnnWarmupEnd (s : State) : Result := .next (if s.sch.stage = 2 ∨ s.sch.stage = 3 then endWarmup s else s)

/-- The engine's memory parity or self-test has failed (R295): FAULT until the next CONFIG_LOCK or a reset. -/
def rnnFail (s : State) : State :=
  if s.obs.rnn.state = 4 then s else record .rnnFault [] { s with obs := { s.obs with rnn := { s.obs.rnn with state := 4 } } }

/-- RNN_FAULT (R295). -/
def execRnnFault (s : State) : Result := .next (if awake s then rnnFail s else s)

/-- RNN_WAIT_EXPIRY (R299): under BOUNDED, within stage 4, the recurrent observer is LATE. -/
def execRnnWaitExpiry (lateUs : BitVec 32) (s : State) : Result :=
  let r := s.obs.rnn
  if !isDet s && s.sch.stage == 3 && (r.state == 1 || r.state == 2) && !r.late then
    .next (record .rnnLate (be 4 lateUs.toNat) { s with obs := { s.obs with rnn := { r with late := true } } })
  else .next s

/-! Table and lock checks (R286, R291 to R294). -/

/-- Step 2 of TABLE_WRITE for 0x0361 (Table 09-4). -/
def rnnHeaderStatus (b : List Byte) : Nat :=
  if b.isEmpty then 0
  else if b.length ≠ 64 then stInconsistent
  else if fieldU b 0 4 = 0x564B524E ∧ byteAt b 4 = 1 ∧ 1 ≤ byteAt b 5 ∧ byteAt b 5 ≤ 3 ∧ 16 ≤ fieldU b 6 2 ∧ fieldU b 6 2 ≤ 256 ∧
      fieldU b 6 2 % 16 = 0 ∧ 1 ≤ byteAt b 8 ∧ byteAt b 8 ≤ 128 ∧ 1 ≤ byteAt b 9 ∧ byteAt b 9 ≤ 16 ∧ byteAt b 10 = 16 ∧
      1 ≤ byteAt b 11 ∧ byteAt b 11 ≤ 8 ∧ allZero (slice b 56 8) then 0
  else stOutOfRange

/-- Step 2 of TABLE_WRITE for 0x036A (Table 09-3). -/
def rnnFeatureStatus (b : List Byte) : Nat :=
  let ok (e : List Byte) : Bool :=
    decide (byteAt e 0 ≤ 3 ∧ byteAt e 1 ≤ 1 ∧ byteAt e 12 ≤ 15) && (byteAt e 0 == 3 || byteAt e 12 == 0) && allZero (slice e 13 3) &&
      ffinite (fieldF32 e 4) && ffinite (fieldF32 e 8) && fabs (fieldF32 e 8) != 0#32
  if b.length % 16 ≠ 0 ∨ 128 < b.length / 16 then stInconsistent else if (records 16 b).all ok then 0 else stOutOfRange

/-- Step 2 of TABLE_WRITE for 0x036B (R291). -/
def rnnOutputStatus (b : List Byte) : Nat :=
  let ok (e : List Byte) : Bool :=
    decide (byteAt e 0 ≤ 8 ∧ byteAt e 1 ≤ 1) && allZero (slice e 2 2) && allZero (slice e 12 4) && ffinite (fieldF32 e 4) &&
      ffinite (fieldF32 e 8) && fabs (fieldF32 e 4) != 0#32
  if b.length % 16 ≠ 0 ∨ 16 < b.length / 16 then stInconsistent else if (records 16 b).all ok then 0 else stOutOfRange

/-- CONFIG_LOCK's tests of the recurrent observer (R286, R291, R294), on the staged tables `t`, the staged AUTHORITY and
the signals of used fusion inputs. -/
def rnnLockOk (t : Nat → List Byte) (authority : Nat) (inputs : List Nat) : Bool :=
  let es := records 16 (t 0x036A)
  let src (e : List Byte) : Bool :=
    let id := fieldU e 2 2
    (inputs.contains id && !decide (0x0300 ≤ id ∧ id ≤ 0x03FF)) || decide ((0x0100 ≤ id ∧ id ≤ 0x01FF) ∨ (0x0400 ≤ id ∧ id ≤ 0x04FF))
  es.all src && distinct ((records 16 (t 0x036B)).map (fun e => byteAt e 0)) &&
    match rnnHdr (t 0x0361) with
    | none => authority == 0
    | some h =>
      let img := imageOf h (fun k => t (0x0362 + k))
      rnnHeaderStatus (t 0x0361) == 0 && img.length == h.imageLen && h.imageLen == imageLen h && sha256 img == h.digest &&
        es.length == h.nIn && (records 16 (t 0x036B)).length == h.nOut && es.all (fun e => decide (byteAt e 12 < h.nOut))

end Sys2Proof.Machine
end

