-- ==== Sys2Proof/Machine/Observers.lean ====
section
/-! DEFINITION. Stage 4 (R275 to R303): the physics observer, the cross-check and the authoritative estimates. Binary32 in
the order written; sines and cosines are the marver's, rounded to binary32. -/

namespace Sys2Proof.Machine

/-! Binary32 helpers. -/

/-- The marver's sine and cosine rounded to binary32 (R278). -/
def fsin (a : F32) : F32 := d2f (Config.mSin (f2d a))
def fcos (a : F32) : F32 := d2f (Config.mCos (f2d a))
/-- The marver's arctangent rounded to binary32. -/
def fatan2 (y x : F32) : F32 := d2f (Config.mAtan2 (f2d y) (f2d x))

/-- π and 2π in binary32. -/
def fPi : F32 := d2f dPi
def fTwoPi : F32 := d2f dTwoPi

/-- Rounded down to an integer. -/
def ffloorI (a : F32) : Int := ((num32 a).floor?).getD 0

/-- Wrapped into [−π, π). -/
def fwrap (a : F32) : F32 := fsub a (fmul (fofInt (ffloorI (fdiv (fadd a fPi) fTwoPi))) fTwoPi)

/-- Wrapped into [0, 2π); a result that rounds to 2π is 0. -/
def fwrapFull (a : F32) : F32 :=
  let r := fsub a (fmul (fofInt (ffloorI (fdiv a fTwoPi))) fTwoPi)
  if fle fTwoPi r then 0 else r

/-- Matrices by rows. -/
abbrev Mat := List (List F32)

/-- Element (i, j). -/
def mAt (m : Mat) (i j : Nat) : F32 := at_ 0 (at_ [] m i) j

/-- An r × c matrix by its elements. -/
def mOf (r c : Nat) (f : Nat → Nat → F32) : Mat := (List.range r).map fun i => (List.range c).map fun j => f i j

/-- Σ of products, index ascending. -/
def fdot (a b : List F32) : F32 := (a.zipWith fmul b).foldl fadd 0

/-- Transpose of an r × c matrix. -/
def mT (r c : Nat) (m : Mat) : Mat := mOf c r fun i j => mAt m j i

/-- Product of an r × k and a k × c matrix, row by row, inner index ascending (R278). -/
def mMul (r k c : Nat) (a b : Mat) : Mat :=
  let bt := mT k c b
  mOf r c fun i j => fdot (at_ [] a i) (at_ [] bt j)

/-- Element-wise sum of r × c matrices. -/
def mAdd (r c : Nat) (a b : Mat) : Mat := mOf r c fun i j => fadd (mAt a i j) (mAt b i j)

/-- Element-wise difference. -/
def mSub (r c : Nat) (a b : Mat) : Mat := mOf r c fun i j => fsub (mAt a i j) (mAt b i j)

/-- Multiple. -/
def mScale (r c : Nat) (k : F32) (a : Mat) : Mat := mOf r c fun i j => fmul k (mAt a i j)

/-- Identity. -/
def mId (n : Nat) : Mat := mOf n n fun i j => if i = j then f1 else f0

/-- (P + Pᵀ) / 2. -/
def mSym (n : Nat) (p : Mat) : Mat := mOf n n fun i j => fdiv (fadd (mAt p i j) (mAt p j i)) (fofInt 2)

/-- A flat list as rows of `n`. -/
def rowsOf (n : Nat) (l : List F32) : Mat := (List.range (l.length / n)).map fun i => (l.drop (i * n)).take n

/-! The model (Table 09-2, R277). -/

/-- OBS_MODEL's fields. -/
structure ObsModel where
  mass : Mat
  damp : Mat
  biasT : List F32
  w0 : List F32
  zeta : List F32
  qNu : List F32
  qB : List F32
  qWave : List F32
  p0 : List F32
  ageQ : List F32
  ageMax : Nat
  rejectNis : F32
  reinit : Nat
  deriving DecidableEq, Repr

/-- `n` binary32 fields from an offset. -/
def fields32 (b : List Byte) (off n : Nat) : List F32 := (List.range n).map fun i => fieldF32 b (off + 4 * i)

/-- Read OBS_MODEL. -/
def readModel (b : List Byte) : ObsModel :=
  { mass := rowsOf 3 (fields32 b 0 9), damp := rowsOf 3 (fields32 b 36 9), biasT := fields32 b 72 3, w0 := fields32 b 84 3,
    zeta := fields32 b 96 3, qNu := fields32 b 108 3, qB := fields32 b 120 3, qWave := fields32 b 132 3, p0 := fields32 b 144 15,
    ageQ := fields32 b 204 3, ageMax := fieldU b 216 4, rejectNis := fieldF32 b 220, reinit := fieldU b 224 4 }

/-- The model in force; none while the body is empty. -/
def obsModel (s : State) : Option ObsModel := if (tab s 0x0360).isEmpty then none else some (readModel (tab s 0x0360))

/-- Lower Cholesky factor of a 3 × 3 matrix (log 42). -/
def chol3 (m : Mat) : Mat :=
  let l00 := fsqrt (mAt m 0 0)
  let l10 := fdiv (mAt m 1 0) l00
  let l20 := fdiv (mAt m 2 0) l00
  let l11 := fsqrt (fsub (mAt m 1 1) (fmul l10 l10))
  let l21 := fdiv (fsub (mAt m 2 1) (fmul l20 l10)) l11
  let l22 := fsqrt (fsub (fsub (mAt m 2 2) (fmul l20 l20)) (fmul l21 l21))
  [[l00, 0, 0], [l10, l11, 0], [l20, l21, l22]]

/-- M⁻¹ v by the Cholesky factor (log 42). -/
def massSolve (m : Mat) (v : List F32) : List F32 :=
  let l := chol3 m
  let y0 := fdiv (at_ 0 v 0) (mAt l 0 0)
  let y1 := fdiv (fsub (at_ 0 v 1) (fmul (mAt l 1 0) y0)) (mAt l 1 1)
  let y2 := fdiv (fsub (fsub (at_ 0 v 2) (fmul (mAt l 2 0) y0)) (fmul (mAt l 2 1) y1)) (mAt l 2 2)
  let x2 := fdiv y2 (mAt l 2 2)
  let x1 := fdiv (fsub y1 (fmul (mAt l 2 1) x2)) (mAt l 1 1)
  let x0 := fdiv (fsub (fsub y0 (fmul (mAt l 1 0) x1)) (fmul (mAt l 2 0) x2)) (mAt l 0 0)
  [x0, x1, x2]

/-- The right-hand side a(x) of R277. -/
def obsRhs (m : ObsModel) (tau x : List F32) : List F32 :=
  let g (i : Nat) : F32 := at_ 0 x i
  let c := fcos (g 2)
  let sn := fsin (g 2)
  let dv := m.damp.map fun r => fdot r [g 3, g 4, g 5]
  let rb := [fadd (fmul c (g 6)) (fmul sn (g 7)), fadd (fmul (fneg sn) (g 6)) (fmul c (g 7)), g 8]
  let nu := massSolve m.mass ((List.range 3).map fun i => fadd (fadd (fneg (at_ 0 dv i)) (at_ 0 tau i)) (at_ 0 rb i))
  let wave (k : Nat) : List F32 :=
    let w := at_ 0 m.w0 k
    let z := at_ 0 m.zeta k
    [g (10 + 2 * k), fsub (fmul (fneg (fmul w w)) (g (9 + 2 * k))) (fmul (fmul (fmul (fofInt 2) z) w) (g (10 + 2 * k)))]
  [fsub (fmul c (g 3)) (fmul sn (g 4)), fadd (fmul sn (g 3)) (fmul c (g 4)), g 5] ++ nu ++
    (List.range 3).map (fun i => fdiv (fneg (g (6 + i))) (at_ 0 m.biasT i)) ++ wave 0 ++ wave 1 ++ wave 2

/-- Columns of M⁻¹ times a 3-row matrix given by columns. -/
def massCols (m : ObsModel) (cols : List (List F32)) : List (List F32) := cols.map (massSolve m.mass)

/-- The Jacobian of a(x), analytic. -/
def obsJac (m : ObsModel) (x : List F32) : Mat :=
  let g (i : Nat) : F32 := at_ 0 x i
  let c := fcos (g 2)
  let sn := fsin (g 2)
  let dPsi := massSolve m.mass [fadd (fmul (fneg sn) (g 6)) (fmul c (g 7)), fsub (fmul (fneg c) (g 6)) (fmul sn (g 7)), 0]
  let dNu := massCols m ((List.range 3).map fun j => (List.range 3).map fun i => fneg (mAt m.damp i j))
  let dB := massCols m [[c, fneg sn, 0], [sn, c, 0], [0, 0, f1]]
  let nuRow (i : Nat) : List F32 :=
    [0, 0, at_ 0 dPsi i] ++ (dNu.map fun col => at_ 0 col i) ++ (dB.map fun col => at_ 0 col i) ++ List.replicate 6 0
  let row (es : List (Nat × F32)) : List F32 := (List.range 15).map fun j => (keyGet j es).getD 0
  let wave (k : Nat) : Mat :=
    let w := at_ 0 m.w0 k
    [row [(10 + 2 * k, f1)],
      row [(9 + 2 * k, fneg (fmul w w)), (10 + 2 * k, fneg (fmul (fmul (fofInt 2) (at_ 0 m.zeta k)) w))]]
  [row [(2, fsub (fmul (fneg sn) (g 3)) (fmul c (g 4))), (3, c), (4, fneg sn)],
    row [(2, fsub (fmul c (g 3)) (fmul sn (g 4))), (3, sn), (4, c)], row [(5, f1)], nuRow 0, nuRow 1, nuRow 2,
    row [(6, fdiv (fneg f1) (at_ 0 m.biasT 0))], row [(7, fdiv (fneg f1) (at_ 0 m.biasT 1))],
    row [(8, fdiv (fneg f1) (at_ 0 m.biasT 2))]] ++ wave 0 ++ wave 1 ++ wave 2

/-- The diagonal of qc (R279). -/
def qcDiag (m : ObsModel) : List F32 :=
  [0, 0, 0] ++ m.qNu ++ m.qB ++ [0, at_ 0 m.qWave 0, 0, at_ 0 m.qWave 1, 0, at_ 0 m.qWave 2]

/-- One Euler sub-step of length h (R278). -/
def eulerStep (m : ObsModel) (tau : List F32) (h : F32) (a : List F32 × Mat) : List F32 × Mat :=
  let f := obsJac m a.1
  let x := a.1.zipWith (fun u v => fadd u (fmul h v)) (obsRhs m tau a.1)
  let fm := mAdd 15 15 (mId 15) (mScale 15 15 h f)
  let q := qcDiag m
  let p := mMul 15 15 15 (mMul 15 15 15 fm a.2) (mT 15 15 fm)
  (x, mSym 15 (mOf 15 15 fun i j => if i = j then fadd (mAt p i j) (fmul h (at_ 0 q i)) else fadd (mAt p i j) 0))

/-- Propagation over dt: four sub-steps, then the heading wrapped (R278). -/
def propagate (m : ObsModel) (tau : List F32) (dt : F32) (a : List F32 × Mat) : List F32 × Mat :=
  let h := fdiv dt (fofInt 4)
  let b := (List.range 4).foldl (fun a _ => eulerStep m tau h a) a
  (b.1.mapIdx fun i v => if i = 2 then fwrapFull v else v, b.2)

/-! Measurements (R280, R281). -/

/-- A measurement: kind (0 position, 1 heading, 2 yaw rate), values, variance and age. -/
structure Meas where
  kind : Nat
  y : List F32
  var : F32
  age : Nat
  deriving DecidableEq, Repr

/-- State elements summed in each element of h(x), by kind. -/
def measIdx (kind : Nat) : List (List Nat) :=
  match kind with
  | 0 => [[0, 10], [1, 12]]
  | 1 => [[2, 14]]
  | _ => [[5]]

/-- Σ of chosen elements, in the order given. -/
def pick (is : List Nat) (v : List F32) : F32 := is.foldl (fun a i => fadd a (at_ 0 v i)) 0

/-- Inverse of a 1 × 1 or 2 × 2 matrix. -/
def invSmall (n : Nat) (s : Mat) : Mat :=
  if n = 1 then [[fdiv f1 (mAt s 0 0)]]
  else
    let d := fsub (fmul (mAt s 0 0) (mAt s 1 1)) (fmul (mAt s 0 1) (mAt s 1 0))
    [[fdiv (mAt s 1 1) d, fdiv (fneg (mAt s 0 1)) d], [fdiv (fneg (mAt s 1 0)) d, fdiv (mAt s 0 0) d]]

/-- What became of a measurement. -/
inductive MeasRes where
  | applied (x : List F32) (p : Mat)
  | rejected (nis : F32)
  | skipped
  deriving DecidableEq, Repr

/-- R281. -/
def applyMeas (m : ObsModel) (tau : List F32) (z : Meas) (x : List F32) (p : Mat) : MeasRes :=
  let alpha := fofRat z.age (10 ^ 9)
  if flt (fofInt m.ageMax) (fmul alpha (fofInt 1000)) then .skipped
  else
    let idx := measIdx z.kind
    let n := idx.length
    let a := obsRhs m tau x
    let jac := obsJac m x
    let yh := idx.map fun is => fsub (pick is x) (fmul alpha (pick is a))
    let hm : Mat := idx.map fun is => (List.range 15).map fun j =>
      fsub (if is.contains j then f1 else f0) (fmul alpha (is.foldl (fun b i => fadd b (mAt jac i j)) 0))
    let rm := fadd z.var (fmul alpha (at_ 0 m.ageQ z.kind))
    let ph := mMul 15 15 n p (mT n 15 hm)
    let sm0 := mMul n 15 n (mMul n 15 15 hm p) (mT n 15 hm)
    let sm := mOf n n fun i j => fadd (mAt sm0 i j) (if i = j then rm else f0)
    let e := (z.y.zipWith fsub yh).map fun d => if z.kind = 1 then fwrap d else d
    let si := invSmall n sm
    let nis := fdot e ((List.range n).map fun i => fdot (at_ [] si i) e)
    if flt (fmul m.rejectNis (fofInt n)) nis then .rejected nis
    else
      let k := mMul 15 n n ph si
      let x' := (List.range 15).map fun i => fadd (at_ 0 x i) (fdot (at_ [] k i) e)
      let ikh := mSub 15 15 (mId 15) (mMul 15 n 15 k hm)
      let p1 := mMul 15 15 15 (mMul 15 15 15 ikh p) (mT 15 15 ikh)
      let kk := mMul 15 n 15 (mScale 15 n rm k) (mT 15 n k)
      .applied x' (mSym 15 (mAdd 15 15 p1 kk))

/-- The period's measurements in the order of R280. -/
def measurements (s : State) : List Meas :=
  let reps (g : Nat) : List Rep := if (groupSt s g).quality = 1 ∨ (groupSt s g).quality = 5 then (groupSt s g).used else []
  let sq (x : F64) : F32 := fmul (d2f x) (d2f x)
  (reps 1).map (fun r => (⟨1, r.value.map d2f, sq r.sigma, r.age⟩ : Meas)) ++
  ((List.range 64).filter (fun i => finRole s i == 6 && inUsable s i)).map (fun i =>
    (⟨2, [fmul (d2f (inValue s i)) (fmul (fcos (d2f (finMount s i).roll)) (fcos (d2f (finMount s i).pitch)))], sq (finSigma s i), inAge s i⟩ : Meas)) ++
  (reps 0).map (fun r => (⟨0, r.value.map d2f, sq r.sigma, r.age⟩ : Meas))

/-- Change the physics observer. -/
def modPhys (f : PhysState → PhysState) (s : State) : State := { s with obs := { s.obs with phys := f s.obs.phys } }

/-- One measurement update on the state. -/
def updateMeas (m : ObsModel) (tau : List F32) (s : State) (z : Meas) : State :=
  let p := s.obs.phys
  match applyMeas m tau z p.x (rowsOf 15 p.p) with
  | .applied x q =>
    modPhys (fun p => { p with x := x, p := q.flatten, posDone := p.posDone || z.kind == 0, hdgDone := p.hdgDone || z.kind == 1 }) s
  | .rejected nis =>
    record .obsReject (be 1 z.kind ++ be 1 0 ++ be 4 nis.toNat) (modPhys (fun p => { p with rejected := min (p.rejected + 1) (2 ^ 32 - 1) }) s)
  | .skipped => modPhys (fun p => { p with rejected := min (p.rejected + 1) (2 ^ 32 - 1), posAged := p.posAged || z.kind == 0,
                                           hdgAged := p.hdgAged || z.kind == 1 }) s

/-! Running (R278, R282, R283). -/

/-- A binary32 signal of the stages, zero before its first publication. -/
def outF32 (s : State) (id : Nat) : F32 := ((outGet s id).map (fun v => valF32 v.value)).getD 0

/-- τ of R277: achieved thrust plus modelled wind force of the latest period whose stage 7 has completed. -/
def obsTau (s : State) : List F32 := (List.range 3).map fun i => fadd (outF32 s (0x0443 + i)) (outF32 s (0x0408 + i))

/-- An interval in nanoseconds as binary32 seconds. -/
def secs32 (ns : Nat) : F32 := fofRat ns (10 ^ 9)

/-- A vote group fuses this period (QUALITY GOOD or SINGLE). -/
def groupFuses (s : State) (g : Nat) : Bool := (groupSt s g).quality == 1 || (groupSt s g).quality == 5

/-- The initial state and covariance (R282). -/
def physInit (m : ObsModel) (s : State) : State :=
  let v := groupValue s 0
  let x := [d2f (v.getD 0 d0), d2f (v.getD 1 d0), fwrapFull (d2f ((groupValue s 1).getD 0 d0))] ++ List.replicate 12 0
  record .obsInit [] (modPhys (fun p => { p with running := true, x := x, p := (mOf 15 15 fun i j => if i = j then at_ 0 m.p0 i else f0).flatten,
                                                 rejPos := 0, rejHdg := 0 }) s)

/-- State elements of the part re-initialised (R283). -/
def reinitIdx (heading : Bool) : List Nat := if heading then [2, 13, 14] else [0, 1, 9, 10, 11, 12]

/-- Re-initialisation of the position or heading part once REINIT_PERIODS is reached (R283). -/
def reinitPart (heading : Bool) (s : State) : State :=
  match obsModel s with
  | none => s
  | some m =>
    let p := s.obs.phys
    if !p.running || decide ((if heading then p.rejHdg else p.rejPos) < m.reinit) then s
    else
      let is := reinitIdx heading
      let v := groupValue s 0
      let val (i : Nat) : F32 :=
        if i = 0 then d2f (v.getD 0 d0) else if i = 1 then d2f (v.getD 1 d0)
        else if i = 2 then fwrapFull (d2f ((groupValue s 1).getD 0 d0)) else 0
      let q := rowsOf 15 p.p
      let p' := mOf 15 15 fun i j =>
        if is.contains i || is.contains j then (if i = j then at_ 0 m.p0 i else f0) else mAt q i j
      record .obsReinit (be 1 (b2n heading)) (modPhys (fun p =>
        { p with x := p.x.mapIdx fun i v => if is.contains i then val i else v, p := p'.flatten,
                 rejPos := if heading then p.rejPos else 0, rejHdg := if heading then 0 else p.rejHdg }) s)

/-- OBS_REINIT (R283). -/
def execObsReinit (heading : Bool) (s : State) : Result := .next (reinitPart heading s)

/-- Counting of R283: every measurement of a kind rejected, none of them applied or skipped for its age, while its group fuses. -/
def countRejects (zs : List Meas) (s : State) : State :=
  let offered (k : Nat) : Bool := zs.any (fun z => z.kind == k)
  let all (g k : Nat) (other : Bool) : Bool := offered k && !other && groupFuses s g
  let s1 := modPhys (fun p => { p with rejPos := if all 0 0 (p.posDone || p.posAged) then p.rejPos + 1 + (if p.rejPos = 0 then 0 else s.sch.skip) else 0,
                                       rejHdg := if all 1 1 (p.hdgDone || p.hdgAged) then p.rejHdg + 1 + (if p.rejHdg = 0 then 0 else s.sch.skip) else 0 }) s
  reinitPart true (reinitPart false s1)

/-- The period's interval split over the periods skipped before it (R405). -/
def skipDt (s : State) : Nat :=
  if s.sch.skip = 0 then s.sch.dt else if isDet s then vpNs s else s.sch.dt / (s.sch.skip + 1)

/-- Steps 4.1 and 4.2 of the physics observer. -/
def physStep (s0 : State) : State :=
  let s := modPhys (fun p => { p with posDone := false, hdgDone := false, posAged := false, hdgAged := false }) s0
  match obsModel s with
  | none => s
  | some m =>
    if !s.obs.phys.running then
      if groupFuses s 0 && groupFuses s 1 then physInit m s else s
    else
      let tau := obsTau s
      let dt := secs32 (skipDt s)
      let a := (List.range (s.sch.skip + 1)).foldl (fun a _ => propagate m tau dt a) (s.obs.phys.x, rowsOf 15 s.obs.phys.p)
      let s1 := modPhys (fun p => { p with x := a.1, p := a.2.flatten }) s
      let zs := measurements s
      countRejects zs (zs.foldl (updateMeas m tau) s1)

/-- The prediction of R284. -/
def physPredict (s : State) : State :=
  let p := s.obs.phys
  let angle (g : Nat) (old : Option F32) : Option F32 := if groupFuses s g then some (d2f ((groupValue s g).getD 0 d0)) else old
  match obsModel s with
  | none => s
  | some m =>
    if !p.running then s
    else
      let x := (propagate m (obsTau s) (secs32 (vpNs s)) (p.x, rowsOf 15 p.p)).1
      modPhys (fun p => { p with pred := some (x.take 6), roll := angle 2 p.roll, pitch := angle 3 p.pitch }) s

/-! Cross-check and authority (R296 to R298). -/

/-- Physics variance of quantity q. -/
def physVar (s : State) (q : Nat) : F32 := at_ 0 s.obs.phys.p (16 * q)

/-- The recurrent output of quantity q: mean and spread. -/
def rnnOf (s : State) (q : Nat) : Option (F32 × F32) :=
  match (rnnOuts s).findIdx? (fun o => o.quantity == q) with
  | some k => (at_ none s.obs.rnn.mean k).map fun m => (m, at_ 0 s.obs.rnn.spread k)
  | none => none

/-- The recurrent observer is RUNNING and not LATE. -/
def rnnUsed (s : State) : Bool := s.obs.rnn.state == 2 && !s.obs.rnn.late

/-- Change a quantity's cross-check. -/
def modXchk (q : Nat) (f : Xchk → Xchk) (s : State) : State := { s with obs := { s.obs with xchk := modAt s.obs.xchk q f } }

/-- A quantity leaves DISAGREE once XCHK_RECOVER periods agreed (R297). -/
def agree (q : Nat) (s : State) : State :=
  let x := at_ xchkReset s.obs.xchk q
  if x.disagree && decide (pNat s 0x0342 ≤ x.count) then
    record .obsAgree (be 1 q) (modXchk q (fun x => { x with disagree := false, count := 0 }) s)
  else s

/-- OBS_AGREE (R297). -/
def execObsAgree (q : Fin 9) (s : State) : Result := .next (agree q.val s)

/-- The cross-check of one quantity (R296, R297), which records only the entry into DISAGREE; none while OBS_XCHK is empty (log 43). -/
def crossCheck (s : State) (q : Nat) : State :=
  match rnnOf s q with
  | none => s
  | some (m, sg) =>
    if !rnnUsed s || !s.obs.phys.running || (tab s 0x036C).isEmpty then s
    else
      let r := tabRec s 0x036C 16 q
      let d0' := fsub m (at_ 0 s.obs.phys.x q)
      let d := if q = 2 then fwrap d0' else d0'
      let bad := flt (fieldF32 r 4) (fabs d) ||
        flt (fmul (pReal s 0x0341) (fsqrt (fadd (physVar s q) (fmul sg sg)))) (fabs d)
      let s1 := modXchk q (fun x => { x with uncertain := flt (fieldF32 r 8) sg }) s
      if bad then
        let s2 := modXchk q (fun x => { x with disagree := true, count := 0 }) s1
        if (at_ xchkReset s.obs.xchk q).disagree then s2 else record .obsDisagree (be 1 q ++ be 1 0 ++ be 4 d.toNat) s2
      else agree q (modXchk q (fun x => { x with count := x.count + 1 + (if x.count = 0 then 0 else s.sch.skip) }) s1)

/-- The physics estimate of a quantity: ψ in [0, 2π) (R275). -/
def physEst (s : State) (q : Nat) : F32 := if q = 2 then fwrapFull (at_ 0 s.obs.phys.x q) else at_ 0 s.obs.phys.x q

/-- The authoritative estimate and its standard deviation (R298). -/
def authority (s : State) (q : Nat) : F32 × F32 :=
  let x := physEst s q
  let pv := physVar s q
  let c := at_ xchkReset s.obs.xchk q
  match rnnOf s q with
  | some (m, sg) =>
    if pNat s 0x0340 = 1 ∧ rnnUsed s ∧ s.obs.phys.running ∧ !(tab s 0x036C).isEmpty ∧ !c.disagree ∧ !c.uncertain then
      let xd := f2d x
      let y := if q = 2 then dadd xd (wrapSigned (dsub (f2d m) xd)) else f2d m
      let wp := ddiv d1 (f2d pv)
      let wr := ddiv d1 (dmul (f2d sg) (f2d sg))
      let v := ddiv (dadd (ddiv xd (f2d pv)) (ddiv y (dmul (f2d sg) (f2d sg)))) (dadd wp wr)
      (if q = 2 then wrapFull32 v else d2f v, d2f (dsqrt (ddiv d1 (dadd wp wr))))
    else (x, fsqrt pv)
  | none => (x, fsqrt pv)

/-- The recurrent state shown: LATE for the period where its result was not used (Table 09-5). -/
def rnnShown (s : State) : Nat := if s.obs.rnn.late ∧ (s.obs.rnn.state = 1 ∨ s.obs.rnn.state = 2) then 3 else s.obs.rnn.state

/-- An estimate's VALUE: N and E widened to binary64. -/
def estValue (q : Nat) (x : F32) : Value := if q ≤ 1 then vF64 (f2d x) else vF32 x

/-- The estimates of a physics observer that has run and waits again: as last published, PREDICTED (R300). -/
def waitingObs (s : State) : State :=
  let worn (s : State) (id : Nat) : State := match outGet s id with
    | some v => if v.q = 0 then s else outPut id v.value 6 s
    | none => s
  let s1 := ((List.range 9).flatMap fun q => [0x0300 + q, 0x0310 + q, 0x0320 + q]).foldl worn s
  { s1 with obs := { s1.obs with authQ := s1.obs.authQ.map fun q => if q = 0 then 0 else 6 } }

/-- Publication of step 4.5 (R300, Table 09-7). -/
def publishObs (s : State) : State :=
  let p := s.obs.phys
  let qual (q : Nat) : Nat := if (if q = 2 ∨ q = 5 ∨ q = 8 then p.hdgDone else p.posDone) then 1 else 6
  let s1 := if !p.running then waitingObs s
    else (List.range 9).foldl (fun s q =>
      let a := authority s q
      let s' := { s with obs := { s.obs with auth := modAt s.obs.auth q (fun _ => a.1), authSd := modAt s.obs.authSd q (fun _ => a.2),
                                             authQ := modAt s.obs.authQ q (fun _ => qual q) } }
      outPut (0x0320 + q) (estValue q (physEst s q)) (qual q) (outPut (0x0310 + q) (vF32 a.2) (qual q) (outPut (0x0300 + q) (estValue q a.1) (qual q) s'))) s
  let s2 := if !p.running then s1
    else (List.range 3).foldl (fun s k => outPut (0x0350 + k) (vF32 (at_ 0 p.x (10 + 2 * k))) 1 s) s1
  let s3 := match s.obs.rnn.state with
    | 0 => s2
    | 4 => s2
    | _ => ((rnnOuts s).foldl (fun s o => match rnnOf s o.quantity with
      | some (m, sg) =>
        let ql := if rnnUsed s then 1 else 6
        outPut (0x0340 + o.quantity) (vF32 sg) ql (outPut (0x0330 + o.quantity) (estValue o.quantity m) ql s)
      | none => s) s2)
  let s4 := match p.pred with
    | none => s3
    | some x => ((x.mapIdx fun k v => (k, estValue k v)).foldl (fun s e => outPut (0x0360 + e.1) e.2 1 s) s3)
  let s5 := match p.roll with
    | some v => outPut 0x0366 (vF32 v) 1 s4
    | none => s4
  let s6 := match p.pitch with
    | some v => outPut 0x0367 (vF32 v) 1 s5
    | none => s5
  let flags := flagsWord (s.obs.xchk.map (·.disagree)) + 65536 * flagsWord (s.obs.xchk.map (·.uncertain))
  outPut 0x0373 (vU32 p.rejected) 1 (outPut 0x0372 (vU32 flags) 1 (outPut 0x0371 (vU32 (rnnShown s)) 1 (outPut 0x0370 (vU32 (b2n p.running)) 1 s6)))

/-- Stage 4 (Table 09-6). -/
def stage4 (s0 : State) : State :=
  let s1 := if s0.sch.skip = 0 then s0 else (if s0.obs.rnn.state = 1 ∨ s0.obs.rnn.state = 2 then rnnRestart s0 else s0)
  let s2 := physStep s1
  let s3 := match rnnHdr (tab s2 0x0361) with
    | none => s2
    | some h => if s2.obs.rnn.state = 0 ∨ s2.obs.rnn.state = 4 then s2 else rnnStep h (endWarmup s2)
  let s4 := (List.range 9).foldl crossCheck s3
  publishObs (physPredict s4)

/-- A lock acts on the observers (R302): `model` and `net` say whether OBS_MODEL, and the image with its features and
outputs, are unchanged. -/
def obsLock (model net : Bool) (s : State) : State :=
  let s1 := if model then s else { s with obs := { s.obs with phys := physReset } }
  let s2 := if net && s1.obs.rnn.state != 4 then s1 else rnnRestart s1
  { s2 with obs := { s2.obs with xchk := List.replicate 9 xchkReset } }

/-- Both observers stop (R303). -/
def obsStop (s : State) : State := rnnRestart { s with obs := obsReset }

/-! Table checks (R279, R296). -/

/-- Binary64 Cholesky of a symmetric 3 × 3 matrix succeeds: every pivot above zero. -/
def massOk (m : Mat) : Bool :=
  let g (i j : Nat) : F64 := f2d (mAt m i j)
  let l00 := dsqrt (g 0 0)
  let l10 := ddiv (g 1 0) l00
  let l20 := ddiv (g 2 0) l00
  let a := dsub (g 1 1) (dmul l10 l10)
  let l11 := dsqrt a
  let l21 := ddiv (dsub (g 2 1) (dmul l20 l10)) l11
  let b := dsub (dsub (g 2 2) (dmul l20 l20)) (dmul l21 l21)
  dlt d0 (g 0 0) && dlt d0 a && dlt d0 b

/-- A 3 × 3 matrix equals its transpose, as numbers. -/
def symmetric3 (m : Mat) : Bool :=
  (List.range 3).all fun i => (List.range 3).all fun j => fle (mAt m i j) (mAt m j i) && fle (mAt m j i) (mAt m i j)

/-- A binary32 number between two limits. -/
def fin32 (lo hi : Num) (x : F32) : Bool := (num32 (pack32 lo)).le (num32 x) && (num32 x).le (num32 (pack32 hi))

/-- A finite binary32 number above zero. -/
def fpos (x : F32) : Bool := ffinite x && flt 0 x

/-- Step 2 of TABLE_WRITE for 0x0360. -/
def obsModelStatus (b : List Byte) : Nat :=
  let m := readModel b
  if b.isEmpty then 0
  else if b.length ≠ 256 then stInconsistent
  else if (m.mass.flatten ++ m.damp.flatten).all ffinite && m.biasT.all (fin32 (rat 10 1) (rat 100000 1)) &&
      m.w0.all (fin32 (rat 1 10) (rat 3 1)) && m.zeta.all (fin32 (rat 1 100) (rat 1 1)) &&
      (m.qNu ++ m.qB ++ m.qWave ++ m.p0).all fpos && m.ageQ.all (fun x => ffinite x && fle 0 x) &&
      decide (1 ≤ m.ageMax ∧ m.ageMax ≤ 10000) && fin32 (rat 1 1) (rat 1000 1) m.rejectNis &&
      decide (1 ≤ m.reinit ∧ m.reinit ≤ 100000) && allZero (slice b 228 28) then
    (if symmetric3 m.mass && massOk m.mass then 0 else stInconsistent)
  else stOutOfRange

/-- Step 2 of TABLE_WRITE for 0x036C (R296). -/
def xchkStatus (b : List Byte) : Nat :=
  if b.length ≠ 144 then stInconsistent
  else if (records 16 b).all (fun r => allZero (slice r 1 3) && fpos (fieldF32 r 4) && fpos (fieldF32 r 8) && allZero (slice r 12 4)) then 0
  else stOutOfRange

end Sys2Proof.Machine
end

