-- ==== Sys2Proof/Machine/Effects.lean ====
section
/-! DEFINITION. Effects of completed commands waiting for their first snapshot (R22), and the map as committed (R325). -/

namespace Sys2Proof.Machine

/-- A command that has completed leaves its effect for its first snapshot. -/
def pushEffect (opcode : Nat) (params : List Byte) (e : Effect) (s : State) : State :=
  { s with sch := { s.sch with pend := s.sch.pend ++ [⟨s.time.total, opcode, params, e⟩] } }

/-- A command's effect and the first period in force, as its step reports it. -/
def finishWith (c : Cmd) (e : Effect) (reply : List Byte) (s : State) : StepRes :=
  let s1 := pushEffect c.opcode c.params e s
  .finish s1 0 reply (some (firstPeriod s1))

/-- The control engine is in STANDBY, and no MODE_SET that has completed takes it elsewhere: neither one that waits for its first snapshot nor one
in force in the period in hand whose stage 5 is still to come (R15, R22). -/
def inStandby (s : State) : Bool :=
  s.ctl.mode == 0 && (s.sch.pend ++ if s.sch.stage < 5 then s.sch.cmds else []).all fun p => match p.eff with
    | .mode m => m == 0
    | _ => true

/-! The map's generations (R324 to R329). -/

/-- A record put into its slot: one with VALID clear empties it (R326). -/
def putNode (i : Nat) (r : List Byte) (m : List (Nat × List Byte)) : List (Nat × List Byte) :=
  if nodeValid r then keyPut i r m else keyDel i m

/-- The map with a change. -/
def putNodes (rs : List (Nat × List Byte)) (m : List (Nat × List Byte)) : List (Nat × List Byte) :=
  rs.foldl (fun m r => putNode r.1 r.2 m) m

/-- What a bundle adjustment pass of generation `ba` may still change: a node changed since by a write or by maintenance keeps its
record (R329). -/
def baKeeps (changed : List (Nat × Nat)) (ba : Option Nat) (rs : List (Nat × List Byte)) : List (Nat × List Byte) :=
  match ba with
  | none => rs
  | some g => rs.filter (fun r => decide ((keyGet r.1 changed).getD 0 ≤ g))

/-- A generation comes into force (R325). -/
def applyNodes (rs : List (Nat × List Byte)) (ba : Option Nat) (v : SlvState) : SlvState :=
  let ks := baKeeps v.changed ba rs
  let g := (v.gen + 1) % 2 ^ 32
  { v with map := putNodes ks v.map, gen := g,
           changed := if ba.isNone then ks.foldl (fun c r => keyPut r.1 g c) v.changed else v.changed }

/-- The map with every generation committed, in force or not yet. -/
def committedMap (s : State) : SlvState :=
  s.sch.pend.foldl (fun v p => match p.eff with
    | .nodes rs ba => applyNodes rs ba v
    | _ => v) s.slv

/-- The lowest empty slot at or above a number. -/
def lowestFree (first : Nat) (m : List (Nat × List Byte)) : Nat :=
  m.foldl (fun n e => if e.1 = n then n + 1 else n) first

/-- Slots of the map (R324). -/
def mapSlots : Nat := 8388608

end Sys2Proof.Machine
end

