-- ==== Sys2Proof/Machine/Domains.lean ====
section
/-! DEFINITION. Switched domains and the wake governor (R35, R36, R516, R523, R524). Domains 0 to 11 are the work tiles, 12 and 13 the solver
tiles, 14 the recurrent engine, 15 the marver, 16 shared SRAM, 17 to 19 the management core, field buses and acquisition, 20 DRAM, 21 the
baseband, 22 and 23 Ethernet A and B, 24 the cascade ports. -/

namespace Sys2Proof.Machine

/-- Wake latency in µs and in-rush charge (Table 18-4). -/
def domainWake (d : Nat) : Nat × Nat :=
  if d < 12 then (60, 4) else if d < 14 then (60, 15)
  else at_ (0, 0) [(40, 10), (40, 6), (40, 4), (40, 4), (40, 4), (40, 4), (12, 8), (380, 25), (900, 20), (900, 20), (900, 20)] (d - 14)

/-- A domain's state. -/
def domainOf (s : State) (d : Nat) : Wake := at_ .stopped s.pwr.domains d

/-- The governor's window: 100 µs of device time, or 105 ticks of the sequencing clock while the counter is stopped (R524). -/
def windowNow (s : State) : Nat :=
  if s.time.counting then s.time.total / 100000 else s.time.elapsed * 1048576 / 10 ^ 9 / 105

/-- A request is admitted: its extra stall is counted, and IDLE ends with the wake of a domain that stops in RUN (R516, R524). -/
def admitWake (d asked : Nat) (s : State) : State :=
  let stall := (s.time.elapsed - asked) / 1000
  let p := s.pwr
  { s with pwr := { p with domains := modAt p.domains d fun _ => .waking s.time.elapsed,
                           windowCharge := p.windowCharge + (domainWake d).2,
                           state := if p.state = .idle ∧ d < 17 then .run else p.state,
                           wakeQueued := if asked < s.time.elapsed then min (p.wakeQueued + 1) (2 ^ 32 - 1) else p.wakeQueued,
                           wakeStallMax := max p.wakeStallMax (min stall (2 ^ 32 - 1)) } }

/-- The budget admits a domain's charge; nothing is admitted during the brown-out warning. -/
def wakeFits (d : Nat) (s : State) : Bool := !bowRaised s && decide (s.pwr.windowCharge + (domainWake d).2 ≤ pNat s 0x0B01)

/-- Waiting requests in order, for as long as the budget allows. -/
def admitAll : List (Nat × Nat) → State → State
  | [], s => s
  | (d, t) :: r, s => if wakeFits d s then admitAll r (admitWake d t s) else s

/-- The sequencer's order of requests (R524). -/
def wakeOrder : List Nat := [16, 15] ++ List.range 12 ++ [14, 12, 13] ++ (List.range 8).map (· + 17)

/-- The requests that wait: ascending class, then order of request. -/
def waitingWakes (s : State) : List (Nat × Nat) :=
  let l : List (Nat × Nat × Nat) := wakeOrder.filterMap fun d => match domainOf s d with
    | .waiting c t => some (d, c, t)
    | _ => none
  (l.mergeSort fun a b => decide (a.2.1 < b.2.1) || (a.2.1 == b.2.1 && decide (a.2.2 ≤ b.2.2))).map fun x => (x.1, x.2.2)

/-- A window that has begun admits what waits. -/
def openWindow (s : State) : State :=
  if windowNow s = s.pwr.window then s
  else
    let s1 := { s with pwr := { s.pwr with window := windowNow s, windowCharge := 0 } }
    admitAll (waitingWakes s1) s1

/-- A domain may wake: not a tile retired. -/
def mayWake (s : State) (d : Nat) : Bool := !(decide (d < 12) && bitOf s.sch.retired d) && !((d == 12 || d == 13) && bitOf s.sch.retired (d + 4))

/-- A first access to a stopped domain (R524). -/
def requestWake (cls : Nat) (s0 : State) (d : Nat) : State :=
  if domainOf s0 d != .stopped || !mayWake s0 d then s0
  else
    let s := openWindow s0
    if wakeFits d s then admitWake d s.time.elapsed s
    else { s with pwr := { s.pwr with domains := modAt s.pwr.domains d fun _ => .waiting cls s.time.elapsed } }

/-! Jobs on the domains that stop in RUN (R35, R36, Table 13-1). -/

/-- A domain's state becomes `w`. -/
def setDomain (w : Wake) (d : Nat) (s : State) : State := { s with pwr := { s.pwr with domains := modAt s.pwr.domains d fun _ => w } }

/-- A job stalls until a domain that wakes is ready (R35, R523). -/
def settleDomain (s : State) (d : Nat) : State :=
  match domainOf s d with
  | .waking t => setDomain .awake d (elapseTo (t + us (domainWake d).1) s)
  | _ => s

/-- The first accesses of a job of class `cls` to its domains: those that are stopped are asked for, those that wake are waited for. -/
def accessDomains (cls : Nat) (ds : List Nat) (s : State) : State := ds.foldl settleDomain (ds.foldl (requestWake cls) s)

/-- Every domain of a job is ready. -/
def domainsUp (ds : List Nat) (s : State) : Bool := ds.all fun d => domainOf s d == .awake

/-- A job runs once its domains are ready; while the governor keeps one waiting it stalls (R35, R524). -/
def onDomains (cls : Nat) (ds : List Nat) (run : State → State) (s : State) : State :=
  let s1 := accessDomains cls ds s
  if domainsUp ds s1 then run s1 else s1

/-- The last jobs placed on these domains have ended: their clocks stop (R35). -/
def stopDomains (ds : List Nat) (s : State) : State :=
  ds.foldl (fun s d => if domainOf s d == .awake then setDomain .stopped d s else s) s

/-! Placement of jobs (R391, R392; log 221). The jobs of work tiles, each with its data in the memory of the tile where it ran last: 0 fusion, 1 the
physics observer, 2 control, 3 speculative control, 4 map maintenance, 5 diagnostics, 6 log flushing. -/

/-- The work tile of a job: an awake one where there is one, that which holds the job's data if it is among them, else the lowest; with none
awake the one that holds the data is woken, or the lowest in service. -/
def workTile (job : Nat) (s : State) : List Nat :=
  let all := (List.range 12).filter (mayWake s)
  let up := all.filter fun d => domainOf s d == .awake
  let from_ := if up.isEmpty then all else up
  match keyGet job s.sch.homes with
  | some h => if from_.contains h then [h] else from_.head?.toList
  | none => from_.head?.toList

/-- A job's data is where it runs. -/
def setHome (job : Nat) (ds : List Nat) (s : State) : State :=
  match ds with
  | d :: _ => { s with sch := { s.sch with homes := keyPut job d s.sch.homes } }
  | [] => s

/-- A job on its work tile, and on what else it needs. -/
def onWork (cls job : Nat) (more : List Nat) (run : State → State) (s : State) : State :=
  let ds := workTile job s
  onDomains cls (ds ++ more) (fun s => run (setHome job ds s)) s

/-- The solver tile of a structure (R304). -/
def solverTile (i : Nat) (s : State) : List Nat := (((keyGet i s.slv.structs).map fun t => 12 + t.tile).filter (mayWake s)).toList

/-- A job is placed on solver tile `t`, the command of journal entry `but` left out: a host SOLVE, an adjustment pass, or stage 6 of a period
whose stages have not ended. -/
def solverBusy (t but : Nat) (s : State) : Bool :=
  let on (i : Nat) : Bool := (keyGet i s.slv.structs).map (·.tile) == some t
  on 58 || (!s.sch.s9 && on 56) || s.host.cmds.any fun c => c.opcode == 0x0603 && c.entry != but && on (byteAt c.params 0)

/-- The clock of a solver tile stops with the last job placed on it (R35). -/
def leaveSolver (i but : Nat) (s : State) : State :=
  match keyGet i s.slv.structs with
  | some t => if solverBusy t.tile but s then s else stopDomains [12 + t.tile] s
  | none => s

/-- The clock of a job's work tile stops with the job, outside the period's stages and where no parison chain is to run. -/
def leaveWork (job : Nat) (s : State) : State :=
  if s.sch.s9 && !(s.sch.chainDue || s.sch.chain.any (!·.done)) then stopDomains (keyGet job s.sch.homes).toList s else s

/-- What stage 4 needs beside its work tile: the recurrent engine and shared SRAM, where the recurrent observer runs (Table 13-1). -/
def recurrentNeeds (s : State) : List Nat := if s.obs.rnn.state = 0 then [] else [16, 14]

/-- A stall of the first stages is reported as extra wake stall (R36). -/
def reportStall (ns : Nat) (s : State) : State :=
  if ns = 0 then s
  else { s with pwr := { s.pwr with wakeQueued := min (s.pwr.wakeQueued + 1) (2 ^ 32 - 1), wakeStallMax := max s.pwr.wakeStallMax (min (ns / 1000) (2 ^ 32 - 1)) } }

/-- Stage 2 ends when the domains that the first stages need are ready, which a short WAKE_LEAD_US makes later (R36). -/
def stallFirst (s : State) : State :=
  let s1 := accessDomains 2 (workTile 0 s ++ [16, 15]) s
  reportStall (s1.time.elapsed - s.time.elapsed) s1

end Sys2Proof.Machine
end

