-- ==== Sys2Proof/Machine/Qp.lean ====
section
/-! DEFINITION. The solver's arithmetic (R304 to R317): Householder QR, Cholesky, the active-set loop, symbolic fill and the
structure hash. Binary64; sums in ascending order. -/

namespace Sys2Proof.Machine

/-! Vectors. -/

/-- Σ of products, index ascending. -/
def ddot (a b : List F64) : F64 := (a.zipWith dmul b).foldl dadd d0

/-- Euclidean norm. -/
def dnorm2 (a : List F64) : F64 := dsqrt (ddot a a)

/-- a + k b. -/
def axpy (k : F64) (a b : List F64) : List F64 := a.zipWith (fun x y => dadd x (dmul k y)) b

/-- 10^-12 (R314). -/
def pivotTol : F64 := dofRat 1 (10 ^ 12)

/-- Least squares by Householder QR, columns in the order given (R314): `big` is the largest pivot met so far. A pivot of at
most 10^-12 of it ends the factorisation, or under `skip` leaves the column out with 0 for its unknown (log 44). -/
def qrSolve (skip : Bool) : Nat → F64 → List (List F64) → List F64 → Option (List F64)
  | 0, _, _, _ => some []
  | _ + 1, _, [], _ => some []
  | k + 1, big, c :: cs, b =>
    let v := c.headD d0
    let nrm := dnorm2 c
    let al := if dlt v d0 then nrm else dneg nrm
    let big' := dmax big (dabs al)
    if dle (dabs al) (dmul pivotTol big') then
      (if skip then (qrSolve skip k big' cs b).map (d0 :: ·) else none)
    else
      let w := dsub v al :: c.tail
      let ww := ddot w w
      let app (x : List F64) : List F64 := axpy (dneg (ddiv (dmul (dofInt 2) (ddot w x)) ww)) x w
      let cs' := cs.map app
      let b' := app b
      (qrSolve skip k big' (cs'.map List.tail) b'.tail).map fun xs =>
        ddiv ((cs'.zip xs).foldl (fun a p => dsub a (dmul (p.1.headD d0) p.2)) (b'.headD d0)) al :: xs

/-- The triangular factor of Householder QR by rows, each from its diagonal on (R314): that of `qrSolve`. -/
def qrRows : Nat → List (List F64) → List (List F64)
  | 0, _ => []
  | _ + 1, [] => []
  | k + 1, c :: cs =>
    let v := c.headD d0
    let nrm := dnorm2 c
    let al := if dlt v d0 then nrm else dneg nrm
    let w := dsub v al :: c.tail
    let ww := ddot w w
    let cs' := cs.map fun x => axpy (dneg (ddiv (dmul (dofInt 2) (ddot w x)) ww)) x w
    (al :: cs'.map (·.headD d0)) :: qrRows k (cs'.map List.tail)

/-- Lower Cholesky factor, row by row; none at a pivot that is not positive (R315). -/
def cholRows : List (List F64) → List (List F64) → Option (List (List F64))
  | _, [] => some []
  | done, h :: hs =>
    let row := done.foldl (fun (r : List F64) (l : List F64) =>
      let j := r.length
      r ++ [ddiv (dsub (at_ d0 h j) (ddot r (l.take j))) (at_ d0 l j)]) []
    let d := dsub (at_ d0 h done.length) (ddot row row)
    if dlt d0 d then
      let l := row ++ [dsqrt d]
      (cholRows (done ++ [l]) hs).map (l :: ·)
    else none

/-- L y = v. -/
def lowerSolve (l : List (List F64)) (v : List F64) : List F64 :=
  (l.zip v).foldl (fun (y : List F64) (p : List F64 × F64) =>
    y ++ [ddiv (dsub p.2 (ddot y (p.1.take y.length))) (at_ d0 p.1 y.length)]) []

/-- Lᵀ x = v, last row first. -/
def upperSolve (l : List (List F64)) (v : List F64) : List F64 :=
  ((List.range l.length).reverse).foldl (fun (x : List F64) (i : Nat) =>
    let rest := (List.range x.length).foldl (fun a k => dsub a (dmul (at_ d0 (at_ [] l (i + 1 + k)) i) (at_ d0 x k))) (at_ d0 v i)
    ddiv rest (at_ d0 (at_ [] l i) i) :: x) []

/-! Quadratic problems (R315). -/

/-- A constraint lo ≤ row · x ≤ hi. -/
structure Con where
  row : List F64
  lo : F64
  hi : F64
  deriving DecidableEq, Repr

/-- A problem: H by rows, g and the constraints, bounds first (R315). -/
structure Qp where
  n : Nat
  h : List (List F64)
  g : List F64
  cons : List Con
  deriving DecidableEq, Repr

/-- Tolerances and the iteration limit (Table 10-7). -/
structure QpTol where
  feas : F64
  opt : F64
  maxIter : Nat
  deriving DecidableEq, Repr

/-- A solve's result. -/
structure SolveRes where
  status : Nat
  x : List F64
  work : List Nat
  iter : Nat
  residual : F64
  feasible : Bool
  deriving DecidableEq, Repr

/-- Violation of a constraint. -/
def conViol (c : Con) (x : List F64) : F64 := let a := ddot c.row x; dmax d0 (dmax (dsub c.lo a) (dsub a c.hi))

/-- viol(x): the largest violation. -/
def viol (cs : List Con) (x : List F64) : F64 := cs.foldl (fun a c => dmax a (conViol c x)) d0

/-- A member of a working set: 2 · constraint, plus 1 where it is held at its upper side. -/
def conOf (q : Qp) (w : Nat) : Con := at_ ⟨[], d0, d0⟩ q.cons (w / 2)

/-- The step with the working constraints held, and their multipliers. -/
def qpStep (q : Qp) (l : List (List F64)) (x : List F64) (work : List Nat) : List F64 × List F64 :=
  let grad := (q.h.map fun r => ddot r x).zipWith dadd q.g
  let y := lowerSolve l grad
  let m := work.map fun w => lowerSolve l (conOf q w).row
  let lam := (qrSolve true m.length d0 m y).getD []
  let t := (m.zip lam).foldl (fun a p => axpy p.2 a p.1) (y.map dneg)
  (upperSolve l t, lam)

/-- How far a multiplier is on the wrong side; an equality has none. -/
def wrongBy (q : Qp) (w : Nat) (lam : F64) : F64 :=
  let c := conOf q w
  if dle c.hi c.lo then d0 else if w % 2 = 0 then dneg lam else lam

/-- The working constraint with the largest wrong-signed multiplier beyond the tolerance, ties to the lower number. -/
def toDrop (q : Qp) (tol : F64) (work : List Nat) (lam : List F64) : Option Nat :=
  ((work.zip lam).foldl (fun (a : Option (Nat × F64)) p =>
    let d := wrongBy q p.1 p.2
    if !dlt tol d then a
    else match a with
      | none => some (p.1, d)
      | some b => if dlt b.2 d then some (p.1, d) else a) none).map (·.1)

/-- The largest step in [0, 1] and the constraint that blocks it, ties to the lower number. -/
def blocking (q : Qp) (work : List Nat) (x p : List F64) : F64 × Option Nat :=
  (q.cons.zipIdx).foldl (fun (a : F64 × Option Nat) (e : Con × Nat) =>
    if work.any (fun w => w / 2 == e.2) then a
    else
      let d := ddot e.1.row p
      let ax := ddot e.1.row x
      let r := if dlt d0 d then ddiv (dsub e.1.hi ax) d else if dlt d d0 then ddiv (dsub e.1.lo ax) d else d1
      let t := dmax d0 r
      if dlt t a.1 then (t, some (2 * e.2 + b2n (dlt d0 d))) else a) (d1, none)

/-- A working set with a constraint entered, in ascending order. -/
def enter (w : Nat) (work : List Nat) : List Nat := (work.filter (· < w)) ++ [w] ++ work.filter (fun v => decide (w < v))

/-- The loop of R315: point, working set, iterations taken and whether it converged. A deadline leaves no pass after its
last iteration; QP_MAX_ITER still lets the next pass find convergence. -/
def qpLoop (q : Qp) (tol : QpTol) (l : List (List F64)) (cut : Bool) : Nat → Nat → List F64 → List Nat → List F64 × List Nat × Nat × Bool
  | left, done, x, work =>
    match left with
    | 0 =>
      let (p, lam) := qpStep q l x work
      let conv := !cut && dle (dnorm2 p) (dmul tol.opt (dadd d1 (dnorm2 x))) && (toDrop q tol.opt work lam).isNone
      (x, work, done, conv)
    | k + 1 =>
      let (p, lam) := qpStep q l x work
      if dle (dnorm2 p) (dmul tol.opt (dadd d1 (dnorm2 x))) then
        match toDrop q tol.opt work lam with
        | none => (x, work, done, true)
        | some w => qpLoop q tol l cut k (done + 1) x (work.filter (· != w))
      else
        let (a, b) := blocking q work x p
        let x' := axpy a x p
        match b with
        | some w => qpLoop q tol l cut k (done + 1) x' (enter w work)
        | none => qpLoop q tol l cut k (done + 1) x' work

/-- Clip to the bounds. -/
def clipBounds (q : Qp) (x : List F64) : List F64 :=
  ((List.range q.n).map fun i =>
    let c := at_ ⟨[], d0, d0⟩ q.cons i
    dclamp (at_ d0 x i) c.lo c.hi)

/-! Phase 1 (R315). -/

/-- How far a row is above its upper side (positive) or below its lower side (negative); 0 within. -/
def rowExcess (c : Con) (x : List F64) : F64 :=
  let a := ddot c.row x
  if dlt c.hi a then dsub a c.hi else if dlt a c.lo then dsub a c.lo else d0

/-- The rows of C that a point violates, each with its excess. -/
def violated (q : Qp) (x : List F64) : List (List F64 × F64) :=
  ((q.cons.drop q.n).map fun c => (c.row, rowExcess c x)).filter fun p => p.2 != d0

/-- The span of the rows nearest a vector. -/
def onRows (rows : List (List F64)) (v : List F64) : List F64 :=
  let y := (qrSolve true rows.length d0 rows v).getD []
  (rows.zip y).foldl (fun a p => axpy p.2 a p.1) (v.map fun _ => d0)

/-- The step of phase 1 in its free columns: what the rows fix of it, and the whole step, which is free along what no row sees (log 45). -/
def leastStep (rows : List (List F64)) (rhs free : List F64) : List F64 × List F64 :=
  let cols := (List.range free.length).map fun j => rows.map fun r => at_ d0 r j
  match qrSolve false cols.length d0 cols rhs with
  | some p => (p, p)
  | none =>
    let p := onRows rows ((qrSolve true cols.length d0 cols rhs).getD [])
    (p, axpy d1 p (axpy (dneg d1) free (onRows rows free)))

/-- The columns that no member of a working set of bounds holds. -/
def freeCols (q : Qp) (work : List Nat) : List Nat := (List.range q.n).filter fun i => !work.any fun w => w / 2 == i

/-- Values of the free columns spread over all columns, 0 elsewhere. -/
def spread (q : Qp) (cols : List Nat) (v : List F64) : List F64 :=
  (List.range q.n).map fun i => ((cols.zip v).find? fun p => p.1 == i).elim d0 (·.2)

/-- The step of phase 1 at a point, the part of it that the rows fix, and the multipliers of the held bounds: the gradient of half the sum of
squared violations. -/
def phase1Step (q : Qp) (done : Nat) (x : List F64) (work : List Nat) : List F64 × List F64 × List F64 :=
  let vs := violated q x
  let fs := freeCols q work
  let pick (r : List F64) : List F64 := fs.map fun j => at_ d0 r j
  let st := leastStep (vs.map fun v => pick v.1) (vs.map fun v => dneg v.2) (fs.map fun j => at_ d0 (Config.phase1Free done x) j)
  (spread q fs st.2, st.1, work.map fun w => vs.foldl (fun a v => dadd a (dmul v.2 (at_ d0 v.1 (w / 2)))) d0)

/-- Where phase 1 ends: at a feasible point, at its minimum, or out of iterations. -/
inductive Phase1End where
  | feasible
  | minimum
  | spent
  deriving DecidableEq, Repr

/-- The same loop over the sum of squared violations: only the bounds on x are constraints of it (R315). -/
def phase1Loop (q : Qp) (tol : QpTol) (cut : Bool) : Nat → Nat → List F64 → List Nat → List F64 × List Nat × Nat × Phase1End
  | left, done, x, work =>
    if dle (viol q.cons x) tol.feas then (x, work, done, .feasible)
    else
      let (p, fixed, lam) := phase1Step q done x work
      let flat := dle (dnorm2 fixed) (dmul tol.opt (dadd d1 (dnorm2 x)))
      match left with
      | 0 => (x, work, done, if !cut && flat && (toDrop q tol.opt work lam).isNone then .minimum else .spent)
      | k + 1 =>
        if flat then
          match toDrop q tol.opt work lam with
          | none => (x, work, done, .minimum)
          | some w => phase1Loop q tol cut k (done + 1) x (work.filter (· != w))
        else
          let (a, b) := blocking { q with cons := q.cons.take q.n } work x p
          phase1Loop q tol cut k (done + 1) (axpy a x p) (b.elim work fun w => enter w work)

/-- The bounds of a working set that a point lies on: what phase 1 keeps of the set it starts with. -/
def heldBounds (q : Qp) (x : List F64) (work : List Nat) : List Nat :=
  work.filter fun w => decide (w / 2 < q.n) && at_ d0 x (w / 2) == (if w % 2 = 0 then (conOf q w).lo else (conOf q w).hi)

/-- A solve of KIND 1 from a start point and working set; `limit` is the number of iterations a deadline leaves: with none the solve ends
before its first factor (R315, R317, R319). -/
def solveQp (q : Qp) (tol : QpTol) (limit : Option Nat) (x0 : List F64) (w0 : List Nat) : SolveRes :=
  let res (st : Nat) (x : List F64) (w : List Nat) (it : Nat) : SolveRes :=
    let v := viol q.cons x
    ⟨st, x, w, it, v, dle v tol.feas⟩
  if limit = some 0 then res stDeadlineMiss x0 w0 0
  else match cholRows [] q.h with
  | none => ⟨stInconsistent, [], [], 0, d0, false⟩
  | some l =>
    let cap := match limit with
      | some k => min k tol.maxIter
      | none => tol.maxIter
    let cut := match limit with
      | some k => decide (k ≤ tol.maxIter)
      | none => false
    let phase2 (x : List F64) (w : List Nat) (used : Nat) : SolveRes :=
      let (x', w', it, conv) := qpLoop q tol l cut (cap - used) used x w
      res (if conv then stOk else stDeadlineMiss) x' w' it
    if dle (viol q.cons x0) tol.feas then phase2 x0 w0 0
    else
      let x1 := clipBounds q x0
      match phase1Loop q tol cut cap 0 x1 (heldBounds q x1 w0) with
      | (x, w, it, .feasible) => phase2 x w it
      | (x, w, it, .minimum) => res stInfeasible x w it
      | (x, w, it, .spent) => res stDeadlineMiss x w it

/-- A solve of KIND 0: columns, right-hand side, refinements and the iterations a deadline leaves (R314). -/
def solveLs (cols : List (List F64)) (b : List F64) (refine : Nat) (limit : Option Nat) (x0 : List F64) : SolveRes :=
  let ax (x : List F64) : List F64 := (cols.zip x).foldl (fun a p => axpy p.2 a p.1) (b.map fun _ => d0)
  let resid (x : List F64) : F64 := dnorm2 ((ax x).zipWith dsub b)
  let total := 1 + refine
  let cap := min (limit.getD total) total
  if cap = 0 then ⟨stDeadlineMiss, x0, [], 0, resid x0, true⟩
  else match qrSolve false cols.length d0 cols b with
  | none => ⟨stInconsistent, [], [], 0, d0, false⟩
  | some x1 =>
      let x := (List.range (cap - 1)).foldl (fun x _ =>
        let r := b.zipWith dsub (ax x)
        axpy d1 x ((qrSolve false cols.length d0 cols r).getD [])) x1
      ⟨if cap < total then stDeadlineMiss else stOk, x, [], cap, resid x, true⟩

/-! Structures (R306 to R309). -/

/-- HASH of a structure (R308). -/
def structHash (kind rows cols : Nat) (es : List (Nat × Nat × F64)) : Nat :=
  beNat ((sha256 (be 1 kind ++ be 4 rows ++ be 4 cols ++ be 4 es.length ++ es.flatMap fun e => be 4 e.1 ++ be 4 e.2.1)).take 8)

/-- Elimination of columns in order on their below-diagonal patterns, each ascending: nonzeros of the factor. -/
def fillCount : Nat → List (List Nat) → Nat → Nat
  | 0, _, _ => 0
  | k + 1, cs, j =>
    match cs with
    | [] => 0
    | c :: rest =>
      match c with
      | [] => 1 + fillCount k rest (j + 1)
      | p :: ps =>
        let upd (l : List Nat) : List Nat := ((l ++ ps).mergeSort (· ≤ ·)).eraseDups
        1 + c.length + fillCount k (modAt rest (p - j - 1) upd) (j + 1)

/-- F of R309: KIND 1 the factor of H, KIND 0 the triangular factor of A (log 44). -/
def factorNnz (kind cols : Nat) (es : List (Nat × Nat × F64)) : Nat :=
  let pat : List (List Nat) :=
    if kind = 1 then
      (List.range cols).map fun i => ((es.filter (fun e => e.1 == i && decide (i < e.2.1) && decide (e.1 < cols))).map (·.2.1)).mergeSort (· ≤ ·)
    else
      let rows := (es.map (·.1)).eraseDups
      let sets := rows.map fun r => ((es.filter (fun e => e.1 == r)).map (·.2.1)).mergeSort (· ≤ ·)
      (List.range cols).map fun i => (((sets.filter (fun c => c.head? == some i)).flatMap (·.drop 1)).mergeSort (· ≤ ·)).eraseDups
  fillCount cols pat 0

/-- Bytes a structure occupies (R309). -/
def structBytes (kind rows cols : Nat) (es : List (Nat × Nat × F64)) : Nat :=
  16 * es.length + 16 * factorNnz kind cols es + 8 * (rows + 4 * cols)

/-- H by rows, from its upper triangle. -/
def denseH (t : Struct) : List (List F64) :=
  (List.range t.cols).map fun i => (List.range t.cols).map fun j =>
    match t.entries.find? (fun e => e.1 == min i j && e.2.1 == max i j) with
    | some e => e.2.2
    | none => d0

/-- Row `r` of the matrix. -/
def denseRow (t : Struct) (r : Nat) : List F64 :=
  (List.range t.cols).map fun j => match t.entries.find? (fun e => e.1 == r && e.2.1 == j) with
    | some e => e.2.2
    | none => d0

/-- Columns of A. -/
def denseCols (t : Struct) : List (List F64) :=
  (List.range t.cols).map fun j => (List.range t.rows).map fun i => match t.entries.find? (fun e => e.1 == i && e.2.1 == j) with
    | some e => e.2.2
    | none => d0

/-- The problem of a KIND 1 structure with the vectors of a SOLVE (Table 10-4). -/
def qpOf (t : Struct) (g lb ub lo hi : List F64) : Qp :=
  let unit (i : Nat) : List F64 := (List.range t.cols).map fun j => if i = j then d1 else d0
  { n := t.cols, h := denseH t, g := g,
    cons := (List.range t.cols).map (fun i => (⟨unit i, at_ d0 lb i, at_ d0 ub i⟩ : Con)) ++
      (List.range (t.rows - t.cols)).map fun r => (⟨denseRow t (t.cols + r), at_ d0 lo r, at_ d0 hi r⟩ : Con) }

/-- Constraints a point satisfies with equality within the tolerance (R316, WARM 2). -/
def workAt (q : Qp) (tol : F64) (x : List F64) : List Nat :=
  (q.cons.zipIdx).filterMap fun e =>
    let a := ddot e.1.row x
    if dle (dabs (dsub a e.1.lo)) tol then some (2 * e.2)
    else if dle (dabs (dsub a e.1.hi)) tol then some (2 * e.2 + 1) else none

end Sys2Proof.Machine
end

