-- ==== Sys2Proof/Machine/Solver.lean ====
section
/-! DEFINITION. The solver array's opcodes and the landmark map (chapter 10, Table 03-9): structures, solves and their
deadlines, MAP_WRITE, MAP_READ, MAP_STATUS and maintenance. -/

namespace Sys2Proof.Machine

/-! Structures (R306 to R311). -/

/-- Structure `i`, where it is resident. -/
def structOf (s : State) (i : Nat) : Option Struct := keyGet i s.slv.structs

/-- Entries of `n` × (ROW, COL, VALUE) from an offset. -/
def entriesAt (ps : List Byte) (off n : Nat) : List (Nat × Nat × F64) :=
  (List.range n).map fun i => (fieldU ps (off + 16 * i) 4, fieldU ps (off + 16 * i + 4) 4, fieldF64 ps (off + 16 * i + 8))

/-- The structure a STRUCT_LOAD carries; its tile is set when it is placed. -/
def loadStruct (ps : List Byte) : Struct :=
  let es := entriesAt ps 24 (fieldU ps 20 4)
  { kind := byteAt ps 1, rows := fieldU ps 12 4, cols := fieldU ps 16 4, entries := es, hash := fieldU ps 4 8, tile := 0,
    bytes := structBytes (byteAt ps 1) (fieldU ps 12 4) (fieldU ps 16 4) es }

/-- Bytes each tile offers to structures, and those reserved for structure 58 on tile 1 and for structure 57 on tile 0 (R309; the
tiles and 57's size, that of Table 10-6 with its prior rows diagonal, by log 46). -/
def tileBytes : Nat := 3670016
def reserved58 : Nat := 524288
def reserved57 : Nat := 16 * (64 * 7 + 64 * 4 + 64 * 8 + 75) + 16 * 2566 + 8 * (267 + 4 * 75)

/-- A solver tile is in service (R394). -/
def tileUp (s : State) (t : Nat) : Bool := !bitOf s.sch.retired (16 + t)

/-- Bytes of tile `t` in use, structure `but` left out. -/
def tileUsed (s : State) (t but : Nat) : Nat :=
  ((s.slv.structs.filter (fun e => e.2.tile == t && e.1 != but && e.1 != 57)).map (·.2.bytes)).sum +
    (if t = 1 ∨ !tileUp s 1 then reserved58 else 0) + (if t = 0 ∨ !tileUp s 0 then (if pNat s 0x0219 = 1 then reserved57 else 0) else 0)

/-- The tile a structure of `b` bytes fits beside what is promised of tiles 0 and 1, the lower number first (log 46). -/
def placeStruct (s : State) (i b : Nat) (promised : Nat × Nat) : Option Nat :=
  [0, 1].find? (fun t => tileUp s t && decide (tileUsed s t i + (if t = 0 then promised.1 else promised.2) + b ≤ tileBytes))

/-- Bytes of each tile promised to STRUCT_LOADs past their first step, of journal entries before `before` (log 46). -/
def promises (before : Nat) (s : State) : Nat × Nat :=
  (s.host.cmds.filter fun c => c.opcode == 0x0601 && c.k == 1 && decide (c.entry < before)).foldl (fun p c =>
    let b := (loadStruct c.params).bytes
    match placeStruct s (byteAt c.params 0) b p with
    | some 0 => (p.1 + b, p.2)
    | some _ => (p.1, p.2 + b)
    | none => p) (0, 0)

/-- Entries ascending by COL then ROW, none repeated (R307). -/
def ascending : List (Nat × Nat × F64) → Bool
  | [] => true
  | [_] => true
  | a :: b :: r => (decide (a.2.1 < b.2.1) || (a.2.1 == b.2.1 && decide (a.1 < b.1))) && ascending (b :: r)

/-- R307's consistency of a structure. -/
def structConsistent (t : Struct) : Bool :=
  let mc := t.rows - t.cols
  decide (t.kind ≤ 1) && (if t.kind = 0 then decide (t.rows + t.cols ≤ 46077) else decide (t.cols ≤ t.rows) && decide (4 * t.cols + 2 * mc ≤ 46077)) &&
    ascending t.entries &&
    (t.kind != 1 || (t.entries.all (fun e => decide (t.cols ≤ e.1 ∨ e.1 ≤ e.2.1)) &&
      (List.range t.cols).all fun i => t.entries.any fun e => e.1 == i && e.2.1 == i)) &&
    t.hash == structHash t.kind t.rows t.cols t.entries

/-- Refusals of STRUCT_LOAD before its first step ends (R307, R309). -/
def structLoadCheck (c : Cmd) (s : State) : Nat :=
  let ps := c.params
  let t := loadStruct ps
  let nnz := fieldU ps 20 4
  firstOf [when_ (decide (ps.length < 24)) stParamSize, when_ (ps.length != 24 + 16 * nnz) stParamSize,
    when_ (decide (63 < byteAt ps 0)) stOutOfRange, when_ (decide (2 < byteAt ps 1)) stBadEnum, zeroAt c 2 2,
    when_ (decide (t.rows = 0 ∨ 1048576 < t.rows ∨ t.cols = 0 ∨ 11518 < t.cols ∨ nnz = 0 ∨ 23038 < nnz)) stOutOfRange,
    when_ (t.entries.any (fun e => decide (t.rows ≤ e.1 ∨ t.cols ≤ e.2.1) || !dfinite e.2.2)) stOutOfRange,
    when_ (decide (55 < byteAt ps 0) || !structConsistent t) stInconsistent,
    when_ (placeStruct s (byteAt ps 0) t.bytes (promises s.host.nextEntry s)).isNone stNoSpace]

/-- STRUCT_LOAD's steps. -/
def runStructLoad (c : Cmd) (s : State) : StepRes :=
  if c.k = 0 then .commit s none
  else
    let i := byteAt c.params 0
    let t := loadStruct c.params
    match placeStruct s i t.bytes (promises c.entry s) with
    | none => .abort s stNoSpace
    | some n => .finish { s with slv := { s.slv with structs := keyPut i { t with tile := n } s.slv.structs } } 0 [] none

/-- STRUCT_LOAD. -/
def opStructLoad : OpDef := { stepOp 0x0601 1 structLoadCheck runStructLoad with n := 2 }

/-- STRUCT_LOAD (R307 to R310). -/
def execStructLoad (r : Req) (p : List Byte) (s : State) : Result := .next (packetIn true opStructLoad r p s)

/-- Refusals of STRUCT_UPDATE (R306, R311). -/
def structUpdateCheck (c : Cmd) (s : State) : Nat :=
  let ps := c.params
  let i := byteAt ps 0
  let n := fieldU ps 2 2
  let es := entriesAt ps 12 n
  let keys := es.map (fun e => (e.1, e.2.1))
  firstOf [when_ (decide (ps.length < 12) || ps.length != 12 + 16 * n) stParamSize, when_ (decide (63 < i)) stOutOfRange, zeroAt c 1 1,
    when_ (decide (23039 < n) || es.any (fun e => !dfinite e.2.2)) stOutOfRange,
    when_ (decide (55 < i) || keys.length != keys.eraseDups.length) stInconsistent,
    (match structOf s i with
      | none => stStructureUnknown
      | some t =>
        if t.hash ≠ fieldU ps 4 8 then stStructureUnknown
        else when_ (keys.any fun k => !t.entries.any fun e => (e.1, e.2.1) == k) stInconsistent)]

/-- Entries with new values. -/
def updateEntries (new old : List (Nat × Nat × F64)) : List (Nat × Nat × F64) :=
  old.map fun e => match new.find? (fun n => n.1 == e.1 && n.2.1 == e.2.1) with
    | some n => n
    | none => e

/-- STRUCT_UPDATE. -/
def opStructUpdate : OpDef := stepOp 0x0602 2 structUpdateCheck fun c s =>
  let i := byteAt c.params 0
  match structOf s i with
  | none => .abort s stStructureUnknown
  | some t =>
    let t' := { t with entries := updateEntries (entriesAt c.params 12 (fieldU c.params 2 2)) t.entries }
    .finish { s with slv := { s.slv with structs := keyPut i t' s.slv.structs } } 0 [] none

/-- STRUCT_UPDATE (R311). -/
def execStructUpdate (r : Req) (p : List Byte) (s : State) : Result := .next (packetIn true opStructUpdate r p s)

/-- STRUCT_DROP. -/
def opStructDrop : OpDef := stepOp 0x0604 1
  (fun c s => firstOf [sizeIs 1 c, when_ (decide (63 < byteAt c.params 0)) stOutOfRange, when_ (decide (55 < byteAt c.params 0)) stInconsistent,
    when_ (structOf s (byteAt c.params 0)).isNone stStructureUnknown])
  fun c s =>
    let i := byteAt c.params 0
    .finish { s with slv := { s.slv with structs := keyDel i s.slv.structs, retained := keyDel i s.slv.retained } } 0 [] none

/-- STRUCT_DROP (R106, R306, R310). -/
def execStructDrop (r : Req) (p : List Byte) (s : State) : Result := .next (packetIn true opStructDrop r p s)

/-! Solves (R313 to R319). -/

/-- `n` binary64 fields from an offset. -/
def fields64 (ps : List Byte) (off n : Nat) : List F64 := (List.range n).map fun i => fieldF64 ps (off + 8 * i)

/-- Numbers of the body before the warm start. -/
def bodyNums (t : Struct) : Nat := if t.kind = 0 then t.rows else 3 * t.cols + 2 * (t.rows - t.cols)

/-- Not a NaN. -/
def dnotNan (x : F64) : Bool := num64 x != .nan

/-- R313's checks of the body of a SOLVE of structure `t`. -/
def solveBodyCheck (c : Cmd) (t : Struct) : Nat :=
  let ps := c.params
  let warm := byteAt ps 1
  let n := bodyNums t
  let v := fields64 ps 20 n
  let x0 := fields64 ps (28 + 8 * n) t.cols
  let k := t.cols
  let m := t.rows - t.cols
  let dl := fieldU ps 8 4
  firstOf [when_ (ps.length != 20 + 8 * n + (if warm = 2 then 8 + 8 * k else 0)) stParamSize, when_ (decide (2 < warm)) stBadEnum, zeroAt c 2 2,
    when_ (decide (dl ≠ 0 ∧ (dl < 10 ∨ 10000000 < dl))) stOutOfRange,
    when_ (!(v.all dnotNan) || (warm == 2 && !(x0.all dfinite)) || !((v.take (if t.kind = 0 then t.rows else k)).all dfinite)) stOutOfRange,
    when_ (t.kind == 1 && !(((((v.drop k).take k).zip ((v.drop (2 * k)).take k)) ++ (((v.drop (3 * k)).take m).zip ((v.drop (3 * k + m)).take m))).all
      fun p => dle p.1 p.2)) stInconsistent]

/-- Refusals of SOLVE (R306, R313). -/
def solveCheck (c : Cmd) (s : State) : Nat :=
  let ps := c.params
  let i := byteAt ps 0
  if ps.length < 20 then stParamSize
  else if 63 < i then stOutOfRange
  else if 55 < i then stInconsistent
  else
    match structOf s i with
    | none => stStructureUnknown
    | some t => if t.hash ≠ fieldU ps 12 8 then stStructureUnknown else solveBodyCheck c t

/-- The tolerances in force. -/
def qpTol (s : State) : QpTol := ⟨pDbl s 0x0601, pDbl s 0x0602, pNat s 0x0603⟩

/-- A host solve: its result and whether its warm start was refused (R314 to R316). -/
def hostSolve (c : Cmd) (t : Struct) (limit : Option Nat) (s : State) : SolveRes × Bool :=
  let ps := c.params
  let warm := byteAt ps 1
  let n := bodyNums t
  let k := t.cols
  let m := t.rows - t.cols
  let v := fields64 ps 20 n
  let x0 := fields64 ps (28 + 8 * n) k
  let kept := (keyGet (byteAt ps 0) s.slv.retained).filter (fun r => r.hash == t.hash)
  let refused := (warm == 1 && kept.isNone) || (warm == 2 && fieldU ps (20 + 8 * n) 8 != t.hash)
  let zero := List.replicate k d0
  if t.kind = 0 then
    let start := if refused then zero else if warm = 1 then (kept.map (·.x)).getD zero else if warm = 2 then x0 else zero
    (solveLs (denseCols t) v (pNat s 0x0604) limit start, refused)
  else
    let q := qpOf t (v.take k) ((v.drop k).take k) ((v.drop (2 * k)).take k) ((v.drop (3 * k)).take m) ((v.drop (3 * k + m)).take m)
    let cold := (clipBounds q zero, ([] : List Nat))
    let start := if refused ∨ warm = 0 then cold
      else if warm = 1 then (kept.map fun r => (r.x, r.work)).getD cold else (x0, workAt q (pDbl s 0x0601) x0)
    (solveQp q (qpTol s) limit start.1 start.2, refused)

/-- What a solve retains (R316). -/
def retain (i : Nat) (t : Struct) (r : SolveRes) (s : State) : State :=
  { s with slv := { s.slv with retained := keyPut i ⟨t.hash, r.x, r.work, false⟩ s.slv.retained } }

/-- The status of a solve that returns an iterate (R317). -/
def solveStatus (r : SolveRes) (refused : Bool) : Nat := if r.status ≠ 0 then r.status else if refused then stWarmRejected else stOk

/-- The iterations left to a command whose deadline instant has passed before it began: none (R318, R319). The instant is one of the counter. -/
def lateLimit (c : Cmd) (s : State) : Option Nat :=
  let dl := fieldU c.params 8 4
  if dl ≠ 0 ∧ c.validC + us dl < s.time.total then some 0 else none

/-- Event of a solve that ended at its deadline or iteration limit (R317, R319, R320). -/
def deadlineEvent (i : Nat) (r : SolveRes) (refused : Bool) (s : State) : State :=
  record .solverDeadlineMiss (be 1 i ++ be 1 (b2n r.feasible + 2 * b2n refused) ++ be 2 (satU 16 r.iter)) s

/-- SOLVE's step with the iterations its deadline leaves. A miss is recorded where the warm start was refused too (R317). -/
def runSolve (limit : Option Nat) (c : Cmd) (s : State) : StepRes :=
  let i := byteAt c.params 0
  match structOf s i with
  | none => .abort s stStructureUnknown
  | some t =>
    let (r, refused) := hostSolve c t limit s
    if r.status = stInconsistent then .abort (leaveSolver i c.entry s) stInconsistent
    else
      let s1 := if r.status = stDeadlineMiss ∧ refused then deadlineEvent i r refused s else s
      .finish (leaveSolver i c.entry (retain i t r s1)) (solveStatus r refused) (be 2 r.iter ++ be 1 (b2n r.feasible) ++ be 1 0 ++ be 8 r.residual.toNat ++
        r.x.flatMap fun x => be 8 x.toNat) none

/-- SOLVE's step on its structure's tile: it stalls at its first access while the tile is not ready (R35), and a deadline does not wait for that. -/
def placedSolve (limit : Option Nat) (c : Cmd) (s : State) : StepRes :=
  match limit with
  | some k => runSolve (some k) c s
  | none =>
    let ds := solverTile (byteAt c.params 0) s
    let s1 := accessDomains 2 ds s
    match lateLimit c s1 with
    | some k => runSolve (some k) c s1
    | none => if domainsUp ds s1 then runSolve none c s1 else .wait s1 []

/-- SOLVE, its deadline leaving `limit` iterations. -/
def opSolveWithin (limit : Option Nat) : OpDef := stepOp 0x0603 2 solveCheck (placedSolve limit)

/-- SOLVE. -/
def opSolve : OpDef := opSolveWithin none

/-- SOLVE (R313 to R317). -/
def execSolve (r : Req) (p : List Byte) (s : State) : Result := .next (packetIn true opSolve r p s)

/-- The host SOLVE in flight on a structure that has a deadline, the earliest validated first. -/
def solveInFlight (s : State) (i : Nat) : Option Cmd :=
  s.host.cmds.find? (fun c => c.opcode == 0x0603 && byteAt c.params 0 == i && fieldU c.params 8 4 != 0)

/-- A host solve meets its deadline instant with `iters` iterations completed (R319). -/
def hostDeadline (i iters : Nat) (s : State) : State :=
  match solveInFlight s i with
  | none => s
  | some c => runCmd (opSolveWithin (some iters)) 1 c.entry (countTo (c.validC + us (fieldU c.params 8 4)) s)

/-! The map (R324 to R326, R330). -/

/-- COUNT records from an offset, with their slots. -/
def mapRecords (ps : List Byte) : List (Nat × List Byte) :=
  (List.range (fieldU ps 4 4)).map fun i => (fieldU ps 0 4 + i, slice ps (8 + 16 * i) 16)

/-- POS lies 6,300 to 6,400 km from the centre: its square in units of 4 mm (R326). -/
def posOk (r : List Byte) : Bool :=
  let d := (fieldS r 0 4) ^ 2 + (fieldS r 4 4) ^ 2 + (fieldS r 8 4) ^ 2
  decide ((1575000000 : Int) ^ 2 ≤ d ∧ d ≤ (1600000000 : Int) ^ 2)

/-- Refusals of MAP_WRITE (R106, R326). -/
def mapWriteCheck (c : Cmd) (_s : State) : Nat :=
  let n := fieldU c.params 4 4
  let rs := (mapRecords c.params).map (·.2)
  firstOf [when_ (decide (c.params.length < 8) || c.params.length != 8 + 16 * n) stParamSize,
    when_ (decide (n = 0 ∨ 23039 < n ∨ mapSlots < fieldU c.params 0 4 + n)) stOutOfRange,
    when_ (rs.any fun r => !posOk r || decide (16 ≤ byteAt r 15)) stOutOfRange,
    when_ (rs.any fun r => nodeProv r && nodeRetired r) stInconsistent]

/-- MAP_WRITE's steps: checked, then committed in one generation; a node written is no longer maintenance's own (R325 to R327). -/
def runMapWrite (c : Cmd) (s : State) : StepRes :=
  if c.k = 0 then .commit s none
  else
    let rs := mapRecords c.params
    let s1 := { s with slv := { s.slv with mapLost := false, prov := s.slv.prov.filter fun p => !(rs.any fun r => r.1 == p.1) } }
    let s2 := pushEffect c.opcode c.params (.nodes rs none) s1
    let full := s2.slv.mapFull && decide (mapSlots ≤ lowestFree (pNat s 0x0621) (committedMap s2).map)
    .finish { s2 with slv := { s2.slv with mapFull := full } } 0 [] (some (firstPeriod s))

/-- MAP_WRITE. -/
def opMapWrite : OpDef := { stepOp 0x0610 3 mapWriteCheck runMapWrite with n := 2 }

/-- MAP_WRITE (R326). -/
def execMapWrite (r : Req) (p : List Byte) (s : State) : Result := .next (packetIn true opMapWrite r p s)

/-- MAP_READ. -/
def opMapRead : OpDef := readOp 0x0611 3 8
  (fun c _ => when_ (decide (fieldU c.params 4 4 = 0 ∨ 5759 < fieldU c.params 4 4 ∨ mapSlots < fieldU c.params 0 4 + fieldU c.params 4 4)) stOutOfRange)
  fun c s => c.params ++ (List.range (fieldU c.params 4 4)).flatMap fun i => padTo 16 ((nodeRec s (fieldU c.params 0 4 + i)).getD [])

/-- MAP_READ (R326). -/
def execMapRead (r : Req) (p : List Byte) (s : State) : Result := .next (packetIn true opMapRead r p s)

/-- The map status block (Table 10-9). -/
def mapStatusBlock (s : State) : List Byte :=
  let v := s.slv
  let count (f : List Byte → Bool) : Nat := (v.map.filter (fun e => f e.2)).length
  be 4 v.gen ++ be 4 v.map.length ++ be 4 (count nodeProv) ++ be 4 (count nodeRetired) ++ be 4 (count nodeFixed) ++
    be 1 (if pNat s 0x0622 = 0 then 0 else if v.baRun.isSome then 2 else 1) ++ be 1 (flagsWord [v.mapFull, v.mapLost]) ++
    be 2 v.baIter ++ be 4 ((v.baRms.map (·.toNat)).getD nan32) ++ be 4 v.baMoved ++
    be 6 ((v.baAt.map (·.sec)).getD 0) ++ be 4 ((v.baAt.map (·.ns)).getD (2 ^ 32 - 1)) ++ be 2 0

/-- MAP_STATUS. -/
def opMapStatus : OpDef := readOp 0x0612 1 0 (fun _ _ => 0) (fun _ s => mapStatusBlock s)

/-- MAP_STATUS (R330). -/
def execMapStatus (r : Req) (p : List Byte) (s : State) : Result := .next (packetIn true opMapStatus r p s)

/-! Maintenance (R327). -/

/-- Class 3 work may run: firmware runs, no warning is raised and the schedule does not lag (R403, R529). -/
def class3 (s : State) : Bool := awake s && !bowRaised s && at_ 0 s.sch.counts 7 == 0

/-- The least SIGMA code whose standard deviation covers one (R324, R327; log 47). -/
def sigmaCode (x : F64) : Nat :=
  let m := (num64 x).mul (Num.ofInt 1000)
  let p2 := m.mul m
  let p4 := p2.mul p2
  let p8 := p4.mul p4
  let p := p8.mul p8
  ((List.range 256).find? (fun i => p.le (Num.ofInt (2 ^ i : Nat)))).getD 255

/-- A SIGMA code is at most a standard deviation. -/
def sigmaAtMost (code : Nat) (x : F32) : Bool :=
  let m := (num32 x).mul (Num.ofInt 1000)
  let p2 := m.mul m
  let p4 := p2.mul p2
  let p8 := p4.mul p4
  (Num.ofInt (2 ^ code : Nat)).le (p8.mul p8)

/-- A local position as POS: ECEF in units of 4 mm, rounded to nearest (log 47). -/
def posBytes (s : State) (l : V3) : List Byte :=
  let c := (originEcef s).add (fromLocal s l)
  let q (x : F64) : List Byte := be 4 (satS 32 (((num64 (ddiv x (dofRat 4 1000))).rint?).getD 0))
  q c.x ++ q c.y ++ q c.z

/-- A local position lies within 0.5 m of a node. -/
def nearNode (s : State) (p : V3) (r : List Byte) : Bool := dle ((nodeLocal s r).sub p).norm dHalf

/-- An observation kept for bundle adjustment is one of provisional node `n` (R328). -/
def seenNode (o : Loose) (n : Nat) (s : State) : State :=
  let put (f : BaFrame) : BaFrame :=
    if f.head = o.head ∧ f.frame = o.frame then { f with obs := modAt f.obs o.idx fun x => (some n, x.2) } else f
  { s with slv := { s.slv with frames := s.slv.frames.map put } }

/-- One unassociated observation with a range, at a local position: a provisional node near it is observed once a frame, else a node is
created (R327). -/
def takePlace (acc : List (Nat × List Byte) × State) (o : Loose) (p : V3) : List (Nat × List Byte) × State :=
  let s := acc.2
  let m := putNodes acc.1 (committedMap s).map
  match m.find? (fun e => nodeValid e.2 && nodeProv e.2 && nearNode s p e.2) with
  | some (n, _) =>
    let x := (keyGet n s.slv.prov).getD ⟨0, 0, false⟩
    let x' : ProvNode := if x.frames ≠ 0 ∧ x.last = o.frame then x else ⟨x.frames + 1, o.frame, x.adjusted⟩
    (acc.1, seenNode o n { s with slv := { s.slv with prov := keyPut n x' s.slv.prov } })
  | none =>
    if m.any (fun e => nodeCand e.2 && nearNode s p e.2) then acc
    else
      let n := lowestFree (pNat s 0x0621) m
      if mapSlots ≤ n then
        (acc.1, if s.slv.mapFull then s else record .mapFull [] { s with slv := { s.slv with mapFull := true } })
      else
        let cls := if o.feature = 0xFFFFFFFF then 0 else o.feature % 65536
        let r := posBytes s p ++ be 2 cls ++ be 1 (sigmaCode o.sigma) ++ be 1 5
        (acc.1 ++ [(n, r)], seenNode o n { s with slv := { s.slv with prov := keyPut n ⟨1, o.frame, false⟩ s.slv.prov } })

/-- One unassociated observation; without a range it makes no node (R327). -/
def takeLoose (acc : List (Nat × List Byte) × State) (o : Loose) : List (Nat × List Byte) × State :=
  match o.pos with
  | some [n, e, d] => takePlace acc o ⟨n, e, d⟩
  | _ => acc

/-- Promotion of a provisional node at or above MAP_AUTO_FIRST (R327). -/
def promote (m : List (Nat × List Byte)) (acc : List (Nat × List Byte) × State) (p : Nat × ProvNode) : List (Nat × List Byte) × State :=
  let s := acc.2
  match keyGet p.1 m with
  | some r =>
    if nodeProv r && decide (pNat s 0x0621 ≤ p.1) && decide (pNat s 0x0625 ≤ p.2.frames) && p.2.adjusted && sigmaAtMost (byteAt r 14) (pReal s 0x0626) then
      (acc.1 ++ [(p.1, r.take 15 ++ be 1 (byteAt r 15 - 4))],
        record .mapPromoted (be 4 p.1) { s with slv := { s.slv with prov := keyDel p.1 s.slv.prov } })
    else acc
  | none => acc

/-- Retirement of a candidate missed for RETIRE_MISSES frames (R327). -/
def retire (m : List (Nat × List Byte)) (acc : List (Nat × List Byte) × State) (t : Track) : List (Nat × List Byte) × State :=
  let s := acc.2
  match keyGet t.node m with
  | some r =>
    if nodeCand r && !nodeFixed r && !t.hit && decide (pNat s 0x0627 ≤ t.count) then
      (acc.1 ++ [(t.node, r.take 15 ++ be 1 (byteAt r 15 + 8))], record .mapRetired (be 4 t.node) s)
    else acc
  | none => acc

/-- A maintenance cycle: one generation. -/
def maintain (s : State) : State :=
  let a := s.fus.loose.foldl takeLoose (([] : List (Nat × List Byte)), s)
  let m := (committedMap a.2).map
  let b := a.2.slv.prov.foldl (promote m) a
  let c := (missedTracks b.2).foldl (retire m) b
  let s1 := { c.2 with fus := { c.2.fus with loose := [] } }
  pushEffect 0 [] (.nodes c.1 none) s1

/-- MAP_MAINTENANCE (R327). -/
def execMapMaintenance (s : State) : Result :=
  .next (if pNat s 0x0620 = 1 && class3 s then onWork 3 4 [] (fun s => leaveWork 4 (maintain s)) s else s)

/-! Resets and power states (R331). -/

/-- Structures and retained iterates are lost; a pass is abandoned without commit. -/
def solverLost (s : State) : State :=
  { s with slv := { s.slv with structs := s.slv.structs.filter (fun e => e.1 == 56 || e.1 == 57), retained := [], baRun := none } }

/-- The map is lost. -/
def mapGone (s : State) : State :=
  { s with slv := { slvReset with structs := s.slv.structs, retained := s.slv.retained } }

end Sys2Proof.Machine
end

