-- ==== Sys2Proof/Machine/LevelA.lean ====
section
/-! DEFINITION. Fusion level A (R262, R320 to R322): structure 57 formed from an epoch's slots, its two Gauss-Newton iterations and the
publication. -/

namespace Sys2Proof.Machine

open Sys2Proof.Config (mSqrt)

/-- Columns of structure 57 (Table 10-6). -/
def levelCols : Nat := 75

/-- A row with the coefficients named and its right-hand side, divided by σ (R321). -/
def levelRow (cs : List (Nat × F64)) (rhs sigma : F64) : List F64 × F64 :=
  ((List.range levelCols).map fun j => ((cs.find? (fun c => c.1 == j)).map fun c => ddiv c.2 sigma).getD d0, ddiv rhs sigma)

/-- An unused slot's row. -/
def levelNone : List F64 × F64 := (List.replicate levelCols d0, d0)

/-- s of R321: max(1, 10^((40 − c) / 20)), c in hundredths of dB-Hz. -/
def levelScale (cn0 : Nat) : F64 := if 4000 ≤ cn0 then d1 else Config.tenth2000 (4000 - cn0)

/-- The bias column of a SIGNAL's system: Galileo, BeiDou and QZSS relative to GPS. -/
def levelBias (signal : Nat) : List (Nat × F64) :=
  let k := signalSystem signal
  if 1 ≤ k ∧ k ≤ 3 then [(7 + k, d1)] else []

/-- The point an iteration is taken about: the reference point in the local frame, and the antenna's arm turned into it. -/
structure LevelAt where
  p : V3
  arm : V3
  deriving DecidableEq, Repr

/-- From the satellite to a local point: distance and unit vector. -/
def lineTo (s : State) (m : LevelSat) (a : V3) : F64 × V3 :=
  let v := a.sub (toLocal s ((⟨m.x, m.y, m.z⟩ : V3).sub (originEcef s)))
  let r := v.norm
  (r, v.scale (ddiv d1 r))

/-- The base station's distance from a satellite, its reference point in units of 0.1 mm (R169). -/
def baseRange (s : State) (m : LevelSat) : Option F64 :=
  s.gnss.arp.map fun a =>
    let u (k : Int) : F64 := ddiv (dofInt k) (dofInt 10000)
    ((⟨u a.1, u a.2.1, u a.2.2⟩ : V3).sub ⟨m.x, m.y, m.z⟩).norm

/-- The three rows of slot `k` (R321): pseudorange, range rate and the single-differenced carrier phase, metres. -/
def slotRows (s : State) (corr : Bool) (at_ : LevelAt) (k : Nat) (o : LevelSlot) (m : LevelSat) :
    (List F64 × F64) × (List F64 × F64) × (List F64 × F64) :=
  let (r, u) := lineTo s m (at_.p.add at_.arm)
  let sc := levelScale o.cn0
  let lam := Config.wavelength o.signal
  let bias := levelBias o.signal
  let pos := [(0, u.x), (1, u.y), (2, u.z), (6, d1)] ++ bias
  let rate := dadd (dsub (dneg (dmul lam (f2d o.doppler))) m.drift) (u.dot (toLocal s ⟨m.vx, m.vy, m.vz⟩))
  let phase := match corr && bitOf o.flags 1, m.base, baseRange s m with
    | true, some b, some rb => levelRow (pos ++ [(11 + k, d1)]) (dsub (dsub (dmul lam o.cp) b) (dsub r rb)) (dmul (dofRat 3 1000) sc)
    | _, _, _ => levelNone
  (levelRow pos (dsub (dsub o.pr m.delay) r) (dmul dHalf sc),
    levelRow [(3, u.x), (4, u.y), (5, u.z), (7, d1)] rate (dmul (dofRat 5 100) sc), phase)

/-- Acceleration of the reference point (R321): C_nb · f + (0, 0, 9.80665), f turned by the MOUNT of the ACC_X input; zero without usable
inputs. -/
def levelAcc (s : State) (att : Att) (acc : Option (F64 × F64 × F64)) : V3 :=
  match acc with
  | some (x, y, z) =>
    let i := ((List.range 64).find? (fun i => finRole s i == 7 && inUsable s i)).getD 0
    (att.rot ((finMount s i).rot ⟨x, y, z⟩)).add ⟨d0, d0, dofRat 980665 100000⟩
  | none => v3zero

/-- Prior value and weight of each column (R321): the solution before, propagated, weighted by its covariance inflated by LEVEL_A_Q. -/
def levelPriors (s : State) (te : Nat) (inp : LevelIn) (att : Att) : List (F64 × F64) :=
  let chanAt (k : Nat) : Option LevelSlot := inp.slots[k]?
  match s.gnss.level with
  | none => (List.range levelCols).map fun j =>
      if j < 11 then
        (let p := Config.levelAStart j; if 8 ≤ j ∧ !bitOf (pNat s 0x0401) (j - 7) then (p.1, dofInt 1000000) else p)
      else ((chanAt (j - 11)).map fun o => (Config.levelANew te o.ch, dofRat 1 1000)).getD (d0, dofRat 1 1000)
  | some q =>
    let dt := ddiv (dofInt ((te : Int) - q.epoch)) (dofInt 1000000000)
    let a := levelAcc s att inp.acc
    let noise := if inp.acc.isSome then f2d (pReal s 0x0611) else dmul (f2d (pReal s 0x0611)) (dofInt 100)
    let av (j : Nat) : F64 := [a.x, a.y, a.z].getD j d0
    let v (j : Nat) : F64 := at_ d0 q.x j
    let c (i j : Nat) : F64 := at_ d0 (at_ [] q.cov i) j
    let weigh (j : Nat) (var : F64) : F64 := ddiv d1 (mSqrt (dadd var (Config.levelANoise j noise dt)))
    (List.range levelCols).map fun j =>
      if j < 3 then
        (dadd (dadd (v j) (dmul (v (3 + j)) dt)) (dmul (dmul dHalf (av j)) (dmul dt dt)),
          weigh j (dadd (dadd (c j j) (dmul (dmul (dofInt 2) dt) (c j (3 + j)))) (dmul (dmul dt dt) (c (3 + j) (3 + j)))))
      else if j < 6 then (dadd (v j) (dmul (av (j - 3)) dt), weigh j (c j j))
      else if j < 8 then (v j, weigh j (c j j))
      else if j < 11 then (v j, if bitOf (pNat s 0x0401) (j - 7) then weigh j (c j j) else dofInt 1000000)
      else match chanAt (j - 11) with
        | some o =>
          match keyGet o.ch q.amb, bitOf o.flags 3 with
          | some b, false => (b.1, weigh j b.2)
          | _, _ => (Config.levelANew te o.ch, dofRat 1 1000)
        | none => (d0, dofRat 1 1000)

/-- The rows of structure 57 about a point (Table 10-6): 64 pseudorange, 64 range-rate and 64 carrier-phase slots, 75 priors. -/
def levelRows (s : State) (inp : LevelIn) (sats : List LevelSat) (pri : List (F64 × F64)) (at_ : LevelAt) : List (List F64 × F64) :=
  let rows := (List.range 64).map fun k => match inp.slots[k]? with
    | some o => ((sats.find? (fun (m : LevelSat) => m.ch == o.ch)).map (slotRows s inp.corr at_ k o)).getD (levelNone, levelNone, levelNone)
    | none => (levelNone, levelNone, levelNone)
  let own (j : Nat) (x : F64) : F64 := if j < 3 then dsub x ([at_.p.x, at_.p.y, at_.p.z].getD j d0) else x
  rows.map (·.1) ++ rows.map (·.2.1) ++ rows.map (·.2.2) ++
    pri.mapIdx fun j p => ((List.range levelCols).map fun i => if i = j then p.2 else d0, dmul p.2 (own j p.1))

/-- Structure 57 with the values of a solve: the pattern of Table 10-6, whatever their values (R306, R312). -/
def levelStruct (rows : List (List F64 × F64)) : Struct :=
  let inPattern (i j : Nat) : Bool :=
    if i < 64 then decide (j < 3) || j == 6 || (decide (8 ≤ j) && decide (j ≤ 10))
    else if i < 128 then (decide (3 ≤ j) && decide (j ≤ 5)) || j == 7
    else if i < 192 then decide (j < 3) || j == 6 || (decide (8 ≤ j) && decide (j ≤ 10)) || j == i - 128 + 11
    else j == i - 192
  let es := (List.range levelCols).flatMap fun j => (rows.mapIdx fun i r => (i, j, at_ d0 r.1 j)).filter fun e => inPattern e.1 j
  { kind := 0, rows := 267, cols := levelCols, entries := es, hash := structHash 0 267 levelCols es, tile := 0, bytes := reserved57 }

/-- A solve of structure 57 (R312, R316, R319): its values are written, it starts with WARM 1, and its iterate is retained; what it came to and whether
the warm start was refused, with the iterations a deadline leaves. -/
def levelSolve (limit : Option Nat) (rows : List (List F64 × F64)) (s : State) : SolveRes × Bool × State :=
  let t : Struct := { levelStruct rows with tile := ((keyGet 57 s.slv.structs).map (·.tile)).getD 0 }
  let kept := (keyGet 57 s.slv.retained).filter fun r => r.hash == t.hash
  let r := solveLs (denseCols t) (rows.map (·.2)) (pNat s 0x0604) limit ((kept.map (·.x)).getD (List.replicate levelCols d0))
  let s1 := { s with slv := { s.slv with structs := keyPut 57 t s.slv.structs } }
  (r, kept.isNone, if r.status = stInconsistent then s1 else retain 57 t r s1)

/-- A solve of structure 57 and what follows from its point; one that misses its deadline is recorded and followed by nothing (R317, R320, R322). -/
def levelThen {α : Type} (limit : Option Nat) (rows : List (List F64 × F64)) (next : List F64 → State → Option α × State) (s : State) : Option α × State :=
  let (r, refused, s1) := levelSolve limit rows s
  if r.status = stInconsistent then (none, s1)
  else if r.status = stDeadlineMiss then (none, deadlineEvent 57 r refused s1)
  else next r.x s1

/-- The covariance from the triangular factor of the final solve. -/
def levelCov (rows : List (List F64 × F64)) : List (List F64) :=
  let r := qrRows levelCols (denseCols (levelStruct rows))
  let l := (List.range levelCols).map fun i => (List.range (i + 1)).map fun j => at_ d0 (at_ [] r j) (i - j)
  (List.range levelCols).map fun j => upperSolve l (lowerSolve l ((List.range levelCols).map fun i => if i = j then d1 else d0))

/-- A point moved by the correction of columns 0 to 2. -/
def LevelAt.move (a : LevelAt) (x : List F64) : LevelAt := { a with p := a.p.add ⟨at_ d0 x 0, at_ d0 x 1, at_ d0 x 2⟩ }

/-- An epoch's two Gauss-Newton iterations (R322), the iterations of both solves limited where a deadline cuts them: the solution. -/
def levelEpoch (limit : Option Nat) (te : Nat) (inp : LevelIn) (sats : List LevelSat) (s : State) : Option LevelSol × State :=
  match inp.att with
  | none => (none, s)
  | some t =>
    let att : Att := ⟨t.1, t.2.1, t.2.2⟩
    let arm := antennaArm s (pNat s 0x0420)
    let pri := levelPriors s te inp att
    let pv (j : Nat) : F64 := (at_ (d0, d0) pri j).1
    let a0 : LevelAt := ⟨⟨pv 0, pv 1, pv 2⟩, att.rot ⟨f2d (at_ 0 arm 0), f2d (at_ 0 arm 1), f2d (at_ 0 arm 2)⟩⟩
    levelThen limit (levelRows s inp sats pri a0) (fun x1 s =>
      let a1 := a0.move x1
      let rows := levelRows s inp sats pri a1
      levelThen (limit.map (· - (1 + pNat s 0x0604))) rows (fun x2 s =>
        let p := (a1.move x2).p
        let cov := levelCov rows
        (some { epoch := te, x := [p.x, p.y, p.z] ++ (x2.take 11).drop 3, cov := (cov.take 11).map (·.take 11),
                amb := inp.slots.mapIdx fun k o => (o.ch, at_ d0 x2 (11 + k), at_ d0 (at_ [] cov (11 + k)) (11 + k)) }, s)) s) s

/-- Level A's horizontal standard deviation: √((P_NN + P_EE) / 2) (R322). -/
def levelSigma (q : LevelSol) : F64 :=
  mSqrt (ddiv (dadd (at_ d0 (at_ [] q.cov 0) 0) (at_ d0 (at_ [] q.cov 1) 1)) (dofInt 2))

/-- The solution of an epoch is kept for the next one and published, stamped `te`, arriving at `arr` (R262, R322). -/
def levelPublish (te arr : Nat) (q : LevelSol) (s : State) : State :=
  let put (k : Nat) (v : Value) (s : State) : State := publishAs (0x0260 + k) ⟨v, false, arr, some te, none, none⟩ s
  put 2 (vF32 (d2f (levelSigma q))) (put 1 (vF64 (at_ d0 q.x 1)) (put 0 (vF64 (at_ d0 q.x 0)) { s with gnss := { s.gnss with level := some q } }))

/-- The iterations that a deadline leaves to an epoch's two solves: none of them limited, or at least one short (R319, R320). -/
def levelLimit (completed : Bool) (iters : Nat) (s : State) : Option Nat :=
  if completed || isDet s then none else some (min iters (2 * (1 + pNat s 0x0604) - 1))

/-- An epoch of level A at its instant `arr`, or `lateUs` past it under DET (R320 to R322). -/
def levelRun (completed : Bool) (lateUs iters te : Nat) (sats : List LevelSat) (s : State) : State :=
  let arr := te + us (pNat s 0x0610)
  let late := !completed && isDet s
  let s0 := countTo (if late then arr + us lateUs else arr) s
  let s1 := { s0 with gnss := { s0.gnss with levelA := false, levelIn := none } }
  let s2 := if late then record .solverLate (be 1 57 ++ be 1 0 ++ be 4 (satU 32 lateUs)) s1 else s1
  match s.gnss.levelIn with
  | none => s2
  | some inp =>
    match levelEpoch (levelLimit completed iters s2) te inp sats s2 with
    | (some q, s3) => leaveSolver 57 s3.host.nextEntry (levelPublish te arr q s3)
    | (none, s3) => leaveSolver 57 s3.host.nextEntry s3

/-- LEVEL_A_PUBLISH (R320 to R322): the result at t_e + LEVEL_A_DEADLINE_US, stamped t_e; `sats` is what navigation data and corrections
give for the slots (log 49), `iters` the iterations that both solves had completed at a missed instant. Such an epoch publishes nothing under
BOUNDED and is only late under DET. -/
def execLevelAPublish (completed : Bool) (lateUs : BitVec 32) (iters : BitVec 16) (sats : List LevelSat) (s : State) : Result :=
  match s.gnss.epoch with
  | none => .next s
  | some t =>
    if !awake s || pNat s 0x0219 != 1 || !s.gnss.levelA then .next s
    else .next (onDomains 2 (solverTile 57 s) (levelRun completed lateUs.toNat iters.toNat t sats) s)

end Sys2Proof.Machine
end

