-- ==== Sys2Proof/Machine/Adjust.lean ====
section
/-! DEFINITION. Background bundle adjustment (R304, R306, R328, R329): structure 58, its Jacobian in binary32, the damped normal equations and the
commit of a pass. -/

namespace Sys2Proof.Machine

/-! The problem. -/

/-- What a pass covers: its frames, oldest first, and the nodes observed in them with their local positions, unknown and held. -/
structure BaProblem where
  frames : List BaFrame
  nodes : List (Nat × V3)
  held : List (Nat × V3)
  deriving DecidableEq, Repr

/-- A row of the Jacobian with its residual, both divided by the standard deviation; entries by unknown. -/
structure BaRow where
  r : F64
  cs : List (Nat × F32)
  deriving DecidableEq, Repr

/-- The problem of a pass over the frames kept and a map. Where no FIXED node is in the window only provisional nodes are unknown (R328). -/
def baProblem (m : List (Nat × List Byte)) (s : State) : BaProblem :=
  let seen := m.filter fun e => s.slv.frames.any fun f => f.obs.any fun o => o.1 == some e.1
  let fixedSeen := seen.any fun e => nodeFixed e.2
  let free (e : Nat × List Byte) : Bool := !nodeFixed e.2 && (fixedSeen || nodeProv e.2)
  let place (e : Nat × List Byte) : Nat × V3 := (e.1, nodeLocal s e.2)
  { frames := s.slv.frames.reverse, nodes := (seen.filter free).map place, held := (seen.filter fun e => !free e).map place }

/-- Number of unknowns: north, east and heading at each frame, then three for each node. -/
def BaProblem.size (p : BaProblem) : Nat := 3 * p.frames.length + 3 * p.nodes.length

/-- Where a pass starts: the authoritative estimates, or what the associations were made from where there are none, and the map (log 48). -/
def BaProblem.start (p : BaProblem) : List F64 :=
  (p.frames.flatMap fun f => match f.est with
    | some e => e.1
    | none => [at_ d0 f.pos 0, at_ d0 f.pos 1, at_ d0 f.att 2]) ++ p.nodes.flatMap fun n => n.2.list

/-- The head of frame `k` at trial unknowns. -/
def BaFrame.pose (f : BaFrame) (x : List F64) (k : Nat) : HeadPose :=
  ⟨⟨at_ d0 x (3 * k), at_ d0 x (3 * k + 1), at_ d0 f.pos 2⟩, ⟨at_ d0 f.att 0, at_ d0 f.att 1, at_ d0 x (3 * k + 2)⟩, listAtt f.mount, listV3 f.arm⟩

/-- A node's position at trial unknowns, and the first of its unknowns where it has them. -/
def BaProblem.node (p : BaProblem) (x : List F64) (n : Nat) : Option (V3 × Option Nat) :=
  match p.nodes.zipIdx.find? fun e => e.1.1 == n with
  | some (_, j) =>
    let c := 3 * p.frames.length + 3 * j
    some (⟨at_ d0 x c, at_ d0 x (c + 1), at_ d0 x (c + 2)⟩, some c)
  | none => (keyGet n p.held).map fun v => (v, none)

/-! Rows: residuals and the Jacobian blocks, the latter in binary32 (R304). -/

/-- Three components in binary32. -/
def V3.single (a : V3) : F32 × F32 × F32 := (d2f a.x, d2f a.y, d2f a.z)

/-- Derivatives of azimuth, elevation and range at `q` for a change `d` of it. -/
def headDeriv (q d : F32 × F32 × F32) : List F32 :=
  let (x, y, z) := q
  let (u, v, w) := d
  let rho2 := fadd (fmul x x) (fmul y y)
  let rho := fsqrt rho2
  let r2 := fadd rho2 (fmul z z)
  let out := fadd (fmul x u) (fmul y v)
  [fdiv (fsub (fmul x v) (fmul y u)) rho2, fdiv (fsub (fmul z (fdiv out rho)) (fmul rho w)) r2, fdiv (fadd out (fmul z w)) (fsqrt r2)]

/-- How the vector to a landmark moves with the unknowns of its frame and, where it has them, its own. -/
def headMoves (h : HeadPose) (l : V3) (pose : Nat) (node : Option Nat) : List (Nat × V3) :=
  let c (v : V3) : V3 := h.mount.rotT (h.att.rotT v)
  let v := l.sub h.p
  [(pose, c ⟨dneg d1, d0, d0⟩), (pose + 1, c ⟨d0, dneg d1, d0⟩), (pose + 2, c ⟨v.y, dneg v.x, d0⟩)] ++
    (node.toList.flatMap fun j => [(j, c ⟨d1, d0, d0⟩), (j + 1, c ⟨d0, d1, d0⟩), (j + 2, c ⟨d0, d0, d1⟩)])

/-- The rows of one association: those of d² (R257). -/
def obsRows (h : HeadPose) (o : List Byte) (l : V3) (pose : Nat) (node : Option Nat) : List BaRow :=
  let q := h.toHead l
  let ds := (headMoves h l pose node).map fun e => (e.1, headDeriv q.single e.2.single)
  let row (k : Nat) (r : F64) (sigma : F32) : BaRow := ⟨ddiv r (f2d sigma), ds.map fun e => (e.1, fdiv (at_ 0 e.2 k) sigma)⟩
  let sa := fieldF32 o 16
  let az := row 0 (wrapSigned (dsub (f2d (fieldF32 o 4)) (azOf q))) sa
  let el := row 1 (wrapSigned (dsub (f2d (fieldF32 o 8)) (elOf q))) sa
  if isNan32 (fieldF32 o 12) then [az, el] else [az, el, row 2 (dsub (f2d (fieldF32 o 12)) q.norm) (fieldF32 o 20)]

/-- The rows of every association of a pass, one list for each. -/
def BaProblem.assocRows (p : BaProblem) (x : List F64) : List (List BaRow) :=
  p.frames.zipIdx.flatMap fun e => e.1.obs.filterMap fun o =>
    (o.1.bind (p.node x)).map fun t => obsRows (e.1.pose x e.2) o.2 t.1 (3 * e.2) t.2

/-- The prior rows: each frame's estimates with their standard deviations. -/
def BaProblem.priorRows (p : BaProblem) (x : List F64) : List BaRow :=
  p.frames.zipIdx.flatMap fun e => match e.1.est with
    | some (v, sd) => (List.range 3).map fun k =>
        let d := dsub (at_ d0 v k) (at_ d0 x (3 * e.2 + k))
        let sg := at_ 0 sd k
        ⟨ddiv (if k = 2 then wrapSigned d else d) (f2d sg), [(3 * e.2 + k, fdiv (d2f d1) sg)]⟩
    | none => []

/-- Sum of squares of rows. -/
def sumSquares (rs : List BaRow) : F64 := rs.foldl (fun a r => dadd a (dmul r.r r.r)) d0

/-- Every row of the problem. -/
def BaProblem.rows (p : BaProblem) (x : List F64) : List BaRow := (p.assocRows x).flatten ++ p.priorRows x

/-! Levenberg-Marquardt iteration (R328; log 48). -/

/-- A coefficient of a row, widened. -/
def BaRow.coef (r : BaRow) (i : Nat) : F64 := (keyGet i r.cs).elim d0 f2d

/-- The normal matrix and right-hand side of rows in `n` unknowns, accumulated in binary64. -/
def normalOf (n : Nat) (rs : List BaRow) : List (List F64) × List F64 :=
  ((List.range n).map fun i => (List.range n).map fun j => rs.foldl (fun a r => dadd a (dmul (r.coef i) (r.coef j))) d0,
    (List.range n).map fun i => rs.foldl (fun a r => dadd a (dmul (r.coef i) r.r)) d0)

/-- The step of iteration `k`: the damped normal equations by Cholesky; none where a pivot is not positive. -/
def lmStep (p : BaProblem) (k : Nat) (x : List F64) : Option (List F64) :=
  let (m, v) := normalOf p.size (p.rows x)
  let damped := m.mapIdx fun i r => modAt r i fun a => dadd a (Config.lmDamp k x i)
  (cholRows [] damped).map fun l => upperSolve l (lowerSolve l v)

/-- Iterations until convergence, 20 at most: a step that does not lower the sum is not taken. The unknowns and the iterations made. -/
def lmRun (p : BaProblem) : Nat → Nat → List F64 → List F64 × Nat
  | 0, k, x => (x, k)
  | left + 1, k, x =>
    let y := (lmStep p k x).elim x fun d => axpy d1 d x
    let z := if dlt (sumSquares (p.rows y)) (sumSquares (p.rows x)) then y else x
    if Config.lmEnd k x z then (z, k + 1) else lmRun p left (k + 1) z

/-- Structure 58 of a problem at given unknowns: the upper triangle of its normal matrix (R306, R308; log 48). -/
def baStruct (p : BaProblem) (x : List F64) (tile : Nat) : Struct :=
  let rs := p.rows x
  let m := (normalOf p.size rs).1
  let both (i j : Nat) : Bool := i == j || rs.any fun r => (keyGet i r.cs).isSome && (keyGet j r.cs).isSome
  let es := (List.range p.size).flatMap fun j => ((List.range (j + 1)).filter fun i => both i j).map fun i => (i, j, at_ d0 (at_ [] m i) j)
  { kind := 2, rows := p.size, cols := p.size, entries := es, hash := structHash 2 p.size p.size es, tile := tile, bytes := reserved58 }

/-- A node's SIGMA at the end: from the largest of its three variances in the inverse; none where the matrix has no inverse. -/
def baSigma (n : Nat) (l : Option (List (List F64))) (c : Nat) : Option Byte :=
  l.map fun l =>
    let var (j : Nat) : F64 := at_ d0 (upperSolve l (lowerSolve l ((List.range n).map fun i => if i = j then d1 else d0))) j
    BitVec.ofNat 8 (sigmaCode (dsqrt (dmax (var c) (dmax (var (c + 1)) (var (c + 2))))))

/-- A pass from a problem and the map it started from. -/
def baSolve (p : BaProblem) (m : List (Nat × List Byte)) (gen : Nat) (s : State) : BaRun :=
  let (x, k) := lmRun p 20 0 p.start
  let l := cholRows [] (normalOf p.size (p.rows x)).1
  let obs := p.assocRows x
  let move (e : (Nat × V3) × Nat) : NodeMove :=
    let c := 3 * p.frames.length + 3 * e.2
    let b := posBytes s ⟨at_ d0 x c, at_ d0 x (c + 1), at_ d0 x (c + 2)⟩
    ⟨e.1.1, fieldS b 0 4, fieldS b 4 4, fieldS b 8 4, (baSigma p.size l c).getD (BitVec.ofNat 8 (byteAt ((keyGet e.1.1 m).getD []) 14))⟩
  { gen := gen, iters := k, rms := d2f (dsqrt (ddiv (sumSquares obs.flatten) (dofInt obs.length))), nodes := p.nodes.zipIdx.map move, x := x }

/-! A pass and its commit. -/

/-- A frame of the period in hand gets the authoritative estimates of stage 4 (R328). -/
def frameEstimates (s : State) : State :=
  let est : List F64 × List F32 := ((s.obs.auth.take 3).map f2d, s.obs.authSd.take 3)
  let put (f : BaFrame) : BaFrame := if f.period = s.sch.cur ∧ f.est.isNone then { f with est := some est } else f
  if s.obs.phys.running then { s with slv := { s.slv with frames := s.slv.frames.map put } } else s

/-- The tile of structure 58. -/
def baTile (s : State) : Nat := b2n (tileUp s 1)

/-- A pass begins once stage 9 leaves time for it, where frames are kept: structure 58 stands from then on, its tile's clock is asked for (R35, R306;
log 48). -/
def baStart (s : State) : State :=
  if pNat s 0x0622 = 1 && class3 s && s.slv.baRun.isNone && !s.slv.frames.isEmpty then
    let v := committedMap s
    let p := baProblem v.map s
    requestWake 3 { s with slv := { s.slv with baRun := some (baSolve p v.map v.gen s), structs := keyPut 58 (baStruct p p.start (baTile s)) s.slv.structs } }
      (12 + baTile s)
  else s

/-- Square of a move in units of 4 mm. -/
def moveSquare (r : List Byte) (x : NodeMove) : Nat :=
  ((x.x - fieldS r 0 4) ^ 2 + (x.y - fieldS r 4 4) ^ 2 + (x.z - fieldS r 8 4) ^ 2).toNat

/-- One node of a pass: moved or refused (R328). -/
def baNode (m : List (Nat × List Byte)) (acc : List (Nat × List Byte) × State) (x : NodeMove) : List (Nat × List Byte) × State :=
  let s := acc.2
  match keyGet x.node m with
  | none => acc
  | some r =>
    let d2 := moveSquare r x
    let lim := (num32 (pReal s 0x0624)).mul (Num.ofInt 250)
    if (Num.ofInt d2).le (lim.mul lim) then
      let prov := if nodeProv r then keyPut x.node { (keyGet x.node s.slv.prov).getD ⟨0, 0, false⟩ with adjusted := true } s.slv.prov else s.slv.prov
      (acc.1 ++ [(x.node, be 4 (satS 32 x.x) ++ be 4 (satS 32 x.y) ++ be 4 (satS 32 x.z) ++ slice r 12 2 ++ [x.sigma] ++ slice r 15 1)],
        { s with slv := { s.slv with prov := prov } })
    else (acc.1, record .baRejected (be 4 x.node ++ be 2 (satU 16 (isqrt (16 * d2)))) s)

/-- A pass ends: one generation, in which what a write or maintenance changed since its start stays; its report; structure 58 gone, its iterate
retained (R316, R328, R329). -/
def baCommit (b : BaRun) (s : State) : State :=
  let v := committedMap s
  let own := b.nodes.filter fun x => decide ((keyGet x.node v.changed).getD 0 ≤ b.gen)
  let a := own.foldl (baNode v.map) (([] : List (Nat × List Byte)), s)
  let w := a.2.slv
  let kept := match keyGet 58 w.structs with
    | some t => keyPut 58 ⟨t.hash, b.x, [], false⟩ w.retained
    | none => w.retained
  let s1 := { a.2 with slv := { w with baRun := none, baIter := b.iters, baRms := some b.rms, baMoved := a.1.length, baAt := now s,
                                       structs := keyDel 58 w.structs, retained := kept } }
  pushEffect 0 [] (.nodes a.1 (some b.gen)) s1

/-- BA_PASS (R328): the pass in progress ends, once its tile is ready; class 3 work waits while the schedule lags or a warning is raised (R403). -/
def execBaPass (s : State) : Result :=
  match s.slv.baRun with
  | none => .next s
  | some b =>
    .next (if pNat s 0x0622 = 1 && class3 s then
      onDomains 3 (solverTile 58 s) (fun s => let s1 := baCommit b s; if solverBusy (baTile s) s.host.nextEntry s1 then s1 else stopDomains [12 + baTile s] s1) s
    else s)

end Sys2Proof.Machine
end

