-- ==== Sys2Proof/Machine/Interlocks.lean ====
section
/-! DEFINITION. What the safety monitor tells the rest of the device (chapter 15): CHECK, confirmation, trips. -/

namespace Sys2Proof.Machine

/-- CHECK of a parameter set (R471). -/
def checkOf (body : List Byte) : Nat := crcNat ([0x56#8, 0x4B#8, 0x43#8, 0x56#8] ++ body)

/-- The set loaded. -/
def safSet (s : State) : Option SafSet := if s.saf.phase = 2 then s.saf.set else none

/-- The set is confirmed (R472). -/
def safConfirmed (s : State) : Bool :=
  match safSet s with
  | some p => (p.confirm.map (·.1)) == some (checkOf p.body)
  | none => false

/-- A byte of the set, zero where none is loaded (Table 15-6). -/
def setU8 (s : State) (off : Nat) : Nat := ((safSet s).map (fun p => byteAt p.body off)).getD 0

/-- A two-byte field of the set. -/
def setU16 (s : State) (off : Nat) : Nat := ((safSet s).map (fun p => fieldU p.body off 2)).getD 0

/-- A ramp is running on some channel. -/
def rampRunning (s : State) : Bool := s.saf.brakes.any (·.ramp.isSome)

/-- A trip source is latched or a ramp is running (R463). -/
def tripActive (s : State) : Bool := s.saf.latched != 0 || rampRunning s

/-- The channels released (R477). -/
def releasedMask (s : State) : Nat := flagsWord (s.saf.brakes.map (·.released))

end Sys2Proof.Machine
end

