-- ==== Sys2Proof/Machine/Control.lean ====
section
/-! DEFINITION. The control law (chapter 11): stage 5 as a function of its input record (Table 13-2), the configuration and map in
force and the control state, so that the parison chain runs the same text (R395). Binary32 in the order written; the
conversions of R251 in binary64. -/

namespace Sys2Proof.Machine

/-- What stage 5 works from: configuration and map in force, the input record, the commands first in force in this period, the
degradation requests of fusion (group, and whether for loss), and the periods skipped before this one. -/
structure CtlEnv where
  s : State
  inp : List Byte
  cmds : List Pend
  degrade : List (Nat × Bool)
  skip : Nat

/-- A stage 5 under way: control state, signals and events in order. -/
structure CtlRun where
  c : CtlState
  sigs : List (Nat × OutVal)
  evs : List (Ev × List Byte)

/-- An event of the stage. -/
def CtlRun.ev (r : CtlRun) (e : Ev) (ps : List Byte) : CtlRun := { r with evs := r.evs ++ [(e, ps)] }

/-- A signal of the stage, QUALITY GOOD (R366). -/
def CtlRun.out (r : CtlRun) (id : Nat) (v : Value) : CtlRun := { r with sigs := r.sigs ++ [(id, ⟨v, 1⟩)] }

/-- Consecutive f32 signals. -/
def CtlRun.outs (r : CtlRun) (id : Nat) (vs : List F32) : CtlRun :=
  (vs.mapIdx fun i v => (i, v)).foldl (fun r e => r.out (id + e.1) (vF32 e.2)) r

/-- A change of the control state. -/
def CtlRun.mod (r : CtlRun) (f : CtlState → CtlState) : CtlRun := { r with c := f r.c }

/-! The input record. -/

/-- Authoritative estimate q. -/
def CtlEnv.est (v : CtlEnv) (q : Nat) : F32 := fieldF32 v.inp (24 + 4 * q)
/-- dt in seconds (R338). -/
def CtlEnv.dt (v : CtlEnv) : F32 := secs32 (fieldU v.inp 8 4)
/-- QUALITY of a vote group. -/
def recQ (rec : List Byte) (g : Nat) : Nat := byteAt rec (60 + g)
/-- The target of TARGET_FOLLOW is usable (R361). -/
def recTarget (rec : List Byte) : Bool := bitOf (byteAt rec 80) 1
/-- The physics observer is RUNNING. -/
def recPhys (rec : List Byte) : Bool := bitOf (byteAt rec 81) 0
/-- Some OPTICAL reference (kind 4) is INCLUDED or PREFERRED (R334, R364). -/
def recOptical (s : State) (rec : List Byte) : Bool :=
  (List.range 12).any fun i => refKind s (i + 1) == 4 && (byteAt rec (68 + i) == 3 || byteAt rec (68 + i) == 6)

/-! Limits and periods. -/

/-- Field `f` of the record of axis `k` of CTRL_LIMITS (Table 11-4): 0 V, 1 A, 2 J, 3 FORCE_MAX, 4 JOY_FORCE, 5 FE_WARN,
6 FE_LIMIT. -/
def ctlLim (s : State) (k f : Nat) : F32 := fieldF32 (tabRec s 0x0390 48 k) (4 * f)

/-- A number of milliseconds in periods, rounded up. -/
def msPeriods (s : State) (m : Nat) : Nat := (m * 1000 + pNat s 0x0101 - 1) / max 1 (pNat s 0x0101)

/-- Length of a vector. -/
def fnorm2 (v : F32 × F32) : F32 := fsqrt (fadd (fmul v.1 v.1) (fmul v.2 v.2))
/-- R(ψ) v. -/
def frot (psi : F32) (v : F32 × F32) : F32 × F32 :=
  (fsub (fmul (fcos psi) v.1) (fmul (fsin psi) v.2), fadd (fmul (fsin psi) v.1) (fmul (fcos psi) v.2))
/-- R(ψ)ᵀ v. -/
def frotT (psi : F32) (v : F32 × F32) : F32 × F32 :=
  (fadd (fmul (fcos psi) v.1) (fmul (fsin psi) v.2), fsub (fmul (fcos psi) v.2) (fmul (fsin psi) v.1))
/-- Componentwise. -/
def fadd2 (a b : F32 × F32) : F32 × F32 := (fadd a.1 b.1, fadd a.2 b.2)
def fsub2 (a b : F32 × F32) : F32 × F32 := (fsub a.1 b.1, fsub a.2 b.2)
def fmul2 (a : F32 × F32) (k : F32) : F32 × F32 := (fmul a.1 k, fmul a.2 k)
def fdiv2 (a : F32 × F32) (k : F32) : F32 × F32 := (fdiv a.1 k, fdiv a.2 k)

/-- The first two of a list. -/
def pair (l : List F32) : F32 × F32 := (at_ 0 l 0, at_ 0 l 1)
/-- A pair as a list. -/
def unpair (p : F32 × F32) : List F32 := [p.1, p.2]

/-- The limit of quantity `f` along a local direction (R343). -/
def pathLimit (s : State) (psi : F32) (f : Nat) (w : F32 × F32) : F32 :=
  let d := frotT psi w
  let a := fdiv d.1 (ctlLim s 0 f)
  let b := fdiv d.2 (ctlLim s 1 f)
  fdiv f1 (fsqrt (fadd (fmul a a) (fmul b b)))

/-- Limits V, A, J. -/
structure Lims where
  v : F32
  a : F32
  j : F32

/-- The limits along a direction. -/
def dirLims (s : State) (psi : F32) (w : F32 × F32) : Lims := ⟨pathLimit s psi 0 w, pathLimit s psi 1 w, pathLimit s psi 2 w⟩
/-- The yaw limits. -/
def yawLims (s : State) : Lims := ⟨ctlLim s 2 0, ctlLim s 2 1, ctlLim s 2 2⟩

/-- s(v) of R346. -/
def stopDist (l : Lims) (v : F32) : F32 :=
  fadd (fdiv (fmul v v) (fmul (fofInt 2) l.a)) (fdiv (fmul v l.a) (fmul (fofInt 2) l.j))

/-- vlim(d) of R344. -/
def vlim (l : Lims) (d : F32) : F32 :=
  let aa := fmul l.a l.a
  fadd (fneg (fdiv aa (fmul (fofInt 2) l.j)))
    (fsqrt (fadd (fdiv (fmul (fmul aa l.a) l.a) (fmul (fmul (fofInt 4) l.j) l.j)) (fmul (fmul (fofInt 2) l.a) d)))

/-- Binary64 metres in binary32. -/
def toF (p : F64 × F64) : F32 × F32 := (d2f p.1, d2f p.2)
/-- Binary32 metres in binary64. -/
def toD (p : F32 × F32) : F64 × F64 := (f2d p.1, f2d p.2)

/-! Modes (R332 to R337). -/

/-- Level of a mode (Table 11-1). -/
def modeLevel (m : Nat) : Nat := min m 3
/-- Surge and sway are automatic. -/
def posAuto (m : Nat) : Bool := decide (3 ≤ m)
/-- Yaw is automatic. -/
def hdgAuto (m : Nat) : Bool := decide (2 ≤ m)
/-- The mode has JOY axes. -/
def joyMode (m : Nat) : Bool := m == 1 || m == 2
/-- The gain set of a mode. -/
def gainSet (m : Nat) : Nat := if m = 4 then 1 else if m = 6 then 2 else 0
/-- The source of an axis's demand (R355): 0 none, 1 joystick, 2 + gain set. -/
def axisSrc (m k : Nat) : Nat :=
  if m = 0 then 0 else if (if k = 2 then hdgAuto m else posAuto m) then 2 + gainSet m else 1

/-- Some thruster meets every condition of Table 12-2 but the control engine's mode, which the request is to change (log 50). -/
def anyThruster (s : State) : Bool := s.thr.thr.any (·.ready)

/-- The BERTHS record selected (R362). -/
def berthRec (s : State) : Option (List Byte) :=
  (records 32 (tab s 0x0395)).find? fun r => byteAt r 0 == pNat s 0x0311

/-- The conditions of Table 11-2. -/
def canEnter (s : State) (rec : List Byte) (m : Nat) : Bool :=
  let good (g : Nat) : Bool := recQ rec g == 1 || recQ rec g == 5
  let c1 := !(tab s 0x0390).isEmpty && anyThruster s
  let c2 := c1 && !(tab s 0x0391).isEmpty && recPhys rec && good 1
  let c3 := c2 && good 0
  match m with
  | 0 => true
  | 1 => c1
  | 2 => c2
  | 3 => c3
  | 4 => c3 && !(tab s 0x0393).isEmpty
  | 5 => c3 && recTarget rec
  | _ => c3 && (match berthRec s with
    | some r => (candLocal s (fieldU r 4 4)).isSome && (candLocal s (fieldU r 8 4)).isSome && recOptical s rec
    | none => false)

/-- The change rules of R333, step 4. -/
def mayChange (old m : Nat) : Bool := decide (m < 4) || old == 3 || old == m

/-- A new position target. -/
def setTarget (t : F64 × F64) (c : CtlState) : CtlState :=
  if c.target = t ∧ c.posSet then c else { c with target := t, posSet := true, arrivedPos := false }

/-- A new heading target. -/
def setHeading (t : F32) (c : CtlState) : CtlState :=
  if c.hdgTarget = t ∧ c.hdgSet then c else { c with hdgTarget := t, hdgSet := true, arrivedHdg := false }

/-- Halt of the position profile (R346). -/
def haltPos (s : State) (c : CtlState) : CtlState :=
  let v := pair c.vel
  let n := fnorm2 v
  let p := pair c.pos
  if flt 0 n then
    let w := fdiv2 v n
    setTarget (toD (fadd2 p (fmul2 w (stopDist (dirLims s c.psi w) n)))) c
  else setTarget (toD p) c

/-- Halt of the heading profile (R346). -/
def haltHdg (s : State) (c : CtlState) : CtlState :=
  let d := stopDist (yawLims s) (fabs c.yawRate)
  setHeading (fwrapFull (if flt 0 c.yawRate then fadd c.psi d else if flt c.yawRate 0 then fsub c.psi d else c.psi)) c

/-- The heading becomes automatic (R341). -/
def engageHdg (v : CtlEnv) (c : CtlState) : CtlState :=
  let r0 := v.est 5
  let lim := (yawLims v.s).v
  let r := if flt lim (fabs r0) then (if flt r0 0 then fneg lim else lim) else r0
  let c1 := { c with psi := v.est 2, yawRate := r, yawAcc := 0, integ := modAt c.integ 2 (fun _ => 0), arrivedHdg := false, hdgSet := false }
  let c2 := match c1.pendHdg with
    | some t => setHeading t c1
    | none => haltHdg v.s c1
  { c2 with pendHdg := none }

/-- The position axes become automatic (R341). -/
def engagePos (v : CtlEnv) (c : CtlState) : CtlState :=
  let vel := frot (v.est 2) (v.est 3, v.est 4)
  let n := fnorm2 vel
  let lim := pathLimit v.s c.psi 0 (fdiv2 vel n)
  let vel' := if flt 0 n ∧ flt lim n then fmul2 vel (fdiv lim n) else vel
  let c1 := { c with pos := [v.est 0, v.est 1], vel := unpair vel', acc := [0, 0], integ := [0, 0, at_ 0 c.integ 2],
                     arrivedPos := false, posSet := false }
  let c2 := match c1.pendPos with
    | some t => setTarget t c1
    | none => haltPos v.s c1
  { c2 with pendPos := none }

/-- What every entry to a mode restarts: joystick (R354), supervision counts (R356), arrivals and the progress of the moving modes. A degradation
asked for before the entry stays asked for (R336). -/
def enterState (old m : Nat) (c : CtlState) : CtlState :=
  let c1 := if joyMode m && !joyMode old then { c with joy := [0, 0, 0], joyAge := 0, joyTimeout := false }
    else if joyMode m then c else { c with joyTimeout := false }
  { c1 with
    mode := m,
    fe := c1.fe.mapIdx fun k f => if axisSrc m k ≤ 1 then feReset else { f with warnCount := 0, limitCount := 0 },
    waypoint := 0, legFrom := toD (pair c1.pos), holdAge := 0, trackEnd := false, lostCount := 0, targetLost := false,
    phase := if m = 6 then 1 else 0, optCount := 0, optLost := false, halted := false, arrivedPos := false, arrivedHdg := false, posSet := c1.posSet && posAuto m, hdgSet := c1.hdgSet && hdgAuto m }

/-- A change of mode with its event and what R341 engages. -/
def enterMode (v : CtlEnv) (m cause : Nat) (r : CtlRun) : CtlRun :=
  let old := r.c.mode
  if m = old then r
  else
    let c1 := if hdgAuto m && !hdgAuto old then engageHdg v r.c else r.c
    let c2 := if posAuto m && !posAuto old then engagePos v c1 else c1
    let r1 := ({ r with c := enterState old m c2 } : CtlRun).ev .modeChanged (be 1 old ++ be 1 m ++ be 1 cause)
    if m = 6 then r1.ev .berthPhase (be 1 1) else r1

/-- MODE_SET comes into force (R333, R335). -/
def applyMode (v : CtlEnv) (r : CtlRun) (m : Nat) : CtlRun :=
  let r0 := r.mod fun c => { c with degraded := false }
  if m = r.c.mode then r0
  else if canEnter v.s v.inp m && mayChange r.c.mode m then enterMode v m 0 r0
  else
    let got := ([3, 2, 1].find? fun k => decide (k ≤ modeLevel m) && canEnter v.s v.inp k).getD 0
    let r1 := (r0.mod fun c => { c with degraded := true }).ev .modeDegraded (be 1 r.c.mode ++ be 1 got ++ be 1 0)
    enterMode v got 0 r1

/-- A halt of the axes of `axes` (bits 2, 3 of R339) in the mode in force; a moving mode ends (R346). -/
def applyHalt (v : CtlEnv) (pos hdg : Bool) (r : CtlRun) : CtlRun :=
  if !pos && !hdg then r
  else if decide (4 ≤ r.c.mode) then
    (enterMode v 3 6 r).mod fun c => haltHdg v.s (haltPos v.s { c with posSet := false, hdgSet := false })
  else
    r.mod fun c =>
      let c1 := if pos && posAuto c.mode then haltPos v.s c else c
      if hdg && hdgAuto c.mode then haltHdg v.s c1 else c1

/-- SETPOINT_SET comes into force (R339, R340). -/
def applySetpoint (v : CtlEnv) (r : CtlRun) (ps : List Byte) : CtlRun :=
  let ax := byteAt ps 0
  let r1 := applyHalt v (bitOf ax 2) (bitOf ax 3) r
  let g := geodetic v.s (fieldF64 ps 4) (fieldF64 ps 12) (originH v.s)
  let h := fieldF32 ps 20
  let r2 := if bitOf ax 0 then
      r1.mod fun c => if c.mode = 3 then setTarget (g.x, g.y) c else { c with pendPos := some (g.x, g.y) }
    else r1
  if bitOf ax 1 then
    r2.mod fun c => if c.mode = 2 ∨ c.mode = 3 then setHeading h c else { c with pendHdg := some h }
  else r2

/-- JOYSTICK_SET comes into force (R354). -/
def applyJoystick (r : CtlRun) (ps : List Byte) : CtlRun :=
  r.mod fun c => if joyMode c.mode then
      { c with joy := [fieldF32 ps 0, fieldF32 ps 4, fieldF32 ps 8], joyAge := 0, joyTimeout := false }
    else c

/-- The joystick timer expires (R354). -/
def joyExpire (s : State) (r : CtlRun) : CtlRun :=
  if joyMode r.c.mode && !r.c.joyTimeout && decide (msPeriods s (pNat s 0x0302) ≤ r.c.joyAge) then
    (r.mod fun c => { c with joy := [0, 0, 0], joyTimeout := true }).ev .joyTimeout []
  else r

/-- Sub-step 5.1 (Table 11-3): modes, then setpoints and halts, then joystick values, each in the order completed. -/
def step51 (v : CtlEnv) (r : CtlRun) : CtlRun :=
  let old := r.c.mode
  let r1 := v.cmds.foldl (fun r p => match p.eff with
    | .mode m => applyMode v r m
    | _ => r) r
  let r2 := v.cmds.foldl (fun r p => match p.eff with
    | .setpoint ps => applySetpoint v r ps
    | _ => r) r1
  let joys := v.cmds.any fun p => match p.eff with
    | .joystick _ => true
    | _ => false
  let r3 := v.cmds.foldl (fun r p => match p.eff with
    | .joystick ps => applyJoystick r ps
    | _ => r) r2
  let r4 := if joys || !joyMode r3.c.mode || !joyMode old then r3 else r3.mod fun c => { c with joyAge := c.joyAge + 1 + v.skip }
  joyExpire v.s r4

/-- The degradation requests of the period (R336): mode and cause. -/
def degradeRequests (v : CtlEnv) (c : CtlState) : List (Nat × Nat) :=
  (v.degrade.filter (fun d => decide (d.1 ≤ 3))).map (fun d =>
    (if d.1 = 0 ∧ pNat v.s 0x0215 = 0 then 2 else 1, if d.2 then 2 else 1)) ++
  (if c.feRequest then [(1, 3)] else []) ++ (if c.targetRequest then [(3, 4)] else [])

/-- Sub-step 5.2 (R336). -/
def step52 (v : CtlEnv) (r : CtlRun) : CtlRun :=
  let reqs := degradeRequests v r.c
  let r0 := r.mod fun c => { c with feRequest := false, targetRequest := false }
  let pick := reqs.foldl (fun (a : Option (Nat × Nat)) q => match a with
    | none => some q
    | some b => if modeLevel q.1 < modeLevel b.1 then some q else some b) none
  match pick with
  | none => r0
  | some (m, cause) =>
    if modeLevel m < modeLevel r.c.mode ∨ (cause = 4 ∧ r.c.mode = 5) then
      let r1 := (r0.mod fun c => { c with degraded := true }).ev .modeDegraded (be 1 r.c.mode ++ be 1 m ++ be 1 cause)
      enterMode v m cause r1
    else r0

/-! Sub-step 5.3: targets of the moving modes. -/

/-- Waypoint `i` of TRACK (Table 11-5). -/
def wpRec (s : State) (i : Nat) : List Byte := tabRec s 0x0393 32 i
/-- How many waypoints. -/
def wpCount (s : State) : Nat := (tab s 0x0393).length / 32
/-- A waypoint's local position. -/
def wpPos (s : State) (i : Nat) : F64 × F64 :=
  let g := geodetic s (fieldF64 (wpRec s i) 0) (fieldF64 (wpRec s i) 8) (originH s)
  (g.x, g.y)
/-- Where the leg to waypoint `i` starts. -/
def legStart (s : State) (c : CtlState) (i : Nat) : F64 × F64 := if i = 0 then c.legFrom else wpPos s (i - 1)
/-- The bearing of the leg to waypoint `i`, in binary32. -/
def legBearing (s : State) (c : CtlState) (i : Nat) : F32 :=
  let a := toF (legStart s c i)
  let b := toF (wpPos s i)
  fatan2 (fsub b.2 a.2) (fsub b.1 a.1)
/-- The length of the leg to waypoint `i`. -/
def legLength (s : State) (c : CtlState) (i : Nat) : F32 := fnorm2 (fsub2 (toF (wpPos s i)) (toF (legStart s c i)))

/-- HOLD of a waypoint. -/
def wpHold (s : State) (i : Nat) : Bool := bitOf (byteAt (wpRec s i) 25) 0

/-- A rest waypoint (R358). -/
def wpRest (s : State) (c : CtlState) (i : Nat) : Bool :=
  wpHold s i || decide (wpCount s ≤ i + 1) ||
    flt (fofRat 1745 100000) (fabs (fwrap (fsub (legBearing s c (i + 1)) (legBearing s c i))))

/-- The legs after waypoint `i` up to the next rest waypoint (R358). -/
def restLegs (s : State) (c : CtlState) : Nat → Nat → F32 → F32
  | 0, _, a => a
  | n + 1, i, a => if wpRest s c i then a else restLegs s c n (i + 1) (fadd a (legLength s c (i + 1)))

/-- Periods of HOLD_S at a waypoint. -/
def wpHoldPeriods (s : State) (i : Nat) : Nat := msPeriods s (fieldU (wpRec s i) 26 2 * 1000)

/-- The active waypoint advances (R358). -/
def wpAdvance (r : CtlRun) : CtlRun :=
  let w := r.c.waypoint + 1
  (r.mod fun c => { c with waypoint := w, holdAge := 0, arrivedPos := false }).ev .trackWaypoint (be 1 w)

/-- The hold at a waypoint ends (R358). -/
def holdExpire (s : State) (r : CtlRun) : CtlRun :=
  let w := r.c.waypoint
  if r.c.mode = 4 ∧ wpHold s w ∧ r.c.arrivedPos ∧ w + 1 < wpCount s ∧ wpHoldPeriods s w ≤ r.c.holdAge then wpAdvance r else r

/-- TRACK in a period: advance at most once, then take the active waypoint's targets (R358). -/
def trackTargets (v : CtlEnv) (r : CtlRun) : CtlRun :=
  let s := v.s
  let w := r.c.waypoint
  let last := decide (wpCount s ≤ w + 1)
  let r1 :=
    if last then
      if r.c.arrivedPos && !r.c.trackEnd then (r.mod fun c => { c with trackEnd := true }).ev .trackEnd [] else r
    else if !wpRest s r.c w then
      let d := fnorm2 (fsub2 (toF (wpPos s w)) (pair r.c.pos))
      if fle d (fmul (fnorm2 (pair r.c.vel)) v.dt) then wpAdvance r else r
    else if !r.c.arrivedPos then r
    else if wpHold s w then holdExpire s (r.mod fun c => { c with holdAge := c.holdAge + 1 + v.skip })
    else wpAdvance r
  let i := r1.c.waypoint
  let h := fieldF32 (wpRec s i) 20
  let hdg := fwrapFull (if byteAt (wpRec s i) 24 = 0 then h else fadd (legBearing s r1.c i) h)
  r1.mod fun c => setHeading hdg (setTarget (wpPos s i) c)

/-- The target's position and heading in the period (R360); none when it is not usable (R361). -/
def followTarget (v : CtlEnv) : Option (F64 × F64 × F32) :=
  let b := tabRec v.s 0x0394 32 0
  if !recTarget v.inp then none
  else if byteAt b 0 = 0 then
    let g := geodetic v.s (fieldF64 v.inp 104) (fieldF64 v.inp 112) (originH v.s)
    some (g.x, g.y, d2f (fieldF64 v.inp 120))
  else
    match candLocal v.s (fieldU b 8 4), candLocal v.s (fieldU b 12 4) with
    | some p, some q => some (p.x, p.y, fatan2 (fsub (d2f q.y) (d2f p.y)) (fsub (d2f q.x) (d2f p.x)))
    | _, _ => none

/-- Loss of the target for TARGET_LOST_MS requests AUTO_POSITION (R361). -/
def targetExpire (s : State) (r : CtlRun) : CtlRun :=
  if r.c.mode = 5 ∧ r.c.targetLost ∧ msPeriods s (pNat s 0x0312) ≤ r.c.lostCount then
    r.mod fun c => { c with targetRequest := true }
  else r

/-- TARGET_FOLLOW in a period (R360, R361). -/
def followTargets (v : CtlEnv) (r : CtlRun) : CtlRun :=
  let b := tabRec v.s 0x0394 32 0
  let r1 := match followTarget v with
    | some (n, e, h) =>
      let o := frot h (fieldF32 b 16, fieldF32 b 20)
      let p := toD (fadd2 (toF (n, e)) o)
      let t : F64 × F64 × F32 := (p.1, p.2, fwrapFull (fadd h (fieldF32 b 24)))
      r.mod fun c => { c with heldTarget := t, targetLost := false, lostCount := 0 }
    | none =>
      let r0 := if r.c.targetLost then r else r.ev .targetLost []
      r0.mod fun c => { c with targetLost := true, lostCount := if c.targetLost then c.lostCount + 1 + v.skip else 1 }
  (targetExpire v.s r1).mod fun c => setHeading c.heldTarget.2.2 (setTarget (c.heldTarget.1, c.heldTarget.2.1) c)

/-- BERTH's geometry (R363): heading target, berth point, approach point. -/
structure BerthGeo where
  hdg : F32
  berth : F64 × F64
  approach : F64 × F64

/-- The geometry from the nodes' positions, in binary32 (R338). -/
def berthGeo (b : List Byte) (a q : F64 × F64) : BerthGeo :=
  let p := toF a
  let d := fsub2 (toF q) p
  let t := fdiv2 d (fnorm2 d)
  let n : F32 × F32 := if byteAt b 1 = 0 then (fneg t.2, t.1) else (t.2, fneg t.1)
  let at' (far : F32) : F64 × F64 := toD (fadd2 (fadd2 p (fmul2 t (fieldF32 b 12))) (fmul2 n far))
  let h := fatan2 t.2 t.1
  ⟨fwrapFull (if byteAt b 2 = 0 then h else fadd h fPi), at' (fieldF32 b 16), at' (fieldF32 b 20)⟩

/-- BERTH changes phase (R363). -/
def berthPhase (p : Nat) (r : CtlRun) : CtlRun := (r.mod fun c => { c with phase := p }).ev .berthPhase (be 1 p)

/-- BERTH_OPT_LOST is declared (R364). -/
def optExpire (s : State) (r : CtlRun) : CtlRun :=
  if r.c.mode = 6 ∧ 2 ≤ r.c.phase ∧ ¬ r.c.optLost ∧ msPeriods s (pNat s 0x0313) ≤ r.c.optCount then
    let r1 := (r.mod fun c => { c with optLost := true }).ev .berthOptLost []
    if r.c.phase = 2 then r1.mod fun c => { haltPos s c with halted := true } else r1
  else r

/-- BERTH in a period (R363, R364). -/
def berthTargets (v : CtlEnv) (r : CtlRun) : CtlRun :=
  let s := v.s
  let b := (berthRec s).getD []
  let r0 := match candLocal s (fieldU b 4 4), candLocal s (fieldU b 8 4) with
    | some a, some q => r.mod fun c => { c with berthA := (a.x, a.y), berthB := (q.x, q.y) }
    | _, _ => r
  let g := berthGeo b r0.c.berthA r0.c.berthB
  let near := fle (fabs (fwrap (fsub r0.c.psi (v.est 2)))) (fofRat 1745 100000)
  let r1 := if r0.c.phase = 1 ∧ r0.c.arrivedPos ∧ r0.c.arrivedHdg ∧ near then berthPhase 2 r0
    else if r0.c.phase = 2 ∧ r0.c.arrivedPos ∧ ¬ r0.c.halted then berthPhase 3 r0 else r0
  let r2 := if recOptical s v.inp then r1.mod fun c => { c with optCount := 0, optLost := false, halted := false }
    else optExpire s (r1.mod fun c => { c with optCount := c.optCount + 1 + v.skip })
  let r3 := r2.mod fun c => setHeading g.hdg c
  if r3.c.phase = 1 then r3.mod (setTarget g.approach) else if r3.c.halted then r3 else r3.mod (setTarget g.berth)

/-- Sub-step 5.3. -/
def step53 (v : CtlEnv) (r : CtlRun) : CtlRun :=
  match r.c.mode with
  | 4 => trackTargets v r
  | 5 => followTargets v r
  | 6 => berthTargets v r
  | _ => r

/-! Sub-step 5.4: the profile generator (R344). -/

/-- The speed limit of the move and the distance added for vlim (R358, R363). -/
def moveLimit (s : State) (c : CtlState) : Option F32 × F32 :=
  match c.mode with
  | 4 => (some (fieldF32 (wpRec s c.waypoint) 16), restLegs s c 256 c.waypoint 0)
  | 6 => (if c.phase = 2 then (berthRec s).map fun b => fieldF32 b 24 else none, 0)
  | _ => (none, 0)

/-- The position profile of a period. -/
def posProfile (v : CtlEnv) (c : CtlState) : CtlState :=
  let p := pair c.pos
  let vel := pair c.vel
  let a := pair c.acc
  let t := toF c.target
  let r := fsub2 t p
  let d := fnorm2 r
  let n := fnorm2 vel
  if fle d (fofRat 2 1000) ∧ fle n (fofRat 2 1000) then
    { c with pos := unpair t, vel := [0, 0], acc := [0, 0], arrivedPos := true }
  else
    let w := if flt 0 d then fdiv2 r d else fdiv2 vel n
    let l := dirLims v.s c.psi w
    let (mv, more) := moveLimit v.s c
    let sp := fmin (fmin l.v (mv.getD l.v)) (vlim l (fadd d more))
    let vd : F32 × F32 := if flt 0 d then fmul2 (fdiv2 r d) sp else (0, 0)
    let e := fsub2 vd vel
    let ne := fnorm2 e
    let ad : F32 × F32 := if flt 0 ne then fmul2 (fdiv2 e ne) (fmin l.a (fsqrt (fmul (fmul (fofInt 2) l.j) ne))) else (0, 0)
    let da0 := fsub2 ad a
    let jd := fmul l.j v.dt
    let da := if flt jd (fnorm2 da0) then fmul2 da0 (fdiv jd (fnorm2 da0)) else da0
    let a' := fadd2 a da
    let v1 := fadd2 vel (fmul2 a' v.dt)
    let cap := fmax l.v n
    let v2 := if flt cap (fnorm2 v1) then fmul2 v1 (fdiv cap (fnorm2 v1)) else v1
    { c with pos := unpair (fadd2 p (fmul2 v2 v.dt)), vel := unpair v2, acc := unpair a', arrivedPos := false }

/-- The heading profile of a period. -/
def hdgProfile (v : CtlEnv) (c : CtlState) : CtlState :=
  let r := fwrap (fsub c.hdgTarget c.psi)
  let d := fabs r
  let n := fabs c.yawRate
  if fle d (fofRat 2 10000) ∧ fle n (fofRat 2 10000) then
    { c with psi := fwrapFull c.hdgTarget, yawRate := 0, yawAcc := 0, arrivedHdg := true }
  else
    let l := yawLims v.s
    let vd := if flt 0 d then fmul (fdiv r d) (fmin l.v (vlim l d)) else 0
    let e := fsub vd c.yawRate
    let ne := fabs e
    let ad := if flt 0 ne then fmul (fdiv e ne) (fmin l.a (fsqrt (fmul (fmul (fofInt 2) l.j) ne))) else 0
    let da0 := fsub ad c.yawAcc
    let jd := fmul l.j v.dt
    let da := if flt jd (fabs da0) then fmul da0 (fdiv jd (fabs da0)) else da0
    let a' := fadd c.yawAcc da
    let v1 := fadd c.yawRate (fmul a' v.dt)
    let cap := fmax l.v n
    let v2 := if flt cap (fabs v1) then fmul v1 (fdiv cap (fabs v1)) else v1
    { c with psi := fwrapFull (fadd c.psi (fmul v2 v.dt)), yawRate := v2, yawAcc := a', arrivedHdg := false }

/-- Sub-step 5.4: position, then heading. -/
def step54 (v : CtlEnv) (r : CtlRun) : CtlRun :=
  r.mod fun c =>
    let c1 := if posAuto c.mode then posProfile v c else c
    if hdgAuto c1.mode then hdgProfile v c1 else c1

/-! Sub-step 5.5: wind (R350, R351). -/

/-- A coefficient of WIND_COEF at an angle, interpolated; 0 for Cx, 4 for Cy, 8 for Cn. -/
def windCoef (s : State) (off : Nat) (g : F32) : F32 :=
  if (tab s 0x0392).isEmpty then 0
  else
    let x := fdiv (fmul g (fofInt 36)) fTwoPi
    let i := (ffloorI x).toNat
    let w := fsub x (fofInt (ffloorI x))
    let at' (k : Nat) : F32 := fieldF32 (tabRec s 0x0392 12 (k % 36)) off
    fadd (at' i) (fmul (fsub (at' (i + 1)) (at' i)) w)

/-- Filtered speed and direction. -/
def windFiltered (c : CtlState) : F32 × F32 := (fnorm2 (pair c.wind), fwrapFull (fatan2 (at_ 0 c.wind 1) (at_ 0 c.wind 0)))

/-- The modelled wind force of a filtered wind. -/
def windModel (s : State) (w : F32 × F32) : List F32 :=
  let q := fmul (fmul (fofRat 1 2) (pReal s 0x0309)) (fmul w.1 w.1)
  [fmul (fmul q (pReal s 0x030A)) (windCoef s 0 w.2), fmul (fmul q (pReal s 0x030B)) (windCoef s 4 w.2),
    fmul (fmul (fmul q (pReal s 0x030B)) (pReal s 0x030C)) (windCoef s 8 w.2)]

/-- Sub-step 5.5. -/
def step55 (v : CtlEnv) (r : CtlRun) : CtlRun :=
  let sp := fieldF32 v.inp 84
  let g := fieldF32 v.inp 88
  if num32 sp != .nan && num32 g != .nan then
    r.mod fun c =>
      let tau := pReal v.s 0x0305
      let k := if !c.windSeen || !(flt 0 tau) then f1 else fdiv v.dt (fadd tau v.dt)
      let new : F32 × F32 := (fmul sp (fcos g), fmul sp (fsin g))
      let c1 := { c with wind := unpair (fadd2 (pair c.wind) (fmul2 (fsub2 new (pair c.wind)) k)), windSeen := true, windLost := 0 }
      { c1 with windForce := windModel v.s (windFiltered c1) }
  else
    let first := r.c.windLost == 0
    let r1 := if first then r.ev .windLost [] else r
    r1.mod fun c =>
      let from_ := if first then c.windForce else c.windFrom
      let n := if first then 1 else c.windLost + 1 + v.skip
      let t := fofRat ((n - 1) * pNat v.s 0x0101) 1000
      let big := fofInt (pNat v.s 0x0306)
      let k := if fle big t then 0 else fsub f1 (fdiv t big)
      { c with windFrom := from_, windLost := n, windSeen := false, windForce := from_.map fun x => fmul x k }

/-! Sub-steps 5.6 to 5.8. -/

/-- Blending at the start of a period (R355): an axis whose source changed holds its last demand; the count goes on. -/
def startBlend (v : CtlEnv) (c : CtlState) : CtlState :=
  let n := msPeriods v.s (pNat v.s 0x0301)
  let f (k : Nat) (b : Blend) : Blend :=
    let src := axisSrc c.mode k
    let b1 : Blend := if src = b.src then { b with m := b.m + 1 + v.skip } else { b with src := src, from_ := b.last, m := 1, on := true }
    if n ≤ b1.m then { b1 with on := false } else b1
  { c with blend := c.blend.mapIdx f }

/-- The errors of R347: position and heading, velocities, profile acceleration in the body frame. -/
structure CtlErr where
  e : List F32
  ed : List F32
  acc : List F32

/-- The errors of the automatic axes; those of any other axis are zero (log 223). -/
def ctlErrors (v : CtlEnv) (c : CtlState) : CtlErr :=
  let auto (l : List F32) : List F32 := l.mapIdx fun k x => if axisSrc c.mode k ≤ 1 then 0 else x
  let psi := v.est 2
  let e := frotT psi (fsub2 (pair c.pos) (v.est 0, v.est 1))
  let ed := fsub2 (frotT psi (pair c.vel)) (v.est 3, v.est 4)
  let a := frotT psi (pair c.acc)
  ⟨auto [e.1, e.2, fwrap (fsub c.psi psi)], auto [ed.1, ed.2, fsub c.yawRate (v.est 5)], auto [a.1, a.2, c.yawAcc]⟩

/-- hold(k) of R348. -/
def ctlHold (v : CtlEnv) (c : CtlState) (k : Nat) : Bool :=
  let b := at_ blendReset c.blend k
  let far := fieldU v.inp 128 8 == c.demandPeriod &&
    flt (fmul (pReal v.s 0x0314) (ctlLim v.s k 3)) (fabs (fsub (fieldF32 v.inp (136 + 4 * k)) (at_ 0 c.demand k)))
  b.clipped || far || b.on

/-- A gain of CTRL_GAINS (R349): 0 KP, 1 KI, 2 KD, 3 ILIM. -/
def ctlGain (s : State) (set k f : Nat) : F32 := fieldF32 (tabRec s 0x0391 16 (3 * set + k)) (4 * f)

/-- The integrator of an automatic axis (R348). -/
def integNext (v : CtlEnv) (c : CtlState) (k : Nat) (e : F32) : F32 :=
  let g := gainSet c.mode
  let i0 := at_ 0 c.integ k
  let i1 := if ctlHold v c k then i0 else fadd i0 (fmul (fmul (ctlGain v.s g k 1) e) v.dt)
  let lim := ctlGain v.s g k 3
  let i2 := if flt lim i1 then lim else i1
  if flt i2 (fneg lim) then fneg lim else i2

/-- A joystick value after the dead band (R354). -/
def joyShape (s : State) (j : F32) : F32 :=
  let b := pReal s 0x0303
  if fle (fabs j) b then 0
  else
    let x := fdiv (fsub (fabs j) b) (fsub f1 b)
    if flt j 0 then fneg x else x

/-- The mass matrix times an acceleration (R348); zero without OBS_MODEL. -/
def massForce (s : State) (a : List F32) : List F32 :=
  match obsModel s with
  | some m => (List.range 3).map fun i => fdot (at_ [] m.mass i) a
  | none => [0, 0, 0]

/-- What 5.6 gives: demands, feedback, wind and current feed-forward. -/
structure CtlLaw where
  tau : List F32
  fb : List F32
  wff : List F32
  cff : List F32

/-- Sub-step 5.6 (R348, R350, R352 to R354). The integrators are those of the period. -/
def ctlLaw (v : CtlEnv) (c : CtlState) (er : CtlErr) : CtlLaw :=
  let s := v.s
  let g := gainSet c.mode
  let auto (k : Nat) : Bool := decide (2 ≤ axisSrc c.mode k)
  let wff := (List.range 3).map fun k => if c.mode = 0 then 0 else fmul (fneg (pReal s 0x0307)) (at_ 0 c.windForce k)
  let b := frotT (v.est 2) (v.est 6, v.est 7)
  let cf := [b.1, b.2, v.est 8]
  let cff := (List.range 3).map fun k => if auto k then fmul (fneg (pReal s 0x0308)) (at_ 0 cf k) else 0
  let fb := (List.range 3).map fun k =>
    if auto k then fadd (fadd (fmul (ctlGain s g k 0) (at_ 0 er.e k)) (fmul (ctlGain s g k 2) (at_ 0 er.ed k))) (at_ 0 c.integ k) else 0
  let aff := massForce s er.acc
  let tau := (List.range 3).map fun k =>
    match axisSrc c.mode k with
    | 0 => 0
    | 1 => fadd (fmul (joyShape s (at_ 0 c.joy k)) (ctlLim s k 4)) (at_ 0 wff k)
    | _ => fadd (fadd (fadd (at_ 0 fb k) (at_ 0 aff k)) (at_ 0 wff k)) (at_ 0 cff k)
  ⟨tau, fb, wff, cff⟩

/-- Blended and clipped demand of an axis (R353, R355). -/
def blendAxis (v : CtlEnv) (k : Nat) (tau : F32) (b : Blend) : Blend :=
  let n := msPeriods v.s (pNat v.s 0x0301)
  let w := fdiv (fofInt b.m) (fofInt n)
  let x := if b.on then fadd (fmul b.from_ (fsub f1 w)) (fmul tau w) else tau
  let lim := ctlLim v.s k 3
  let y := if flt lim x then lim else if flt x (fneg lim) then fneg lim else x
  { b with last := y, clipped := y != x }

/-- Entry and exit of WARN or LIMIT (R356): state, count, whether entered. -/
def feLevel (v : CtlEnv) (e level : F32) (n : Nat) (on : Bool) (count : Nat) : Bool × Nat × Bool :=
  let hit := if on then fle e (fmul (fofRat 8 10) level) else flt level e
  if hit then
    let k := count + 1 + v.skip
    if max 1 n ≤ k then (!on, 0, !on) else (on, k, false)
  else (on, 0, false)

/-- FOLLOW_WARN is entered. -/
def feWarn (k : Nat) (e : F32) (r : CtlRun) : CtlRun := r.ev .followWarn (be 1 k ++ be 1 0 ++ be 4 e.toNat)

/-- FOLLOW_LIMIT is entered, with the action of FE_ACTION (R356). -/
def feLimit (v : CtlEnv) (k : Nat) (e : F32) (r : CtlRun) : CtlRun :=
  let r1 := r.ev .followLimit (be 1 k ++ be 1 0 ++ be 4 e.toNat)
  match pNat v.s 0x0310 with
  | 1 => applyHalt v (k != 2) (k == 2) r1
  | 2 => r1.mod fun c => { c with feRequest := true }
  | _ => r1

/-- Supervision of an axis in a period (R356). -/
def feAxis (v : CtlEnv) (er : CtlErr) (r : CtlRun) (k : Nat) : CtlRun :=
  if axisSrc r.c.mode k ≤ 1 then r.mod fun c => { c with fe := modAt c.fe k fun _ => feReset }
  else
    let e := at_ 0 er.e k
    let f := at_ feReset r.c.fe k
    let lim := tabRec v.s 0x0390 48 k
    let w := feLevel v (fabs e) (ctlLim v.s k 5) (msPeriods v.s (fieldU lim 28 4)) f.warn f.warnCount
    let l := feLevel v (fabs e) (ctlLim v.s k 6) (msPeriods v.s (fieldU lim 32 4)) f.limit f.limitCount
    let r1 := r.mod fun c => { c with fe := modAt c.fe k fun _ => ⟨w.1, w.2.1, l.1, l.2.1⟩ }
    let r2 := if w.2.2 then feWarn k e r1 else r1
    if l.2.2 then feLimit v k e r2 else r2

/-- ALARMS (Table 11-8). -/
def ctlAlarms (v : CtlEnv) (c : CtlState) : Nat :=
  let pred (g : Nat) : Bool := recQ v.inp g == 6 || recQ v.inp g == 7
  flagsWord ([pred 0, pred 1, c.degraded] ++ c.fe.map (·.warn) ++ c.fe.map (·.limit) ++
    [c.blend.any (·.clipped), decide (0 < c.windLost), c.joyTimeout, c.targetLost, c.optLost, c.trackEnd,
     decide (fieldU v.inp 20 4 % 65536 ≠ 0)])

/-- Stage 5 (Table 11-3). -/
def stage5 (v : CtlEnv) (c0 : CtlState) : CtlRun :=
  let r := step55 v (step54 v (step53 v (step52 v (step51 v ⟨c0, [], []⟩))))
  let r := r.mod (startBlend v)
  let er := ctlErrors v r.c
  let r := r.mod fun c => { c with integ := c.integ.mapIdx fun k i => if axisSrc c.mode k ≤ 1 then i else integNext v c k (at_ 0 er.e k) }
  let law := ctlLaw v r.c er
  let r := r.mod fun c => { c with blend := c.blend.mapIdx fun k b => blendAxis v k (at_ 0 law.tau k) b }
  let r := r.mod fun c => { c with demand := c.blend.map (·.last), demandPeriod := fieldU v.inp 0 8 }
  let r := [0, 1, 2].foldl (feAxis v er) r
  let r := r.mod fun c => { c with alarms := ctlAlarms v c }
  let c := r.c
  let r := ((r.out 0x0400 (vU32 c.mode)).out 0x0401 (vU32 c.alarms)).outs 0x0402 c.demand
  let r := (((r.outs 0x0405 law.fb).outs 0x0408 c.windForce).outs 0x040B law.wff).outs 0x040E law.cff
  let r := (r.outs 0x0411 c.integ).outs 0x0414 er.e
  let r := ((r.out 0x0417 (vF64 (f2d (at_ 0 c.pos 0)))).out 0x0418 (vF64 (f2d (at_ 0 c.pos 1)))).out 0x0419 (vF32 c.psi)
  let r := r.outs 0x041A [at_ 0 c.vel 0, at_ 0 c.vel 1, c.yawRate]
  let r := ((r.out 0x041D (vF64 c.target.1)).out 0x041E (vF64 c.target.2)).out 0x041F (vF32 c.hdgTarget)
  let r := r.out 0x0420 (vU32 (if c.mode = 4 then c.waypoint else if c.mode = 6 then c.phase else 0))
  r.outs 0x0421 [(windFiltered c).1, (windFiltered c).2]

/-! A class 0 stop (R337). -/

/-- The control engine in STANDBY at once, without blending; pending MODE_SETs bring no other mode. MODE_CHANGED is recorded
where the mode changes. -/
def stopControl (s : State) : State :=
  let old := s.ctl.mode
  let dead (b : Blend) : Blend := { b with src := 0, on := false, last := 0, clipped := false }
  let c1 := { enterState old 0 s.ctl with feRequest := false, targetRequest := false }
  let keep (p : Pend) : Bool := match p.eff with
    | .mode m => m == 0
    | _ => true
  let s1 := { s with ctl := { c1 with blend := c1.blend.map dead }, sch := { s.sch with pend := s.sch.pend.filter keep, cmds := s.sch.cmds.filter keep } }
  if old = 0 then s1 else record .modeChanged (be 1 old ++ be 1 0 ++ be 1 5) s1

/-! Rows that a count brings about: the stage reaches each of them itself, so they act only where a count has already run out. -/

/-- A row's effect on the control state with its events. -/
def ctlRow (f : CtlRun → CtlRun) (s : State) : State :=
  let r := f ⟨s.ctl, [], []⟩
  r.evs.foldl (fun s e => record e.1 e.2 s) { s with ctl := r.c }

/-- JOY_TIMEOUT (R354). -/
def execJoyTimeout (s : State) : Result := .next (ctlRow (joyExpire s) s)

/-- TARGET_LOST_TIMEOUT (R361). -/
def execTargetLostTimeout (s : State) : Result := .next (ctlRow (targetExpire s) s)

/-- BERTH_OPT_LOST (R364). -/
def execBerthOptLost (s : State) : Result := .next (ctlRow (optExpire s) s)

/-- TRACK_HOLD_EXPIRY (R358). -/
def execTrackHoldExpiry (s : State) : Result := .next (ctlRow (holdExpire s) s)

/-- The environment of the latest completed stage 5. -/
def lastEnv (s : State) : CtlEnv := ⟨s, s.sch.rec5, [], [], 0⟩

/-- A supervision level whose count has run out (R356). -/
def feExpire (limit : Bool) (k : Nat) (s : State) (r : CtlRun) : CtlRun :=
  let v := lastEnv s
  let f := at_ feReset r.c.fe k
  let lim := tabRec s 0x0390 48 k
  let e := at_ 0 (ctlErrors v r.c).e k
  if axisSrc r.c.mode k ≤ 1 then r
  else if limit then
    if !f.limit && decide (max 1 (msPeriods s (fieldU lim 32 4)) ≤ f.limitCount) then
      feLimit v k e (r.mod fun c => { c with fe := modAt c.fe k fun f => { f with limit := true, limitCount := 0 } })
    else r
  else if !f.warn && decide (max 1 (msPeriods s (fieldU lim 28 4)) ≤ f.warnCount) then
    feWarn k e (r.mod fun c => { c with fe := modAt c.fe k fun f => { f with warn := true, warnCount := 0 } })
  else r

/-- FOLLOW_WARN (R356). -/
def execFollowWarn (axis : Fin 3) (s : State) : Result := .next (ctlRow (feExpire false axis.val s) s)

/-- FOLLOW_LIMIT (R356). -/
def execFollowLimit (axis : Fin 3) (s : State) : Result := .next (ctlRow (feExpire true axis.val s) s)

end Sys2Proof.Machine
end

