-- ==== Sys2Proof/Machine/Modes.lean ====
section
/-! DEFINITION. The mode and setpoint commands (R99, R100, R333, R339, R340, R354) and the checks of the control tables. -/

namespace Sys2Proof.Machine

/-- Replay supplies every control input (R409); only the MASTER takes them from the host (R422). -/
def controlBarred (s : State) : Nat :=
  firstOf [when_ (decide (pNat s 0x035D = 1)) stNotReady, when_ (isFollower s) stInconsistent]

/-- The checks of R333, those of Table 11-2 as the latest completed stage 5 found them, and of R517 while an entry to SLEEP or deeper is pending. -/
def modeSetCheck (c : Cmd) (s : State) : Nat :=
  let m := byteAt c.params 0
  firstOf [sizeIs 1 c, when_ (decide (6 < m)) stBadEnum, controlBarred s,
    if m = 0 then 0
    else firstOf [when_ (!s.cfg.locked) stConfigUnlocked, when_ (!safConfirmed s) stNotConfirmed, when_ (tripActive s) stTripActive,
      when_ (!mayChange s.ctl.mode m || s.pwr.entryPending.isSome) stModeRefused, when_ (!(s.sch.enter5.contains m)) stNotReady]]

/-- MODE_SET (0x0301, R333). -/
def opModeSet : OpDef := stepOp 0x0301 1 modeSetCheck fun c s =>
  finishWith c (.mode (byteAt c.params 0)) (be 1 (byteAt c.params 0)) s

/-- MODE_SET (R333). -/
def execModeSet (r : Req) (p : List Byte) (s : State) : Result := .next (packetIn true opModeSet r p s)

/-- CONTROL_STATUS (0x0302, R100). -/
def opControlStatus : OpDef := readOp 0x0302 1 0 (fun _ _ => 0) fun _ s =>
  be 1 s.ctl.mode ++ be 1 0 ++
    (if s.sch.rec5.isEmpty then be 2 0 ++ be 8 (allOnes 64) ++ zeros 12
     else be 2 s.ctl.alarms ++ slice s.sch.rec5 0 8 ++ s.ctl.demand.flatMap fun x => be 4 x.toNat)

/-- CONTROL_STATUS (R100). -/
def execControlStatus (r : Req) (p : List Byte) (s : State) : Result := .next (packetIn true opControlStatus r p s)

/-- Distance of two local points. -/
def ddist2 (n e n' e' : F64) : F64 := dsqrt (dadd (dmul (dsub n n') (dsub n n')) (dmul (dsub e e') (dsub e e')))

/-- The checks of R339 in the order of R566. Estimates are those of the latest completed stage 5. -/
def setpointCheck (c : Cmd) (s : State) : Nat :=
  let ps := c.params
  let ax := byteAt ps 0
  let lat := fieldF64 ps 4
  let lon := fieldF64 ps 12
  let g := geodetic s lat lon (originH s)
  let h := fieldF32 ps 20
  let est (q : Nat) : F64 := f2d (fieldF32 s.sch.rec5 (24 + 4 * q))
  firstOf [sizeIs 24 c, when_ (decide (16 ≤ ax)) stOutOfRange, zeroAt c 1 3,
    when_ (bitOf ax 0 && !(dfinite lat && dfinite lon && dle (ddist2 g.x g.y d0 d0) (dofInt 50000))) stOutOfRange,
    when_ (bitOf ax 1 && !(ffinite h && fle 0 h && flt h fTwoPi)) stOutOfRange,
    when_ ((bitOf ax 0 && bitOf ax 2) || (bitOf ax 1 && bitOf ax 3)) stInconsistent,
    controlBarred s,
    when_ (bitOf ax 0 && dlt (f2d (pReal s 0x0304)) (ddist2 g.x g.y (est 0) (est 1))) stInconsistent]

/-- SETPOINT_SET (0x0310, R339). -/
def opSetpointSet : OpDef := stepOp 0x0310 1 setpointCheck fun c s => finishWith c (.setpoint c.params) [] s

/-- SETPOINT_SET (R339). -/
def execSetpointSet (r : Req) (p : List Byte) (s : State) : Result := .next (packetIn true opSetpointSet r p s)

/-- The position and heading SETPOINT_GET returns first (R340). -/
def setpointShown (c : CtlState) : (F64 × F64) × F32 :=
  (if posAuto c.mode && c.posSet then c.target else c.pendPos.getD (toD (pair c.pos)),
   if hdgAuto c.mode && c.hdgSet then c.hdgTarget else c.pendHdg.getD c.psi)

/-- SETPOINT_GET (0x0311, R340). -/
def opSetpointGet : OpDef := readOp 0x0311 1 0 (fun _ _ => 0) fun _ s =>
  let g := setpointShown s.ctl
  let geo (p : F64 × F64) : List Byte := let x := toGeodetic s p.1 p.2; be 8 x.1.toNat ++ be 8 x.2.toNat
  geo g.1 ++ be 4 g.2.toNat ++ geo (toD (pair s.ctl.pos)) ++ be 4 s.ctl.psi.toNat

/-- SETPOINT_GET (R340). -/
def execSetpointGet (r : Req) (p : List Byte) (s : State) : Result := .next (packetIn true opSetpointGet r p s)

/-- JOYSTICK_SET (0x0320, R354). -/
def opJoystickSet : OpDef := stepOp 0x0320 1
  (fun c s => firstOf [sizeIs 12 c,
    when_ (!([0, 4, 8].all fun o => fin32 (rat (-1) 1) (rat 1 1) (fieldF32 c.params o))) stOutOfRange,
    controlBarred s, when_ (!joyMode s.ctl.mode) stModeRefused])
  fun c s => finishWith c (.joystick c.params) [] s

/-- JOYSTICK_SET (R354). -/
def execJoystickSet (r : Req) (p : List Byte) (s : State) : Result := .next (packetIn true opJoystickSet r p s)

/-! Step 2 of TABLE_WRITE for the control tables. -/

/-- A body of whole records, at most `n` of them. -/
def wholeRecs (size n : Nat) (b : List Byte) : Bool := b.length % size == 0 && decide (b.length ≤ size * n)

/-- Every record passes, else OUT_OF_RANGE. -/
def recsOk (size : Nat) (f : List Byte → Bool) (b : List Byte) : Nat := when_ (!(records size b).all f) stOutOfRange

/-- 0x0390, CTRL_LIMITS (R342). -/
def limitsTableStatus (b : List Byte) : Nat :=
  firstOf [when_ (b.length != 0 && b.length != 144) stInconsistent,
    recsOk 48 (fun r => [0, 4, 8, 12, 20].all (fun o => fpos (fieldF32 r o)) && ffinite (fieldF32 r 16) && fle 0 (fieldF32 r 16) &&
      ffinite (fieldF32 r 24) && decide (fieldU r 28 4 ≤ 600000) && decide (fieldU r 32 4 ≤ 600000) && allZero (slice r 36 12)) b,
    when_ (!(records 48 b).all (fun r => fle (fieldF32 r 20) (fieldF32 r 24) && fle (fieldF32 r 16) (fieldF32 r 12))) stInconsistent]

/-- 0x0391, CTRL_GAINS (R349). -/
def gainsTableStatus (b : List Byte) : Nat :=
  firstOf [when_ (b.length != 0 && b.length != 144) stInconsistent, recsOk 4 (fun r => ffinite (fieldF32 r 0) && fle 0 (fieldF32 r 0)) b]

/-- 0x0392, WIND_COEF (R350). -/
def windTableStatus (b : List Byte) : Nat :=
  firstOf [when_ (b.length != 0 && b.length != 432) stInconsistent, recsOk 4 (fun r => ffinite (fieldF32 r 0)) b]

/-- A geodetic position within 50,000 m of the local origin, as a local point. -/
def nearOrigin (s : State) (lat lon : F64) : Bool :=
  let g := geodetic s lat lon (originH s)
  dfinite lat && dfinite lon && dle (ddist2 g.x g.y d0 d0) (dofInt 50000)

/-- Consecutive waypoints at least 0.01 m apart (R357). -/
def apart (s : State) : List (List Byte) → Bool
  | a :: b :: rs =>
    let p := geodetic s (fieldF64 a 0) (fieldF64 a 8) (originH s)
    let q := geodetic s (fieldF64 b 0) (fieldF64 b 8) (originH s)
    !dlt (ddist2 p.x p.y q.x q.y) (dofRat 1 100) && apart s (b :: rs)
  | _ => true

/-- 0x0393, TRACK (R357). -/
def trackTableStatus (s : State) (b : List Byte) : Nat :=
  firstOf [when_ (!wholeRecs 32 256 b) stInconsistent,
    recsOk 32 (fun r => nearOrigin s (fieldF64 r 0) (fieldF64 r 8) && fin32 (rat 1 100) (rat 10 1) (fieldF32 r 16) &&
      fle (fneg fPi) (fieldF32 r 20) && fle (fieldF32 r 20) fTwoPi && decide (byteAt r 24 ≤ 1) && decide (byteAt r 25 ≤ 1) &&
      allZero (slice r 28 4)) b,
    when_ (decide (s.ctl.mode = 4) || !apart s (records 32 b)) stInconsistent]

/-- 0x0394, TARGET (R359). -/
def targetTableStatus (s : State) (b : List Byte) : Nat :=
  let k := byteAt b 0
  firstOf [when_ (b.length != 0 && b.length != 32) stInconsistent,
    if b.isEmpty then 0 else firstOf [
      when_ (!(decide (k ≤ 1) && byteAt b 1 == 0 && ffinite (fieldF32 b 16) && ffinite (fieldF32 b 20) && fle (fneg fPi) (fieldF32 b 24) &&
        fle (fieldF32 b 24) fPi && allZero (slice b 28 4) &&
        (if k = 0 then allZero (slice b 8 8)
         else allZero (slice b 2 6) && decide (fieldU b 8 4 < mapSlots) && decide (fieldU b 12 4 < mapSlots)))) stOutOfRange,
      when_ (k == 0 && !(sigType s (fieldU b 2 2) == some 1 && sigType s (fieldU b 4 2) == some 1 &&
        (sigType s (fieldU b 6 2) == some 0 || sigType s (fieldU b 6 2) == some 1))) stInconsistent]]

/-- 0x0395, BERTHS (R362). -/
def berthsTableStatus (s : State) (b : List Byte) : Nat :=
  let rs := records 32 b
  firstOf [when_ (!wholeRecs 32 16 b) stInconsistent,
    recsOk 32 (fun r => decide (byteAt r 0 ≤ 15) && decide (byteAt r 1 ≤ 1) && decide (byteAt r 2 ≤ 1) && byteAt r 3 == 0 &&
      decide (fieldU r 4 4 < mapSlots) && decide (fieldU r 8 4 < mapSlots) && fin32 (rat (-2000) 1) (rat 2000 1) (fieldF32 r 12) &&
      fin32 (rat 1 2) (rat 200 1) (fieldF32 r 16) && fin32 (rat 1 1) (rat 2000 1) (fieldF32 r 20) &&
      fin32 (rat 1 100) (rat 1 1) (fieldF32 r 24) && allZero (slice r 28 4)) b,
    when_ (decide (s.ctl.mode = 6) || decide (((rs.map (byteAt · 0)).eraseDups).length ≠ rs.length) ||
      !rs.all (fun r => flt (fieldF32 r 16) (fieldF32 r 20))) stInconsistent]

/-- A wind source names an enabled group of its role (R367). -/
def windSrcOk (s : State) (id role : Nat) : Bool :=
  let g := pNat s id
  g == 0xFF || (groupOn s g && (groupMembers s g).all fun m => decide (0x40 ≤ m) && finRole s (m - 0x40) == role)

end Sys2Proof.Machine
end

