-- ==== Sys2Proof/Machine/Thrusters.lean ====
section
/-! DEFINITION. Thrusters and thrust allocation (chapter 12): availability, structure 56, the solve of stage 6 and what stage 7 forms
from it. Binary64 but for what the tables give as f32 (log 51). -/

namespace Sys2Proof.Machine

open Sys2Proof.Config (mSin mCos mAtan2)

/-! Configuration (Table 12-1). -/

/-- Record of thruster `t`. -/
def thrRec (s : State) (t : Nat) : List Byte := tabRec s 0x03A0 64 t
/-- KIND: 0 NONE, 1 AZIMUTH, 2 FIXED. -/
def thrKind (s : State) (t : Nat) : Nat := byteAt (thrRec s t) 1
/-- An f32 field, widened. -/
def thrF (s : State) (t off : Nat) : F64 := f2d (fieldF32 (thrRec s t) off)
/-- BUS. -/
def thrBus (s : State) (t : Nat) : Nat := byteAt (thrRec s t) 3
/-- F_MAX_FWD and F_MAX_REV. -/
def thrFwd (s : State) (t : Nat) : F64 := thrF s t 16
def thrRev (s : State) (t : Nat) : F64 := thrF s t 20
/-- The configured thrusters, ascending. -/
def configured (s : State) : List Nat := (List.range 32).filter fun t => thrKind s t != 0
/-- VP in seconds. -/
def vpSec (s : State) : F64 := dofRat (pNat s 0x0101) 1000000
/-- ΔF and Δ of a period (R375). -/
def thrDF (s : State) (t : Nat) : F64 := dmul (thrF s t 24) (vpSec s)
def thrDA (s : State) (t : Nat) : F64 := dmul (thrF s t 28) (vpSec s)

/-- The forbidden sectors, FROM and TO. -/
def sectorsOf (r : List Byte) : List (F64 × F64) :=
  [44, 52].filterMap fun o =>
    let a := fieldF32 r o
    let b := fieldF32 r (o + 4)
    if num32 a == .nan || num32 b == .nan then none else some (f2d a, f2d b)

/-- Strictly inside the open arc from FROM clockwise to TO (R375). -/
def insideSector (a : F64) (x : F64 × F64) : Bool :=
  let d := wrapFull (dsub a x.1)
  dlt d0 d && dlt d (wrapFull (dsub x.2 x.1))

/-- One period's move of a parked azimuth toward the nearer edge. -/
def unpark (da a : F64) (x : F64 × F64) : F64 :=
  let back := wrapFull (dsub a x.1)
  let on := wrapFull (dsub x.2 a)
  if dle back on then (if dle back da then x.1 else wrapFull (dsub a da)) else if dle on da then x.2 else wrapFull (dadd a da)

/-- What is known of a thruster. -/
def thrOf (s : State) (t : Nat) : Thr := at_ thrReset1 s.thr.thr t
/-- Change a thruster. -/
def modThr (t : Nat) (f : Thr → Thr) (s : State) : State := { s with thr := { s.thr with thr := modAt s.thr.thr t f } }

/-! Feedback (R212, R427). -/

/-- The drive of this device that turns thruster `t`. -/
def driveIdx (s : State) (t : Nat) : Option Nat :=
  if s.grp.role = 3 then (if 16 ≤ t then some (t - 16) else none) else if t < 16 then some t else none

/-- Thruster 16 + i's part of an EXT_FB: status word, FEEDBACK, its stamp. -/
def extPart (p : List Byte) (t : Nat) : List Byte := slice p (40 * (t - 16)) 40

/-- The latest FEEDBACK of a thruster that arrived before an instant, with its arrival stamp. -/
def fbBefore (s : State) (t : Nat) (limit : Int) : Option (Nat × List Byte) :=
  match driveIdx s t with
  | some i => (driveSt s i).fbs.find? fun f => decide ((f.1 : Int) < limit)
  | none =>
    (s.grp.extFb.filterMap fun p =>
      let e := extPart p.2 t
      if allZero (slice e 28 10) then none else some (fieldU e 28 6 * 10 ^ 9 + fieldU e 34 4, slice e 4 24)).find? fun f => decide ((f.1 : Int) < limit)

/-- Drive supervision of a thruster (R218, R427). -/
def thrSupervision (s : State) (t : Nat) : Nat :=
  match driveIdx s t with
  | some i => supervision (driveSt s i)
  | none =>
    if pNat s 0x02A2 ≤ s.grp.extFbMissed then 2
    else (s.grp.extFb.head?.map fun p => fieldU (extPart p.2 t) 0 4 % 8).getD 2

/-- Saturation codes of the two channels in a status word: this device's own, or those the EXTENSION sent, a FAULT that has been cleared left out
(Table 12-7, R387). -/
def satCodes (s : State) (t : Nat) : Nat × Nat :=
  let code (c : SatChan) : Nat := if c.fault then 2 else if c.warn then 1 else 0
  match driveIdx s t with
  | some _ => (code (thrOf s t).prop, code (thrOf s t).steer)
  | none =>
    let seen (n : Nat) : Nat := if bitOf s.thr.extClear t && n == 2 then 0 else n
    (s.grp.extFb.head?.map fun p => let w := fieldU (extPart p.2 t) 0 4; (seen (w / 256 % 4), seen (w / 1024 % 4))).getD (0, 0)

/-- A thruster as it now stands. -/
def thrMark (s : State) (t : Nat) : ThrMark :=
  let x := thrOf s t
  ⟨x.prop, x.steer, x.loop, thrSupervision s t, (satCodes s t).1, (satCodes s t).2⟩

/-- The thrusters and slots of period `n` as they now stand; marks of periods that have run are forgotten. -/
def keepMarks (n : Nat) (s0 : State) : State :=
  let s := keepSlots n s0
  let live (n : Nat) : Bool := n == s.sch.cur || s.sch.begun.any (·.1 == n)
  { s with thr := { s.thr with marks := (n, (List.range 32).map (thrMark s)) :: s.thr.marks.filter fun m => m.1 != n && live m.1 } }

/-- A thruster as it stood at the snapshot instant of the period in hand: what the stages and the mirror stream take of the output unit,
however late they run (R31, R371). Under DET that is how boundary 0 of the period left it. -/
def markOf (s : State) (t : Nat) : ThrMark :=
  match s.thr.marks.find? fun m => m.1 == s.sch.cur with
  | some m => at_ (thrMark s t) m.2 t
  | none => thrMark s t

/-- Azimuth in the body frame as measured (R374, R386). -/
def measured (s : State) (t : Nat) (limit : Int) : F64 :=
  wrapFull (dadd (((fbBefore s t limit).map fun f => f2d (fieldF32 f.2 12)).getD d0) (thrF s t 12))

/-! Availability (R371 to R373, R375). -/

/-- Rows 0 to 5 of Table 12-2 that fail at the snapshot. -/
def failedRows (s : State) (t : Nat) : List Nat :=
  let fb := (fbBefore s t s.sch.snap).map (·.2)
  let st := (fb.map (byteAt · 0)).getD 0
  let out := bitOf ((fb.map (byteAt · 1)).getD 0) 2
  let slot := match driveIdx s t with
    | some i => match driveRec (ownMap s) i with
      | some d => slotServes s d.slot
      | none => true
    | none => true
  ([thrKind s t != 0, bitOf s.thr.mask t, decide ((markOf s t).sup ≤ 1), st == 1 || st == 2 || (st == 3 && out), slot,
    (markOf s t).propSat != 2 && (markOf s t).steerSat != 2].mapIdx fun i b => (i, b)).filterMap fun e => if e.2 then none else some e.1

/-- A lost thruster returns once every condition has held for THR_RETURN_MS in periods, the present one among them (R372). -/
def returnThr (t : Nat) (s : State) : State :=
  let x := thrOf s t
  if x.lost && x.ready && decide (max 1 (msPeriods s (pNat s 0x032C)) ≤ x.held) then
    record .thrusterReturned (be 1 t) (modThr t (fun x => { x with lost := false, held := 0 }) s)
  else s

/-- Availability of a thruster at the snapshot (R371, R372, R375). -/
def judgeThruster (s : State) (t : Nat) : State :=
  let x := thrOf s t
  let rows := failedRows s t
  let base := rows.isEmpty
  let az := thrKind s t == 1
  let secs := sectorsOf (thrRec s t)
  let ac0 := f2d x.ac
  let ac := if x.parked then (match secs.find? (insideSector ac0) with
      | some q => unpark (thrDA s t) ac0 q
      | none => ac0)
    else if x.avail then ac0 else measured s t s.sch.snap
  let inside := az && secs.any (insideSector ac)
  let cond := base && !inside
  let mask := rows.head? == some 1
  let lostNow := x.avail && !cond && !mask
  let s1 := if lostNow then record .thrusterLost (be 1 t ++ be 1 (rows.head?.getD 7)) s else s
  let x' (x : Thr) : Thr :=
    { x with ready := cond, parked := base && (inside || (x.parked && !x.avail)), lost := x.lost || lostNow,
             held := if cond && !lostNow then x.held else 0, ac := d2f ac }
  modThr t x' s1

/-- Availability of every thruster at the snapshot. -/
def judgeThrusters (s : State) : State := (List.range 32).foldl judgeThruster s

/-- A thruster that has no thrust. -/
def idleThr (x : Thr) : Thr := { x with avail := false, force := (d0, d0), thrust := 0, edge := false }

/-- Availability of a thruster once the mode of the period is known: the last condition of Table 12-2. A lost thruster counts the periods in which
every condition holds, the skipped ones with them (R372, R405). -/
def judgeMode (s0 : State) (t : Nat) : State :=
  let all (x : Thr) : Bool := x.ready && s0.ctl.mode != 0
  let s := returnThr t (modThr t (fun x => { x with held := if x.lost && all x then x.held + 1 + s0.sch.skip else 0 }) s0)
  let x := thrOf s t
  if !all x || x.lost then modThr t idleThr s
  else if x.avail then s
  else modThr t (fun x => { idleThr x with avail := true }) s

/-- Availability in the period, fixed with stage 5 (R371); one that becomes available starts from zero thrust. -/
def fixAvail (s : State) : State := (configured s).foldl judgeMode s

/-- THRUSTER_RETURNED (R372). -/
def execThrusterReturned (thruster : Fin 32) (s : State) : Result := .next (returnThr thruster.val s)

/-- Bits of the configured thrusters. -/
def configuredMask (s : State) : Nat := ((configured s).map fun t => 2 ^ t).sum

/-- A channel out of FAULT. -/
def SatChan.cleared (c : SatChan) : SatChan := if c.fault then { c with fault := false, warn := false, count := 0, clear := 0 } else c

/-- The thrusters of a mask leave FAULT: this device's own at once, those of the EXTENSION as the MASTER judges them, until EXT_FB shows them
out of FAULT (R387, log 222). -/
def clearFaults (m : Nat) (s : State) : State :=
  let thr (t : Nat) (x : Thr) : Thr := if bitOf m t then { x with prop := x.prop.cleared, steer := x.steer.cleared } else x
  { s with thr := { s.thr with thr := s.thr.thr.mapIdx thr, extClear := s.thr.extClear ||| (m / 65536 * 65536) } }

/-- What is left of a clear once it has been done. -/
def Effect.spent : Effect → Effect
  | .avail m _ => .avail m 0
  | e => e

/-- The FAULTs that the THRUSTER_AVAILs complete before `b` clear, at the boundary that is their first snapshot instant (R22, R31, R387). -/
def clearDue (b : Int) (s : State) : State :=
  let due := s.sch.pend.filter fun p => decide (p.at_ < b)
  let m := due.foldl (fun m p => match p.eff with
    | .avail _ c => m ||| c
    | _ => m) 0
  clearFaults m { s with sch := { s.sch with pend := s.sch.pend.map fun p => if p.at_ < b then { p with eff := p.eff.spent } else p } }

/-- A FAULT entered now is not cleared by a THRUSTER_AVAIL already complete (R387). -/
def keepFault (t : Nat) (s : State) : State :=
  let f (e : Effect) : Effect := match e with
    | .avail m c => .avail m (if bitOf c t then c - 2 ^ t else c)
    | e => e
  { s with sch := { s.sch with pend := s.sch.pend.map fun p => { p with eff := f p.eff } } }

/-- A THRUSTER_AVAIL at its first snapshot: its mask, and the thrusters it names leave FAULT (R22, R371, R387). -/
def availIn (m clear : Nat) (s : State) : State :=
  let s1 := clearFaults clear s
  { s1 with thr := { s1.thr with mask := m } }

/-- THRUSTER_AVAIL (0x0330, R100, R371, R387). What bars commands of control is judged before the object (log 151). -/
def opThrusterAvail : OpDef := stepOp 0x0330 1
  (fun c s => firstOf [sizeIs 4 c, controlBarred s, when_ ((fieldU c.params 0 4) &&& (configuredMask s) != fieldU c.params 0 4) stUnknownObject])
  fun c s => finishWith c (.avail (fieldU c.params 0 4) (fieldU c.params 0 4)) c.params s

/-- THRUSTER_AVAIL (R371). -/
def execThrusterAvail (r : Req) (p : List Byte) (s : State) : Result := .next (packetIn true opThrusterAvail r p s)

/-! Structure 56 (R374 to R377). -/

/-- +∞ and −∞. -/
def dInf : F64 := 0x7FF0000000000000#64
def dNegInf : F64 := 0xFFF0000000000000#64

/-- The wedge of an azimuth thruster (R375): α_lo, α_hi and whether a bound lies on a sector edge. -/
def wedge (s : State) (t : Nat) : F64 × F64 × Bool :=
  let a := f2d (thrOf s t).ac
  let da := thrDA s t
  let secs := sectorsOf (thrRec s t)
  let up := secs.foldl (fun m x => dmin m (wrapFull (dsub x.1 a))) dInf
  let down := secs.foldl (fun m x => dmin m (wrapFull (dsub a x.2))) dInf
  (dsub a (dmin da down), dadd a (dmin da up), dle up da || dle down da)

/-- A thruster's part of the problem: bounds of its two columns and its own rows. -/
structure ThrPart where
  lb : List F64
  ub : List F64
  h : List F64
  g : List F64
  bal : List (List (Nat × F64))
  rows : List (List (Nat × F64) × F64 × F64)
  power : List (Nat × F64)
  least : F64
  edge : Bool

/-- F_MAX of a column. -/
def colMax (s : State) (t k : Nat) : F64 := if k = 1 ∧ thrKind s t = 2 ∧ dlt d0 (thrRev s t) then thrRev s t else thrFwd s t

/-- The part of thruster `t`, the j-th configured (R374 to R377). -/
def thrPart (s : State) (j t : Nat) : ThrPart :=
  let x := thrOf s t
  let c0 := 2 * j
  let c1 := 2 * j + 1
  let f := thrFwd s t
  let df := thrDF s t
  let px := thrF s t 4
  let py := thrF s t 8
  let w := dadd (thrF s t 40) (f2d (pReal s 0x0321))
  let q (k : Nat) : F64 := dmul (colMax s t k) (colMax s t k)
  let h := [ddiv w (q 0), ddiv w (q 1)]
  let g := [ddiv (dmul (dneg (f2d (pReal s 0x0321))) x.force.1) (q 0), ddiv (dmul (dneg (f2d (pReal s 0x0321))) x.force.2) (q 1)]
  let on (v : F64) : F64 := if x.avail then v else d0
  if thrKind s t = 1 then
    let (lo, hi, edge) := wedge s t
    let beta := dmul dHalf (dadd lo hi)
    let c := ddiv (thrF s t 32) (dmul f (mCos (dmul dHalf (dsub hi lo))))
    let b (v : F64) : F64 × F64 := (on (dmax (dsub v df) (dneg f)), on (dmin (dadd v df) f))
    let bx := b x.force.1
    let by' := b x.force.2
    let m0 := dadd (dmul (mCos beta) x.force.1) (dmul (mSin beta) x.force.2)
    let poly := (List.range 16).map fun m =>
      let a := ddiv (dmul dPi (dofInt m)) (dofInt 8)
      (([(c0, mCos a), (c1, mSin a)], dNegInf, dmul (dofRat 980785 1000000) f) : List (Nat × F64) × F64 × F64)
    { lb := [bx.1, by'.1], ub := [bx.2, by'.2], h := h, g := g,
      bal := [[(c0, d1)], [(c1, d1)], [(c0, dneg py), (c1, px)]],
      rows := poly ++ [([(c0, dneg (mSin lo)), (c1, mCos lo)], d0, dInf), ([(c0, mSin hi), (c1, dneg (mCos hi))], d0, dInf)],
      power := [(c0, on (dmul c (mCos beta))), (c1, on (dmul c (mSin beta)))],
      least := on (dmul c (dmax d0 (dsub m0 df))), edge := edge }
  else
    let r := thrRev s t
    let dir := thrF s t 12
    let cs := mCos dir
    let sn := mSin dir
    let mz := dsub (dmul px sn) (dmul py cs)
    let p := thrF s t 32
    let has := dlt d0 r
    let prev := dsub x.force.1 x.force.2
    { lb := [d0, d0], ub := [on f, on r], h := h, g := g,
      bal := [[(c0, cs), (c1, dneg cs)], [(c0, sn), (c1, dneg sn)], [(c0, mz), (c1, dneg mz)]],
      rows := [([(c0, d1), (c1, dneg d1)], if x.avail then dsub prev df else dNegInf, if x.avail then dadd prev df else dInf)],
      power := [(c0, on (ddiv p f))] ++ (if has then [(c1, on (ddiv p r))] else []),
      least := on (dadd (dmul (ddiv p f) (dmax d0 (dsub x.force.1 df)))
        (if has then dmul (ddiv p r) (dmax d0 (dsub x.force.2 df)) else d0)), edge := false }

/-- QUALITY and value of a published signal in the snapshot (R238, R242): a fusion input as the snapshot holds it. -/
def snapQuality (s : State) (id : Nat) : Nat × Value :=
  match (List.range 64).find? fun i => finRole s i != 0 && finSig s i == id with
  | some i => match snapOf s i with
    | some v => (v.q, v.value)
    | none => (0, 0)
  | none => match snapSignal s id with
    | some v => (if v.badBy s.sch.snap then 3 else 1, v.value)
    | none => (0, 0)

/-- Available power of bus `b` and whether its signal serves (R376); a bus that names no signal has none that does (log 215). -/
def busPower (s : State) (b : Nat) : F64 × Bool :=
  let id := pNat s (0x0324 + b)
  let v := snapQuality s id
  if id ≠ 0xFFFF ∧ (v.1 = 1 ∨ v.1 = 4 ∨ v.1 = 5) then (f2d (valF32 v.2), true) else (f2d (pReal s (0x0328 + b)), false)

/-- Thrusters of a bus: position in the order and number. -/
def onBus (s : State) (b : Nat) : List (Nat × Nat) := ((configured s).mapIdx fun j t => (j, t)).filter fun e => thrBus s e.2 == b

/-- The allocation problem of a period. -/
structure AllocProblem where
  cols : Nat
  rows : Nat
  entries : List (Nat × Nat × F64)
  g : List F64
  lb : List F64
  ub : List F64
  lo : List F64
  hi : List F64
  forced : Bool
  sigLost : Bool
  powerRow : Nat

/-- Structure 56 with the period's values (Table 12-3). -/
def allocProblem (s : State) : AllocProblem :=
  let ts := configured s
  let m := ts.length
  let cols := 2 * m + 3
  let parts := ts.mapIdx fun j t => thrPart s j t
  let tau := s.ctl.demand.map f2d
  let bal := (List.range 3).map fun k =>
    (((parts.flatMap fun p => at_ [] p.bal k) ++ [(2 * m + k, d1)], at_ d0 tau k, at_ d0 tau k) : List (Nat × F64) × F64 × F64)
  let own := parts.flatMap (·.rows)
  let pow := (List.range 4).map fun b =>
    let es := onBus s b
    let row := es.flatMap fun e => ((parts[e.1]?).map (·.power)).getD []
    let idle := es.foldl (fun a e => if (thrOf s e.2).avail then dadd a (thrF s e.2 36) else a) d0
    let least := es.foldl (fun a e => dadd a (((parts[e.1]?).map (·.least)).getD d0)) d0
    let room := dsub (busPower s b).1 idle
    ((row, dNegInf, dmax room least), dlt room least)
  let rows := bal ++ own ++ pow.map (·.1)
  let slack (k : Nat) : F64 := ddiv (f2d (pReal s 0x0322)) (dmul (f2d (ctlLim s k 3)) (f2d (ctlLim s k 3)))
  let h := parts.flatMap (·.h) ++ [slack 0, slack 1, slack 2]
  let entries := (List.range cols).flatMap fun c =>
    (c, c, at_ d0 h c) :: (rows.mapIdx fun i r => (i, r)).flatMap fun e =>
      (e.2.1.filter (fun x => x.1 == c)).map fun x => (cols + e.1, c, x.2)
  { cols := cols, rows := cols + rows.length, entries := entries, g := parts.flatMap (·.g) ++ [d0, d0, d0],
    lb := parts.flatMap (·.lb) ++ [dNegInf, dNegInf, dNegInf], ub := parts.flatMap (·.ub) ++ [dInf, dInf, dInf],
    lo := rows.map (·.2.1), hi := rows.map (·.2.2), forced := pow.any (·.2),
    sigLost := (List.range 4).any fun b => !(busPower s b).2, powerRow := cols + 3 + own.length }

/-- Structure 56 from its problem, on a tile. -/
def allocStruct (s : State) (tile : Nat) : Struct :=
  let p := allocProblem s
  { kind := 1, rows := p.rows, cols := p.cols, entries := p.entries, hash := structHash 1 p.rows p.cols p.entries, tile := tile,
    bytes := structBytes 1 p.rows p.cols p.entries }

/-! Stage 6 (R378). -/

/-- The solve of the period (R378): its result, whether the warm start was refused, and the structure with its values. It starts with WARM 1, or from
a mirrored warm start with WARM 2 (R432). -/
def allocSolve (t : Struct) (limit : Option Nat) (s : State) : SolveRes × Bool × Struct × AllocProblem :=
  let p := allocProblem s
  let t' := { t with entries := p.entries }
  let q := qpOf t' p.g p.lb p.ub p.lo p.hi
  let kept := (keyGet 56 s.slv.retained).filter fun r => r.hash == t.hash
  let cold := (clipBounds q (List.replicate p.cols d0), ([] : List Nat))
  let start := (kept.map fun r => (r.x, if r.mirrored then workAt q (pDbl s 0x0601) r.x else r.work)).getD cold
  (solveQp q (qpTol s) limit start.1 start.2, kept.isNone, t', p)

/-- Stage 6 with the iterations a deadline leaves; nothing is solved before structure 56 exists. -/
def stage6 (limit : Option Nat) (s : State) : State :=
  match keyGet 56 s.slv.structs with
  | none => { s with thr := { s.thr with result := [], status := stOk, feasible := true, deadlineMiss := false, flags := 0 } }
  | some t =>
    let (r, refused, t', p) := allocSolve t limit s
    let s1 := { s with slv := { s.slv with structs := keyPut 56 t' s.slv.structs } }
    let s2 := if r.status = stInconsistent then s1 else retain 56 t' r s1
    let s3 := if r.status = stDeadlineMiss then deadlineEvent 56 r refused s2 else s2
    let lim := p.forced || r.work.any fun w => decide (p.powerRow ≤ w / 2)
    { s3 with thr := { s3.thr with result := r.x, status := solveStatus r refused, feasible := r.feasible,
                                   deadlineMiss := r.status == stDeadlineMiss,
                                   flags := flagsWord [false, false, lim, solveStatus r refused == stWarmRejected, p.sigLost] } }

/-! Stage 7 (R379 to R381, R388). -/

/-- The allocation handed over for each configured thruster (Table 12-4), and whether it is held. -/
def handedOver (s : State) : List (F64 × F64) × Bool :=
  let r := s.thr
  let held := r.status = stInfeasible ∨ r.status = stInconsistent ∨ (r.status = stDeadlineMiss ∧ ¬ r.feasible)
  ((configured s).mapIdx fun j t =>
    let x := thrOf s t
    if !x.avail then (d0, d0) else if held then x.force else (at_ d0 r.result (2 * j), at_ d0 r.result (2 * j + 1)), decide held)

/-- A thruster's azimuth and thrust from its force (R380). -/
def thrusterCommand (s : State) (t : Nat) (f : F64 × F64) (held : Bool) (x : Thr) : Thr :=
  if !x.avail then idleThr x
  else if thrKind s t = 1 then
    let n := dsqrt (dadd (dmul f.1 f.1) (dmul f.2 f.2))
    let turn := !held && dle (dmul (f2d (pReal s 0x0323)) (thrFwd s t)) n
    let ac := if turn then wrapFull (mAtan2 f.2 f.1) else f2d x.ac
    { x with force := f, ac := d2f ac, thrust := d2f (dmax d0 (dadd (dmul (mCos ac) f.1) (dmul (mSin ac) f.2))), edge := (wedge s t).2.2 }
  else { x with force := f, thrust := d2f (dsub f.1 f.2), edge := false }

/-- sign(T) √(|T| / F) or T / F (R380). -/
def setpointOf (s : State) (t : Nat) (thrust : F32) : F32 :=
  let x := f2d thrust
  let f := if dle d0 x then thrFwd s t else thrRev s t
  if x = d0 ∨ x = dneg d0 then 0
  else if byteAt (thrRec s t) 2 = 0 then
    let r := dsqrt (ddiv (dabs x) f)
    d2f (if dlt x d0 then dneg r else r)
  else d2f (ddiv x f)

/-- The command of a thruster (R382). -/
def commandOf (s : State) (t : Nat) : ThrCmd :=
  let x := thrOf s t
  if x.avail then ⟨true, setpointOf s t x.thrust, x.ac⟩ else standbyCmd

/-- Generalised force of thrusters' body-frame forces. -/
def sumForce (s : State) (fs : List (Nat × F64 × F64)) : List F64 :=
  fs.foldl (fun a e =>
    [dadd (at_ d0 a 0) e.2.1, dadd (at_ d0 a 1) e.2.2,
      dadd (at_ d0 a 2) (dsub (dmul (thrF s e.1 4) e.2.2) (dmul (thrF s e.1 8) e.2.1))]) [d0, d0, d0]

/-- The body-frame force of an allocation. -/
def bodyForce (s : State) (t : Nat) (f : F64 × F64) : F64 × F64 :=
  if thrKind s t = 1 then f
  else let n := dsub f.1 f.2; (dmul n (mCos (thrF s t 12)), dmul n (mSin (thrF s t 12)))

/-- The achieved thrust of a thruster and the FEEDBACK it comes from (R381). -/
def achievedThrust (s : State) (t : Nat) : Option (F64 × F64 × (Nat × List Byte)) :=
  (fbBefore s t s.sch.snap).bind fun fb =>
    if (fb.1 : Int) < s.sch.snap - (pNat s 0x02A2 * tpNs s : Nat) then none
    else
      let sp := f2d (fieldF32 fb.2 8)
      let f := if dle d0 sp then thrFwd s t else thrRev s t
      let ta := if byteAt (thrRec s t) 2 = 0 then
          let q := dmul (dmul sp sp) f
          if dlt sp d0 then dneg q else q
        else dmul sp f
      let dir := if thrKind s t = 1 then dadd (f2d (fieldF32 fb.2 12)) (thrF s t 12) else thrF s t 12
      some (ta, dir, fb)

/-- The thruster status word (Table 12-7) from a mark and the FEEDBACKs before an instant. -/
def statusWord (s : State) (m : ThrMark) (limit : Int) (t : Nat) : Nat :=
  if thrKind s t = 0 then 0
  else
    let x := thrOf s t
    let fb := ((fbBefore s t limit).map (·.2)).getD (zeros 24)
    m.sup + 8 * (byteAt fb 0 % 8) + 64 * b2n x.avail + 128 * b2n x.edge + 256 * m.propSat + 1024 * m.steerSat +
      4096 * b2n (bitOf (byteAt fb 1) 2) + 8192 * b2n (bitOf (byteAt fb 1) 1) + 65536 * byteAt fb 7

/-- Power allocated on bus `b`: Σ (c × m + P_IDLE) over its available thrusters, with the wedges that the solve had (R376, R388). -/
def busLoad (s : State) (fs : List (F64 × F64)) (b : Nat) : F64 :=
  (onBus s b).foldl (fun a e =>
    if (thrOf s e.2).avail then
      let f := at_ (d0, d0) fs e.1
      let m := ((thrPart s e.1 e.2).power.mapIdx fun i x => dmul x.2 (if i = 0 then f.1 else f.2)).foldl dadd d0
      dadd (dadd a m) (thrF s e.2 36)
    else a) d0

/-- The signals of stage 7 (Table 12-6), `load` the power of each bus; of the FEEDBACKs, those before the snapshot instant (R22, R31,
log 175). -/
def publishThrusters (load : List F64) (s : State) : State :=
  let put (id : Nat) (v : Value) (s : State) : State := outPut id v 1 s
  let putF (id : Nat) (v : F32) (s : State) : State := put id (vF32 v) s
  let all := List.range 32
  let each (f : State → Nat → State) (s : State) : State := all.foldl f s
  let s := (List.range 3).foldl (fun s k =>
    putF (0x0446 + k) (fsub (at_ 0 s.ctl.demand k) (at_ 0 s.thr.allocated k))
      (putF (0x0443 + k) (at_ 0 s.thr.achieved k) (putF (0x0440 + k) (at_ 0 s.thr.allocated k) s))) s
  let s := put 0x0449 (vU32 s.thr.flags) (put 0x044A (vU32 s.thr.status) (put 0x044B (vU32 (flagsWord (s.thr.thr.map (·.avail)))) s))
  let s := each (fun s t =>
    let on := thrKind s t != 0
    let x := thrOf s t
    let dir := if thrKind s t = 2 then fieldF32 (thrRec s t) 12 else x.ac
    let fb := ((fbBefore s t s.sch.snap).map (·.2)).getD (zeros 24)
    put (0x0450 + t) (vU32 (statusWord s (markOf s t) s.sch.snap t)) (putF (0x0470 + t) (if on then x.thrust else 0)
      (putF (0x0490 + t) (if on then dir else 0)
        (putF (0x04B0 + t) (if on then ((achievedThrust s t).map fun a => d2f a.1).getD 0 else 0)
          (put (0x04E0 + t) (vU32 (if on then fieldU fb 20 2 else 0)) s))))) s
  (List.range 4).foldl (fun s b => putF (0x04D4 + b) (d2f (at_ d0 load b)) (putF (0x04D0 + b) (d2f (busPower s b).1) s)) s

/-- What stage 7 computes: forces, commands, allocated and achieved force, signals and ALLOC_HELD (R379 to R381, R388). -/
def stage7 (s : State) : State :=
  let (fs, held) := handedOver s
  let ts := configured s
  let pubs : State → State := publishThrusters ((List.range 4).map (busLoad s fs))
  let alloc := sumForce s ((ts.zip fs).map fun e => (e.1, bodyForce s e.1 e.2))
  let ach := ts.filterMap fun t => (achievedThrust s t).map fun a => (t, dmul a.1 (mCos a.2.1), dmul a.1 (mSin a.2.1))
  let used := ts.filterMap fun t => (achievedThrust s t).map fun a => (s.sch.cur, t, s.grid.tpDone - 1, a.2.2.1, a.2.2.2)
  let fl := flagsWord [held, !held && s.thr.deadlineMiss] + s.thr.flags / 4 * 4
  let s1 := { s with thr := { s.thr with flags := fl, allocated := alloc.map d2f, achieved := (sumForce s ach).map d2f,
                                         s7Period := s.sch.cur, used := s.thr.used ++ used } }
  let s2 := pubs ((ts.zip fs).foldl (fun s e => modThr e.1 (thrusterCommand s e.1 e.2 held) s) s1)
  if held then record .allocHeld (be 2 s.thr.status ++ be 4 (s.sch.cur % 2 ^ 32)) s2 else s2

/-! The table (R369, R370). -/

/-- Field ranges of a THRUSTERS record (Table 12-1). -/
def thrRecOk (r : List Byte) : Bool :=
  let f (o : Nat) (lo hi : Num) : Bool := fin32 lo hi (fieldF32 r o)
  let ang (o : Nat) : Bool := fle 0 (fieldF32 r o) && flt (fieldF32 r o) fTwoPi
  decide (byteAt r 0 ≤ 31 ∧ byteAt r 1 ≤ 2) && (byteAt r 1 == 0 ||
    (decide (byteAt r 2 ≤ 1) && decide (byteAt r 3 ≤ 3) && f 4 (rat (-500) 1) (rat 500 1) && f 8 (rat (-100) 1) (rat 100 1) && ang 12 &&
      f 16 (rat 1 1) (rat 10000000 1) && f 20 (rat 0 1) (rat 10000000 1) && f 24 (rat 10 1) (rat 10000000 1) &&
      (if byteAt r 1 = 1 then f 28 (rat 1 100) (rat 1 1) || fieldF32 r 28 == 0 else f 28 (rat 0 1) (rat 1 1)) &&
      f 32 (rat 1 1) (rat 100000000 1) && ffinite (fieldF32 r 36) && fle 0 (fieldF32 r 36) && fle (fieldF32 r 36) (fieldF32 r 32) &&
      f 40 (rat 1 100) (rat 100 1) && [44, 48, 52, 56].all (fun o => ang o || num32 (fieldF32 r o) == .nan) &&
      decide (fieldU r 60 2 ≤ fieldU r 62 2)))

/-- Step 2 of TABLE_WRITE for 0x03A0. -/
def thrustersTableStatus (b : List Byte) : Nat := firstOf [when_ (b.length != 2048) stInconsistent, recsOk 64 thrRecOk b]

/-- Field ranges of a STEER record (Table 12-5). -/
def steerTableStatus (b : List Byte) : Nat :=
  firstOf [when_ (b.length != 17408) stInconsistent,
    recsOk 544 (fun r =>
      let f (o : Nat) (lo hi : Num) : Bool := fin32 lo hi (fieldF32 r o)
      allZero (slice r 1 3) && f 4 (rat 0 1) (rat 1000 1) && f 8 (rat 0 1) (rat 1000 1) && f 12 (rat 0 1) (rat 100 1) && f 16 (rat 0 1) (rat 1 1) &&
        f 20 (rat 1 10000) (rat 1 2) && allZero (slice r 24 8) && (List.range 64).all (fun i => f (32 + 4 * i) (rat 0 1) (rat 1 1)) &&
        (List.range 64).all fun i => f (288 + 4 * i) (rat (-1) 1) (rat 1 1)) b]

/-- Two sectors overlap: an edge of one strictly inside the other, or the same arc. -/
def sectorsOverlap (a b : F64 × F64) : Bool :=
  insideSector b.1 a || insideSector b.2 a || insideSector a.1 b || insideSector a.2 b || (dle a.1 b.1 && dle b.1 a.1 && dle a.2 b.2 && dle b.2 a.2)

/-- The conditions of R370 on a record, `bus` being its drive's BUS. -/
def thrLockOk (s : State) (t bus : Nat) : Bool :=
  let r := thrRec s t
  let nan (o : Nat) : Bool := num32 (fieldF32 r o) == .nan
  let zero (o : Nat) : Bool := fle 0 (fieldF32 r o) && fle (fieldF32 r o) 0
  let secs := sectorsOf r
  let width := secs.foldl (fun a x => dadd a (wrapFull (dsub x.2 x.1))) d0
  thrKind s t == 0 ||
    (bus != 0xFF && (decide (t < 16) || decide (pNat s 0x0712 ≤ 3)) &&
      (if thrKind s t = 2 then zero 28 else zero 20 && !zero 28) &&
      [44, 52].all (fun o => nan o == nan (o + 4)) && secs.all (fun x => !(dle x.1 x.2 && dle x.2 x.1)) &&
      (match secs with
       | [a, b] => !sectorsOverlap a b
       | _ => true) &&
      dle width (dsub dTwoPi (dofRat 2 10)) && dle (thrDA s t) (dofRat 1 10))

/-- R370, R390 on the configuration in force. -/
def thrustersLockOk (s : State) : Bool :=
  (List.range 32).all (fun t =>
    thrLockOk s t (((if t < 16 then driveRec (tab s 0x0291) t else driveRec (tab s 0x0701) (t - 16)).map (·.bus)).getD 0xFF)) &&
  decide (pNat s 0x0320 < pNat s 0x0101) &&
  (List.range 4).all fun b =>
    let id := pNat s (0x0324 + b)
    id == 0xFFFF || sigType s id == some 0

end Sys2Proof.Machine
end

