-- ==== Sys2Proof/Machine/Stops.lean ====
section
/-! DEFINITION. Class 0 stops (R86, R337, R383, R429) and the trips of the safety monitor (R461 to R463), with the COMMAND frames
and the monitor operations they need. -/

namespace Sys2Proof.Machine

/-! COMMAND and BEACON frames (R208 to R211, R382). -/

/-- The channel under a holding test, with its setpoint, where BRAKE_TEST is in that step (R473). -/
def holding (s : State) : Option (Nat × F32) :=
  match s.saf.test with
  | some b => b.hold.map fun _ => (b.chan, fofRat (setU8 s (88 + 16 * b.chan + 10)) 100)
  | none => none

/-- The thruster whose command a drive of this device takes. -/
def driveThruster (s : State) (i : Nat) : Nat := if s.grp.role = 3 then 16 + i else i

/-- FLAGS, SETPOINT and STEER of the COMMAND of drive `i` (R382, R380, R473). -/
def commandBody (s : State) (i : Nat) : Nat × F32 × F32 :=
  let t := driveThruster s i
  let hold := match holding s with
    | some (c, sp) => if bitOf (setU16 s (88 + 16 * c + 2)) i then some sp else none
    | none => none
  match hold with
  | some sp => (1, sp, 0)
  | none =>
    let c := at_ standbyCmd s.thr.current t
    let x := thrOf s t
    if !c.enable then (2, 0, 0)
    else if thrKind s t = 1 then (1, fmul c.setpoint (fmax 0 (fcos x.loop.eprev)), x.loop.steer)
    else (1, c.setpoint, 0)

/-- A COMMAND frame's data (Table 07-3). -/
def commandData (s : State) (i seq : Nat) : List Byte :=
  let b := commandBody s i
  be 1 (deviceNo s) ++ be 1 b.1 ++ be 2 s.grp.ownEpoch ++ be 2 seq ++ be 2 (pNat s 0x02A4) ++ be 4 b.2.1.toNat ++ be 4 b.2.2.toNat

/-- The device sends profile frames: it owns drives, firmware runs and no replay is in force (R409, R423). -/
def sendsFrames (s : State) : Bool := s.grp.owns && awake s && pNat s 0x035D != 1

/-- A bus takes frames for transmission. -/
def busSends (s : State) (b : Nat) : Bool := (canOf s b).state == 1 || (canOf s b).state == 2

/-- A profile frame leaves a bus: CAN FD, with BRS where FORMAT is 2 (R208); it is taken as sent without error (log 211). -/
def sendCan (b id : Nat) (data : List Byte) (s : State) : State :=
  if busSends s b then emit (.can b false true (canFormat s b == 2) id data) (modCan b sentOk s) else s

/-- The COMMAND of one drive is queued, SEQ advancing (R209, R210). -/
def sendCommand (s : State) (p : Nat × DriveMap) : State :=
  let q := ((driveSt s p.1).seq + 1) % 65536
  sendCan p.2.bus (0x0A0 + p.2.node) (commandData s p.1 q) (modDrive p.1 (fun x => { x with seq := q }) s)

/-- The BEACON of a bus (R211). -/
def sendBeacon (s : State) (b : Nat) : State :=
  sendCan b (0x090 + deviceNo s) (be 1 (deviceNo s) ++ be 1 s.grp.role ++ be 2 s.grp.ownEpoch ++ be 4 s.grid.period) s

/-- The drives in the order their frames are queued: by bus, then NODE. -/
def driveOrder (s : State) : List (Nat × DriveMap) :=
  (ownDrives s).mergeSort fun a b => decide (a.2.bus < b.2.bus) || (a.2.bus == b.2.bus && decide (a.2.node ≤ b.2.node))

/-- Frames to every owned drive, with the BEACONs ahead of them at k = 0 (R210). -/
def sendFrames (beacon : Bool) (s : State) : State :=
  if !sendsFrames s then s
  else
    let ds := driveOrder s
    let s1 := if beacon then ((ds.map (·.2.bus)).eraseDups).foldl sendBeacon s else s
    ds.foldl sendCommand s1

/-! The safety monitor's own operations. -/

/-- An event of the monitor (R468): taken at once while firmware runs, else queued, at most 32. -/
def safEvent (e : Ev) (ps : List Byte) (s : State) : State :=
  if fwRunning s then record e ps s
  else if s.saf.queue.length < 32 then { s with saf := { s.saf with queue := s.saf.queue ++ [(e, ps, s.evt.operNs, now s)] } }
  else { s with saf := { s.saf with lost := s.saf.lost + 1 } }

/-- Change a channel. -/
def modBrake (c : Nat) (f : Brake → Brake) (s : State) : State := { s with saf := { s.saf with brakes := modAt s.saf.brakes c f } }
/-- Channel `c`. -/
def brakeOf (s : State) (c : Nat) : Brake := at_ brakeReset s.saf.brakes c
/-- Byte of the record of channel `c` (Table 15-7). -/
def brakeOn (s : State) (c : Nat) : Bool := setU8 s (88 + 16 * c) == 1
/-- RAMP_MS of channel `c`. -/
def rampMs (s : State) (c : Nat) : Nat := setU16 s (88 + 16 * c + 4)

/-- A channel applied: both switches off. -/
def applied (b : Brake) : Brake := { b with released := false, ramp := none, fallAt := none }

/-- The verdicts of a BRAKE_TEST packed for its event (Table 17-7). -/
def packVerdicts (vs : List Nat) : Nat := ((vs.mapIdx fun i v => v * 16 ^ i)).sum

/-- A brake test ends with its verdicts (R473, R474). -/
def closeTest (b : BTest) (s : State) : State :=
  let vs := b.verdicts
  let good (c : Nat) (x : Brake) : Brake :=
    if at_ 0 vs c = 1 ∨ at_ 0 vs c = 2 then { x with fault := false, testAt := some s.evt.operNs, due := false } else x
  let s1 := { s with saf := { s.saf with test := none, brakes := s.saf.brakes.mapIdx good } }
  safEvent .brakeTest (be 1 b.mask ++ be 4 (packVerdicts vs)) s1

/-- The test ends and with it its command. -/
def finishTest (b : BTest) (s : State) : State :=
  let s2 := closeTest b s
  match findCmd s2 b.entry with
  | some c => endCmd c .done 1 stOk (b.verdicts.flatMap (be 1)) none s2
  | none => s2

/-- A trip, a class 0 stop or a brown-out warning ends the test: the channel under test and the later ones are ABORTED (R473). -/
def abortTest (s : State) : State :=
  match s.saf.test with
  | none => s
  | some b =>
    let v (c x : Nat) : Nat := if b.chan ≤ c ∧ bitOf b.mask c ∧ x = 0 then (if brakeOn s c then 7 else 8) else x
    finishTest { b with hold := none, verdicts := b.verdicts.mapIdx v } s

/-! A class 0 stop. -/

/-- A parison chain pending or in progress is abandoned (R399). -/
def abandonChain (s : State) : State :=
  if s.sch.chain.isSome then
    { s with sch := { s.sch with chain := none, chainDue := false, counts := modAt s.sch.counts 4 (fun n => min (n + 1) (allOnes 64)) } }
  else { s with sch := { s.sch with chainDue := false } }

/-- The commands in flight that a stop ends (R86). -/
def stopsCommand (op : Nat) : Bool := op == 0x0301 || op == 0x0310 || op == 0x0320 || op == 0x0330 || op == 0x0703

/-- R86: they end ABORTED with STOPPED. -/
def endStopped (s : State) : State :=
  (s.host.cmds.filter fun c => stopsCommand c.opcode).foldl (fun s c => endCmd c .aborted c.k stStopped [] none s) s

/-- The output unit's part (R383): STANDBY commands, hand-offs discarded, previous forces zero. -/
def stopOutput (s : State) : State :=
  { s with thr := { s.thr with current := List.replicate 32 standbyCmd, handoffs := [], thr := s.thr.thr.map idleThr,
                               stopAt := if 5 ≤ s.sch.stage ∧ s.sch.stage < 7 then some s.sch.cur else none },
           grp := { s.grp with shadowHandoff := none, extPending := [],
                               ho := s.grp.ho.filter (fun h => h.cmd.isNone) } }

/-- A class 0 stop takes effect (R86, R337, R383, R399, R473); under BOUNDED its frames are queued at once. -/
def takeStop (s : State) : State :=
  let s1 := abortTest (stopOutput (endStopped (stopControl (abandonChain s))))
  if isDet s1 then s1 else sendFrames false s1

/-! Trips (R461 to R463). -/

/-- One channel under a trip: IMMEDIATE, or a ramp where it is released (R462). -/
def tripChannel (ramp : Bool) (at_ : Nat) (b : Brake) : Brake :=
  if !ramp then applied b else if b.released && b.ramp.isNone then { b with ramp := some at_, fallAt := none } else b

/-- A source is latched with its action on the enabled channels of `mask`; the output unit and the control engine are
stopped (R463). A source already latched does nothing more. -/
def latchTrip (src : Nat) (ramp : Bool) (mask : Nat) (s : State) : State :=
  if s.saf.phase ≠ 2 ∨ bitOf s.saf.latched src then s
  else
    let s1 := safEvent .safetyTrip (be 1 src) { s with saf := { s.saf with latched := s.saf.latched + 2 ^ src } }
    let f (c : Nat) (b : Brake) : Brake := if bitOf mask c && brakeOn s c then tripChannel ramp s.time.elapsed b else b
    let s2 := { s1 with saf := { s1.saf with brakes := s1.saf.brakes.mapIdx f, trips := min (s1.saf.trips + 1) (2 ^ 32 - 1), lastTrip := now s1 } }
    takeStop s2

/-- Trip source SAFE_STOP (Table 15-3). -/
def safeStopTrip (s : State) : State := latchTrip 9 true 0xFF s

/-- A class 0 opcode takes effect: 0x03F0 THRUST_STOP or 0x08F0 SAFE_STOP (R337, R461). -/
def stopEffect (opcode : Nat) (s : State) : State :=
  let s1 := takeStop s
  if opcode = 0x08F0 then safeStopTrip s1 else s1

/-- It takes effect on this device and is broadcast as STOP (R429). -/
def stopHere (opcode : Nat) (s : State) : State := sendCasc 0x22 0xFF (be 2 opcode) (stopEffect opcode s)

/-- A class 0 command: at once under BOUNDED, at the next TP boundary under DET (R383); until then it waits. -/
def opStop (opcode : Nat) : OpDef := stepOp opcode 0 (fun c _ => sizeIs 0 c) fun c s =>
  if isDet s then .wait s c.data else let s1 := stopHere opcode s; .finish s1 stOk (be 8 (periodIndex s)) none

/-- THRUST_STOP (0x03F0, R383). -/
def execThrustStop (r : Req) (p : List Byte) (s : State) : Result := .next (packetIn true (opStop 0x03F0) r p s)

/-- SAFE_STOP (0x08F0, R461). -/
def execSafeStop (r : Req) (p : List Byte) (s : State) : Result := .next (packetIn true (opStop 0x08F0) r p s)

/-- The stops that wait for a TP boundary take effect at it (R383): those of this device end their command, those received over
the cascade do not. -/
def boundaryStops (s : State) : State :=
  let mine := s.host.cmds.filter fun c => (c.opcode == 0x03F0 || c.opcode == 0x08F0) && c.started
  let s1 := mine.foldl (fun s c =>
    let s' := stopHere c.opcode s
    endCmd c .done 1 stOk (be 8 (periodIndex s')) none s') s
  let s2 := s1.thr.stopPending.foldl (fun s o => stopEffect o s) s1
  { s2 with thr := { s2.thr with stopPending := [] } }

/-- TILE_RETIRED's PLACEMENT_FAIL acts as THRUST_STOP on this device (R394). -/
def placementStop (s : State) : State := takeStop (record .placementFail [] s)

end Sys2Proof.Machine
end

