-- ==== Sys2Proof/Machine/Output.lean ====
section
/-! DEFINITION. The thruster output unit at a TP boundary (R23, R382 to R387, R404, R426, R427, R453, R454). -/

namespace Sys2Proof.Machine

/-! Brake requests (R453, R454). -/

/-- The conditions of R453 other than the release request. -/
def releasable (s : State) (c : Nat) : Bool := brakeOn s c && safConfirmed s && !tripActive s && !(brakeOf s c).fault

/-- The COMMANDs of the latest TP boundary ask for channel `c` (R453). -/
def wanted (s : State) (c : Nat) : Bool :=
  s.saf.test.isNone && sendsFrames s && (ownDrives s).any fun p =>
    bitOf (setU16 s (88 + 16 * c + 2)) p.1 && busSends s p.2.bus && (commandBody s p.1).1 == 1

/-- A channel's request as it now stands: applied where a condition of R453 fails, released where it may be, or falling from now
on (R454). A running ramp keeps its channel as it is (R462). -/
def askBrake (want : Bool) (c : Nat) (s : State) : State :=
  let b := brakeOf s c
  let ok := releasable s c
  let f (x : Brake) : Brake :=
    if x.ramp.isSome then { x with request := want }
    else if !ok then { applied x with request := want }
    else if want then { x with request := true, fallAt := none, released := true }
    else { x with request := false, fallAt := if b.request && b.released then some s.time.elapsed else x.fallAt }
  modBrake c f s

/-- Every channel's request (R453). -/
def askBrakes (s : State) : State := (List.range 8).foldl (fun s' c => askBrake (wanted s c) c s') s

/-! The holding test (R473). -/

/-- FEEDBACKs of drive `i` since the previous boundary keep within the holding test's limits. -/
def holdsStill (s : State) (az : List (Nat × F32)) (i : Nat) : Bool :=
  ((driveSt s i).fbs.filter fun f => decide (s.time.total ≤ f.1 + tpNs s)).all fun f =>
    flt (fabs (fieldF32 f.2 8)) (fofRat 2 100) &&
      flt (fabs (fwrap (fsub (fieldF32 f.2 12) ((keyGet i az).getD (fieldF32 f.2 12))))) (fofRat 175 10000)

/-- The output unit's holding verdict so far. -/
def watchHold (s : State) : State :=
  match s.saf.test with
  | some b => (match b.hold with
    | some (ok, at_, az) =>
      let mask := setU16 s (88 + 16 * b.chan + 2)
      let still := (List.range 16).all fun i => !bitOf mask i || holdsStill s az i
      { s with saf := { s.saf with test := some { b with hold := some (ok && still, at_, az) } } }
    | none => s)
  | none => s

/-! Steering (R385, R386). -/

/-- tab(a) of a STEER table at an azimuth. -/
def steerTab (r : List Byte) (off : Nat) (a : F32) : F32 :=
  let x := fdiv (fmul (fofInt 64) a) fTwoPi
  let i := (ffloorI x).toNat
  let at' (k : Nat) : F32 := fieldF32 r (off + 4 * (k % 64))
  fadd (at' i) (fmul (fsub (at' (i + 1)) (at' i)) (fsub x (fofInt i)))

/-- −1, 0 or 1. -/
def fsign (x : F32) : F32 := if flt 0 x then f1 else if flt x 0 then fneg f1 else 0

/-- x limited to ±m. -/
def fclip (m x : F32) : F32 := fmax (fneg m) (fmin m x)

/-- One run of the loop of R386: `r` the STEER record, `rate` AZ_RATE, `tp` in seconds, `ac` the azimuth commanded, `aw` the
drive's azimuth and `am` the body's. -/
def steerLoop (r : List Byte) (rate tp ac aw am : F32) (l : Loop) : Loop :=
  let d := fwrap (fsub ac l.aref)
  let wr := if fle (fabs d) (fmul rate tp) then fdiv d tp else fmul (fsign d) rate
  let aref := fwrapFull (fadd l.aref (fmul wr tp))
  let e := fwrap (fsub aref am)
  let ilim := fieldF32 r 16
  let ie := fclip ilim (if l.satp then l.ie else fadd l.ie (fmul (fmul (fieldF32 r 8) e) tp))
  let u0 := fadd (fadd (fmul (fieldF32 r 4) e) ie) (fdiv (fmul (fieldF32 r 12) (fsub e l.eprev)) tp)
  let fric := steerTab r 32 aw
  let moving := !(fle wr 0 && fle 0 wr)
  let u1 := fadd u0 (if moving then fmul fric (fsign wr) else fmul fric (fclip f1 (fdiv e (fieldF32 r 20))))
  let u := fadd u1 (steerTab r 288 aw)
  { aref := aref, ie := ie, eprev := e, satp := flt f1 (fabs u), steer := fclip f1 u }

/-- A thruster that this device's output unit drives: the command current for it is that of an available thruster (R382, R386). Availability
reaches the output unit with the commands released, so that no instant at which a stage ran shows in it (R31, log 52). -/
def driven (s : State) (t : Nat) : Bool := (driveIdx s t).isSome && (at_ standbyCmd s.thr.current t).enable

/-- The loop of a thruster at TP boundary `k`; without a STEER table the drive is not steered (log 53). -/
def steerThr (k : Nat) (s : State) (t : Nat) : State :=
  if !driven s t || thrKind s t != 1 || (tab s 0x03A1).isEmpty then s
  else
    let fb := fbBefore s t s.time.total
    let aw := fwrapFull ((fb.map fun f => fieldF32 f.2 12).getD 0)
    let am := fwrapFull (fadd aw (fieldF32 (thrRec s t) 12))
    let ac := (at_ standbyCmd s.thr.current t).ac
    let use := (fb.map fun f => (s.grid.period, t, k, f.1, f.2)).toList
    modThr t (fun x => { x with loop := steerLoop (tabRec s 0x03A1 544 t) (fieldF32 (thrRec s t) 28) (secs32 (tpNs s)) ac aw am x.loop })
      { s with thr := { s.thr with used := s.thr.used ++ use } }

/-! Actuator supervision (R387). -/

/-- SAT_WARN_MS (60) or SAT_FAULT_MS (62) in TP boundaries; 0 disables the level. -/
def satLimit (s : State) (t off : Nat) : Nat :=
  let tpUs := max 1 (tpNs s / 1000)
  (fieldU (thrRec s t) off 2 * 1000 + tpUs - 1) / tpUs

/-- A thruster's propulsion or steering channel. -/
def satOf (s : State) (t : Nat) (steering : Bool) : SatChan := if steering then (thrOf s t).steer else (thrOf s t).prop

/-- Change a channel. -/
def modSat (t : Nat) (steering : Bool) (f : SatChan → SatChan) (s : State) : State :=
  modThr t (fun x => if steering then { x with steer := f x.steer } else { x with prop := f x.prop }) s

/-- Its event's parameters (Table 17-7). -/
def satParams (s : State) (t : Nat) (steering : Bool) : List Byte := be 1 t ++ be 1 (b2n steering) ++ be 4 (min (2 ^ 32 - 1) (satOf s t steering).count)

/-- WARN is entered once the count has reached its limit. -/
def satWarn (t : Nat) (steering : Bool) (s : State) : State :=
  let c := satOf s t steering
  let n := satLimit s t 60
  if n ≠ 0 ∧ n ≤ c.count ∧ !c.warn then record .actSatWarn (satParams s t steering) (modSat t steering (fun c => { c with warn := true }) s) else s

/-- FAULT is entered once the count has reached its limit. -/
def satFault (t : Nat) (steering : Bool) (s : State) : State :=
  let c := satOf s t steering
  let n := satLimit s t 62
  if n ≠ 0 ∧ n ≤ c.count ∧ !c.fault then record .actSatFault (satParams s t steering) (keepFault t (modSat t steering (fun c => { c with fault := true }) s)) else s

/-- A channel at a boundary: its counts, then WARN and FAULT. -/
def satStep (t : Nat) (steering sat : Bool) (s : State) : State :=
  let n := satLimit s t 60
  let f (c : SatChan) : SatChan :=
    let clear := if sat then 0 else c.clear + 1
    { c with count := if sat then c.count + 1 else 0, clear := clear, warn := c.warn && (sat || decide (clear < n)) }
  satFault t steering (satWarn t steering (modSat t steering f s))

/-- The channels of a thruster at a boundary. -/
def superviseThr (s : State) (t : Nat) : State :=
  match driveIdx s t with
  | none => s
  | some i =>
    if !driven s t then s
    else
      let limiting := bitOf (((lastFb s i).map fun f => byteAt f.2 1).getD 0) 3
      let full := fle f1 (fabs (commandBody s i).2.1)
      let s1 := satStep t false (full || limiting) s
      if thrKind s t = 1 then satStep t true (thrOf s t).loop.satp s1 else s1

/-- ACT_SAT_WARN (R387). -/
def execActSatWarn (thruster : Fin 32) (steering : Bool) (s : State) : Result := .next (satWarn thruster.val steering s)

/-- ACT_SAT_FAULT (R387). -/
def execActSatFault (thruster : Fin 32) (steering : Bool) (s : State) : Result := .next (satFault thruster.val steering s)

/-! Release (R23, R24, R384, R404, R426). -/

/-- A report of Table 13-11 goes up, saturating (R411). -/
def bumpCount (i n : Nat) (s : State) : State := { s with sch := { s.sch with counts := modAt s.sch.counts i (fun v => min (v + n) (allOnes 64)) } }

/-- Boundary `k` of the period in progress is a release boundary; `old` is the index of the period before with its number of TP
boundaries. -/
def releaseDue (s : State) (k : Nat) (old : Nat × Nat) : Bool :=
  if isDet s then k == pNat s 0x0104 || (k == 0 && decide (old.2 ≤ pNat s 0x0104)) else true

/-- The release boundary of a period has come (R404). -/
def markRelease (k : Nat) (old : Nat × Nat) (s : State) : State :=
  let t : Int := s.time.total
  let met := (if isDet s && k == pNat s 0x0104 then [(s.grid.period, t)] else []) ++
    (if k == 0 && (!isDet s || decide (old.2 ≤ pNat s 0x0104)) then [(old.1, t)] else [])
  { s with sch := { s.sch with relAt := (met ++ s.sch.relAt).take 64 } }

/-- Counts of a channel afresh. -/
def SatChan.restart (c : SatChan) : SatChan := { c with count := 0, clear := 0, warn := false }

/-- A thruster that becomes available to the output unit: its loop starts at the measured azimuth, its channels' counts afresh (R386, R387). -/
def startThr (s : State) (t : Nat) : State :=
  modThr t (fun x => { x with loop := { loopReset with aref := d2f (measured s t s.time.total) }, prop := x.prop.restart, steer := x.steer.restart }) s

/-- Commands become current: each thruster that they enable and the former ones did not starts. -/
def makeCurrent (cs : List ThrCmd) (s : State) : State :=
  let fresh := (List.range 32).filter fun t => (at_ standbyCmd cs t).enable && !(at_ standbyCmd s.thr.current t).enable && (driveIdx s t).isSome
  fresh.foldl startThr { s with thr := { s.thr with current := cs } }

/-- The most recent hand-off becomes current at a release boundary, none while the brown-out warning is raised (R384, R404). -/
def release (s : State) : State :=
  match s.thr.handoffs.getLast? with
  | some h =>
    if bowRaised s then s
    else makeCurrent h.cmds (bumpCount 6 (s.thr.handoffs.length - 1) { s with thr := { s.thr with handoffs := [] } })
  | none => s

/-- Entry `i` of an EXT_CMD as the command of thruster 16 + i (R382, R426). -/
def extEntry (body : List Byte) (i : Nat) : ThrCmd :=
  let f := byteAt body (12 * i)
  if bitOf f 0 && !bitOf f 1 then ⟨true, fieldF32 body (12 * i + 4), fieldF32 body (12 * i + 8)⟩ else standbyCmd

/-- The EXTENSION makes a command current (R382): a thruster enabled again has been cleared of FAULT by the MASTER (R387, log 222). -/
def extCurrent (body : List Byte) (s : State) : State :=
  let cs := s.thr.current.mapIdx fun t c => if 16 ≤ t then extEntry body (t - 16) else c
  let f (t : Nat) (x : Thr) : Thr :=
    let c := at_ standbyCmd cs t
    if t < 16 then x
    else if c.enable && !x.avail then { x with avail := true, ac := c.ac, prop := x.prop.cleared, steer := x.steer.cleared }
    else { x with avail := c.enable, ac := c.ac }
  makeCurrent cs { s with thr := { s.thr with thr := s.thr.thr.mapIdx f } }

/-- The EXT_CMDs due at boundary `k` come into force; one whose boundary has passed counts in EXT_LATE (R426). -/
def extRelease (k : Nat) (s : State) : State :=
  let n := s.grid.period
  let due (c : ExtCmd) : Bool := decide (c.period < n) || (c.period == n && decide (c.k ≤ k))
  let ds := s.grp.extPending.filter due
  let late := (ds.filter fun c => c.period != n || c.k != k).length
  match ds.getLast? with
  | none => s
  | some c => extCurrent c.body { s with grp := { s.grp with extPending := s.grp.extPending.filter (fun c => !due c),
                                                             extLate := min (s.grp.extLate + late) (2 ^ 32 - 1) } }

/-- EXT_FB of the EXTENSION (R427). -/
def sendExtFb (s : State) : State :=
  if s.grp.role ≠ 3 then s
  else
    let part (i : Nat) : List Byte :=
      let fb := (lastFb s i).map fun f => f.2 ++ be 6 (f.1 / 10 ^ 9) ++ be 4 (f.1 % 10 ^ 9)
      be 4 (statusWord s (thrMark s (16 + i)) (s.time.total + 1) (16 + i)) ++ fb.getD (zeros 34) ++ zeros 2
    match s.grp.owner with
    | some d => sendCasc 0x21 d ((List.range 16).flatMap part) s
    | none => sendCasc 0x21 0xFF ((List.range 16).flatMap part) s

/-! The boundary. -/

/-- The EXT_FB expected before a boundary is judged (R427): where DRV_FB_LOST_TP boundaries have passed without one, thrusters 16 to 31 are LOST, each
recorded once (R218). The MASTER knows no SEQ of theirs: the difference reads 0. -/
def superviseExt (s : State) : State :=
  if s.grp.role ≠ 0 ∨ 3 < pNat s 0x0712 then s
  else
    let n := if s.grp.extFbSeen then 0 else s.grp.extFbMissed + 1
    let s1 := { s with grp := { s.grp with extFbMissed := n, extFbSeen := false } }
    if n = pNat s 0x02A2 then
      ((configured s).filter (16 ≤ ·)).foldl (fun s t => record .driveLost (be 1 t ++ be 1 (byteAt (tabRec s 0x0701 8 (t - 16)) 0) ++ be 2 0) s) s1
    else s1

/-- The COMMAND frames formed at the boundary, kept for the output digest (R408). -/
def keepFrames (s : State) : State :=
  if s.grp.owns || pNat s 0x035D == 1 then
    { s with thr := { s.thr with frames := s.thr.frames ++ (ownDrives s).map fun p => (s.grid.period, commandData s p.1 0) } }
  else s

/-- TP boundary `k` of the period in progress: stops, releases, supervision, steering, frames, brake requests. In a replayed period drive
supervision is what the block's FEEDBACKs make it (R409, log 102). -/
def tpRun (k : Nat) (old : Nat × Nat) (s0 : State) : State :=
  let s1 := boundaryStops s0
  let s2 := if s1.grp.role = 3 then extRelease k s1 else markRelease k old (if releaseDue s1 k old then release s1 else s1)
  let s3 := if pNat s2 0x035D = 1 then s2 else (ownDrives s2).foldl superviseDrive s2
  let s4 := superviseExt s3
  let s5 := (List.range 32).foldl (steerThr k) s4
  let s6 := (List.range 32).foldl superviseThr s5
  let s7 := askBrakes (sendFrames (k == 0) (keepFrames (watchHold s6)))
  let s8 := sendExtFb s7
  drainCasc { s8 with grid := { s8.grid with tpDone := k + 1 } }

/-- A boundary of the device's own grid; under REPLAY only stops act on it (R409). -/
def tpWork (k : Nat) (old : Nat × Nat) (s : State) : State :=
  if pNat s 0x035D = 1 then
    let s1 := boundaryStops s
    { s1 with grid := { s1.grid with tpDone := k + 1 } }
  else tpRun k old s

/-- TP_BOUNDARY: the next of the period in progress after its start (R23, R18), under the configuration of that period even before its
snapshot (R22). -/
def execTpBoundary (s : State) : Result :=
  let k := s.grid.tpDone
  if !awake s || !s.grid.running || k = 0 || decide (s.grid.tpTotal ≤ k) then .next s
  else
    let v := gridView s
    .next { tpWork k (0, 0) (countTo (s.grid.startT + (k * s.grid.tp : Nat)).toNat v) with cfg := s.cfg }

end Sys2Proof.Machine
end

