-- ==== Sys2Proof/Machine/Image.lean ====
section
/-! DEFINITION. Read-only tables and the staged view of the configuration (R94, R95). -/

namespace Sys2Proof.Machine

/-- The body of a read-only table (R183, R289, R503). -/
def romTable (id : Nat) : Option (List Byte) :=
  match id with
  | 0x0280 => some romBody
  | 0x0380 => some (sigTable.flatMap fun v => be 2 (ofSigned 16 v))
  | 0x0381 => some (tanhTable.flatMap fun v => be 2 (ofSigned 16 v))
  | 0x0A10 => some (Config.evtCatalog ())
  | _ => none

/-- The staged configuration as if it were in force: what CONFIG_LOCK judges (R94). -/
def stagedView (s : State) : State := { s with cfg := { s.cfg with force := s.cfg.staged, forceTabs := s.cfg.stagedTabs } }

/-- Any bus of a drive map, mapped records only. -/
def mapBuses (body : List Byte) (n : Nat) : List Nat := ((List.range n).filterMap fun i => (driveRec body i).map (·.bus)).eraseDups

end Sys2Proof.Machine
end

