-- ==== Sys2Proof/Machine/Mirror.lean ====
section
/-! DEFINITION. The mirror stream (R430 to R432): its blocks, sending it at stage 8, and taking it. -/

namespace Sys2Proof.Machine

/-- The state a block of Table 14-3 carries. -/
inductive Block where
  /-- 0x0001: state, covariance, WAITING or RUNNING. -/
  | phys (running : Bool) (x p : List F32)
  /-- 0x0002: commands in force first in a period, THRUSTER_AVAIL mask, source preferences and deselections, mode. -/
  | cmds (first : Nat) (inForce : List Pend) (mask : Nat) (named : List (Option Nat)) (deselected : List Nat) (mode : Nat)
  /-- 0x0003: the control state. -/
  | ctl (c : CtlState)
  /-- 0x0004: thrusters 0 to 31. -/
  | thrs (l : List Thr)
  /-- 0x0005: the allocation warm start. -/
  | warm (r : Option Retained)
  /-- 0x0010: hidden states, ensemble means, state and warm-up count. -/
  | rnn (hidden : List (List (List Int))) (mean : List (Option F32)) (state since : Nat)
  /-- 0x0011: disputes, preferences and hold timers of the groups, CLOCK_SLIP states and offsets of the inputs, anchors. -/
  | hold (groups : List VGroup) (tracks : List InTrack) (anchors : List (Nat × List F64))
  /-- 0x0012: the cross-checks. -/
  | xchk (l : List Xchk)
  deriving DecidableEq, Repr

end Sys2Proof.Machine

namespace Sys2Proof.Config

open Sys2Proof.Machine (Block)

/-- The internal binary form of a block (R430 gives none, log 54). -/
opaque blockBytes : Block → List Byte

/-- The block that bytes in that form carry, by its ID (log 54). -/
opaque blockOf : Nat → List Byte → Option Block

end Sys2Proof.Config

namespace Sys2Proof.Machine

/-- Bytes of a block (Table 14-3); none for an ID not in it. -/
def blockSize (id : Nat) : Option Nat :=
  keyGet id [(1, 968), (2, 512), (3, 1024), (4, 2048), (5, 1024), (0x10, 24832), (0x11, 4096), (0x12, 64)]

/-- Commands of stage 5 and of thruster availability and sources: those block 0x0002 carries. -/
def Effect.mirrored : Effect → Bool
  | .mode _ => true
  | .setpoint _ => true
  | .joystick _ => true
  | .avail _ _ => true
  | .source _ _ => true
  | _ => false

/-- A thruster as the stream carries it: as it stands after stage 6, but under DET its channels and loop are those that boundary 0 of the period
left, so that the instant at which stage 6 ran does not show in them (R25, R31, log 171). -/
def mirrorThr (s : State) (t : Nat) (x : Thr) : Thr :=
  let m := markOf s t
  if isDet s then { x with prop := m.prop, steer := m.steer, loop := m.loop } else x

/-- A block as it now stands. -/
def blockNow (s : State) (id : Nat) : Option Block :=
  match id with
  | 1 => some (.phys s.obs.phys.running s.obs.phys.x s.obs.phys.p)
  | 2 => some (.cmds s.sch.cur (s.sch.cmds.filter fun p => p.eff.mirrored) s.thr.mask (s.fus.groups.map (·.named)) s.fus.deselected s.ctl.mode)
  | 3 => some (.ctl s.ctl)
  | 4 => some (.thrs (s.thr.thr.mapIdx (mirrorThr s)))
  | 5 => some (.warm (keyGet 56 s.slv.retained))
  | 0x10 => some (.rnn s.obs.rnn.hidden s.obs.rnn.mean s.obs.rnn.state s.obs.rnn.since)
  | 0x11 => some (.hold s.fus.groups s.fus.tracks s.fus.anchors)
  | 0x12 => some (.xchk s.obs.xchk)
  | _ => none

/-- What a thruster takes of block 0x0004. -/
def takeThr (own x : Thr) : Thr :=
  { own with ready := x.ready, parked := x.parked, avail := x.avail, lost := x.lost, held := x.held, ac := x.ac, prop := x.prop,
             steer := x.steer, loop := x.loop }

/-- What a group takes of block 0x0011. -/
def takeGroup (own x : VGroup) : VGroup :=
  { own with named := x.named, preferred := x.preferred, dispute := x.dispute, lost := x.lost, hold := x.hold, fired := x.fired }

/-- A block replaces the state it carries (R432); commands whose first period is the receiver's own act in it. -/
def applyBlock (b : Block) (s : State) : State :=
  match b with
  | .phys r x p => { s with obs := { s.obs with phys := { s.obs.phys with running := r, x := x, p := p } } }
  | .cmds first w m named des _ =>
    let f (g : VGroup × Option Nat) : VGroup := { g.1 with named := g.2 }
    { s with thr := { s.thr with mask := m }, sch := { s.sch with cmds := s.sch.cmds ++ (if first = s.sch.cur then w else []) },
             fus := { s.fus with groups := (s.fus.groups.zip named).map f, deselected := des } }
  | .ctl c => { s with ctl := c }
  | .thrs l => { s with thr := { s.thr with thr := (s.thr.thr.zip l).map fun e => takeThr e.1 e.2 } }
  | .warm r => { s with slv := { s.slv with retained := match r with
      | some x => keyPut 56 { x with mirrored := true } s.slv.retained
      | none => keyDel 56 s.slv.retained } }
  | .rnn h m st since => { s with obs := { s.obs with rnn := { s.obs.rnn with hidden := h, mean := m, state := st, since := since } } }
  | .hold g t a =>
    { s with fus := { s.fus with groups := (s.fus.groups.zip g).map (fun e => takeGroup e.1 e.2), tracks := t, anchors := a } }
  | .xchk l => { s with obs := { s.obs with xchk := l } }

/-- An entry of a list of blocks and signals (Tables 14-3, 18-4): whether it is a block, and its ID. -/
abbrev MirEntry := Bool × Nat

/-- The entries of a table of 4-byte entries (R430, R521). -/
def mirEntries (body : List Byte) : List MirEntry := (records 4 body).map fun e => (byteAt e 0 == 1, fieldU e 2 2)

/-- Bytes of an entry: a block's size, or 16 for a signal. -/
def entrySize (e : MirEntry) : Nat := if e.1 then (blockSize e.2).getD 0 else 16

/-- An entry's bytes: a block padded to its size; a signal as its ID, QUALITY and VALUE (the layout is the model's, log 55). -/
def entryBytes (s : State) (e : MirEntry) : List Byte :=
  if e.1 then padTo (entrySize e) (((blockNow s e.2).map Config.blockBytes).getD [])
  else
    let v := (outGet s e.2).getD ⟨0, 0⟩
    be 2 e.2 ++ be 1 v.q ++ zeros 5 ++ be 8 v.value.toNat

/-- A mirrored signal replaces what stage 4 or stage 5 would take from the receiver's own (R432). -/
def applySignal (id : Nat) (v : OutVal) (s : State) : State :=
  let put (k : Nat) (l : List F32) : List F32 := modAt l k fun _ => valF32 v.value
  outPut id v.value v.q
    { s with thr := { s.thr with allocated := if 0x0440 ≤ id then put (id - 0x0440) s.thr.allocated else s.thr.allocated,
                                 achieved := if 0x0443 ≤ id then put (id - 0x0443) s.thr.achieved else s.thr.achieved } }

/-- An entry's bytes taken into the state. -/
def applyEntry (e : MirEntry) (bs : List Byte) (s : State) : State :=
  if e.1 then match Config.blockOf e.2 bs with
    | some b => applyBlock b s
    | none => s
  else applySignal e.2 ⟨BitVec.ofNat 64 (fieldU bs 8 8), byteAt bs 2⟩ s

/-- The entries of the stream: blocks 0x0001 to 0x0005, then MIRROR_LIST (R430). -/
def mirrorEntries (s : State) : List MirEntry := ([1, 2, 3, 4, 5].map fun i => (true, i)) ++ mirEntries (tab s 0x0700)

/-- Bytes of the stream. -/
def streamSize (s : State) : Nat := ((mirrorEntries s).map entrySize).sum

/-- The stream as it now stands. -/
def mirrorStream (s : State) : List Byte := (mirrorEntries s).flatMap (entryBytes s)

/-- Entries read back in order. -/
def applyEntries : List MirEntry → List Byte → State → State
  | [], _, s => s
  | e :: es, bs, s => applyEntries es (bs.drop (entrySize e)) (applyEntry e (bs.take (entrySize e)) s)

/-- Step 2 of TABLE_WRITE for 0x0700 (R430); a block that is always mirrored counts as a repeat (log 56). -/
def mirrorTableStatus (b : List Byte) : Nat :=
  let es := mirEntries b
  let bad (e : MirEntry) : Bool := if e.1 then (blockSize e.2).isNone else decide (e.2 < 0x0300 ∨ 0x04FF < e.2)
  firstOf [when_ (b.length % 4 != 0) stInconsistent,
    when_ ((records 4 b).any fun r => decide (1 < byteAt r 0) || byteAt r 1 != 0) stOutOfRange, when_ (es.any bad) stOutOfRange,
    when_ (decide ((([1, 2, 3, 4, 5].map fun i => ((true, i) : MirEntry)) ++ es).Nodup) == false) stInconsistent]

/-- R430 at CONFIG_LOCK. -/
def mirrorLockOk (s : State) : Bool :=
  decide (streamSize s ≤ 524288) && (mirEntries (tab s 0x0700)).all fun e => e.1 || (sigType s e.2).isSome

/-! Stage 8 (R431). -/

/-- The devices that receive the stream: every STANDBY, and the ARBITER when GRP_THIRD_SHADOW is 1. -/
def mirrorTo (s : State) : List Nat :=
  (List.range 4).filter fun d => d != deviceNo s && (peerOf s d).announced &&
    ((peerOf s d).role == 1 || ((peerOf s d).role == 2 && pNat s 0x0714 == 1))

/-- The payloads of the stream's frames. -/
def mirrorParts (stream : List Byte) : List (List Byte) :=
  let all := stream ++ be 4 (crcNat stream)
  let n := (all.length + 2043) / 2044
  (List.range n).map fun i => be 2 i ++ be 2 n ++ slice all (2044 * i) 2044

/-- The stream of the period carries the state after stage 6: it is fixed there, so that it does not depend on when it is sent (R25, R31). -/
def keepStream (s : State) : State :=
  { s with sch := { s.sch with mirrorOut := if s.grp.role = 0 then mirrorStream s else [] } }

/-- A stream with its signals as they now stand, its blocks kept. -/
def withSignals (s : State) : List MirEntry → List Byte → List Byte
  | [], _ => []
  | e :: es, bs => (if e.1 then bs.take (entrySize e) else entryBytes s e) ++ withSignals s es (bs.drop (entrySize e))

/-- Stage 7 publishes the signals of the stream that are its own (R432, log 171). -/
def keepSignals (s : State) : State :=
  { s with sch := { s.sch with mirrorOut := if s.sch.mirrorOut.isEmpty then [] else withSignals s (mirrorEntries s) s.sch.mirrorOut } }

/-- Stage 8 of the period in hand. -/
def stage8 (s : State) : State :=
  (mirrorTo s).foldl (fun s d => (mirrorParts s.sch.mirrorOut).foldl (fun s p => sendCascOf s.sch.cur 0x10 d p s) s)
    { s with sch := { s.sch with s8 := true } }

/-- MIRROR (R431): after stage 7, on the MASTER only (R433). -/
def execMirror (s : State) : Result :=
  .next (if awake s && s.sch.stage == 7 && !s.sch.s8 && s.grp.role == 0 then stage8 s else s)

/-! Taking the stream (R432). -/

/-- The device runs a shadow (R433). -/
def shadows (s : State) : Bool := s.grp.role == 1 || (s.grp.role == 2 && pNat s 0x0714 == 1)

/-- A MIRROR frame is gathered; the stream is taken when it is whole, its CRC is right and stage 2 of the next period has not begun. -/
def mirrorIn (m : CascMsg) (s : State) : State :=
  if !awake s || !shadows s || decide (m.period < s.sch.cur) then s
  else
    let part := fieldU m.payload 0 2
    let total := fieldU m.payload 2 2
    let old := if s.grp.rxPeriod = some m.period then s.grp.rxParts else []
    let parts := keyPut part (m.payload.drop 4) old
    let s1 := { s with grp := { s.grp with rxPeriod := some m.period, rxParts := parts } }
    if parts.length < total then s1
    else
      let all := parts.flatMap (·.2)
      let body := all.take (all.length - 4)
      if fieldU all (all.length - 4) 4 = crcNat body ∧ body.length = streamSize s then
        { s1 with grp := { s1.grp with mirrorTaken := some m.period, stream := body } }
      else s1

/-- MIRROR_RX (R432). -/
def execMirrorRx (m : CascMsg) (s : State) : Result := .next (mirrorIn m s)

/-- At the start of stage 2 of a shadow's period `n` the stream of period n − 1, if taken, replaces the shadow state; one not taken is
counted (R432). -/
def useStream (n : Nat) (s : State) : State :=
  if !shadows s then s
  else
    let got := s.grp.mirrorTaken.isSome && s.grp.mirrorTaken == some (n - 1)
    let s1 := if got then applyEntries (mirrorEntries s) s.grp.stream s
      else { s with grp := { s.grp with mirrorMissed := min (s.grp.mirrorMissed + 1) (2 ^ 32 - 1) } }
    { s1 with grp := { s1.grp with takenHistory := (got :: s.grp.takenHistory).take 8, rxParts := [], rxPeriod := none } }

end Sys2Proof.Machine
end

