-- ==== Sys2Proof/Machine/Group.lean ====
section
/-! DEFINITION. The redundant group and the cascade link (chapter 14): links, roles, ownership, health, judgement, the handover
conversation, the EXTENSION device and the backup pins, and retirement of tiles (R394). -/

namespace Sys2Proof.Config

/-- The running image of the main firmware, as BOOT_DATA carries it (R417, log 58). -/
opaque fwImage : Unit → List Byte

/-- The ECDSA P-256 signature of an image verifies (R417, R493, log 58). -/
opaque imageVerifies : List Byte → Bool

/-- Whether the period parameters of two configurations differ, given their CONFIG_CRCs, which do (R19; no message carries the
parameters themselves, log 59). -/
opaque periodsDiffer : Nat → Nat → Bool

end Sys2Proof.Config

namespace Sys2Proof.Machine

/-- Change what is known of device `d`. -/
def modPeer (d : Nat) (f : Peer → Peer) (s : State) : State := { s with grp := { s.grp with peers := modAt s.grp.peers d f } }

/-- The device's own number as an owner of thrusters 0 to 15. -/
def isArbiter (s : State) : Bool := s.grp.role == 2 && pNat s 0x0711 == deviceNo s

/-! Retired tiles (R394). -/

/-- A host structure of a retired tile is lost. -/
def loseStruct (s : State) (i : Nat) : State :=
  record .structureLost (be 1 i) { s with slv := { s.slv with structs := keyDel i s.slv.structs, retained := keyDel i s.slv.retained } }

/-- The structures of a retired solver tile: 56 to 58 are recreated on the other, their first solve cold; host structures are lost. -/
def moveStructs (n : Nat) (s : State) : State :=
  let here := (s.slv.structs.filter fun e => e.2.tile == n).map (·.1)
  let mv (e : Nat × Struct) : Nat × Struct := if e.2.tile = n ∧ 56 ≤ e.1 then (e.1, { e.2 with tile := 1 - n }) else e
  let s1 := { s with slv := { s.slv with structs := s.slv.structs.map mv, retained := s.slv.retained.filter fun r => !(decide (56 ≤ r.1) && here.contains r.1) } }
  (here.filter (· < 56)).foldl loseStruct s1

/-- Too few tiles remain. -/
def tooFewTiles (s : State) : Bool :=
  decide (((List.range 12).filter fun i => !bitOf s.sch.retired i).length < 4) || (bitOf s.sch.retired 16 && bitOf s.sch.retired 17)

/-- A tile is retired (R394); solver tiles are numbers 16 and 17 of TILES_RETIRED. -/
def retireTile (solver : Bool) (n : Nat) (s : State) : State :=
  let bit := if solver then 16 + n else n
  if (solver && decide (2 ≤ n)) || bitOf s.sch.retired bit then s
  else
    let s1 := record .tileRetired (be 1 bit) { s with sch := { s.sch with retired := putBit s.sch.retired bit true,
                                                                               tilesShown := putBit s.sch.tilesShown bit true } }
    let s2 := if solver then moveStructs n s1 else s1
    if tooFewTiles s2 && !s2.sch.placeFail then placementStop { s2 with sch := { s2.sch with placeFail := true } } else s2

/-- TILE_RETIRED (R394). -/
def execTileRetired (solver : Bool) (tile : Fin 12) (s : State) : Result := .next (if fwRunning s then retireTile solver tile.val s else s)

/-! Health (R435, R436). -/

/-- The MASTER of the group, where one is known. -/
def masterOf (s : State) : Option Nat :=
  if s.grp.role = 0 then some (deviceNo s)
  else (List.range 4).find? fun d => d != deviceNo s && (peerOf s d).announced && (peerOf s d).role == 0

/-- Drive buses of DRIVE_MAP. -/
def driveBuses (s : State) : List Nat := mapBuses (tab s 0x0291) 16

/-- FAIL_CAUSE (Table 14-4). -/
def failCause (s : State) : Nat :=
  let bs := mapBuses (ownMap s) 16
  flagsWord [s.sch.placeFail, s.grp.memoryFail, s.sch.lost, !bs.isEmpty && bs.all (fun b => (canOf s b).state == 0 || (canOf s b).state == 3),
    s.pwr.bowStopped, s.sch.late]

/-- STATE: 2 FAIL, 1 DEGRADED, 0 OK. -/
def healthState (s : State) : Nat :=
  let f := failCause s
  if f &&& 0x1B != 0 then 2 else if f &&& 0x24 != 0 then 1 else 0

/-- The configurations of this device and the MASTER differ. -/
def configDiffers (s : State) : Bool :=
  match masterOf s with
  | some d => d != deviceNo s && (peerOf s d).crc != configCrc s
  | none => false

/-- Row 2 of Table 14-5. -/
def sameBuild (s : State) : Bool :=
  match masterOf s with
  | some d => d == deviceNo s || (!configDiffers s && fieldU (peerOf s d).health 20 4 == revision s)
  | none => false

/-- Rows of Table 14-5 that fail, row 10 being judged by the ARBITER (log 60). -/
def ineligible (s : State) : List Bool :=
  [!(s.grp.role == 1 && !s.grp.excluded), healthState s != 0, !sameBuild s, s.time.stepCount != s.time.masterStepCount,
    !(s.time.state == .locked || s.time.state == .slewing), !s.grp.takenHistory.any id, !(decide (1 ≤ s.grp.cyclesAsStandby) && !s.grp.memoryFail),
    !s.obs.phys.running, !(driveBuses s).all (fun b => (canOf s b).state == 1 || (canOf s b).state == 2), !safConfirmed s || tripActive s, false,
    pNat s 0x0713 == 1 && !s.grp.permitIn]

/-- The device judges itself eligible (R436). -/
def eligible (s : State) : Bool := (ineligible s).all (!·)

/-- HEALTH of period `n` (Table 14-4). -/
def healthReport (n : Nat) (s : State) : List Byte :=
  let differs := configDiffers s
  let mcrc := ((masterOf s).map fun d => (peerOf s d).crc).getD 0
  let fl := flagsWord [eligible s, s.grp.owns, s.grp.mirrorTaken == some n, differs && Config.periodsDiffer (configCrc s) mcrc,
    isFollower s && s.time.stepCount != s.time.masterStepCount, differs, bowRaised s]
  be 1 (deviceNo s) ++ be 1 s.grp.role ++ be 1 (healthState s) ++ be 1 fl ++ be 8 n ++ be 2 s.grp.epoch ++ be 1 s.ctl.mode ++
    be 1 (tstateCode s.time.state) ++ be 4 (configCrc s) ++ be 4 (revision s) ++ be 2 (failCause s) ++ be 2 (flagsWord (ineligible s)) ++
    (List.range 3).flatMap (fun k => be 4 (at_ 0 s.obs.auth k).toNat) ++ (List.range 3).flatMap (fun k => be 4 (at_ 0 s.ctl.demand k).toNat) ++
    be 4 s.grp.selftestCycles ++ be 4 (errNs s) ++ be 2 (min 65535 s.grp.mirrorMissed) ++ be 2 0

/-- A report kept as the latest of its device, with the period of its arrival. -/
def keepHealth (d : Nat) (h : List Byte) (s : State) : State :=
  let n := fieldU h 4 8
  let up (p : Peer) : Peer := match p.freshMax with
    | some m => { p with fresh := p.fresh || decide (m < n), freshMax := some (max m n) }
    | none => { p with fresh := true, freshMax := some n }
  modPeer d (fun p => up { p with health := h, healthPeriod := some (periodIndex s) }) s

/-- A datagram of the external arbiter's exchange (R446). -/
def arbDatagram (typ seq period counter : Nat) (payload : List Byte) (s : State) : List Byte :=
  let b := be 1 typ ++ be 1 (deviceNo s) ++ be 1 0xFE ++ be 1 3 ++ be 2 payload.length ++ be 2 seq ++ be 8 period ++ payload ++ be 4 counter
  b ++ (hmac (roleKey s 4) b).take 16

/-- A message sent to the external arbiter on the ports named, COUNTER rising; none while no arbiter key is held (R561, log 240). -/
def sendArb (ports : List Bool) (typ : Nat) (payload : List Byte) (s : State) : State :=
  if (roleKey s 4).isEmpty then s else
  let c := s.grp.datagramSent + 1
  let d := arbDatagram typ (c % 65536) (periodIndex s) (c % 2 ^ 32) payload s
  let port := pNat s 0x071D
  ports.foldl (fun s b => emit (.udp b (BitVec.ofNat 32 (pNat s 0x071E)) port port d) s) { s with grp := { s.grp with datagramSent := c } }

/-- HEALTH is sent (R435, R446) and HB_OUT toggles, but not in STATE FAIL (Table 14-7). It is broadcast, as R436 and R444 have the
MASTER read it too (log 61). -/
def sendHealth (n : Nat) (s : State) : State :=
  let h := healthReport n s
  let s1 := sendCasc 0x02 0xFF h (keepHealth (deviceNo s) h s)
  let s2 := if pNat s 0x0711 = 0xFE then sendArb [false, true] 0x02 h s1 else s1
  if healthState s = 2 then s2 else emit (.pin "HB_OUT" (!s2.grp.hbOut)) { s2 with grp := { s2.grp with hbOut := !s2.grp.hbOut } }

/-! Ownership (R423, R424, R568). -/

/-- The role in force owns drives (R423). -/
def roleOwns (s : State) : Bool := (s.grp.role == 0 || s.grp.role == 3) && !s.grp.excluded && (pNat s 0x0713 != 1 || s.grp.permitIn)

/-- An owner has been learned of, by whatever message, under a higher epoch than this device held when its firmware stopped (R568). -/
def outranked (s : State) : Bool := match s.grp.rival with
  | some e => epochHigher e s.grp.startEpoch
  | none => false

/-- ACTIVE_OUT rises with ownership. -/
def nowOwns (s : State) : State :=
  emit (.pin "ACTIVE_OUT" true)
    { s with grp := { s.grp with owns := true, stopped := false, ownedAtReset := false, activeOut := true,
                                 owner := if s.grp.role = 0 then some (deviceNo s) else s.grp.owner,
                                 ownerEpoch := if s.grp.role = 0 then s.grp.ownEpoch else s.grp.ownerEpoch } }

/-- A new epoch is written to MRAM and recorded (R424). -/
def newEpoch (e : Nat) (s : State) : State := record .ownerEpoch (be 2 e) { s with grp := { s.grp with epoch := e, ownEpoch := e } }

/-- Ownership is taken up where R568 and R423 allow it. -/
def takeUp (s : State) : State :=
  if s.grp.owns || !fwRunning s || !roleOwns s || decide (s.time.elapsed < s.pwr.fwAt + ms 300) || (ownDrives s).isEmpty || outranked s then s
  else announce (nowOwns (if s.grp.ownedAtReset then s else newEpoch ((s.grp.epoch + 1) % 65536) s))

/-- OWNERSHIP_TAKE_UP (R568): 300 ms after firmware start. -/
def execOwnershipTakeUp (s : State) : Result := .next (if awake s && s.time.counting then takeUp (elapseTo (s.pwr.fwAt + ms 300) s) else s)

/-- The role in force changes (R415, R420): a role that owns no drives gives them up. -/
def changeRole (r : Nat) (s : State) : State :=
  if s.grp.role = r then s
  else
    let s1 := dropOwnership s
    announce { s1 with grp := { s1.grp with role := r, cyclesAsStandby := 0, rival := none } }

/-- A device number conflict excludes the device (R421). -/
def exclude (e : Ev) (s : State) : State :=
  if s.grp.excluded then s
  else
    let s1 := changeRole 1 s
    record e [] { s1 with grp := { s1.grp with excluded := true } }

/-- The role is resolved against the configuration (R420, R421). -/
def resolveRole (s : State) : State :=
  if (s.grp.role == 2 && pNat s 0x0711 != deviceNo s) || (s.grp.role == 3 && pNat s 0x0712 != deviceNo s) then exclude .roleConflict s else s

/-- Another MASTER is met (R421). -/
def meetMaster (d : Nat) (p : Peer) (s : State) : State :=
  let yields := if s.grp.owns && p.owning then epochHigher p.epoch s.grp.ownEpoch || (p.epoch == s.grp.ownEpoch && decide (d < deviceNo s))
    else if s.grp.owns then false else if p.owning then true else decide (d < deviceNo s)
  if s.grp.role = 0 ∧ p.role = 0 ∧ yields then
    if s.grp.owns then stopOwning s else record .roleYielded [] (changeRole 1 s)
  else s

/-- PERMIT_OUT of the channels that name a device is released (log 62). -/
def releasePermit (d : Nat) (s : State) : State :=
  { s with grp := { s.grp with permitOutLow := s.grp.permitOutLow.mapIdx fun i b => b && pNat s (0x071B + i) != d } }

/-- ANNOUNCE (R415, R421, R424, R442). -/
def announceIn (m : CascMsg) (s : State) : State :=
  if !fwRunning s then s
  else if m.src = deviceNo s then exclude .cascDuplicate s
  else
    let b := m.payload
    let old := peerOf s m.src
    let p : Peer := { old with announced := true, role := byteAt b 1, owning := byteAt b 2 == 1, crc := fieldU b 4 4, epoch := fieldU b 8 2 }
    let s0 := modPeer m.src (fun _ => p) s
    let s1 := if p.owning && p.role != 3 then meetOwner p.epoch s0 else s0
    let s2 := if p.owning && p.role != 3 && s1.grp.role == 0 then learnOwner p.epoch s1 else seeEpoch p.epoch s1
    let own := p.owning && p.role == 0
    let s3 := if own && (s2.grp.owner.isNone || !epochHigher s2.grp.ownerEpoch p.epoch) then
        { s2 with grp := { s2.grp with owner := some m.src, ownerEpoch := p.epoch } }
      else if !own && s2.grp.owner == some m.src then { s2 with grp := { s2.grp with owner := none } } else s2
    let s4 := if p.owning then s3 else releasePermit m.src s3
    if old = p then s4 else resolveRole (meetMaster m.src p s4)

/-- ANNOUNCE_RX (R421). -/
def execAnnounceRx (m : CascMsg) (s : State) : Result := .next (announceIn m s)

/-- ANNOUNCE_TX (R415): every 100 ms. -/
def execAnnounceTx (s : State) : Result := .next (if awake s then announce (elapseTo (s.grp.lastAnnounce + ms 100) s) else s)

/-- HEALTH (R424, R437, R442). -/
def healthIn (m : CascMsg) (s : State) : State :=
  if !fwRunning s || m.payload.length != 64 then s
  else
    let b := m.payload
    let own := bitOf (byteAt b 3) 1 && byteAt b 1 != 3
    let s0 := keepHealth m.src b s
    let s1 := if own then meetOwner (fieldU b 12 2) s0 else s0
    if own && s1.grp.role == 0 then learnOwner (fieldU b 12 2) s1 else seeEpoch (fieldU b 12 2) s1

/-- HEALTH_RX (R437). -/
def execHealthRx (m : CascMsg) (s : State) : Result := .next (healthIn m s)

/-! The handover conversation (R440 to R444). -/

/-- Payload of TAKE, YIELD and ACK. -/
def hoBytes (id e target old acked status : Nat) : List Byte :=
  be 2 id ++ be 2 e ++ be 1 target ++ be 1 old ++ be 1 acked ++ be 1 status

/-- A handover is in progress on this device. -/
def handoverActive (s : State) : Bool := s.grp.ho.isSome

/-- Devices that the ARBITER may choose (R436, R439): eligible by their own HEALTH and not odd. -/
def mayTakeOver (s : State) (d : Nat) : Bool :=
  d != deviceNo s && (peerOf s d).announced && (peerOf s d).role == 1 && bitOf (byteAt (peerOf s d).health 3) 0

/-- The handover messages still without an ACK are sent. -/
def sendHandover (h : Handover) (s : State) : State :=
  let s1 := if h.oldAcked || h.cmd.isSome then s else sendCasc 0x04 h.old (hoBytes h.id h.epoch h.target h.old 0 0) s
  let s2 := if h.targetAcked then s1 else sendCasc 0x03 0xFF (hoBytes h.id h.epoch h.target h.old 0 0) s1
  { s2 with grp := { s2.grp with ho := some { h with lastSent := s2.time.elapsed } } }

/-- PERMIT_OUT of the old owner driven low (R440, R445). -/
def withdrawPermit (d : Nat) (s : State) : State :=
  (List.range 2).foldl (fun s i =>
    if pNat s (0x071B + i) = d then emit (.pin (if i = 0 then "PERMIT_OUT0" else "PERMIT_OUT1") false)
      { s with grp := { s.grp with permitOutLow := modAt s.grp.permitOutLow i fun _ => true } } else s) s

/-- A handover to the next eligible STANDBY in number order under a new epoch; false where none remains. -/
def tryHandover (h : Handover) (odd : List Nat) (s : State) : Option State :=
  ((List.range 4).find? fun d => mayTakeOver s d && !h.tried.contains d && !odd.contains d && d != h.old).map fun d =>
    let e := (s.grp.epoch + 1) % 65536
    let h' := { h with epoch := e, target := d, tried := d :: h.tried, startedAt := s.time.elapsed, targetAcked := false }
    sendHandover h' { s with grp := { s.grp with epoch := e } }

/-- The ARBITER hands over from the owner that failed (R439, R440). -/
def failOwner (old cause : Nat) (odd : List Nat) (s : State) : State :=
  if handoverActive s then s
  else
    let h : Handover := { id := s.grp.hoCount, epoch := 0, target := 0, old := old, cause := cause, tried := [], startedAt := 0, lastSent := 0,
                          oldAcked := false, targetAcked := false, cmd := none }
    match tryHandover h odd s with
    | some s' => withdrawPermit old { s' with grp := { s'.grp with hoCount := (s.grp.hoCount + 1) % 65536 } }
    | none =>
      record .groupNoStandby (be 1 old ++ be 1 cause ++
        be 1 (flagsWord ((List.range 4).map fun d => mayTakeOver s d && !odd.contains d))) s

/-- A completed handover is counted (Table 14-8). -/
def noteHandover (s : State) : State :=
  { s with grp := { s.grp with handovers := min (s.grp.handovers + 1) (2 ^ 32 - 1), lastHandover := some (periodIndex s) } }

/-- The conversation ends with the target's ACK (R440, R444). -/
def handoverDone (h : Handover) (s : State) : State :=
  let s1 := noteHandover (record .handover (be 1 h.old ++ be 1 h.target ++ be 2 h.epoch ++ be 1 h.cause)
    { s with grp := { s.grp with owner := some h.target, ownerEpoch := h.epoch, ho := if h.cmd.isNone && !h.oldAcked then s.grp.ho else none } })
  match h.cmd with
  | none => s1
  | some e =>
    let s2 := seeEpoch h.epoch (stopOwning s1)
    match findCmd s2 e with
    | some c => endCmd c .done 1 stOk (be 1 h.target ++ be 1 0 ++ be 2 h.epoch) none s2
    | none => s2

/-- The STANDBY compared: the lowest-numbered one. -/
def standbyOf (s : State) : Option Nat := (List.range 4).find? fun d => d != deviceNo s && (peerOf s d).announced && (peerOf s d).role == 1

/-- Patterns of Table 14-6: 0 none, 1 GROUP_DISAGREE, 2 M odd, 3 S odd, 4 ARBITER odd. -/
def pattern (s : State) (l : List PairState) : Nat :=
  let d (i : Nat) : Bool := (at_ pairReset l i).disagrees
  if pNat s 0x0714 = 1 then
    match d 0, d 1, d 2 with
    | true, true, false => 2
    | true, false, true => 3
    | false, true, true => 4
    | true, true, true => 1
    | _, _, _ => 0
  else if d 0 then 1 else 0

/-- The STANDBY that Table 14-6 finds odd is not eligible (R438). -/
def oddStandby (s : State) : List Nat := if pattern s s.grp.pairs = 3 then (standbyOf s).toList else []

/-- An attempt has failed: a planned handover ends its command; the ARBITER tries the next STANDBY or records HANDOVER_FAILED (R440, R444). -/
def handoverNext (h : Handover) (status : Nat) (s : State) : State :=
  match h.cmd with
  | some e =>
    let s1 := { s with grp := { s.grp with ho := none } }
    match findCmd s1 e with
    | some c => endCmd c .aborted 0 status [] none s1
    | none => s1
  | none =>
    match tryHandover h (oddStandby s) s with
    | some s' => s'
    | none => record .handoverFailed (be 1 h.old ++ be 1 h.target ++ be 2 h.epoch ++ be 1 h.cause) { s with grp := { s.grp with ho := none } }

/-- ACK (R440, R442, R444): one that is not of this device's own conversation stops an owner at once. -/
def ackIn (m : CascMsg) (s : State) : State :=
  let b := m.payload
  let id := fieldU b 0 2
  let e := fieldU b 2 2
  let target := byteAt b 4
  let ok := byteAt b 7 == 0
  let mine := s.grp.ho.any fun h => h.id == id && h.epoch == e
  let s0 := if s.grp.owns && s.grp.role == 0 && ok && byteAt b 6 == 3 && target != deviceNo s && epochHigher e s.grp.ownEpoch && !mine then
      stopOwning s else s
  match s0.grp.ho with
  | some h =>
    if !fwRunning s || h.id != id || h.epoch != e then s0
    else if byteAt b 6 = 4 then
      { s0 with grp := { s0.grp with ho := if h.targetAcked then none else some { h with oldAcked := true } } }
    else if byteAt b 6 ≠ 3 ∨ h.targetAcked then s0
    else if ok then
      let h' := { h with targetAcked := true }
      handoverDone h' { s0 with grp := { s0.grp with ho := some h' } }
    else handoverNext h stNotEligible s0
  | none => s0

/-- ACK (R444). -/
def execAck (m : CascMsg) (s : State) : Result := .next (ackIn m s)

/-- An answer to TAKE or YIELD: to devices of the ring, or to the external arbiter by its own path. -/
def sendAck (udp : Bool) (dsts : List Nat) (payload : List Byte) (s : State) : State :=
  let ring := if udp then dsts.drop 1 else dsts
  let s1 := if udp then sendArb [false, true] 0x05 payload s else s
  ((ring.filter fun d => decide (d ≤ 3) && d != deviceNo s).eraseDups).foldl (fun s d => sendCasc 0x05 d payload s) s1

/-- This device becomes the owner (R441): steps 1 to 4. -/
def becomeOwner (e : Nat) (s : State) : State :=
  let s1 := newEpoch e { s with grp := { s.grp with role := 0, cyclesAsStandby := 0 } }
  let s2 := match s1.grp.shadowHandoff with
    | some h => { s1 with thr := { s1.thr with current := h.cmds }, grp := { s1.grp with shadowHandoff := none } }
    | none => s1
  noteHandover (announce (askBrakes (sendFrames true (nowOwns s2))))

/-- TAKE (R441, R442); `udp` for one from the external arbiter. -/
def takeIn (udp : Bool) (m : CascMsg) (s : State) : State :=
  let b := m.payload
  let id := fieldU b 0 2
  let e := fieldU b 2 2
  let target := byteAt b 4
  let old := byteAt b 5
  let answer (st : Nat) (s : State) : State :=
    let dsts := if st = 0 then [m.src, old] else [m.src]
    sendAck udp dsts (hoBytes id e target old 3 st) { s with grp := { s.grp with lastTake := some (id, e, st) } }
  if target = deviceNo s then
    let again := match s.grp.lastTake with
      | some t => t.1 == id && t.2.1 == e
      | none => false
    let busy := (match s.grp.ackTo with
      | some a => a.1 != id && decide (s.time.elapsed < a.2.2.2.1 + ms (pNat s 0x0719))
      | none => false) || (match s.grp.ho with
      | some h => h.id != id
      | none => false)
    if !fwRunning s then s
    else if again then answer ((s.grp.lastTake.map (·.2.2)).getD 0) s
    else if !epochHigher e s.grp.epoch then answer 1 s
    else if !eligible s then answer 2 s
    else if busy then answer 3 s
    else
      let s1 := answer 0 (becomeOwner e s)
      { s1 with grp := { s1.grp with ackTo := some (id, e, old, s1.time.elapsed, s1.time.elapsed) } }
  else
    let s1 := meetOwner e (if s.grp.role = 0 then learnOwner e s else seeEpoch e s)
    let s2 := { s1 with grp := { s1.grp with owner := some target, ownerEpoch := e } }
    if !fwRunning s then s1 else if s1.grp.owner = some target then s2 else noteHandover s2

/-- TAKE (R441). With an external arbiter the ring's TAKE and YIELD are not accepted (R446). -/
def execTake (m : CascMsg) (s : State) : Result := .next (if pNat s 0x0711 = 0xFE then s else takeIn false m s)

/-- YIELD (R442), answered by the link itself. -/
def yieldIn (udp : Bool) (m : CascMsg) (s : State) : State :=
  let b := m.payload
  let old := byteAt b 5
  if old = deviceNo s then
    sendAck udp [m.src] (hoBytes (fieldU b 0 2) (fieldU b 2 2) (byteAt b 4) old 4 0) (stopOwning s)
  else s

/-- YIELD (R442). -/
def execYield (m : CascMsg) (s : State) : Result := .next (if pNat s 0x0711 = 0xFE then s else yieldIn false m s)

/-- The repeated ACK of a new owner to the old one (R441). -/
def resendAck (s : State) : State :=
  match s.grp.ackTo with
  | some (id, e, old, t0, last) =>
    if t0 + ms (pNat s 0x0719) < s.time.elapsed ∨ 3 < old then { s with grp := { s.grp with ackTo := none } }
    else
      let s1 := elapseTo (last + ms 1) s
      sendCasc 0x05 old (hoBytes id e (deviceNo s) old 3 0) { s1 with grp := { s1.grp with ackTo := some (id, e, old, t0, s1.time.elapsed) } }
  | none => s

/-- HANDOVER_RESEND (R440, R441, R444): every 1 ms for up to GRP_ACK_MS. -/
def execHandoverResend (s : State) : Result :=
  match s.grp.ho with
  | some h =>
    if !awake s || decide (h.startedAt + ms (pNat s 0x0719) ≤ s.time.elapsed) then .next s
    else .next (resendAck (sendHandover h (elapseTo (h.lastSent + ms 1) s)))
  | none => .next (if awake s then resendAck s else s)

/-- HANDOVER_ACK_TIMEOUT (R440, R444). -/
def execHandoverAckTimeout (s : State) : Result :=
  match s.grp.ho with
  | some h =>
    if !awake s then .next s
    else
      let s1 := elapseTo (h.startedAt + ms (pNat s 0x0719)) s
      if h.targetAcked then .next { s1 with grp := { s1.grp with ho := none } } else .next (handoverNext h stPeerAbsent s1)
  | none => .next s

/-- HANDOVER_REQUEST's step: the MASTER broadcasts TAKE and waits for the target's ACK (R444); the epoch it issues is held from then on (R424). -/
def runHandover (c : Cmd) (s : State) : StepRes :=
  match c.data with
  | [] =>
    let h : Handover := { id := s.grp.hoCount, epoch := (s.grp.ownEpoch + 1) % 65536, target := byteAt c.params 0, old := deviceNo s, cause := 4,
                          tried := [], startedAt := s.time.elapsed, lastSent := s.time.elapsed, oldAcked := false, targetAcked := false,
                          cmd := some c.entry }
    .wait (sendHandover h (seeEpoch h.epoch { s with grp := { s.grp with hoCount := (s.grp.hoCount + 1) % 65536 } })) [1]
  | d => .wait s d

/-- HANDOVER_REQUEST. -/
def opHandoverRequest : OpDef := stepOp 0x0703 1
  (fun c s =>
    let d := byteAt c.params 0
    firstOf [sizeIs 1 c, when_ (s.grp.role != 0) stNotMaster, when_ (d != deviceNo s && !(decide (d ≤ 3) && (peerOf s d).announced)) stPeerAbsent,
      when_ (handoverActive s) stHandoverBusy, when_ (!mayTakeOver s d) stNotEligible]) runHandover

/-- HANDOVER_REQUEST (R444). -/
def execHandoverRequest (r : Req) (p : List Byte) (s : State) : Result := .next (packetIn true opHandoverRequest r p s)

/-! Judgement (R437 to R439). -/

/-- Two reports agree (R438). -/
def reportsAgree (s : State) (a b : List Byte) : Bool :=
  let d (o : Nat) : F32 := fsub (fieldF32 a o) (fieldF32 b o)
  byteAt a 14 == byteAt b 14 && fle (fnorm2 (d 28, d 32)) (pReal s 0x0715) && fle (fabs (fwrap (d 36))) (pReal s 0x0716) &&
    (List.range 3).all fun k => fle (fabs (d (40 + 4 * k))) (fmul (pReal s 0x0717) (ctlLim s k 3))

/-- A pair of devices is compared where both reports carry one period not compared before; its state so far is among `x`, whatever part either
device then had. -/
def comparePair (s : State) (a b : Option Nat) (x : List PairState) : PairState :=
  match a, b with
  | some a, some b =>
    let ra := (peerOf s a).health
    let rb := (peerOf s b).health
    let n := fieldU ra 4 8
    let x := ((x.find? fun p => p.who == some (min a b, max a b)).getD pairReset)
    let x := { x with who := some (min a b, max a b) }
    if ra.isEmpty || rb.isEmpty || fieldU rb 4 8 != n || x.lastPeriod == some n then x
    else
      let against := reportsAgree s ra rb == x.disagrees
      let c := if against then x.count + 1 else 0
      if c < pNat s 0x0718 then { x with count := c, lastPeriod := some n }
      else { x with disagrees := !x.disagrees, count := 0, lastPeriod := some n }
  | _, _ => pairReset

/-- The pairs M–S, M–A and S–A are compared and the pattern acted on; a change of pattern is recorded (R438). -/
def judgePairs (s : State) : State :=
  let m := s.grp.owner
  let st := standbyOf s
  let a := if pNat s 0x0714 = 1 then some (deviceNo s) else none
  let l := [comparePair s m st s.grp.pairs, comparePair s m a s.grp.pairs, comparePair s st a s.grp.pairs]
  let p := pattern s l
  let s1 := { s with grp := { s.grp with pairs := l, disagree := p == 1 } }
  if p = pattern s s.grp.pairs then s1
  else if p = 1 then record .groupDisagree [] s1
  else if p = 3 then record .standbyOdd (be 1 (st.getD 0)) s1
  else if p = 4 then record .arbiterOdd [] s1
  else s1

/-- At each of its period boundaries every device counts heartbeats of the period ended, and the ARBITER judges the owner (R437, R439). -/
def judge (s : State) : State :=
  let up (p : Peer) : Peer := { p with misses := if p.fresh then 0 else p.misses + 1, fresh := false }
  let s1 := { s with grp := { s.grp with peers := s.grp.peers.map up } }
  if !isArbiter s1 then s1
  else
    let s2 := judgePairs s1
    let pat := pattern s2 s2.grp.pairs
    let odd := oddStandby s2
    match s2.grp.owner with
    | some d =>
      if d = deviceNo s2 then s2
      else if 3 ≤ (peerOf s2 d).misses then failOwner d 1 odd s2
      else if byteAt (peerOf s2 d).health 2 = 2 then failOwner d 2 odd s2
      else if pat = 2 then failOwner d 3 odd s2
      else s2
    | none => s2

/-- HB_IN_TOGGLE (R437): HB_IN of a channel changes level. -/
def execHbInToggle (chan : Fin 2) (s : State) : Result :=
  let s1 := { s with grp := { s.grp with hbIn := modAt s.grp.hbIn chan.val (!·) } }
  let d := pNat s (0x071B + chan.val)
  .next (if fwRunning s && s.grp.role == 2 && decide (d ≤ 3) then modPeer d (fun p => { p with fresh := true }) s1 else s1)

/-! Backup pins and the external arbiter (R445, R446). -/

/-- PERMIT_IN_LOW (R442): PERMIT_IN has been low for 100 µs; `returns` its level afterwards. -/
def execPermitInLow (returns : Bool) (s : State) : Result :=
  let s1 := { s with grp := { s.grp with permitIn := returns } }
  .next (if pNat s 0x0713 = 1 then stopOwning s1 else s1)

/-- OWNER_OVERLAP (R445): both ACTIVE_IN high for 1 ms; the device with the lower epoch loses its PERMIT. -/
def execOwnerOverlap (s : State) : Result :=
  let s1 := { s with grp := { s.grp with activeIn := [true, true] } }
  let a := pNat s 0x071B
  let b := pNat s 0x071C
  if fwRunning s && s.grp.role == 2 && decide (a ≤ 3) && decide (b ≤ 3) then
    .next (record .ownerOverlap [] (withdrawPermit (if epochHigher (peerOf s b).epoch (peerOf s a).epoch then a else b) s1))
  else .next s1

/-- ARBITER_DATAGRAM_RX (R446). -/
def execArbiterDatagramRx (portB : Bool) (ip : BitVec 32) (data : List Byte) (s : State) : Result :=
  let n := data.length
  let body := data.take (n - 16)
  let counter := fieldU data (n - 20) 4
  let len := fieldU data 4 2
  let m : CascMsg := { down := portB, src := 0xFE, dst := byteAt data 2, seq := fieldU data 6 2, period := fieldU data 8 8, payload := slice data 16 len }
  if !awake s || pNat s 0x0711 != 0xFE || (roleKey s 4).isEmpty || ip.toNat != pNat s 0x071E || n != 36 + len || byteAt data 1 != 0xFE ||
      data.drop (n - 16) != (hmac (roleKey s 4) body).take 16 || decide (counter ≤ s.grp.datagramSeen) then .next s
  else
    let s1 := { s with grp := { s.grp with datagramSeen := counter } }
    if byteAt data 0 = 3 then .next (takeIn true m s1) else if byteAt data 0 = 4 then .next (yieldIn true m s1) else .next s1

/-! The EXTENSION device (R425 to R428). -/

/-- The last frame has been followed too long ago (R428): STANDBY commands and EXT_MASTER_LOST, once. -/
def extLose (s : State) : State :=
  if s.grp.role = 3 ∧ 3 ≤ s.grp.extMissed ∧ ¬ s.grp.extLost then
    let s1 := { s with thr := { s.thr with current := s.thr.current.mapIdx fun i c => if 16 ≤ i then standbyCmd else c,
                                           thr := s.thr.thr.mapIdx fun i x => if 16 ≤ i then idleThr x else x } }
    record .extMasterLost [] { s1 with grp := { s1.grp with extLost := true, extPending := [] } }
  else s

/-- EXT_MASTER_LOST (R428). -/
def execExtMasterLost (s : State) : Result := .next (if awake s then extLose s else s)

/-- A period of the EXTENSION's own begins: the one just ended is counted where no EXT_CMD came in it (R428). -/
def extPeriod (s : State) : State :=
  if s.grp.role = 3 then extLose { s with grp := { s.grp with extMissed := if s.grp.extSeen then 0 else s.grp.extMissed + 1, extSeen := false } } else s

/-- EXT_CMD (R426, R428). -/
def extCmdIn (m : CascMsg) (s : State) : State :=
  let b := m.payload
  if !awake s || s.grp.role != 3 || b.length != 208 then s
  else if (peerOf s m.src).crc ≠ configCrc s then record .configMismatch [] s
  else if epochHigher s.grp.epoch (fieldU b 12 2) then s
  else
    let c : ExtCmd := ⟨fieldU b 0 8, byteAt b 8, fieldU b 12 2, b.drop 16⟩
    seeEpoch c.epoch { s with grp := { s.grp with extPending := s.grp.extPending ++ [c], extMissed := 0, extSeen := true, extLost := false,
                                                  owner := some m.src, ownerEpoch := c.epoch } }

/-- EXT_CMD (R426). -/
def execExtCmd (m : CascMsg) (s : State) : Result := .next (extCmdIn m s)

/-- EXT_FB (R427), kept with its arrival stamp for the snapshots still to come. A thruster that it shows out of FAULT has been cleared (log 222). -/
def extFbIn (m : CascMsg) (s : State) : State :=
  if awake s && s.grp.role == 0 && pNat s 0x0712 == m.src && m.payload.length == 640 then
    let faulty (t : Nat) : Bool := let w := fieldU (extPart m.payload t) 0 4; w / 256 % 4 == 2 || w / 1024 % 4 == 2
    let gone := ((List.range 16).filter fun i => bitOf s.thr.extClear (16 + i) && !faulty (16 + i)).map (16 + ·)
    { s with grp := { s.grp with extFb := ((s.time.total, m.payload) :: s.grp.extFb).take 128, extFbMissed := 0, extFbSeen := true },
             thr := { s.thr with extClear := gone.foldl (fun m t => putBit m t false) s.thr.extClear } }
  else s

/-- EXT_FB (R427). -/
def execExtFb (m : CascMsg) (s : State) : Result := .next (extFbIn m s)

/-! Stops and notices (R429, R144, R196). -/

/-- STOP (R429): as though the device had accepted the opcode itself; it is not sent on (log 63). -/
def stopIn (m : CascMsg) (s : State) : State :=
  let o := fieldU m.payload 0 2
  if !awake s || !(o == 0x03F0 || o == 0x08F0) then s
  else if isDet s then { s with thr := { s.thr with stopPending := s.thr.stopPending ++ [o] } } else stopEffect o s

/-- STOP (R429). -/
def execStop (m : CascMsg) (s : State) : Result := .next (stopIn m s)

/-- STEP_NOTICE (R144): the step is applied at I of the device's own counter; one that has passed was missed. -/
def stepNoticeIn (m : CascMsg) (s : State) : State :=
  let b := m.payload
  let i := fieldU b 16 8 * 10 ^ 9 + fieldU b 24 4
  if !awake s || !isFollower s || decide (i < s.time.total) then s
  else
    let p : PendStep := { delta := fieldS b 0 16, instant := i, origin := 1, count := fieldU b 28 2, entry := none }
    addStep p s

/-- STEP_NOTICE (R144). -/
def execStepNotice (m : CascMsg) (s : State) : Result := .next (stepNoticeIn m s)

/-- CATCH_UP_STEP (R144): a follower whose step count, with the steps whose notices it holds, differs steps to the MASTER's time, `master` at this instant, at the next whole
millisecond once its control engine is in STANDBY. -/
def execCatchUpStep (master : Stamp) (s : State) : Result :=
  if !awake s || !isFollower s || s.ctl.mode != 0 || noticeCount s == s.time.masterStepCount then .next s
  else
    let i := (s.time.total + 999999) / 1000000 * 1000000
    .next (applyStep { delta := ((master.sec * 10 ^ 9 + master.ns : Nat) : Int) - s.time.total, instant := i, origin := 2,
                       count := s.time.masterStepCount, entry := none } s)

/-- SYNC_NOTICE (R196); one whose I has passed is applied at the next whole 100 µs and recorded with its lateness, ns. -/
def syncNoticeIn (m : CascMsg) (s : State) : State :=
  let i := fieldU m.payload 0 8 * 10 ^ 9 + fieldU m.payload 8 4
  let t := s.time.total
  if !acqUp s || pNat s 0x0254 != 1 || !isFollower s then s
  else if t ≤ i then { s with acq := { s.acq with syncs := s.acq.syncs ++ [(i, 2)] } }
  else record .acqSyncLate (be 4 (satU 32 (t - i))) { s with acq := { s.acq with syncs := s.acq.syncs ++ [((t + 99999) / 100000 * 100000, 2)] } }

/-- SYNC_NOTICE (R196). -/
def execSyncNotice (m : CascMsg) (s : State) : Result := .next (syncNoticeIn m s)

/-! Booting from the cascade (R417). -/

/-- The BOOT strap selects the cascade (Table 18-10). -/
def cascBoot (s : State) : Bool := s.pwr.straps.toNat % 8 == 2

/-- Payloads of BOOT_DATA: index, count and up to 2,044 bytes of the image (the layout is the model's, log 58). -/
def bootParts : List (List Byte) :=
  let img := Config.fwImage ()
  let n := (img.length + 2043) / 2044
  (List.range n).map fun i => be 2 i ++ be 2 n ++ slice img (2044 * i) 2044

/-- The distances on the ring, as this device has learned them, between devices `a` and `b`, neither of them this one. -/
def ringBetween (a b : Peer) : List Nat :=
  let gap (x y : Option Nat) : List Nat := match x, y with
    | some i, some j => [if i ≤ j then j - i else i - j]
    | _, _ => []
  let round (x y : Option Nat) : List Nat := match x, y with
    | some i, some j => [i + j]
    | _, _ => []
  gap a.upDist b.upDist ++ gap a.downDist b.downDist ++ round a.upDist b.downDist ++ round a.downDist b.upDist

/-- This device is the nearest that runs firmware to device `d`, ties to the lower number (R417, log 58). -/
def nearestTo (d : Nat) (s : State) : Bool :=
  let p := peerOf s d
  let least (l : List Nat) : Nat := l.foldl min 4
  let own := least (p.upDist.toList ++ p.downDist.toList)
  !(List.range 4).any fun e =>
    let q := peerOf s e
    let far := least (ringBetween q p)
    e != deviceNo s && e != d && q.announced && decide (q.misses < 3) && (decide (far < own) || (far == own && decide (e < deviceNo s)))

/-- BOOT_REQ (R417): the nearest device that runs firmware answers with its image. -/
def bootReqIn (m : CascMsg) (s : State) : State :=
  if awake s && nearestTo m.src s then bootParts.foldl (fun s p => sendCasc 0x41 m.src p s) s else s

/-- BOOT_REQ (R417). -/
def execBootReq (m : CascMsg) (s : State) : Result := .next (bootReqIn m s)

/-- A device waits for an image over the cascade. -/
def awaitsImage (s : State) : Bool := cascUp s && s.pwr.boot == .rom && cascBoot s && !s.grp.bootOk

/-- BOOT_REQ_TX (R417): every 100 ms. -/
def execBootReqTx (s : State) : Result :=
  if awaitsImage s then
    let s1 := elapseTo (s.grp.bootAskedAt + ms 100) s
    .next (sendCasc 0x40 0xFF [] { s1 with grp := { s1.grp with bootAskedAt := s1.time.elapsed } })
  else .next s

/-- BOOT_DATA (R417): parts are gathered by their sender and place; the whole image is verified once every part of it has come from one sender, and
discarded where it fails. -/
def bootDataIn (m : CascMsg) (s : State) : State :=
  if !awaitsImage s then s
  else
    let i := fieldU m.payload 0 2
    let ps := s.grp.bootParts.filter (fun p => !(p.1 == m.src && p.2.1 == i)) ++ [(m.src, i, m.payload.drop 4)]
    let img := (List.range (fieldU m.payload 2 2)).map fun k => (ps.find? fun p => p.1 == m.src && p.2.1 == k).map (·.2.2)
    if img.any (·.isNone) then { s with grp := { s.grp with bootParts := ps } }
    else if Config.imageVerifies (img.flatMap (·.getD [])) then { s with grp := { s.grp with bootParts := ps, bootOk := true } }
    else { s with grp := { s.grp with bootParts := ps.filter fun p => p.1 != m.src } }

/-- BOOT_DATA (R417). -/
def execBootData (m : CascMsg) (s : State) : Result := .next (bootDataIn m s)

/-! The self-test (R434). -/

/-- SELFTEST_CYCLE (R434): a cycle of a STANDBY or ARBITER ends; suspended while the brown-out warning is raised (Table 14-10). A failure of the
recurrent engine is that of R295; the marver has nothing to take its place and fails the cycle only (log 227). -/
def execSelftestCycle (outcome : SelfTest) (s : State) : Result :=
  if !awake s || bowRaised s || !(s.grp.role == 1 || s.grp.role == 2) then .next s
  else
    let ok := outcome == .passed
    let s1 := { s with grp := { s.grp with selftestCycles := (s.grp.selftestCycles + 1) % 2 ^ 32,
                                           cyclesAsStandby := if ok then s.grp.cyclesAsStandby + b2n (s.grp.role == 1) else 0 } }
    match outcome with
    | .passed => .next s1
    | .tile solver n => .next (retireTile solver n.val s1)
    | .recurrent => .next (rnnFail s1)
    | .marver => .next s1
    | .memory => .next { s1 with grp := { s1.grp with memoryFail := true } }

/-! Links and frames (R412 to R416). -/

/-- A link changes state (R413); what waited for a port whose link is DOWN is not sent (log 226). -/
def setLink (port : Nat) (up : Bool) (s : State) : State :=
  if at_ false s.grp.links port == up then s
  else
    let s1 := { s with grp := { s.grp with links := modAt s.grp.links port (fun _ => up), badCrcAt := modAt s.grp.badCrcAt port (fun _ => []) } }
    let s2 := if up then s1 else { s1 with grp := { s1.grp with txq := s1.grp.txq.filter fun f => f.port != port } }
    if fwRunning s then record (if up then .cascLinkUp else .cascLinkDown) (be 1 port) s2 else s2

/-- CASC_LINK_UP (R413): block lock held for 10 ms, and the domain not isolated (R527). -/
def execCascLinkUp (down : Bool) (s : State) : Result := .next (if cascUp s && !s.pwr.isolated.getLsbD 8 then setLink (b2n down) true s else s)

/-- CASC_LINK_DOWN (R413): block lock lost for 1 ms. -/
def execCascLinkDown (down : Bool) (s : State) : Result := .next (if cascUp s then setLink (b2n down) false s else s)

/-- A frame with a bad CRC is dropped and counted; sixteen within 1 ms take the link DOWN (R413, R414). -/
def badFrame (port : Nat) (s : State) : State :=
  let t := s.time.elapsed
  let ts := (t :: at_ [] s.grp.badCrcAt port).filter fun x => decide (t ≤ x + ms 1)
  let s1 := { s with grp := { s.grp with framesDropped := min (s.grp.framesDropped + 1) (2 ^ 32 - 1),
                                         badCrcAt := modAt s.grp.badCrcAt port (fun _ => ts.take 16) } }
  if 16 ≤ ts.length then setLink port false s1 else s1

/-- What a taken frame does, by its TYPE (Table 14-2). -/
def takeFrame2 (typ : Nat) (m : CascMsg) (s : State) : State :=
  match typ with
  | 0x01 => announceIn m s
  | 0x02 => healthIn m s
  | 0x03 => if pNat s 0x0711 = 0xFE then s else takeIn false m s
  | 0x04 => if pNat s 0x0711 = 0xFE then s else yieldIn false m s
  | 0x05 => ackIn m s
  | 0x10 => mirrorIn m s
  | 0x20 => extCmdIn m s
  | 0x21 => extFbIn m s
  | 0x22 => stopIn m s
  | 0x30 => stepNoticeIn m s
  | 0x31 => syncNoticeIn m s
  | 0x40 => bootReqIn m s
  | 0x41 => bootDataIn m s
  | _ => s

/-- The frame goes on, with one hop fewer, on the other port (R415). -/
def forward (port : Nat) (f : List Byte) (s : State) : State :=
  let hops := byteAt f 3
  let other := 1 - port
  if byteAt f 2 = deviceNo s ∨ hops = 0 ∨ byteAt f 1 = deviceNo s ∨ ¬ linkUp s other then s
  else
    queueCasc ⟨other, byteAt f 2, byteAt f 0,
      cascFrame (byteAt f 0) (byteAt f 1) (byteAt f 2) (hops - 1) (fieldU f 6 2) (fieldU f 8 8) (slice f 16 (fieldU f 4 2))⟩ s

/-- A frame of this device's own number is one that it sent itself and that has come round the ring: an ANNOUNCE of its last ones within 1 ms
of sending it, a frame of any other TYPE always. An ANNOUNCE of that number at any other time is another device's (R421, log 57). -/
def ownFrame (s : State) (typ seq : Nat) : Bool :=
  let back := ((keyGet typ s.grp.txSeq).getD 0 + 65536 - seq % 65536) % 65536
  typ != 1 || (decide (1 ≤ back ∧ back ≤ 4) && decide (s.time.elapsed ≤ s.grp.lastAnnounce + ms 1))

/-- A path is broken where two ANNOUNCEs in a row have come by the other one only (R415, log 226). -/
def fellBehind (seq last : Nat) : Bool := let d := (seq + 65536 - last) % 65536; decide (2 ≤ d ∧ d < 32768)

/-- The distance that a device's ANNOUNCE or BOOT_REQ has come is learned from every copy (R415). -/
def learnDistance (port src seq dist : Nat) (s : State) : State :=
  modPeer src (fun p =>
    if port = 0 then { p with upDist := some dist, upSeq := seq, downDist := if fellBehind seq p.downSeq then none else p.downDist }
    else { p with downDist := some dist, downSeq := seq, upDist := if fellBehind seq p.upSeq then none else p.upDist }) s

/-- CASC_FRAME_RX (R414, R415): CRC, forwarding, and taking the first copy. -/
def execCascFrameRx (down : Bool) (frame : List Byte) (s : State) : Result :=
  let port := b2n down
  let n := frame.length
  let len := fieldU frame 4 2
  if !linkUp s port then .next s
  else if n < 20 ∨ n ≠ 20 + len ∨ 2048 < len ∨ crcNat (frame.take (n - 4)) ≠ fieldU frame (n - 4) 4 then .next (badFrame port s)
  else
    let typ := byteAt frame 0
    let src := byteAt frame 1
    let dst := byteAt frame 2
    let seq := fieldU frame 6 2
    let s1 := forward port frame s
    let dist := 4 - min 3 (byteAt frame 3)
    let s2 := if (typ = 1 ∨ typ = 0x40) ∧ src ≠ deviceNo s ∧ fwRunning s then learnDistance port src seq dist s1 else s1
    let key := 256 * src + typ
    let seen := (keyGet key s2.grp.seen).getD []
    if !(dst == deviceNo s || dst == 0xFF) || seen.contains seq || (src == deviceNo s && ownFrame s typ seq) then .next s2
    else
      let s3 := { s2 with grp := { s2.grp with seen := keyPut key ((seq :: seen).take 64) s2.grp.seen } }
      .next (takeFrame2 typ ⟨down, src, dst, seq, fieldU frame 8 8, slice frame 16 len⟩ s3)

/-! Status and role (R108, R420, R435, R447). -/

/-- The group status block (Table 14-8). -/
def groupStatusBlock (s : State) : List Byte :=
  let me := deviceNo s
  let role (d : Nat) : Nat := if d = me then s.grp.role else if (peerOf s d).announced then (peerOf s d).role else 0xFF
  let elig (d : Nat) : Bool := if d = me then eligible s else bitOf (byteAt (peerOf s d).health 3) 0
  let fl := flagsWord [s.grp.excluded, s.grp.disagree, handoverActive s, s.grp.permitIn, at_ false s.grp.takenHistory 0]
  be 1 me ++ be 1 s.grp.role ++ be 1 (s.grp.owner.getD 0xFF) ++ be 1 (pNat s 0x0711) ++ be 2 s.grp.epoch ++
    be 1 (flagsWord [linkUp s 0, linkUp s 1]) ++ be 1 fl ++ (List.range 4).flatMap (fun d => be 1 (role d)) ++
    be 1 (flagsWord ((List.range 4).map elig)) ++
    be 1 (flagsWord ((List.range 4).map fun d => (peerOf s d).freshMax.isSome && (peerOf s d).misses == 0)) ++ be 2 0 ++
    be 4 s.grp.mirrorMissed ++ be 4 s.grp.extLate ++ be 4 s.grp.framesDropped ++ be 4 s.grp.handovers ++
    be 8 (s.grp.lastHandover.getD (2 ^ 64 - 1))

/-- GROUP_STATUS. -/
def opGroupStatus : OpDef := readOp 0x0701 1 0 (fun _ _ => 0) fun _ s => groupStatusBlock s

/-- GROUP_STATUS (R447). -/
def execGroupStatus (r : Req) (p : List Byte) (s : State) : Result := .next (packetIn true opGroupStatus r p s)

/-- ROLE_SET's conditions (R108, R420); an excluded device is in role STANDBY (R421, log 216). -/
def roleSetBad (r : Nat) (s : State) : Bool :=
  let me := deviceNo s
  (r == 2 && pNat s 0x0711 != me) || (r == 3 && pNat s 0x0712 != me) || (decide (r ≤ 1) && (pNat s 0x0711 == me || pNat s 0x0712 == me)) ||
    (r == 0 && s.grp.role != 0 && (masterOf s).isSome) || (s.grp.excluded && r != 1)

/-- ROLE_SET. -/
def opRoleSet : OpDef := stepOp 0x0702 1
  (fun c s => firstOf [sizeIs 1 c, when_ (decide (3 < byteAt c.params 0)) stBadEnum, when_ (s.ctl.mode != 0) stNotStandby,
    when_ (roleSetBad (byteAt c.params 0) s) stInconsistent])
  fun c s => .finish (takeUp (changeRole (byteAt c.params 0) s)) stOk c.params none

/-- ROLE_SET (R108, R420). -/
def execRoleSet (r : Req) (p : List Byte) (s : State) : Result := .next (packetIn true opRoleSet r p s)

/-- HEALTH_READ. -/
def opHealthRead : OpDef := stepOp 0x0704 1
  (fun c s =>
    let d := byteAt c.params 0
    let recent := decide (d ≤ 3) && (match (peerOf s d).healthPeriod with
      | some n => decide (periodIndex s ≤ n + 3)
      | none => false)
    firstOf [sizeIs 1 c, when_ (d != deviceNo s && !recent) stPeerAbsent])
  fun c s =>
    let d := byteAt c.params 0
    let h := (peerOf s d).health
    .finish s stOk (if h.isEmpty then healthReport (periodIndex s) s else h) none

/-- HEALTH_READ (R435). -/
def execHealthRead (r : Req) (p : List Byte) (s : State) : Result := .next (packetIn true opHealthRead r p s)

end Sys2Proof.Machine
end

