-- ==== Sys2Proof/Machine/Logs.lean ====
section
/-! DEFINITION. The input log (R408): the entries of a period, its digest, and the datagrams of its block. -/

namespace Sys2Proof.Machine

/-- A time of the counter as log entries carry it: uint48 seconds, uint32 ns. -/
def timeBytes (t : Nat) : List Byte := be 6 (t / 10 ^ 9) ++ be 4 (t % 10 ^ 9)

/-- An entry of Table 13-9. -/
def logEntry (kind : Nat) (payload : List Byte) : List Byte := be 1 kind ++ be 1 0 ++ be 2 payload.length ++ payload

/-- Payload of an INPUT entry; an input with nothing taken reads QUALITY NONE and zeros. -/
def inputPayload (i : Nat) (x : Option InSnap) : List Byte :=
  match x with
  | some v => be 1 i ++ be 1 v.q ++ be 2 0 ++ be 8 v.value.toNat ++ timeBytes v.valid.toNat ++ timeBytes v.arr
  | none => be 1 i ++ zeros 31

/-- Bytes of entries that one UDP datagram over IPv4 (65,507 bytes) may have beside header, digest and trailer. -/
def logRoom : Nat := 65507 - 24 - 4 - 16

/-- Payload of a COMMAND entry. -/
def commandPayload (p : Pend) : List Byte := be 2 p.opcode ++ be 2 0 ++ be 4 (crcNat p.params) ++ p.params

/-- The INPUT entries: every used input in a FULL block, else those that differ from the previous block. -/
def inputEntries (full : Bool) (s : State) : List (List Byte) :=
  ((List.range 64).filter fun i => finRole s i != 0 &&
    (full || inputPayload i (snapOf s i) != inputPayload i (at_ none s.sch.logPrev i))).map fun i => logEntry 0 (inputPayload i (snapOf s i))

/-- The OPTICAL entries: frames that arrived since the previous snapshot instant, by head, oldest first. -/
def opticalEntries (s : State) : List (List Byte) :=
  s.fus.heads.flatMap fun l =>
    ((l.filter fun f => decide (s.sch.prevSnap ≤ f.1 ∧ (f.1 : Int) < s.sch.snap)).reverse).map fun f => logEntry 1 (timeBytes f.1 ++ f.2)

/-- The GNSS_EPOCH entry of an epoch not yet logged. -/
def gnssEntries (s : State) : List (List Byte) :=
  if s.gnss.rawEpoch.isSome ∧ s.gnss.rawEpoch ≠ s.sch.gnssLogged then [logEntry 2 (rawBody s (pNat s 0x0420) 0 256)] else []

/-- Every entry of the period but its FEEDBACKs. -/
def logEntries (full : Bool) (s : State) : List (List Byte) :=
  inputEntries full s ++ opticalEntries s ++ gnssEntries s ++ s.sch.rtcm.map (logEntry 3) ++
    ((s.sch.cmds.filter fun p => p.opcode != 0).map fun p => logEntry 4 (commandPayload p)) ++
    (if s.sch.skip = 0 then [] else [logEntry 6 (be 4 s.sch.skip)])

/-- What OUT_DIGEST takes before the COMMAND frames: VALUEs of the signals, then fx and fy of each configured thruster. -/
def digestHead (s : State) : List Byte :=
  let sig (id : Nat) : List Byte := let v : OutVal := (outGet s id).getD ⟨0, 0⟩; be 8 v.value.toNat
  let fs := (configured s).zip (handedOver s).1
  ((List.range 9).flatMap fun q => sig (0x0300 + q)) ++ ((List.range 3).flatMap fun k => sig (0x0402 + k)) ++
    fs.flatMap fun e => let f := bodyForce s e.1 e.2; be 8 f.1.toNat ++ be 8 f.2.toNat

/-- OUT_DIGEST of a period whose head and mirror stream are given. -/
def outDigest (s : State) (period : Nat) (head tail : List Byte) : List Byte :=
  (sha256 (head ++ ((s.thr.frames.filter fun f => f.1 == period).flatMap (·.2)) ++ tail)).take 16

/-- The FEEDBACK entries of a period. -/
def feedbackEntries (s : State) (period : Nat) : List (List Byte) :=
  (s.thr.used.filter fun u => u.1 == period).map fun u =>
    logEntry 5 (be 1 u.2.1 ++ be 1 u.2.2.1 ++ be 2 0 ++ timeBytes u.2.2.2.1 ++ padTo 24 u.2.2.2.2)

/-- Entries gathered into datagrams, none of which they make longer than UDP over IPv4 admits. -/
def packParts : List (List Byte) → List Byte → List (List Byte)
  | [], acc => [acc]
  | e :: es, acc => if acc.length + e.length ≤ logRoom then packParts es (acc ++ e) else acc :: packParts es e

/-- A datagram of a block (Table 13-8). -/
def logDatagram (l : LogOpen) (part : Nat) (last : Bool) (body : List Byte) : List Byte :=
  let d := be 4 0x564B4C47 ++ be 1 1 ++ be 1 (b2n last + 2 * b2n l.full) ++ be 1 part ++ be 1 0 ++ be 8 l.period ++ be 4 l.block ++
    be 4 l.crc ++ body
  d ++ be 4 (crcNat d)

/-- A block is sent (R408), from and to LOG_DEST_PORT. One that cannot be is dropped whole and counted: its port is isolated, an entry is longer
than a datagram admits, or its datagrams are more than PART numbers (log 112). -/
def sendBlock (s : State) (l : LogOpen) : State :=
  let parts := packParts (l.entries ++ feedbackEntries s l.period) []
  let digest := outDigest s l.period l.head l.tail
  if s.pwr.isolated.getLsbD (if l.portB then 7 else 6) || parts.any (fun p => decide (logRoom < p.length)) || decide (256 < parts.length) then
    bumpCount 13 1 s
  else (parts.mapIdx fun i b => (i, b)).foldl (fun s p =>
    let last := p.1 + 1 == parts.length
    emit (.udp l.portB (BitVec.ofNat 32 l.ip) l.port l.port (logDatagram l p.1 last (if last then p.2 ++ digest else p.2))) s) s

/-- After stage 9: the block of the period in hand is opened while LOG_ENABLE is 1. -/
def openBlock (s : State) : State :=
  if pNat s 0x0359 ≠ 1 then { s with sch := { s.sch with logFull := true, rtcm := [] } }
  else
    let full := s.sch.logFull || s.sch.logBlock % 1000 == 0
    let l : LogOpen := ⟨s.sch.cur, s.sch.logBlock, full, configCrc s, pNat s 0x035C == 1, pNat s 0x035A, pNat s 0x035B, logEntries full s, digestHead s,
      s.sch.mirrorOut⟩
    { s with sch := { s.sch with logOpen := s.sch.logOpen ++ [l], logBlock := (s.sch.logBlock + 1) % 2 ^ 32, logFull := false,
                                 logPrev := s.fus.snap, gnssLogged := s.gnss.rawEpoch, rtcm := [] } }

/-- At a boundary the blocks of periods that have ended are sent; frames and FEEDBACKs of periods no block waits for are forgotten. -/
def flushBlocks (s : State) : State :=
  let ready (l : LogOpen) : Bool := l.period != s.grid.period
  let s1 := (s.sch.logOpen.filter ready).foldl sendBlock s
  let kept := s.sch.logOpen.filter fun l => !ready l
  let live (n : Nat) : Bool := n == s.grid.period || n == s.sch.cur || s.sch.begun.any (·.1 == n)
  { s1 with sch := { s1.sch with logOpen := kept },
            thr := { s1.thr with frames := s1.thr.frames.filter (fun f => live f.1), used := s1.thr.used.filter fun u => live u.1 } }

end Sys2Proof.Machine
end

