-- ==== Sys2Proof/Machine/Periods.lean ====
section
/-! DEFINITION. The vessel period (chapters 01 and 13): its boundary, its stages in order, speculation, catch-up. -/

namespace Sys2Proof.Machine

/-! The configuration a period takes (R22, R92, R94). -/

/-- A CONFIG_LOCK. -/
def Effect.isLock : Effect → Bool
  | .lock _ _ => true
  | _ => false

/-- Structure 57 stands while LEVEL_A is 1, its values zero until a solve writes them (R306). -/
def ownLevel (s : State) : List (Nat × Struct) :=
  if pNat s 0x0219 = 1 then keyPut 57 { levelStruct (List.replicate 267 levelNone) with tile := b2n (!tileUp s 0) } s.slv.structs
  else keyDel 57 s.slv.structs

/-- Structure 56 is built from the thrusters in force, structure 57 from LEVEL_A (R305, R306, R309). -/
def ownStructs (s : State) : State :=
  let s1 := { s with slv := { s.slv with structs := keyDel 56 (ownLevel s) } }
  let t := allocStruct s1 0
  { s1 with slv := { s1.slv with structs := keyPut 56 { t with tile := (placeStruct s1 56 t.bytes (0, 0)).getD 0 } s1.slv.structs } }

/-- A locked configuration comes into force, with what it does to each part (R203, R253, R271, R302, R309, R373, R408, R567). -/
def lockIn (ps : List (Nat × Value)) (ts : List (Nat × List Byte)) (s : State) : State :=
  let s1 := { s with cfg := { s.cfg with force := ps, forceTabs := ts } }
  let same (id : Nat) : Bool := tab s id == tab s1 id
  let digest (s : State) : List Byte := slice (tab s 0x0361) 16 32
  let net := digest s == digest s1 && (tab s 0x0361).isEmpty == (tab s1 0x0361).isEmpty && same 0x036A && same 0x036B
  let s2 := canRejoin (tab s 0x0290) (obsLock (same 0x0360) net (fusionLock s1))
  let s3 := dropUnnamed <| pruneStamps <| thresholdsOff (ownStructs { s2 with thr := { s2.thr with mask := 0 } })
  { s3 with sch := { s3.sch with nominal := true, durs := [], logFull := true }, gnss := { s3.gnss with level := none } }

/-- An effect at its first snapshot; modes, setpoints and joystick values wait for stage 5. -/
def takeEffect (s : State) (p : Pend) : State :=
  match p.eff with
  | .lock ps ts => lockIn ps ts s
  | .param _ _ => { s with cfg := cfgEffect s.cfg p.eff }
  | .table _ _ => dropUnnamed <| thresholdsOff { s with cfg := cfgEffect s.cfg p.eff }
  | .mode _ => s
  | .setpoint _ => s
  | .joystick _ => s
  | .avail m c => availIn m c s
  | .source r q => selectSource r q s
  | .nodes rs ba => { s with slv := applyNodes rs ba s.slv }

/-- Parameters that stage 5 reads: the period and its guarantee, the local origin, the policies of R269, and those of Table 11-10. -/
def params5 : List Nat := [0x0101, 0x0105, 0x0210, 0x0211, 0x0212, 0x0215] ++ (List.range 20).map (0x0301 + ·)

/-- Tables that stage 5 reads: REFERENCES, OBS_MODEL, and those of chapter 11. -/
def tables5 : List Nat := [0x0202, 0x0360, 0x0390, 0x0391, 0x0392, 0x0393, 0x0394, 0x0395]

/-- What stage 5 takes of a configuration. -/
def config5 (c : CfgState) : List Value × List (List Byte) :=
  (params5.map (valueIn c.force), tables5.map fun id => (keyGet id c.forceTabs).getD [])

/-- An effect changes an input of stage 5 (CMD_GEN, Table 13-2); a change of the map is counted by MAP_GEN beside it. -/
def changes5 (s : State) (e : Effect) : Bool :=
  match e with
  | .mode _ => true
  | .setpoint _ => true
  | .joystick _ => true
  | .avail m _ => m != s.thr.mask
  | .source _ _ => true
  | .nodes _ _ => false
  | e => config5 s.cfg != config5 (cfgEffect s.cfg e)

/-- An effect comes into force and is counted in CMD_GEN. -/
def takeCounted (s : State) (p : Pend) : State :=
  let s1 := takeEffect s p
  if changes5 s p.eff then { s1 with sch := { s1.sch with cmdGen := (s1.sch.cmdGen + 1) % 2 ^ 32 } } else s1

/-! Stage 1: the boundary. -/

/-- The device runs no stage from 2 to 8: an EXTENSION, and an ARBITER that shadows nothing (R433). -/
def noStages (s : State) : Bool := s.grp.role == 3 || (s.grp.role == 2 && pNat s 0x0714 == 0)

/-- Periods run from log blocks (R409). -/
def replays (s : State) : Bool := pNat s 0x035D == 1

/-- A parison chain whose period ends before its stage 5 has begun is cullet (Table 13-4). Periods run from log blocks end with their blocks. -/
def dropChain (old : Nat) (s : State) : State :=
  match s.sch.chain with
  | some c => if c.period = old ∧ !replays s then bumpCount 3 1 { s with sch := { s.sch with chain := none } } else s
  | none => s

/-- Period `n` opens at boundary `b` and ends at `e` (R16, R18). -/
def openPeriod (n : Nat) (b e : Int) (s0 : State) : State :=
  let old := if s0.grid.running then (s0.grid.period, s0.grid.tpTotal) else (n, 41)
  let s := dropChain old.1 s0
  let s1 := { s with grid := { running := true, everBegun := true, period := n, startT := b, endT := e, vp := vpNs s, tp := tpNs s,
                               phase := pNat s 0x0103, tpDone := 0, tpTotal := tpCount (tpNs s) b e },
                     sch := { s.sch with begun := if replays s then [] else s.sch.begun ++ [(n, b)] } }
  let s2 := extPeriod (judge (canRecoverStart (busBoundary (acqBoundary n (if isDet s1 then clearDue b s1 else s1)))))
  let oldest := (s2.sch.begun.head?.map (·.2)).getD b
  flushBlocks (keepMarks n (tpWork 0 old (pruneSignals oldest.toNat s2)))

/-- Under REPLAY no period of the device's own starts, so that its own commands' effects come into force at its boundaries (R409). -/
def ownEffects (b : Int) (s : State) : State :=
  let due := s.sch.pend.filter fun p => decide (p.at_ < b)
  due.foldl takeEffect { s with sch := { s.sch with pend := s.sch.pend.filter fun p => !decide (p.at_ < b) } }

/-- VESSEL_PERIOD_BOUNDARY: the next boundary of the grid, under the configuration of the period it opens (R14, R16). A boundary
that the new grid does not have keeps the old numbering (log 105), and its period ends at the first instant of the new grid
(log 172). -/
def execVesselPeriodBoundary (s : State) : Result :=
  if !awake s || !s.time.counting then .next s
  else
    let b : Int := if s.grid.running then s.grid.endT else gridAt s s.time.total
    let v := { s with cfg := cfgBefore b s }
    let r := openPeriod (boundaryIndex s b) b (gridAt v (b + 1)) (countTo b.toNat v)
    .next (if replays v then ownEffects b { r with cfg := s.cfg } else { r with cfg := s.cfg })

/-! Start instants (R402, R567). -/

/-- A_nom of a period with boundary `b` and following boundary `e`. -/
def nominalStart (s : State) (durs : List Nat) (b e : Int) : Int :=
  match isDet s, durs with
  | false, d :: ds => max b (e - ((ds.foldl max d + us (pNat s 0x0351) : Nat) : Int))
  | _, _ => b

/-- Boundary and following boundary of the next period to start. -/
def nextBounds (s : State) : Int × Int :=
  match s.sch.begun with
  | p :: q :: _ => (p.2, q.2)
  | p :: [] => (p.2, s.grid.endT)
  | [] => (s.grid.endT, gridAt s (s.grid.endT + 1))

/-! Stage 2: the snapshot (R21, R22). -/

/-- Under DET the snapshot waits for a level A solve whose deadline lies before it (R322). -/
def levelAWait (s : State) (b : Int) : Bool :=
  isDet s && pNat s 0x0219 == 1 && s.gnss.levelA &&
    (match s.gnss.epoch with
     | some t => decide ((t : Int) + us (pNat s 0x0610) < b)
     | none => false)

/-- Under DET the snapshot waits for every solution and heading whose arrival stamp lies before it (R167). -/
def solutionWait (s : State) (b : Int) : Bool :=
  isDet s && (s.gnss.olds.any (fun h => decide ((h.epoch : Int) + 10000000 < b)) ||
    (!s.gnss.awaiting.isEmpty && (s.gnss.epoch.map fun t => decide ((t : Int) + 10000000 < b)).getD false))

/-- A shadow takes the mirror stream, and with it the MASTER's commands (R432, R433). -/
def takeStream (n : Nat) (s : State) : State :=
  let own := s.sch.cmds.length
  let s1 := useStream n s
  (s1.sch.cmds.drop own).foldl takeCounted s1

/-- Optical frames older than the newest before the previous snapshot are needed no more. -/
def pruneHeads (at_ : Int) (s : State) : State :=
  let f (l : List (Nat × List Byte)) : List (Nat × List Byte) :=
    l.filter (fun x => decide (at_ ≤ x.1)) ++ (l.filter fun x => decide ((x.1 : Int) < at_)).take 1
  { s with fus := { s.fus with heads := s.fus.heads.map f } }

/-- The effects due at a snapshot come into force, and those that follow them in stage 5 are kept. -/
def takeDue (n : Nat) (snap : Int) (s : State) : State :=
  let due := s.sch.pend.filter fun p => decide (p.at_ < snap)
  let mine := if shadows s then due.filter (fun p => !p.eff.mirrored) else due
  let s1 := { s with sch := { s.sch with pend := s.sch.pend.filter (fun p => !decide (p.at_ < snap)), cmds := mine } }
  takeStream n (mine.foldl takeCounted s1)

/-- Period `n` starts at `a` with its boundary `b`, snapshot instant `snap` and lag. -/
def startPeriod (n : Nat) (b a snap : Int) (lag : Nat) (s : State) : State :=
  let measured := (a - s.sch.start).toNat
  let v := { s with fus := { s.fus with doneStates := s.fus.states } }
  let s1 := pruneHeads s.sch.snap { v with sch := { s.sch with begun := s.sch.begun.drop 1, cur := n, s8 := false, s9 := false, b := b, start := a,
                                                               prevSnap := s.sch.snap, snap := snap, nextA := none, skip := s.sch.skipNext,
                                                               skipNext := 0, late := false, lost := decide (s.sch.skipNext ≠ 0), mirrorOut := [],
                                                               counts := modAt (modAt s.sch.counts 7 fun _ => lag) 8 (max lag) } }
  let s2 := takeDue n snap s1
  let dt := if isDet s2 then vpNs s2 else if s2.sch.nominal then vpNs s2 * (s2.sch.skip + 1) else measured
  let s3 := { s2 with sch := { s2.sch with dt := dt, nominal := false } }
  if noStages s3 then { s3 with sch := { s3.sch with stage := 7, s8 := true } }
  else
    let s4 := judgeThrusters ((List.range 64).foldl (snapInput snap) (if isDet s3 then s3 else keepMarks n s3))
    { s4 with sch := { s4.sch with stage := 2 } }

/-- SNAPSHOT: stage 2 of the next period begins at its start instant (R30, R402); what the first stages' domains are late by is added to
it (R36). -/
def execSnapshot (s : State) : Result :=
  match s.sch.begun with
  | [] => .next s
  | (n, b) :: _ =>
    let v := { s with cfg := cfgBefore b s }
    let durs := if s.sch.pend.any (fun p => p.eff.isLock && decide (p.at_ < b)) then [] else s.sch.durs
    let nom := nominalStart v durs b (nextBounds s).2
    let planned := if s.sch.skipNext ≠ 0 then s.sch.nextA.getD nom else max nom (s.sch.nextA.getD nom)
    let a : Int := max planned s.time.total
    if !awake s || replays v || !periodEnded s || levelAWait v b || solutionWait v b then .next s
    else
      let t := startPeriod n b a (if isDet v then b else a) (a - nom).toNat (countTo a.toNat s)
      .next (if noStages t then t else stallFirst t)

/-! Stages 3 and 4. -/

/-- A stage of the period has completed. -/
def endStage (n : Nat) (s : State) : State := { s with sch := { s.sch with stage := n } }

/-- Stage 3 with its end: the last job on Marver's cores has ended (R35). -/
def voteStage (s : State) : State := stopDomains [15] (endStage 3 (stage3 s))

/-- PROJECTION_ASSOCIATION_VOTE: stage 3 (R248). -/
def execProjectionAssociationVote (s : State) : Result :=
  .next (if awake s && s.sch.stage == 2 then onWork 2 0 [16, 15] voteStage s else s)

/-- Stage 4 with its end: the last job on the recurrent engine has ended (R35). -/
def observerStage (s : State) : State := stopDomains [14] (endStage 4 (frameEstimates (stage4 s)))

/-- OBSERVER_UPDATE: stage 4 (R299). -/
def execObserverUpdate (s : State) : Result :=
  .next (if awake s && s.sch.stage == 3 then onWork 2 1 (recurrentNeeds s) observerStage s else s)

/-! The input record of stage 5 (Table 13-2). -/

/-- Wind speed or direction under R350: from the group named, else from the lowest usable input of the role; NaN when not usable. -/
def windInput (s : State) (id role : Nat) : F32 :=
  let g := pNat s id
  if g = 0xFF then
    match (List.range 64).find? (fun i => finRole s i == role && inUsable s i) with
    | some i => d2f (inValue s i)
    | none => pack32 .nan
  else if groupFuses s g then d2f (at_ d0 (groupValue s g) 0) else pack32 .nan

/-- The TARGET record in force (R359). -/
def targetRec (s : State) : List Byte := tab s 0x0394

/-- The signals of a KIND 0 target. -/
def targetSigs (s : State) : List Nat := [2, 4, 6].map fun o => fieldU (targetRec s) o 2

/-- Age of a signal in the snapshot. -/
def snapAge (s : State) (id : Nat) : Nat :=
  match (List.range 64).find? fun i => finRole s i != 0 && finSig s i == id with
  | some i => inAge s i
  | none => ((snapSignal s id).map (ageOf s)).getD 0

/-- The target is usable (R361). -/
def targetUsable (s : State) : Bool :=
  let b := targetRec s
  if b.isEmpty then false
  else if byteAt b 0 = 0 then
    (targetSigs s).all fun id => let q := (snapQuality s id).1
      (q == 1 || q == 4 || q == 5) && decide (snapAge s id ≤ ms (pNat s 0x0312))
  else (candLocal s (fieldU b 8 4)).isSome && (candLocal s (fieldU b 12 4)).isSome

/-- TARGET of the record: a KIND 0 target's signals in the snapshot. -/
def targetField (s : State) : List Byte :=
  let b := targetRec s
  if b.isEmpty ∨ byteAt b 0 ≠ 0 then zeros 24
  else (targetSigs s).flatMap fun id => be 8 (valD ((sigType s id).getD 0) (snapQuality s id).2).toNat

/-- Table 13-2 with the fields that the prediction takes from elsewhere. -/
def record13 (s : State) (n dt : Nat) (est : List F32) (due : Bool) : List Byte :=
  let u (id : Nat) : Nat := ((outGet s id).map fun v => valU32 v.value).getD 0
  be 8 n ++ be 4 dt ++ be 4 s.sch.cmdGen ++ be 4 s.slv.gen ++ be 4 (u 0x0372) ++
    ((List.range 9).flatMap fun q => be 4 (at_ 0 est q).toNat) ++ ((List.range 8).flatMap fun g => be 1 (groupSt s g).quality) ++
    ((List.range 12).flatMap fun r => be 1 (sourceState s (r + 1))) ++ be 1 (flagsWord [due, targetUsable s]) ++
    be 1 (b2n s.obs.phys.running + 2 * rnnShown s) ++ be 2 0 ++ be 4 (windInput s 0x030D 10).toNat ++ be 4 (windInput s 0x030E 11).toNat ++
    be 4 0 ++ be 8 (flagsWord ((List.range 64).map (inUsable s))) ++ targetField s ++ be 8 s.thr.s7Period ++
    ((List.range 3).flatMap fun k => be 4 (at_ 0 s.thr.allocated k).toNat) ++ (List.range 3).flatMap fun k => be 4 (at_ 0 s.thr.achieved k).toNat

/-- The actual record of the period in hand. -/
def actualRecord (s : State) : List Byte :=
  record13 s s.sch.cur (skipDt s) s.obs.auth (!s.fus.degrade.isEmpty)

/-- The degradation requests of fusion: group, and whether for loss. -/
def degradeNow (s : State) : List (Nat × Bool) := s.fus.degrade.map fun g => (g, (groupSt s g).lost)

/-! Speculation (R395 to R401). -/

/-- The groups whose hold timers run out in the next period. -/
def degradeNext (s : State) : List (Nat × Bool) :=
  ((List.range 4).filter fun g => match (groupSt s g).hold with
    | some c => !(groupSt s g).fired && decide (holdPeriods s (groupSt s g).lost ≤ c + 1)
    | none => false).map fun g => (g, (groupSt s g).lost)

/-- Nominal VP, or the planned interval between the start instants, of the next period. -/
def plannedDt (s : State) : Nat :=
  if isDet s then vpNs s else (s.sch.nextA.getD s.sch.start - s.sch.start).toNat

/-- The predicted record. -/
def predictedRecord (s : State) : List Byte :=
  let est := (List.range 9).map fun q => if q < 6 then d2f (predicted s q) else at_ 0 s.obs.auth q
  record13 s (s.sch.cur + 1) (plannedDt s) est (!(degradeNext s).isEmpty)

/-- Stage 5 of the next period on the predicted record and a copy of the control state (R395). -/
def aheadControl (s : State) : CtlRun := stage5 ⟨s, predictedRecord s, [], degradeNext s, 0⟩ s.ctl

/-- The chain begins: its result is kept beside the record it was computed from. -/
def startChain (s : State) : State :=
  let r := aheadControl s
  bumpCount 0 1 { s with sch := { s.sch with chain := some ⟨s.sch.cur + 1, predictedRecord s, false, s.ctl, r.c, r.sigs, r.evs⟩, chainDue := false } }

/-- PARISON_CHAIN: the chain of the next period runs on a copy of the control state (R395). -/
def execParisonChain (s : State) : Result :=
  .next (if awake s && s.sch.chainDue && s.sch.stage == 7 && s.sch.chain.isNone && !bowRaised s then onWork 3 3 [] startChain s else s)

/-- PARISON_CHAIN_COMPLETE: with it ends the last job of the work tiles (R35). -/
def execParisonChainComplete (s : State) : Result :=
  let s1 := { s with sch := { s.sch with chain := s.sch.chain.map fun c => { c with done := true } } }
  .next (if s.sch.chain.isSome && s.sch.stage == 7 && s.sch.s9 then stopDomains (List.range 12) s1 else s1)

/-- |a − b| ≤ tol; false where either is NaN. -/
def within (tol a b : F32) : Bool := fle (fabs (fsub a b)) tol

/-- A wind field within its tolerance; a NaN matches only a NaN (R397). -/
def windWithin (wrap : Bool) (tol a b : F32) : Bool :=
  if num32 a == .nan || num32 b == .nan then num32 a == .nan && num32 b == .nan
  else if wrap then fle (fabs (fwrap (fsub a b))) tol else within tol a b

/-- The targets of two records agree (R397). -/
def targetWithin (s : State) (p a : List Byte) : Bool :=
  let g (r : List Byte) : V3 := geodetic s (fieldF64 r 104) (fieldF64 r 112) (originH s)
  slice p 104 24 == slice a 104 24 ||
    (dle (ddist2 (g a).x (g a).y (g p).x (g p).y) (f2d (pReal s 0x0353)) &&
     fle (fabs (fwrap (fsub (d2f (fieldF64 a 120)) (d2f (fieldF64 p 120))))) (pReal s 0x0354))

/-- Table 13-3: the predicted record `p` is confirmed by the actual record `a`. -/
def confirmed (s : State) (p a : List Byte) : Bool :=
  if isDet s then sha256 p == sha256 a && p == a
  else
    let same (o n : Nat) : Bool := slice p o n == slice a o n
    let near (o : Nat) (tol : F32) : Bool := within tol (fieldF32 a o) (fieldF32 p o)
    let nearAngle (o : Nat) (tol : F32) : Bool := fle (fabs (fwrap (fsub (fieldF32 a o) (fieldF32 p o)))) tol
    let force := fmul (pReal s 0x0357) (fmin (ctlLim s 0 3) (ctlLim s 1 3))
    let moment := fmul (pReal s 0x0357) (ctlLim s 2 3)
    let dt := (fieldU a 8 4 : Int) - fieldU p 8 4
    same 0 8 && same 12 12 && same 60 24 && same 92 12 && same 128 8 && decide (dt.natAbs ≤ us (pNat s 0x0358)) &&
      near 24 (pReal s 0x0353) && near 28 (pReal s 0x0353) && nearAngle 32 (pReal s 0x0354) && near 36 (pReal s 0x0355) &&
      near 40 (pReal s 0x0355) && near 44 (pReal s 0x0356) && near 48 force && near 52 force && near 56 moment &&
      windWithin false (pReal s 0x0355) (fieldF32 a 84) (fieldF32 p 84) && windWithin true (pReal s 0x0354) (fieldF32 a 88) (fieldF32 p 88) &&
      targetWithin s p a && near 136 force && near 140 force && near 144 moment && near 148 force && near 152 force && near 156 moment

/-! Stage 5. -/

/-- Stage 5 computed in full. -/
def fullControl (s : State) (inp : List Byte) : CtlRun := stage5 ⟨s, inp, s.sch.cmds, degradeNow s, s.sch.skip⟩ s.ctl

/-- A result of stage 5 becomes the period's: control state, signals and events. Stage 6 begins, its deadline instant fixed (R378). -/
def takeControl (inp : List Byte) (r : CtlRun) (s : State) : State :=
  let s1 := r.sigs.foldl (fun s e => outPut e.1 e.2.value e.2.q s) { s with ctl := r.c }
  let s2 := r.evs.foldl (fun s e => record e.1 e.2 s) s1
  let s3 := fixAvail { s2 with sch := { s2.sch with rec5 := inp, stage := 5 } }
  { s3 with sch := { s3.sch with enter5 := (List.range 7).filter fun m => canEnter s3 inp m }, thr := { s3.thr with s6Due := s3.time.total + us (pNat s3 0x0320) } }

/-- Stage 5: a confirmed parison result is taken, any other is cullet (R397 to R399). Where the control state is no longer the one the chain
copied, as when a shadow has taken the mirror stream, the records do not speak for the result, which is a mismatch (log 129). -/
def control (s : State) : State :=
  let inp := actualRecord s
  let s0 := { s with sch := { s.sch with chain := none, chainDue := false } }
  match s.sch.chain with
  | some c =>
    if !c.done || c.period != s.sch.cur then bumpCount 3 1 (takeControl inp (fullControl s0 inp) s0)
    else if confirmed s c.pred inp && c.base == s.ctl then bumpCount 1 1 (takeControl inp ⟨c.ctl, c.sigs, c.evs⟩ s0)
    else bumpCount 2 1 (takeControl inp (fullControl s0 inp) s0)
  | none => takeControl inp (fullControl s0 inp) s0

/-- CONTROL: stage 5 (R338). -/
def execControl (s : State) : Result := .next (if awake s && s.sch.stage == 4 then onWork 1 2 [] control s else s)

/-! Stage 6. -/

/-- Stage 6 with its end: the mirror stream of the period is fixed (R25). -/
def endSix (limit : Option Nat) (s : State) : State := keepStream (endStage 6 (stage6 limit s))

/-- The solve of stage 6 runs to its end. Under DET it may take until past the deadline instant, by `lateUs` or as long as it has already, which
is recorded (R320, R378). -/
def allocate (lateUs : Nat) (s0 : State) : State :=
  let s := if lateUs = 0 then s0 else countTo (s0.thr.s6Due + us lateUs).toNat s0
  let late := ((s.time.total : Int) - s.thr.s6Due).toNat / 1000
  endSix none (if late = 0 then s else record .solverLate (be 1 56 ++ be 1 0 ++ be 4 (min late (2 ^ 32 - 1))) s)

/-- ALLOCATION: stage 6 (R378). Under BOUNDED no solve ends after its deadline instant: SOLVER_DEADLINE ends it there. -/
def execAllocation (lateUs : BitVec 32) (s : State) : Result :=
  if !awake s || s.sch.stage != 5 || (!isDet s && decide (s.thr.s6Due < s.time.total)) then .next s
  else .next (onDomains 2 (solverTile 56 s) (if isDet s then allocate lateUs.toNat else endSix none) s)

/-- SOLVER_DEADLINE: stage 6 ends with the iterate of its deadline under BOUNDED; a host SOLVE ends likewise under either guarantee
(R319). A level A solve reports its miss in LEVEL_A_PUBLISH. -/
def execSolverDeadline (structure_ : Fin 64) (iters : Nat) (s : State) : Result :=
  if structure_.val = 56 then
    .next (if awake s && s.sch.stage == 5 && !isDet s then endSix (some iters) (countTo s.thr.s6Due.toNat s) else s)
  else .next (if structure_.val < 56 then hostDeadline structure_.val iters s else s)

/-! Stage 7: the hand-off (R23, R24, R402 to R405, R426). -/

/-- The release boundary that the hand-off will meet, as the MASTER names it to the EXTENSION. -/
def releaseTarget (s : State) : Nat × Nat :=
  let p := s.grid.period
  let next := boundaryIndex s s.grid.endT
  let k := pNat s 0x0104
  if !isDet s then (if s.grid.tpDone < s.grid.tpTotal then (p, s.grid.tpDone) else (next, 0))
  else if k < s.grid.tpTotal then (if s.grid.tpDone ≤ k then (p, k) else (next, k))
  else (next, 0)

/-- EXT_CMD (R426). -/
def sendExtCmd (s : State) : State :=
  let d := pNat s 0x0712
  if s.grp.role != 0 || decide (3 < d) then s
  else
    let t := releaseTarget s
    let entry (i : Nat) : List Byte :=
      let c := commandOf s (16 + i)
      be 1 (if c.enable then 1 else 2) ++ zeros 3 ++ be 4 c.setpoint.toNat ++ be 4 c.ac.toNat
    sendCasc 0x20 d (be 8 t.1 ++ be 1 t.2 ++ zeros 3 ++ be 2 s.grp.ownEpoch ++ be 2 0 ++ (List.range 16).flatMap entry) s

/-- The commands of the period go to the output unit, or are kept as the shadow hand-off; one that a stop discards goes nowhere
(R383, R433). -/
def giveCommands (s : State) : State :=
  let h : Handoff := ⟨s.sch.cur, (List.range 32).map (commandOf s)⟩
  if s.thr.stopAt = some s.sch.cur then { s with thr := { s.thr with stopAt := none } }
  else if shadows s then { s with grp := { s.grp with shadowHandoff := some h } }
  else sendExtCmd { s with thr := { s.thr with handoffs := s.thr.handoffs ++ [h] } }

/-- The period is late where its release boundary has passed (R24, R404). -/
def judgeLate (s : State) : State :=
  match s.sch.relAt.find? (fun r => r.1 == s.sch.cur && decide (s.sch.b < r.2)) with
  | some r =>
    let late := (((s.time.total : Int) - r.2).toNat / 1000)
    bumpCount 5 1 (record .periodLate (be 4 (min late (2 ^ 32 - 1)) ++ be 2 0) { s with sch := { s.sch with late := true } })
  | none => s

/-- The least start instant of the next period: (1 − CATCHUP_MAX) × VP after this one's. -/
def catchUpFloor (s : State) : Int :=
  s.sch.start + ((num64 (dmul (dsub d1 (f2d (pReal s 0x0350))) (dofInt (vpNs s)))).rint?).getD 0

/-- Schedule is lost: the periods begun but for the one in progress are skipped (R405). -/
def loseSchedule (c7 : Int) (s : State) : State :=
  let n := s.sch.begun.length - 1
  let s1 := record .scheduleLost (be 4 (satU 32 s.sch.cur) ++ be 2 (satU 16 n))
    { s with sch := { s.sch with begun := s.sch.begun.drop n, skipNext := n, nextA := some c7, chainDue := false } }
  bumpCount 10 n (bumpCount 9 1 s1)

/-- A parison chain may start but for the lag of the next period: that of the present one is zero too (R395, R403). -/
def chainMay (s : State) : Bool := pNat s 0x0352 == 1 && s.ctl.mode != 0 && at_ 0 s.sch.counts 7 == 0 && !bowRaised s

/-- The start instant of the next period (R402), and whether a parison chain is due (R395). -/
def planNext (s : State) : State :=
  let c7 : Int := s.time.total
  let bs := nextBounds s
  let durs := ((c7 - s.sch.start).toNat :: s.sch.durs).take 64
  let nom := nominalStart s durs bs.1 bs.2
  let a := max nom (max c7 (catchUpFloor s))
  let s1 := { s with sch := { s.sch with durs := durs, nextA := some a } }
  if 2 * (vpNs s : Int) < a - nom ∧ 2 ≤ s.sch.begun.length then loseSchedule c7 s1
  else
    { s1 with sch := { s1.sch with chainDue := chainMay s && a == nom } }

/-- Stage 7 with the DP indication to the island (R487). -/
def handOff (s : State) : State :=
  let s1 := planNext (judgeLate (giveCommands (keepSignals (stage7 s))))
  { s1 with sch := { s1.sch with stage := 7 }, mtr := { s1.mtr with dp := some (s1.ctl.mode, s1.sch.cur % 65536, s1.time.elapsed) } }

/-- HAND_OFF: stage 7 (R379). -/
def execHandOff (s : State) : Result := .next (if awake s && s.sch.stage == 6 then handOff s else s)

/-! Stage 9 (R98, R401, R435, R467). -/

/-- A value restored from retention SRAM, STALE, its age running from the instant its record holds (R522). -/
def keptVal (s : State) (v : ReadVal) : ReadVal := { v with age := min ((s.sch.snap / 1000 - v.age).toNat) (2 ^ 32 - 2) }

/-- A signal as the period leaves it for SIGNAL_READ: an output of the stages, or the value of the snapshot; else the value restored
on exit from DEEP SLEEP. -/
def readSignals (s : State) : List (Nat × ReadVal) :=
  let us' (a : Nat) : Nat := min (a / 1000) (2 ^ 32 - 2)
  let taken (id : Nat) : Option ReadVal :=
    match (List.range 64).find? fun i => finRole s i != 0 && finSig s i == id with
    | some i => (snapOf s i).map fun x => ⟨x.value, x.q, us' x.age⟩
    | none => (snapSignal s id).map fun v => ⟨v.value, if v.fault then 3 else 1, us' (ageOf s v)⟩
  let outs : List (Nat × ReadVal) := s.sig.outs.map fun e => (e.1, ⟨e.2.value, e.2.q, 0⟩)
  let now' := s.sig.tab.foldl (fun l e => match taken e.1 with
    | some r => keyPut e.1 r l
    | none => l) outs
  s.sig.kept.foldl (fun l e => if (keyGet e.1 l).isSome then l else keyPut e.1 (keptVal s e.2) l) now'

/-- One entry of a SIGNAL_READ reply; QUALITY NONE reads VALUE zero and AGE_US all ones (Table 08-2). -/
def readEntry (s : State) (id : Nat) (r : Option ReadVal) : List Byte :=
  let ty := (sigType s id).getD 0
  match r with
  | some v => if v.q = 0 then be 2 id ++ be 1 0 ++ be 1 ty ++ zeros 8 ++ be 4 (2 ^ 32 - 1)
    else be 2 id ++ be 1 v.q ++ be 1 ty ++ be 8 v.value.toNat ++ be 4 v.age
  | none => be 2 id ++ be 1 0 ++ be 1 ty ++ zeros 8 ++ be 4 (2 ^ 32 - 1)

/-- The IDs of a SIGNAL_READ. -/
def readIds (ps : List Byte) : List Nat := (List.range (fieldU ps 0 2)).map fun i => fieldU ps (2 + 2 * i) 2

/-- A SIGNAL_READ reply from the values published (R98). -/
def readReply (s : State) (ps : List Byte) : List Byte :=
  let ids := readIds ps
  be 8 (s.sig.readPeriod.getD (2 ^ 64 - 1)) ++ be 2 ids.length ++ be 2 0 ++ ids.flatMap fun id => readEntry s id (keyGet id s.sig.read)

/-- The final replies owed to reads answered PARISON for this period or an earlier one (R401). -/
def finalReads (s : State) : State :=
  let due (w : Nat × Nat) : Bool := decide (w.2 ≤ s.sch.cur)
  let s1 := { s with sch := { s.sch with waiting := s.sch.waiting.filter fun w => !due w } }
  (s.sch.waiting.filter due).foldl (fun s w => match findCmd s w.1 with
    | some c => endCmd c .done 1 stOk (readReply s c.params) none s
    | none => s) s1

/-- The heartbeat register of the monitor (R467). -/
def beat (n : Nat) (s : State) : State :=
  if s.saf.phase = 2 ∧ (s.saf.hb.map (·.1)) ≠ some (n % 65536) then
    { s with saf := { s.saf with hb := some (n % 65536, s.time.elapsed), hbAbsent := none } }
  else s

/-- The last jobs of the period have ended (R35): the clocks stop of shared SRAM, of the solver tiles but those of a host SOLVE or an
adjustment pass, and of the work tiles but where a parison chain is to run. -/
def lastJobs (s : State) : State :=
  let tiles : List Nat := if s.sch.chainDue || s.sch.chain.any (!·.done) then [] else List.range 12
  stopDomains ([16] ++ (([0, 1].filter fun t => !solverBusy t s.host.nextEntry s).map (· + 12)) ++ tiles) s

/-- Stage 9 of the period in hand. -/
def stage9 (s : State) : State :=
  let s1 := beat s.sch.cur (sendHealth s.sch.cur s)
  let s2 := finalReads { s1 with sig := { s1.sig with read := readSignals s1, readPeriod := some s1.sch.cur } }
  let s3 := baStart (openBlock s2)
  lastJobs { s3 with sch := { s3.sch with s9 := true } }

/-- HEALTH: stage 9 (R435). -/
def execHealth (s : State) : Result := .next (if awake s && s.sch.stage == 7 && !s.sch.s9 then stage9 s else s)

end Sys2Proof.Machine
end

