-- ==== Sys2Proof/Machine/Monitor.lean ====
section
/-! DEFINITION. The safety monitor (chapter 15): inputs, trips, diagnostics, parameter set, brake test, status. Durations the monitor
counts on CD12 are asserted at their shortest, 1/1.05 of the nominal time (R462). -/

namespace Sys2Proof.Config

/-- ROM_ID: the CRC-32C of the monitor's ROM, whose contents the spec does not give (log 64). -/
opaque monitorRom : BitVec 32

end Sys2Proof.Config

namespace Sys2Proof.Machine

/-- Nanoseconds of CD9 in which CD12, at +5 %, has counted a nominal number of nanoseconds. -/
def cd12Least (n : Nat) : Nat := n * 100 / 105

/-! Inputs (R457 to R460). -/

/-- MODE of an input record. -/
def inMode (s : State) (k : Nat) : Nat := setU8 s (24 + 8 * k)

/-- A filtered input, by its number: 8 ESTOP_A, 9 ESTOP_B. -/
def safIn (s : State) (k : Nat) : SafIn := at_ safInReset s.saf.inputs k

/-- Pair `p` is supervised: the ESTOP pair always, an input pair under MODE 2 or 3. -/
def isPair (s : State) (p : Nat) : Bool := p == 4 || decide (2 ≤ inMode s (2 * p))

/-- Each input of a pair at demand. -/
def pairDemand (s : State) (p : Nat) : Bool × Bool :=
  (!(safIn s (2 * p)).high, if p ≠ 4 ∧ inMode s (2 * p) = 3 then (safIn s (2 * p + 1)).high else !(safIn s (2 * p + 1)).high)

/-- Change a pair's discrepancy. -/
def modDisc (p : Nat) (f : Bool × Bool → Bool × Bool) (s : State) : State := { s with saf := { s.saf with disc := modAt s.saf.disc p f } }

/-- A pair's discrepancy. -/
def discOf (s : State) (p : Nat) : Bool × Bool := at_ (false, false) s.saf.disc p

/-- The cause of a trip source persists (Table 15-3). -/
def persists (s : State) (src : Nat) : Bool :=
  if src < 8 then
    match inMode s src with
    | 0 => false
    | 1 => !(safIn s src).high || (safIn s src).fail
    | _ => let d := pairDemand s (src / 2)
           d.1 || d.2 || (discOf s (src / 2)).1 || (safIn s src).fail || (safIn s (src + 1)).fail
  else match src with
  | 8 => let d := pairDemand s 4
         d.1 || d.2 || (discOf s 4).1 || (safIn s 8).fail || (safIn s 9).fail
  | 10 => s.saf.hbAbsent.isSome
  | 11 => !fwRunning s
  | 12 => bowRaised s
  | 14 => bitOf s.saf.latched 14
  | _ => false

/-- The sources whose cause persists. -/
def persistMask (s : State) : Nat := flagsWord ((List.range 15).map (persists s))

/-- A source with a filtered input latches once its cause has appeared (R460, R461). -/
def judgeSource (s : State) (src : Nat) : State :=
  if !persists s src then s
  else if src = 8 then latchTrip 8 (setU8 s 8 == 1) 0xFF s
  else
    let a := setU8 s (24 + 8 * src + 2)
    if a = 0 then s else latchTrip src (a == 2) (setU8 s (24 + 8 * src + 4)) s

/-- Every source with a filtered input. -/
def judgeSources (s : State) : State := (List.range 9).foldl judgeSource s

/-- A pair's discrepancy after a change of an input: it ends once both have shown demand together and then both are healthy. -/
def settlePair (p : Nat) (s : State) : State :=
  let d := pairDemand s p
  modDisc p (fun x => if !x.1 then x else if d.1 && d.2 then (true, true) else if x.2 && !d.1 && !d.2 then (false, false) else x) s

/-- Change an input. -/
def modIn (k : Nat) (f : SafIn → SafIn) (s : State) : State := { s with saf := { s.saf with inputs := modAt s.saf.inputs k f } }

/-- SAFE_INPUT_FILTERED (R459). -/
def execSafeInputFiltered (input : Fin 10) (high : Bool) (s : State) : Result :=
  if s.saf.phase ≠ 2 then .next s
  else .next (judgeSources (settlePair (input.val / 2) (modIn input.val (fun x => { x with high := high }) s)))

/-- The test pulse output of an input: 0 none, 1 TPO0, 2 TPO1 (R458). -/
def inTest (s : State) (k : Nat) : Nat := if k = 8 then 1 else if k = 9 then 2 else setU8 s (24 + 8 * k + 3)

/-- What a pulse leaves of an input: it fails where it was high before the pulse and still high after it; a failure ends after three
pulses that did not fail. -/
def pulsed (before after : Bool) (x : SafIn) : SafIn :=
  if before && after then { x with fail := true, passes := 0 }
  else if x.fail then (if x.passes = 2 then { x with fail := false, passes := 0 } else { x with passes := x.passes + 1 })
  else x

/-- An input is used: ESTOP, one with a MODE, or the partner of a pair. -/
def inUsed (s : State) (k : Nat) : Bool := decide (8 ≤ k) || inMode s k != 0 || (k % 2 == 1 && decide (2 ≤ inMode s (k - 1)))

/-- The partner of a pair has an all-zero record and is tested with its pair. -/
def tested (s : State) (k : Nat) : Nat := if k < 8 ∧ k % 2 = 1 ∧ 2 ≤ inMode s (k - 1) then inTest s (k - 1) else inTest s k

/-- TEST_PULSE (R458): `before` and `after` are the levels of the ten inputs. -/
def execTestPulse (output : Fin 2) (before after : List Bool) (s : State) : Result :=
  if s.saf.phase ≠ 2 then .next s
  else
    let f (k : Nat) (x : SafIn) : SafIn := if inUsed s k && tested s k == output.val + 1 then pulsed (at_ false before k) (at_ false after k) x else x
    .next (judgeSources { s with saf := { s.saf with inputs := s.saf.inputs.mapIdx f } })

/-- DISCREPANCY (R457): the filtered inputs of a pair disagree, and have for DISC_MS. -/
def execDiscrepancy (pair : Fin 5) (s : State) : Result :=
  let p := pair.val
  let d := pairDemand s p
  if s.saf.phase ≠ 2 || !isPair s p || d.1 == d.2 || (discOf s p).1 then .next s
  else .next (judgeSources (modDisc p (fun _ => (true, false)) s))

/-! Brake channels (R454 to R456, R462). -/

/-- RAMP_END (R462). -/
def execRampEnd (channel : Fin 8) (s : State) : Result :=
  match (brakeOf s channel.val).ramp with
  | some t => .next (modBrake channel.val applied (elapseTo (t + cd12Least (ms (rampMs s channel.val))) s))
  | none => .next s

/-- RELEASE_REQUEST_FALL_EXPIRY (R454). -/
def execReleaseRequestFallExpiry (channel : Fin 8) (s : State) : Result :=
  let b := brakeOf s channel.val
  match b.fallAt with
  | some t =>
    if b.request || b.ramp.isSome then .next s
    else .next (modBrake channel.val applied (elapseTo (t + cd12Least (ms (rampMs s channel.val))) s))
  | none => .next s

/-- A channel enters CH_FAULT (R455). -/
def channelFault (c : Nat) (s : State) : State :=
  modBrake c (fun b => { applied b with fault := true }) (latchTrip 13 false (2 ^ c) (modBrake c applied s))

/-- READBACK_DEVIATION (R455). -/
def execReadbackDeviation (channel : Fin 8) (s : State) : Result :=
  .next (if s.saf.phase = 2 ∧ brakeOn s channel.val then channelFault channel.val s else s)

/-- SWITCH_TEST of a released channel (R456). -/
def execSwitchTest (channel : Fin 8) (passes : Bool) (s : State) : Result :=
  .next (if s.saf.phase = 2 ∧ (brakeOf s channel.val).released ∧ !passes then channelFault channel.val s else s)

/-! Diagnostics (R466 to R468). -/

/-- INTERNAL is latched with a bit of FAULT_DETAIL. -/
def internalFault (bit : Nat) (s : State) : State :=
  if s.saf.phase ≠ 2 then s else latchTrip 14 false 0xFF { s with saf := { s.saf with detail := putBit s.saf.detail bit true } }

/-- CLOCK_WINDOW (R466). -/
def execClockWindow (count : Nat) (s : State) : Result :=
  if s.saf.phase ≠ 2 then .next s
  else
    let s1 := { s with saf := { s.saf with clockCount := count, clockAt := s.time.elapsed } }
    .next (if count < 71875 ∨ 84375 < count then internalFault 0 s1 else s1)

/-- CLOCK_WINDOW_TIMEOUT (R466): 160,000 cycles of CD12 without the end of a window. -/
def execClockWindowTimeout (s : State) : Result :=
  .next (if s.saf.phase ≠ 2 then s else internalFault 0 (elapseTo (s.saf.clockAt + cd12Least 4000000) s))

/-- HEARTBEAT_ABSENT (R467). -/
def execHeartbeatAbsent (s : State) : Result :=
  match s.saf.hb with
  | some (_, t) =>
    if s.saf.phase ≠ 2 || (safSet s).isNone || s.saf.hbAbsent.isSome then .next s
    else
      let s1 := elapseTo (t + cd12Least (ms (setU16 s 14))) s
      .next (latchTrip 10 (setU8 s1 9 == 1) 0xFF { s1 with saf := { s1.saf with hbAbsent := some s1.time.elapsed } })
  | none => .next s

/-- MONITOR_DIAGNOSTIC: 0 ROM, 1 RAM, 2 a crossing's parity (Table 15-5). -/
def execMonitorDiagnostic (kind : Fin 3) (passes : Bool) (s : State) : Result :=
  .next (if passes then s else internalFault (kind.val + 2) s)

/-! The parameter set (R469 to R472). -/

/-- A field's range holds; ranges of the fields that are checked (Tables 15-6, 15-7). -/
def setRanges (b : List Byte) : Bool :=
  let u (o lo hi : Nat) : Bool := decide (lo ≤ byteAt b o ∧ byteAt b o ≤ hi)
  let w (o lo hi : Nat) : Bool := decide (lo ≤ fieldU b o 2 ∧ fieldU b o 2 ≤ hi)
  let input (k : Nat) : Bool :=
    let o := 24 + 8 * k
    u o 0 3 && (byteAt b o == 0 || (u (o + 1) 0 7 && u (o + 2) 0 2 && u (o + 3) 0 2))
  let brake (c : Nat) : Bool :=
    let o := 88 + 16 * c
    u o 0 1 && (byteAt b o == 0 || (u (o + 1) 0 1 && w (o + 4) 100 30000 && w (o + 6) 50 5000 && w (o + 8) 10 5000 && u (o + 10) 0 50 && u (o + 11) 1 60))
  u 5 0 7 && u 8 0 1 && u 9 0 1 && u 10 0 1 && w 12 5 500 && w 14 20 5000 && w 16 1 3600 && w 18 0 8760 && (List.range 8).all input &&
    (List.range 8).all brake

/-- The cases of INCONSISTENT (R470). -/
def setInconsistent (b : List Byte) : Bool :=
  let zero (o n : Nat) : Bool := allZero (slice b o n)
  let mode (k : Nat) : Nat := byteAt b (24 + 8 * k)
  let input (k : Nat) : Bool :=
    let o := 24 + 8 * k
    let mask := byteAt b (o + 4)
    !zero (o + 5) 3 || (decide (2 ≤ mode k) && (k % 2 == 1 || !zero (o + 8) 8)) ||
      (mode k != 0 && ((byteAt b (o + 2) != 0 && mask == 0) || (List.range 8).any fun c => bitOf mask c && byteAt b (88 + 16 * c) == 0))
  fieldU b 0 4 != 0x564B5350 || byteAt b 4 != 1 || !zero 11 1 || !zero 20 4 || !zero 216 40 || (List.range 8).any input ||
    (List.range 8).any fun c => !zero (88 + 16 * c + 12) 4

/-- Step 2 of SAFETY_PARAM_WRITE (R470). -/
def setStatus (b : List Byte) : Nat :=
  if b.length ≠ 256 then stOutOfRange
  else firstOf [when_ (!setRanges b) stOutOfRange, when_ (setInconsistent b) stInconsistent]

/-- Every channel applied. -/
def applyAll (s : State) : State := { s with saf := { s.saf with brakes := s.saf.brakes.map applied } }

/-- Step 3: both copies are replaced and the confirmation lapses (R110, R472). -/
def storeSet (b : List Byte) (s : State) : State :=
  let p : SafSet := ⟨b, none⟩
  let s1 := applyAll (abortTest { s with saf := { s.saf with stored := some p } })
  judgeSources { s1 with saf := { s1.saf with set := if s1.saf.phase = 2 then some p else s1.saf.set } }

/-- The steps of SAFETY_PARAM_WRITE (R110). -/
def runSafetyParamWrite (c : Cmd) (s : State) : StepRes :=
  let body := c.params.drop 8
  match c.k with
  | 0 => if crcNat body = fieldU c.params 4 4 then .commit s none else .abort s stTableCrc
  | 1 => if setStatus body = 0 then .commit s none else .abort s (setStatus body)
  | _ => .finish (storeSet body s) 0 (be 4 (checkOf body)) none

/-- SAFETY_PARAM_WRITE (0x0802). No case of PARAM_SET_INVALID is left beside the statuses of the set's own faults (log 233). -/
def opSafetyParamWrite : OpDef :=
  { stepOp 0x0802 1 (fun c s => firstOf [when_ (decide (c.params.length < 8) || c.params.length != 8 + fieldU c.params 0 4) stParamSize,
      when_ (s.ctl.mode != 0) stNotStandby]) runSafetyParamWrite with n := 3 }

/-- SAFETY_PARAM_WRITE (R110). -/
def execSafetyParamWrite (r : Req) (p : List Byte) (s : State) : Result := .next (packetIn true opSafetyParamWrite r p s)

/-- CHECK of the set loaded, zero without one. -/
def checkNow (s : State) : Nat := ((safSet s).map fun p => checkOf p.body).getD 0

/-- SAFETY_CHECK_READ (0x0803). -/
def opSafetyCheckRead : OpDef := readOp 0x0803 1 0 (fun _ s => when_ (safSet s).isNone stParamSetInvalid) fun _ s =>
  be 4 (checkNow s) ++ be 1 (b2n (safConfirmed s))

/-- SAFETY_CHECK_READ (R472). -/
def execSafetyCheckRead (r : Req) (p : List Byte) (s : State) : Result := .next (packetIn true opSafetyCheckRead r p s)

/-- The confirmation record is written (R472). -/
def confirmSet (session : Nat) (s : State) : State :=
  let f (p : SafSet) : SafSet := { p with confirm := some (checkOf p.body, session, now s) }
  safEvent .safetyConfirmed [] { s with saf := { s.saf with stored := s.saf.stored.map f, set := s.saf.set.map f } }

/-- SAFETY_CHECK_CONFIRM (0x0804). -/
def opSafetyCheckConfirm : OpDef := stepOp 0x0804 1 (fun c s => firstOf [sizeIs 4 c, when_ (safSet s).isNone stParamSetInvalid]) fun c s =>
  if fieldU c.params 0 4 = checkNow s then .finish (confirmSet c.slot s) 0 [] none
  else .abort (safEvent .safetyCheckMismatch [] s) stCheckMismatch

/-- SAFETY_CHECK_CONFIRM (R472). -/
def execSafetyCheckConfirm (r : Req) (p : List Byte) (s : State) : Result := .next (packetIn true opSafetyCheckConfirm r p s)

/-! The brake test (R473 to R475). -/

/-- Step 3 runs: HOLD_PCT is above 0 and every thruster of THR_MASK reports READY. -/
def mayHold (s : State) (c : Nat) : Bool :=
  let mask := setU16 s (88 + 16 * c + 2)
  setU8 s (88 + 16 * c + 10) != 0 && (List.range 16).all fun i => !bitOf mask i || ((lastFb s i).map fun f => byteAt f.2 0) == some 1

/-- Azimuths of a channel's drives as the holding test starts. -/
def holdAzimuths (s : State) (c : Nat) : List (Nat × F32) :=
  let mask := setU16 s (88 + 16 * c + 2)
  (List.range 16).filterMap fun i => if bitOf mask i then (lastFb s i).map fun f => (i, fieldF32 f.2 12) else none

/-- The channel under test has its verdict; the next one follows. -/
def giveVerdict (v : Nat) (b : BTest) : BTest := { b with chan := b.chan + 1, hold := none, verdicts := modAt b.verdicts b.chan fun _ => v }

/-- One step of the test: the channel in hand up to its verdict, or up to the start of its holding test. -/
def testChannel (b : BTest) (s : State) : BTest × State :=
  let c := b.chan
  let o := at_ ⟨true, true, true⟩ b.obs c
  if !bitOf b.mask c then ({ b with chan := c + 1 }, s)
  else if !brakeOn s c then (giveVerdict 8 b, s)
  else match b.hold with
  | some (ok, t, _) => (giveVerdict (if ok then 1 else 6) b, elapseTo (t + ms (1000 * setU8 s (88 + 16 * c + 11))) s)
  | none =>
    if !o.hs then (giveVerdict 3 b, s)
    else if !o.ls then (giveVerdict 4 b, s)
    else if setU8 s (88 + 16 * c + 1) = 1 ∧ !o.pos then (giveVerdict 5 b, s)
    else if mayHold s c then ({ b with hold := some (true, s.time.elapsed, holdAzimuths s c) }, s)
    else (giveVerdict 2 b, s)

/-- The test goes on through its channels until one waits for its holding test. -/
def testOn : Nat → BTest → State → BTest × State
  | 0, b, s => (b, s)
  | n + 1, b, s =>
    if 8 ≤ b.chan then (b, s)
    else
      let (b1, s1) := testChannel b s
      if b1.hold.isSome then (b1, s1) else testOn n b1 s1

/-- BRAKE_TEST: the test starts, and each commit point of the command ends a holding test and goes on. -/
def runBrakeTest (obs : List TestObs) (c : Cmd) (s : State) : StepRes :=
  match s.saf.test with
  | some b =>
    if b.entry ≠ c.entry then .wait s []
    else
      let (b1, s1) := testOn 9 b s
      if 8 ≤ b1.chan then .finish (closeTest b1 s1) 0 (b1.verdicts.flatMap (be 1)) none
      else .wait { s1 with saf := { s1.saf with test := some b1 } } []
  | none =>
    let b : BTest := ⟨c.entry, byteAt c.params 0, obs, 0, none, List.replicate 8 0⟩
    let (b1, s1) := testOn 9 b s
    if 8 ≤ b1.chan then .finish (closeTest b1 s1) 0 (b1.verdicts.flatMap (be 1)) none
    else .wait { s1 with saf := { s1.saf with test := some b1 } } []

/-- BRAKE_TEST (0x0805), the brake circuits answering as `obs` says; what a test finds is its verdict and no deviation of R455 (log 239). -/
def opBrakeTest (obs : List TestObs) : OpDef :=
  stepOp 0x0805 1 (fun c s => firstOf [sizeIs 1 c, when_ (s.ctl.mode != 0) stNotStandby, when_ (!safConfirmed s) stNotConfirmed,
    when_ (tripActive s) stTripActive]) (runBrakeTest obs)

/-- BRAKE_TEST (R473). -/
def execBrakeTest (r : Req) (p : List Byte) (obs : List TestObs) (s : State) : Result := .next (packetIn true (opBrakeTest obs) r p s)

/-- TEST_AGE_H of a channel; none when never tested. -/
def testAge (s : State) (c : Nat) : Option Nat := (brakeOf s c).testAt.map fun t => (s.evt.operNs - t) / 3600000000000

/-- BRAKE_TEST_DUE (R475). -/
def execBrakeTestDue (channel : Fin 8) (s : State) : Result :=
  let c := channel.val
  let limit := setU16 s 18
  let old := match testAge s c with
    | some h => decide (limit < h)
    | none => true
  if limit = 0 || !brakeOn s c || (brakeOf s c).due || !old then .next s
  else .next (safEvent .brakeTestDue (be 1 c) (modBrake c (fun b => { b with due := true }) s))

/-! Trip reset and status (R464, R477). -/

/-- TRIP_RESET may clear the sources. -/
def tripClears (s : State) : Bool := s.saf.latched &&& persistMask s == 0 && !rampRunning s && !bitOf s.saf.latched 14

/-- TRIP_RESET (0x0806). -/
def opTripReset : OpDef := stepOp 0x0806 1 (fun c s => firstOf [sizeIs 0 c, when_ (!tripClears s) stTripActive]) fun _ s =>
  .finish (safEvent .safetyTripReset [] { s with saf := { s.saf with latched := 0 } }) 0 [] none

/-- TRIP_RESET (R464). -/
def execTripReset (r : Req) (p : List Byte) (s : State) : Result := .next (packetIn true opTripReset r p s)

/-- STATE of Table 15-9. -/
def safState (s : State) : Nat :=
  if s.saf.phase ≠ 2 then 0 else if bitOf s.saf.latched 14 then 4 else if s.saf.latched ≠ 0 then 3 else if safConfirmed s then 2 else 1

/-- The status block (Table 15-9). BRKc_POS is taken to follow its channel (log 238). -/
def safetyBlock (s : State) : List Byte :=
  let bs (f : Brake → Bool) : Nat := flagsWord (s.saf.brakes.map f)
  let pos := flagsWord ((List.range 8).map fun c => (brakeOf s c).released && setU8 s (88 + 16 * c + 1) == 1)
  let high (k : Nat) : Bool := (safIn s k).high
  be 1 (safState s) ++
    be 1 (flagsWord [(safSet s).isSome, safConfirmed s, rampRunning s, s.saf.hb.isSome, s.saf.brakes.any (·.due), s.saf.test.isSome, s.saf.resetReq]) ++
    be 1 s.saf.detail ++ be 1 0 ++ be 4 s.saf.latched ++ be 4 (persistMask s) ++ be 4 (checkNow s) ++
    be 1 (flagsWord ((List.range 8).map high)) ++ be 1 (flagsWord [high 8, high 9]) ++ be 1 (bs (·.request)) ++ be 1 (bs (·.released)) ++
    be 1 (bs (·.fault)) ++ be 1 pos ++ be 1 (flagsWord ((List.range 8).map fun k => (safIn s k).fail)) ++ be 1 0 ++ be 4 s.saf.clockCount ++
    be 4 s.saf.trips ++ (if s.saf.trips = 0 then be 6 0 ++ be 4 (2 ^ 32 - 1) else stampBytes s.saf.lastTrip) ++ be 2 0 ++
    ((List.range 8).flatMap fun c => be 2 (((testAge s c).map (min 65534)).getD 65535)) ++ be 4 Config.monitorRom.toNat

/-- SAFETY_STATUS (0x0801). -/
def opSafetyStatus : OpDef := readOp 0x0801 1 0 (fun _ _ => 0) fun _ s => safetyBlock s

/-- SAFETY_STATUS (R477). -/
def execSafetyStatus (r : Req) (p : List Byte) (s : State) : Result := .next (packetIn true opSafetyStatus r p s)

/-! Start and supply (R468, R472, R478). -/

/-- The monitor held in reset or starting afresh: every channel applied, latches cleared, the ages of the brake tests kept (Table 15-10). -/
def monitorReset (phase : Nat) (s : State) : State :=
  let f (b : Brake) : Brake := { brakeReset with testAt := b.testAt }
  { s with saf := { safReset with phase := phase, stored := s.saf.stored, brakes := s.saf.brakes.map f } }

/-- The monitor's reset is released: its start-up tests run, or VDD_SAFE alone held it in reset and has come back. -/
def startingUp (s : State) : Bool := s.saf.phase == 1 || (s.saf.phase == 0 && fwRunning s && (awake s || s.pwr.state == .sleep))

/-- MONITOR_START_UP: VDD_SAFE is at its clear level, the tests end, the first copy that verifies is loaded (R472, R478). -/
def execMonitorStartUp (copyA copyB : Bool) (s : State) : Result :=
  if !startingUp s then .next s
  else
    let p := if copyA || copyB then s.saf.stored else none
    .next (railsUp 0x77F#11 { s with saf := { s.saf with phase := 2, set := p, clockAt := s.time.elapsed } })

/-- The events firmware takes from the monitor as it starts, each with the time the monitor gave it (R468). -/
def drainMonitor (s : State) : State :=
  let put (s : State) (q : Ev × List Byte × Nat × WhenRec) : State :=
    let s1 := record q.1 q.2.1 s
    let f (r : EvRec) : EvRec := if r.num = s1.evt.newest ∧ s1.evt.newest ≠ s.evt.newest then { r with oper := q.2.2.1 / 10000000 % 2 ^ 40, stamp := q.2.2.2 } else r
    { s1 with evt := { s1.evt with recs := s1.evt.recs.map f } }
  let s1 := s.saf.queue.foldl put s
  let s2 := if s1.saf.lost = 0 then s1 else record .safetyEvtLost (be 4 (satU 32 s1.saf.lost)) s1
  { s2 with saf := { s2.saf with queue := [], lost := 0 } }

end Sys2Proof.Machine
end

