-- ==== Sys2Proof/Machine/Replay.lean ====
section
/-! DEFINITION. Replay (R409): periods run from log blocks received on LOG_DEST_PORT. -/

namespace Sys2Proof.Machine

/-- A time as log entries carry it. -/
def timeAt (bs : List Byte) (off : Nat) : Nat := fieldU bs off 6 * 10 ^ 9 + fieldU bs (off + 6) 4

/-- The entries of a block, KIND and payload, up to a number of them; a tail that holds no whole entry is dropped. -/
def logRead : Nat → List Byte → List (Nat × List Byte)
  | 0, _ => []
  | n + 1, bs =>
    let len := fieldU bs 2 2
    if bs.length < 4 + len then [] else (byteAt bs 0, slice bs 4 len) :: logRead n (bs.drop (4 + len))

/-- Payloads of one KIND. -/
def ofKind (k : Nat) (es : List (Nat × List Byte)) : List (List Byte) := (es.filter fun e => e.1 == k).map (·.2)

/-- The effect of a command of the log; none for one that has none here, or whose parameters the entry holds only in part. -/
def loggedEffect (s : State) (p : List Byte) : Option Pend :=
  let ps := p.drop 8
  let e : Option Effect := match fieldU p 0 2 with
    | 0x0101 => some (.lock s.cfg.force s.cfg.forceTabs)
    | 0x0103 => some (.param (fieldU ps 0 2) (BitVec.ofNat 64 (fieldU ps 4 8)))
    | 0x0110 => some (.table (fieldU ps 0 2) (ps.drop 12))
    | 0x0210 => some (.source (byteAt ps 0) (byteAt ps 1))
    | 0x0301 => some (.mode (byteAt ps 0))
    | 0x0310 => some (.setpoint ps)
    | 0x0320 => some (.joystick ps)
    | 0x0330 => some (.avail (fieldU ps 0 4) 0)
    | 0x0610 => some (.nodes (mapRecords ps) none)
    | _ => none
  if crcNat ps = fieldU p 4 4 then e.map fun e => ⟨0, fieldU p 0 2, ps, e⟩ else none

/-- An INPUT entry: the snapshot's entry of the input, and its signal. -/
def takeInput (at_ : Int) (p : List Byte) (s : State) : State :=
  let i := byteAt p 0
  let v := BitVec.ofNat 64 (fieldU p 4 8)
  let valid := timeAt p 12
  let x : InSnap := ⟨v, (sigType s (finSig s i)).getD 0, byteAt p 1, timeAt p 22, valid, (at_ - valid).toNat⟩
  publishAs (finSig s i) ⟨v, byteAt p 1 == 3, timeAt p 22, some valid, none, none⟩
    { s with fus := { s.fus with snap := modAt s.fus.snap i (fun _ => if byteAt p 1 = 0 then none else some x) } }

/-- An input without an entry keeps what it had and grows older. -/
def ageInputs (at_ : Int) (s : State) : State :=
  let f (x : InSnap) : InSnap := { x with age := (at_ - x.valid).toNat }
  { s with fus := { s.fus with snap := s.fus.snap.map fun x => x.map f } }

/-- An OPTICAL entry joins its head's frames. -/
def takeOptical (p : List Byte) (s : State) : State :=
  { s with fus := { s.fus with heads := modAt s.fus.heads (byteAt p 14) fun l => (timeAt p 0, p.drop 10) :: l } }

/-- The FEEDBACK entries of a thruster, newest first. -/
def feedbacksOf (ps : List (List Byte)) (t : Nat) : List (Nat × List Byte) :=
  ((ps.filter fun p => byteAt p 0 == t).map fun p => (timeAt p 4, slice p 14 24)).foldl
    (fun l f => (l.takeWhile fun g => decide (f.1 < g.1)) ++ f :: (l.dropWhile fun g => decide (f.1 < g.1))) []

/-- The FEEDBACKs of the block stand for those of the drives, of the EXTENSION's at thrusters 16 to 31. Stage 7 uses one of every thruster that
was not LOST, so that a thruster without any is LOST (R218, R381, log 102). -/
def takeFeedbacks (ps : List (List Byte)) (s : State) : State :=
  let own (s : State) (p : Nat × DriveMap) : State :=
    let l := feedbacksOf ps p.1
    modDrive p.1 (fun x => { x with fbs := l, lost := l.isEmpty, stale := false, hbLost := false }) s
  let part (n i : Nat) : List Byte :=
    let fs := feedbacksOf ps (16 + i)
    let was := fieldU (((s.grp.extFb.head?).map (·.2)).getD []) (40 * i) 4
    let status := be 4 (was / 8 * 8 + if fs.isEmpty then 2 else 0)
    match fs[n]? with
    | some f => status ++ padTo 24 f.2 ++ timeBytes f.1 ++ zeros 2
    | none => status ++ zeros 36
  let depth := ((List.range 16).map fun i => (feedbacksOf ps (16 + i)).length).foldl max 1
  let ext := (List.range depth).map fun n => (s.time.total, (List.range 16).flatMap (part n))
  let s1 := (ownDrives s).foldl own s
  { s1 with grp := { s1.grp with extFb := ext, extFbMissed := 0, extFbSeen := true } }

/-- A channel record of a GNSS_EPOCH entry stands for its channel (Table 05-6). -/
def takeChan (r : List Byte) (s : State) : State :=
  let put (c : Chan) : Chan :=
    { c with ant := byteAt r 2, signal := byteAt r 4, svid := byteAt r 5, state := byteAt r 6, flags := byteAt r 7, pr := fieldF64 r 8, cp := fieldF64 r 16,
             doppler := fieldF32 r 24, cn0 := fieldU r 28 2, lockMs := fieldU r 32 4 }
  { s with gnss := { s.gnss with chans := modAt s.gnss.chans (fieldU r 0 2) put } }

/-- A GNSS_EPOCH entry: the channels of RTK_ANTENNA are those of its records, none other of that antenna valid, and level A takes its epoch from them
(R321, R409). -/
def takeEpoch (p : List Byte) (s : State) : State :=
  let quiet (c : Chan) : Chan := if c.ant = pNat s 0x0420 then { c with flags := 0 } else c
  let s1 := (records 36 (p.drop 14)).foldl (fun s r => takeChan r s) { s with gnss := { s.gnss with chans := s.gnss.chans.map quiet } }
  { s1 with gnss := { s1.gnss with epoch := some (timeAt p 0), levelA := true, levelIn := some (levelInput s1) } }

/-- An RTCM entry: its frame is taken (R102, R169). -/
def takeRtcm (p : List Byte) (s : State) : State := (takeFrames p.length (p.drop 10) s 0 0).1

/-- The counter and the grid of a replayed period. -/
def replayClock (n : Nat) (b : Int) (s : State) : State :=
  let e := b + vpNs s
  { s with time := { s.time with sec := b.toNat / 10 ^ 9, ns := b.toNat % 10 ^ 9, frac := 0 },
           grid := { running := true, everBegun := true, period := n, startT := b, endT := e, vp := vpNs s, tp := tpNs s,
                     phase := pNat s 0x0103, tpDone := 0, tpTotal := tpCount (tpNs s) b e } }

/-- Stage 2 of a replayed period. -/
def replaySnapshot (n : Nat) (b : Int) (es : List (Nat × List Byte)) (s0 : State) : State :=
  let skip := ((ofKind 6 es).map fun p => fieldU p 0 4).sum
  let cmds := (ofKind 4 es).filterMap (loggedEffect s0)
  let s := { s0 with sch := { s0.sch with cur := n, s8 := false, s9 := false, b := b, start := b, prevSnap := s0.sch.snap, snap := b, dt := vpNs s0,
                                          nominal := false, skip := skip, late := false, lost := decide (skip ≠ 0), mirrorOut := [],
                                          cmds := cmds, counts := modAt s0.sch.counts 7 fun _ => 0 } }
  let s1 := (ofKind 1 es).foldl (fun s p => takeOptical p s) (pruneHeads s.sch.prevSnap (cmds.foldl takeCounted s))
  let s2 := (ofKind 2 es).foldl (fun s p => takeEpoch p s) ((ofKind 3 es).foldl (fun s p => takeRtcm p s)
    ((ofKind 0 es).foldl (fun s p => takeInput b p s) (ageInputs b s1)))
  judgeThrusters s2

/-- Stages 3 to 7 of a replayed period; the chain of the next one may start after them (R395). -/
def replayStages (s : State) : State :=
  if noStages s then { s with sch := { s.sch with stage := 7, s8 := true } }
  else
    let s2 := keepSignals (stage7 (endSix none (control (stage4 (stage3 s)))))
    let h : Handoff := ⟨s2.sch.cur, (List.range 32).map (commandOf s2)⟩
    { s2 with thr := { s2.thr with handoffs := s2.thr.handoffs ++ [h] }, sch := { s2.sch with stage := 7, chainDue := chainMay s2 } }

/-- The TP boundaries after the period's start. -/
def replayTps (b : Int) (s : State) : State :=
  (List.range (s.grid.tpTotal - 1)).foldl (fun s i =>
    let t := (b + ((i + 1) * tpNs s : Nat)).toNat
    tpRun (i + 1) (0, 0) { s with time := { s.time with sec := t / 10 ^ 9, ns := t % 10 ^ 9, frac := 0 } }) s

/-- A period runs from its block: the whole of it, then its digest is compared. -/
def runBlock (n : Nat) (es : List (Nat × List Byte)) (digest : List Byte) (s0 : State) : State :=
  let b : Int := pNat s0 0x0103 + (n * vpNs s0 : Nat)
  let old := (s0.grid.period, s0.grid.tpTotal)
  let cleared := (ofKind 4 es).foldl (fun m p => if fieldU p 0 2 = 0x0330 then m ||| fieldU p 8 4 else m) 0
  let first := clearFaults cleared (takeFeedbacks (ofKind 5 es) (replayClock n b s0))
  let s1 := replayStages (replaySnapshot n b es (keepMarks n (tpRun 0 old first)))
  let s2 := replayTps b s1
  let s3 := stage9 (if s2.grp.role = 0 then stage8 s2 else s2)
  let own := outDigest s3 n (digestHead s3) s3.sch.mirrorOut
  let s4 := if own = digest then s3 else bumpCount 14 1 (record .replayMismatch (be 4 (satU 32 n) ++ be 2 0) s3)
  let t := { s4.time with sec := s0.time.sec, ns := s0.time.ns, frac := s0.time.frac }
  { s4 with time := t, grid := s0.grid, thr := { s4.thr with frames := [], used := [] } }

/-- A block is complete. -/
def blockDone (d : List Byte) (block : Nat) (body : List Byte) (s0 : State) : State :=
  let s := { s0 with sch := { s0.sch with rxBlock := none, rxLast := some block, rxWait := false } }
  if fieldU d 20 4 ≠ configCrc s then record .replayConfig [] s
  else
    let n := body.length - 16
    runBlock (fieldU d 8 8) (logRead n (body.take n)) (body.drop n) s

/-- A new block begins; one out of turn is a gap. -/
def newBlock (block : Nat) (full : Bool) (s0 : State) : State :=
  let gap := !s0.sch.rxWait && s0.sch.rxLast != some ((block + 2 ^ 32 - 1) % 2 ^ 32)
  let s := if gap then record .replayGap [] { s0 with sch := { s0.sch with rxWait := true } } else s0
  { s with sch := { s.sch with rxBlock := if s.sch.rxWait && !full then none else some (block, 0, []) } }

/-- A datagram of a block (Table 13-8). -/
def blockPart (d : List Byte) (s0 : State) : State :=
  let n := d.length
  let part := byteAt d 6
  let block := fieldU d 16 4
  if n < 28 ∨ fieldU d 0 4 ≠ 0x564B4C47 ∨ byteAt d 4 ≠ 1 ∨ fieldU d (n - 4) 4 ≠ crcNat (d.take (n - 4)) then s0
  else
    let s := if part = 0 then newBlock block (bitOf (byteAt d 5) 1) s0 else s0
    match s.sch.rxBlock with
    | some (k, p, body) =>
      let body := body ++ slice d 24 (n - 28)
      if k ≠ block ∨ p ≠ part then { s with sch := { s.sch with rxBlock := none } }
      else if bitOf (byteAt d 5) 0 then blockDone d block body s
      else { s with sch := { s.sch with rxBlock := some (block, part + 1, body) } }
    | none => s

/-- LOG_BLOCK_RX (R409), on either port. -/
def execLogBlockRx (_portB : Bool) (data : List Byte) (s : State) : Result :=
  .next (if awake s && replays s then blockPart data s else s)

end Sys2Proof.Machine
end

