-- ==== Sys2Proof/Machine/Island.lean ====
section
/-! DEFINITION. The metrology island (chapter 16): measurement, registers, pulses, seal, log, mailbox and service port. -/

namespace Sys2Proof.Config

/-- Digest of the image the island was made with (R494 names it, no rule gives it; log 65). -/
opaque mtrDigest : List Byte

/-- Tap k of the 63-tap ROM filter that lags by a quarter period (R483, log 65). -/
opaque hilbertTap : Nat → F64

/-- Whether a signature verifies against the public key in the island's ROM for an image's digest (R493, log 65). -/
opaque mtrSignature : List Byte → List Byte → Bool

/-- Milliseconds that the `k`-th reset and restart of the island takes, at most 30 (R481, log 65). -/
opaque mtrRestartMs : Nat → Fin 31

end Sys2Proof.Config

namespace Sys2Proof.Machine

/-! Parameters (R488). -/

/-- Default of a parameter (Table 16-1); none where the ID names none. -/
def mtrDefault (id : Nat) : Option (BitVec 32) :=
  if id = 1 then some 0#32
  else if id = 2 then some 0x7C#32
  else if 0x10 ≤ id ∧ id < 0x14 then some 1#32
  else if 0x100 ≤ id ∧ id < 0x118 then some f1
  else if (0x140 ≤ id ∧ id < 0x158) ∨ (0x180 ≤ id ∧ id < 0x198) then some 0#32
  else none

/-- A parameter among given values, or its default. -/
def mtrValue (l : List (Nat × BitVec 32)) (id : Nat) : BitVec 32 := (keyGet id l).getD ((mtrDefault id).getD 0)

/-- A parameter in force. -/
def mtrP (s : State) (id : Nat) : BitVec 32 := mtrValue s.mtr.params id

/-- The values that a COMMIT would put in force. -/
def mtrMerged (s : State) : List (Nat × BitVec 32) := s.mtr.staged.foldl (fun l e => keyPut e.1 e.2 l) s.mtr.params

/-- A channel carries a current. -/
def isCurrent (c : Nat) : Bool := decide (3 ≤ c % 6)

/-- OFFSET of a channel within 1 % of its GAIN. -/
def offsetOk (l : List (Nat × BitVec 32)) (c : Nat) : Bool :=
  dle (dabs (f2d (mtrValue l (0x140 + c)))) (dmul (dofRat 1 100) (f2d (mtrValue l (0x100 + c))))

/-- A value within its range (Table 16-1), beside the values `l` staged and in force. -/
def mtrRange (l : List (Nat × BitVec 32)) (id : Nat) (v : BitVec 32) : Bool :=
  if id = 1 then decide (v.toNat < 16)
  else if id = 2 then decide (v.toNat < 128)
  else if id < 0x14 then decide (1 ≤ v.toNat ∧ v.toNat ≤ 10000)
  else if id < 0x118 then fle (if isCurrent (id - 0x100) then fofRat 1 10 else f1) v && fle v (fofInt 100000)
  else if id < 0x158 then offsetOk (keyPut id v l) (id - 0x140)
  else if isCurrent (id - 0x180) then fle (fofInt (-100)) v && fle v (fofInt 100)
  else fle 0 v && fle v 0

/-- A feeder is enabled. -/
def mtrOn (l : List (Nat × BitVec 32)) (f : Nat) : Bool := bitOf (mtrValue l 1).toNat f

/-- Σ GAIN(voltage) × GAIN(current) over the phases of a feeder, in W (R489). -/
def fullScale (l : List (Nat × BitVec 32)) (f : Nat) : F64 :=
  (List.range 3).foldl (fun a k => dadd a (dmul (f2d (mtrValue l (0x100 + 6 * f + k))) (f2d (mtrValue l (0x103 + 6 * f + k))))) d0

/-- The pulse rate at full scale is at most 400 Hz for every enabled feeder: W × 10,000 / (PULSE_DIV × 1,000 × 3,600) ≤ 400 (R489). -/
def pulseRateOk (l : List (Nat × BitVec 32)) : Bool :=
  (List.range 4).all fun f => !mtrOn l f || dle (fullScale l f) (dofInt (144000 * (mtrValue l (0x10 + f)).toNat))

/-! Identity, flags and the log (R494, R496). -/

/-- The running image's digest. -/
def mtrIdentity (s : State) : List Byte := if s.mtr.firmware.isEmpty then padTo 32 Config.mtrDigest else sha256 s.mtr.firmware

/-- Records of the log. -/
def mtrSlots : Nat := 63488

/-- A record is of CODE 4 to 7, and never overwritten. -/
def MtrRec.legal (r : MtrRec) : Bool := decide (4 ≤ r.code ∧ r.code ≤ 7)

/-- LOG_FULL: only records of CODE 4 to 7 remain. -/
def mtrLogFull (s : State) : Bool := decide (mtrSlots ≤ s.mtr.log.length) && s.mtr.log.all (·.legal)

/-- The oldest record that may be overwritten is removed. -/
def dropRec : List MtrRec → List MtrRec
  | [] => []
  | r :: rs => if r.legal then r :: dropRec rs else rs

/-- An event is logged, with the SEAL in force after it. -/
def mtrLog (code feeder param old new : Nat) (s : State) : State :=
  if mtrLogFull s then s
  else
    let m := s.mtr
    let r : MtrRec := ⟨m.logNext, m.operS, code, feeder, param, m.sealCount, old, new, m.cycles⟩
    { s with mtr := { m with log := (if m.log.length < mtrSlots then m.log else dropRec m.log) ++ [r], logNext := m.logNext + 1 } }

/-- An event that names no feeder and no values. -/
def mtrNote (code : Nat) (s : State) : State := mtrLog code 0xFF 0 0 0 s

/-- The 32 bytes of a record (Table 16-2). -/
def MtrRec.bytes (r : MtrRec) : List Byte :=
  let b := be 4 r.oper ++ be 1 r.code ++ be 1 r.feeder ++ be 2 r.param ++ be 4 r.sealCount ++ be 4 r.old ++ be 4 r.new ++ be 4 r.cycles ++ zeros 4
  b ++ be 4 (crcNat b)

/-! The register store (R495). -/

/-- The registers of a feeder. -/
def Feeder.energy (f : Feeder) : List Nat := [f.eImp, f.eExp, f.qInd, f.qCap, f.eDp]

/-- The registers are committed, in place of the older of the two copies. -/
def mtrCommit (s : State) : State :=
  let m := s.mtr
  { s with mtr := { m with store := some ⟨m.feeders.map Feeder.energy, m.dpMs, m.sealCount, m.params⟩, older := m.store } }

/-- A feeder with committed registers. -/
def feederOf (e : List Nat) : Feeder :=
  { feederReset with eImp := at_ 0 e 0, eExp := at_ 0 e 1, qInd := at_ 0 e 2, qCap := at_ 0 e 3, eDp := at_ 0 e 4 }

/-- The island restarts (R481, R495): registers from the newer copy that verifies, with SEAL no lower than the log's last (R492; log 242),
else zero and default with SEAL one more than the log's last; the interval without measurement is logged. -/
def mtrStart (newer older : Bool) (s : State) : State :=
  let m := s.mtr
  let gap := (Config.mtrRestartMs s.fresh).val
  let good := (if newer then m.store else none).or (if older then m.older else none)
  let st := good.getD ⟨List.replicate 4 [0, 0, 0, 0, 0], 0, min (2 ^ 32 - 1) ((m.log.getLast?.map (·.sealCount)).getD 0 + 1), []⟩
  let m' := { mtrReset with on := true, measuring := true, sealCount := max st.sealCount ((m.log.getLast?.map (·.sealCount)).getD 0), params := st.params, feeders := st.energy.map feederOf,
                            dpAll := true, dpMs := st.dpMs, operS := m.operS, cycles := m.cycles, log := m.log, logNext := m.logNext,
                            storeLost := good.isNone, store := good, older := if newer && older then m.older else none, firmware := m.firmware, seen := m.seen,
                            sampleAt := s.time.elapsed + ms gap, checkAt := s.time.elapsed + ms gap }
  let s1 := freshen { s with mtr := m' }
  mtrLog 12 0xFF 0 0 gap (if good.isNone then mtrNote 13 s1 else s1)

/-- MTR_POWER_UP: VDD_MTR has risen, and which of the two copies verify (R481, R495). -/
def execMtrPowerUp (newer older : Bool) (s : State) : Result :=
  if s.mtr.on then .next s
  else
    let s1 := { s with mtr := { s.mtr with on := true, cycles := s.mtr.cycles + 1 } }
    .next (mtrStart newer older (mtrNote 1 (railsUp 0x6FF#11 s1)))

/-- MTR_WATCHDOG (R481): the island's firmware did not serve it for 100 ms. -/
def execMtrWatchdog (s : State) : Result := .next (if s.mtr.on then mtrStart true true (mtrNote 3 s) else s)

/-- A power-on reset of the device while VDD_MTR is present (R481, R487). -/
def mtrDeviceReset (s : State) : State := if s.mtr.on then mtrStart true true (mtrCommit (mtrNote 14 s)) else s

/-- VDD_MTR_WARNING (R495, R528). -/
def execVddMtrWarning (s : State) : Result := .next (if s.mtr.on then mtrCommit (mtrNote 2 (railBelow 8 (railLevels 8).1 s)) else s)

/-- VDD_MTR_LOSS (R481, R528): held in reset, nothing measured, no mailbox. -/
def execVddMtrLoss (s : State) : Result :=
  .next (railBelow 8 (railLevels 8).2.2
    { s with mtr := { s.mtr with on := false, measuring := false, gap := none, unsealed := false, staged := [], blocks := [], image := none, dp := none } })

/-- MTR_REGISTER_COMMIT (R495): every 60 s of island time. -/
def execMtrRegisterCommit (s : State) : Result :=
  .next (if s.mtr.on && decide (60 ≤ s.mtr.since60) then let s1 := mtrCommit s; { s1 with mtr := { s1.mtr with since60 := 0 } } else s)

/-! DP indication (R487). -/

/-- The latest indication is at most 100 ms old. -/
def dpValid (s : State) : Bool :=
  match s.mtr.dp with
  | some (_, _, t) => decide (s.time.elapsed ≤ t + ms 100)
  | none => false

/-- The valid indication names a mode of DP_MODE_MASK. -/
def dpActive (s : State) : Bool :=
  match s.mtr.dp with
  | some (m, _, _) => dpValid s && bitOf (mtrP s 2).toNat m
  | none => false

/-! Samples (R482, R483). -/

/-- 768 modulator bits of a channel make one sample. -/
def mtrBits (bits : List Bool) (c : MtrChan) : MtrChan :=
  let ints := bits.foldl (fun i b => integrate (if b then 1 else -1) i) c.integ
  let (acc, cb) := combs (ints.getLastD 0) c.comb
  { integ := ints, comb := cb, xs := (sat24 (roundAway (acc * 2 ^ 23) (768 ^ 3)) :: c.xs).take 65 }

/-- Sample n of a channel, newest first, zero before the first. -/
def mtrX (s : State) (c n : Nat) : Int := at_ 0 (at_ mtrChanReset s.mtr.chans c).xs n

/-- GAIN × x / 2^23 − OFFSET of a channel. -/
def scaled (s : State) (c : Nat) (x : F64) : F64 :=
  dsub (ddiv (dmul (f2d (mtrP s (0x100 + c))) x) (dofInt (2 ^ 23))) (f2d (mtrP s (0x140 + c)))

/-- A voltage `n` samples before the instant computed for. -/
def mtrU (s : State) (c n : Nat) : F64 := scaled s c (dofInt (mtrX s c (n + 1)))

/-- A current at the instant computed for, one sample back so that either sign of PHASE interpolates between two samples (log 65). -/
def mtrI (s : State) (c : Nat) : F64 :=
  let p := f2d (mtrP s (0x180 + c))
  let x (n : Nat) : F64 := dofInt (mtrX s c n)
  let a := ddiv (dabs p) (dofInt 125)
  scaled s c (dadd (x 1) (dmul a (dsub (x (if dlt p d0 then 0 else 2)) (x 1))))

/-- u lagged by a quarter period. -/
def hilbert (s : State) (c : Nat) : F64 := (List.range 63).foldl (fun a k => dadd a (dmul (Config.hilbertTap k) (mtrU s c k))) d0

/-- One sample period in seconds. -/
def mtrDt : F64 := dofRat 125 1000000

/-- The sums of a feeder after a sample. -/
def mtrAccumulate (s : State) (f : Nat) (x : Feeder) : Feeder :=
  if !mtrOn s.mtr.params f then x
  else
    let c (q k : Nat) : Nat := 6 * f + 3 * q + k
    let sat (k : Nat) : Bool := let v := mtrX s (6 * f + k) 0; v == 8388607 || v == -8388608
    let p := (List.range 3).foldl (fun a k => dadd a (dmul (dmul (mtrU s (c 0 k) 0) (mtrI s (c 1 k))) mtrDt)) x.pacc
    let q := (List.range 3).foldl (fun a k => dadd a (dmul (dmul (hilbert s (c 0 k)) (mtrI s (c 1 k))) mtrDt)) x.qacc
    let vs := ((List.range 3).map fun k => mtrU s (c 0 k) 0) ++ (List.range 3).map fun k => mtrI s (c 1 k)
    { x with pacc := p, qacc := q, squares := List.zipWith (fun a v => dadd a (dmul v v)) x.squares vs, ovr := x.ovr || (List.range 6).any sat }

/-- A sample of every channel. -/
def mtrSampleIn (bits : List (List Bool)) (s0 : State) : State :=
  let s := { s0 with mtr := { s0.mtr with chans := s0.mtr.chans.mapIdx fun i c => mtrBits (at_ [] bits i) c } }
  let act := dpActive s
  let frac := s.mtr.dpFrac + b2n act
  { s with mtr := { s.mtr with feeders := s.mtr.feeders.mapIdx (mtrAccumulate s), samples := s.mtr.samples + 1, sampleAt := s.time.elapsed,
                               dpAll := s.mtr.dpAll && act, dpFrac := frac % 8, dpMs := (s.mtr.dpMs + frac / 8) % 2 ^ 64 } }

/-- MTR_SAMPLE: 125 µs of island time, never less than 113.636 µs while the clock is within 10 % (R482, R483, R486). -/
def execMtrSample (bits : List (List Bool)) (s : State) : Result :=
  .next (if s.mtr.on && s.mtr.measuring then mtrSampleIn bits (elapseTo (s.mtr.sampleAt + 113636) s) else s)

/-! The second (R483, R497). -/

/-- Whole milliwatt-hours in a magnitude of joules and a carry, and what is left. -/
def toMwh (carry j : F64) : Nat × F64 :=
  let t := dadd carry j
  let n := ((num64 (ddiv t (dofRat 36 10))).floor?.getD 0).toNat
  (n, dsub t (dmul (dofInt n) (dofRat 36 10)))

/-- A magnitude added to register i where `b` holds: how much it grows by, and its carry. -/
def mtrAdd (x : Feeder) (i : Nat) (b : Bool) (j : F64) : Nat × F64 := if b then toMwh (at_ d0 x.carry i) (dabs j) else (0, at_ d0 x.carry i)

/-- A feeder at the end of a second of `n` samples; `dp` DP throughout (R483, R490). -/
def endSecond (s : State) (freq : List F32) (f : Nat) (x : Feeder) : Feeder :=
  if !mtrOn s.mtr.params f then feederOf x.energy
  else
    let n := s.mtr.samples
    let pos := dlt d0 x.pacc
    let imp := mtrAdd x 0 pos x.pacc
    let exp := mtrAdd x 1 (dlt x.pacc d0) x.pacc
    let ind := mtrAdd x 2 (dlt d0 x.qacc) x.qacc
    let cap := mtrAdd x 3 (dlt x.qacc d0) x.qacc
    let dpx := mtrAdd x 4 (pos && s.mtr.dpAll) x.pacc
    let per := 100 * max 1 (mtrP s (0x10 + f)).toNat
    let rms (k : Nat) : F32 := if n = 0 then 0 else d2f (dsqrt (ddiv (at_ d0 x.squares k) (dofInt n)))
    let add (a b : Nat) : Nat := (a + b) % 2 ^ 64
    { x with eImp := add x.eImp imp.1, eExp := add x.eExp exp.1, qInd := add x.qInd ind.1, qCap := add x.qCap cap.1, eDp := add x.eDp dpx.1,
             carry := [imp.2, exp.2, ind.2, cap.2, dpx.2], pacc := d0, qacc := d0, squares := List.replicate 6 d0, p := d2f x.pacc, q := d2f x.qacc,
             freq := at_ 0 freq f, urms := (List.range 3).map rms, irms := (List.range 3).map fun k => rms (3 + k),
             owed := x.owed + (x.unpulsed + imp.1) / per, unpulsed := (x.unpulsed + imp.1) % per }

/-- A feeder record (Table 16-5). -/
def feederBytes (x : Feeder) : List Byte :=
  (x.energy.flatMap (be 8)) ++ be 4 x.p.toNat ++ be 4 x.q.toNat ++ be 4 x.freq.toNat ++ (x.urms.flatMap fun v => be 4 v.toNat) ++
    (x.irms.flatMap fun v => be 4 v.toNat) ++ be 2 (flagsWord (x.loss ++ [x.ovr])) ++ zeros 2

/-- FLAGS of the image. -/
def mtrFlags (s : State) : Nat :=
  flagsWord [s.mtr.measuring, s.mtr.unsealed, mtrLogFull s, s.mtr.clockFault, dpActive s, s.mtr.storeLost]

/-- The mailbox image (Table 16-4). -/
def mtrImage (s : State) : List Byte :=
  let m := s.mtr
  let b := be 4 0x564B4D54 ++ be 1 1 ++ be 1 (mtrFlags s) ++ be 1 (mtrP s 1).toNat ++ be 1 0 ++ be 4 m.seq ++ be 4 m.operS ++ be 4 m.sealCount ++
    (mtrIdentity s).take 4 ++ be 8 m.dpMs ++ (m.feeders.mapIdx fun f x => if mtrOn m.params f then feederBytes x else zeros 80).flatten
  b ++ be 4 (crcNat b)

/-- The controller reads the current image: SEAL and IDENT are compared with those of the one read before (R498). -/
def seeImage (s : State) : State :=
  match s.mtr.image with
  | none => s
  | some b =>
    let new := (fieldU b 16 4, slice b 20 4)
    let s1 := match s.mtr.seen with
      | some old => if old = new then s else record .mtrSealChanged (be 2 (satU 16 old.1) ++ be 4 new.1) s
      | none => s
    { s1 with mtr := { s1.mtr with seen := some new } }

/-- The end of a second; firmware reads each image as it becomes current (R498, Table 16-7, log 241). -/
def mtrSecondEnd (freq : List F32) (s : State) : State :=
  let m := s.mtr
  let s1 := { s with mtr := { m with feeders := m.feeders.mapIdx (endSecond s freq), samples := 0, dpAll := true, operS := m.operS + 1,
                                     since60 := m.since60 + 1, seq := (m.seq + 1) % 2 ^ 32 } }
  let clear (x : Feeder) : Feeder := { x with ovr := false }
  let s2 := { s1 with mtr := { s1.mtr with image := some (mtrImage s1), feeders := s1.mtr.feeders.map clear } }
  if awake s then seeImage s2 else s2

/-- MTR_SECOND: 8,000 samples while measuring, else a second of the island's clock; `freq` as measured (R483, R497). -/
def execMtrSecond (freq : List F32) (s : State) : Result :=
  if !s.mtr.on then .next s
  else if s.mtr.measuring then .next (if s.mtr.samples < 8000 then s else mtrSecondEnd freq s)
  else
    let s1 := elapseTo (s.mtr.sampleAt + us 909091) s
    .next (mtrSecondEnd freq { s1 with mtr := { s1.mtr with sampleAt := s1.time.elapsed } })

/-- MTR_PULSE (R490): high for 1 ms, at least 1 ms after the one before. -/
def execMtrPulse (feeder : Fin 4) (s : State) : Result :=
  let f := feeder.val
  let x := at_ feederReset s.mtr.feeders f
  if !s.mtr.on || !mtrOn s.mtr.params f || x.owed == 0 then .next s
  else
    let s1 := elapseTo (at_ 0 s.mtr.pulseAt f + us 1819) s
    let paid (x : Feeder) : Feeder := { x with owed := x.owed - 1 }
    .next (emit (.pulse "MTR_PULSE" f)
      { s1 with mtr := { s1.mtr with feeders := modAt s1.mtr.feeders f paid, pulseAt := modAt s1.mtr.pulseAt f fun _ => s1.time.elapsed } })

/-- PHASE_LOSS: a phase enters below 10 %, or leaves at or above 12 %, of its voltage GAIN over the second measured (R485). -/
def execPhaseLoss (feeder : Fin 4) (phase : Fin 3) (s : State) : Result :=
  let f := feeder.val
  let k := phase.val
  let x := at_ feederReset s.mtr.feeders f
  let u := f2d (at_ 0 x.urms k)
  let g := f2d (mtrP s (0x100 + 6 * f + k))
  let lost := at_ false x.loss k
  let put (b : Bool) (s : State) : State :=
    let upd (x : Feeder) : Feeder := { x with loss := modAt x.loss k fun _ => b }
    { s with mtr := { s.mtr with feeders := modAt s.mtr.feeders f upd } }
  if !s.mtr.on || s.mtr.image.isNone || !mtrOn s.mtr.params f then .next s
  else if !lost && dlt u (dmul (dofRat 10 100) g) then .next (mtrLog 10 f k 0 0 (put true s))
  else if lost && dle (dmul (dofRat 12 100) g) u then .next (mtrLog 11 f k 0 0 (put false s))
  else .next s

/-- MTR_CLOCK_CHECK (R486): the deviation over a window of 10 ms of the RC oscillator, and whether edges came within 1 ms. -/
def execMtrClockCheck (ppm : Nat) (edges : Bool) (s0 : State) : Result :=
  if !s0.mtr.on then .next s0
  else
    let s1 := elapseTo (s0.mtr.checkAt + ms 9) s0
    let s := { s1 with mtr := { s1.mtr with checkAt := s1.time.elapsed, steady := if edges && decide (ppm < 20000) then s1.mtr.steady + 1 else 0 } }
    let m := s.mtr
    if !edges || decide (100000 < ppm) then
      .next { s with mtr := { m with measuring := false, gap := if m.measuring then some s.time.elapsed else m.gap } }
    else if 20000 ≤ ppm then .next (if m.clockFault then s else mtrNote 8 { s with mtr := { m with clockFault := true } })
    else if 100 ≤ m.steady ∧ (m.clockFault ∨ !m.measuring) then
      let s2 := mtrNote 9 { s with mtr := { m with clockFault := false, measuring := true, gap := none, sampleAt := s.time.elapsed } }
      match m.gap with
      | some t => .next (mtrLog 12 0xFF 0 0 (min (2 ^ 32 - 1) ((s.time.elapsed - t) / 1000000)) s2)
      | none => .next s2
    else .next s

/-! The seal (R491). -/

/-- UNSEALED: MTR_UNSEAL_N has been low for 1 s. -/
def execUnsealed (s : State) : Result :=
  .next (if s.mtr.on && !s.mtr.unsealed then mtrNote 4 { s with mtr := { s.mtr with unsealed := true } } else s)

/-- SEALED: MTR_UNSEAL_N is high; staged values are discarded. -/
def execSealed (s : State) : Result :=
  .next (if s.mtr.on && s.mtr.unsealed then mtrNote 5 { s with mtr := { s.mtr with unsealed := false, staged := [] } } else s)

/-! The service port (R499). -/

/-- A reply frame. -/
def svcReply (cmd status : Nat) (body : List Byte) (s : State) : State :=
  let b := be 2 (2 + body.length) ++ be 1 (128 + cmd) ++ be 1 status ++ body
  emit (.service (be 1 0x7E ++ b ++ be 4 (crcNat b))) s

/-- A frame reaches the island with its CRC right. -/
def svcHeard (cmd : Nat) (payload : List Byte) (crc : BitVec 32) (s : State) : Bool :=
  s.mtr.on && crc.toNat == crcNat (be 2 (1 + payload.length) ++ be 1 cmd ++ payload)

/-- A command whose payload has its size, or BAD_FRAME; one with a bad CRC gets no reply. -/
def svcIn (cmd : Nat) (payload : List Byte) (crc : BitVec 32) (ok : Bool) (run : State → State) (s : State) : Result :=
  .next (if !svcHeard cmd payload crc s then s else if !ok then svcReply cmd 6 [] s else run s)

/-- READ_IDENT (R500). -/
def execReadIdent (payload : List Byte) (crc : BitVec 32) (s : State) : Result :=
  svcIn 1 payload crc payload.isEmpty (fun s => svcReply 1 0 (mtrIdentity s ++ be 4 s.mtr.sealCount ++ be 1 (mtrFlags s)) s) s

/-- READ_MAILBOX; INCONSISTENT while no image has been written (log 65). -/
def execReadMailbox (payload : List Byte) (crc : BitVec 32) (s : State) : Result :=
  svcIn 2 payload crc payload.isEmpty (fun s => match s.mtr.image with
    | some b => svcReply 2 0 b s
    | none => svcReply 2 3 [] s) s

/-- READ_PARAM: RANGE for an ID that names none. -/
def execReadParam (payload : List Byte) (crc : BitVec 32) (s : State) : Result :=
  svcIn 3 payload crc (payload.length == 2) (fun s =>
    let id := fieldU payload 0 2
    if (mtrDefault id).isNone then svcReply 3 2 [] s
    else svcReply 3 0 (be 2 id ++ be 4 (mtrP s id).toNat ++ be 4 (mtrValue (mtrMerged s) id).toNat) s) s

/-- WRITE_PARAM (R491): a value is staged while unsealed. -/
def execWriteParam (payload : List Byte) (crc : BitVec 32) (s : State) : Result :=
  svcIn 4 payload crc (payload.length == 6) (fun s =>
    let id := fieldU payload 0 2
    let v := BitVec.ofNat 32 (fieldU payload 2 4)
    if !s.mtr.unsealed then svcReply 4 1 [] s
    else if (mtrDefault id).isNone || !mtrRange (mtrMerged s) id v then svcReply 4 2 [] s
    else svcReply 4 0 [] { s with mtr := { s.mtr with staged := keyPut id v s.mtr.staged } }) s

/-- Feeder of a parameter, as its log record names it: 0xFF for those of no feeder. -/
def paramFeeder (id : Nat) : Nat := if id < 0x10 then 0xFF else if id < 0x14 then id - 0x10 else (id % 0x40) / 6

/-- Every staged value is applied at once (R491, R492). -/
def mtrApply (s : State) : State :=
  let m := s.mtr
  let changed := m.staged.filter fun e => e.2 != mtrP s e.1
  let s1 := { s with mtr := { m with params := mtrMerged s, staged := [], sealCount := m.sealCount + b2n (!changed.isEmpty) } }
  mtrCommit (changed.foldl (fun s' e => mtrLog 6 (paramFeeder e.1) e.1 (mtrP s e.1).toNat e.2.toNat s') s1)

/-- COMMIT (R489, R492, R496): refused sealed, with the log or SEAL full, or on a pulse rate or an offset out of bounds. -/
def execCommit (payload : List Byte) (crc : BitVec 32) (s : State) : Result :=
  svcIn 5 payload crc payload.isEmpty (fun s =>
    let l := mtrMerged s
    let changes := s.mtr.staged.any fun e => e.2 != mtrP s e.1
    if !s.mtr.unsealed then svcReply 5 1 [] s
    else if mtrLogFull s || (changes && decide (2 ^ 32 - 1 ≤ s.mtr.sealCount)) then svcReply 5 4 [] s
    else if !pulseRateOk l || !((List.range 24).all (offsetOk l)) then svcReply 5 3 [] s
    else let s1 := mtrApply s; svcReply 5 0 (be 4 s1.mtr.sealCount) s1) s

/-- READ_LOG: up to COUNT records numbered FROM and above, and the number after the last of them (log 65). -/
def execReadLog (payload : List Byte) (crc : BitVec 32) (s : State) : Result :=
  svcIn 6 payload crc (payload.length == 5) (fun s =>
    let from_ := fieldU payload 0 4
    let n := byteAt payload 4
    let l := (s.mtr.log.filter fun r => decide (from_ ≤ r.num)).take n
    if n = 0 ∨ 32 < n then svcReply 6 2 [] s
    else svcReply 6 0 (be 4 ((l.getLast?.map (·.num + 1)).getD s.mtr.logNext) ++ l.flatMap MtrRec.bytes) s) s

/-- FW_BLOCK (R493). -/
def execFwBlock (payload : List Byte) (crc : BitVec 32) (s : State) : Result :=
  svcIn 7 payload crc (decide (4 ≤ payload.length ∧ payload.length ≤ 1028)) (fun s =>
    if !s.mtr.unsealed then svcReply 7 1 [] s
    else svcReply 7 0 [] { s with mtr := { s.mtr with blocks := s.mtr.blocks ++ [(fieldU payload 0 4, payload.drop 4)] } }) s

/-- Byte i of the image that the blocks spell, the latest block that covers it. -/
def blockByte (bs : List (Nat × List Byte)) (i : Nat) : Option Byte :=
  (bs.reverse.find? fun b => decide (b.1 ≤ i ∧ i < b.1 + b.2.length)).bind fun b => b.2[i - b.1]?

/-- The first `n` bytes; none where some were not loaded. -/
def loadedImage (n : Nat) (bs : List (Nat × List Byte)) : Option (List Byte) :=
  if (bs.map (·.2.length)).sum < n then none else (List.range n).mapM (blockByte bs)

/-- An accepted image starts at once; its digest is the identity (R493). -/
def mtrActivate (img : List Byte) (s : State) : State :=
  let old := fieldU (mtrIdentity s) 0 4
  let s1 := { s with mtr := { s.mtr with firmware := img, blocks := [], sealCount := s.mtr.sealCount + 1 } }
  mtrCommit (mtrLog 7 0xFF 0 old (fieldU (mtrIdentity s1) 0 4) s1)

/-- FW_ACTIVATE (R493): an image that is not whole does not verify. -/
def execFwActivate (payload : List Byte) (crc : BitVec 32) (s : State) : Result :=
  svcIn 8 payload crc (payload.length == 68) (fun s =>
    if !s.mtr.unsealed then svcReply 8 1 [] s
    else if mtrLogFull s || decide (2 ^ 32 - 1 ≤ s.mtr.sealCount) then svcReply 8 4 [] s
    else if fieldU payload 0 4 = 0 then svcReply 8 2 [] s
    else match loadedImage (fieldU payload 0 4) s.mtr.blocks with
      | some img =>
        if Config.mtrSignature (sha256 img) (payload.drop 4) then
          let s1 := mtrActivate img s
          svcReply 8 0 (mtrIdentity s1 ++ be 4 s1.mtr.sealCount) s1
        else svcReply 8 5 [] s
      | none => svcReply 8 5 [] s) s

/-! The host's view (R111, R497, R498, R500). -/

/-- MTR_MAILBOX_READ. -/
def opMtrMailboxRead : OpDef := stepOp 0x0901 1
  (fun c s => firstOf [sizeIs 0 c, when_ (!s.mtr.on || s.mtr.image.isNone) stNotReady])
  fun _ s => .finish (seeImage s) 0 (s.mtr.image.getD []) none

/-- MTR_MAILBOX_READ (R497). -/
def execMtrMailboxRead (r : Req) (p : List Byte) (s : State) : Result := .next (packetIn true opMtrMailboxRead r p s)

/-- MTR_IDENT_READ. -/
def opMtrIdentRead : OpDef := readOp 0x0902 1 0 (fun _ s => when_ (!s.mtr.on) stNotReady) fun _ s => mtrIdentity s ++ be 4 s.mtr.sealCount

/-- MTR_IDENT_READ (R500). -/
def execMtrIdentRead (r : Req) (p : List Byte) (s : State) : Result := .next (packetIn true opMtrIdentRead r p s)

end Sys2Proof.Machine
end

