-- ==== Sys2Proof/Machine/Reset.lean ====
section
/-! DEFINITION. Reset sources and their reach, the reset sequence and firmware start (chapter 18, R8, R73, R449, R531 to R539, R569). -/

namespace Sys2Proof.Machine

/-! Levels and sources (Tables 18-7, 18-9). -/

/-- LEVEL of RESET_CAUSE (Table 03-19). -/
def Level.code : Level → Nat
  | .core => 1
  | .system => 2
  | .powerOn => 3

/-- The wider of two levels. -/
def Level.wider (a b : Level) : Level := if a.code < b.code then b else a

/-- The reach of a source (Table 18-7). -/
def RSrc.reach : RSrc → Level
  | .por => .powerOn
  | .supply _ => .powerOn
  | .pin => .system
  | .watchdog => .system
  | .cmdSystem => .system
  | .safetyReq => .system
  | .cmdCore => .core

/-- Its bit of RESET_CAUSE. -/
def RSrc.bit : RSrc → Nat
  | .por => 0
  | .supply _ => 1
  | .pin => 2
  | .watchdog => 3
  | .cmdSystem => 4
  | .safetyReq => 5
  | .cmdCore => 6

/-- The bits of sources, with LEVEL (R120, R537). -/
def causeWord (bits : Nat) (srcs : List RSrc) (reach : Level) : BitVec 32 :=
  BitVec.ofNat 32 (srcs.foldl (fun w r => putBit w r.bit true) (bits % 128) + 256 * reach.code)

/-- Where sequencing stands after a source of a reach asserts (R537). -/
def bootAfter (l : Level) : Boot → Boot
  | .inReset r => .inReset (l.wider r)
  | .loading => if l = .core then .loading else .inReset l
  | .rom => .inReset l
  | .running => .inReset l

/-! What stops with the firmware (R73, Table 18-8). -/

/-- Effects of commands already committed that a core reset leaves in force at once (R73, R271); the rest are dropped. -/
def Effect.survives : Effect → Bool
  | .lock _ _ => true
  | .param _ _ => true
  | .table _ _ => true
  | .source _ _ => true
  | .nodes _ _ => true
  | _ => false

/-- They come into force. -/
def settleEffects (s : State) : State :=
  (s.sch.pend.filter fun p => p.eff.survives).foldl takeEffect { s with sch := { s.sch with pend := [] } }

/-- A journal entry of a command in flight is frozen (R73). -/
def frozen (s : State) (j : JEntry) : JEntry :=
  if inFlight s j.entry && !(j.state == .done || j.state == .aborted) then { j with interrupted := true } else j

/-- An entry as the journal buffer writes it, frozen. -/
def frozenSlot (s : State) (j : JSlot) : JSlot := ⟨frozen s j.cur, some (frozen s j.cur)⟩

/-- The journal at a reset: written out and kept, or after power-on only what MRAM holds, numbering from the mark (R73, R75). -/
def freezeJournal (power : Bool) (s : State) : State :=
  if power then
    let old (j : JSlot) : Option JSlot := j.mram.map fun m => ⟨frozen s m, some (frozen s m)⟩
    { s with host := { s.host with journal := s.host.journal.filterMap old, nextEntry := s.host.reserveMark,
                                   reserveMark := reserve s.host.reserveMark s.host.reserveMark } }
  else { s with host := { s.host with journal := s.host.journal.map (frozenSlot s) } }

/-- Sessions closed, commands gone, the SPI buffers empty (R39, R49, R50). IRQ_EN is 1 again but after a core reset (log 237). -/
def hostStop (l : Level) (s : State) : State :=
  let h := (freezeJournal (l == .powerOn) s).host
  let core := l == .core
  { s with host := { h with sessions := List.replicate 8 sessionReset, fails := [], lockouts := [], cmds := [], spiIn := [], spiOut := [],
                            inOverrun := core && h.inOverrun, outOverrun := core && h.outOverrun, irqEn := !core || h.irqEn } }

/-- What the group keeps while firmware is stopped: link, role, epochs, pins (R449). -/
def groupStop (ran owned : Bool) (s : State) : State :=
  let g := s.grp
  { s with grp := { grpReset with role := g.role, links := g.links, txSeq := g.txSeq, txq := g.txq, txFree := g.txFree, seen := g.seen, epoch := g.epoch,
                                  ownEpoch := g.ownEpoch, ownerEpoch := g.ownerEpoch, ownedAtReset := owned,
                                  startEpoch := if ran then (if owned then g.ownEpoch else g.epoch) else g.startEpoch, rival := if ran then none else g.rival,
                                  framesDropped := g.framesDropped,
                                  badCrcAt := g.badCrcAt, hbOut := g.hbOut, permitIn := g.permitIn, activeIn := g.activeIn, hbIn := g.hbIn,
                                  datagramSeen := g.datagramSeen, datagramSent := g.datagramSent } }

/-- The engines that firmware and fabric run (R274, R303, R331, R368, R384, R411). -/
def enginesStop (s : State) : State :=
  let s1 := obsStop (fusionStop (solutionsStop s))
  { s1 with slv := { s1.slv with structs := [], retained := [], baRun := none }, ctl := ctlReset, thr := thrReset,
            sch := { schReset with retired := s1.sch.retired }, sig := sigReset, grid := gridStop s1.grid, time := { s1.time with steps := [] },
            mtr := { s1.mtr with seen := none } }

/-- Firmware stops at a level. The mode in force is kept for MODE_CHANGED (R368); an owner resumes after a core reset only (R568). -/
def fwStop (l : Level) (s0 : State) : State :=
  let run := fwRunning s0
  let s := { s0 with pwr := { s0.pwr with oldMode := if run then s0.ctl.mode else s0.pwr.oldMode, boot := bootAfter l s0.pwr.boot } }
  let owned := l == .core && (s.grp.owns || (!run && s.grp.ownedAtReset))
  let s1 := if run then settleEffects s else s
  let s2 := groupStop run owned (dropOwnership (enginesStop (hostStop l s1)))
  applyAll (abortTest s2)

/-! The system and power-on levels. -/

/-- The tables with a region of their own in the option store (R96). -/
def regionTable (id : Nat) : Bool := id == 0x0200 || id == 0x0204 || decide (0x0362 ≤ id ∧ id ≤ 0x0369)

/-- The locked image's tables with the one copy that each region holds of its own (R96). -/
def withRegions (c : CfgState) : List (Nat × List Byte) :=
  let own (l : List (Nat × List Byte)) : List (Nat × List Byte) := l.filter fun e => regionTable e.1
  (own c.mramTabs).foldl (fun l e => keyPut e.1 e.2 l) (c.imageTabs.filter fun e => !regionTable e.1)

/-- The configuration restored from MRAM: the locked image in force, the staged image staged, unlocked (R96, R569). -/
def restoreImage (s : State) : State :=
  let c := s.cfg
  let tabs := if c.everLocked then withRegions c else c.imageTabs
  { s with cfg := { c with locked := false, force := c.image, forceTabs := tabs, imageTabs := tabs, stagedTabs := c.mramTabs, stagingBuf := [] } }

/-- Blocks of the system level are reset: the counter held at 0 s, the baseband, acquisition, buses and links stopped, DRAM lost, the
monitor held (Table 18-8). -/
def systemStop (s : State) : State :=
  let bare (x : Slot) : Slot := { slotReset with ident := x.ident, present := x.present }
  let s1 := restoreImage { s with
    time := { timeReset with elapsed := s.time.elapsed, counting := false },
    gnss := { gnssReset with on := false, refClk := 0, ephCopy := s.gnss.ephCopy, almCopy := s.gnss.almCopy },
    acq := acqReset,
    bus := { busReset with slots := s.bus.slots.map bare },
    slv := slvReset,
    sch := { s.sch with retired := 0 },
    grp := { s.grp with links := [false, false], txq := [], badCrcAt := [[], []] },
    pwr := { s.pwr with isolated := 0, skewActive := 0, thermalDomain := none } }
  monitorReset 0 s1

/-- A power-on reset: retention SRAM with the event buffer is lost, the island commits and resets (R481, R508). -/
def powerStop (s : State) : State :=
  let lost := (s.evt.recs.filter fun r => r.mram.isNone).length
  let keep (r : EvRec) : Option EvRec := r.mram.map fun m => { r with rep := m.1, params := m.2 }
  mtrDeviceReset { s with grid := gridReset, evt := { s.evt with recs := s.evt.recs.filterMap keep, newest := (s.evt.newest + 2 ^ 32 - lost) % 2 ^ 32, slot := (s.evt.slot + evtCapacity - lost % evtCapacity) % evtCapacity, dropped := 0 },
                          pwr := { s.pwr with retention := none, wakeQueued := 0, wakeStallMax := 0 } }

/-- The power controller at a reset (R532, R537, R540). -/
def resetPower (src : RSrc) (s : State) : State :=
  let p := s.pwr
  let reach := if p.sources.isEmpty then src.reach else p.reach.wider src.reach
  let srcs := p.sources ++ [src]
  { s with pwr := { p with state := .run, sources := srcs, reach := reach, cause := causeWord p.cause.toNat srcs reach, fwBuild := 0,
                           deepExit := false, entryPending := none, resetPending := none, wakePend := 0, lastExit := 0, lastWake := 0,
                           schedWakeAt := none, pwrReq := true, domains := List.replicate 25 .stopped, windowCharge := 0 } }

/-- A reset source asserts (R532 to R537). -/
def assertReset (src : RSrc) (s : State) : State :=
  let l := src.reach
  let s1 := resetPower src (fwStop l s)
  let s2 := if l = .core then latchTrip 11 false 0xFF s1 else systemStop s1
  if l = .powerOn then powerStop s2 else s2

/-- COMMANDED_RESET (R114): 1 ms after the final reply. -/
def execCommandedReset (s : State) : Result :=
  match s.pwr.resetPending with
  | some (l, t) => .next (assertReset (if l = .core then .cmdCore else .cmdSystem) (elapseTo t s))
  | none => .next s

/-- RST_N, accepted by its filter (R533); ignored in OFF. -/
def execRstN (s : State) : Result := .next (if s.pwr.state = .off then s else assertReset .pin s)

/-- WATCHDOG (R534): not served for WDT_MS while firmware runs. -/
def execWatchdog (s : State) : Result :=
  .next (if awake s then assertReset .watchdog (elapseTo (s.pwr.wdtServed + ms (pNat s 0x0B02)) s) else s)

/-- SAFETY_RESET_REQUEST (R467): the heartbeat absent for a further 1,000 ms with RESET_REQ 1. -/
def execSafetyResetRequest (s : State) : Result :=
  match s.saf.hbAbsent with
  | some t =>
    if setU8 s 10 = 1 ∧ s.saf.phase = 2 ∧ fwRunning s then
      let s1 := elapseTo (t + cd12Least (ms 1000)) s
      .next (assertReset .safetyReq { s1 with saf := { s1.saf with resetReq := true } })
    else .next s
  | none => .next s

/-! Leaving reset (R536, R539). -/

/-- ROM defaults of the option record (R539). -/
def romOptions (e : Ev) (s : State) : State :=
  record e [] { s with cfg := { s.cfg with udpPort := 30940, groupDev := 0xFF }, pwr := { s.pwr with optionsFallback := true, loadCount := 0 } }

/-- The option record of a copy that verifies (R539). -/
def storedOptions (s : State) : State :=
  { s with cfg := { s.cfg with udpPort := s.cfg.optUdpPort, groupDev := s.cfg.optGroupDev },
           pwr := { s.pwr with optionsFallback := false, loadCount := 0 } }

/-- The counter resumes from its calibrated count after DEEP SLEEP: `calib` holds the elapsed instant at which it stopped and ERR_NS
there; the count is right to 31 µs and 20 ppm, by which ERR_NS is increased, and the state is HOLDOVER whatever it was (R128, R175). -/
def resumeCounter (s : State) : State :=
  let (at_, e0) := s.time.calib.getD (s.time.elapsed, 0)
  let slept := s.time.elapsed - at_
  let bound := 31000 + slept * 20 / 1000000
  let drift := max (-(bound : Int)) (min (Config.sleepDrift slept) bound)
  let t := s.time.setUnits ((s.time.units : Int) + (slept + drift) * 2 ^ 32).toNat
  let s1 := { s with time := { t with counting := true, state := .holdover, sourceValid := false, calib := none, slew := 0,
                                      errAt := s.time.elapsed, holdErr0 := min 4294967294 (e0 + bound) } }
  let s2 := if servoOwns s1 then writeRate (num64 s1.time.freq) s1 else s1
  if s.time.state = .holdover then s2 else record .holdoverEnter [] s2

/-- The time base initialised: from 0 s, UNSET (R128), or resumed on exit from DEEP SLEEP, which is recorded (R18, R517, R522). -/
def startCounter (s : State) : State :=
  if s.pwr.deepExit then
    let s0 := resumeCounter s
    let s1 := record .pwrExit (be 1 s.pwr.lastWake) (if s.pwr.retentionLost then record .retentionLost [] s0 else s0)
    record .periodRealigned (be 1 3 ++ be 1 0 ++ be 2 (if s1.grid.everBegun then s.pwr.oldPeriod else Config.noPeriod.toNat) ++ be 2 (indexOf s1 (gridAt s1 s1.time.total))) s1
  else { s with time := { timeReset with elapsed := s.time.elapsed } }

/-- The rest of the system steps: straps, role, time base, baseband, monitor (R420, R478, R536, R538). After DEEP SLEEP the straps are
not sampled again, and a valid retention image keeps the role. -/
def systemSteps (straps : BitVec 7) (s : State) : State :=
  let deep := s.pwr.deepExit
  let st := if deep then s.pwr.straps else straps
  let role := if deep && s.pwr.retention.isSome then s.grp.role else st.toNat / 32 % 4
  monitorReset 1 (gnssStart (startCounter { s with pwr := { s.pwr with straps := st, boot := .inReset .core }, grp := { s.grp with role := role } }))

/-- The power-on steps: RESET_CAUSE cleared and set, the power-cycle count increased (R502, R536). -/
def powerSteps (s : State) : State :=
  let n := min (s.evt.cycles + 1) 0xFFFFFF
  { s with evt := { s.evt with cycles := n, ctrlCycles := n },
           pwr := { s.pwr with cause := causeWord 0 s.pwr.sources s.pwr.reach, boot := .inReset .system,
                               railMv := modAt pwrReset.railMv 8 fun _ => at_ 0 s.pwr.railMv 8, bowSince := none, bowRails := s.pwr.bowRails &&& 0x100#11, bowLow := List.replicate 11 0, bowStopped := false } }

/-- One stage of the sequence: the sources of its level have released. With the clock recovered from the cascade, the core hold point waits until
a port locks (R538). -/
def sequenceStage (straps : BitVec 7) (copyA copyB : Bool) (s : State) : State :=
  match s.pwr.boot with
  | .inReset .powerOn => powerSteps (elapseTo (s.time.elapsed + ms 1) s)
  | .inReset .system =>
    if s.pwr.loadCount = 4 then systemSteps straps (romOptions .optionsFallback s)
    else { s with pwr := { s.pwr with loadCount := s.pwr.loadCount + 1, boot := .loading } }
  | .loading => systemSteps straps (if copyA || copyB then storedOptions s else romOptions .optionsInvalid s)
  | .inReset .core => if clkMode s = 3 ∧ !linkUp s 0 ∧ !linkUp s 1 then s else { s with pwr := { s.pwr with boot := .rom } }
  | .rom => s
  | .running => s

/-- RESET_SEQUENCE (R536, R537, R539): one stage of it, with the straps as they are driven and the copies of the option record that
verify. -/
def execResetSequence (straps : BitVec 7) (copyA copyB : Bool) (s : State) : Result :=
  .next (if s.pwr.state = .run then sequenceStage straps copyA copyB s else s)

/-! Firmware start (R8, R75, R96, R513, R568, R569). -/

/-- An entry whose stored bytes fail their CRC (R75): queries match it by those bytes, but it keeps its own place in the ring (log 187). -/
def corruptEntry (s : State) (e : Nat × List Byte) : State :=
  let b := padTo 64 e.2
  if (findEntry s e.1).isNone || fieldU b 60 4 == crcNat (b.take 60) then s
  else record .journalCorrupt (be 4 e.1) (modEntry e.1 false (fun j =>
    { j with session := fieldU b 0 2, epoch := fieldU b 2 2, tag := fieldU b 4 1, seq := fieldU b 8 4, corrupt := some b }) s)

/-- A table whose body was cut short reads empty: the one copy of a region, or the body of the staged image (R96). -/
def corruptTable (s : State) (id : Nat) : State :=
  if (tabDef id).isNone then s
  else
    let c := s.cfg
    let c1 := { c with stagedTabs := keyDel id c.stagedTabs, mramTabs := keyDel id c.mramTabs, corruptTabs := c.corruptTabs.filter (· != id) ++ [id] }
    record .tableCorrupt (be 2 id)
      { s with cfg := if regionTable id then { c1 with forceTabs := keyDel id c.forceTabs, imageTabs := keyDel id c.imageTabs } else c1 }

/-- The newest record by valid OPER_TIME, then by POWER_CYCLES (R513). -/
def newestByTime (l : List EvRec) : Option EvRec :=
  (l.filter (·.bad.isNone)).foldl (fun a r => match a with
    | none => some r
    | some b => if b.oper < r.oper ∨ (b.oper = r.oper ∧ b.cycles ≤ r.cycles) then some r else some b) none

/-- An event record whose stored bytes fail their CRC (R513). -/
def corruptRecord (s : State) (e : Nat × List Byte) : State :=
  let b := padTo 32 e.2
  let f (r : EvRec) : EvRec := if r.num = e.1 ∧ r.mram.isSome ∧ fieldU b 30 2 ≠ (crc16 (b.take 30)).toNat then { r with bad := some (false, b) } else r
  { s with evt := { s.evt with recs := s.evt.recs.map f } }

/-- Neither copy of the control block verifies (R513). -/
def controlLost (s : State) : State :=
  match newestByTime s.evt.recs with
  | some r => record .evtControlLost (be 4 r.num)
      { s with evt := { s.evt with newest := r.num, slot := (s.evt.slot + evtCapacity - (s.evt.newest + 2 ^ 32 - r.num) % 2 ^ 32 % evtCapacity) % evtCapacity, operNs := r.oper * 10000000, cycles := r.cycles } }
  | none => record .evtControlLost (be 4 s.evt.newest) s

/-- The locked image fails its CRC: the defaults are in force (R569). -/
def imageLost (s : State) : State := { s with cfg := { s.cfg with force := [], forceTabs := [], image := [], imageTabs := [] } }

/-- The signals and blocks of a valid retention image (R521, R522): the THRUSTER_AVAIL mask reads 0. -/
def restoreEntries (saved : Nat) : List MirEntry → List Byte → State → State
  | [], _, s => s
  | e :: es, bs, s =>
    let b := bs.take (entrySize e)
    let s1 := if e.1 then
        let t := applyEntry e b s
        { t with thr := { t.thr with mask := 0 } }
      else if byteAt b 2 = 0 then s
      else { s with sig := { s.sig with kept := keyPut e.2 ⟨BitVec.ofNat 64 (fieldU b 8 8), 2, saved / 1000 - fieldU b 4 4⟩ s.sig.kept } }
    restoreEntries saved es (bs.drop (entrySize e)) s1

/-- The retention list is restored (R519, R522). -/
def restoreRetention (s : State) : State :=
  match s.pwr.deepExit, s.pwr.retention with
  | true, some img => restoreEntries (fieldU img 12 8) (mirEntries (tab s 0x0B20)) (img.drop 256) s
  | _, _ => s

/-- An image may start from where the BOOT strap points (R417, R538). -/
def bootable (s : State) : Bool := decide (s.pwr.straps.toNat % 8 < 4) && (!cascBoot s || s.grp.bootOk)

/-- The controller at firmware start. -/
def startPower (s : State) : State :=
  let d : List Wake := (List.range 25).map fun i => if i < 17 then .stopped else .awake
  { s with pwr := { s.pwr with boot := .running, fwBuild := BitVec.ofNat 16 (0x0100 + Config.fwBuildLow.toNat), fwAt := s.time.elapsed,
                               wdtServed := s.time.elapsed, sources := [], domains := d, bowCount := 0, bowLastUs := 0, oldMode := 0,
                               retentionLost := s.pwr.deepExit && s.pwr.retentionLost, deepExit := false, retention := none },
           grp := { s.grp with bootParts := [], bootOk := false, excluded := false } }

/-- What MRAM's faults cost. -/
def startFaults (f : StartFaults) (s : State) : State :=
  let wide := s.pwr.reach != .core
  let s0 := f.records.foldl corruptRecord s
  let s1 := if f.control then controlLost s0 else s0
  let s2 := if f.image && wide then imageLost s1 else s1
  f.tables.foldl corruptTable (f.journal.foldl corruptEntry s2)

/-- Firmware starts: RESET and MODE_CHANGED recorded, the configuration in force taken by every part (R8, R368, R536). -/
def startFirmware (f : StartFaults) (s : State) : State :=
  let wide := s.pwr.reach != .core
  let s1 := startPower (restoreRetention s)
  let s2 := record .modeChanged (be 1 s.pwr.oldMode ++ be 1 0 ++ be 1 7) (record .reset (be 4 s.pwr.cause.toNat) s1)
  let s3 := startFaults f s2
  let s4 := if wide then bootReads (canInit s3) else serveSlots s3
  let s5 := ownStructs s4
  let s6 := holdRate { s5 with time := { s5.time with ppsOn := true } }
  resolveRole (drainMonitor (rnnRestart s6))

/-- FIRMWARE_START (R8): the verified image starts. -/
def execFirmwareStart (faults : StartFaults) (s : State) : Result :=
  .next (if s.pwr.boot = .rom ∧ s.pwr.state = .run ∧ bootable s then startFirmware faults s else s)

/-! The opcodes (Table 03-14) and the register window (Tables 03-17 to 03-20). -/

/-- RESET (0x0B03, R114). -/
def opReset : OpDef := stepOp 0x0B03 1
  (fun c s => firstOf [sizeIs 1 c, when_ (byteAt c.params 0 != 1 && byteAt c.params 0 != 2) stBadEnum, when_ (s.ctl.mode != 0) stNotStandby])
  fun c s =>
    let l : Level := if byteAt c.params 0 = 1 then .core else .system
    .finish { s with pwr := { s.pwr with resetPending := some (l, s.time.elapsed + ms 1) } } stOk [] none

/-- RESET (R114). -/
def execReset (r : Req) (p : List Byte) (s : State) : Result := .next (packetIn true opReset r p s)

/-- RESET_CAUSE_READ (0x0B04). -/
def opResetCauseRead : OpDef := readOp 0x0B04 1 0 (fun _ _ => 0) fun _ s => be 4 s.pwr.cause.toNat

/-- RESET_CAUSE_READ (R113). -/
def execResetCauseRead (r : Req) (p : List Byte) (s : State) : Result := .next (packetIn true opResetCauseRead r p s)

/-- The RW1C bits of RESET_CAUSE (Table 03-19). -/
def clearCause (m v : BitVec 32) : BitVec 32 := v &&& ~~~(m &&& 0x7F#32)

/-- RESET_CAUSE_CLEAR (0x0B05, R120): the reply shows what is left. -/
def opResetCauseClear : OpDef := stepOp 0x0B05 1 (fun c _ => sizeIs 4 c) fun c s =>
  let v := clearCause (BitVec.ofNat 32 (fieldU c.params 0 4)) s.pwr.cause
  .finish { s with pwr := { s.pwr with cause := v } } stOk (be 4 v.toNat) none

/-- RESET_CAUSE_CLEAR (R120). -/
def execResetCauseClear (r : Req) (p : List Byte) (s : State) : Result := .next (packetIn true opResetCauseClear r p s)

end Sys2Proof.Machine
end

