-- ==== Sys2Proof/Machine/Power.lean ====
section
/-! DEFINITION. Power states, supply supervision, switched domains and their isolation, the power opcodes and the register window
(chapter 18, R118 to R121, R560). -/

namespace Sys2Proof.Machine

/-! Supply supervision (R528 to R531). -/

/-- A rail below its warning level, with its sample (R528). -/
def lowRail (i mv : Nat) (p : PwrState) : PwrState :=
  let low := at_ 0 p.bowLow i
  { p with railMv := modAt p.railMv i fun _ => mv, bowRails := p.bowRails ||| BitVec.ofNat 11 (2 ^ i),
           bowLow := modAt p.bowLow i fun _ => if p.bowRails.getLsbD i then min low mv else mv }

/-- The warning is raised (R528, R529): recorded, speculation suspended, a brake test ended. -/
def raiseBow (s : State) : State :=
  abortTest (abandonChain (record .bowWarning []
    { s with pwr := { s.pwr with bowSince := some s.time.elapsed, bowStopped := false, bowCount := min (s.pwr.bowCount + 1) (2 ^ 32 - 1) } }))

/-- BOW_WARNING (R529): a rail crosses its warning level. -/
def execBowWarning (rail : Fin 11) (mv : Nat) (s : State) : Result :=
  if !bowRail rail.val || s.pwr.state == .off || s.pwr.boot == .inReset .powerOn || decide ((railLevels rail.val).1 ≤ mv) then .next s
  else
    let s1 := { s with pwr := lowRail rail.val mv s.pwr }
    .next (if bowRaised s then s1 else raiseBow s1)

/-- The controlled stop (R530). -/
def bowStop (s : State) : State :=
  let s1 := if s.saf.phase = 2 ∧ !bitOf s.saf.latched 12 then latchTrip 12 true 0xFF s else takeStop s
  record .bowStop [] { s1 with pwr := { s1.pwr with bowStopped := true } }

/-- BOW_STOP (R530): the warning still raised 2,000 µs after its raising. -/
def execBowStop (s : State) : Result :=
  match s.pwr.bowSince with
  | some t => .next (if s.pwr.bowStopped then s else bowStop (elapseTo (t + us 2000) s))
  | none => .next s

/-- BOW_RECOVERED of one rail: RAIL, a zero byte, DURATION_US, LOWEST_MV. -/
def recovered (dur : Nat) (lowest : List Nat) (s : State) (i : Nat) : State :=
  if !bowRail i || !s.pwr.bowRails.getLsbD i then s
  else
    let low := min (at_ 0 s.pwr.bowLow i) (at_ (at_ 0 s.pwr.bowLow i) lowest i)
    record .bowRecovered (be 1 i ++ be 1 0 ++ be 2 (satU 16 dur) ++ be 2 (satU 16 low)) s

/-- BOW_RECOVERED (R530): every rail at its clear level again; `lowest` holds the lowest sample of each rail. A warning that has lasted
more than 2,000 µs has had its controlled stop. With none raised VDD_SAFE and VDD_MTR have crossed theirs. -/
def execBowRecovered (lowest : List Nat) (s : State) : Result :=
  match s.pwr.bowSince with
  | some t =>
    let s0 := if decide (t + us 2000 < s.time.elapsed) && !s.pwr.bowStopped then bowStop s else s
    let dur := (s0.time.elapsed - t) / 1000
    let s1 := (List.range 11).foldl (recovered dur lowest) s0
    let s2 := railsUp (railsHeld s) s1
    .next (serveSlots { s2 with pwr := { s2.pwr with bowSince := none, bowLastUs := min dur (2 ^ 32 - 1), bowLow := List.replicate 11 0,
                                                     bowStopped := false } })
  | none => .next (railsUp (railsHeld s) s)

/-- The warning ends with the reset; VDD_AON takes the counters with it (R502, R531). -/
def railLost (i : Nat) (s : State) : State :=
  let p := { s.pwr with bowSince := none, bowRails := s.pwr.bowRails &&& 0x180#11, bowLow := List.replicate 11 0, bowStopped := false,
                        railMv := modAt s.pwr.railMv i fun _ => (railLevels i).2.2 }
  if i = 2 then { s with pwr := { p with loadCount := 0 }, evt := { s.evt with operNs := s.evt.ctrlOper, cycles := s.evt.ctrlCycles } }
  else { s with pwr := p }

/-- SUPPLY_RESET (R531): VDD_SAFE holds the monitor in reset, VDD_MTR is the island's own; with PWR_REQ low only VDD_AON is supervised. -/
def execSupplyReset (rail : Fin 11) (s : State) : Result :=
  let i := rail.val
  .next (if i = 7 then monitorReset 0 (railBelow 7 (railLevels 7).2.2 s)
    else if i = 8 ∨ (s.pwr.state = .off ∧ i ≠ 2) then s
    else assertReset (if i = 2 then .por else .supply i) (railLost i s))

/-- VDD_SAFE_WARNING (R468, R528): INTERNAL with detail SUPPLY; `held` below the reset threshold, where the monitor is held in reset. -/
def execVddSafeWarning (held : Bool) (s : State) : Result :=
  .next (if held then monitorReset 0 (railBelow 7 (railLevels 7).2.2 s) else internalFault 1 (railBelow 7 (railLevels 7).1 s))

/-! Entering SLEEP, DEEP SLEEP and OFF (R517, R521, R522). -/

/-- A brake channel is released. -/
def anyReleased (s : State) : Bool := s.saf.brakes.any (·.released)

/-- The power state a code names (R114). -/
def stateOf (n : Nat) : PState := if n = 2 then .sleep else if n = 3 then .deepSleep else .off

/-- PWR_STATE_SET (0x0B02, R517). -/
def opPwrStateSet : OpDef := stepOp 0x0B02 1
  (fun c s =>
    let n := byteAt c.params 0
    firstOf [sizeIs 1 c, when_ (!(n == 2 || n == 3 || n == 4)) stBadEnum, when_ (s.ctl.mode != 0) stNotStandby, when_ (anyReleased s) stBrakeReleased])
  fun c s => .finish { s with pwr := { s.pwr with entryPending := some (stateOf (byteAt c.params 0), s.time.elapsed, false) } } stOk [] none

/-- PWR_STATE_SET (R517). -/
def execPwrStateSet (r : Req) (p : List Byte) (s : State) : Result := .next (packetIn true opPwrStateSet r p s)

/-- A retained signal: its latest value and the age it has (R521). -/
def retainedSignal (s : State) (id : Nat) : List Byte :=
  let t := s.time.total / 1000
  let put (v : Value) (at_ : Nat) : List Byte := be 2 id ++ be 1 2 ++ be 1 0 ++ be 4 (satU 32 (t - at_)) ++ be 8 v.toNat
  match latest s id, outGet s id with
  | some v, _ => put v.value ((v.valid.getD v.arr) / 1000)
  | none, some v => if v.q = 0 then be 2 id ++ zeros 14 else put v.value (s.sch.snap / 1000).toNat
  | none, none => be 2 id ++ zeros 14

/-- The retention image (R521): 64 words of header, the entries, a CRC word. The order within the header is the model's (log 67). -/
def retentionImage (s : State) : List Byte :=
  let head := be 4 (configCrc s) ++ be 1 (b2n s.cfg.locked) ++ be 1 s.grp.role ++ be 1 (deviceNo s) ++ be 1 0 ++ be 2 s.grp.epoch ++ be 2 0 ++
    be 8 s.time.total ++ be 8 s.time.elapsed
  let one (e : MirEntry) : List Byte := if e.1 then entryBytes s e else retainedSignal s e.2
  let b := padTo 256 head ++ (mirEntries (tab s 0x0B20)).flatMap one
  b ++ be 4 (crcNat b)

/-- SLEEP: tiles, solver and shared SRAM lost; what runs on them stops, a parison chain abandoned; what waits for its snapshot comes into force or is
gone as at a core reset (R368); ports off, the device leaves the group (Tables 14-10, 18-1). -/
def enterSleep (s : State) : State :=
  let s1 := acqStop (applyAll (dropOwnership (obsStop (fusionStop (settleEffects (abandonChain s))))))
  { s1 with
    slv := { s1.slv with structs := [], retained := [], baRun := none },
    ctl := ctlReset, thr := thrReset, sig := sigReset, grid := gridStop s1.grid,
    sch := { schReset with counts := s1.sch.counts, retired := s1.sch.retired, tilesShown := s1.sch.tilesShown, cmdGen := s1.sch.cmdGen, logBlock := s1.sch.logBlock },
    grp := { s1.grp with links := [false, false], txq := [], badCrcAt := [[], []], peers := List.replicate 4 peerReset, ho := none },
    pwr := { s1.pwr with state := .sleep, domains := List.replicate 25 .stopped } }

/-- DEEP SLEEP: the image is saved, and what the system level resets is lost; the counter stops, calibrated (R128, R522). -/
def enterDeep (s : State) : State :=
  let s1 := copyEphemeris s
  let s2 := { s1 with pwr := { s1.pwr with retention := some (retentionImage s1), oldPeriod := s1.grid.period, fwBuild := 0 } }
  let t := { s2.time with counting := false, calib := some (s2.time.elapsed, if errNs s2 = 0xFFFFFFFF then errNs s2 else ownErr s2), steps := [], txQueue := [], ppsOn := false }
  let s3 := systemStop (fwStop .system s2)
  { s3 with time := t, pwr := { s3.pwr with state := .deepSleep, domains := List.replicate 25 .stopped } }

/-- OFF: PWR_REQ falls once entry is complete (R520). -/
def enterOff (s : State) : State :=
  let s1 := systemStop (fwStop .powerOn s)
  emit (.pin "PWR_REQ" false)
    { s1 with pwr := { s1.pwr with state := .off, boot := .inReset .powerOn, fwBuild := 0, pwrReq := false, domains := List.replicate 25 .stopped } }

/-- A power state is entered: PWR_ENTER reaches MRAM first. -/
def enterPower (st : PState) (sched : Bool) (s : State) : State :=
  let s1 := flushEvents (record .pwrEnter [] s)
  let wakeAt := if sched then some (s1.time.elapsed + ms (1000 * pNat s1 0x0B06)) else none
  let s2 := { s1 with pwr := { s1.pwr with entryPending := none, enteredAt := s1.time.elapsed, schedWakeAt := wakeAt } }
  match st with
  | .sleep => enterSleep s2
  | .deepSleep => enterDeep s2
  | .off => enterOff s2
  | .run => s2
  | .idle => s2

/-- The three things entry waits for hold, and the control engine is in STANDBY still (R368, R517). -/
def entryReady (s : State) : Bool := s.host.cmds.isEmpty && s.evt.waiting == 0 && !bowRaised s && inStandby s

/-- POWER_STATE_ENTRY (R517): 1 ms after the reply, or at the scheduled instant, and within 1 s. -/
def execPowerStateEntry (s : State) : Result :=
  match s.pwr.entryPending with
  | some (st, t, sched) =>
    let s1 := elapseTo (if sched then t else t + ms 1) s
    .next (if awake s && entryReady s1 && decide (s1.time.elapsed ≤ t + ms 1000) then enterPower st sched s1 else s)
  | none => .next s

/-- PWR_ENTRY_ABANDONED (R517). -/
def execPwrEntryAbandoned (s : State) : Result :=
  match s.pwr.entryPending with
  | some (_, t, _) =>
    let s1 := elapseTo (t + ms 1000) s
    .next (record .pwrEntryAbandoned [] { s1 with pwr := { s1.pwr with entryPending := none, wakePend := 0 } })
  | none => .next s

/-- PWR_SCHED_ENTER (R517, R541): at PWR_SCHED_ENTER_S of the day, armed while the time is valid. -/
def execPwrSchedEnter (s : State) : Result :=
  let st := pNat s 0x0B04
  if !awake s || st = 0 || !timeValid s || s.pwr.entryPending.isSome then .next s
  else
    let day := 86400 * 10 ^ 9
    let s1 := countTo (s.time.total + (pNat s 0x0B05 * 10 ^ 9 + day - s.time.total % day) % day) s
    .next (if s1.ctl.mode ≠ 0 ∨ anyReleased s1 then record .pwrSchedSkipped [] s1
      else { s1 with pwr := { s1.pwr with entryPending := some (stateOf st, s1.time.elapsed, true) } })

/-! Wake sources and exits (R518, R519). -/

/-- A source wakes from a state, or is kept while the entry to that state is pending; the first is the one reported. -/
def wakeFrom (src : Nat) (states : List PState) (s : State) : State :=
  let named := match s.pwr.entryPending with
    | some (st, _, _) => states.contains st
    | none => false
  if (states.contains s.pwr.state || named) && s.pwr.wakePend == 0 then { s with pwr := { s.pwr with wakePend := src } } else s

/-- WAKE_PIN (R518): high for 1 ms. -/
def execWakePin (s : State) : Result := .next (wakeFrom 1 [.sleep, .deepSleep, .off] s)

/-- The doorbell wakes from SLEEP and DEEP SLEEP; in RUN or IDLE it has no effect, a pending entry notwithstanding (R121). -/
def ringWake (s : State) : State :=
  if s.pwr.state = .sleep ∨ s.pwr.state = .deepSleep then wakeFrom 2 [.sleep, .deepSleep] s else s

/-- DOORBELL_WAKE (R121). -/
def execDoorbellWake (s : State) : Result := .next (ringWake s)

/-- WAKE_FRAME (R518): a UDP datagram to HOST_UDP_PORT whose first two bytes are 0x564B, on a port set in ETH_WAKE. -/
def execWakeFrame (portB : Bool) (data : List Byte) (s : State) : Result :=
  .next (if bitOf (pNat s 0x0B03) (b2n portB) && fieldU data 0 2 == 0x564B && decide (2 ≤ data.length) && !portDown (.eth portB 0 0) s
    then wakeFrom 3 [.sleep] s else s)

/-- PWR_SCHED_WAKE (R518, R541): counted on CD0 from a scheduled entry. -/
def execPwrSchedWake (s : State) : Result :=
  match s.pwr.schedWakeAt with
  | some t => .next (if s.pwr.state = .sleep ∨ s.pwr.state = .deepSleep then wakeFrom 4 [.sleep, .deepSleep] (elapseTo t s) else s)
  | none => .next s

/-- Back from SLEEP (Table 18-3): sessions' idle timers have not counted; GNSS makes a hot start; modules are read again. -/
def exitSleep (s : State) : State :=
  let gone := s.time.elapsed - s.pwr.enteredAt
  let shift (x : Session) : Session := { x with lastAt := x.lastAt + gone }
  let d : List Wake := (List.range 25).map fun i => if i = 17 then .awake else .stopped
  let s1 := { s with host := { s.host with sessions := s.host.sessions.map shift },
                     pwr := { s.pwr with state := .run, domains := d, fwAt := s.time.elapsed, wdtServed := s.time.elapsed, lastExit := 1,
                                         lastWake := s.pwr.wakePend, wakePend := 0, schedWakeAt := none } }
  let g := gnssStart s1
  let s2 := { g with gnss := { g.gnss with eph := s.gnss.eph, alm := s.gnss.alm, startCase := 2, replays := s.gnss.replays, replayHeld := s.gnss.replayHeld } }
  record .pwrExit (be 1 s.pwr.wakePend) (resolveRole (rnnRestart (ownStructs (bootReads (canWake s2)))))

/-- Back from DEEP SLEEP: the levels of Table 18-9 run; the retention image is valid when its CRC and its CONFIG_CRC hold (R522). -/
def exitDeep (imageOk : Bool) (s : State) : State :=
  let img := s.pwr.retention.getD []
  let ok := imageOk && s.pwr.retention.isSome && fieldU img 0 4 == crcNat (crcString s.cfg.image s.cfg.imageTabs)
  let p := { s.pwr with state := .run, deepExit := true, reach := .system, boot := .inReset .system, lastExit := 2, lastWake := s.pwr.wakePend,
                        wakePend := 0, schedWakeAt := none }
  if ok then { s with pwr := p, cfg := { s.cfg with locked := byteAt img 4 == 1 }, grp := { s.grp with role := byteAt img 5 } }
  else { s with pwr := { p with retention := none, retentionLost := true } }

/-- Back from OFF: a power-on reset (R519, R520). -/
def exitOff (s : State) : State :=
  let s1 := assertReset .por (emit (.pin "PWR_REQ" true) s)
  record .pwrExit (be 1 s.pwr.wakePend) { s1 with pwr := { s1.pwr with lastExit := 3, lastWake := s.pwr.wakePend } }

/-- POWER_STATE_EXIT (R519): once a wake source has come; `imageOk` says that the CRC of the retention image holds. -/
def execPowerStateExit (imageOk : Bool) (s : State) : Result :=
  if s.pwr.wakePend = 0 then .next s
  else
    match s.pwr.state with
    | .sleep => .next (exitSleep s)
    | .deepSleep => .next (exitDeep imageOk s)
    | .off => .next (exitOff s)
    | .run => .next s
    | .idle => .next s

/-! The wake governor's rows (R34, R516, R523, R524). -/

/-- DOMAIN_WAKE_REQUEST (R524). -/
def execDomainWakeRequest (domain : Fin 25) (cls : Fin 4) (s : State) : Result :=
  .next (if awake s then requestWake cls.val s domain.val else s)

/-- WAKE_GOVERNOR_WINDOW (R524): the next window begins. -/
def execWakeGovernorWindow (s : State) : Result :=
  if !awake s then .next s
  else .next (openWindow (if s.time.counting then countTo ((windowNow s + 1) * 100000) s else s))

/-- DOMAIN_READY (R523): the wake latency ends. -/
def execDomainReady (domain : Fin 25) (s : State) : Result :=
  match domainOf s domain.val with
  | .waking t =>
    let s1 := elapseTo (t + us (domainWake domain.val).1) s
    .next { s1 with pwr := { s1.pwr with domains := modAt s1.pwr.domains domain.val fun _ => .awake } }
  | _ => .next s

/-- A tick of the sequencing clock at or before an instant of the counter (R34; ticks counted from the counter's zero, log 68). -/
def seqTick (t : Nat) : Nat := (t * 1048576 / 10 ^ 9 * 10 ^ 9 + 1048575) / 1048576

/-- PERIOD_WAKE_REQUEST (R34, R524). -/
def execPeriodWakeRequest (s : State) : Result :=
  if !awake s || !s.time.counting then .next s
  else
    let t := seqTick ((nextBoundary s).1.toNat - us (pNat s 0x0106))
    .next ((wakeOrder.take 17).foldl (requestWake 2) (countTo t s))

/-- IDLE_ENTRY (R35, R516): every domain that stops in RUN has stopped. -/
def execIdleEntry (s : State) : Result :=
  .next (if fwRunning s && s.pwr.state == .run && (s.pwr.domains.take 17).all (· == .stopped) then { s with pwr := { s.pwr with state := .idle } } else s)

/-! Isolation (R527). -/

/-- What isolation of a whole domain leads to. -/
def isolate (cd : Nat) (s0 : State) : State :=
  let s := { s0 with pwr := { s0.pwr with isolated := s0.pwr.isolated ||| BitVec.ofNat 14 (2 ^ cd) } }
  if cd = 2 then retireTile true 1 (retireTile true 0 s)
  else if cd = 4 ∨ cd = 5 then (List.range 6).foldl (fun s b => bandFault b s) s
  else if cd = 8 then setLink 1 false (setLink 0 false s)
  else if cd = 0 ∨ cd = 1 ∨ cd = 3 ∨ cd = 9 ∨ cd = 10 then
    if s.sch.placeFail then s else placementStop { s with sch := { s.sch with placeFail := true } }
  else s

/-- The domain named by the monitor: one tile of CD1 or CD2, which is retired (R394), or the whole domain. -/
def isolateNamed (cd : Nat) (tile : Option (Fin 14)) (s : State) : State :=
  match tile with
  | some t => if cd = 1 ∧ t.val < 12 then retireTile false t.val s else if cd = 2 ∧ 12 ≤ t.val then retireTile true (t.val - 12) s else isolate cd s
  | none => isolate cd s

/-- CLOCK_SKEW (R527); CD12 and CD13 are judged elsewhere. -/
def execClockSkew (cd : Fin 14) (tile : Option (Fin 14)) (s : State) : Result :=
  if 12 ≤ cd.val ∨ !awake s then .next s
  else
    let s1 := record .clockSkew (be 1 cd.val) { s with pwr := { s.pwr with skewActive := s.pwr.skewActive ||| BitVec.ofNat 14 (2 ^ cd.val) } }
    .next (isolateNamed cd.val tile s1)

/-- THERMAL_GRADIENT (R527): the hottest and the coolest sensor, in tenths of a degree, have been above 25 °C apart for 10 ms. -/
def execThermalGradient (cd : Fin 14) (tile : Option (Fin 14)) (hot cold : BitVec 16) (s : State) : Result :=
  if 12 ≤ cd.val ∨ !awake s ∨ hot.toInt - cold.toInt ≤ 250 then .next s
  else
    let p := { s.pwr with thermalDomain := some cd.val, tempMax := hot.toInt, tempMin := cold.toInt }
    .next (isolateNamed cd.val tile (record .thermalGradient (be 1 cd.val) { s with pwr := p }))

/-- DOMAIN_RETURN (R527): a PLACEMENT_FAIL that isolation alone caused ends with it. -/
def execDomainReturn (cd : Fin 14) (s : State) : Result :=
  let keep := ~~~ BitVec.ofNat 14 (2 ^ cd.val)
  let p := { s.pwr with isolated := s.pwr.isolated &&& keep, skewActive := s.pwr.skewActive &&& keep,
                        thermalDomain := s.pwr.thermalDomain.filter (· != cd.val) }
  let s1 := { s with pwr := p }
  .next (if p.isolated &&& 0x60B#14 = 0 ∧ s.pwr.isolated &&& 0x60B#14 ≠ 0 ∧ !tooFewTiles s then { s1 with sch := { s1.sch with placeFail := false } } else s1)

/-- JUNCTION_HOT (R560): TEMP_MAX above 110 °C for 10 ms, once per episode. -/
def execJunctionHot (tenths : BitVec 16) (s : State) : Result :=
  let t := tenths.toInt
  let s1 := { s with pwr := { s.pwr with tempMax := t, hotEpisode := true } }
  .next (if t ≤ 1100 ∨ !fwRunning s then s else if s.pwr.hotEpisode then { s with pwr := { s.pwr with tempMax := t } } else record .junctionHot (be 2 tenths.toNat) s1)

/-- JUNCTION_HOT_END (R560): at or below 105 °C for 1 s. -/
def execJunctionHotEnd (tenths : BitVec 16) (s : State) : Result :=
  .next (if 1050 < tenths.toInt ∨ !s.pwr.hotEpisode then s else { s with pwr := { s.pwr with tempMax := tenths.toInt, hotEpisode := false } })

/-! PWR_STATUS (Table 18-11) and the window (Tables 03-17 to 03-20). -/

/-- POWER_STATE codes (Table 18-1). -/
def PState.code : PState → Nat
  | .run => 0
  | .idle => 1
  | .sleep => 2
  | .deepSleep => 3
  | .off => 4

/-- The power status block. -/
def powerBlock (s : State) : List Byte :=
  let p := s.pwr
  be 1 p.state.code ++
    be 1 (flagsWord [bowRaised s, p.optionsFallback, p.retentionLost, pNat s 0x0B04 != 0 && timeValid s, p.skewActive != 0, p.thermalDomain.isSome,
      p.entryPending.isSome]) ++
    be 2 p.bowRails.toNat ++ be 2 p.isolated.toNat ++ be 1 p.lastExit ++ be 1 p.lastWake ++ be 4 p.wakeQueued ++ be 4 p.wakeStallMax ++
    be 4 p.bowCount ++ be 4 p.bowLastUs ++ p.railMv.flatMap (be 2) ++ be 2 (ofSigned 16 p.tempMax) ++ be 2 (ofSigned 16 p.tempMin) ++ be 2 0

/-- PWR_STATUS (0x0B01). -/
def opPwrStatus : OpDef := readOp 0x0B01 1 0 (fun _ _ => 0) fun _ s => powerBlock s

/-- PWR_STATUS (R540). -/
def execPwrStatus (r : Req) (p : List Byte) (s : State) : Result := .next (packetIn true opPwrStatus r p s)

/-- HOST_STATUS (Table 03-18): bits [7:3] and [29:24] hold their reset values while firmware does not run. -/
def hostStatus (s : State) : Nat :=
  let fw := fwRunning s
  let low := [s.host.inOverrun, s.host.outOverrun, fw] ++
    (if fw then [s.pwr.optionsFallback, bowRaised s, s.cfg.locked, !anyReleased s, !safConfirmed s] else [false, false, false, true, true])
  let high := s.ctl.mode * 2 ^ 24 + s.grp.role * 2 ^ 27 + (if s.cfg.locked && !isDet s then 2 ^ 29 else 0)
  flagsWord low + s.pwr.state.code * 2 ^ 8 + s.host.spiOut.length * 2 ^ 16 + s.host.spiIn.length * 2 ^ 22 + if fw then high else 0

/-! The register window (R118 to R121). -/

/-- The port answers in every power state but OFF (R118). -/
def windowUp (s : State) : Bool := s.pwr.state != .off

/-- The registers of Table 03-17 in address order, each big-endian (R5, R118). -/
def windowBytes (s : State) : List Byte :=
  be 4 0x56940A00 ++ be 4 (revision s) ++ be 4 (hostStatus s) ++ be 4 s.pwr.cause.toNat ++ be 4 (2 * b2n s.host.irqEn)

/-- What READ_WINDOW returns from an address on, one byte per address; zero at an address not listed, and nothing in OFF (R118). -/
def readWindow (s : State) (addr n : Nat) : List Byte :=
  if windowUp s then (List.range n).map fun i => (windowBytes s).getD (addr + i) 0 else []

/-- A byte written at an address of the window (R118 to R121); read-only fields and addresses not listed ignore it. -/
def writeByte (addr : Nat) (v : Byte) (s : State) : State :=
  if addr = 0x0B then
    { s with host := { s.host with inOverrun := s.host.inOverrun && !v.getLsbD 0, outOverrun := s.host.outOverrun && !v.getLsbD 1 } }
  else if addr = 0x0F then { s with pwr := { s.pwr with cause := clearCause (v.setWidth 32) s.pwr.cause } }
  else if addr = 0x13 then
    let s1 := { s with host := { s.host with irqEn := v.getLsbD 1 } }
    if v.getLsbD 0 then ringWake s1 else s1
  else s

/-- WRITE_WINDOW from an address on: the address advances by one byte per data byte (R118). -/
def writeWindow : Nat → List Byte → State → State
  | _, [], s => s
  | addr, v :: vs, s => writeWindow (addr + 1) vs (writeByte addr v s)

/-- HOST_STATUS_CLEAR (R119): a write of HOST_STATUS, whose 1 clears INBOUND_OVERRUN or OUTBOUND_OVERRUN. -/
def execHostStatusClear (value : BitVec 32) (s : State) : Result := .next (if windowUp s then writeWindow 0x08 (be 4 value.toNat) s else s)

/-- RESET_CAUSE_WRITE (R120). -/
def execResetCauseWrite (value : BitVec 32) (s : State) : Result := .next (if windowUp s then writeWindow 0x0C (be 4 value.toNat) s else s)

/-- DOORBELL_IRQ_EN (R121). -/
def execDoorbellIrqEn (on : Bool) (s : State) : Result := .next (if windowUp s then writeWindow 0x10 (be 4 (2 * b2n on)) s else s)

/-- WINDOW_WRITE_OTHER (R118): a write that begins at any address of the window; what it meets of read-only fields and addresses not listed
ignores it. -/
def execWindowWriteOther (addr : Byte) (data : List Byte) (s : State) : Result :=
  .next (if windowUp s then writeWindow addr.toNat data s else s)

end Sys2Proof.Machine
end

