-- ==== Sys2Proof/Machine/Balls.lean ====
section
/-! DEFINITION. The balls of Table 19-7 as the state leaves them (R551): a view of State, read by no command (log 220). -/

namespace Sys2Proof.Machine

/-- The balls of Table 19-7, and any output that it does not list. -/
inductive Ball where
  | brake (c : Nat)
  | canTx (bus : Nat)
  | serTx (line : Nat)
  | permitOut (k : Nat)
  | activeOut
  | feRefClk
  | acqMclk (k : Nat)
  | ppsOut
  | pwrReq
  | mtrMclk
  | mtrPulse (f : Nat)
  | mtrSvcTx
  | hostMiso
  | other
  deriving DecidableEq, Repr

/-- What stands on a ball. -/
inductive BallState where
  | low
  | high
  | floating
  | clock (hz : Nat)
  | live
  deriving DecidableEq, Repr

/-- A system or power-on reset stands, up to the end of its system steps. -/
def wideReset (s : State) : Bool :=
  match s.pwr.boot with
  | .inReset .core => false
  | .inReset _ => true
  | .loading => true
  | .rom => false
  | .running => false

/-- SLEEP and deeper, where the CAN controllers are off (Table 07-12). -/
def asleep (s : State) : Bool := s.pwr.state == .sleep || s.pwr.state == .deepSleep || s.pwr.state == .off

/-- A level that is driven. -/
def drivenTo (b : Bool) : BallState := if b then .high else .low

/-- A clock output at a frequency, low where it does not run. -/
def clockBall (hz : Nat) : BallState := if hz = 0 then .low else .clock hz

/-- A ball's state (R551, Table 19-7); both switches of a brake channel follow its release (R452); serial outputs are held idle (R224), CAN outputs recessive in resets and sleep (R234). -/
def ballState (s : State) (b : Ball) : BallState :=
  let off := s.pwr.state == .off
  match b with
  | .pwrReq => if s.pwr.pwrReq then .floating else .low
  | .mtrMclk => if s.mtr.on then .live else .low
  | .mtrPulse _ => if s.mtr.on then .live else .low
  | .mtrSvcTx => if s.mtr.on then .live else .low
  | .other => if off || wideReset s then .floating else .live
  | .brake c => if off || s.saf.phase == 0 then .floating else drivenTo ((s.saf.brakes[c]?.map (·.released)).getD false)
  | .permitOut k => if !off && !wideReset s && s.grp.permitOutLow.getD k false then .low else .floating
  | .canTx _ => if off then .floating else if wideReset s || asleep s then .high else .live
  | .serTx _ => if off then .floating else .high
  | .activeOut => if off then .floating else drivenTo (!wideReset s && s.grp.activeOut)
  | .feRefClk => if off then .floating else clockBall s.gnss.refClk
  | .acqMclk k => if off then .floating else clockBall (s.acq.mclk.getD k 0)
  | .ppsOut => if off then .floating else if s.time.ppsOn then .live else .low
  | .hostMiso => if off || wideReset s then .floating else .live

end Sys2Proof.Machine
end

