-- ==== Sys2Proof/Machine/Checks.lean ====
section
/-! DEFINITION. What TABLE_WRITE checks of a body (R95 and each table's own rule) and what CONFIG_LOCK checks of the staged
configuration as a whole (R94 and the rules it gathers). -/

namespace Sys2Proof.Machine

/-! The tables of chapters 08, 09 and 18 (R237, R240, R263, R264, R292, R521). -/

/-- ASCII, zero-padded. -/
def asciiOk (b : List Byte) : Bool := b.all (fun c => decide (c.toNat < 128)) && allZero (b.dropWhile (· != 0))

/-- 0x0200 and 0x0204, entries of 32 bytes for IDs `lo` to `hi` (R237). -/
def defsTableStatus (lo hi : Nat) (b : List Byte) : Nat :=
  let es := records 32 b
  firstOf [when_ (!wholeRecs 32 6144 b) stInconsistent,
    recsOk 32 (fun e => decide (lo ≤ fieldU e 0 2 ∧ fieldU e 0 2 ≤ hi ∧ byteAt e 2 ≤ 12) && byteAt e 3 == 0 && asciiOk (slice e 4 24) &&
      allZero (slice e 28 4)) b,
    when_ (!distinct (es.map fun e => fieldU e 0 2)) stInconsistent]

/-- An angle of MOUNT: −π to π. -/
def mountOk (x : F32) : Bool := fle (fneg fPi) x && fle x fPi

/-- A FUSION_INPUTS record within its ranges (Table 08-4). -/
def inputRecOk (r : List Byte) : Bool :=
  let sig := fieldU r 2 2
  decide (byteAt r 0 ≤ 63 ∧ byteAt r 1 ≤ 19 ∧ byteAt r 6 ≤ 3) && (decide (byteAt r 7 ≤ 7) || byteAt r 7 == 0xFF) &&
    decide (fieldU r 8 4 ≤ 1000000 ∧ 1 ≤ fieldU r 12 4 ∧ fieldU r 12 4 ≤ 600000) && fpos (fieldF32 r 16) &&
    [20, 24, 28].all (fun o => mountOk (fieldF32 r o)) && (byteAt r 1 != 17 || decide (0x0188 ≤ sig ∧ sig ≤ 0x018F)) &&
    (byteAt r 1 != 18 || [0x0240, 0x0248, 0x0250].contains sig)

/-- 0x0201, FUSION_INPUTS (R240). -/
def inputsTableStatus (b : List Byte) : Nat := firstOf [when_ (b.length != 2048) stInconsistent, recsOk 32 inputRecOk b]

/-- Finite numbers throughout, or NaN throughout. -/
def finiteOrNan (l : List F32) : Bool := l.all ffinite || l.all isNan32

/-- A REFERENCES record within its ranges (Table 08-7). -/
def refRecOk (r : List Byte) : Bool :=
  let k := byteAt r 1
  decide (1 ≤ byteAt r 0 ∧ byteAt r 0 ≤ 12 ∧ k ≤ 5 ∧ byteAt r 2 ≤ 15) && (if k = 1 then decide (byteAt r 3 ≤ 2) else byteAt r 3 == 0) &&
    [4, 5, 6].all (fun o => decide (byteAt r o ≤ 63) || byteAt r o == 0xFF) && byteAt r 7 == 0 && finiteOrNan (fields32 r 8 3) &&
    fin32 (rat 0 1) (rat 100 1) (fieldF32 r 20) && (k != 3 || (finiteOrNan (fields32 r 24 2) && ffinite (fieldF32 r 32))) &&
    (k != 4 || (fin32 (rat 1 1) (rat 2000 1) (fieldF32 r 36) && fle 0 (fieldF32 r 40) && fle (fieldF32 r 40) fPi)) && allZero (slice r 44 4)

/-- 0x0202, REFERENCES (R263). -/
def refsTableStatus (b : List Byte) : Nat := firstOf [when_ (b.length != 576) stInconsistent, recsOk 48 refRecOk b]

/-- 0x0203, VOTE_GROUPS (R264). -/
def groupsTableStatus (b : List Byte) : Nat :=
  firstOf [when_ (b.length != 128) stInconsistent,
    recsOk 16 (fun r => decide (byteAt r 0 ≤ 7 ∧ byteAt r 1 ≤ 1) && allZero (slice r 2 2) && fpos (fieldF32 r 4)) b]

/-- 0x0362 to 0x0369, a segment of the weight image (R292). -/
def segmentStatus (b : List Byte) : Nat := when_ (b.isEmpty || decide (368628 < b.length)) stInconsistent

/-- 0x0B20, RETENTION (R521). -/
def retentionTableStatus (b : List Byte) : Nat :=
  let es := mirEntries b
  let bad (e : MirEntry) : Bool :=
    if e.1 then e.2 != 0x0002 && e.2 != 0x0011
    else decide (¬ ((0x0300 ≤ e.2 ∧ e.2 ≤ 0x04FF) ∨ (0x1000 ≤ e.2 ∧ e.2 ≤ 0x3FFF)))
  firstOf [when_ (!wholeRecs 4 1024 b) stInconsistent,
    when_ ((records 4 b).any fun r => decide (1 < byteAt r 0) || byteAt r 1 != 0) stOutOfRange, when_ (es.any bad) stOutOfRange,
    when_ (decide es.Nodup == false) stInconsistent]

/-! Step 2 (R95). -/

/-- The check of a table's own rule; `v` is the state under the configuration the body joins. -/
def ownStatus (v : State) (id : Nat) (b : List Byte) : Nat :=
  if id = 0x0200 then defsTableStatus 0x1000 0x27FF b
  else if id = 0x0201 then inputsTableStatus b
  else if id = 0x0202 then refsTableStatus b
  else if id = 0x0203 then groupsTableStatus b
  else if id = 0x0204 then defsTableStatus 0x2800 0x3FFF b
  else if id = 0x0260 then acqTableStatus (pNat v 0x0250) (tpNs v) b
  else if 0x0270 ≤ id ∧ id ≤ 0x027F then coefTableStatus b
  else if id = 0x0290 then canTableStatus b
  else if id = 0x0291 ∨ id = 0x0701 then driveTableStatus b
  else if id = 0x0292 then canMapStatus (driveBuses v) b
  else if id = 0x0293 then serialTableStatus b
  else if id = 0x0294 then sentenceTableStatus b
  else if id = 0x0360 then obsModelStatus b
  else if id = 0x0361 then rnnHeaderStatus b
  else if 0x0362 ≤ id ∧ id ≤ 0x0369 then segmentStatus b
  else if id = 0x036A then rnnFeatureStatus b
  else if id = 0x036B then rnnOutputStatus b
  else if id = 0x036C then xchkStatus b
  else if id = 0x0390 then limitsTableStatus b
  else if id = 0x0391 then gainsTableStatus b
  else if id = 0x0392 then windTableStatus b
  else if id = 0x0393 then trackTableStatus v b
  else if id = 0x0394 then targetTableStatus v b
  else if id = 0x0395 then berthsTableStatus v b
  else if id = 0x03A0 then thrustersTableStatus b
  else if id = 0x03A1 then steerTableStatus b
  else if id = 0x0400 then frontEndTableStatus b
  else if id = 0x0700 then mirrorTableStatus b
  else retentionTableStatus b

/-- The tables whose records carry their index in their first byte: record length and the first record's index. -/
def indexed (id : Nat) : Option (Nat × Nat) :=
  keyGet id [(0x0201, (32, 0)), (0x0202, (48, 1)), (0x0203, (16, 0)), (0x0260, (48, 0)), (0x0290, (32, 0)), (0x0291, (8, 0)), (0x0293, (8, 0)),
    (0x036C, (16, 0)), (0x03A0, (64, 0)), (0x03A1, (544, 0)), (0x0701, (8, 0))]

/-- Every record stands at its index (R95). -/
def indexOk (id : Nat) (b : List Byte) : Bool :=
  match indexed id with
  | some (n, first) => ((records n b).mapIdx fun i r => byteAt r 0 == first + i).all (· == true)
  | none => true

/-- The producers of configurable signals with a table in place. -/
def producersWith (v : State) (id : Nat) (b : List Byte) : Producers :=
  producers { v with cfg := { v.cfg with forceTabs := putTab id b v.cfg.forceTabs } }

/-- Every configurable signal is named once and lies in their range (R236). -/
def producersOk (p : Producers) : Bool :=
  let ids := p.named.map (·.1)
  ids.all (fun i => decide (0x1000 ≤ i)) && distinct ids

/-- A table that names configurable signals. -/
def producerTable (id : Nat) : Bool := [0x0260, 0x0290, 0x0292, 0x0293, 0x0294].contains id

/-- Step 2 of TABLE_WRITE for a body under the configuration it joins. -/
def bodyStatus (v : State) (id : Nat) (b : List Byte) : Nat :=
  firstOf [ownStatus v id b, when_ (!indexOk id b) stInconsistent,
    when_ (producerTable id && !producersOk (producersWith v id b)) stInconsistent]

/-! CONFIG_LOCK (R94); `v` is the state with the staged configuration in force. -/

/-- Table 01-1. -/
def periodLockOk (v : State) : Bool :=
  let vp := pNat v 0x0101
  let d := pNat v 0x0102
  vp % d == 0 && decide (500 * d ≤ vp) && decide (pNat v 0x0103 < vp * 1000) && decide (pNat v 0x0104 ≤ d)

/-- R136, R177, R323. -/
def gnssLockOk (v : State) : Bool :=
  let on (a : Nat) : Bool := bitOf (pNat v 0x0402) (2 * a)
  let rate := pNat v 0x0403
  !(pNat v 0x0511 == 1 && pNat v 0x0514 == 0) && on (pNat v 0x0420) &&
    (List.range 3).all (fun q => !bitOf (pNat v 0x0430) q || (on (pairAnts q).1 && on (pairAnts q).2)) &&
    !(pNat v 0x0501 == 1 && decide (20 < rate) && decide (1000000 < rate * pNat v 0x0101)) && decide (pNat v 0x0610 * rate < 1000000)

/-- R204, R220, R221, R425, R443. -/
def busLockOk (v : State) : Bool :=
  decide (pNat v 0x02A1 < pNat v 0x02A2) && decide (3 * tpNs v ≤ pNat v 0x02A4 * 1000000) &&
    driveMapLockOk (tab v 0x0290) (tab v 0x0291) (tpNs v) && driveMapLockOk (tab v 0x0290) (tab v 0x0701) (tpNs v)

/-- The used fusion inputs. -/
def usedInputs (v : State) : List Nat := (List.range 64).filter fun i => finRole v i != 0

/-- R241. -/
def inputsLockOk (v : State) : Bool :=
  distinct ((usedInputs v).map (finSig v)) && (usedInputs v).all fun i =>
    let r := finRec v i
    let role := finRole v i
    (sigType v (finSig v i)).isSome && (role == 17 || fieldU r 4 2 == 0xFFFF || (sigType v (fieldU r 4 2)).isSome) && (role == 17 || byteAt r 6 == 0 || fieldU r 4 2 != 0xFFFF) && !(role == 17 && byteAt r 6 == 2) &&
      (role != 18 || bitOf (pNat v 0x0430) ((finSig v i - 0x0240) / 8))

/-- A descriptor's lever arm stands behind a reference whose own is NaN (R233). -/
def armKnown (v : State) (r : Nat) : Bool :=
  let i := refIn v r 0
  let slot := if i < 64 then byteAt (finRec v i) 7 else 0xFF
  !isNan32 (fieldF32 (refRec v r) 8) ||
    (decide (slot ≤ 7) && slotUsed v slot && (fields32 (padTo 256 (slotOf v slot).desc) 56 3).all ffinite)

/-- A reference's inputs have the roles of its kind. -/
def refRolesOk (v : State) (r : Nat) : Bool :=
  let role (k : Nat) : Nat := if refIn v r k < 64 then finRole v (refIn v r k) else 0
  match refKind v r with
  | 3 => role 0 == 12 && role 1 == 13 && role 2 == 14
  | 4 => role 0 == 17
  | 5 => role 0 == 15 && role 1 == 16
  | _ => true

/-- R263. -/
def refsLockOk (v : State) : Bool :=
  let rs := ((List.range 12).map (· + 1)).filter fun r => refKind v r != 0
  let tight := rs.filter fun r => refKind v r == 2
  rs.all (fun r => refRolesOk v r && armKnown v r && (decide (2 < refKind v r) || byteAt (refRec v r) 2 == 0)) &&
    distinct (rs.flatMap (refInputs v)) && (tight.isEmpty || pNat v 0x0219 == 1) && decide (tight.length ≤ 1)

/-- R264: every member has a role of its group, and groups 4 to 7 one role each. -/
def groupsLockOk (v : State) : Bool :=
  (List.range 8).all fun g =>
    let m := fieldU (groupRec v g) 8 8
    let ids := (List.range 64).filter fun i => bitOf m i
    let roles := ids.map (finRole v)
    if g = 0 then ids.all fun i => decide (i < 12) && refKind v (i + 1) != 0
    else if g = 1 then roles.all fun k => k == 1 || k == 18
    else if g ≤ 3 then roles.all (· == g)
    else roles.all (fun k => k == 10 || k == 11 || k == 19) && decide (roles.eraseDups.length ≤ 1)

/-- R273, R409, R448. -/
def portsLockOk (v : State) : Bool :=
  let host := [v.cfg.udpPort, pNat v 0x0110]
  let opt := pNat v 0x0218
  let log := pNat v 0x035B
  let grp := pNat v 0x071D
  !host.contains opt && (pNat v 0x0510 == 0 || (opt != 319 && opt != 320)) && !host.contains log && log != opt &&
    !host.contains grp && grp != opt && grp != log &&
    !(pNat v 0x035D == 1 && (!isDet v || pNat v 0x0359 == 1)) &&
    !(pNat v 0x0711 == pNat v 0x0712 && decide (pNat v 0x0711 ≤ 3)) && !(pNat v 0x0711 == 0xFE && pNat v 0x071E == 0)

/-- Words of the retention image (R521). -/
def retentionWords (v : State) : Nat := 64 + ((mirEntries (tab v 0x0B20)).map fun e => entrySize e / 4).sum + 1

/-- No table the configuration names was cut short: a weight segment is named by the header that counts it, any other table by the
configuration it stands in (R96, log 186). -/
def regionsOk (v : State) : Bool :=
  v.cfg.corruptTabs.all fun id =>
    decide (0x0362 ≤ id ∧ id ≤ 0x0369) && (match rnnHdr (tab v 0x0361) with
      | some h => decide (h.segments ≤ id - 0x0362)
      | none => true)

/-- Every staged table still passes its own rule beside the others; ACQ_CHANNELS is judged by its running channels (R94, R187). -/
def tablesLockOk (v : State) : Bool :=
  v.cfg.forceTabs.all (fun e => e.1 == 0x0260 || ownStatus v e.1 e.2 == 0) && producersOk (producers v)

/-- Every condition of the staged configuration together; `s` is the state as it stands. -/
def lockOk (s : State) : Bool :=
  let v := stagedView s
  periodLockOk v && gnssLockOk v && acqLockOk s (pNat v 0x0250) (tpNs v) (pNat v 0x0251) (tab v 0x0260) && busLockOk v && inputsLockOk v &&
    refsLockOk v && groupsLockOk v && portsLockOk v && rnnLockOk (tab v) (pNat v 0x0340) ((usedInputs v).map (finSig v)) &&
    windSrcOk v 0x030D 10 && windSrcOk v 0x030E 11 && thrustersLockOk v && mirrorLockOk v && decide (retentionWords v ≤ 4096) && regionsOk v &&
    tablesLockOk v

/-- The controller's own structures fit beside what is resident (R309). -/
def ownStructsFit (s : State) : Bool :=
  let v := stagedView s
  (placeStruct v 56 (allocStruct v 0).bytes (promises v.host.nextEntry v)).isSome &&
    [0, 1].all fun t => !tileUp v t || decide (tileUsed v t 56 ≤ tileBytes)

end Sys2Proof.Machine
end

