-- ==== Sys2Proof/Machine/Cfg.lean ====
section
/-! DEFINITION. The configuration, table, signal, identity and key opcodes (Tables 03-3, 03-5, 03-15; R91 to R98, R115, R116). -/

namespace Sys2Proof.Config

/-- NAME of a device-defined signal, at most 24 bytes (R98; the spec gives no text, log 69). -/
opaque deviceName : Nat → List Byte

end Sys2Proof.Config

namespace Sys2Proof.Machine

/-! Locking (R93, R94, R96). -/

/-- The refusals of CONFIG_LOCK in the order of its row. -/
def lockCheck (c : Cmd) (s : State) : Nat :=
  firstOf [sizeIs 0 c, when_ (!inStandby s) stNotStandby, when_ s.cfg.locked stConfigLocked, when_ (!timeValid s) stTimeNotSet,
    when_ (!lockOk s) stInconsistent, when_ (!ownStructsFit s) stNoSpace]

/-- Step 1: the whole staged configuration is written to MRAM and becomes the locked image, and the option-store items are written (R93, R96, R419). -/
def writeImage (s : State) : State :=
  let c := s.cfg
  { s with cfg := { c with everLocked := true, image := c.staged, imageTabs := c.stagedTabs, mramTabs := c.stagedTabs, optUdpPort := valU32 (valueIn c.staged 0x0110),
                           optGroupDev := valU32 (valueIn c.staged 0x0710) } }

/-- Step 2: the configuration is locked, and what a completed lock does at once (R232, R294, R399). -/
def completeLock (c : Cmd) (s : State) : State :=
  let s1 := recordIdentities { s with cfg := { s.cfg with locked := true } }
  let hdr := (keyGet 0x0361 s.cfg.stagedTabs).getD []
  let s2 := if hdr.isEmpty then s1 else record .rnnLoaded (slice hdr 16 6) s1
  match s.sch.chain with
  | some ch => if firstPeriod (pushEffect c.opcode c.params (.lock s.cfg.image s.cfg.imageTabs) s) ≤ ch.period then abandonChain s2 else s2
  | none => s2

/-- CONFIG_LOCK. -/
def runConfigLock (c : Cmd) (s : State) : StepRes :=
  if c.k = 0 then .commit (writeImage s) none
  else
    let e : Effect := .lock s.cfg.image s.cfg.imageTabs
    finishWith c e (be 4 (crcNat (crcString s.cfg.image s.cfg.imageTabs)) ++ be 8 (firstPeriod (pushEffect c.opcode c.params e s)))
      (completeLock c s)

/-- CONFIG_LOCK (0x0101). -/
def opConfigLock : OpDef := { stepOp 0x0101 1 lockCheck runConfigLock with n := 2 }

/-- CONFIG_LOCK (R94). -/
def execConfigLock (r : Req) (p : List Byte) (s : State) : Result := .next (packetIn true opConfigLock r p s)

/-- CONFIG_UNLOCK (0x0102). -/
def opConfigUnlock : OpDef := stepOp 0x0102 1
  (fun c s => firstOf [sizeIs 0 c, when_ (!inStandby s) stNotStandby, when_ (!s.cfg.locked) stConfigUnlocked])
  fun _ s => .finish { s with cfg := { s.cfg with locked := false } } stOk [] none

/-- CONFIG_UNLOCK (R91). -/
def execConfigUnlock (r : Req) (p : List Byte) (s : State) : Result := .next (packetIn true opConfigUnlock r p s)

/-! Parameters (R82, R92, R123, R195, R206, R294, R408, R411). -/

/-- The recurrent header in force, and while unlocked the staged one, must not be empty for AUTHORITY 1 (R294). -/
def authorityBad (s : State) : Bool :=
  (tab s 0x0361).isEmpty || (!s.cfg.locked && ((keyGet 0x0361 s.cfg.stagedTabs).getD []).isEmpty)

/-- The conditions of CONFIG_SET that look beyond the value: R195, R196, R294, R408. -/
def setStateStatus (id : Nat) (v : Value) (s : State) : Nat :=
  if id = 0x0252 then firstOf [when_ (decide (firstPeriod s + 65535 < v.toNat)) stOutOfRange, when_ (!syncOwner s) stInconsistent]
  else if id = 0x0340 ∧ valU32 v = 1 then when_ (authorityBad s) stInconsistent
  else if id = 0x0359 ∧ valU32 v = 1 then when_ (pNat s 0x035A == 0) stInconsistent
  else 0

/-- The refusals of CONFIG_SET (R566). -/
def configSetCheck (c : Cmd) (s : State) : Nat :=
  let id := fieldU c.params 0 2
  let v : Value := BitVec.ofNat 64 (fieldU c.params 4 8)
  firstOf [sizeIs 12 c, zeroAt c 2 2,
    match paramDef id with
    | some d => firstOf [(valueStatus d v).getD 0, setStateStatus id v s, when_ (!d.live && s.cfg.locked) stConfigLocked]
    | none => if isReport id then stInconsistent else stUnknownObject]

/-- A parameter's VALUE is staged and, with LIVE 1, joins the locked image (R92, R96). -/
def stageParam (id : Nat) (v : Value) (live : Bool) (s : State) : State :=
  let c := s.cfg
  { s with cfg := { c with staged := putParam id v c.staged, image := if live && c.everLocked then putParam id v c.image else c.image } }

/-- What a write of a one-shot request asks for (R195, R206). -/
def oneShot (id : Nat) (v : Value) (s : State) : State :=
  if id = 0x0252 then
    let a := { s.acq with syncPeriod := some (max v.toNat (firstPeriod s)), syncs := s.acq.syncs.filter fun x => x.2 != 1 }
    scheduleSync (periodIndex s) (nextBoundary s).2 (nextBoundary s).1 { s with acq := a }
  else if id = 0x02A0 then canRecoverAsk (valU32 v) s
  else s

/-- CONFIG_SET. -/
def runConfigSet (c : Cmd) (s : State) : StepRes :=
  let id := fieldU c.params 0 2
  let v : Value := BitVec.ofNat 64 (fieldU c.params 4 8)
  let live := ((paramDef id).map (·.live)).getD false
  let s1 := oneShot id v (stageParam id v live s)
  if live then finishWith c (.param id v) [] s1 else .finish s1 stOk [] none

/-- CONFIG_SET (0x0103). -/
def opConfigSet : OpDef := stepOp 0x0103 1 configSetCheck runConfigSet

/-- CONFIG_SET (R92). -/
def execConfigSet (r : Req) (p : List Byte) (s : State) : Result := .next (packetIn true opConfigSet r p s)

/-- IN_FORCE of a parameter: option-store items, one-shot requests and read-only values have their own (R93, R195, R206, R411). -/
def inForce (s : State) (id : Nat) : Nat :=
  if id = 0x0580 then s.time.incr.toNat
  else if id = 0x03BC then s.sch.tilesShown
  else if 0x03B0 ≤ id ∧ id ≤ 0x03BE then at_ 0 s.sch.counts (id - 0x03B0)
  else if id = 0x0110 then (vU32 s.cfg.udpPort).toNat
  else if id = 0x0710 then (vU32 s.cfg.groupDev).toNat
  else if id = 0x0252 then s.acq.lastSync
  else if id = 0x02A0 then (vU32 (canRecovering s)).toNat
  else (pVal s id).toNat

/-- CONFIG_GET (0x0104). -/
def opConfigGet : OpDef := readOp 0x0104 1 2
  (fun c _ => when_ ((paramDef (fieldU c.params 0 2)).isNone && !isReport (fieldU c.params 0 2)) stUnknownObject)
  fun c s =>
    let id := fieldU c.params 0 2
    match paramDef id with
    | some d => be 2 id ++ be 1 d.ty ++ be 1 (b2n d.live) ++ be 8 (valueIn s.cfg.staged id).toNat ++ be 8 (inForce s id)
    | none => be 2 id ++ be 1 4 ++ be 1 0 ++ zeros 8 ++ be 8 (inForce s id)

/-- CONFIG_GET (R91). -/
def execConfigGet (r : Req) (p : List Byte) (s : State) : Result := .next (packetIn true opConfigGet r p s)

/-! Tables (R95). -/

/-- The configuration in force once every change already complete has come into force. -/
def aheadView (s : State) : State := { s with cfg := s.sch.pend.foldl (fun c p => cfgEffect c p.eff) s.cfg }

/-- The configuration that a table's new body joins. -/
def joinView (live : Bool) (s : State) : State := if live then aheadView s else stagedView s

/-- A table of the acquisition chain (R191). -/
def acqTable (id : Nat) : Bool := id == 0x0260 || decide (0x0270 ≤ id ∧ id ≤ 0x027F)

/-- A stop committed has not come into force: a channel still runs that a waiting ACQ_RUN clears (R191). -/
def stopsPending (s : State) : Bool :=
  s.sch.pend.any fun p => match p.eff with
    | .param id v => id == 0x0251 && (List.range 16).any fun i => (at_ acqChanReset s.acq.chans i).state != 0 && !bitOf (valU32 v) i
    | _ => false

/-- The refusals of TABLE_WRITE before its first step (R95, R566). -/
def tableWriteCheck (c : Cmd) (s : State) : Nat :=
  let id := fieldU c.params 0 2
  let n := fieldU c.params 4 4
  firstOf [when_ (decide (c.params.length < 12) || c.params.length != 12 + n) stParamSize, zeroAt c 2 2,
    match tabDef id with
    | some d => firstOf [when_ (!d.live && s.cfg.locked) stConfigLocked, when_ (decide (d.maxLen < n)) stNoSpace]
    | none => if (romTable id).isSome then stInconsistent else stUnknownObject]

/-- Step 2. -/
def tableStep2 (live : Bool) (id : Nat) (b : List Byte) (s : State) : Nat :=
  firstOf [bodyStatus (joinView live s) id b, when_ (acqTable id && acqRunningClash (aheadView s) id b) stInconsistent]

/-- Step 4: the body replaces the table (R92, R95). -/
def installTable (id : Nat) (b : List Byte) (live : Bool) (s : State) : State :=
  let c := s.cfg
  { s with cfg := { c with stagedTabs := putTab id b c.stagedTabs, stagingBuf := keyDel id c.stagingBuf, corruptTabs := c.corruptTabs.filter (· != id),
                           imageTabs := if live && c.everLocked then putTab id b c.imageTabs else c.imageTabs } }

/-- TABLE_WRITE, step by step; step 3 writes the body to MRAM (R95, R96). -/
def runTableWrite (c : Cmd) (s : State) : StepRes :=
  let id := fieldU c.params 0 2
  let b := c.params.drop 12
  let live := ((tabDef id).map (·.live)).getD false
  match c.k with
  | 0 =>
    if fieldU c.params 8 4 ≠ crcNat b then .abort s stTableCrc
    else .commit { s with cfg := { s.cfg with stagingBuf := keyPut id b s.cfg.stagingBuf } } none
  | 1 =>
    if acqTable id && stopsPending s then .wait s []
    else if tableStep2 live id b s ≠ 0 then .abort { s with cfg := { s.cfg with stagingBuf := keyDel id s.cfg.stagingBuf } } (tableStep2 live id b s)
    else .commit s none
  | 2 => .commit { s with cfg := { s.cfg with mramTabs := putTab id b s.cfg.mramTabs } } none
  | _ =>
    let s1 := installTable id b live (if id = 0x0400 then frontEndWritten s else s)
    if live then finishWith c (.table id b) [] s1 else .finish s1 stOk [] none

/-- TABLE_WRITE (0x0110). -/
def opTableWrite : OpDef := { stepOp 0x0110 1 tableWriteCheck runTableWrite with n := 4 }

/-- TABLE_WRITE (R95). -/
def execTableWrite (r : Req) (p : List Byte) (s : State) : Result := .next (packetIn true opTableWrite r p s)

/-- The body of a table in force, or the staged one; a read-only table has one body. -/
def tableBody (s : State) (id : Nat) (staged : Bool) : List Byte :=
  match romTable id with
  | some b => b
  | none => if staged then (keyGet id s.cfg.stagedTabs).getD [] else tab s id

/-- A TABLE_ID of no table. -/
def noTable (id : Nat) : Bool := (tabDef id).isNone && (romTable id).isNone

/-- TABLE_READ (0x0111). -/
def opTableRead : OpDef := readOp 0x0111 3 12
  (fun c _ => firstOf [when_ (decide (1 < byteAt c.params 2)) stBadEnum, zeroAt c 3 1, when_ (decide (92148 < fieldU c.params 8 4)) stOutOfRange,
    when_ (noTable (fieldU c.params 0 2)) stUnknownObject])
  fun c s =>
    let b := tableBody s (fieldU c.params 0 2) (byteAt c.params 2 == 1)
    c.params.take 3 ++ be 1 0 ++ be 4 b.length ++ be 4 (crcNat b) ++ slice b (fieldU c.params 4 4) (fieldU c.params 8 4)

/-- TABLE_READ (R95). -/
def execTableRead (r : Req) (p : List Byte) (s : State) : Result := .next (packetIn true opTableRead r p s)

/-- TABLE_INFO (0x0112); MAX_LEN of a read-only table is its length. -/
def opTableInfo : OpDef := readOp 0x0112 1 2 (fun c _ => when_ (noTable (fieldU c.params 0 2)) stUnknownObject) fun c s =>
  let id := fieldU c.params 0 2
  let b := tableBody s id false
  let t := tableBody s id true
  let d := (tabDef id).getD ⟨id, false, b.length⟩
  be 2 id ++ be 1 (b2n d.live) ++ be 1 0 ++ be 4 d.maxLen ++ be 4 b.length ++ be 4 (crcNat b) ++ be 4 t.length ++ be 4 (crcNat t)

/-- TABLE_INFO (R95). -/
def execTableInfo (r : Req) (p : List Byte) (s : State) : Result := .next (packetIn true opTableInfo r p s)

/-! Signals (R97, R98, R235 to R239, R400, R401). -/

/-- A request names a signal that parison values exist for (R401). -/
def parisonIds (ids : List Nat) : Bool := ids.any fun i => decide (0x0400 ≤ i ∧ i ≤ 0x0422)

/-- The PARISON reply: the chain's values of 0x0400 to 0x0422 with QUALITY GOOD, published values of the others. -/
def parisonReply (ch : Chain) (s : State) (ps : List Byte) : List Byte :=
  let ids := readIds ps
  let one (id : Nat) : List Byte :=
    match keyGet id ch.sigs with
    | some v => if 0x0400 ≤ id ∧ id ≤ 0x0422 then readEntry s id (some ⟨v.value, 1, 0⟩) else readEntry s id (keyGet id s.sig.read)
    | none => readEntry s id (keyGet id s.sig.read)
  be 8 ch.period ++ be 2 ids.length ++ be 2 0 ++ ids.flatMap one

/-- SIGNAL_READ: a read answered PARISON waits for the stage 9 that publishes the chain's period. -/
def runSignalRead (c : Cmd) (s : State) : StepRes :=
  match c.data, s.sch.chain with
  | [], some ch =>
    if c.specOk && ch.done && parisonIds (readIds c.params) then
      let s1 := sendFor c stParison (parisonReply ch s c.params) s
      let s2 := modEntry c.entry false (fun j => { j with parisonSent := true }) (modCmd c.entry (fun c => { c with interim := true }) s1)
      .wait { s2 with sch := { s2.sch with waiting := s2.sch.waiting ++ [(c.entry, ch.period)] } } [ch.period]
    else .finish s stOk (readReply s c.params) none
  | [], none => .finish s stOk (readReply s c.params) none
  | d, _ => .wait s d

/-- SIGNAL_READ (0x0201). -/
def opSignalRead : OpDef := stepOp 0x0201 1
  (fun c s =>
    let n := fieldU c.params 0 2
    firstOf [when_ (decide (c.params.length < 2) || c.params.length != 2 + 2 * n) stParamSize, when_ (decide (n = 0 ∨ 1024 < n)) stOutOfRange,
      when_ (!(readIds c.params).all fun i => (sigType s i).isSome) stUnknownObject])
  runSignalRead

/-- SIGNAL_READ (R98). -/
def execSignalRead (r : Req) (p : List Byte) (s : State) : Result := .next (packetIn true opSignalRead r p s)

/-- UNIT of quantity q (Table 09-1). -/
def quantityUnit (q : Nat) : Nat := at_ 0 [1, 1, 2, 4, 4, 5, 7, 7, 8] q

/-- UNIT of a force or moment by axis: N, N, N·m. -/
def forceUnit (k : Nat) : Nat := if k % 3 = 2 then 8 else 7

/-- UNIT of a device-defined signal, from the tables that define it (Tables 08-3, 09-7, 11-9, 12-6); 0x0114 to 0x0117 apart. -/
def deviceUnit (id : Nat) : Nat :=
  if id < 0x0031 then 12
  else if id = 0x0031 then 3
  else if id ≤ 0x0102 then 1
  else if id ≤ 0x0105 then 2
  else if id < 0x0130 then 0
  else if id < 0x0160 then 1
  else if id < 0x0200 then 0
  else if id < 0x0240 then at_ 0 [2, 2, 1, 1] (id % 16)
  else if id < 0x0260 then at_ 0 [2, 2, 0, 1] (id % 8)
  else if id < 0x0300 then 1
  else if id < 0x0350 then quantityUnit (id % 16)
  else if id ≤ 0x0352 then at_ 0 [1, 1, 2] (id % 16)
  else if id < 0x0370 then at_ 0 [1, 1, 2, 4, 4, 5, 2, 2] (id % 16)
  else if id < 0x0402 then 0
  else if id ≤ 0x0413 then forceUnit (id - 0x0402)
  else if id ≤ 0x0419 then at_ 0 [1, 1, 2, 1, 1, 2] (id - 0x0414)
  else if id ≤ 0x041C then at_ 0 [4, 4, 5] (id - 0x041A)
  else if id ≤ 0x041F then at_ 0 [1, 1, 2] (id - 0x041D)
  else if id ≤ 0x0422 then at_ 0 [0, 4, 2] (id - 0x0420)
  else if id < 0x0440 then 0
  else if id ≤ 0x0448 then forceUnit (id - 0x0440)
  else if id < 0x0470 then 0
  else if id < 0x0490 then 7
  else if id < 0x04B0 then 2
  else if id < 0x04D0 then 7
  else if id < 0x04D8 then 9
  else 0

/-- SOURCE of a device-defined signal (R235, R237, log 70). -/
def deviceSource (id : Nat) : Nat :=
  if id < 0x0100 then 0
  else if 0x0188 ≤ id ∧ id ≤ 0x018F then 6
  else if id < 0x0200 ∨ (0x0260 ≤ id ∧ id < 0x0300) then 5
  else if id < 0x0300 then 4
  else if id < 0x0400 then 7
  else 8

/-- The definition entry of a configurable signal in force (R237). -/
def sigDef (s : State) (id : Nat) : Option (List Byte) :=
  (records 32 (tab s (if id < 0x2800 then 0x0200 else 0x0204))).find? fun e => fieldU e 0 2 == id

/-- UNIT of a signal. -/
def sigUnit (s : State) (id : Nat) : Nat :=
  if 0x1000 ≤ id then ((sigDef s id).map (byteAt · 2)).getD 0
  else if 0x0114 ≤ id ∧ id ≤ 0x0117 then
    match groupMembers s (id - 0x0110) with
    | m :: _ => let f := finSig s (m - 0x40); if 0x1000 ≤ f then ((sigDef s f).map (byteAt · 2)).getD 0 else deviceUnit f
    | [] => 0
  else deviceUnit id

/-- SOURCE of a signal. -/
def sigSource (s : State) (id : Nat) : Nat :=
  if id < 0x1000 then deviceSource id else (((producers s).find id).map (·.2)).getD 0

/-- NAME of a signal. -/
def sigName (s : State) (id : Nat) : List Byte :=
  if id < 0x1000 then padTo 24 (Config.deviceName id) else ((sigDef s id).map fun e => slice e 4 24).getD (zeros 24)

/-- SIGNAL_INFO (0x0202). -/
def opSignalInfo : OpDef := readOp 0x0202 3 2 (fun c s => when_ (sigType s (fieldU c.params 0 2)).isNone stUnknownObject) fun c s =>
  let id := fieldU c.params 0 2
  be 2 id ++ be 1 ((sigType s id).getD 0) ++ be 1 (sigUnit s id) ++ be 1 (sigSource s id) ++ be 1 0 ++ sigName s id

/-- SIGNAL_INFO (R97, R237). -/
def execSignalInfo (r : Req) (p : List Byte) (s : State) : Result := .next (packetIn true opSignalInfo r p s)

/-- SOURCE_SELECT (0x0210, R271). What bars commands of control is judged before the object (log 151). -/
def opSourceSelect : OpDef := stepOp 0x0210 1
  (fun c s => firstOf [sizeIs 2 c, when_ (decide (1 < byteAt c.params 1)) stBadEnum, controlBarred s,
    when_ (!sourceKnown s (byteAt c.params 0)) stUnknownObject])
  fun c s =>
    let f := byteAt c.params 0
    let q := byteAt c.params 1
    finishWith c (.source f q) (be 1 f ++ be 1 (selectReply s f q)) s

/-- SOURCE_SELECT (R271). -/
def execSourceSelect (r : Req) (p : List Byte) (s : State) : Result := .next (packetIn true opSourceSelect r p s)

/-! Identity and keys (R6, R7, R115, R116). -/

/-- IDENTITY_READ (0x0C01). -/
def opIdentityRead : OpDef := readOp 0x0C01 1 0 (fun _ _ => 0) fun _ s =>
  be 4 0x56940A00 ++ be 4 (revision s) ++ padTo 8 s.pwr.serial ++ be 1 s.pwr.straps.toNat ++ zeros 3

/-- IDENTITY_READ (R6, R7, R115). -/
def execIdentityRead (r : Req) (p : List Byte) (s : State) : Result := .next (packetIn true opIdentityRead r p s)

/-- ROLE_KEY_SET (0x0C10); ROLE 4 is the arbiter key (R446). -/
def opRoleKeySet : OpDef := stepOp 0x0C10 1
  (fun c _ => firstOf [sizeIs 36 c, when_ (decide (4 < byteAt c.params 0)) stBadEnum, zeroAt c 1 3])
  fun c s => .finish { s with cfg := { s.cfg with roleKeys := modAt s.cfg.roleKeys (byteAt c.params 0) fun _ => slice c.params 4 32 } } stOk [] none

/-- ROLE_KEY_SET (R116, R446). -/
def execRoleKeySet (r : Req) (p : List Byte) (s : State) : Result := .next (packetIn true opRoleKeySet r p s)

end Sys2Proof.Machine
end

