-- ==== Sys2Proof/Machine/HostRun.lean ====
section
/-! DEFINITION. The rows of the host conversation that any opcode may stand behind: fragments, commit points and unknown opcodes
(chapter 02). -/

namespace Sys2Proof.Machine

/-- The opcodes of chapter 03, but SESSION_OPEN, which takes no command (log 15). -/
def opDefs : List OpDef :=
  [opSessionAuth, opSessionResync, opSessionPing, opSessionClose, opTagAbort, opConfigLock, opConfigUnlock, opConfigSet, opConfigGet,
   opTableWrite, opTableRead, opTableInfo, opSignalRead, opSignalInfo, opSourceSelect] ++
  [opModeSet, opControlStatus, opSetpointSet, opSetpointGet, opJoystickSet, opThrusterAvail, opStop 0x03F0, opGnssStatus, opGnssRawRead,
   opRtcmInput, opNavBitsRead, opTimeGet, opTimeSet, opTimeStep, opTimeRate, opTxStampRead] ++
  [opStructLoad, opStructUpdate, opSolve, opStructDrop, opMapWrite, opMapRead, opMapStatus, opGroupStatus, opRoleSet, opHandoverRequest,
   opHealthRead] ++
  [opSafetyStatus, opSafetyParamWrite, opSafetyCheckRead, opSafetyCheckConfirm, opBrakeTest [], opTripReset, opStop 0x08F0,
   opMtrMailboxRead, opMtrIdentRead, opEvtInfo, opEvtRead, opEvtClear] ++
  [opPwrStatus, opPwrStateSet, opReset, opResetCauseRead, opResetCauseClear, opIdentityRead, opModuleList, opModuleRead, opModuleAccept,
   opModuleRescan, opRoleKeySet, opJournalQuery, opJournalList, opJournalRejects]

/-- The definition of an opcode that the build implements. -/
def opOf (code : Nat) : Option OpDef := opDefs.find? (fun d => d.code == code)

/-- An opcode the build does not implement: judged as far as step 10 of Table 02-3. -/
def noOp (code : Nat) : OpDef := stepOp code 0 (fun _ _ => 0) fun _ s => .abort s stUnknownOpcode

/-- A packet by its opcode. -/
def packetFor (r : Req) (code : Nat) (p : List Byte) (s : State) : State :=
  if code = 1 then sessionOpenPacket r p s
  else match opOf code with
  | some d => packetIn true d r p s
  | none => packetIn false (noOp code) r p s

/-- FRAGMENT_RECEIVED (R60 to R62): a packet that is one of several fragments. -/
def execFragmentReceived (r : Req) (opcode : BitVec 16) (p : List Byte) (s : State) : Result := .next (packetFor r opcode.toNat p s)

/-- UNKNOWN_OPCODE (R13, R43): a packet with an opcode the build does not implement. -/
def execUnknownOpcode (r : Req) (opcode : BitVec 16) (p : List Byte) (s : State) : Result := .next (packetFor r opcode.toNat p s)

/-- COMMIT_POINT (R45, R71): a command in flight goes on by one step. -/
def execCommitPoint (entry : Nat) (s : State) : Result :=
  match findCmd s entry with
  | some c => .next (match opOf c.opcode with
    | some d => if awake s then runCmd d 1 entry s else s
    | none => s)
  | none => .next s

end Sys2Proof.Machine
end

