-- ==== Sys2Proof/Machine/Dispatch.lean ====
section
/-! DEFINITION. The dispatch: one arm per command of the table, each one direct call of its meaning. -/

namespace Sys2Proof.Machine

/-- The effect of a command on everything but the queue. -/
def exec (i : Instr) (s : State) : Host.Outcome State Fault Refusal :=
  match i with
  | .sessionOpen r p => Sys2Proof.Machine.execSessionOpen r p s
  | .sessionAuth r p => Sys2Proof.Machine.execSessionAuth r p s
  | .sessionResync r p => Sys2Proof.Machine.execSessionResync r p s
  | .sessionPing r p => Sys2Proof.Machine.execSessionPing r p s
  | .sessionClose r p => Sys2Proof.Machine.execSessionClose r p s
  | .tagAbort r p => Sys2Proof.Machine.execTagAbort r p s
  | .fragmentReceived r opcode p => Sys2Proof.Machine.execFragmentReceived r opcode p s
  | .fragGapExpiry slot tag => Sys2Proof.Machine.execFragGapExpiry slot tag s
  | .fragTotalExpiry slot tag => Sys2Proof.Machine.execFragTotalExpiry slot tag s
  | .sessionIdleExpiry slot => Sys2Proof.Machine.execSessionIdleExpiry slot s
  | .authTimeout slot => Sys2Proof.Machine.execAuthTimeout slot s
  | .lockoutExpiry src => Sys2Proof.Machine.execLockoutExpiry src s
  | .interimAcceptedReply entry => Sys2Proof.Machine.execInterimAcceptedReply entry s
  | .commitPoint entry => Sys2Proof.Machine.execCommitPoint entry s
  | .journalBufferFlush => Sys2Proof.Machine.execJournalBufferFlush s
  | .configLock r p => Sys2Proof.Machine.execConfigLock r p s
  | .configUnlock r p => Sys2Proof.Machine.execConfigUnlock r p s
  | .configSet r p => Sys2Proof.Machine.execConfigSet r p s
  | .configGet r p => Sys2Proof.Machine.execConfigGet r p s
  | .tableWrite r p => Sys2Proof.Machine.execTableWrite r p s
  | .tableRead r p => Sys2Proof.Machine.execTableRead r p s
  | .tableInfo r p => Sys2Proof.Machine.execTableInfo r p s
  | .signalRead r p => Sys2Proof.Machine.execSignalRead r p s
  | .signalInfo r p => Sys2Proof.Machine.execSignalInfo r p s
  | .sourceSelect r p => Sys2Proof.Machine.execSourceSelect r p s
  | .modeSet r p => Sys2Proof.Machine.execModeSet r p s
  | .controlStatus r p => Sys2Proof.Machine.execControlStatus r p s
  | .setpointSet r p => Sys2Proof.Machine.execSetpointSet r p s
  | .setpointGet r p => Sys2Proof.Machine.execSetpointGet r p s
  | .joystickSet r p => Sys2Proof.Machine.execJoystickSet r p s
  | .thrusterAvail r p => Sys2Proof.Machine.execThrusterAvail r p s
  | .thrustStop r p => Sys2Proof.Machine.execThrustStop r p s
  | .gnssStatus r p => Sys2Proof.Machine.execGnssStatus r p s
  | .gnssRawRead r p => Sys2Proof.Machine.execGnssRawRead r p s
  | .rtcmInput r p => Sys2Proof.Machine.execRtcmInput r p s
  | .navBitsRead r p => Sys2Proof.Machine.execNavBitsRead r p s
  | .timeGet r p => Sys2Proof.Machine.execTimeGet r p s
  | .timeSet r p => Sys2Proof.Machine.execTimeSet r p s
  | .timeStep r p => Sys2Proof.Machine.execTimeStep r p s
  | .timeRate r p => Sys2Proof.Machine.execTimeRate r p s
  | .txStampRead r p => Sys2Proof.Machine.execTxStampRead r p s
  | .structLoad r p => Sys2Proof.Machine.execStructLoad r p s
  | .structUpdate r p => Sys2Proof.Machine.execStructUpdate r p s
  | .solve r p => Sys2Proof.Machine.execSolve r p s
  | .structDrop r p => Sys2Proof.Machine.execStructDrop r p s
  | .mapWrite r p => Sys2Proof.Machine.execMapWrite r p s
  | .mapRead r p => Sys2Proof.Machine.execMapRead r p s
  | .mapStatus r p => Sys2Proof.Machine.execMapStatus r p s
  | .groupStatus r p => Sys2Proof.Machine.execGroupStatus r p s
  | .roleSet r p => Sys2Proof.Machine.execRoleSet r p s
  | .handoverRequest r p => Sys2Proof.Machine.execHandoverRequest r p s
  | .healthRead r p => Sys2Proof.Machine.execHealthRead r p s
  | .safetyStatus r p => Sys2Proof.Machine.execSafetyStatus r p s
  | .safetyParamWrite r p => Sys2Proof.Machine.execSafetyParamWrite r p s
  | .safetyCheckRead r p => Sys2Proof.Machine.execSafetyCheckRead r p s
  | .safetyCheckConfirm r p => Sys2Proof.Machine.execSafetyCheckConfirm r p s
  | .brakeTest r p obs => Sys2Proof.Machine.execBrakeTest r p obs s
  | .tripReset r p => Sys2Proof.Machine.execTripReset r p s
  | .safeStop r p => Sys2Proof.Machine.execSafeStop r p s
  | .mtrMailboxRead r p => Sys2Proof.Machine.execMtrMailboxRead r p s
  | .mtrIdentRead r p => Sys2Proof.Machine.execMtrIdentRead r p s
  | .evtInfo r p => Sys2Proof.Machine.execEvtInfo r p s
  | .evtRead r p => Sys2Proof.Machine.execEvtRead r p s
  | .evtClear r p => Sys2Proof.Machine.execEvtClear r p s
  | .pwrStatus r p => Sys2Proof.Machine.execPwrStatus r p s
  | .pwrStateSet r p => Sys2Proof.Machine.execPwrStateSet r p s
  | .reset r p => Sys2Proof.Machine.execReset r p s
  | .resetCauseRead r p => Sys2Proof.Machine.execResetCauseRead r p s
  | .resetCauseClear r p => Sys2Proof.Machine.execResetCauseClear r p s
  | .identityRead r p => Sys2Proof.Machine.execIdentityRead r p s
  | .moduleList r p => Sys2Proof.Machine.execModuleList r p s
  | .moduleRead r p => Sys2Proof.Machine.execModuleRead r p s
  | .moduleAccept r p => Sys2Proof.Machine.execModuleAccept r p s
  | .moduleRescan r p => Sys2Proof.Machine.execModuleRescan r p s
  | .roleKeySet r p => Sys2Proof.Machine.execRoleKeySet r p s
  | .journalQuery r p => Sys2Proof.Machine.execJournalQuery r p s
  | .journalList r p => Sys2Proof.Machine.execJournalList r p s
  | .journalRejects r p => Sys2Proof.Machine.execJournalRejects r p s
  | .readPacket clocked => Sys2Proof.Machine.execReadPacket clocked s
  | .hostStatusClear value => Sys2Proof.Machine.execHostStatusClear value s
  | .resetCauseWrite value => Sys2Proof.Machine.execResetCauseWrite value s
  | .doorbellWake => Sys2Proof.Machine.execDoorbellWake s
  | .doorbellIrqEn on => Sys2Proof.Machine.execDoorbellIrqEn on s
  | .windowWriteOther addr data => Sys2Proof.Machine.execWindowWriteOther addr data s
  | .vesselPeriodBoundary => Sys2Proof.Machine.execVesselPeriodBoundary s
  | .tpBoundary => Sys2Proof.Machine.execTpBoundary s
  | .periodWakeRequest => Sys2Proof.Machine.execPeriodWakeRequest s
  | .snapshot => Sys2Proof.Machine.execSnapshot s
  | .projectionAssociationVote => Sys2Proof.Machine.execProjectionAssociationVote s
  | .refHoldTimeout group => Sys2Proof.Machine.execRefHoldTimeout group s
  | .clockSlipCleared input => Sys2Proof.Machine.execClockSlipCleared input s
  | .observerUpdate => Sys2Proof.Machine.execObserverUpdate s
  | .obsReinit heading => Sys2Proof.Machine.execObsReinit heading s
  | .rnnWaitExpiry lateUs => Sys2Proof.Machine.execRnnWaitExpiry lateUs s
  | .rnnWarmupEnd => Sys2Proof.Machine.execRnnWarmupEnd s
  | .obsAgree q => Sys2Proof.Machine.execObsAgree q s
  | .control => Sys2Proof.Machine.execControl s
  | .joyTimeout => Sys2Proof.Machine.execJoyTimeout s
  | .followWarn axis => Sys2Proof.Machine.execFollowWarn axis s
  | .followLimit axis => Sys2Proof.Machine.execFollowLimit axis s
  | .targetLostTimeout => Sys2Proof.Machine.execTargetLostTimeout s
  | .berthOptLost => Sys2Proof.Machine.execBerthOptLost s
  | .trackHoldExpiry => Sys2Proof.Machine.execTrackHoldExpiry s
  | .allocation lateUs => Sys2Proof.Machine.execAllocation lateUs s
  | .solverDeadline structure_ iters => Sys2Proof.Machine.execSolverDeadline structure_ iters s
  | .thrusterReturned thruster => Sys2Proof.Machine.execThrusterReturned thruster s
  | .handOff => Sys2Proof.Machine.execHandOff s
  | .mirror => Sys2Proof.Machine.execMirror s
  | .health => Sys2Proof.Machine.execHealth s
  | .logBlockRx portB data => Sys2Proof.Machine.execLogBlockRx portB data s
  | .parisonChain => Sys2Proof.Machine.execParisonChain s
  | .parisonChainComplete => Sys2Proof.Machine.execParisonChainComplete s
  | .tileRetired solver tile => Sys2Proof.Machine.execTileRetired solver tile s
  | .ptpMessageRx port m => Sys2Proof.Machine.execPtpMessageRx port m s
  | .servoMeasurement src => Sys2Proof.Machine.execServoMeasurement src s
  | .holdoverEnter => Sys2Proof.Machine.execHoldoverEnter s
  | .timeStepInstant => Sys2Proof.Machine.execTimeStepInstant s
  | .catchUpStep master => Sys2Proof.Machine.execCatchUpStep master s
  | .ptpSyncTx down => Sys2Proof.Machine.execPtpSyncTx down s
  | .pdelayReqTx down => Sys2Proof.Machine.execPdelayReqTx down s
  | .ppsOutPulse => Sys2Proof.Machine.execPpsOutPulse s
  | .ppsInEdge rising => Sys2Proof.Machine.execPpsInEdge rising s
  | .measurementEpoch chans sols bases => Sys2Proof.Machine.execMeasurementEpoch chans sols bases s
  | .gnssRawPublish => Sys2Proof.Machine.execGnssRawPublish s
  | .gnssSolutionPublish what completed => Sys2Proof.Machine.execGnssSolutionPublish what completed s
  | .levelAPublish completed lateUs iters sats => Sys2Proof.Machine.execLevelAPublish completed lateUs iters sats s
  | .bandClockCheck counts => Sys2Proof.Machine.execBandClockCheck counts s
  | .frontEndReplay antenna => Sys2Proof.Machine.execFrontEndReplay antenna s
  | .bandHealthy band => Sys2Proof.Machine.execBandHealthy band s
  | .agcUpdate band codes => Sys2Proof.Machine.execAgcUpdate band codes s
  | .trackingLoop samples asks obs => Sys2Proof.Machine.execTrackingLoop samples asks obs s
  | .channelLossOfLock ch => Sys2Proof.Machine.execChannelLossOfLock ch s
  | .searchComplete ch found target => Sys2Proof.Machine.execSearchComplete ch found target s
  | .notchUpdate band tracked spectrum => Sys2Proof.Machine.execNotchUpdate band tracked spectrum s
  | .jamIndicator band => Sys2Proof.Machine.execJamIndicator band s
  | .gnssJamming band => Sys2Proof.Machine.execGnssJamming band s
  | .navUnitDecoded ch unit => Sys2Proof.Machine.execNavUnitDecoded ch unit s
  | .ephemerisCopy => Sys2Proof.Machine.execEphemerisCopy s
  | .acqOutput ch bits => Sys2Proof.Machine.execAcqOutput ch bits s
  | .acqModFault ch => Sys2Proof.Machine.execAcqModFault ch s
  | .modFaultClear ch => Sys2Proof.Machine.execModFaultClear ch s
  | .settlingEnd ch => Sys2Proof.Machine.execSettlingEnd ch s
  | .acqSyncPinEdge rising => Sys2Proof.Machine.execAcqSyncPinEdge rising s
  | .acqSync => Sys2Proof.Machine.execAcqSync s
  | .canFrameRx bus kind ext id sofNs data => Sys2Proof.Machine.execCanFrameRx bus kind ext id sofNs data s
  | .canBusOff bus => Sys2Proof.Machine.execCanBusOff bus s
  | .canRecovered bus => Sys2Proof.Machine.execCanRecovered bus s
  | .feedbackRx bus node data => Sys2Proof.Machine.execFeedbackRx bus node data s
  | .driveStatusRx bus node data => Sys2Proof.Machine.execDriveStatusRx bus node data s
  | .driveHbLost thruster => Sys2Proof.Machine.execDriveHbLost thruster s
  | .driveLost thruster => Sys2Proof.Machine.execDriveLost thruster s
  | .actSatWarn thruster steering => Sys2Proof.Machine.execActSatWarn thruster steering s
  | .actSatFault thruster steering => Sys2Proof.Machine.execActSatFault thruster steering s
  | .serialSentenceRx port startNs chars framing => Sys2Proof.Machine.execSerialSentenceRx port startNs chars framing s
  | .modulePresent slot => Sys2Proof.Machine.execModulePresent slot s
  | .moduleReadComplete slot data => Sys2Proof.Machine.execModuleReadComplete slot data s
  | .moduleNackRetry slot => Sys2Proof.Machine.execModuleNackRetry slot s
  | .moduleRemoved slot => Sys2Proof.Machine.execModuleRemoved slot s
  | .opticalFrameRx portB data => Sys2Proof.Machine.execOpticalFrameRx portB data s
  | .mapMaintenance => Sys2Proof.Machine.execMapMaintenance s
  | .baPass => Sys2Proof.Machine.execBaPass s
  | .cascLinkUp down => Sys2Proof.Machine.execCascLinkUp down s
  | .cascLinkDown down => Sys2Proof.Machine.execCascLinkDown down s
  | .cascFrameRx down frame => Sys2Proof.Machine.execCascFrameRx down frame s
  | .announceTx => Sys2Proof.Machine.execAnnounceTx s
  | .announceRx m => Sys2Proof.Machine.execAnnounceRx m s
  | .healthRx m => Sys2Proof.Machine.execHealthRx m s
  | .handoverResend => Sys2Proof.Machine.execHandoverResend s
  | .handoverAckTimeout => Sys2Proof.Machine.execHandoverAckTimeout s
  | .take m => Sys2Proof.Machine.execTake m s
  | .yield m => Sys2Proof.Machine.execYield m s
  | .ack m => Sys2Proof.Machine.execAck m s
  | .mirrorRx m => Sys2Proof.Machine.execMirrorRx m s
  | .extCmd m => Sys2Proof.Machine.execExtCmd m s
  | .extFb m => Sys2Proof.Machine.execExtFb m s
  | .extMasterLost => Sys2Proof.Machine.execExtMasterLost s
  | .stop m => Sys2Proof.Machine.execStop m s
  | .stepNotice m => Sys2Proof.Machine.execStepNotice m s
  | .syncNotice m => Sys2Proof.Machine.execSyncNotice m s
  | .bootReq m => Sys2Proof.Machine.execBootReq m s
  | .bootReqTx => Sys2Proof.Machine.execBootReqTx s
  | .bootData m => Sys2Proof.Machine.execBootData m s
  | .arbiterDatagramRx portB ip data => Sys2Proof.Machine.execArbiterDatagramRx portB ip data s
  | .permitInLow returns => Sys2Proof.Machine.execPermitInLow returns s
  | .ownerOverlap => Sys2Proof.Machine.execOwnerOverlap s
  | .ownershipTakeUp => Sys2Proof.Machine.execOwnershipTakeUp s
  | .selftestCycle outcome => Sys2Proof.Machine.execSelftestCycle outcome s
  | .safeInputFiltered input high => Sys2Proof.Machine.execSafeInputFiltered input high s
  | .testPulse output before after => Sys2Proof.Machine.execTestPulse output before after s
  | .discrepancy pair => Sys2Proof.Machine.execDiscrepancy pair s
  | .rampEnd channel => Sys2Proof.Machine.execRampEnd channel s
  | .releaseRequestFallExpiry channel => Sys2Proof.Machine.execReleaseRequestFallExpiry channel s
  | .readbackDeviation channel => Sys2Proof.Machine.execReadbackDeviation channel s
  | .switchTest channel passes => Sys2Proof.Machine.execSwitchTest channel passes s
  | .clockWindow count => Sys2Proof.Machine.execClockWindow count s
  | .heartbeatAbsent => Sys2Proof.Machine.execHeartbeatAbsent s
  | .safetyResetRequest => Sys2Proof.Machine.execSafetyResetRequest s
  | .monitorDiagnostic kind passes => Sys2Proof.Machine.execMonitorDiagnostic kind passes s
  | .brakeTestDue channel => Sys2Proof.Machine.execBrakeTestDue channel s
  | .mtrSample bits => Sys2Proof.Machine.execMtrSample bits s
  | .mtrSecond freq => Sys2Proof.Machine.execMtrSecond freq s
  | .mtrPulse feeder => Sys2Proof.Machine.execMtrPulse feeder s
  | .phaseLoss feeder phase => Sys2Proof.Machine.execPhaseLoss feeder phase s
  | .mtrClockCheck ppm edges => Sys2Proof.Machine.execMtrClockCheck ppm edges s
  | .mtrRegisterCommit => Sys2Proof.Machine.execMtrRegisterCommit s
  | .mtrWatchdog => Sys2Proof.Machine.execMtrWatchdog s
  | .mtrPowerUp newer older => Sys2Proof.Machine.execMtrPowerUp newer older s
  | .unsealed => Sys2Proof.Machine.execUnsealed s
  | .sealed => Sys2Proof.Machine.execSealed s
  | .readIdent payload crc => Sys2Proof.Machine.execReadIdent payload crc s
  | .readMailbox payload crc => Sys2Proof.Machine.execReadMailbox payload crc s
  | .readParam payload crc => Sys2Proof.Machine.execReadParam payload crc s
  | .writeParam payload crc => Sys2Proof.Machine.execWriteParam payload crc s
  | .commit payload crc => Sys2Proof.Machine.execCommit payload crc s
  | .readLog payload crc => Sys2Proof.Machine.execReadLog payload crc s
  | .fwBlock payload crc => Sys2Proof.Machine.execFwBlock payload crc s
  | .fwActivate payload crc => Sys2Proof.Machine.execFwActivate payload crc s
  | .eventEntry ev data => Sys2Proof.Machine.execEventEntry ev data s
  | .eventFlush => Sys2Proof.Machine.execEventFlush s
  | .controlBlockWrite => Sys2Proof.Machine.execControlBlockWrite s
  | .bowWarning rail mv => Sys2Proof.Machine.execBowWarning rail mv s
  | .bowRecovered lowest => Sys2Proof.Machine.execBowRecovered lowest s
  | .bowStop => Sys2Proof.Machine.execBowStop s
  | .supplyReset rail => Sys2Proof.Machine.execSupplyReset rail s
  | .rstN => Sys2Proof.Machine.execRstN s
  | .watchdog => Sys2Proof.Machine.execWatchdog s
  | .resetSequence straps copyA copyB => Sys2Proof.Machine.execResetSequence straps copyA copyB s
  | .firmwareStart faults => Sys2Proof.Machine.execFirmwareStart faults s
  | .powerStateEntry => Sys2Proof.Machine.execPowerStateEntry s
  | .pwrEntryAbandoned => Sys2Proof.Machine.execPwrEntryAbandoned s
  | .pwrSchedEnter => Sys2Proof.Machine.execPwrSchedEnter s
  | .pwrSchedWake => Sys2Proof.Machine.execPwrSchedWake s
  | .wakePin => Sys2Proof.Machine.execWakePin s
  | .wakeFrame portB data => Sys2Proof.Machine.execWakeFrame portB data s
  | .powerStateExit imageOk => Sys2Proof.Machine.execPowerStateExit imageOk s
  | .domainWakeRequest domain cls => Sys2Proof.Machine.execDomainWakeRequest domain cls s
  | .wakeGovernorWindow => Sys2Proof.Machine.execWakeGovernorWindow s
  | .idleEntry => Sys2Proof.Machine.execIdleEntry s
  | .clockSkew cd tile => Sys2Proof.Machine.execClockSkew cd tile s
  | .thermalGradient cd tile hot cold => Sys2Proof.Machine.execThermalGradient cd tile hot cold s
  | .domainReturn cd => Sys2Proof.Machine.execDomainReturn cd s
  | .junctionHot tenths => Sys2Proof.Machine.execJunctionHot tenths s
  | .writePacket data whole => Sys2Proof.Machine.execWritePacket data whole s
  | .unknownOpcode r opcode p => Sys2Proof.Machine.execUnknownOpcode r opcode p s
  | .commandedReset => Sys2Proof.Machine.execCommandedReset s
  | .vddMtrWarning => Sys2Proof.Machine.execVddMtrWarning s
  | .vddMtrLoss => Sys2Proof.Machine.execVddMtrLoss s
  | .vddSafeWarning held => Sys2Proof.Machine.execVddSafeWarning held s
  | .monitorStartUp copyA copyB => Sys2Proof.Machine.execMonitorStartUp copyA copyB s
  | .ptpMessageTx portB typ seqId => Sys2Proof.Machine.execPtpMessageTx portB typ seqId s
  | .canErrorPassive bus tec rec_ => Sys2Proof.Machine.execCanErrorPassive bus tec rec_ s
  | .rnnFault => Sys2Proof.Machine.execRnnFault s
  | .hbInToggle chan => Sys2Proof.Machine.execHbInToggle chan s
  | .domainReady domain => Sys2Proof.Machine.execDomainReady domain s
  | .arpIcmpRequest portB ip arp => Sys2Proof.Machine.execArpIcmpRequest portB ip arp s
  | .junctionHotEnd tenths => Sys2Proof.Machine.execJunctionHotEnd tenths s
  | .clockWindowTimeout => Sys2Proof.Machine.execClockWindowTimeout s

end Sys2Proof.Machine
end

