-- ==== Sys2Proof/Safety.lean ====
section
/-! DEFINITION. The terms of the claims: what a command leaves alone, when a packet is admitted, and what its command leaves behind. -/

namespace Sys2Proof.Machine

/-! Frames. -/

/-- The parts of the state, one for each field of `State` but the queue. -/
inductive Part where
  | time | grid | cfg | host | evt | pwr | sig | gnss | acq | bus | fus | obs | slv | ctl | thr | sch | grp | saf | mtr | out | fresh
  deriving DecidableEq, Repr

/-- A part is the same in two states. -/
def Part.same (p : Part) (s t : State) : Prop :=
  match p with
  | .time => t.time = s.time
  | .grid => t.grid = s.grid
  | .cfg => t.cfg = s.cfg
  | .host => t.host = s.host
  | .evt => t.evt = s.evt
  | .pwr => t.pwr = s.pwr
  | .sig => t.sig = s.sig
  | .gnss => t.gnss = s.gnss
  | .acq => t.acq = s.acq
  | .bus => t.bus = s.bus
  | .fus => t.fus = s.fus
  | .obs => t.obs = s.obs
  | .slv => t.slv = s.slv
  | .ctl => t.ctl = s.ctl
  | .thr => t.thr = s.thr
  | .sch => t.sch = s.sch
  | .grp => t.grp = s.grp
  | .saf => t.saf = s.saf
  | .mtr => t.mtr = s.mtr
  | .out => t.out = s.out
  | .fresh => t.fresh = s.fresh

/-- Every part outside the list, and the queue, are unchanged. -/
def Only (ps : List Part) (s t : State) : Prop := t.pending = s.pending ∧ ∀ p : Part, p ∉ ps → p.same s t

/-! Packets. -/

/-- A packet of one fragment that passes every step of Table 02-3 as a new command of its session (R43, R52 to R55), meets no earlier
command on its objects (R45) and no brown-out (R529), and passes its `n` commit points at once; `x` is its session. -/
structure Fresh (code cls n : Nat) (r : Req) (p : List Byte) (s : State) (x : Session) : Prop where
  read : readable r code p s = true
  whole : r.fragment.toNat = 0 ∧ isLastFrag r = true
  header : r.paramLen.toNat = p.length ∧ p.length ≤ 1440 ∧ r.tag.toNat ≤ 127 ∧ cls ≤ 3
  session : openSlot s r.session.toNat = some x ∧ x.src = r.src ∧ r.epoch.toNat = x.epoch
  allowed : (x.authed = true ∨ code = 0x0002 ∨ code = 0x0005) ∧ r.cls.toNat = cls ∧ roleNeeded code x p ≤ x.role
  number : 1 ≤ seqD x r.seq ∧ seqD x r.seq ≤ 64
  place : tagHeld x r.tag.toNat = false ∧ placeFree x cls = true
  entry : (∀ d ∈ s.host.cmds, d.entry < s.host.nextEntry) ∧ ∀ j ∈ s.host.journal, j.cur.entry < s.host.nextEntry
  free : ∀ d ∈ s.host.cmds, ∀ o ∈ objsOf d.opcode d, ∀ c : Cmd, c.params = p → ∀ o' ∈ objsOf code c, sameObj o o' = false
  power : bowRaised s = false ∧ 1 ≤ r.burst ∧ n ≤ r.burst

/-- The command that a packet begins (R44). -/
def cmdOf (code cls n : Nat) (r : Req) (p : List Byte) (s : State) : Cmd :=
  { entry := s.host.nextEntry, slot := r.session.toNat, epoch := r.epoch.toNat, src := r.src, tag := r.tag.toNat, noTag := false,
    seq := r.seq.toNat, opcode := code, cls := cls, params := p, specOk := isSpecOk r, k := 0, n := n, started := true, orphan := false,
    interim := false, abort := false, busy := false, validElapsed := s.time.elapsed, validT := s.time.total,
    validC := s.time.total, data := [] }

/-- Its journal entry in state STARTED (R44, R70). -/
def entryOf (code cls n : Nat) (r : Req) (p : List Byte) (s : State) : JEntry :=
  { entry := s.host.nextEntry, session := r.session.toNat, epoch := r.epoch.toNat, tag := r.tag.toNat, cls := cls, opcode := code,
    seq := r.seq.toNat, state := .started, interrupted := false, replySent := false, parisonSent := false, posted := cls == 0, k := 0,
    n := n, status := 0, fragments := 1, paramCrc := crcNat p, firstPeriod := none, accepted := now s, ended := none,
    cycles := s.evt.cycles, corrupt := none }

/-- The session has heard the packet and marked its number (R50, R52). -/
def heard (code : Nat) (r : Req) (p : List Byte) (s : State) : State :=
  modSlot r.session.toNat (fun y => markSeq r.seq { y with retries := y.retries + b2n (isRetryPkt r), lastAt := s.time.elapsed }) (takeBuffer r code p s)

/-- The state in which the command's first step runs. -/
def admitted (code cls n : Nat) (r : Req) (p : List Byte) (s : State) : State :=
  let s1 := newEntry (entryOf code cls n r p s) (heard code r p s)
  putTag r.session.toNat r.tag.toNat (.inFlight r.seq.toNat code cls s.host.nextEntry)
    { s1 with host := { s1.host with cmds := s1.host.cmds ++ [cmdOf code cls n r p s] } }

/-- The row completes as a command of `n` steps with status OK: `eff` is its effect, `reply` the parameters of its final reply, `first`
its first period in force, all of the command and the state in which its last step runs. -/
def Acts (code cls n : Nat) (row : Req → List Byte → Instr) (ok : Cmd → State → Prop) (eff : Cmd → State → State)
    (reply : Cmd → State → List Byte) (first : Cmd → State → Option Nat) : Prop :=
  ∀ (r : Req) (p : List Byte) (s : State) (x : Session), Fresh code cls n r p s x →
    let c := cmdOf code cls n r p s
    let u := admitted code cls n r p s
    ok c u → exec (row r p) s = .next (endCmd c .done n 0 (reply c u) (first c u) (eff c u))

/-- The row completes as a command that changes nothing and replies. -/
def Reads (code cls : Nat) (row : Req → List Byte → Instr) (ok : Cmd → State → Prop) (reply : Cmd → State → List Byte) : Prop :=
  Acts code cls 1 row ok (fun _ s => s) reply (fun _ _ => none)

/-- The row completes as a command that leaves an effect for its first snapshot (R22). -/
def Posts (code cls : Nat) (row : Req → List Byte → Instr) (ok : Cmd → State → Prop) (eff : Cmd → State → Effect)
    (reply : Cmd → State → List Byte) : Prop :=
  Acts code cls 1 row ok (fun c s => pushEffect c.opcode c.params (eff c s) s) reply
    (fun c s => some (firstPeriod (pushEffect c.opcode c.params (eff c s) s)))

/-- The row's command ends ABORTED with a status before its first step (R566). -/
def Refuses (code cls n : Nat) (row : Req → List Byte → Instr) (bad : Cmd → State → Prop) (status : Nat) : Prop :=
  ∀ (r : Req) (p : List Byte) (s : State) (x : Session), Fresh code cls n r p s x →
    let c := cmdOf code cls n r p s
    let u := admitted code cls n r p s
    bad c u → exec (row r p) s = .next (endCmd c .aborted 0 status [] none u)

/-! The rows that are host packets. -/

/-- A row that is a packet of one opcode. -/
structure HostRow where
  code : Nat
  cls : Nat
  row : Req → List Byte → Instr

/-- Every opcode but SESSION_OPEN, with the class that Table 02-2 and the opcode tables give it. -/
def hostRows : List HostRow :=
  [⟨0x0002, 1, .sessionAuth⟩, ⟨0x0003, 1, .sessionResync⟩, ⟨0x0004, 1, .sessionPing⟩, ⟨0x0005, 1, .sessionClose⟩,
   ⟨0x0006, 1, .tagAbort⟩, ⟨0x0101, 1, .configLock⟩, ⟨0x0102, 1, .configUnlock⟩, ⟨0x0103, 1, .configSet⟩,
   ⟨0x0104, 1, .configGet⟩, ⟨0x0110, 1, .tableWrite⟩, ⟨0x0111, 3, .tableRead⟩, ⟨0x0112, 1, .tableInfo⟩,
   ⟨0x0201, 1, .signalRead⟩, ⟨0x0202, 3, .signalInfo⟩, ⟨0x0210, 1, .sourceSelect⟩, ⟨0x0301, 1, .modeSet⟩,
   ⟨0x0302, 1, .controlStatus⟩] ++
  [⟨0x0310, 1, .setpointSet⟩, ⟨0x0311, 1, .setpointGet⟩, ⟨0x0320, 1, .joystickSet⟩, ⟨0x0330, 1, .thrusterAvail⟩,
   ⟨0x03F0, 0, .thrustStop⟩, ⟨0x0401, 1, .gnssStatus⟩, ⟨0x0402, 3, .gnssRawRead⟩, ⟨0x0403, 1, .rtcmInput⟩,
   ⟨0x0404, 3, .navBitsRead⟩, ⟨0x0501, 1, .timeGet⟩, ⟨0x0502, 1, .timeSet⟩, ⟨0x0503, 1, .timeStep⟩,
   ⟨0x0504, 1, .timeRate⟩, ⟨0x0505, 1, .txStampRead⟩, ⟨0x0601, 1, .structLoad⟩, ⟨0x0602, 2, .structUpdate⟩,
   ⟨0x0603, 2, .solve⟩] ++
  [⟨0x0604, 1, .structDrop⟩, ⟨0x0610, 3, .mapWrite⟩, ⟨0x0611, 3, .mapRead⟩, ⟨0x0612, 1, .mapStatus⟩,
   ⟨0x0701, 1, .groupStatus⟩, ⟨0x0702, 1, .roleSet⟩, ⟨0x0703, 1, .handoverRequest⟩, ⟨0x0704, 1, .healthRead⟩,
   ⟨0x0801, 1, .safetyStatus⟩, ⟨0x0802, 1, .safetyParamWrite⟩, ⟨0x0803, 1, .safetyCheckRead⟩, ⟨0x0804, 1, .safetyCheckConfirm⟩,
   ⟨0x0805, 1, fun r p => .brakeTest r p []⟩, ⟨0x0806, 1, .tripReset⟩, ⟨0x08F0, 0, .safeStop⟩, ⟨0x0901, 1, .mtrMailboxRead⟩,
   ⟨0x0902, 1, .mtrIdentRead⟩] ++
  [⟨0x0A01, 1, .evtInfo⟩, ⟨0x0A02, 3, .evtRead⟩, ⟨0x0A03, 1, .evtClear⟩, ⟨0x0B01, 1, .pwrStatus⟩,
   ⟨0x0B02, 1, .pwrStateSet⟩, ⟨0x0B03, 1, .reset⟩, ⟨0x0B04, 1, .resetCauseRead⟩, ⟨0x0B05, 1, .resetCauseClear⟩,
   ⟨0x0C01, 1, .identityRead⟩, ⟨0x0C02, 1, .moduleList⟩, ⟨0x0C03, 1, .moduleRead⟩, ⟨0x0C04, 1, .moduleAccept⟩,
   ⟨0x0C05, 1, .moduleRescan⟩, ⟨0x0C10, 1, .roleKeySet⟩, ⟨0x0D01, 1, .journalQuery⟩, ⟨0x0D02, 3, .journalList⟩,
   ⟨0x0D03, 1, .journalRejects⟩]

/-- The session has heard a packet that is not accepted: its RETRY count and, under its own epoch, its idle timer (R50, R55). -/
def noticed (r : Req) (s : State) : State :=
  modSlot r.session.toNat (fun y => { y with retries := y.retries + b2n (isRetryPkt r),
                                             lastAt := if r.epoch.toNat = y.epoch then s.time.elapsed else y.lastAt }) s

/-- A command of several steps has passed its `k`th commit point (R71). -/
def committed (c : Cmd) (k : Nat) (s : State) : State :=
  modCmd c.entry (fun c => { c with k := k, busy := false, data := [] }) (modEntry c.entry true (fun j => { j with state := .partial_, k := k }) s)

/-! The island (R492, R495). -/

/-- SEAL as the log last tells it. -/
def loggedSeal (s : State) : Nat := (s.mtr.log.getLast?.map (·.sealCount)).getD 0

/-- The two copies of the register store and the log agree with SEAL and the parameters: no copy's SEAL is above it, and where a copy's is
below, the log tells it; the newer copy holds the parameters, and where none stands they are the default ones; the log's last record is at
most one behind SEAL. -/
def SealKept (s : State) : Prop :=
  (∀ st, s.mtr.store = some st ∨ s.mtr.older = some st → st.sealCount ≤ s.mtr.sealCount ∧ s.mtr.sealCount ≤ max st.sealCount (loggedSeal s)) ∧
    (∀ st, s.mtr.store = some st → st.params = s.mtr.params) ∧ (s.mtr.store = none → s.mtr.params = []) ∧
    s.mtr.sealCount ≤ min (2 ^ 32 - 1) (loggedSeal s + 1) ∧ loggedSeal s ≤ s.mtr.sealCount

/-- The store as the island commits it now (R495). -/
def committedStore (s : State) : MtrStore := ⟨s.mtr.feeders.map Feeder.energy, s.mtr.dpMs, s.mtr.sealCount, s.mtr.params⟩

/-! Resets (R531 to R537). -/

/-- A reset of one source is asserted from `s`: firmware stops as far as the source reaches, its bit of RESET_CAUSE is set, no session, no
command in flight and nothing on the SPI host port is left; past core reach the configuration is unlocked, the safety monitor is in
reset and the overrun bits are clear, which a core reset keeps. -/
def ResetBy (src : RSrc) (s t : State) : Prop :=
  t.pwr.boot = bootAfter src.reach s.pwr.boot ∧ t.pwr.fwBuild = 0 ∧ t.pwr.state = .run ∧ t.pwr.cause.getLsbD src.bit = true ∧
    t.host.sessions = List.replicate 8 sessionReset ∧ t.host.cmds = [] ∧ t.host.spiIn = [] ∧ t.host.spiOut = [] ∧
    (src.reach = .core → t.host.inOverrun = s.host.inOverrun ∧ t.host.outOverrun = s.host.outOverrun) ∧
    (src.reach ≠ .core → t.host.inOverrun = false ∧ t.host.outOverrun = false ∧ t.cfg.locked = false ∧ t.saf.phase = 0 ∧ t.saf.latched = 0)

end Sys2Proof.Machine
end

