-- ==== Sys2Proof/Certificates/Slice0/Obligations.lean ====
section
/-! DEFINITION. The statements for the provers. Each names the rules it rests on; a clause about a choice of the model names its log entry. -/

open Sys2Proof Sys2Proof.Machine

/-- For every command c and every state whose queue has c at its front, step is exec of c on the state with the rest of the queue. -/
def Obligations.StepRunsFront : Prop :=
  ∀ (c : Instr) (cs : List Instr) (s : State), s.pending = c :: cs → step s = exec c { s with pending := cs }

/-- With an empty queue a step lets one tick of CD9 pass: the counter adds TIME_INCR while it counts, nothing but the time and the operating
time changes. That the tick stands on the empty queue is the model's choice (log 2). -/
def Obligations.IdleTick : Prop :=
  ∀ s : State, s.pending = [] → ∃ t : State, step s = .next t ∧ Only [.time, .evt] s t ∧ t.time.elapsed = s.time.elapsed + 4 ∧
    (s.time.counting = true → (s.time.units + s.time.incr.toNat) / 2 ^ 32 / 10 ^ 9 < 2 ^ 64 → t.time.units = s.time.units + s.time.incr.toNat) ∧
    (s.time.counting = false → t.time = { s.time with elapsed := s.time.elapsed + 4 }) ∧ t.evt = { s.evt with operNs := s.evt.operNs + 4 }

/-- From every state, when a step answers a next state, its queue is the queue before without its front command: no command adds, drops or
reorders waiting commands. -/
def Obligations.QueueKept : Prop :=
  ∀ s t : State, step s = .next t → t.pending = s.pending.tail

/-- From every state a step answers a next state: no command of the table faults or is refused. The event rows whose condition does not hold
have no effect (log 5). -/
def Obligations.NeverStops : Prop :=
  ∀ s : State, ∃ t : State, step s = .next t

/-- After a power-on reset device time is UNSET with TIME_INCR 0x400000000, no session is open and the journal is empty, the configuration
is unlocked, the mode is STANDBY, the power state is RUN with the boot ROM running, RESET_CAUSE holds POR with LEVEL 3, HOST_STATUS has no
overrun and DOORBELL_IRQ_EN is 1, the event log is empty, every acquisition channel is STOPPED and no command waits. That firmware has not
yet started is the model's choice of instant (log 1). The register store, the log and the seal counter of the metrology island agree. -/
def Obligations.ResetState : Prop :=
  State.reset.pending = [] ∧ State.reset.time.state = .unset ∧ State.reset.time.incr = 0x400000000#64 ∧
    (∀ n, openSlot State.reset n = none) ∧ State.reset.host.journal = [] ∧ State.reset.host.cmds = [] ∧ State.reset.cfg.locked = false ∧
    State.reset.ctl.mode = 0 ∧ State.reset.pwr.state = .run ∧ State.reset.pwr.boot = .rom ∧ State.reset.pwr.cause = 0x301#32 ∧
    State.reset.host.inOverrun = false ∧ State.reset.host.outOverrun = false ∧ State.reset.host.irqEn = true ∧ State.reset.evt.recs = [] ∧
    (∀ c ∈ State.reset.acq.chans, c.state = 0) ∧ timeValid State.reset = false ∧
    SealKept State.reset

/-- For every opcode but SESSION_OPEN, and for SESSION_OPEN: a packet read by no firmware, received on an isolated port, with a wrong magic
or CRC or marked as a reply has no effect but to leave its inbound buffer. -/
def Obligations.PacketSilent : Prop :=
  ∀ (r : Req) (p : List Byte) (s : State),
    (∀ h ∈ hostRows, readable r h.code p s = false → exec (h.row r p) s = .next (takeBuffer r h.code p s)) ∧
    (readable r 1 p s = false → exec (.sessionOpen r p) s = .next (takeBuffer r 1 p s))

/-- For every opcode but SESSION_OPEN a readable packet is refused with the first status of Table 02-3 that applies: a bad length or header;
no open session, or one bound to another source; a stale epoch; a session not authenticated; a class that is not the opcode's; a role too
low; a sequence number outside the window. The refusal changes only the host interface and what is sent, and begins no command. -/
def Obligations.PacketRefused : Prop :=
  ∀ h ∈ hostRows, ∀ (r : Req) (p : List Byte) (s : State),
    let u := takeBuffer r h.code p s
    let v := noticed r u
    readable r h.code p s = true →
      (headerStatus r p ≠ 0 → exec (h.row r p) s = .next (reject r h.code (headerStatus r p) true [] u)) ∧
      (headerStatus r p = 0 → openSlot u r.session.toNat = none → exec (h.row r p) s = .next (reject r h.code stUnknownSession true [] u)) ∧
      (headerStatus r p = 0 → ∀ x : Session, openSlot u r.session.toNat = some x →
        (x.src ≠ r.src → ¬(h.code = 3 ∧ byteAt p 4 = 1) → exec (h.row r p) s = .next (reject r h.code stUnknownSession true [] u)) ∧
        (x.src = r.src → r.epoch.toNat ≠ x.epoch → exec (h.row r p) s = .next (reject r h.code stStaleEpoch false [] v)) ∧
        (x.src = r.src → r.epoch.toNat = x.epoch →
          (x.authed = false → h.code ≠ 2 → h.code ≠ 5 → exec (h.row r p) s = .next (reject r h.code stNotAuthenticated false [] v)) ∧
          (x.authed = true ∨ h.code = 2 ∨ h.code = 5 →
            (r.cls.toNat ≠ h.cls → exec (h.row r p) s = .next (reject r h.code stClassMismatch false [] v)) ∧
            (r.cls.toNat = h.cls → x.role < roleNeeded h.code x p →
              exec (h.row r p) s = .next (reject r h.code stRoleInsufficient false [] v)) ∧
            (r.cls.toNat = h.cls → roleNeeded h.code x p ≤ x.role → h.code ≠ 3 → 65 ≤ seqD x r.seq → seqD x r.seq ≤ 4294967232 →
              exec (h.row r p) s = .next (reject r h.code stSeqGap false [] v)))))

/-- A refusal changes nothing but the rejection record of the session and what is sent: the commands in flight, the journal and every
session's epoch, sequence marks and tags stand, the record counts one more and holds the header. -/
def Obligations.RefusalLeaves : Prop :=
  ∀ (r : Req) (code status : Nat) (b : Bool) (ps : List Byte) (s : State),
    let t := reject r code status b ps s
    Only [.host, .out] s t ∧ t.host.cmds = s.host.cmds ∧ t.host.journal = s.host.journal ∧ t.host.sessions.length = s.host.sessions.length ∧
      ∀ (n : Nat) (x : Session), s.host.sessions[n]? = some x → ∃ y : Session, t.host.sessions[n]? = some y ∧
        y = { x with rejCount := y.rejCount, rejLast := y.rejLast } ∧
        (n + 1 = r.session.toNat → x.isOpen = true → y.rejCount = min (x.rejCount + 1) (2 ^ 32 - 1) ∧ y.rejLast = reqHeader r code) ∧
        (n + 1 ≠ r.session.toNat → y = x)

/-- A packet whose sequence number is already marked, on a tag that holds that number with the command ended, has the retained final reply
repeated with RETRY set, and on a tag that holds it with the command in flight ACCEPTED or PARTIAL; on a tag that holds another number,
opcode or class the packet is answered DUPLICATE. Nothing is executed: the commands in flight and the journal stand. -/
def Obligations.DuplicateNotExecuted : Prop :=
  ∀ h ∈ hostRows, h.code ≠ 3 → ∀ (r : Req) (p : List Byte) (s : State) (x : Session),
    let u := takeBuffer r h.code p s
    let v := noticed r u
    readable r h.code p s = true → headerStatus r p = 0 → openSlot u r.session.toNat = some x → x.src = r.src → r.epoch.toNat = x.epoch →
    (x.authed = true ∨ h.code = 2 ∨ h.code = 5) → r.cls.toNat = h.cls → roleNeeded h.code x p ≤ x.role →
    behind (seqD x r.seq) = true → marked x (seqD x r.seq) = true →
      (∀ q o c reps js k n st, keyGet r.tag.toNat x.tags = some (.ended q o c reps js k n st) →
        (q = r.seq.toNat ∧ o = h.code ∧ c = r.cls.toNat → exec (h.row r p) s = .next (sendReplies x.src x.epoch true reps v)) ∧
        (¬(q = r.seq.toNat ∧ o = h.code ∧ c = r.cls.toNat) → exec (h.row r p) s = .next (reject r h.code stDuplicate false [] v))) ∧
      (∀ q o c e j, keyGet r.tag.toNat x.tags = some (.inFlight q o c e) → findEntry s e = some j →
        (q = r.seq.toNat ∧ o = h.code ∧ c = r.cls.toNat → exec (h.row r p) s =
          .next (sendReply x.src ((replyOf r h.code (if j.k = 0 then stAccepted else stPartial) (progressBytes j)).packet x.epoch false) v)) ∧
        (¬(q = r.seq.toNat ∧ o = h.code ∧ c = r.cls.toNat) → exec (h.row r p) s = .next (reject r h.code stDuplicate false [] v))) ∧
      ((∀ q o c fs l t0 t1 sp, keyGet r.tag.toNat x.tags ≠ some (.reassembling q o c fs l t0 t1 sp)) →
        ∃ t : State, exec (h.row r p) s = .next t ∧ Only [.host, .out] s t ∧ t.host.cmds = s.host.cmds ∧ t.host.journal = s.host.journal)

/-- A command of one packet that ends leaves its journal entry final with its status, its final reply retained on its tag under its sequence
number, and no place in the window: nothing of it is in flight. -/
def Obligations.EndedCommand : Prop :=
  ∀ (code cls n : Nat) (r : Req) (p : List Byte) (s : State) (x : Session), Fresh code cls n r p s x →
    ∀ (js : JState) (k status : Nat) (reply : List Byte) (first : Option Nat),
      let c := cmdOf code cls n r p s
      let t := endCmd c js k status reply first (admitted code cls n r p s)
      Only [.host, .out] s t ∧ findCmd t c.entry = none ∧
        (∀ d ∈ s.host.cmds, d ∈ t.host.cmds) ∧ (∃ j : JEntry, findEntry t c.entry = some j ∧ j.state = js ∧ j.status = status ∧ j.k = k) ∧
        ∃ reps : List Reply, (openSlot t r.session.toNat).bind (fun y => keyGet r.tag.toNat y.tags) =
          some (.ended r.seq.toNat code cls reps js.code k n status)

/-- SESSION_OPEN takes the lowest free slot, issues the next epoch and a challenge, binds the session to its source, and begins no command;
where a condition of R49 bars it, nothing of the sessions changes. That it takes no journal entry is the model's choice (log 15). Rows that
complete here: sessionOpen. -/
def Obligations.SessionOpens : Prop :=
  ∀ (r : Req) (p : List Byte) (s : State),
    let u := takeBuffer r 1 p s
    readable r 1 p s = true → headerStatus r p = 0 →
      (openStatus r.src p u = 0 → ∃ i : Nat, freeSlot u = some i ∧ ∃ t : State, exec (.sessionOpen r p) s = .next t ∧ openSlot t (i + 1) = some (openedSession r.src p u) ∧ (∀ n, n ≠ i + 1 → openSlot t n = openSlot s n) ∧
        t.host.epochCounter = nextEpoch s.host.epochCounter ∧ t.host.journal = s.host.journal ∧ t.host.cmds = s.host.cmds ∧
        Only [.host, .out] s t) ∧
      (openStatus r.src p u ≠ 0 → ∃ t : State, exec (.sessionOpen r p) s = .next t ∧ t.host.sessions = s.host.sessions ∧ t.host.epochCounter = s.host.epochCounter ∧ Only [.host, .out] s t)

/-- SESSION_AUTH with the right proof authenticates the session under the role asked for; SESSION_PING replies with the period index;
SESSION_CLOSE replies and closes the slot; SESSION_RESYNC issues a new epoch, resets the sequence window to the number before S0 and keeps
only the tags in flight; TAG_ABORT answers for a free, an ended and a reassembling tag, ends a command of which no step has begun, and lets
a step begun run to its end (log 184, 185). Rows that complete here: sessionPing, sessionAuth, sessionClose, sessionResync, tagAbort. -/
def Obligations.SessionRows : Prop :=
  Reads 0x0004 1 .sessionPing (fun c _ => c.params = []) (fun _ s => be 8 (periodIndex s)) ∧
  Acts 0x0002 1 1 .sessionAuth
    (fun c s => ∃ x : Session, openSlot s c.slot = some x ∧ x.authed = false ∧ c.params.length = 16 ∧
      c.params = proof (roleKey s x.wantRole) x.challenge x.nonce c.slot x.epoch x.wantRole 1 ∧ ¬(x.wantRole = 3 ∧ commissionerHeld c.slot s = true))
    (fun c s => modSlot c.slot (fun y => { y with authed := true, role := ((openSlot s c.slot).getD sessionReset).wantRole }) s)
    (fun c s => let x := (openSlot s c.slot).getD sessionReset
      be 1 x.wantRole ++ be 1 0 ++ proof (roleKey s x.wantRole) x.challenge x.nonce c.slot x.epoch x.wantRole 2)
    (fun _ _ => none) ∧
  (∀ (r : Req) (s : State) (x : Session), Fresh 0x0005 1 1 r [] s x →
    let c := cmdOf 0x0005 1 1 r [] s
    exec (.sessionClose r []) s = .next (closeSession c.slot (endCmd c .done 1 0 [] none (admitted 0x0005 1 1 r [] s)))) ∧
  (∀ (r : Req) (p : List Byte) (s : State) (x : Session),
    readable r 3 p s = true → headerStatus r p = 0 → openSlot s r.session.toNat = some x → x.src = r.src →
    r.epoch.toNat = x.epoch → x.authed = true → r.cls.toNat = 1 → roleOf 3 ≤ x.role → bowRaised s = false → 1 ≤ r.burst →
    (∀ d ∈ s.host.cmds, d.entry < s.host.nextEntry) → p.length = 22 → byteAt p 4 = 0 → byteAt p 5 = 0 → slice p 6 16 = zeros 16 →
    ∃ t : State, exec (.sessionResync r p) s = .next t ∧ Only [.host, .out] s t ∧ ∃ y : Session, openSlot t r.session.toNat = some y ∧
      y.epoch = nextEpoch s.host.epochCounter ∧ y.epoch = t.host.epochCounter ∧ y.high = BitVec.ofNat 32 (fieldU p 0 4 + 2 ^ 32 - 1) ∧
      y.src = x.src ∧ y.authed = true ∧ y.role = x.role ∧ ∀ g ∈ y.tags, tagInFlight g = true) ∧
  Acts 0x0006 1 1 .tagAbort
    (fun c s => c.params.length = 1 ∧ byteAt c.params 0 ≤ 127 ∧ (openSlot s c.slot).bind (fun x => keyGet (byteAt c.params 0) x.tags) = none)
    (fun _ s => s) (fun _ _ => be 6 0) (fun _ _ => none) ∧
  (∀ (q o cl : Nat) (reps : List Reply) (js k n st : Nat), Acts 0x0006 1 1 .tagAbort
    (fun c s => c.params.length = 1 ∧ byteAt c.params 0 ≤ 127 ∧ (openSlot s c.slot).bind (fun x => keyGet (byteAt c.params 0) x.tags) =
      some (.ended q o cl reps js k n st))
    (fun _ s => s) (fun _ _ => be 1 js ++ be 1 k ++ be 1 n ++ be 1 0 ++ be 2 st) (fun _ _ => none)) ∧
  (∀ (q o cl : Nat) (fs : List (Nat × List Byte)) (l : Option Nat) (t0 t1 : Nat) (sp : Bool), Acts 0x0006 1 1 .tagAbort
    (fun c s => c.params.length = 1 ∧ byteAt c.params 0 ≤ 127 ∧ (openSlot s c.slot).bind (fun x => keyGet (byteAt c.params 0) x.tags) =
      some (.reassembling q o cl fs l t0 t1 sp))
    (fun c s => abandonTag c.slot (byteAt c.params 0) stAbortedByHost s) (fun _ _ => be 4 0 ++ be 2 stAbortedByHost) (fun _ _ => none)) ∧
  (∀ (q o cl e : Nat) (d : Cmd), Acts 0x0006 1 1 .tagAbort
    (fun c s => c.params.length = 1 ∧ byteAt c.params 0 ≤ 127 ∧ (openSlot s c.slot).bind (fun x => keyGet (byteAt c.params 0) x.tags) =
      some (.inFlight q o cl e) ∧ findCmd s e = some d ∧ e ≠ c.entry ∧ d.cls ≠ 0 ∧ d.busy = false)
    (fun _ s => endCmd d .aborted d.k stAbortedByHost [] none s)
    (fun _ _ => be 1 5 ++ be 1 d.k ++ be 1 d.n ++ be 1 0 ++ be 2 stAbortedByHost) (fun _ _ => none)) ∧
  (∀ (q o cl e : Nat) (d : Cmd) (j : JEntry), Acts 0x0006 1 1 .tagAbort
    (fun c s => c.params.length = 1 ∧ byteAt c.params 0 ≤ 127 ∧ (openSlot s c.slot).bind (fun x => keyGet (byteAt c.params 0) x.tags) =
      some (.inFlight q o cl e) ∧ findCmd s e = some d ∧ findEntry s e = some j ∧ e ≠ c.entry ∧ d.cls ≠ 0 ∧ d.busy = true)
    (fun _ s => modCmd e (fun x => { x with abort := true }) s)
    (fun _ _ => be 1 j.state.code ++ be 1 d.k ++ be 1 d.n ++ be 1 0 ++ be 2 0) (fun _ _ => none))

/-- JOURNAL_QUERY replies with the latest entry of a session, epoch, tag and sequence number, or the block of no entry; JOURNAL_LIST with
the entries of a session and epoch from an entry on; JOURNAL_REJECTS with the rejection record of a slot. Rows that complete here:
journalQuery, journalList, journalRejects. -/
def Obligations.JournalRows : Prop :=
  Reads 0x0D01 1 .journalQuery (fun c _ => c.params.length = 10 ∧ byteAt c.params 5 = 0)
    (fun c s => ((entries s).reverse.find? (fun j => j.session == fieldU c.params 0 2 && j.epoch == fieldU c.params 2 2 &&
      j.tag == fieldU c.params 4 1 && j.seq == fieldU c.params 6 4)).elim
        (noEntry (fieldU c.params 0 2) (fieldU c.params 2 2) (fieldU c.params 4 1) (fieldU c.params 6 4)) JEntry.bytes) ∧
  Reads 0x0D02 3 .journalList (fun c _ => c.params.length = 10 ∧ 1 ≤ fieldU c.params 8 2 ∧ fieldU c.params 8 2 ≤ 1024)
    (fun c s => let l := ((entries s).filter (fun j => j.session == fieldU c.params 0 2 && j.epoch == fieldU c.params 2 2 &&
        decide (fieldU c.params 4 4 ≤ j.entry))).take (fieldU c.params 8 2)
      be 2 l.length ++ be 2 0 ++ l.flatMap (·.bytes)) ∧
  Reads 0x0D03 1 .journalRejects (fun c s => c.params.length = 2 ∧ (slotNo s (fieldU c.params 0 2)).isSome)
    (fun c s => let x := (slotNo s (fieldU c.params 0 2)).getD sessionReset
      be 4 x.rejCount ++ padTo 20 x.rejLast) ∧
  Refuses 0x0D03 1 1 .journalRejects (fun c s => c.params.length = 2 ∧ slotNo s (fieldU c.params 0 2) = none) stUnknownObject

/-- CONFIG_GET replies with a parameter's type, LIVE, staged value and value in force; TABLE_READ and TABLE_INFO with a table's body, length
and CRC; SIGNAL_INFO with a signal's type, unit, source and name; SIGNAL_READ with the values asked for, and under SPEC_OK over a completed
chain with PARISON first, waiting for its result. Rows that complete here: configGet, tableRead, tableInfo, signalInfo, signalRead. -/
def Obligations.ConfigReads : Prop :=
  Reads 0x0104 1 .configGet (fun c _ => c.params.length = 2 ∧ (paramDef (fieldU c.params 0 2)).isSome)
    (fun c s => let id := fieldU c.params 0 2
      be 2 id ++ be 1 (((paramDef id).map (·.ty)).getD 0) ++ be 1 (b2n (((paramDef id).map (·.live)).getD false)) ++
        be 8 (valueIn s.cfg.staged id).toNat ++ be 8 (inForce s id)) ∧
  Refuses 0x0104 1 1 .configGet (fun c _ => c.params.length = 2 ∧ paramDef (fieldU c.params 0 2) = none ∧ isReport (fieldU c.params 0 2) = false)
    stUnknownObject ∧
  Reads 0x0104 1 .configGet (fun c _ => c.params.length = 2 ∧ paramDef (fieldU c.params 0 2) = none ∧ isReport (fieldU c.params 0 2) = true)
    (fun c s => be 2 (fieldU c.params 0 2) ++ be 1 4 ++ be 1 0 ++ zeros 8 ++ be 8 (inForce s (fieldU c.params 0 2))) ∧
  Reads 0x0111 3 .tableRead
    (fun c _ => c.params.length = 12 ∧ byteAt c.params 2 ≤ 1 ∧ byteAt c.params 3 = 0 ∧ fieldU c.params 8 4 ≤ 92148 ∧ noTable (fieldU c.params 0 2) = false)
    (fun c s => let b := tableBody s (fieldU c.params 0 2) (byteAt c.params 2 == 1)
      c.params.take 3 ++ be 1 0 ++ be 4 b.length ++ be 4 (crcNat b) ++ slice b (fieldU c.params 4 4) (fieldU c.params 8 4)) ∧
  Reads 0x0112 1 .tableInfo (fun c _ => c.params.length = 2 ∧ noTable (fieldU c.params 0 2) = false)
    (fun c s => let id := fieldU c.params 0 2
      let b := tableBody s id false
      let t := tableBody s id true
      let d := (tabDef id).getD ⟨id, false, b.length⟩
      be 2 id ++ be 1 (b2n d.live) ++ be 1 0 ++ be 4 d.maxLen ++ be 4 b.length ++ be 4 (crcNat b) ++ be 4 t.length ++ be 4 (crcNat t)) ∧
  Reads 0x0202 3 .signalInfo (fun c s => c.params.length = 2 ∧ (sigType s (fieldU c.params 0 2)).isSome)
    (fun c s => let id := fieldU c.params 0 2
      be 2 id ++ be 1 ((sigType s id).getD 0) ++ be 1 (sigUnit s id) ++ be 1 (sigSource s id) ++ be 1 0 ++ sigName s id) ∧
  Reads 0x0201 1 .signalRead
    (fun c s => 2 ≤ c.params.length ∧ c.params.length = 2 + 2 * fieldU c.params 0 2 ∧ 1 ≤ fieldU c.params 0 2 ∧ fieldU c.params 0 2 ≤ 1024 ∧
      (∀ i ∈ readIds c.params, (sigType s i).isSome) ∧ (c.specOk = false ∨ (∀ ch, s.sch.chain = some ch → ch.done = false) ∨ parisonIds (readIds c.params) = false))
    (fun c s => readReply s c.params) ∧
  (∀ (r : Req) (p : List Byte) (s : State) (x : Session) (ch : Chain), Fresh 0x0201 1 1 r p s x → s.sch.chain = some ch → ch.done = true →
    2 ≤ p.length → p.length = 2 + 2 * fieldU p 0 2 → 1 ≤ fieldU p 0 2 → fieldU p 0 2 ≤ 1024 → (∀ i ∈ readIds p, (sigType s i).isSome) →
    isSpecOk r = true → parisonIds (readIds p) = true → ∃ t : State, exec (.signalRead r p) s = .next t ∧ Only [.host, .sch, .out] s t ∧
      t.sch.waiting = s.sch.waiting ++ [(s.host.nextEntry, ch.period)] ∧ (findCmd t s.host.nextEntry).map (·.data) = some [ch.period] ∧
      (findEntry t s.host.nextEntry).map (·.parisonSent) = some true)

/-- CONFIG_UNLOCK unlocks in STANDBY, with no change of mode waiting; CONFIG_SET stages a value and, for a LIVE parameter, leaves it for its
first period in force; TABLE_WRITE passes its four steps, writes the body to its MRAM place, stages it and, for a LIVE table, leaves it for
its first period in force; CONFIG_LOCK writes the staged configuration into the locked image, locks, and replies with its CRC and first
period. Each refuses under the conditions given: a locked configuration, a mode other than STANDBY, device time not set, a staged
configuration that its rules refuse. Rows that complete here: configUnlock, configSet, tableWrite, configLock. -/
def Obligations.ConfigWrites : Prop :=
  Acts 0x0102 1 1 .configUnlock (fun c s => c.params = [] ∧ inStandby s = true ∧ s.cfg.locked = true)
    (fun _ s => { s with cfg := { s.cfg with locked := false } }) (fun _ _ => []) (fun _ _ => none) ∧
  Refuses 0x0102 1 1 .configUnlock (fun c s => c.params = [] ∧ inStandby s = false) stNotStandby ∧
  Refuses 0x0102 1 1 .configUnlock (fun c s => c.params = [] ∧ inStandby s = true ∧ s.cfg.locked = false) stConfigUnlocked ∧
  Acts 0x0103 1 1 .configSet (fun c s => configSetCheck c s = 0 ∧ ((paramDef (fieldU c.params 0 2)).map (·.live)).getD false = false)
    (fun c s => let id := fieldU c.params 0 2
      let v : Value := BitVec.ofNat 64 (fieldU c.params 4 8)
      oneShot id v (stageParam id v false s)) (fun _ _ => []) (fun _ _ => none) ∧
  Acts 0x0103 1 1 .configSet (fun c s => configSetCheck c s = 0 ∧ ((paramDef (fieldU c.params 0 2)).map (·.live)).getD false = true)
    (fun c s => let id := fieldU c.params 0 2
      let v : Value := BitVec.ofNat 64 (fieldU c.params 4 8)
      pushEffect c.opcode c.params (.param id v) (oneShot id v (stageParam id v true s))) (fun _ _ => [])
    (fun c s => let id := fieldU c.params 0 2
      let v : Value := BitVec.ofNat 64 (fieldU c.params 4 8)
      some (firstPeriod (pushEffect c.opcode c.params (.param id v) (oneShot id v (stageParam id v true s))))) ∧
  (∀ (r : Req) (p : List Byte) (s : State) (x : Session), Fresh 0x0110 1 4 r p s x →
    let c := cmdOf 0x0110 1 4 r p s
    let u := admitted 0x0110 1 4 r p s
    let id := fieldU p 0 2
    let b := p.drop 12
    let live := ((tabDef id).map (·.live)).getD false
    let u1 := committed c 1 { u with cfg := { u.cfg with stagingBuf := keyPut id b u.cfg.stagingBuf } }
    let u2 := committed c 2 u1
    let u3 := committed c 3 { u2 with cfg := { u2.cfg with mramTabs := putTab id b u2.cfg.mramTabs } }
    let u4 := installTable id b live (if id = 0x0400 then frontEndWritten u3 else u3)
    (tableWriteCheck c u = 0 → fieldU p 8 4 = crcNat b → (acqTable id && stopsPending u1) = false → tableStep2 live id b u1 = 0 →
      exec (.tableWrite r p) s = .next (if live then endCmd c .done 4 0 [] (some (firstPeriod (pushEffect c.opcode c.params (.table id b) u4)))
          (pushEffect c.opcode c.params (.table id b) u4)
        else endCmd c .done 4 0 [] none u4)) ∧
    (tableWriteCheck c u = 0 → fieldU p 8 4 ≠ crcNat b → exec (.tableWrite r p) s = .next (endCmd c .aborted 0 stTableCrc [] none u))) ∧
  (∀ (r : Req) (s : State) (x : Session), Fresh 0x0101 1 2 r [] s x →
    let c := cmdOf 0x0101 1 2 r [] s
    let u := admitted 0x0101 1 2 r [] s
    let u1 := committed c 1 (writeImage u)
    let u2 := pushEffect c.opcode c.params (.lock u1.cfg.image u1.cfg.imageTabs) (completeLock c u1)
    let v := pushEffect c.opcode c.params (.lock u1.cfg.image u1.cfg.imageTabs) u1
    inStandby s = true → s.cfg.locked = false → timeValid s = true → lockOk u = true → ownStructsFit u = true →
    exec (.configLock r []) s = .next (endCmd c .done 2 0
      (be 4 (crcNat (crcString u1.cfg.image u1.cfg.imageTabs)) ++ be 8 (firstPeriod v)) (some (firstPeriod u2)) u2)) ∧
  Refuses 0x0101 1 2 .configLock (fun c s => c.params = [] ∧ inStandby s = false) stNotStandby ∧
  Refuses 0x0101 1 2 .configLock (fun c s => c.params = [] ∧ inStandby s = true ∧ s.cfg.locked = true) stConfigLocked ∧
  Refuses 0x0101 1 2 .configLock (fun c s => c.params = [] ∧ inStandby s = true ∧ s.cfg.locked = false ∧ timeValid s = false) stTimeNotSet ∧
  Refuses 0x0101 1 2 .configLock (fun c s => c.params = [] ∧ inStandby s = true ∧ s.cfg.locked = false ∧ timeValid s = true ∧ lockOk s = false)
    stInconsistent

/-- MODE_SET, SETPOINT_SET, JOYSTICK_SET, SOURCE_SELECT and THRUSTER_AVAIL, accepted, leave their effect for the first period in force; in
force, THRUSTER_AVAIL sets the mask and clears the FAULT of the actuator channels of the thrusters it makes available. CONTROL_STATUS and
SETPOINT_GET reply. MODE_SET to a mode other than STANDBY is refused while the configuration is unlocked, and while the safety parameters
are not confirmed. Rows that complete here: modeSet, setpointSet, joystickSet, sourceSelect, thrusterAvail, controlStatus, setpointGet. -/
def Obligations.ControlCommands : Prop :=
  Posts 0x0301 1 .modeSet (fun c s => modeSetCheck c s = 0) (fun c _ => .mode (byteAt c.params 0)) (fun c _ => be 1 (byteAt c.params 0)) ∧
  Refuses 0x0301 1 1 .modeSet (fun c s => c.params.length = 1 ∧ byteAt c.params 0 ≤ 6 ∧ byteAt c.params 0 ≠ 0 ∧ controlBarred s = 0 ∧ s.cfg.locked = false)
    stConfigUnlocked ∧
  Refuses 0x0301 1 1 .modeSet (fun c s => c.params.length = 1 ∧ byteAt c.params 0 ≤ 6 ∧ byteAt c.params 0 ≠ 0 ∧ controlBarred s = 0 ∧ s.cfg.locked = true ∧
    safConfirmed s = false) stNotConfirmed ∧
  Posts 0x0310 1 .setpointSet (fun c s => setpointCheck c s = 0) (fun c _ => .setpoint c.params) (fun _ _ => []) ∧
  Posts 0x0320 1 .joystickSet
    (fun c s => c.params.length = 12 ∧ ([0, 4, 8].all fun o => fin32 (rat (-1) 1) (rat 1 1) (fieldF32 c.params o)) = true ∧ controlBarred s = 0 ∧
      joyMode s.ctl.mode = true) (fun c _ => .joystick c.params) (fun _ _ => []) ∧
  Posts 0x0210 1 .sourceSelect
    (fun c s => c.params.length = 2 ∧ byteAt c.params 1 ≤ 1 ∧ controlBarred s = 0 ∧ sourceKnown s (byteAt c.params 0) = true)
    (fun c _ => .source (byteAt c.params 0) (byteAt c.params 1))
    (fun c s => be 1 (byteAt c.params 0) ++ be 1 (selectReply s (byteAt c.params 0) (byteAt c.params 1))) ∧
  Posts 0x0330 1 .thrusterAvail
    (fun c s => c.params.length = 4 ∧ fieldU c.params 0 4 &&& configuredMask s = fieldU c.params 0 4 ∧ controlBarred s = 0)
    (fun c _ => .avail (fieldU c.params 0 4) (fieldU c.params 0 4)) (fun c _ => c.params) ∧
  (∀ (m k : Nat) (s : State) (i : Nat) (a b : Thr), s.thr.thr[i]? = some a → (availIn m k s).thr.thr[i]? = some b →
    (availIn m k s).thr.mask = m ∧ (bitOf k i = true → b.prop.fault = false ∧ b.steer.fault = false) ∧ (bitOf k i = false → b = a)) ∧
  Reads 0x0302 1 .controlStatus (fun c _ => c.params = [])
    (fun _ s => be 1 s.ctl.mode ++ be 1 0 ++ (if s.sch.rec5.isEmpty then be 2 0 ++ be 8 (allOnes 64) ++ zeros 12
      else be 2 s.ctl.alarms ++ slice s.sch.rec5 0 8 ++ s.ctl.demand.flatMap fun x => be 4 x.toNat)) ∧
  Reads 0x0311 1 .setpointGet (fun c _ => c.params = [])
    (fun _ s => let g := setpointShown s.ctl
      let geo (q : F64 × F64) : List Byte := be 8 (toGeodetic s q.1 q.2).1.toNat ++ be 8 (toGeodetic s q.1 q.2).2.toNat
      geo g.1 ++ be 4 g.2.toNat ++ geo (toD (pair s.ctl.pos)) ++ be 4 s.ctl.psi.toNat)

/-- Outside DET a stop command takes its effect at once, sends the STOP to the cascade and replies with the period index; under DET it waits
for the next TP boundary with nothing changed but the command in flight. Rows that complete here: thrustStop, safeStop. -/
def Obligations.StopCommands : Prop :=
  (∀ (r : Req) (s : State) (x : Session), Fresh 0x03F0 0 1 r [] s x → isDet s = false →
    let c := cmdOf 0x03F0 0 1 r [] s
    let u := admitted 0x03F0 0 1 r [] s
    exec (.thrustStop r []) s = .next (endCmd c .done 1 0 (be 8 (periodIndex u)) none (stopHere 0x03F0 u))) ∧
  (∀ (r : Req) (s : State) (x : Session), Fresh 0x08F0 0 1 r [] s x → isDet s = false →
    let c := cmdOf 0x08F0 0 1 r [] s
    let u := admitted 0x08F0 0 1 r [] s
    exec (.safeStop r []) s = .next (endCmd c .done 1 0 (be 8 (periodIndex u)) none (stopHere 0x08F0 u))) ∧
  (∀ (r : Req) (s : State) (x : Session), isDet s = true →
    (Fresh 0x03F0 0 1 r [] s x → exec (.thrustStop r []) s =
      .next (modCmd s.host.nextEntry (fun c => { c with busy := true, data := [] }) (admitted 0x03F0 0 1 r [] s))) ∧
    (Fresh 0x08F0 0 1 r [] s x → exec (.safeStop r []) s =
      .next (modCmd s.host.nextEntry (fun c => { c with busy := true, data := [] }) (admitted 0x08F0 0 1 r [] s))))

/-- GNSS_STATUS, GNSS_RAW_READ and NAV_BITS_READ reply with what the baseband holds, and are refused NOT_READY before the first epoch;
RTCM_INPUT takes the frames of its body and replies with how many it took and how many it did not. Rows that complete here: gnssStatus,
gnssRawRead, navBitsRead, rtcmInput. -/
def Obligations.GnssCommands : Prop :=
  Reads 0x0401 1 .gnssStatus (fun c s => c.params = [] ∧ gnssUp s = true ∧ s.gnss.epoch.isSome) (fun _ s => gnssStatus s) ∧
  Refuses 0x0401 1 1 .gnssStatus (fun c s => c.params = [] ∧ (gnssUp s = false ∨ s.gnss.epoch = none)) stNotReady ∧
  Reads 0x0402 3 .gnssRawRead
    (fun c s => c.params.length = 6 ∧ (byteAt c.params 0 ≤ 2 ∨ byteAt c.params 0 = 0xFF) ∧ byteAt c.params 1 = 0 ∧ 1 ≤ fieldU c.params 4 2 ∧
      fieldU c.params 4 2 ≤ 256 ∧ gnssUp s = true ∧ s.gnss.rawEpoch.isSome)
    (fun c s => rawBody s (byteAt c.params 0) (fieldU c.params 2 2) (fieldU c.params 4 2)) ∧
  Reads 0x0404 3 .navBitsRead (fun c _ => c.params.length = 2 ∧ fieldU c.params 0 2 ≤ 255)
    (fun c s => navRecord (fieldU c.params 0 2) (chanOf s (fieldU c.params 0 2))) ∧
  Acts 0x0403 1 1 .rtcmInput (fun c _ => 2 ≤ c.params.length ∧ c.params.length = 2 + fieldU c.params 0 2)
    (fun c s => (takeFrames c.params.length (c.params.drop 2) s 0 0).1)
    (fun c s => let f := takeFrames c.params.length (c.params.drop 2) s 0 0
      be 2 (satU 16 f.2.1) ++ be 2 (satU 16 f.2.2)) (fun _ _ => none)

/-- TIME_GET replies with the counter, the state and the error; TIME_SET sets the counter while device time is UNSET and is refused
TIME_ALREADY_SET afterwards; TIME_RATE writes the rate within its limits; TX_STAMP_READ takes stamps off the queue; TIME_STEP announces its
step, which stays pending for its instant, and waits. Rows that complete here: timeGet, timeSet, timeRate, txStampRead, timeStep. -/
def Obligations.TimeCommands : Prop :=
  Reads 0x0501 1 .timeGet (fun c _ => c.params = [])
    (fun _ s => be 8 s.time.sec ++ be 4 (if timeValid s then s.time.ns else 2 ^ 32 - 1) ++ be 2 (s.time.frac / 65536) ++
      be 1 (tstateCode s.time.state) ++ be 1 0 ++ be 4 (errNs s)) ∧
  Acts 0x0502 1 1 .timeSet
    (fun c s => c.params.length = 12 ∧ badNs c 8 = 0 ∧ isFollower s = false ∧ timeValid s = false ∧ s.cfg.locked = false)
    (fun c s => initialStep (timeField c 0) 0 .free s) (fun _ _ => []) (fun _ _ => none) ∧
  Refuses 0x0502 1 1 .timeSet (fun c s => c.params.length = 12 ∧ badNs c 8 = 0 ∧ isFollower s = false ∧ timeValid s = true) stTimeAlreadySet ∧
  Acts 0x0504 1 1 .timeRate
    (fun c s => let r := num64 (fieldF64 c.params 0)
      c.params.length = 8 ∧ rateInRange r = true ∧ timeValid s = true ∧ isFollower s = false ∧ pNat s 0x0502 ≠ 0 ∧
        (r.add (rateOf s.time.incr).neg).abs.le (Num.ofInt (pNat s 0x0504)) = true)
    (fun c s => writeRate (num64 (fieldF64 c.params 0)) s)
    (fun c s => be 8 (writeRate (num64 (fieldF64 c.params 0)) s).time.rate.toNat) (fun _ _ => none) ∧
  (∀ (r : Req) (p : List Byte) (s : State) (x : Session), Fresh 0x0505 1 1 r p s x → p.length = 1 → 1 ≤ byteAt p 0 → byteAt p 0 ≤ 100 →
    ∃ t : State, exec (.txStampRead r p) s = .next t ∧ t.time.txQueue = s.time.txQueue.drop (byteAt p 0) ∧ t.time.txOverflow = false ∧
      Only [.time, .host, .evt, .out] s t ∧
          t.time = { s.time with txQueue := t.time.txQueue, txOverflow := false, txEpisode := t.time.txEpisode, txDiscarded := t.time.txDiscarded }) ∧
  (∀ (r : Req) (p : List Byte) (s : State) (x : Session), Fresh 0x0503 1 1 r p s x →
    let c := cmdOf 0x0503 1 1 r p s
    let i := ((s.time.total + b2n (s.time.frac != 0) + 10000000 + 999999) / 1000000) * 1000000
    p.length = 12 → badNs c 8 = 0 → isFollower s = false → timeValid s = true → ∃ t : State, exec (.timeStep r p) s = .next t ∧ t.time = { s.time with steps := s.time.steps ++ [{ delta := (timeField c 0 : Int) - s.time.total, instant := i, origin := 0, count := (s.time.stepCount + 1) % 65536, entry := some c.entry }], ppsFall := t.time.ppsFall } ∧
        t.time.ppsFall ≤ s.time.ppsFall ∧
      (findCmd t c.entry).map (·.data) = some [i] ∧ Only [.time, .host, .grp, .out] s t)

/-- STRUCT_LOAD passes its two steps and makes the structure resident on a tile with room; STRUCT_UPDATE replaces the values of entries of a
resident structure; STRUCT_DROP removes a structure and its retained solution; SOLVE solves over the resident structure, retains the result
and replies with it. Rows that complete here: structLoad, structUpdate, structDrop, solve. -/
def Obligations.SolverCommands : Prop :=
  (∀ (r : Req) (p : List Byte) (s : State) (x : Session) (n : Nat), Fresh 0x0601 1 2 r p s x →
    let c := cmdOf 0x0601 1 2 r p s
    let u := admitted 0x0601 1 2 r p s
    let t := loadStruct p
    let v := committed c 1 u
    structLoadCheck c u = 0 → placeStruct u (byteAt p 0) t.bytes (promises c.entry u) = some n →
    exec (.structLoad r p) s = .next (endCmd c .done 2 0 [] none { v with slv := { v.slv with structs := keyPut (byteAt p 0) { t with tile := n } v.slv.structs } })) ∧
  (∀ t : Struct, Acts 0x0602 2 1 .structUpdate (fun c s => structUpdateCheck c s = 0 ∧ structOf s (byteAt c.params 0) = some t)
    (fun c s => let t' : Struct := { t with entries := updateEntries (entriesAt c.params 12 (fieldU c.params 2 2)) t.entries }
      { s with slv := { s.slv with structs := keyPut (byteAt c.params 0) t' s.slv.structs } })
    (fun _ _ => []) (fun _ _ => none)) ∧
  Acts 0x0604 1 1 .structDrop (fun c s => c.params.length = 1 ∧ byteAt c.params 0 ≤ 55 ∧ (structOf s (byteAt c.params 0)).isSome)
    (fun c s => { s with slv := { s.slv with structs := keyDel (byteAt c.params 0) s.slv.structs,
                                             retained := keyDel (byteAt c.params 0) s.slv.retained } }) (fun _ _ => []) (fun _ _ => none) ∧
  Refuses 0x0604 1 1 .structDrop (fun c s => c.params.length = 1 ∧ byteAt c.params 0 ≤ 55 ∧ structOf s (byteAt c.params 0) = none) stStructureUnknown ∧
  (∀ (r : Req) (p : List Byte) (s : State) (x : Session) (t : Struct), Fresh 0x0603 2 1 r p s x →
    let c := cmdOf 0x0603 2 1 r p s
    let u := admitted 0x0603 2 1 r p s
    let w := accessDomains 2 (solverTile (byteAt p 0) u) u
    let h := hostSolve c t (lateLimit c w) w
    let e := if h.1.status = stDeadlineMiss ∧ h.2 = true then deadlineEvent (byteAt p 0) h.1 h.2 w else w
    solveCheck c u = 0 → structOf u (byteAt p 0) = some t → (domainsUp (solverTile (byteAt p 0) u) w = true ∨ (lateLimit c w).isSome) →
    h.1.status ≠ stInconsistent →
    exec (.solve r p) s = .next (endCmd c .done 1 (solveStatus h.1 h.2) (be 2 h.1.iter ++ be 1 (b2n h.1.feasible) ++ be 1 0 ++ be 8 h.1.residual.toNat ++
      h.1.x.flatMap fun y => be 8 y.toNat) none (leaveSolver (byteAt p 0) c.entry (retain (byteAt p 0) t h.1 e))))

/-- MAP_WRITE passes its two steps, clears the provisional nodes it writes over and leaves its records for the first period in force;
MAP_READ replies with the slots asked for and MAP_STATUS with the block of Table 10-9. Rows that complete here: mapWrite, mapRead,
mapStatus. -/
def Obligations.MapCommands : Prop :=
  (∀ (r : Req) (p : List Byte) (s : State) (x : Session), Fresh 0x0610 3 2 r p s x → mapWriteCheck (cmdOf 0x0610 3 2 r p s) s = 0 →
    ∃ t : State, exec (.mapWrite r p) s = .next t ∧ t.slv.mapLost = false ∧ t.slv.prov = s.slv.prov.filter (fun q => !((mapRecords p).any fun e => e.1 == q.1)) ∧
      t.slv.map = s.slv.map ∧ t.slv.gen = s.slv.gen ∧ t.sch.pend = s.sch.pend ++ [⟨s.time.total, 0x0610, p, .nodes (mapRecords p) none⟩] ∧
      findCmd t s.host.nextEntry = none ∧ Only [.host, .slv, .sch, .out] s t) ∧
  Reads 0x0611 3 .mapRead
    (fun c _ => c.params.length = 8 ∧ 1 ≤ fieldU c.params 4 4 ∧ fieldU c.params 4 4 ≤ 5759 ∧ fieldU c.params 0 4 + fieldU c.params 4 4 ≤ mapSlots)
    (fun c s => c.params ++ (List.range (fieldU c.params 4 4)).flatMap fun i => padTo 16 ((nodeRec s (fieldU c.params 0 4 + i)).getD [])) ∧
  Reads 0x0612 1 .mapStatus (fun c _ => c.params = []) (fun _ s => mapStatusBlock s)

/-- GROUP_STATUS and HEALTH_READ reply; ROLE_SET changes the role in STANDBY; HANDOVER_REQUEST to a device that may take over begins a
handover with the next epoch and waits for its end. Rows that complete here: groupStatus, roleSet, healthRead, handoverRequest. -/
def Obligations.GroupCommands : Prop :=
  Reads 0x0701 1 .groupStatus (fun c _ => c.params = []) (fun _ s => groupStatusBlock s) ∧
  Acts 0x0702 1 1 .roleSet (fun c s => c.params.length = 1 ∧ byteAt c.params 0 ≤ 3 ∧ s.ctl.mode = 0 ∧ roleSetBad (byteAt c.params 0) s = false)
    (fun c s => takeUp (changeRole (byteAt c.params 0) s)) (fun c _ => c.params) (fun _ _ => none) ∧
  Refuses 0x0702 1 1 .roleSet (fun c s => c.params.length = 1 ∧ byteAt c.params 0 ≤ 3 ∧ s.ctl.mode ≠ 0) stNotStandby ∧
  Reads 0x0704 1 .healthRead (fun c s => c.params.length = 1 ∧ (byteAt c.params 0 = deviceNo s ∨ byteAt c.params 0 ≤ 3 ∧
      ∃ n, (peerOf s (byteAt c.params 0)).healthPeriod = some n ∧ periodIndex s ≤ n + 3))
    (fun c s => let h := (peerOf s (byteAt c.params 0)).health
      if h.isEmpty then healthReport (periodIndex s) s else h) ∧
  Refuses 0x0703 1 1 .handoverRequest (fun c s => c.params.length = 1 ∧ s.grp.role ≠ 0) stNotMaster ∧
  (∀ (r : Req) (p : List Byte) (s : State) (x : Session), Fresh 0x0703 1 1 r p s x → p.length = 1 → s.grp.role = 0 →
    (byteAt p 0 = deviceNo s ∨ byteAt p 0 ≤ 3 ∧ (peerOf s (byteAt p 0)).announced = true) → handoverActive s = false →
    mayTakeOver s (byteAt p 0) = true → ∃ t : State, exec (.handoverRequest r p) s = .next t ∧ t.grp.hoCount = (s.grp.hoCount + 1) % 65536 ∧ (findCmd t s.host.nextEntry).map (·.data) = some [1] ∧ Only [.host, .grp, .out] s t ∧
      ∃ h : Handover, t.grp.ho = some h ∧ h.epoch = (s.grp.ownEpoch + 1) % 65536 ∧ h.target = byteAt p 0 ∧ h.old = deviceNo s ∧ h.cause = 4)

/-- SAFETY_STATUS replies with its block; SAFETY_PARAM_WRITE passes its three steps and stores the set unconfirmed; SAFETY_CHECK_READ
replies with the check value, and SAFETY_CHECK_CONFIRM confirms the set when the value agrees and is refused CHECK_MISMATCH when it does
not; TRIP_RESET clears the latched sources when it may; BRAKE_TEST runs its channels in turn, and waits while one runs. Rows that complete
here: safetyStatus, safetyCheckRead, safetyCheckConfirm, tripReset, safetyParamWrite, brakeTest. -/
def Obligations.SafetyCommands : Prop :=
  Reads 0x0801 1 .safetyStatus (fun c _ => c.params = []) (fun _ s => safetyBlock s) ∧
  Reads 0x0803 1 .safetyCheckRead (fun c s => c.params = [] ∧ (safSet s).isSome) (fun _ s => be 4 (checkNow s) ++ be 1 (b2n (safConfirmed s))) ∧
  Acts 0x0804 1 1 .safetyCheckConfirm (fun c s => c.params.length = 4 ∧ (safSet s).isSome ∧ fieldU c.params 0 4 = checkNow s)
    (fun c s => confirmSet c.slot s) (fun _ _ => []) (fun _ _ => none) ∧
  (∀ (r : Req) (p : List Byte) (s : State) (x : Session), Fresh 0x0804 1 1 r p s x → p.length = 4 → (safSet s).isSome → fieldU p 0 4 ≠ checkNow s →
    exec (.safetyCheckConfirm r p) s = .next (endCmd (cmdOf 0x0804 1 1 r p s) .aborted 0 stCheckMismatch [] none
      (safEvent .safetyCheckMismatch [] (admitted 0x0804 1 1 r p s)))) ∧
  Acts 0x0806 1 1 .tripReset (fun c s => c.params = [] ∧ tripClears s = true)
    (fun _ s => safEvent .safetyTripReset [] { s with saf := { s.saf with latched := 0 } }) (fun _ _ => []) (fun _ _ => none) ∧
  Refuses 0x0806 1 1 .tripReset (fun c s => c.params = [] ∧ tripClears s = false) stTripActive ∧
  (∀ (r : Req) (p : List Byte) (s : State) (x : Session), Fresh 0x0802 1 3 r p s x → 8 ≤ p.length → p.length = 8 + fieldU p 0 4 → s.ctl.mode = 0 →
    let c := cmdOf 0x0802 1 3 r p s
    let u := admitted 0x0802 1 3 r p s
    (crcNat (p.drop 8) = fieldU p 4 4 → setStatus (p.drop 8) = 0 → exec (.safetyParamWrite r p) s =
      .next (endCmd c .done 3 0 (be 4 (checkOf (p.drop 8))) none (storeSet (p.drop 8) (committed c 2 (committed c 1 u))))) ∧
    (crcNat (p.drop 8) ≠ fieldU p 4 4 → exec (.safetyParamWrite r p) s = .next (endCmd c .aborted 0 stTableCrc [] none u)) ∧
    (crcNat (p.drop 8) = fieldU p 4 4 → setStatus (p.drop 8) ≠ 0 → exec (.safetyParamWrite r p) s =
      .next (endCmd c .aborted 1 (setStatus (p.drop 8)) [] none (committed c 1 u)))) ∧
  (∀ (r : Req) (p : List Byte) (obs : List TestObs) (s : State) (x : Session), Fresh 0x0805 1 1 r p s x → p.length = 1 → s.ctl.mode = 0 →
    safConfirmed s = true → tripActive s = false → s.saf.test = none →
    let c := cmdOf 0x0805 1 1 r p s
    let f := testOn 9 ⟨c.entry, byteAt p 0, obs, 0, none, List.replicate 8 0⟩ (admitted 0x0805 1 1 r p s)
    (8 ≤ f.1.chan → exec (.brakeTest r p obs) s = .next (endCmd c .done 1 0 (f.1.verdicts.flatMap (be 1)) none (closeTest f.1 f.2))) ∧
    (f.1.chan < 8 → exec (.brakeTest r p obs) s =
        .next (modCmd c.entry (fun d => { d with busy := true, data := [] }) { f.2 with saf := { f.2.saf with test := some f.1 } })))

/-- MTR_MAILBOX_READ replies with the mailbox image, notes the seal word it shows and records MTR_SEAL_CHANGED when it differs from the one
seen before; MTR_IDENT_READ replies with the island's identity and SEAL. EVT_INFO and EVT_READ reply from the event log, which changes only
where a record read fails its check; EVT_CLEAR empties it, records EVT_CLEARED and replies with how many records it removed. Rows that
complete here: mtrMailboxRead, mtrIdentRead, evtInfo, evtRead, evtClear. -/
def Obligations.IslandAndEventCommands : Prop :=
  (∀ (r : Req) (s : State) (x : Session) (b : List Byte), Fresh 0x0901 1 1 r [] s x → s.mtr.on = true → s.mtr.image = some b →
    let c := cmdOf 0x0901 1 1 r [] s
    ∃ t : State, exec (.mtrMailboxRead r []) s = .next t ∧ t.mtr = { s.mtr with seen := some (fieldU b 16 4, slice b 20 4) } ∧ Only [.host, .evt, .mtr, .out] s t ∧
      findCmd t c.entry = none ∧ ((s.mtr.seen = none ∨ s.mtr.seen = some (fieldU b 16 4, slice b 20 4)) → t.evt = s.evt)) ∧
  Refuses 0x0901 1 1 .mtrMailboxRead (fun c s => c.params = [] ∧ (s.mtr.on = false ∨ s.mtr.image = none)) stNotReady ∧
  Reads 0x0902 1 .mtrIdentRead (fun c s => c.params = [] ∧ s.mtr.on = true) (fun _ s => mtrIdentity s ++ be 4 s.mtr.sealCount) ∧
  Reads 0x0A01 1 .evtInfo (fun c _ => c.params = []) (fun _ s => be 4 evtCapacity ++ be 4 s.evt.recs.length ++ be 4 (oldest s.evt) ++ be 4 s.evt.newest) ∧
  Acts 0x0A02 3 1 .evtRead (fun c _ => c.params.length = 10 ∧ 1 ≤ fieldU c.params 4 2 ∧ fieldU c.params 4 2 ≤ 2048 ∧ byteAt c.params 6 ≤ 4)
    (fun c s => meetExamined c s) (fun c s => evRead c s.evt) (fun _ _ => none) ∧
  (∀ (c : Cmd) (s : State), (∀ r ∈ s.evt.recs, r.bad = none) → meetExamined c s = s) ∧
  Acts 0x0A03 1 1 .evtClear (fun c _ => c.params = []) (fun c s => clearEvents c.slot s) (fun _ s => be 4 s.evt.recs.length) (fun _ _ => none) ∧
  (∀ (n : Nat) (s : State), ∀ e ∈ (clearEvents n s).evt.recs, e.ev = .evtCleared)

/-- PWR_STATUS, RESET_CAUSE_READ and IDENTITY_READ reply; PWR_STATE_SET in STANDBY with every brake engaged leaves the entry pending; RESET
in STANDBY leaves the reset pending for 1 ms later; RESET_CAUSE_CLEAR clears the causes written as 1; ROLE_KEY_SET replaces the key of a
role. Rows that complete here: pwrStatus, pwrStateSet, reset, resetCauseRead, resetCauseClear, identityRead, roleKeySet. -/
def Obligations.PowerCommands : Prop :=
  Reads 0x0B01 1 .pwrStatus (fun c _ => c.params = []) (fun _ s => powerBlock s) ∧
  Acts 0x0B02 1 1 .pwrStateSet
    (fun c s => c.params.length = 1 ∧ (byteAt c.params 0 = 2 ∨ byteAt c.params 0 = 3 ∨ byteAt c.params 0 = 4) ∧ s.ctl.mode = 0 ∧ anyReleased s = false)
    (fun c s => { s with pwr := { s.pwr with entryPending := some (stateOf (byteAt c.params 0), s.time.elapsed, false) } }) (fun _ _ => []) (fun _ _ => none) ∧
  Refuses 0x0B02 1 1 .pwrStateSet (fun c s => c.params.length = 1 ∧ (byteAt c.params 0 = 2 ∨ byteAt c.params 0 = 3 ∨ byteAt c.params 0 = 4) ∧ s.ctl.mode ≠ 0)
    stNotStandby ∧
  Refuses 0x0B02 1 1 .pwrStateSet (fun c s => c.params.length = 1 ∧ (byteAt c.params 0 = 2 ∨ byteAt c.params 0 = 3 ∨ byteAt c.params 0 = 4) ∧
    s.ctl.mode = 0 ∧ anyReleased s = true) stBrakeReleased ∧
  Acts 0x0B03 1 1 .reset (fun c s => c.params.length = 1 ∧ (byteAt c.params 0 = 1 ∨ byteAt c.params 0 = 2) ∧ s.ctl.mode = 0)
    (fun c s => { s with pwr := { s.pwr with resetPending := some (if byteAt c.params 0 = 1 then .core else .system, s.time.elapsed + ms 1) } })
    (fun _ _ => []) (fun _ _ => none) ∧
  Refuses 0x0B03 1 1 .reset (fun c s => c.params.length = 1 ∧ (byteAt c.params 0 = 1 ∨ byteAt c.params 0 = 2) ∧ s.ctl.mode ≠ 0) stNotStandby ∧
  Reads 0x0B04 1 .resetCauseRead (fun c _ => c.params = []) (fun _ s => be 4 s.pwr.cause.toNat) ∧
  Acts 0x0B05 1 1 .resetCauseClear (fun c _ => c.params.length = 4)
    (fun c s => { s with pwr := { s.pwr with cause := s.pwr.cause &&& ~~~(BitVec.ofNat 32 (fieldU c.params 0 4) &&& 0x7F#32) } })
    (fun c s => be 4 (s.pwr.cause &&& ~~~(BitVec.ofNat 32 (fieldU c.params 0 4) &&& 0x7F#32)).toNat) (fun _ _ => none) ∧
  Reads 0x0C01 1 .identityRead (fun c _ => c.params = [])
    (fun _ s => be 4 0x56940A00 ++ be 4 (revision s) ++ padTo 8 s.pwr.serial ++ be 1 s.pwr.straps.toNat ++ zeros 3) ∧
  Acts 0x0C10 1 1 .roleKeySet (fun c _ => c.params.length = 36 ∧ byteAt c.params 0 ≤ 4 ∧ byteAt c.params 1 = 0 ∧ byteAt c.params 2 = 0 ∧ byteAt c.params 3 = 0)
    (fun c s => { s with cfg := { s.cfg with roleKeys := modAt s.cfg.roleKeys (byteAt c.params 0) fun _ => slice c.params 4 32 } })
    (fun _ _ => []) (fun _ _ => none)

/-- MODULE_LIST and MODULE_READ reply with the state and descriptor of the slots; MODULE_ACCEPT makes an identified module ACCEPTED;
MODULE_RESCAN reads a slot with a module present, or every slot, again. Rows that complete here: moduleList, moduleRead, moduleAccept,
moduleRescan. -/
def Obligations.ModuleCommands : Prop :=
  Reads 0x0C02 1 .moduleList (fun c _ => c.params = [])
    (fun _ s => (List.range 8).flatMap fun i => be 1 i ++ be 1 (i % 4) ++ be 1 (0x50 + i / 4) ++ be 1 (slotOf s i).state ++
      be 1 (byteAt (slotOf s i).desc 5) ++ be 3 0) ∧
  Reads 0x0C03 1 .moduleRead (fun c _ => c.params.length = 1 ∧ byteAt c.params 0 ≤ 7)
    (fun c s => be 1 (byteAt c.params 0) ++ be 1 (slotOf s (byteAt c.params 0)).state ++ be 2 0 ++ padTo 256 (slotOf s (byteAt c.params 0)).desc) ∧
  Acts 0x0C04 1 1 .moduleAccept (fun c s => c.params.length = 1 ∧ byteAt c.params 0 ≤ 7 ∧ (slotOf s (byteAt c.params 0)).state = 2)
    (fun c s => modSlotM (byteAt c.params 0) (fun y => { y with state := 3 }) s) (fun _ _ => be 1 3) (fun _ s => some (firstPeriod s)) ∧
  Refuses 0x0C04 1 1 .moduleAccept (fun c s => c.params.length = 1 ∧ byteAt c.params 0 ≤ 7 ∧ (slotOf s (byteAt c.params 0)).state ≠ 2) stInconsistent ∧
  Acts 0x0C05 1 1 .moduleRescan (fun c s => c.params.length = 1 ∧ byteAt c.params 0 ≤ 7 ∧ (slotOf s (byteAt c.params 0)).present = true)
    (fun c s => startRead (byteAt c.params 0) s) (fun _ _ => []) (fun _ _ => none) ∧
  Acts 0x0C05 1 1 .moduleRescan (fun c s => c.params.length = 1 ∧ byteAt c.params 0 ≤ 7 ∧ (slotOf s (byteAt c.params 0)).present = false)
    (fun _ s => s) (fun _ _ => []) (fun _ _ => none) ∧
  Acts 0x0C05 1 1 .moduleRescan (fun c _ => c.params.length = 1 ∧ byteAt c.params 0 = 0xFF) (fun _ s => bootReads s) (fun _ _ => []) (fun _ _ => none)

/-- A reassembly whose gap or total time runs out is abandoned under FRAGMENT_ERROR, and its tag holds that reply; a session idle too long,
or not authenticated in time, is recorded and closed; a lockout ends after 60 s. Each row brings the time to its instant at least, and where
the state holds no such timer nothing happens (log 5). Rows that complete here: fragGapExpiry, fragTotalExpiry, sessionIdleExpiry,
authTimeout, lockoutExpiry. -/
def Obligations.ExpiryRows : Prop :=
  ∀ s : State,
    (∀ (slot : Fin 8) (tag : Fin 128) (x : Session) (q o c : Nat) (fs : List (Nat × List Byte)) (l : Option Nat) (t0 t1 : Nat) (sp : Bool),
      openSlot s (slot.val + 1) = some x → keyGet tag.val x.tags = some (.reassembling q o c fs l t0 t1 sp) →
      (∃ t : State, exec (.fragGapExpiry slot tag) s = .next t ∧ t1 + ms (pNat s 0x0112) ≤ t.time.elapsed ∧ Only [.time, .host, .evt, .out] s t ∧
        ∃ (reps : List Reply), (openSlot t (slot.val + 1)).bind (fun y => keyGet tag.val y.tags) = some (.ended q o c reps 0 0 0 stFragmentError)) ∧
      (∃ t : State, exec (.fragTotalExpiry slot tag) s = .next t ∧ t0 + ms (pNat s 0x0113) ≤ t.time.elapsed ∧ Only [.time, .host, .evt, .out] s t ∧
        ∃ (reps : List Reply), (openSlot t (slot.val + 1)).bind (fun y => keyGet tag.val y.tags) = some (.ended q o c reps 0 0 0 stFragmentError))) ∧
    (∀ (slot : Fin 8) (tag : Fin 128), reassemblyOf s (slot.val + 1) tag.val = none →
      exec (.fragGapExpiry slot tag) s = .next s ∧ exec (.fragTotalExpiry slot tag) s = .next s) ∧
    (∀ (slot : Fin 8) (x : Session), openSlot s (slot.val + 1) = some x → awake s = true →
      (∃ t : State, exec (.sessionIdleExpiry slot) s = .next t ∧ openSlot t (slot.val + 1) = none ∧ x.lastAt + ms (pNat s 0x0111) ≤ t.time.elapsed ∧
        Only [.time, .host, .evt, .out] s t) ∧
      (x.authed = false → ∃ t : State, exec (.authTimeout slot) s = .next t ∧ openSlot t (slot.val + 1) = none ∧ x.openedAt + ms 5000 ≤ t.time.elapsed ∧
        Only [.time, .host, .evt, .out] s t)) ∧
    (∀ (slot : Fin 8), openSlot s (slot.val + 1) = none → exec (.sessionIdleExpiry slot) s = .next s ∧ exec (.authTimeout slot) s = .next s) ∧
    (∀ (src : Src), lockedOut src s = true → ∃ t : State, exec (.lockoutExpiry src) s = .next t ∧ lockedOut src t = false ∧ Only [.time, .host, .evt] s t)

/-- The first fragment of a command makes its tag reassembling and begins nothing; an opcode that no table gives is refused UNKNOWN_OPCODE;
a commit point of a command is passed with its journal record in MRAM; a command still in flight 1 ms after its validation is answered once;
the journal buffer is written out, but not during a brown-out. Rows that complete here: fragmentReceived, unknownOpcode, commitPoint,
interimAcceptedReply, journalBufferFlush. -/
def Obligations.CommandProgressRows : Prop :=
  (∀ (d : OpDef) (r : Req) (op : BitVec 16) (p : List Byte) (s : State) (x : Session), opOf op.toNat = some d → d.code ≠ 3 →
    readable r d.code p s = true → headerStatus r p = 0 → openSlot s r.session.toNat = some x → x.src = r.src →
    sessionStatus true d r p x = 0 → 1 ≤ seqD x r.seq → seqD x r.seq ≤ 64 → isLastFrag r = false → p.length = 1440 →
    tagHeld x r.tag.toNat = false → placeFree x r.cls.toNat = true → reassemblies s < 4 →
    ∃ t : State, exec (.fragmentReceived r op p) s = .next t ∧ Only [.host] s t ∧ t.host.cmds = s.host.cmds ∧ t.host.journal = s.host.journal ∧
      (openSlot t r.session.toNat).bind (fun y => keyGet r.tag.toNat y.tags) =
        some (.reassembling r.seq.toNat d.code r.cls.toNat [(r.fragment.toNat, p)] none s.time.elapsed s.time.elapsed (isSpecOk r))) ∧
  (∀ (r : Req) (op : BitVec 16) (p : List Byte) (s : State) (x : Session), opOf op.toNat = none → op.toNat ≠ 1 → op.toNat ≠ 2 → op.toNat ≠ 5 →
    readable r op.toNat p s = true → headerStatus r p = 0 → openSlot s r.session.toNat = some x → x.src = r.src →
    r.epoch.toNat = x.epoch → x.authed = true →
    exec (.unknownOpcode r op p) s = .next (reject r op.toNat stUnknownOpcode false [] (noticed r (takeBuffer r op.toNat p s)))) ∧
  (∀ (e : Nat) (c : Cmd) (j : JEntry) (s : State), findCmd s e = some c → findEntry s e = some j → c.opcode = 0x0601 → c.started = true →
    c.abort = false → c.k = 0 → awake s = true → bowRaised s = false → blocked (objsOf 0x0601) objsOf c s = false →
    ∃ t : State, exec (.commitPoint e) s = .next t ∧ Only [.host] s t ∧ (findCmd t e).map (·.k) = some 1 ∧
      ∃ k : JSlot, t.host.journal.find? (fun i => i.cur.entry == e) = some k ∧ k.cur = { j with state := .partial_, k := 1 } ∧ k.mram = some k.cur) ∧
  (∀ (e : Nat) (s : State), findCmd s e = none → exec (.commitPoint e) s = .next s) ∧
  (∀ (e : Nat) (c : Cmd) (j : JEntry) (s : State), findCmd s e = some c → findEntry s e = some j →
    ((c.cls = 0 ∨ c.interim = true) → exec (.interimAcceptedReply e) s = .next s) ∧
    (c.cls ≠ 0 → c.interim = false → ∃ t : State, exec (.interimAcceptedReply e) s = .next t ∧ c.validElapsed + ms 1 ≤ t.time.elapsed ∧
      (findCmd t e).map (·.interim) = some true ∧ t.host.journal = s.host.journal ∧ Only [.time, .host, .evt, .out] s t)) ∧
  (∀ s : State, (bowRaised s = true → exec .journalBufferFlush s = .next s) ∧
    (bowRaised s = false → ∃ t : State, exec .journalBufferFlush s = .next t ∧ Only [.host] s t ∧ (∀ j ∈ t.host.journal, j.mram = some j.cur) ∧
      t.host.journal.map (·.cur) = s.host.journal.map (·.cur)))

/-- WRITE_PACKET fills an inbound buffer, or sets INBOUND_OVERRUN where both are occupied by packets that firmware has not discarded;
READ_PACKET gives the oldest reply, which leaves the queue once it is clocked out whole; HOST_STATUS, RESET_CAUSE and DOORBELL_IRQ_EN take
their writes, byte by byte with the address advancing, every other write and every write in OFF is ignored, and the window reads big-endian,
zero at an address not listed; ARP and ICMP requests are answered while firmware runs. Rows that complete here: writePacket, readPacket,
hostStatusClear, resetCauseWrite, doorbellIrqEn, windowWriteOther, arpIcmpRequest. -/
def Obligations.SpiPort : Prop :=
  ∀ s : State,
    (∀ (data : List Byte), (s.pwr.state = .run ∨ s.pwr.state = .idle) →
      let held := if awake s then s.host.spiIn.dropWhile discards else s.host.spiIn
      (held.length < 2 → exec (.writePacket data true) s = .next { s with host := { s.host with spiIn := held ++ [data] } }) ∧
      (2 ≤ held.length → exec (.writePacket data true) s = .next { s with host := { s.host with inOverrun := true } })) ∧
    (∀ (data : List Byte), exec (.writePacket data false) s = .next s) ∧
    (∀ (n : Nat) (q : List Byte) (qs : List (List Byte)), s.host.spiOut = q :: qs → q.length + 2 ≤ n →
      exec (.readPacket n) s = .next { s with host := { s.host with spiOut := qs }, out := .reply .spi 0 (be 2 q.length ++ q) :: s.out }) ∧
    (∀ (n : Nat) (q : List Byte) (qs : List (List Byte)), s.host.spiOut = q :: qs → n < q.length + 2 → exec (.readPacket n) s = .next s) ∧
    (∀ n : Nat, s.host.spiOut = [] → exec (.readPacket n) s = .next { s with out := .reply .spi 0 (be 2 0) :: s.out }) ∧
    (∀ v : BitVec 32, s.pwr.state ≠ .off →
      exec (.hostStatusClear v) s = .next { s with host := { s.host with inOverrun := s.host.inOverrun && !v.getLsbD 0,
                                                                         outOverrun := s.host.outOverrun && !v.getLsbD 1 } } ∧
      exec (.resetCauseWrite v) s = .next { s with pwr := { s.pwr with cause := s.pwr.cause &&& ~~~(v &&& 0x7F#32) } }) ∧
    (∀ on : Bool, s.pwr.state ≠ .off → exec (.doorbellIrqEn on) s = .next { s with host := { s.host with irqEn := on } }) ∧
    (∀ (addr : Byte) (data : List Byte), s.pwr.state = .off → exec (.windowWriteOther addr data) s = .next s) ∧
    (∀ (addr : Byte) (data : List Byte),
      (∀ k, k < data.length → addr.toNat + k ≠ 0x0B ∧ addr.toNat + k ≠ 0x0F ∧ addr.toNat + k ≠ 0x13) → exec (.windowWriteOther addr data) s = .next s) ∧
    (∀ v : Byte, s.pwr.state ≠ .off →
      let h := { s.host with inOverrun := s.host.inOverrun && !v.getLsbD 0, outOverrun := s.host.outOverrun && !v.getLsbD 1 }
      exec (.windowWriteOther 0x0B#8 [v]) s = .next { s with host := h }) ∧
    (s.pwr.state ≠ .off → readWindow s 0 4 = be 4 0x56940A00 ∧ readWindow s 8 4 = be 4 (hostStatus s) ∧ readWindow s 12 4 = be 4 s.pwr.cause.toNat ∧
      readWindow s 20 1 = [0#8]) ∧
    (∀ (b arp : Bool) (ip : BitVec 32), (awake s = true → exec (.arpIcmpRequest b ip arp) s = .next (emit (.icmp b ip arp) s)) ∧
      (awake s = false → exec (.arpIcmpRequest b ip arp) s = .next s))

/-- At the instant of the first pending step the counter takes the step: it is no longer pending, the step count is the step's and no slew
is left. A follower in STANDBY whose count, with the steps announced to it, differs from the master's catches up in one step. With no step
pending, or no difference, nothing happens (log 5). A measurement of the source in use is taken once: it makes the source valid and the
state LOCKED or SLEWING, LOCKED exactly when the offset is within LOCK_NS and raises no offset alarm; while device time is UNSET, AUTOSET
takes the counter from GNSS or PTP; with nothing measured, of another source, or while no firmware runs, the row has no effect. With no
valid measurement for HOLDOVER_MS, on a follower with no Sync, the state becomes HOLDOVER. What frequency and error the servo estimates is
open (log 24). Rows that complete here: timeStepInstant, catchUpStep, servoMeasurement, holdoverEnter. -/
def Obligations.TimeRows : Prop :=
  (∀ s : State,
    (firstStep s.time.steps = none → exec .timeStepInstant s = .next s) ∧
    (∀ p : PendStep, firstStep s.time.steps = some p →
      (p.entry = none ∨ (∀ q ∈ s.time.steps, q.entry = p.entry → q = p) ∧ ∃ e c, p.entry = some e ∧ findCmd s e = some c ∧ c.data ≠ []) →
      ∃ t : State, exec .timeStepInstant s = .next t ∧ p ∉ t.time.steps ∧ t.time.stepCount = p.count ∧ t.time.slew = 0 ∧ t.time.state = s.time.state ∧
        Only [.time, .grid, .host, .evt, .gnss, .acq, .sch, .thr, .grp, .out] s t) ∧
    (∀ m : Stamp, awake s = true → isFollower s = true → s.ctl.mode = 0 → noticeCount s ≠ s.time.masterStepCount →
      ∃ t : State, exec (.catchUpStep m) s = .next t ∧ t.time.stepCount = s.time.masterStepCount ∧ t.time.slew = 0 ∧ Only [.time, .grid, .host, .evt, .gnss, .acq, .sch, .thr] s t) ∧
    (∀ m : Stamp, (awake s = false ∨ isFollower s = false ∨ s.ctl.mode ≠ 0 ∨ noticeCount s = s.time.masterStepCount) → exec (.catchUpStep m) s = .next s)) ∧
  (∀ s : State,
    (∀ src : Fin 4, sourceOffset s src.val = none → exec (.servoMeasurement src) s = .next s) ∧
    (∀ src : Fin 4, awake s = false ∨ timeSource s ≠ some src.val → exec (.servoMeasurement src) s = .next s) ∧
    (∀ src : Fin 4, s.time.state = .unset → ¬(pNat s 0x0503 = 1 ∧ (src.val = 1 ∨ src.val = 2)) → exec (.servoMeasurement src) s = .next s) ∧
    (∀ (src : Fin 4) (o : Int), sourceOffset s src.val = some o → awake s = true → timeSource s = some src.val → s.time.state ≠ .unset →
      ∃ t : State, exec (.servoMeasurement src) s = .next t ∧ t.time.sourceValid = true ∧ t.time.lastValidAt = s.time.elapsed ∧ sourceOffset t src.val = none ∧
        (t.time.state = .locked ∨ t.time.state = .slewing) ∧ (t.time.state = .locked ↔ o.natAbs ≤ pNat s 0x0505 ∧ o.natAbs ≤ pNat s 0x0506) ∧
        t.time.units = s.time.units ∧ Only [.time, .evt, .gnss, .acq, .fresh] s t) ∧
    (∀ (src : Fin 4) (o : Int), sourceOffset s src.val = some o → awake s = true → timeSource s = some src.val → s.time.state = .unset → pNat s 0x0503 = 1 →
      (src.val = 1 ∨ src.val = 2) → s.time.frac < 2 ^ 32 → o ≤ s.time.total → (s.time.total : Int) - o < 2 ^ 64 * 10 ^ 9 →
      ∃ t : State, exec (.servoMeasurement src) s = .next t ∧ (t.time.total : Int) = s.time.total - o ∧ t.time.sourceValid = true ∧ t.time.state ≠ .unset ∧
        Only [.time, .grid, .host, .evt, .gnss, .acq, .sch, .thr, .grp, .out, .fresh] s t) ∧
    ((s.time.state = .locked ∨ s.time.state = .slewing ∨ s.time.state = .free ∧ isFollower s = true) →
      ∃ t : State, exec .holdoverEnter s = .next t ∧ t.time.state = .holdover ∧ t.time.sourceValid = false ∧
        (if isFollower s then s.time.lastSyncAt else s.time.lastValidAt) + ms (pNat s 0x0507) ≤ t.time.elapsed ∧
        (servoOwns s = true → fwRunning s = true → t.time.slew = 0) ∧ Only [.time, .evt, .acq] s t) ∧
    (s.time.state ≠ .locked → s.time.state ≠ .slewing → ¬(s.time.state = .free ∧ isFollower s = true) → exec .holdoverEnter s = .next s))

/-- In SLAVE state a Sync of the configured domain and transport from the master heard begins its exchange; in MASTER state a Delay_Req is
answered; the first Announce heard is kept; the device sends the messages that the state of its port allows, one-step Sync on a cascade link
that is up, but for a follower away from the MASTER only, and Pdelay_Req on both; PPS_OUT pulses at its instant where it is on and its gate
passes; a PPS_IN edge of the configured direction is stamped and published, and gives a measurement when it is a second after the last. Rows
that complete here: ptpMessageRx, ptpMessageTx, ptpSyncTx, pdelayReqTx, ppsOutPulse, ppsInEdge. -/
def Obligations.PtpAndPulseRows : Prop :=
  ∀ s : State,
    (∀ (port : Fin 4) (m : PtpMsg), awake s = true → port.val < 2 → bitOf (pNat s 0x0510) port.val = true → m.domain = pNat s 0x0512 →
      m.udp = (pNat s 0x0514 == 0) → hostAllows m s = true → s.time.ptpEx.length = 4 →
      (m.typ = 0 → m.twoStep = true → portState s port.val = .slave → (∃ h, heardNow s port.val = some h ∧ h.sender = m.sender) →
        ∃ t : State, exec (.ptpMessageRx port m) s = .next t ∧ Only [.time] s t ∧ ∃ x : PtpEx, t.time.ptpEx[port.val]? = some x ∧ x.syncSeq = m.seqId ∧ x.t1 = none ∧
          x.t2 = portStamp s port.val false) ∧
      (m.typ = 1 → portState s port.val = .master → pNat s 0x0511 = 0 → ∃ t : State, exec (.ptpMessageRx port m) s = .next t ∧ (∃ l, .ptp port.val 9 l ∈ t.out) ∧ Only [.out] s t) ∧
      (m.typ = 11 → heardNow s port.val = none → ∃ t : State, exec (.ptpMessageRx port m) s = .next t ∧ Only [.time, .sig] s t ∧
        (exOf t port.val).heard = some ⟨m.rank, m.sender, s.time.elapsed⟩)) ∧
    (∀ (port : Fin 4) (m : PtpMsg), awake s = false → exec (.ptpMessageRx port m) s = .next s) ∧
    (∀ (b : Bool) (typ : Fin 5) (q : BitVec 16), awake s = true → maySend s (b2n b) typ.val = true →
      ∃ t : State, exec (.ptpMessageTx b typ q) s = .next t ∧ (∃ l, .ptp (b2n b) (if typ.val = 4 then 11 else typ.val) l ∈ t.out) ∧ Only [.time, .out] s t) ∧
    (∀ (b : Bool) (typ : Fin 5) (q : BitVec 16), awake s = false ∨ maySend s (b2n b) typ.val = false → exec (.ptpMessageTx b typ q) s = .next s) ∧
    (∀ d : Bool, awake s = true → linkUp s (b2n d) = true → (isFollower s = true → masterPort s ≠ some (b2n d)) →
      ∃ t : State, exec (.ptpSyncTx d) s = .next t ∧ (∃ l, .ptp (2 + b2n d) 0 l ∈ t.out) ∧ Only [.time, .evt, .out] s t ∧
        s.time.ptpAt.getD (b2n d) 0 + 62500000 ≤ t.time.elapsed) ∧
    (∀ d : Bool, isFollower s = true → masterPort s = some (b2n d) → exec (.ptpSyncTx d) s = .next s) ∧
    (∀ d : Bool, awake s = true → linkUp s (b2n d) = true →
      ∃ t : State, exec (.pdelayReqTx d) s = .next t ∧ (∃ l, .ptp (2 + b2n d) 2 l ∈ t.out) ∧ Only [.time, .evt, .out] s t ∧
        s.time.ptpAt.getD (4 + b2n d) 0 + 1000000000 ≤ t.time.elapsed) ∧
    (∀ d : Bool, awake s = false → exec (.ptpSyncTx d) s = .next s ∧ exec (.pdelayReqTx d) s = .next s) ∧
    (s.time.counting = true → s.time.ppsOn = true → ppsGate s = true → s.time.ppsLast = none → ∃ t : State, exec .ppsOutPulse s = .next t ∧ t.out = .pulse "PPS_OUT" (min (us (pNat s 0x0530)) (pulseGap (countTo (nextPps s) s) / 2)) :: s.out ∧
        t.time.ppsLast = some t.time.elapsed ∧ Only [.time, .evt, .out] s t) ∧
    (s.time.counting = true → s.time.ppsOn = false → ∃ t : State, exec .ppsOutPulse s = .next t ∧ t.out = s.out ∧ Only [.time, .evt] s t) ∧
    (s.time.counting = false → exec .ppsOutPulse s = .next s) ∧
    (∀ rising : Bool, awake s = true → rising = (pNat s 0x0533 == 0) → ∃ t : State, exec (.ppsInEdge rising) s = .next t ∧ t.time.ppsIn = some s.time.elapsed ∧ Only [.time, .sig] s t ∧
        (keyGet 0x0030 t.sig.tab).bind List.head? = some ⟨vU64 s.time.total, false, s.time.total, none, none, none⟩ ∧
        (s.time.ppsIn = none → t.time.ppsOff = none) ∧
        (∀ l, s.time.ppsIn = some l → s.time.ppsBad = false → 999900000 ≤ s.time.elapsed - l → s.time.elapsed - l ≤ 1000100000 →
          t.time.ppsOff = some (fromSecond s.time.total))) ∧
    (∀ rising : Bool, (awake s = false ∨ rising ≠ (pNat s 0x0533 == 0)) → exec (.ppsInEdge rising) s = .next s)

/-- A clock check that finds a band's count off by more than 61, its elastic buffer slipped or a GNSS domain isolated puts the band in
BAND_FAULT, and counts it clean otherwise; a band in fault long enough has its antenna's front end replayed, unless replay is held, and a
band clean long enough is healthy again; the AGC code moves one step per millisecond toward its target, and samples all alike fault the
band; the notches stay four per band; the jamming indicator is renewed every 100 ms, and JAMMED is set and cleared with an event. Rows that
complete here: bandClockCheck, frontEndReplay, bandHealthy, agcUpdate, notchUpdate, jamIndicator, gnssJamming. -/
def Obligations.GnssBandRows : Prop :=
  ∀ s : State, gnssUp s = true → s.gnss.bands.length = 6 →
    (∀ (counts : List Nat), ∃ t : State, exec (.bandClockCheck counts) s = .next t ∧ s.gnss.clockAt + ms 100 ≤ t.time.elapsed ∧ Only [.time, .evt, .gnss] s t ∧
      ∀ b, b < 6 → ((countBad (counts.getD b 6144000) || slipped (fillAfter (counts.getD b 6144000) (bandOf s b).fill) || gnssIsolated s) = true →
          (bandOf t b).fault = true ∧ (bandOf t b).cleanSince = none) ∧
        ((countBad (counts.getD b 6144000) || slipped (fillAfter (counts.getD b 6144000) (bandOf s b).fill) || gnssIsolated s) = false →
          (bandOf t b).fault = (bandOf s b).fault ∧ (bandOf t b).cleanSince = (bandOf s b).cleanSince.or (some t.time.elapsed))) ∧
    (∀ (a : Fin 3) (b : Nat), [2 * a.val, 2 * a.val + 1].find? (fun b => (bandOf s b).fault && !(bandOf s b).replayed) = some b →
      (s.gnss.replayHeld.contains a.val = true → exec (.frontEndReplay a) s = .next s) ∧
      (s.gnss.replayHeld.contains a.val = false → ∃ t : State, exec (.frontEndReplay a) s = .next t ∧ (bandOf t b).replayed = true ∧
        (bandOf s b).faultSince + ms 1000 ≤ t.time.elapsed ∧ (∃ l, t.gnss.replays = l ++ [(a.val, t.time.elapsed)]) ∧ Only [.time, .evt, .gnss, .out] s t)) ∧
    (∀ (b : Fin 6) (e : Nat), (bandOf s b.val).cleanSince = some e → (bandOf s b.val).fault = true → ∃ t : State, exec (.bandHealthy b) s = .next t ∧ (bandOf t b.val).fault = false ∧ e + ms 1000 ≤ t.time.elapsed ∧ Only [.time, .evt, .gnss] s t ∧
      (∀ c ∈ t.gnss.chans, c.svid ≠ 0 → c.band = b.val → c.state ≠ 0)) ∧
    (∀ (b : Fin 6), (bandOf s b.val).cleanSince = none ∨ (bandOf s b.val).fault = false → exec (.bandHealthy b) s = .next s) ∧
    (∀ (b : Fin 6) (codes : List Iq), ∃ t : State, exec (.agcUpdate b codes) s = .next t ∧ (bandOf t b.val).duty = agcStep (pReal s 0x0413) (highCount codes) (2 * codes.length) (bandOf s b.val).duty ∧
      (stuckCodes codes = true → (bandOf t b.val).fault = true) ∧ Only [.time, .evt, .gnss] s t ∧
      ((bandOf s b.val).duty ≤ 1023 → (bandOf t b.val).duty ≤ 1023 ∧ (bandOf t b.val).duty ≤ (bandOf s b.val).duty + 1 ∧
        (bandOf s b.val).duty ≤ (bandOf t b.val).duty + 1)) ∧
    (∀ (b : Fin 6) (tr : List Nat) (sp : List F32), ∃ t : State, exec (.notchUpdate b tr sp) s = .next t ∧ Only [.time, .evt, .gnss] s t ∧
      (bandOf t b.val).notches.length = 4 ∧
      (bitOf (pNat s 0x0410) b.val = false → ∀ n ∈ (bandOf t b.val).notches, n = none) ∧ ∀ k, k < 6 → k ≠ b.val → bandOf t k = bandOf s k) ∧
    (∀ (b : Fin 6), ∃ t : State, exec (.jamIndicator b) s = .next t ∧ (bandOf t b.val).dutyCount = 0 ∧ (bandOf t b.val).jam ≤ 255 ∧
      (pNat s 0x0412 ≤ (bandOf t b.val).jam ↔ (bandOf t b.val).jamSince.isSome) ∧ Only [.time, .evt, .gnss] s t) ∧
    (∀ (b : Fin 6) (e : Nat), (bandOf s b.val).jammed = false → (bandOf s b.val).jamSince = some e → ∃ t : State, exec (.gnssJamming b) s = .next t ∧ (bandOf t b.val).jammed = true ∧ e + ms 1000 ≤ t.time.elapsed ∧ Only [.time, .evt, .gnss] s t) ∧
    (∀ (b : Fin 6) (e : Nat), (bandOf s b.val).jammed = true → (bandOf s b.val).calmSince = some e → ∃ t : State, exec (.gnssJamming b) s = .next t ∧ (bandOf t b.val).jammed = false ∧ e + ms 5000 ≤ t.time.elapsed ∧ Only [.time, .evt, .gnss] s t)

/-- A pass of the tracking loops moves the channels it has observations of, one state at a time, and no other, but that a channel of a
disabled system or band, or one whose re-acquisition has failed for 10 s, becomes IDLE; a channel that has lost lock returns to acquisition;
a search that finds its satellite within its window gives the channel to it, and one that ends without leaves the channel idle, but a
re-acquisition goes on for 10 s; a decoded navigation unit is kept with its check, and when it passes is stored with the ephemeris or the
almanac; both are copied every 15 minutes, outside a brown-out. Rows that complete here: trackingLoop, channelLossOfLock, searchComplete,
navUnitDecoded, ephemerisCopy. -/
def Obligations.GnssChannelRows : Prop :=
  ∀ s : State, gnssUp s = true →
    (∀ (xs : List (List Iq)) (asks : List SearchTarget) (o : LoopObs), o.ch < s.gnss.chans.length → ∃ t : State, exec (.trackingLoop xs asks [o]) s = .next t ∧ s.gnss.loopAt + ms 1 ≤ t.time.elapsed ∧ Only [.time, .evt, .gnss] s t ∧
      let v := loopStart asks s
      let c := chanOf v o.ch
      chanOf t o.ch = (if 2 ≤ c.state then loopChan v t.time.elapsed xs o c else c) ∧ (chanOf t o.ch).state ≤ max c.state (min 5 (c.state + 1))) ∧
    (∀ (xs : List (List Iq)) (asks : List SearchTarget) (obs : List LoopObs), ∃ t : State, exec (.trackingLoop xs asks obs) s = .next t ∧ Only [.time, .evt, .gnss] s t ∧
      ∀ k, (∀ o ∈ obs, o.ch ≠ k) → chanOf t k = chanOf (loopStart asks s) k) ∧
    (s.gnss.asks = [] → let v := loopStart [] s
      ∀ k, chanOf v k = { pruneChan v (chanOf s k) with searchAt := (chanOf v k).searchAt }) ∧
    (∀ (ch : Fin 256), ch.val < s.gnss.chans.length → 2 ≤ (chanOf s ch.val).state → ((chanOf s ch.val).weakSince ≠ none ∨ (chanOf s ch.val).phaseBad ≠ none) →
      ∃ t : State, exec (.channelLossOfLock ch) s = .next t ∧ (chanOf t ch.val).state = 1 ∧ (chanOf t ch.val).lockSince = none ∧ (chanOf t ch.val).slipped = true ∧
        (chanOf t ch.val).svid = (chanOf s ch.val).svid ∧ Only [.time, .evt, .gnss] s t ∧
        (∀ e, (chanOf s ch.val).phaseBad = some e → (chanOf s ch.val).weakSince = none → e + ms 200 ≤ t.time.elapsed)) ∧
    (∀ (ch : Fin 256), (chanOf s ch.val).state < 2 → exec (.channelLossOfLock ch) s = .next s) ∧
    (∀ (ch : Fin 256) (x : SearchTarget) (n : Nat), ch.val < s.gnss.chans.length → (chanOf s ch.val).state = 1 → searchEnd s true (chanOf s ch.val) = some n →
      sameSignal x (chanOf s ch.val) = true → searchable s x = true → inWindow s ch.val x = true → s.gnss.asks = [] →
      ∃ t : State, exec (.searchComplete ch true x) s = .next t ∧ (chanOf t ch.val).state = 2 ∧ (chanOf t ch.val).searchAt = none ∧ (chanOf t ch.val).lostAt = none ∧
        (chanOf t ch.val).trk.carrHz = dofInt x.doppler ∧ (chanOf t ch.val).svid = x.svid ∧ n ≤ t.time.elapsed ∧ Only [.time, .evt, .gnss] s t ∧
        ∀ k, k ≠ ch.val → chanOf t k = { chanOf s k with searchAt := (chanOf t k).searchAt }) ∧
    (∀ (ch : Fin 256) (x : SearchTarget) (b : Bool), (searchEnd s b (chanOf s ch.val) = none ∨ (chanOf s ch.val).state ≠ 1 ∨
        b = true ∧ (sameSignal x (chanOf s ch.val) && searchable s x && inWindow s ch.val x) = false) → exec (.searchComplete ch b x) s = .next s) ∧
    (∀ (ch : Fin 256) (x : SearchTarget) (n : Nat), ch.val < s.gnss.chans.length → (chanOf s ch.val).state = 1 → searchEnd s false (chanOf s ch.val) = some n →
      s.gnss.asks = [] → ∃ t : State, exec (.searchComplete ch false x) s = .next t ∧ n ≤ t.time.elapsed ∧ Only [.time, .evt, .gnss] s t ∧
        (lostNow (elapseTo n s) (chanOf s ch.val) = true → (chanOf t ch.val).state = 1 ∧ (chanOf t ch.val).svid = (chanOf s ch.val).svid) ∧
        (lostNow (elapseTo n s) (chanOf s ch.val) = false → (chanOf t ch.val).state = 0 ∧ (chanOf t ch.val).svid = 0)) ∧
    (∀ (ch : Fin 256) (u : NavUnit), ch.val < s.gnss.chans.length → (chanOf s ch.val).state = 5 →
      let c := chanOf s ch.val
      let body := unitBody (unitBits c.signal) u.bits
      ((u.decoded && unitCheck c.signal body) = true → ∃ t : State, exec (.navUnitDecoded ch u) s = .next t ∧ (chanOf t ch.val).navCheck = 0 ∧
        (chanOf t ch.val).navData = body ∧ Only [.time, .sig, .gnss] s t ∧
        (u.almanac = false → keyGet (unitKey c u.page) t.gnss.eph = some body ∧ t.gnss.alm = s.gnss.alm) ∧
        (u.almanac = true → keyGet (unitKey c u.page) t.gnss.alm = some body ∧ t.gnss.eph = s.gnss.eph)) ∧
      ((u.decoded && unitCheck c.signal body) = false → ∃ t : State, exec (.navUnitDecoded ch u) s = .next t ∧ (chanOf t ch.val).navCheck = 1 ∧
        (chanOf t ch.val).navData = body ∧ Only [.gnss] s t ∧ t.gnss.eph = s.gnss.eph ∧ t.gnss.alm = s.gnss.alm)) ∧
    (∀ (ch : Fin 256) (u : NavUnit), (chanOf s ch.val).state ≠ 5 → exec (.navUnitDecoded ch u) s = .next s) ∧
    (bowRaised s = false → ∃ t : State, exec .ephemerisCopy s = .next t ∧ t.gnss = { s.gnss with ephCopy := s.gnss.eph, almCopy := s.gnss.alm, ephAt := t.time.elapsed } ∧
      s.gnss.ephAt + ms 900000 ≤ t.time.elapsed ∧ Only [.time, .evt, .gnss] s t) ∧
    (bowRaised s = true → exec .ephemerisCopy s = .next s)

/-- A measurement epoch latches the channels at a multiple of the epoch interval and, while firmware runs, makes the solutions, baselines
and level A due; raw data appear 1 ms after the epoch and solutions 10 ms after it, with the epoch as their validity instant; outside DET a
solution not completed in time is dropped and counted, and under DET it is waited for. Level A is solved over what it took at the epoch and
published at its instant, kept for the next epoch; a solve past it publishes nothing outside DET (log 49). Rows that complete here:
measurementEpoch, gnssRawPublish, gnssSolutionPublish, levelAPublish. -/
def Obligations.GnssPublishRows : Prop :=
  ∀ s : State,
    (gnssUp s = true → ∀ (cs : List ChanMeas) (ss : List SolMeas) (bs : List BaseMeas), ∃ t : State, exec (.measurementEpoch cs ss bs) s = .next t ∧ (∃ e, t.gnss.epoch = some e ∧ e % (10 ^ 9 / max 1 (pNat s 0x0403)) = 0 ∧ e ≤ t.time.total) ∧ t.gnss.pendRaw = true ∧
      t.gnss.latched = ((List.range 256).zip t.gnss.chans).map (fun p => (p.1, p.2.bytes p.1)) ∧
      (fwRunning s = true → t.gnss.awaiting = solJobs t ∧ (pNat s 0x035D ≠ 1 → t.gnss.levelA = true ∧ t.gnss.levelIn.isSome = true)) ∧ (∀ b ∈ t.gnss.bands, b.disturbed = false) ∧
      t.gnss.chans.length = s.gnss.chans.length ∧ Only [.time, .evt, .gnss] s t) ∧
    (gnssUp s = false → ∀ (cs : List ChanMeas) (ss : List SolMeas) (bs : List BaseMeas), exec (.measurementEpoch cs ss bs) s = .next s) ∧
    (∀ e : Nat, s.gnss.epoch = some e → gnssUp s = true → s.gnss.pendRaw = true → ∃ t : State, exec .gnssRawPublish s = .next t ∧ t.gnss.pendRaw = false ∧ t.gnss.rawEpoch = some e ∧ t.gnss.raw = s.gnss.latched ∧
      Only [.time, .evt, .gnss] s t) ∧
    (s.gnss.pendRaw = false → exec .gnssRawPublish s = .next s) ∧
    (∀ (w : Fin 6) (e : Nat), s.gnss.epoch = some e → awake s = true → s.gnss.olds = [] → s.gnss.awaiting.contains w.val = true →
      (∃ t : State, exec (.gnssSolutionPublish w true) s = .next t ∧ w.val ∉ t.gnss.awaiting ∧ Only [.time, .evt, .sig, .gnss] s t ∧
        (w.val < 3 → (keyGet (0x0200 + 16 * w.val) t.sig.tab).bind List.head? =
          some ⟨vF64 (at_ solReset s.gnss.heldSols w.val).lat, (at_ solReset s.gnss.heldSols w.val).kind == 0, e + 10000000, some e, none, none⟩) ∧
        (3 ≤ w.val → (keyGet (0x0240 + 8 * (w.val - 3)) t.sig.tab).bind List.head? =
          some ⟨vF32 (at_ baseReset s.gnss.heldBases (w.val - 3)).az, (at_ baseReset s.gnss.heldBases (w.val - 3)).state == 0, e + 10000000, some e, none, none⟩)) ∧
      (isDet s = false → ∃ t : State, exec (.gnssSolutionPublish w false) s = .next t ∧ w.val ∉ t.gnss.awaiting ∧ t.sig = s.sig ∧
        t.gnss.dropped = min 65535 (s.gnss.dropped + 1) ∧ Only [.time, .evt, .gnss] s t) ∧
      (isDet s = true → ∃ t : State, exec (.gnssSolutionPublish w false) s = .next t ∧ Only [.time, .evt] s t)) ∧
    (∀ (w : Fin 6) (h : HeldOut), s.gnss.olds.find? (fun x => x.what == w.val) = some h → awake s = true →
      ∃ t : State, exec (.gnssSolutionPublish w true) s = .next t ∧ h ∉ t.gnss.olds ∧ t.gnss.awaiting = s.gnss.awaiting ∧ Only [.time, .evt, .sig, .gnss] s t ∧
        (w.val < 3 → (keyGet (0x0200 + 16 * w.val) t.sig.tab).bind List.head? =
          some ⟨vF64 h.sol.lat, h.sol.kind == 0, h.epoch + 10000000, some h.epoch, none, none⟩)) ∧
    (∀ (w : Fin 6) (c : Bool), heldJob s w.val = none → exec (.gnssSolutionPublish w c) s = .next s) ∧
    (∀ (c : Bool) (e : Nat) (late : BitVec 32) (it : BitVec 16) (sats : List LevelSat) (inp : LevelIn), s.gnss.epoch = some e → awake s = true →
      pNat s 0x0219 = 1 → s.gnss.levelA = true →
      let ds := solverTile 57 s
      let v := accessDomains 2 ds s
      let arr := e + us (pNat v 0x0610)
      let s0 := countTo arr v
      let w := { s0 with gnss := { s0.gnss with levelA := false, levelIn := none } }
      let x := levelEpoch (levelLimit c it.toNat w) e inp sats w
      domainsUp ds v = true → v.gnss.levelIn = some inp → (c = true ∨ isDet v = false) →
      exec (.levelAPublish c late it sats) s =
        .next (leaveSolver 57 x.2.host.nextEntry ((x.1.map fun q => levelPublish e arr q x.2).getD x.2))) ∧
    (∀ (te arr : Nat) (q : LevelSol), let t := levelPublish te arr q s
      Only [.sig, .gnss] s t ∧ t.gnss.level = some q ∧
        (keyGet 0x0260 t.sig.tab).bind List.head? = some ⟨vF64 (at_ d0 q.x 0), false, arr, some te, none, none⟩ ∧
        (keyGet 0x0261 t.sig.tab).bind List.head? = some ⟨vF64 (at_ d0 q.x 1), false, arr, some te, none, none⟩) ∧
    (∀ (c : Bool) (late : BitVec 32) (it : BitVec 16) (sats : List LevelSat), s.gnss.levelA = false → exec (.levelAPublish c late it sats) s = .next s)

/-- A channel that is STOPPED, or has no record, takes no bits; the bits of one channel change no other channel; a modulator fault marks the
channel faulty, and 10 ms of running bits put it back to SETTLING; at the end of its settling a channel is RUNNING and no other channel
changes; an edge of the synchronisation pin asks for a synchronisation at the first multiple of 100 us at least 200 us later, and at its
instant the synchronisation is no longer waiting. Rows that complete here: acqOutput, acqModFault, modFaultClear, settlingEnd,
acqSyncPinEdge, acqSync. -/
def Obligations.AcqRows : Prop :=
  ∀ s : State,
    (∀ (ch : Fin 16) (bits : List Bool), acqCfg s ch.val = none ∨ (at_ acqChanReset s.acq.chans ch.val).state = 0 → exec (.acqOutput ch bits) s = .next s) ∧
    (∀ (ch : Fin 16) (bits : List Bool), ∃ t : State, exec (.acqOutput ch bits) s = .next t ∧ Only [.time, .evt, .sig, .acq] s t ∧
      t.acq.chans.length = s.acq.chans.length ∧ ∀ k, k ≠ ch.val → t.acq.chans[k]? = s.acq.chans[k]?) ∧
    (∀ ch : Fin 16, ch.val < s.acq.chans.length → acqUp s = true → (at_ acqChanReset s.acq.chans ch.val).state ≠ 0 →
      (at_ acqChanReset s.acq.chans ch.val).fault = false → ∃ t : State, exec (.acqModFault ch) s = .next t ∧ (at_ acqChanReset t.acq.chans ch.val).fault = true ∧ (at_ acqChanReset t.acq.chans ch.val).state = (at_ acqChanReset s.acq.chans ch.val).state ∧
        Only [.evt, .sig, .acq] s t) ∧
    (∀ ch : Fin 16, (at_ acqChanReset s.acq.chans ch.val).state = 0 → exec (.acqModFault ch) s = .next s ∧ exec (.modFaultClear ch) s = .next s ∧ exec (.settlingEnd ch) s = .next s) ∧
    (∀ (ch : Fin 16) (k : AcqCfg), ch.val < s.acq.chans.length → acqCfg s ch.val = some k → (at_ acqChanReset s.acq.chans ch.val).state ≠ 0 →
      (at_ acqChanReset s.acq.chans ch.val).fault = true → ∃ t : State, exec (.modFaultClear ch) s = .next t ∧ (at_ acqChanReset t.acq.chans ch.val).fault = false ∧ (at_ acqChanReset t.acq.chans ch.val).state = 1 ∧
        (at_ acqChanReset t.acq.chans ch.val).settle = settleClocks k ∧ (at_ acqChanReset s.acq.chans ch.val).lastRun + ms 10 ≤ t.time.elapsed ∧
        Only [.time, .evt, .acq] s t) ∧
    (∀ ch : Fin 16, ch.val < s.acq.chans.length → (at_ acqChanReset s.acq.chans ch.val).state = 1 → ∃ t : State, exec (.settlingEnd ch) s = .next t ∧ (at_ acqChanReset t.acq.chans ch.val).state = 2 ∧ (∀ k, k ≠ ch.val → t.acq.chans[k]? = s.acq.chans[k]?) ∧ Only [.time, .evt, .acq] s t) ∧
    (∀ rising : Bool, acqUp s = true → syncOwner s = true → ((pNat s 0x0253 = 1 ∧ rising = true) ∨ (pNat s 0x0253 = 2 ∧ rising = false)) →
      s.acq.lastPin = none → ∃ t : State, exec (.acqSyncPinEdge rising) s = .next t ∧ t.acq.lastPin = some s.time.elapsed ∧ Only [.acq, .grp, .out] s t ∧
        ∃ i, t.acq.syncs = s.acq.syncs ++ [(i, 0)] ∧ i % 100000 = 0 ∧ s.time.total + 200000 ≤ i ∧ i < s.time.total + 300000) ∧
    (∀ rising : Bool, pNat s 0x0253 = 0 → exec (.acqSyncPinEdge rising) s = .next s) ∧
    (∀ (i o : Nat), firstSync s.acq.syncs = some (i, o) → acqUp s = true → ∃ t : State, exec .acqSync s = .next t ∧ (i, o) ∉ t.acq.syncs ∧ t.acq.needSync = false ∧
      Only [.time, .evt, .sig, .acq] s t ∧ ∀ k, (at_ acqChanReset s.acq.chans k).state = 0 → at_ acqChanReset t.acq.chans k = at_ acqChanReset s.acq.chans k) ∧
    (s.acq.syncs = [] → exec .acqSync s = .next s)

/-- A controller that is error active becomes error passive at 128 errors, and goes to bus-off with an event and its drives lost; a
recovered controller is in the state its MODE gives, with its counters zero; a frame heard publishes the signals its map gives; a controller
that is off, or cannot take the frame, hears nothing. Rows that complete here: canErrorPassive, canBusOff, canRecovered, canFrameRx. -/
def Obligations.CanRows : Prop :=
  ∀ s : State,
    (∀ (b : Fin 8) (tec rec_ : BitVec 8), b.val < s.bus.can.length → busUp s = true → (canOf s b.val).state = 1 →
      (canOf s b.val).tec ≤ tec.toNat → (canOf s b.val).rec_ ≤ rec_.toNat → (128 ≤ tec.toNat ∨ 128 ≤ rec_.toNat) →
      ∃ t : State, exec (.canErrorPassive b tec rec_) s = .next t ∧ (canOf t b.val).state = 2 ∧ (canOf t b.val).tec = tec.toNat ∧ (canOf t b.val).rec_ = rec_.toNat ∧
        Only [.evt, .bus] s t ∧ ∀ k, k ≠ b.val → canOf t k = canOf s k) ∧
    (∀ (b : Fin 8) (tec rec_ : BitVec 8), (canOf s b.val).state ≠ 1 → (canOf s b.val).state ≠ 2 → exec (.canErrorPassive b tec rec_) s = .next s) ∧
    (∀ b : Fin 8, b.val < s.bus.can.length → busUp s = true → ((canOf s b.val).state = 1 ∨ (canOf s b.val).state = 2) →
      ∃ t : State, exec (.canBusOff b) s = .next t ∧ (canOf t b.val).state = 3 ∧ (canOf t b.val).tec = 256 ∧ Only [.evt, .sig, .bus] s t ∧
        (∀ d ∈ ownDrives s, d.2.bus = b.val → d.1 < s.bus.drives.length → driveRec (ownMap s) d.1 ≠ none → (driveSt t d.1).lost = true)) ∧
    (∀ b : Fin 8, (canOf s b.val).state = 0 → exec (.canBusOff b) s = .next s ∧ exec (.canRecovered b) s = .next s) ∧
    (∀ b : Fin 8, b.val < s.bus.can.length → busUp s = true → (canOf s b.val).state = 4 → ∃ t : State, exec (.canRecovered b) s = .next t ∧ (canOf t b.val).state = canFresh s b.val ∧ (canOf t b.val).tec = 0 ∧ (canOf t b.val).rec_ = 0 ∧ Only [.evt, .bus] s t) ∧
    (∀ (b : Fin 8) (kind : CanKind) (ext : Bool) (id : BitVec 29) (sof : Nat) (data : List Byte),
      ∃ t : State, exec (.canFrameRx b kind ext id sof data) s = .next t ∧ Only [.sig, .bus] s t ∧
      ((canHears s b.val = false ∨ canTakes s b.val kind ext id.toNat data.length = false) → t = s) ∧ (kind.remote = true → t.sig = s.sig) ∧
      ((records 24 (tab s 0x0292)) = [] → t.sig = s.sig) ∧
      (∀ k, k ≠ b.val → canOf t k = canOf s k) ∧ t.bus.drives = s.bus.drives)

/-- A FEEDBACK of a drive of this device is kept newest first and ends its loss, but on a bus that only listens; one of a drive outside its
map only tells of an owner; a STATUS is kept with its instant and ends a lost heartbeat; a drive without heartbeat for HB_TIMEOUT_MS, and a
drive whose feedback is missing long enough, is marked with an event. A frame of another length is no frame of a drive. Rows that complete
here: feedbackRx, driveStatusRx, driveHbLost, driveLost. -/
def Obligations.DriveRows : Prop :=
  ∀ s : State,
    (∀ (b : Fin 8) (n : Fin 32) (data : List Byte) (k : Nat) (d : DriveMap), profileRx s b.val = true → data.length = 24 →
      thrusterAt s b.val n.val = some (k, d) → awake s = true → k < s.bus.drives.length → ∃ t : State, exec (.feedbackRx b n data) s = .next t ∧ (driveSt t k).fbs = ((s.time.total, data) :: (driveSt s k).fbs).take 128 ∧ (driveSt t k).gotFb = true ∧ (driveSt t k).missed = 0 ∧
        ((canOf s b.val).state ≠ 5 → (driveSt t k).lost = false) ∧ Only [.evt, .bus, .grp, .saf, .out] s t) ∧
    (∀ (b : Fin 8) (n : Fin 32) (data : List Byte), profileRx s b.val = true → data.length = 24 → thrusterAt s b.val n.val = none → awake s = true →
      exec (.feedbackRx b n data) s = .next (learnOwner (fieldU data 2 2) (meetOwner (fieldU data 2 2) (modCan b.val recAfter s)))) ∧
    (∀ (b : Fin 8) (n : Fin 32) (data : List Byte), data.length ≠ 24 → exec (.feedbackRx b n data) s = .next s) ∧
    (∀ (b : Fin 8) (n : Fin 32) (data : List Byte) (k : Nat) (d : DriveMap), profileRx s b.val = true → data.length = 8 →
      thrusterAt s b.val n.val = some (k, d) → awake s = true → k < s.bus.drives.length → ∃ t : State, exec (.driveStatusRx b n data) s = .next t ∧ (driveSt t k).status = data ∧ (driveSt t k).statusAt = s.time.elapsed ∧ (driveSt t k).hbLost = false ∧ Only [.bus] s t) ∧
    (∀ (b : Fin 8) (n : Fin 32) (data : List Byte), data.length ≠ 8 → exec (.driveStatusRx b n data) s = .next s) ∧
    (∀ (k : Fin 16) (d : DriveMap), driveRec (ownMap s) k.val = some d → (driveSt s k.val).hbLost = false → awake s = true → k.val < s.bus.drives.length →
      ∃ t : State, exec (.driveHbLost k) s = .next t ∧ (driveSt t k.val).hbLost = true ∧ (driveSt s k.val).statusAt + ms (pNat s 0x02A3) ≤ t.time.elapsed ∧
        Only [.time, .evt, .bus] s t) ∧
    (∀ (k : Fin 16) (d : DriveMap), driveRec (ownMap s) k.val = some d → awake s = true → k.val < s.bus.drives.length →
      (pNat s 0x02A2 ≤ (driveSt s k.val).missed ∨ (canOf s d.bus).state = 3) → ∃ t : State, exec (.driveLost k) s = .next t ∧ (driveSt t k.val).lost = true ∧
        Only [.evt, .bus] s t) ∧
    (∀ k : Fin 16, driveRec (ownMap s) k.val = none → exec (.driveHbLost k) s = .next s ∧ exec (.driveLost k) s = .next s)

/-- A sentence of an enabled port that frames badly or is too long is discarded and counted; a module present is read while firmware runs
and no brown-out warning stands, and is due to be read otherwise; a module that does not answer is tried again three times and is then
unidentified; one removed leaves its slot ABSENT, at once while firmware runs and else once it does. Rows that complete here:
serialSentenceRx, modulePresent, moduleReadComplete, moduleNackRetry, moduleRemoved. -/
def Obligations.SerialAndModuleRows : Prop :=
  ∀ s : State,
    (∀ (port : Fin 8) (start : Nat) (cs : List Byte) (fr : Bool), ∃ t : State, exec (.serialSentenceRx port start cs fr) s = .next t ∧ Only [.evt, .sig, .bus] s t ∧
      (busUp s = true → (tab s 0x0293).isEmpty = false → byteAt (tabRec s 0x0293 8 port.val) 2 = 1 → (fr = true ∨ 82 < cs.length ∨ awake s = false) →
        t = discardSentence port.val s) ∧ (busUp s = false → t = s)) ∧
    (∀ i : Fin 8, i.val < s.bus.slots.length → ∃ t : State, exec (.modulePresent i) s = .next t ∧ (slotOf t i.val).present = true ∧ Only [.bus, .out] s t ∧
      (awake s = true → bowRaised s = false → (slotOf t i.val).reading = true ∧ (slotOf t i.val).nacks = 0) ∧
      ((awake s && !bowRaised s) = false → (slotOf t i.val).due = true ∧ t.out = s.out) ∧ (slotOf t i.val).state = (slotOf s i.val).state) ∧
    (∀ (i : Fin 8) (data : List Byte), (slotOf s i.val).reading = true → awake s = true → bowRaised s = false →
      ∃ t : State, exec (.moduleReadComplete i data) s = .next t ∧ t = identify i.val data s ∧ Only [.evt, .bus] s t ∧
        (i.val < s.bus.slots.length → (slotOf t i.val).reading = false)) ∧
    (∀ (i : Fin 8) (data : List Byte), (slotOf s i.val).reading = false → exec (.moduleReadComplete i data) s = .next s ∧ exec (.moduleNackRetry i) s = .next s) ∧
    (∀ i : Fin 8, i.val < s.bus.slots.length → (slotOf s i.val).reading = true → awake s = true → bowRaised s = false →
      ∃ t : State, exec (.moduleNackRetry i) s = .next t ∧ Only [.time, .evt, .bus, .out] s t ∧
        ((slotOf s i.val).nacks < 3 → (slotOf t i.val).nacks = (slotOf s i.val).nacks + 1 ∧ (slotOf t i.val).reading = true) ∧
        (3 ≤ (slotOf s i.val).nacks → (slotOf t i.val).reading = false ∧ (slotOf t i.val).state = 2 ∧ t.out = s.out)) ∧
    (∀ i : Fin 8, i.val < s.bus.slots.length → awake s = true → ((slotOf s i.val).present = true ∨ (slotOf s i.val).state ≠ 0) →
      ∃ t : State, exec (.moduleRemoved i) s = .next t ∧ (slotOf t i.val).state = 0 ∧ (slotOf t i.val).present = false ∧ (slotOf t i.val).desc = [] ∧
        Only [.evt, .bus] s t) ∧
    (∀ i : Fin 8, i.val < s.bus.slots.length → awake s = false → ((slotOf s i.val).present = true ∨ (slotOf s i.val).state ≠ 0) →
      ∃ t : State, exec (.moduleRemoved i) s = .next t ∧ (slotOf t i.val).gone = true ∧ (slotOf t i.val).present = false ∧ (slotOf t i.val).due = false ∧
        (slotOf t i.val).state = (slotOf s i.val).state ∧ Only [.bus] s t) ∧
    (∀ i : Fin 8, awake s = true → (slotOf s i.val).present = false → (slotOf s i.val).state = 0 → exec (.moduleRemoved i) s = .next s)

/-- While firmware runs and the counter counts, a vessel boundary begins the next period at the end of the one before, with the work of its
first thruster period done; a thruster boundary does the work of the next thruster period. Otherwise nothing happens (log 5). Rows that
complete here: vesselPeriodBoundary, tpBoundary. -/
def Obligations.BoundaryRows : Prop :=
  ∀ s : State,
    (awake s = true → s.time.counting = true → ∃ t : State, exec .vesselPeriodBoundary s = .next t ∧ t.grid.running = true ∧ t.grid.tpDone = 1 ∧
      (s.grid.running = true → t.grid.startT = s.grid.endT) ∧ 
      (replays s = false → t.cfg = s.cfg) ∧
      Only [.time, .grid, .cfg, .host, .evt, .sig, .gnss, .acq, .bus, .fus, .obs, .slv, .ctl, .thr, .sch, .grp, .saf, .out, .fresh] s t) ∧
    (awake s = false ∨ s.time.counting = false → exec .vesselPeriodBoundary s = .next s) ∧
    (awake s = true → s.grid.running = true → s.grid.tpDone ≠ 0 → s.grid.tpDone < s.grid.tpTotal → ∃ t : State, exec .tpBoundary s = .next t ∧ t.grid.tpDone = s.grid.tpDone + 1 ∧ t.grid.period = s.grid.period ∧ t.grid.startT = s.grid.startT ∧
      Only [.time, .grid, .host, .evt, .bus, .ctl, .thr, .sch, .grp, .saf, .out] s t) ∧
    (s.grid.tpTotal ≤ s.grid.tpDone → exec .tpBoundary s = .next s) ∧ (s.grid.running = false → exec .tpBoundary s = .next s)

/-- The snapshot of a period begins its stages, unless under DET a solution or the level A it takes is still to come; each stage runs once
the domains of its jobs are ready and stalls before; projection, observers, control, allocation and hand-off each run once, in that order,
and only after the one before; the mirror stage, with the stream that allocation fixed and the hand-off gave its output signals, and the
health stage follow the hand-off, once each. A row out of its turn has no effect (log 5). Rows that complete here: snapshot,
projectionAssociationVote, observerUpdate, control, allocation, solverDeadline, handOff, mirror, health. -/
def Obligations.StageRows : Prop :=
  ∀ s : State,
    (∀ (n : Nat) (b : Int) (l : List (Nat × Int)), s.sch.begun = (n, b) :: l → awake s = true →
      replays { s with cfg := cfgBefore b s } = false → periodEnded s = true → levelAWait { s with cfg := cfgBefore b s } b = false →
      solutionWait { s with cfg := cfgBefore b s } b = false →
      ∃ t : State, exec .snapshot s = .next t ∧ t.sch.begun = l ∧ t.sch.cur = n ∧ t.sch.b = b ∧ t.sch.prevSnap = s.sch.snap ∧
        (t.sch.stage = 2 ∨ t.sch.stage = 7 ∧ t.sch.s8 = true) ∧ t.sch.s9 = false ∧ 
        Only [.time, .cfg, .evt, .pwr, .sig, .gnss, .acq, .bus, .fus, .obs, .slv, .ctl, .thr, .sch, .grp] s t) ∧
    (∀ (n : Nat) (b : Int) (l : List (Nat × Int)), s.sch.begun = (n, b) :: l → (levelAWait { s with cfg := cfgBefore b s } b = true ∨
      solutionWait { s with cfg := cfgBefore b s } b = true) → exec .snapshot s = .next s) ∧
    (s.sch.begun = [] → exec .snapshot s = .next s) ∧
    (awake s = true → s.sch.stage = 2 →
      let v := accessDomains 2 (workTile 0 s ++ [16, 15]) s
      (domainsUp (workTile 0 s ++ [16, 15]) v = true → ∃ t : State, exec .projectionAssociationVote s = .next t ∧ t.sch.stage = 3 ∧ t.sch.cur = s.sch.cur ∧
        domainOf t 15 = (if 15 < s.pwr.domains.length then .stopped else domainOf s 15) ∧ Only [.time, .evt, .pwr, .sig, .fus, .obs, .slv, .sch] s t) ∧
      (domainsUp (workTile 0 s ++ [16, 15]) v = false → exec .projectionAssociationVote s = .next v)) ∧
    (s.sch.stage ≠ 2 → exec .projectionAssociationVote s = .next s) ∧
    (awake s = true → s.sch.stage = 3 →
      let v := accessDomains 2 (workTile 1 s ++ recurrentNeeds s) s
      (domainsUp (workTile 1 s ++ recurrentNeeds s) v = true → ∃ t : State, exec .observerUpdate s = .next t ∧ t.sch.stage = 4 ∧ t.sch.cur = s.sch.cur ∧
        Only [.time, .evt, .pwr, .sig, .obs, .slv, .sch] s t) ∧
      (domainsUp (workTile 1 s ++ recurrentNeeds s) v = false → exec .observerUpdate s = .next v)) ∧
    (s.sch.stage ≠ 3 → exec .observerUpdate s = .next s) ∧
    (awake s = true → s.sch.stage = 4 →
      let v := accessDomains 1 (workTile 2 s) s
      (domainsUp (workTile 2 s) v = true → ∃ t : State, exec .control s = .next t ∧ t.sch.stage = 5 ∧ t.sch.chain = none ∧ t.sch.cur = s.sch.cur ∧
        Only [.time, .evt, .pwr, .sig, .ctl, .thr, .sch] s t) ∧
      (domainsUp (workTile 2 s) v = false → exec .control s = .next v)) ∧
    (s.sch.stage ≠ 4 → exec .control s = .next s) ∧
    (∀ late : BitVec 32, awake s = true → s.sch.stage = 5 → (isDet s = true ∨ s.time.total ≤ s.thr.s6Due) →
      let v := accessDomains 2 (solverTile 56 s) s
      (domainsUp (solverTile 56 s) v = true → ∃ t : State, exec (.allocation late) s = .next t ∧ t.sch.stage = 6 ∧ t.sch.cur = s.sch.cur ∧
        t.sch.mirrorOut = (if s.grp.role = 0 then mirrorStream { t with sch := { t.sch with mirrorOut := s.sch.mirrorOut } } else []) ∧
        Only [.time, .evt, .pwr, .slv, .thr, .sch] s t) ∧
      (domainsUp (solverTile 56 s) v = false → exec (.allocation late) s = .next v)) ∧
    (∀ late : BitVec 32, s.sch.stage ≠ 5 ∨ isDet s = false ∧ s.thr.s6Due < s.time.total → exec (.allocation late) s = .next s) ∧
    (∀ it : Nat, awake s = true → s.sch.stage = 5 → isDet s = false → ∃ t : State, exec (.solverDeadline 56 it) s = .next t ∧ t.sch.stage = 6 ∧
      Only [.time, .evt, .slv, .thr, .sch] s t) ∧
    (∀ (i : Fin 64) (it : Nat), i.val < 56 → solveInFlight s i.val = none → exec (.solverDeadline i it) s = .next s) ∧
    (awake s = true → s.sch.stage = 6 → ∃ t : State, exec .handOff s = .next t ∧ t.sch.stage = 7 ∧ t.mtr = { s.mtr with dp := t.mtr.dp } ∧ t.mtr.dp.isSome ∧
      t.sch.mirrorOut = (if s.sch.mirrorOut.isEmpty then [] else withSignals (stage7 s) (mirrorEntries (stage7 s)) s.sch.mirrorOut) ∧
      Only [.evt, .sig, .thr, .sch, .grp, .mtr, .out] s t) ∧
    (s.sch.stage ≠ 6 → exec .handOff s = .next s) ∧
    (awake s = true → s.sch.stage = 7 → s.sch.s8 = false → s.grp.role = 0 → ∃ t : State, exec .mirror s = .next t ∧ t.sch.s8 = true ∧ t.sch.mirrorOut = s.sch.mirrorOut ∧
      Only [.sch, .grp, .out] s t) ∧
    (s.sch.s8 = true ∨ s.sch.stage ≠ 7 ∨ s.grp.role ≠ 0 → exec .mirror s = .next s) ∧
    (awake s = true → s.sch.stage = 7 → s.sch.s9 = false → ∃ t : State, exec .health s = .next t ∧ t.sch.s9 = true ∧ t.sig.readPeriod = some s.sch.cur ∧
      Only [.host, .pwr, .sig, .slv, .sch, .grp, .saf, .out, .fresh] s t) ∧
    (s.sch.s9 = true ∨ s.sch.stage ≠ 7 → exec .health s = .next s)

/-- After its hand-off a period that is due a chain computes control ahead for the next period, changing nothing that is in force; its
completion makes it answerable. A datagram of a log is taken only while LOG_REPLAY is set, and one that is damaged has no effect. Rows that
complete here: parisonChain, parisonChainComplete, logBlockRx. -/
def Obligations.ChainRows : Prop :=
  ∀ s : State,
    (awake s = true → s.sch.chainDue = true → s.sch.stage = 7 → s.sch.chain = none → bowRaised s = false →
      let v := accessDomains 3 (workTile 3 s) s
      (domainsUp (workTile 3 s) v = true → ∃ t : State, exec .parisonChain s = .next t ∧ Only [.time, .evt, .pwr, .sch] s t ∧ Only [.sch] v t ∧ t.sch.chainDue = false ∧
        ∃ ch : Chain, t.sch.chain = some ch ∧ ch.period = s.sch.cur + 1 ∧ ch.done = false ∧ ch.pred = predictedRecord v) ∧
      (domainsUp (workTile 3 s) v = false → exec .parisonChain s = .next v)) ∧
    (s.sch.chainDue = false ∨ s.sch.stage ≠ 7 ∨ bowRaised s = true → exec .parisonChain s = .next s) ∧
    (∃ t : State, exec .parisonChainComplete s = .next t ∧ Only [.pwr, .sch] s t ∧ (∀ ch, s.sch.chain = some ch → t.sch.chain = some { ch with done := true }) ∧
      (s.sch.chain = none → t.sch.chain = none)) ∧
    (∀ (b : Bool) (d : List Byte), replays s = false → exec (.logBlockRx b d) s = .next s) ∧
    (∀ (b : Bool) (d : List Byte), fieldU d 0 4 ≠ 0x564B4C47 → exec (.logBlockRx b d) s = .next s) ∧
    (∀ (b : Bool) (d : List Byte), awake s = true → replays s = true → ∃ t : State, exec (.logBlockRx b d) s = .next t ∧ Only [.time, .grid, .cfg, .host, .evt, .pwr, .sig, .gnss, .acq, .bus, .fus, .obs, .slv, .ctl, .thr, .sch, .grp, .saf, .out, .fresh] s t)

/-- A group whose hold has run out is marked and tells it by an event, once; a clock that has stayed good for 100 samples is no longer
slipped; an optical frame that passes its checks is kept for its head, and one that does not is counted. A physics observer whose
measurements were rejected long enough is started again in that part; the recurrent observer leaves warm-up when it has warmed long enough,
stops with an event on a fault, and outside DET is marked late once per period; a quantity that has agreed long enough is no longer in
disagreement. Rows that complete here: refHoldTimeout, clockSlipCleared, opticalFrameRx, obsReinit, rnnWarmupEnd, rnnFault, rnnWaitExpiry,
obsAgree. -/
def Obligations.FusionAndObserverRows : Prop :=
  (∀ s : State,
    (∀ (g : Fin 8) (c : Nat), g.val < s.fus.groups.length → (groupSt s g.val).hold = some c → holdPeriods s (groupSt s g.val).lost ≤ c →
      (groupSt s g.val).fired = false → ∃ t : State, exec (.refHoldTimeout g) s = .next t ∧ (groupSt t g.val).fired = true ∧ Only [.evt, .fus] s t ∧
        (g.val ≤ 3 → t.fus.degrade = s.fus.degrade ++ [g.val]) ∧ ∀ k, k ≠ g.val → groupSt t k = groupSt s k) ∧
    (∀ g : Fin 8, (groupSt s g.val).hold = none ∨ (groupSt s g.val).fired = true → exec (.refHoldTimeout g) s = .next s) ∧
    (∀ i : Fin 64, i.val < s.fus.tracks.length → (trackOf s i.val).slip = true → 100 ≤ (trackOf s i.val).good → ∃ t : State, exec (.clockSlipCleared i) s = .next t ∧ (trackOf t i.val).slip = false ∧ (trackOf t i.val).good = 0 ∧ Only [.evt, .fus] s t ∧ ∀ k, k ≠ i.val → trackOf t k = trackOf s k) ∧
    (∀ i : Fin 64, (trackOf s i.val).slip = false ∨ (trackOf s i.val).good < 100 → exec (.clockSlipCleared i) s = .next s) ∧
    (∀ (b : Bool) (d : List Byte), awake s = true → opticalOk s d = true → byteAt d 4 < s.fus.heads.length → ∃ t : State, exec (.opticalFrameRx b d) s = .next t ∧ (t.fus.heads[byteAt d 4]?).bind List.head? = some (s.time.total, d.take (16 + 24 * byteAt d 5)) ∧ Only [.sig, .fus] s t ∧
      (keyGet (0x0188 + byteAt d 4) t.sig.tab).bind List.head? = some ⟨vU32 (fieldU d 6 2), false, s.time.total, none, none, none⟩) ∧
    (∀ (b : Bool) (d : List Byte), awake s = true → opticalOk s d = false → exec (.opticalFrameRx b d) s =
      .next { s with fus := { s.fus with dropped := min (2 ^ 32 - 1) (s.fus.dropped + 1) } }) ∧
    (∀ (b : Bool) (d : List Byte), awake s = false → exec (.opticalFrameRx b d) s = .next s)) ∧
  (∀ s : State,
    (∀ (h : Bool) (m : ObsModel), obsModel s = some m → s.obs.phys.running = true → m.reinit ≤ (if h then s.obs.phys.rejHdg else s.obs.phys.rejPos) →
      ∃ t : State, exec (.obsReinit h) s = .next t ∧ (if h then t.obs.phys.rejHdg = 0 ∧ t.obs.phys.rejPos = s.obs.phys.rejPos
        else t.obs.phys.rejPos = 0 ∧ t.obs.phys.rejHdg = s.obs.phys.rejHdg) ∧ t.obs.rnn = s.obs.rnn ∧ t.obs.phys.running = true ∧ Only [.evt, .obs] s t) ∧
    (∀ h : Bool, obsModel s = none ∨ s.obs.phys.running = false → exec (.obsReinit h) s = .next s) ∧
    (s.obs.rnn.state = 1 → pNat s 0x0343 ≤ s.obs.rnn.since → (s.sch.stage = 2 ∨ s.sch.stage = 3) → exec .rnnWarmupEnd s =
      .next { s with obs := { s.obs with rnn := { s.obs.rnn with state := 2 } } }) ∧
    (s.obs.rnn.state ≠ 1 ∨ s.obs.rnn.since < pNat s 0x0343 ∨ s.sch.stage ≠ 2 ∧ s.sch.stage ≠ 3 → exec .rnnWarmupEnd s = .next s) ∧
    (awake s = true → s.obs.rnn.state ≠ 4 → ∃ t : State, exec .rnnFault s = .next t ∧ t.obs.rnn.state = 4 ∧ t.obs.phys = s.obs.phys ∧ Only [.evt, .obs] s t) ∧
    (s.obs.rnn.state = 4 → exec .rnnFault s = .next s) ∧
    (∀ u : BitVec 32, isDet s = false → s.sch.stage = 3 → (s.obs.rnn.state = 1 ∨ s.obs.rnn.state = 2) → s.obs.rnn.late = false →
      ∃ t : State, exec (.rnnWaitExpiry u) s = .next t ∧ t.obs.rnn = { s.obs.rnn with late := true } ∧ Only [.evt, .obs] s t) ∧
    (∀ u : BitVec 32, isDet s = true ∨ s.obs.rnn.late = true → exec (.rnnWaitExpiry u) s = .next s) ∧
    (∀ q : Fin 9, q.val < s.obs.xchk.length → (at_ xchkReset s.obs.xchk q.val).disagree = true → pNat s 0x0342 ≤ (at_ xchkReset s.obs.xchk q.val).count →
      ∃ t : State, exec (.obsAgree q) s = .next t ∧ (at_ xchkReset t.obs.xchk q.val).disagree = false ∧ (at_ xchkReset t.obs.xchk q.val).count = 0 ∧ Only [.evt, .obs] s t) ∧
    (∀ q : Fin 9, (at_ xchkReset s.obs.xchk q.val).disagree = false → exec (.obsAgree q) s = .next s))

/-- A maintenance cycle takes the loose observations and leaves one generation of records for its first period in force; a bundle adjustment
pass in progress ends with its results noted and leaves one generation; a job whose domain is not awake waits; with neither enabled nothing
happens. Rows that complete here: mapMaintenance, baPass. -/
def Obligations.MapRows : Prop :=
  ∀ s : State,
    (pNat s 0x0620 = 1 → class3 s = true →
      let v := accessDomains 3 (workTile 4 s) s
      (domainsUp (workTile 4 s) v = true → ∃ t : State, exec .mapMaintenance s = .next t ∧ t.fus = { s.fus with loose := [] } ∧ t.slv.map = s.slv.map ∧
        t.slv.gen = s.slv.gen ∧ (∃ p, t.sch.pend = s.sch.pend ++ [p]) ∧ Only [.time, .evt, .pwr, .fus, .slv, .sch] s t) ∧
      (domainsUp (workTile 4 s) v = false → exec .mapMaintenance s = .next v)) ∧
    (pNat s 0x0620 ≠ 1 ∨ class3 s = false → exec .mapMaintenance s = .next s) ∧
    (∀ b : BaRun, s.slv.baRun = some b → pNat s 0x0622 = 1 → class3 s = true →
      let v := accessDomains 3 (solverTile 58 s) s
      (domainsUp (solverTile 58 s) v = true → ∃ t : State, exec .baPass s = .next t ∧ t.slv.baRun = none ∧ t.slv.baIter = b.iters ∧ t.slv.baRms = some b.rms ∧
        t.slv.baAt = now v ∧ t.slv.map = s.slv.map ∧ t.slv.structs = keyDel 58 s.slv.structs ∧ (∃ p, t.sch.pend = s.sch.pend ++ [p]) ∧
        Only [.time, .evt, .pwr, .slv, .sch] s t) ∧
      (domainsUp (solverTile 58 s) v = false → exec .baPass s = .next v)) ∧
    (s.slv.baRun = none ∨ pNat s 0x0622 ≠ 1 ∨ class3 s = false → exec .baPass s = .next s)

/-- An expired joystick demand falls to zero once; a following error held long enough raises its warning, and its limit with the action
LIMIT_ACTION gives; a target lost long enough, an optical reference lost in a berthing and a hold served at a waypoint each take their
effect. Each row before its time has no effect (log 5). Rows that complete here: joyTimeout, followWarn, followLimit, targetLostTimeout,
berthOptLost, trackHoldExpiry. -/
def Obligations.ControlTimerRows : Prop :=
  ∀ s : State,
    (joyMode s.ctl.mode = true → s.ctl.joyTimeout = false → msPeriods s (pNat s 0x0302) ≤ s.ctl.joyAge → ∃ t : State, exec .joyTimeout s = .next t ∧ t.ctl = { s.ctl with joy := [0, 0, 0], joyTimeout := true } ∧ Only [.evt, .ctl] s t) ∧
    (joyMode s.ctl.mode = false ∨ s.ctl.joyTimeout = true ∨ s.ctl.joyAge < msPeriods s (pNat s 0x0302) → exec .joyTimeout s = .next s) ∧
    (∀ k : Fin 3, k.val < s.ctl.fe.length → 1 < axisSrc s.ctl.mode k.val → (at_ feReset s.ctl.fe k.val).warn = false →
      max 1 (msPeriods s (fieldU (tabRec s 0x0390 48 k.val) 28 4)) ≤ (at_ feReset s.ctl.fe k.val).warnCount → ∃ t : State, exec (.followWarn k) s = .next t ∧ (at_ feReset t.ctl.fe k.val).warn = true ∧ (at_ feReset t.ctl.fe k.val).warnCount = 0 ∧ Only [.evt, .ctl] s t ∧ t.ctl.mode = s.ctl.mode) ∧
    (∀ k : Fin 3, k.val < s.ctl.fe.length → 1 < axisSrc s.ctl.mode k.val → (at_ feReset s.ctl.fe k.val).limit = false →
      max 1 (msPeriods s (fieldU (tabRec s 0x0390 48 k.val) 32 4)) ≤ (at_ feReset s.ctl.fe k.val).limitCount →
      pNat s 0x0310 ≠ 1 → ∃ t : State, exec (.followLimit k) s = .next t ∧ (at_ feReset t.ctl.fe k.val).limit = true ∧ (at_ feReset t.ctl.fe k.val).limitCount = 0 ∧ Only [.evt, .ctl] s t ∧ t.ctl.mode = s.ctl.mode ∧
        (pNat s 0x0310 = 2 → t.ctl.feRequest = true)) ∧
    (∀ k : Fin 3, axisSrc s.ctl.mode k.val ≤ 1 → exec (.followWarn k) s = .next s ∧ exec (.followLimit k) s = .next s) ∧
    (s.ctl.mode = 5 → s.ctl.targetLost = true → msPeriods s (pNat s 0x0312) ≤ s.ctl.lostCount → exec .targetLostTimeout s =
      .next { s with ctl := { s.ctl with targetRequest := true } }) ∧
    (s.ctl.mode ≠ 5 ∨ s.ctl.targetLost = false → exec .targetLostTimeout s = .next s) ∧
    (s.ctl.mode = 6 → 2 ≤ s.ctl.phase → s.ctl.optLost = false → msPeriods s (pNat s 0x0313) ≤ s.ctl.optCount → ∃ t : State, exec .berthOptLost s = .next t ∧ t.ctl.optLost = true ∧ t.ctl.mode = 6 ∧ (s.ctl.phase = 2 → t.ctl.halted = true) ∧ Only [.evt, .ctl] s t) ∧
    (s.ctl.mode ≠ 6 ∨ s.ctl.phase < 2 ∨ s.ctl.optLost = true → exec .berthOptLost s = .next s) ∧
    (s.ctl.mode = 4 → wpHold s s.ctl.waypoint → s.ctl.arrivedPos = true → s.ctl.waypoint + 1 < wpCount s → wpHoldPeriods s s.ctl.waypoint ≤ s.ctl.holdAge →
      ∃ t : State, exec .trackHoldExpiry s = .next t ∧ t.ctl = { s.ctl with waypoint := s.ctl.waypoint + 1, holdAge := 0, arrivedPos := false } ∧ Only [.evt, .ctl] s t) ∧
    (s.ctl.mode ≠ 4 ∨ s.ctl.arrivedPos = false → exec .trackHoldExpiry s = .next s)

/-- An actuator channel saturated long enough raises its warning and then its fault, with an event each; a lost thruster that passes every
row of its table long enough returns; a retired tile stays retired. Rows that complete here: actSatWarn, actSatFault, thrusterReturned,
tileRetired. -/
def Obligations.ThrusterRows : Prop :=
  ∀ s : State,
    (∀ (k : Fin 32) (st : Bool), k.val < s.thr.thr.length → satLimit s k.val 60 ≠ 0 → satLimit s k.val 60 ≤ (satOf s k.val st).count → (satOf s k.val st).warn = false →
      ∃ t : State, exec (.actSatWarn k st) s = .next t ∧ (satOf t k.val st).warn = true ∧ satOf t k.val (!st) = satOf s k.val (!st) ∧ Only [.evt, .thr] s t) ∧
    (∀ (k : Fin 32) (st : Bool), (satOf s k.val st).warn = true → exec (.actSatWarn k st) s = .next s) ∧
    (∀ (k : Fin 32) (st : Bool), k.val < s.thr.thr.length → satLimit s k.val 62 ≠ 0 → satLimit s k.val 62 ≤ (satOf s k.val st).count → (satOf s k.val st).fault = false →
      ∃ t : State, exec (.actSatFault k st) s = .next t ∧ (satOf t k.val st).fault = true ∧ satOf t k.val (!st) = satOf s k.val (!st) ∧ Only [.evt, .thr, .sch] s t) ∧
    (∀ (k : Fin 32) (st : Bool), (satOf s k.val st).fault = true → exec (.actSatFault k st) s = .next s) ∧
    (∀ k : Fin 32, k.val < s.thr.thr.length → (thrOf s k.val).lost = true → (thrOf s k.val).ready = true →
      max 1 (msPeriods s (pNat s 0x032C)) ≤ (thrOf s k.val).held → ∃ t : State, exec (.thrusterReturned k) s = .next t ∧ thrOf t k.val = { thrOf s k.val with lost := false, held := 0 } ∧ Only [.evt, .thr] s t) ∧
    (∀ k : Fin 32, (thrOf s k.val).lost = false ∨ (thrOf s k.val).ready = false → exec (.thrusterReturned k) s = .next s) ∧
    (∀ (n : Fin 12), fwRunning s = true → bitOf s.sch.retired n.val = false → ∃ t : State, exec (.tileRetired false n) s = .next t ∧ bitOf t.sch.retired n.val = true ∧
      Only [.host, .evt, .bus, .slv, .ctl, .thr, .sch, .grp, .saf, .out] s t) ∧
    (∀ (b : Bool) (n : Fin 12), fwRunning s = false → exec (.tileRetired b n) s = .next s) ∧
    (∀ (n : Fin 12), bitOf s.sch.retired n.val = true → exec (.tileRetired false n) s = .next s)

/-- A link comes up and goes down on its own port only; a frame on a link that is down is not received, and one with a wrong length or CRC
is dropped and counted; ANNOUNCE is sent every 100 ms and one received is kept for its device; a health report of another length is ignored;
a device with the image sends it when asked, and one that awaits it asks every 100 ms and keeps only an image that verifies. Rows that
complete here: cascLinkUp, cascLinkDown, cascFrameRx, announceTx, announceRx, healthRx, bootReq, bootReqTx, bootData. -/
def Obligations.CascadeRows : Prop :=
  ∀ s : State,
    (∀ d : Bool, cascUp s = true → s.pwr.isolated.getLsbD 8 = false → s.grp.links.length = 2 →
      (∃ t : State, exec (.cascLinkUp d) s = .next t ∧ at_ false t.grp.links (b2n d) = true ∧ at_ false t.grp.links (1 - b2n d) = at_ false s.grp.links (1 - b2n d) ∧
        Only [.evt, .grp] s t) ∧
      (∃ t : State, exec (.cascLinkDown d) s = .next t ∧ at_ false t.grp.links (b2n d) = false ∧ at_ false t.grp.links (1 - b2n d) = at_ false s.grp.links (1 - b2n d) ∧
        Only [.evt, .grp] s t)) ∧
    (∀ d : Bool, cascUp s = false → exec (.cascLinkUp d) s = .next s ∧ exec (.cascLinkDown d) s = .next s) ∧
    (∀ d : Bool, s.pwr.isolated.getLsbD 8 = true → exec (.cascLinkUp d) s = .next s) ∧
    (∀ (d : Bool) (f : List Byte), linkUp s (b2n d) = false → exec (.cascFrameRx d f) s = .next s) ∧
    (∀ (d : Bool) (f : List Byte), linkUp s (b2n d) = true → (f.length < 20 ∨ f.length ≠ 20 + fieldU f 4 2 ∨ 2048 < fieldU f 4 2 ∨
      crcNat (f.take (f.length - 4)) ≠ fieldU f (f.length - 4) 4) → ∃ t : State, exec (.cascFrameRx d f) s = .next t ∧ t.grp.framesDropped = min (s.grp.framesDropped + 1) (2 ^ 32 - 1) ∧ t.grp.seen = s.grp.seen ∧ Only [.evt, .grp] s t) ∧
    (∀ (d : Bool) (f : List Byte), ∃ t : State, exec (.cascFrameRx d f) s = .next t ∧ Only [.time, .host, .evt, .acq, .bus, .ctl, .thr, .sch, .grp, .saf, .out, .fresh] s t) ∧
    (awake s = true → ∃ t : State, exec .announceTx s = .next t ∧ t.grp.lastAnnounce = t.time.elapsed ∧ s.grp.lastAnnounce + ms 100 ≤ t.time.elapsed ∧
      Only [.time, .evt, .grp, .out] s t) ∧
    (awake s = false → exec .announceTx s = .next s) ∧
    (∀ m : CascMsg, fwRunning s = true → m.src ≠ deviceNo s → m.src < s.grp.peers.length → ∃ t : State, exec (.announceRx m) s = .next t ∧ (peerOf t m.src).announced = true ∧ (peerOf t m.src).role = byteAt m.payload 1 ∧ (peerOf t m.src).epoch = fieldU m.payload 8 2 ∧
      Only [.evt, .grp, .saf, .out] s t) ∧
    (∀ m : CascMsg, fwRunning s = false → exec (.announceRx m) s = .next s ∧ exec (.healthRx m) s = .next s) ∧
    (∀ m : CascMsg, m.payload.length ≠ 64 → exec (.healthRx m) s = .next s) ∧
    (∀ m : CascMsg, fwRunning s = true → m.payload.length = 64 → m.src < s.grp.peers.length → ∃ t : State, exec (.healthRx m) s = .next t ∧ (peerOf t m.src).health = m.payload ∧ Only [.evt, .grp, .saf, .out, .fresh] s t) ∧
    (∀ m : CascMsg, ∃ t : State, exec (.bootReq m) s = .next t ∧ Only [.grp, .out] s t ∧ (awake s = false → t = s)) ∧
    (awaitsImage s = true → ∃ t : State, exec .bootReqTx s = .next t ∧ t.grp.bootAskedAt = t.time.elapsed ∧ s.grp.bootAskedAt + ms 100 ≤ t.time.elapsed ∧
      Only [.time, .evt, .grp, .out] s t) ∧
    (awaitsImage s = false → exec .bootReqTx s = .next s ∧ ∀ m : CascMsg, exec (.bootData m) s = .next s) ∧
    (∀ m : CascMsg, awaitsImage s = true →
      let i := fieldU m.payload 0 2
      let ps := s.grp.bootParts.filter (fun p => !(p.1 == m.src && p.2.1 == i)) ++ [(m.src, i, m.payload.drop 4)]
      let img := (List.range (fieldU m.payload 2 2)).map fun k => (ps.find? fun p => p.1 == m.src && p.2.1 == k).map (·.2.2)
      (img.any (·.isNone) = true → exec (.bootData m) s = .next { s with grp := { s.grp with bootParts := ps } }) ∧
      (img.any (·.isNone) = false →
        exec (.bootData m) s = .next (if Config.imageVerifies (img.flatMap (·.getD [])) = true then { s with grp := { s.grp with bootParts := ps, bootOk := true } }
          else { s with grp := { s.grp with bootParts := ps.filter fun p => p.1 != m.src } })))

/-- A handover in progress is repeated 1 ms after it was last sent and ends when its time runs out with the target's answer; a TAKE of
another device names its owner, and one that names this device under a higher epoch makes it the owner where it is eligible and not busy; a
YIELD to this device ends its ownership; an ARBITER's datagram counts only with the right counter and proof; ownership is taken 300 ms after
firmware start at the earliest. Rows that complete here: handoverResend, handoverAckTimeout, take, yield, ack, arbiterDatagramRx,
permitInLow, ownerOverlap, ownershipTakeUp. -/
def Obligations.HandoverRows : Prop :=
  ∀ s : State,
    (s.grp.ho = none → s.grp.ackTo = none → exec .handoverResend s = .next s) ∧
    (∀ h : Handover, s.grp.ho = some h → awake s = true → s.time.elapsed < h.startedAt + ms (pNat s 0x0719) → ∃ t : State, exec .handoverResend s = .next t ∧ (t.grp.ho.map (·.epoch) = some h.epoch) ∧ (t.grp.ho.map (·.target) = some h.target) ∧ h.lastSent + ms 1 ≤ t.time.elapsed ∧ Only [.time, .evt, .grp, .out] s t) ∧
    (s.grp.ho = none → exec .handoverAckTimeout s = .next s) ∧
    (∀ h : Handover, s.grp.ho = some h → awake s = true → h.targetAcked = true → ∃ t : State, exec .handoverAckTimeout s = .next t ∧ t.grp.ho = none ∧
      h.startedAt + ms (pNat s 0x0719) ≤ t.time.elapsed ∧ Only [.time, .evt, .grp] s t) ∧
    (∀ h : Handover, s.grp.ho = some h → awake s = true → h.targetAcked = false → ∃ t : State, exec .handoverAckTimeout s = .next t ∧ Only [.time, .host, .evt, .grp, .out] s t ∧ (h.cmd.isSome → t.grp.ho = none ∧ ∀ e, h.cmd = some e → findCmd t e = none)) ∧
    (∀ m : CascMsg, pNat s 0x0711 ≠ 0xFE → byteAt m.payload 4 = deviceNo s → fwRunning s = true → s.grp.lastTake = none → eligible s = true →
      epochHigher (fieldU m.payload 2 2) s.grp.epoch = true → s.grp.ackTo = none → s.grp.ho = none → ∃ t : State, exec (.take m) s = .next t ∧ t.grp.owns = true ∧ t.grp.role = 0 ∧ t.grp.epoch = fieldU m.payload 2 2 ∧ t.grp.lastTake = some (fieldU m.payload 0 2, fieldU m.payload 2 2, 0) ∧
        Only [.evt, .bus, .thr, .grp, .saf, .out] s t) ∧
    (∀ m : CascMsg, pNat s 0x0711 ≠ 0xFE → byteAt m.payload 4 = deviceNo s → fwRunning s = true → s.grp.lastTake = none →
      epochHigher (fieldU m.payload 2 2) s.grp.epoch = false → ∃ t : State, exec (.take m) s = .next t ∧ t.grp.owns = s.grp.owns ∧ t.grp.epoch = s.grp.epoch ∧
        t.grp.lastTake = some (fieldU m.payload 0 2, fieldU m.payload 2 2, 1) ∧ Only [.grp, .out] s t) ∧
    (∀ m : CascMsg, pNat s 0x0711 ≠ 0xFE → byteAt m.payload 4 ≠ deviceNo s → fwRunning s = true → ∃ t : State, exec (.take m) s = .next t ∧ t.grp.owner = some (byteAt m.payload 4) ∧ Only [.evt, .grp, .saf, .out] s t) ∧
    (∀ m : CascMsg, pNat s 0x0711 ≠ 0xFE → byteAt m.payload 5 = deviceNo s → ∃ t : State, exec (.yield m) s = .next t ∧ t.grp.owns = false ∧
      Only [.evt, .grp, .saf, .out] s t) ∧
    (∀ m : CascMsg, (pNat s 0x0711 = 0xFE ∨ byteAt m.payload 5 ≠ deviceNo s) → exec (.yield m) s = .next s) ∧
    (∀ m : CascMsg, s.grp.ho = none → s.grp.owns = false → exec (.ack m) s = .next s) ∧
    (∀ (m : CascMsg) (h : Handover), s.grp.ho = some h → fwRunning s = true → h.id = fieldU m.payload 0 2 → h.epoch = fieldU m.payload 2 2 →
      byteAt m.payload 6 = 4 → h.targetAcked = false → ∃ t : State, exec (.ack m) s = .next t ∧ t.grp.ho = some { h with oldAcked := true } ∧ Only [.grp] s t) ∧
    (∀ (b : Bool) (ip : BitVec 32) (d : List Byte), (awake s = false ∨ pNat s 0x0711 ≠ 0xFE ∨ roleKey s 4 = [] ∨ ip.toNat ≠ pNat s 0x071E ∨
      d.drop (d.length - 16) ≠ (hmac (roleKey s 4) (d.take (d.length - 16))).take 16 ∨ fieldU d (d.length - 20) 4 ≤ s.grp.datagramSeen) →
      exec (.arbiterDatagramRx b ip d) s = .next s) ∧
    (∀ (b : Bool) (ip : BitVec 32) (d : List Byte), ∃ t : State, exec (.arbiterDatagramRx b ip d) s = .next t ∧ Only [.evt, .bus, .thr, .grp, .saf, .out] s t ∧
      s.grp.datagramSeen ≤ t.grp.datagramSeen) ∧
    (∀ r : Bool, ∃ t : State, exec (.permitInLow r) s = .next t ∧ t.grp.permitIn = r ∧ (pNat s 0x0713 = 1 → t.grp.owns = false) ∧ (pNat s 0x0713 ≠ 1 → Only [.grp] s t) ∧
      Only [.evt, .grp, .saf, .out] s t) ∧
    (∃ t : State, exec .ownerOverlap s = .next t ∧ t.grp.activeIn = [true, true] ∧ Only [.evt, .grp, .out] s t) ∧
    (awake s = true → s.time.counting = true → ∃ t : State, exec .ownershipTakeUp s = .next t ∧ s.pwr.fwAt + ms 300 ≤ t.time.elapsed ∧
      (s.grp.owns = true → t.grp.owns = true) ∧ (t.grp.owns = true → s.grp.owns = true ∨ roleOwns s = true ∧ outranked s = false) ∧
      Only [.time, .evt, .grp, .out] s t) ∧
    (awake s = false ∨ s.time.counting = false → exec .ownershipTakeUp s = .next s)

/-- The parts of a mirror stream are gathered by period; EXT_CMD and EXT_FB are taken only by the device they are for; a STOP takes its
effect outside DET at once and under DET at the next boundary; a follower notes the steps and synchronisations told to it, and a standby
counts its self-tests. Rows that complete here: mirrorRx, extCmd, extFb, extMasterLost, stop, stepNotice, syncNotice, selftestCycle,
hbInToggle. -/
def Obligations.GroupTrafficRows : Prop :=
  ∀ s : State,
    (∀ m : CascMsg, ∃ t : State, exec (.mirrorRx m) s = .next t ∧ Only [.grp] s t ∧ ((awake s = false ∨ shadows s = false ∨ m.period < s.sch.cur) → t = s) ∧
      (awake s = true → shadows s = true → s.sch.cur ≤ m.period → t.grp.rxPeriod = some m.period ∧
        keyGet (fieldU m.payload 0 2) t.grp.rxParts = some (m.payload.drop 4))) ∧
    (∀ m : CascMsg, awake s = true → s.grp.role = 3 → m.payload.length = 208 → (peerOf s m.src).crc = configCrc s →
      epochHigher s.grp.epoch (fieldU m.payload 12 2) = false → ∃ t : State, exec (.extCmd m) s = .next t ∧ t.grp.extMissed = 0 ∧ t.grp.extLost = false ∧
        t.grp.owner = some m.src ∧ (∃ c, t.grp.extPending = s.grp.extPending ++ [c]) ∧ Only [.grp] s t) ∧
    (∀ m : CascMsg, awake s = true → s.grp.role = 3 → m.payload.length = 208 → (peerOf s m.src).crc ≠ configCrc s →
      exec (.extCmd m) s = .next (record .configMismatch [] s)) ∧
    (∀ m : CascMsg, (awake s = false ∨ s.grp.role ≠ 3 ∨ m.payload.length ≠ 208) → exec (.extCmd m) s = .next s) ∧
    (∀ m : CascMsg, awake s = true → s.grp.role = 0 → pNat s 0x0712 = m.src → m.payload.length = 640 → ∃ t : State, exec (.extFb m) s = .next t ∧ t.grp = { s.grp with extFb := ((s.time.total, m.payload) :: s.grp.extFb).take 128, extFbMissed := 0, extFbSeen := true } ∧
      t.thr = { s.thr with extClear := t.thr.extClear } ∧ (∀ k, bitOf t.thr.extClear k = true → bitOf s.thr.extClear k = true) ∧ Only [.thr, .grp] s t) ∧
    (∀ m : CascMsg, (awake s = false ∨ s.grp.role ≠ 0 ∨ pNat s 0x0712 ≠ m.src ∨ m.payload.length ≠ 640) → exec (.extFb m) s = .next s) ∧
    (awake s = true → s.grp.role = 3 → 3 ≤ s.grp.extMissed → s.grp.extLost = false → ∃ t : State, exec .extMasterLost s = .next t ∧ t.grp.extLost = true ∧
      t.grp.extPending = [] ∧ (∀ i c, 16 ≤ i → t.thr.current[i]? = some c → c = standbyCmd) ∧ Only [.evt, .thr, .grp] s t) ∧
    (s.grp.role ≠ 3 ∨ s.grp.extMissed < 3 ∨ s.grp.extLost = true → exec .extMasterLost s = .next s) ∧
    (∀ m : CascMsg, awake s = true → (fieldU m.payload 0 2 = 0x03F0 ∨ fieldU m.payload 0 2 = 0x08F0) →
      (isDet s = true → exec (.stop m) s = .next { s with thr := { s.thr with stopPending := s.thr.stopPending ++ [fieldU m.payload 0 2] } }) ∧
      (isDet s = false → exec (.stop m) s = .next (stopEffect (fieldU m.payload 0 2) s))) ∧
    (∀ m : CascMsg, fieldU m.payload 0 2 ≠ 0x03F0 → fieldU m.payload 0 2 ≠ 0x08F0 → exec (.stop m) s = .next s) ∧
    (∀ m : CascMsg, awake s = true → isFollower s = true → s.time.total ≤ fieldU m.payload 16 8 * 10 ^ 9 + fieldU m.payload 24 4 →
      let n : PendStep := ⟨fieldS m.payload 0 16, fieldU m.payload 16 8 * 10 ^ 9 + fieldU m.payload 24 4, 1, fieldU m.payload 28 2, none⟩
      exec (.stepNotice m) s = .next (addStep n s) ∧ (addStep n s).time.steps = s.time.steps ++ [n]) ∧
    (∀ m : CascMsg, isFollower s = false → exec (.stepNotice m) s = .next s ∧ exec (.syncNotice m) s = .next s) ∧
    (∀ m : CascMsg, acqUp s = true → pNat s 0x0254 = 1 → isFollower s = true → ∃ t : State, exec (.syncNotice m) s = .next t ∧ Only [.evt, .acq] s t ∧
      ∃ i, t.acq.syncs = s.acq.syncs ++ [(i, 2)] ∧ s.time.total ≤ i) ∧
    (∀ o : SelfTest, awake s = true → bowRaised s = false → (s.grp.role = 1 ∨ s.grp.role = 2) → ∃ t : State, exec (.selftestCycle o) s = .next t ∧ (o = .passed → t.grp.selftestCycles = (s.grp.selftestCycles + 1) % 2 ^ 32 ∧ Only [.grp] s t) ∧ (o = .memory → t.grp.memoryFail = true ∧ Only [.grp] s t) ∧
      (o = .recurrent → t.obs.rnn.state = 4 ∧ Only [.evt, .obs, .grp] s t) ∧ (o = .marver → t.grp.cyclesAsStandby = 0 ∧ Only [.grp] s t) ∧
      Only [.host, .evt, .bus, .obs, .slv, .ctl, .thr, .sch, .grp, .saf, .out] s t) ∧
    (∀ o : SelfTest, (s.grp.role ≠ 1 ∧ s.grp.role ≠ 2 ∨ bowRaised s = true) → exec (.selftestCycle o) s = .next s) ∧
    (∀ k : Fin 2, ∃ t : State, exec (.hbInToggle k) s = .next t ∧ t.grp.hbIn[k.val]? = (s.grp.hbIn[k.val]?).map (!·) ∧ Only [.grp, .fresh] s t)

/-- With its tests ended the monitor takes each filtered input, each test pulse and each discrepancy, and latches ESTOP at a demand or a
discrepancy of its pair; a ramp that ends and a fallen release request apply the channel; a wrong readback or a failed switch test puts the
channel into CH_FAULT, applied, and latches READBACK; a clock outside its window, a failed diagnostic and a low VDD_SAFE latch INTERNAL with
their bit; an absent heartbeat latches HEARTBEAT, and 1 s later a set that says so resets the device; a due brake test is told once;
start-up ends with the stored set in force where a copy verifies. Before its start-up tests end the monitor takes nothing; VDD_SAFE stands
in BOW_RAILS while it is low. Rows that complete here: vddSafeWarning, safeInputFiltered, testPulse, discrepancy, rampEnd,
releaseRequestFallExpiry, readbackDeviation, switchTest, clockWindow, clockWindowTimeout, heartbeatAbsent, safetyResetRequest,
monitorDiagnostic, brakeTestDue, monitorStartUp. -/
def Obligations.SafetyRows : Prop :=
  ∀ s : State,
    (s.saf.phase ≠ 2 → (∀ i b, exec (.safeInputFiltered i b) s = .next s) ∧ (∀ o b a, exec (.testPulse o b a) s = .next s) ∧ (∀ p, exec (.discrepancy p) s = .next s) ∧
      (∀ c, exec (.readbackDeviation c) s = .next s) ∧ (∀ c b, exec (.switchTest c b) s = .next s) ∧ (∀ n, exec (.clockWindow n) s = .next s) ∧
      exec .clockWindowTimeout s = .next s ∧ exec .heartbeatAbsent s = .next s ∧ (∀ k b, exec (.monitorDiagnostic k b) s = .next s) ∧
      exec (.vddSafeWarning false) s = .next (railBelow 7 1680 s)) ∧
    (∀ (i : Fin 10) (b : Bool), s.saf.phase = 2 → ∃ t : State, exec (.safeInputFiltered i b) s = .next t ∧ t.saf.inputs = modAt s.saf.inputs i.val (fun x => { x with high := b }) ∧
      (s.saf.inputs.length = 10 → 8 ≤ i.val → b = false → bitOf t.saf.latched 8 = true) ∧ Only [.host, .evt, .bus, .ctl, .thr, .sch, .grp, .saf, .out] s t) ∧
    (∀ (o : Fin 2) (b a : List Bool), s.saf.phase = 2 → ∃ t : State, exec (.testPulse o b a) s = .next t ∧ Only [.host, .evt, .bus, .ctl, .thr, .sch, .grp, .saf, .out] s t ∧ ∀ (k : Nat) (x : SafIn), s.saf.inputs[k]? = some x →
        t.saf.inputs[k]? = some (if inUsed s k = true ∧ tested s k = o.val + 1 then pulsed (at_ false b k) (at_ false a k) x else x)) ∧
    (∀ p : Fin 5, s.saf.phase = 2 → s.saf.disc.length = 5 → isPair s p.val = true → (pairDemand s p.val).1 ≠ (pairDemand s p.val).2 →
      (discOf s p.val).1 = false → ∃ t : State, exec (.discrepancy p) s = .next t ∧ discOf t p.val = (true, false) ∧ (p.val = 4 → bitOf t.saf.latched 8 = true) ∧
        Only [.host, .evt, .bus, .ctl, .thr, .sch, .grp, .saf, .out] s t) ∧
    (∀ p : Fin 5, (isPair s p.val = false ∨ (pairDemand s p.val).1 = (pairDemand s p.val).2 ∨ (discOf s p.val).1 = true) → exec (.discrepancy p) s = .next s) ∧
    (∀ (c : Fin 8) (t0 : Nat), (brakeOf s c.val).ramp = some t0 → ∃ t : State, exec (.rampEnd c) s = .next t ∧ t.saf = { s.saf with brakes := modAt s.saf.brakes c.val applied } ∧
      t0 + cd12Least (ms (rampMs s c.val)) ≤ t.time.elapsed ∧ Only [.time, .evt, .saf] s t) ∧
    (∀ c : Fin 8, (brakeOf s c.val).ramp = none → exec (.rampEnd c) s = .next s) ∧
    (∀ (c : Fin 8) (t0 : Nat), (brakeOf s c.val).fallAt = some t0 → (brakeOf s c.val).request = false → (brakeOf s c.val).ramp = none →
      ∃ t : State, exec (.releaseRequestFallExpiry c) s = .next t ∧ t.saf = { s.saf with brakes := modAt s.saf.brakes c.val applied } ∧
        t0 + cd12Least (ms (rampMs s c.val)) ≤ t.time.elapsed ∧ Only [.time, .evt, .saf] s t) ∧
    (∀ c : Fin 8, ((brakeOf s c.val).fallAt = none ∨ (brakeOf s c.val).request = true ∨ (brakeOf s c.val).ramp.isSome) → exec (.releaseRequestFallExpiry c) s = .next s) ∧
    (∀ c : Fin 8, s.saf.phase = 2 → brakeOn s c.val = true → s.saf.brakes.length = 8 → ∃ t : State, exec (.readbackDeviation c) s = .next t ∧ (brakeOf t c.val).released = false ∧ (brakeOf t c.val).fault = true ∧ bitOf t.saf.latched 13 = true ∧
      Only [.host, .evt, .bus, .ctl, .thr, .sch, .grp, .saf, .out] s t) ∧
    (∀ c : Fin 8, brakeOn s c.val = false → exec (.readbackDeviation c) s = .next s) ∧
    (∀ c : Fin 8, s.saf.phase = 2 → (brakeOf s c.val).released = true → ∃ t : State, exec (.switchTest c false) s = .next t ∧ (brakeOf t c.val).released = false ∧ (brakeOf t c.val).fault = true ∧ bitOf t.saf.latched 13 = true ∧
      Only [.host, .evt, .bus, .ctl, .thr, .sch, .grp, .saf, .out] s t) ∧
    (∀ c : Fin 8, exec (.switchTest c true) s = .next s ∧ ((brakeOf s c.val).released = false → exec (.switchTest c false) s = .next s)) ∧
    (∀ n : Nat, s.saf.phase = 2 → ∃ t : State, exec (.clockWindow n) s = .next t ∧ t.saf.clockCount = n ∧ t.saf.clockAt = s.time.elapsed ∧
      (71875 ≤ n ∧ n ≤ 84375 → Only [.saf] s t ∧ t.saf.latched = s.saf.latched) ∧ (n < 71875 ∨ 84375 < n → bitOf t.saf.latched 14 = true ∧ bitOf t.saf.detail 0 = true) ∧
      Only [.host, .evt, .bus, .ctl, .thr, .sch, .grp, .saf, .out] s t) ∧
    (s.saf.phase = 2 → ∃ t : State, exec .clockWindowTimeout s = .next t ∧ bitOf t.saf.latched 14 = true ∧ bitOf t.saf.detail 0 = true ∧
      s.saf.clockAt + cd12Least 4000000 ≤ t.time.elapsed ∧ Only [.time, .host, .evt, .bus, .ctl, .thr, .sch, .grp, .saf, .out] s t) ∧
    (∀ n t0 : Nat, s.saf.hb = some (n, t0) → s.saf.phase = 2 → (safSet s).isSome → s.saf.hbAbsent = none → ∃ t : State, exec .heartbeatAbsent s = .next t ∧ t.saf.hbAbsent = some t.time.elapsed ∧ bitOf t.saf.latched 10 = true ∧ t0 + cd12Least (ms (setU16 s 14)) ≤ t.time.elapsed ∧
      Only [.time, .host, .evt, .bus, .ctl, .thr, .sch, .grp, .saf, .out] s t) ∧
    (s.saf.hb = none ∨ safSet s = none ∨ s.saf.hbAbsent.isSome → exec .heartbeatAbsent s = .next s) ∧
    (∀ t0 : Nat, s.saf.hbAbsent = some t0 → setU8 s 10 = 1 → s.saf.phase = 2 → fwRunning s = true → ∃ t : State, exec .safetyResetRequest s = .next t ∧ ResetBy .safetyReq s t ∧ t0 + cd12Least (ms 1000) ≤ t.time.elapsed) ∧
    (s.saf.hbAbsent = none ∨ setU8 s 10 ≠ 1 ∨ fwRunning s = false → exec .safetyResetRequest s = .next s) ∧
    (∀ k : Fin 3, exec (.monitorDiagnostic k true) s = .next s ∧ (s.saf.phase = 2 → ∃ t : State, exec (.monitorDiagnostic k false) s = .next t ∧ bitOf t.saf.latched 14 = true ∧ bitOf t.saf.detail (k.val + 2) = true ∧ Only [.host, .evt, .bus, .ctl, .thr, .sch, .grp, .saf, .out] s t)) ∧
    (s.saf.phase = 2 → ∃ t : State, exec (.vddSafeWarning false) s = .next t ∧ bitOf t.saf.latched 14 = true ∧ bitOf t.saf.detail 1 = true ∧
      t.pwr.bowRails = s.pwr.bowRails ||| 0x080#11 ∧ Only [.host, .evt, .pwr, .bus, .ctl, .thr, .sch, .grp, .saf, .out] s t) ∧
    (∃ t : State, exec (.vddSafeWarning true) s = .next t ∧ t.saf.phase = 0 ∧ t.saf.latched = 0 ∧ t.saf.set = none ∧ t.saf.stored = s.saf.stored ∧
      t.pwr = (railBelow 7 1600 s).pwr ∧ Only [.pwr, .saf] s t) ∧
    (∀ c : Fin 8, setU16 s 18 ≠ 0 → brakeOn s c.val = true → (brakeOf s c.val).due = false → (∀ h, testAge s c.val = some h → setU16 s 18 < h) →
      ∃ t : State, exec (.brakeTestDue c) s = .next t ∧ t.saf.brakes = modAt s.saf.brakes c.val (fun b => { b with due := true }) ∧ t.saf.latched = s.saf.latched ∧
        Only [.evt, .saf] s t) ∧
    (∀ c : Fin 8, (setU16 s 18 = 0 ∨ brakeOn s c.val = false ∨ (brakeOf s c.val).due = true) → exec (.brakeTestDue c) s = .next s) ∧
    (∀ a b : Bool, startingUp s = true → exec (.monitorStartUp a b) s =
      .next (railsUp 0x77F#11 { s with saf := { s.saf with phase := 2, set := if (a || b) = true then s.saf.stored else none, clockAt := s.time.elapsed } })) ∧
    (∀ a b : Bool, startingUp s = false → exec (.monitorStartUp a b) s = .next s)

/-- A sample, a second's end, a pulse, a phase lost or back, a clock check, a commit of the registers, a watchdog expiry, a power-up, the
supply's warning and loss and the seal each act on the island, and beside it only on how VDD_MTR stands in BOW_RAILS: a sample and a second
leave the parameters, the seal counter, the log and the store; a disabled feeder keeps its energy; a restart takes what the newer copy of
the store that verifies holds, with SEAL no lower than the log tells it (log 242), and with neither copy the default parameters, no energy
and SEAL one past the log. Rows that complete here: mtrSample, mtrSecond, mtrPulse, phaseLoss, mtrClockCheck, mtrRegisterCommit,
vddMtrWarning, vddMtrLoss, mtrWatchdog, mtrPowerUp, unsealed, sealed. -/
def Obligations.IslandRows : Prop :=
  ∀ s : State,
    (s.mtr.on = false → (∀ b, exec (.mtrSample b) s = .next s) ∧ (∀ f, exec (.mtrSecond f) s = .next s) ∧ (∀ f, exec (.mtrPulse f) s = .next s) ∧ (∀ f k, exec (.phaseLoss f k) s = .next s) ∧
      (∀ n e, exec (.mtrClockCheck n e) s = .next s) ∧ exec .mtrRegisterCommit s = .next s ∧ exec .mtrWatchdog s = .next s ∧ exec .vddMtrWarning s = .next s ∧ exec .unsealed s = .next s ∧
      exec .sealed s = .next s) ∧
    (∀ b : List (List Bool), s.mtr.on = true → s.mtr.measuring = true → ∃ t : State, exec (.mtrSample b) s = .next t ∧ t.mtr.samples = s.mtr.samples + 1 ∧
      t.mtr.sampleAt = t.time.elapsed ∧ s.mtr.sampleAt + 113636 ≤ t.time.elapsed ∧ t.mtr.params = s.mtr.params ∧ t.mtr.sealCount = s.mtr.sealCount ∧
      t.mtr.log = s.mtr.log ∧ t.mtr.store = s.mtr.store ∧ (s.mtr.dp = none → s.mtr.dpFrac < 8 → s.mtr.dpMs < 2 ^ 64 → t.mtr.dpMs = s.mtr.dpMs) ∧
      Only [.time, .evt, .mtr] s t) ∧
    (∀ b : List (List Bool), s.mtr.measuring = false → exec (.mtrSample b) s = .next s) ∧
    (∀ f : List F32, s.mtr.on = true → s.mtr.measuring = true → s.mtr.samples < 8000 → exec (.mtrSecond f) s = .next s) ∧
    (∀ f : List F32, s.mtr.on = true → (s.mtr.measuring = false ∨ 8000 ≤ s.mtr.samples) → ∃ t : State, exec (.mtrSecond f) s = .next t ∧ t.mtr.operS = s.mtr.operS + 1 ∧
      t.mtr.samples = 0 ∧ t.mtr.seq = (s.mtr.seq + 1) % 2 ^ 32 ∧ t.mtr.image.isSome ∧ t.mtr.params = s.mtr.params ∧ t.mtr.sealCount = s.mtr.sealCount ∧
      t.mtr.log = s.mtr.log ∧ t.mtr.store = s.mtr.store ∧ (s.mtr.measuring = true → t.time = s.time) ∧ Only [.time, .evt, .mtr] s t ∧
      ∀ (k : Nat) (x : Feeder), s.mtr.feeders[k]? = some x → mtrOn s.mtr.params k = false → ∃ y, t.mtr.feeders[k]? = some y ∧ y.energy = x.energy) ∧
    (∀ f : Fin 4, s.mtr.on = true → mtrOn s.mtr.params f.val = true → 0 < (at_ feederReset s.mtr.feeders f.val).owed → ∃ t : State, exec (.mtrPulse f) s = .next t ∧ t.out = .pulse "MTR_PULSE" f.val :: s.out ∧ (at_ feederReset t.mtr.feeders f.val).owed + 1 = (at_ feederReset s.mtr.feeders f.val).owed ∧
      at_ 0 s.mtr.pulseAt f.val + us 1819 ≤ t.time.elapsed ∧ Only [.time, .evt, .mtr, .out] s t) ∧
    (∀ f : Fin 4, (mtrOn s.mtr.params f.val = false ∨ (at_ feederReset s.mtr.feeders f.val).owed = 0) → exec (.mtrPulse f) s = .next s) ∧
    (∀ (f : Fin 4) (k : Fin 3) (x : Feeder), s.mtr.on = true → s.mtr.image.isSome → mtrOn s.mtr.params f.val = true → s.mtr.feeders[f.val]? = some x → x.loss.length = 3 →
      let u := f2d (at_ 0 x.urms k.val)
      let g := f2d (mtrP s (0x100 + 6 * f.val + k.val))
      (at_ false x.loss k.val = false → dlt u (dmul (dofRat 10 100) g) = true → ∃ t : State, exec (.phaseLoss f k) s = .next t ∧ Only [.mtr] s t ∧
        (∃ y, t.mtr.feeders[f.val]? = some y ∧ y.loss = modAt x.loss k.val (fun _ => true) ∧ y.energy = x.energy) ∧ t.mtr.params = s.mtr.params) ∧
      (at_ false x.loss k.val = true → dle (dmul (dofRat 12 100) g) u = true → ∃ t : State, exec (.phaseLoss f k) s = .next t ∧ Only [.mtr] s t ∧
        (∃ y, t.mtr.feeders[f.val]? = some y ∧ y.loss = modAt x.loss k.val (fun _ => false) ∧ y.energy = x.energy) ∧ t.mtr.params = s.mtr.params)) ∧
    (∀ (f : Fin 4) (k : Fin 3), (s.mtr.image = none ∨ mtrOn s.mtr.params f.val = false) → exec (.phaseLoss f k) s = .next s) ∧
    (∀ (n : Nat) (e : Bool), s.mtr.on = true → ∃ t : State, exec (.mtrClockCheck n e) s = .next t ∧ s.mtr.checkAt + ms 9 ≤ t.time.elapsed ∧ t.mtr.checkAt = t.time.elapsed ∧
      ((e = false ∨ 100000 < n) → t.mtr.measuring = false) ∧ (e = true → 20000 ≤ n → n ≤ 100000 → t.mtr.clockFault = true ∧ t.mtr.measuring = s.mtr.measuring) ∧
      (e = true → n < 20000 → s.mtr.steady < 99 → t.mtr.clockFault = s.mtr.clockFault ∧ t.mtr.measuring = s.mtr.measuring) ∧
      (e = true → n < 20000 → 99 ≤ s.mtr.steady → t.mtr.clockFault = false ∧ t.mtr.measuring = true) ∧ t.mtr.params = s.mtr.params ∧
      t.mtr.store = s.mtr.store ∧ Only [.time, .evt, .mtr] s t) ∧
    (s.mtr.on = true → 60 ≤ s.mtr.since60 → exec .mtrRegisterCommit s = .next { s with mtr := { s.mtr with store := some (committedStore s), older := s.mtr.store, since60 := 0 } }) ∧
    (s.mtr.since60 < 60 → exec .mtrRegisterCommit s = .next s) ∧
    (s.mtr.on = true → ∃ t : State, exec .vddMtrWarning s = .next t ∧ t.mtr.store = some (committedStore s) ∧ t.mtr.older = s.mtr.store ∧ t.mtr.feeders = s.mtr.feeders ∧ t.mtr.sealCount = s.mtr.sealCount ∧
      t.pwr = (railBelow 8 3100 s).pwr ∧ Only [.pwr, .mtr] s t) ∧
    (∃ t : State, exec .vddMtrLoss s = .next t ∧ t.mtr.on = false ∧ t.mtr.measuring = false ∧ t.mtr.unsealed = false ∧ t.mtr.image = none ∧ t.mtr.store = s.mtr.store ∧
      t.mtr.older = s.mtr.older ∧ t.mtr.log = s.mtr.log ∧ t.pwr = (railBelow 8 2900 s).pwr ∧
      Only [.pwr, .mtr] s t) ∧
    (∀ st : MtrStore, s.mtr.on = true → s.mtr.store = some st → ∃ t : State, exec .mtrWatchdog s = .next t ∧ t.mtr.on = true ∧ t.mtr.params = st.params ∧
      t.mtr.sealCount = max st.sealCount (loggedSeal (mtrNote 3 s)) ∧ t.mtr.image = none ∧ t.mtr.unsealed = false ∧ t.mtr.firmware = s.mtr.firmware ∧
      Only [.mtr, .fresh] s t) ∧
    (∀ a b : Bool, s.mtr.on = true → exec (.mtrPowerUp a b) s = .next s) ∧
    (∀ (a b : Bool) (st : MtrStore), s.mtr.on = false → (a = true ∧ s.mtr.store = some st ∨ (a = false ∨ s.mtr.store = none) ∧ b = true ∧ s.mtr.older = some st) →
      ∃ t : State, exec (.mtrPowerUp a b) s = .next t ∧ t.mtr.on = true ∧ t.mtr.measuring = true ∧ t.mtr.params = st.params ∧ t.mtr.dpMs = st.dpMs ∧
        t.mtr.sealCount = max st.sealCount (loggedSeal (mtrNote 1 s)) ∧ t.mtr.store = some st ∧ t.mtr.cycles = s.mtr.cycles + 1 ∧ t.mtr.storeLost = false ∧
        t.pwr = (railsUp 0x6FF#11 s).pwr ∧ Only [.pwr, .mtr, .fresh] s t) ∧
    (∀ a b : Bool, s.mtr.on = false → (a = false ∨ s.mtr.store = none) → (b = false ∨ s.mtr.older = none) → ∃ t : State, exec (.mtrPowerUp a b) s = .next t ∧ t.mtr.on = true ∧ t.mtr.params = [] ∧ t.mtr.storeLost = true ∧ t.mtr.dpMs = 0 ∧ t.mtr.store = none ∧
      t.mtr.feeders.map Feeder.energy = List.replicate 4 [0, 0, 0, 0, 0] ∧ t.mtr.cycles = s.mtr.cycles + 1 ∧
      (mtrLogFull s = false → t.mtr.sealCount = min (2 ^ 32 - 1) (s.mtr.sealCount + 1)) ∧ t.pwr = (railsUp 0x6FF#11 s).pwr ∧
      Only [.pwr, .mtr, .fresh] s t) ∧
    (s.mtr.on = true → s.mtr.unsealed = false → ∃ t : State, exec .unsealed s = .next t ∧ t.mtr.unsealed = true ∧ t.mtr.params = s.mtr.params ∧ t.mtr.staged = s.mtr.staged ∧
      Only [.mtr] s t) ∧
    (s.mtr.on = true → s.mtr.unsealed = true → ∃ t : State, exec .sealed s = .next t ∧ t.mtr.unsealed = false ∧ t.mtr.staged = [] ∧ t.mtr.params = s.mtr.params ∧ Only [.mtr] s t) ∧
    (s.mtr.unsealed = true → exec .unsealed s = .next s) ∧ (s.mtr.unsealed = false → exec .sealed s = .next s)

/-- A frame whose check word is wrong, or that arrives while the island is off, is not answered; one of the wrong length is answered with
status 6; the four commands that change are answered SEALED while the island is sealed and change nothing. READ_IDENT, READ_MAILBOX,
READ_PARAM and READ_LOG answer and change nothing; WRITE_PARAM stages, FW_BLOCK keeps its block. Rows that complete here: readIdent,
readMailbox, readParam, writeParam, commit, readLog, fwBlock, fwActivate. -/
def Obligations.IslandServiceRows : Prop :=
  ∀ (p : List Byte) (k : BitVec 32) (s : State),
    (svcHeard 1 p k s = false → exec (.readIdent p k) s = .next s) ∧ (svcHeard 2 p k s = false → exec (.readMailbox p k) s = .next s) ∧
    (svcHeard 3 p k s = false → exec (.readParam p k) s = .next s) ∧ (svcHeard 4 p k s = false → exec (.writeParam p k) s = .next s) ∧
    (svcHeard 5 p k s = false → exec (.commit p k) s = .next s) ∧ (svcHeard 6 p k s = false → exec (.readLog p k) s = .next s) ∧
    (svcHeard 7 p k s = false → exec (.fwBlock p k) s = .next s) ∧ (svcHeard 8 p k s = false → exec (.fwActivate p k) s = .next s) ∧
    (svcHeard 1 p k s = true → (p = [] → exec (.readIdent p k) s = .next (svcReply 1 0 (mtrIdentity s ++ be 4 s.mtr.sealCount ++ be 1 (mtrFlags s)) s)) ∧
      (p ≠ [] → exec (.readIdent p k) s = .next (svcReply 1 6 [] s))) ∧
    (svcHeard 2 p k s = true → (∀ b, p = [] → s.mtr.image = some b → exec (.readMailbox p k) s = .next (svcReply 2 0 b s)) ∧
      (p = [] → s.mtr.image = none → exec (.readMailbox p k) s = .next (svcReply 2 3 [] s)) ∧ (p ≠ [] → exec (.readMailbox p k) s = .next (svcReply 2 6 [] s))) ∧
    (svcHeard 3 p k s = true → (∀ d, p.length = 2 → mtrDefault (fieldU p 0 2) = some d → exec (.readParam p k) s =
        .next (svcReply 3 0 (be 2 (fieldU p 0 2) ++ be 4 ((keyGet (fieldU p 0 2) s.mtr.params).getD d).toNat ++ be 4 (mtrValue (mtrMerged s) (fieldU p 0 2)).toNat) s)) ∧
      (p.length = 2 → mtrDefault (fieldU p 0 2) = none → exec (.readParam p k) s = .next (svcReply 3 2 [] s)) ∧
      (p.length ≠ 2 → exec (.readParam p k) s = .next (svcReply 3 6 [] s))) ∧
    (svcHeard 4 p k s = true → let id := fieldU p 0 2
      let v := BitVec.ofNat 32 (fieldU p 2 4)
      (p.length ≠ 6 → exec (.writeParam p k) s = .next (svcReply 4 6 [] s)) ∧
      (p.length = 6 → s.mtr.unsealed = false → exec (.writeParam p k) s = .next (svcReply 4 1 [] s)) ∧
      (p.length = 6 → s.mtr.unsealed = true → (mtrDefault id).isSome → mtrRange (mtrMerged s) id v = true → exec (.writeParam p k) s =
        .next (svcReply 4 0 [] { s with mtr := { s.mtr with staged := keyPut id v s.mtr.staged } })) ∧
      (p.length = 6 → s.mtr.unsealed = true → (mtrDefault id = none ∨ mtrRange (mtrMerged s) id v = false) → exec (.writeParam p k) s = .next (svcReply 4 2 [] s))) ∧
    (svcHeard 5 p k s = true → (p ≠ [] → exec (.commit p k) s = .next (svcReply 5 6 [] s)) ∧
      (p = [] → s.mtr.unsealed = false → exec (.commit p k) s = .next (svcReply 5 1 [] s)) ∧
      (p = [] → s.mtr.unsealed = true → mtrLogFull s = true → exec (.commit p k) s = .next (svcReply 5 4 [] s)) ∧
      (p = [] → s.mtr.unsealed = true → mtrLogFull s = false → s.mtr.sealCount < 2 ^ 32 - 1 → pulseRateOk (mtrMerged s) = false →
        exec (.commit p k) s = .next (svcReply 5 3 [] s)) ∧
      (p = [] → s.mtr.unsealed = true → mtrLogFull s = false → s.mtr.sealCount < 2 ^ 32 - 1 → pulseRateOk (mtrMerged s) = true →
        ((List.range 24).all (offsetOk (mtrMerged s))) = true → ∃ t : State, exec (.commit p k) s = .next t ∧ t.mtr.params = mtrMerged s ∧ t.mtr.staged = [] ∧
          t.mtr.feeders = s.mtr.feeders ∧ t.mtr.store = some ⟨s.mtr.feeders.map Feeder.energy, s.mtr.dpMs, t.mtr.sealCount, mtrMerged s⟩ ∧ Only [.mtr, .out] s t)) ∧
    (svcHeard 6 p k s = true → let n := byteAt p 4
      let l := (s.mtr.log.filter fun r => decide (fieldU p 0 4 ≤ r.num)).take n
      (p.length ≠ 5 → exec (.readLog p k) s = .next (svcReply 6 6 [] s)) ∧
      (p.length = 5 → (n = 0 ∨ 32 < n) → exec (.readLog p k) s = .next (svcReply 6 2 [] s)) ∧
      (p.length = 5 → 1 ≤ n → n ≤ 32 → exec (.readLog p k) s =
        .next (svcReply 6 0 (be 4 ((l.getLast?.map (·.num + 1)).getD s.mtr.logNext) ++ l.flatMap MtrRec.bytes) s))) ∧
    (svcHeard 7 p k s = true → ((p.length < 4 ∨ 1028 < p.length) → exec (.fwBlock p k) s = .next (svcReply 7 6 [] s)) ∧
      (4 ≤ p.length → p.length ≤ 1028 → s.mtr.unsealed = false → exec (.fwBlock p k) s = .next (svcReply 7 1 [] s)) ∧
      (4 ≤ p.length → p.length ≤ 1028 → s.mtr.unsealed = true → exec (.fwBlock p k) s =
        .next (svcReply 7 0 [] { s with mtr := { s.mtr with blocks := s.mtr.blocks ++ [(fieldU p 0 4, p.drop 4)] } }))) ∧
    (svcHeard 8 p k s = true → (p.length ≠ 68 → exec (.fwActivate p k) s = .next (svcReply 8 6 [] s)) ∧
      (p.length = 68 → s.mtr.unsealed = false → exec (.fwActivate p k) s = .next (svcReply 8 1 [] s)) ∧
      (∀ img : List Byte, p.length = 68 → s.mtr.unsealed = true → mtrLogFull s = false → s.mtr.sealCount < 2 ^ 32 - 1 → fieldU p 0 4 ≠ 0 →
        loadedImage (fieldU p 0 4) s.mtr.blocks = some img →
        ∃ t : State, exec (.fwActivate p k) s = .next t ∧ t.mtr.feeders = s.mtr.feeders ∧ t.mtr.params = s.mtr.params ∧ Only [.mtr, .out] s t ∧
          (Config.mtrSignature (sha256 img) (p.drop 4) = true → t.mtr.firmware = img ∧ t.mtr.blocks = []) ∧
          (Config.mtrSignature (sha256 img) (p.drop 4) = false → t = svcReply 8 5 [] s)))

/-- A COMMIT that changes at least one parameter and every firmware activation add one to SEAL, put the new value into the register store
and into the last record of the log; a COMMIT that changes nothing leaves SEAL; at its limit a COMMIT that changes and FW_ACTIVATE are
refused LOG_FULL; and no command ever lowers it in a state whose store and log agree with it. Rows that complete here: commit, fwActivate.
-/
def Obligations.SealRule : Prop :=
  (∀ (k : BitVec 32) (s : State), svcHeard 5 [] k s = true → s.mtr.unsealed = true → mtrLogFull s = false → pulseRateOk (mtrMerged s) = true →
    ((List.range 24).all (offsetOk (mtrMerged s))) = true →
      ((∃ e ∈ s.mtr.staged, e.2 ≠ mtrP s e.1) → s.mtr.sealCount < 2 ^ 32 - 1 → ∃ t : State, exec (.commit [] k) s = .next t ∧ t.mtr.sealCount = s.mtr.sealCount + 1 ∧
        loggedSeal t = s.mtr.sealCount + 1 ∧ t.mtr.store.map (·.sealCount) = some (s.mtr.sealCount + 1)) ∧
      ((∃ e ∈ s.mtr.staged, e.2 ≠ mtrP s e.1) → 2 ^ 32 - 1 ≤ s.mtr.sealCount → exec (.commit [] k) s = .next (svcReply 5 4 [] s)) ∧
      ((∀ e ∈ s.mtr.staged, e.2 = mtrP s e.1) → ∃ t : State, exec (.commit [] k) s = .next t ∧ t.mtr.sealCount = s.mtr.sealCount ∧ t.mtr.log = s.mtr.log)) ∧
  (∀ (p : List Byte) (k : BitVec 32) (s : State) (img : List Byte), svcHeard 8 p k s = true → p.length = 68 → s.mtr.unsealed = true → mtrLogFull s = false →
    fieldU p 0 4 ≠ 0 → loadedImage (fieldU p 0 4) s.mtr.blocks = some img →
      (s.mtr.sealCount < 2 ^ 32 - 1 → ∃ t : State, exec (.fwActivate p k) s = .next t ∧ (Config.mtrSignature (sha256 img) (p.drop 4) = true → t.mtr.sealCount = s.mtr.sealCount + 1 ∧ t.mtr.firmware = img ∧
          loggedSeal t = s.mtr.sealCount + 1 ∧ t.mtr.store.map (·.sealCount) = some (s.mtr.sealCount + 1)) ∧
        (Config.mtrSignature (sha256 img) (p.drop 4) = false → t.mtr = s.mtr)) ∧
      (2 ^ 32 - 1 ≤ s.mtr.sealCount → exec (.fwActivate p k) s = .next (svcReply 8 4 [] s))) ∧
  (∀ (c : Instr) (s t : State), SealKept s → exec c s = .next t → s.mtr.sealCount ≤ t.mtr.sealCount)

/-- From every state whose two copies of the register store and whose log agree with the seal counter and the parameters, every step gives
such a state, never lowers the seal counter, and while the island is sealed leaves its firmware as it is and its parameters too, but for the
default ones after a lost store and those of the older copy where only that one verifies (log 242). -/
def Obligations.SealInvariant : Prop :=
  ∀ s t : State, SealKept s → step s = .next t → SealKept t ∧ s.mtr.sealCount ≤ t.mtr.sealCount ∧
    (s.mtr.unsealed = false → t.mtr.firmware = s.mtr.firmware ∧
      (t.mtr.params = s.mtr.params ∨ t.mtr.params = [] ∧ t.mtr.store = none ∨ ∃ o, s.mtr.older = some o ∧ t.mtr.params = o.params))

/-- EVT_INFO replies with CAPACITY 262,080, the count of the records present, those in the buffer among them, the number of the oldest and
that of the newest; with no record OLDEST is NEWEST + 1 modulo 2^32. It changes nothing else. Rows that complete here: evtInfo. -/
def Obligations.EvtInfoRule : Prop :=
  Reads 0x0A01 1 .evtInfo (fun c s => c.params = [] ∧ s.evt.recs = [])
    (fun _ s => be 4 262080 ++ be 4 0 ++ be 4 ((s.evt.newest + 1) % 2 ^ 32) ++ be 4 s.evt.newest) ∧
  ∀ o : EvRec, Reads 0x0A01 1 .evtInfo (fun c s => c.params = [] ∧ s.evt.recs.head? = some o)
    (fun _ s => be 4 262080 ++ be 4 s.evt.recs.length ++ be 4 o.num ++ be 4 s.evt.newest)

/-- An event that is not repeat-counted takes the next record number while the buffer has room, with its parameters, the operating time and
the power cycles; with the buffer full it is counted as dropped. A flush writes every record and enters EVT_LOST for those dropped; neither
it nor the write of the control block happens while the brown-out warning is raised. Rows that complete here: eventEntry, eventFlush,
controlBlockWrite. -/
def Obligations.EventRows : Prop :=
  ∀ s : State,
    (∀ (e : Ev) (p : List Byte), ∃ t : State, exec (.eventEntry e p) s = .next t ∧ Only [.evt] s t ∧
      (repKey e = none → s.evt.waiting < 1024 → t.evt.newest = (s.evt.newest + 1) % 2 ^ 32 ∧ t.evt.dropped = s.evt.dropped ∧ ∃ r, t.evt.recs.getLast? = some r ∧
        r.num = t.evt.newest ∧ r.ev = e ∧ r.params = padTo 6 p ∧ r.oper = s.evt.operNs / 10000000 % 2 ^ 40 ∧ r.cycles = s.evt.cycles ∧ r.rep = 0 ∧
        r.stamp = now s ∧ r.mram = none ∧ (s.evt.recs.length < 262080 → t.evt.recs = s.evt.recs ++ [r])) ∧
      (repKey e = none → 1024 ≤ s.evt.waiting → t.evt = { s.evt with dropped := s.evt.dropped + 1 })) ∧
    (bowRaised s = false → fwRunning s = true → ∃ t : State, exec .eventFlush s = .next t ∧ Only [.evt] s t ∧ t.evt.dropped = 0 ∧
      (s.evt.dropped = 0 → t.evt.waiting = 0 ∧ t.evt.recs.length = s.evt.recs.length ∧ t.evt.newest = s.evt.newest) ∧
      (0 < s.evt.dropped → ∃ r, t.evt.recs.getLast? = some r ∧ r.ev = .evtLost ∧ r.lostBefore = true)) ∧
    (bowRaised s = true ∨ fwRunning s = false → exec .eventFlush s = .next s) ∧
    (bowRaised s = false → exec .controlBlockWrite s = .next { s with evt := { s.evt with ctrlOper := s.evt.operNs, ctrlCycles := s.evt.cycles } }) ∧
    (bowRaised s = true → exec .controlBlockWrite s = .next s)

/-- A rail of the warning below its level raises the brown-out warning, once, abandons the chain and ends a brake test; still raised 2,000
µs later it stops the thrusters and trips the brakes; its end clears it, and VDD_SAFE and VDD_MTR stay in BOW_RAILS while they are low. A
rail below its reset threshold, RST_N and a commanded reset each assert a reset of their reach with their bit of RESET_CAUSE; VDD_SAFE
resets the monitor alone, VDD_MTR nothing of the device. Rows that complete here: bowWarning, bowStop, bowRecovered, supplyReset, rstN,
commandedReset. -/
def Obligations.SupplyRows : Prop :=
  ∀ s : State,
    (∀ (i : Fin 11) (mv : Nat), bowRail i.val = true → s.pwr.state ≠ .off → s.pwr.boot ≠ .inReset .powerOn → mv < (railLevels i.val).1 →
      ∃ t : State, exec (.bowWarning i mv) s = .next t ∧ bowRaised t = true ∧ t.pwr.bowRails = s.pwr.bowRails ||| BitVec.ofNat 11 (2 ^ i.val) ∧
        t.pwr.railMv = modAt s.pwr.railMv i.val (fun _ => mv) ∧ (bowRaised s = true → Only [.pwr] s t ∧ t.pwr.bowSince = s.pwr.bowSince) ∧
        (bowRaised s = false → t.pwr.bowSince = some s.time.elapsed ∧ t.pwr.bowCount = min (s.pwr.bowCount + 1) (2 ^ 32 - 1) ∧ t.sch.chain = none ∧ t.saf.test = none ∧
          Only [.host, .evt, .pwr, .sch, .saf, .out] s t)) ∧
    (∀ (i : Fin 11) (mv : Nat), (bowRail i.val = false ∨ (railLevels i.val).1 ≤ mv) → exec (.bowWarning i mv) s = .next s) ∧
    (∀ t0 : Nat, s.pwr.bowSince = some t0 → s.pwr.bowStopped = false → ∃ t : State, exec .bowStop s = .next t ∧ t.pwr.bowStopped = true ∧ t0 + us 2000 ≤ t.time.elapsed ∧
      t.ctl.mode = 0 ∧ (s.saf.phase = 2 → bitOf t.saf.latched 12 = true) ∧ (∀ x ∈ t.thr.current, x = standbyCmd) ∧
      Only [.time, .host, .evt, .pwr, .bus, .ctl, .thr, .sch, .grp, .saf, .out] s t) ∧
    (s.pwr.bowSince = none ∨ s.pwr.bowStopped = true → exec .bowStop s = .next s) ∧
    (∀ (l : List Nat) (t0 : Nat), s.pwr.bowSince = some t0 → ∃ t : State, exec (.bowRecovered l) s = .next t ∧ bowRaised t = false ∧ t.pwr.bowRails = s.pwr.bowRails &&& railsHeld s ∧
      t.pwr.bowStopped = false ∧ t.pwr.bowLastUs = min ((s.time.elapsed - t0) / 1000) (2 ^ 32 - 1) ∧
      Only [.host, .evt, .pwr, .bus, .ctl, .thr, .sch, .grp, .saf, .out] s t) ∧
    (∀ l : List Nat, s.pwr.bowSince = none → exec (.bowRecovered l) s = .next (railsUp (railsHeld s) s)) ∧
    (∀ i : Fin 11, i.val ≠ 2 → i.val ≠ 7 → i.val ≠ 8 → s.pwr.state ≠ .off → ∃ t : State, exec (.supplyReset i) s = .next t ∧ ResetBy (.supply i.val) s t ∧ bowRaised t = false) ∧
    (∃ t : State, exec (.supplyReset 2) s = .next t ∧ ResetBy .por s t ∧ bowRaised t = false ∧ t.pwr.retention = none ∧ t.host.lockouts = []) ∧
    (∃ t : State, exec (.supplyReset 7) s = .next t ∧ t.saf.phase = 0 ∧ t.saf.latched = 0 ∧ t.saf.stored = s.saf.stored ∧ t.pwr = (railBelow 7 1600 s).pwr ∧
      Only [.pwr, .saf] s t) ∧
    exec (.supplyReset 8) s = .next s ∧
    (∀ i : Fin 11, i.val ≠ 2 → i.val ≠ 7 → s.pwr.state = .off → exec (.supplyReset i) s = .next s) ∧
    (s.pwr.state ≠ .off → ∃ t : State, exec .rstN s = .next t ∧ ResetBy .pin s t) ∧ (s.pwr.state = .off → exec .rstN s = .next s) ∧
    (∀ t0 : Nat, s.pwr.resetPending = some (.core, t0) → ∃ t : State, exec .commandedReset s = .next t ∧ ResetBy .cmdCore s t ∧ t0 ≤ t.time.elapsed) ∧
    (∀ t0 : Nat, s.pwr.resetPending = some (.system, t0) → ∃ t : State, exec .commandedReset s = .next t ∧ ResetBy .cmdSystem s t ∧ t0 ≤ t.time.elapsed) ∧
    (s.pwr.resetPending = none → exec .commandedReset s = .next s)

/-- The watchdog runs from firmware start: it resets the device, by a system reset with the WATCHDOG bit, no sooner than WDT_MS after it was
last served or firmware started, and never while the boot ROM runs. Rows that complete here: watchdog, firmwareStart. -/
def Obligations.WatchdogRule : Prop :=
  ∀ s : State,
    (awake s = true → ∃ t : State, exec .watchdog s = .next t ∧ ResetBy .watchdog s t ∧ s.pwr.wdtServed + ms (pNat s 0x0B02) ≤ t.time.elapsed) ∧
    (s.pwr.boot = .rom → exec .watchdog s = .next s) ∧ (fwRunning s = false → exec .watchdog s = .next s) ∧
    (∀ f : StartFaults, s.pwr.boot = .rom → s.pwr.state = .run → bootable s = true → ∃ t : State, exec (.firmwareStart f) s = .next t ∧ fwRunning t = true ∧ t.pwr.wdtServed = s.time.elapsed)

/-- The release of a reset passes its steps in order: the power-on steps count the power cycle and rewrite RESET_CAUSE; the option record is
loaded, with the ROM defaults where no copy verifies or after the fourth try; the straps are sampled and the monitor starts; the boot ROM
runs, in clock mode 3 once a cascade link is up; firmware starts, and with it FW_BUILD takes the build, the switched domains of the period
stop and no reset source is left. Nothing of this happens in another power state. Rows that complete here: resetSequence, firmwareStart. -/
def Obligations.StartRows : Prop :=
  ∀ (k : BitVec 7) (a b : Bool) (f : StartFaults) (s : State),
    (s.pwr.state ≠ .run → exec (.resetSequence k a b) s = .next s ∧ exec (.firmwareStart f) s = .next s) ∧
    (s.pwr.boot = .rom ∨ s.pwr.boot = .running → exec (.resetSequence k a b) s = .next s) ∧
    (s.pwr.state = .run → s.pwr.boot = .inReset .powerOn → ∃ t : State, exec (.resetSequence k a b) s = .next t ∧ t.pwr.boot = .inReset .system ∧
      t.evt.cycles = min (s.evt.cycles + 1) 0xFFFFFF ∧ t.evt.ctrlCycles = t.evt.cycles ∧ t.pwr.cause = causeWord 0 s.pwr.sources s.pwr.reach ∧
      s.time.elapsed + ms 1 ≤ t.time.elapsed ∧ Only [.time, .evt, .pwr] s t) ∧
    (s.pwr.state = .run → s.pwr.boot = .inReset .system → s.pwr.loadCount ≠ 4 → exec (.resetSequence k a b) s =
      .next { s with pwr := { s.pwr with loadCount := s.pwr.loadCount + 1, boot := .loading } }) ∧
    (s.pwr.state = .run → s.pwr.boot = .inReset .system → s.pwr.loadCount = 4 → ∃ t : State, exec (.resetSequence k a b) s = .next t ∧ t.pwr.boot = .inReset .core ∧
      t.pwr.optionsFallback = true ∧ t.cfg.udpPort = 30940 ∧ t.cfg.groupDev = 0xFF ∧ t.saf.phase = 1 ∧ Only [.time, .cfg, .evt, .pwr, .gnss, .acq, .grp, .saf, .out] s t) ∧
    (s.pwr.state = .run → s.pwr.boot = .loading → ∃ t : State, exec (.resetSequence k a b) s = .next t ∧ t.pwr.boot = .inReset .core ∧ t.pwr.loadCount = 0 ∧ t.saf.phase = 1 ∧
      ((a || b) = true → t.pwr.optionsFallback = false ∧ t.cfg.udpPort = s.cfg.optUdpPort ∧ t.cfg.groupDev = s.cfg.optGroupDev) ∧
      ((a || b) = false → t.pwr.optionsFallback = true ∧ t.cfg.udpPort = 30940 ∧ t.cfg.groupDev = 0xFF) ∧
      (s.pwr.deepExit = false → t.pwr.straps = k ∧ t.grp.role = k.toNat / 32 % 4) ∧ Only [.time, .cfg, .evt, .pwr, .gnss, .acq, .grp, .saf, .out] s t) ∧
    (s.pwr.state = .run → s.pwr.boot = .inReset .core → (clkMode s ≠ 3 ∨ linkUp s 0 = true ∨ linkUp s 1 = true) →
      exec (.resetSequence k a b) s = .next { s with pwr := { s.pwr with boot := .rom } }) ∧
    (s.pwr.state = .run → s.pwr.boot = .inReset .core → clkMode s = 3 → linkUp s 0 = false → linkUp s 1 = false → exec (.resetSequence k a b) s = .next s) ∧
    (s.pwr.boot ≠ .rom ∨ bootable s = false → exec (.firmwareStart f) s = .next s) ∧
    (s.pwr.boot = .rom → s.pwr.state = .run → bootable s = true → ∃ t : State, exec (.firmwareStart f) s = .next t ∧ t.pwr.boot = .running ∧ t.pwr.fwBuild ≠ 0 ∧
      t.pwr.fwAt = s.time.elapsed ∧ t.pwr.sources = [] ∧ t.pwr.cause = s.pwr.cause ∧ (∀ i, i < 17 → t.pwr.domains[i]? = some .stopped) ∧ t.pwr.retention = none ∧
      t.host.sessions = s.host.sessions ∧ (s.pwr.deepExit = false → t.fus = s.fus ∧ t.ctl = s.ctl ∧ t.sch = s.sch) ∧
      Only [.time, .cfg, .host, .evt, .pwr, .sig, .acq, .bus, .fus, .obs, .slv, .ctl, .thr, .sch, .grp, .saf, .out] s t)

/-- A pending entry is made once no command is in flight and every event is written, no sooner than 1 ms after its reply, and given up after
1 s; the schedule asks for one at its time of day in STANDBY with the brakes engaged; a wake source that the state takes is noted once; the
exit leaves SLEEP to RUN with firmware running, DEEP SLEEP through the system steps, OFF through a power-on reset, and names the state left
and the source. Rows that complete here: powerStateEntry, pwrEntryAbandoned, pwrSchedEnter, pwrSchedWake, wakePin, doorbellWake, wakeFrame,
powerStateExit. -/
def Obligations.PowerStateRows : Prop :=
  ∀ s : State,
    (∀ (x : PState) (t0 : Nat) (b : Bool), s.pwr.entryPending = some (x, t0, b) → (x = .sleep ∨ x = .deepSleep ∨ x = .off) → awake s = true → entryReady s = true →
      s.time.elapsed ≤ t0 + ms 1000 → ∃ t : State, exec .powerStateEntry s = .next t ∧ t.pwr.state = x ∧ t.pwr.entryPending = none ∧
        t.pwr.domains = List.replicate 25 .stopped ∧ t0 ≤ t.time.elapsed ∧ (b = false → t0 + ms 1 ≤ t.time.elapsed) ∧ t.ctl = ctlReset ∧ t.slv.structs = [] ∧
        (x = .sleep → fwRunning t = true ∧ t.time.counting = s.time.counting) ∧ (x = .deepSleep → t.time.counting = false ∧ t.pwr.retention.isSome ∧ t.pwr.boot = .inReset .system) ∧
        (x = .off → t.pwr.boot = .inReset .powerOn ∧ t.pwr.pwrReq = false ∧ t.out.head? = some (.pin "PWR_REQ" false))) ∧
    (s.pwr.entryPending = none ∨ awake s = false ∨ entryReady s = false → exec .powerStateEntry s = .next s) ∧
    (∀ e : PState × Nat × Bool, s.pwr.entryPending = some e → ∃ t : State, exec .pwrEntryAbandoned s = .next t ∧ t.pwr.entryPending = none ∧ t.pwr.wakePend = 0 ∧
      e.2.1 + ms 1000 ≤ t.time.elapsed ∧ t.pwr.state = s.pwr.state ∧ Only [.time, .evt, .pwr] s t) ∧
    (s.pwr.entryPending = none → exec .pwrEntryAbandoned s = .next s) ∧
    (awake s = true → pNat s 0x0B04 ≠ 0 → timeValid s = true → s.pwr.entryPending = none → ∃ t : State, exec .pwrSchedEnter s = .next t ∧ t.pwr.state = s.pwr.state ∧
      (s.ctl.mode = 0 ∧ anyReleased s = false → t.pwr.entryPending = some (stateOf (pNat s 0x0B04), t.time.elapsed, true)) ∧
      (s.ctl.mode ≠ 0 ∨ anyReleased s = true → t.pwr.entryPending = none) ∧ Only [.time, .evt, .pwr] s t) ∧
    (awake s = false ∨ pNat s 0x0B04 = 0 ∨ timeValid s = false ∨ s.pwr.entryPending.isSome → exec .pwrSchedEnter s = .next s) ∧
    (∀ t0 : Nat, s.pwr.schedWakeAt = some t0 → (s.pwr.state = .sleep ∨ s.pwr.state = .deepSleep) → s.pwr.wakePend = 0 → ∃ t : State, exec .pwrSchedWake s = .next t ∧ t.pwr = { s.pwr with wakePend := 4 } ∧ t0 ≤ t.time.elapsed ∧ Only [.time, .evt, .pwr] s t) ∧
    (s.pwr.schedWakeAt = none ∨ (s.pwr.state ≠ .sleep ∧ s.pwr.state ≠ .deepSleep) → exec .pwrSchedWake s = .next s) ∧
    ((s.pwr.state = .sleep ∨ s.pwr.state = .deepSleep ∨ s.pwr.state = .off) → s.pwr.wakePend = 0 →
      exec .wakePin s = .next { s with pwr := { s.pwr with wakePend := 1 } }) ∧
    ((s.pwr.state = .sleep ∨ s.pwr.state = .deepSleep) → s.pwr.wakePend = 0 → exec .doorbellWake s = .next { s with pwr := { s.pwr with wakePend := 2 } }) ∧
    (s.pwr.wakePend ≠ 0 → exec .wakePin s = .next s ∧ exec .doorbellWake s = .next s ∧ ∀ b d, exec (.wakeFrame b d) s = .next s) ∧
    (s.pwr.entryPending = none → (s.pwr.state = .run ∨ s.pwr.state = .idle) → exec .wakePin s = .next s ∧ exec .doorbellWake s = .next s ∧ ∀ b d, exec (.wakeFrame b d) s = .next s) ∧
    (∀ (b : Bool) (d : List Byte), s.pwr.state = .sleep → s.pwr.wakePend = 0 → bitOf (pNat s 0x0B03) (b2n b) = true → fieldU d 0 2 = 0x564B → 2 ≤ d.length →
      portDown (.eth b 0 0) s = false → exec (.wakeFrame b d) s = .next { s with pwr := { s.pwr with wakePend := 3 } }) ∧
    (∀ (b : Bool) (d : List Byte), (bitOf (pNat s 0x0B03) (b2n b) = false ∨ fieldU d 0 2 ≠ 0x564B ∨ portDown (.eth b 0 0) s = true) → exec (.wakeFrame b d) s = .next s) ∧
    (∀ b : Bool, s.pwr.wakePend = 0 ∨ s.pwr.state = .run ∨ s.pwr.state = .idle → exec (.powerStateExit b) s = .next s) ∧
    (∀ b : Bool, s.pwr.wakePend ≠ 0 → s.pwr.state = .sleep → ∃ t : State, exec (.powerStateExit b) s = .next t ∧ t.pwr.state = .run ∧ t.pwr.lastExit = 1 ∧
      t.pwr.lastWake = s.pwr.wakePend ∧ t.pwr.wakePend = 0 ∧ t.pwr.boot = s.pwr.boot ∧ t.pwr.fwAt = s.time.elapsed) ∧
    (∀ b : Bool, s.pwr.wakePend ≠ 0 → s.pwr.state = .deepSleep → ∃ t : State, exec (.powerStateExit b) s = .next t ∧ t.pwr.state = .run ∧ t.pwr.lastExit = 2 ∧
      t.pwr.lastWake = s.pwr.wakePend ∧ t.pwr.wakePend = 0 ∧ t.pwr.boot = .inReset .system ∧ t.pwr.deepExit = true ∧
      (b = false → t.pwr.retention = none ∧ t.pwr.retentionLost = true ∧ t.cfg = s.cfg) ∧ Only [.cfg, .pwr, .grp] s t) ∧
    (∀ b : Bool, s.pwr.wakePend ≠ 0 → s.pwr.state = .off → ∃ t : State, exec (.powerStateExit b) s = .next t ∧ ResetBy .por s t ∧ t.pwr.lastExit = 3 ∧
      t.pwr.lastWake = s.pwr.wakePend)

/-- A stopped domain asked to wake is admitted while the window's charge stays within the budget and no brown-out warning is raised, and
waits otherwise; no window admits more than the budget; an admitted domain is awake no sooner than its wake time; the wake request of a
period asks for every domain of its stages; IDLE is entered once all of them are stopped. A skewed or hot clock domain is noted and
isolated, and its return clears it; the junction temperature above 110 °C is told once until it has fallen to 105 °C. Rows that complete
here: domainWakeRequest, wakeGovernorWindow, domainReady, periodWakeRequest, idleEntry, clockSkew, thermalGradient, domainReturn,
junctionHot, junctionHotEnd. -/
def Obligations.DomainRows : Prop :=
  ∀ s : State,
    (∀ (d : Fin 25) (c : Fin 4), awake s = false → exec (.domainWakeRequest d c) s = .next s) ∧
    (∀ (d : Fin 25) (c : Fin 4), awake s = true → windowNow s = s.pwr.window → s.pwr.domains.length = 25 → domainOf s d.val = .stopped → mayWake s d.val = true →
      ∃ t : State, exec (.domainWakeRequest d c) s = .next t ∧ Only [.pwr] s t ∧ (∀ k, k ≠ d.val → domainOf t k = domainOf s k) ∧
        (wakeFits d.val s = true → domainOf t d.val = .waking s.time.elapsed ∧ t.pwr.windowCharge = s.pwr.windowCharge + (domainWake d.val).2 ∧ t.pwr.windowCharge ≤ pNat s 0x0B01) ∧
        (wakeFits d.val s = false → domainOf t d.val = .waiting c.val s.time.elapsed ∧ t.pwr.windowCharge = s.pwr.windowCharge)) ∧
    (∀ (d : Fin 25) (c : Fin 4), windowNow s = s.pwr.window → (domainOf s d.val ≠ .stopped ∨ mayWake s d.val = false) → exec (.domainWakeRequest d c) s = .next s) ∧
    (awake s = true → ∃ t : State, exec .wakeGovernorWindow s = .next t ∧ t.pwr.window = windowNow t ∧ (t.pwr.window ≠ s.pwr.window → t.pwr.windowCharge ≤ pNat s 0x0B01) ∧
      Only [.time, .evt, .pwr] s t) ∧
    (awake s = false → exec .wakeGovernorWindow s = .next s) ∧
    (∀ (d : Fin 25) (t0 : Nat), domainOf s d.val = .waking t0 → ∃ t : State, exec (.domainReady d) s = .next t ∧ domainOf t d.val = .awake ∧
      t0 + us (domainWake d.val).1 ≤ t.time.elapsed ∧ (∀ k, k ≠ d.val → domainOf t k = domainOf s k) ∧ Only [.time, .evt, .pwr] s t) ∧
    (∀ d : Fin 25, (∀ t0, domainOf s d.val ≠ .waking t0) → exec (.domainReady d) s = .next s) ∧
    (awake s = true → s.time.counting = true → s.pwr.domains.length = 25 → ∃ t : State, exec .periodWakeRequest s = .next t ∧ (∀ d, d < 17 → mayWake s d = true → domainOf t d ≠ .stopped) ∧ Only [.time, .evt, .pwr] s t) ∧
    (awake s = false ∨ s.time.counting = false → exec .periodWakeRequest s = .next s) ∧
    (fwRunning s = true → s.pwr.state = .run → (∀ w ∈ s.pwr.domains.take 17, w = .stopped) →
      exec .idleEntry s = .next { s with pwr := { s.pwr with state := .idle } }) ∧
    (s.pwr.state ≠ .run ∨ (∃ w ∈ s.pwr.domains.take 17, w ≠ .stopped) → exec .idleEntry s = .next s) ∧
    (∀ (c : Fin 14) (x : Option (Fin 14)) (hot cold : BitVec 16), (12 ≤ c.val ∨ awake s = false) →
      exec (.clockSkew c x) s = .next s ∧ exec (.thermalGradient c x hot cold) s = .next s) ∧
    (∀ (c : Fin 14) (x : Option (Fin 14)) (hot cold : BitVec 16), hot.toInt - cold.toInt ≤ 250 → exec (.thermalGradient c x hot cold) s = .next s) ∧
    (∀ (c : Fin 14) (x : Option (Fin 14)), c.val < 12 → awake s = true →
      (∃ t : State, exec (.clockSkew c x) s = .next t ∧ t.pwr.skewActive = s.pwr.skewActive ||| BitVec.ofNat 14 (2 ^ c.val) ∧
        (x = none → t.pwr.isolated = s.pwr.isolated ||| BitVec.ofNat 14 (2 ^ c.val)) ∧
        Only [.host, .evt, .pwr, .gnss, .bus, .slv, .ctl, .thr, .sch, .grp, .saf, .out] s t) ∧
      (∀ hot cold : BitVec 16, 250 < hot.toInt - cold.toInt → ∃ t : State, exec (.thermalGradient c x hot cold) s = .next t ∧ t.pwr.thermalDomain = some c.val ∧
        t.pwr.tempMax = hot.toInt ∧ t.pwr.tempMin = cold.toInt ∧ (x = none → t.pwr.isolated = s.pwr.isolated ||| BitVec.ofNat 14 (2 ^ c.val)) ∧
        Only [.host, .evt, .pwr, .gnss, .bus, .slv, .ctl, .thr, .sch, .grp, .saf, .out] s t)) ∧
    (∀ c : Fin 14, ∃ t : State, exec (.domainReturn c) s = .next t ∧ t.pwr.isolated.getLsbD c.val = false ∧ t.pwr.skewActive.getLsbD c.val = false ∧
      t.pwr.thermalDomain ≠ some c.val ∧ Only [.pwr, .sch] s t) ∧
    (∀ n : BitVec 16, 1100 < n.toInt → fwRunning s = true → ∃ t : State, exec (.junctionHot n) s = .next t ∧ t.pwr = { s.pwr with tempMax := n.toInt, hotEpisode := true } ∧
      Only [.evt, .pwr] s t ∧ (s.pwr.hotEpisode = true → t.evt = s.evt)) ∧
    (∀ n : BitVec 16, (n.toInt ≤ 1100 ∨ fwRunning s = false) → exec (.junctionHot n) s = .next s) ∧
    (∀ n : BitVec 16, n.toInt ≤ 1050 → s.pwr.hotEpisode = true → exec (.junctionHotEnd n) s = .next { s with pwr := { s.pwr with tempMax := n.toInt, hotEpisode := false } }) ∧
    (∀ n : BitVec 16, (1050 < n.toInt ∨ s.pwr.hotEpisode = false) → exec (.junctionHotEnd n) s = .next s)
end

