-- ==== Sys2Proof/Laws/After.lean ====
section
/-! SUPPORT. The state that an answer carries, for the meanings and for one step of a host command. -/

namespace Sys2Proof.Machine

/-- The state a meaning answers; the state it began from where it answers none. -/
def after (s : State) (r : Result) : State :=
  match r with
  | .next t => t
  | _ => s

/-- The state that one step of a host command leaves. -/
def stepState (r : StepRes) : State :=
  match r with
  | .commit t _ => t
  | .finish t _ _ _ => t
  | .abort t _ => t
  | .wait t _ => t

theorem after_next (s t : State) : after s (.next t) = t := rfl

theorem stepState_commit (t : State) (f : Option Nat) : stepState (.commit t f) = t := rfl

theorem stepState_finish (t : State) (n : Nat) (p : List Byte) (f : Option Nat) : stepState (.finish t n p f) = t := rfl

theorem stepState_abort (t : State) (n : Nat) : stepState (.abort t n) = t := rfl

theorem stepState_wait (t : State) (d : List Nat) : stepState (.wait t d) = t := rfl

end Sys2Proof.Machine
end

