-- ==== Sys2Proof/Laws/State.lean ====
section
/-! SUPPORT. The shared updates of the state: each leaves every field but its own, one lemma for each field. -/

namespace Sys2Proof.Machine

set_option linter.all false

theorem mk_pending (a0 a1 a2 a3 a4 a5 a6 a7 a8 a9 a10 a11 a12 a13 a14 a15 a16 a17 a18 a19 a20 a21) : (State.mk a0 a1 a2 a3 a4 a5 a6 a7 a8 a9 a10 a11 a12 a13 a14 a15 a16 a17 a18 a19 a20 a21).pending = a0 := id rfl

theorem pending_foldl {α : Type} (f : State → α → State) (h : ∀ s x, (f s x).pending = s.pending) (l : List α) (s : State) :
    (l.foldl f s).pending = s.pending := by
  induction l generalizing s with
  | nil => rfl
  | cons x l ih => rw [List.foldl_cons, ih, h]

theorem mk_time (a0 a1 a2 a3 a4 a5 a6 a7 a8 a9 a10 a11 a12 a13 a14 a15 a16 a17 a18 a19 a20 a21) : (State.mk a0 a1 a2 a3 a4 a5 a6 a7 a8 a9 a10 a11 a12 a13 a14 a15 a16 a17 a18 a19 a20 a21).time = a1 := id rfl

theorem time_foldl {α : Type} (f : State → α → State) (h : ∀ s x, (f s x).time = s.time) (l : List α) (s : State) :
    (l.foldl f s).time = s.time := by
  induction l generalizing s with
  | nil => rfl
  | cons x l ih => rw [List.foldl_cons, ih, h]

theorem mk_grid (a0 a1 a2 a3 a4 a5 a6 a7 a8 a9 a10 a11 a12 a13 a14 a15 a16 a17 a18 a19 a20 a21) : (State.mk a0 a1 a2 a3 a4 a5 a6 a7 a8 a9 a10 a11 a12 a13 a14 a15 a16 a17 a18 a19 a20 a21).grid = a2 := id rfl

theorem grid_foldl {α : Type} (f : State → α → State) (h : ∀ s x, (f s x).grid = s.grid) (l : List α) (s : State) :
    (l.foldl f s).grid = s.grid := by
  induction l generalizing s with
  | nil => rfl
  | cons x l ih => rw [List.foldl_cons, ih, h]

theorem mk_cfg (a0 a1 a2 a3 a4 a5 a6 a7 a8 a9 a10 a11 a12 a13 a14 a15 a16 a17 a18 a19 a20 a21) : (State.mk a0 a1 a2 a3 a4 a5 a6 a7 a8 a9 a10 a11 a12 a13 a14 a15 a16 a17 a18 a19 a20 a21).cfg = a3 := id rfl

theorem cfg_foldl {α : Type} (f : State → α → State) (h : ∀ s x, (f s x).cfg = s.cfg) (l : List α) (s : State) :
    (l.foldl f s).cfg = s.cfg := by
  induction l generalizing s with
  | nil => rfl
  | cons x l ih => rw [List.foldl_cons, ih, h]

theorem mk_host (a0 a1 a2 a3 a4 a5 a6 a7 a8 a9 a10 a11 a12 a13 a14 a15 a16 a17 a18 a19 a20 a21) : (State.mk a0 a1 a2 a3 a4 a5 a6 a7 a8 a9 a10 a11 a12 a13 a14 a15 a16 a17 a18 a19 a20 a21).host = a4 := id rfl

theorem host_foldl {α : Type} (f : State → α → State) (h : ∀ s x, (f s x).host = s.host) (l : List α) (s : State) :
    (l.foldl f s).host = s.host := by
  induction l generalizing s with
  | nil => rfl
  | cons x l ih => rw [List.foldl_cons, ih, h]

theorem mk_evt (a0 a1 a2 a3 a4 a5 a6 a7 a8 a9 a10 a11 a12 a13 a14 a15 a16 a17 a18 a19 a20 a21) : (State.mk a0 a1 a2 a3 a4 a5 a6 a7 a8 a9 a10 a11 a12 a13 a14 a15 a16 a17 a18 a19 a20 a21).evt = a5 := id rfl

theorem evt_foldl {α : Type} (f : State → α → State) (h : ∀ s x, (f s x).evt = s.evt) (l : List α) (s : State) :
    (l.foldl f s).evt = s.evt := by
  induction l generalizing s with
  | nil => rfl
  | cons x l ih => rw [List.foldl_cons, ih, h]

theorem mk_pwr (a0 a1 a2 a3 a4 a5 a6 a7 a8 a9 a10 a11 a12 a13 a14 a15 a16 a17 a18 a19 a20 a21) : (State.mk a0 a1 a2 a3 a4 a5 a6 a7 a8 a9 a10 a11 a12 a13 a14 a15 a16 a17 a18 a19 a20 a21).pwr = a6 := id rfl

theorem pwr_foldl {α : Type} (f : State → α → State) (h : ∀ s x, (f s x).pwr = s.pwr) (l : List α) (s : State) :
    (l.foldl f s).pwr = s.pwr := by
  induction l generalizing s with
  | nil => rfl
  | cons x l ih => rw [List.foldl_cons, ih, h]

theorem mk_sig (a0 a1 a2 a3 a4 a5 a6 a7 a8 a9 a10 a11 a12 a13 a14 a15 a16 a17 a18 a19 a20 a21) : (State.mk a0 a1 a2 a3 a4 a5 a6 a7 a8 a9 a10 a11 a12 a13 a14 a15 a16 a17 a18 a19 a20 a21).sig = a7 := id rfl

theorem sig_foldl {α : Type} (f : State → α → State) (h : ∀ s x, (f s x).sig = s.sig) (l : List α) (s : State) :
    (l.foldl f s).sig = s.sig := by
  induction l generalizing s with
  | nil => rfl
  | cons x l ih => rw [List.foldl_cons, ih, h]

theorem mk_gnss (a0 a1 a2 a3 a4 a5 a6 a7 a8 a9 a10 a11 a12 a13 a14 a15 a16 a17 a18 a19 a20 a21) : (State.mk a0 a1 a2 a3 a4 a5 a6 a7 a8 a9 a10 a11 a12 a13 a14 a15 a16 a17 a18 a19 a20 a21).gnss = a8 := id rfl

theorem gnss_foldl {α : Type} (f : State → α → State) (h : ∀ s x, (f s x).gnss = s.gnss) (l : List α) (s : State) :
    (l.foldl f s).gnss = s.gnss := by
  induction l generalizing s with
  | nil => rfl
  | cons x l ih => rw [List.foldl_cons, ih, h]

theorem mk_acq (a0 a1 a2 a3 a4 a5 a6 a7 a8 a9 a10 a11 a12 a13 a14 a15 a16 a17 a18 a19 a20 a21) : (State.mk a0 a1 a2 a3 a4 a5 a6 a7 a8 a9 a10 a11 a12 a13 a14 a15 a16 a17 a18 a19 a20 a21).acq = a9 := id rfl

theorem acq_foldl {α : Type} (f : State → α → State) (h : ∀ s x, (f s x).acq = s.acq) (l : List α) (s : State) :
    (l.foldl f s).acq = s.acq := by
  induction l generalizing s with
  | nil => rfl
  | cons x l ih => rw [List.foldl_cons, ih, h]

theorem mk_bus (a0 a1 a2 a3 a4 a5 a6 a7 a8 a9 a10 a11 a12 a13 a14 a15 a16 a17 a18 a19 a20 a21) : (State.mk a0 a1 a2 a3 a4 a5 a6 a7 a8 a9 a10 a11 a12 a13 a14 a15 a16 a17 a18 a19 a20 a21).bus = a10 := id rfl

theorem bus_foldl {α : Type} (f : State → α → State) (h : ∀ s x, (f s x).bus = s.bus) (l : List α) (s : State) :
    (l.foldl f s).bus = s.bus := by
  induction l generalizing s with
  | nil => rfl
  | cons x l ih => rw [List.foldl_cons, ih, h]

theorem mk_fus (a0 a1 a2 a3 a4 a5 a6 a7 a8 a9 a10 a11 a12 a13 a14 a15 a16 a17 a18 a19 a20 a21) : (State.mk a0 a1 a2 a3 a4 a5 a6 a7 a8 a9 a10 a11 a12 a13 a14 a15 a16 a17 a18 a19 a20 a21).fus = a11 := id rfl

theorem fus_foldl {α : Type} (f : State → α → State) (h : ∀ s x, (f s x).fus = s.fus) (l : List α) (s : State) :
    (l.foldl f s).fus = s.fus := by
  induction l generalizing s with
  | nil => rfl
  | cons x l ih => rw [List.foldl_cons, ih, h]

theorem mk_obs (a0 a1 a2 a3 a4 a5 a6 a7 a8 a9 a10 a11 a12 a13 a14 a15 a16 a17 a18 a19 a20 a21) : (State.mk a0 a1 a2 a3 a4 a5 a6 a7 a8 a9 a10 a11 a12 a13 a14 a15 a16 a17 a18 a19 a20 a21).obs = a12 := id rfl

theorem obs_foldl {α : Type} (f : State → α → State) (h : ∀ s x, (f s x).obs = s.obs) (l : List α) (s : State) :
    (l.foldl f s).obs = s.obs := by
  induction l generalizing s with
  | nil => rfl
  | cons x l ih => rw [List.foldl_cons, ih, h]

theorem mk_slv (a0 a1 a2 a3 a4 a5 a6 a7 a8 a9 a10 a11 a12 a13 a14 a15 a16 a17 a18 a19 a20 a21) : (State.mk a0 a1 a2 a3 a4 a5 a6 a7 a8 a9 a10 a11 a12 a13 a14 a15 a16 a17 a18 a19 a20 a21).slv = a13 := id rfl

theorem slv_foldl {α : Type} (f : State → α → State) (h : ∀ s x, (f s x).slv = s.slv) (l : List α) (s : State) :
    (l.foldl f s).slv = s.slv := by
  induction l generalizing s with
  | nil => rfl
  | cons x l ih => rw [List.foldl_cons, ih, h]

theorem mk_ctl (a0 a1 a2 a3 a4 a5 a6 a7 a8 a9 a10 a11 a12 a13 a14 a15 a16 a17 a18 a19 a20 a21) : (State.mk a0 a1 a2 a3 a4 a5 a6 a7 a8 a9 a10 a11 a12 a13 a14 a15 a16 a17 a18 a19 a20 a21).ctl = a14 := id rfl

theorem ctl_foldl {α : Type} (f : State → α → State) (h : ∀ s x, (f s x).ctl = s.ctl) (l : List α) (s : State) :
    (l.foldl f s).ctl = s.ctl := by
  induction l generalizing s with
  | nil => rfl
  | cons x l ih => rw [List.foldl_cons, ih, h]

theorem mk_thr (a0 a1 a2 a3 a4 a5 a6 a7 a8 a9 a10 a11 a12 a13 a14 a15 a16 a17 a18 a19 a20 a21) : (State.mk a0 a1 a2 a3 a4 a5 a6 a7 a8 a9 a10 a11 a12 a13 a14 a15 a16 a17 a18 a19 a20 a21).thr = a15 := id rfl

theorem thr_foldl {α : Type} (f : State → α → State) (h : ∀ s x, (f s x).thr = s.thr) (l : List α) (s : State) :
    (l.foldl f s).thr = s.thr := by
  induction l generalizing s with
  | nil => rfl
  | cons x l ih => rw [List.foldl_cons, ih, h]

theorem mk_sch (a0 a1 a2 a3 a4 a5 a6 a7 a8 a9 a10 a11 a12 a13 a14 a15 a16 a17 a18 a19 a20 a21) : (State.mk a0 a1 a2 a3 a4 a5 a6 a7 a8 a9 a10 a11 a12 a13 a14 a15 a16 a17 a18 a19 a20 a21).sch = a16 := id rfl

theorem sch_foldl {α : Type} (f : State → α → State) (h : ∀ s x, (f s x).sch = s.sch) (l : List α) (s : State) :
    (l.foldl f s).sch = s.sch := by
  induction l generalizing s with
  | nil => rfl
  | cons x l ih => rw [List.foldl_cons, ih, h]

theorem mk_grp (a0 a1 a2 a3 a4 a5 a6 a7 a8 a9 a10 a11 a12 a13 a14 a15 a16 a17 a18 a19 a20 a21) : (State.mk a0 a1 a2 a3 a4 a5 a6 a7 a8 a9 a10 a11 a12 a13 a14 a15 a16 a17 a18 a19 a20 a21).grp = a17 := id rfl

theorem grp_foldl {α : Type} (f : State → α → State) (h : ∀ s x, (f s x).grp = s.grp) (l : List α) (s : State) :
    (l.foldl f s).grp = s.grp := by
  induction l generalizing s with
  | nil => rfl
  | cons x l ih => rw [List.foldl_cons, ih, h]

theorem mk_saf (a0 a1 a2 a3 a4 a5 a6 a7 a8 a9 a10 a11 a12 a13 a14 a15 a16 a17 a18 a19 a20 a21) : (State.mk a0 a1 a2 a3 a4 a5 a6 a7 a8 a9 a10 a11 a12 a13 a14 a15 a16 a17 a18 a19 a20 a21).saf = a18 := id rfl

theorem saf_foldl {α : Type} (f : State → α → State) (h : ∀ s x, (f s x).saf = s.saf) (l : List α) (s : State) :
    (l.foldl f s).saf = s.saf := by
  induction l generalizing s with
  | nil => rfl
  | cons x l ih => rw [List.foldl_cons, ih, h]

theorem mk_mtr (a0 a1 a2 a3 a4 a5 a6 a7 a8 a9 a10 a11 a12 a13 a14 a15 a16 a17 a18 a19 a20 a21) : (State.mk a0 a1 a2 a3 a4 a5 a6 a7 a8 a9 a10 a11 a12 a13 a14 a15 a16 a17 a18 a19 a20 a21).mtr = a19 := id rfl

theorem mtr_foldl {α : Type} (f : State → α → State) (h : ∀ s x, (f s x).mtr = s.mtr) (l : List α) (s : State) :
    (l.foldl f s).mtr = s.mtr := by
  induction l generalizing s with
  | nil => rfl
  | cons x l ih => rw [List.foldl_cons, ih, h]

theorem mk_out (a0 a1 a2 a3 a4 a5 a6 a7 a8 a9 a10 a11 a12 a13 a14 a15 a16 a17 a18 a19 a20 a21) : (State.mk a0 a1 a2 a3 a4 a5 a6 a7 a8 a9 a10 a11 a12 a13 a14 a15 a16 a17 a18 a19 a20 a21).out = a20 := id rfl

theorem out_foldl {α : Type} (f : State → α → State) (h : ∀ s x, (f s x).out = s.out) (l : List α) (s : State) :
    (l.foldl f s).out = s.out := by
  induction l generalizing s with
  | nil => rfl
  | cons x l ih => rw [List.foldl_cons, ih, h]

theorem mk_fresh (a0 a1 a2 a3 a4 a5 a6 a7 a8 a9 a10 a11 a12 a13 a14 a15 a16 a17 a18 a19 a20 a21) : (State.mk a0 a1 a2 a3 a4 a5 a6 a7 a8 a9 a10 a11 a12 a13 a14 a15 a16 a17 a18 a19 a20 a21).fresh = a21 := id rfl

theorem fresh_foldl {α : Type} (f : State → α → State) (h : ∀ s x, (f s x).fresh = s.fresh) (l : List α) (s : State) :
    (l.foldl f s).fresh = s.fresh := by
  induction l generalizing s with
  | nil => rfl
  | cons x l ih => rw [List.foldl_cons, ih, h]

@[simp] theorem modSlot_pending (v0 v1 s) : (modSlot v0 v1 s).pending = s.pending := by
  simp only [modSlot] <;>
    repeat' first | simp only [↓mk_pending] | split | rfl

@[simp] theorem modSlot_time (v0 v1 s) : (modSlot v0 v1 s).time = s.time := by
  simp only [modSlot] <;>
    repeat' first | simp only [↓mk_time] | split | rfl

@[simp] theorem modSlot_grid (v0 v1 s) : (modSlot v0 v1 s).grid = s.grid := by
  simp only [modSlot] <;>
    repeat' first | simp only [↓mk_grid] | split | rfl

@[simp] theorem modSlot_cfg (v0 v1 s) : (modSlot v0 v1 s).cfg = s.cfg := by
  simp only [modSlot] <;>
    repeat' first | simp only [↓mk_cfg] | split | rfl

@[simp] theorem modSlot_evt (v0 v1 s) : (modSlot v0 v1 s).evt = s.evt := by
  simp only [modSlot] <;>
    repeat' first | simp only [↓mk_evt] | split | rfl

@[simp] theorem modSlot_pwr (v0 v1 s) : (modSlot v0 v1 s).pwr = s.pwr := by
  simp only [modSlot] <;>
    repeat' first | simp only [↓mk_pwr] | split | rfl

@[simp] theorem modSlot_sig (v0 v1 s) : (modSlot v0 v1 s).sig = s.sig := by
  simp only [modSlot] <;>
    repeat' first | simp only [↓mk_sig] | split | rfl

@[simp] theorem modSlot_gnss (v0 v1 s) : (modSlot v0 v1 s).gnss = s.gnss := by
  simp only [modSlot] <;>
    repeat' first | simp only [↓mk_gnss] | split | rfl

@[simp] theorem modSlot_acq (v0 v1 s) : (modSlot v0 v1 s).acq = s.acq := by
  simp only [modSlot] <;>
    repeat' first | simp only [↓mk_acq] | split | rfl

@[simp] theorem modSlot_bus (v0 v1 s) : (modSlot v0 v1 s).bus = s.bus := by
  simp only [modSlot] <;>
    repeat' first | simp only [↓mk_bus] | split | rfl

@[simp] theorem modSlot_fus (v0 v1 s) : (modSlot v0 v1 s).fus = s.fus := by
  simp only [modSlot] <;>
    repeat' first | simp only [↓mk_fus] | split | rfl

@[simp] theorem modSlot_obs (v0 v1 s) : (modSlot v0 v1 s).obs = s.obs := by
  simp only [modSlot] <;>
    repeat' first | simp only [↓mk_obs] | split | rfl

@[simp] theorem modSlot_slv (v0 v1 s) : (modSlot v0 v1 s).slv = s.slv := by
  simp only [modSlot] <;>
    repeat' first | simp only [↓mk_slv] | split | rfl

@[simp] theorem modSlot_ctl (v0 v1 s) : (modSlot v0 v1 s).ctl = s.ctl := by
  simp only [modSlot] <;>
    repeat' first | simp only [↓mk_ctl] | split | rfl

@[simp] theorem modSlot_thr (v0 v1 s) : (modSlot v0 v1 s).thr = s.thr := by
  simp only [modSlot] <;>
    repeat' first | simp only [↓mk_thr] | split | rfl

@[simp] theorem modSlot_sch (v0 v1 s) : (modSlot v0 v1 s).sch = s.sch := by
  simp only [modSlot] <;>
    repeat' first | simp only [↓mk_sch] | split | rfl

@[simp] theorem modSlot_grp (v0 v1 s) : (modSlot v0 v1 s).grp = s.grp := by
  simp only [modSlot] <;>
    repeat' first | simp only [↓mk_grp] | split | rfl

@[simp] theorem modSlot_saf (v0 v1 s) : (modSlot v0 v1 s).saf = s.saf := by
  simp only [modSlot] <;>
    repeat' first | simp only [↓mk_saf] | split | rfl

@[simp] theorem modSlot_mtr (v0 v1 s) : (modSlot v0 v1 s).mtr = s.mtr := by
  simp only [modSlot] <;>
    repeat' first | simp only [↓mk_mtr] | split | rfl

@[simp] theorem modSlot_out (v0 v1 s) : (modSlot v0 v1 s).out = s.out := by
  simp only [modSlot] <;>
    repeat' first | simp only [↓mk_out] | split | rfl

@[simp] theorem modSlot_fresh (v0 v1 s) : (modSlot v0 v1 s).fresh = s.fresh := by
  simp only [modSlot] <;>
    repeat' first | simp only [↓mk_fresh] | split | rfl

@[simp] theorem emit_pending (v0 s) : (emit v0 s).pending = s.pending := by
  simp only [emit] <;>
    repeat' first | simp only [↓mk_pending] | split | rfl

@[simp] theorem emit_time (v0 s) : (emit v0 s).time = s.time := by
  simp only [emit] <;>
    repeat' first | simp only [↓mk_time] | split | rfl

@[simp] theorem emit_grid (v0 s) : (emit v0 s).grid = s.grid := by
  simp only [emit] <;>
    repeat' first | simp only [↓mk_grid] | split | rfl

@[simp] theorem emit_cfg (v0 s) : (emit v0 s).cfg = s.cfg := by
  simp only [emit] <;>
    repeat' first | simp only [↓mk_cfg] | split | rfl

@[simp] theorem emit_host (v0 s) : (emit v0 s).host = s.host := by
  simp only [emit] <;>
    repeat' first | simp only [↓mk_host] | split | rfl

@[simp] theorem emit_evt (v0 s) : (emit v0 s).evt = s.evt := by
  simp only [emit] <;>
    repeat' first | simp only [↓mk_evt] | split | rfl

@[simp] theorem emit_pwr (v0 s) : (emit v0 s).pwr = s.pwr := by
  simp only [emit] <;>
    repeat' first | simp only [↓mk_pwr] | split | rfl

@[simp] theorem emit_sig (v0 s) : (emit v0 s).sig = s.sig := by
  simp only [emit] <;>
    repeat' first | simp only [↓mk_sig] | split | rfl

@[simp] theorem emit_gnss (v0 s) : (emit v0 s).gnss = s.gnss := by
  simp only [emit] <;>
    repeat' first | simp only [↓mk_gnss] | split | rfl

@[simp] theorem emit_acq (v0 s) : (emit v0 s).acq = s.acq := by
  simp only [emit] <;>
    repeat' first | simp only [↓mk_acq] | split | rfl

@[simp] theorem emit_bus (v0 s) : (emit v0 s).bus = s.bus := by
  simp only [emit] <;>
    repeat' first | simp only [↓mk_bus] | split | rfl

@[simp] theorem emit_fus (v0 s) : (emit v0 s).fus = s.fus := by
  simp only [emit] <;>
    repeat' first | simp only [↓mk_fus] | split | rfl

@[simp] theorem emit_obs (v0 s) : (emit v0 s).obs = s.obs := by
  simp only [emit] <;>
    repeat' first | simp only [↓mk_obs] | split | rfl

@[simp] theorem emit_slv (v0 s) : (emit v0 s).slv = s.slv := by
  simp only [emit] <;>
    repeat' first | simp only [↓mk_slv] | split | rfl

@[simp] theorem emit_ctl (v0 s) : (emit v0 s).ctl = s.ctl := by
  simp only [emit] <;>
    repeat' first | simp only [↓mk_ctl] | split | rfl

@[simp] theorem emit_thr (v0 s) : (emit v0 s).thr = s.thr := by
  simp only [emit] <;>
    repeat' first | simp only [↓mk_thr] | split | rfl

@[simp] theorem emit_sch (v0 s) : (emit v0 s).sch = s.sch := by
  simp only [emit] <;>
    repeat' first | simp only [↓mk_sch] | split | rfl

@[simp] theorem emit_grp (v0 s) : (emit v0 s).grp = s.grp := by
  simp only [emit] <;>
    repeat' first | simp only [↓mk_grp] | split | rfl

@[simp] theorem emit_saf (v0 s) : (emit v0 s).saf = s.saf := by
  simp only [emit] <;>
    repeat' first | simp only [↓mk_saf] | split | rfl

@[simp] theorem emit_mtr (v0 s) : (emit v0 s).mtr = s.mtr := by
  simp only [emit] <;>
    repeat' first | simp only [↓mk_mtr] | split | rfl

@[simp] theorem emit_fresh (v0 s) : (emit v0 s).fresh = s.fresh := by
  simp only [emit] <;>
    repeat' first | simp only [↓mk_fresh] | split | rfl

@[simp] theorem sendReply_pending (v0 v1 s) : (sendReply v0 v1 s).pending = s.pending := by
  simp only [sendReply] <;>
    repeat' first | simp only [↓mk_pending, ↓emit_pending] | split | rfl

@[simp] theorem sendReply_time (v0 v1 s) : (sendReply v0 v1 s).time = s.time := by
  simp only [sendReply] <;>
    repeat' first | simp only [↓mk_time, ↓emit_time] | split | rfl

@[simp] theorem sendReply_grid (v0 v1 s) : (sendReply v0 v1 s).grid = s.grid := by
  simp only [sendReply] <;>
    repeat' first | simp only [↓mk_grid, ↓emit_grid] | split | rfl

@[simp] theorem sendReply_cfg (v0 v1 s) : (sendReply v0 v1 s).cfg = s.cfg := by
  simp only [sendReply] <;>
    repeat' first | simp only [↓mk_cfg, ↓emit_cfg] | split | rfl

@[simp] theorem sendReply_evt (v0 v1 s) : (sendReply v0 v1 s).evt = s.evt := by
  simp only [sendReply] <;>
    repeat' first | simp only [↓mk_evt, ↓emit_evt] | split | rfl

@[simp] theorem sendReply_pwr (v0 v1 s) : (sendReply v0 v1 s).pwr = s.pwr := by
  simp only [sendReply] <;>
    repeat' first | simp only [↓mk_pwr, ↓emit_pwr] | split | rfl

@[simp] theorem sendReply_sig (v0 v1 s) : (sendReply v0 v1 s).sig = s.sig := by
  simp only [sendReply] <;>
    repeat' first | simp only [↓mk_sig, ↓emit_sig] | split | rfl

@[simp] theorem sendReply_gnss (v0 v1 s) : (sendReply v0 v1 s).gnss = s.gnss := by
  simp only [sendReply] <;>
    repeat' first | simp only [↓mk_gnss, ↓emit_gnss] | split | rfl

@[simp] theorem sendReply_acq (v0 v1 s) : (sendReply v0 v1 s).acq = s.acq := by
  simp only [sendReply] <;>
    repeat' first | simp only [↓mk_acq, ↓emit_acq] | split | rfl

@[simp] theorem sendReply_bus (v0 v1 s) : (sendReply v0 v1 s).bus = s.bus := by
  simp only [sendReply] <;>
    repeat' first | simp only [↓mk_bus, ↓emit_bus] | split | rfl

@[simp] theorem sendReply_fus (v0 v1 s) : (sendReply v0 v1 s).fus = s.fus := by
  simp only [sendReply] <;>
    repeat' first | simp only [↓mk_fus, ↓emit_fus] | split | rfl

@[simp] theorem sendReply_obs (v0 v1 s) : (sendReply v0 v1 s).obs = s.obs := by
  simp only [sendReply] <;>
    repeat' first | simp only [↓mk_obs, ↓emit_obs] | split | rfl

@[simp] theorem sendReply_slv (v0 v1 s) : (sendReply v0 v1 s).slv = s.slv := by
  simp only [sendReply] <;>
    repeat' first | simp only [↓mk_slv, ↓emit_slv] | split | rfl

@[simp] theorem sendReply_ctl (v0 v1 s) : (sendReply v0 v1 s).ctl = s.ctl := by
  simp only [sendReply] <;>
    repeat' first | simp only [↓mk_ctl, ↓emit_ctl] | split | rfl

@[simp] theorem sendReply_thr (v0 v1 s) : (sendReply v0 v1 s).thr = s.thr := by
  simp only [sendReply] <;>
    repeat' first | simp only [↓mk_thr, ↓emit_thr] | split | rfl

@[simp] theorem sendReply_sch (v0 v1 s) : (sendReply v0 v1 s).sch = s.sch := by
  simp only [sendReply] <;>
    repeat' first | simp only [↓mk_sch, ↓emit_sch] | split | rfl

@[simp] theorem sendReply_grp (v0 v1 s) : (sendReply v0 v1 s).grp = s.grp := by
  simp only [sendReply] <;>
    repeat' first | simp only [↓mk_grp, ↓emit_grp] | split | rfl

@[simp] theorem sendReply_saf (v0 v1 s) : (sendReply v0 v1 s).saf = s.saf := by
  simp only [sendReply] <;>
    repeat' first | simp only [↓mk_saf, ↓emit_saf] | split | rfl

@[simp] theorem sendReply_mtr (v0 v1 s) : (sendReply v0 v1 s).mtr = s.mtr := by
  simp only [sendReply] <;>
    repeat' first | simp only [↓mk_mtr, ↓emit_mtr] | split | rfl

@[simp] theorem sendReply_fresh (v0 v1 s) : (sendReply v0 v1 s).fresh = s.fresh := by
  simp only [sendReply] <;>
    repeat' first | simp only [↓mk_fresh, ↓emit_fresh] | split | rfl

@[simp] theorem putTag_pending (v0 v1 v2 s) : (putTag v0 v1 v2 s).pending = s.pending := by
  simp only [putTag] <;>
    repeat' first | simp only [↓mk_pending, ↓modSlot_pending] | split | rfl

@[simp] theorem putTag_time (v0 v1 v2 s) : (putTag v0 v1 v2 s).time = s.time := by
  simp only [putTag] <;>
    repeat' first | simp only [↓mk_time, ↓modSlot_time] | split | rfl

@[simp] theorem putTag_grid (v0 v1 v2 s) : (putTag v0 v1 v2 s).grid = s.grid := by
  simp only [putTag] <;>
    repeat' first | simp only [↓mk_grid, ↓modSlot_grid] | split | rfl

@[simp] theorem putTag_cfg (v0 v1 v2 s) : (putTag v0 v1 v2 s).cfg = s.cfg := by
  simp only [putTag] <;>
    repeat' first | simp only [↓mk_cfg, ↓modSlot_cfg] | split | rfl

@[simp] theorem putTag_evt (v0 v1 v2 s) : (putTag v0 v1 v2 s).evt = s.evt := by
  simp only [putTag] <;>
    repeat' first | simp only [↓mk_evt, ↓modSlot_evt] | split | rfl

@[simp] theorem putTag_pwr (v0 v1 v2 s) : (putTag v0 v1 v2 s).pwr = s.pwr := by
  simp only [putTag] <;>
    repeat' first | simp only [↓mk_pwr, ↓modSlot_pwr] | split | rfl

@[simp] theorem putTag_sig (v0 v1 v2 s) : (putTag v0 v1 v2 s).sig = s.sig := by
  simp only [putTag] <;>
    repeat' first | simp only [↓mk_sig, ↓modSlot_sig] | split | rfl

@[simp] theorem putTag_gnss (v0 v1 v2 s) : (putTag v0 v1 v2 s).gnss = s.gnss := by
  simp only [putTag] <;>
    repeat' first | simp only [↓mk_gnss, ↓modSlot_gnss] | split | rfl

@[simp] theorem putTag_acq (v0 v1 v2 s) : (putTag v0 v1 v2 s).acq = s.acq := by
  simp only [putTag] <;>
    repeat' first | simp only [↓mk_acq, ↓modSlot_acq] | split | rfl

@[simp] theorem putTag_bus (v0 v1 v2 s) : (putTag v0 v1 v2 s).bus = s.bus := by
  simp only [putTag] <;>
    repeat' first | simp only [↓mk_bus, ↓modSlot_bus] | split | rfl

@[simp] theorem putTag_fus (v0 v1 v2 s) : (putTag v0 v1 v2 s).fus = s.fus := by
  simp only [putTag] <;>
    repeat' first | simp only [↓mk_fus, ↓modSlot_fus] | split | rfl

@[simp] theorem putTag_obs (v0 v1 v2 s) : (putTag v0 v1 v2 s).obs = s.obs := by
  simp only [putTag] <;>
    repeat' first | simp only [↓mk_obs, ↓modSlot_obs] | split | rfl

@[simp] theorem putTag_slv (v0 v1 v2 s) : (putTag v0 v1 v2 s).slv = s.slv := by
  simp only [putTag] <;>
    repeat' first | simp only [↓mk_slv, ↓modSlot_slv] | split | rfl

@[simp] theorem putTag_ctl (v0 v1 v2 s) : (putTag v0 v1 v2 s).ctl = s.ctl := by
  simp only [putTag] <;>
    repeat' first | simp only [↓mk_ctl, ↓modSlot_ctl] | split | rfl

@[simp] theorem putTag_thr (v0 v1 v2 s) : (putTag v0 v1 v2 s).thr = s.thr := by
  simp only [putTag] <;>
    repeat' first | simp only [↓mk_thr, ↓modSlot_thr] | split | rfl

@[simp] theorem putTag_sch (v0 v1 v2 s) : (putTag v0 v1 v2 s).sch = s.sch := by
  simp only [putTag] <;>
    repeat' first | simp only [↓mk_sch, ↓modSlot_sch] | split | rfl

@[simp] theorem putTag_grp (v0 v1 v2 s) : (putTag v0 v1 v2 s).grp = s.grp := by
  simp only [putTag] <;>
    repeat' first | simp only [↓mk_grp, ↓modSlot_grp] | split | rfl

@[simp] theorem putTag_saf (v0 v1 v2 s) : (putTag v0 v1 v2 s).saf = s.saf := by
  simp only [putTag] <;>
    repeat' first | simp only [↓mk_saf, ↓modSlot_saf] | split | rfl

@[simp] theorem putTag_mtr (v0 v1 v2 s) : (putTag v0 v1 v2 s).mtr = s.mtr := by
  simp only [putTag] <;>
    repeat' first | simp only [↓mk_mtr, ↓modSlot_mtr] | split | rfl

@[simp] theorem putTag_out (v0 v1 v2 s) : (putTag v0 v1 v2 s).out = s.out := by
  simp only [putTag] <;>
    repeat' first | simp only [↓mk_out, ↓modSlot_out] | split | rfl

@[simp] theorem putTag_fresh (v0 v1 v2 s) : (putTag v0 v1 v2 s).fresh = s.fresh := by
  simp only [putTag] <;>
    repeat' first | simp only [↓mk_fresh, ↓modSlot_fresh] | split | rfl

@[simp] theorem abandonTag_pending (v0 v1 v2 s) : (abandonTag v0 v1 v2 s).pending = s.pending := by
  simp only [abandonTag] <;>
    repeat' first | simp only [↓mk_pending, ↓putTag_pending, ↓sendReply_pending] | split | rfl

@[simp] theorem abandonTag_time (v0 v1 v2 s) : (abandonTag v0 v1 v2 s).time = s.time := by
  simp only [abandonTag] <;>
    repeat' first | simp only [↓mk_time, ↓putTag_time, ↓sendReply_time] | split | rfl

@[simp] theorem abandonTag_grid (v0 v1 v2 s) : (abandonTag v0 v1 v2 s).grid = s.grid := by
  simp only [abandonTag] <;>
    repeat' first | simp only [↓mk_grid, ↓putTag_grid, ↓sendReply_grid] | split | rfl

@[simp] theorem abandonTag_cfg (v0 v1 v2 s) : (abandonTag v0 v1 v2 s).cfg = s.cfg := by
  simp only [abandonTag] <;>
    repeat' first | simp only [↓mk_cfg, ↓putTag_cfg, ↓sendReply_cfg] | split | rfl

@[simp] theorem abandonTag_evt (v0 v1 v2 s) : (abandonTag v0 v1 v2 s).evt = s.evt := by
  simp only [abandonTag] <;>
    repeat' first | simp only [↓mk_evt, ↓putTag_evt, ↓sendReply_evt] | split | rfl

@[simp] theorem abandonTag_pwr (v0 v1 v2 s) : (abandonTag v0 v1 v2 s).pwr = s.pwr := by
  simp only [abandonTag] <;>
    repeat' first | simp only [↓mk_pwr, ↓putTag_pwr, ↓sendReply_pwr] | split | rfl

@[simp] theorem abandonTag_sig (v0 v1 v2 s) : (abandonTag v0 v1 v2 s).sig = s.sig := by
  simp only [abandonTag] <;>
    repeat' first | simp only [↓mk_sig, ↓putTag_sig, ↓sendReply_sig] | split | rfl

@[simp] theorem abandonTag_gnss (v0 v1 v2 s) : (abandonTag v0 v1 v2 s).gnss = s.gnss := by
  simp only [abandonTag] <;>
    repeat' first | simp only [↓mk_gnss, ↓putTag_gnss, ↓sendReply_gnss] | split | rfl

@[simp] theorem abandonTag_acq (v0 v1 v2 s) : (abandonTag v0 v1 v2 s).acq = s.acq := by
  simp only [abandonTag] <;>
    repeat' first | simp only [↓mk_acq, ↓putTag_acq, ↓sendReply_acq] | split | rfl

@[simp] theorem abandonTag_bus (v0 v1 v2 s) : (abandonTag v0 v1 v2 s).bus = s.bus := by
  simp only [abandonTag] <;>
    repeat' first | simp only [↓mk_bus, ↓putTag_bus, ↓sendReply_bus] | split | rfl

@[simp] theorem abandonTag_fus (v0 v1 v2 s) : (abandonTag v0 v1 v2 s).fus = s.fus := by
  simp only [abandonTag] <;>
    repeat' first | simp only [↓mk_fus, ↓putTag_fus, ↓sendReply_fus] | split | rfl

@[simp] theorem abandonTag_obs (v0 v1 v2 s) : (abandonTag v0 v1 v2 s).obs = s.obs := by
  simp only [abandonTag] <;>
    repeat' first | simp only [↓mk_obs, ↓putTag_obs, ↓sendReply_obs] | split | rfl

@[simp] theorem abandonTag_slv (v0 v1 v2 s) : (abandonTag v0 v1 v2 s).slv = s.slv := by
  simp only [abandonTag] <;>
    repeat' first | simp only [↓mk_slv, ↓putTag_slv, ↓sendReply_slv] | split | rfl

@[simp] theorem abandonTag_ctl (v0 v1 v2 s) : (abandonTag v0 v1 v2 s).ctl = s.ctl := by
  simp only [abandonTag] <;>
    repeat' first | simp only [↓mk_ctl, ↓putTag_ctl, ↓sendReply_ctl] | split | rfl

@[simp] theorem abandonTag_thr (v0 v1 v2 s) : (abandonTag v0 v1 v2 s).thr = s.thr := by
  simp only [abandonTag] <;>
    repeat' first | simp only [↓mk_thr, ↓putTag_thr, ↓sendReply_thr] | split | rfl

@[simp] theorem abandonTag_sch (v0 v1 v2 s) : (abandonTag v0 v1 v2 s).sch = s.sch := by
  simp only [abandonTag] <;>
    repeat' first | simp only [↓mk_sch, ↓putTag_sch, ↓sendReply_sch] | split | rfl

@[simp] theorem abandonTag_grp (v0 v1 v2 s) : (abandonTag v0 v1 v2 s).grp = s.grp := by
  simp only [abandonTag] <;>
    repeat' first | simp only [↓mk_grp, ↓putTag_grp, ↓sendReply_grp] | split | rfl

@[simp] theorem abandonTag_saf (v0 v1 v2 s) : (abandonTag v0 v1 v2 s).saf = s.saf := by
  simp only [abandonTag] <;>
    repeat' first | simp only [↓mk_saf, ↓putTag_saf, ↓sendReply_saf] | split | rfl

@[simp] theorem abandonTag_mtr (v0 v1 v2 s) : (abandonTag v0 v1 v2 s).mtr = s.mtr := by
  simp only [abandonTag] <;>
    repeat' first | simp only [↓mk_mtr, ↓putTag_mtr, ↓sendReply_mtr] | split | rfl

@[simp] theorem abandonTag_fresh (v0 v1 v2 s) : (abandonTag v0 v1 v2 s).fresh = s.fresh := by
  simp only [abandonTag] <;>
    repeat' first | simp only [↓mk_fresh, ↓putTag_fresh, ↓sendReply_fresh] | split | rfl

@[simp] theorem modCmd_pending (v0 v1 s) : (modCmd v0 v1 s).pending = s.pending := by
  simp only [modCmd] <;>
    repeat' first | simp only [↓mk_pending] | split | rfl

@[simp] theorem modCmd_time (v0 v1 s) : (modCmd v0 v1 s).time = s.time := by
  simp only [modCmd] <;>
    repeat' first | simp only [↓mk_time] | split | rfl

@[simp] theorem modCmd_grid (v0 v1 s) : (modCmd v0 v1 s).grid = s.grid := by
  simp only [modCmd] <;>
    repeat' first | simp only [↓mk_grid] | split | rfl

@[simp] theorem modCmd_cfg (v0 v1 s) : (modCmd v0 v1 s).cfg = s.cfg := by
  simp only [modCmd] <;>
    repeat' first | simp only [↓mk_cfg] | split | rfl

@[simp] theorem modCmd_evt (v0 v1 s) : (modCmd v0 v1 s).evt = s.evt := by
  simp only [modCmd] <;>
    repeat' first | simp only [↓mk_evt] | split | rfl

@[simp] theorem modCmd_pwr (v0 v1 s) : (modCmd v0 v1 s).pwr = s.pwr := by
  simp only [modCmd] <;>
    repeat' first | simp only [↓mk_pwr] | split | rfl

@[simp] theorem modCmd_sig (v0 v1 s) : (modCmd v0 v1 s).sig = s.sig := by
  simp only [modCmd] <;>
    repeat' first | simp only [↓mk_sig] | split | rfl

@[simp] theorem modCmd_gnss (v0 v1 s) : (modCmd v0 v1 s).gnss = s.gnss := by
  simp only [modCmd] <;>
    repeat' first | simp only [↓mk_gnss] | split | rfl

@[simp] theorem modCmd_acq (v0 v1 s) : (modCmd v0 v1 s).acq = s.acq := by
  simp only [modCmd] <;>
    repeat' first | simp only [↓mk_acq] | split | rfl

@[simp] theorem modCmd_bus (v0 v1 s) : (modCmd v0 v1 s).bus = s.bus := by
  simp only [modCmd] <;>
    repeat' first | simp only [↓mk_bus] | split | rfl

@[simp] theorem modCmd_fus (v0 v1 s) : (modCmd v0 v1 s).fus = s.fus := by
  simp only [modCmd] <;>
    repeat' first | simp only [↓mk_fus] | split | rfl

@[simp] theorem modCmd_obs (v0 v1 s) : (modCmd v0 v1 s).obs = s.obs := by
  simp only [modCmd] <;>
    repeat' first | simp only [↓mk_obs] | split | rfl

@[simp] theorem modCmd_slv (v0 v1 s) : (modCmd v0 v1 s).slv = s.slv := by
  simp only [modCmd] <;>
    repeat' first | simp only [↓mk_slv] | split | rfl

@[simp] theorem modCmd_ctl (v0 v1 s) : (modCmd v0 v1 s).ctl = s.ctl := by
  simp only [modCmd] <;>
    repeat' first | simp only [↓mk_ctl] | split | rfl

@[simp] theorem modCmd_thr (v0 v1 s) : (modCmd v0 v1 s).thr = s.thr := by
  simp only [modCmd] <;>
    repeat' first | simp only [↓mk_thr] | split | rfl

@[simp] theorem modCmd_sch (v0 v1 s) : (modCmd v0 v1 s).sch = s.sch := by
  simp only [modCmd] <;>
    repeat' first | simp only [↓mk_sch] | split | rfl

@[simp] theorem modCmd_grp (v0 v1 s) : (modCmd v0 v1 s).grp = s.grp := by
  simp only [modCmd] <;>
    repeat' first | simp only [↓mk_grp] | split | rfl

@[simp] theorem modCmd_saf (v0 v1 s) : (modCmd v0 v1 s).saf = s.saf := by
  simp only [modCmd] <;>
    repeat' first | simp only [↓mk_saf] | split | rfl

@[simp] theorem modCmd_mtr (v0 v1 s) : (modCmd v0 v1 s).mtr = s.mtr := by
  simp only [modCmd] <;>
    repeat' first | simp only [↓mk_mtr] | split | rfl

@[simp] theorem modCmd_out (v0 v1 s) : (modCmd v0 v1 s).out = s.out := by
  simp only [modCmd] <;>
    repeat' first | simp only [↓mk_out] | split | rfl

@[simp] theorem modCmd_fresh (v0 v1 s) : (modCmd v0 v1 s).fresh = s.fresh := by
  simp only [modCmd] <;>
    repeat' first | simp only [↓mk_fresh] | split | rfl

@[simp] theorem modEntry_pending (v0 v1 v2 s) : (modEntry v0 v1 v2 s).pending = s.pending := by
  simp only [modEntry] <;>
    repeat' first | simp only [↓mk_pending] | split | rfl

@[simp] theorem modEntry_time (v0 v1 v2 s) : (modEntry v0 v1 v2 s).time = s.time := by
  simp only [modEntry] <;>
    repeat' first | simp only [↓mk_time] | split | rfl

@[simp] theorem modEntry_grid (v0 v1 v2 s) : (modEntry v0 v1 v2 s).grid = s.grid := by
  simp only [modEntry] <;>
    repeat' first | simp only [↓mk_grid] | split | rfl

@[simp] theorem modEntry_cfg (v0 v1 v2 s) : (modEntry v0 v1 v2 s).cfg = s.cfg := by
  simp only [modEntry] <;>
    repeat' first | simp only [↓mk_cfg] | split | rfl

@[simp] theorem modEntry_evt (v0 v1 v2 s) : (modEntry v0 v1 v2 s).evt = s.evt := by
  simp only [modEntry] <;>
    repeat' first | simp only [↓mk_evt] | split | rfl

@[simp] theorem modEntry_pwr (v0 v1 v2 s) : (modEntry v0 v1 v2 s).pwr = s.pwr := by
  simp only [modEntry] <;>
    repeat' first | simp only [↓mk_pwr] | split | rfl

@[simp] theorem modEntry_sig (v0 v1 v2 s) : (modEntry v0 v1 v2 s).sig = s.sig := by
  simp only [modEntry] <;>
    repeat' first | simp only [↓mk_sig] | split | rfl

@[simp] theorem modEntry_gnss (v0 v1 v2 s) : (modEntry v0 v1 v2 s).gnss = s.gnss := by
  simp only [modEntry] <;>
    repeat' first | simp only [↓mk_gnss] | split | rfl

@[simp] theorem modEntry_acq (v0 v1 v2 s) : (modEntry v0 v1 v2 s).acq = s.acq := by
  simp only [modEntry] <;>
    repeat' first | simp only [↓mk_acq] | split | rfl

@[simp] theorem modEntry_bus (v0 v1 v2 s) : (modEntry v0 v1 v2 s).bus = s.bus := by
  simp only [modEntry] <;>
    repeat' first | simp only [↓mk_bus] | split | rfl

@[simp] theorem modEntry_fus (v0 v1 v2 s) : (modEntry v0 v1 v2 s).fus = s.fus := by
  simp only [modEntry] <;>
    repeat' first | simp only [↓mk_fus] | split | rfl

@[simp] theorem modEntry_obs (v0 v1 v2 s) : (modEntry v0 v1 v2 s).obs = s.obs := by
  simp only [modEntry] <;>
    repeat' first | simp only [↓mk_obs] | split | rfl

@[simp] theorem modEntry_slv (v0 v1 v2 s) : (modEntry v0 v1 v2 s).slv = s.slv := by
  simp only [modEntry] <;>
    repeat' first | simp only [↓mk_slv] | split | rfl

@[simp] theorem modEntry_ctl (v0 v1 v2 s) : (modEntry v0 v1 v2 s).ctl = s.ctl := by
  simp only [modEntry] <;>
    repeat' first | simp only [↓mk_ctl] | split | rfl

@[simp] theorem modEntry_thr (v0 v1 v2 s) : (modEntry v0 v1 v2 s).thr = s.thr := by
  simp only [modEntry] <;>
    repeat' first | simp only [↓mk_thr] | split | rfl

@[simp] theorem modEntry_sch (v0 v1 v2 s) : (modEntry v0 v1 v2 s).sch = s.sch := by
  simp only [modEntry] <;>
    repeat' first | simp only [↓mk_sch] | split | rfl

@[simp] theorem modEntry_grp (v0 v1 v2 s) : (modEntry v0 v1 v2 s).grp = s.grp := by
  simp only [modEntry] <;>
    repeat' first | simp only [↓mk_grp] | split | rfl

@[simp] theorem modEntry_saf (v0 v1 v2 s) : (modEntry v0 v1 v2 s).saf = s.saf := by
  simp only [modEntry] <;>
    repeat' first | simp only [↓mk_saf] | split | rfl

@[simp] theorem modEntry_mtr (v0 v1 v2 s) : (modEntry v0 v1 v2 s).mtr = s.mtr := by
  simp only [modEntry] <;>
    repeat' first | simp only [↓mk_mtr] | split | rfl

@[simp] theorem modEntry_out (v0 v1 v2 s) : (modEntry v0 v1 v2 s).out = s.out := by
  simp only [modEntry] <;>
    repeat' first | simp only [↓mk_out] | split | rfl

@[simp] theorem modEntry_fresh (v0 v1 v2 s) : (modEntry v0 v1 v2 s).fresh = s.fresh := by
  simp only [modEntry] <;>
    repeat' first | simp only [↓mk_fresh] | split | rfl

@[simp] theorem sendReplies_pending (v0 v1 v2 v3 s) : (sendReplies v0 v1 v2 v3 s).pending = s.pending := by
  simp only [sendReplies] <;>
    repeat' first | simp only [↓mk_pending, ↓sendReply_pending] | with_reducible refine (pending_foldl _ (fun s x => ?_) _ _).trans ?_ | split | rfl

@[simp] theorem sendReplies_time (v0 v1 v2 v3 s) : (sendReplies v0 v1 v2 v3 s).time = s.time := by
  simp only [sendReplies] <;>
    repeat' first | simp only [↓mk_time, ↓sendReply_time] | with_reducible refine (time_foldl _ (fun s x => ?_) _ _).trans ?_ | split | rfl

@[simp] theorem sendReplies_grid (v0 v1 v2 v3 s) : (sendReplies v0 v1 v2 v3 s).grid = s.grid := by
  simp only [sendReplies] <;>
    repeat' first | simp only [↓mk_grid, ↓sendReply_grid] | with_reducible refine (grid_foldl _ (fun s x => ?_) _ _).trans ?_ | split | rfl

@[simp] theorem sendReplies_cfg (v0 v1 v2 v3 s) : (sendReplies v0 v1 v2 v3 s).cfg = s.cfg := by
  simp only [sendReplies] <;>
    repeat' first | simp only [↓mk_cfg, ↓sendReply_cfg] | with_reducible refine (cfg_foldl _ (fun s x => ?_) _ _).trans ?_ | split | rfl

@[simp] theorem sendReplies_evt (v0 v1 v2 v3 s) : (sendReplies v0 v1 v2 v3 s).evt = s.evt := by
  simp only [sendReplies] <;>
    repeat' first | simp only [↓mk_evt, ↓sendReply_evt] | with_reducible refine (evt_foldl _ (fun s x => ?_) _ _).trans ?_ | split | rfl

@[simp] theorem sendReplies_pwr (v0 v1 v2 v3 s) : (sendReplies v0 v1 v2 v3 s).pwr = s.pwr := by
  simp only [sendReplies] <;>
    repeat' first | simp only [↓mk_pwr, ↓sendReply_pwr] | with_reducible refine (pwr_foldl _ (fun s x => ?_) _ _).trans ?_ | split | rfl

@[simp] theorem sendReplies_sig (v0 v1 v2 v3 s) : (sendReplies v0 v1 v2 v3 s).sig = s.sig := by
  simp only [sendReplies] <;>
    repeat' first | simp only [↓mk_sig, ↓sendReply_sig] | with_reducible refine (sig_foldl _ (fun s x => ?_) _ _).trans ?_ | split | rfl

@[simp] theorem sendReplies_gnss (v0 v1 v2 v3 s) : (sendReplies v0 v1 v2 v3 s).gnss = s.gnss := by
  simp only [sendReplies] <;>
    repeat' first | simp only [↓mk_gnss, ↓sendReply_gnss] | with_reducible refine (gnss_foldl _ (fun s x => ?_) _ _).trans ?_ | split | rfl

@[simp] theorem sendReplies_acq (v0 v1 v2 v3 s) : (sendReplies v0 v1 v2 v3 s).acq = s.acq := by
  simp only [sendReplies] <;>
    repeat' first | simp only [↓mk_acq, ↓sendReply_acq] | with_reducible refine (acq_foldl _ (fun s x => ?_) _ _).trans ?_ | split | rfl

@[simp] theorem sendReplies_bus (v0 v1 v2 v3 s) : (sendReplies v0 v1 v2 v3 s).bus = s.bus := by
  simp only [sendReplies] <;>
    repeat' first | simp only [↓mk_bus, ↓sendReply_bus] | with_reducible refine (bus_foldl _ (fun s x => ?_) _ _).trans ?_ | split | rfl

@[simp] theorem sendReplies_fus (v0 v1 v2 v3 s) : (sendReplies v0 v1 v2 v3 s).fus = s.fus := by
  simp only [sendReplies] <;>
    repeat' first | simp only [↓mk_fus, ↓sendReply_fus] | with_reducible refine (fus_foldl _ (fun s x => ?_) _ _).trans ?_ | split | rfl

@[simp] theorem sendReplies_obs (v0 v1 v2 v3 s) : (sendReplies v0 v1 v2 v3 s).obs = s.obs := by
  simp only [sendReplies] <;>
    repeat' first | simp only [↓mk_obs, ↓sendReply_obs] | with_reducible refine (obs_foldl _ (fun s x => ?_) _ _).trans ?_ | split | rfl

@[simp] theorem sendReplies_slv (v0 v1 v2 v3 s) : (sendReplies v0 v1 v2 v3 s).slv = s.slv := by
  simp only [sendReplies] <;>
    repeat' first | simp only [↓mk_slv, ↓sendReply_slv] | with_reducible refine (slv_foldl _ (fun s x => ?_) _ _).trans ?_ | split | rfl

@[simp] theorem sendReplies_ctl (v0 v1 v2 v3 s) : (sendReplies v0 v1 v2 v3 s).ctl = s.ctl := by
  simp only [sendReplies] <;>
    repeat' first | simp only [↓mk_ctl, ↓sendReply_ctl] | with_reducible refine (ctl_foldl _ (fun s x => ?_) _ _).trans ?_ | split | rfl

@[simp] theorem sendReplies_thr (v0 v1 v2 v3 s) : (sendReplies v0 v1 v2 v3 s).thr = s.thr := by
  simp only [sendReplies] <;>
    repeat' first | simp only [↓mk_thr, ↓sendReply_thr] | with_reducible refine (thr_foldl _ (fun s x => ?_) _ _).trans ?_ | split | rfl

@[simp] theorem sendReplies_sch (v0 v1 v2 v3 s) : (sendReplies v0 v1 v2 v3 s).sch = s.sch := by
  simp only [sendReplies] <;>
    repeat' first | simp only [↓mk_sch, ↓sendReply_sch] | with_reducible refine (sch_foldl _ (fun s x => ?_) _ _).trans ?_ | split | rfl

@[simp] theorem sendReplies_grp (v0 v1 v2 v3 s) : (sendReplies v0 v1 v2 v3 s).grp = s.grp := by
  simp only [sendReplies] <;>
    repeat' first | simp only [↓mk_grp, ↓sendReply_grp] | with_reducible refine (grp_foldl _ (fun s x => ?_) _ _).trans ?_ | split | rfl

@[simp] theorem sendReplies_saf (v0 v1 v2 v3 s) : (sendReplies v0 v1 v2 v3 s).saf = s.saf := by
  simp only [sendReplies] <;>
    repeat' first | simp only [↓mk_saf, ↓sendReply_saf] | with_reducible refine (saf_foldl _ (fun s x => ?_) _ _).trans ?_ | split | rfl

@[simp] theorem sendReplies_mtr (v0 v1 v2 v3 s) : (sendReplies v0 v1 v2 v3 s).mtr = s.mtr := by
  simp only [sendReplies] <;>
    repeat' first | simp only [↓mk_mtr, ↓sendReply_mtr] | with_reducible refine (mtr_foldl _ (fun s x => ?_) _ _).trans ?_ | split | rfl

@[simp] theorem sendReplies_fresh (v0 v1 v2 v3 s) : (sendReplies v0 v1 v2 v3 s).fresh = s.fresh := by
  simp only [sendReplies] <;>
    repeat' first | simp only [↓mk_fresh, ↓sendReply_fresh] | with_reducible refine (fresh_foldl _ (fun s x => ?_) _ _).trans ?_ | split | rfl

@[simp] theorem sendFor_pending (v0 v1 v2 s) : (sendFor v0 v1 v2 s).pending = s.pending := by
  simp only [sendFor] <;>
    repeat' first | simp only [↓mk_pending, ↓sendReplies_pending] | split | rfl

@[simp] theorem sendFor_time (v0 v1 v2 s) : (sendFor v0 v1 v2 s).time = s.time := by
  simp only [sendFor] <;>
    repeat' first | simp only [↓mk_time, ↓sendReplies_time] | split | rfl

@[simp] theorem sendFor_grid (v0 v1 v2 s) : (sendFor v0 v1 v2 s).grid = s.grid := by
  simp only [sendFor] <;>
    repeat' first | simp only [↓mk_grid, ↓sendReplies_grid] | split | rfl

@[simp] theorem sendFor_cfg (v0 v1 v2 s) : (sendFor v0 v1 v2 s).cfg = s.cfg := by
  simp only [sendFor] <;>
    repeat' first | simp only [↓mk_cfg, ↓sendReplies_cfg] | split | rfl

@[simp] theorem sendFor_evt (v0 v1 v2 s) : (sendFor v0 v1 v2 s).evt = s.evt := by
  simp only [sendFor] <;>
    repeat' first | simp only [↓mk_evt, ↓sendReplies_evt] | split | rfl

@[simp] theorem sendFor_pwr (v0 v1 v2 s) : (sendFor v0 v1 v2 s).pwr = s.pwr := by
  simp only [sendFor] <;>
    repeat' first | simp only [↓mk_pwr, ↓sendReplies_pwr] | split | rfl

@[simp] theorem sendFor_sig (v0 v1 v2 s) : (sendFor v0 v1 v2 s).sig = s.sig := by
  simp only [sendFor] <;>
    repeat' first | simp only [↓mk_sig, ↓sendReplies_sig] | split | rfl

@[simp] theorem sendFor_gnss (v0 v1 v2 s) : (sendFor v0 v1 v2 s).gnss = s.gnss := by
  simp only [sendFor] <;>
    repeat' first | simp only [↓mk_gnss, ↓sendReplies_gnss] | split | rfl

@[simp] theorem sendFor_acq (v0 v1 v2 s) : (sendFor v0 v1 v2 s).acq = s.acq := by
  simp only [sendFor] <;>
    repeat' first | simp only [↓mk_acq, ↓sendReplies_acq] | split | rfl

@[simp] theorem sendFor_bus (v0 v1 v2 s) : (sendFor v0 v1 v2 s).bus = s.bus := by
  simp only [sendFor] <;>
    repeat' first | simp only [↓mk_bus, ↓sendReplies_bus] | split | rfl

@[simp] theorem sendFor_fus (v0 v1 v2 s) : (sendFor v0 v1 v2 s).fus = s.fus := by
  simp only [sendFor] <;>
    repeat' first | simp only [↓mk_fus, ↓sendReplies_fus] | split | rfl

@[simp] theorem sendFor_obs (v0 v1 v2 s) : (sendFor v0 v1 v2 s).obs = s.obs := by
  simp only [sendFor] <;>
    repeat' first | simp only [↓mk_obs, ↓sendReplies_obs] | split | rfl

@[simp] theorem sendFor_slv (v0 v1 v2 s) : (sendFor v0 v1 v2 s).slv = s.slv := by
  simp only [sendFor] <;>
    repeat' first | simp only [↓mk_slv, ↓sendReplies_slv] | split | rfl

@[simp] theorem sendFor_ctl (v0 v1 v2 s) : (sendFor v0 v1 v2 s).ctl = s.ctl := by
  simp only [sendFor] <;>
    repeat' first | simp only [↓mk_ctl, ↓sendReplies_ctl] | split | rfl

@[simp] theorem sendFor_thr (v0 v1 v2 s) : (sendFor v0 v1 v2 s).thr = s.thr := by
  simp only [sendFor] <;>
    repeat' first | simp only [↓mk_thr, ↓sendReplies_thr] | split | rfl

@[simp] theorem sendFor_sch (v0 v1 v2 s) : (sendFor v0 v1 v2 s).sch = s.sch := by
  simp only [sendFor] <;>
    repeat' first | simp only [↓mk_sch, ↓sendReplies_sch] | split | rfl

@[simp] theorem sendFor_grp (v0 v1 v2 s) : (sendFor v0 v1 v2 s).grp = s.grp := by
  simp only [sendFor] <;>
    repeat' first | simp only [↓mk_grp, ↓sendReplies_grp] | split | rfl

@[simp] theorem sendFor_saf (v0 v1 v2 s) : (sendFor v0 v1 v2 s).saf = s.saf := by
  simp only [sendFor] <;>
    repeat' first | simp only [↓mk_saf, ↓sendReplies_saf] | split | rfl

@[simp] theorem sendFor_mtr (v0 v1 v2 s) : (sendFor v0 v1 v2 s).mtr = s.mtr := by
  simp only [sendFor] <;>
    repeat' first | simp only [↓mk_mtr, ↓sendReplies_mtr] | split | rfl

@[simp] theorem sendFor_fresh (v0 v1 v2 s) : (sendFor v0 v1 v2 s).fresh = s.fresh := by
  simp only [sendFor] <;>
    repeat' first | simp only [↓mk_fresh, ↓sendReplies_fresh] | split | rfl

@[simp] theorem endCmd_pending (v0 v1 v2 v3 v4 v5 s) : (endCmd v0 v1 v2 v3 v4 v5 s).pending = s.pending := by
  simp only [endCmd] <;>
    repeat' first | simp only [↓mk_pending, ↓modEntry_pending, ↓sendFor_pending, ↓putTag_pending, ↓modSlot_pending] | split | rfl

@[simp] theorem endCmd_time (v0 v1 v2 v3 v4 v5 s) : (endCmd v0 v1 v2 v3 v4 v5 s).time = s.time := by
  simp only [endCmd] <;>
    repeat' first | simp only [↓mk_time, ↓modEntry_time, ↓sendFor_time, ↓putTag_time, ↓modSlot_time] | split | rfl

@[simp] theorem endCmd_grid (v0 v1 v2 v3 v4 v5 s) : (endCmd v0 v1 v2 v3 v4 v5 s).grid = s.grid := by
  simp only [endCmd] <;>
    repeat' first | simp only [↓mk_grid, ↓modEntry_grid, ↓sendFor_grid, ↓putTag_grid, ↓modSlot_grid] | split | rfl

@[simp] theorem endCmd_cfg (v0 v1 v2 v3 v4 v5 s) : (endCmd v0 v1 v2 v3 v4 v5 s).cfg = s.cfg := by
  simp only [endCmd] <;>
    repeat' first | simp only [↓mk_cfg, ↓modEntry_cfg, ↓sendFor_cfg, ↓putTag_cfg, ↓modSlot_cfg] | split | rfl

@[simp] theorem endCmd_evt (v0 v1 v2 v3 v4 v5 s) : (endCmd v0 v1 v2 v3 v4 v5 s).evt = s.evt := by
  simp only [endCmd] <;>
    repeat' first | simp only [↓mk_evt, ↓modEntry_evt, ↓sendFor_evt, ↓putTag_evt, ↓modSlot_evt] | split | rfl

@[simp] theorem endCmd_pwr (v0 v1 v2 v3 v4 v5 s) : (endCmd v0 v1 v2 v3 v4 v5 s).pwr = s.pwr := by
  simp only [endCmd] <;>
    repeat' first | simp only [↓mk_pwr, ↓modEntry_pwr, ↓sendFor_pwr, ↓putTag_pwr, ↓modSlot_pwr] | split | rfl

@[simp] theorem endCmd_sig (v0 v1 v2 v3 v4 v5 s) : (endCmd v0 v1 v2 v3 v4 v5 s).sig = s.sig := by
  simp only [endCmd] <;>
    repeat' first | simp only [↓mk_sig, ↓modEntry_sig, ↓sendFor_sig, ↓putTag_sig, ↓modSlot_sig] | split | rfl

@[simp] theorem endCmd_gnss (v0 v1 v2 v3 v4 v5 s) : (endCmd v0 v1 v2 v3 v4 v5 s).gnss = s.gnss := by
  simp only [endCmd] <;>
    repeat' first | simp only [↓mk_gnss, ↓modEntry_gnss, ↓sendFor_gnss, ↓putTag_gnss, ↓modSlot_gnss] | split | rfl

@[simp] theorem endCmd_acq (v0 v1 v2 v3 v4 v5 s) : (endCmd v0 v1 v2 v3 v4 v5 s).acq = s.acq := by
  simp only [endCmd] <;>
    repeat' first | simp only [↓mk_acq, ↓modEntry_acq, ↓sendFor_acq, ↓putTag_acq, ↓modSlot_acq] | split | rfl

@[simp] theorem endCmd_bus (v0 v1 v2 v3 v4 v5 s) : (endCmd v0 v1 v2 v3 v4 v5 s).bus = s.bus := by
  simp only [endCmd] <;>
    repeat' first | simp only [↓mk_bus, ↓modEntry_bus, ↓sendFor_bus, ↓putTag_bus, ↓modSlot_bus] | split | rfl

@[simp] theorem endCmd_fus (v0 v1 v2 v3 v4 v5 s) : (endCmd v0 v1 v2 v3 v4 v5 s).fus = s.fus := by
  simp only [endCmd] <;>
    repeat' first | simp only [↓mk_fus, ↓modEntry_fus, ↓sendFor_fus, ↓putTag_fus, ↓modSlot_fus] | split | rfl

@[simp] theorem endCmd_obs (v0 v1 v2 v3 v4 v5 s) : (endCmd v0 v1 v2 v3 v4 v5 s).obs = s.obs := by
  simp only [endCmd] <;>
    repeat' first | simp only [↓mk_obs, ↓modEntry_obs, ↓sendFor_obs, ↓putTag_obs, ↓modSlot_obs] | split | rfl

@[simp] theorem endCmd_slv (v0 v1 v2 v3 v4 v5 s) : (endCmd v0 v1 v2 v3 v4 v5 s).slv = s.slv := by
  simp only [endCmd] <;>
    repeat' first | simp only [↓mk_slv, ↓modEntry_slv, ↓sendFor_slv, ↓putTag_slv, ↓modSlot_slv] | split | rfl

@[simp] theorem endCmd_ctl (v0 v1 v2 v3 v4 v5 s) : (endCmd v0 v1 v2 v3 v4 v5 s).ctl = s.ctl := by
  simp only [endCmd] <;>
    repeat' first | simp only [↓mk_ctl, ↓modEntry_ctl, ↓sendFor_ctl, ↓putTag_ctl, ↓modSlot_ctl] | split | rfl

@[simp] theorem endCmd_thr (v0 v1 v2 v3 v4 v5 s) : (endCmd v0 v1 v2 v3 v4 v5 s).thr = s.thr := by
  simp only [endCmd] <;>
    repeat' first | simp only [↓mk_thr, ↓modEntry_thr, ↓sendFor_thr, ↓putTag_thr, ↓modSlot_thr] | split | rfl

@[simp] theorem endCmd_sch (v0 v1 v2 v3 v4 v5 s) : (endCmd v0 v1 v2 v3 v4 v5 s).sch = s.sch := by
  simp only [endCmd] <;>
    repeat' first | simp only [↓mk_sch, ↓modEntry_sch, ↓sendFor_sch, ↓putTag_sch, ↓modSlot_sch] | split | rfl

@[simp] theorem endCmd_grp (v0 v1 v2 v3 v4 v5 s) : (endCmd v0 v1 v2 v3 v4 v5 s).grp = s.grp := by
  simp only [endCmd] <;>
    repeat' first | simp only [↓mk_grp, ↓modEntry_grp, ↓sendFor_grp, ↓putTag_grp, ↓modSlot_grp] | split | rfl

@[simp] theorem endCmd_saf (v0 v1 v2 v3 v4 v5 s) : (endCmd v0 v1 v2 v3 v4 v5 s).saf = s.saf := by
  simp only [endCmd] <;>
    repeat' first | simp only [↓mk_saf, ↓modEntry_saf, ↓sendFor_saf, ↓putTag_saf, ↓modSlot_saf] | split | rfl

@[simp] theorem endCmd_mtr (v0 v1 v2 v3 v4 v5 s) : (endCmd v0 v1 v2 v3 v4 v5 s).mtr = s.mtr := by
  simp only [endCmd] <;>
    repeat' first | simp only [↓mk_mtr, ↓modEntry_mtr, ↓sendFor_mtr, ↓putTag_mtr, ↓modSlot_mtr] | split | rfl

@[simp] theorem endCmd_fresh (v0 v1 v2 v3 v4 v5 s) : (endCmd v0 v1 v2 v3 v4 v5 s).fresh = s.fresh := by
  simp only [endCmd] <;>
    repeat' first | simp only [↓mk_fresh, ↓modEntry_fresh, ↓sendFor_fresh, ↓putTag_fresh, ↓modSlot_fresh] | split | rfl

@[simp] theorem pushRec_pending (v0 v1 v2 s) : (pushRec v0 v1 v2 s).pending = s.pending := by
  simp only [pushRec] <;>
    repeat' first | simp only [↓mk_pending] | split | rfl

@[simp] theorem pushRec_time (v0 v1 v2 s) : (pushRec v0 v1 v2 s).time = s.time := by
  simp only [pushRec] <;>
    repeat' first | simp only [↓mk_time] | split | rfl

@[simp] theorem pushRec_grid (v0 v1 v2 s) : (pushRec v0 v1 v2 s).grid = s.grid := by
  simp only [pushRec] <;>
    repeat' first | simp only [↓mk_grid] | split | rfl

@[simp] theorem pushRec_cfg (v0 v1 v2 s) : (pushRec v0 v1 v2 s).cfg = s.cfg := by
  simp only [pushRec] <;>
    repeat' first | simp only [↓mk_cfg] | split | rfl

@[simp] theorem pushRec_host (v0 v1 v2 s) : (pushRec v0 v1 v2 s).host = s.host := by
  simp only [pushRec] <;>
    repeat' first | simp only [↓mk_host] | split | rfl

@[simp] theorem pushRec_pwr (v0 v1 v2 s) : (pushRec v0 v1 v2 s).pwr = s.pwr := by
  simp only [pushRec] <;>
    repeat' first | simp only [↓mk_pwr] | split | rfl

@[simp] theorem pushRec_sig (v0 v1 v2 s) : (pushRec v0 v1 v2 s).sig = s.sig := by
  simp only [pushRec] <;>
    repeat' first | simp only [↓mk_sig] | split | rfl

@[simp] theorem pushRec_gnss (v0 v1 v2 s) : (pushRec v0 v1 v2 s).gnss = s.gnss := by
  simp only [pushRec] <;>
    repeat' first | simp only [↓mk_gnss] | split | rfl

@[simp] theorem pushRec_acq (v0 v1 v2 s) : (pushRec v0 v1 v2 s).acq = s.acq := by
  simp only [pushRec] <;>
    repeat' first | simp only [↓mk_acq] | split | rfl

@[simp] theorem pushRec_bus (v0 v1 v2 s) : (pushRec v0 v1 v2 s).bus = s.bus := by
  simp only [pushRec] <;>
    repeat' first | simp only [↓mk_bus] | split | rfl

@[simp] theorem pushRec_fus (v0 v1 v2 s) : (pushRec v0 v1 v2 s).fus = s.fus := by
  simp only [pushRec] <;>
    repeat' first | simp only [↓mk_fus] | split | rfl

@[simp] theorem pushRec_obs (v0 v1 v2 s) : (pushRec v0 v1 v2 s).obs = s.obs := by
  simp only [pushRec] <;>
    repeat' first | simp only [↓mk_obs] | split | rfl

@[simp] theorem pushRec_slv (v0 v1 v2 s) : (pushRec v0 v1 v2 s).slv = s.slv := by
  simp only [pushRec] <;>
    repeat' first | simp only [↓mk_slv] | split | rfl

@[simp] theorem pushRec_ctl (v0 v1 v2 s) : (pushRec v0 v1 v2 s).ctl = s.ctl := by
  simp only [pushRec] <;>
    repeat' first | simp only [↓mk_ctl] | split | rfl

@[simp] theorem pushRec_thr (v0 v1 v2 s) : (pushRec v0 v1 v2 s).thr = s.thr := by
  simp only [pushRec] <;>
    repeat' first | simp only [↓mk_thr] | split | rfl

@[simp] theorem pushRec_sch (v0 v1 v2 s) : (pushRec v0 v1 v2 s).sch = s.sch := by
  simp only [pushRec] <;>
    repeat' first | simp only [↓mk_sch] | split | rfl

@[simp] theorem pushRec_grp (v0 v1 v2 s) : (pushRec v0 v1 v2 s).grp = s.grp := by
  simp only [pushRec] <;>
    repeat' first | simp only [↓mk_grp] | split | rfl

@[simp] theorem pushRec_saf (v0 v1 v2 s) : (pushRec v0 v1 v2 s).saf = s.saf := by
  simp only [pushRec] <;>
    repeat' first | simp only [↓mk_saf] | split | rfl

@[simp] theorem pushRec_mtr (v0 v1 v2 s) : (pushRec v0 v1 v2 s).mtr = s.mtr := by
  simp only [pushRec] <;>
    repeat' first | simp only [↓mk_mtr] | split | rfl

@[simp] theorem pushRec_out (v0 v1 v2 s) : (pushRec v0 v1 v2 s).out = s.out := by
  simp only [pushRec] <;>
    repeat' first | simp only [↓mk_out] | split | rfl

@[simp] theorem pushRec_fresh (v0 v1 v2 s) : (pushRec v0 v1 v2 s).fresh = s.fresh := by
  simp only [pushRec] <;>
    repeat' first | simp only [↓mk_fresh] | split | rfl

@[simp] theorem record_pending (v0 v1 s) : (record v0 v1 s).pending = s.pending := by
  simp only [record] <;>
    repeat' first | simp only [↓mk_pending, ↓pushRec_pending] | split | rfl

@[simp] theorem record_time (v0 v1 s) : (record v0 v1 s).time = s.time := by
  simp only [record] <;>
    repeat' first | simp only [↓mk_time, ↓pushRec_time] | split | rfl

@[simp] theorem record_grid (v0 v1 s) : (record v0 v1 s).grid = s.grid := by
  simp only [record] <;>
    repeat' first | simp only [↓mk_grid, ↓pushRec_grid] | split | rfl

@[simp] theorem record_cfg (v0 v1 s) : (record v0 v1 s).cfg = s.cfg := by
  simp only [record] <;>
    repeat' first | simp only [↓mk_cfg, ↓pushRec_cfg] | split | rfl

@[simp] theorem record_host (v0 v1 s) : (record v0 v1 s).host = s.host := by
  simp only [record] <;>
    repeat' first | simp only [↓mk_host, ↓pushRec_host] | split | rfl

@[simp] theorem record_pwr (v0 v1 s) : (record v0 v1 s).pwr = s.pwr := by
  simp only [record] <;>
    repeat' first | simp only [↓mk_pwr, ↓pushRec_pwr] | split | rfl

@[simp] theorem record_sig (v0 v1 s) : (record v0 v1 s).sig = s.sig := by
  simp only [record] <;>
    repeat' first | simp only [↓mk_sig, ↓pushRec_sig] | split | rfl

@[simp] theorem record_gnss (v0 v1 s) : (record v0 v1 s).gnss = s.gnss := by
  simp only [record] <;>
    repeat' first | simp only [↓mk_gnss, ↓pushRec_gnss] | split | rfl

@[simp] theorem record_acq (v0 v1 s) : (record v0 v1 s).acq = s.acq := by
  simp only [record] <;>
    repeat' first | simp only [↓mk_acq, ↓pushRec_acq] | split | rfl

@[simp] theorem record_bus (v0 v1 s) : (record v0 v1 s).bus = s.bus := by
  simp only [record] <;>
    repeat' first | simp only [↓mk_bus, ↓pushRec_bus] | split | rfl

@[simp] theorem record_fus (v0 v1 s) : (record v0 v1 s).fus = s.fus := by
  simp only [record] <;>
    repeat' first | simp only [↓mk_fus, ↓pushRec_fus] | split | rfl

@[simp] theorem record_obs (v0 v1 s) : (record v0 v1 s).obs = s.obs := by
  simp only [record] <;>
    repeat' first | simp only [↓mk_obs, ↓pushRec_obs] | split | rfl

@[simp] theorem record_slv (v0 v1 s) : (record v0 v1 s).slv = s.slv := by
  simp only [record] <;>
    repeat' first | simp only [↓mk_slv, ↓pushRec_slv] | split | rfl

@[simp] theorem record_ctl (v0 v1 s) : (record v0 v1 s).ctl = s.ctl := by
  simp only [record] <;>
    repeat' first | simp only [↓mk_ctl, ↓pushRec_ctl] | split | rfl

@[simp] theorem record_thr (v0 v1 s) : (record v0 v1 s).thr = s.thr := by
  simp only [record] <;>
    repeat' first | simp only [↓mk_thr, ↓pushRec_thr] | split | rfl

@[simp] theorem record_sch (v0 v1 s) : (record v0 v1 s).sch = s.sch := by
  simp only [record] <;>
    repeat' first | simp only [↓mk_sch, ↓pushRec_sch] | split | rfl

@[simp] theorem record_grp (v0 v1 s) : (record v0 v1 s).grp = s.grp := by
  simp only [record] <;>
    repeat' first | simp only [↓mk_grp, ↓pushRec_grp] | split | rfl

@[simp] theorem record_saf (v0 v1 s) : (record v0 v1 s).saf = s.saf := by
  simp only [record] <;>
    repeat' first | simp only [↓mk_saf, ↓pushRec_saf] | split | rfl

@[simp] theorem record_mtr (v0 v1 s) : (record v0 v1 s).mtr = s.mtr := by
  simp only [record] <;>
    repeat' first | simp only [↓mk_mtr, ↓pushRec_mtr] | split | rfl

@[simp] theorem record_out (v0 v1 s) : (record v0 v1 s).out = s.out := by
  simp only [record] <;>
    repeat' first | simp only [↓mk_out, ↓pushRec_out] | split | rfl

@[simp] theorem record_fresh (v0 v1 s) : (record v0 v1 s).fresh = s.fresh := by
  simp only [record] <;>
    repeat' first | simp only [↓mk_fresh, ↓pushRec_fresh] | split | rfl

@[simp] theorem drainPort_pending (v0 s v2) : (drainPort v0 s v2).pending = s.pending := by
  induction v0 generalizing s with
  | zero => rfl
  | succ n ih =>
    simp only [drainPort]
    split
    · split
      · rfl
      · rw [ih, emit_pending]
    · rfl

@[simp] theorem drainPort_time (v0 s v2) : (drainPort v0 s v2).time = s.time := by
  induction v0 generalizing s with
  | zero => rfl
  | succ n ih =>
    simp only [drainPort]
    split
    · split
      · rfl
      · rw [ih, emit_time]
    · rfl

@[simp] theorem drainPort_grid (v0 s v2) : (drainPort v0 s v2).grid = s.grid := by
  induction v0 generalizing s with
  | zero => rfl
  | succ n ih =>
    simp only [drainPort]
    split
    · split
      · rfl
      · rw [ih, emit_grid]
    · rfl

@[simp] theorem drainPort_cfg (v0 s v2) : (drainPort v0 s v2).cfg = s.cfg := by
  induction v0 generalizing s with
  | zero => rfl
  | succ n ih =>
    simp only [drainPort]
    split
    · split
      · rfl
      · rw [ih, emit_cfg]
    · rfl

@[simp] theorem drainPort_host (v0 s v2) : (drainPort v0 s v2).host = s.host := by
  induction v0 generalizing s with
  | zero => rfl
  | succ n ih =>
    simp only [drainPort]
    split
    · split
      · rfl
      · rw [ih, emit_host]
    · rfl

@[simp] theorem drainPort_evt (v0 s v2) : (drainPort v0 s v2).evt = s.evt := by
  induction v0 generalizing s with
  | zero => rfl
  | succ n ih =>
    simp only [drainPort]
    split
    · split
      · rfl
      · rw [ih, emit_evt]
    · rfl

@[simp] theorem drainPort_pwr (v0 s v2) : (drainPort v0 s v2).pwr = s.pwr := by
  induction v0 generalizing s with
  | zero => rfl
  | succ n ih =>
    simp only [drainPort]
    split
    · split
      · rfl
      · rw [ih, emit_pwr]
    · rfl

@[simp] theorem drainPort_sig (v0 s v2) : (drainPort v0 s v2).sig = s.sig := by
  induction v0 generalizing s with
  | zero => rfl
  | succ n ih =>
    simp only [drainPort]
    split
    · split
      · rfl
      · rw [ih, emit_sig]
    · rfl

@[simp] theorem drainPort_gnss (v0 s v2) : (drainPort v0 s v2).gnss = s.gnss := by
  induction v0 generalizing s with
  | zero => rfl
  | succ n ih =>
    simp only [drainPort]
    split
    · split
      · rfl
      · rw [ih, emit_gnss]
    · rfl

@[simp] theorem drainPort_acq (v0 s v2) : (drainPort v0 s v2).acq = s.acq := by
  induction v0 generalizing s with
  | zero => rfl
  | succ n ih =>
    simp only [drainPort]
    split
    · split
      · rfl
      · rw [ih, emit_acq]
    · rfl

@[simp] theorem drainPort_bus (v0 s v2) : (drainPort v0 s v2).bus = s.bus := by
  induction v0 generalizing s with
  | zero => rfl
  | succ n ih =>
    simp only [drainPort]
    split
    · split
      · rfl
      · rw [ih, emit_bus]
    · rfl

@[simp] theorem drainPort_fus (v0 s v2) : (drainPort v0 s v2).fus = s.fus := by
  induction v0 generalizing s with
  | zero => rfl
  | succ n ih =>
    simp only [drainPort]
    split
    · split
      · rfl
      · rw [ih, emit_fus]
    · rfl

@[simp] theorem drainPort_obs (v0 s v2) : (drainPort v0 s v2).obs = s.obs := by
  induction v0 generalizing s with
  | zero => rfl
  | succ n ih =>
    simp only [drainPort]
    split
    · split
      · rfl
      · rw [ih, emit_obs]
    · rfl

@[simp] theorem drainPort_slv (v0 s v2) : (drainPort v0 s v2).slv = s.slv := by
  induction v0 generalizing s with
  | zero => rfl
  | succ n ih =>
    simp only [drainPort]
    split
    · split
      · rfl
      · rw [ih, emit_slv]
    · rfl

@[simp] theorem drainPort_ctl (v0 s v2) : (drainPort v0 s v2).ctl = s.ctl := by
  induction v0 generalizing s with
  | zero => rfl
  | succ n ih =>
    simp only [drainPort]
    split
    · split
      · rfl
      · rw [ih, emit_ctl]
    · rfl

@[simp] theorem drainPort_thr (v0 s v2) : (drainPort v0 s v2).thr = s.thr := by
  induction v0 generalizing s with
  | zero => rfl
  | succ n ih =>
    simp only [drainPort]
    split
    · split
      · rfl
      · rw [ih, emit_thr]
    · rfl

@[simp] theorem drainPort_sch (v0 s v2) : (drainPort v0 s v2).sch = s.sch := by
  induction v0 generalizing s with
  | zero => rfl
  | succ n ih =>
    simp only [drainPort]
    split
    · split
      · rfl
      · rw [ih, emit_sch]
    · rfl

@[simp] theorem drainPort_saf (v0 s v2) : (drainPort v0 s v2).saf = s.saf := by
  induction v0 generalizing s with
  | zero => rfl
  | succ n ih =>
    simp only [drainPort]
    split
    · split
      · rfl
      · rw [ih, emit_saf]
    · rfl

@[simp] theorem drainPort_mtr (v0 s v2) : (drainPort v0 s v2).mtr = s.mtr := by
  induction v0 generalizing s with
  | zero => rfl
  | succ n ih =>
    simp only [drainPort]
    split
    · split
      · rfl
      · rw [ih, emit_mtr]
    · rfl

@[simp] theorem drainPort_fresh (v0 s v2) : (drainPort v0 s v2).fresh = s.fresh := by
  induction v0 generalizing s with
  | zero => rfl
  | succ n ih =>
    simp only [drainPort]
    split
    · split
      · rfl
      · rw [ih, emit_fresh]
    · rfl

@[simp] theorem drainCasc_pending (s) : (drainCasc s).pending = s.pending := by
  simp only [drainCasc] <;>
    repeat' first | simp only [↓mk_pending, ↓drainPort_pending] | with_reducible refine (pending_foldl _ (fun s x => ?_) _ _).trans ?_ | split | rfl

@[simp] theorem drainCasc_time (s) : (drainCasc s).time = s.time := by
  simp only [drainCasc] <;>
    repeat' first | simp only [↓mk_time, ↓drainPort_time] | with_reducible refine (time_foldl _ (fun s x => ?_) _ _).trans ?_ | split | rfl

@[simp] theorem drainCasc_grid (s) : (drainCasc s).grid = s.grid := by
  simp only [drainCasc] <;>
    repeat' first | simp only [↓mk_grid, ↓drainPort_grid] | with_reducible refine (grid_foldl _ (fun s x => ?_) _ _).trans ?_ | split | rfl

@[simp] theorem drainCasc_cfg (s) : (drainCasc s).cfg = s.cfg := by
  simp only [drainCasc] <;>
    repeat' first | simp only [↓mk_cfg, ↓drainPort_cfg] | with_reducible refine (cfg_foldl _ (fun s x => ?_) _ _).trans ?_ | split | rfl

@[simp] theorem drainCasc_host (s) : (drainCasc s).host = s.host := by
  simp only [drainCasc] <;>
    repeat' first | simp only [↓mk_host, ↓drainPort_host] | with_reducible refine (host_foldl _ (fun s x => ?_) _ _).trans ?_ | split | rfl

@[simp] theorem drainCasc_evt (s) : (drainCasc s).evt = s.evt := by
  simp only [drainCasc] <;>
    repeat' first | simp only [↓mk_evt, ↓drainPort_evt] | with_reducible refine (evt_foldl _ (fun s x => ?_) _ _).trans ?_ | split | rfl

@[simp] theorem drainCasc_pwr (s) : (drainCasc s).pwr = s.pwr := by
  simp only [drainCasc] <;>
    repeat' first | simp only [↓mk_pwr, ↓drainPort_pwr] | with_reducible refine (pwr_foldl _ (fun s x => ?_) _ _).trans ?_ | split | rfl

@[simp] theorem drainCasc_sig (s) : (drainCasc s).sig = s.sig := by
  simp only [drainCasc] <;>
    repeat' first | simp only [↓mk_sig, ↓drainPort_sig] | with_reducible refine (sig_foldl _ (fun s x => ?_) _ _).trans ?_ | split | rfl

@[simp] theorem drainCasc_gnss (s) : (drainCasc s).gnss = s.gnss := by
  simp only [drainCasc] <;>
    repeat' first | simp only [↓mk_gnss, ↓drainPort_gnss] | with_reducible refine (gnss_foldl _ (fun s x => ?_) _ _).trans ?_ | split | rfl

@[simp] theorem drainCasc_acq (s) : (drainCasc s).acq = s.acq := by
  simp only [drainCasc] <;>
    repeat' first | simp only [↓mk_acq, ↓drainPort_acq] | with_reducible refine (acq_foldl _ (fun s x => ?_) _ _).trans ?_ | split | rfl

@[simp] theorem drainCasc_bus (s) : (drainCasc s).bus = s.bus := by
  simp only [drainCasc] <;>
    repeat' first | simp only [↓mk_bus, ↓drainPort_bus] | with_reducible refine (bus_foldl _ (fun s x => ?_) _ _).trans ?_ | split | rfl

@[simp] theorem drainCasc_fus (s) : (drainCasc s).fus = s.fus := by
  simp only [drainCasc] <;>
    repeat' first | simp only [↓mk_fus, ↓drainPort_fus] | with_reducible refine (fus_foldl _ (fun s x => ?_) _ _).trans ?_ | split | rfl

@[simp] theorem drainCasc_obs (s) : (drainCasc s).obs = s.obs := by
  simp only [drainCasc] <;>
    repeat' first | simp only [↓mk_obs, ↓drainPort_obs] | with_reducible refine (obs_foldl _ (fun s x => ?_) _ _).trans ?_ | split | rfl

@[simp] theorem drainCasc_slv (s) : (drainCasc s).slv = s.slv := by
  simp only [drainCasc] <;>
    repeat' first | simp only [↓mk_slv, ↓drainPort_slv] | with_reducible refine (slv_foldl _ (fun s x => ?_) _ _).trans ?_ | split | rfl

@[simp] theorem drainCasc_ctl (s) : (drainCasc s).ctl = s.ctl := by
  simp only [drainCasc] <;>
    repeat' first | simp only [↓mk_ctl, ↓drainPort_ctl] | with_reducible refine (ctl_foldl _ (fun s x => ?_) _ _).trans ?_ | split | rfl

@[simp] theorem drainCasc_thr (s) : (drainCasc s).thr = s.thr := by
  simp only [drainCasc] <;>
    repeat' first | simp only [↓mk_thr, ↓drainPort_thr] | with_reducible refine (thr_foldl _ (fun s x => ?_) _ _).trans ?_ | split | rfl

@[simp] theorem drainCasc_sch (s) : (drainCasc s).sch = s.sch := by
  simp only [drainCasc] <;>
    repeat' first | simp only [↓mk_sch, ↓drainPort_sch] | with_reducible refine (sch_foldl _ (fun s x => ?_) _ _).trans ?_ | split | rfl

@[simp] theorem drainCasc_saf (s) : (drainCasc s).saf = s.saf := by
  simp only [drainCasc] <;>
    repeat' first | simp only [↓mk_saf, ↓drainPort_saf] | with_reducible refine (saf_foldl _ (fun s x => ?_) _ _).trans ?_ | split | rfl

@[simp] theorem drainCasc_mtr (s) : (drainCasc s).mtr = s.mtr := by
  simp only [drainCasc] <;>
    repeat' first | simp only [↓mk_mtr, ↓drainPort_mtr] | with_reducible refine (mtr_foldl _ (fun s x => ?_) _ _).trans ?_ | split | rfl

@[simp] theorem drainCasc_fresh (s) : (drainCasc s).fresh = s.fresh := by
  simp only [drainCasc] <;>
    repeat' first | simp only [↓mk_fresh, ↓drainPort_fresh] | with_reducible refine (fresh_foldl _ (fun s x => ?_) _ _).trans ?_ | split | rfl

@[simp] theorem queueCasc_pending (v0 s) : (queueCasc v0 s).pending = s.pending := by
  simp only [queueCasc] <;>
    repeat' first | simp only [↓mk_pending, ↓drainCasc_pending] | split | rfl

@[simp] theorem queueCasc_time (v0 s) : (queueCasc v0 s).time = s.time := by
  simp only [queueCasc] <;>
    repeat' first | simp only [↓mk_time, ↓drainCasc_time] | split | rfl

@[simp] theorem queueCasc_grid (v0 s) : (queueCasc v0 s).grid = s.grid := by
  simp only [queueCasc] <;>
    repeat' first | simp only [↓mk_grid, ↓drainCasc_grid] | split | rfl

@[simp] theorem queueCasc_cfg (v0 s) : (queueCasc v0 s).cfg = s.cfg := by
  simp only [queueCasc] <;>
    repeat' first | simp only [↓mk_cfg, ↓drainCasc_cfg] | split | rfl

@[simp] theorem queueCasc_host (v0 s) : (queueCasc v0 s).host = s.host := by
  simp only [queueCasc] <;>
    repeat' first | simp only [↓mk_host, ↓drainCasc_host] | split | rfl

@[simp] theorem queueCasc_evt (v0 s) : (queueCasc v0 s).evt = s.evt := by
  simp only [queueCasc] <;>
    repeat' first | simp only [↓mk_evt, ↓drainCasc_evt] | split | rfl

@[simp] theorem queueCasc_pwr (v0 s) : (queueCasc v0 s).pwr = s.pwr := by
  simp only [queueCasc] <;>
    repeat' first | simp only [↓mk_pwr, ↓drainCasc_pwr] | split | rfl

@[simp] theorem queueCasc_sig (v0 s) : (queueCasc v0 s).sig = s.sig := by
  simp only [queueCasc] <;>
    repeat' first | simp only [↓mk_sig, ↓drainCasc_sig] | split | rfl

@[simp] theorem queueCasc_gnss (v0 s) : (queueCasc v0 s).gnss = s.gnss := by
  simp only [queueCasc] <;>
    repeat' first | simp only [↓mk_gnss, ↓drainCasc_gnss] | split | rfl

@[simp] theorem queueCasc_acq (v0 s) : (queueCasc v0 s).acq = s.acq := by
  simp only [queueCasc] <;>
    repeat' first | simp only [↓mk_acq, ↓drainCasc_acq] | split | rfl

@[simp] theorem queueCasc_bus (v0 s) : (queueCasc v0 s).bus = s.bus := by
  simp only [queueCasc] <;>
    repeat' first | simp only [↓mk_bus, ↓drainCasc_bus] | split | rfl

@[simp] theorem queueCasc_fus (v0 s) : (queueCasc v0 s).fus = s.fus := by
  simp only [queueCasc] <;>
    repeat' first | simp only [↓mk_fus, ↓drainCasc_fus] | split | rfl

@[simp] theorem queueCasc_obs (v0 s) : (queueCasc v0 s).obs = s.obs := by
  simp only [queueCasc] <;>
    repeat' first | simp only [↓mk_obs, ↓drainCasc_obs] | split | rfl

@[simp] theorem queueCasc_slv (v0 s) : (queueCasc v0 s).slv = s.slv := by
  simp only [queueCasc] <;>
    repeat' first | simp only [↓mk_slv, ↓drainCasc_slv] | split | rfl

@[simp] theorem queueCasc_ctl (v0 s) : (queueCasc v0 s).ctl = s.ctl := by
  simp only [queueCasc] <;>
    repeat' first | simp only [↓mk_ctl, ↓drainCasc_ctl] | split | rfl

@[simp] theorem queueCasc_thr (v0 s) : (queueCasc v0 s).thr = s.thr := by
  simp only [queueCasc] <;>
    repeat' first | simp only [↓mk_thr, ↓drainCasc_thr] | split | rfl

@[simp] theorem queueCasc_sch (v0 s) : (queueCasc v0 s).sch = s.sch := by
  simp only [queueCasc] <;>
    repeat' first | simp only [↓mk_sch, ↓drainCasc_sch] | split | rfl

@[simp] theorem queueCasc_saf (v0 s) : (queueCasc v0 s).saf = s.saf := by
  simp only [queueCasc] <;>
    repeat' first | simp only [↓mk_saf, ↓drainCasc_saf] | split | rfl

@[simp] theorem queueCasc_mtr (v0 s) : (queueCasc v0 s).mtr = s.mtr := by
  simp only [queueCasc] <;>
    repeat' first | simp only [↓mk_mtr, ↓drainCasc_mtr] | split | rfl

@[simp] theorem queueCasc_fresh (v0 s) : (queueCasc v0 s).fresh = s.fresh := by
  simp only [queueCasc] <;>
    repeat' first | simp only [↓mk_fresh, ↓drainCasc_fresh] | split | rfl

@[simp] theorem sendCascOf_pending (v0 v1 v2 v3 s) : (sendCascOf v0 v1 v2 v3 s).pending = s.pending := by
  simp only [sendCascOf] <;>
    repeat' first | simp only [↓mk_pending, ↓queueCasc_pending] | with_reducible refine (pending_foldl _ (fun s x => ?_) _ _).trans ?_ | split | rfl

@[simp] theorem sendCascOf_time (v0 v1 v2 v3 s) : (sendCascOf v0 v1 v2 v3 s).time = s.time := by
  simp only [sendCascOf] <;>
    repeat' first | simp only [↓mk_time, ↓queueCasc_time] | with_reducible refine (time_foldl _ (fun s x => ?_) _ _).trans ?_ | split | rfl

@[simp] theorem sendCascOf_grid (v0 v1 v2 v3 s) : (sendCascOf v0 v1 v2 v3 s).grid = s.grid := by
  simp only [sendCascOf] <;>
    repeat' first | simp only [↓mk_grid, ↓queueCasc_grid] | with_reducible refine (grid_foldl _ (fun s x => ?_) _ _).trans ?_ | split | rfl

@[simp] theorem sendCascOf_cfg (v0 v1 v2 v3 s) : (sendCascOf v0 v1 v2 v3 s).cfg = s.cfg := by
  simp only [sendCascOf] <;>
    repeat' first | simp only [↓mk_cfg, ↓queueCasc_cfg] | with_reducible refine (cfg_foldl _ (fun s x => ?_) _ _).trans ?_ | split | rfl

@[simp] theorem sendCascOf_host (v0 v1 v2 v3 s) : (sendCascOf v0 v1 v2 v3 s).host = s.host := by
  simp only [sendCascOf] <;>
    repeat' first | simp only [↓mk_host, ↓queueCasc_host] | with_reducible refine (host_foldl _ (fun s x => ?_) _ _).trans ?_ | split | rfl

@[simp] theorem sendCascOf_evt (v0 v1 v2 v3 s) : (sendCascOf v0 v1 v2 v3 s).evt = s.evt := by
  simp only [sendCascOf] <;>
    repeat' first | simp only [↓mk_evt, ↓queueCasc_evt] | with_reducible refine (evt_foldl _ (fun s x => ?_) _ _).trans ?_ | split | rfl

@[simp] theorem sendCascOf_pwr (v0 v1 v2 v3 s) : (sendCascOf v0 v1 v2 v3 s).pwr = s.pwr := by
  simp only [sendCascOf] <;>
    repeat' first | simp only [↓mk_pwr, ↓queueCasc_pwr] | with_reducible refine (pwr_foldl _ (fun s x => ?_) _ _).trans ?_ | split | rfl

@[simp] theorem sendCascOf_sig (v0 v1 v2 v3 s) : (sendCascOf v0 v1 v2 v3 s).sig = s.sig := by
  simp only [sendCascOf] <;>
    repeat' first | simp only [↓mk_sig, ↓queueCasc_sig] | with_reducible refine (sig_foldl _ (fun s x => ?_) _ _).trans ?_ | split | rfl

@[simp] theorem sendCascOf_gnss (v0 v1 v2 v3 s) : (sendCascOf v0 v1 v2 v3 s).gnss = s.gnss := by
  simp only [sendCascOf] <;>
    repeat' first | simp only [↓mk_gnss, ↓queueCasc_gnss] | with_reducible refine (gnss_foldl _ (fun s x => ?_) _ _).trans ?_ | split | rfl

@[simp] theorem sendCascOf_acq (v0 v1 v2 v3 s) : (sendCascOf v0 v1 v2 v3 s).acq = s.acq := by
  simp only [sendCascOf] <;>
    repeat' first | simp only [↓mk_acq, ↓queueCasc_acq] | with_reducible refine (acq_foldl _ (fun s x => ?_) _ _).trans ?_ | split | rfl

@[simp] theorem sendCascOf_bus (v0 v1 v2 v3 s) : (sendCascOf v0 v1 v2 v3 s).bus = s.bus := by
  simp only [sendCascOf] <;>
    repeat' first | simp only [↓mk_bus, ↓queueCasc_bus] | with_reducible refine (bus_foldl _ (fun s x => ?_) _ _).trans ?_ | split | rfl

@[simp] theorem sendCascOf_fus (v0 v1 v2 v3 s) : (sendCascOf v0 v1 v2 v3 s).fus = s.fus := by
  simp only [sendCascOf] <;>
    repeat' first | simp only [↓mk_fus, ↓queueCasc_fus] | with_reducible refine (fus_foldl _ (fun s x => ?_) _ _).trans ?_ | split | rfl

@[simp] theorem sendCascOf_obs (v0 v1 v2 v3 s) : (sendCascOf v0 v1 v2 v3 s).obs = s.obs := by
  simp only [sendCascOf] <;>
    repeat' first | simp only [↓mk_obs, ↓queueCasc_obs] | with_reducible refine (obs_foldl _ (fun s x => ?_) _ _).trans ?_ | split | rfl

@[simp] theorem sendCascOf_slv (v0 v1 v2 v3 s) : (sendCascOf v0 v1 v2 v3 s).slv = s.slv := by
  simp only [sendCascOf] <;>
    repeat' first | simp only [↓mk_slv, ↓queueCasc_slv] | with_reducible refine (slv_foldl _ (fun s x => ?_) _ _).trans ?_ | split | rfl

@[simp] theorem sendCascOf_ctl (v0 v1 v2 v3 s) : (sendCascOf v0 v1 v2 v3 s).ctl = s.ctl := by
  simp only [sendCascOf] <;>
    repeat' first | simp only [↓mk_ctl, ↓queueCasc_ctl] | with_reducible refine (ctl_foldl _ (fun s x => ?_) _ _).trans ?_ | split | rfl

@[simp] theorem sendCascOf_thr (v0 v1 v2 v3 s) : (sendCascOf v0 v1 v2 v3 s).thr = s.thr := by
  simp only [sendCascOf] <;>
    repeat' first | simp only [↓mk_thr, ↓queueCasc_thr] | with_reducible refine (thr_foldl _ (fun s x => ?_) _ _).trans ?_ | split | rfl

@[simp] theorem sendCascOf_sch (v0 v1 v2 v3 s) : (sendCascOf v0 v1 v2 v3 s).sch = s.sch := by
  simp only [sendCascOf] <;>
    repeat' first | simp only [↓mk_sch, ↓queueCasc_sch] | with_reducible refine (sch_foldl _ (fun s x => ?_) _ _).trans ?_ | split | rfl

@[simp] theorem sendCascOf_saf (v0 v1 v2 v3 s) : (sendCascOf v0 v1 v2 v3 s).saf = s.saf := by
  simp only [sendCascOf] <;>
    repeat' first | simp only [↓mk_saf, ↓queueCasc_saf] | with_reducible refine (saf_foldl _ (fun s x => ?_) _ _).trans ?_ | split | rfl

@[simp] theorem sendCascOf_mtr (v0 v1 v2 v3 s) : (sendCascOf v0 v1 v2 v3 s).mtr = s.mtr := by
  simp only [sendCascOf] <;>
    repeat' first | simp only [↓mk_mtr, ↓queueCasc_mtr] | with_reducible refine (mtr_foldl _ (fun s x => ?_) _ _).trans ?_ | split | rfl

@[simp] theorem sendCascOf_fresh (v0 v1 v2 v3 s) : (sendCascOf v0 v1 v2 v3 s).fresh = s.fresh := by
  simp only [sendCascOf] <;>
    repeat' first | simp only [↓mk_fresh, ↓queueCasc_fresh] | with_reducible refine (fresh_foldl _ (fun s x => ?_) _ _).trans ?_ | split | rfl

@[simp] theorem sendCasc_pending (v0 v1 v2 s) : (sendCasc v0 v1 v2 s).pending = s.pending := by
  simp only [sendCasc] <;>
    repeat' first | simp only [↓mk_pending, ↓sendCascOf_pending] | split | rfl

@[simp] theorem sendCasc_time (v0 v1 v2 s) : (sendCasc v0 v1 v2 s).time = s.time := by
  simp only [sendCasc] <;>
    repeat' first | simp only [↓mk_time, ↓sendCascOf_time] | split | rfl

@[simp] theorem sendCasc_grid (v0 v1 v2 s) : (sendCasc v0 v1 v2 s).grid = s.grid := by
  simp only [sendCasc] <;>
    repeat' first | simp only [↓mk_grid, ↓sendCascOf_grid] | split | rfl

@[simp] theorem sendCasc_cfg (v0 v1 v2 s) : (sendCasc v0 v1 v2 s).cfg = s.cfg := by
  simp only [sendCasc] <;>
    repeat' first | simp only [↓mk_cfg, ↓sendCascOf_cfg] | split | rfl

@[simp] theorem sendCasc_host (v0 v1 v2 s) : (sendCasc v0 v1 v2 s).host = s.host := by
  simp only [sendCasc] <;>
    repeat' first | simp only [↓mk_host, ↓sendCascOf_host] | split | rfl

@[simp] theorem sendCasc_evt (v0 v1 v2 s) : (sendCasc v0 v1 v2 s).evt = s.evt := by
  simp only [sendCasc] <;>
    repeat' first | simp only [↓mk_evt, ↓sendCascOf_evt] | split | rfl

@[simp] theorem sendCasc_pwr (v0 v1 v2 s) : (sendCasc v0 v1 v2 s).pwr = s.pwr := by
  simp only [sendCasc] <;>
    repeat' first | simp only [↓mk_pwr, ↓sendCascOf_pwr] | split | rfl

@[simp] theorem sendCasc_sig (v0 v1 v2 s) : (sendCasc v0 v1 v2 s).sig = s.sig := by
  simp only [sendCasc] <;>
    repeat' first | simp only [↓mk_sig, ↓sendCascOf_sig] | split | rfl

@[simp] theorem sendCasc_gnss (v0 v1 v2 s) : (sendCasc v0 v1 v2 s).gnss = s.gnss := by
  simp only [sendCasc] <;>
    repeat' first | simp only [↓mk_gnss, ↓sendCascOf_gnss] | split | rfl

@[simp] theorem sendCasc_acq (v0 v1 v2 s) : (sendCasc v0 v1 v2 s).acq = s.acq := by
  simp only [sendCasc] <;>
    repeat' first | simp only [↓mk_acq, ↓sendCascOf_acq] | split | rfl

@[simp] theorem sendCasc_bus (v0 v1 v2 s) : (sendCasc v0 v1 v2 s).bus = s.bus := by
  simp only [sendCasc] <;>
    repeat' first | simp only [↓mk_bus, ↓sendCascOf_bus] | split | rfl

@[simp] theorem sendCasc_fus (v0 v1 v2 s) : (sendCasc v0 v1 v2 s).fus = s.fus := by
  simp only [sendCasc] <;>
    repeat' first | simp only [↓mk_fus, ↓sendCascOf_fus] | split | rfl

@[simp] theorem sendCasc_obs (v0 v1 v2 s) : (sendCasc v0 v1 v2 s).obs = s.obs := by
  simp only [sendCasc] <;>
    repeat' first | simp only [↓mk_obs, ↓sendCascOf_obs] | split | rfl

@[simp] theorem sendCasc_slv (v0 v1 v2 s) : (sendCasc v0 v1 v2 s).slv = s.slv := by
  simp only [sendCasc] <;>
    repeat' first | simp only [↓mk_slv, ↓sendCascOf_slv] | split | rfl

@[simp] theorem sendCasc_ctl (v0 v1 v2 s) : (sendCasc v0 v1 v2 s).ctl = s.ctl := by
  simp only [sendCasc] <;>
    repeat' first | simp only [↓mk_ctl, ↓sendCascOf_ctl] | split | rfl

@[simp] theorem sendCasc_thr (v0 v1 v2 s) : (sendCasc v0 v1 v2 s).thr = s.thr := by
  simp only [sendCasc] <;>
    repeat' first | simp only [↓mk_thr, ↓sendCascOf_thr] | split | rfl

@[simp] theorem sendCasc_sch (v0 v1 v2 s) : (sendCasc v0 v1 v2 s).sch = s.sch := by
  simp only [sendCasc] <;>
    repeat' first | simp only [↓mk_sch, ↓sendCascOf_sch] | split | rfl

@[simp] theorem sendCasc_saf (v0 v1 v2 s) : (sendCasc v0 v1 v2 s).saf = s.saf := by
  simp only [sendCasc] <;>
    repeat' first | simp only [↓mk_saf, ↓sendCascOf_saf] | split | rfl

@[simp] theorem sendCasc_mtr (v0 v1 v2 s) : (sendCasc v0 v1 v2 s).mtr = s.mtr := by
  simp only [sendCasc] <;>
    repeat' first | simp only [↓mk_mtr, ↓sendCascOf_mtr] | split | rfl

@[simp] theorem sendCasc_fresh (v0 v1 v2 s) : (sendCasc v0 v1 v2 s).fresh = s.fresh := by
  simp only [sendCasc] <;>
    repeat' first | simp only [↓mk_fresh, ↓sendCascOf_fresh] | split | rfl

@[simp] theorem phaseOn_pending (v0 s) : (phaseOn v0 s).pending = s.pending := by
  simp only [phaseOn] <;>
    repeat' first | simp only [↓mk_pending] | split | rfl

@[simp] theorem phaseOn_time (v0 s) : (phaseOn v0 s).time = s.time := by
  simp only [phaseOn] <;>
    repeat' first | simp only [↓mk_time] | split | rfl

@[simp] theorem phaseOn_grid (v0 s) : (phaseOn v0 s).grid = s.grid := by
  simp only [phaseOn] <;>
    repeat' first | simp only [↓mk_grid] | split | rfl

@[simp] theorem phaseOn_cfg (v0 s) : (phaseOn v0 s).cfg = s.cfg := by
  simp only [phaseOn] <;>
    repeat' first | simp only [↓mk_cfg] | split | rfl

@[simp] theorem phaseOn_host (v0 s) : (phaseOn v0 s).host = s.host := by
  simp only [phaseOn] <;>
    repeat' first | simp only [↓mk_host] | split | rfl

@[simp] theorem phaseOn_evt (v0 s) : (phaseOn v0 s).evt = s.evt := by
  simp only [phaseOn] <;>
    repeat' first | simp only [↓mk_evt] | split | rfl

@[simp] theorem phaseOn_pwr (v0 s) : (phaseOn v0 s).pwr = s.pwr := by
  simp only [phaseOn] <;>
    repeat' first | simp only [↓mk_pwr] | split | rfl

@[simp] theorem phaseOn_sig (v0 s) : (phaseOn v0 s).sig = s.sig := by
  simp only [phaseOn] <;>
    repeat' first | simp only [↓mk_sig] | split | rfl

@[simp] theorem phaseOn_gnss (v0 s) : (phaseOn v0 s).gnss = s.gnss := by
  simp only [phaseOn] <;>
    repeat' first | simp only [↓mk_gnss] | split | rfl

@[simp] theorem phaseOn_bus (v0 s) : (phaseOn v0 s).bus = s.bus := by
  simp only [phaseOn] <;>
    repeat' first | simp only [↓mk_bus] | split | rfl

@[simp] theorem phaseOn_fus (v0 s) : (phaseOn v0 s).fus = s.fus := by
  simp only [phaseOn] <;>
    repeat' first | simp only [↓mk_fus] | split | rfl

@[simp] theorem phaseOn_obs (v0 s) : (phaseOn v0 s).obs = s.obs := by
  simp only [phaseOn] <;>
    repeat' first | simp only [↓mk_obs] | split | rfl

@[simp] theorem phaseOn_slv (v0 s) : (phaseOn v0 s).slv = s.slv := by
  simp only [phaseOn] <;>
    repeat' first | simp only [↓mk_slv] | split | rfl

@[simp] theorem phaseOn_ctl (v0 s) : (phaseOn v0 s).ctl = s.ctl := by
  simp only [phaseOn] <;>
    repeat' first | simp only [↓mk_ctl] | split | rfl

@[simp] theorem phaseOn_thr (v0 s) : (phaseOn v0 s).thr = s.thr := by
  simp only [phaseOn] <;>
    repeat' first | simp only [↓mk_thr] | split | rfl

@[simp] theorem phaseOn_sch (v0 s) : (phaseOn v0 s).sch = s.sch := by
  simp only [phaseOn] <;>
    repeat' first | simp only [↓mk_sch] | split | rfl

@[simp] theorem phaseOn_grp (v0 s) : (phaseOn v0 s).grp = s.grp := by
  simp only [phaseOn] <;>
    repeat' first | simp only [↓mk_grp] | split | rfl

@[simp] theorem phaseOn_saf (v0 s) : (phaseOn v0 s).saf = s.saf := by
  simp only [phaseOn] <;>
    repeat' first | simp only [↓mk_saf] | split | rfl

@[simp] theorem phaseOn_mtr (v0 s) : (phaseOn v0 s).mtr = s.mtr := by
  simp only [phaseOn] <;>
    repeat' first | simp only [↓mk_mtr] | split | rfl

@[simp] theorem phaseOn_out (v0 s) : (phaseOn v0 s).out = s.out := by
  simp only [phaseOn] <;>
    repeat' first | simp only [↓mk_out] | split | rfl

@[simp] theorem phaseOn_fresh (v0 s) : (phaseOn v0 s).fresh = s.fresh := by
  simp only [phaseOn] <;>
    repeat' first | simp only [↓mk_fresh] | split | rfl

@[simp] theorem phaseNow_pending (s) : (phaseNow s).pending = s.pending := by
  simp only [phaseNow] <;>
    repeat' first | simp only [↓mk_pending, ↓phaseOn_pending] | split | rfl

@[simp] theorem phaseNow_time (s) : (phaseNow s).time = s.time := by
  simp only [phaseNow] <;>
    repeat' first | simp only [↓mk_time, ↓phaseOn_time] | split | rfl

@[simp] theorem phaseNow_grid (s) : (phaseNow s).grid = s.grid := by
  simp only [phaseNow] <;>
    repeat' first | simp only [↓mk_grid, ↓phaseOn_grid] | split | rfl

@[simp] theorem phaseNow_cfg (s) : (phaseNow s).cfg = s.cfg := by
  simp only [phaseNow] <;>
    repeat' first | simp only [↓mk_cfg, ↓phaseOn_cfg] | split | rfl

@[simp] theorem phaseNow_host (s) : (phaseNow s).host = s.host := by
  simp only [phaseNow] <;>
    repeat' first | simp only [↓mk_host, ↓phaseOn_host] | split | rfl

@[simp] theorem phaseNow_evt (s) : (phaseNow s).evt = s.evt := by
  simp only [phaseNow] <;>
    repeat' first | simp only [↓mk_evt, ↓phaseOn_evt] | split | rfl

@[simp] theorem phaseNow_pwr (s) : (phaseNow s).pwr = s.pwr := by
  simp only [phaseNow] <;>
    repeat' first | simp only [↓mk_pwr, ↓phaseOn_pwr] | split | rfl

@[simp] theorem phaseNow_sig (s) : (phaseNow s).sig = s.sig := by
  simp only [phaseNow] <;>
    repeat' first | simp only [↓mk_sig, ↓phaseOn_sig] | split | rfl

@[simp] theorem phaseNow_gnss (s) : (phaseNow s).gnss = s.gnss := by
  simp only [phaseNow] <;>
    repeat' first | simp only [↓mk_gnss, ↓phaseOn_gnss] | split | rfl

@[simp] theorem phaseNow_bus (s) : (phaseNow s).bus = s.bus := by
  simp only [phaseNow] <;>
    repeat' first | simp only [↓mk_bus, ↓phaseOn_bus] | split | rfl

@[simp] theorem phaseNow_fus (s) : (phaseNow s).fus = s.fus := by
  simp only [phaseNow] <;>
    repeat' first | simp only [↓mk_fus, ↓phaseOn_fus] | split | rfl

@[simp] theorem phaseNow_obs (s) : (phaseNow s).obs = s.obs := by
  simp only [phaseNow] <;>
    repeat' first | simp only [↓mk_obs, ↓phaseOn_obs] | split | rfl

@[simp] theorem phaseNow_slv (s) : (phaseNow s).slv = s.slv := by
  simp only [phaseNow] <;>
    repeat' first | simp only [↓mk_slv, ↓phaseOn_slv] | split | rfl

@[simp] theorem phaseNow_ctl (s) : (phaseNow s).ctl = s.ctl := by
  simp only [phaseNow] <;>
    repeat' first | simp only [↓mk_ctl, ↓phaseOn_ctl] | split | rfl

@[simp] theorem phaseNow_thr (s) : (phaseNow s).thr = s.thr := by
  simp only [phaseNow] <;>
    repeat' first | simp only [↓mk_thr, ↓phaseOn_thr] | split | rfl

@[simp] theorem phaseNow_sch (s) : (phaseNow s).sch = s.sch := by
  simp only [phaseNow] <;>
    repeat' first | simp only [↓mk_sch, ↓phaseOn_sch] | split | rfl

@[simp] theorem phaseNow_grp (s) : (phaseNow s).grp = s.grp := by
  simp only [phaseNow] <;>
    repeat' first | simp only [↓mk_grp, ↓phaseOn_grp] | split | rfl

@[simp] theorem phaseNow_saf (s) : (phaseNow s).saf = s.saf := by
  simp only [phaseNow] <;>
    repeat' first | simp only [↓mk_saf, ↓phaseOn_saf] | split | rfl

@[simp] theorem phaseNow_mtr (s) : (phaseNow s).mtr = s.mtr := by
  simp only [phaseNow] <;>
    repeat' first | simp only [↓mk_mtr, ↓phaseOn_mtr] | split | rfl

@[simp] theorem phaseNow_out (s) : (phaseNow s).out = s.out := by
  simp only [phaseNow] <;>
    repeat' first | simp only [↓mk_out, ↓phaseOn_out] | split | rfl

@[simp] theorem phaseNow_fresh (s) : (phaseNow s).fresh = s.fresh := by
  simp only [phaseNow] <;>
    repeat' first | simp only [↓mk_fresh, ↓phaseOn_fresh] | split | rfl

@[simp] theorem setRate_pending (v0 s) : (setRate v0 s).pending = s.pending := by
  simp only [setRate] <;>
    repeat' first | simp only [↓mk_pending] | split | rfl

@[simp] theorem setRate_grid (v0 s) : (setRate v0 s).grid = s.grid := by
  simp only [setRate] <;>
    repeat' first | simp only [↓mk_grid] | split | rfl

@[simp] theorem setRate_cfg (v0 s) : (setRate v0 s).cfg = s.cfg := by
  simp only [setRate] <;>
    repeat' first | simp only [↓mk_cfg] | split | rfl

@[simp] theorem setRate_host (v0 s) : (setRate v0 s).host = s.host := by
  simp only [setRate] <;>
    repeat' first | simp only [↓mk_host] | split | rfl

@[simp] theorem setRate_evt (v0 s) : (setRate v0 s).evt = s.evt := by
  simp only [setRate] <;>
    repeat' first | simp only [↓mk_evt] | split | rfl

@[simp] theorem setRate_pwr (v0 s) : (setRate v0 s).pwr = s.pwr := by
  simp only [setRate] <;>
    repeat' first | simp only [↓mk_pwr] | split | rfl

@[simp] theorem setRate_sig (v0 s) : (setRate v0 s).sig = s.sig := by
  simp only [setRate] <;>
    repeat' first | simp only [↓mk_sig] | split | rfl

@[simp] theorem setRate_gnss (v0 s) : (setRate v0 s).gnss = s.gnss := by
  simp only [setRate] <;>
    repeat' first | simp only [↓mk_gnss] | split | rfl

@[simp] theorem setRate_acq (v0 s) : (setRate v0 s).acq = s.acq := by
  simp only [setRate] <;>
    repeat' first | simp only [↓mk_acq] | split | rfl

@[simp] theorem setRate_bus (v0 s) : (setRate v0 s).bus = s.bus := by
  simp only [setRate] <;>
    repeat' first | simp only [↓mk_bus] | split | rfl

@[simp] theorem setRate_fus (v0 s) : (setRate v0 s).fus = s.fus := by
  simp only [setRate] <;>
    repeat' first | simp only [↓mk_fus] | split | rfl

@[simp] theorem setRate_obs (v0 s) : (setRate v0 s).obs = s.obs := by
  simp only [setRate] <;>
    repeat' first | simp only [↓mk_obs] | split | rfl

@[simp] theorem setRate_slv (v0 s) : (setRate v0 s).slv = s.slv := by
  simp only [setRate] <;>
    repeat' first | simp only [↓mk_slv] | split | rfl

@[simp] theorem setRate_ctl (v0 s) : (setRate v0 s).ctl = s.ctl := by
  simp only [setRate] <;>
    repeat' first | simp only [↓mk_ctl] | split | rfl

@[simp] theorem setRate_thr (v0 s) : (setRate v0 s).thr = s.thr := by
  simp only [setRate] <;>
    repeat' first | simp only [↓mk_thr] | split | rfl

@[simp] theorem setRate_sch (v0 s) : (setRate v0 s).sch = s.sch := by
  simp only [setRate] <;>
    repeat' first | simp only [↓mk_sch] | split | rfl

@[simp] theorem setRate_grp (v0 s) : (setRate v0 s).grp = s.grp := by
  simp only [setRate] <;>
    repeat' first | simp only [↓mk_grp] | split | rfl

@[simp] theorem setRate_saf (v0 s) : (setRate v0 s).saf = s.saf := by
  simp only [setRate] <;>
    repeat' first | simp only [↓mk_saf] | split | rfl

@[simp] theorem setRate_mtr (v0 s) : (setRate v0 s).mtr = s.mtr := by
  simp only [setRate] <;>
    repeat' first | simp only [↓mk_mtr] | split | rfl

@[simp] theorem setRate_out (v0 s) : (setRate v0 s).out = s.out := by
  simp only [setRate] <;>
    repeat' first | simp only [↓mk_out] | split | rfl

@[simp] theorem setRate_fresh (v0 s) : (setRate v0 s).fresh = s.fresh := by
  simp only [setRate] <;>
    repeat' first | simp only [↓mk_fresh] | split | rfl

@[simp] theorem writeRate_pending (v0 s) : (writeRate v0 s).pending = s.pending := by
  simp only [writeRate] <;>
    repeat' first | simp only [↓mk_pending, ↓setRate_pending, ↓phaseNow_pending] | split | rfl

@[simp] theorem writeRate_grid (v0 s) : (writeRate v0 s).grid = s.grid := by
  simp only [writeRate] <;>
    repeat' first | simp only [↓mk_grid, ↓setRate_grid, ↓phaseNow_grid] | split | rfl

@[simp] theorem writeRate_cfg (v0 s) : (writeRate v0 s).cfg = s.cfg := by
  simp only [writeRate] <;>
    repeat' first | simp only [↓mk_cfg, ↓setRate_cfg, ↓phaseNow_cfg] | split | rfl

@[simp] theorem writeRate_host (v0 s) : (writeRate v0 s).host = s.host := by
  simp only [writeRate] <;>
    repeat' first | simp only [↓mk_host, ↓setRate_host, ↓phaseNow_host] | split | rfl

@[simp] theorem writeRate_evt (v0 s) : (writeRate v0 s).evt = s.evt := by
  simp only [writeRate] <;>
    repeat' first | simp only [↓mk_evt, ↓setRate_evt, ↓phaseNow_evt] | split | rfl

@[simp] theorem writeRate_pwr (v0 s) : (writeRate v0 s).pwr = s.pwr := by
  simp only [writeRate] <;>
    repeat' first | simp only [↓mk_pwr, ↓setRate_pwr, ↓phaseNow_pwr] | split | rfl

@[simp] theorem writeRate_sig (v0 s) : (writeRate v0 s).sig = s.sig := by
  simp only [writeRate] <;>
    repeat' first | simp only [↓mk_sig, ↓setRate_sig, ↓phaseNow_sig] | split | rfl

@[simp] theorem writeRate_gnss (v0 s) : (writeRate v0 s).gnss = s.gnss := by
  simp only [writeRate] <;>
    repeat' first | simp only [↓mk_gnss, ↓setRate_gnss, ↓phaseNow_gnss] | split | rfl

@[simp] theorem writeRate_bus (v0 s) : (writeRate v0 s).bus = s.bus := by
  simp only [writeRate] <;>
    repeat' first | simp only [↓mk_bus, ↓setRate_bus, ↓phaseNow_bus] | split | rfl

@[simp] theorem writeRate_fus (v0 s) : (writeRate v0 s).fus = s.fus := by
  simp only [writeRate] <;>
    repeat' first | simp only [↓mk_fus, ↓setRate_fus, ↓phaseNow_fus] | split | rfl

@[simp] theorem writeRate_obs (v0 s) : (writeRate v0 s).obs = s.obs := by
  simp only [writeRate] <;>
    repeat' first | simp only [↓mk_obs, ↓setRate_obs, ↓phaseNow_obs] | split | rfl

@[simp] theorem writeRate_slv (v0 s) : (writeRate v0 s).slv = s.slv := by
  simp only [writeRate] <;>
    repeat' first | simp only [↓mk_slv, ↓setRate_slv, ↓phaseNow_slv] | split | rfl

@[simp] theorem writeRate_ctl (v0 s) : (writeRate v0 s).ctl = s.ctl := by
  simp only [writeRate] <;>
    repeat' first | simp only [↓mk_ctl, ↓setRate_ctl, ↓phaseNow_ctl] | split | rfl

@[simp] theorem writeRate_thr (v0 s) : (writeRate v0 s).thr = s.thr := by
  simp only [writeRate] <;>
    repeat' first | simp only [↓mk_thr, ↓setRate_thr, ↓phaseNow_thr] | split | rfl

@[simp] theorem writeRate_sch (v0 s) : (writeRate v0 s).sch = s.sch := by
  simp only [writeRate] <;>
    repeat' first | simp only [↓mk_sch, ↓setRate_sch, ↓phaseNow_sch] | split | rfl

@[simp] theorem writeRate_grp (v0 s) : (writeRate v0 s).grp = s.grp := by
  simp only [writeRate] <;>
    repeat' first | simp only [↓mk_grp, ↓setRate_grp, ↓phaseNow_grp] | split | rfl

@[simp] theorem writeRate_saf (v0 s) : (writeRate v0 s).saf = s.saf := by
  simp only [writeRate] <;>
    repeat' first | simp only [↓mk_saf, ↓setRate_saf, ↓phaseNow_saf] | split | rfl

@[simp] theorem writeRate_mtr (v0 s) : (writeRate v0 s).mtr = s.mtr := by
  simp only [writeRate] <;>
    repeat' first | simp only [↓mk_mtr, ↓setRate_mtr, ↓phaseNow_mtr] | split | rfl

@[simp] theorem writeRate_out (v0 s) : (writeRate v0 s).out = s.out := by
  simp only [writeRate] <;>
    repeat' first | simp only [↓mk_out, ↓setRate_out, ↓phaseNow_out] | split | rfl

@[simp] theorem writeRate_fresh (v0 s) : (writeRate v0 s).fresh = s.fresh := by
  simp only [writeRate] <;>
    repeat' first | simp only [↓mk_fresh, ↓setRate_fresh, ↓phaseNow_fresh] | split | rfl

@[simp] theorem passTicks_pending (v0 s) : (passTicks v0 s).pending = s.pending := by
  simp only [passTicks] <;>
    repeat' first | simp only [↓mk_pending] | split | rfl

@[simp] theorem passTicks_grid (v0 s) : (passTicks v0 s).grid = s.grid := by
  simp only [passTicks] <;>
    repeat' first | simp only [↓mk_grid] | split | rfl

@[simp] theorem passTicks_cfg (v0 s) : (passTicks v0 s).cfg = s.cfg := by
  simp only [passTicks] <;>
    repeat' first | simp only [↓mk_cfg] | split | rfl

@[simp] theorem passTicks_host (v0 s) : (passTicks v0 s).host = s.host := by
  simp only [passTicks] <;>
    repeat' first | simp only [↓mk_host] | split | rfl

@[simp] theorem passTicks_pwr (v0 s) : (passTicks v0 s).pwr = s.pwr := by
  simp only [passTicks] <;>
    repeat' first | simp only [↓mk_pwr] | split | rfl

@[simp] theorem passTicks_sig (v0 s) : (passTicks v0 s).sig = s.sig := by
  simp only [passTicks] <;>
    repeat' first | simp only [↓mk_sig] | split | rfl

@[simp] theorem passTicks_gnss (v0 s) : (passTicks v0 s).gnss = s.gnss := by
  simp only [passTicks] <;>
    repeat' first | simp only [↓mk_gnss] | split | rfl

@[simp] theorem passTicks_acq (v0 s) : (passTicks v0 s).acq = s.acq := by
  simp only [passTicks] <;>
    repeat' first | simp only [↓mk_acq] | split | rfl

@[simp] theorem passTicks_bus (v0 s) : (passTicks v0 s).bus = s.bus := by
  simp only [passTicks] <;>
    repeat' first | simp only [↓mk_bus] | split | rfl

@[simp] theorem passTicks_fus (v0 s) : (passTicks v0 s).fus = s.fus := by
  simp only [passTicks] <;>
    repeat' first | simp only [↓mk_fus] | split | rfl

@[simp] theorem passTicks_obs (v0 s) : (passTicks v0 s).obs = s.obs := by
  simp only [passTicks] <;>
    repeat' first | simp only [↓mk_obs] | split | rfl

@[simp] theorem passTicks_slv (v0 s) : (passTicks v0 s).slv = s.slv := by
  simp only [passTicks] <;>
    repeat' first | simp only [↓mk_slv] | split | rfl

@[simp] theorem passTicks_ctl (v0 s) : (passTicks v0 s).ctl = s.ctl := by
  simp only [passTicks] <;>
    repeat' first | simp only [↓mk_ctl] | split | rfl

@[simp] theorem passTicks_thr (v0 s) : (passTicks v0 s).thr = s.thr := by
  simp only [passTicks] <;>
    repeat' first | simp only [↓mk_thr] | split | rfl

@[simp] theorem passTicks_sch (v0 s) : (passTicks v0 s).sch = s.sch := by
  simp only [passTicks] <;>
    repeat' first | simp only [↓mk_sch] | split | rfl

@[simp] theorem passTicks_grp (v0 s) : (passTicks v0 s).grp = s.grp := by
  simp only [passTicks] <;>
    repeat' first | simp only [↓mk_grp] | split | rfl

@[simp] theorem passTicks_saf (v0 s) : (passTicks v0 s).saf = s.saf := by
  simp only [passTicks] <;>
    repeat' first | simp only [↓mk_saf] | split | rfl

@[simp] theorem passTicks_mtr (v0 s) : (passTicks v0 s).mtr = s.mtr := by
  simp only [passTicks] <;>
    repeat' first | simp only [↓mk_mtr] | split | rfl

@[simp] theorem passTicks_out (v0 s) : (passTicks v0 s).out = s.out := by
  simp only [passTicks] <;>
    repeat' first | simp only [↓mk_out] | split | rfl

@[simp] theorem passTicks_fresh (v0 s) : (passTicks v0 s).fresh = s.fresh := by
  simp only [passTicks] <;>
    repeat' first | simp only [↓mk_fresh] | split | rfl

@[simp] theorem countTo_pending (v0 s) : (countTo v0 s).pending = s.pending := by
  simp only [countTo] <;>
    repeat' first | simp only [↓mk_pending, ↓passTicks_pending] | split | rfl

@[simp] theorem countTo_grid (v0 s) : (countTo v0 s).grid = s.grid := by
  simp only [countTo] <;>
    repeat' first | simp only [↓mk_grid, ↓passTicks_grid] | split | rfl

@[simp] theorem countTo_cfg (v0 s) : (countTo v0 s).cfg = s.cfg := by
  simp only [countTo] <;>
    repeat' first | simp only [↓mk_cfg, ↓passTicks_cfg] | split | rfl

@[simp] theorem countTo_host (v0 s) : (countTo v0 s).host = s.host := by
  simp only [countTo] <;>
    repeat' first | simp only [↓mk_host, ↓passTicks_host] | split | rfl

@[simp] theorem countTo_pwr (v0 s) : (countTo v0 s).pwr = s.pwr := by
  simp only [countTo] <;>
    repeat' first | simp only [↓mk_pwr, ↓passTicks_pwr] | split | rfl

@[simp] theorem countTo_sig (v0 s) : (countTo v0 s).sig = s.sig := by
  simp only [countTo] <;>
    repeat' first | simp only [↓mk_sig, ↓passTicks_sig] | split | rfl

@[simp] theorem countTo_gnss (v0 s) : (countTo v0 s).gnss = s.gnss := by
  simp only [countTo] <;>
    repeat' first | simp only [↓mk_gnss, ↓passTicks_gnss] | split | rfl

@[simp] theorem countTo_acq (v0 s) : (countTo v0 s).acq = s.acq := by
  simp only [countTo] <;>
    repeat' first | simp only [↓mk_acq, ↓passTicks_acq] | split | rfl

@[simp] theorem countTo_bus (v0 s) : (countTo v0 s).bus = s.bus := by
  simp only [countTo] <;>
    repeat' first | simp only [↓mk_bus, ↓passTicks_bus] | split | rfl

@[simp] theorem countTo_fus (v0 s) : (countTo v0 s).fus = s.fus := by
  simp only [countTo] <;>
    repeat' first | simp only [↓mk_fus, ↓passTicks_fus] | split | rfl

@[simp] theorem countTo_obs (v0 s) : (countTo v0 s).obs = s.obs := by
  simp only [countTo] <;>
    repeat' first | simp only [↓mk_obs, ↓passTicks_obs] | split | rfl

@[simp] theorem countTo_slv (v0 s) : (countTo v0 s).slv = s.slv := by
  simp only [countTo] <;>
    repeat' first | simp only [↓mk_slv, ↓passTicks_slv] | split | rfl

@[simp] theorem countTo_ctl (v0 s) : (countTo v0 s).ctl = s.ctl := by
  simp only [countTo] <;>
    repeat' first | simp only [↓mk_ctl, ↓passTicks_ctl] | split | rfl

@[simp] theorem countTo_thr (v0 s) : (countTo v0 s).thr = s.thr := by
  simp only [countTo] <;>
    repeat' first | simp only [↓mk_thr, ↓passTicks_thr] | split | rfl

@[simp] theorem countTo_sch (v0 s) : (countTo v0 s).sch = s.sch := by
  simp only [countTo] <;>
    repeat' first | simp only [↓mk_sch, ↓passTicks_sch] | split | rfl

@[simp] theorem countTo_grp (v0 s) : (countTo v0 s).grp = s.grp := by
  simp only [countTo] <;>
    repeat' first | simp only [↓mk_grp, ↓passTicks_grp] | split | rfl

@[simp] theorem countTo_saf (v0 s) : (countTo v0 s).saf = s.saf := by
  simp only [countTo] <;>
    repeat' first | simp only [↓mk_saf, ↓passTicks_saf] | split | rfl

@[simp] theorem countTo_mtr (v0 s) : (countTo v0 s).mtr = s.mtr := by
  simp only [countTo] <;>
    repeat' first | simp only [↓mk_mtr, ↓passTicks_mtr] | split | rfl

@[simp] theorem countTo_out (v0 s) : (countTo v0 s).out = s.out := by
  simp only [countTo] <;>
    repeat' first | simp only [↓mk_out, ↓passTicks_out] | split | rfl

@[simp] theorem countTo_fresh (v0 s) : (countTo v0 s).fresh = s.fresh := by
  simp only [countTo] <;>
    repeat' first | simp only [↓mk_fresh, ↓passTicks_fresh] | split | rfl

@[simp] theorem modSlotM_pending (v0 v1 s) : (modSlotM v0 v1 s).pending = s.pending := by
  simp only [modSlotM] <;>
    repeat' first | simp only [↓mk_pending] | split | rfl

@[simp] theorem modSlotM_time (v0 v1 s) : (modSlotM v0 v1 s).time = s.time := by
  simp only [modSlotM] <;>
    repeat' first | simp only [↓mk_time] | split | rfl

@[simp] theorem modSlotM_grid (v0 v1 s) : (modSlotM v0 v1 s).grid = s.grid := by
  simp only [modSlotM] <;>
    repeat' first | simp only [↓mk_grid] | split | rfl

@[simp] theorem modSlotM_cfg (v0 v1 s) : (modSlotM v0 v1 s).cfg = s.cfg := by
  simp only [modSlotM] <;>
    repeat' first | simp only [↓mk_cfg] | split | rfl

@[simp] theorem modSlotM_host (v0 v1 s) : (modSlotM v0 v1 s).host = s.host := by
  simp only [modSlotM] <;>
    repeat' first | simp only [↓mk_host] | split | rfl

@[simp] theorem modSlotM_evt (v0 v1 s) : (modSlotM v0 v1 s).evt = s.evt := by
  simp only [modSlotM] <;>
    repeat' first | simp only [↓mk_evt] | split | rfl

@[simp] theorem modSlotM_pwr (v0 v1 s) : (modSlotM v0 v1 s).pwr = s.pwr := by
  simp only [modSlotM] <;>
    repeat' first | simp only [↓mk_pwr] | split | rfl

@[simp] theorem modSlotM_sig (v0 v1 s) : (modSlotM v0 v1 s).sig = s.sig := by
  simp only [modSlotM] <;>
    repeat' first | simp only [↓mk_sig] | split | rfl

@[simp] theorem modSlotM_gnss (v0 v1 s) : (modSlotM v0 v1 s).gnss = s.gnss := by
  simp only [modSlotM] <;>
    repeat' first | simp only [↓mk_gnss] | split | rfl

@[simp] theorem modSlotM_acq (v0 v1 s) : (modSlotM v0 v1 s).acq = s.acq := by
  simp only [modSlotM] <;>
    repeat' first | simp only [↓mk_acq] | split | rfl

@[simp] theorem modSlotM_fus (v0 v1 s) : (modSlotM v0 v1 s).fus = s.fus := by
  simp only [modSlotM] <;>
    repeat' first | simp only [↓mk_fus] | split | rfl

@[simp] theorem modSlotM_obs (v0 v1 s) : (modSlotM v0 v1 s).obs = s.obs := by
  simp only [modSlotM] <;>
    repeat' first | simp only [↓mk_obs] | split | rfl

@[simp] theorem modSlotM_slv (v0 v1 s) : (modSlotM v0 v1 s).slv = s.slv := by
  simp only [modSlotM] <;>
    repeat' first | simp only [↓mk_slv] | split | rfl

@[simp] theorem modSlotM_ctl (v0 v1 s) : (modSlotM v0 v1 s).ctl = s.ctl := by
  simp only [modSlotM] <;>
    repeat' first | simp only [↓mk_ctl] | split | rfl

@[simp] theorem modSlotM_thr (v0 v1 s) : (modSlotM v0 v1 s).thr = s.thr := by
  simp only [modSlotM] <;>
    repeat' first | simp only [↓mk_thr] | split | rfl

@[simp] theorem modSlotM_sch (v0 v1 s) : (modSlotM v0 v1 s).sch = s.sch := by
  simp only [modSlotM] <;>
    repeat' first | simp only [↓mk_sch] | split | rfl

@[simp] theorem modSlotM_grp (v0 v1 s) : (modSlotM v0 v1 s).grp = s.grp := by
  simp only [modSlotM] <;>
    repeat' first | simp only [↓mk_grp] | split | rfl

@[simp] theorem modSlotM_saf (v0 v1 s) : (modSlotM v0 v1 s).saf = s.saf := by
  simp only [modSlotM] <;>
    repeat' first | simp only [↓mk_saf] | split | rfl

@[simp] theorem modSlotM_mtr (v0 v1 s) : (modSlotM v0 v1 s).mtr = s.mtr := by
  simp only [modSlotM] <;>
    repeat' first | simp only [↓mk_mtr] | split | rfl

@[simp] theorem modSlotM_out (v0 v1 s) : (modSlotM v0 v1 s).out = s.out := by
  simp only [modSlotM] <;>
    repeat' first | simp only [↓mk_out] | split | rfl

@[simp] theorem modSlotM_fresh (v0 v1 s) : (modSlotM v0 v1 s).fresh = s.fresh := by
  simp only [modSlotM] <;>
    repeat' first | simp only [↓mk_fresh] | split | rfl

@[simp] theorem elapseTo_pending (v0 s) : (elapseTo v0 s).pending = s.pending := by
  simp only [elapseTo] <;>
    repeat' first | simp only [↓mk_pending, ↓passTicks_pending] | split | rfl

@[simp] theorem elapseTo_grid (v0 s) : (elapseTo v0 s).grid = s.grid := by
  simp only [elapseTo] <;>
    repeat' first | simp only [↓mk_grid, ↓passTicks_grid] | split | rfl

@[simp] theorem elapseTo_cfg (v0 s) : (elapseTo v0 s).cfg = s.cfg := by
  simp only [elapseTo] <;>
    repeat' first | simp only [↓mk_cfg, ↓passTicks_cfg] | split | rfl

@[simp] theorem elapseTo_host (v0 s) : (elapseTo v0 s).host = s.host := by
  simp only [elapseTo] <;>
    repeat' first | simp only [↓mk_host, ↓passTicks_host] | split | rfl

@[simp] theorem elapseTo_pwr (v0 s) : (elapseTo v0 s).pwr = s.pwr := by
  simp only [elapseTo] <;>
    repeat' first | simp only [↓mk_pwr, ↓passTicks_pwr] | split | rfl

@[simp] theorem elapseTo_sig (v0 s) : (elapseTo v0 s).sig = s.sig := by
  simp only [elapseTo] <;>
    repeat' first | simp only [↓mk_sig, ↓passTicks_sig] | split | rfl

@[simp] theorem elapseTo_gnss (v0 s) : (elapseTo v0 s).gnss = s.gnss := by
  simp only [elapseTo] <;>
    repeat' first | simp only [↓mk_gnss, ↓passTicks_gnss] | split | rfl

@[simp] theorem elapseTo_acq (v0 s) : (elapseTo v0 s).acq = s.acq := by
  simp only [elapseTo] <;>
    repeat' first | simp only [↓mk_acq, ↓passTicks_acq] | split | rfl

@[simp] theorem elapseTo_bus (v0 s) : (elapseTo v0 s).bus = s.bus := by
  simp only [elapseTo] <;>
    repeat' first | simp only [↓mk_bus, ↓passTicks_bus] | split | rfl

@[simp] theorem elapseTo_fus (v0 s) : (elapseTo v0 s).fus = s.fus := by
  simp only [elapseTo] <;>
    repeat' first | simp only [↓mk_fus, ↓passTicks_fus] | split | rfl

@[simp] theorem elapseTo_obs (v0 s) : (elapseTo v0 s).obs = s.obs := by
  simp only [elapseTo] <;>
    repeat' first | simp only [↓mk_obs, ↓passTicks_obs] | split | rfl

@[simp] theorem elapseTo_slv (v0 s) : (elapseTo v0 s).slv = s.slv := by
  simp only [elapseTo] <;>
    repeat' first | simp only [↓mk_slv, ↓passTicks_slv] | split | rfl

@[simp] theorem elapseTo_ctl (v0 s) : (elapseTo v0 s).ctl = s.ctl := by
  simp only [elapseTo] <;>
    repeat' first | simp only [↓mk_ctl, ↓passTicks_ctl] | split | rfl

@[simp] theorem elapseTo_thr (v0 s) : (elapseTo v0 s).thr = s.thr := by
  simp only [elapseTo] <;>
    repeat' first | simp only [↓mk_thr, ↓passTicks_thr] | split | rfl

@[simp] theorem elapseTo_sch (v0 s) : (elapseTo v0 s).sch = s.sch := by
  simp only [elapseTo] <;>
    repeat' first | simp only [↓mk_sch, ↓passTicks_sch] | split | rfl

@[simp] theorem elapseTo_grp (v0 s) : (elapseTo v0 s).grp = s.grp := by
  simp only [elapseTo] <;>
    repeat' first | simp only [↓mk_grp, ↓passTicks_grp] | split | rfl

@[simp] theorem elapseTo_saf (v0 s) : (elapseTo v0 s).saf = s.saf := by
  simp only [elapseTo] <;>
    repeat' first | simp only [↓mk_saf, ↓passTicks_saf] | split | rfl

@[simp] theorem elapseTo_mtr (v0 s) : (elapseTo v0 s).mtr = s.mtr := by
  simp only [elapseTo] <;>
    repeat' first | simp only [↓mk_mtr, ↓passTicks_mtr] | split | rfl

@[simp] theorem elapseTo_out (v0 s) : (elapseTo v0 s).out = s.out := by
  simp only [elapseTo] <;>
    repeat' first | simp only [↓mk_out, ↓passTicks_out] | split | rfl

@[simp] theorem elapseTo_fresh (v0 s) : (elapseTo v0 s).fresh = s.fresh := by
  simp only [elapseTo] <;>
    repeat' first | simp only [↓mk_fresh, ↓passTicks_fresh] | split | rfl

@[simp] theorem pushEffect_pending (v0 v1 v2 s) : (pushEffect v0 v1 v2 s).pending = s.pending := by
  simp only [pushEffect] <;>
    repeat' first | simp only [↓mk_pending] | split | rfl

@[simp] theorem pushEffect_time (v0 v1 v2 s) : (pushEffect v0 v1 v2 s).time = s.time := by
  simp only [pushEffect] <;>
    repeat' first | simp only [↓mk_time] | split | rfl

@[simp] theorem pushEffect_grid (v0 v1 v2 s) : (pushEffect v0 v1 v2 s).grid = s.grid := by
  simp only [pushEffect] <;>
    repeat' first | simp only [↓mk_grid] | split | rfl

@[simp] theorem pushEffect_cfg (v0 v1 v2 s) : (pushEffect v0 v1 v2 s).cfg = s.cfg := by
  simp only [pushEffect] <;>
    repeat' first | simp only [↓mk_cfg] | split | rfl

@[simp] theorem pushEffect_host (v0 v1 v2 s) : (pushEffect v0 v1 v2 s).host = s.host := by
  simp only [pushEffect] <;>
    repeat' first | simp only [↓mk_host] | split | rfl

@[simp] theorem pushEffect_evt (v0 v1 v2 s) : (pushEffect v0 v1 v2 s).evt = s.evt := by
  simp only [pushEffect] <;>
    repeat' first | simp only [↓mk_evt] | split | rfl

@[simp] theorem pushEffect_pwr (v0 v1 v2 s) : (pushEffect v0 v1 v2 s).pwr = s.pwr := by
  simp only [pushEffect] <;>
    repeat' first | simp only [↓mk_pwr] | split | rfl

@[simp] theorem pushEffect_sig (v0 v1 v2 s) : (pushEffect v0 v1 v2 s).sig = s.sig := by
  simp only [pushEffect] <;>
    repeat' first | simp only [↓mk_sig] | split | rfl

@[simp] theorem pushEffect_gnss (v0 v1 v2 s) : (pushEffect v0 v1 v2 s).gnss = s.gnss := by
  simp only [pushEffect] <;>
    repeat' first | simp only [↓mk_gnss] | split | rfl

@[simp] theorem pushEffect_acq (v0 v1 v2 s) : (pushEffect v0 v1 v2 s).acq = s.acq := by
  simp only [pushEffect] <;>
    repeat' first | simp only [↓mk_acq] | split | rfl

@[simp] theorem pushEffect_bus (v0 v1 v2 s) : (pushEffect v0 v1 v2 s).bus = s.bus := by
  simp only [pushEffect] <;>
    repeat' first | simp only [↓mk_bus] | split | rfl

@[simp] theorem pushEffect_fus (v0 v1 v2 s) : (pushEffect v0 v1 v2 s).fus = s.fus := by
  simp only [pushEffect] <;>
    repeat' first | simp only [↓mk_fus] | split | rfl

@[simp] theorem pushEffect_obs (v0 v1 v2 s) : (pushEffect v0 v1 v2 s).obs = s.obs := by
  simp only [pushEffect] <;>
    repeat' first | simp only [↓mk_obs] | split | rfl

@[simp] theorem pushEffect_slv (v0 v1 v2 s) : (pushEffect v0 v1 v2 s).slv = s.slv := by
  simp only [pushEffect] <;>
    repeat' first | simp only [↓mk_slv] | split | rfl

@[simp] theorem pushEffect_ctl (v0 v1 v2 s) : (pushEffect v0 v1 v2 s).ctl = s.ctl := by
  simp only [pushEffect] <;>
    repeat' first | simp only [↓mk_ctl] | split | rfl

@[simp] theorem pushEffect_thr (v0 v1 v2 s) : (pushEffect v0 v1 v2 s).thr = s.thr := by
  simp only [pushEffect] <;>
    repeat' first | simp only [↓mk_thr] | split | rfl

@[simp] theorem pushEffect_grp (v0 v1 v2 s) : (pushEffect v0 v1 v2 s).grp = s.grp := by
  simp only [pushEffect] <;>
    repeat' first | simp only [↓mk_grp] | split | rfl

@[simp] theorem pushEffect_saf (v0 v1 v2 s) : (pushEffect v0 v1 v2 s).saf = s.saf := by
  simp only [pushEffect] <;>
    repeat' first | simp only [↓mk_saf] | split | rfl

@[simp] theorem pushEffect_mtr (v0 v1 v2 s) : (pushEffect v0 v1 v2 s).mtr = s.mtr := by
  simp only [pushEffect] <;>
    repeat' first | simp only [↓mk_mtr] | split | rfl

@[simp] theorem pushEffect_out (v0 v1 v2 s) : (pushEffect v0 v1 v2 s).out = s.out := by
  simp only [pushEffect] <;>
    repeat' first | simp only [↓mk_out] | split | rfl

@[simp] theorem pushEffect_fresh (v0 v1 v2 s) : (pushEffect v0 v1 v2 s).fresh = s.fresh := by
  simp only [pushEffect] <;>
    repeat' first | simp only [↓mk_fresh] | split | rfl

@[simp] theorem safEvent_pending (v0 v1 s) : (safEvent v0 v1 s).pending = s.pending := by
  simp only [safEvent] <;>
    repeat' first | simp only [↓mk_pending, ↓record_pending] | split | rfl

@[simp] theorem safEvent_time (v0 v1 s) : (safEvent v0 v1 s).time = s.time := by
  simp only [safEvent] <;>
    repeat' first | simp only [↓mk_time, ↓record_time] | split | rfl

@[simp] theorem safEvent_grid (v0 v1 s) : (safEvent v0 v1 s).grid = s.grid := by
  simp only [safEvent] <;>
    repeat' first | simp only [↓mk_grid, ↓record_grid] | split | rfl

@[simp] theorem safEvent_cfg (v0 v1 s) : (safEvent v0 v1 s).cfg = s.cfg := by
  simp only [safEvent] <;>
    repeat' first | simp only [↓mk_cfg, ↓record_cfg] | split | rfl

@[simp] theorem safEvent_host (v0 v1 s) : (safEvent v0 v1 s).host = s.host := by
  simp only [safEvent] <;>
    repeat' first | simp only [↓mk_host, ↓record_host] | split | rfl

@[simp] theorem safEvent_pwr (v0 v1 s) : (safEvent v0 v1 s).pwr = s.pwr := by
  simp only [safEvent] <;>
    repeat' first | simp only [↓mk_pwr, ↓record_pwr] | split | rfl

@[simp] theorem safEvent_sig (v0 v1 s) : (safEvent v0 v1 s).sig = s.sig := by
  simp only [safEvent] <;>
    repeat' first | simp only [↓mk_sig, ↓record_sig] | split | rfl

@[simp] theorem safEvent_gnss (v0 v1 s) : (safEvent v0 v1 s).gnss = s.gnss := by
  simp only [safEvent] <;>
    repeat' first | simp only [↓mk_gnss, ↓record_gnss] | split | rfl

@[simp] theorem safEvent_acq (v0 v1 s) : (safEvent v0 v1 s).acq = s.acq := by
  simp only [safEvent] <;>
    repeat' first | simp only [↓mk_acq, ↓record_acq] | split | rfl

@[simp] theorem safEvent_bus (v0 v1 s) : (safEvent v0 v1 s).bus = s.bus := by
  simp only [safEvent] <;>
    repeat' first | simp only [↓mk_bus, ↓record_bus] | split | rfl

@[simp] theorem safEvent_fus (v0 v1 s) : (safEvent v0 v1 s).fus = s.fus := by
  simp only [safEvent] <;>
    repeat' first | simp only [↓mk_fus, ↓record_fus] | split | rfl

@[simp] theorem safEvent_obs (v0 v1 s) : (safEvent v0 v1 s).obs = s.obs := by
  simp only [safEvent] <;>
    repeat' first | simp only [↓mk_obs, ↓record_obs] | split | rfl

@[simp] theorem safEvent_slv (v0 v1 s) : (safEvent v0 v1 s).slv = s.slv := by
  simp only [safEvent] <;>
    repeat' first | simp only [↓mk_slv, ↓record_slv] | split | rfl

@[simp] theorem safEvent_ctl (v0 v1 s) : (safEvent v0 v1 s).ctl = s.ctl := by
  simp only [safEvent] <;>
    repeat' first | simp only [↓mk_ctl, ↓record_ctl] | split | rfl

@[simp] theorem safEvent_thr (v0 v1 s) : (safEvent v0 v1 s).thr = s.thr := by
  simp only [safEvent] <;>
    repeat' first | simp only [↓mk_thr, ↓record_thr] | split | rfl

@[simp] theorem safEvent_sch (v0 v1 s) : (safEvent v0 v1 s).sch = s.sch := by
  simp only [safEvent] <;>
    repeat' first | simp only [↓mk_sch, ↓record_sch] | split | rfl

@[simp] theorem safEvent_grp (v0 v1 s) : (safEvent v0 v1 s).grp = s.grp := by
  simp only [safEvent] <;>
    repeat' first | simp only [↓mk_grp, ↓record_grp] | split | rfl

@[simp] theorem safEvent_mtr (v0 v1 s) : (safEvent v0 v1 s).mtr = s.mtr := by
  simp only [safEvent] <;>
    repeat' first | simp only [↓mk_mtr, ↓record_mtr] | split | rfl

@[simp] theorem safEvent_out (v0 v1 s) : (safEvent v0 v1 s).out = s.out := by
  simp only [safEvent] <;>
    repeat' first | simp only [↓mk_out, ↓record_out] | split | rfl

@[simp] theorem safEvent_fresh (v0 v1 s) : (safEvent v0 v1 s).fresh = s.fresh := by
  simp only [safEvent] <;>
    repeat' first | simp only [↓mk_fresh, ↓record_fresh] | split | rfl

@[simp] theorem modCan_pending (v0 v1 s) : (modCan v0 v1 s).pending = s.pending := by
  simp only [modCan] <;>
    repeat' first | simp only [↓mk_pending] | split | rfl

@[simp] theorem modCan_time (v0 v1 s) : (modCan v0 v1 s).time = s.time := by
  simp only [modCan] <;>
    repeat' first | simp only [↓mk_time] | split | rfl

@[simp] theorem modCan_grid (v0 v1 s) : (modCan v0 v1 s).grid = s.grid := by
  simp only [modCan] <;>
    repeat' first | simp only [↓mk_grid] | split | rfl

@[simp] theorem modCan_cfg (v0 v1 s) : (modCan v0 v1 s).cfg = s.cfg := by
  simp only [modCan] <;>
    repeat' first | simp only [↓mk_cfg] | split | rfl

@[simp] theorem modCan_host (v0 v1 s) : (modCan v0 v1 s).host = s.host := by
  simp only [modCan] <;>
    repeat' first | simp only [↓mk_host] | split | rfl

@[simp] theorem modCan_evt (v0 v1 s) : (modCan v0 v1 s).evt = s.evt := by
  simp only [modCan] <;>
    repeat' first | simp only [↓mk_evt] | split | rfl

@[simp] theorem modCan_pwr (v0 v1 s) : (modCan v0 v1 s).pwr = s.pwr := by
  simp only [modCan] <;>
    repeat' first | simp only [↓mk_pwr] | split | rfl

@[simp] theorem modCan_sig (v0 v1 s) : (modCan v0 v1 s).sig = s.sig := by
  simp only [modCan] <;>
    repeat' first | simp only [↓mk_sig] | split | rfl

@[simp] theorem modCan_gnss (v0 v1 s) : (modCan v0 v1 s).gnss = s.gnss := by
  simp only [modCan] <;>
    repeat' first | simp only [↓mk_gnss] | split | rfl

@[simp] theorem modCan_acq (v0 v1 s) : (modCan v0 v1 s).acq = s.acq := by
  simp only [modCan] <;>
    repeat' first | simp only [↓mk_acq] | split | rfl

@[simp] theorem modCan_fus (v0 v1 s) : (modCan v0 v1 s).fus = s.fus := by
  simp only [modCan] <;>
    repeat' first | simp only [↓mk_fus] | split | rfl

@[simp] theorem modCan_obs (v0 v1 s) : (modCan v0 v1 s).obs = s.obs := by
  simp only [modCan] <;>
    repeat' first | simp only [↓mk_obs] | split | rfl

@[simp] theorem modCan_slv (v0 v1 s) : (modCan v0 v1 s).slv = s.slv := by
  simp only [modCan] <;>
    repeat' first | simp only [↓mk_slv] | split | rfl

@[simp] theorem modCan_ctl (v0 v1 s) : (modCan v0 v1 s).ctl = s.ctl := by
  simp only [modCan] <;>
    repeat' first | simp only [↓mk_ctl] | split | rfl

@[simp] theorem modCan_thr (v0 v1 s) : (modCan v0 v1 s).thr = s.thr := by
  simp only [modCan] <;>
    repeat' first | simp only [↓mk_thr] | split | rfl

@[simp] theorem modCan_sch (v0 v1 s) : (modCan v0 v1 s).sch = s.sch := by
  simp only [modCan] <;>
    repeat' first | simp only [↓mk_sch] | split | rfl

@[simp] theorem modCan_grp (v0 v1 s) : (modCan v0 v1 s).grp = s.grp := by
  simp only [modCan] <;>
    repeat' first | simp only [↓mk_grp] | split | rfl

@[simp] theorem modCan_saf (v0 v1 s) : (modCan v0 v1 s).saf = s.saf := by
  simp only [modCan] <;>
    repeat' first | simp only [↓mk_saf] | split | rfl

@[simp] theorem modCan_mtr (v0 v1 s) : (modCan v0 v1 s).mtr = s.mtr := by
  simp only [modCan] <;>
    repeat' first | simp only [↓mk_mtr] | split | rfl

@[simp] theorem modCan_out (v0 v1 s) : (modCan v0 v1 s).out = s.out := by
  simp only [modCan] <;>
    repeat' first | simp only [↓mk_out] | split | rfl

@[simp] theorem modCan_fresh (v0 v1 s) : (modCan v0 v1 s).fresh = s.fresh := by
  simp only [modCan] <;>
    repeat' first | simp only [↓mk_fresh] | split | rfl

@[simp] theorem modDrive_pending (v0 v1 s) : (modDrive v0 v1 s).pending = s.pending := by
  simp only [modDrive] <;>
    repeat' first | simp only [↓mk_pending] | split | rfl

@[simp] theorem modDrive_time (v0 v1 s) : (modDrive v0 v1 s).time = s.time := by
  simp only [modDrive] <;>
    repeat' first | simp only [↓mk_time] | split | rfl

@[simp] theorem modDrive_grid (v0 v1 s) : (modDrive v0 v1 s).grid = s.grid := by
  simp only [modDrive] <;>
    repeat' first | simp only [↓mk_grid] | split | rfl

@[simp] theorem modDrive_cfg (v0 v1 s) : (modDrive v0 v1 s).cfg = s.cfg := by
  simp only [modDrive] <;>
    repeat' first | simp only [↓mk_cfg] | split | rfl

@[simp] theorem modDrive_host (v0 v1 s) : (modDrive v0 v1 s).host = s.host := by
  simp only [modDrive] <;>
    repeat' first | simp only [↓mk_host] | split | rfl

@[simp] theorem modDrive_evt (v0 v1 s) : (modDrive v0 v1 s).evt = s.evt := by
  simp only [modDrive] <;>
    repeat' first | simp only [↓mk_evt] | split | rfl

@[simp] theorem modDrive_pwr (v0 v1 s) : (modDrive v0 v1 s).pwr = s.pwr := by
  simp only [modDrive] <;>
    repeat' first | simp only [↓mk_pwr] | split | rfl

@[simp] theorem modDrive_sig (v0 v1 s) : (modDrive v0 v1 s).sig = s.sig := by
  simp only [modDrive] <;>
    repeat' first | simp only [↓mk_sig] | split | rfl

@[simp] theorem modDrive_gnss (v0 v1 s) : (modDrive v0 v1 s).gnss = s.gnss := by
  simp only [modDrive] <;>
    repeat' first | simp only [↓mk_gnss] | split | rfl

@[simp] theorem modDrive_acq (v0 v1 s) : (modDrive v0 v1 s).acq = s.acq := by
  simp only [modDrive] <;>
    repeat' first | simp only [↓mk_acq] | split | rfl

@[simp] theorem modDrive_fus (v0 v1 s) : (modDrive v0 v1 s).fus = s.fus := by
  simp only [modDrive] <;>
    repeat' first | simp only [↓mk_fus] | split | rfl

@[simp] theorem modDrive_obs (v0 v1 s) : (modDrive v0 v1 s).obs = s.obs := by
  simp only [modDrive] <;>
    repeat' first | simp only [↓mk_obs] | split | rfl

@[simp] theorem modDrive_slv (v0 v1 s) : (modDrive v0 v1 s).slv = s.slv := by
  simp only [modDrive] <;>
    repeat' first | simp only [↓mk_slv] | split | rfl

@[simp] theorem modDrive_ctl (v0 v1 s) : (modDrive v0 v1 s).ctl = s.ctl := by
  simp only [modDrive] <;>
    repeat' first | simp only [↓mk_ctl] | split | rfl

@[simp] theorem modDrive_thr (v0 v1 s) : (modDrive v0 v1 s).thr = s.thr := by
  simp only [modDrive] <;>
    repeat' first | simp only [↓mk_thr] | split | rfl

@[simp] theorem modDrive_sch (v0 v1 s) : (modDrive v0 v1 s).sch = s.sch := by
  simp only [modDrive] <;>
    repeat' first | simp only [↓mk_sch] | split | rfl

@[simp] theorem modDrive_grp (v0 v1 s) : (modDrive v0 v1 s).grp = s.grp := by
  simp only [modDrive] <;>
    repeat' first | simp only [↓mk_grp] | split | rfl

@[simp] theorem modDrive_saf (v0 v1 s) : (modDrive v0 v1 s).saf = s.saf := by
  simp only [modDrive] <;>
    repeat' first | simp only [↓mk_saf] | split | rfl

@[simp] theorem modDrive_mtr (v0 v1 s) : (modDrive v0 v1 s).mtr = s.mtr := by
  simp only [modDrive] <;>
    repeat' first | simp only [↓mk_mtr] | split | rfl

@[simp] theorem modDrive_out (v0 v1 s) : (modDrive v0 v1 s).out = s.out := by
  simp only [modDrive] <;>
    repeat' first | simp only [↓mk_out] | split | rfl

@[simp] theorem modDrive_fresh (v0 v1 s) : (modDrive v0 v1 s).fresh = s.fresh := by
  simp only [modDrive] <;>
    repeat' first | simp only [↓mk_fresh] | split | rfl

@[simp] theorem freshen_pending (s) : (freshen s).pending = s.pending := by
  simp only [freshen] <;>
    repeat' first | simp only [↓mk_pending] | split | rfl

@[simp] theorem freshen_time (s) : (freshen s).time = s.time := by
  simp only [freshen] <;>
    repeat' first | simp only [↓mk_time] | split | rfl

@[simp] theorem freshen_grid (s) : (freshen s).grid = s.grid := by
  simp only [freshen] <;>
    repeat' first | simp only [↓mk_grid] | split | rfl

@[simp] theorem freshen_cfg (s) : (freshen s).cfg = s.cfg := by
  simp only [freshen] <;>
    repeat' first | simp only [↓mk_cfg] | split | rfl

@[simp] theorem freshen_host (s) : (freshen s).host = s.host := by
  simp only [freshen] <;>
    repeat' first | simp only [↓mk_host] | split | rfl

@[simp] theorem freshen_evt (s) : (freshen s).evt = s.evt := by
  simp only [freshen] <;>
    repeat' first | simp only [↓mk_evt] | split | rfl

@[simp] theorem freshen_pwr (s) : (freshen s).pwr = s.pwr := by
  simp only [freshen] <;>
    repeat' first | simp only [↓mk_pwr] | split | rfl

@[simp] theorem freshen_sig (s) : (freshen s).sig = s.sig := by
  simp only [freshen] <;>
    repeat' first | simp only [↓mk_sig] | split | rfl

@[simp] theorem freshen_gnss (s) : (freshen s).gnss = s.gnss := by
  simp only [freshen] <;>
    repeat' first | simp only [↓mk_gnss] | split | rfl

@[simp] theorem freshen_acq (s) : (freshen s).acq = s.acq := by
  simp only [freshen] <;>
    repeat' first | simp only [↓mk_acq] | split | rfl

@[simp] theorem freshen_bus (s) : (freshen s).bus = s.bus := by
  simp only [freshen] <;>
    repeat' first | simp only [↓mk_bus] | split | rfl

@[simp] theorem freshen_fus (s) : (freshen s).fus = s.fus := by
  simp only [freshen] <;>
    repeat' first | simp only [↓mk_fus] | split | rfl

@[simp] theorem freshen_obs (s) : (freshen s).obs = s.obs := by
  simp only [freshen] <;>
    repeat' first | simp only [↓mk_obs] | split | rfl

@[simp] theorem freshen_slv (s) : (freshen s).slv = s.slv := by
  simp only [freshen] <;>
    repeat' first | simp only [↓mk_slv] | split | rfl

@[simp] theorem freshen_ctl (s) : (freshen s).ctl = s.ctl := by
  simp only [freshen] <;>
    repeat' first | simp only [↓mk_ctl] | split | rfl

@[simp] theorem freshen_thr (s) : (freshen s).thr = s.thr := by
  simp only [freshen] <;>
    repeat' first | simp only [↓mk_thr] | split | rfl

@[simp] theorem freshen_sch (s) : (freshen s).sch = s.sch := by
  simp only [freshen] <;>
    repeat' first | simp only [↓mk_sch] | split | rfl

@[simp] theorem freshen_grp (s) : (freshen s).grp = s.grp := by
  simp only [freshen] <;>
    repeat' first | simp only [↓mk_grp] | split | rfl

@[simp] theorem freshen_saf (s) : (freshen s).saf = s.saf := by
  simp only [freshen] <;>
    repeat' first | simp only [↓mk_saf] | split | rfl

@[simp] theorem freshen_mtr (s) : (freshen s).mtr = s.mtr := by
  simp only [freshen] <;>
    repeat' first | simp only [↓mk_mtr] | split | rfl

@[simp] theorem freshen_out (s) : (freshen s).out = s.out := by
  simp only [freshen] <;>
    repeat' first | simp only [↓mk_out] | split | rfl

@[simp] theorem railBelow_pending (v0 v1 s) : (railBelow v0 v1 s).pending = s.pending := by
  simp only [railBelow] <;>
    repeat' first | simp only [↓mk_pending] | split | rfl

@[simp] theorem railBelow_time (v0 v1 s) : (railBelow v0 v1 s).time = s.time := by
  simp only [railBelow] <;>
    repeat' first | simp only [↓mk_time] | split | rfl

@[simp] theorem railBelow_grid (v0 v1 s) : (railBelow v0 v1 s).grid = s.grid := by
  simp only [railBelow] <;>
    repeat' first | simp only [↓mk_grid] | split | rfl

@[simp] theorem railBelow_cfg (v0 v1 s) : (railBelow v0 v1 s).cfg = s.cfg := by
  simp only [railBelow] <;>
    repeat' first | simp only [↓mk_cfg] | split | rfl

@[simp] theorem railBelow_host (v0 v1 s) : (railBelow v0 v1 s).host = s.host := by
  simp only [railBelow] <;>
    repeat' first | simp only [↓mk_host] | split | rfl

@[simp] theorem railBelow_evt (v0 v1 s) : (railBelow v0 v1 s).evt = s.evt := by
  simp only [railBelow] <;>
    repeat' first | simp only [↓mk_evt] | split | rfl

@[simp] theorem railBelow_sig (v0 v1 s) : (railBelow v0 v1 s).sig = s.sig := by
  simp only [railBelow] <;>
    repeat' first | simp only [↓mk_sig] | split | rfl

@[simp] theorem railBelow_gnss (v0 v1 s) : (railBelow v0 v1 s).gnss = s.gnss := by
  simp only [railBelow] <;>
    repeat' first | simp only [↓mk_gnss] | split | rfl

@[simp] theorem railBelow_acq (v0 v1 s) : (railBelow v0 v1 s).acq = s.acq := by
  simp only [railBelow] <;>
    repeat' first | simp only [↓mk_acq] | split | rfl

@[simp] theorem railBelow_bus (v0 v1 s) : (railBelow v0 v1 s).bus = s.bus := by
  simp only [railBelow] <;>
    repeat' first | simp only [↓mk_bus] | split | rfl

@[simp] theorem railBelow_fus (v0 v1 s) : (railBelow v0 v1 s).fus = s.fus := by
  simp only [railBelow] <;>
    repeat' first | simp only [↓mk_fus] | split | rfl

@[simp] theorem railBelow_obs (v0 v1 s) : (railBelow v0 v1 s).obs = s.obs := by
  simp only [railBelow] <;>
    repeat' first | simp only [↓mk_obs] | split | rfl

@[simp] theorem railBelow_slv (v0 v1 s) : (railBelow v0 v1 s).slv = s.slv := by
  simp only [railBelow] <;>
    repeat' first | simp only [↓mk_slv] | split | rfl

@[simp] theorem railBelow_ctl (v0 v1 s) : (railBelow v0 v1 s).ctl = s.ctl := by
  simp only [railBelow] <;>
    repeat' first | simp only [↓mk_ctl] | split | rfl

@[simp] theorem railBelow_thr (v0 v1 s) : (railBelow v0 v1 s).thr = s.thr := by
  simp only [railBelow] <;>
    repeat' first | simp only [↓mk_thr] | split | rfl

@[simp] theorem railBelow_sch (v0 v1 s) : (railBelow v0 v1 s).sch = s.sch := by
  simp only [railBelow] <;>
    repeat' first | simp only [↓mk_sch] | split | rfl

@[simp] theorem railBelow_grp (v0 v1 s) : (railBelow v0 v1 s).grp = s.grp := by
  simp only [railBelow] <;>
    repeat' first | simp only [↓mk_grp] | split | rfl

@[simp] theorem railBelow_saf (v0 v1 s) : (railBelow v0 v1 s).saf = s.saf := by
  simp only [railBelow] <;>
    repeat' first | simp only [↓mk_saf] | split | rfl

@[simp] theorem railBelow_mtr (v0 v1 s) : (railBelow v0 v1 s).mtr = s.mtr := by
  simp only [railBelow] <;>
    repeat' first | simp only [↓mk_mtr] | split | rfl

@[simp] theorem railBelow_out (v0 v1 s) : (railBelow v0 v1 s).out = s.out := by
  simp only [railBelow] <;>
    repeat' first | simp only [↓mk_out] | split | rfl

@[simp] theorem railBelow_fresh (v0 v1 s) : (railBelow v0 v1 s).fresh = s.fresh := by
  simp only [railBelow] <;>
    repeat' first | simp only [↓mk_fresh] | split | rfl

@[simp] theorem railsUp_pending (v0 s) : (railsUp v0 s).pending = s.pending := by
  simp only [railsUp] <;>
    repeat' first | simp only [↓mk_pending] | split | rfl

@[simp] theorem railsUp_time (v0 s) : (railsUp v0 s).time = s.time := by
  simp only [railsUp] <;>
    repeat' first | simp only [↓mk_time] | split | rfl

@[simp] theorem railsUp_grid (v0 s) : (railsUp v0 s).grid = s.grid := by
  simp only [railsUp] <;>
    repeat' first | simp only [↓mk_grid] | split | rfl

@[simp] theorem railsUp_cfg (v0 s) : (railsUp v0 s).cfg = s.cfg := by
  simp only [railsUp] <;>
    repeat' first | simp only [↓mk_cfg] | split | rfl

@[simp] theorem railsUp_host (v0 s) : (railsUp v0 s).host = s.host := by
  simp only [railsUp] <;>
    repeat' first | simp only [↓mk_host] | split | rfl

@[simp] theorem railsUp_evt (v0 s) : (railsUp v0 s).evt = s.evt := by
  simp only [railsUp] <;>
    repeat' first | simp only [↓mk_evt] | split | rfl

@[simp] theorem railsUp_sig (v0 s) : (railsUp v0 s).sig = s.sig := by
  simp only [railsUp] <;>
    repeat' first | simp only [↓mk_sig] | split | rfl

@[simp] theorem railsUp_gnss (v0 s) : (railsUp v0 s).gnss = s.gnss := by
  simp only [railsUp] <;>
    repeat' first | simp only [↓mk_gnss] | split | rfl

@[simp] theorem railsUp_acq (v0 s) : (railsUp v0 s).acq = s.acq := by
  simp only [railsUp] <;>
    repeat' first | simp only [↓mk_acq] | split | rfl

@[simp] theorem railsUp_bus (v0 s) : (railsUp v0 s).bus = s.bus := by
  simp only [railsUp] <;>
    repeat' first | simp only [↓mk_bus] | split | rfl

@[simp] theorem railsUp_fus (v0 s) : (railsUp v0 s).fus = s.fus := by
  simp only [railsUp] <;>
    repeat' first | simp only [↓mk_fus] | split | rfl

@[simp] theorem railsUp_obs (v0 s) : (railsUp v0 s).obs = s.obs := by
  simp only [railsUp] <;>
    repeat' first | simp only [↓mk_obs] | split | rfl

@[simp] theorem railsUp_slv (v0 s) : (railsUp v0 s).slv = s.slv := by
  simp only [railsUp] <;>
    repeat' first | simp only [↓mk_slv] | split | rfl

@[simp] theorem railsUp_ctl (v0 s) : (railsUp v0 s).ctl = s.ctl := by
  simp only [railsUp] <;>
    repeat' first | simp only [↓mk_ctl] | split | rfl

@[simp] theorem railsUp_thr (v0 s) : (railsUp v0 s).thr = s.thr := by
  simp only [railsUp] <;>
    repeat' first | simp only [↓mk_thr] | split | rfl

@[simp] theorem railsUp_sch (v0 s) : (railsUp v0 s).sch = s.sch := by
  simp only [railsUp] <;>
    repeat' first | simp only [↓mk_sch] | split | rfl

@[simp] theorem railsUp_grp (v0 s) : (railsUp v0 s).grp = s.grp := by
  simp only [railsUp] <;>
    repeat' first | simp only [↓mk_grp] | split | rfl

@[simp] theorem railsUp_saf (v0 s) : (railsUp v0 s).saf = s.saf := by
  simp only [railsUp] <;>
    repeat' first | simp only [↓mk_saf] | split | rfl

@[simp] theorem railsUp_mtr (v0 s) : (railsUp v0 s).mtr = s.mtr := by
  simp only [railsUp] <;>
    repeat' first | simp only [↓mk_mtr] | split | rfl

@[simp] theorem railsUp_out (v0 s) : (railsUp v0 s).out = s.out := by
  simp only [railsUp] <;>
    repeat' first | simp only [↓mk_out] | split | rfl

@[simp] theorem railsUp_fresh (v0 s) : (railsUp v0 s).fresh = s.fresh := by
  simp only [railsUp] <;>
    repeat' first | simp only [↓mk_fresh] | split | rfl

@[simp] theorem newEntry_pending (v0 s) : (newEntry v0 s).pending = s.pending := by
  simp only [newEntry] <;>
    repeat' first | simp only [↓mk_pending] | split | rfl

@[simp] theorem newEntry_time (v0 s) : (newEntry v0 s).time = s.time := by
  simp only [newEntry] <;>
    repeat' first | simp only [↓mk_time] | split | rfl

@[simp] theorem newEntry_grid (v0 s) : (newEntry v0 s).grid = s.grid := by
  simp only [newEntry] <;>
    repeat' first | simp only [↓mk_grid] | split | rfl

@[simp] theorem newEntry_cfg (v0 s) : (newEntry v0 s).cfg = s.cfg := by
  simp only [newEntry] <;>
    repeat' first | simp only [↓mk_cfg] | split | rfl

@[simp] theorem newEntry_evt (v0 s) : (newEntry v0 s).evt = s.evt := by
  simp only [newEntry] <;>
    repeat' first | simp only [↓mk_evt] | split | rfl

@[simp] theorem newEntry_pwr (v0 s) : (newEntry v0 s).pwr = s.pwr := by
  simp only [newEntry] <;>
    repeat' first | simp only [↓mk_pwr] | split | rfl

@[simp] theorem newEntry_sig (v0 s) : (newEntry v0 s).sig = s.sig := by
  simp only [newEntry] <;>
    repeat' first | simp only [↓mk_sig] | split | rfl

@[simp] theorem newEntry_gnss (v0 s) : (newEntry v0 s).gnss = s.gnss := by
  simp only [newEntry] <;>
    repeat' first | simp only [↓mk_gnss] | split | rfl

@[simp] theorem newEntry_acq (v0 s) : (newEntry v0 s).acq = s.acq := by
  simp only [newEntry] <;>
    repeat' first | simp only [↓mk_acq] | split | rfl

@[simp] theorem newEntry_bus (v0 s) : (newEntry v0 s).bus = s.bus := by
  simp only [newEntry] <;>
    repeat' first | simp only [↓mk_bus] | split | rfl

@[simp] theorem newEntry_fus (v0 s) : (newEntry v0 s).fus = s.fus := by
  simp only [newEntry] <;>
    repeat' first | simp only [↓mk_fus] | split | rfl

@[simp] theorem newEntry_obs (v0 s) : (newEntry v0 s).obs = s.obs := by
  simp only [newEntry] <;>
    repeat' first | simp only [↓mk_obs] | split | rfl

@[simp] theorem newEntry_slv (v0 s) : (newEntry v0 s).slv = s.slv := by
  simp only [newEntry] <;>
    repeat' first | simp only [↓mk_slv] | split | rfl

@[simp] theorem newEntry_ctl (v0 s) : (newEntry v0 s).ctl = s.ctl := by
  simp only [newEntry] <;>
    repeat' first | simp only [↓mk_ctl] | split | rfl

@[simp] theorem newEntry_thr (v0 s) : (newEntry v0 s).thr = s.thr := by
  simp only [newEntry] <;>
    repeat' first | simp only [↓mk_thr] | split | rfl

@[simp] theorem newEntry_sch (v0 s) : (newEntry v0 s).sch = s.sch := by
  simp only [newEntry] <;>
    repeat' first | simp only [↓mk_sch] | split | rfl

@[simp] theorem newEntry_grp (v0 s) : (newEntry v0 s).grp = s.grp := by
  simp only [newEntry] <;>
    repeat' first | simp only [↓mk_grp] | split | rfl

@[simp] theorem newEntry_saf (v0 s) : (newEntry v0 s).saf = s.saf := by
  simp only [newEntry] <;>
    repeat' first | simp only [↓mk_saf] | split | rfl

@[simp] theorem newEntry_mtr (v0 s) : (newEntry v0 s).mtr = s.mtr := by
  simp only [newEntry] <;>
    repeat' first | simp only [↓mk_mtr] | split | rfl

@[simp] theorem newEntry_out (v0 s) : (newEntry v0 s).out = s.out := by
  simp only [newEntry] <;>
    repeat' first | simp only [↓mk_out] | split | rfl

@[simp] theorem newEntry_fresh (v0 s) : (newEntry v0 s).fresh = s.fresh := by
  simp only [newEntry] <;>
    repeat' first | simp only [↓mk_fresh] | split | rfl

@[simp] theorem countReject_pending (v0 v1 s) : (countReject v0 v1 s).pending = s.pending := by
  simp only [countReject] <;>
    repeat' first | simp only [↓mk_pending, ↓modSlot_pending] | split | rfl

@[simp] theorem countReject_time (v0 v1 s) : (countReject v0 v1 s).time = s.time := by
  simp only [countReject] <;>
    repeat' first | simp only [↓mk_time, ↓modSlot_time] | split | rfl

@[simp] theorem countReject_grid (v0 v1 s) : (countReject v0 v1 s).grid = s.grid := by
  simp only [countReject] <;>
    repeat' first | simp only [↓mk_grid, ↓modSlot_grid] | split | rfl

@[simp] theorem countReject_cfg (v0 v1 s) : (countReject v0 v1 s).cfg = s.cfg := by
  simp only [countReject] <;>
    repeat' first | simp only [↓mk_cfg, ↓modSlot_cfg] | split | rfl

@[simp] theorem countReject_evt (v0 v1 s) : (countReject v0 v1 s).evt = s.evt := by
  simp only [countReject] <;>
    repeat' first | simp only [↓mk_evt, ↓modSlot_evt] | split | rfl

@[simp] theorem countReject_pwr (v0 v1 s) : (countReject v0 v1 s).pwr = s.pwr := by
  simp only [countReject] <;>
    repeat' first | simp only [↓mk_pwr, ↓modSlot_pwr] | split | rfl

@[simp] theorem countReject_sig (v0 v1 s) : (countReject v0 v1 s).sig = s.sig := by
  simp only [countReject] <;>
    repeat' first | simp only [↓mk_sig, ↓modSlot_sig] | split | rfl

@[simp] theorem countReject_gnss (v0 v1 s) : (countReject v0 v1 s).gnss = s.gnss := by
  simp only [countReject] <;>
    repeat' first | simp only [↓mk_gnss, ↓modSlot_gnss] | split | rfl

@[simp] theorem countReject_acq (v0 v1 s) : (countReject v0 v1 s).acq = s.acq := by
  simp only [countReject] <;>
    repeat' first | simp only [↓mk_acq, ↓modSlot_acq] | split | rfl

@[simp] theorem countReject_bus (v0 v1 s) : (countReject v0 v1 s).bus = s.bus := by
  simp only [countReject] <;>
    repeat' first | simp only [↓mk_bus, ↓modSlot_bus] | split | rfl

@[simp] theorem countReject_fus (v0 v1 s) : (countReject v0 v1 s).fus = s.fus := by
  simp only [countReject] <;>
    repeat' first | simp only [↓mk_fus, ↓modSlot_fus] | split | rfl

@[simp] theorem countReject_obs (v0 v1 s) : (countReject v0 v1 s).obs = s.obs := by
  simp only [countReject] <;>
    repeat' first | simp only [↓mk_obs, ↓modSlot_obs] | split | rfl

@[simp] theorem countReject_slv (v0 v1 s) : (countReject v0 v1 s).slv = s.slv := by
  simp only [countReject] <;>
    repeat' first | simp only [↓mk_slv, ↓modSlot_slv] | split | rfl

@[simp] theorem countReject_ctl (v0 v1 s) : (countReject v0 v1 s).ctl = s.ctl := by
  simp only [countReject] <;>
    repeat' first | simp only [↓mk_ctl, ↓modSlot_ctl] | split | rfl

@[simp] theorem countReject_thr (v0 v1 s) : (countReject v0 v1 s).thr = s.thr := by
  simp only [countReject] <;>
    repeat' first | simp only [↓mk_thr, ↓modSlot_thr] | split | rfl

@[simp] theorem countReject_sch (v0 v1 s) : (countReject v0 v1 s).sch = s.sch := by
  simp only [countReject] <;>
    repeat' first | simp only [↓mk_sch, ↓modSlot_sch] | split | rfl

@[simp] theorem countReject_grp (v0 v1 s) : (countReject v0 v1 s).grp = s.grp := by
  simp only [countReject] <;>
    repeat' first | simp only [↓mk_grp, ↓modSlot_grp] | split | rfl

@[simp] theorem countReject_saf (v0 v1 s) : (countReject v0 v1 s).saf = s.saf := by
  simp only [countReject] <;>
    repeat' first | simp only [↓mk_saf, ↓modSlot_saf] | split | rfl

@[simp] theorem countReject_mtr (v0 v1 s) : (countReject v0 v1 s).mtr = s.mtr := by
  simp only [countReject] <;>
    repeat' first | simp only [↓mk_mtr, ↓modSlot_mtr] | split | rfl

@[simp] theorem countReject_out (v0 v1 s) : (countReject v0 v1 s).out = s.out := by
  simp only [countReject] <;>
    repeat' first | simp only [↓mk_out, ↓modSlot_out] | split | rfl

@[simp] theorem countReject_fresh (v0 v1 s) : (countReject v0 v1 s).fresh = s.fresh := by
  simp only [countReject] <;>
    repeat' first | simp only [↓mk_fresh, ↓modSlot_fresh] | split | rfl

@[simp] theorem reject_pending (v0 v1 v2 v3 v4 s) : (reject v0 v1 v2 v3 v4 s).pending = s.pending := by
  simp only [reject] <;>
    repeat' first | simp only [↓mk_pending, ↓countReject_pending, ↓sendReply_pending] | split | rfl

@[simp] theorem reject_time (v0 v1 v2 v3 v4 s) : (reject v0 v1 v2 v3 v4 s).time = s.time := by
  simp only [reject] <;>
    repeat' first | simp only [↓mk_time, ↓countReject_time, ↓sendReply_time] | split | rfl

@[simp] theorem reject_grid (v0 v1 v2 v3 v4 s) : (reject v0 v1 v2 v3 v4 s).grid = s.grid := by
  simp only [reject] <;>
    repeat' first | simp only [↓mk_grid, ↓countReject_grid, ↓sendReply_grid] | split | rfl

@[simp] theorem reject_cfg (v0 v1 v2 v3 v4 s) : (reject v0 v1 v2 v3 v4 s).cfg = s.cfg := by
  simp only [reject] <;>
    repeat' first | simp only [↓mk_cfg, ↓countReject_cfg, ↓sendReply_cfg] | split | rfl

@[simp] theorem reject_evt (v0 v1 v2 v3 v4 s) : (reject v0 v1 v2 v3 v4 s).evt = s.evt := by
  simp only [reject] <;>
    repeat' first | simp only [↓mk_evt, ↓countReject_evt, ↓sendReply_evt] | split | rfl

@[simp] theorem reject_pwr (v0 v1 v2 v3 v4 s) : (reject v0 v1 v2 v3 v4 s).pwr = s.pwr := by
  simp only [reject] <;>
    repeat' first | simp only [↓mk_pwr, ↓countReject_pwr, ↓sendReply_pwr] | split | rfl

@[simp] theorem reject_sig (v0 v1 v2 v3 v4 s) : (reject v0 v1 v2 v3 v4 s).sig = s.sig := by
  simp only [reject] <;>
    repeat' first | simp only [↓mk_sig, ↓countReject_sig, ↓sendReply_sig] | split | rfl

@[simp] theorem reject_gnss (v0 v1 v2 v3 v4 s) : (reject v0 v1 v2 v3 v4 s).gnss = s.gnss := by
  simp only [reject] <;>
    repeat' first | simp only [↓mk_gnss, ↓countReject_gnss, ↓sendReply_gnss] | split | rfl

@[simp] theorem reject_acq (v0 v1 v2 v3 v4 s) : (reject v0 v1 v2 v3 v4 s).acq = s.acq := by
  simp only [reject] <;>
    repeat' first | simp only [↓mk_acq, ↓countReject_acq, ↓sendReply_acq] | split | rfl

@[simp] theorem reject_bus (v0 v1 v2 v3 v4 s) : (reject v0 v1 v2 v3 v4 s).bus = s.bus := by
  simp only [reject] <;>
    repeat' first | simp only [↓mk_bus, ↓countReject_bus, ↓sendReply_bus] | split | rfl

@[simp] theorem reject_fus (v0 v1 v2 v3 v4 s) : (reject v0 v1 v2 v3 v4 s).fus = s.fus := by
  simp only [reject] <;>
    repeat' first | simp only [↓mk_fus, ↓countReject_fus, ↓sendReply_fus] | split | rfl

@[simp] theorem reject_obs (v0 v1 v2 v3 v4 s) : (reject v0 v1 v2 v3 v4 s).obs = s.obs := by
  simp only [reject] <;>
    repeat' first | simp only [↓mk_obs, ↓countReject_obs, ↓sendReply_obs] | split | rfl

@[simp] theorem reject_slv (v0 v1 v2 v3 v4 s) : (reject v0 v1 v2 v3 v4 s).slv = s.slv := by
  simp only [reject] <;>
    repeat' first | simp only [↓mk_slv, ↓countReject_slv, ↓sendReply_slv] | split | rfl

@[simp] theorem reject_ctl (v0 v1 v2 v3 v4 s) : (reject v0 v1 v2 v3 v4 s).ctl = s.ctl := by
  simp only [reject] <;>
    repeat' first | simp only [↓mk_ctl, ↓countReject_ctl, ↓sendReply_ctl] | split | rfl

@[simp] theorem reject_thr (v0 v1 v2 v3 v4 s) : (reject v0 v1 v2 v3 v4 s).thr = s.thr := by
  simp only [reject] <;>
    repeat' first | simp only [↓mk_thr, ↓countReject_thr, ↓sendReply_thr] | split | rfl

@[simp] theorem reject_sch (v0 v1 v2 v3 v4 s) : (reject v0 v1 v2 v3 v4 s).sch = s.sch := by
  simp only [reject] <;>
    repeat' first | simp only [↓mk_sch, ↓countReject_sch, ↓sendReply_sch] | split | rfl

@[simp] theorem reject_grp (v0 v1 v2 v3 v4 s) : (reject v0 v1 v2 v3 v4 s).grp = s.grp := by
  simp only [reject] <;>
    repeat' first | simp only [↓mk_grp, ↓countReject_grp, ↓sendReply_grp] | split | rfl

@[simp] theorem reject_saf (v0 v1 v2 v3 v4 s) : (reject v0 v1 v2 v3 v4 s).saf = s.saf := by
  simp only [reject] <;>
    repeat' first | simp only [↓mk_saf, ↓countReject_saf, ↓sendReply_saf] | split | rfl

@[simp] theorem reject_mtr (v0 v1 v2 v3 v4 s) : (reject v0 v1 v2 v3 v4 s).mtr = s.mtr := by
  simp only [reject] <;>
    repeat' first | simp only [↓mk_mtr, ↓countReject_mtr, ↓sendReply_mtr] | split | rfl

@[simp] theorem reject_fresh (v0 v1 v2 v3 v4 s) : (reject v0 v1 v2 v3 v4 s).fresh = s.fresh := by
  simp only [reject] <;>
    repeat' first | simp only [↓mk_fresh, ↓countReject_fresh, ↓sendReply_fresh] | split | rfl

@[simp] theorem takeBuffer_pending (v0 v1 v2 s) : (takeBuffer v0 v1 v2 s).pending = s.pending := by
  simp only [takeBuffer] <;>
    repeat' first | simp only [↓mk_pending] | split | rfl

@[simp] theorem takeBuffer_time (v0 v1 v2 s) : (takeBuffer v0 v1 v2 s).time = s.time := by
  simp only [takeBuffer] <;>
    repeat' first | simp only [↓mk_time] | split | rfl

@[simp] theorem takeBuffer_grid (v0 v1 v2 s) : (takeBuffer v0 v1 v2 s).grid = s.grid := by
  simp only [takeBuffer] <;>
    repeat' first | simp only [↓mk_grid] | split | rfl

@[simp] theorem takeBuffer_cfg (v0 v1 v2 s) : (takeBuffer v0 v1 v2 s).cfg = s.cfg := by
  simp only [takeBuffer] <;>
    repeat' first | simp only [↓mk_cfg] | split | rfl

@[simp] theorem takeBuffer_evt (v0 v1 v2 s) : (takeBuffer v0 v1 v2 s).evt = s.evt := by
  simp only [takeBuffer] <;>
    repeat' first | simp only [↓mk_evt] | split | rfl

@[simp] theorem takeBuffer_pwr (v0 v1 v2 s) : (takeBuffer v0 v1 v2 s).pwr = s.pwr := by
  simp only [takeBuffer] <;>
    repeat' first | simp only [↓mk_pwr] | split | rfl

@[simp] theorem takeBuffer_sig (v0 v1 v2 s) : (takeBuffer v0 v1 v2 s).sig = s.sig := by
  simp only [takeBuffer] <;>
    repeat' first | simp only [↓mk_sig] | split | rfl

@[simp] theorem takeBuffer_gnss (v0 v1 v2 s) : (takeBuffer v0 v1 v2 s).gnss = s.gnss := by
  simp only [takeBuffer] <;>
    repeat' first | simp only [↓mk_gnss] | split | rfl

@[simp] theorem takeBuffer_acq (v0 v1 v2 s) : (takeBuffer v0 v1 v2 s).acq = s.acq := by
  simp only [takeBuffer] <;>
    repeat' first | simp only [↓mk_acq] | split | rfl

@[simp] theorem takeBuffer_bus (v0 v1 v2 s) : (takeBuffer v0 v1 v2 s).bus = s.bus := by
  simp only [takeBuffer] <;>
    repeat' first | simp only [↓mk_bus] | split | rfl

@[simp] theorem takeBuffer_fus (v0 v1 v2 s) : (takeBuffer v0 v1 v2 s).fus = s.fus := by
  simp only [takeBuffer] <;>
    repeat' first | simp only [↓mk_fus] | split | rfl

@[simp] theorem takeBuffer_obs (v0 v1 v2 s) : (takeBuffer v0 v1 v2 s).obs = s.obs := by
  simp only [takeBuffer] <;>
    repeat' first | simp only [↓mk_obs] | split | rfl

@[simp] theorem takeBuffer_slv (v0 v1 v2 s) : (takeBuffer v0 v1 v2 s).slv = s.slv := by
  simp only [takeBuffer] <;>
    repeat' first | simp only [↓mk_slv] | split | rfl

@[simp] theorem takeBuffer_ctl (v0 v1 v2 s) : (takeBuffer v0 v1 v2 s).ctl = s.ctl := by
  simp only [takeBuffer] <;>
    repeat' first | simp only [↓mk_ctl] | split | rfl

@[simp] theorem takeBuffer_thr (v0 v1 v2 s) : (takeBuffer v0 v1 v2 s).thr = s.thr := by
  simp only [takeBuffer] <;>
    repeat' first | simp only [↓mk_thr] | split | rfl

@[simp] theorem takeBuffer_sch (v0 v1 v2 s) : (takeBuffer v0 v1 v2 s).sch = s.sch := by
  simp only [takeBuffer] <;>
    repeat' first | simp only [↓mk_sch] | split | rfl

@[simp] theorem takeBuffer_grp (v0 v1 v2 s) : (takeBuffer v0 v1 v2 s).grp = s.grp := by
  simp only [takeBuffer] <;>
    repeat' first | simp only [↓mk_grp] | split | rfl

@[simp] theorem takeBuffer_saf (v0 v1 v2 s) : (takeBuffer v0 v1 v2 s).saf = s.saf := by
  simp only [takeBuffer] <;>
    repeat' first | simp only [↓mk_saf] | split | rfl

@[simp] theorem takeBuffer_mtr (v0 v1 v2 s) : (takeBuffer v0 v1 v2 s).mtr = s.mtr := by
  simp only [takeBuffer] <;>
    repeat' first | simp only [↓mk_mtr] | split | rfl

@[simp] theorem takeBuffer_out (v0 v1 v2 s) : (takeBuffer v0 v1 v2 s).out = s.out := by
  simp only [takeBuffer] <;>
    repeat' first | simp only [↓mk_out] | split | rfl

@[simp] theorem takeBuffer_fresh (v0 v1 v2 s) : (takeBuffer v0 v1 v2 s).fresh = s.fresh := by
  simp only [takeBuffer] <;>
    repeat' first | simp only [↓mk_fresh] | split | rfl

@[simp] theorem publishAs_pending (v0 v1 s) : (publishAs v0 v1 s).pending = s.pending := by
  simp only [publishAs] <;>
    repeat' first | simp only [↓mk_pending] | split | rfl

@[simp] theorem publishAs_time (v0 v1 s) : (publishAs v0 v1 s).time = s.time := by
  simp only [publishAs] <;>
    repeat' first | simp only [↓mk_time] | split | rfl

@[simp] theorem publishAs_grid (v0 v1 s) : (publishAs v0 v1 s).grid = s.grid := by
  simp only [publishAs] <;>
    repeat' first | simp only [↓mk_grid] | split | rfl

@[simp] theorem publishAs_cfg (v0 v1 s) : (publishAs v0 v1 s).cfg = s.cfg := by
  simp only [publishAs] <;>
    repeat' first | simp only [↓mk_cfg] | split | rfl

@[simp] theorem publishAs_host (v0 v1 s) : (publishAs v0 v1 s).host = s.host := by
  simp only [publishAs] <;>
    repeat' first | simp only [↓mk_host] | split | rfl

@[simp] theorem publishAs_evt (v0 v1 s) : (publishAs v0 v1 s).evt = s.evt := by
  simp only [publishAs] <;>
    repeat' first | simp only [↓mk_evt] | split | rfl

@[simp] theorem publishAs_pwr (v0 v1 s) : (publishAs v0 v1 s).pwr = s.pwr := by
  simp only [publishAs] <;>
    repeat' first | simp only [↓mk_pwr] | split | rfl

@[simp] theorem publishAs_gnss (v0 v1 s) : (publishAs v0 v1 s).gnss = s.gnss := by
  simp only [publishAs] <;>
    repeat' first | simp only [↓mk_gnss] | split | rfl

@[simp] theorem publishAs_acq (v0 v1 s) : (publishAs v0 v1 s).acq = s.acq := by
  simp only [publishAs] <;>
    repeat' first | simp only [↓mk_acq] | split | rfl

@[simp] theorem publishAs_bus (v0 v1 s) : (publishAs v0 v1 s).bus = s.bus := by
  simp only [publishAs] <;>
    repeat' first | simp only [↓mk_bus] | split | rfl

@[simp] theorem publishAs_fus (v0 v1 s) : (publishAs v0 v1 s).fus = s.fus := by
  simp only [publishAs] <;>
    repeat' first | simp only [↓mk_fus] | split | rfl

@[simp] theorem publishAs_obs (v0 v1 s) : (publishAs v0 v1 s).obs = s.obs := by
  simp only [publishAs] <;>
    repeat' first | simp only [↓mk_obs] | split | rfl

@[simp] theorem publishAs_slv (v0 v1 s) : (publishAs v0 v1 s).slv = s.slv := by
  simp only [publishAs] <;>
    repeat' first | simp only [↓mk_slv] | split | rfl

@[simp] theorem publishAs_ctl (v0 v1 s) : (publishAs v0 v1 s).ctl = s.ctl := by
  simp only [publishAs] <;>
    repeat' first | simp only [↓mk_ctl] | split | rfl

@[simp] theorem publishAs_thr (v0 v1 s) : (publishAs v0 v1 s).thr = s.thr := by
  simp only [publishAs] <;>
    repeat' first | simp only [↓mk_thr] | split | rfl

@[simp] theorem publishAs_sch (v0 v1 s) : (publishAs v0 v1 s).sch = s.sch := by
  simp only [publishAs] <;>
    repeat' first | simp only [↓mk_sch] | split | rfl

@[simp] theorem publishAs_grp (v0 v1 s) : (publishAs v0 v1 s).grp = s.grp := by
  simp only [publishAs] <;>
    repeat' first | simp only [↓mk_grp] | split | rfl

@[simp] theorem publishAs_saf (v0 v1 s) : (publishAs v0 v1 s).saf = s.saf := by
  simp only [publishAs] <;>
    repeat' first | simp only [↓mk_saf] | split | rfl

@[simp] theorem publishAs_mtr (v0 v1 s) : (publishAs v0 v1 s).mtr = s.mtr := by
  simp only [publishAs] <;>
    repeat' first | simp only [↓mk_mtr] | split | rfl

@[simp] theorem publishAs_out (v0 v1 s) : (publishAs v0 v1 s).out = s.out := by
  simp only [publishAs] <;>
    repeat' first | simp only [↓mk_out] | split | rfl

@[simp] theorem publishAs_fresh (v0 v1 s) : (publishAs v0 v1 s).fresh = s.fresh := by
  simp only [publishAs] <;>
    repeat' first | simp only [↓mk_fresh] | split | rfl

@[simp] theorem publish_pending (v0 v1 s) : (publish v0 v1 s).pending = s.pending := by
  simp only [publish] <;>
    repeat' first | simp only [↓mk_pending, ↓publishAs_pending] | split | rfl

@[simp] theorem publish_time (v0 v1 s) : (publish v0 v1 s).time = s.time := by
  simp only [publish] <;>
    repeat' first | simp only [↓mk_time, ↓publishAs_time] | split | rfl

@[simp] theorem publish_grid (v0 v1 s) : (publish v0 v1 s).grid = s.grid := by
  simp only [publish] <;>
    repeat' first | simp only [↓mk_grid, ↓publishAs_grid] | split | rfl

@[simp] theorem publish_cfg (v0 v1 s) : (publish v0 v1 s).cfg = s.cfg := by
  simp only [publish] <;>
    repeat' first | simp only [↓mk_cfg, ↓publishAs_cfg] | split | rfl

@[simp] theorem publish_host (v0 v1 s) : (publish v0 v1 s).host = s.host := by
  simp only [publish] <;>
    repeat' first | simp only [↓mk_host, ↓publishAs_host] | split | rfl

@[simp] theorem publish_evt (v0 v1 s) : (publish v0 v1 s).evt = s.evt := by
  simp only [publish] <;>
    repeat' first | simp only [↓mk_evt, ↓publishAs_evt] | split | rfl

@[simp] theorem publish_pwr (v0 v1 s) : (publish v0 v1 s).pwr = s.pwr := by
  simp only [publish] <;>
    repeat' first | simp only [↓mk_pwr, ↓publishAs_pwr] | split | rfl

@[simp] theorem publish_gnss (v0 v1 s) : (publish v0 v1 s).gnss = s.gnss := by
  simp only [publish] <;>
    repeat' first | simp only [↓mk_gnss, ↓publishAs_gnss] | split | rfl

@[simp] theorem publish_acq (v0 v1 s) : (publish v0 v1 s).acq = s.acq := by
  simp only [publish] <;>
    repeat' first | simp only [↓mk_acq, ↓publishAs_acq] | split | rfl

@[simp] theorem publish_bus (v0 v1 s) : (publish v0 v1 s).bus = s.bus := by
  simp only [publish] <;>
    repeat' first | simp only [↓mk_bus, ↓publishAs_bus] | split | rfl

@[simp] theorem publish_fus (v0 v1 s) : (publish v0 v1 s).fus = s.fus := by
  simp only [publish] <;>
    repeat' first | simp only [↓mk_fus, ↓publishAs_fus] | split | rfl

@[simp] theorem publish_obs (v0 v1 s) : (publish v0 v1 s).obs = s.obs := by
  simp only [publish] <;>
    repeat' first | simp only [↓mk_obs, ↓publishAs_obs] | split | rfl

@[simp] theorem publish_slv (v0 v1 s) : (publish v0 v1 s).slv = s.slv := by
  simp only [publish] <;>
    repeat' first | simp only [↓mk_slv, ↓publishAs_slv] | split | rfl

@[simp] theorem publish_ctl (v0 v1 s) : (publish v0 v1 s).ctl = s.ctl := by
  simp only [publish] <;>
    repeat' first | simp only [↓mk_ctl, ↓publishAs_ctl] | split | rfl

@[simp] theorem publish_thr (v0 v1 s) : (publish v0 v1 s).thr = s.thr := by
  simp only [publish] <;>
    repeat' first | simp only [↓mk_thr, ↓publishAs_thr] | split | rfl

@[simp] theorem publish_sch (v0 v1 s) : (publish v0 v1 s).sch = s.sch := by
  simp only [publish] <;>
    repeat' first | simp only [↓mk_sch, ↓publishAs_sch] | split | rfl

@[simp] theorem publish_grp (v0 v1 s) : (publish v0 v1 s).grp = s.grp := by
  simp only [publish] <;>
    repeat' first | simp only [↓mk_grp, ↓publishAs_grp] | split | rfl

@[simp] theorem publish_saf (v0 v1 s) : (publish v0 v1 s).saf = s.saf := by
  simp only [publish] <;>
    repeat' first | simp only [↓mk_saf, ↓publishAs_saf] | split | rfl

@[simp] theorem publish_mtr (v0 v1 s) : (publish v0 v1 s).mtr = s.mtr := by
  simp only [publish] <;>
    repeat' first | simp only [↓mk_mtr, ↓publishAs_mtr] | split | rfl

@[simp] theorem publish_out (v0 v1 s) : (publish v0 v1 s).out = s.out := by
  simp only [publish] <;>
    repeat' first | simp only [↓mk_out, ↓publishAs_out] | split | rfl

@[simp] theorem publish_fresh (v0 v1 s) : (publish v0 v1 s).fresh = s.fresh := by
  simp only [publish] <;>
    repeat' first | simp only [↓mk_fresh, ↓publishAs_fresh] | split | rfl

@[simp] theorem modChan_pending (v0 v1 s) : (modChan v0 v1 s).pending = s.pending := by
  simp only [modChan] <;>
    repeat' first | simp only [↓mk_pending] | split | rfl

@[simp] theorem modChan_time (v0 v1 s) : (modChan v0 v1 s).time = s.time := by
  simp only [modChan] <;>
    repeat' first | simp only [↓mk_time] | split | rfl

@[simp] theorem modChan_grid (v0 v1 s) : (modChan v0 v1 s).grid = s.grid := by
  simp only [modChan] <;>
    repeat' first | simp only [↓mk_grid] | split | rfl

@[simp] theorem modChan_cfg (v0 v1 s) : (modChan v0 v1 s).cfg = s.cfg := by
  simp only [modChan] <;>
    repeat' first | simp only [↓mk_cfg] | split | rfl

@[simp] theorem modChan_host (v0 v1 s) : (modChan v0 v1 s).host = s.host := by
  simp only [modChan] <;>
    repeat' first | simp only [↓mk_host] | split | rfl

@[simp] theorem modChan_evt (v0 v1 s) : (modChan v0 v1 s).evt = s.evt := by
  simp only [modChan] <;>
    repeat' first | simp only [↓mk_evt] | split | rfl

@[simp] theorem modChan_pwr (v0 v1 s) : (modChan v0 v1 s).pwr = s.pwr := by
  simp only [modChan] <;>
    repeat' first | simp only [↓mk_pwr] | split | rfl

@[simp] theorem modChan_sig (v0 v1 s) : (modChan v0 v1 s).sig = s.sig := by
  simp only [modChan] <;>
    repeat' first | simp only [↓mk_sig] | split | rfl

@[simp] theorem modChan_acq (v0 v1 s) : (modChan v0 v1 s).acq = s.acq := by
  simp only [modChan] <;>
    repeat' first | simp only [↓mk_acq] | split | rfl

@[simp] theorem modChan_bus (v0 v1 s) : (modChan v0 v1 s).bus = s.bus := by
  simp only [modChan] <;>
    repeat' first | simp only [↓mk_bus] | split | rfl

@[simp] theorem modChan_fus (v0 v1 s) : (modChan v0 v1 s).fus = s.fus := by
  simp only [modChan] <;>
    repeat' first | simp only [↓mk_fus] | split | rfl

@[simp] theorem modChan_obs (v0 v1 s) : (modChan v0 v1 s).obs = s.obs := by
  simp only [modChan] <;>
    repeat' first | simp only [↓mk_obs] | split | rfl

@[simp] theorem modChan_slv (v0 v1 s) : (modChan v0 v1 s).slv = s.slv := by
  simp only [modChan] <;>
    repeat' first | simp only [↓mk_slv] | split | rfl

@[simp] theorem modChan_ctl (v0 v1 s) : (modChan v0 v1 s).ctl = s.ctl := by
  simp only [modChan] <;>
    repeat' first | simp only [↓mk_ctl] | split | rfl

@[simp] theorem modChan_thr (v0 v1 s) : (modChan v0 v1 s).thr = s.thr := by
  simp only [modChan] <;>
    repeat' first | simp only [↓mk_thr] | split | rfl

@[simp] theorem modChan_sch (v0 v1 s) : (modChan v0 v1 s).sch = s.sch := by
  simp only [modChan] <;>
    repeat' first | simp only [↓mk_sch] | split | rfl

@[simp] theorem modChan_grp (v0 v1 s) : (modChan v0 v1 s).grp = s.grp := by
  simp only [modChan] <;>
    repeat' first | simp only [↓mk_grp] | split | rfl

@[simp] theorem modChan_saf (v0 v1 s) : (modChan v0 v1 s).saf = s.saf := by
  simp only [modChan] <;>
    repeat' first | simp only [↓mk_saf] | split | rfl

@[simp] theorem modChan_mtr (v0 v1 s) : (modChan v0 v1 s).mtr = s.mtr := by
  simp only [modChan] <;>
    repeat' first | simp only [↓mk_mtr] | split | rfl

@[simp] theorem modChan_out (v0 v1 s) : (modChan v0 v1 s).out = s.out := by
  simp only [modChan] <;>
    repeat' first | simp only [↓mk_out] | split | rfl

@[simp] theorem modChan_fresh (v0 v1 s) : (modChan v0 v1 s).fresh = s.fresh := by
  simp only [modChan] <;>
    repeat' first | simp only [↓mk_fresh] | split | rfl

@[simp] theorem modBand_pending (v0 v1 s) : (modBand v0 v1 s).pending = s.pending := by
  simp only [modBand] <;>
    repeat' first | simp only [↓mk_pending] | split | rfl

@[simp] theorem modBand_time (v0 v1 s) : (modBand v0 v1 s).time = s.time := by
  simp only [modBand] <;>
    repeat' first | simp only [↓mk_time] | split | rfl

@[simp] theorem modBand_grid (v0 v1 s) : (modBand v0 v1 s).grid = s.grid := by
  simp only [modBand] <;>
    repeat' first | simp only [↓mk_grid] | split | rfl

@[simp] theorem modBand_cfg (v0 v1 s) : (modBand v0 v1 s).cfg = s.cfg := by
  simp only [modBand] <;>
    repeat' first | simp only [↓mk_cfg] | split | rfl

@[simp] theorem modBand_host (v0 v1 s) : (modBand v0 v1 s).host = s.host := by
  simp only [modBand] <;>
    repeat' first | simp only [↓mk_host] | split | rfl

@[simp] theorem modBand_evt (v0 v1 s) : (modBand v0 v1 s).evt = s.evt := by
  simp only [modBand] <;>
    repeat' first | simp only [↓mk_evt] | split | rfl

@[simp] theorem modBand_pwr (v0 v1 s) : (modBand v0 v1 s).pwr = s.pwr := by
  simp only [modBand] <;>
    repeat' first | simp only [↓mk_pwr] | split | rfl

@[simp] theorem modBand_sig (v0 v1 s) : (modBand v0 v1 s).sig = s.sig := by
  simp only [modBand] <;>
    repeat' first | simp only [↓mk_sig] | split | rfl

@[simp] theorem modBand_acq (v0 v1 s) : (modBand v0 v1 s).acq = s.acq := by
  simp only [modBand] <;>
    repeat' first | simp only [↓mk_acq] | split | rfl

@[simp] theorem modBand_bus (v0 v1 s) : (modBand v0 v1 s).bus = s.bus := by
  simp only [modBand] <;>
    repeat' first | simp only [↓mk_bus] | split | rfl

@[simp] theorem modBand_fus (v0 v1 s) : (modBand v0 v1 s).fus = s.fus := by
  simp only [modBand] <;>
    repeat' first | simp only [↓mk_fus] | split | rfl

@[simp] theorem modBand_obs (v0 v1 s) : (modBand v0 v1 s).obs = s.obs := by
  simp only [modBand] <;>
    repeat' first | simp only [↓mk_obs] | split | rfl

@[simp] theorem modBand_slv (v0 v1 s) : (modBand v0 v1 s).slv = s.slv := by
  simp only [modBand] <;>
    repeat' first | simp only [↓mk_slv] | split | rfl

@[simp] theorem modBand_ctl (v0 v1 s) : (modBand v0 v1 s).ctl = s.ctl := by
  simp only [modBand] <;>
    repeat' first | simp only [↓mk_ctl] | split | rfl

@[simp] theorem modBand_thr (v0 v1 s) : (modBand v0 v1 s).thr = s.thr := by
  simp only [modBand] <;>
    repeat' first | simp only [↓mk_thr] | split | rfl

@[simp] theorem modBand_sch (v0 v1 s) : (modBand v0 v1 s).sch = s.sch := by
  simp only [modBand] <;>
    repeat' first | simp only [↓mk_sch] | split | rfl

@[simp] theorem modBand_grp (v0 v1 s) : (modBand v0 v1 s).grp = s.grp := by
  simp only [modBand] <;>
    repeat' first | simp only [↓mk_grp] | split | rfl

@[simp] theorem modBand_saf (v0 v1 s) : (modBand v0 v1 s).saf = s.saf := by
  simp only [modBand] <;>
    repeat' first | simp only [↓mk_saf] | split | rfl

@[simp] theorem modBand_mtr (v0 v1 s) : (modBand v0 v1 s).mtr = s.mtr := by
  simp only [modBand] <;>
    repeat' first | simp only [↓mk_mtr] | split | rfl

@[simp] theorem modBand_out (v0 v1 s) : (modBand v0 v1 s).out = s.out := by
  simp only [modBand] <;>
    repeat' first | simp only [↓mk_out] | split | rfl

@[simp] theorem modBand_fresh (v0 v1 s) : (modBand v0 v1 s).fresh = s.fresh := by
  simp only [modBand] <;>
    repeat' first | simp only [↓mk_fresh] | split | rfl

@[simp] theorem modAcq_pending (v0 v1 s) : (modAcq v0 v1 s).pending = s.pending := by
  simp only [modAcq] <;>
    repeat' first | simp only [↓mk_pending] | split | rfl

@[simp] theorem modAcq_time (v0 v1 s) : (modAcq v0 v1 s).time = s.time := by
  simp only [modAcq] <;>
    repeat' first | simp only [↓mk_time] | split | rfl

@[simp] theorem modAcq_grid (v0 v1 s) : (modAcq v0 v1 s).grid = s.grid := by
  simp only [modAcq] <;>
    repeat' first | simp only [↓mk_grid] | split | rfl

@[simp] theorem modAcq_cfg (v0 v1 s) : (modAcq v0 v1 s).cfg = s.cfg := by
  simp only [modAcq] <;>
    repeat' first | simp only [↓mk_cfg] | split | rfl

@[simp] theorem modAcq_host (v0 v1 s) : (modAcq v0 v1 s).host = s.host := by
  simp only [modAcq] <;>
    repeat' first | simp only [↓mk_host] | split | rfl

@[simp] theorem modAcq_evt (v0 v1 s) : (modAcq v0 v1 s).evt = s.evt := by
  simp only [modAcq] <;>
    repeat' first | simp only [↓mk_evt] | split | rfl

@[simp] theorem modAcq_pwr (v0 v1 s) : (modAcq v0 v1 s).pwr = s.pwr := by
  simp only [modAcq] <;>
    repeat' first | simp only [↓mk_pwr] | split | rfl

@[simp] theorem modAcq_sig (v0 v1 s) : (modAcq v0 v1 s).sig = s.sig := by
  simp only [modAcq] <;>
    repeat' first | simp only [↓mk_sig] | split | rfl

@[simp] theorem modAcq_gnss (v0 v1 s) : (modAcq v0 v1 s).gnss = s.gnss := by
  simp only [modAcq] <;>
    repeat' first | simp only [↓mk_gnss] | split | rfl

@[simp] theorem modAcq_bus (v0 v1 s) : (modAcq v0 v1 s).bus = s.bus := by
  simp only [modAcq] <;>
    repeat' first | simp only [↓mk_bus] | split | rfl

@[simp] theorem modAcq_fus (v0 v1 s) : (modAcq v0 v1 s).fus = s.fus := by
  simp only [modAcq] <;>
    repeat' first | simp only [↓mk_fus] | split | rfl

@[simp] theorem modAcq_obs (v0 v1 s) : (modAcq v0 v1 s).obs = s.obs := by
  simp only [modAcq] <;>
    repeat' first | simp only [↓mk_obs] | split | rfl

@[simp] theorem modAcq_slv (v0 v1 s) : (modAcq v0 v1 s).slv = s.slv := by
  simp only [modAcq] <;>
    repeat' first | simp only [↓mk_slv] | split | rfl

@[simp] theorem modAcq_ctl (v0 v1 s) : (modAcq v0 v1 s).ctl = s.ctl := by
  simp only [modAcq] <;>
    repeat' first | simp only [↓mk_ctl] | split | rfl

@[simp] theorem modAcq_thr (v0 v1 s) : (modAcq v0 v1 s).thr = s.thr := by
  simp only [modAcq] <;>
    repeat' first | simp only [↓mk_thr] | split | rfl

@[simp] theorem modAcq_sch (v0 v1 s) : (modAcq v0 v1 s).sch = s.sch := by
  simp only [modAcq] <;>
    repeat' first | simp only [↓mk_sch] | split | rfl

@[simp] theorem modAcq_grp (v0 v1 s) : (modAcq v0 v1 s).grp = s.grp := by
  simp only [modAcq] <;>
    repeat' first | simp only [↓mk_grp] | split | rfl

@[simp] theorem modAcq_saf (v0 v1 s) : (modAcq v0 v1 s).saf = s.saf := by
  simp only [modAcq] <;>
    repeat' first | simp only [↓mk_saf] | split | rfl

@[simp] theorem modAcq_mtr (v0 v1 s) : (modAcq v0 v1 s).mtr = s.mtr := by
  simp only [modAcq] <;>
    repeat' first | simp only [↓mk_mtr] | split | rfl

@[simp] theorem modAcq_out (v0 v1 s) : (modAcq v0 v1 s).out = s.out := by
  simp only [modAcq] <;>
    repeat' first | simp only [↓mk_out] | split | rfl

@[simp] theorem modAcq_fresh (v0 v1 s) : (modAcq v0 v1 s).fresh = s.fresh := by
  simp only [modAcq] <;>
    repeat' first | simp only [↓mk_fresh] | split | rfl

@[simp] theorem modEx_pending (v0 v1 s) : (modEx v0 v1 s).pending = s.pending := by
  simp only [modEx] <;>
    repeat' first | simp only [↓mk_pending] | split | rfl

@[simp] theorem modEx_grid (v0 v1 s) : (modEx v0 v1 s).grid = s.grid := by
  simp only [modEx] <;>
    repeat' first | simp only [↓mk_grid] | split | rfl

@[simp] theorem modEx_cfg (v0 v1 s) : (modEx v0 v1 s).cfg = s.cfg := by
  simp only [modEx] <;>
    repeat' first | simp only [↓mk_cfg] | split | rfl

@[simp] theorem modEx_host (v0 v1 s) : (modEx v0 v1 s).host = s.host := by
  simp only [modEx] <;>
    repeat' first | simp only [↓mk_host] | split | rfl

@[simp] theorem modEx_evt (v0 v1 s) : (modEx v0 v1 s).evt = s.evt := by
  simp only [modEx] <;>
    repeat' first | simp only [↓mk_evt] | split | rfl

@[simp] theorem modEx_pwr (v0 v1 s) : (modEx v0 v1 s).pwr = s.pwr := by
  simp only [modEx] <;>
    repeat' first | simp only [↓mk_pwr] | split | rfl

@[simp] theorem modEx_sig (v0 v1 s) : (modEx v0 v1 s).sig = s.sig := by
  simp only [modEx] <;>
    repeat' first | simp only [↓mk_sig] | split | rfl

@[simp] theorem modEx_gnss (v0 v1 s) : (modEx v0 v1 s).gnss = s.gnss := by
  simp only [modEx] <;>
    repeat' first | simp only [↓mk_gnss] | split | rfl

@[simp] theorem modEx_acq (v0 v1 s) : (modEx v0 v1 s).acq = s.acq := by
  simp only [modEx] <;>
    repeat' first | simp only [↓mk_acq] | split | rfl

@[simp] theorem modEx_bus (v0 v1 s) : (modEx v0 v1 s).bus = s.bus := by
  simp only [modEx] <;>
    repeat' first | simp only [↓mk_bus] | split | rfl

@[simp] theorem modEx_fus (v0 v1 s) : (modEx v0 v1 s).fus = s.fus := by
  simp only [modEx] <;>
    repeat' first | simp only [↓mk_fus] | split | rfl

@[simp] theorem modEx_obs (v0 v1 s) : (modEx v0 v1 s).obs = s.obs := by
  simp only [modEx] <;>
    repeat' first | simp only [↓mk_obs] | split | rfl

@[simp] theorem modEx_slv (v0 v1 s) : (modEx v0 v1 s).slv = s.slv := by
  simp only [modEx] <;>
    repeat' first | simp only [↓mk_slv] | split | rfl

@[simp] theorem modEx_ctl (v0 v1 s) : (modEx v0 v1 s).ctl = s.ctl := by
  simp only [modEx] <;>
    repeat' first | simp only [↓mk_ctl] | split | rfl

@[simp] theorem modEx_thr (v0 v1 s) : (modEx v0 v1 s).thr = s.thr := by
  simp only [modEx] <;>
    repeat' first | simp only [↓mk_thr] | split | rfl

@[simp] theorem modEx_sch (v0 v1 s) : (modEx v0 v1 s).sch = s.sch := by
  simp only [modEx] <;>
    repeat' first | simp only [↓mk_sch] | split | rfl

@[simp] theorem modEx_grp (v0 v1 s) : (modEx v0 v1 s).grp = s.grp := by
  simp only [modEx] <;>
    repeat' first | simp only [↓mk_grp] | split | rfl

@[simp] theorem modEx_saf (v0 v1 s) : (modEx v0 v1 s).saf = s.saf := by
  simp only [modEx] <;>
    repeat' first | simp only [↓mk_saf] | split | rfl

@[simp] theorem modEx_mtr (v0 v1 s) : (modEx v0 v1 s).mtr = s.mtr := by
  simp only [modEx] <;>
    repeat' first | simp only [↓mk_mtr] | split | rfl

@[simp] theorem modEx_out (v0 v1 s) : (modEx v0 v1 s).out = s.out := by
  simp only [modEx] <;>
    repeat' first | simp only [↓mk_out] | split | rfl

@[simp] theorem modEx_fresh (v0 v1 s) : (modEx v0 v1 s).fresh = s.fresh := by
  simp only [modEx] <;>
    repeat' first | simp only [↓mk_fresh] | split | rfl

@[simp] theorem modTrack_pending (v0 v1 s) : (modTrack v0 v1 s).pending = s.pending := by
  simp only [modTrack] <;>
    repeat' first | simp only [↓mk_pending] | split | rfl

@[simp] theorem modTrack_time (v0 v1 s) : (modTrack v0 v1 s).time = s.time := by
  simp only [modTrack] <;>
    repeat' first | simp only [↓mk_time] | split | rfl

@[simp] theorem modTrack_grid (v0 v1 s) : (modTrack v0 v1 s).grid = s.grid := by
  simp only [modTrack] <;>
    repeat' first | simp only [↓mk_grid] | split | rfl

@[simp] theorem modTrack_cfg (v0 v1 s) : (modTrack v0 v1 s).cfg = s.cfg := by
  simp only [modTrack] <;>
    repeat' first | simp only [↓mk_cfg] | split | rfl

@[simp] theorem modTrack_host (v0 v1 s) : (modTrack v0 v1 s).host = s.host := by
  simp only [modTrack] <;>
    repeat' first | simp only [↓mk_host] | split | rfl

@[simp] theorem modTrack_evt (v0 v1 s) : (modTrack v0 v1 s).evt = s.evt := by
  simp only [modTrack] <;>
    repeat' first | simp only [↓mk_evt] | split | rfl

@[simp] theorem modTrack_pwr (v0 v1 s) : (modTrack v0 v1 s).pwr = s.pwr := by
  simp only [modTrack] <;>
    repeat' first | simp only [↓mk_pwr] | split | rfl

@[simp] theorem modTrack_sig (v0 v1 s) : (modTrack v0 v1 s).sig = s.sig := by
  simp only [modTrack] <;>
    repeat' first | simp only [↓mk_sig] | split | rfl

@[simp] theorem modTrack_gnss (v0 v1 s) : (modTrack v0 v1 s).gnss = s.gnss := by
  simp only [modTrack] <;>
    repeat' first | simp only [↓mk_gnss] | split | rfl

@[simp] theorem modTrack_acq (v0 v1 s) : (modTrack v0 v1 s).acq = s.acq := by
  simp only [modTrack] <;>
    repeat' first | simp only [↓mk_acq] | split | rfl

@[simp] theorem modTrack_bus (v0 v1 s) : (modTrack v0 v1 s).bus = s.bus := by
  simp only [modTrack] <;>
    repeat' first | simp only [↓mk_bus] | split | rfl

@[simp] theorem modTrack_obs (v0 v1 s) : (modTrack v0 v1 s).obs = s.obs := by
  simp only [modTrack] <;>
    repeat' first | simp only [↓mk_obs] | split | rfl

@[simp] theorem modTrack_slv (v0 v1 s) : (modTrack v0 v1 s).slv = s.slv := by
  simp only [modTrack] <;>
    repeat' first | simp only [↓mk_slv] | split | rfl

@[simp] theorem modTrack_ctl (v0 v1 s) : (modTrack v0 v1 s).ctl = s.ctl := by
  simp only [modTrack] <;>
    repeat' first | simp only [↓mk_ctl] | split | rfl

@[simp] theorem modTrack_thr (v0 v1 s) : (modTrack v0 v1 s).thr = s.thr := by
  simp only [modTrack] <;>
    repeat' first | simp only [↓mk_thr] | split | rfl

@[simp] theorem modTrack_sch (v0 v1 s) : (modTrack v0 v1 s).sch = s.sch := by
  simp only [modTrack] <;>
    repeat' first | simp only [↓mk_sch] | split | rfl

@[simp] theorem modTrack_grp (v0 v1 s) : (modTrack v0 v1 s).grp = s.grp := by
  simp only [modTrack] <;>
    repeat' first | simp only [↓mk_grp] | split | rfl

@[simp] theorem modTrack_saf (v0 v1 s) : (modTrack v0 v1 s).saf = s.saf := by
  simp only [modTrack] <;>
    repeat' first | simp only [↓mk_saf] | split | rfl

@[simp] theorem modTrack_mtr (v0 v1 s) : (modTrack v0 v1 s).mtr = s.mtr := by
  simp only [modTrack] <;>
    repeat' first | simp only [↓mk_mtr] | split | rfl

@[simp] theorem modTrack_out (v0 v1 s) : (modTrack v0 v1 s).out = s.out := by
  simp only [modTrack] <;>
    repeat' first | simp only [↓mk_out] | split | rfl

@[simp] theorem modTrack_fresh (v0 v1 s) : (modTrack v0 v1 s).fresh = s.fresh := by
  simp only [modTrack] <;>
    repeat' first | simp only [↓mk_fresh] | split | rfl

@[simp] theorem modGroup_pending (v0 v1 s) : (modGroup v0 v1 s).pending = s.pending := by
  simp only [modGroup] <;>
    repeat' first | simp only [↓mk_pending] | split | rfl

@[simp] theorem modGroup_time (v0 v1 s) : (modGroup v0 v1 s).time = s.time := by
  simp only [modGroup] <;>
    repeat' first | simp only [↓mk_time] | split | rfl

@[simp] theorem modGroup_grid (v0 v1 s) : (modGroup v0 v1 s).grid = s.grid := by
  simp only [modGroup] <;>
    repeat' first | simp only [↓mk_grid] | split | rfl

@[simp] theorem modGroup_cfg (v0 v1 s) : (modGroup v0 v1 s).cfg = s.cfg := by
  simp only [modGroup] <;>
    repeat' first | simp only [↓mk_cfg] | split | rfl

@[simp] theorem modGroup_host (v0 v1 s) : (modGroup v0 v1 s).host = s.host := by
  simp only [modGroup] <;>
    repeat' first | simp only [↓mk_host] | split | rfl

@[simp] theorem modGroup_evt (v0 v1 s) : (modGroup v0 v1 s).evt = s.evt := by
  simp only [modGroup] <;>
    repeat' first | simp only [↓mk_evt] | split | rfl

@[simp] theorem modGroup_pwr (v0 v1 s) : (modGroup v0 v1 s).pwr = s.pwr := by
  simp only [modGroup] <;>
    repeat' first | simp only [↓mk_pwr] | split | rfl

@[simp] theorem modGroup_sig (v0 v1 s) : (modGroup v0 v1 s).sig = s.sig := by
  simp only [modGroup] <;>
    repeat' first | simp only [↓mk_sig] | split | rfl

@[simp] theorem modGroup_gnss (v0 v1 s) : (modGroup v0 v1 s).gnss = s.gnss := by
  simp only [modGroup] <;>
    repeat' first | simp only [↓mk_gnss] | split | rfl

@[simp] theorem modGroup_acq (v0 v1 s) : (modGroup v0 v1 s).acq = s.acq := by
  simp only [modGroup] <;>
    repeat' first | simp only [↓mk_acq] | split | rfl

@[simp] theorem modGroup_bus (v0 v1 s) : (modGroup v0 v1 s).bus = s.bus := by
  simp only [modGroup] <;>
    repeat' first | simp only [↓mk_bus] | split | rfl

@[simp] theorem modGroup_obs (v0 v1 s) : (modGroup v0 v1 s).obs = s.obs := by
  simp only [modGroup] <;>
    repeat' first | simp only [↓mk_obs] | split | rfl

@[simp] theorem modGroup_slv (v0 v1 s) : (modGroup v0 v1 s).slv = s.slv := by
  simp only [modGroup] <;>
    repeat' first | simp only [↓mk_slv] | split | rfl

@[simp] theorem modGroup_ctl (v0 v1 s) : (modGroup v0 v1 s).ctl = s.ctl := by
  simp only [modGroup] <;>
    repeat' first | simp only [↓mk_ctl] | split | rfl

@[simp] theorem modGroup_thr (v0 v1 s) : (modGroup v0 v1 s).thr = s.thr := by
  simp only [modGroup] <;>
    repeat' first | simp only [↓mk_thr] | split | rfl

@[simp] theorem modGroup_sch (v0 v1 s) : (modGroup v0 v1 s).sch = s.sch := by
  simp only [modGroup] <;>
    repeat' first | simp only [↓mk_sch] | split | rfl

@[simp] theorem modGroup_grp (v0 v1 s) : (modGroup v0 v1 s).grp = s.grp := by
  simp only [modGroup] <;>
    repeat' first | simp only [↓mk_grp] | split | rfl

@[simp] theorem modGroup_saf (v0 v1 s) : (modGroup v0 v1 s).saf = s.saf := by
  simp only [modGroup] <;>
    repeat' first | simp only [↓mk_saf] | split | rfl

@[simp] theorem modGroup_mtr (v0 v1 s) : (modGroup v0 v1 s).mtr = s.mtr := by
  simp only [modGroup] <;>
    repeat' first | simp only [↓mk_mtr] | split | rfl

@[simp] theorem modGroup_out (v0 v1 s) : (modGroup v0 v1 s).out = s.out := by
  simp only [modGroup] <;>
    repeat' first | simp only [↓mk_out] | split | rfl

@[simp] theorem modGroup_fresh (v0 v1 s) : (modGroup v0 v1 s).fresh = s.fresh := by
  simp only [modGroup] <;>
    repeat' first | simp only [↓mk_fresh] | split | rfl

@[simp] theorem setState_pending (v0 v1 s) : (setState v0 v1 s).pending = s.pending := by
  simp only [setState] <;>
    repeat' first | simp only [↓mk_pending] | split | rfl

@[simp] theorem setState_time (v0 v1 s) : (setState v0 v1 s).time = s.time := by
  simp only [setState] <;>
    repeat' first | simp only [↓mk_time] | split | rfl

@[simp] theorem setState_grid (v0 v1 s) : (setState v0 v1 s).grid = s.grid := by
  simp only [setState] <;>
    repeat' first | simp only [↓mk_grid] | split | rfl

@[simp] theorem setState_cfg (v0 v1 s) : (setState v0 v1 s).cfg = s.cfg := by
  simp only [setState] <;>
    repeat' first | simp only [↓mk_cfg] | split | rfl

@[simp] theorem setState_host (v0 v1 s) : (setState v0 v1 s).host = s.host := by
  simp only [setState] <;>
    repeat' first | simp only [↓mk_host] | split | rfl

@[simp] theorem setState_evt (v0 v1 s) : (setState v0 v1 s).evt = s.evt := by
  simp only [setState] <;>
    repeat' first | simp only [↓mk_evt] | split | rfl

@[simp] theorem setState_pwr (v0 v1 s) : (setState v0 v1 s).pwr = s.pwr := by
  simp only [setState] <;>
    repeat' first | simp only [↓mk_pwr] | split | rfl

@[simp] theorem setState_sig (v0 v1 s) : (setState v0 v1 s).sig = s.sig := by
  simp only [setState] <;>
    repeat' first | simp only [↓mk_sig] | split | rfl

@[simp] theorem setState_gnss (v0 v1 s) : (setState v0 v1 s).gnss = s.gnss := by
  simp only [setState] <;>
    repeat' first | simp only [↓mk_gnss] | split | rfl

@[simp] theorem setState_acq (v0 v1 s) : (setState v0 v1 s).acq = s.acq := by
  simp only [setState] <;>
    repeat' first | simp only [↓mk_acq] | split | rfl

@[simp] theorem setState_bus (v0 v1 s) : (setState v0 v1 s).bus = s.bus := by
  simp only [setState] <;>
    repeat' first | simp only [↓mk_bus] | split | rfl

@[simp] theorem setState_obs (v0 v1 s) : (setState v0 v1 s).obs = s.obs := by
  simp only [setState] <;>
    repeat' first | simp only [↓mk_obs] | split | rfl

@[simp] theorem setState_slv (v0 v1 s) : (setState v0 v1 s).slv = s.slv := by
  simp only [setState] <;>
    repeat' first | simp only [↓mk_slv] | split | rfl

@[simp] theorem setState_ctl (v0 v1 s) : (setState v0 v1 s).ctl = s.ctl := by
  simp only [setState] <;>
    repeat' first | simp only [↓mk_ctl] | split | rfl

@[simp] theorem setState_thr (v0 v1 s) : (setState v0 v1 s).thr = s.thr := by
  simp only [setState] <;>
    repeat' first | simp only [↓mk_thr] | split | rfl

@[simp] theorem setState_sch (v0 v1 s) : (setState v0 v1 s).sch = s.sch := by
  simp only [setState] <;>
    repeat' first | simp only [↓mk_sch] | split | rfl

@[simp] theorem setState_grp (v0 v1 s) : (setState v0 v1 s).grp = s.grp := by
  simp only [setState] <;>
    repeat' first | simp only [↓mk_grp] | split | rfl

@[simp] theorem setState_saf (v0 v1 s) : (setState v0 v1 s).saf = s.saf := by
  simp only [setState] <;>
    repeat' first | simp only [↓mk_saf] | split | rfl

@[simp] theorem setState_mtr (v0 v1 s) : (setState v0 v1 s).mtr = s.mtr := by
  simp only [setState] <;>
    repeat' first | simp only [↓mk_mtr] | split | rfl

@[simp] theorem setState_out (v0 v1 s) : (setState v0 v1 s).out = s.out := by
  simp only [setState] <;>
    repeat' first | simp only [↓mk_out] | split | rfl

@[simp] theorem setState_fresh (v0 v1 s) : (setState v0 v1 s).fresh = s.fresh := by
  simp only [setState] <;>
    repeat' first | simp only [↓mk_fresh] | split | rfl

@[simp] theorem setRef_pending (v0 v1 s) : (setRef v0 v1 s).pending = s.pending := by
  simp only [setRef] <;>
    repeat' first | simp only [↓mk_pending] | split | rfl

@[simp] theorem setRef_time (v0 v1 s) : (setRef v0 v1 s).time = s.time := by
  simp only [setRef] <;>
    repeat' first | simp only [↓mk_time] | split | rfl

@[simp] theorem setRef_grid (v0 v1 s) : (setRef v0 v1 s).grid = s.grid := by
  simp only [setRef] <;>
    repeat' first | simp only [↓mk_grid] | split | rfl

@[simp] theorem setRef_cfg (v0 v1 s) : (setRef v0 v1 s).cfg = s.cfg := by
  simp only [setRef] <;>
    repeat' first | simp only [↓mk_cfg] | split | rfl

@[simp] theorem setRef_host (v0 v1 s) : (setRef v0 v1 s).host = s.host := by
  simp only [setRef] <;>
    repeat' first | simp only [↓mk_host] | split | rfl

@[simp] theorem setRef_evt (v0 v1 s) : (setRef v0 v1 s).evt = s.evt := by
  simp only [setRef] <;>
    repeat' first | simp only [↓mk_evt] | split | rfl

@[simp] theorem setRef_pwr (v0 v1 s) : (setRef v0 v1 s).pwr = s.pwr := by
  simp only [setRef] <;>
    repeat' first | simp only [↓mk_pwr] | split | rfl

@[simp] theorem setRef_sig (v0 v1 s) : (setRef v0 v1 s).sig = s.sig := by
  simp only [setRef] <;>
    repeat' first | simp only [↓mk_sig] | split | rfl

@[simp] theorem setRef_gnss (v0 v1 s) : (setRef v0 v1 s).gnss = s.gnss := by
  simp only [setRef] <;>
    repeat' first | simp only [↓mk_gnss] | split | rfl

@[simp] theorem setRef_acq (v0 v1 s) : (setRef v0 v1 s).acq = s.acq := by
  simp only [setRef] <;>
    repeat' first | simp only [↓mk_acq] | split | rfl

@[simp] theorem setRef_bus (v0 v1 s) : (setRef v0 v1 s).bus = s.bus := by
  simp only [setRef] <;>
    repeat' first | simp only [↓mk_bus] | split | rfl

@[simp] theorem setRef_obs (v0 v1 s) : (setRef v0 v1 s).obs = s.obs := by
  simp only [setRef] <;>
    repeat' first | simp only [↓mk_obs] | split | rfl

@[simp] theorem setRef_slv (v0 v1 s) : (setRef v0 v1 s).slv = s.slv := by
  simp only [setRef] <;>
    repeat' first | simp only [↓mk_slv] | split | rfl

@[simp] theorem setRef_ctl (v0 v1 s) : (setRef v0 v1 s).ctl = s.ctl := by
  simp only [setRef] <;>
    repeat' first | simp only [↓mk_ctl] | split | rfl

@[simp] theorem setRef_thr (v0 v1 s) : (setRef v0 v1 s).thr = s.thr := by
  simp only [setRef] <;>
    repeat' first | simp only [↓mk_thr] | split | rfl

@[simp] theorem setRef_sch (v0 v1 s) : (setRef v0 v1 s).sch = s.sch := by
  simp only [setRef] <;>
    repeat' first | simp only [↓mk_sch] | split | rfl

@[simp] theorem setRef_grp (v0 v1 s) : (setRef v0 v1 s).grp = s.grp := by
  simp only [setRef] <;>
    repeat' first | simp only [↓mk_grp] | split | rfl

@[simp] theorem setRef_saf (v0 v1 s) : (setRef v0 v1 s).saf = s.saf := by
  simp only [setRef] <;>
    repeat' first | simp only [↓mk_saf] | split | rfl

@[simp] theorem setRef_mtr (v0 v1 s) : (setRef v0 v1 s).mtr = s.mtr := by
  simp only [setRef] <;>
    repeat' first | simp only [↓mk_mtr] | split | rfl

@[simp] theorem setRef_out (v0 v1 s) : (setRef v0 v1 s).out = s.out := by
  simp only [setRef] <;>
    repeat' first | simp only [↓mk_out] | split | rfl

@[simp] theorem setRef_fresh (v0 v1 s) : (setRef v0 v1 s).fresh = s.fresh := by
  simp only [setRef] <;>
    repeat' first | simp only [↓mk_fresh] | split | rfl

@[simp] theorem modXchk_pending (v0 v1 s) : (modXchk v0 v1 s).pending = s.pending := by
  simp only [modXchk] <;>
    repeat' first | simp only [↓mk_pending] | split | rfl

@[simp] theorem modXchk_time (v0 v1 s) : (modXchk v0 v1 s).time = s.time := by
  simp only [modXchk] <;>
    repeat' first | simp only [↓mk_time] | split | rfl

@[simp] theorem modXchk_grid (v0 v1 s) : (modXchk v0 v1 s).grid = s.grid := by
  simp only [modXchk] <;>
    repeat' first | simp only [↓mk_grid] | split | rfl

@[simp] theorem modXchk_cfg (v0 v1 s) : (modXchk v0 v1 s).cfg = s.cfg := by
  simp only [modXchk] <;>
    repeat' first | simp only [↓mk_cfg] | split | rfl

@[simp] theorem modXchk_host (v0 v1 s) : (modXchk v0 v1 s).host = s.host := by
  simp only [modXchk] <;>
    repeat' first | simp only [↓mk_host] | split | rfl

@[simp] theorem modXchk_evt (v0 v1 s) : (modXchk v0 v1 s).evt = s.evt := by
  simp only [modXchk] <;>
    repeat' first | simp only [↓mk_evt] | split | rfl

@[simp] theorem modXchk_pwr (v0 v1 s) : (modXchk v0 v1 s).pwr = s.pwr := by
  simp only [modXchk] <;>
    repeat' first | simp only [↓mk_pwr] | split | rfl

@[simp] theorem modXchk_sig (v0 v1 s) : (modXchk v0 v1 s).sig = s.sig := by
  simp only [modXchk] <;>
    repeat' first | simp only [↓mk_sig] | split | rfl

@[simp] theorem modXchk_gnss (v0 v1 s) : (modXchk v0 v1 s).gnss = s.gnss := by
  simp only [modXchk] <;>
    repeat' first | simp only [↓mk_gnss] | split | rfl

@[simp] theorem modXchk_acq (v0 v1 s) : (modXchk v0 v1 s).acq = s.acq := by
  simp only [modXchk] <;>
    repeat' first | simp only [↓mk_acq] | split | rfl

@[simp] theorem modXchk_bus (v0 v1 s) : (modXchk v0 v1 s).bus = s.bus := by
  simp only [modXchk] <;>
    repeat' first | simp only [↓mk_bus] | split | rfl

@[simp] theorem modXchk_fus (v0 v1 s) : (modXchk v0 v1 s).fus = s.fus := by
  simp only [modXchk] <;>
    repeat' first | simp only [↓mk_fus] | split | rfl

@[simp] theorem modXchk_slv (v0 v1 s) : (modXchk v0 v1 s).slv = s.slv := by
  simp only [modXchk] <;>
    repeat' first | simp only [↓mk_slv] | split | rfl

@[simp] theorem modXchk_ctl (v0 v1 s) : (modXchk v0 v1 s).ctl = s.ctl := by
  simp only [modXchk] <;>
    repeat' first | simp only [↓mk_ctl] | split | rfl

@[simp] theorem modXchk_thr (v0 v1 s) : (modXchk v0 v1 s).thr = s.thr := by
  simp only [modXchk] <;>
    repeat' first | simp only [↓mk_thr] | split | rfl

@[simp] theorem modXchk_sch (v0 v1 s) : (modXchk v0 v1 s).sch = s.sch := by
  simp only [modXchk] <;>
    repeat' first | simp only [↓mk_sch] | split | rfl

@[simp] theorem modXchk_grp (v0 v1 s) : (modXchk v0 v1 s).grp = s.grp := by
  simp only [modXchk] <;>
    repeat' first | simp only [↓mk_grp] | split | rfl

@[simp] theorem modXchk_saf (v0 v1 s) : (modXchk v0 v1 s).saf = s.saf := by
  simp only [modXchk] <;>
    repeat' first | simp only [↓mk_saf] | split | rfl

@[simp] theorem modXchk_mtr (v0 v1 s) : (modXchk v0 v1 s).mtr = s.mtr := by
  simp only [modXchk] <;>
    repeat' first | simp only [↓mk_mtr] | split | rfl

@[simp] theorem modXchk_out (v0 v1 s) : (modXchk v0 v1 s).out = s.out := by
  simp only [modXchk] <;>
    repeat' first | simp only [↓mk_out] | split | rfl

@[simp] theorem modXchk_fresh (v0 v1 s) : (modXchk v0 v1 s).fresh = s.fresh := by
  simp only [modXchk] <;>
    repeat' first | simp only [↓mk_fresh] | split | rfl

@[simp] theorem modPhys_pending (v0 s) : (modPhys v0 s).pending = s.pending := by
  simp only [modPhys] <;>
    repeat' first | simp only [↓mk_pending] | split | rfl

@[simp] theorem modPhys_time (v0 s) : (modPhys v0 s).time = s.time := by
  simp only [modPhys] <;>
    repeat' first | simp only [↓mk_time] | split | rfl

@[simp] theorem modPhys_grid (v0 s) : (modPhys v0 s).grid = s.grid := by
  simp only [modPhys] <;>
    repeat' first | simp only [↓mk_grid] | split | rfl

@[simp] theorem modPhys_cfg (v0 s) : (modPhys v0 s).cfg = s.cfg := by
  simp only [modPhys] <;>
    repeat' first | simp only [↓mk_cfg] | split | rfl

@[simp] theorem modPhys_host (v0 s) : (modPhys v0 s).host = s.host := by
  simp only [modPhys] <;>
    repeat' first | simp only [↓mk_host] | split | rfl

@[simp] theorem modPhys_evt (v0 s) : (modPhys v0 s).evt = s.evt := by
  simp only [modPhys] <;>
    repeat' first | simp only [↓mk_evt] | split | rfl

@[simp] theorem modPhys_pwr (v0 s) : (modPhys v0 s).pwr = s.pwr := by
  simp only [modPhys] <;>
    repeat' first | simp only [↓mk_pwr] | split | rfl

@[simp] theorem modPhys_sig (v0 s) : (modPhys v0 s).sig = s.sig := by
  simp only [modPhys] <;>
    repeat' first | simp only [↓mk_sig] | split | rfl

@[simp] theorem modPhys_gnss (v0 s) : (modPhys v0 s).gnss = s.gnss := by
  simp only [modPhys] <;>
    repeat' first | simp only [↓mk_gnss] | split | rfl

@[simp] theorem modPhys_acq (v0 s) : (modPhys v0 s).acq = s.acq := by
  simp only [modPhys] <;>
    repeat' first | simp only [↓mk_acq] | split | rfl

@[simp] theorem modPhys_bus (v0 s) : (modPhys v0 s).bus = s.bus := by
  simp only [modPhys] <;>
    repeat' first | simp only [↓mk_bus] | split | rfl

@[simp] theorem modPhys_fus (v0 s) : (modPhys v0 s).fus = s.fus := by
  simp only [modPhys] <;>
    repeat' first | simp only [↓mk_fus] | split | rfl

@[simp] theorem modPhys_slv (v0 s) : (modPhys v0 s).slv = s.slv := by
  simp only [modPhys] <;>
    repeat' first | simp only [↓mk_slv] | split | rfl

@[simp] theorem modPhys_ctl (v0 s) : (modPhys v0 s).ctl = s.ctl := by
  simp only [modPhys] <;>
    repeat' first | simp only [↓mk_ctl] | split | rfl

@[simp] theorem modPhys_thr (v0 s) : (modPhys v0 s).thr = s.thr := by
  simp only [modPhys] <;>
    repeat' first | simp only [↓mk_thr] | split | rfl

@[simp] theorem modPhys_sch (v0 s) : (modPhys v0 s).sch = s.sch := by
  simp only [modPhys] <;>
    repeat' first | simp only [↓mk_sch] | split | rfl

@[simp] theorem modPhys_grp (v0 s) : (modPhys v0 s).grp = s.grp := by
  simp only [modPhys] <;>
    repeat' first | simp only [↓mk_grp] | split | rfl

@[simp] theorem modPhys_saf (v0 s) : (modPhys v0 s).saf = s.saf := by
  simp only [modPhys] <;>
    repeat' first | simp only [↓mk_saf] | split | rfl

@[simp] theorem modPhys_mtr (v0 s) : (modPhys v0 s).mtr = s.mtr := by
  simp only [modPhys] <;>
    repeat' first | simp only [↓mk_mtr] | split | rfl

@[simp] theorem modPhys_out (v0 s) : (modPhys v0 s).out = s.out := by
  simp only [modPhys] <;>
    repeat' first | simp only [↓mk_out] | split | rfl

@[simp] theorem modPhys_fresh (v0 s) : (modPhys v0 s).fresh = s.fresh := by
  simp only [modPhys] <;>
    repeat' first | simp only [↓mk_fresh] | split | rfl

@[simp] theorem modThr_pending (v0 v1 s) : (modThr v0 v1 s).pending = s.pending := by
  simp only [modThr] <;>
    repeat' first | simp only [↓mk_pending] | split | rfl

@[simp] theorem modThr_time (v0 v1 s) : (modThr v0 v1 s).time = s.time := by
  simp only [modThr] <;>
    repeat' first | simp only [↓mk_time] | split | rfl

@[simp] theorem modThr_grid (v0 v1 s) : (modThr v0 v1 s).grid = s.grid := by
  simp only [modThr] <;>
    repeat' first | simp only [↓mk_grid] | split | rfl

@[simp] theorem modThr_cfg (v0 v1 s) : (modThr v0 v1 s).cfg = s.cfg := by
  simp only [modThr] <;>
    repeat' first | simp only [↓mk_cfg] | split | rfl

@[simp] theorem modThr_host (v0 v1 s) : (modThr v0 v1 s).host = s.host := by
  simp only [modThr] <;>
    repeat' first | simp only [↓mk_host] | split | rfl

@[simp] theorem modThr_evt (v0 v1 s) : (modThr v0 v1 s).evt = s.evt := by
  simp only [modThr] <;>
    repeat' first | simp only [↓mk_evt] | split | rfl

@[simp] theorem modThr_pwr (v0 v1 s) : (modThr v0 v1 s).pwr = s.pwr := by
  simp only [modThr] <;>
    repeat' first | simp only [↓mk_pwr] | split | rfl

@[simp] theorem modThr_sig (v0 v1 s) : (modThr v0 v1 s).sig = s.sig := by
  simp only [modThr] <;>
    repeat' first | simp only [↓mk_sig] | split | rfl

@[simp] theorem modThr_gnss (v0 v1 s) : (modThr v0 v1 s).gnss = s.gnss := by
  simp only [modThr] <;>
    repeat' first | simp only [↓mk_gnss] | split | rfl

@[simp] theorem modThr_acq (v0 v1 s) : (modThr v0 v1 s).acq = s.acq := by
  simp only [modThr] <;>
    repeat' first | simp only [↓mk_acq] | split | rfl

@[simp] theorem modThr_bus (v0 v1 s) : (modThr v0 v1 s).bus = s.bus := by
  simp only [modThr] <;>
    repeat' first | simp only [↓mk_bus] | split | rfl

@[simp] theorem modThr_fus (v0 v1 s) : (modThr v0 v1 s).fus = s.fus := by
  simp only [modThr] <;>
    repeat' first | simp only [↓mk_fus] | split | rfl

@[simp] theorem modThr_obs (v0 v1 s) : (modThr v0 v1 s).obs = s.obs := by
  simp only [modThr] <;>
    repeat' first | simp only [↓mk_obs] | split | rfl

@[simp] theorem modThr_slv (v0 v1 s) : (modThr v0 v1 s).slv = s.slv := by
  simp only [modThr] <;>
    repeat' first | simp only [↓mk_slv] | split | rfl

@[simp] theorem modThr_ctl (v0 v1 s) : (modThr v0 v1 s).ctl = s.ctl := by
  simp only [modThr] <;>
    repeat' first | simp only [↓mk_ctl] | split | rfl

@[simp] theorem modThr_sch (v0 v1 s) : (modThr v0 v1 s).sch = s.sch := by
  simp only [modThr] <;>
    repeat' first | simp only [↓mk_sch] | split | rfl

@[simp] theorem modThr_grp (v0 v1 s) : (modThr v0 v1 s).grp = s.grp := by
  simp only [modThr] <;>
    repeat' first | simp only [↓mk_grp] | split | rfl

@[simp] theorem modThr_saf (v0 v1 s) : (modThr v0 v1 s).saf = s.saf := by
  simp only [modThr] <;>
    repeat' first | simp only [↓mk_saf] | split | rfl

@[simp] theorem modThr_mtr (v0 v1 s) : (modThr v0 v1 s).mtr = s.mtr := by
  simp only [modThr] <;>
    repeat' first | simp only [↓mk_mtr] | split | rfl

@[simp] theorem modThr_out (v0 v1 s) : (modThr v0 v1 s).out = s.out := by
  simp only [modThr] <;>
    repeat' first | simp only [↓mk_out] | split | rfl

@[simp] theorem modThr_fresh (v0 v1 s) : (modThr v0 v1 s).fresh = s.fresh := by
  simp only [modThr] <;>
    repeat' first | simp only [↓mk_fresh] | split | rfl

@[simp] theorem modBrake_pending (v0 v1 s) : (modBrake v0 v1 s).pending = s.pending := by
  simp only [modBrake] <;>
    repeat' first | simp only [↓mk_pending] | split | rfl

@[simp] theorem modBrake_time (v0 v1 s) : (modBrake v0 v1 s).time = s.time := by
  simp only [modBrake] <;>
    repeat' first | simp only [↓mk_time] | split | rfl

@[simp] theorem modBrake_grid (v0 v1 s) : (modBrake v0 v1 s).grid = s.grid := by
  simp only [modBrake] <;>
    repeat' first | simp only [↓mk_grid] | split | rfl

@[simp] theorem modBrake_cfg (v0 v1 s) : (modBrake v0 v1 s).cfg = s.cfg := by
  simp only [modBrake] <;>
    repeat' first | simp only [↓mk_cfg] | split | rfl

@[simp] theorem modBrake_host (v0 v1 s) : (modBrake v0 v1 s).host = s.host := by
  simp only [modBrake] <;>
    repeat' first | simp only [↓mk_host] | split | rfl

@[simp] theorem modBrake_evt (v0 v1 s) : (modBrake v0 v1 s).evt = s.evt := by
  simp only [modBrake] <;>
    repeat' first | simp only [↓mk_evt] | split | rfl

@[simp] theorem modBrake_pwr (v0 v1 s) : (modBrake v0 v1 s).pwr = s.pwr := by
  simp only [modBrake] <;>
    repeat' first | simp only [↓mk_pwr] | split | rfl

@[simp] theorem modBrake_sig (v0 v1 s) : (modBrake v0 v1 s).sig = s.sig := by
  simp only [modBrake] <;>
    repeat' first | simp only [↓mk_sig] | split | rfl

@[simp] theorem modBrake_gnss (v0 v1 s) : (modBrake v0 v1 s).gnss = s.gnss := by
  simp only [modBrake] <;>
    repeat' first | simp only [↓mk_gnss] | split | rfl

@[simp] theorem modBrake_acq (v0 v1 s) : (modBrake v0 v1 s).acq = s.acq := by
  simp only [modBrake] <;>
    repeat' first | simp only [↓mk_acq] | split | rfl

@[simp] theorem modBrake_bus (v0 v1 s) : (modBrake v0 v1 s).bus = s.bus := by
  simp only [modBrake] <;>
    repeat' first | simp only [↓mk_bus] | split | rfl

@[simp] theorem modBrake_fus (v0 v1 s) : (modBrake v0 v1 s).fus = s.fus := by
  simp only [modBrake] <;>
    repeat' first | simp only [↓mk_fus] | split | rfl

@[simp] theorem modBrake_obs (v0 v1 s) : (modBrake v0 v1 s).obs = s.obs := by
  simp only [modBrake] <;>
    repeat' first | simp only [↓mk_obs] | split | rfl

@[simp] theorem modBrake_slv (v0 v1 s) : (modBrake v0 v1 s).slv = s.slv := by
  simp only [modBrake] <;>
    repeat' first | simp only [↓mk_slv] | split | rfl

@[simp] theorem modBrake_ctl (v0 v1 s) : (modBrake v0 v1 s).ctl = s.ctl := by
  simp only [modBrake] <;>
    repeat' first | simp only [↓mk_ctl] | split | rfl

@[simp] theorem modBrake_thr (v0 v1 s) : (modBrake v0 v1 s).thr = s.thr := by
  simp only [modBrake] <;>
    repeat' first | simp only [↓mk_thr] | split | rfl

@[simp] theorem modBrake_sch (v0 v1 s) : (modBrake v0 v1 s).sch = s.sch := by
  simp only [modBrake] <;>
    repeat' first | simp only [↓mk_sch] | split | rfl

@[simp] theorem modBrake_grp (v0 v1 s) : (modBrake v0 v1 s).grp = s.grp := by
  simp only [modBrake] <;>
    repeat' first | simp only [↓mk_grp] | split | rfl

@[simp] theorem modBrake_mtr (v0 v1 s) : (modBrake v0 v1 s).mtr = s.mtr := by
  simp only [modBrake] <;>
    repeat' first | simp only [↓mk_mtr] | split | rfl

@[simp] theorem modBrake_out (v0 v1 s) : (modBrake v0 v1 s).out = s.out := by
  simp only [modBrake] <;>
    repeat' first | simp only [↓mk_out] | split | rfl

@[simp] theorem modBrake_fresh (v0 v1 s) : (modBrake v0 v1 s).fresh = s.fresh := by
  simp only [modBrake] <;>
    repeat' first | simp only [↓mk_fresh] | split | rfl

@[simp] theorem modSat_pending (v0 v1 v2 s) : (modSat v0 v1 v2 s).pending = s.pending := by
  simp only [modSat] <;>
    repeat' first | simp only [↓mk_pending, ↓modThr_pending] | split | rfl

@[simp] theorem modSat_time (v0 v1 v2 s) : (modSat v0 v1 v2 s).time = s.time := by
  simp only [modSat] <;>
    repeat' first | simp only [↓mk_time, ↓modThr_time] | split | rfl

@[simp] theorem modSat_grid (v0 v1 v2 s) : (modSat v0 v1 v2 s).grid = s.grid := by
  simp only [modSat] <;>
    repeat' first | simp only [↓mk_grid, ↓modThr_grid] | split | rfl

@[simp] theorem modSat_cfg (v0 v1 v2 s) : (modSat v0 v1 v2 s).cfg = s.cfg := by
  simp only [modSat] <;>
    repeat' first | simp only [↓mk_cfg, ↓modThr_cfg] | split | rfl

@[simp] theorem modSat_host (v0 v1 v2 s) : (modSat v0 v1 v2 s).host = s.host := by
  simp only [modSat] <;>
    repeat' first | simp only [↓mk_host, ↓modThr_host] | split | rfl

@[simp] theorem modSat_evt (v0 v1 v2 s) : (modSat v0 v1 v2 s).evt = s.evt := by
  simp only [modSat] <;>
    repeat' first | simp only [↓mk_evt, ↓modThr_evt] | split | rfl

@[simp] theorem modSat_pwr (v0 v1 v2 s) : (modSat v0 v1 v2 s).pwr = s.pwr := by
  simp only [modSat] <;>
    repeat' first | simp only [↓mk_pwr, ↓modThr_pwr] | split | rfl

@[simp] theorem modSat_sig (v0 v1 v2 s) : (modSat v0 v1 v2 s).sig = s.sig := by
  simp only [modSat] <;>
    repeat' first | simp only [↓mk_sig, ↓modThr_sig] | split | rfl

@[simp] theorem modSat_gnss (v0 v1 v2 s) : (modSat v0 v1 v2 s).gnss = s.gnss := by
  simp only [modSat] <;>
    repeat' first | simp only [↓mk_gnss, ↓modThr_gnss] | split | rfl

@[simp] theorem modSat_acq (v0 v1 v2 s) : (modSat v0 v1 v2 s).acq = s.acq := by
  simp only [modSat] <;>
    repeat' first | simp only [↓mk_acq, ↓modThr_acq] | split | rfl

@[simp] theorem modSat_bus (v0 v1 v2 s) : (modSat v0 v1 v2 s).bus = s.bus := by
  simp only [modSat] <;>
    repeat' first | simp only [↓mk_bus, ↓modThr_bus] | split | rfl

@[simp] theorem modSat_fus (v0 v1 v2 s) : (modSat v0 v1 v2 s).fus = s.fus := by
  simp only [modSat] <;>
    repeat' first | simp only [↓mk_fus, ↓modThr_fus] | split | rfl

@[simp] theorem modSat_obs (v0 v1 v2 s) : (modSat v0 v1 v2 s).obs = s.obs := by
  simp only [modSat] <;>
    repeat' first | simp only [↓mk_obs, ↓modThr_obs] | split | rfl

@[simp] theorem modSat_slv (v0 v1 v2 s) : (modSat v0 v1 v2 s).slv = s.slv := by
  simp only [modSat] <;>
    repeat' first | simp only [↓mk_slv, ↓modThr_slv] | split | rfl

@[simp] theorem modSat_ctl (v0 v1 v2 s) : (modSat v0 v1 v2 s).ctl = s.ctl := by
  simp only [modSat] <;>
    repeat' first | simp only [↓mk_ctl, ↓modThr_ctl] | split | rfl

@[simp] theorem modSat_sch (v0 v1 v2 s) : (modSat v0 v1 v2 s).sch = s.sch := by
  simp only [modSat] <;>
    repeat' first | simp only [↓mk_sch, ↓modThr_sch] | split | rfl

@[simp] theorem modSat_grp (v0 v1 v2 s) : (modSat v0 v1 v2 s).grp = s.grp := by
  simp only [modSat] <;>
    repeat' first | simp only [↓mk_grp, ↓modThr_grp] | split | rfl

@[simp] theorem modSat_saf (v0 v1 v2 s) : (modSat v0 v1 v2 s).saf = s.saf := by
  simp only [modSat] <;>
    repeat' first | simp only [↓mk_saf, ↓modThr_saf] | split | rfl

@[simp] theorem modSat_mtr (v0 v1 v2 s) : (modSat v0 v1 v2 s).mtr = s.mtr := by
  simp only [modSat] <;>
    repeat' first | simp only [↓mk_mtr, ↓modThr_mtr] | split | rfl

@[simp] theorem modSat_out (v0 v1 v2 s) : (modSat v0 v1 v2 s).out = s.out := by
  simp only [modSat] <;>
    repeat' first | simp only [↓mk_out, ↓modThr_out] | split | rfl

@[simp] theorem modSat_fresh (v0 v1 v2 s) : (modSat v0 v1 v2 s).fresh = s.fresh := by
  simp only [modSat] <;>
    repeat' first | simp only [↓mk_fresh, ↓modThr_fresh] | split | rfl

@[simp] theorem modPeer_pending (v0 v1 s) : (modPeer v0 v1 s).pending = s.pending := by
  simp only [modPeer] <;>
    repeat' first | simp only [↓mk_pending] | split | rfl

@[simp] theorem modPeer_time (v0 v1 s) : (modPeer v0 v1 s).time = s.time := by
  simp only [modPeer] <;>
    repeat' first | simp only [↓mk_time] | split | rfl

@[simp] theorem modPeer_grid (v0 v1 s) : (modPeer v0 v1 s).grid = s.grid := by
  simp only [modPeer] <;>
    repeat' first | simp only [↓mk_grid] | split | rfl

@[simp] theorem modPeer_cfg (v0 v1 s) : (modPeer v0 v1 s).cfg = s.cfg := by
  simp only [modPeer] <;>
    repeat' first | simp only [↓mk_cfg] | split | rfl

@[simp] theorem modPeer_host (v0 v1 s) : (modPeer v0 v1 s).host = s.host := by
  simp only [modPeer] <;>
    repeat' first | simp only [↓mk_host] | split | rfl

@[simp] theorem modPeer_evt (v0 v1 s) : (modPeer v0 v1 s).evt = s.evt := by
  simp only [modPeer] <;>
    repeat' first | simp only [↓mk_evt] | split | rfl

@[simp] theorem modPeer_pwr (v0 v1 s) : (modPeer v0 v1 s).pwr = s.pwr := by
  simp only [modPeer] <;>
    repeat' first | simp only [↓mk_pwr] | split | rfl

@[simp] theorem modPeer_sig (v0 v1 s) : (modPeer v0 v1 s).sig = s.sig := by
  simp only [modPeer] <;>
    repeat' first | simp only [↓mk_sig] | split | rfl

@[simp] theorem modPeer_gnss (v0 v1 s) : (modPeer v0 v1 s).gnss = s.gnss := by
  simp only [modPeer] <;>
    repeat' first | simp only [↓mk_gnss] | split | rfl

@[simp] theorem modPeer_acq (v0 v1 s) : (modPeer v0 v1 s).acq = s.acq := by
  simp only [modPeer] <;>
    repeat' first | simp only [↓mk_acq] | split | rfl

@[simp] theorem modPeer_bus (v0 v1 s) : (modPeer v0 v1 s).bus = s.bus := by
  simp only [modPeer] <;>
    repeat' first | simp only [↓mk_bus] | split | rfl

@[simp] theorem modPeer_fus (v0 v1 s) : (modPeer v0 v1 s).fus = s.fus := by
  simp only [modPeer] <;>
    repeat' first | simp only [↓mk_fus] | split | rfl

@[simp] theorem modPeer_obs (v0 v1 s) : (modPeer v0 v1 s).obs = s.obs := by
  simp only [modPeer] <;>
    repeat' first | simp only [↓mk_obs] | split | rfl

@[simp] theorem modPeer_slv (v0 v1 s) : (modPeer v0 v1 s).slv = s.slv := by
  simp only [modPeer] <;>
    repeat' first | simp only [↓mk_slv] | split | rfl

@[simp] theorem modPeer_ctl (v0 v1 s) : (modPeer v0 v1 s).ctl = s.ctl := by
  simp only [modPeer] <;>
    repeat' first | simp only [↓mk_ctl] | split | rfl

@[simp] theorem modPeer_thr (v0 v1 s) : (modPeer v0 v1 s).thr = s.thr := by
  simp only [modPeer] <;>
    repeat' first | simp only [↓mk_thr] | split | rfl

@[simp] theorem modPeer_sch (v0 v1 s) : (modPeer v0 v1 s).sch = s.sch := by
  simp only [modPeer] <;>
    repeat' first | simp only [↓mk_sch] | split | rfl

@[simp] theorem modPeer_saf (v0 v1 s) : (modPeer v0 v1 s).saf = s.saf := by
  simp only [modPeer] <;>
    repeat' first | simp only [↓mk_saf] | split | rfl

@[simp] theorem modPeer_mtr (v0 v1 s) : (modPeer v0 v1 s).mtr = s.mtr := by
  simp only [modPeer] <;>
    repeat' first | simp only [↓mk_mtr] | split | rfl

@[simp] theorem modPeer_out (v0 v1 s) : (modPeer v0 v1 s).out = s.out := by
  simp only [modPeer] <;>
    repeat' first | simp only [↓mk_out] | split | rfl

@[simp] theorem modPeer_fresh (v0 v1 s) : (modPeer v0 v1 s).fresh = s.fresh := by
  simp only [modPeer] <;>
    repeat' first | simp only [↓mk_fresh] | split | rfl

@[simp] theorem sendArb_pending (v0 v1 v2 s) : (sendArb v0 v1 v2 s).pending = s.pending := by
  simp only [sendArb] <;>
    repeat' first | simp only [↓mk_pending, ↓emit_pending] | with_reducible refine (pending_foldl _ (fun s x => ?_) _ _).trans ?_ | split | rfl

@[simp] theorem sendArb_time (v0 v1 v2 s) : (sendArb v0 v1 v2 s).time = s.time := by
  simp only [sendArb] <;>
    repeat' first | simp only [↓mk_time, ↓emit_time] | with_reducible refine (time_foldl _ (fun s x => ?_) _ _).trans ?_ | split | rfl

@[simp] theorem sendArb_grid (v0 v1 v2 s) : (sendArb v0 v1 v2 s).grid = s.grid := by
  simp only [sendArb] <;>
    repeat' first | simp only [↓mk_grid, ↓emit_grid] | with_reducible refine (grid_foldl _ (fun s x => ?_) _ _).trans ?_ | split | rfl

@[simp] theorem sendArb_cfg (v0 v1 v2 s) : (sendArb v0 v1 v2 s).cfg = s.cfg := by
  simp only [sendArb] <;>
    repeat' first | simp only [↓mk_cfg, ↓emit_cfg] | with_reducible refine (cfg_foldl _ (fun s x => ?_) _ _).trans ?_ | split | rfl

@[simp] theorem sendArb_host (v0 v1 v2 s) : (sendArb v0 v1 v2 s).host = s.host := by
  simp only [sendArb] <;>
    repeat' first | simp only [↓mk_host, ↓emit_host] | with_reducible refine (host_foldl _ (fun s x => ?_) _ _).trans ?_ | split | rfl

@[simp] theorem sendArb_evt (v0 v1 v2 s) : (sendArb v0 v1 v2 s).evt = s.evt := by
  simp only [sendArb] <;>
    repeat' first | simp only [↓mk_evt, ↓emit_evt] | with_reducible refine (evt_foldl _ (fun s x => ?_) _ _).trans ?_ | split | rfl

@[simp] theorem sendArb_pwr (v0 v1 v2 s) : (sendArb v0 v1 v2 s).pwr = s.pwr := by
  simp only [sendArb] <;>
    repeat' first | simp only [↓mk_pwr, ↓emit_pwr] | with_reducible refine (pwr_foldl _ (fun s x => ?_) _ _).trans ?_ | split | rfl

@[simp] theorem sendArb_sig (v0 v1 v2 s) : (sendArb v0 v1 v2 s).sig = s.sig := by
  simp only [sendArb] <;>
    repeat' first | simp only [↓mk_sig, ↓emit_sig] | with_reducible refine (sig_foldl _ (fun s x => ?_) _ _).trans ?_ | split | rfl

@[simp] theorem sendArb_gnss (v0 v1 v2 s) : (sendArb v0 v1 v2 s).gnss = s.gnss := by
  simp only [sendArb] <;>
    repeat' first | simp only [↓mk_gnss, ↓emit_gnss] | with_reducible refine (gnss_foldl _ (fun s x => ?_) _ _).trans ?_ | split | rfl

@[simp] theorem sendArb_acq (v0 v1 v2 s) : (sendArb v0 v1 v2 s).acq = s.acq := by
  simp only [sendArb] <;>
    repeat' first | simp only [↓mk_acq, ↓emit_acq] | with_reducible refine (acq_foldl _ (fun s x => ?_) _ _).trans ?_ | split | rfl

@[simp] theorem sendArb_bus (v0 v1 v2 s) : (sendArb v0 v1 v2 s).bus = s.bus := by
  simp only [sendArb] <;>
    repeat' first | simp only [↓mk_bus, ↓emit_bus] | with_reducible refine (bus_foldl _ (fun s x => ?_) _ _).trans ?_ | split | rfl

@[simp] theorem sendArb_fus (v0 v1 v2 s) : (sendArb v0 v1 v2 s).fus = s.fus := by
  simp only [sendArb] <;>
    repeat' first | simp only [↓mk_fus, ↓emit_fus] | with_reducible refine (fus_foldl _ (fun s x => ?_) _ _).trans ?_ | split | rfl

@[simp] theorem sendArb_obs (v0 v1 v2 s) : (sendArb v0 v1 v2 s).obs = s.obs := by
  simp only [sendArb] <;>
    repeat' first | simp only [↓mk_obs, ↓emit_obs] | with_reducible refine (obs_foldl _ (fun s x => ?_) _ _).trans ?_ | split | rfl

@[simp] theorem sendArb_slv (v0 v1 v2 s) : (sendArb v0 v1 v2 s).slv = s.slv := by
  simp only [sendArb] <;>
    repeat' first | simp only [↓mk_slv, ↓emit_slv] | with_reducible refine (slv_foldl _ (fun s x => ?_) _ _).trans ?_ | split | rfl

@[simp] theorem sendArb_ctl (v0 v1 v2 s) : (sendArb v0 v1 v2 s).ctl = s.ctl := by
  simp only [sendArb] <;>
    repeat' first | simp only [↓mk_ctl, ↓emit_ctl] | with_reducible refine (ctl_foldl _ (fun s x => ?_) _ _).trans ?_ | split | rfl

@[simp] theorem sendArb_thr (v0 v1 v2 s) : (sendArb v0 v1 v2 s).thr = s.thr := by
  simp only [sendArb] <;>
    repeat' first | simp only [↓mk_thr, ↓emit_thr] | with_reducible refine (thr_foldl _ (fun s x => ?_) _ _).trans ?_ | split | rfl

@[simp] theorem sendArb_sch (v0 v1 v2 s) : (sendArb v0 v1 v2 s).sch = s.sch := by
  simp only [sendArb] <;>
    repeat' first | simp only [↓mk_sch, ↓emit_sch] | with_reducible refine (sch_foldl _ (fun s x => ?_) _ _).trans ?_ | split | rfl

@[simp] theorem sendArb_saf (v0 v1 v2 s) : (sendArb v0 v1 v2 s).saf = s.saf := by
  simp only [sendArb] <;>
    repeat' first | simp only [↓mk_saf, ↓emit_saf] | with_reducible refine (saf_foldl _ (fun s x => ?_) _ _).trans ?_ | split | rfl

@[simp] theorem sendArb_mtr (v0 v1 v2 s) : (sendArb v0 v1 v2 s).mtr = s.mtr := by
  simp only [sendArb] <;>
    repeat' first | simp only [↓mk_mtr, ↓emit_mtr] | with_reducible refine (mtr_foldl _ (fun s x => ?_) _ _).trans ?_ | split | rfl

@[simp] theorem sendArb_fresh (v0 v1 v2 s) : (sendArb v0 v1 v2 s).fresh = s.fresh := by
  simp only [sendArb] <;>
    repeat' first | simp only [↓mk_fresh, ↓emit_fresh] | with_reducible refine (fresh_foldl _ (fun s x => ?_) _ _).trans ?_ | split | rfl

@[simp] theorem modDisc_pending (v0 v1 s) : (modDisc v0 v1 s).pending = s.pending := by
  simp only [modDisc] <;>
    repeat' first | simp only [↓mk_pending] | split | rfl

@[simp] theorem modDisc_time (v0 v1 s) : (modDisc v0 v1 s).time = s.time := by
  simp only [modDisc] <;>
    repeat' first | simp only [↓mk_time] | split | rfl

@[simp] theorem modDisc_grid (v0 v1 s) : (modDisc v0 v1 s).grid = s.grid := by
  simp only [modDisc] <;>
    repeat' first | simp only [↓mk_grid] | split | rfl

@[simp] theorem modDisc_cfg (v0 v1 s) : (modDisc v0 v1 s).cfg = s.cfg := by
  simp only [modDisc] <;>
    repeat' first | simp only [↓mk_cfg] | split | rfl

@[simp] theorem modDisc_host (v0 v1 s) : (modDisc v0 v1 s).host = s.host := by
  simp only [modDisc] <;>
    repeat' first | simp only [↓mk_host] | split | rfl

@[simp] theorem modDisc_evt (v0 v1 s) : (modDisc v0 v1 s).evt = s.evt := by
  simp only [modDisc] <;>
    repeat' first | simp only [↓mk_evt] | split | rfl

@[simp] theorem modDisc_pwr (v0 v1 s) : (modDisc v0 v1 s).pwr = s.pwr := by
  simp only [modDisc] <;>
    repeat' first | simp only [↓mk_pwr] | split | rfl

@[simp] theorem modDisc_sig (v0 v1 s) : (modDisc v0 v1 s).sig = s.sig := by
  simp only [modDisc] <;>
    repeat' first | simp only [↓mk_sig] | split | rfl

@[simp] theorem modDisc_gnss (v0 v1 s) : (modDisc v0 v1 s).gnss = s.gnss := by
  simp only [modDisc] <;>
    repeat' first | simp only [↓mk_gnss] | split | rfl

@[simp] theorem modDisc_acq (v0 v1 s) : (modDisc v0 v1 s).acq = s.acq := by
  simp only [modDisc] <;>
    repeat' first | simp only [↓mk_acq] | split | rfl

@[simp] theorem modDisc_bus (v0 v1 s) : (modDisc v0 v1 s).bus = s.bus := by
  simp only [modDisc] <;>
    repeat' first | simp only [↓mk_bus] | split | rfl

@[simp] theorem modDisc_fus (v0 v1 s) : (modDisc v0 v1 s).fus = s.fus := by
  simp only [modDisc] <;>
    repeat' first | simp only [↓mk_fus] | split | rfl

@[simp] theorem modDisc_obs (v0 v1 s) : (modDisc v0 v1 s).obs = s.obs := by
  simp only [modDisc] <;>
    repeat' first | simp only [↓mk_obs] | split | rfl

@[simp] theorem modDisc_slv (v0 v1 s) : (modDisc v0 v1 s).slv = s.slv := by
  simp only [modDisc] <;>
    repeat' first | simp only [↓mk_slv] | split | rfl

@[simp] theorem modDisc_ctl (v0 v1 s) : (modDisc v0 v1 s).ctl = s.ctl := by
  simp only [modDisc] <;>
    repeat' first | simp only [↓mk_ctl] | split | rfl

@[simp] theorem modDisc_thr (v0 v1 s) : (modDisc v0 v1 s).thr = s.thr := by
  simp only [modDisc] <;>
    repeat' first | simp only [↓mk_thr] | split | rfl

@[simp] theorem modDisc_sch (v0 v1 s) : (modDisc v0 v1 s).sch = s.sch := by
  simp only [modDisc] <;>
    repeat' first | simp only [↓mk_sch] | split | rfl

@[simp] theorem modDisc_grp (v0 v1 s) : (modDisc v0 v1 s).grp = s.grp := by
  simp only [modDisc] <;>
    repeat' first | simp only [↓mk_grp] | split | rfl

@[simp] theorem modDisc_mtr (v0 v1 s) : (modDisc v0 v1 s).mtr = s.mtr := by
  simp only [modDisc] <;>
    repeat' first | simp only [↓mk_mtr] | split | rfl

@[simp] theorem modDisc_out (v0 v1 s) : (modDisc v0 v1 s).out = s.out := by
  simp only [modDisc] <;>
    repeat' first | simp only [↓mk_out] | split | rfl

@[simp] theorem modDisc_fresh (v0 v1 s) : (modDisc v0 v1 s).fresh = s.fresh := by
  simp only [modDisc] <;>
    repeat' first | simp only [↓mk_fresh] | split | rfl

@[simp] theorem modIn_pending (v0 v1 s) : (modIn v0 v1 s).pending = s.pending := by
  simp only [modIn] <;>
    repeat' first | simp only [↓mk_pending] | split | rfl

@[simp] theorem modIn_time (v0 v1 s) : (modIn v0 v1 s).time = s.time := by
  simp only [modIn] <;>
    repeat' first | simp only [↓mk_time] | split | rfl

@[simp] theorem modIn_grid (v0 v1 s) : (modIn v0 v1 s).grid = s.grid := by
  simp only [modIn] <;>
    repeat' first | simp only [↓mk_grid] | split | rfl

@[simp] theorem modIn_cfg (v0 v1 s) : (modIn v0 v1 s).cfg = s.cfg := by
  simp only [modIn] <;>
    repeat' first | simp only [↓mk_cfg] | split | rfl

@[simp] theorem modIn_host (v0 v1 s) : (modIn v0 v1 s).host = s.host := by
  simp only [modIn] <;>
    repeat' first | simp only [↓mk_host] | split | rfl

@[simp] theorem modIn_evt (v0 v1 s) : (modIn v0 v1 s).evt = s.evt := by
  simp only [modIn] <;>
    repeat' first | simp only [↓mk_evt] | split | rfl

@[simp] theorem modIn_pwr (v0 v1 s) : (modIn v0 v1 s).pwr = s.pwr := by
  simp only [modIn] <;>
    repeat' first | simp only [↓mk_pwr] | split | rfl

@[simp] theorem modIn_sig (v0 v1 s) : (modIn v0 v1 s).sig = s.sig := by
  simp only [modIn] <;>
    repeat' first | simp only [↓mk_sig] | split | rfl

@[simp] theorem modIn_gnss (v0 v1 s) : (modIn v0 v1 s).gnss = s.gnss := by
  simp only [modIn] <;>
    repeat' first | simp only [↓mk_gnss] | split | rfl

@[simp] theorem modIn_acq (v0 v1 s) : (modIn v0 v1 s).acq = s.acq := by
  simp only [modIn] <;>
    repeat' first | simp only [↓mk_acq] | split | rfl

@[simp] theorem modIn_bus (v0 v1 s) : (modIn v0 v1 s).bus = s.bus := by
  simp only [modIn] <;>
    repeat' first | simp only [↓mk_bus] | split | rfl

@[simp] theorem modIn_fus (v0 v1 s) : (modIn v0 v1 s).fus = s.fus := by
  simp only [modIn] <;>
    repeat' first | simp only [↓mk_fus] | split | rfl

@[simp] theorem modIn_obs (v0 v1 s) : (modIn v0 v1 s).obs = s.obs := by
  simp only [modIn] <;>
    repeat' first | simp only [↓mk_obs] | split | rfl

@[simp] theorem modIn_slv (v0 v1 s) : (modIn v0 v1 s).slv = s.slv := by
  simp only [modIn] <;>
    repeat' first | simp only [↓mk_slv] | split | rfl

@[simp] theorem modIn_ctl (v0 v1 s) : (modIn v0 v1 s).ctl = s.ctl := by
  simp only [modIn] <;>
    repeat' first | simp only [↓mk_ctl] | split | rfl

@[simp] theorem modIn_thr (v0 v1 s) : (modIn v0 v1 s).thr = s.thr := by
  simp only [modIn] <;>
    repeat' first | simp only [↓mk_thr] | split | rfl

@[simp] theorem modIn_sch (v0 v1 s) : (modIn v0 v1 s).sch = s.sch := by
  simp only [modIn] <;>
    repeat' first | simp only [↓mk_sch] | split | rfl

@[simp] theorem modIn_grp (v0 v1 s) : (modIn v0 v1 s).grp = s.grp := by
  simp only [modIn] <;>
    repeat' first | simp only [↓mk_grp] | split | rfl

@[simp] theorem modIn_mtr (v0 v1 s) : (modIn v0 v1 s).mtr = s.mtr := by
  simp only [modIn] <;>
    repeat' first | simp only [↓mk_mtr] | split | rfl

@[simp] theorem modIn_out (v0 v1 s) : (modIn v0 v1 s).out = s.out := by
  simp only [modIn] <;>
    repeat' first | simp only [↓mk_out] | split | rfl

@[simp] theorem modIn_fresh (v0 v1 s) : (modIn v0 v1 s).fresh = s.fresh := by
  simp only [modIn] <;>
    repeat' first | simp only [↓mk_fresh] | split | rfl

@[simp] theorem mtrLog_pending (v0 v1 v2 v3 v4 s) : (mtrLog v0 v1 v2 v3 v4 s).pending = s.pending := by
  simp only [mtrLog] <;>
    repeat' first | simp only [↓mk_pending] | split | rfl

@[simp] theorem mtrLog_time (v0 v1 v2 v3 v4 s) : (mtrLog v0 v1 v2 v3 v4 s).time = s.time := by
  simp only [mtrLog] <;>
    repeat' first | simp only [↓mk_time] | split | rfl

@[simp] theorem mtrLog_grid (v0 v1 v2 v3 v4 s) : (mtrLog v0 v1 v2 v3 v4 s).grid = s.grid := by
  simp only [mtrLog] <;>
    repeat' first | simp only [↓mk_grid] | split | rfl

@[simp] theorem mtrLog_cfg (v0 v1 v2 v3 v4 s) : (mtrLog v0 v1 v2 v3 v4 s).cfg = s.cfg := by
  simp only [mtrLog] <;>
    repeat' first | simp only [↓mk_cfg] | split | rfl

@[simp] theorem mtrLog_host (v0 v1 v2 v3 v4 s) : (mtrLog v0 v1 v2 v3 v4 s).host = s.host := by
  simp only [mtrLog] <;>
    repeat' first | simp only [↓mk_host] | split | rfl

@[simp] theorem mtrLog_evt (v0 v1 v2 v3 v4 s) : (mtrLog v0 v1 v2 v3 v4 s).evt = s.evt := by
  simp only [mtrLog] <;>
    repeat' first | simp only [↓mk_evt] | split | rfl

@[simp] theorem mtrLog_pwr (v0 v1 v2 v3 v4 s) : (mtrLog v0 v1 v2 v3 v4 s).pwr = s.pwr := by
  simp only [mtrLog] <;>
    repeat' first | simp only [↓mk_pwr] | split | rfl

@[simp] theorem mtrLog_sig (v0 v1 v2 v3 v4 s) : (mtrLog v0 v1 v2 v3 v4 s).sig = s.sig := by
  simp only [mtrLog] <;>
    repeat' first | simp only [↓mk_sig] | split | rfl

@[simp] theorem mtrLog_gnss (v0 v1 v2 v3 v4 s) : (mtrLog v0 v1 v2 v3 v4 s).gnss = s.gnss := by
  simp only [mtrLog] <;>
    repeat' first | simp only [↓mk_gnss] | split | rfl

@[simp] theorem mtrLog_acq (v0 v1 v2 v3 v4 s) : (mtrLog v0 v1 v2 v3 v4 s).acq = s.acq := by
  simp only [mtrLog] <;>
    repeat' first | simp only [↓mk_acq] | split | rfl

@[simp] theorem mtrLog_bus (v0 v1 v2 v3 v4 s) : (mtrLog v0 v1 v2 v3 v4 s).bus = s.bus := by
  simp only [mtrLog] <;>
    repeat' first | simp only [↓mk_bus] | split | rfl

@[simp] theorem mtrLog_fus (v0 v1 v2 v3 v4 s) : (mtrLog v0 v1 v2 v3 v4 s).fus = s.fus := by
  simp only [mtrLog] <;>
    repeat' first | simp only [↓mk_fus] | split | rfl

@[simp] theorem mtrLog_obs (v0 v1 v2 v3 v4 s) : (mtrLog v0 v1 v2 v3 v4 s).obs = s.obs := by
  simp only [mtrLog] <;>
    repeat' first | simp only [↓mk_obs] | split | rfl

@[simp] theorem mtrLog_slv (v0 v1 v2 v3 v4 s) : (mtrLog v0 v1 v2 v3 v4 s).slv = s.slv := by
  simp only [mtrLog] <;>
    repeat' first | simp only [↓mk_slv] | split | rfl

@[simp] theorem mtrLog_ctl (v0 v1 v2 v3 v4 s) : (mtrLog v0 v1 v2 v3 v4 s).ctl = s.ctl := by
  simp only [mtrLog] <;>
    repeat' first | simp only [↓mk_ctl] | split | rfl

@[simp] theorem mtrLog_thr (v0 v1 v2 v3 v4 s) : (mtrLog v0 v1 v2 v3 v4 s).thr = s.thr := by
  simp only [mtrLog] <;>
    repeat' first | simp only [↓mk_thr] | split | rfl

@[simp] theorem mtrLog_sch (v0 v1 v2 v3 v4 s) : (mtrLog v0 v1 v2 v3 v4 s).sch = s.sch := by
  simp only [mtrLog] <;>
    repeat' first | simp only [↓mk_sch] | split | rfl

@[simp] theorem mtrLog_grp (v0 v1 v2 v3 v4 s) : (mtrLog v0 v1 v2 v3 v4 s).grp = s.grp := by
  simp only [mtrLog] <;>
    repeat' first | simp only [↓mk_grp] | split | rfl

@[simp] theorem mtrLog_saf (v0 v1 v2 v3 v4 s) : (mtrLog v0 v1 v2 v3 v4 s).saf = s.saf := by
  simp only [mtrLog] <;>
    repeat' first | simp only [↓mk_saf] | split | rfl

@[simp] theorem mtrLog_out (v0 v1 v2 v3 v4 s) : (mtrLog v0 v1 v2 v3 v4 s).out = s.out := by
  simp only [mtrLog] <;>
    repeat' first | simp only [↓mk_out] | split | rfl

@[simp] theorem mtrLog_fresh (v0 v1 v2 v3 v4 s) : (mtrLog v0 v1 v2 v3 v4 s).fresh = s.fresh := by
  simp only [mtrLog] <;>
    repeat' first | simp only [↓mk_fresh] | split | rfl

@[simp] theorem mtrNote_pending (v0 s) : (mtrNote v0 s).pending = s.pending := by
  simp only [mtrNote] <;>
    repeat' first | simp only [↓mk_pending, ↓mtrLog_pending] | split | rfl

@[simp] theorem mtrNote_time (v0 s) : (mtrNote v0 s).time = s.time := by
  simp only [mtrNote] <;>
    repeat' first | simp only [↓mk_time, ↓mtrLog_time] | split | rfl

@[simp] theorem mtrNote_grid (v0 s) : (mtrNote v0 s).grid = s.grid := by
  simp only [mtrNote] <;>
    repeat' first | simp only [↓mk_grid, ↓mtrLog_grid] | split | rfl

@[simp] theorem mtrNote_cfg (v0 s) : (mtrNote v0 s).cfg = s.cfg := by
  simp only [mtrNote] <;>
    repeat' first | simp only [↓mk_cfg, ↓mtrLog_cfg] | split | rfl

@[simp] theorem mtrNote_host (v0 s) : (mtrNote v0 s).host = s.host := by
  simp only [mtrNote] <;>
    repeat' first | simp only [↓mk_host, ↓mtrLog_host] | split | rfl

@[simp] theorem mtrNote_evt (v0 s) : (mtrNote v0 s).evt = s.evt := by
  simp only [mtrNote] <;>
    repeat' first | simp only [↓mk_evt, ↓mtrLog_evt] | split | rfl

@[simp] theorem mtrNote_pwr (v0 s) : (mtrNote v0 s).pwr = s.pwr := by
  simp only [mtrNote] <;>
    repeat' first | simp only [↓mk_pwr, ↓mtrLog_pwr] | split | rfl

@[simp] theorem mtrNote_sig (v0 s) : (mtrNote v0 s).sig = s.sig := by
  simp only [mtrNote] <;>
    repeat' first | simp only [↓mk_sig, ↓mtrLog_sig] | split | rfl

@[simp] theorem mtrNote_gnss (v0 s) : (mtrNote v0 s).gnss = s.gnss := by
  simp only [mtrNote] <;>
    repeat' first | simp only [↓mk_gnss, ↓mtrLog_gnss] | split | rfl

@[simp] theorem mtrNote_acq (v0 s) : (mtrNote v0 s).acq = s.acq := by
  simp only [mtrNote] <;>
    repeat' first | simp only [↓mk_acq, ↓mtrLog_acq] | split | rfl

@[simp] theorem mtrNote_bus (v0 s) : (mtrNote v0 s).bus = s.bus := by
  simp only [mtrNote] <;>
    repeat' first | simp only [↓mk_bus, ↓mtrLog_bus] | split | rfl

@[simp] theorem mtrNote_fus (v0 s) : (mtrNote v0 s).fus = s.fus := by
  simp only [mtrNote] <;>
    repeat' first | simp only [↓mk_fus, ↓mtrLog_fus] | split | rfl

@[simp] theorem mtrNote_obs (v0 s) : (mtrNote v0 s).obs = s.obs := by
  simp only [mtrNote] <;>
    repeat' first | simp only [↓mk_obs, ↓mtrLog_obs] | split | rfl

@[simp] theorem mtrNote_slv (v0 s) : (mtrNote v0 s).slv = s.slv := by
  simp only [mtrNote] <;>
    repeat' first | simp only [↓mk_slv, ↓mtrLog_slv] | split | rfl

@[simp] theorem mtrNote_ctl (v0 s) : (mtrNote v0 s).ctl = s.ctl := by
  simp only [mtrNote] <;>
    repeat' first | simp only [↓mk_ctl, ↓mtrLog_ctl] | split | rfl

@[simp] theorem mtrNote_thr (v0 s) : (mtrNote v0 s).thr = s.thr := by
  simp only [mtrNote] <;>
    repeat' first | simp only [↓mk_thr, ↓mtrLog_thr] | split | rfl

@[simp] theorem mtrNote_sch (v0 s) : (mtrNote v0 s).sch = s.sch := by
  simp only [mtrNote] <;>
    repeat' first | simp only [↓mk_sch, ↓mtrLog_sch] | split | rfl

@[simp] theorem mtrNote_grp (v0 s) : (mtrNote v0 s).grp = s.grp := by
  simp only [mtrNote] <;>
    repeat' first | simp only [↓mk_grp, ↓mtrLog_grp] | split | rfl

@[simp] theorem mtrNote_saf (v0 s) : (mtrNote v0 s).saf = s.saf := by
  simp only [mtrNote] <;>
    repeat' first | simp only [↓mk_saf, ↓mtrLog_saf] | split | rfl

@[simp] theorem mtrNote_out (v0 s) : (mtrNote v0 s).out = s.out := by
  simp only [mtrNote] <;>
    repeat' first | simp only [↓mk_out, ↓mtrLog_out] | split | rfl

@[simp] theorem mtrNote_fresh (v0 s) : (mtrNote v0 s).fresh = s.fresh := by
  simp only [mtrNote] <;>
    repeat' first | simp only [↓mk_fresh, ↓mtrLog_fresh] | split | rfl

end Sys2Proof.Machine
end

