-- ==== Sys2Proof/Laws/Frame.lean ====
section
/-! SUPPORT. Frames: how `Only` is shown and how it composes. -/

namespace Sys2Proof.Machine

theorem Part.same_refl (p : Part) (s : State) : p.same s s := by cases p <;> rfl

theorem Part.same_trans (p : Part) (s t u : State) (h : p.same s t) (k : p.same t u) : p.same s u := by cases p <;> exact k.trans h

/-- Nothing changed. -/
theorem Only.refl {ps : List Part} {s : State} : Only ps s s := ⟨rfl, fun p _ => Part.same_refl p s⟩

/-- More may change. -/
theorem Only.mono {ps qs : List Part} {s t : State} (h : Only qs s t) (hq : ∀ p ∈ qs, p ∈ ps) : Only ps s t :=
  ⟨h.1, fun p hp => h.2 p fun hm => hp (hq p hm)⟩

theorem Only.trans {ps : List Part} {s t u : State} (h : Only ps s t) (k : Only ps t u) : Only ps s u :=
  ⟨k.1.trans h.1, fun p hp => Part.same_trans p s t u (h.2 p hp) (k.2 p hp)⟩

theorem Only.foldl {α : Type} {ps : List Part} {s g : State} (f : State → α → State) (h : Only ps s g) (hf : ∀ s x, Only ps s (f s x))
    (l : List α) : Only ps s (l.foldl f g) := by
  induction l generalizing g with
  | nil => exact h
  | cons x l ih => exact ih (h.trans (hf g x))

/-- Shown field by field. -/
theorem Only.fields {ps : List Part} {s t : State} (h0 : t.pending = s.pending)
    (h1 : .time ∈ ps ∨ t.time = s.time)
    (h2 : .grid ∈ ps ∨ t.grid = s.grid)
    (h3 : .cfg ∈ ps ∨ t.cfg = s.cfg)
    (h4 : .host ∈ ps ∨ t.host = s.host)
    (h5 : .evt ∈ ps ∨ t.evt = s.evt)
    (h6 : .pwr ∈ ps ∨ t.pwr = s.pwr)
    (h7 : .sig ∈ ps ∨ t.sig = s.sig)
    (h8 : .gnss ∈ ps ∨ t.gnss = s.gnss)
    (h9 : .acq ∈ ps ∨ t.acq = s.acq)
    (h10 : .bus ∈ ps ∨ t.bus = s.bus)
    (h11 : .fus ∈ ps ∨ t.fus = s.fus)
    (h12 : .obs ∈ ps ∨ t.obs = s.obs)
    (h13 : .slv ∈ ps ∨ t.slv = s.slv)
    (h14 : .ctl ∈ ps ∨ t.ctl = s.ctl)
    (h15 : .thr ∈ ps ∨ t.thr = s.thr)
    (h16 : .sch ∈ ps ∨ t.sch = s.sch)
    (h17 : .grp ∈ ps ∨ t.grp = s.grp)
    (h18 : .saf ∈ ps ∨ t.saf = s.saf)
    (h19 : .mtr ∈ ps ∨ t.mtr = s.mtr)
    (h20 : .out ∈ ps ∨ t.out = s.out)
    (h21 : .fresh ∈ ps ∨ t.fresh = s.fresh) : Only ps s t := by
  refine ⟨h0, fun p hp => ?_⟩
  cases p
  · exact h1.resolve_left hp
  · exact h2.resolve_left hp
  · exact h3.resolve_left hp
  · exact h4.resolve_left hp
  · exact h5.resolve_left hp
  · exact h6.resolve_left hp
  · exact h7.resolve_left hp
  · exact h8.resolve_left hp
  · exact h9.resolve_left hp
  · exact h10.resolve_left hp
  · exact h11.resolve_left hp
  · exact h12.resolve_left hp
  · exact h13.resolve_left hp
  · exact h14.resolve_left hp
  · exact h15.resolve_left hp
  · exact h16.resolve_left hp
  · exact h17.resolve_left hp
  · exact h18.resolve_left hp
  · exact h19.resolve_left hp
  · exact h20.resolve_left hp
  · exact h21.resolve_left hp

end Sys2Proof.Machine
end

