-- ==== Sys2Proof/Laws/Host.lean ====
section
/-! SUPPORT. The host conversation: what packet validation and the running of a command do, said once. -/

namespace Sys2Proof.Machine

/-- The command before its first step. -/
def waitingCmd (code cls n : Nat) (r : Req) (p : List Byte) (s : State) : Cmd := { cmdOf code cls n r p s with started := false }

/-- The state once the command is accepted, before its first step. -/
def accepted (code cls n : Nat) (r : Req) (p : List Byte) (s : State) : State :=
  let s1 := newEntry { entryOf code cls n r p s with state := .accepted } (heard code r p s)
  putTag r.session.toNat r.tag.toNat (.inFlight r.seq.toNat code cls s.host.nextEntry)
    { s1 with host := { s1.host with cmds := s1.host.cmds ++ [waitingCmd code cls n r p s] } }

theorem modSlot_host (n : Nat) (f : Session → Session) (s : State) :
    modSlot n f s = { s with host := (modSlot n f s).host } := by
  unfold modSlot; split <;> rfl

theorem modSlot_openSlot (n : Nat) (f : Session → Session) (s : State) (x : Session) (h : openSlot s n = some x) (hf : (f x).isOpen = true) :
    openSlot (modSlot n f s) n = some (f x) := by
  have hm : ∀ (l : List Session) (i : Nat), (modAt l i f)[i]? = l[i]?.map f := by
    intro l
    induction l with
    | nil => intro i; simp [modAt]
    | cons y ys ih => intro i; cases i with
      | zero => simp [modAt]
      | succ i => simpa [modAt] using ih i
  unfold openSlot slotNo at *
  unfold modSlot
  split at h
  · simp at h
  · rename_i hn
    rw [if_neg hn, if_neg hn]
    simp only [hm]
    cases hx : s.host.sessions[n - 1]? with
    | none => simp [hx] at h
    | some y =>
      rw [hx] at h
      simp only [Option.filter_some] at h
      split at h
      · cases h; simp [hf]
      · cases h

theorem modAt_modAt {α : Type} (f g : α → α) (l : List α) (i : Nat) : modAt (modAt l i f) i g = modAt l i (fun x => g (f x)) := by
  induction l generalizing i with
  | nil => rfl
  | cons y ys ih => cases i with
    | zero => rfl
    | succ i => simp [modAt, ih]

theorem modAt_congr {α : Type} (f g : α → α) (l : List α) (i : Nat) (h : ∀ y, l[i]? = some y → f y = g y) : modAt l i f = modAt l i g := by
  induction l generalizing i with
  | nil => rfl
  | cons y ys ih => cases i with
    | zero => simp [modAt, h y]
    | succ i => simp only [modAt]; rw [ih i (fun z hz => h z (by simpa using hz))]

theorem modSlot_modSlot (n : Nat) (f g : Session → Session) (s : State) : modSlot n g (modSlot n f s) = modSlot n (fun x => g (f x)) s := by
  unfold modSlot
  by_cases hn : n = 0
  · simp [hn]
  · simp [hn, modAt_modAt]

theorem modSlot_congr (n : Nat) (f g : Session → Session) (s : State) (x : Session) (h : openSlot s n = some x) (hx : f x = g x) :
    modSlot n f s = modSlot n g s := by
  unfold openSlot slotNo at h
  unfold modSlot
  by_cases hn : n = 0
  · simp [hn]
  · rw [if_neg hn] at h ⊢
    rw [if_neg hn, modAt_congr f g]
    intro y hy
    rw [hy] at h
    simp only [Option.filter_some] at h
    split at h
    · cases h; exact hx
    · cases h

theorem takeBuffer_openSlot (r : Req) (code : Nat) (p : List Byte) (s : State) (n : Nat) : openSlot (takeBuffer r code p s) n = openSlot s n := by
  unfold takeBuffer; repeat' first | rfl | split

theorem takeBuffer_keeps_time (r : Req) (code : Nat) (p : List Byte) (s : State) : (takeBuffer r code p s).time = s.time := by
  unfold takeBuffer; repeat' first | rfl | split

theorem takeBuffer_keeps_evt (r : Req) (code : Nat) (p : List Byte) (s : State) : (takeBuffer r code p s).evt = s.evt := by
  unfold takeBuffer; repeat' first | rfl | split

theorem takeBuffer_nextEntry (r : Req) (code : Nat) (p : List Byte) (s : State) : (takeBuffer r code p s).host.nextEntry = s.host.nextEntry := by
  unfold takeBuffer; repeat' first | rfl | split

theorem modSlot_keeps_time (n f s) : (modSlot n f s).time = s.time := by unfold modSlot; split <;> rfl

theorem modSlot_keeps_evt (n f s) : (modSlot n f s).evt = s.evt := by unfold modSlot; split <;> rfl

theorem modSlot_nextEntry (n f s) : (modSlot n f s).host.nextEntry = s.host.nextEntry := by unfold modSlot; split <;> rfl

/-- A packet that passes Table 02-3 as a new command is accepted and begins (R43, R44). -/
theorem packetIn_accepts (d : OpDef) (n : Nat) (r : Req) (p : List Byte) (s : State) (x : Session) (hd : d.code ≠ 0x0003)
    (h : Fresh d.code d.cls n r p s x) :
    packetIn true d r p s = runCmd d (if d.cls = 0 then 1 else r.burst) s.host.nextEntry (accepted d.code d.cls d.n r p s) := by
  obtain ⟨hread, ⟨hf0, hlast⟩, ⟨hlen, hlen2, htag, hcls⟩, ⟨hopen, hsrc, hep⟩, ⟨hauth, hc, hrole⟩, ⟨hq1, hq2⟩, ⟨hheld, hplace⟩, -, -, -⟩ := h
  have hopen' : openSlot (takeBuffer r d.code p s) r.session.toNat = some x := by rw [takeBuffer_openSlot, hopen]
  have hst : headerStatus r p = 0 := by
    unfold headerStatus
    rw [if_neg (by omega), if_neg (by rw [hc]; omega)]
  have hss : sessionStatus true d r p x = 0 := by
    unfold sessionStatus
    rw [if_neg (by simp [hep]), if_neg (by rcases hauth with a | a | a <;> simp [a]), if_neg (by simp), if_neg (by simp [hc]),
      if_neg (by omega)]
  unfold packetIn
  simp only [hread, hst, hss, hopen', hsrc, Bool.not_true, Bool.false_eq_true, if_false, ne_eq, not_true_eq_false, false_and, hd]
  generalize hseen : (fun y : Session => ({ y with retries := y.retries + b2n (isRetryPkt r), lastAt := if r.epoch.toNat = y.epoch then (takeBuffer r d.code p s).time.elapsed else y.lastAt } : Session)) = seen
  have hx2 : openSlot (modSlot r.session.toNat seen (takeBuffer r d.code p s)) r.session.toNat = some (seen x) := by
    refine modSlot_openSlot _ _ _ _ hopen' ?_
    have : x.isOpen = true := by
      have := hopen; unfold openSlot at this; exact (Option.filter_eq_some_iff.mp this).2
    subst hseen; exact this
  have hseq : seqD (seen x) r.seq = seqD x r.seq := by subst hseen; rfl
  have hh2 : tagHeld (seen x) r.tag.toNat = false := by subst hseen; exact hheld
  have hp2 : placeFree (seen x) r.cls.toNat = true := by subst hseen; rw [hc]; exact hplace
  rw [hx2, Option.getD_some]
  unfold bySequence
  rw [hseq, if_pos ⟨hq1, hq2⟩]
  unfold newCommand
  simp only [hlast, hf0, hh2, hp2, beq_self_eq_true, Bool.and_self, Bool.not_true, Bool.false_and, Bool.false_eq_true, if_false, if_true]
  have hheard : modSlot r.session.toNat (markSeq r.seq) (modSlot r.session.toNat seen (takeBuffer r d.code p s)) = heard d.code r p s := by
    unfold heard
    rw [modSlot_modSlot]
    refine modSlot_congr _ _ _ _ x hopen' ?_
    subst hseen
    simp only [hep, if_true, takeBuffer_keeps_time]
  rw [hheard]
  have ht : (heard d.code r p s).time = s.time := by unfold heard; rw [modSlot_keeps_time, takeBuffer_keeps_time]
  have he : (heard d.code r p s).evt = s.evt := by unfold heard; rw [modSlot_keeps_evt, takeBuffer_keeps_evt]
  have hn : (heard d.code r p s).host.nextEntry = s.host.nextEntry := by unfold heard; rw [modSlot_nextEntry, takeBuffer_nextEntry]
  have hnow : now (heard d.code r p s) = now s := by unfold now timeValid; rw [ht]
  unfold accept accepted waitingCmd entryOf cmdOf
  rw [hn, ht, he, hnow]
  rfl

theorem dropOldest_sub (s : State) (l : List JSlot) : ∀ j ∈ dropOldest s l, j ∈ l := by
  induction l with
  | nil => simp [dropOldest]
  | cons j js ih =>
    intro k hk
    unfold dropOldest at hk
    split at hk
    · rcases List.mem_cons.mp hk with rfl | h
      · exact List.mem_cons_self
      · exact List.mem_cons_of_mem _ (ih k h)
    · exact List.mem_cons_of_mem _ hk

theorem putTag_host (slot tag : Nat) (t : TagState) (s : State) :
    (putTag slot tag t s).host.cmds = s.host.cmds ∧ (putTag slot tag t s).host.journal = s.host.journal ∧
      (putTag slot tag t s).host.nextEntry = s.host.nextEntry ∧ (putTag slot tag t s).pwr = s.pwr := by
  unfold putTag modSlot; split <;> exact ⟨rfl, rfl, rfl, rfl⟩

theorem takeBuffer_host (r : Req) (code : Nat) (p : List Byte) (s : State) :
    (takeBuffer r code p s).host.cmds = s.host.cmds ∧ (takeBuffer r code p s).host.journal = s.host.journal ∧ (takeBuffer r code p s).pwr = s.pwr := by
  unfold takeBuffer; repeat' first | exact ⟨rfl, rfl, rfl⟩ | split

theorem heard_host (code : Nat) (r : Req) (p : List Byte) (s : State) :
    (heard code r p s).host.cmds = s.host.cmds ∧ (heard code r p s).host.journal = s.host.journal ∧ (heard code r p s).pwr = s.pwr := by
  have h := takeBuffer_host r code p s
  unfold heard modSlot
  split
  · exact h
  · exact h

theorem accepted_cmds (code cls n : Nat) (r : Req) (p : List Byte) (s : State) :
    (accepted code cls n r p s).host.cmds = s.host.cmds ++ [waitingCmd code cls n r p s] ∧ (accepted code cls n r p s).pwr = s.pwr := by
  unfold accepted
  simp only [putTag_host, newEntry, heard_host, and_self]

theorem find_append_last {α : Type} (q : α → Bool) (l : List α) (a : α) (h : ∀ d ∈ l, q d = false) (ha : q a = true) :
    (l ++ [a]).find? q = some a := by
  rw [List.find?_append, List.find?_eq_none.mpr (by simpa using h)]
  simp [ha]

/-- The command accepted is found in flight, not begun. -/
theorem accepted_find (code cls n m : Nat) (r : Req) (p : List Byte) (s : State) (x : Session) (h : Fresh code cls m r p s x) :
    findCmd (accepted code cls n r p s) s.host.nextEntry = some (waitingCmd code cls n r p s) := by
  unfold findCmd
  rw [(accepted_cmds ..).1]
  refine find_append_last _ _ _ ?_ (by simp [waitingCmd, cmdOf])
  intro d hd
  have := h.entry.1 d hd
  simp only [beq_eq_false_iff_ne]; omega

/-- It waits for no earlier command and no brown-out. -/
theorem accepted_unblocked (code cls n m : Nat) (r : Req) (p : List Byte) (s : State) (x : Session) (h : Fresh code cls m r p s x) :
    (blocked (objsOf code) objsOf (waitingCmd code cls n r p s) (accepted code cls n r p s) ||
      bowRaised (accepted code cls n r p s) && cls != 0) = false := by
  have hb : bowRaised (accepted code cls n r p s) = false := by
    have := h.power.1; unfold bowRaised at *; rw [(accepted_cmds ..).2]; exact this
  rw [hb, Bool.false_and, Bool.or_false]
  unfold blocked
  rw [(accepted_cmds ..).1]
  simp only [List.any_append, List.any_cons, List.any_nil, Bool.or_false, Bool.or_eq_false_iff]
  constructor
  · simp only [List.any_eq_false, Bool.and_eq_true, not_and, List.any_eq_true, not_exists, Bool.not_eq_true]
    intro d hd _ o ho o' ho'
    exact h.free d hd o ho _ rfl o' ho'
  · simp [waitingCmd, cmdOf]

theorem map_unchanged {α : Type} (f : α → α) (l : List α) (h : ∀ a ∈ l, f a = a) : l.map f = l := by
  induction l with
  | nil => rfl
  | cons a l ih => simp only [List.map_cons]; rw [h a List.mem_cons_self, ih (fun b hb => h b (List.mem_cons_of_mem _ hb))]

/-- Begun, it stands in the state in which its first step runs. -/
theorem accepted_started (code cls n m : Nat) (r : Req) (p : List Byte) (s : State) (x : Session) (h : Fresh code cls m r p s x) :
    modCmd s.host.nextEntry (fun c => { c with started := true })
      (modEntry s.host.nextEntry false (fun j => { j with state := .started }) (accepted code cls n r p s)) = admitted code cls n r p s := by
  have hc : ∀ d ∈ s.host.cmds, (if d.entry == s.host.nextEntry then { d with started := true } else d) = d := by
    intro d hd
    have := h.entry.1 d hd
    rw [if_neg]; simp only [beq_iff_eq]; omega
  have hj : ∀ old : List JSlot, (∀ j ∈ old, j ∈ s.host.journal) → ∀ j ∈ old, (if j.cur.entry == s.host.nextEntry then
      ({ cur := { j.cur with state := .started }, mram := j.mram } : JSlot) else j) = j := by
    intro old ho j hm
    have := h.entry.2 j (ho j hm)
    rw [if_neg]; simp only [beq_iff_eq]; omega
  have hold : ∀ j ∈ (if (heard code r p s).host.journal.length < 16384 then (heard code r p s).host.journal else dropOldest (heard code r p s) (heard code r p s).host.journal),
      j ∈ s.host.journal := by
    intro j hm
    split at hm
    · rw [(heard_host code r p s).2.1] at hm; exact hm
    · have := dropOldest_sub _ _ j hm; rw [(heard_host code r p s).2.1] at this; exact this
  have hmap := map_unchanged _ _ (hj _ hold)
  have hmapc := map_unchanged _ _ hc
  unfold accepted admitted putTag modSlot
  split <;>
  · simp only [modCmd, modEntry, newEntry, List.map_append, List.map_cons, List.map_nil, heard_host, hmapc] at hmap ⊢
    simp only [Bool.false_eq_true, if_false, waitingCmd, cmdOf, entryOf, beq_self_eq_true, if_true] at hmap ⊢
    rw [hmap]

/-- What one step of an accepted command does (R44, R45, R71): refused, committed, finished, aborted or waiting. -/
theorem runCmd_first (d : OpDef) (n b : Nat) (r : Req) (p : List Byte) (s : State) (x : Session) (h : Fresh d.code d.cls n r p s x) :
    runCmd d (b + 1) s.host.nextEntry (accepted d.code d.cls d.n r p s) =
      let e := s.host.nextEntry
      let c := cmdOf d.code d.cls d.n r p s
      let u := admitted d.code d.cls d.n r p s
      let st := d.check (waitingCmd d.code d.cls d.n r p s) (accepted d.code d.cls d.n r p s)
      if st ≠ 0 then endCmd c .aborted 0 st [] none u
      else match d.run c u with
        | .commit s' first =>
          runCmd d b e (modCmd e (fun c => { c with k := c.k + 1, busy := false, data := [] })
            (modEntry e true (fun j => { j with state := .partial_, k := 1, firstPeriod := first <|> j.firstPeriod }) s'))
        | .finish s' status reply first =>
          let s2 := endCmd ((findCmd s' e).getD c) .done d.n status reply first s'
          if d.code = 0x0005 then closeSession c.slot s2 else s2
        | .abort s' status =>
          let s2 := endCmd c .aborted 0 status [] none s'
          if status = stAuthFailed ∧ d.code = 0x0002 then closeSession c.slot s2 else s2
        | .wait s' data => modCmd e (fun c => { c with busy := true, data := data }) s' := by
  have hb := accepted_unblocked d.code d.cls d.n n r p s x h
  have hs := accepted_started d.code d.cls d.n n r p s x h
  conv_lhs => unfold runCmd
  rw [accepted_find d.code d.cls d.n n r p s x h]
  simp only
  have hop : (waitingCmd d.code d.cls d.n r p s).opcode = d.code := rfl
  have hcl : (waitingCmd d.code d.cls d.n r p s).cls = d.cls := rfl
  have hst : (waitingCmd d.code d.cls d.n r p s).started = false := rfl
  rw [hop, hcl, hb, hst]
  have hab : (waitingCmd d.code d.cls d.n r p s).abort = false := rfl
  simp only [hab, Bool.false_eq_true, if_false]
  rw [hs]
  rfl

/-- A command of one step without refusal or wait completes at once. -/
theorem packetIn_finishes (d : OpDef) (r : Req) (p : List Byte) (s : State) (x : Session) (hd : d.code ≠ 0x0003) (h5 : d.code ≠ 0x0005)
    (h : Fresh d.code d.cls d.n r p s x)
    (hcheck : d.check (waitingCmd d.code d.cls d.n r p s) (accepted d.code d.cls d.n r p s) = 0)
    (s' : State) (status : Nat) (reply : List Byte) (first : Option Nat)
    (hrun : d.run (cmdOf d.code d.cls d.n r p s) (admitted d.code d.cls d.n r p s) = .finish s' status reply first)
    (hcmd : findCmd s' s.host.nextEntry = findCmd (admitted d.code d.cls d.n r p s) s.host.nextEntry) :
    packetIn true d r p s = endCmd (cmdOf d.code d.cls d.n r p s) .done d.n status reply first s' := by
  have hb : (if d.cls = 0 then 1 else r.burst) = ((if d.cls = 0 then 1 else r.burst) - 1) + 1 := by
    have := h.power.2; split <;> omega
  have hf : findCmd (admitted d.code d.cls d.n r p s) s.host.nextEntry = some (cmdOf d.code d.cls d.n r p s) := by
    unfold findCmd
    have hcm : (admitted d.code d.cls d.n r p s).host.cmds = s.host.cmds ++ [cmdOf d.code d.cls d.n r p s] := by
      unfold admitted
      rw [(putTag_host ..).1]
      simp only [newEntry, (heard_host d.code r p s).1]
    rw [hcm]
    refine find_append_last _ _ _ ?_ (by simp [cmdOf])
    intro c hc
    have := h.entry.1 c hc
    simp only [beq_eq_false_iff_ne]; omega
  rw [packetIn_accepts d d.n r p s x hd h, hb, runCmd_first d d.n _ r p s x h]
  simp only [hcheck, hrun, ne_eq, not_true_eq_false, if_false, h5, hcmd, hf, Option.getD_some]

/-- A command that its checks refuse ends ABORTED with their status (R566). -/
theorem packetIn_refuses (d : OpDef) (r : Req) (p : List Byte) (s : State) (x : Session) (hd : d.code ≠ 0x0003)
    (h : Fresh d.code d.cls d.n r p s x) (st : Nat) (h0 : st ≠ 0)
    (hcheck : d.check (waitingCmd d.code d.cls d.n r p s) (accepted d.code d.cls d.n r p s) = st) :
    packetIn true d r p s = endCmd (cmdOf d.code d.cls d.n r p s) .aborted 0 st [] none (admitted d.code d.cls d.n r p s) := by
  have hb : (if d.cls = 0 then 1 else r.burst) = ((if d.cls = 0 then 1 else r.burst) - 1) + 1 := by
    have := h.power.2; split <;> omega
  rw [packetIn_accepts d d.n r p s x hd h, hb, runCmd_first d d.n _ r p s x h]
  simp only [hcheck, ne_eq, h0, not_false_eq_true, if_true]

end Sys2Proof.Machine
end

