-- ==== Sys2Proof/Laws/Island.lean ====
section
/-! SUPPORT. The operations and meanings that leave the metrology island alone: one equation for each. -/

namespace Sys2Proof.Machine

set_option maxRecDepth 20000
set_option linter.all false

theorem mtr_foldl2 {α β : Type} (f : β × State → α → β × State) (h : ∀ a x, (f a x).2.mtr = a.2.mtr) (l : List α) (a : β × State) :
    (l.foldl f a).2.mtr = a.2.mtr := by
  induction l generalizing a with
  | nil => rfl
  | cons x l ih => rw [List.foldl_cons, ih, h]

theorem mtr_stepOp (v0 v1 v2 v3) (h : ∀ c s, (stepState (v3 c s)).mtr = s.mtr) (c s) : (stepState ((stepOp v0 v1 v2 v3).run c s)).mtr = s.mtr := h c s

theorem mtr_readOp (v0 v1 v2 v3 v4 c s) : (stepState ((readOp v0 v1 v2 v3 v4).run c s)).mtr = s.mtr := by
  simp only [readOp] <;>
    repeat' first | simp only [stepState_commit, stepState_finish, stepState_abort, stepState_wait, ↓mk_mtr] | with_reducible refine (mtr_foldl _ (fun s x => ?_) _ _).trans ?_ | split | rfl

theorem mtr_opSessionPing (c s) : (stepState ((opSessionPing).run c s)).mtr = s.mtr := by
  simp only [opSessionPing, readOp] <;>
    repeat' first | simp only [stepState_commit, stepState_finish, stepState_abort, stepState_wait, ↓mk_mtr, ↓mtr_readOp] | with_reducible refine (mtr_foldl _ (fun s x => ?_) _ _).trans ?_ | split | rfl

theorem mtr_opSessionClose (c s) : (stepState ((opSessionClose).run c s)).mtr = s.mtr := by
  simp only [opSessionClose, readOp] <;>
    repeat' first | simp only [stepState_commit, stepState_finish, stepState_abort, stepState_wait, ↓mk_mtr, ↓mtr_readOp] | with_reducible refine (mtr_foldl _ (fun s x => ?_) _ _).trans ?_ | split | rfl

theorem mtr_opJournalList (c s) : (stepState ((opJournalList).run c s)).mtr = s.mtr := by
  simp only [opJournalList, readOp] <;>
    repeat' first | simp only [stepState_commit, stepState_finish, stepState_abort, stepState_wait, ↓mk_mtr, ↓mtr_readOp] | with_reducible refine (mtr_foldl _ (fun s x => ?_) _ _).trans ?_ | split | rfl

theorem mtr_emit (v0 s) : (emit v0 s).mtr = s.mtr := by
  simp only [emit] <;>
    repeat' first | simp only [↓mk_mtr] | with_reducible refine (mtr_foldl _ (fun s x => ?_) _ _).trans ?_ | split | rfl

theorem mtr_sendReply (v0 v1 s) : (sendReply v0 v1 s).mtr = s.mtr := by
  simp only [sendReply] <;>
    repeat' first | simp only [↓mk_mtr, ↓mtr_emit] | with_reducible refine (mtr_foldl _ (fun s x => ?_) _ _).trans ?_ | split | rfl

theorem mtr_modSlot (v0 v1 s) : (modSlot v0 v1 s).mtr = s.mtr := by
  simp only [modSlot] <;>
    repeat' first | simp only [↓mk_mtr] | with_reducible refine (mtr_foldl _ (fun s x => ?_) _ _).trans ?_ | split | rfl

theorem mtr_putTag (v0 v1 v2 s) : (putTag v0 v1 v2 s).mtr = s.mtr := by
  simp only [putTag] <;>
    repeat' first | simp only [↓mk_mtr, ↓mtr_modSlot] | with_reducible refine (mtr_foldl _ (fun s x => ?_) _ _).trans ?_ | split | rfl

theorem mtr_abandonTag (v0 v1 v2 s) : (abandonTag v0 v1 v2 s).mtr = s.mtr := by
  simp only [abandonTag] <;>
    repeat' first | simp only [↓mk_mtr, ↓mtr_putTag, ↓mtr_sendReply] | with_reducible refine (mtr_foldl _ (fun s x => ?_) _ _).trans ?_ | split | rfl

theorem mtr_countFailure (v0 s) : (countFailure v0 s).mtr = s.mtr := by
  simp only [countFailure] <;>
    repeat' first | simp only [↓mk_mtr] | with_reducible refine (mtr_foldl _ (fun s x => ?_) _ _).trans ?_ | split | rfl

theorem mtr_runResync (v0 s) : (stepState (runResync v0 s)).mtr = s.mtr := by
  simp only [runResync] <;>
    repeat' first | simp only [stepState_commit, stepState_finish, stepState_abort, stepState_wait, ↓mk_mtr, ↓mtr_countFailure, ↓mtr_abandonTag, ↓mtr_modSlot] | with_reducible refine (mtr_foldl _ (fun s x => ?_) _ _).trans ?_ | split | rfl

theorem mtr_opSessionResync (c s) : (stepState ((opSessionResync).run c s)).mtr = s.mtr := by
  simp only [opSessionResync, stepOp] <;>
    repeat' first | simp only [stepState_commit, stepState_finish, stepState_abort, stepState_wait, ↓mk_mtr, ↓mtr_runResync] | with_reducible refine (mtr_foldl _ (fun s x => ?_) _ _).trans ?_ | split | rfl

theorem mtr_modCmd (v0 v1 s) : (modCmd v0 v1 s).mtr = s.mtr := by
  simp only [modCmd] <;>
    repeat' first | simp only [↓mk_mtr] | with_reducible refine (mtr_foldl _ (fun s x => ?_) _ _).trans ?_ | split | rfl

theorem mtr_modEntry (v0 v1 v2 s) : (modEntry v0 v1 v2 s).mtr = s.mtr := by
  simp only [modEntry] <;>
    repeat' first | simp only [↓mk_mtr] | with_reducible refine (mtr_foldl _ (fun s x => ?_) _ _).trans ?_ | split | rfl

theorem mtr_sendReplies (v0 v1 v2 v3 s) : (sendReplies v0 v1 v2 v3 s).mtr = s.mtr := by
  simp only [sendReplies] <;>
    repeat' first | simp only [↓mk_mtr, ↓mtr_sendReply] | with_reducible refine (mtr_foldl _ (fun s x => ?_) _ _).trans ?_ | split | rfl

theorem mtr_sendFor (v0 v1 v2 s) : (sendFor v0 v1 v2 s).mtr = s.mtr := by
  simp only [sendFor] <;>
    repeat' first | simp only [↓mk_mtr, ↓mtr_sendReplies] | with_reducible refine (mtr_foldl _ (fun s x => ?_) _ _).trans ?_ | split | rfl

theorem mtr_endCmd (v0 v1 v2 v3 v4 v5 s) : (endCmd v0 v1 v2 v3 v4 v5 s).mtr = s.mtr := by
  simp only [endCmd] <;>
    repeat' first | simp only [↓mk_mtr, ↓mtr_modEntry, ↓mtr_sendFor, ↓mtr_putTag, ↓mtr_modSlot] | with_reducible refine (mtr_foldl _ (fun s x => ?_) _ _).trans ?_ | split | rfl

theorem mtr_runAbort (v0 s) : (stepState (runAbort v0 s)).mtr = s.mtr := by
  simp only [runAbort] <;>
    repeat' first | simp only [stepState_commit, stepState_finish, stepState_abort, stepState_wait, ↓mk_mtr, ↓mtr_abandonTag, ↓mtr_modCmd, ↓mtr_endCmd] | with_reducible refine (mtr_foldl _ (fun s x => ?_) _ _).trans ?_ | split | rfl

theorem mtr_opTagAbort (c s) : (stepState ((opTagAbort).run c s)).mtr = s.mtr := by
  simp only [opTagAbort, stepOp] <;>
    repeat' first | simp only [stepState_commit, stepState_finish, stepState_abort, stepState_wait, ↓mk_mtr, ↓mtr_runAbort] | with_reducible refine (mtr_foldl _ (fun s x => ?_) _ _).trans ?_ | split | rfl

theorem mtr_opJournalRejects (c s) : (stepState ((opJournalRejects).run c s)).mtr = s.mtr := by
  simp only [opJournalRejects, readOp] <;>
    repeat' first | simp only [stepState_commit, stepState_finish, stepState_abort, stepState_wait, ↓mk_mtr, ↓mtr_readOp] | with_reducible refine (mtr_foldl _ (fun s x => ?_) _ _).trans ?_ | split | rfl

theorem mtr_runAuth (v0 s) : (stepState (runAuth v0 s)).mtr = s.mtr := by
  simp only [runAuth] <;>
    repeat' first | simp only [stepState_commit, stepState_finish, stepState_abort, stepState_wait, ↓mk_mtr, ↓mtr_countFailure, ↓mtr_modSlot] | with_reducible refine (mtr_foldl _ (fun s x => ?_) _ _).trans ?_ | split | rfl

theorem mtr_opSessionAuth (c s) : (stepState ((opSessionAuth).run c s)).mtr = s.mtr := by
  simp only [opSessionAuth, stepOp] <;>
    repeat' first | simp only [stepState_commit, stepState_finish, stepState_abort, stepState_wait, ↓mk_mtr, ↓mtr_runAuth] | with_reducible refine (mtr_foldl _ (fun s x => ?_) _ _).trans ?_ | split | rfl

theorem mtr_opJournalQuery (c s) : (stepState ((opJournalQuery).run c s)).mtr = s.mtr := by
  simp only [opJournalQuery, readOp] <;>
    repeat' first | simp only [stepState_commit, stepState_finish, stepState_abort, stepState_wait, ↓mk_mtr, ↓mtr_readOp] | with_reducible refine (mtr_foldl _ (fun s x => ?_) _ _).trans ?_ | split | rfl

theorem mtr_keepRtcm (v0 s) : (keepRtcm v0 s).mtr = s.mtr := by
  simp only [keepRtcm] <;>
    repeat' first | simp only [↓mk_mtr] | with_reducible refine (mtr_foldl _ (fun s x => ?_) _ _).trans ?_ | split | rfl

theorem mtr_pushRec (v0 v1 v2 s) : (pushRec v0 v1 v2 s).mtr = s.mtr := by
  simp only [pushRec] <;>
    repeat' first | simp only [↓mk_mtr] | with_reducible refine (mtr_foldl _ (fun s x => ?_) _ _).trans ?_ | split | rfl

theorem mtr_record (v0 v1 s) : (record v0 v1 s).mtr = s.mtr := by
  simp only [record] <;>
    repeat' first | simp only [↓mk_mtr, ↓mtr_pushRec] | with_reducible refine (mtr_foldl _ (fun s x => ?_) _ _).trans ?_ | split | rfl

theorem mtr_useBase (v0 v1 s) : (useBase v0 v1 s).mtr = s.mtr := by
  simp only [useBase] <;>
    repeat' first | simp only [↓mk_mtr, ↓mtr_record] | with_reducible refine (mtr_foldl _ (fun s x => ?_) _ _).trans ?_ | split | rfl

theorem mtr_takeFrame (v0 s) : (takeFrame v0 s).mtr = s.mtr := by
  simp only [takeFrame] <;>
    repeat' first | simp only [↓mk_mtr, ↓mtr_useBase] | with_reducible refine (mtr_foldl _ (fun s x => ?_) _ _).trans ?_ | split | rfl

theorem mtr_takeFrames (v0 v1 s v3 v4) : (takeFrames v0 v1 s v3 v4).1.mtr = s.mtr := by
  induction v0 generalizing v1 s v3 v4 with
  | zero => rfl
  | succ k ih =>
    unfold takeFrames
    repeat' first | rfl | (rw [ih]; done) | (rw [ih, mtr_keepRtcm, mtr_takeFrame]; done) | split

theorem mtr_opRtcmInput (c s) : (stepState ((opRtcmInput).run c s)).mtr = s.mtr := by
  simp only [opRtcmInput, stepOp] <;>
    repeat' first | simp only [stepState_commit, stepState_finish, stepState_abort, stepState_wait, ↓mk_mtr, ↓mtr_takeFrames] | with_reducible refine (mtr_foldl _ (fun s x => ?_) _ _).trans ?_ | split | rfl

theorem mtr_opGnssStatus (c s) : (stepState ((opGnssStatus).run c s)).mtr = s.mtr := by
  simp only [opGnssStatus, readOp] <;>
    repeat' first | simp only [stepState_commit, stepState_finish, stepState_abort, stepState_wait, ↓mk_mtr, ↓mtr_readOp] | with_reducible refine (mtr_foldl _ (fun s x => ?_) _ _).trans ?_ | split | rfl

theorem mtr_opNavBitsRead (c s) : (stepState ((opNavBitsRead).run c s)).mtr = s.mtr := by
  simp only [opNavBitsRead, readOp] <;>
    repeat' first | simp only [stepState_commit, stepState_finish, stepState_abort, stepState_wait, ↓mk_mtr, ↓mtr_readOp] | with_reducible refine (mtr_foldl _ (fun s x => ?_) _ _).trans ?_ | split | rfl

theorem mtr_opGnssRawRead (c s) : (stepState ((opGnssRawRead).run c s)).mtr = s.mtr := by
  simp only [opGnssRawRead, readOp] <;>
    repeat' first | simp only [stepState_commit, stepState_finish, stepState_abort, stepState_wait, ↓mk_mtr, ↓mtr_readOp] | with_reducible refine (mtr_foldl _ (fun s x => ?_) _ _).trans ?_ | split | rfl

theorem mtr_opEvtInfo (c s) : (stepState ((opEvtInfo).run c s)).mtr = s.mtr := by
  simp only [opEvtInfo, readOp] <;>
    repeat' first | simp only [stepState_commit, stepState_finish, stepState_abort, stepState_wait, ↓mk_mtr, ↓mtr_readOp] | with_reducible refine (mtr_foldl _ (fun s x => ?_) _ _).trans ?_ | split | rfl

theorem mtr_clearEvents (v0 s) : (clearEvents v0 s).mtr = s.mtr := by
  simp only [clearEvents] <;>
    repeat' first | simp only [↓mk_mtr, ↓mtr_record] | with_reducible refine (mtr_foldl _ (fun s x => ?_) _ _).trans ?_ | split | rfl

theorem mtr_opEvtClear (c s) : (stepState ((opEvtClear).run c s)).mtr = s.mtr := by
  simp only [opEvtClear, stepOp] <;>
    repeat' first | simp only [stepState_commit, stepState_finish, stepState_abort, stepState_wait, ↓mk_mtr, ↓mtr_clearEvents] | with_reducible refine (mtr_foldl _ (fun s x => ?_) _ _).trans ?_ | split | rfl

theorem mtr_meetBad (s v1) : (meetBad s v1).mtr = s.mtr := by
  simp only [meetBad] <;>
    repeat' first | simp only [↓mk_mtr, ↓mtr_record] | with_reducible refine (mtr_foldl _ (fun s x => ?_) _ _).trans ?_ | split | rfl

theorem mtr_meetExamined (v0 s) : (meetExamined v0 s).mtr = s.mtr := by
  simp only [meetExamined] <;>
    repeat' first | simp only [↓mk_mtr, ↓mtr_meetBad] | with_reducible refine (mtr_foldl _ (fun s x => ?_) _ _).trans ?_ | split | rfl

theorem mtr_opEvtRead (c s) : (stepState (opEvtRead.run c s)).mtr = s.mtr := by
  have h (a b k) (f : Cmd → State → StepRes) : (stepOp a b k f).run = f := rfl
  rw [show opEvtRead.run = _ from h _ _ _ _, stepState_finish, mtr_meetExamined]

theorem mtr_drainPort (v0 s v2) : (drainPort v0 s v2).mtr = s.mtr := by
  induction v0 generalizing s with
  | zero => rfl
  | succ n ih =>
    simp only [drainPort]
    split
    · split
      · rfl
      · rw [ih, mtr_emit]
    · rfl

theorem mtr_drainCasc (s) : (drainCasc s).mtr = s.mtr := by
  simp only [drainCasc] <;>
    repeat' first | simp only [↓mk_mtr, ↓mtr_drainPort] | with_reducible refine (mtr_foldl _ (fun s x => ?_) _ _).trans ?_ | split | rfl

theorem mtr_queueCasc (v0 s) : (queueCasc v0 s).mtr = s.mtr := by
  simp only [queueCasc] <;>
    repeat' first | simp only [↓mk_mtr, ↓mtr_drainCasc] | with_reducible refine (mtr_foldl _ (fun s x => ?_) _ _).trans ?_ | split | rfl

theorem mtr_sendCascOf (v0 v1 v2 v3 s) : (sendCascOf v0 v1 v2 v3 s).mtr = s.mtr := by
  simp only [sendCascOf] <;>
    repeat' first | simp only [↓mk_mtr, ↓mtr_queueCasc] | with_reducible refine (mtr_foldl _ (fun s x => ?_) _ _).trans ?_ | split | rfl

theorem mtr_sendCasc (v0 v1 v2 s) : (sendCasc v0 v1 v2 s).mtr = s.mtr := by
  simp only [sendCasc] <;>
    repeat' first | simp only [↓mk_mtr, ↓mtr_sendCascOf] | with_reducible refine (mtr_foldl _ (fun s x => ?_) _ _).trans ?_ | split | rfl

theorem mtr_stepNotice (v0 s) : (stepNotice v0 s).mtr = s.mtr := by
  simp only [stepNotice] <;>
    repeat' first | simp only [↓mk_mtr, ↓mtr_sendCasc] | with_reducible refine (mtr_foldl _ (fun s x => ?_) _ _).trans ?_ | split | rfl

theorem mtr_addStep (v0 s) : (addStep v0 s).mtr = s.mtr := by
  simp only [addStep] <;>
    repeat' first | simp only [↓mk_mtr, ↓mtr_emit] | with_reducible refine (mtr_foldl _ (fun s x => ?_) _ _).trans ?_ | split | rfl

theorem mtr_passTicks (v0 s) : (passTicks v0 s).mtr = s.mtr := by
  simp only [passTicks] <;>
    repeat' first | simp only [↓mk_mtr] | with_reducible refine (mtr_foldl _ (fun s x => ?_) _ _).trans ?_ | split | rfl

theorem mtr_countTo (v0 s) : (countTo v0 s).mtr = s.mtr := by
  simp only [countTo] <;>
    repeat' first | simp only [↓mk_mtr, ↓mtr_passTicks] | with_reducible refine (mtr_foldl _ (fun s x => ?_) _ _).trans ?_ | split | rfl

theorem mtr_moveCounter (v0 s) : (moveCounter v0 s).mtr = s.mtr := by
  simp only [moveCounter] <;>
    repeat' first | simp only [↓mk_mtr] | with_reducible refine (mtr_foldl _ (fun s x => ?_) _ _).trans ?_ | split | rfl

theorem mtr_phaseOn (v0 s) : (phaseOn v0 s).mtr = s.mtr := by
  simp only [phaseOn] <;>
    repeat' first | simp only [↓mk_mtr] | with_reducible refine (mtr_foldl _ (fun s x => ?_) _ _).trans ?_ | split | rfl

theorem mtr_phaseNow (s) : (phaseNow s).mtr = s.mtr := by
  simp only [phaseNow] <;>
    repeat' first | simp only [↓mk_mtr, ↓mtr_phaseOn] | with_reducible refine (mtr_foldl _ (fun s x => ?_) _ _).trans ?_ | split | rfl

theorem mtr_setRate (v0 s) : (setRate v0 s).mtr = s.mtr := by
  simp only [setRate] <;>
    repeat' first | simp only [↓mk_mtr] | with_reducible refine (mtr_foldl _ (fun s x => ?_) _ _).trans ?_ | split | rfl

theorem mtr_writeRate (v0 s) : (writeRate v0 s).mtr = s.mtr := by
  simp only [writeRate] <;>
    repeat' first | simp only [↓mk_mtr, ↓mtr_setRate, ↓mtr_phaseNow] | with_reducible refine (mtr_foldl _ (fun s x => ?_) _ _).trans ?_ | split | rfl

theorem mtr_requestSync (v0 v1 s) : (requestSync v0 v1 s).mtr = s.mtr := by
  simp only [requestSync] <;>
    repeat' first | simp only [↓mk_mtr, ↓mtr_sendCasc] | with_reducible refine (mtr_foldl _ (fun s x => ?_) _ _).trans ?_ | split | rfl

theorem mtr_askAgain (v0 v1 s) : (askAgain v0 v1 s).mtr = s.mtr := by
  simp only [askAgain] <;>
    repeat' first | simp only [↓mk_mtr, ↓mtr_requestSync] | with_reducible refine (mtr_foldl _ (fun s x => ?_) _ _).trans ?_ | split | rfl

theorem mtr_realign (v0 v1 s) : (realign v0 v1 s).mtr = s.mtr := by
  simp only [realign] <;>
    repeat' first | simp only [↓mk_mtr, ↓mtr_askAgain, ↓mtr_record] | with_reducible refine (mtr_foldl _ (fun s x => ?_) _ _).trans ?_ | split | rfl

theorem mtr_applyStep (p s) : (applyStep p s).mtr = s.mtr := by
  unfold applyStep
  rw [mtr_realign, mtr_record]
  split
  · rw [mtr_writeRate, mk_mtr, mtr_moveCounter, mtr_countTo]
  · rw [mk_mtr, mtr_moveCounter, mtr_countTo]

theorem mtr_runTimeStep (v0 s) : (stepState (runTimeStep v0 s)).mtr = s.mtr := by
  simp only [runTimeStep] <;>
    repeat' first | simp only [stepState_commit, stepState_finish, stepState_abort, stepState_wait, ↓mk_mtr, ↓mtr_stepNotice, ↓mtr_addStep, ↓mtr_applyStep] | with_reducible refine (mtr_foldl _ (fun s x => ?_) _ _).trans ?_ | split | rfl

theorem mtr_opTimeStep (c s) : (stepState ((opTimeStep).run c s)).mtr = s.mtr := by
  simp only [opTimeStep, stepOp] <;>
    repeat' first | simp only [stepState_commit, stepState_finish, stepState_abort, stepState_wait, ↓mk_mtr, ↓mtr_runTimeStep] | with_reducible refine (mtr_foldl _ (fun s x => ?_) _ _).trans ?_ | split | rfl

theorem mtr_opTimeGet (c s) : (stepState ((opTimeGet).run c s)).mtr = s.mtr := by
  simp only [opTimeGet, readOp] <;>
    repeat' first | simp only [stepState_commit, stepState_finish, stepState_abort, stepState_wait, ↓mk_mtr, ↓mtr_readOp] | with_reducible refine (mtr_foldl _ (fun s x => ?_) _ _).trans ?_ | split | rfl

theorem mtr_runTxStampRead (v0 s) : (stepState (runTxStampRead v0 s)).mtr = s.mtr := by
  simp only [runTxStampRead] <;>
    repeat' first | simp only [stepState_commit, stepState_finish, stepState_abort, stepState_wait, ↓mk_mtr, ↓mtr_record] | with_reducible refine (mtr_foldl _ (fun s x => ?_) _ _).trans ?_ | split | rfl

theorem mtr_opTxStampRead (c s) : (stepState ((opTxStampRead).run c s)).mtr = s.mtr := by
  simp only [opTxStampRead, stepOp] <;>
    repeat' first | simp only [stepState_commit, stepState_finish, stepState_abort, stepState_wait, ↓mk_mtr, ↓mtr_runTxStampRead] | with_reducible refine (mtr_foldl _ (fun s x => ?_) _ _).trans ?_ | split | rfl

theorem mtr_initialStep (v0 v1 v2 s) : (initialStep v0 v1 v2 s).mtr = s.mtr := by
  simp only [initialStep] <;>
    repeat' first | simp only [↓mk_mtr, ↓mtr_moveCounter, ↓mtr_realign, ↓mtr_record] | with_reducible refine (mtr_foldl _ (fun s x => ?_) _ _).trans ?_ | split | rfl

theorem mtr_opTimeSet (c s) : (stepState ((opTimeSet).run c s)).mtr = s.mtr := by
  simp only [opTimeSet, stepOp] <;>
    repeat' first | simp only [stepState_commit, stepState_finish, stepState_abort, stepState_wait, ↓mk_mtr, ↓mtr_initialStep] | with_reducible refine (mtr_foldl _ (fun s x => ?_) _ _).trans ?_ | split | rfl

theorem mtr_opTimeRate (c s) : (stepState ((opTimeRate).run c s)).mtr = s.mtr := by
  simp only [opTimeRate, stepOp] <;>
    repeat' first | simp only [stepState_commit, stepState_finish, stepState_abort, stepState_wait, ↓mk_mtr, ↓mtr_writeRate] | with_reducible refine (mtr_foldl _ (fun s x => ?_) _ _).trans ?_ | split | rfl

theorem mtr_opModuleRead (c s) : (stepState ((opModuleRead).run c s)).mtr = s.mtr := by
  simp only [opModuleRead, readOp] <;>
    repeat' first | simp only [stepState_commit, stepState_finish, stepState_abort, stepState_wait, ↓mk_mtr, ↓mtr_readOp] | with_reducible refine (mtr_foldl _ (fun s x => ?_) _ _).trans ?_ | split | rfl

theorem mtr_modSlotM (v0 v1 s) : (modSlotM v0 v1 s).mtr = s.mtr := by
  simp only [modSlotM] <;>
    repeat' first | simp only [↓mk_mtr] | with_reducible refine (mtr_foldl _ (fun s x => ?_) _ _).trans ?_ | split | rfl

theorem mtr_startRead (v0 s) : (startRead v0 s).mtr = s.mtr := by
  simp only [startRead] <;>
    repeat' first | simp only [↓mk_mtr, ↓mtr_modSlotM, ↓mtr_emit] | with_reducible refine (mtr_foldl _ (fun s x => ?_) _ _).trans ?_ | split | rfl

theorem mtr_leaveSlot (v0 s) : (leaveSlot v0 s).mtr = s.mtr := by
  simp only [leaveSlot] <;>
    repeat' first | simp only [↓mk_mtr, ↓mtr_record, ↓mtr_modSlotM] | with_reducible refine (mtr_foldl _ (fun s x => ?_) _ _).trans ?_ | split | rfl

theorem mtr_serveGone (s v1) : (serveGone s v1).mtr = s.mtr := by
  simp only [serveGone] <;>
    repeat' first | simp only [↓mk_mtr, ↓mtr_leaveSlot] | with_reducible refine (mtr_foldl _ (fun s x => ?_) _ _).trans ?_ | split | rfl

theorem mtr_bootReads (s) : (bootReads s).mtr = s.mtr := by
  simp only [bootReads] <;>
    repeat' first | simp only [↓mk_mtr, ↓mtr_startRead, ↓mtr_serveGone] | with_reducible refine (mtr_foldl _ (fun s x => ?_) _ _).trans ?_ | split | rfl

theorem mtr_opModuleRescan (c s) : (stepState ((opModuleRescan).run c s)).mtr = s.mtr := by
  simp only [opModuleRescan, stepOp] <;>
    repeat' first | simp only [stepState_commit, stepState_finish, stepState_abort, stepState_wait, ↓mk_mtr, ↓mtr_bootReads, ↓mtr_startRead] | with_reducible refine (mtr_foldl _ (fun s x => ?_) _ _).trans ?_ | split | rfl

theorem mtr_opModuleList (c s) : (stepState ((opModuleList).run c s)).mtr = s.mtr := by
  simp only [opModuleList, readOp] <;>
    repeat' first | simp only [stepState_commit, stepState_finish, stepState_abort, stepState_wait, ↓mk_mtr, ↓mtr_readOp] | with_reducible refine (mtr_foldl _ (fun s x => ?_) _ _).trans ?_ | split | rfl

theorem mtr_opModuleAccept (c s) : (stepState ((opModuleAccept).run c s)).mtr = s.mtr := by
  simp only [opModuleAccept, stepOp] <;>
    repeat' first | simp only [stepState_commit, stepState_finish, stepState_abort, stepState_wait, ↓mk_mtr, ↓mtr_modSlotM] | with_reducible refine (mtr_foldl _ (fun s x => ?_) _ _).trans ?_ | split | rfl

theorem mtr_opMapRead (c s) : (stepState ((opMapRead).run c s)).mtr = s.mtr := by
  simp only [opMapRead, readOp] <;>
    repeat' first | simp only [stepState_commit, stepState_finish, stepState_abort, stepState_wait, ↓mk_mtr, ↓mtr_readOp] | with_reducible refine (mtr_foldl _ (fun s x => ?_) _ _).trans ?_ | split | rfl

theorem mtr_opMapStatus (c s) : (stepState ((opMapStatus).run c s)).mtr = s.mtr := by
  simp only [opMapStatus, readOp] <;>
    repeat' first | simp only [stepState_commit, stepState_finish, stepState_abort, stepState_wait, ↓mk_mtr, ↓mtr_readOp] | with_reducible refine (mtr_foldl _ (fun s x => ?_) _ _).trans ?_ | split | rfl

theorem mtr_elapseTo (v0 s) : (elapseTo v0 s).mtr = s.mtr := by
  simp only [elapseTo] <;>
    repeat' first | simp only [↓mk_mtr, ↓mtr_passTicks] | with_reducible refine (mtr_foldl _ (fun s x => ?_) _ _).trans ?_ | split | rfl

theorem mtr_setDomain (v0 v1 s) : (setDomain v0 v1 s).mtr = s.mtr := by
  simp only [setDomain] <;>
    repeat' first | simp only [↓mk_mtr] | with_reducible refine (mtr_foldl _ (fun s x => ?_) _ _).trans ?_ | split | rfl

theorem mtr_settleDomain (s v1) : (settleDomain s v1).mtr = s.mtr := by
  simp only [settleDomain] <;>
    repeat' first | simp only [↓mk_mtr, ↓mtr_setDomain, ↓mtr_elapseTo] | with_reducible refine (mtr_foldl _ (fun s x => ?_) _ _).trans ?_ | split | rfl

theorem mtr_admitWake (v0 v1 s) : (admitWake v0 v1 s).mtr = s.mtr := by
  simp only [admitWake] <;>
    repeat' first | simp only [↓mk_mtr] | with_reducible refine (mtr_foldl _ (fun s x => ?_) _ _).trans ?_ | split | rfl

theorem mtr_admitAll (v0 s) : (admitAll v0 s).mtr = s.mtr := by
  induction v0 generalizing s with
  | nil => rfl
  | cons e es ih =>
    simp only [admitAll]
    split
    · rw [ih, mtr_admitWake]
    · rfl

theorem mtr_openWindow (s) : (openWindow s).mtr = s.mtr := by
  simp only [openWindow] <;>
    repeat' first | simp only [↓mk_mtr, ↓mtr_admitAll] | with_reducible refine (mtr_foldl _ (fun s x => ?_) _ _).trans ?_ | split | rfl

theorem mtr_requestWake (v0 s v2) : (requestWake v0 s v2).mtr = s.mtr := by
  simp only [requestWake] <;>
    repeat' first | simp only [↓mk_mtr, ↓mtr_openWindow, ↓mtr_admitWake] | with_reducible refine (mtr_foldl _ (fun s x => ?_) _ _).trans ?_ | split | rfl

theorem mtr_accessDomains (v0 v1 s) : (accessDomains v0 v1 s).mtr = s.mtr := by
  simp only [accessDomains] <;>
    repeat' first | simp only [↓mk_mtr, ↓mtr_settleDomain, ↓mtr_requestWake] | with_reducible refine (mtr_foldl _ (fun s x => ?_) _ _).trans ?_ | split | rfl

theorem mtr_stopDomains (v0 s) : (stopDomains v0 s).mtr = s.mtr := by
  simp only [stopDomains] <;>
    repeat' first | simp only [↓mk_mtr, ↓mtr_setDomain] | with_reducible refine (mtr_foldl _ (fun s x => ?_) _ _).trans ?_ | split | rfl

theorem mtr_leaveSolver (v0 v1 s) : (leaveSolver v0 v1 s).mtr = s.mtr := by
  simp only [leaveSolver] <;>
    repeat' first | simp only [↓mk_mtr, ↓mtr_stopDomains] | with_reducible refine (mtr_foldl _ (fun s x => ?_) _ _).trans ?_ | split | rfl

theorem mtr_deadlineEvent (v0 v1 v2 s) : (deadlineEvent v0 v1 v2 s).mtr = s.mtr := by
  simp only [deadlineEvent] <;>
    repeat' first | simp only [↓mk_mtr, ↓mtr_record] | with_reducible refine (mtr_foldl _ (fun s x => ?_) _ _).trans ?_ | split | rfl

theorem mtr_retain (v0 v1 v2 s) : (retain v0 v1 v2 s).mtr = s.mtr := by
  simp only [retain] <;>
    repeat' first | simp only [↓mk_mtr] | with_reducible refine (mtr_foldl _ (fun s x => ?_) _ _).trans ?_ | split | rfl

theorem mtr_runSolve (v0 v1 s) : (stepState (runSolve v0 v1 s)).mtr = s.mtr := by
  simp only [runSolve] <;>
    repeat' first | simp only [stepState_commit, stepState_finish, stepState_abort, stepState_wait, ↓mk_mtr, ↓mtr_leaveSolver, ↓mtr_deadlineEvent, ↓mtr_retain] | with_reducible refine (mtr_foldl _ (fun s x => ?_) _ _).trans ?_ | split | rfl

theorem mtr_placedSolve (v0 v1 s) : (stepState (placedSolve v0 v1 s)).mtr = s.mtr := by
  simp only [placedSolve] <;>
    repeat' first | simp only [stepState_commit, stepState_finish, stepState_abort, stepState_wait, ↓mk_mtr, ↓mtr_runSolve, ↓mtr_accessDomains] | with_reducible refine (mtr_foldl _ (fun s x => ?_) _ _).trans ?_ | split | rfl

theorem mtr_opSolveWithin (v0 c s) : (stepState ((opSolveWithin v0).run c s)).mtr = s.mtr := by
  simp only [opSolveWithin, stepOp] <;>
    repeat' first | simp only [stepState_commit, stepState_finish, stepState_abort, stepState_wait, ↓mk_mtr, ↓mtr_placedSolve] | with_reducible refine (mtr_foldl _ (fun s x => ?_) _ _).trans ?_ | split | rfl

theorem mtr_opSolve (c s) : (stepState ((opSolve).run c s)).mtr = s.mtr := by
  simp only [opSolve] <;>
    repeat' first | simp only [stepState_commit, stepState_finish, stepState_abort, stepState_wait, ↓mk_mtr, ↓mtr_opSolveWithin] | with_reducible refine (mtr_foldl _ (fun s x => ?_) _ _).trans ?_ | split | rfl

theorem mtr_runStructLoad (v0 s) : (stepState (runStructLoad v0 s)).mtr = s.mtr := by
  simp only [runStructLoad] <;>
    repeat' first | simp only [stepState_commit, stepState_finish, stepState_abort, stepState_wait, ↓mk_mtr] | with_reducible refine (mtr_foldl _ (fun s x => ?_) _ _).trans ?_ | split | rfl

theorem mtr_opStructLoad (c s) : (stepState ((opStructLoad).run c s)).mtr = s.mtr := by
  simp only [opStructLoad, stepOp] <;>
    repeat' first | simp only [stepState_commit, stepState_finish, stepState_abort, stepState_wait, ↓mk_mtr, ↓mtr_runStructLoad] | with_reducible refine (mtr_foldl _ (fun s x => ?_) _ _).trans ?_ | split | rfl

theorem mtr_opStructDrop (c s) : (stepState ((opStructDrop).run c s)).mtr = s.mtr := by
  simp only [opStructDrop, stepOp] <;>
    repeat' first | simp only [stepState_commit, stepState_finish, stepState_abort, stepState_wait, ↓mk_mtr] | with_reducible refine (mtr_foldl _ (fun s x => ?_) _ _).trans ?_ | split | rfl

theorem mtr_opStructUpdate (c s) : (stepState ((opStructUpdate).run c s)).mtr = s.mtr := by
  simp only [opStructUpdate, stepOp] <;>
    repeat' first | simp only [stepState_commit, stepState_finish, stepState_abort, stepState_wait, ↓mk_mtr] | with_reducible refine (mtr_foldl _ (fun s x => ?_) _ _).trans ?_ | split | rfl

theorem mtr_pushEffect (v0 v1 v2 s) : (pushEffect v0 v1 v2 s).mtr = s.mtr := by
  simp only [pushEffect] <;>
    repeat' first | simp only [↓mk_mtr] | with_reducible refine (mtr_foldl _ (fun s x => ?_) _ _).trans ?_ | split | rfl

theorem mtr_runMapWrite (v0 s) : (stepState (runMapWrite v0 s)).mtr = s.mtr := by
  simp only [runMapWrite] <;>
    repeat' first | simp only [stepState_commit, stepState_finish, stepState_abort, stepState_wait, ↓mk_mtr, ↓mtr_pushEffect] | with_reducible refine (mtr_foldl _ (fun s x => ?_) _ _).trans ?_ | split | rfl

theorem mtr_opMapWrite (c s) : (stepState ((opMapWrite).run c s)).mtr = s.mtr := by
  simp only [opMapWrite, stepOp] <;>
    repeat' first | simp only [stepState_commit, stepState_finish, stepState_abort, stepState_wait, ↓mk_mtr, ↓mtr_runMapWrite] | with_reducible refine (mtr_foldl _ (fun s x => ?_) _ _).trans ?_ | split | rfl

theorem mtr_finishWith (v0 v1 v2 s) : (stepState (finishWith v0 v1 v2 s)).mtr = s.mtr := by
  simp only [finishWith] <;>
    repeat' first | simp only [stepState_commit, stepState_finish, stepState_abort, stepState_wait, ↓mk_mtr, ↓mtr_pushEffect] | with_reducible refine (mtr_foldl _ (fun s x => ?_) _ _).trans ?_ | split | rfl

theorem mtr_opJoystickSet (c s) : (stepState ((opJoystickSet).run c s)).mtr = s.mtr := by
  simp only [opJoystickSet, stepOp] <;>
    repeat' first | simp only [stepState_commit, stepState_finish, stepState_abort, stepState_wait, ↓mk_mtr, ↓mtr_finishWith] | with_reducible refine (mtr_foldl _ (fun s x => ?_) _ _).trans ?_ | split | rfl

theorem mtr_opModeSet (c s) : (stepState ((opModeSet).run c s)).mtr = s.mtr := by
  simp only [opModeSet, stepOp] <;>
    repeat' first | simp only [stepState_commit, stepState_finish, stepState_abort, stepState_wait, ↓mk_mtr, ↓mtr_finishWith] | with_reducible refine (mtr_foldl _ (fun s x => ?_) _ _).trans ?_ | split | rfl

theorem mtr_opControlStatus (c s) : (stepState ((opControlStatus).run c s)).mtr = s.mtr := by
  simp only [opControlStatus, readOp] <;>
    repeat' first | simp only [stepState_commit, stepState_finish, stepState_abort, stepState_wait, ↓mk_mtr, ↓mtr_readOp] | with_reducible refine (mtr_foldl _ (fun s x => ?_) _ _).trans ?_ | split | rfl

theorem mtr_opSetpointSet (c s) : (stepState ((opSetpointSet).run c s)).mtr = s.mtr := by
  simp only [opSetpointSet, stepOp] <;>
    repeat' first | simp only [stepState_commit, stepState_finish, stepState_abort, stepState_wait, ↓mk_mtr, ↓mtr_finishWith] | with_reducible refine (mtr_foldl _ (fun s x => ?_) _ _).trans ?_ | split | rfl

theorem mtr_opSetpointGet (c s) : (stepState ((opSetpointGet).run c s)).mtr = s.mtr := by
  simp only [opSetpointGet, readOp] <;>
    repeat' first | simp only [stepState_commit, stepState_finish, stepState_abort, stepState_wait, ↓mk_mtr, ↓mtr_readOp] | with_reducible refine (mtr_foldl _ (fun s x => ?_) _ _).trans ?_ | split | rfl

theorem mtr_opThrusterAvail (c s) : (stepState ((opThrusterAvail).run c s)).mtr = s.mtr := by
  simp only [opThrusterAvail, stepOp] <;>
    repeat' first | simp only [stepState_commit, stepState_finish, stepState_abort, stepState_wait, ↓mk_mtr, ↓mtr_finishWith] | with_reducible refine (mtr_foldl _ (fun s x => ?_) _ _).trans ?_ | split | rfl

theorem mtr_stopControl (s) : (stopControl s).mtr = s.mtr := by
  simp only [stopControl] <;>
    repeat' first | simp only [↓mk_mtr, ↓mtr_record] | with_reducible refine (mtr_foldl _ (fun s x => ?_) _ _).trans ?_ | split | rfl

theorem mtr_safEvent (v0 v1 s) : (safEvent v0 v1 s).mtr = s.mtr := by
  simp only [safEvent] <;>
    repeat' first | simp only [↓mk_mtr, ↓mtr_record] | with_reducible refine (mtr_foldl _ (fun s x => ?_) _ _).trans ?_ | split | rfl

theorem mtr_closeTest (v0 s) : (closeTest v0 s).mtr = s.mtr := by
  simp only [closeTest] <;>
    repeat' first | simp only [↓mk_mtr, ↓mtr_safEvent] | with_reducible refine (mtr_foldl _ (fun s x => ?_) _ _).trans ?_ | split | rfl

theorem mtr_finishTest (v0 s) : (finishTest v0 s).mtr = s.mtr := by
  simp only [finishTest] <;>
    repeat' first | simp only [↓mk_mtr, ↓mtr_closeTest, ↓mtr_endCmd] | with_reducible refine (mtr_foldl _ (fun s x => ?_) _ _).trans ?_ | split | rfl

theorem mtr_abortTest (s) : (abortTest s).mtr = s.mtr := by
  simp only [abortTest] <;>
    repeat' first | simp only [↓mk_mtr, ↓mtr_finishTest] | with_reducible refine (mtr_foldl _ (fun s x => ?_) _ _).trans ?_ | split | rfl

theorem mtr_stopOutput (s) : (stopOutput s).mtr = s.mtr := by
  simp only [stopOutput] <;>
    repeat' first | simp only [↓mk_mtr] | with_reducible refine (mtr_foldl _ (fun s x => ?_) _ _).trans ?_ | split | rfl

theorem mtr_endStopped (s) : (endStopped s).mtr = s.mtr := by
  simp only [endStopped] <;>
    repeat' first | simp only [↓mk_mtr, ↓mtr_endCmd] | with_reducible refine (mtr_foldl _ (fun s x => ?_) _ _).trans ?_ | split | rfl

theorem mtr_abandonChain (s) : (abandonChain s).mtr = s.mtr := by
  simp only [abandonChain] <;>
    repeat' first | simp only [↓mk_mtr] | with_reducible refine (mtr_foldl _ (fun s x => ?_) _ _).trans ?_ | split | rfl

theorem mtr_modCan (v0 v1 s) : (modCan v0 v1 s).mtr = s.mtr := by
  simp only [modCan] <;>
    repeat' first | simp only [↓mk_mtr] | with_reducible refine (mtr_foldl _ (fun s x => ?_) _ _).trans ?_ | split | rfl

theorem mtr_sendCan (v0 v1 v2 s) : (sendCan v0 v1 v2 s).mtr = s.mtr := by
  simp only [sendCan] <;>
    repeat' first | simp only [↓mk_mtr, ↓mtr_emit, ↓mtr_modCan] | with_reducible refine (mtr_foldl _ (fun s x => ?_) _ _).trans ?_ | split | rfl

theorem mtr_sendBeacon (s v1) : (sendBeacon s v1).mtr = s.mtr := by
  simp only [sendBeacon] <;>
    repeat' first | simp only [↓mk_mtr, ↓mtr_sendCan] | with_reducible refine (mtr_foldl _ (fun s x => ?_) _ _).trans ?_ | split | rfl

theorem mtr_modDrive (v0 v1 s) : (modDrive v0 v1 s).mtr = s.mtr := by
  simp only [modDrive] <;>
    repeat' first | simp only [↓mk_mtr] | with_reducible refine (mtr_foldl _ (fun s x => ?_) _ _).trans ?_ | split | rfl

theorem mtr_sendCommand (s v1) : (sendCommand s v1).mtr = s.mtr := by
  simp only [sendCommand] <;>
    repeat' first | simp only [↓mk_mtr, ↓mtr_sendCan, ↓mtr_modDrive] | with_reducible refine (mtr_foldl _ (fun s x => ?_) _ _).trans ?_ | split | rfl

theorem mtr_sendFrames (v0 s) : (sendFrames v0 s).mtr = s.mtr := by
  simp only [sendFrames] <;>
    repeat' first | simp only [↓mk_mtr, ↓mtr_sendBeacon, ↓mtr_sendCommand] | with_reducible refine (mtr_foldl _ (fun s x => ?_) _ _).trans ?_ | split | rfl

theorem mtr_takeStop (s) : (takeStop s).mtr = s.mtr := by
  simp only [takeStop] <;>
    repeat' first | simp only [↓mk_mtr, ↓mtr_abortTest, ↓mtr_stopOutput, ↓mtr_endStopped, ↓mtr_stopControl, ↓mtr_abandonChain, ↓mtr_sendFrames] | with_reducible refine (mtr_foldl _ (fun s x => ?_) _ _).trans ?_ | split | rfl

theorem mtr_latchTrip (v0 v1 v2 s) : (latchTrip v0 v1 v2 s).mtr = s.mtr := by
  simp only [latchTrip] <;>
    repeat' first | simp only [↓mk_mtr, ↓mtr_safEvent, ↓mtr_takeStop] | with_reducible refine (mtr_foldl _ (fun s x => ?_) _ _).trans ?_ | split | rfl

theorem mtr_safeStopTrip (s) : (safeStopTrip s).mtr = s.mtr := by
  simp only [safeStopTrip] <;>
    repeat' first | simp only [↓mk_mtr, ↓mtr_latchTrip] | with_reducible refine (mtr_foldl _ (fun s x => ?_) _ _).trans ?_ | split | rfl

theorem mtr_stopEffect (v0 s) : (stopEffect v0 s).mtr = s.mtr := by
  simp only [stopEffect] <;>
    repeat' first | simp only [↓mk_mtr, ↓mtr_takeStop, ↓mtr_safeStopTrip] | with_reducible refine (mtr_foldl _ (fun s x => ?_) _ _).trans ?_ | split | rfl

theorem mtr_stopHere (v0 s) : (stopHere v0 s).mtr = s.mtr := by
  simp only [stopHere] <;>
    repeat' first | simp only [↓mk_mtr, ↓mtr_sendCasc, ↓mtr_stopEffect] | with_reducible refine (mtr_foldl _ (fun s x => ?_) _ _).trans ?_ | split | rfl

theorem mtr_opStop (v0 c s) : (stepState ((opStop v0).run c s)).mtr = s.mtr := by
  simp only [opStop, stepOp] <;>
    repeat' first | simp only [stepState_commit, stepState_finish, stepState_abort, stepState_wait, ↓mk_mtr, ↓mtr_stopHere] | with_reducible refine (mtr_foldl _ (fun s x => ?_) _ _).trans ?_ | split | rfl

theorem mtr_opGroupStatus (c s) : (stepState ((opGroupStatus).run c s)).mtr = s.mtr := by
  simp only [opGroupStatus, readOp] <;>
    repeat' first | simp only [stepState_commit, stepState_finish, stepState_abort, stepState_wait, ↓mk_mtr, ↓mtr_readOp] | with_reducible refine (mtr_foldl _ (fun s x => ?_) _ _).trans ?_ | split | rfl

theorem mtr_seeEpoch (v0 s) : (seeEpoch v0 s).mtr = s.mtr := by
  simp only [seeEpoch] <;>
    repeat' first | simp only [↓mk_mtr] | with_reducible refine (mtr_foldl _ (fun s x => ?_) _ _).trans ?_ | split | rfl

theorem mtr_sendHandover (v0 s) : (sendHandover v0 s).mtr = s.mtr := by
  simp only [sendHandover] <;>
    repeat' first | simp only [↓mk_mtr, ↓mtr_sendCasc] | with_reducible refine (mtr_foldl _ (fun s x => ?_) _ _).trans ?_ | split | rfl

theorem mtr_runHandover (v0 s) : (stepState (runHandover v0 s)).mtr = s.mtr := by
  simp only [runHandover] <;>
    repeat' first | simp only [stepState_commit, stepState_finish, stepState_abort, stepState_wait, ↓mk_mtr, ↓mtr_sendHandover, ↓mtr_seeEpoch] | with_reducible refine (mtr_foldl _ (fun s x => ?_) _ _).trans ?_ | split | rfl

theorem mtr_opHandoverRequest (c s) : (stepState ((opHandoverRequest).run c s)).mtr = s.mtr := by
  simp only [opHandoverRequest, stepOp] <;>
    repeat' first | simp only [stepState_commit, stepState_finish, stepState_abort, stepState_wait, ↓mk_mtr, ↓mtr_runHandover] | with_reducible refine (mtr_foldl _ (fun s x => ?_) _ _).trans ?_ | split | rfl

theorem mtr_announce (s) : (announce s).mtr = s.mtr := by
  simp only [announce] <;>
    repeat' first | simp only [↓mk_mtr, ↓mtr_sendCasc] | with_reducible refine (mtr_foldl _ (fun s x => ?_) _ _).trans ?_ | split | rfl

theorem mtr_nowOwns (s) : (nowOwns s).mtr = s.mtr := by
  simp only [nowOwns] <;>
    repeat' first | simp only [↓mk_mtr, ↓mtr_emit] | with_reducible refine (mtr_foldl _ (fun s x => ?_) _ _).trans ?_ | split | rfl

theorem mtr_newEpoch (v0 s) : (newEpoch v0 s).mtr = s.mtr := by
  simp only [newEpoch] <;>
    repeat' first | simp only [↓mk_mtr, ↓mtr_record] | with_reducible refine (mtr_foldl _ (fun s x => ?_) _ _).trans ?_ | split | rfl

theorem mtr_takeUp (s) : (takeUp s).mtr = s.mtr := by
  simp only [takeUp] <;>
    repeat' first | simp only [↓mk_mtr, ↓mtr_announce, ↓mtr_nowOwns, ↓mtr_newEpoch] | with_reducible refine (mtr_foldl _ (fun s x => ?_) _ _).trans ?_ | split | rfl

theorem mtr_fallRequests (s) : (fallRequests s).mtr = s.mtr := by
  simp only [fallRequests] <;>
    repeat' first | simp only [↓mk_mtr] | with_reducible refine (mtr_foldl _ (fun s x => ?_) _ _).trans ?_ | split | rfl

theorem mtr_dropOwnership (s) : (dropOwnership s).mtr = s.mtr := by
  simp only [dropOwnership] <;>
    repeat' first | simp only [↓mk_mtr, ↓mtr_fallRequests, ↓mtr_emit] | with_reducible refine (mtr_foldl _ (fun s x => ?_) _ _).trans ?_ | split | rfl

theorem mtr_changeRole (v0 s) : (changeRole v0 s).mtr = s.mtr := by
  simp only [changeRole] <;>
    repeat' first | simp only [↓mk_mtr, ↓mtr_dropOwnership, ↓mtr_announce] | with_reducible refine (mtr_foldl _ (fun s x => ?_) _ _).trans ?_ | split | rfl

theorem mtr_opRoleSet (c s) : (stepState ((opRoleSet).run c s)).mtr = s.mtr := by
  simp only [opRoleSet, stepOp] <;>
    repeat' first | simp only [stepState_commit, stepState_finish, stepState_abort, stepState_wait, ↓mk_mtr, ↓mtr_takeUp, ↓mtr_changeRole] | with_reducible refine (mtr_foldl _ (fun s x => ?_) _ _).trans ?_ | split | rfl

theorem mtr_opHealthRead (c s) : (stepState ((opHealthRead).run c s)).mtr = s.mtr := by
  simp only [opHealthRead, stepOp] <;>
    repeat' first | simp only [stepState_commit, stepState_finish, stepState_abort, stepState_wait, ↓mk_mtr] | with_reducible refine (mtr_foldl _ (fun s x => ?_) _ _).trans ?_ | split | rfl

theorem mtr_confirmSet (v0 s) : (confirmSet v0 s).mtr = s.mtr := by
  simp only [confirmSet] <;>
    repeat' first | simp only [↓mk_mtr, ↓mtr_safEvent] | with_reducible refine (mtr_foldl _ (fun s x => ?_) _ _).trans ?_ | split | rfl

theorem mtr_opSafetyCheckConfirm (c s) : (stepState ((opSafetyCheckConfirm).run c s)).mtr = s.mtr := by
  simp only [opSafetyCheckConfirm, stepOp] <;>
    repeat' first | simp only [stepState_commit, stepState_finish, stepState_abort, stepState_wait, ↓mk_mtr, ↓mtr_confirmSet, ↓mtr_safEvent] | with_reducible refine (mtr_foldl _ (fun s x => ?_) _ _).trans ?_ | split | rfl

theorem mtr_testChannel (v0 s) : (testChannel v0 s).2.mtr = s.mtr := by
  simp only [testChannel] <;>
    repeat' first | simp only [↓mk_mtr, ↓mtr_elapseTo] | with_reducible refine (mtr_foldl _ (fun s x => ?_) _ _).trans ?_ | split | rfl

theorem mtr_testOn (v0 v1 s) : (testOn v0 v1 s).2.mtr = s.mtr := by
  induction v0 generalizing v1 s with
  | zero => rfl
  | succ k ih =>
    simp only [testOn]
    repeat' split
    · rfl
    · exact mtr_testChannel _ _
    · rw [ih, mtr_testChannel]

theorem mtr_runBrakeTest (v0 v1 s) : (stepState (runBrakeTest v0 v1 s)).mtr = s.mtr := by
  simp only [runBrakeTest] <;>
    repeat' first | simp only [stepState_commit, stepState_finish, stepState_abort, stepState_wait, ↓mk_mtr, ↓mtr_testOn, ↓mtr_closeTest] | with_reducible refine (mtr_foldl _ (fun s x => ?_) _ _).trans ?_ | split | rfl

theorem mtr_opBrakeTest (v0 c s) : (stepState ((opBrakeTest v0).run c s)).mtr = s.mtr := by
  simp only [opBrakeTest, stepOp] <;>
    repeat' first | simp only [stepState_commit, stepState_finish, stepState_abort, stepState_wait, ↓mk_mtr, ↓mtr_runBrakeTest] | with_reducible refine (mtr_foldl _ (fun s x => ?_) _ _).trans ?_ | split | rfl

theorem mtr_opSafetyCheckRead (c s) : (stepState ((opSafetyCheckRead).run c s)).mtr = s.mtr := by
  simp only [opSafetyCheckRead, readOp] <;>
    repeat' first | simp only [stepState_commit, stepState_finish, stepState_abort, stepState_wait, ↓mk_mtr, ↓mtr_readOp] | with_reducible refine (mtr_foldl _ (fun s x => ?_) _ _).trans ?_ | split | rfl

theorem mtr_opTripReset (c s) : (stepState ((opTripReset).run c s)).mtr = s.mtr := by
  simp only [opTripReset, stepOp] <;>
    repeat' first | simp only [stepState_commit, stepState_finish, stepState_abort, stepState_wait, ↓mk_mtr, ↓mtr_safEvent] | with_reducible refine (mtr_foldl _ (fun s x => ?_) _ _).trans ?_ | split | rfl

theorem mtr_applyAll (s) : (applyAll s).mtr = s.mtr := by
  simp only [applyAll] <;>
    repeat' first | simp only [↓mk_mtr] | with_reducible refine (mtr_foldl _ (fun s x => ?_) _ _).trans ?_ | split | rfl

theorem mtr_judgeSource (s v1) : (judgeSource s v1).mtr = s.mtr := by
  simp only [judgeSource] <;>
    repeat' first | simp only [↓mk_mtr, ↓mtr_latchTrip] | with_reducible refine (mtr_foldl _ (fun s x => ?_) _ _).trans ?_ | split | rfl

theorem mtr_judgeSources (s) : (judgeSources s).mtr = s.mtr := by
  simp only [judgeSources] <;>
    repeat' first | simp only [↓mk_mtr, ↓mtr_judgeSource] | with_reducible refine (mtr_foldl _ (fun s x => ?_) _ _).trans ?_ | split | rfl

theorem mtr_storeSet (v0 s) : (storeSet v0 s).mtr = s.mtr := by
  simp only [storeSet] <;>
    repeat' first | simp only [↓mk_mtr, ↓mtr_applyAll, ↓mtr_abortTest, ↓mtr_judgeSources] | with_reducible refine (mtr_foldl _ (fun s x => ?_) _ _).trans ?_ | split | rfl

theorem mtr_runSafetyParamWrite (v0 s) : (stepState (runSafetyParamWrite v0 s)).mtr = s.mtr := by
  simp only [runSafetyParamWrite] <;>
    repeat' first | simp only [stepState_commit, stepState_finish, stepState_abort, stepState_wait, ↓mk_mtr, ↓mtr_storeSet] | with_reducible refine (mtr_foldl _ (fun s x => ?_) _ _).trans ?_ | split | rfl

theorem mtr_opSafetyParamWrite (c s) : (stepState ((opSafetyParamWrite).run c s)).mtr = s.mtr := by
  simp only [opSafetyParamWrite, stepOp] <;>
    repeat' first | simp only [stepState_commit, stepState_finish, stepState_abort, stepState_wait, ↓mk_mtr, ↓mtr_runSafetyParamWrite] | with_reducible refine (mtr_foldl _ (fun s x => ?_) _ _).trans ?_ | split | rfl

theorem mtr_opSafetyStatus (c s) : (stepState ((opSafetyStatus).run c s)).mtr = s.mtr := by
  simp only [opSafetyStatus, readOp] <;>
    repeat' first | simp only [stepState_commit, stepState_finish, stepState_abort, stepState_wait, ↓mk_mtr, ↓mtr_readOp] | with_reducible refine (mtr_foldl _ (fun s x => ?_) _ _).trans ?_ | split | rfl

theorem mtr_opMtrIdentRead (c s) : (stepState ((opMtrIdentRead).run c s)).mtr = s.mtr := by
  simp only [opMtrIdentRead, readOp] <;>
    repeat' first | simp only [stepState_commit, stepState_finish, stepState_abort, stepState_wait, ↓mk_mtr, ↓mtr_readOp] | with_reducible refine (mtr_foldl _ (fun s x => ?_) _ _).trans ?_ | split | rfl

theorem mtr_opResetCauseClear (c s) : (stepState ((opResetCauseClear).run c s)).mtr = s.mtr := by
  simp only [opResetCauseClear, stepOp] <;>
    repeat' first | simp only [stepState_commit, stepState_finish, stepState_abort, stepState_wait, ↓mk_mtr] | with_reducible refine (mtr_foldl _ (fun s x => ?_) _ _).trans ?_ | split | rfl

theorem mtr_opReset (c s) : (stepState ((opReset).run c s)).mtr = s.mtr := by
  simp only [opReset, stepOp] <;>
    repeat' first | simp only [stepState_commit, stepState_finish, stepState_abort, stepState_wait, ↓mk_mtr] | with_reducible refine (mtr_foldl _ (fun s x => ?_) _ _).trans ?_ | split | rfl

theorem mtr_opResetCauseRead (c s) : (stepState ((opResetCauseRead).run c s)).mtr = s.mtr := by
  simp only [opResetCauseRead, readOp] <;>
    repeat' first | simp only [stepState_commit, stepState_finish, stepState_abort, stepState_wait, ↓mk_mtr, ↓mtr_readOp] | with_reducible refine (mtr_foldl _ (fun s x => ?_) _ _).trans ?_ | split | rfl

theorem mtr_opPwrStateSet (c s) : (stepState ((opPwrStateSet).run c s)).mtr = s.mtr := by
  simp only [opPwrStateSet, stepOp] <;>
    repeat' first | simp only [stepState_commit, stepState_finish, stepState_abort, stepState_wait, ↓mk_mtr] | with_reducible refine (mtr_foldl _ (fun s x => ?_) _ _).trans ?_ | split | rfl

theorem mtr_opPwrStatus (c s) : (stepState ((opPwrStatus).run c s)).mtr = s.mtr := by
  simp only [opPwrStatus, readOp] <;>
    repeat' first | simp only [stepState_commit, stepState_finish, stepState_abort, stepState_wait, ↓mk_mtr, ↓mtr_readOp] | with_reducible refine (mtr_foldl _ (fun s x => ?_) _ _).trans ?_ | split | rfl

theorem mtr_writeImage (s) : (writeImage s).mtr = s.mtr := by
  simp only [writeImage] <;>
    repeat' first | simp only [↓mk_mtr] | with_reducible refine (mtr_foldl _ (fun s x => ?_) _ _).trans ?_ | split | rfl

theorem mtr_recordIdentities (s) : (recordIdentities s).mtr = s.mtr := by
  simp only [recordIdentities] <;>
    repeat' first | simp only [↓mk_mtr] | with_reducible refine (mtr_foldl _ (fun s x => ?_) _ _).trans ?_ | split | rfl

theorem mtr_completeLock (v0 s) : (completeLock v0 s).mtr = s.mtr := by
  simp only [completeLock] <;>
    repeat' first | simp only [↓mk_mtr, ↓mtr_recordIdentities, ↓mtr_record, ↓mtr_pushEffect, ↓mtr_abandonChain] | with_reducible refine (mtr_foldl _ (fun s x => ?_) _ _).trans ?_ | split | rfl

theorem mtr_runConfigLock (v0 s) : (stepState (runConfigLock v0 s)).mtr = s.mtr := by
  simp only [runConfigLock] <;>
    repeat' first | simp only [stepState_commit, stepState_finish, stepState_abort, stepState_wait, ↓mk_mtr, ↓mtr_writeImage, ↓mtr_finishWith, ↓mtr_pushEffect, ↓mtr_completeLock] | with_reducible refine (mtr_foldl _ (fun s x => ?_) _ _).trans ?_ | split | rfl

theorem mtr_opConfigLock (c s) : (stepState ((opConfigLock).run c s)).mtr = s.mtr := by
  simp only [opConfigLock, stepOp] <;>
    repeat' first | simp only [stepState_commit, stepState_finish, stepState_abort, stepState_wait, ↓mk_mtr, ↓mtr_runConfigLock] | with_reducible refine (mtr_foldl _ (fun s x => ?_) _ _).trans ?_ | split | rfl

theorem mtr_opSourceSelect (c s) : (stepState ((opSourceSelect).run c s)).mtr = s.mtr := by
  simp only [opSourceSelect, stepOp] <;>
    repeat' first | simp only [stepState_commit, stepState_finish, stepState_abort, stepState_wait, ↓mk_mtr, ↓mtr_finishWith] | with_reducible refine (mtr_foldl _ (fun s x => ?_) _ _).trans ?_ | split | rfl

theorem mtr_opConfigUnlock (c s) : (stepState ((opConfigUnlock).run c s)).mtr = s.mtr := by
  simp only [opConfigUnlock, stepOp] <;>
    repeat' first | simp only [stepState_commit, stepState_finish, stepState_abort, stepState_wait, ↓mk_mtr] | with_reducible refine (mtr_foldl _ (fun s x => ?_) _ _).trans ?_ | split | rfl

theorem mtr_opRoleKeySet (c s) : (stepState ((opRoleKeySet).run c s)).mtr = s.mtr := by
  simp only [opRoleKeySet, stepOp] <;>
    repeat' first | simp only [stepState_commit, stepState_finish, stepState_abort, stepState_wait, ↓mk_mtr] | with_reducible refine (mtr_foldl _ (fun s x => ?_) _ _).trans ?_ | split | rfl

theorem mtr_runSignalRead (v0 s) : (stepState (runSignalRead v0 s)).mtr = s.mtr := by
  simp only [runSignalRead] <;>
    repeat' first | simp only [stepState_commit, stepState_finish, stepState_abort, stepState_wait, ↓mk_mtr, ↓mtr_sendFor, ↓mtr_modEntry, ↓mtr_modCmd] | with_reducible refine (mtr_foldl _ (fun s x => ?_) _ _).trans ?_ | split | rfl

theorem mtr_opSignalRead (c s) : (stepState ((opSignalRead).run c s)).mtr = s.mtr := by
  simp only [opSignalRead, stepOp] <;>
    repeat' first | simp only [stepState_commit, stepState_finish, stepState_abort, stepState_wait, ↓mk_mtr, ↓mtr_runSignalRead] | with_reducible refine (mtr_foldl _ (fun s x => ?_) _ _).trans ?_ | split | rfl

theorem mtr_opSignalInfo (c s) : (stepState ((opSignalInfo).run c s)).mtr = s.mtr := by
  simp only [opSignalInfo, readOp] <;>
    repeat' first | simp only [stepState_commit, stepState_finish, stepState_abort, stepState_wait, ↓mk_mtr, ↓mtr_readOp] | with_reducible refine (mtr_foldl _ (fun s x => ?_) _ _).trans ?_ | split | rfl

theorem mtr_opIdentityRead (c s) : (stepState ((opIdentityRead).run c s)).mtr = s.mtr := by
  simp only [opIdentityRead, readOp] <;>
    repeat' first | simp only [stepState_commit, stepState_finish, stepState_abort, stepState_wait, ↓mk_mtr, ↓mtr_readOp] | with_reducible refine (mtr_foldl _ (fun s x => ?_) _ _).trans ?_ | split | rfl

theorem mtr_opTableInfo (c s) : (stepState ((opTableInfo).run c s)).mtr = s.mtr := by
  simp only [opTableInfo, readOp] <;>
    repeat' first | simp only [stepState_commit, stepState_finish, stepState_abort, stepState_wait, ↓mk_mtr, ↓mtr_readOp] | with_reducible refine (mtr_foldl _ (fun s x => ?_) _ _).trans ?_ | split | rfl

theorem mtr_opConfigGet (c s) : (stepState ((opConfigGet).run c s)).mtr = s.mtr := by
  simp only [opConfigGet, readOp] <;>
    repeat' first | simp only [stepState_commit, stepState_finish, stepState_abort, stepState_wait, ↓mk_mtr, ↓mtr_readOp] | with_reducible refine (mtr_foldl _ (fun s x => ?_) _ _).trans ?_ | split | rfl

theorem mtr_opTableRead (c s) : (stepState ((opTableRead).run c s)).mtr = s.mtr := by
  simp only [opTableRead, readOp] <;>
    repeat' first | simp only [stepState_commit, stepState_finish, stepState_abort, stepState_wait, ↓mk_mtr, ↓mtr_readOp] | with_reducible refine (mtr_foldl _ (fun s x => ?_) _ _).trans ?_ | split | rfl

theorem mtr_scheduleSync (v0 v1 v2 s) : (scheduleSync v0 v1 v2 s).mtr = s.mtr := by
  simp only [scheduleSync] <;>
    repeat' first | simp only [↓mk_mtr, ↓mtr_requestSync] | with_reducible refine (mtr_foldl _ (fun s x => ?_) _ _).trans ?_ | split | rfl

theorem mtr_canRecoverAsk (v0 s) : (canRecoverAsk v0 s).mtr = s.mtr := by
  simp only [canRecoverAsk] <;>
    repeat' first | simp only [↓mk_mtr] | with_reducible refine (mtr_foldl _ (fun s x => ?_) _ _).trans ?_ | split | rfl

theorem mtr_oneShot (v0 v1 s) : (oneShot v0 v1 s).mtr = s.mtr := by
  simp only [oneShot] <;>
    repeat' first | simp only [↓mk_mtr, ↓mtr_scheduleSync, ↓mtr_canRecoverAsk] | with_reducible refine (mtr_foldl _ (fun s x => ?_) _ _).trans ?_ | split | rfl

theorem mtr_stageParam (v0 v1 v2 s) : (stageParam v0 v1 v2 s).mtr = s.mtr := by
  simp only [stageParam] <;>
    repeat' first | simp only [↓mk_mtr] | with_reducible refine (mtr_foldl _ (fun s x => ?_) _ _).trans ?_ | split | rfl

theorem mtr_runConfigSet (v0 s) : (stepState (runConfigSet v0 s)).mtr = s.mtr := by
  simp only [runConfigSet] <;>
    repeat' first | simp only [stepState_commit, stepState_finish, stepState_abort, stepState_wait, ↓mk_mtr, ↓mtr_oneShot, ↓mtr_stageParam, ↓mtr_finishWith] | with_reducible refine (mtr_foldl _ (fun s x => ?_) _ _).trans ?_ | split | rfl

theorem mtr_opConfigSet (c s) : (stepState ((opConfigSet).run c s)).mtr = s.mtr := by
  simp only [opConfigSet, stepOp] <;>
    repeat' first | simp only [stepState_commit, stepState_finish, stepState_abort, stepState_wait, ↓mk_mtr, ↓mtr_runConfigSet] | with_reducible refine (mtr_foldl _ (fun s x => ?_) _ _).trans ?_ | split | rfl

theorem mtr_frontEndWritten (s) : (frontEndWritten s).mtr = s.mtr := by
  simp only [frontEndWritten] <;>
    repeat' first | simp only [↓mk_mtr] | with_reducible refine (mtr_foldl _ (fun s x => ?_) _ _).trans ?_ | split | rfl

theorem mtr_installTable (v0 v1 v2 s) : (installTable v0 v1 v2 s).mtr = s.mtr := by
  simp only [installTable] <;>
    repeat' first | simp only [↓mk_mtr] | with_reducible refine (mtr_foldl _ (fun s x => ?_) _ _).trans ?_ | split | rfl

theorem mtr_runTableWrite (v0 s) : (stepState (runTableWrite v0 s)).mtr = s.mtr := by
  simp only [runTableWrite] <;>
    repeat' first | simp only [stepState_commit, stepState_finish, stepState_abort, stepState_wait, ↓mk_mtr, ↓mtr_installTable, ↓mtr_frontEndWritten, ↓mtr_finishWith] | with_reducible refine (mtr_foldl _ (fun s x => ?_) _ _).trans ?_ | split | rfl

theorem mtr_opTableWrite (c s) : (stepState ((opTableWrite).run c s)).mtr = s.mtr := by
  simp only [opTableWrite, stepOp] <;>
    repeat' first | simp only [stepState_commit, stepState_finish, stepState_abort, stepState_wait, ↓mk_mtr, ↓mtr_runTableWrite] | with_reducible refine (mtr_foldl _ (fun s x => ?_) _ _).trans ?_ | split | rfl

theorem mtr_noOp (v0 c s) : (stepState ((noOp v0).run c s)).mtr = s.mtr := by
  simp only [noOp, stepOp] <;>
    repeat' first | simp only [stepState_commit, stepState_finish, stepState_abort, stepState_wait, ↓mk_mtr] | with_reducible refine (mtr_foldl _ (fun s x => ?_) _ _).trans ?_ | split | rfl

theorem mtr_freshen (s) : (freshen s).mtr = s.mtr := by
  simp only [freshen] <;>
    repeat' first | simp only [↓mk_mtr] | with_reducible refine (mtr_foldl _ (fun s x => ?_) _ _).trans ?_ | split | rfl

theorem mtr_gridView (s) : (gridView s).mtr = s.mtr := by
  simp only [gridView] <;>
    repeat' first | simp only [↓mk_mtr] | with_reducible refine (mtr_foldl _ (fun s x => ?_) _ _).trans ?_ | split | rfl

theorem mtr_railBelow (v0 v1 s) : (railBelow v0 v1 s).mtr = s.mtr := by
  simp only [railBelow] <;>
    repeat' first | simp only [↓mk_mtr] | with_reducible refine (mtr_foldl _ (fun s x => ?_) _ _).trans ?_ | split | rfl

theorem mtr_railsUp (v0 s) : (railsUp v0 s).mtr = s.mtr := by
  simp only [railsUp] <;>
    repeat' first | simp only [↓mk_mtr] | with_reducible refine (mtr_foldl _ (fun s x => ?_) _ _).trans ?_ | split | rfl

theorem mtr_newEntry (v0 s) : (newEntry v0 s).mtr = s.mtr := by
  simp only [newEntry] <;>
    repeat' first | simp only [↓mk_mtr] | with_reducible refine (mtr_foldl _ (fun s x => ?_) _ _).trans ?_ | split | rfl

theorem mtr_closeSession (v0 s) : (closeSession v0 s).mtr = s.mtr := by
  simp only [closeSession] <;>
    repeat' first | simp only [↓mk_mtr, ↓mtr_abandonTag, ↓mtr_endCmd, ↓mtr_modSlot] | with_reducible refine (mtr_foldl _ (fun s x => ?_) _ _).trans ?_ | split | rfl

theorem mtr_runCmd (d : OpDef) (h : ∀ c s, (stepState (d.run c s)).mtr = s.mtr) (n e s) : (runCmd d n e s).mtr = s.mtr := by
  induction n generalizing s with
  | zero => rfl
  | succ n ih =>
    unfold runCmd
    split
    · rfl
    · rename_i c _
      split
      · rfl
      · simp only
        generalize hq : (modCmd e (fun c => { c with started := true }) (if c.started then s
          else modEntry e false (fun j => { j with state := .started }) s)) = t
        have ht : t.mtr = s.mtr := by
          rw [← hq, mtr_modCmd]; split
          · rfl
          · rw [mtr_modEntry]
        generalize (if c.started = true then 0 else d.check c s) = st
        by_cases hs : st ≠ 0
        · rw [if_pos hs, mtr_endCmd, ht]
        · rw [if_neg hs]
          have h3 := (h { c with started := true } t).trans ht
          revert h3
          generalize d.run { c with started := true } t = res
          intro h3
          cases res <;> simp only [stepState] at h3 <;> simp only <;>
            (repeat' first | exact h3 | rw [ih] | rw [mtr_endCmd] | rw [mtr_modCmd] | rw [mtr_modEntry] | rw [mtr_closeSession] | split)

theorem mtr_accept (d : OpDef) (h : ∀ c s, (stepState (d.run c s)).mtr = s.mtr) (v1 v2 v3 v4 v5 s) : (accept d v1 v2 v3 v4 v5 s).mtr = s.mtr := by
  simp only [accept, mtr_runCmd d h]
  split
  · rfl
  · rw [mtr_putTag]; rfl

theorem mtr_countReject (v0 v1 s) : (countReject v0 v1 s).mtr = s.mtr := by
  simp only [countReject] <;>
    repeat' first | simp only [↓mk_mtr, ↓mtr_modSlot] | with_reducible refine (mtr_foldl _ (fun s x => ?_) _ _).trans ?_ | split | rfl

theorem mtr_reject (v0 v1 v2 v3 v4 s) : (reject v0 v1 v2 v3 v4 s).mtr = s.mtr := by
  simp only [reject] <;>
    repeat' first | simp only [↓mk_mtr, ↓mtr_countReject, ↓mtr_sendReply] | with_reducible refine (mtr_foldl _ (fun s x => ?_) _ _).trans ?_ | split | rfl

theorem mtr_spoilTag (v0 v1 v2 v3 v4 v5 v6 s) : (spoilTag v0 v1 v2 v3 v4 v5 v6 s).mtr = s.mtr := by
  simp only [spoilTag] <;>
    repeat' first | simp only [↓mk_mtr, ↓mtr_countReject, ↓mtr_putTag, ↓mtr_sendReply] | with_reducible refine (mtr_foldl _ (fun s x => ?_) _ _).trans ?_ | split | rfl

theorem mtr_newCommand (d : OpDef) (h : ∀ c s, (stepState (d.run c s)).mtr = s.mtr) (v1 v2 v3 s) : (newCommand d v1 v2 v3 s).mtr = s.mtr := by
  simp only [newCommand]
  repeat' first | rfl | simp only [mtr_accept d h, mtr_spoilTag, mtr_spoilTag, mtr_countReject, mtr_reject, mtr_sendReply, mtr_modSlot, mtr_putTag] | split

theorem mtr_furtherFragment (d : OpDef) (h : ∀ c s, (stepState (d.run c s)).mtr = s.mtr) (v1 v2 v3 s) : (furtherFragment d v1 v2 v3 s).mtr = s.mtr := by
  simp only [furtherFragment]
  repeat' first | rfl | simp only [mtr_accept d h, mtr_spoilTag, mtr_spoilTag, mtr_countReject, mtr_abandonTag, mtr_putTag] | split

theorem mtr_duplicate (v0 v1 v2 s) : (duplicate v0 v1 v2 s).mtr = s.mtr := by
  simp only [duplicate] <;>
    repeat' first | simp only [↓mk_mtr, ↓mtr_sendReplies, ↓mtr_reject, ↓mtr_sendReply] | with_reducible refine (mtr_foldl _ (fun s x => ?_) _ _).trans ?_ | split | rfl

theorem mtr_bySequence (d : OpDef) (h : ∀ c s, (stepState (d.run c s)).mtr = s.mtr) (v1 v2 v3 s) : (bySequence d v1 v2 v3 s).mtr = s.mtr := by
  simp only [bySequence]
  repeat' first | rfl | simp only [mtr_newCommand d h, mtr_furtherFragment d h, mtr_duplicate, mtr_reject] | split

theorem mtr_takeBuffer (v0 v1 v2 s) : (takeBuffer v0 v1 v2 s).mtr = s.mtr := by
  simp only [takeBuffer] <;>
    repeat' first | simp only [↓mk_mtr] | with_reducible refine (mtr_foldl _ (fun s x => ?_) _ _).trans ?_ | split | rfl

theorem mtr_packetIn (v0) (d : OpDef) (v2 v3 s) (h : ∀ c s, (stepState (d.run c s)).mtr = s.mtr) : (packetIn v0 d v2 v3 s).mtr = s.mtr := by
  simp only [packetIn]
  repeat' first | rfl | simp only [mtr_bySequence d h, mtr_accept d h, mtr_reject, mtr_modSlot, mtr_takeBuffer] | split

theorem mtr_dropSignal (v0 s) : (dropSignal v0 s).mtr = s.mtr := by
  simp only [dropSignal] <;>
    repeat' first | simp only [↓mk_mtr] | with_reducible refine (mtr_foldl _ (fun s x => ?_) _ _).trans ?_ | split | rfl

theorem mtr_markBad (v0 s) : (markBad v0 s).mtr = s.mtr := by
  simp only [markBad] <;>
    repeat' first | simp only [↓mk_mtr] | with_reducible refine (mtr_foldl _ (fun s x => ?_) _ _).trans ?_ | split | rfl

theorem mtr_pruneSignals (v0 s) : (pruneSignals v0 s).mtr = s.mtr := by
  simp only [pruneSignals] <;>
    repeat' first | simp only [↓mk_mtr] | with_reducible refine (mtr_foldl _ (fun s x => ?_) _ _).trans ?_ | split | rfl

theorem mtr_publishAs (v0 v1 s) : (publishAs v0 v1 s).mtr = s.mtr := by
  simp only [publishAs] <;>
    repeat' first | simp only [↓mk_mtr] | with_reducible refine (mtr_foldl _ (fun s x => ?_) _ _).trans ?_ | split | rfl

theorem mtr_publish (v0 v1 s) : (publish v0 v1 s).mtr = s.mtr := by
  simp only [publish] <;>
    repeat' first | simp only [↓mk_mtr, ↓mtr_publishAs] | with_reducible refine (mtr_foldl _ (fun s x => ?_) _ _).trans ?_ | split | rfl

theorem mtr_startSignal (v0 s) : (startSignal v0 s).mtr = s.mtr := by
  simp only [startSignal] <;>
    repeat' first | simp only [↓mk_mtr] | with_reducible refine (mtr_foldl _ (fun s x => ?_) _ _).trans ?_ | split | rfl

theorem mtr_execArpIcmpRequest (v0 v1 v2 s) : (after s (execArpIcmpRequest v0 v1 v2 s)).mtr = s.mtr := by
  simp only [execArpIcmpRequest] <;>
    repeat' first | simp only [after_next, ↓mk_mtr, ↓mtr_emit] | with_reducible refine (mtr_foldl _ (fun s x => ?_) _ _).trans ?_ | split | rfl

theorem mtr_expire (v0 v1 v2 s) : (expire v0 v1 v2 s).mtr = s.mtr := by
  simp only [expire] <;>
    repeat' first | simp only [↓mk_mtr, ↓mtr_closeSession, ↓mtr_record] | with_reducible refine (mtr_foldl _ (fun s x => ?_) _ _).trans ?_ | split | rfl

theorem mtr_execAuthTimeout (v0 s) : (after s (execAuthTimeout v0 s)).mtr = s.mtr := by
  simp only [execAuthTimeout] <;>
    repeat' first | simp only [after_next, ↓mk_mtr, ↓mtr_expire, ↓mtr_elapseTo] | with_reducible refine (mtr_foldl _ (fun s x => ?_) _ _).trans ?_ | split | rfl

theorem mtr_execFragGapExpiry (v0 v1 s) : (after s (execFragGapExpiry v0 v1 s)).mtr = s.mtr := by
  simp only [execFragGapExpiry] <;>
    repeat' first | simp only [after_next, ↓mk_mtr, ↓mtr_abandonTag, ↓mtr_elapseTo] | with_reducible refine (mtr_foldl _ (fun s x => ?_) _ _).trans ?_ | split | rfl

theorem mtr_execFragTotalExpiry (v0 v1 s) : (after s (execFragTotalExpiry v0 v1 s)).mtr = s.mtr := by
  simp only [execFragTotalExpiry] <;>
    repeat' first | simp only [after_next, ↓mk_mtr, ↓mtr_abandonTag, ↓mtr_elapseTo] | with_reducible refine (mtr_foldl _ (fun s x => ?_) _ _).trans ?_ | split | rfl

theorem mtr_execInterimAcceptedReply (v0 s) : (after s (execInterimAcceptedReply v0 s)).mtr = s.mtr := by
  simp only [execInterimAcceptedReply] <;>
    repeat' first | simp only [after_next, ↓mk_mtr, ↓mtr_elapseTo, ↓mtr_sendFor, ↓mtr_modCmd] | with_reducible refine (mtr_foldl _ (fun s x => ?_) _ _).trans ?_ | split | rfl

theorem mtr_flushJournal (s) : (flushJournal s).mtr = s.mtr := by
  simp only [flushJournal] <;>
    repeat' first | simp only [↓mk_mtr] | with_reducible refine (mtr_foldl _ (fun s x => ?_) _ _).trans ?_ | split | rfl

theorem mtr_execJournalBufferFlush (s) : (after s (execJournalBufferFlush s)).mtr = s.mtr := by
  simp only [execJournalBufferFlush] <;>
    repeat' first | simp only [after_next, ↓mk_mtr, ↓mtr_flushJournal] | with_reducible refine (mtr_foldl _ (fun s x => ?_) _ _).trans ?_ | split | rfl

theorem mtr_execJournalList (v0 v1 s) : (after s (execJournalList v0 v1 s)).mtr = s.mtr :=
  mtr_packetIn _ _ _ _ _ mtr_opJournalList

theorem mtr_execJournalQuery (v0 v1 s) : (after s (execJournalQuery v0 v1 s)).mtr = s.mtr :=
  mtr_packetIn _ _ _ _ _ mtr_opJournalQuery

theorem mtr_execJournalRejects (v0 v1 s) : (after s (execJournalRejects v0 v1 s)).mtr = s.mtr :=
  mtr_packetIn _ _ _ _ _ mtr_opJournalRejects

theorem mtr_execLockoutExpiry (v0 s) : (after s (execLockoutExpiry v0 s)).mtr = s.mtr := by
  simp only [execLockoutExpiry] <;>
    repeat' first | simp only [after_next, ↓mk_mtr, ↓mtr_elapseTo] | with_reducible refine (mtr_foldl _ (fun s x => ?_) _ _).trans ?_ | split | rfl

theorem mtr_execReadPacket (v0 s) : (after s (execReadPacket v0 s)).mtr = s.mtr := by
  simp only [execReadPacket] <;>
    repeat' first | simp only [after_next, ↓mk_mtr, ↓mtr_emit] | with_reducible refine (mtr_foldl _ (fun s x => ?_) _ _).trans ?_ | split | rfl

theorem mtr_execSessionAuth (v0 v1 s) : (after s (execSessionAuth v0 v1 s)).mtr = s.mtr :=
  mtr_packetIn _ _ _ _ _ mtr_opSessionAuth

theorem mtr_execSessionClose (v0 v1 s) : (after s (execSessionClose v0 v1 s)).mtr = s.mtr :=
  mtr_packetIn _ _ _ _ _ mtr_opSessionClose

theorem mtr_execSessionIdleExpiry (v0 s) : (after s (execSessionIdleExpiry v0 s)).mtr = s.mtr := by
  simp only [execSessionIdleExpiry] <;>
    repeat' first | simp only [after_next, ↓mk_mtr, ↓mtr_expire, ↓mtr_elapseTo] | with_reducible refine (mtr_foldl _ (fun s x => ?_) _ _).trans ?_ | split | rfl

theorem mtr_sessionOpenPacket (v0 v1 s) : (sessionOpenPacket v0 v1 s).mtr = s.mtr := by
  simp only [sessionOpenPacket] <;>
    repeat' first | simp only [↓mk_mtr, ↓mtr_takeBuffer, ↓mtr_reject, ↓mtr_sendReply] | with_reducible refine (mtr_foldl _ (fun s x => ?_) _ _).trans ?_ | split | rfl

theorem mtr_execSessionOpen (v0 v1 s) : (after s (execSessionOpen v0 v1 s)).mtr = s.mtr := by
  simp only [execSessionOpen] <;>
    repeat' first | simp only [after_next, ↓mk_mtr, ↓mtr_sessionOpenPacket] | with_reducible refine (mtr_foldl _ (fun s x => ?_) _ _).trans ?_ | split | rfl

theorem mtr_execSessionPing (v0 v1 s) : (after s (execSessionPing v0 v1 s)).mtr = s.mtr :=
  mtr_packetIn _ _ _ _ _ mtr_opSessionPing

theorem mtr_execSessionResync (v0 v1 s) : (after s (execSessionResync v0 v1 s)).mtr = s.mtr :=
  mtr_packetIn _ _ _ _ _ mtr_opSessionResync

theorem mtr_execTagAbort (v0 v1 s) : (after s (execTagAbort v0 v1 s)).mtr = s.mtr :=
  mtr_packetIn _ _ _ _ _ mtr_opTagAbort

theorem mtr_execWritePacket (v0 v1 s) : (after s (execWritePacket v0 v1 s)).mtr = s.mtr := by
  simp only [execWritePacket] <;>
    repeat' first | simp only [after_next, ↓mk_mtr] | with_reducible refine (mtr_foldl _ (fun s x => ?_) _ _).trans ?_ | split | rfl

theorem mtr_askSearch (s v1) : (askSearch s v1).mtr = s.mtr := by
  simp only [askSearch] <;>
    repeat' first | simp only [↓mk_mtr] | with_reducible refine (mtr_foldl _ (fun s x => ?_) _ _).trans ?_ | split | rfl

theorem mtr_modChan (v0 v1 s) : (modChan v0 v1 s).mtr = s.mtr := by
  simp only [modChan] <;>
    repeat' first | simp only [↓mk_mtr] | with_reducible refine (mtr_foldl _ (fun s x => ?_) _ _).trans ?_ | split | rfl

theorem mtr_assignOne (s) : (assignOne s).mtr = s.mtr := by
  simp only [assignOne] <;>
    repeat' first | simp only [↓mk_mtr, ↓mtr_modChan] | with_reducible refine (mtr_foldl _ (fun s x => ?_) _ _).trans ?_ | split | rfl

theorem mtr_modBand (v0 v1 s) : (modBand v0 v1 s).mtr = s.mtr := by
  simp only [modBand] <;>
    repeat' first | simp only [↓mk_mtr] | with_reducible refine (mtr_foldl _ (fun s x => ?_) _ _).trans ?_ | split | rfl

theorem mtr_bandFault (v0 s) : (bandFault v0 s).mtr = s.mtr := by
  simp only [bandFault] <;>
    repeat' first | simp only [↓mk_mtr, ↓mtr_modBand, ↓mtr_record] | with_reducible refine (mtr_foldl _ (fun s x => ?_) _ _).trans ?_ | split | rfl

theorem mtr_checkBand (v0 v1 s) : (checkBand v0 v1 s).mtr = s.mtr := by
  simp only [checkBand] <;>
    repeat' first | simp only [↓mk_mtr, ↓mtr_modBand, ↓mtr_bandFault] | with_reducible refine (mtr_foldl _ (fun s x => ?_) _ _).trans ?_ | split | rfl

theorem mtr_copyEphemeris (s) : (copyEphemeris s).mtr = s.mtr := by
  simp only [copyEphemeris] <;>
    repeat' first | simp only [↓mk_mtr] | with_reducible refine (mtr_foldl _ (fun s x => ?_) _ _).trans ?_ | split | rfl

theorem mtr_disturb (v0 s) : (disturb v0 s).mtr = s.mtr := by
  simp only [disturb] <;>
    repeat' first | simp only [↓mk_mtr] | with_reducible refine (mtr_foldl _ (fun s x => ?_) _ _).trans ?_ | split | rfl

theorem mtr_execAgcUpdate (v0 v1 s) : (after s (execAgcUpdate v0 v1 s)).mtr = s.mtr := by
  simp only [execAgcUpdate] <;>
    repeat' first | simp only [after_next, ↓mk_mtr, ↓mtr_elapseTo, ↓mtr_modBand, ↓mtr_bandFault] | with_reducible refine (mtr_foldl _ (fun s x => ?_) _ _).trans ?_ | split | rfl

theorem mtr_execBandClockCheck (v0 s) : (after s (execBandClockCheck v0 s)).mtr = s.mtr := by
  simp only [execBandClockCheck] <;>
    repeat' first | simp only [after_next, ↓mk_mtr, ↓mtr_elapseTo, ↓mtr_checkBand] | with_reducible refine (mtr_foldl _ (fun s x => ?_) _ _).trans ?_ | split | rfl

theorem mtr_execBandHealthy (v0 s) : (after s (execBandHealthy v0 s)).mtr = s.mtr := by
  simp only [execBandHealthy] <;>
    repeat' first | simp only [after_next, ↓mk_mtr, ↓mtr_elapseTo, ↓mtr_modBand] | with_reducible refine (mtr_foldl _ (fun s x => ?_) _ _).trans ?_ | split | rfl

theorem mtr_searchOne (s) : (searchOne s).mtr = s.mtr := by
  unfold searchOne
  split
  · rfl
  · extract_lets next
    cases next with
    | none => rfl
    | some i => exact mtr_modChan _ _ _

theorem mtr_serveSearches (s) : (serveSearches s).mtr = s.mtr := by
  simp only [serveSearches] <;>
    repeat' first | simp only [↓mk_mtr, ↓mtr_assignOne, ↓mtr_searchOne] | with_reducible refine (mtr_foldl _ (fun s x => ?_) _ _).trans ?_ | split | rfl

theorem mtr_execChannelLossOfLock (v0 s) : (after s (execChannelLossOfLock v0 s)).mtr = s.mtr := by
  simp only [execChannelLossOfLock] <;>
    repeat' first | simp only [after_next, ↓mk_mtr, ↓mtr_elapseTo, ↓mtr_serveSearches, ↓mtr_modChan] | with_reducible refine (mtr_foldl _ (fun s x => ?_) _ _).trans ?_ | split | rfl

theorem mtr_execEphemerisCopy (s) : (after s (execEphemerisCopy s)).mtr = s.mtr := by
  simp only [execEphemerisCopy] <;>
    repeat' first | simp only [after_next, ↓mk_mtr, ↓mtr_copyEphemeris, ↓mtr_elapseTo] | with_reducible refine (mtr_foldl _ (fun s x => ?_) _ _).trans ?_ | split | rfl

theorem mtr_sendEntry (v0 s) : (sendEntry v0 s).mtr = s.mtr := by
  simp only [sendEntry] <;>
    repeat' first | simp only [↓mk_mtr, ↓mtr_emit] | with_reducible refine (mtr_foldl _ (fun s x => ?_) _ _).trans ?_ | split | rfl

theorem mtr_sendFrontEnd (v0 s) : (sendFrontEnd v0 s).mtr = s.mtr := by
  simp only [sendFrontEnd] <;>
    repeat' first | simp only [↓mk_mtr, ↓mtr_sendEntry] | with_reducible refine (mtr_foldl _ (fun s x => ?_) _ _).trans ?_ | split | rfl

theorem mtr_execFrontEndReplay (v0 s) : (after s (execFrontEndReplay v0 s)).mtr = s.mtr := by
  simp only [execFrontEndReplay] <;>
    repeat' first | simp only [after_next, ↓mk_mtr, ↓mtr_elapseTo, ↓mtr_modBand, ↓mtr_sendFrontEnd] | with_reducible refine (mtr_foldl _ (fun s x => ?_) _ _).trans ?_ | split | rfl

theorem mtr_execGnssJamming (v0 s) : (after s (execGnssJamming v0 s)).mtr = s.mtr := by
  simp only [execGnssJamming] <;>
    repeat' first | simp only [after_next, ↓mk_mtr, ↓mtr_record, ↓mtr_modBand, ↓mtr_elapseTo] | with_reducible refine (mtr_foldl _ (fun s x => ?_) _ _).trans ?_ | split | rfl

theorem mtr_execGnssRawPublish (s) : (after s (execGnssRawPublish s)).mtr = s.mtr := by
  simp only [execGnssRawPublish] <;>
    repeat' first | simp only [after_next, ↓mk_mtr, ↓mtr_countTo] | with_reducible refine (mtr_foldl _ (fun s x => ?_) _ _).trans ?_ | split | rfl

theorem mtr_execGnssRawRead (v0 v1 s) : (after s (execGnssRawRead v0 v1 s)).mtr = s.mtr :=
  mtr_packetIn _ _ _ _ _ mtr_opGnssRawRead

theorem mtr_publishSol (v0 v1 v2 s) : (publishSol v0 v1 v2 s).mtr = s.mtr := by
  simp only [publishSol] <;>
    repeat' first | simp only [↓mk_mtr, ↓mtr_publishAs] | with_reducible refine (mtr_foldl _ (fun s x => ?_) _ _).trans ?_ | split | rfl

theorem mtr_publishBase (v0 v1 v2 s) : (publishBase v0 v1 v2 s).mtr = s.mtr := by
  simp only [publishBase] <;>
    repeat' first | simp only [↓mk_mtr, ↓mtr_publishAs] | with_reducible refine (mtr_foldl _ (fun s x => ?_) _ _).trans ?_ | split | rfl

theorem mtr_execGnssSolutionPublish (v0 v1 s) : (after s (execGnssSolutionPublish v0 v1 s)).mtr = s.mtr := by
  simp only [execGnssSolutionPublish] <;>
    repeat' first | simp only [after_next, ↓mk_mtr, ↓mtr_countTo, ↓mtr_publishSol, ↓mtr_publishBase] | with_reducible refine (mtr_foldl _ (fun s x => ?_) _ _).trans ?_ | split | rfl

theorem mtr_execGnssStatus (v0 v1 s) : (after s (execGnssStatus v0 v1 s)).mtr = s.mtr :=
  mtr_packetIn _ _ _ _ _ mtr_opGnssStatus

theorem mtr_execJamIndicator (v0 s) : (after s (execJamIndicator v0 s)).mtr = s.mtr := by
  simp only [execJamIndicator] <;>
    repeat' first | simp only [after_next, ↓mk_mtr, ↓mtr_elapseTo, ↓mtr_modBand] | with_reducible refine (mtr_foldl _ (fun s x => ?_) _ _).trans ?_ | split | rfl

theorem mtr_leaveJobs (s) : (leaveJobs s).mtr = s.mtr := by
  simp only [leaveJobs] <;>
    repeat' first | simp only [↓mk_mtr] | with_reducible refine (mtr_foldl _ (fun s x => ?_) _ _).trans ?_ | split | rfl

theorem mtr_solveEpoch (v0 v1 v2 s) : (solveEpoch v0 v1 v2 s).mtr = s.mtr := by
  simp only [solveEpoch] <;>
    repeat' first | simp only [↓mk_mtr, ↓mtr_record] | with_reducible refine (mtr_foldl _ (fun s x => ?_) _ _).trans ?_ | split | rfl

theorem mtr_execMeasurementEpoch (v0 v1 v2 s) : (after s (execMeasurementEpoch v0 v1 v2 s)).mtr = s.mtr := by
  simp only [execMeasurementEpoch] <;>
    repeat' first | simp only [after_next, ↓mk_mtr, ↓mtr_countTo, ↓mtr_leaveJobs, ↓mtr_solveEpoch] | with_reducible refine (mtr_foldl _ (fun s x => ?_) _ _).trans ?_ | split | rfl

theorem mtr_execNavBitsRead (v0 v1 s) : (after s (execNavBitsRead v0 v1 s)).mtr = s.mtr :=
  mtr_packetIn _ _ _ _ _ mtr_opNavBitsRead

theorem mtr_useUnit (v0 v1 v2 s) : (useUnit v0 v1 v2 s).mtr = s.mtr := by
  simp only [useUnit] <;>
    repeat' first | simp only [↓mk_mtr, ↓mtr_publish] | with_reducible refine (mtr_foldl _ (fun s x => ?_) _ _).trans ?_ | split | rfl

theorem mtr_execNavUnitDecoded (v0 v1 s) : (after s (execNavUnitDecoded v0 v1 s)).mtr = s.mtr := by
  simp only [execNavUnitDecoded] <;>
    repeat' first | simp only [after_next, ↓mk_mtr, ↓mtr_modChan, ↓mtr_useUnit] | with_reducible refine (mtr_foldl _ (fun s x => ?_) _ _).trans ?_ | split | rfl

theorem mtr_execNotchUpdate (v0 v1 v2 s) : (after s (execNotchUpdate v0 v1 v2 s)).mtr = s.mtr := by
  simp only [execNotchUpdate] <;>
    repeat' first | simp only [after_next, ↓mk_mtr, ↓mtr_elapseTo, ↓mtr_modBand, ↓mtr_disturb] | with_reducible refine (mtr_foldl _ (fun s x => ?_) _ _).trans ?_ | split | rfl

theorem mtr_execRtcmInput (v0 v1 s) : (after s (execRtcmInput v0 v1 s)).mtr = s.mtr :=
  mtr_packetIn _ _ _ _ _ mtr_opRtcmInput

theorem mtr_execSearchComplete (v0 v1 v2 s) : (after s (execSearchComplete v0 v1 v2 s)).mtr = s.mtr := by
  simp only [execSearchComplete] <;>
    repeat' first | simp only [after_next, ↓mk_mtr, ↓mtr_elapseTo, ↓mtr_serveSearches, ↓mtr_modChan] | with_reducible refine (mtr_foldl _ (fun s x => ?_) _ _).trans ?_ | split | rfl

theorem mtr_loopStart (v0 s) : (loopStart v0 s).mtr = s.mtr := by
  simp only [loopStart] <;>
    repeat' first | simp only [↓mk_mtr, ↓mtr_elapseTo, ↓mtr_serveSearches, ↓mtr_askSearch] | with_reducible refine (mtr_foldl _ (fun s x => ?_) _ _).trans ?_ | split | rfl

theorem mtr_execTrackingLoop (v0 v1 v2 s) : (after s (execTrackingLoop v0 v1 v2 s)).mtr = s.mtr := by
  simp only [execTrackingLoop] <;>
    repeat' first | simp only [after_next, ↓mk_mtr, ↓mtr_modChan, ↓mtr_loopStart] | with_reducible refine (mtr_foldl _ (fun s x => ?_) _ _).trans ?_ | split | rfl

theorem mtr_startFrontEnd (s) : (startFrontEnd s).mtr = s.mtr := by
  simp only [startFrontEnd] <;>
    repeat' first | simp only [↓mk_mtr, ↓mtr_sendEntry] | with_reducible refine (mtr_foldl _ (fun s x => ?_) _ _).trans ?_ | split | rfl

theorem mtr_gnssStart (s) : (gnssStart s).mtr = s.mtr := by
  simp only [gnssStart] <;>
    repeat' first | simp only [↓mk_mtr, ↓mtr_startFrontEnd] | with_reducible refine (mtr_foldl _ (fun s x => ?_) _ _).trans ?_ | split | rfl

theorem mtr_solutionsStop (s) : (solutionsStop s).mtr = s.mtr := by
  simp only [solutionsStop] <;>
    repeat' first | simp only [↓mk_mtr] | with_reducible refine (mtr_foldl _ (fun s x => ?_) _ _).trans ?_ | split | rfl

theorem mtr_markOutput (v0 s) : (markOutput v0 s).mtr = s.mtr := by
  unfold markOutput
  cases acqCfg s v0 with
  | none => rfl
  | some k => exact mtr_markBad _ _

theorem mtr_applySync (v0 v1 v2 s) : (applySync v0 v1 v2 s).mtr = s.mtr := by
  simp only [applySync] <;>
    repeat' first | simp only [↓mk_mtr, ↓mtr_phaseOn, ↓mtr_markOutput, ↓mtr_record] | with_reducible refine (mtr_foldl _ (fun s x => ?_) _ _).trans ?_ | split | rfl

theorem mtr_runClocks (s) : (runClocks s).mtr = s.mtr := by
  simp only [runClocks] <;>
    repeat' first | simp only [↓mk_mtr] | with_reducible refine (mtr_foldl _ (fun s x => ?_) _ _).trans ?_ | split | rfl

theorem mtr_modAcq (v0 v1 s) : (modAcq v0 v1 s).mtr = s.mtr := by
  simp only [modAcq] <;>
    repeat' first | simp only [↓mk_mtr] | with_reducible refine (mtr_foldl _ (fun s x => ?_) _ _).trans ?_ | split | rfl

theorem mtr_startChan (v0 v1 s) : (startChan v0 v1 s).mtr = s.mtr := by
  simp only [startChan] <;>
    repeat' first | simp only [↓mk_mtr, ↓mtr_startSignal, ↓mtr_modAcq] | with_reducible refine (mtr_foldl _ (fun s x => ?_) _ _).trans ?_ | split | rfl

theorem mtr_acqBoundary (v0 s) : (acqBoundary v0 s).mtr = s.mtr := by
  simp only [acqBoundary] <;>
    repeat' first | simp only [↓mk_mtr, ↓mtr_scheduleSync, ↓mtr_applySync, ↓mtr_runClocks, ↓mtr_startChan, ↓mtr_modAcq, ↓mtr_publish] | with_reducible refine (mtr_foldl _ (fun s x => ?_) _ _).trans ?_ | split | rfl

theorem mtr_acqFault (v0 s) : (acqFault v0 s).mtr = s.mtr := by
  simp only [acqFault] <;>
    repeat' first | simp only [↓mk_mtr, ↓mtr_record, ↓mtr_markOutput, ↓mtr_modAcq] | with_reducible refine (mtr_foldl _ (fun s x => ?_) _ _).trans ?_ | split | rfl

theorem mtr_acqPublish (v0 v1 v2 v3 s) : (acqPublish v0 v1 v2 v3 s).mtr = s.mtr := by
  simp only [acqPublish] <;>
    repeat' first | simp only [↓mk_mtr, ↓mtr_publishAs] | with_reducible refine (mtr_foldl _ (fun s x => ?_) _ _).trans ?_ | split | rfl

theorem mtr_acqStep (v0 v1 s v3) : (acqStep v0 v1 s v3).mtr = s.mtr := by
  simp only [acqStep] <;>
    repeat' first | simp only [↓mk_mtr, ↓mtr_modAcq, ↓mtr_countTo, ↓mtr_acqFault, ↓mtr_record, ↓mtr_acqPublish] | with_reducible refine (mtr_foldl _ (fun s x => ?_) _ _).trans ?_ | split | rfl

theorem mtr_acqStop (s) : (acqStop s).mtr = s.mtr := by
  simp only [acqStop] <;>
    repeat' first | simp only [↓mk_mtr] | with_reducible refine (mtr_foldl _ (fun s x => ?_) _ _).trans ?_ | split | rfl

theorem mtr_execAcqModFault (v0 s) : (after s (execAcqModFault v0 s)).mtr = s.mtr := by
  simp only [execAcqModFault] <;>
    repeat' first | simp only [after_next, ↓mk_mtr, ↓mtr_acqFault] | with_reducible refine (mtr_foldl _ (fun s x => ?_) _ _).trans ?_ | split | rfl

theorem mtr_execAcqOutput (v0 v1 s) : (after s (execAcqOutput v0 v1 s)).mtr = s.mtr := by
  simp only [execAcqOutput] <;>
    repeat' first | simp only [after_next, ↓mk_mtr, ↓mtr_acqStep] | with_reducible refine (mtr_foldl _ (fun s x => ?_) _ _).trans ?_ | split | rfl

theorem mtr_execAcqSync (s) : (after s (execAcqSync s)).mtr = s.mtr := by
  simp only [execAcqSync] <;>
    repeat' first | simp only [after_next, ↓mk_mtr, ↓mtr_applySync, ↓mtr_countTo] | with_reducible refine (mtr_foldl _ (fun s x => ?_) _ _).trans ?_ | split | rfl

theorem mtr_execAcqSyncPinEdge (v0 s) : (after s (execAcqSyncPinEdge v0 s)).mtr = s.mtr := by
  simp only [execAcqSyncPinEdge] <;>
    repeat' first | simp only [after_next, ↓mk_mtr, ↓mtr_requestSync] | with_reducible refine (mtr_foldl _ (fun s x => ?_) _ _).trans ?_ | split | rfl

theorem mtr_execModFaultClear (v0 s) : (after s (execModFaultClear v0 s)).mtr = s.mtr := by
  simp only [execModFaultClear] <;>
    repeat' first | simp only [after_next, ↓mk_mtr, ↓mtr_elapseTo, ↓mtr_modAcq] | with_reducible refine (mtr_foldl _ (fun s x => ?_) _ _).trans ?_ | split | rfl

theorem mtr_execSettlingEnd (v0 s) : (after s (execSettlingEnd v0 s)).mtr = s.mtr := by
  simp only [execSettlingEnd] <;>
    repeat' first | simp only [after_next, ↓mk_mtr, ↓mtr_countTo, ↓mtr_modAcq] | with_reducible refine (mtr_foldl _ (fun s x => ?_) _ _).trans ?_ | split | rfl

theorem mtr_thresholdsOff (s) : (thresholdsOff s).mtr = s.mtr := by
  simp only [thresholdsOff] <;>
    repeat' first | simp only [↓mk_mtr, ↓mtr_record, ↓mtr_modAcq] | with_reducible refine (mtr_foldl _ (fun s x => ?_) _ _).trans ?_ | split | rfl

theorem mtr_execControlBlockWrite (s) : (after s (execControlBlockWrite s)).mtr = s.mtr := by
  simp only [execControlBlockWrite] <;>
    repeat' first | simp only [after_next, ↓mk_mtr] | with_reducible refine (mtr_foldl _ (fun s x => ?_) _ _).trans ?_ | split | rfl

theorem mtr_execEventEntry (v0 v1 s) : (after s (execEventEntry v0 v1 s)).mtr = s.mtr := by
  simp only [execEventEntry] <;>
    repeat' first | simp only [after_next, ↓mk_mtr, ↓mtr_record] | with_reducible refine (mtr_foldl _ (fun s x => ?_) _ _).trans ?_ | split | rfl

theorem mtr_flushEvents (s) : (flushEvents s).mtr = s.mtr := by
  simp only [flushEvents] <;>
    repeat' first | simp only [↓mk_mtr, ↓mtr_pushRec] | with_reducible refine (mtr_foldl _ (fun s x => ?_) _ _).trans ?_ | split | rfl

theorem mtr_execEventFlush (s) : (after s (execEventFlush s)).mtr = s.mtr := by
  simp only [execEventFlush] <;>
    repeat' first | simp only [after_next, ↓mk_mtr, ↓mtr_flushEvents] | with_reducible refine (mtr_foldl _ (fun s x => ?_) _ _).trans ?_ | split | rfl

theorem mtr_execEvtClear (v0 v1 s) : (after s (execEvtClear v0 v1 s)).mtr = s.mtr :=
  mtr_packetIn _ _ _ _ _ mtr_opEvtClear

theorem mtr_execEvtInfo (v0 v1 s) : (after s (execEvtInfo v0 v1 s)).mtr = s.mtr :=
  mtr_packetIn _ _ _ _ _ mtr_opEvtInfo

theorem mtr_execEvtRead (v0 v1 s) : (after s (execEvtRead v0 v1 s)).mtr = s.mtr :=
  mtr_packetIn _ _ _ _ _ mtr_opEvtRead

theorem mtr_modEx (v0 v1 s) : (modEx v0 v1 s).mtr = s.mtr := by
  simp only [modEx] <;>
    repeat' first | simp only [↓mk_mtr] | with_reducible refine (mtr_foldl _ (fun s x => ?_) _ _).trans ?_ | split | rfl

theorem mtr_queueStamp (v0 s) : (queueStamp v0 s).mtr = s.mtr := by
  simp only [queueStamp] <;>
    repeat' first | simp only [↓mk_mtr] | with_reducible refine (mtr_foldl _ (fun s x => ?_) _ _).trans ?_ | split | rfl

theorem mtr_sendEvent (v0 v1 v2 v3 v4 v5 s) : (sendEvent v0 v1 v2 v3 v4 v5 s).mtr = s.mtr := by
  simp only [sendEvent] <;>
    repeat' first | simp only [↓mk_mtr, ↓mtr_emit, ↓mtr_modEx, ↓mtr_queueStamp] | with_reducible refine (mtr_foldl _ (fun s x => ?_) _ _).trans ?_ | split | rfl

theorem mtr_cascEvent (v0 v1 v2 v3 v4 s) : (cascEvent v0 v1 v2 v3 v4 s).mtr = s.mtr := by
  simp only [cascEvent] <;>
    repeat' first | simp only [↓mk_mtr, ↓mtr_elapseTo, ↓mtr_sendEvent] | with_reducible refine (mtr_foldl _ (fun s x => ?_) _ _).trans ?_ | split | rfl

theorem mtr_cascSync (v0 v1 s) : (cascSync v0 v1 s).mtr = s.mtr := by
  simp only [cascSync] <;>
    repeat' first | simp only [↓mk_mtr, ↓mtr_initialStep, ↓mtr_modEx] | with_reducible refine (mtr_foldl _ (fun s x => ?_) _ _).trans ?_ | split | rfl

theorem mtr_publishExchange (v0 v1 v2 v3 v4 v5 v6 s) : (publishExchange v0 v1 v2 v3 v4 v5 v6 s).mtr = s.mtr := by
  simp only [publishExchange] <;>
    repeat' first | simp only [↓mk_mtr, ↓mtr_modEx, ↓mtr_publish] | with_reducible refine (mtr_foldl _ (fun s x => ?_) _ _).trans ?_ | split | rfl

theorem mtr_endPdelay (v0 v1 v2 v3 v4 s) : (endPdelay v0 v1 v2 v3 v4 s).mtr = s.mtr := by
  simp only [endPdelay] <;>
    repeat' first | simp only [↓mk_mtr, ↓mtr_modEx, ↓mtr_publishExchange] | with_reducible refine (mtr_foldl _ (fun s x => ?_) _ _).trans ?_ | split | rfl

theorem mtr_pdelayResp (v0 v1 s) : (pdelayResp v0 v1 s).mtr = s.mtr := by
  simp only [pdelayResp] <;>
    repeat' first | simp only [↓mk_mtr, ↓mtr_modEx, ↓mtr_endPdelay] | with_reducible refine (mtr_foldl _ (fun s x => ?_) _ _).trans ?_ | split | rfl

theorem mtr_cascPtp (v0 v1 s) : (cascPtp v0 v1 s).mtr = s.mtr := by
  simp only [cascPtp] <;>
    repeat' first | simp only [↓mk_mtr, ↓mtr_cascSync, ↓mtr_sendEvent, ↓mtr_pdelayResp] | with_reducible refine (mtr_foldl _ (fun s x => ?_) _ _).trans ?_ | split | rfl

theorem mtr_endDelay (v0 v1 s) : (endDelay v0 v1 s).mtr = s.mtr := by
  simp only [endDelay] <;>
    repeat' first | simp only [↓mk_mtr, ↓mtr_publishExchange] | with_reducible refine (mtr_foldl _ (fun s x => ?_) _ _).trans ?_ | split | rfl

theorem mtr_syncDone (v0 s) : (syncDone v0 s).mtr = s.mtr := by
  simp only [syncDone] <;>
    repeat' first | simp only [↓mk_mtr, ↓mtr_modEx] | with_reducible refine (mtr_foldl _ (fun s x => ?_) _ _).trans ?_ | split | rfl

theorem mtr_hearAnnounce (v0 v1 s) : (hearAnnounce v0 v1 s).mtr = s.mtr := by
  simp only [hearAnnounce] <;>
    repeat' first | simp only [↓mk_mtr, ↓mtr_modEx, ↓mtr_publish] | with_reducible refine (mtr_foldl _ (fun s x => ?_) _ _).trans ?_ | split | rfl

theorem mtr_ethPtp (v0 v1 s) : (ethPtp v0 v1 s).mtr = s.mtr := by
  simp only [ethPtp] <;>
    repeat' first | simp only [↓mk_mtr, ↓mtr_modEx, ↓mtr_syncDone, ↓mtr_emit, ↓mtr_endDelay, ↓mtr_pdelayResp, ↓mtr_endPdelay, ↓mtr_hearAnnounce] | with_reducible refine (mtr_foldl _ (fun s x => ?_) _ _).trans ?_ | split | rfl

theorem mtr_holdRate (s) : (holdRate s).mtr = s.mtr := by
  simp only [holdRate] <;>
    repeat' first | simp only [↓mk_mtr, ↓mtr_writeRate] | with_reducible refine (mtr_foldl _ (fun s x => ?_) _ _).trans ?_ | split | rfl

theorem mtr_execHoldoverEnter (s) : (after s (execHoldoverEnter s)).mtr = s.mtr := by
  unfold execHoldoverEnter
  split
  · rw [after_next, mtr_record]
    split
    · rw [mtr_holdRate, mk_mtr, mtr_elapseTo]
    · rw [mk_mtr, mtr_elapseTo]
  · rfl

theorem mtr_execPdelayReqTx (v0 s) : (after s (execPdelayReqTx v0 s)).mtr = s.mtr := by
  simp only [execPdelayReqTx] <;>
    repeat' first | simp only [after_next, ↓mk_mtr, ↓mtr_cascEvent] | with_reducible refine (mtr_foldl _ (fun s x => ?_) _ _).trans ?_ | split | rfl

theorem mtr_execPpsInEdge (v0 s) : (after s (execPpsInEdge v0 s)).mtr = s.mtr := by
  simp only [execPpsInEdge] <;>
    repeat' first | simp only [after_next, ↓mk_mtr, ↓mtr_publish] | with_reducible refine (mtr_foldl _ (fun s x => ?_) _ _).trans ?_ | split | rfl

theorem mtr_execPpsOutPulse (s) : (after s (execPpsOutPulse s)).mtr = s.mtr := by
  simp only [execPpsOutPulse] <;>
    repeat' first | simp only [after_next, ↓mk_mtr, ↓mtr_countTo, ↓mtr_emit] | with_reducible refine (mtr_foldl _ (fun s x => ?_) _ _).trans ?_ | split | rfl

theorem mtr_execPtpMessageRx (v0 v1 s) : (after s (execPtpMessageRx v0 v1 s)).mtr = s.mtr := by
  simp only [execPtpMessageRx] <;>
    repeat' first | simp only [after_next, ↓mk_mtr, ↓mtr_ethPtp, ↓mtr_cascPtp] | with_reducible refine (mtr_foldl _ (fun s x => ?_) _ _).trans ?_ | split | rfl

theorem mtr_execPtpMessageTx (v0 v1 v2 s) : (after s (execPtpMessageTx v0 v1 v2 s)).mtr = s.mtr := by
  simp only [execPtpMessageTx] <;>
    repeat' first | simp only [after_next, ↓mk_mtr, ↓mtr_emit, ↓mtr_modEx, ↓mtr_sendEvent] | with_reducible refine (mtr_foldl _ (fun s x => ?_) _ _).trans ?_ | split | rfl

theorem mtr_execPtpSyncTx (v0 s) : (after s (execPtpSyncTx v0 s)).mtr = s.mtr := by
  simp only [execPtpSyncTx] <;>
    repeat' first | simp only [after_next, ↓mk_mtr, ↓mtr_cascEvent] | with_reducible refine (mtr_foldl _ (fun s x => ?_) _ _).trans ?_ | split | rfl

theorem mtr_offsetAlarm (v0 s) : (offsetAlarm v0 s).mtr = s.mtr := by
  simp only [offsetAlarm] <;>
    repeat' first | simp only [↓mk_mtr, ↓mtr_record] | with_reducible refine (mtr_foldl _ (fun s x => ?_) _ _).trans ?_ | split | rfl

theorem mtr_holdoverExit (v0 s) : (holdoverExit v0 s).mtr = s.mtr := by
  simp only [holdoverExit] <;>
    repeat' first | simp only [↓mk_mtr, ↓mtr_record] | with_reducible refine (mtr_foldl _ (fun s x => ?_) _ _).trans ?_ | split | rfl

theorem mtr_takeOffset (v0 s) : (takeOffset v0 s).mtr = s.mtr := by
  simp only [takeOffset] <;>
    repeat' first | simp only [↓mk_mtr, ↓mtr_freshen, ↓mtr_offsetAlarm, ↓mtr_holdoverExit, ↓mtr_writeRate] | with_reducible refine (mtr_foldl _ (fun s x => ?_) _ _).trans ?_ | split | rfl

theorem mtr_useOffset (v0 s) : (useOffset v0 s).mtr = s.mtr := by
  unfold useOffset
  split
  · cases masterPort s with
    | none => rfl
    | some p => exact mtr_modEx _ _ _
  · rfl
  · cases slavePort s with
    | none => rfl
    | some p => exact mtr_modEx _ _ _
  · rfl

theorem mtr_execServoMeasurement (v0 s) : (after s (execServoMeasurement v0 s)).mtr = s.mtr := by
  unfold execServoMeasurement
  repeat' first | rw [after_next, mtr_takeOffset, mtr_initialStep, mtr_useOffset] | rw [after_next, mtr_takeOffset, mtr_useOffset] | split | rw [after_next]

theorem mtr_execTimeGet (v0 v1 s) : (after s (execTimeGet v0 v1 s)).mtr = s.mtr :=
  mtr_packetIn _ _ _ _ _ mtr_opTimeGet

theorem mtr_execTimeRate (v0 v1 s) : (after s (execTimeRate v0 v1 s)).mtr = s.mtr :=
  mtr_packetIn _ _ _ _ _ mtr_opTimeRate

theorem mtr_execTimeSet (v0 v1 s) : (after s (execTimeSet v0 v1 s)).mtr = s.mtr :=
  mtr_packetIn _ _ _ _ _ mtr_opTimeSet

theorem mtr_execTimeStep (v0 v1 s) : (after s (execTimeStep v0 v1 s)).mtr = s.mtr :=
  mtr_packetIn _ _ _ _ _ mtr_opTimeStep

theorem mtr_execTimeStepInstant (s) : (after s (execTimeStepInstant s)).mtr = s.mtr := by
  simp only [execTimeStepInstant]
  split
  · simp only [after_next]
  · split
    · rw [after_next, mtr_runCmd _ mtr_opTimeStep, mtr_applyStep]
    · rw [after_next, mtr_applyStep]

theorem mtr_execTxStampRead (v0 v1 s) : (after s (execTxStampRead v0 v1 s)).mtr = s.mtr :=
  mtr_packetIn _ _ _ _ _ mtr_opTxStampRead

theorem mtr_pruneStamps (s) : (pruneStamps s).mtr = s.mtr := by
  simp only [pruneStamps] <;>
    repeat' first | simp only [↓mk_mtr] | with_reducible refine (mtr_foldl _ (fun s x => ?_) _ _).trans ?_ | split | rfl

theorem mtr_busBoundary (s) : (busBoundary s).mtr = s.mtr := by
  simp only [busBoundary] <;>
    repeat' first | simp only [↓mk_mtr, ↓mtr_publish] | with_reducible refine (mtr_foldl _ (fun s x => ?_) _ _).trans ?_ | split | rfl

theorem mtr_canEntry (v0 v1 v2 v3 v4 s v6) : (canEntry v0 v1 v2 v3 v4 s v6).mtr = s.mtr := by
  simp only [canEntry] <;>
    repeat' first | simp only [↓mk_mtr, ↓mtr_modCan, ↓mtr_publishAs] | with_reducible refine (mtr_foldl _ (fun s x => ?_) _ _).trans ?_ | split | rfl

theorem mtr_canInit (s) : (canInit s).mtr = s.mtr := by
  simp only [canInit] <;>
    repeat' first | simp only [↓mk_mtr] | with_reducible refine (mtr_foldl _ (fun s x => ?_) _ _).trans ?_ | split | rfl

theorem mtr_canRecoverStart (s) : (canRecoverStart s).mtr = s.mtr := by
  simp only [canRecoverStart] <;>
    repeat' first | simp only [↓mk_mtr] | with_reducible refine (mtr_foldl _ (fun s x => ?_) _ _).trans ?_ | split | rfl

theorem mtr_canRejoin (v0 s) : (canRejoin v0 s).mtr = s.mtr := by
  simp only [canRejoin] <;>
    repeat' first | simp only [↓mk_mtr] | with_reducible refine (mtr_foldl _ (fun s x => ?_) _ _).trans ?_ | split | rfl

theorem mtr_canWake (s) : (canWake s).mtr = s.mtr := by
  simp only [canWake] <;>
    repeat' first | simp only [↓mk_mtr] | with_reducible refine (mtr_foldl _ (fun s x => ?_) _ _).trans ?_ | split | rfl

theorem mtr_discardSentence (v0 s) : (discardSentence v0 s).mtr = s.mtr := by
  simp only [discardSentence] <;>
    repeat' first | simp only [↓mk_mtr] | with_reducible refine (mtr_foldl _ (fun s x => ?_) _ _).trans ?_ | split | rfl

theorem mtr_loseDrive (v0 s) : (loseDrive v0 s).mtr = s.mtr := by
  simp only [loseDrive] <;>
    repeat' first | simp only [↓mk_mtr, ↓mtr_record, ↓mtr_modDrive] | with_reducible refine (mtr_foldl _ (fun s x => ?_) _ _).trans ?_ | split | rfl

theorem mtr_faultSignals (v0 s) : (faultSignals v0 s).mtr = s.mtr := by
  simp only [faultSignals] <;>
    repeat' first | simp only [↓mk_mtr, ↓mtr_markBad] | with_reducible refine (mtr_foldl _ (fun s x => ?_) _ _).trans ?_ | split | rfl

theorem mtr_execCanBusOff (v0 s) : (after s (execCanBusOff v0 s)).mtr = s.mtr := by
  simp only [execCanBusOff] <;>
    repeat' first | simp only [after_next, ↓mk_mtr, ↓mtr_record, ↓mtr_modCan, ↓mtr_loseDrive, ↓mtr_faultSignals] | with_reducible refine (mtr_foldl _ (fun s x => ?_) _ _).trans ?_ | split | rfl

theorem mtr_execCanErrorPassive (v0 v1 v2 s) : (after s (execCanErrorPassive v0 v1 v2 s)).mtr = s.mtr := by
  simp only [execCanErrorPassive] <;>
    repeat' first | simp only [after_next, ↓mk_mtr, ↓mtr_modCan, ↓mtr_record] | with_reducible refine (mtr_foldl _ (fun s x => ?_) _ _).trans ?_ | split | rfl

theorem mtr_execCanFrameRx (v0 v1 v2 v3 v4 v5 s) : (after s (execCanFrameRx v0 v1 v2 v3 v4 v5 s)).mtr = s.mtr := by
  simp only [execCanFrameRx] <;>
    repeat' first | simp only [after_next, ↓mk_mtr, ↓mtr_modCan, ↓mtr_canEntry] | with_reducible refine (mtr_foldl _ (fun s x => ?_) _ _).trans ?_ | split | rfl

theorem mtr_execCanRecovered (v0 s) : (after s (execCanRecovered v0 s)).mtr = s.mtr := by
  simp only [execCanRecovered] <;>
    repeat' first | simp only [after_next, ↓mk_mtr, ↓mtr_record, ↓mtr_modCan] | with_reducible refine (mtr_foldl _ (fun s x => ?_) _ _).trans ?_ | split | rfl

theorem mtr_execDriveHbLost (v0 s) : (after s (execDriveHbLost v0 s)).mtr = s.mtr := by
  simp only [execDriveHbLost] <;>
    repeat' first | simp only [after_next, ↓mk_mtr, ↓mtr_elapseTo, ↓mtr_record, ↓mtr_modDrive] | with_reducible refine (mtr_foldl _ (fun s x => ?_) _ _).trans ?_ | split | rfl

theorem mtr_execDriveLost (v0 s) : (after s (execDriveLost v0 s)).mtr = s.mtr := by
  simp only [execDriveLost] <;>
    repeat' first | simp only [after_next, ↓mk_mtr, ↓mtr_loseDrive] | with_reducible refine (mtr_foldl _ (fun s x => ?_) _ _).trans ?_ | split | rfl

theorem mtr_execDriveStatusRx (v0 v1 v2 s) : (after s (execDriveStatusRx v0 v1 v2 s)).mtr = s.mtr := by
  simp only [execDriveStatusRx] <;>
    repeat' first | simp only [after_next, ↓mk_mtr, ↓mtr_modCan, ↓mtr_modDrive] | with_reducible refine (mtr_foldl _ (fun s x => ?_) _ _).trans ?_ | split | rfl

theorem mtr_judgeFeedback (v0 v1 v2 s) : (judgeFeedback v0 v1 v2 s).mtr = s.mtr := by
  simp only [judgeFeedback] <;>
    repeat' first | simp only [↓mk_mtr, ↓mtr_modDrive, ↓mtr_record] | with_reducible refine (mtr_foldl _ (fun s x => ?_) _ _).trans ?_ | split | rfl

theorem mtr_stopOwning (s) : (stopOwning s).mtr = s.mtr := by
  simp only [stopOwning] <;>
    repeat' first | simp only [↓mk_mtr, ↓mtr_dropOwnership, ↓mtr_announce, ↓mtr_record] | with_reducible refine (mtr_foldl _ (fun s x => ?_) _ _).trans ?_ | split | rfl

theorem mtr_learnOwner (v0 s) : (learnOwner v0 s).mtr = s.mtr := by
  simp only [learnOwner] <;>
    repeat' first | simp only [↓mk_mtr, ↓mtr_stopOwning, ↓mtr_seeEpoch] | with_reducible refine (mtr_foldl _ (fun s x => ?_) _ _).trans ?_ | split | rfl

theorem mtr_meetOwner (v0 s) : (meetOwner v0 s).mtr = s.mtr := by
  simp only [meetOwner] <;>
    repeat' first | simp only [↓mk_mtr] | with_reducible refine (mtr_foldl _ (fun s x => ?_) _ _).trans ?_ | split | rfl

theorem mtr_execFeedbackRx (v0 v1 v2 s) : (after s (execFeedbackRx v0 v1 v2 s)).mtr = s.mtr := by
  simp only [execFeedbackRx] <;>
    repeat' first | simp only [after_next, ↓mk_mtr, ↓mtr_modCan, ↓mtr_judgeFeedback, ↓mtr_modDrive, ↓mtr_learnOwner, ↓mtr_meetOwner] | with_reducible refine (mtr_foldl _ (fun s x => ?_) _ _).trans ?_ | split | rfl

theorem mtr_execModuleAccept (v0 v1 s) : (after s (execModuleAccept v0 v1 s)).mtr = s.mtr :=
  mtr_packetIn _ _ _ _ _ mtr_opModuleAccept

theorem mtr_execModuleList (v0 v1 s) : (after s (execModuleList v0 v1 s)).mtr = s.mtr :=
  mtr_packetIn _ _ _ _ _ mtr_opModuleList

theorem mtr_execModuleNackRetry (v0 s) : (after s (execModuleNackRetry v0 s)).mtr = s.mtr := by
  simp only [execModuleNackRetry] <;>
    repeat' first | simp only [after_next, ↓mk_mtr, ↓mtr_emit, ↓mtr_modSlotM, ↓mtr_elapseTo, ↓mtr_record] | with_reducible refine (mtr_foldl _ (fun s x => ?_) _ _).trans ?_ | split | rfl

theorem mtr_execModulePresent (v0 s) : (after s (execModulePresent v0 s)).mtr = s.mtr := by
  simp only [execModulePresent] <;>
    repeat' first | simp only [after_next, ↓mk_mtr, ↓mtr_startRead, ↓mtr_modSlotM] | with_reducible refine (mtr_foldl _ (fun s x => ?_) _ _).trans ?_ | split | rfl

theorem mtr_execModuleRead (v0 v1 s) : (after s (execModuleRead v0 v1 s)).mtr = s.mtr :=
  mtr_packetIn _ _ _ _ _ mtr_opModuleRead

theorem mtr_identify (v0 v1 s) : (identify v0 v1 s).mtr = s.mtr := by
  simp only [identify] <;>
    repeat' first | simp only [↓mk_mtr, ↓mtr_modSlotM, ↓mtr_record] | with_reducible refine (mtr_foldl _ (fun s x => ?_) _ _).trans ?_ | split | rfl

theorem mtr_execModuleReadComplete (v0 v1 s) : (after s (execModuleReadComplete v0 v1 s)).mtr = s.mtr := by
  simp only [execModuleReadComplete] <;>
    repeat' first | simp only [after_next, ↓mk_mtr, ↓mtr_identify] | with_reducible refine (mtr_foldl _ (fun s x => ?_) _ _).trans ?_ | split | rfl

theorem mtr_execModuleRemoved (v0 s) : (after s (execModuleRemoved v0 s)).mtr = s.mtr := by
  simp only [execModuleRemoved] <;>
    repeat' first | simp only [after_next, ↓mk_mtr, ↓mtr_modSlotM, ↓mtr_leaveSlot] | with_reducible refine (mtr_foldl _ (fun s x => ?_) _ _).trans ?_ | split | rfl

theorem mtr_execModuleRescan (v0 v1 s) : (after s (execModuleRescan v0 v1 s)).mtr = s.mtr :=
  mtr_packetIn _ _ _ _ _ mtr_opModuleRescan

theorem mtr_sentenceEntry (v0 v1 v2 v3 s v5) : (sentenceEntry v0 v1 v2 v3 s v5).mtr = s.mtr := by
  simp only [sentenceEntry] <;>
    repeat' first | simp only [↓mk_mtr, ↓mtr_publishAs] | with_reducible refine (mtr_foldl _ (fun s x => ?_) _ _).trans ?_ | split | rfl

theorem mtr_execSerialSentenceRx (v0 v1 v2 v3 s) : (after s (execSerialSentenceRx v0 v1 v2 v3 s)).mtr = s.mtr := by
  simp only [execSerialSentenceRx] <;>
    repeat' first | simp only [after_next, ↓mk_mtr, ↓mtr_discardSentence, ↓mtr_record, ↓mtr_sentenceEntry] | with_reducible refine (mtr_foldl _ (fun s x => ?_) _ _).trans ?_ | split | rfl

theorem mtr_keepSlots (v0 s) : (keepSlots v0 s).mtr = s.mtr := by
  simp only [keepSlots] <;>
    repeat' first | simp only [↓mk_mtr] | with_reducible refine (mtr_foldl _ (fun s x => ?_) _ _).trans ?_ | split | rfl

theorem mtr_serveSlot (s v1) : (serveSlot s v1).mtr = s.mtr := by
  simp only [serveSlot] <;>
    repeat' first | simp only [↓mk_mtr, ↓mtr_serveGone, ↓mtr_startRead] | with_reducible refine (mtr_foldl _ (fun s x => ?_) _ _).trans ?_ | split | rfl

theorem mtr_serveSlots (s) : (serveSlots s).mtr = s.mtr := by
  simp only [serveSlots] <;>
    repeat' first | simp only [↓mk_mtr, ↓mtr_serveSlot] | with_reducible refine (mtr_foldl _ (fun s x => ?_) _ _).trans ?_ | split | rfl

theorem mtr_superviseDrive (s v1) : (superviseDrive s v1).mtr = s.mtr := by
  simp only [superviseDrive] <;>
    repeat' first | simp only [↓mk_mtr, ↓mtr_modDrive, ↓mtr_loseDrive, ↓mtr_record] | with_reducible refine (mtr_foldl _ (fun s x => ?_) _ _).trans ?_ | split | rfl

theorem mtr_modTrack (v0 v1 s) : (modTrack v0 v1 s).mtr = s.mtr := by
  simp only [modTrack] <;>
    repeat' first | simp only [↓mk_mtr] | with_reducible refine (mtr_foldl _ (fun s x => ?_) _ _).trans ?_ | split | rfl

theorem mtr_clearSlip (v0 s) : (clearSlip v0 s).mtr = s.mtr := by
  simp only [clearSlip] <;>
    repeat' first | simp only [↓mk_mtr, ↓mtr_record, ↓mtr_modTrack] | with_reducible refine (mtr_foldl _ (fun s x => ?_) _ _).trans ?_ | split | rfl

theorem mtr_countDropped (v0 s) : (countDropped v0 s).mtr = s.mtr := by
  simp only [countDropped] <;>
    repeat' first | simp only [↓mk_mtr] | with_reducible refine (mtr_foldl _ (fun s x => ?_) _ _).trans ?_ | split | rfl

theorem mtr_dropUnnamed (s) : (dropUnnamed s).mtr = s.mtr := by
  simp only [dropUnnamed] <;>
    repeat' first | simp only [↓mk_mtr] | with_reducible refine (mtr_foldl _ (fun s x => ?_) _ _).trans ?_ | split | rfl

theorem mtr_execClockSlipCleared (v0 s) : (after s (execClockSlipCleared v0 s)).mtr = s.mtr := by
  simp only [execClockSlipCleared] <;>
    repeat' first | simp only [after_next, ↓mk_mtr, ↓mtr_clearSlip] | with_reducible refine (mtr_foldl _ (fun s x => ?_) _ _).trans ?_ | split | rfl

theorem mtr_execOpticalFrameRx (v0 v1 s) : (after s (execOpticalFrameRx v0 v1 s)).mtr = s.mtr := by
  simp only [execOpticalFrameRx] <;>
    repeat' first | simp only [after_next, ↓mk_mtr, ↓mtr_countDropped, ↓mtr_publish] | with_reducible refine (mtr_foldl _ (fun s x => ?_) _ _).trans ?_ | split | rfl

theorem mtr_judgeSample (v0 s v2) : (judgeSample v0 s v2).mtr = s.mtr := by
  simp only [judgeSample] <;>
    repeat' first | simp only [↓mk_mtr, ↓mtr_modTrack, ↓mtr_record, ↓mtr_clearSlip] | with_reducible refine (mtr_foldl _ (fun s x => ?_) _ _).trans ?_ | split | rfl

theorem mtr_outPut (v0 v1 v2 s) : (outPut v0 v1 v2 s).mtr = s.mtr := by
  simp only [outPut] <;>
    repeat' first | simp only [↓mk_mtr] | with_reducible refine (mtr_foldl _ (fun s x => ?_) _ _).trans ?_ | split | rfl

theorem mtr_snapInput (v0 s v2) : (snapInput v0 s v2).mtr = s.mtr := by
  simp only [snapInput] <;>
    repeat' first | simp only [↓mk_mtr, ↓mtr_judgeSample] | with_reducible refine (mtr_foldl _ (fun s x => ?_) _ _).trans ?_ | split | rfl

theorem mtr_associateHead (v0 v1 v2 v3 v4 v5 s) : (associateHead v0 v1 v2 v3 v4 v5 s).2.mtr = s.mtr := by
  simp only [associateHead] <;>
    repeat' first | simp only [↓mk_mtr, ↓mtr_countDropped, ↓mtr_record] | with_reducible refine (mtr_foldl _ (fun s x => ?_) _ _).trans ?_ | split | rfl

theorem mtr_modGroup (v0 v1 s) : (modGroup v0 v1 s).mtr = s.mtr := by
  simp only [modGroup] <;>
    repeat' first | simp only [↓mk_mtr] | with_reducible refine (mtr_foldl _ (fun s x => ?_) _ _).trans ?_ | split | rfl

theorem mtr_fireHold (v0 s) : (fireHold v0 s).mtr = s.mtr := by
  simp only [fireHold] <;>
    repeat' first | simp only [↓mk_mtr, ↓mtr_record, ↓mtr_modGroup] | with_reducible refine (mtr_foldl _ (fun s x => ?_) _ _).trans ?_ | split | rfl

theorem mtr_holdOn (v0 v1 s) : (holdOn v0 v1 s).mtr = s.mtr := by
  simp only [holdOn] <;>
    repeat' first | simp only [↓mk_mtr, ↓mtr_record, ↓mtr_fireHold, ↓mtr_modGroup] | with_reducible refine (mtr_foldl _ (fun s x => ?_) _ _).trans ?_ | split | rfl

theorem mtr_setState (v0 v1 s) : (setState v0 v1 s).mtr = s.mtr := by
  simp only [setState] <;>
    repeat' first | simp only [↓mk_mtr] | with_reducible refine (mtr_foldl _ (fun s x => ?_) _ _).trans ?_ | split | rfl

theorem mtr_declareDispute (v0 v1 s) : (declareDispute v0 v1 s).mtr = s.mtr := by
  simp only [declareDispute] <;>
    repeat' first | simp only [↓mk_mtr, ↓mtr_record, ↓mtr_modGroup, ↓mtr_holdOn, ↓mtr_setState] | with_reducible refine (mtr_foldl _ (fun s x => ?_) _ _).trans ?_ | split | rfl

theorem mtr_execRefHoldTimeout (v0 s) : (after s (execRefHoldTimeout v0 s)).mtr = s.mtr := by
  simp only [execRefHoldTimeout] <;>
    repeat' first | simp only [after_next, ↓mk_mtr, ↓mtr_fireHold] | with_reducible refine (mtr_foldl _ (fun s x => ?_) _ _).trans ?_ | split | rfl

theorem mtr_fusedOn (v0 v1 v2 s) : (fusedOn v0 v1 v2 s).mtr = s.mtr := by
  simp only [fusedOn] <;>
    repeat' first | simp only [↓mk_mtr, ↓mtr_modGroup] | with_reducible refine (mtr_foldl _ (fun s x => ?_) _ _).trans ?_ | split | rfl

theorem mtr_fusionLock (s) : (fusionLock s).mtr = s.mtr := by
  simp only [fusionLock] <;>
    repeat' first | simp only [↓mk_mtr] | with_reducible refine (mtr_foldl _ (fun s x => ?_) _ _).trans ?_ | split | rfl

theorem mtr_fusionStop (s) : (fusionStop s).mtr = s.mtr := by
  simp only [fusionStop] <;>
    repeat' first | simp only [↓mk_mtr] | with_reducible refine (mtr_foldl _ (fun s x => ?_) _ _).trans ?_ | split | rfl

theorem mtr_learnAnchor (v0 v1 s) : (learnAnchor v0 v1 s).mtr = s.mtr := by
  simp only [learnAnchor] <;>
    repeat' first | simp only [↓mk_mtr, ↓mtr_record] | with_reducible refine (mtr_foldl _ (fun s x => ?_) _ _).trans ?_ | split | rfl

theorem mtr_setRef (v0 v1 s) : (setRef v0 v1 s).mtr = s.mtr := by
  simp only [setRef] <;>
    repeat' first | simp only [↓mk_mtr] | with_reducible refine (mtr_foldl _ (fun s x => ?_) _ _).trans ?_ | split | rfl

theorem mtr_opticalRef (v0 a v2) : (opticalRef v0 a v2).2.2.mtr = a.2.2.mtr := by
  unfold opticalRef
  simp only
  repeat' first | rfl | simp only [mtr_setRef, mtr_associateHead] | split

theorem mtr_projectRef (v0 s v2) : (projectRef v0 s v2).mtr = s.mtr := by
  simp only [projectRef] <;>
    repeat' first | simp only [↓mk_mtr, ↓mtr_setRef, ↓mtr_learnAnchor] | with_reducible refine (mtr_foldl _ (fun s x => ?_) _ _).trans ?_ | split | rfl

theorem mtr_publishGroup (s v1) : (publishGroup s v1).mtr = s.mtr := by
  simp only [publishGroup] <;>
    repeat' first | simp only [↓mk_mtr, ↓mtr_outPut] | with_reducible refine (mtr_foldl _ (fun s x => ?_) _ _).trans ?_ | split | rfl

theorem mtr_publishRef (s v1) : (publishRef s v1).mtr = s.mtr := by
  simp only [publishRef] <;>
    repeat' first | simp only [↓mk_mtr, ↓mtr_outPut] | with_reducible refine (mtr_foldl _ (fun s x => ?_) _ _).trans ?_ | split | rfl

theorem mtr_recordExcluded (v0 v1 s) : (recordExcluded v0 v1 s).mtr = s.mtr := by
  simp only [recordExcluded] <;>
    repeat' first | simp only [↓mk_mtr, ↓mtr_record] | with_reducible refine (mtr_foldl _ (fun s x => ?_) _ _).trans ?_ | split | rfl

theorem mtr_resolveDispute (v0 v1 s) : (resolveDispute v0 v1 s).mtr = s.mtr := by
  simp only [resolveDispute] <;>
    repeat' first | simp only [↓mk_mtr, ↓mtr_record, ↓mtr_modGroup] | with_reducible refine (mtr_foldl _ (fun s x => ?_) _ _).trans ?_ | split | rfl

theorem mtr_selectIn (v0 v1 s v3) : (selectIn v0 v1 s v3).mtr = s.mtr := by
  simp only [selectIn] <;>
    repeat' first | simp only [↓mk_mtr, ↓mtr_modGroup, ↓mtr_resolveDispute] | with_reducible refine (mtr_foldl _ (fun s x => ?_) _ _).trans ?_ | split | rfl

theorem mtr_selectSource (v0 v1 s) : (selectSource v0 v1 s).mtr = s.mtr := by
  simp only [selectSource] <;>
    repeat' first | simp only [↓mk_mtr, ↓mtr_selectIn] | with_reducible refine (mtr_foldl _ (fun s x => ?_) _ _).trans ?_ | split | rfl

theorem mtr_standOn (v0 v1 v2 v3 v4 s) : (standOn v0 v1 v2 v3 v4 s).mtr = s.mtr := by
  simp only [standOn] <;>
    repeat' first | simp only [↓mk_mtr, ↓mtr_recordExcluded, ↓mtr_setState, ↓mtr_fusedOn] | with_reducible refine (mtr_foldl _ (fun s x => ?_) _ _).trans ?_ | split | rfl

theorem mtr_voteGroup (v0 v1 s) : (voteGroup v0 v1 s).mtr = s.mtr := by
  simp only [voteGroup] <;>
    repeat' first | simp only [↓mk_mtr, ↓mtr_setState, ↓mtr_modGroup, ↓mtr_fusedOn, ↓mtr_standOn, ↓mtr_resolveDispute, ↓mtr_holdOn, ↓mtr_declareDispute] | with_reducible refine (mtr_foldl _ (fun s x => ?_) _ _).trans ?_ | split | rfl

theorem mtr_voteInputs (v0 v1 v2 s) : (voteInputs v0 v1 v2 s).mtr = s.mtr := by
  simp only [voteInputs] <;>
    repeat' first | simp only [↓mk_mtr, ↓mtr_voteGroup] | with_reducible refine (mtr_foldl _ (fun s x => ?_) _ _).trans ?_ | split | rfl

theorem mtr_stage3 (s) : (stage3 s).mtr = s.mtr := by
  have h3 (att : Att) (l : List Nat) (a : Nat × Nat × State) : (l.foldl (opticalRef att) a).2.2.mtr = a.2.2.mtr := by
    induction l generalizing a with
    | nil => rfl
    | cons x l ih => rw [List.foldl_cons, ih, mtr_opticalRef]
  simp only [stage3]
  repeat' first
    | simp only [↓mtr_voteInputs, ↓mtr_outPut, ↓mtr_voteGroup, ↓h3]
    | with_reducible refine (mtr_foldl _ (fun s x => ?_) _ _).trans ?_
    | exact mtr_projectRef _ _ _
    | exact mtr_publishRef _ _
    | exact mtr_publishGroup _ _
    | split
    | rfl

theorem mtr_endWarmup (s) : (endWarmup s).mtr = s.mtr := by
  simp only [endWarmup] <;>
    repeat' first | simp only [↓mk_mtr] | with_reducible refine (mtr_foldl _ (fun s x => ?_) _ _).trans ?_ | split | rfl

theorem mtr_rnnFail (s) : (rnnFail s).mtr = s.mtr := by
  simp only [rnnFail] <;>
    repeat' first | simp only [↓mk_mtr, ↓mtr_record] | with_reducible refine (mtr_foldl _ (fun s x => ?_) _ _).trans ?_ | split | rfl

theorem mtr_execRnnFault (s) : (after s (execRnnFault s)).mtr = s.mtr := by
  simp only [execRnnFault] <;>
    repeat' first | simp only [after_next, ↓mk_mtr, ↓mtr_rnnFail] | with_reducible refine (mtr_foldl _ (fun s x => ?_) _ _).trans ?_ | split | rfl

theorem mtr_execRnnWaitExpiry (v0 s) : (after s (execRnnWaitExpiry v0 s)).mtr = s.mtr := by
  simp only [execRnnWaitExpiry] <;>
    repeat' first | simp only [after_next, ↓mk_mtr, ↓mtr_record] | with_reducible refine (mtr_foldl _ (fun s x => ?_) _ _).trans ?_ | split | rfl

theorem mtr_execRnnWarmupEnd (s) : (after s (execRnnWarmupEnd s)).mtr = s.mtr := by
  simp only [execRnnWarmupEnd] <;>
    repeat' first | simp only [after_next, ↓mk_mtr, ↓mtr_endWarmup] | with_reducible refine (mtr_foldl _ (fun s x => ?_) _ _).trans ?_ | split | rfl

theorem mtr_rnnRestart (s) : (rnnRestart s).mtr = s.mtr := by
  simp only [rnnRestart] <;>
    repeat' first | simp only [↓mk_mtr] | with_reducible refine (mtr_foldl _ (fun s x => ?_) _ _).trans ?_ | split | rfl

theorem mtr_rnnStep (v0 s) : (rnnStep v0 s).mtr = s.mtr := by
  simp only [rnnStep] <;>
    repeat' first | simp only [↓mk_mtr] | with_reducible refine (mtr_foldl _ (fun s x => ?_) _ _).trans ?_ | split | rfl

theorem mtr_modXchk (v0 v1 s) : (modXchk v0 v1 s).mtr = s.mtr := by
  simp only [modXchk] <;>
    repeat' first | simp only [↓mk_mtr] | with_reducible refine (mtr_foldl _ (fun s x => ?_) _ _).trans ?_ | split | rfl

theorem mtr_agree (v0 s) : (agree v0 s).mtr = s.mtr := by
  simp only [agree] <;>
    repeat' first | simp only [↓mk_mtr, ↓mtr_record, ↓mtr_modXchk] | with_reducible refine (mtr_foldl _ (fun s x => ?_) _ _).trans ?_ | split | rfl

theorem mtr_modPhys (v0 s) : (modPhys v0 s).mtr = s.mtr := by
  simp only [modPhys] <;>
    repeat' first | simp only [↓mk_mtr] | with_reducible refine (mtr_foldl _ (fun s x => ?_) _ _).trans ?_ | split | rfl

theorem mtr_reinitPart (v0 s) : (reinitPart v0 s).mtr = s.mtr := by
  simp only [reinitPart] <;>
    repeat' first | simp only [↓mk_mtr, ↓mtr_record, ↓mtr_modPhys] | with_reducible refine (mtr_foldl _ (fun s x => ?_) _ _).trans ?_ | split | rfl

theorem mtr_countRejects (v0 s) : (countRejects v0 s).mtr = s.mtr := by
  simp only [countRejects] <;>
    repeat' first | simp only [↓mk_mtr, ↓mtr_modPhys, ↓mtr_reinitPart] | with_reducible refine (mtr_foldl _ (fun s x => ?_) _ _).trans ?_ | split | rfl

theorem mtr_crossCheck (s v1) : (crossCheck s v1).mtr = s.mtr := by
  simp only [crossCheck] <;>
    repeat' first | simp only [↓mk_mtr, ↓mtr_modXchk, ↓mtr_record, ↓mtr_agree] | with_reducible refine (mtr_foldl _ (fun s x => ?_) _ _).trans ?_ | split | rfl

theorem mtr_execObsAgree (v0 s) : (after s (execObsAgree v0 s)).mtr = s.mtr := by
  simp only [execObsAgree] <;>
    repeat' first | simp only [after_next, ↓mk_mtr, ↓mtr_agree] | with_reducible refine (mtr_foldl _ (fun s x => ?_) _ _).trans ?_ | split | rfl

theorem mtr_execObsReinit (v0 s) : (after s (execObsReinit v0 s)).mtr = s.mtr := by
  simp only [execObsReinit] <;>
    repeat' first | simp only [after_next, ↓mk_mtr, ↓mtr_reinitPart] | with_reducible refine (mtr_foldl _ (fun s x => ?_) _ _).trans ?_ | split | rfl

theorem mtr_obsLock (v0 v1 s) : (obsLock v0 v1 s).mtr = s.mtr := by
  simp only [obsLock] <;>
    repeat' first | simp only [↓mk_mtr, ↓mtr_rnnRestart] | with_reducible refine (mtr_foldl _ (fun s x => ?_) _ _).trans ?_ | split | rfl

theorem mtr_obsStop (s) : (obsStop s).mtr = s.mtr := by
  simp only [obsStop] <;>
    repeat' first | simp only [↓mk_mtr, ↓mtr_rnnRestart] | with_reducible refine (mtr_foldl _ (fun s x => ?_) _ _).trans ?_ | split | rfl

theorem mtr_physInit (v0 s) : (physInit v0 s).mtr = s.mtr := by
  simp only [physInit] <;>
    repeat' first | simp only [↓mk_mtr, ↓mtr_record, ↓mtr_modPhys] | with_reducible refine (mtr_foldl _ (fun s x => ?_) _ _).trans ?_ | split | rfl

theorem mtr_physPredict (s) : (physPredict s).mtr = s.mtr := by
  simp only [physPredict] <;>
    repeat' first | simp only [↓mk_mtr, ↓mtr_modPhys] | with_reducible refine (mtr_foldl _ (fun s x => ?_) _ _).trans ?_ | split | rfl

theorem mtr_updateMeas (v0 v1 s v3) : (updateMeas v0 v1 s v3).mtr = s.mtr := by
  simp only [updateMeas] <;>
    repeat' first | simp only [↓mk_mtr, ↓mtr_modPhys, ↓mtr_record] | with_reducible refine (mtr_foldl _ (fun s x => ?_) _ _).trans ?_ | split | rfl

theorem mtr_physStep (s) : (physStep s).mtr = s.mtr := by
  simp only [physStep] <;>
    repeat' first | simp only [↓mk_mtr, ↓mtr_modPhys, ↓mtr_physInit, ↓mtr_countRejects, ↓mtr_updateMeas] | with_reducible refine (mtr_foldl _ (fun s x => ?_) _ _).trans ?_ | split | rfl

theorem mtr_waitingObs (s) : (waitingObs s).mtr = s.mtr := by
  simp only [waitingObs] <;>
    repeat' first | simp only [↓mk_mtr, ↓mtr_outPut] | with_reducible refine (mtr_foldl _ (fun s x => ?_) _ _).trans ?_ | split | rfl

theorem mtr_publishObs (s) : (publishObs s).mtr = s.mtr := by
  simp only [publishObs] <;>
    repeat' first | simp only [↓mk_mtr, ↓mtr_waitingObs, ↓mtr_outPut] | with_reducible refine (mtr_foldl _ (fun s x => ?_) _ _).trans ?_ | split | rfl

theorem mtr_stage4 (s) : (stage4 s).mtr = s.mtr := by
  simp only [stage4] <;>
    repeat' first | simp only [↓mk_mtr, ↓mtr_rnnRestart, ↓mtr_physStep, ↓mtr_rnnStep, ↓mtr_endWarmup, ↓mtr_crossCheck, ↓mtr_publishObs, ↓mtr_physPredict] | with_reducible refine (mtr_foldl _ (fun s x => ?_) _ _).trans ?_ | split | rfl

theorem mtr_leaveWork (v0 s) : (leaveWork v0 s).mtr = s.mtr := by
  simp only [leaveWork] <;>
    repeat' first | simp only [↓mk_mtr, ↓mtr_stopDomains] | with_reducible refine (mtr_foldl _ (fun s x => ?_) _ _).trans ?_ | split | rfl

theorem mtr_onDomains (v0 v1 v2 s) (h : ∀ s, (v2 s).mtr = s.mtr) : (onDomains v0 v1 v2 s).mtr = s.mtr := by
  unfold onDomains
  extract_lets s1
  split
  · exact (h s1).trans (mtr_accessDomains _ _ _)
  · exact mtr_accessDomains _ _ _

theorem mtr_setHome (v0 v1 s) : (setHome v0 v1 s).mtr = s.mtr := by
  simp only [setHome] <;>
    repeat' first | simp only [↓mk_mtr] | with_reducible refine (mtr_foldl _ (fun s x => ?_) _ _).trans ?_ | split | rfl

theorem mtr_onWork (v0 v1 v2 v3 s) (h : ∀ s, (v3 s).mtr = s.mtr) : (onWork v0 v1 v2 v3 s).mtr = s.mtr :=
  mtr_onDomains _ _ _ _ fun s => (h _).trans (mtr_setHome _ _ s)

theorem mtr_reportStall (v0 s) : (reportStall v0 s).mtr = s.mtr := by
  simp only [reportStall] <;>
    repeat' first | simp only [↓mk_mtr] | with_reducible refine (mtr_foldl _ (fun s x => ?_) _ _).trans ?_ | split | rfl

theorem mtr_stallFirst (s) : (stallFirst s).mtr = s.mtr := by
  simp only [stallFirst] <;>
    repeat' first | simp only [↓mk_mtr, ↓mtr_accessDomains, ↓mtr_reportStall] | with_reducible refine (mtr_foldl _ (fun s x => ?_) _ _).trans ?_ | split | rfl

theorem mtr_seenNode (v0 v1 s) : (seenNode v0 v1 s).mtr = s.mtr := by
  simp only [seenNode] <;>
    repeat' first | simp only [↓mk_mtr] | with_reducible refine (mtr_foldl _ (fun s x => ?_) _ _).trans ?_ | split | rfl

theorem mtr_takePlace (a o p) : (takePlace a o p).2.mtr = a.2.mtr := by
  unfold takePlace
  extract_lets s m
  clear_value m
  repeat' first | rfl | split | simp only [mtr_record]

theorem mtr_takeLoose (a o) : (takeLoose a o).2.mtr = a.2.mtr := by
  unfold takeLoose
  split
  · exact mtr_takePlace _ _ _
  · rfl

theorem mtr_promote (m a p) : (promote m a p).2.mtr = a.2.mtr := by
  unfold promote
  repeat' first | rfl | simp only [mtr_record] | split

theorem mtr_retire (m a p) : (retire m a p).2.mtr = a.2.mtr := by
  unfold retire
  repeat' first | rfl | simp only [mtr_record] | split

theorem mtr_maintain (s) : (maintain s).mtr = s.mtr := by
  have h (g : List (Nat × List Byte) × State → Nat → List (Nat × List Byte) × State) : True := trivial
  simp only [maintain, mtr_pushEffect, mtr_foldl2 _ (mtr_retire _), mtr_foldl2 _ (mtr_promote _), mtr_foldl2 _ mtr_takeLoose]

theorem mtr_execMapMaintenance (s) : (after s (execMapMaintenance s)).mtr = s.mtr := by
  simp only [execMapMaintenance, after_next]
  split
  · exact mtr_onWork _ _ _ _ _ fun s => by rw [mtr_leaveWork, mtr_maintain]
  · rfl

theorem mtr_execMapRead (v0 v1 s) : (after s (execMapRead v0 v1 s)).mtr = s.mtr :=
  mtr_packetIn _ _ _ _ _ mtr_opMapRead

theorem mtr_execMapStatus (v0 v1 s) : (after s (execMapStatus v0 v1 s)).mtr = s.mtr :=
  mtr_packetIn _ _ _ _ _ mtr_opMapStatus

theorem mtr_execMapWrite (v0 v1 s) : (after s (execMapWrite v0 v1 s)).mtr = s.mtr :=
  mtr_packetIn _ _ _ _ _ mtr_opMapWrite

theorem mtr_execSolve (v0 v1 s) : (after s (execSolve v0 v1 s)).mtr = s.mtr :=
  mtr_packetIn _ _ _ _ _ mtr_opSolve

theorem mtr_execStructDrop (v0 v1 s) : (after s (execStructDrop v0 v1 s)).mtr = s.mtr :=
  mtr_packetIn _ _ _ _ _ mtr_opStructDrop

theorem mtr_execStructLoad (v0 v1 s) : (after s (execStructLoad v0 v1 s)).mtr = s.mtr :=
  mtr_packetIn _ _ _ _ _ mtr_opStructLoad

theorem mtr_execStructUpdate (v0 v1 s) : (after s (execStructUpdate v0 v1 s)).mtr = s.mtr :=
  mtr_packetIn _ _ _ _ _ mtr_opStructUpdate

theorem mtr_hostDeadline (v0 v1 s) : (hostDeadline v0 v1 s).mtr = s.mtr := by
  unfold hostDeadline
  split
  · rfl
  · rw [mtr_runCmd _ (mtr_opSolveWithin _), mtr_countTo]

theorem mtr_mapGone (s) : (mapGone s).mtr = s.mtr := by
  simp only [mapGone] <;>
    repeat' first | simp only [↓mk_mtr] | with_reducible refine (mtr_foldl _ (fun s x => ?_) _ _).trans ?_ | split | rfl

theorem mtr_solverLost (s) : (solverLost s).mtr = s.mtr := by
  simp only [solverLost] <;>
    repeat' first | simp only [↓mk_mtr] | with_reducible refine (mtr_foldl _ (fun s x => ?_) _ _).trans ?_ | split | rfl

theorem mtr_levelSolve (v0 v1 s) : (levelSolve v0 v1 s).2.2.mtr = s.mtr := by
  simp only [levelSolve]
  split
  · rfl
  · rw [mtr_retain]

theorem mtr_levelThen {α : Type} (v0 v1) (next : List F64 → State → Option α × State) (s) (h : ∀ x s, (next x s).2.mtr = s.mtr) :
    (levelThen v0 v1 next s).2.mtr = s.mtr := by
  simp only [levelThen]
  split
  · exact mtr_levelSolve _ _ _
  · split
    · simp only [mtr_deadlineEvent, mtr_levelSolve]
    · rw [h, mtr_levelSolve]

theorem mtr_levelEpoch (v0 v1 v2 v3 s) : (levelEpoch v0 v1 v2 v3 s).2.mtr = s.mtr := by
  unfold levelEpoch
  split
  · rfl
  · exact mtr_levelThen _ _ _ _ fun _ s => mtr_levelThen _ _ _ s fun _ _ => rfl

theorem mtr_levelPublish (v0 v1 v2 s) : (levelPublish v0 v1 v2 s).mtr = s.mtr := by
  simp only [levelPublish] <;>
    repeat' first | simp only [↓mk_mtr, ↓mtr_publishAs] | with_reducible refine (mtr_foldl _ (fun s x => ?_) _ _).trans ?_ | split | rfl

theorem mtr_levelRun (v0 v1 v2 v3 v4 s) : (levelRun v0 v1 v2 v3 v4 s).mtr = s.mtr := by
  unfold levelRun
  extract_lets arr late s0 x1 s1 s2
  have h0 : s0.mtr = s.mtr := mtr_countTo _ _
  clear_value s0
  have h1 : s1.mtr = s0.mtr := rfl
  clear_value s1
  have h : s2.mtr = s.mtr := by
    simp only [s2]; split <;> (try rw [mtr_record]) <;> exact h1.trans h0
  clear_value s2
  have hl (inp) : (levelEpoch (levelLimit v0 v2 s2) v3 inp v4 s2).2.mtr = s.mtr := (mtr_levelEpoch _ _ _ _ _).trans h
  cases s.gnss.levelIn with
  | none => exact h
  | some inp =>
    have hi := hl inp
    simp only []
    generalize levelEpoch (levelLimit v0 v2 s2) v3 inp v4 s2 = q at hi
    obtain ⟨_ | q, s3⟩ := q
    · simp only [mtr_leaveSolver]; exact hi
    · simp only [mtr_leaveSolver, mtr_levelPublish]; exact hi

theorem mtr_execLevelAPublish (v0 v1 v2 v3 s) : (after s (execLevelAPublish v0 v1 v2 v3 s)).mtr = s.mtr := by
  unfold execLevelAPublish
  split
  · rfl
  · split
    · rfl
    · exact mtr_onDomains _ _ _ _ (mtr_levelRun _ _ _ _ _)

theorem mtr_baNode (m a x) : (baNode m a x).2.mtr = a.2.mtr := by
  unfold baNode
  repeat' first | rfl | simp only [mtr_record] | split

theorem mtr_baCommit (b s) : (baCommit b s).mtr = s.mtr := by
  simp only [baCommit, mtr_pushEffect, mtr_foldl2 _ (mtr_baNode _)]

theorem mtr_baStart (s) : (baStart s).mtr = s.mtr := by
  simp only [baStart] <;>
    repeat' first | simp only [↓mk_mtr, ↓mtr_requestWake] | with_reducible refine (mtr_foldl _ (fun s x => ?_) _ _).trans ?_ | split | rfl

theorem mtr_execBaPass (s) : (after s (execBaPass s)).mtr = s.mtr := by
  unfold execBaPass
  split
  · rfl
  · rw [after_next]
    split
    · refine mtr_onDomains _ _ _ _ fun s => ?_
      simp only []
      split
      · exact mtr_baCommit _ _
      · rw [mtr_stopDomains, mtr_baCommit]
    · rfl

theorem mtr_frameEstimates (s) : (frameEstimates s).mtr = s.mtr := by
  simp only [frameEstimates] <;>
    repeat' first | simp only [↓mk_mtr] | with_reducible refine (mtr_foldl _ (fun s x => ?_) _ _).trans ?_ | split | rfl

theorem mtr_ctlRow (v0 s) : (ctlRow v0 s).mtr = s.mtr := by
  simp only [ctlRow] <;>
    repeat' first | simp only [↓mk_mtr, ↓mtr_record] | with_reducible refine (mtr_foldl _ (fun s x => ?_) _ _).trans ?_ | split | rfl

theorem mtr_execBerthOptLost (s) : (after s (execBerthOptLost s)).mtr = s.mtr := by
  simp only [execBerthOptLost] <;>
    repeat' first | simp only [after_next, ↓mk_mtr, ↓mtr_ctlRow] | with_reducible refine (mtr_foldl _ (fun s x => ?_) _ _).trans ?_ | split | rfl

theorem mtr_execFollowLimit (v0 s) : (after s (execFollowLimit v0 s)).mtr = s.mtr := by
  simp only [execFollowLimit] <;>
    repeat' first | simp only [after_next, ↓mk_mtr, ↓mtr_ctlRow] | with_reducible refine (mtr_foldl _ (fun s x => ?_) _ _).trans ?_ | split | rfl

theorem mtr_execFollowWarn (v0 s) : (after s (execFollowWarn v0 s)).mtr = s.mtr := by
  simp only [execFollowWarn] <;>
    repeat' first | simp only [after_next, ↓mk_mtr, ↓mtr_ctlRow] | with_reducible refine (mtr_foldl _ (fun s x => ?_) _ _).trans ?_ | split | rfl

theorem mtr_execJoyTimeout (s) : (after s (execJoyTimeout s)).mtr = s.mtr := by
  simp only [execJoyTimeout] <;>
    repeat' first | simp only [after_next, ↓mk_mtr, ↓mtr_ctlRow] | with_reducible refine (mtr_foldl _ (fun s x => ?_) _ _).trans ?_ | split | rfl

theorem mtr_execTargetLostTimeout (s) : (after s (execTargetLostTimeout s)).mtr = s.mtr := by
  simp only [execTargetLostTimeout] <;>
    repeat' first | simp only [after_next, ↓mk_mtr, ↓mtr_ctlRow] | with_reducible refine (mtr_foldl _ (fun s x => ?_) _ _).trans ?_ | split | rfl

theorem mtr_execTrackHoldExpiry (s) : (after s (execTrackHoldExpiry s)).mtr = s.mtr := by
  simp only [execTrackHoldExpiry] <;>
    repeat' first | simp only [after_next, ↓mk_mtr, ↓mtr_ctlRow] | with_reducible refine (mtr_foldl _ (fun s x => ?_) _ _).trans ?_ | split | rfl

theorem mtr_execControlStatus (v0 v1 s) : (after s (execControlStatus v0 v1 s)).mtr = s.mtr :=
  mtr_packetIn _ _ _ _ _ mtr_opControlStatus

theorem mtr_execJoystickSet (v0 v1 s) : (after s (execJoystickSet v0 v1 s)).mtr = s.mtr :=
  mtr_packetIn _ _ _ _ _ mtr_opJoystickSet

theorem mtr_execModeSet (v0 v1 s) : (after s (execModeSet v0 v1 s)).mtr = s.mtr :=
  mtr_packetIn _ _ _ _ _ mtr_opModeSet

theorem mtr_execSetpointGet (v0 v1 s) : (after s (execSetpointGet v0 v1 s)).mtr = s.mtr :=
  mtr_packetIn _ _ _ _ _ mtr_opSetpointGet

theorem mtr_execSetpointSet (v0 v1 s) : (after s (execSetpointSet v0 v1 s)).mtr = s.mtr :=
  mtr_packetIn _ _ _ _ _ mtr_opSetpointSet

theorem mtr_clearFaults (v0 s) : (clearFaults v0 s).mtr = s.mtr := by
  simp only [clearFaults] <;>
    repeat' first | simp only [↓mk_mtr] | with_reducible refine (mtr_foldl _ (fun s x => ?_) _ _).trans ?_ | split | rfl

theorem mtr_availIn (v0 v1 s) : (availIn v0 v1 s).mtr = s.mtr := by
  simp only [availIn] <;>
    repeat' first | simp only [↓mk_mtr, ↓mtr_clearFaults] | with_reducible refine (mtr_foldl _ (fun s x => ?_) _ _).trans ?_ | split | rfl

theorem mtr_clearDue (v0 s) : (clearDue v0 s).mtr = s.mtr := by
  simp only [clearDue] <;>
    repeat' first | simp only [↓mk_mtr, ↓mtr_clearFaults] | with_reducible refine (mtr_foldl _ (fun s x => ?_) _ _).trans ?_ | split | rfl

theorem mtr_execThrusterAvail (v0 v1 s) : (after s (execThrusterAvail v0 v1 s)).mtr = s.mtr :=
  mtr_packetIn _ _ _ _ _ mtr_opThrusterAvail

theorem mtr_modThr (v0 v1 s) : (modThr v0 v1 s).mtr = s.mtr := by
  simp only [modThr] <;>
    repeat' first | simp only [↓mk_mtr] | with_reducible refine (mtr_foldl _ (fun s x => ?_) _ _).trans ?_ | split | rfl

theorem mtr_returnThr (v0 s) : (returnThr v0 s).mtr = s.mtr := by
  simp only [returnThr] <;>
    repeat' first | simp only [↓mk_mtr, ↓mtr_record, ↓mtr_modThr] | with_reducible refine (mtr_foldl _ (fun s x => ?_) _ _).trans ?_ | split | rfl

theorem mtr_execThrusterReturned (v0 s) : (after s (execThrusterReturned v0 s)).mtr = s.mtr := by
  simp only [execThrusterReturned] <;>
    repeat' first | simp only [after_next, ↓mk_mtr, ↓mtr_returnThr] | with_reducible refine (mtr_foldl _ (fun s x => ?_) _ _).trans ?_ | split | rfl

theorem mtr_judgeMode (s v1) : (judgeMode s v1).mtr = s.mtr := by
  simp only [judgeMode] <;>
    repeat' first | simp only [↓mk_mtr, ↓mtr_returnThr, ↓mtr_modThr] | with_reducible refine (mtr_foldl _ (fun s x => ?_) _ _).trans ?_ | split | rfl

theorem mtr_fixAvail (s) : (fixAvail s).mtr = s.mtr := by
  simp only [fixAvail] <;>
    repeat' first | simp only [↓mk_mtr, ↓mtr_judgeMode] | with_reducible refine (mtr_foldl _ (fun s x => ?_) _ _).trans ?_ | split | rfl

theorem mtr_judgeThruster (s v1) : (judgeThruster s v1).mtr = s.mtr := by
  simp only [judgeThruster] <;>
    repeat' first | simp only [↓mk_mtr, ↓mtr_record, ↓mtr_modThr] | with_reducible refine (mtr_foldl _ (fun s x => ?_) _ _).trans ?_ | split | rfl

theorem mtr_judgeThrusters (s) : (judgeThrusters s).mtr = s.mtr := by
  simp only [judgeThrusters] <;>
    repeat' first | simp only [↓mk_mtr, ↓mtr_judgeThruster] | with_reducible refine (mtr_foldl _ (fun s x => ?_) _ _).trans ?_ | split | rfl

theorem mtr_keepFault (v0 s) : (keepFault v0 s).mtr = s.mtr := by
  simp only [keepFault] <;>
    repeat' first | simp only [↓mk_mtr] | with_reducible refine (mtr_foldl _ (fun s x => ?_) _ _).trans ?_ | split | rfl

theorem mtr_keepMarks (v0 s) : (keepMarks v0 s).mtr = s.mtr := by
  simp only [keepMarks] <;>
    repeat' first | simp only [↓mk_mtr, ↓mtr_keepSlots] | with_reducible refine (mtr_foldl _ (fun s x => ?_) _ _).trans ?_ | split | rfl

theorem mtr_publishThrusters (v0 s) : (publishThrusters v0 s).mtr = s.mtr := by
  simp only [publishThrusters] <;>
    repeat' first | simp only [↓mk_mtr, ↓mtr_outPut] | with_reducible refine (mtr_foldl _ (fun s x => ?_) _ _).trans ?_ | split | rfl

theorem mtr_stage6 (v0 s) : (stage6 v0 s).mtr = s.mtr := by
  simp only [stage6] <;>
    repeat' first | simp only [↓mk_mtr, ↓mtr_retain, ↓mtr_deadlineEvent] | with_reducible refine (mtr_foldl _ (fun s x => ?_) _ _).trans ?_ | split | rfl

theorem mtr_stage7 (s) : (stage7 s).mtr = s.mtr := by
  simp only [stage7] <;>
    repeat' first | simp only [↓mk_mtr, ↓mtr_publishThrusters, ↓mtr_modThr, ↓mtr_record] | with_reducible refine (mtr_foldl _ (fun s x => ?_) _ _).trans ?_ | split | rfl

theorem mtr_boundaryStops (s) : (boundaryStops s).mtr = s.mtr := by
  simp only [boundaryStops] <;>
    repeat' first | simp only [↓mk_mtr, ↓mtr_stopHere, ↓mtr_endCmd, ↓mtr_stopEffect] | with_reducible refine (mtr_foldl _ (fun s x => ?_) _ _).trans ?_ | split | rfl

theorem mtr_execSafeStop (v0 v1 s) : (after s (execSafeStop v0 v1 s)).mtr = s.mtr :=
  mtr_packetIn _ _ _ _ _ (mtr_opStop _)

theorem mtr_execThrustStop (v0 v1 s) : (after s (execThrustStop v0 v1 s)).mtr = s.mtr :=
  mtr_packetIn _ _ _ _ _ (mtr_opStop _)

theorem mtr_modBrake (v0 v1 s) : (modBrake v0 v1 s).mtr = s.mtr := by
  simp only [modBrake] <;>
    repeat' first | simp only [↓mk_mtr] | with_reducible refine (mtr_foldl _ (fun s x => ?_) _ _).trans ?_ | split | rfl

theorem mtr_placementStop (s) : (placementStop s).mtr = s.mtr := by
  simp only [placementStop] <;>
    repeat' first | simp only [↓mk_mtr, ↓mtr_takeStop, ↓mtr_record] | with_reducible refine (mtr_foldl _ (fun s x => ?_) _ _).trans ?_ | split | rfl

theorem mtr_askBrake (v0 v1 s) : (askBrake v0 v1 s).mtr = s.mtr := by
  simp only [askBrake] <;>
    repeat' first | simp only [↓mk_mtr, ↓mtr_modBrake] | with_reducible refine (mtr_foldl _ (fun s x => ?_) _ _).trans ?_ | split | rfl

theorem mtr_askBrakes (s) : (askBrakes s).mtr = s.mtr := by
  simp only [askBrakes] <;>
    repeat' first | simp only [↓mk_mtr, ↓mtr_askBrake] | with_reducible refine (mtr_foldl _ (fun s x => ?_) _ _).trans ?_ | split | rfl

theorem mtr_bumpCount (v0 v1 s) : (bumpCount v0 v1 s).mtr = s.mtr := by
  simp only [bumpCount] <;>
    repeat' first | simp only [↓mk_mtr] | with_reducible refine (mtr_foldl _ (fun s x => ?_) _ _).trans ?_ | split | rfl

theorem mtr_modSat (v0 v1 v2 s) : (modSat v0 v1 v2 s).mtr = s.mtr := by
  simp only [modSat] <;>
    repeat' first | simp only [↓mk_mtr, ↓mtr_modThr] | with_reducible refine (mtr_foldl _ (fun s x => ?_) _ _).trans ?_ | split | rfl

theorem mtr_satFault (v0 v1 s) : (satFault v0 v1 s).mtr = s.mtr := by
  simp only [satFault] <;>
    repeat' first | simp only [↓mk_mtr, ↓mtr_record, ↓mtr_keepFault, ↓mtr_modSat] | with_reducible refine (mtr_foldl _ (fun s x => ?_) _ _).trans ?_ | split | rfl

theorem mtr_execActSatFault (v0 v1 s) : (after s (execActSatFault v0 v1 s)).mtr = s.mtr := by
  simp only [execActSatFault] <;>
    repeat' first | simp only [after_next, ↓mk_mtr, ↓mtr_satFault] | with_reducible refine (mtr_foldl _ (fun s x => ?_) _ _).trans ?_ | split | rfl

theorem mtr_satWarn (v0 v1 s) : (satWarn v0 v1 s).mtr = s.mtr := by
  simp only [satWarn] <;>
    repeat' first | simp only [↓mk_mtr, ↓mtr_record, ↓mtr_modSat] | with_reducible refine (mtr_foldl _ (fun s x => ?_) _ _).trans ?_ | split | rfl

theorem mtr_execActSatWarn (v0 v1 s) : (after s (execActSatWarn v0 v1 s)).mtr = s.mtr := by
  simp only [execActSatWarn] <;>
    repeat' first | simp only [after_next, ↓mk_mtr, ↓mtr_satWarn] | with_reducible refine (mtr_foldl _ (fun s x => ?_) _ _).trans ?_ | split | rfl

theorem mtr_startThr (s v1) : (startThr s v1).mtr = s.mtr := by
  simp only [startThr] <;>
    repeat' first | simp only [↓mk_mtr, ↓mtr_modThr] | with_reducible refine (mtr_foldl _ (fun s x => ?_) _ _).trans ?_ | split | rfl

theorem mtr_makeCurrent (v0 s) : (makeCurrent v0 s).mtr = s.mtr := by
  simp only [makeCurrent] <;>
    repeat' first | simp only [↓mk_mtr, ↓mtr_startThr] | with_reducible refine (mtr_foldl _ (fun s x => ?_) _ _).trans ?_ | split | rfl

theorem mtr_extCurrent (v0 s) : (extCurrent v0 s).mtr = s.mtr := by
  simp only [extCurrent] <;>
    repeat' first | simp only [↓mk_mtr, ↓mtr_makeCurrent] | with_reducible refine (mtr_foldl _ (fun s x => ?_) _ _).trans ?_ | split | rfl

theorem mtr_extRelease (v0 s) : (extRelease v0 s).mtr = s.mtr := by
  simp only [extRelease] <;>
    repeat' first | simp only [↓mk_mtr, ↓mtr_extCurrent] | with_reducible refine (mtr_foldl _ (fun s x => ?_) _ _).trans ?_ | split | rfl

theorem mtr_markRelease (v0 v1 s) : (markRelease v0 v1 s).mtr = s.mtr := by
  simp only [markRelease] <;>
    repeat' first | simp only [↓mk_mtr] | with_reducible refine (mtr_foldl _ (fun s x => ?_) _ _).trans ?_ | split | rfl

theorem mtr_release (s) : (release s).mtr = s.mtr := by
  simp only [release] <;>
    repeat' first | simp only [↓mk_mtr, ↓mtr_makeCurrent, ↓mtr_bumpCount] | with_reducible refine (mtr_foldl _ (fun s x => ?_) _ _).trans ?_ | split | rfl

theorem mtr_superviseExt (s) : (superviseExt s).mtr = s.mtr := by
  simp only [superviseExt] <;>
    repeat' first | simp only [↓mk_mtr, ↓mtr_record] | with_reducible refine (mtr_foldl _ (fun s x => ?_) _ _).trans ?_ | split | rfl

theorem mtr_steerThr (v0 s v2) : (steerThr v0 s v2).mtr = s.mtr := by
  simp only [steerThr] <;>
    repeat' first | simp only [↓mk_mtr, ↓mtr_modThr] | with_reducible refine (mtr_foldl _ (fun s x => ?_) _ _).trans ?_ | split | rfl

theorem mtr_satStep (v0 v1 v2 s) : (satStep v0 v1 v2 s).mtr = s.mtr := by
  simp only [satStep] <;>
    repeat' first | simp only [↓mk_mtr, ↓mtr_satFault, ↓mtr_satWarn, ↓mtr_modSat] | with_reducible refine (mtr_foldl _ (fun s x => ?_) _ _).trans ?_ | split | rfl

theorem mtr_superviseThr (s v1) : (superviseThr s v1).mtr = s.mtr := by
  simp only [superviseThr] <;>
    repeat' first | simp only [↓mk_mtr, ↓mtr_satStep] | with_reducible refine (mtr_foldl _ (fun s x => ?_) _ _).trans ?_ | split | rfl

theorem mtr_keepFrames (s) : (keepFrames s).mtr = s.mtr := by
  simp only [keepFrames] <;>
    repeat' first | simp only [↓mk_mtr] | with_reducible refine (mtr_foldl _ (fun s x => ?_) _ _).trans ?_ | split | rfl

theorem mtr_watchHold (s) : (watchHold s).mtr = s.mtr := by
  simp only [watchHold] <;>
    repeat' first | simp only [↓mk_mtr] | with_reducible refine (mtr_foldl _ (fun s x => ?_) _ _).trans ?_ | split | rfl

theorem mtr_sendExtFb (s) : (sendExtFb s).mtr = s.mtr := by
  simp only [sendExtFb] <;>
    repeat' first | simp only [↓mk_mtr, ↓mtr_sendCasc] | with_reducible refine (mtr_foldl _ (fun s x => ?_) _ _).trans ?_ | split | rfl

theorem mtr_tpRun (v0 v1 s) : (tpRun v0 v1 s).mtr = s.mtr := by
  simp only [tpRun] <;>
    repeat' first | simp only [↓mk_mtr, ↓mtr_boundaryStops, ↓mtr_extRelease, ↓mtr_markRelease, ↓mtr_release, ↓mtr_superviseDrive, ↓mtr_superviseExt, ↓mtr_steerThr, ↓mtr_superviseThr, ↓mtr_askBrakes, ↓mtr_sendFrames, ↓mtr_keepFrames, ↓mtr_watchHold, ↓mtr_sendExtFb, ↓mtr_drainCasc] | with_reducible refine (mtr_foldl _ (fun s x => ?_) _ _).trans ?_ | split | rfl

theorem mtr_tpWork (v0 v1 s) : (tpWork v0 v1 s).mtr = s.mtr := by
  simp only [tpWork] <;>
    repeat' first | simp only [↓mk_mtr, ↓mtr_boundaryStops, ↓mtr_tpRun] | with_reducible refine (mtr_foldl _ (fun s x => ?_) _ _).trans ?_ | split | rfl

theorem mtr_execTpBoundary (s) : (after s (execTpBoundary s)).mtr = s.mtr := by
  simp only [execTpBoundary] <;>
    repeat' first | simp only [after_next, ↓mk_mtr, ↓mtr_gridView, ↓mtr_tpWork, ↓mtr_countTo] | with_reducible refine (mtr_foldl _ (fun s x => ?_) _ _).trans ?_ | split | rfl

theorem mtr_stagedView (s) : (stagedView s).mtr = s.mtr := by
  simp only [stagedView] <;>
    repeat' first | simp only [↓mk_mtr] | with_reducible refine (mtr_foldl _ (fun s x => ?_) _ _).trans ?_ | split | rfl

theorem mtr_applyBlock (v0 s) : (applyBlock v0 s).mtr = s.mtr := by
  simp only [applyBlock] <;>
    repeat' first | simp only [↓mk_mtr] | with_reducible refine (mtr_foldl _ (fun s x => ?_) _ _).trans ?_ | split | rfl

theorem mtr_applySignal (v0 v1 s) : (applySignal v0 v1 s).mtr = s.mtr := by
  simp only [applySignal] <;>
    repeat' first | simp only [↓mk_mtr, ↓mtr_outPut] | with_reducible refine (mtr_foldl _ (fun s x => ?_) _ _).trans ?_ | split | rfl

theorem mtr_applyEntry (v0 v1 s) : (applyEntry v0 v1 s).mtr = s.mtr := by
  simp only [applyEntry] <;>
    repeat' first | simp only [↓mk_mtr, ↓mtr_applyBlock, ↓mtr_applySignal] | with_reducible refine (mtr_foldl _ (fun s x => ?_) _ _).trans ?_ | split | rfl

theorem mtr_applyEntries (v0 v1 s) : (applyEntries v0 v1 s).mtr = s.mtr := by
  induction v0 generalizing v1 s with
  | nil => rfl
  | cons e es ih => rw [applyEntries, ih, mtr_applyEntry]

theorem mtr_stage8 (s) : (stage8 s).mtr = s.mtr := by
  simp only [stage8] <;>
    repeat' first | simp only [↓mk_mtr, ↓mtr_sendCascOf] | with_reducible refine (mtr_foldl _ (fun s x => ?_) _ _).trans ?_ | split | rfl

theorem mtr_execMirror (s) : (after s (execMirror s)).mtr = s.mtr := by
  simp only [execMirror] <;>
    repeat' first | simp only [after_next, ↓mk_mtr, ↓mtr_stage8] | with_reducible refine (mtr_foldl _ (fun s x => ?_) _ _).trans ?_ | split | rfl

theorem mtr_mirrorIn (v0 s) : (mirrorIn v0 s).mtr = s.mtr := by
  simp only [mirrorIn] <;>
    repeat' first | simp only [↓mk_mtr] | with_reducible refine (mtr_foldl _ (fun s x => ?_) _ _).trans ?_ | split | rfl

theorem mtr_execMirrorRx (v0 s) : (after s (execMirrorRx v0 s)).mtr = s.mtr := by
  simp only [execMirrorRx] <;>
    repeat' first | simp only [after_next, ↓mk_mtr, ↓mtr_mirrorIn] | with_reducible refine (mtr_foldl _ (fun s x => ?_) _ _).trans ?_ | split | rfl

theorem mtr_keepSignals (s) : (keepSignals s).mtr = s.mtr := by
  simp only [keepSignals] <;>
    repeat' first | simp only [↓mk_mtr] | with_reducible refine (mtr_foldl _ (fun s x => ?_) _ _).trans ?_ | split | rfl

theorem mtr_keepStream (s) : (keepStream s).mtr = s.mtr := by
  simp only [keepStream] <;>
    repeat' first | simp only [↓mk_mtr] | with_reducible refine (mtr_foldl _ (fun s x => ?_) _ _).trans ?_ | split | rfl

theorem mtr_useStream (v0 s) : (useStream v0 s).mtr = s.mtr := by
  simp only [useStream] <;>
    repeat' first | simp only [↓mk_mtr, ↓mtr_applyEntries] | with_reducible refine (mtr_foldl _ (fun s x => ?_) _ _).trans ?_ | split | rfl

theorem mtr_noteHandover (s) : (noteHandover s).mtr = s.mtr := by
  simp only [noteHandover] <;>
    repeat' first | simp only [↓mk_mtr] | with_reducible refine (mtr_foldl _ (fun s x => ?_) _ _).trans ?_ | split | rfl

theorem mtr_handoverDone (v0 s) : (handoverDone v0 s).mtr = s.mtr := by
  simp only [handoverDone] <;>
    repeat' first | simp only [↓mk_mtr, ↓mtr_noteHandover, ↓mtr_record, ↓mtr_seeEpoch, ↓mtr_stopOwning, ↓mtr_endCmd] | with_reducible refine (mtr_foldl _ (fun s x => ?_) _ _).trans ?_ | split | rfl

theorem mtr_tryHandover (v0 v1 s t) (h : tryHandover v0 v1 s = some t) : t.mtr = s.mtr := by
  simp only [tryHandover, Option.map_eq_some_iff] at h
  obtain ⟨d, -, rfl⟩ := h
  rw [mtr_sendHandover]

theorem mtr_handoverNext (v0 v1 s) : (handoverNext v0 v1 s).mtr = s.mtr := by
  simp only [handoverNext]
  repeat' first | rfl | simp only [mtr_endCmd, mtr_record] | exact mtr_tryHandover _ _ _ _ ‹_› | split

theorem mtr_ackIn (v0 s) : (ackIn v0 s).mtr = s.mtr := by
  simp only [ackIn] <;>
    repeat' first | simp only [↓mk_mtr, ↓mtr_stopOwning, ↓mtr_handoverDone, ↓mtr_handoverNext] | with_reducible refine (mtr_foldl _ (fun s x => ?_) _ _).trans ?_ | split | rfl

theorem mtr_exclude (v0 s) : (exclude v0 s).mtr = s.mtr := by
  simp only [exclude] <;>
    repeat' first | simp only [↓mk_mtr, ↓mtr_changeRole, ↓mtr_record] | with_reducible refine (mtr_foldl _ (fun s x => ?_) _ _).trans ?_ | split | rfl

theorem mtr_modPeer (v0 v1 s) : (modPeer v0 v1 s).mtr = s.mtr := by
  simp only [modPeer] <;>
    repeat' first | simp only [↓mk_mtr] | with_reducible refine (mtr_foldl _ (fun s x => ?_) _ _).trans ?_ | split | rfl

theorem mtr_releasePermit (v0 s) : (releasePermit v0 s).mtr = s.mtr := by
  simp only [releasePermit] <;>
    repeat' first | simp only [↓mk_mtr] | with_reducible refine (mtr_foldl _ (fun s x => ?_) _ _).trans ?_ | split | rfl

theorem mtr_resolveRole (s) : (resolveRole s).mtr = s.mtr := by
  simp only [resolveRole] <;>
    repeat' first | simp only [↓mk_mtr, ↓mtr_exclude] | with_reducible refine (mtr_foldl _ (fun s x => ?_) _ _).trans ?_ | split | rfl

theorem mtr_meetMaster (v0 v1 s) : (meetMaster v0 v1 s).mtr = s.mtr := by
  simp only [meetMaster] <;>
    repeat' first | simp only [↓mk_mtr, ↓mtr_stopOwning, ↓mtr_record, ↓mtr_changeRole] | with_reducible refine (mtr_foldl _ (fun s x => ?_) _ _).trans ?_ | split | rfl

theorem mtr_announceIn (m s) : (announceIn m s).mtr = s.mtr := by
  unfold announceIn
  split
  · rfl
  · split
    · exact mtr_exclude _ _
    · extract_lets b old p s0 s1 s2 own x1 s3 s4
      have h1 : s1.mtr = s.mtr := by
        simp only [s1]; split <;> simp only [mtr_meetOwner, s0, mtr_modPeer]
      clear_value s1
      have h2 : s2.mtr = s.mtr := by
        simp only [s2]; split <;> simp only [mtr_learnOwner, mtr_seeEpoch, h1]
      clear_value s2
      have h3 : s3.mtr = s.mtr := by
        simp only [s3]; repeat' first | exact h2 | split
      clear_value s3
      have h4 : s4.mtr = s.mtr := by
        simp only [s4]; split <;> simp only [mtr_releasePermit, h3]
      clear_value s4
      split <;> simp only [mtr_resolveRole, mtr_meetMaster, h4]

theorem mtr_setLink (v0 v1 s) : (setLink v0 v1 s).mtr = s.mtr := by
  simp only [setLink] <;>
    repeat' first | simp only [↓mk_mtr, ↓mtr_record] | with_reducible refine (mtr_foldl _ (fun s x => ?_) _ _).trans ?_ | split | rfl

theorem mtr_badFrame (v0 s) : (badFrame v0 s).mtr = s.mtr := by
  simp only [badFrame] <;>
    repeat' first | simp only [↓mk_mtr, ↓mtr_setLink] | with_reducible refine (mtr_foldl _ (fun s x => ?_) _ _).trans ?_ | split | rfl

theorem mtr_becomeOwner (v0 s) : (becomeOwner v0 s).mtr = s.mtr := by
  simp only [becomeOwner] <;>
    repeat' first | simp only [↓mk_mtr, ↓mtr_newEpoch, ↓mtr_noteHandover, ↓mtr_announce, ↓mtr_askBrakes, ↓mtr_sendFrames, ↓mtr_nowOwns] | with_reducible refine (mtr_foldl _ (fun s x => ?_) _ _).trans ?_ | split | rfl

theorem mtr_bootDataIn (v0 s) : (bootDataIn v0 s).mtr = s.mtr := by
  simp only [bootDataIn] <;>
    repeat' first | simp only [↓mk_mtr] | with_reducible refine (mtr_foldl _ (fun s x => ?_) _ _).trans ?_ | split | rfl

theorem mtr_bootReqIn (v0 s) : (bootReqIn v0 s).mtr = s.mtr := by
  simp only [bootReqIn] <;>
    repeat' first | simp only [↓mk_mtr, ↓mtr_sendCasc] | with_reducible refine (mtr_foldl _ (fun s x => ?_) _ _).trans ?_ | split | rfl

theorem mtr_execAck (v0 s) : (after s (execAck v0 s)).mtr = s.mtr := by
  simp only [execAck] <;>
    repeat' first | simp only [after_next, ↓mk_mtr, ↓mtr_ackIn] | with_reducible refine (mtr_foldl _ (fun s x => ?_) _ _).trans ?_ | split | rfl

theorem mtr_execAnnounceRx (v0 s) : (after s (execAnnounceRx v0 s)).mtr = s.mtr := by
  simp only [execAnnounceRx] <;>
    repeat' first | simp only [after_next, ↓mk_mtr, ↓mtr_announceIn] | with_reducible refine (mtr_foldl _ (fun s x => ?_) _ _).trans ?_ | split | rfl

theorem mtr_execAnnounceTx (s) : (after s (execAnnounceTx s)).mtr = s.mtr := by
  simp only [execAnnounceTx] <;>
    repeat' first | simp only [after_next, ↓mk_mtr, ↓mtr_announce, ↓mtr_elapseTo] | with_reducible refine (mtr_foldl _ (fun s x => ?_) _ _).trans ?_ | split | rfl

theorem mtr_sendArb (v0 v1 v2 s) : (sendArb v0 v1 v2 s).mtr = s.mtr := by
  simp only [sendArb] <;>
    repeat' first | simp only [↓mk_mtr, ↓mtr_emit] | with_reducible refine (mtr_foldl _ (fun s x => ?_) _ _).trans ?_ | split | rfl

theorem mtr_sendAck (v0 v1 v2 s) : (sendAck v0 v1 v2 s).mtr = s.mtr := by
  simp only [sendAck] <;>
    repeat' first | simp only [↓mk_mtr, ↓mtr_sendArb, ↓mtr_sendCasc] | with_reducible refine (mtr_foldl _ (fun s x => ?_) _ _).trans ?_ | split | rfl

theorem mtr_takeIn (v0 v1 s) : (takeIn v0 v1 s).mtr = s.mtr := by
  simp only [takeIn] <;>
    repeat' first | simp only [↓mk_mtr, ↓mtr_sendAck, ↓mtr_becomeOwner, ↓mtr_meetOwner, ↓mtr_learnOwner, ↓mtr_seeEpoch, ↓mtr_noteHandover] | with_reducible refine (mtr_foldl _ (fun s x => ?_) _ _).trans ?_ | split | rfl

theorem mtr_yieldIn (v0 v1 s) : (yieldIn v0 v1 s).mtr = s.mtr := by
  simp only [yieldIn] <;>
    repeat' first | simp only [↓mk_mtr, ↓mtr_sendAck, ↓mtr_stopOwning] | with_reducible refine (mtr_foldl _ (fun s x => ?_) _ _).trans ?_ | split | rfl

theorem mtr_execArbiterDatagramRx (v0 v1 v2 s) : (after s (execArbiterDatagramRx v0 v1 v2 s)).mtr = s.mtr := by
  simp only [execArbiterDatagramRx] <;>
    repeat' first | simp only [after_next, ↓mk_mtr, ↓mtr_takeIn, ↓mtr_yieldIn] | with_reducible refine (mtr_foldl _ (fun s x => ?_) _ _).trans ?_ | split | rfl

theorem mtr_execBootData (v0 s) : (after s (execBootData v0 s)).mtr = s.mtr := by
  simp only [execBootData] <;>
    repeat' first | simp only [after_next, ↓mk_mtr, ↓mtr_bootDataIn] | with_reducible refine (mtr_foldl _ (fun s x => ?_) _ _).trans ?_ | split | rfl

theorem mtr_execBootReq (v0 s) : (after s (execBootReq v0 s)).mtr = s.mtr := by
  simp only [execBootReq] <;>
    repeat' first | simp only [after_next, ↓mk_mtr, ↓mtr_bootReqIn] | with_reducible refine (mtr_foldl _ (fun s x => ?_) _ _).trans ?_ | split | rfl

theorem mtr_execBootReqTx (s) : (after s (execBootReqTx s)).mtr = s.mtr := by
  simp only [execBootReqTx] <;>
    repeat' first | simp only [after_next, ↓mk_mtr, ↓mtr_elapseTo, ↓mtr_sendCasc] | with_reducible refine (mtr_foldl _ (fun s x => ?_) _ _).trans ?_ | split | rfl

theorem mtr_forward (v0 v1 s) : (forward v0 v1 s).mtr = s.mtr := by
  simp only [forward] <;>
    repeat' first | simp only [↓mk_mtr, ↓mtr_queueCasc] | with_reducible refine (mtr_foldl _ (fun s x => ?_) _ _).trans ?_ | split | rfl

theorem mtr_learnDistance (v0 v1 v2 v3 s) : (learnDistance v0 v1 v2 v3 s).mtr = s.mtr := by
  simp only [learnDistance] <;>
    repeat' first | simp only [↓mk_mtr, ↓mtr_modPeer] | with_reducible refine (mtr_foldl _ (fun s x => ?_) _ _).trans ?_ | split | rfl

theorem mtr_keepHealth (v0 v1 s) : (keepHealth v0 v1 s).mtr = s.mtr := by
  simp only [keepHealth] <;>
    repeat' first | simp only [↓mk_mtr, ↓mtr_modPeer] | with_reducible refine (mtr_foldl _ (fun s x => ?_) _ _).trans ?_ | split | rfl

theorem mtr_healthIn (v0 s) : (healthIn v0 s).mtr = s.mtr := by
  simp only [healthIn] <;>
    repeat' first | simp only [↓mk_mtr, ↓mtr_keepHealth, ↓mtr_meetOwner, ↓mtr_learnOwner, ↓mtr_seeEpoch] | with_reducible refine (mtr_foldl _ (fun s x => ?_) _ _).trans ?_ | split | rfl

theorem mtr_extCmdIn (v0 s) : (extCmdIn v0 s).mtr = s.mtr := by
  simp only [extCmdIn] <;>
    repeat' first | simp only [↓mk_mtr, ↓mtr_record, ↓mtr_seeEpoch] | with_reducible refine (mtr_foldl _ (fun s x => ?_) _ _).trans ?_ | split | rfl

theorem mtr_extFbIn (v0 s) : (extFbIn v0 s).mtr = s.mtr := by
  simp only [extFbIn] <;>
    repeat' first | simp only [↓mk_mtr] | with_reducible refine (mtr_foldl _ (fun s x => ?_) _ _).trans ?_ | split | rfl

theorem mtr_stopIn (v0 s) : (stopIn v0 s).mtr = s.mtr := by
  simp only [stopIn] <;>
    repeat' first | simp only [↓mk_mtr, ↓mtr_stopEffect] | with_reducible refine (mtr_foldl _ (fun s x => ?_) _ _).trans ?_ | split | rfl

theorem mtr_stepNoticeIn (v0 s) : (stepNoticeIn v0 s).mtr = s.mtr := by
  simp only [stepNoticeIn] <;>
    repeat' first | simp only [↓mk_mtr, ↓mtr_addStep] | with_reducible refine (mtr_foldl _ (fun s x => ?_) _ _).trans ?_ | split | rfl

theorem mtr_syncNoticeIn (v0 s) : (syncNoticeIn v0 s).mtr = s.mtr := by
  simp only [syncNoticeIn] <;>
    repeat' first | simp only [↓mk_mtr, ↓mtr_record] | with_reducible refine (mtr_foldl _ (fun s x => ?_) _ _).trans ?_ | split | rfl

theorem mtr_takeFrame2 (v0 v1 s) : (takeFrame2 v0 v1 s).mtr = s.mtr := by
  simp only [takeFrame2] <;>
    repeat' first | simp only [↓mk_mtr, ↓mtr_announceIn, ↓mtr_healthIn, ↓mtr_takeIn, ↓mtr_yieldIn, ↓mtr_ackIn, ↓mtr_mirrorIn, ↓mtr_extCmdIn, ↓mtr_extFbIn, ↓mtr_stopIn, ↓mtr_stepNoticeIn, ↓mtr_syncNoticeIn, ↓mtr_bootReqIn, ↓mtr_bootDataIn] | with_reducible refine (mtr_foldl _ (fun s x => ?_) _ _).trans ?_ | split | rfl

theorem mtr_execCascFrameRx (v0 v1 s) : (after s (execCascFrameRx v0 v1 s)).mtr = s.mtr := by
  simp only [execCascFrameRx] <;>
    repeat' first | simp only [after_next, ↓mk_mtr, ↓mtr_badFrame, ↓mtr_forward, ↓mtr_learnDistance, ↓mtr_takeFrame2] | with_reducible refine (mtr_foldl _ (fun s x => ?_) _ _).trans ?_ | split | rfl

theorem mtr_execCascLinkDown (v0 s) : (after s (execCascLinkDown v0 s)).mtr = s.mtr := by
  simp only [execCascLinkDown] <;>
    repeat' first | simp only [after_next, ↓mk_mtr, ↓mtr_setLink] | with_reducible refine (mtr_foldl _ (fun s x => ?_) _ _).trans ?_ | split | rfl

theorem mtr_execCascLinkUp (v0 s) : (after s (execCascLinkUp v0 s)).mtr = s.mtr := by
  simp only [execCascLinkUp] <;>
    repeat' first | simp only [after_next, ↓mk_mtr, ↓mtr_setLink] | with_reducible refine (mtr_foldl _ (fun s x => ?_) _ _).trans ?_ | split | rfl

theorem mtr_execCatchUpStep (v0 s) : (after s (execCatchUpStep v0 s)).mtr = s.mtr := by
  simp only [execCatchUpStep] <;>
    repeat' first | simp only [after_next, ↓mk_mtr, ↓mtr_applyStep] | with_reducible refine (mtr_foldl _ (fun s x => ?_) _ _).trans ?_ | split | rfl

theorem mtr_execExtCmd (v0 s) : (after s (execExtCmd v0 s)).mtr = s.mtr := by
  simp only [execExtCmd] <;>
    repeat' first | simp only [after_next, ↓mk_mtr, ↓mtr_extCmdIn] | with_reducible refine (mtr_foldl _ (fun s x => ?_) _ _).trans ?_ | split | rfl

theorem mtr_execExtFb (v0 s) : (after s (execExtFb v0 s)).mtr = s.mtr := by
  simp only [execExtFb] <;>
    repeat' first | simp only [after_next, ↓mk_mtr, ↓mtr_extFbIn] | with_reducible refine (mtr_foldl _ (fun s x => ?_) _ _).trans ?_ | split | rfl

theorem mtr_extLose (s) : (extLose s).mtr = s.mtr := by
  simp only [extLose] <;>
    repeat' first | simp only [↓mk_mtr, ↓mtr_record] | with_reducible refine (mtr_foldl _ (fun s x => ?_) _ _).trans ?_ | split | rfl

theorem mtr_execExtMasterLost (s) : (after s (execExtMasterLost s)).mtr = s.mtr := by
  simp only [execExtMasterLost] <;>
    repeat' first | simp only [after_next, ↓mk_mtr, ↓mtr_extLose] | with_reducible refine (mtr_foldl _ (fun s x => ?_) _ _).trans ?_ | split | rfl

theorem mtr_execGroupStatus (v0 v1 s) : (after s (execGroupStatus v0 v1 s)).mtr = s.mtr :=
  mtr_packetIn _ _ _ _ _ mtr_opGroupStatus

theorem mtr_execHandoverAckTimeout (s) : (after s (execHandoverAckTimeout s)).mtr = s.mtr := by
  simp only [execHandoverAckTimeout] <;>
    repeat' first | simp only [after_next, ↓mk_mtr, ↓mtr_elapseTo, ↓mtr_handoverNext] | with_reducible refine (mtr_foldl _ (fun s x => ?_) _ _).trans ?_ | split | rfl

theorem mtr_execHandoverRequest (v0 v1 s) : (after s (execHandoverRequest v0 v1 s)).mtr = s.mtr :=
  mtr_packetIn _ _ _ _ _ mtr_opHandoverRequest

theorem mtr_resendAck (s) : (resendAck s).mtr = s.mtr := by
  simp only [resendAck] <;>
    repeat' first | simp only [↓mk_mtr, ↓mtr_elapseTo, ↓mtr_sendCasc] | with_reducible refine (mtr_foldl _ (fun s x => ?_) _ _).trans ?_ | split | rfl

theorem mtr_execHandoverResend (s) : (after s (execHandoverResend s)).mtr = s.mtr := by
  simp only [execHandoverResend] <;>
    repeat' first | simp only [after_next, ↓mk_mtr, ↓mtr_resendAck, ↓mtr_sendHandover, ↓mtr_elapseTo] | with_reducible refine (mtr_foldl _ (fun s x => ?_) _ _).trans ?_ | split | rfl

theorem mtr_execHbInToggle (v0 s) : (after s (execHbInToggle v0 s)).mtr = s.mtr := by
  simp only [execHbInToggle] <;>
    repeat' first | simp only [after_next, ↓mk_mtr, ↓mtr_modPeer] | with_reducible refine (mtr_foldl _ (fun s x => ?_) _ _).trans ?_ | split | rfl

theorem mtr_execHealthRead (v0 v1 s) : (after s (execHealthRead v0 v1 s)).mtr = s.mtr :=
  mtr_packetIn _ _ _ _ _ mtr_opHealthRead

theorem mtr_execHealthRx (v0 s) : (after s (execHealthRx v0 s)).mtr = s.mtr := by
  simp only [execHealthRx] <;>
    repeat' first | simp only [after_next, ↓mk_mtr, ↓mtr_healthIn] | with_reducible refine (mtr_foldl _ (fun s x => ?_) _ _).trans ?_ | split | rfl

theorem mtr_withdrawPermit (v0 s) : (withdrawPermit v0 s).mtr = s.mtr := by
  simp only [withdrawPermit] <;>
    repeat' first | simp only [↓mk_mtr, ↓mtr_emit] | with_reducible refine (mtr_foldl _ (fun s x => ?_) _ _).trans ?_ | split | rfl

theorem mtr_execOwnerOverlap (s) : (after s (execOwnerOverlap s)).mtr = s.mtr := by
  simp only [execOwnerOverlap] <;>
    repeat' first | simp only [after_next, ↓mk_mtr, ↓mtr_record, ↓mtr_withdrawPermit] | with_reducible refine (mtr_foldl _ (fun s x => ?_) _ _).trans ?_ | split | rfl

theorem mtr_execOwnershipTakeUp (s) : (after s (execOwnershipTakeUp s)).mtr = s.mtr := by
  simp only [execOwnershipTakeUp] <;>
    repeat' first | simp only [after_next, ↓mk_mtr, ↓mtr_takeUp, ↓mtr_elapseTo] | with_reducible refine (mtr_foldl _ (fun s x => ?_) _ _).trans ?_ | split | rfl

theorem mtr_execPermitInLow (v0 s) : (after s (execPermitInLow v0 s)).mtr = s.mtr := by
  simp only [execPermitInLow] <;>
    repeat' first | simp only [after_next, ↓mk_mtr, ↓mtr_stopOwning] | with_reducible refine (mtr_foldl _ (fun s x => ?_) _ _).trans ?_ | split | rfl

theorem mtr_execRoleSet (v0 v1 s) : (after s (execRoleSet v0 v1 s)).mtr = s.mtr :=
  mtr_packetIn _ _ _ _ _ mtr_opRoleSet

theorem mtr_loseStruct (s v1) : (loseStruct s v1).mtr = s.mtr := by
  simp only [loseStruct] <;>
    repeat' first | simp only [↓mk_mtr, ↓mtr_record] | with_reducible refine (mtr_foldl _ (fun s x => ?_) _ _).trans ?_ | split | rfl

theorem mtr_moveStructs (v0 s) : (moveStructs v0 s).mtr = s.mtr := by
  simp only [moveStructs] <;>
    repeat' first | simp only [↓mk_mtr, ↓mtr_loseStruct] | with_reducible refine (mtr_foldl _ (fun s x => ?_) _ _).trans ?_ | split | rfl

theorem mtr_retireTile (v0 v1 s) : (retireTile v0 v1 s).mtr = s.mtr := by
  simp only [retireTile] <;>
    repeat' first | simp only [↓mk_mtr, ↓mtr_record, ↓mtr_moveStructs, ↓mtr_placementStop] | with_reducible refine (mtr_foldl _ (fun s x => ?_) _ _).trans ?_ | split | rfl

theorem mtr_execSelftestCycle (v0 s) : (after s (execSelftestCycle v0 s)).mtr = s.mtr := by
  simp only [execSelftestCycle] <;>
    repeat' first | simp only [after_next, ↓mk_mtr, ↓mtr_retireTile, ↓mtr_rnnFail] | with_reducible refine (mtr_foldl _ (fun s x => ?_) _ _).trans ?_ | split | rfl

theorem mtr_execStepNotice (v0 s) : (after s (execStepNotice v0 s)).mtr = s.mtr := by
  simp only [execStepNotice] <;>
    repeat' first | simp only [after_next, ↓mk_mtr, ↓mtr_stepNoticeIn] | with_reducible refine (mtr_foldl _ (fun s x => ?_) _ _).trans ?_ | split | rfl

theorem mtr_execStop (v0 s) : (after s (execStop v0 s)).mtr = s.mtr := by
  simp only [execStop] <;>
    repeat' first | simp only [after_next, ↓mk_mtr, ↓mtr_stopIn] | with_reducible refine (mtr_foldl _ (fun s x => ?_) _ _).trans ?_ | split | rfl

theorem mtr_execSyncNotice (v0 s) : (after s (execSyncNotice v0 s)).mtr = s.mtr := by
  simp only [execSyncNotice] <;>
    repeat' first | simp only [after_next, ↓mk_mtr, ↓mtr_syncNoticeIn] | with_reducible refine (mtr_foldl _ (fun s x => ?_) _ _).trans ?_ | split | rfl

theorem mtr_execTake (v0 s) : (after s (execTake v0 s)).mtr = s.mtr := by
  simp only [execTake] <;>
    repeat' first | simp only [after_next, ↓mk_mtr, ↓mtr_takeIn] | with_reducible refine (mtr_foldl _ (fun s x => ?_) _ _).trans ?_ | split | rfl

theorem mtr_execTileRetired (v0 v1 s) : (after s (execTileRetired v0 v1 s)).mtr = s.mtr := by
  simp only [execTileRetired] <;>
    repeat' first | simp only [after_next, ↓mk_mtr, ↓mtr_retireTile] | with_reducible refine (mtr_foldl _ (fun s x => ?_) _ _).trans ?_ | split | rfl

theorem mtr_execYield (v0 s) : (after s (execYield v0 s)).mtr = s.mtr := by
  simp only [execYield] <;>
    repeat' first | simp only [after_next, ↓mk_mtr, ↓mtr_yieldIn] | with_reducible refine (mtr_foldl _ (fun s x => ?_) _ _).trans ?_ | split | rfl

theorem mtr_extPeriod (s) : (extPeriod s).mtr = s.mtr := by
  simp only [extPeriod] <;>
    repeat' first | simp only [↓mk_mtr, ↓mtr_extLose] | with_reducible refine (mtr_foldl _ (fun s x => ?_) _ _).trans ?_ | split | rfl

theorem mtr_failOwner (v0 v1 v2 s) : (failOwner v0 v1 v2 s).mtr = s.mtr := by
  simp only [failOwner]
  repeat' first | rfl | simp only [mtr_withdrawPermit, mtr_record] | exact mtr_tryHandover _ _ _ _ ‹_› | split

theorem mtr_judgePairs (s) : (judgePairs s).mtr = s.mtr := by
  simp only [judgePairs] <;>
    repeat' first | simp only [↓mk_mtr, ↓mtr_record] | with_reducible refine (mtr_foldl _ (fun s x => ?_) _ _).trans ?_ | split | rfl

theorem mtr_judge (s) : (judge s).mtr = s.mtr := by
  simp only [judge] <;>
    repeat' first | simp only [↓mk_mtr, ↓mtr_judgePairs, ↓mtr_failOwner] | with_reducible refine (mtr_foldl _ (fun s x => ?_) _ _).trans ?_ | split | rfl

theorem mtr_sendHealth (v0 s) : (sendHealth v0 s).mtr = s.mtr := by
  simp only [sendHealth] <;>
    repeat' first | simp only [↓mk_mtr, ↓mtr_sendCasc, ↓mtr_keepHealth, ↓mtr_sendArb, ↓mtr_emit] | with_reducible refine (mtr_foldl _ (fun s x => ?_) _ _).trans ?_ | split | rfl

theorem mtr_sendBlock (s v1) : (sendBlock s v1).mtr = s.mtr := by
  simp only [sendBlock] <;>
    repeat' first | simp only [↓mk_mtr, ↓mtr_bumpCount, ↓mtr_emit] | with_reducible refine (mtr_foldl _ (fun s x => ?_) _ _).trans ?_ | split | rfl

theorem mtr_flushBlocks (s) : (flushBlocks s).mtr = s.mtr := by
  simp only [flushBlocks] <;>
    repeat' first | simp only [↓mk_mtr, ↓mtr_sendBlock] | with_reducible refine (mtr_foldl _ (fun s x => ?_) _ _).trans ?_ | split | rfl

theorem mtr_openBlock (s) : (openBlock s).mtr = s.mtr := by
  simp only [openBlock] <;>
    repeat' first | simp only [↓mk_mtr] | with_reducible refine (mtr_foldl _ (fun s x => ?_) _ _).trans ?_ | split | rfl

theorem mtr_endStage (v0 s) : (endStage v0 s).mtr = s.mtr := by
  simp only [endStage] <;>
    repeat' first | simp only [↓mk_mtr] | with_reducible refine (mtr_foldl _ (fun s x => ?_) _ _).trans ?_ | split | rfl

theorem mtr_endSix (v0 s) : (endSix v0 s).mtr = s.mtr := by
  simp only [endSix] <;>
    repeat' first | simp only [↓mk_mtr, ↓mtr_keepStream, ↓mtr_endStage, ↓mtr_stage6] | with_reducible refine (mtr_foldl _ (fun s x => ?_) _ _).trans ?_ | split | rfl

theorem mtr_allocate (v0 s) : (allocate v0 s).mtr = s.mtr := by
  simp only [allocate] <;>
    repeat' first | simp only [↓mk_mtr, ↓mtr_countTo, ↓mtr_endSix, ↓mtr_record] | with_reducible refine (mtr_foldl _ (fun s x => ?_) _ _).trans ?_ | split | rfl

theorem mtr_beat (v0 s) : (beat v0 s).mtr = s.mtr := by
  simp only [beat] <;>
    repeat' first | simp only [↓mk_mtr] | with_reducible refine (mtr_foldl _ (fun s x => ?_) _ _).trans ?_ | split | rfl

theorem mtr_takeControl (v0 v1 s) : (takeControl v0 v1 s).mtr = s.mtr := by
  simp only [takeControl] <;>
    repeat' first | simp only [↓mk_mtr, ↓mtr_outPut, ↓mtr_record, ↓mtr_fixAvail] | with_reducible refine (mtr_foldl _ (fun s x => ?_) _ _).trans ?_ | split | rfl

theorem mtr_control (s) : (control s).mtr = s.mtr := by
  simp only [control] <;>
    repeat' first | simp only [↓mk_mtr, ↓mtr_bumpCount, ↓mtr_takeControl] | with_reducible refine (mtr_foldl _ (fun s x => ?_) _ _).trans ?_ | split | rfl

theorem mtr_dropChain (v0 s) : (dropChain v0 s).mtr = s.mtr := by
  simp only [dropChain] <;>
    repeat' first | simp only [↓mk_mtr, ↓mtr_bumpCount] | with_reducible refine (mtr_foldl _ (fun s x => ?_) _ _).trans ?_ | split | rfl

theorem mtr_execAllocation (v0 s) : (after s (execAllocation v0 s)).mtr = s.mtr := by
  unfold execAllocation
  split
  · rfl
  · refine mtr_onDomains _ _ _ _ fun t => ?_
    split
    · exact mtr_allocate _ _
    · exact mtr_endSix _ _

theorem mtr_execControl (s) : (after s (execControl s)).mtr = s.mtr := by
  simp only [execControl, after_next]
  split
  · exact mtr_onWork _ _ _ _ _ mtr_control
  · rfl

theorem mtr_finalReads (s) : (finalReads s).mtr = s.mtr := by
  simp only [finalReads] <;>
    repeat' first | simp only [↓mk_mtr, ↓mtr_endCmd] | with_reducible refine (mtr_foldl _ (fun s x => ?_) _ _).trans ?_ | split | rfl

theorem mtr_lastJobs (s) : (lastJobs s).mtr = s.mtr := by
  simp only [lastJobs] <;>
    repeat' first | simp only [↓mk_mtr, ↓mtr_stopDomains] | with_reducible refine (mtr_foldl _ (fun s x => ?_) _ _).trans ?_ | split | rfl

theorem mtr_stage9 (s) : (stage9 s).mtr = s.mtr := by
  simp only [stage9] <;>
    repeat' first | simp only [↓mk_mtr, ↓mtr_beat, ↓mtr_sendHealth, ↓mtr_finalReads, ↓mtr_baStart, ↓mtr_openBlock, ↓mtr_lastJobs] | with_reducible refine (mtr_foldl _ (fun s x => ?_) _ _).trans ?_ | split | rfl

theorem mtr_execHealth (s) : (after s (execHealth s)).mtr = s.mtr := by
  simp only [execHealth] <;>
    repeat' first | simp only [after_next, ↓mk_mtr, ↓mtr_stage9] | with_reducible refine (mtr_foldl _ (fun s x => ?_) _ _).trans ?_ | split | rfl

theorem mtr_observerStage (s) : (observerStage s).mtr = s.mtr := by
  simp only [observerStage] <;>
    repeat' first | simp only [↓mk_mtr, ↓mtr_stopDomains, ↓mtr_endStage, ↓mtr_frameEstimates, ↓mtr_stage4] | with_reducible refine (mtr_foldl _ (fun s x => ?_) _ _).trans ?_ | split | rfl

theorem mtr_execObserverUpdate (s) : (after s (execObserverUpdate s)).mtr = s.mtr := by
  simp only [execObserverUpdate, after_next]
  split
  · exact mtr_onWork _ _ _ _ _ mtr_observerStage
  · rfl

theorem mtr_startChain (s) : (startChain s).mtr = s.mtr := by
  simp only [startChain] <;>
    repeat' first | simp only [↓mk_mtr, ↓mtr_bumpCount] | with_reducible refine (mtr_foldl _ (fun s x => ?_) _ _).trans ?_ | split | rfl

theorem mtr_execParisonChain (s) : (after s (execParisonChain s)).mtr = s.mtr := by
  simp only [execParisonChain, after_next]
  split
  · exact mtr_onWork _ _ _ _ _ mtr_startChain
  · rfl

theorem mtr_execParisonChainComplete (s) : (after s (execParisonChainComplete s)).mtr = s.mtr := by
  simp only [execParisonChainComplete] <;>
    repeat' first | simp only [after_next, ↓mk_mtr, ↓mtr_stopDomains] | with_reducible refine (mtr_foldl _ (fun s x => ?_) _ _).trans ?_ | split | rfl

theorem mtr_voteStage (s) : (voteStage s).mtr = s.mtr := by
  simp only [voteStage] <;>
    repeat' first | simp only [↓mk_mtr, ↓mtr_stopDomains, ↓mtr_endStage, ↓mtr_stage3] | with_reducible refine (mtr_foldl _ (fun s x => ?_) _ _).trans ?_ | split | rfl

theorem mtr_execProjectionAssociationVote (s) : (after s (execProjectionAssociationVote s)).mtr = s.mtr := by
  simp only [execProjectionAssociationVote, after_next]
  split
  · exact mtr_onWork _ _ _ _ _ mtr_voteStage
  · rfl

theorem mtr_pruneHeads (v0 s) : (pruneHeads v0 s).mtr = s.mtr := by
  simp only [pruneHeads] <;>
    repeat' first | simp only [↓mk_mtr] | with_reducible refine (mtr_foldl _ (fun s x => ?_) _ _).trans ?_ | split | rfl

theorem mtr_ownStructs (s) : (ownStructs s).mtr = s.mtr := by
  simp only [ownStructs] <;>
    repeat' first | simp only [↓mk_mtr] | with_reducible refine (mtr_foldl _ (fun s x => ?_) _ _).trans ?_ | split | rfl

theorem mtr_lockIn (v0 v1 s) : (lockIn v0 v1 s).mtr = s.mtr := by
  simp only [lockIn] <;>
    repeat' first | simp only [↓mk_mtr, ↓mtr_canRejoin, ↓mtr_obsLock, ↓mtr_fusionLock, ↓mtr_dropUnnamed, ↓mtr_pruneStamps, ↓mtr_thresholdsOff, ↓mtr_ownStructs] | with_reducible refine (mtr_foldl _ (fun s x => ?_) _ _).trans ?_ | split | rfl

theorem mtr_takeEffect (s v1) : (takeEffect s v1).mtr = s.mtr := by
  simp only [takeEffect] <;>
    repeat' first | simp only [↓mk_mtr, ↓mtr_lockIn, ↓mtr_dropUnnamed, ↓mtr_thresholdsOff, ↓mtr_availIn, ↓mtr_selectSource] | with_reducible refine (mtr_foldl _ (fun s x => ?_) _ _).trans ?_ | split | rfl

theorem mtr_takeCounted (s v1) : (takeCounted s v1).mtr = s.mtr := by
  simp only [takeCounted] <;>
    repeat' first | simp only [↓mk_mtr, ↓mtr_takeEffect] | with_reducible refine (mtr_foldl _ (fun s x => ?_) _ _).trans ?_ | split | rfl

theorem mtr_takeStream (v0 s) : (takeStream v0 s).mtr = s.mtr := by
  simp only [takeStream] <;>
    repeat' first | simp only [↓mk_mtr, ↓mtr_useStream, ↓mtr_takeCounted] | with_reducible refine (mtr_foldl _ (fun s x => ?_) _ _).trans ?_ | split | rfl

theorem mtr_takeDue (v0 v1 s) : (takeDue v0 v1 s).mtr = s.mtr := by
  simp only [takeDue] <;>
    repeat' first | simp only [↓mk_mtr, ↓mtr_takeStream, ↓mtr_takeCounted] | with_reducible refine (mtr_foldl _ (fun s x => ?_) _ _).trans ?_ | split | rfl

theorem mtr_startPeriod (v0 v1 v2 v3 v4 s) : (startPeriod v0 v1 v2 v3 v4 s).mtr = s.mtr := by
  simp only [startPeriod] <;>
    repeat' first | simp only [↓mk_mtr, ↓mtr_pruneHeads, ↓mtr_takeDue, ↓mtr_judgeThrusters, ↓mtr_snapInput, ↓mtr_keepMarks] | with_reducible refine (mtr_foldl _ (fun s x => ?_) _ _).trans ?_ | split | rfl

theorem mtr_execSnapshot (s) : (after s (execSnapshot s)).mtr = s.mtr := by
  simp only [execSnapshot] <;>
    repeat' first | simp only [after_next, ↓mk_mtr, ↓mtr_startPeriod, ↓mtr_countTo, ↓mtr_stallFirst] | with_reducible refine (mtr_foldl _ (fun s x => ?_) _ _).trans ?_ | split | rfl

theorem mtr_execSolverDeadline (v0 v1 s) : (after s (execSolverDeadline v0 v1 s)).mtr = s.mtr := by
  simp only [execSolverDeadline] <;>
    repeat' first | simp only [after_next, ↓mk_mtr, ↓mtr_endSix, ↓mtr_countTo, ↓mtr_hostDeadline] | with_reducible refine (mtr_foldl _ (fun s x => ?_) _ _).trans ?_ | split | rfl

theorem mtr_openPeriod (v0 v1 v2 s) : (openPeriod v0 v1 v2 s).mtr = s.mtr := by
  simp only [openPeriod] <;>
    repeat' first | simp only [↓mk_mtr, ↓mtr_dropChain, ↓mtr_extPeriod, ↓mtr_judge, ↓mtr_canRecoverStart, ↓mtr_busBoundary, ↓mtr_acqBoundary, ↓mtr_clearDue, ↓mtr_flushBlocks, ↓mtr_keepMarks, ↓mtr_tpWork, ↓mtr_pruneSignals] | with_reducible refine (mtr_foldl _ (fun s x => ?_) _ _).trans ?_ | split | rfl

theorem mtr_ownEffects (v0 s) : (ownEffects v0 s).mtr = s.mtr := by
  simp only [ownEffects] <;>
    repeat' first | simp only [↓mk_mtr, ↓mtr_takeEffect] | with_reducible refine (mtr_foldl _ (fun s x => ?_) _ _).trans ?_ | split | rfl

theorem mtr_execVesselPeriodBoundary (s) : (after s (execVesselPeriodBoundary s)).mtr = s.mtr := by
  simp only [execVesselPeriodBoundary] <;>
    repeat' first | simp only [after_next, ↓mk_mtr, ↓mtr_openPeriod, ↓mtr_countTo, ↓mtr_ownEffects] | with_reducible refine (mtr_foldl _ (fun s x => ?_) _ _).trans ?_ | split | rfl

theorem mtr_sendExtCmd (s) : (sendExtCmd s).mtr = s.mtr := by
  simp only [sendExtCmd] <;>
    repeat' first | simp only [↓mk_mtr, ↓mtr_sendCasc] | with_reducible refine (mtr_foldl _ (fun s x => ?_) _ _).trans ?_ | split | rfl

theorem mtr_giveCommands (s) : (giveCommands s).mtr = s.mtr := by
  simp only [giveCommands] <;>
    repeat' first | simp only [↓mk_mtr, ↓mtr_sendExtCmd] | with_reducible refine (mtr_foldl _ (fun s x => ?_) _ _).trans ?_ | split | rfl

theorem mtr_judgeLate (s) : (judgeLate s).mtr = s.mtr := by
  simp only [judgeLate] <;>
    repeat' first | simp only [↓mk_mtr, ↓mtr_bumpCount, ↓mtr_record] | with_reducible refine (mtr_foldl _ (fun s x => ?_) _ _).trans ?_ | split | rfl

theorem mtr_loseSchedule (v0 s) : (loseSchedule v0 s).mtr = s.mtr := by
  simp only [loseSchedule] <;>
    repeat' first | simp only [↓mk_mtr, ↓mtr_record, ↓mtr_bumpCount] | with_reducible refine (mtr_foldl _ (fun s x => ?_) _ _).trans ?_ | split | rfl

theorem mtr_planNext (s) : (planNext s).mtr = s.mtr := by
  simp only [planNext] <;>
    repeat' first | simp only [↓mk_mtr, ↓mtr_loseSchedule] | with_reducible refine (mtr_foldl _ (fun s x => ?_) _ _).trans ?_ | split | rfl

theorem mtr_channelFault (v0 s) : (channelFault v0 s).mtr = s.mtr := by
  simp only [channelFault] <;>
    repeat' first | simp only [↓mk_mtr, ↓mtr_modBrake, ↓mtr_latchTrip] | with_reducible refine (mtr_foldl _ (fun s x => ?_) _ _).trans ?_ | split | rfl

theorem mtr_drainMonitor (s) : (drainMonitor s).mtr = s.mtr := by
  simp only [drainMonitor] <;>
    repeat' first | simp only [↓mk_mtr, ↓mtr_record] | with_reducible refine (mtr_foldl _ (fun s x => ?_) _ _).trans ?_ | split | rfl

theorem mtr_execBrakeTest (v0 v1 v2 s) : (after s (execBrakeTest v0 v1 v2 s)).mtr = s.mtr :=
  mtr_packetIn _ _ _ _ _ (mtr_opBrakeTest _)

theorem mtr_execBrakeTestDue (v0 s) : (after s (execBrakeTestDue v0 s)).mtr = s.mtr := by
  simp only [execBrakeTestDue] <;>
    repeat' first | simp only [after_next, ↓mk_mtr, ↓mtr_safEvent, ↓mtr_modBrake] | with_reducible refine (mtr_foldl _ (fun s x => ?_) _ _).trans ?_ | split | rfl

theorem mtr_internalFault (v0 s) : (internalFault v0 s).mtr = s.mtr := by
  simp only [internalFault] <;>
    repeat' first | simp only [↓mk_mtr, ↓mtr_latchTrip] | with_reducible refine (mtr_foldl _ (fun s x => ?_) _ _).trans ?_ | split | rfl

theorem mtr_execClockWindow (v0 s) : (after s (execClockWindow v0 s)).mtr = s.mtr := by
  simp only [execClockWindow] <;>
    repeat' first | simp only [after_next, ↓mk_mtr, ↓mtr_internalFault] | with_reducible refine (mtr_foldl _ (fun s x => ?_) _ _).trans ?_ | split | rfl

theorem mtr_execClockWindowTimeout (s) : (after s (execClockWindowTimeout s)).mtr = s.mtr := by
  simp only [execClockWindowTimeout] <;>
    repeat' first | simp only [after_next, ↓mk_mtr, ↓mtr_internalFault, ↓mtr_elapseTo] | with_reducible refine (mtr_foldl _ (fun s x => ?_) _ _).trans ?_ | split | rfl

theorem mtr_modDisc (v0 v1 s) : (modDisc v0 v1 s).mtr = s.mtr := by
  simp only [modDisc] <;>
    repeat' first | simp only [↓mk_mtr] | with_reducible refine (mtr_foldl _ (fun s x => ?_) _ _).trans ?_ | split | rfl

theorem mtr_execDiscrepancy (v0 s) : (after s (execDiscrepancy v0 s)).mtr = s.mtr := by
  simp only [execDiscrepancy] <;>
    repeat' first | simp only [after_next, ↓mk_mtr, ↓mtr_judgeSources, ↓mtr_modDisc] | with_reducible refine (mtr_foldl _ (fun s x => ?_) _ _).trans ?_ | split | rfl

theorem mtr_execHeartbeatAbsent (s) : (after s (execHeartbeatAbsent s)).mtr = s.mtr := by
  simp only [execHeartbeatAbsent] <;>
    repeat' first | simp only [after_next, ↓mk_mtr, ↓mtr_elapseTo, ↓mtr_latchTrip] | with_reducible refine (mtr_foldl _ (fun s x => ?_) _ _).trans ?_ | split | rfl

theorem mtr_execMonitorDiagnostic (v0 v1 s) : (after s (execMonitorDiagnostic v0 v1 s)).mtr = s.mtr := by
  simp only [execMonitorDiagnostic] <;>
    repeat' first | simp only [after_next, ↓mk_mtr, ↓mtr_internalFault] | with_reducible refine (mtr_foldl _ (fun s x => ?_) _ _).trans ?_ | split | rfl

theorem mtr_execMonitorStartUp (v0 v1 s) : (after s (execMonitorStartUp v0 v1 s)).mtr = s.mtr := by
  simp only [execMonitorStartUp] <;>
    repeat' first | simp only [after_next, ↓mk_mtr, ↓mtr_railsUp] | with_reducible refine (mtr_foldl _ (fun s x => ?_) _ _).trans ?_ | split | rfl

theorem mtr_execRampEnd (v0 s) : (after s (execRampEnd v0 s)).mtr = s.mtr := by
  simp only [execRampEnd] <;>
    repeat' first | simp only [after_next, ↓mk_mtr, ↓mtr_modBrake, ↓mtr_elapseTo] | with_reducible refine (mtr_foldl _ (fun s x => ?_) _ _).trans ?_ | split | rfl

theorem mtr_execReadbackDeviation (v0 s) : (after s (execReadbackDeviation v0 s)).mtr = s.mtr := by
  simp only [execReadbackDeviation] <;>
    repeat' first | simp only [after_next, ↓mk_mtr, ↓mtr_channelFault] | with_reducible refine (mtr_foldl _ (fun s x => ?_) _ _).trans ?_ | split | rfl

theorem mtr_execReleaseRequestFallExpiry (v0 s) : (after s (execReleaseRequestFallExpiry v0 s)).mtr = s.mtr := by
  simp only [execReleaseRequestFallExpiry] <;>
    repeat' first | simp only [after_next, ↓mk_mtr, ↓mtr_modBrake, ↓mtr_elapseTo] | with_reducible refine (mtr_foldl _ (fun s x => ?_) _ _).trans ?_ | split | rfl

theorem mtr_settlePair (v0 s) : (settlePair v0 s).mtr = s.mtr := by
  simp only [settlePair] <;>
    repeat' first | simp only [↓mk_mtr, ↓mtr_modDisc] | with_reducible refine (mtr_foldl _ (fun s x => ?_) _ _).trans ?_ | split | rfl

theorem mtr_modIn (v0 v1 s) : (modIn v0 v1 s).mtr = s.mtr := by
  simp only [modIn] <;>
    repeat' first | simp only [↓mk_mtr] | with_reducible refine (mtr_foldl _ (fun s x => ?_) _ _).trans ?_ | split | rfl

theorem mtr_execSafeInputFiltered (v0 v1 s) : (after s (execSafeInputFiltered v0 v1 s)).mtr = s.mtr := by
  simp only [execSafeInputFiltered] <;>
    repeat' first | simp only [after_next, ↓mk_mtr, ↓mtr_judgeSources, ↓mtr_settlePair, ↓mtr_modIn] | with_reducible refine (mtr_foldl _ (fun s x => ?_) _ _).trans ?_ | split | rfl

theorem mtr_execSafetyCheckConfirm (v0 v1 s) : (after s (execSafetyCheckConfirm v0 v1 s)).mtr = s.mtr :=
  mtr_packetIn _ _ _ _ _ mtr_opSafetyCheckConfirm

theorem mtr_execSafetyCheckRead (v0 v1 s) : (after s (execSafetyCheckRead v0 v1 s)).mtr = s.mtr :=
  mtr_packetIn _ _ _ _ _ mtr_opSafetyCheckRead

theorem mtr_execSafetyParamWrite (v0 v1 s) : (after s (execSafetyParamWrite v0 v1 s)).mtr = s.mtr :=
  mtr_packetIn _ _ _ _ _ mtr_opSafetyParamWrite

theorem mtr_execSafetyStatus (v0 v1 s) : (after s (execSafetyStatus v0 v1 s)).mtr = s.mtr :=
  mtr_packetIn _ _ _ _ _ mtr_opSafetyStatus

theorem mtr_execSwitchTest (v0 v1 s) : (after s (execSwitchTest v0 v1 s)).mtr = s.mtr := by
  simp only [execSwitchTest] <;>
    repeat' first | simp only [after_next, ↓mk_mtr, ↓mtr_channelFault] | with_reducible refine (mtr_foldl _ (fun s x => ?_) _ _).trans ?_ | split | rfl

theorem mtr_execTestPulse (v0 v1 v2 s) : (after s (execTestPulse v0 v1 v2 s)).mtr = s.mtr := by
  simp only [execTestPulse] <;>
    repeat' first | simp only [after_next, ↓mk_mtr, ↓mtr_judgeSources] | with_reducible refine (mtr_foldl _ (fun s x => ?_) _ _).trans ?_ | split | rfl

theorem mtr_execTripReset (v0 v1 s) : (after s (execTripReset v0 v1 s)).mtr = s.mtr :=
  mtr_packetIn _ _ _ _ _ mtr_opTripReset

theorem mtr_monitorReset (v0 s) : (monitorReset v0 s).mtr = s.mtr := by
  simp only [monitorReset] <;>
    repeat' first | simp only [↓mk_mtr] | with_reducible refine (mtr_foldl _ (fun s x => ?_) _ _).trans ?_ | split | rfl

theorem mtr_ageInputs (v0 s) : (ageInputs v0 s).mtr = s.mtr := by
  simp only [ageInputs] <;>
    repeat' first | simp only [↓mk_mtr] | with_reducible refine (mtr_foldl _ (fun s x => ?_) _ _).trans ?_ | split | rfl

theorem mtr_takeFeedbacks (v0 s) : (takeFeedbacks v0 s).mtr = s.mtr := by
  simp only [takeFeedbacks] <;>
    repeat' first | simp only [↓mk_mtr, ↓mtr_modDrive] | with_reducible refine (mtr_foldl _ (fun s x => ?_) _ _).trans ?_ | split | rfl

theorem mtr_replayClock (v0 v1 s) : (replayClock v0 v1 s).mtr = s.mtr := by
  simp only [replayClock] <;>
    repeat' first | simp only [↓mk_mtr] | with_reducible refine (mtr_foldl _ (fun s x => ?_) _ _).trans ?_ | split | rfl

theorem mtr_replayStages (s) : (replayStages s).mtr = s.mtr := by
  simp only [replayStages] <;>
    repeat' first | simp only [↓mk_mtr, ↓mtr_keepSignals, ↓mtr_stage7, ↓mtr_endSix, ↓mtr_control, ↓mtr_stage4, ↓mtr_stage3] | with_reducible refine (mtr_foldl _ (fun s x => ?_) _ _).trans ?_ | split | rfl

theorem mtr_takeOptical (v0 s) : (takeOptical v0 s).mtr = s.mtr := by
  simp only [takeOptical] <;>
    repeat' first | simp only [↓mk_mtr] | with_reducible refine (mtr_foldl _ (fun s x => ?_) _ _).trans ?_ | split | rfl

theorem mtr_takeChan (v0 s) : (takeChan v0 s).mtr = s.mtr := by
  simp only [takeChan] <;>
    repeat' first | simp only [↓mk_mtr] | with_reducible refine (mtr_foldl _ (fun s x => ?_) _ _).trans ?_ | split | rfl

theorem mtr_takeEpoch (v0 s) : (takeEpoch v0 s).mtr = s.mtr := by
  simp only [takeEpoch] <;>
    repeat' first | simp only [↓mk_mtr, ↓mtr_takeChan] | with_reducible refine (mtr_foldl _ (fun s x => ?_) _ _).trans ?_ | split | rfl

theorem mtr_takeRtcm (v0 s) : (takeRtcm v0 s).mtr = s.mtr := by
  simp only [takeRtcm] <;>
    repeat' first | simp only [↓mk_mtr, ↓mtr_takeFrames] | with_reducible refine (mtr_foldl _ (fun s x => ?_) _ _).trans ?_ | split | rfl

theorem mtr_takeInput (v0 v1 s) : (takeInput v0 v1 s).mtr = s.mtr := by
  simp only [takeInput] <;>
    repeat' first | simp only [↓mk_mtr, ↓mtr_publishAs] | with_reducible refine (mtr_foldl _ (fun s x => ?_) _ _).trans ?_ | split | rfl

theorem mtr_replaySnapshot (v0 v1 v2 s) : (replaySnapshot v0 v1 v2 s).mtr = s.mtr := by
  simp only [replaySnapshot] <;>
    repeat' first | simp only [↓mk_mtr, ↓mtr_takeOptical, ↓mtr_pruneHeads, ↓mtr_takeCounted, ↓mtr_takeEpoch, ↓mtr_takeRtcm, ↓mtr_takeInput, ↓mtr_ageInputs, ↓mtr_judgeThrusters] | with_reducible refine (mtr_foldl _ (fun s x => ?_) _ _).trans ?_ | split | rfl

theorem mtr_replayTps (v0 s) : (replayTps v0 s).mtr = s.mtr := by
  simp only [replayTps] <;>
    repeat' first | simp only [↓mk_mtr, ↓mtr_tpRun] | with_reducible refine (mtr_foldl _ (fun s x => ?_) _ _).trans ?_ | split | rfl

theorem mtr_runBlock (v0 v1 v2 s) : (runBlock v0 v1 v2 s).mtr = s.mtr := by
  simp only [runBlock] <;>
    repeat' first | simp only [↓mk_mtr, ↓mtr_clearFaults, ↓mtr_takeFeedbacks, ↓mtr_replayClock, ↓mtr_replayStages, ↓mtr_replaySnapshot, ↓mtr_keepMarks, ↓mtr_tpRun, ↓mtr_replayTps, ↓mtr_stage9, ↓mtr_stage8, ↓mtr_bumpCount, ↓mtr_record] | with_reducible refine (mtr_foldl _ (fun s x => ?_) _ _).trans ?_ | split | rfl

theorem mtr_blockDone (v0 v1 v2 s) : (blockDone v0 v1 v2 s).mtr = s.mtr := by
  simp only [blockDone] <;>
    repeat' first | simp only [↓mk_mtr, ↓mtr_record, ↓mtr_runBlock] | with_reducible refine (mtr_foldl _ (fun s x => ?_) _ _).trans ?_ | split | rfl

theorem mtr_newBlock (v0 v1 s) : (newBlock v0 v1 s).mtr = s.mtr := by
  simp only [newBlock] <;>
    repeat' first | simp only [↓mk_mtr, ↓mtr_record] | with_reducible refine (mtr_foldl _ (fun s x => ?_) _ _).trans ?_ | split | rfl

theorem mtr_blockPart (v0 s) : (blockPart v0 s).mtr = s.mtr := by
  simp only [blockPart] <;>
    repeat' first | simp only [↓mk_mtr, ↓mtr_newBlock, ↓mtr_blockDone] | with_reducible refine (mtr_foldl _ (fun s x => ?_) _ _).trans ?_ | split | rfl

theorem mtr_execLogBlockRx (v0 v1 s) : (after s (execLogBlockRx v0 v1 s)).mtr = s.mtr := by
  simp only [execLogBlockRx] <;>
    repeat' first | simp only [after_next, ↓mk_mtr, ↓mtr_blockPart] | with_reducible refine (mtr_foldl _ (fun s x => ?_) _ _).trans ?_ | split | rfl

theorem mtr_execMtrIdentRead (v0 v1 s) : (after s (execMtrIdentRead v0 v1 s)).mtr = s.mtr :=
  mtr_packetIn _ _ _ _ _ mtr_opMtrIdentRead

theorem mtr_svcReply (v0 v1 v2 s) : (svcReply v0 v1 v2 s).mtr = s.mtr := by
  simp only [svcReply] <;>
    repeat' first | simp only [↓mk_mtr, ↓mtr_emit] | with_reducible refine (mtr_foldl _ (fun s x => ?_) _ _).trans ?_ | split | rfl

theorem mtr_svcIn (v0 v1 v2 v3 v4 s) (h : ∀ s, (v4 s).mtr = s.mtr) : (after s (svcIn v0 v1 v2 v3 v4 s)).mtr = s.mtr := by
  simp only [svcIn, after_next]
  repeat' first | exact h _ | simp only [after_next, ↓mtr_svcReply] | split | rfl

theorem mtr_execReadIdent (v0 v1 s) : (after s (execReadIdent v0 v1 s)).mtr = s.mtr := by
  refine mtr_svcIn _ _ _ _ _ _ (fun s => ?_)
  repeat' first | rfl | simp only [↓mtr_svcReply, ↓mtr_mtrApply, ↓mtr_mtrActivate] | split | simp only

theorem mtr_execReadLog (v0 v1 s) : (after s (execReadLog v0 v1 s)).mtr = s.mtr := by
  refine mtr_svcIn _ _ _ _ _ _ (fun s => ?_)
  repeat' first | rfl | simp only [↓mtr_svcReply, ↓mtr_mtrApply, ↓mtr_mtrActivate] | split | simp only

theorem mtr_execReadMailbox (v0 v1 s) : (after s (execReadMailbox v0 v1 s)).mtr = s.mtr := by
  refine mtr_svcIn _ _ _ _ _ _ (fun s => ?_)
  repeat' first | rfl | simp only [↓mtr_svcReply, ↓mtr_mtrApply, ↓mtr_mtrActivate] | split | simp only

theorem mtr_execReadParam (v0 v1 s) : (after s (execReadParam v0 v1 s)).mtr = s.mtr := by
  refine mtr_svcIn _ _ _ _ _ _ (fun s => ?_)
  repeat' first | rfl | simp only [↓mtr_svcReply, ↓mtr_mtrApply, ↓mtr_mtrActivate] | split | simp only

theorem mtr_controlLost (s) : (controlLost s).mtr = s.mtr := by
  simp only [controlLost] <;>
    repeat' first | simp only [↓mk_mtr, ↓mtr_record] | with_reducible refine (mtr_foldl _ (fun s x => ?_) _ _).trans ?_ | split | rfl

theorem mtr_corruptEntry (s v1) : (corruptEntry s v1).mtr = s.mtr := by
  simp only [corruptEntry] <;>
    repeat' first | simp only [↓mk_mtr, ↓mtr_record, ↓mtr_modEntry] | with_reducible refine (mtr_foldl _ (fun s x => ?_) _ _).trans ?_ | split | rfl

theorem mtr_corruptRecord (s v1) : (corruptRecord s v1).mtr = s.mtr := by
  simp only [corruptRecord] <;>
    repeat' first | simp only [↓mk_mtr] | with_reducible refine (mtr_foldl _ (fun s x => ?_) _ _).trans ?_ | split | rfl

theorem mtr_corruptTable (s v1) : (corruptTable s v1).mtr = s.mtr := by
  simp only [corruptTable] <;>
    repeat' first | simp only [↓mk_mtr, ↓mtr_record] | with_reducible refine (mtr_foldl _ (fun s x => ?_) _ _).trans ?_ | split | rfl

theorem mtr_startPower (s) : (startPower s).mtr = s.mtr := by
  simp only [startPower] <;>
    repeat' first | simp only [↓mk_mtr] | with_reducible refine (mtr_foldl _ (fun s x => ?_) _ _).trans ?_ | split | rfl

theorem mtr_restoreEntries (v0 v1 v2 s) : (restoreEntries v0 v1 v2 s).mtr = s.mtr := by
  induction v1 generalizing v2 s with
  | nil => rfl
  | cons e es ih =>
    simp only [restoreEntries, ih]
    repeat' first | rfl | simp only [mtr_applyEntry] | split

theorem mtr_restoreRetention (s) : (restoreRetention s).mtr = s.mtr := by
  simp only [restoreRetention] <;>
    repeat' first | simp only [↓mk_mtr, ↓mtr_restoreEntries] | with_reducible refine (mtr_foldl _ (fun s x => ?_) _ _).trans ?_ | split | rfl

theorem mtr_imageLost (s) : (imageLost s).mtr = s.mtr := by
  simp only [imageLost] <;>
    repeat' first | simp only [↓mk_mtr] | with_reducible refine (mtr_foldl _ (fun s x => ?_) _ _).trans ?_ | split | rfl

theorem mtr_startFaults (v0 s) : (startFaults v0 s).mtr = s.mtr := by
  simp only [startFaults] <;>
    repeat' first | simp only [↓mk_mtr, ↓mtr_corruptRecord, ↓mtr_controlLost, ↓mtr_imageLost, ↓mtr_corruptTable, ↓mtr_corruptEntry] | with_reducible refine (mtr_foldl _ (fun s x => ?_) _ _).trans ?_ | split | rfl

theorem mtr_startFirmware (v0 s) : (startFirmware v0 s).mtr = s.mtr := by
  simp only [startFirmware] <;>
    repeat' first | simp only [↓mk_mtr, ↓mtr_startPower, ↓mtr_restoreRetention, ↓mtr_record, ↓mtr_startFaults, ↓mtr_bootReads, ↓mtr_canInit, ↓mtr_serveSlots, ↓mtr_ownStructs, ↓mtr_holdRate, ↓mtr_resolveRole, ↓mtr_drainMonitor, ↓mtr_rnnRestart] | with_reducible refine (mtr_foldl _ (fun s x => ?_) _ _).trans ?_ | split | rfl

theorem mtr_execFirmwareStart (v0 s) : (after s (execFirmwareStart v0 s)).mtr = s.mtr := by
  simp only [execFirmwareStart] <;>
    repeat' first | simp only [after_next, ↓mk_mtr, ↓mtr_startFirmware] | with_reducible refine (mtr_foldl _ (fun s x => ?_) _ _).trans ?_ | split | rfl

theorem mtr_execReset (v0 v1 s) : (after s (execReset v0 v1 s)).mtr = s.mtr :=
  mtr_packetIn _ _ _ _ _ mtr_opReset

theorem mtr_execResetCauseClear (v0 v1 s) : (after s (execResetCauseClear v0 v1 s)).mtr = s.mtr :=
  mtr_packetIn _ _ _ _ _ mtr_opResetCauseClear

theorem mtr_execResetCauseRead (v0 v1 s) : (after s (execResetCauseRead v0 v1 s)).mtr = s.mtr :=
  mtr_packetIn _ _ _ _ _ mtr_opResetCauseRead

theorem mtr_powerSteps (s) : (powerSteps s).mtr = s.mtr := by
  simp only [powerSteps] <;>
    repeat' first | simp only [↓mk_mtr] | with_reducible refine (mtr_foldl _ (fun s x => ?_) _ _).trans ?_ | split | rfl

theorem mtr_resumeCounter (s) : (resumeCounter s).mtr = s.mtr := by
  simp only [resumeCounter] <;>
    repeat' first | simp only [↓mk_mtr, ↓mtr_writeRate, ↓mtr_record] | with_reducible refine (mtr_foldl _ (fun s x => ?_) _ _).trans ?_ | split | rfl

theorem mtr_startCounter (s) : (startCounter s).mtr = s.mtr := by
  simp only [startCounter] <;>
    repeat' first | simp only [↓mk_mtr, ↓mtr_resumeCounter, ↓mtr_record] | with_reducible refine (mtr_foldl _ (fun s x => ?_) _ _).trans ?_ | split | rfl

theorem mtr_systemSteps (v0 s) : (systemSteps v0 s).mtr = s.mtr := by
  simp only [systemSteps] <;>
    repeat' first | simp only [↓mk_mtr, ↓mtr_monitorReset, ↓mtr_gnssStart, ↓mtr_startCounter] | with_reducible refine (mtr_foldl _ (fun s x => ?_) _ _).trans ?_ | split | rfl

theorem mtr_romOptions (v0 s) : (romOptions v0 s).mtr = s.mtr := by
  simp only [romOptions] <;>
    repeat' first | simp only [↓mk_mtr, ↓mtr_record] | with_reducible refine (mtr_foldl _ (fun s x => ?_) _ _).trans ?_ | split | rfl

theorem mtr_storedOptions (s) : (storedOptions s).mtr = s.mtr := by
  simp only [storedOptions] <;>
    repeat' first | simp only [↓mk_mtr] | with_reducible refine (mtr_foldl _ (fun s x => ?_) _ _).trans ?_ | split | rfl

theorem mtr_sequenceStage (v0 v1 v2 s) : (sequenceStage v0 v1 v2 s).mtr = s.mtr := by
  simp only [sequenceStage] <;>
    repeat' first | simp only [↓mk_mtr, ↓mtr_powerSteps, ↓mtr_elapseTo, ↓mtr_systemSteps, ↓mtr_romOptions, ↓mtr_storedOptions] | with_reducible refine (mtr_foldl _ (fun s x => ?_) _ _).trans ?_ | split | rfl

theorem mtr_execResetSequence (v0 v1 v2 s) : (after s (execResetSequence v0 v1 v2 s)).mtr = s.mtr := by
  simp only [execResetSequence] <;>
    repeat' first | simp only [after_next, ↓mk_mtr, ↓mtr_sequenceStage] | with_reducible refine (mtr_foldl _ (fun s x => ?_) _ _).trans ?_ | split | rfl

theorem mtr_freezeJournal (v0 s) : (freezeJournal v0 s).mtr = s.mtr := by
  simp only [freezeJournal] <;>
    repeat' first | simp only [↓mk_mtr] | with_reducible refine (mtr_foldl _ (fun s x => ?_) _ _).trans ?_ | split | rfl

theorem mtr_groupStop (v0 v1 s) : (groupStop v0 v1 s).mtr = s.mtr := by
  simp only [groupStop] <;>
    repeat' first | simp only [↓mk_mtr] | with_reducible refine (mtr_foldl _ (fun s x => ?_) _ _).trans ?_ | split | rfl

theorem mtr_hostStop (v0 s) : (hostStop v0 s).mtr = s.mtr := by
  simp only [hostStop] <;>
    repeat' first | simp only [↓mk_mtr, ↓mtr_freezeJournal] | with_reducible refine (mtr_foldl _ (fun s x => ?_) _ _).trans ?_ | split | rfl

theorem mtr_resetPower (v0 s) : (resetPower v0 s).mtr = s.mtr := by
  simp only [resetPower] <;>
    repeat' first | simp only [↓mk_mtr] | with_reducible refine (mtr_foldl _ (fun s x => ?_) _ _).trans ?_ | split | rfl

theorem mtr_restoreImage (s) : (restoreImage s).mtr = s.mtr := by
  simp only [restoreImage] <;>
    repeat' first | simp only [↓mk_mtr] | with_reducible refine (mtr_foldl _ (fun s x => ?_) _ _).trans ?_ | split | rfl

theorem mtr_settleEffects (s) : (settleEffects s).mtr = s.mtr := by
  simp only [settleEffects] <;>
    repeat' first | simp only [↓mk_mtr, ↓mtr_takeEffect] | with_reducible refine (mtr_foldl _ (fun s x => ?_) _ _).trans ?_ | split | rfl

theorem mtr_systemStop (s) : (systemStop s).mtr = s.mtr := by
  simp only [systemStop] <;>
    repeat' first | simp only [↓mk_mtr, ↓mtr_restoreImage, ↓mtr_monitorReset] | with_reducible refine (mtr_foldl _ (fun s x => ?_) _ _).trans ?_ | split | rfl

theorem mtr_bowStop (s) : (bowStop s).mtr = s.mtr := by
  simp only [bowStop] <;>
    repeat' first | simp only [↓mk_mtr, ↓mtr_latchTrip, ↓mtr_takeStop, ↓mtr_record] | with_reducible refine (mtr_foldl _ (fun s x => ?_) _ _).trans ?_ | split | rfl

theorem mtr_enterSleep (s) : (enterSleep s).mtr = s.mtr := by
  simp only [enterSleep] <;>
    repeat' first | simp only [↓mk_mtr, ↓mtr_acqStop, ↓mtr_applyAll, ↓mtr_dropOwnership, ↓mtr_obsStop, ↓mtr_fusionStop, ↓mtr_settleEffects, ↓mtr_abandonChain] | with_reducible refine (mtr_foldl _ (fun s x => ?_) _ _).trans ?_ | split | rfl

theorem mtr_recovered (v0 v1 s v3) : (recovered v0 v1 s v3).mtr = s.mtr := by
  simp only [recovered] <;>
    repeat' first | simp only [↓mk_mtr, ↓mtr_record] | with_reducible refine (mtr_foldl _ (fun s x => ?_) _ _).trans ?_ | split | rfl

theorem mtr_execBowRecovered (l s) : (after s (execBowRecovered l s)).mtr = s.mtr := by
  have h (d : Nat) (s : State) (i : Nat) : (recovered d l s i).mtr = s.mtr := by
    simp only [recovered]; repeat' first | simp only [↓mtr_record, ↓mk_mtr] | split | rfl
  unfold execBowRecovered
  split
  · rw [after_next, mtr_serveSlots, mk_mtr, mtr_railsUp, mtr_foldl _ (fun s x => h _ _ _)]
    split
    · exact mtr_bowStop s
    · rfl
  · rfl

theorem mtr_execBowStop (s) : (after s (execBowStop s)).mtr = s.mtr := by
  simp only [execBowStop] <;>
    repeat' first | simp only [after_next, ↓mk_mtr, ↓mtr_bowStop, ↓mtr_elapseTo] | with_reducible refine (mtr_foldl _ (fun s x => ?_) _ _).trans ?_ | split | rfl

theorem mtr_raiseBow (s) : (raiseBow s).mtr = s.mtr := by
  simp only [raiseBow] <;>
    repeat' first | simp only [↓mk_mtr, ↓mtr_abortTest, ↓mtr_abandonChain, ↓mtr_record] | with_reducible refine (mtr_foldl _ (fun s x => ?_) _ _).trans ?_ | split | rfl

theorem mtr_execBowWarning (v0 v1 s) : (after s (execBowWarning v0 v1 s)).mtr = s.mtr := by
  simp only [execBowWarning] <;>
    repeat' first | simp only [after_next, ↓mk_mtr, ↓mtr_raiseBow] | with_reducible refine (mtr_foldl _ (fun s x => ?_) _ _).trans ?_ | split | rfl

theorem mtr_isolate (v0 s) : (isolate v0 s).mtr = s.mtr := by
  simp only [isolate] <;>
    repeat' first | simp only [↓mk_mtr, ↓mtr_retireTile, ↓mtr_bandFault, ↓mtr_setLink, ↓mtr_placementStop] | with_reducible refine (mtr_foldl _ (fun s x => ?_) _ _).trans ?_ | split | rfl

theorem mtr_isolateNamed (v0 v1 s) : (isolateNamed v0 v1 s).mtr = s.mtr := by
  simp only [isolateNamed] <;>
    repeat' first | simp only [↓mk_mtr, ↓mtr_retireTile, ↓mtr_isolate] | with_reducible refine (mtr_foldl _ (fun s x => ?_) _ _).trans ?_ | split | rfl

theorem mtr_execClockSkew (v0 v1 s) : (after s (execClockSkew v0 v1 s)).mtr = s.mtr := by
  simp only [execClockSkew] <;>
    repeat' first | simp only [after_next, ↓mk_mtr, ↓mtr_record, ↓mtr_isolateNamed] | with_reducible refine (mtr_foldl _ (fun s x => ?_) _ _).trans ?_ | split | rfl

theorem mtr_execDomainReady (v0 s) : (after s (execDomainReady v0 s)).mtr = s.mtr := by
  simp only [execDomainReady] <;>
    repeat' first | simp only [after_next, ↓mk_mtr, ↓mtr_elapseTo] | with_reducible refine (mtr_foldl _ (fun s x => ?_) _ _).trans ?_ | split | rfl

theorem mtr_execDomainReturn (v0 s) : (after s (execDomainReturn v0 s)).mtr = s.mtr := by
  simp only [execDomainReturn] <;>
    repeat' first | simp only [after_next, ↓mk_mtr] | with_reducible refine (mtr_foldl _ (fun s x => ?_) _ _).trans ?_ | split | rfl

theorem mtr_execDomainWakeRequest (v0 v1 s) : (after s (execDomainWakeRequest v0 v1 s)).mtr = s.mtr := by
  simp only [execDomainWakeRequest] <;>
    repeat' first | simp only [after_next, ↓mk_mtr, ↓mtr_requestWake] | with_reducible refine (mtr_foldl _ (fun s x => ?_) _ _).trans ?_ | split | rfl

theorem mtr_wakeFrom (v0 v1 s) : (wakeFrom v0 v1 s).mtr = s.mtr := by
  simp only [wakeFrom] <;>
    repeat' first | simp only [↓mk_mtr] | with_reducible refine (mtr_foldl _ (fun s x => ?_) _ _).trans ?_ | split | rfl

theorem mtr_ringWake (s) : (ringWake s).mtr = s.mtr := by
  simp only [ringWake] <;>
    repeat' first | simp only [↓mk_mtr, ↓mtr_wakeFrom] | with_reducible refine (mtr_foldl _ (fun s x => ?_) _ _).trans ?_ | split | rfl

theorem mtr_writeByte (v0 v1 s) : (writeByte v0 v1 s).mtr = s.mtr := by
  simp only [writeByte] <;>
    repeat' first | simp only [↓mk_mtr, ↓mtr_ringWake] | with_reducible refine (mtr_foldl _ (fun s x => ?_) _ _).trans ?_ | split | rfl

theorem mtr_writeWindow (v0 v1 s) : (writeWindow v0 v1 s).mtr = s.mtr := by
  induction v1 generalizing v0 s with
  | nil => rfl
  | cons v vs ih => rw [writeWindow, ih, mtr_writeByte]

theorem mtr_execDoorbellIrqEn (v0 s) : (after s (execDoorbellIrqEn v0 s)).mtr = s.mtr := by
  simp only [execDoorbellIrqEn] <;>
    repeat' first | simp only [after_next, ↓mk_mtr, ↓mtr_writeWindow] | with_reducible refine (mtr_foldl _ (fun s x => ?_) _ _).trans ?_ | split | rfl

theorem mtr_execDoorbellWake (s) : (after s (execDoorbellWake s)).mtr = s.mtr := by
  simp only [execDoorbellWake] <;>
    repeat' first | simp only [after_next, ↓mk_mtr, ↓mtr_ringWake] | with_reducible refine (mtr_foldl _ (fun s x => ?_) _ _).trans ?_ | split | rfl

theorem mtr_execHostStatusClear (v0 s) : (after s (execHostStatusClear v0 s)).mtr = s.mtr := by
  simp only [execHostStatusClear] <;>
    repeat' first | simp only [after_next, ↓mk_mtr, ↓mtr_writeWindow] | with_reducible refine (mtr_foldl _ (fun s x => ?_) _ _).trans ?_ | split | rfl

theorem mtr_execIdleEntry (s) : (after s (execIdleEntry s)).mtr = s.mtr := by
  simp only [execIdleEntry] <;>
    repeat' first | simp only [after_next, ↓mk_mtr] | with_reducible refine (mtr_foldl _ (fun s x => ?_) _ _).trans ?_ | split | rfl

theorem mtr_execJunctionHot (v0 s) : (after s (execJunctionHot v0 s)).mtr = s.mtr := by
  simp only [execJunctionHot] <;>
    repeat' first | simp only [after_next, ↓mk_mtr, ↓mtr_record] | with_reducible refine (mtr_foldl _ (fun s x => ?_) _ _).trans ?_ | split | rfl

theorem mtr_execJunctionHotEnd (v0 s) : (after s (execJunctionHotEnd v0 s)).mtr = s.mtr := by
  simp only [execJunctionHotEnd] <;>
    repeat' first | simp only [after_next, ↓mk_mtr] | with_reducible refine (mtr_foldl _ (fun s x => ?_) _ _).trans ?_ | split | rfl

theorem mtr_execPeriodWakeRequest (s) : (after s (execPeriodWakeRequest s)).mtr = s.mtr := by
  simp only [execPeriodWakeRequest] <;>
    repeat' first | simp only [after_next, ↓mk_mtr, ↓mtr_requestWake, ↓mtr_countTo] | with_reducible refine (mtr_foldl _ (fun s x => ?_) _ _).trans ?_ | split | rfl

theorem mtr_execPwrEntryAbandoned (s) : (after s (execPwrEntryAbandoned s)).mtr = s.mtr := by
  simp only [execPwrEntryAbandoned] <;>
    repeat' first | simp only [after_next, ↓mk_mtr, ↓mtr_elapseTo, ↓mtr_record] | with_reducible refine (mtr_foldl _ (fun s x => ?_) _ _).trans ?_ | split | rfl

theorem mtr_execPwrSchedEnter (s) : (after s (execPwrSchedEnter s)).mtr = s.mtr := by
  simp only [execPwrSchedEnter] <;>
    repeat' first | simp only [after_next, ↓mk_mtr, ↓mtr_countTo, ↓mtr_record] | with_reducible refine (mtr_foldl _ (fun s x => ?_) _ _).trans ?_ | split | rfl

theorem mtr_execPwrSchedWake (s) : (after s (execPwrSchedWake s)).mtr = s.mtr := by
  simp only [execPwrSchedWake] <;>
    repeat' first | simp only [after_next, ↓mk_mtr, ↓mtr_wakeFrom, ↓mtr_elapseTo] | with_reducible refine (mtr_foldl _ (fun s x => ?_) _ _).trans ?_ | split | rfl

theorem mtr_execPwrStateSet (v0 v1 s) : (after s (execPwrStateSet v0 v1 s)).mtr = s.mtr :=
  mtr_packetIn _ _ _ _ _ mtr_opPwrStateSet

theorem mtr_execPwrStatus (v0 v1 s) : (after s (execPwrStatus v0 v1 s)).mtr = s.mtr :=
  mtr_packetIn _ _ _ _ _ mtr_opPwrStatus

theorem mtr_execResetCauseWrite (v0 s) : (after s (execResetCauseWrite v0 s)).mtr = s.mtr := by
  simp only [execResetCauseWrite] <;>
    repeat' first | simp only [after_next, ↓mk_mtr, ↓mtr_writeWindow] | with_reducible refine (mtr_foldl _ (fun s x => ?_) _ _).trans ?_ | split | rfl

theorem mtr_execThermalGradient (v0 v1 v2 v3 s) : (after s (execThermalGradient v0 v1 v2 v3 s)).mtr = s.mtr := by
  simp only [execThermalGradient] <;>
    repeat' first | simp only [after_next, ↓mk_mtr, ↓mtr_isolateNamed, ↓mtr_record] | with_reducible refine (mtr_foldl _ (fun s x => ?_) _ _).trans ?_ | split | rfl

theorem mtr_execVddSafeWarning (v0 s) : (after s (execVddSafeWarning v0 s)).mtr = s.mtr := by
  simp only [execVddSafeWarning] <;>
    repeat' first | simp only [after_next, ↓mk_mtr, ↓mtr_monitorReset, ↓mtr_railBelow, ↓mtr_internalFault] | with_reducible refine (mtr_foldl _ (fun s x => ?_) _ _).trans ?_ | split | rfl

theorem mtr_execWakeFrame (v0 v1 s) : (after s (execWakeFrame v0 v1 s)).mtr = s.mtr := by
  simp only [execWakeFrame] <;>
    repeat' first | simp only [after_next, ↓mk_mtr, ↓mtr_wakeFrom] | with_reducible refine (mtr_foldl _ (fun s x => ?_) _ _).trans ?_ | split | rfl

theorem mtr_execWakeGovernorWindow (s) : (after s (execWakeGovernorWindow s)).mtr = s.mtr := by
  simp only [execWakeGovernorWindow] <;>
    repeat' first | simp only [after_next, ↓mk_mtr, ↓mtr_openWindow, ↓mtr_countTo] | with_reducible refine (mtr_foldl _ (fun s x => ?_) _ _).trans ?_ | split | rfl

theorem mtr_execWakePin (s) : (after s (execWakePin s)).mtr = s.mtr := by
  simp only [execWakePin] <;>
    repeat' first | simp only [after_next, ↓mk_mtr, ↓mtr_wakeFrom] | with_reducible refine (mtr_foldl _ (fun s x => ?_) _ _).trans ?_ | split | rfl

theorem mtr_execWindowWriteOther (v0 v1 s) : (after s (execWindowWriteOther v0 v1 s)).mtr = s.mtr := by
  simp only [execWindowWriteOther] <;>
    repeat' first | simp only [after_next, ↓mk_mtr, ↓mtr_writeWindow] | with_reducible refine (mtr_foldl _ (fun s x => ?_) _ _).trans ?_ | split | rfl

theorem mtr_exitDeep (v0 s) : (exitDeep v0 s).mtr = s.mtr := by
  simp only [exitDeep] <;>
    repeat' first | simp only [↓mk_mtr] | with_reducible refine (mtr_foldl _ (fun s x => ?_) _ _).trans ?_ | split | rfl

theorem mtr_exitSleep (s) : (exitSleep s).mtr = s.mtr := by
  simp only [exitSleep] <;>
    repeat' first | simp only [↓mk_mtr, ↓mtr_gnssStart, ↓mtr_record, ↓mtr_resolveRole, ↓mtr_rnnRestart, ↓mtr_ownStructs, ↓mtr_bootReads, ↓mtr_canWake] | with_reducible refine (mtr_foldl _ (fun s x => ?_) _ _).trans ?_ | split | rfl

theorem mtr_railLost (v0 s) : (railLost v0 s).mtr = s.mtr := by
  simp only [railLost] <;>
    repeat' first | simp only [↓mk_mtr] | with_reducible refine (mtr_foldl _ (fun s x => ?_) _ _).trans ?_ | split | rfl

theorem mtr_aheadView (s) : (aheadView s).mtr = s.mtr := by
  simp only [aheadView] <;>
    repeat' first | simp only [↓mk_mtr] | with_reducible refine (mtr_foldl _ (fun s x => ?_) _ _).trans ?_ | split | rfl

theorem mtr_execConfigGet (v0 v1 s) : (after s (execConfigGet v0 v1 s)).mtr = s.mtr :=
  mtr_packetIn _ _ _ _ _ mtr_opConfigGet

theorem mtr_execConfigLock (v0 v1 s) : (after s (execConfigLock v0 v1 s)).mtr = s.mtr :=
  mtr_packetIn _ _ _ _ _ mtr_opConfigLock

theorem mtr_execConfigSet (v0 v1 s) : (after s (execConfigSet v0 v1 s)).mtr = s.mtr :=
  mtr_packetIn _ _ _ _ _ mtr_opConfigSet

theorem mtr_execConfigUnlock (v0 v1 s) : (after s (execConfigUnlock v0 v1 s)).mtr = s.mtr :=
  mtr_packetIn _ _ _ _ _ mtr_opConfigUnlock

theorem mtr_execIdentityRead (v0 v1 s) : (after s (execIdentityRead v0 v1 s)).mtr = s.mtr :=
  mtr_packetIn _ _ _ _ _ mtr_opIdentityRead

theorem mtr_execRoleKeySet (v0 v1 s) : (after s (execRoleKeySet v0 v1 s)).mtr = s.mtr :=
  mtr_packetIn _ _ _ _ _ mtr_opRoleKeySet

theorem mtr_execSignalInfo (v0 v1 s) : (after s (execSignalInfo v0 v1 s)).mtr = s.mtr :=
  mtr_packetIn _ _ _ _ _ mtr_opSignalInfo

theorem mtr_execSignalRead (v0 v1 s) : (after s (execSignalRead v0 v1 s)).mtr = s.mtr :=
  mtr_packetIn _ _ _ _ _ mtr_opSignalRead

theorem mtr_execSourceSelect (v0 v1 s) : (after s (execSourceSelect v0 v1 s)).mtr = s.mtr :=
  mtr_packetIn _ _ _ _ _ mtr_opSourceSelect

theorem mtr_execTableInfo (v0 v1 s) : (after s (execTableInfo v0 v1 s)).mtr = s.mtr :=
  mtr_packetIn _ _ _ _ _ mtr_opTableInfo

theorem mtr_execTableRead (v0 v1 s) : (after s (execTableRead v0 v1 s)).mtr = s.mtr :=
  mtr_packetIn _ _ _ _ _ mtr_opTableRead

theorem mtr_execTableWrite (v0 v1 s) : (after s (execTableWrite v0 v1 s)).mtr = s.mtr :=
  mtr_packetIn _ _ _ _ _ mtr_opTableWrite

theorem mtr_joinView (v0 s) : (joinView v0 s).mtr = s.mtr := by
  simp only [joinView] <;>
    repeat' first | simp only [↓mk_mtr, ↓mtr_aheadView, ↓mtr_stagedView] | with_reducible refine (mtr_foldl _ (fun s x => ?_) _ _).trans ?_ | split | rfl

end Sys2Proof.Machine
end

