-- ==== Sys2Proof/Laws/Queue.lean ====
section
/-! SUPPORT. No operation and no meaning changes the queue of waiting commands: one equation for each. -/

namespace Sys2Proof.Machine

set_option maxRecDepth 20000
set_option linter.all false

theorem pending_foldl2 {α β : Type} (f : β × State → α → β × State) (h : ∀ a x, (f a x).2.pending = a.2.pending) (l : List α) (a : β × State) :
    (l.foldl f a).2.pending = a.2.pending := by
  induction l generalizing a with
  | nil => rfl
  | cons x l ih => rw [List.foldl_cons, ih, h]

theorem pending_readOp (v0 v1 v2 v3 v4 c s) : (stepState ((readOp v0 v1 v2 v3 v4).run c s)).pending = s.pending := by
  simp only [readOp] <;>
    repeat' first | simp only [stepState_commit, stepState_finish, stepState_abort, stepState_wait, ↓mk_pending] | with_reducible refine (pending_foldl _ (fun s x => ?_) _ _).trans ?_ | split | rfl

theorem pending_stepOp (v0 v1 v2 v3) (h : ∀ c s, (stepState (v3 c s)).pending = s.pending) (c s) : (stepState ((stepOp v0 v1 v2 v3).run c s)).pending = s.pending := h c s

theorem pending_opJournalQuery (c s) : (stepState ((opJournalQuery).run c s)).pending = s.pending := by
  simp only [opJournalQuery, readOp] <;>
    repeat' first | simp only [stepState_commit, stepState_finish, stepState_abort, stepState_wait, ↓mk_pending, ↓pending_readOp] | with_reducible refine (pending_foldl _ (fun s x => ?_) _ _).trans ?_ | split | rfl

theorem pending_emit (v0 s) : (emit v0 s).pending = s.pending := by
  simp only [emit] <;>
    repeat' first | simp only [↓mk_pending] | with_reducible refine (pending_foldl _ (fun s x => ?_) _ _).trans ?_ | split | rfl

theorem pending_sendReply (v0 v1 s) : (sendReply v0 v1 s).pending = s.pending := by
  simp only [sendReply] <;>
    repeat' first | simp only [↓mk_pending, ↓pending_emit] | with_reducible refine (pending_foldl _ (fun s x => ?_) _ _).trans ?_ | split | rfl

theorem pending_modSlot (v0 v1 s) : (modSlot v0 v1 s).pending = s.pending := by
  simp only [modSlot] <;>
    repeat' first | simp only [↓mk_pending] | with_reducible refine (pending_foldl _ (fun s x => ?_) _ _).trans ?_ | split | rfl

theorem pending_putTag (v0 v1 v2 s) : (putTag v0 v1 v2 s).pending = s.pending := by
  simp only [putTag] <;>
    repeat' first | simp only [↓mk_pending, ↓pending_modSlot] | with_reducible refine (pending_foldl _ (fun s x => ?_) _ _).trans ?_ | split | rfl

theorem pending_abandonTag (v0 v1 v2 s) : (abandonTag v0 v1 v2 s).pending = s.pending := by
  simp only [abandonTag] <;>
    repeat' first | simp only [↓mk_pending, ↓pending_putTag, ↓pending_sendReply] | with_reducible refine (pending_foldl _ (fun s x => ?_) _ _).trans ?_ | split | rfl

theorem pending_modCmd (v0 v1 s) : (modCmd v0 v1 s).pending = s.pending := by
  simp only [modCmd] <;>
    repeat' first | simp only [↓mk_pending] | with_reducible refine (pending_foldl _ (fun s x => ?_) _ _).trans ?_ | split | rfl

theorem pending_modEntry (v0 v1 v2 s) : (modEntry v0 v1 v2 s).pending = s.pending := by
  simp only [modEntry] <;>
    repeat' first | simp only [↓mk_pending] | with_reducible refine (pending_foldl _ (fun s x => ?_) _ _).trans ?_ | split | rfl

theorem pending_sendReplies (v0 v1 v2 v3 s) : (sendReplies v0 v1 v2 v3 s).pending = s.pending := by
  simp only [sendReplies] <;>
    repeat' first | simp only [↓mk_pending, ↓pending_sendReply] | with_reducible refine (pending_foldl _ (fun s x => ?_) _ _).trans ?_ | split | rfl

theorem pending_sendFor (v0 v1 v2 s) : (sendFor v0 v1 v2 s).pending = s.pending := by
  simp only [sendFor] <;>
    repeat' first | simp only [↓mk_pending, ↓pending_sendReplies] | with_reducible refine (pending_foldl _ (fun s x => ?_) _ _).trans ?_ | split | rfl

theorem pending_endCmd (v0 v1 v2 v3 v4 v5 s) : (endCmd v0 v1 v2 v3 v4 v5 s).pending = s.pending := by
  simp only [endCmd] <;>
    repeat' first | simp only [↓mk_pending, ↓pending_modEntry, ↓pending_sendFor, ↓pending_putTag, ↓pending_modSlot] | with_reducible refine (pending_foldl _ (fun s x => ?_) _ _).trans ?_ | split | rfl

theorem pending_runAbort (v0 s) : (stepState (runAbort v0 s)).pending = s.pending := by
  simp only [runAbort] <;>
    repeat' first | simp only [stepState_commit, stepState_finish, stepState_abort, stepState_wait, ↓mk_pending, ↓pending_abandonTag, ↓pending_modCmd, ↓pending_endCmd] | with_reducible refine (pending_foldl _ (fun s x => ?_) _ _).trans ?_ | split | rfl

theorem pending_opTagAbort (c s) : (stepState ((opTagAbort).run c s)).pending = s.pending := by
  simp only [opTagAbort, stepOp] <;>
    repeat' first | simp only [stepState_commit, stepState_finish, stepState_abort, stepState_wait, ↓mk_pending, ↓pending_runAbort] | with_reducible refine (pending_foldl _ (fun s x => ?_) _ _).trans ?_ | split | rfl

theorem pending_opJournalList (c s) : (stepState ((opJournalList).run c s)).pending = s.pending := by
  simp only [opJournalList, readOp] <;>
    repeat' first | simp only [stepState_commit, stepState_finish, stepState_abort, stepState_wait, ↓mk_pending, ↓pending_readOp] | with_reducible refine (pending_foldl _ (fun s x => ?_) _ _).trans ?_ | split | rfl

theorem pending_opSessionPing (c s) : (stepState ((opSessionPing).run c s)).pending = s.pending := by
  simp only [opSessionPing, readOp] <;>
    repeat' first | simp only [stepState_commit, stepState_finish, stepState_abort, stepState_wait, ↓mk_pending, ↓pending_readOp] | with_reducible refine (pending_foldl _ (fun s x => ?_) _ _).trans ?_ | split | rfl

theorem pending_opSessionClose (c s) : (stepState ((opSessionClose).run c s)).pending = s.pending := by
  simp only [opSessionClose, readOp] <;>
    repeat' first | simp only [stepState_commit, stepState_finish, stepState_abort, stepState_wait, ↓mk_pending, ↓pending_readOp] | with_reducible refine (pending_foldl _ (fun s x => ?_) _ _).trans ?_ | split | rfl

theorem pending_countFailure (v0 s) : (countFailure v0 s).pending = s.pending := by
  simp only [countFailure] <;>
    repeat' first | simp only [↓mk_pending] | with_reducible refine (pending_foldl _ (fun s x => ?_) _ _).trans ?_ | split | rfl

theorem pending_runResync (v0 s) : (stepState (runResync v0 s)).pending = s.pending := by
  simp only [runResync] <;>
    repeat' first | simp only [stepState_commit, stepState_finish, stepState_abort, stepState_wait, ↓mk_pending, ↓pending_countFailure, ↓pending_abandonTag, ↓pending_modSlot] | with_reducible refine (pending_foldl _ (fun s x => ?_) _ _).trans ?_ | split | rfl

theorem pending_opSessionResync (c s) : (stepState ((opSessionResync).run c s)).pending = s.pending := by
  simp only [opSessionResync, stepOp] <;>
    repeat' first | simp only [stepState_commit, stepState_finish, stepState_abort, stepState_wait, ↓mk_pending, ↓pending_runResync] | with_reducible refine (pending_foldl _ (fun s x => ?_) _ _).trans ?_ | split | rfl

theorem pending_runAuth (v0 s) : (stepState (runAuth v0 s)).pending = s.pending := by
  simp only [runAuth] <;>
    repeat' first | simp only [stepState_commit, stepState_finish, stepState_abort, stepState_wait, ↓mk_pending, ↓pending_countFailure, ↓pending_modSlot] | with_reducible refine (pending_foldl _ (fun s x => ?_) _ _).trans ?_ | split | rfl

theorem pending_opSessionAuth (c s) : (stepState ((opSessionAuth).run c s)).pending = s.pending := by
  simp only [opSessionAuth, stepOp] <;>
    repeat' first | simp only [stepState_commit, stepState_finish, stepState_abort, stepState_wait, ↓mk_pending, ↓pending_runAuth] | with_reducible refine (pending_foldl _ (fun s x => ?_) _ _).trans ?_ | split | rfl

theorem pending_opJournalRejects (c s) : (stepState ((opJournalRejects).run c s)).pending = s.pending := by
  simp only [opJournalRejects, readOp] <;>
    repeat' first | simp only [stepState_commit, stepState_finish, stepState_abort, stepState_wait, ↓mk_pending, ↓pending_readOp] | with_reducible refine (pending_foldl _ (fun s x => ?_) _ _).trans ?_ | split | rfl

theorem pending_opGnssRawRead (c s) : (stepState ((opGnssRawRead).run c s)).pending = s.pending := by
  simp only [opGnssRawRead, readOp] <;>
    repeat' first | simp only [stepState_commit, stepState_finish, stepState_abort, stepState_wait, ↓mk_pending, ↓pending_readOp] | with_reducible refine (pending_foldl _ (fun s x => ?_) _ _).trans ?_ | split | rfl

theorem pending_keepRtcm (v0 s) : (keepRtcm v0 s).pending = s.pending := by
  simp only [keepRtcm] <;>
    repeat' first | simp only [↓mk_pending] | with_reducible refine (pending_foldl _ (fun s x => ?_) _ _).trans ?_ | split | rfl

theorem pending_pushRec (v0 v1 v2 s) : (pushRec v0 v1 v2 s).pending = s.pending := by
  simp only [pushRec] <;>
    repeat' first | simp only [↓mk_pending] | with_reducible refine (pending_foldl _ (fun s x => ?_) _ _).trans ?_ | split | rfl

theorem pending_record (v0 v1 s) : (record v0 v1 s).pending = s.pending := by
  simp only [record] <;>
    repeat' first | simp only [↓mk_pending, ↓pending_pushRec] | with_reducible refine (pending_foldl _ (fun s x => ?_) _ _).trans ?_ | split | rfl

theorem pending_useBase (v0 v1 s) : (useBase v0 v1 s).pending = s.pending := by
  simp only [useBase] <;>
    repeat' first | simp only [↓mk_pending, ↓pending_record] | with_reducible refine (pending_foldl _ (fun s x => ?_) _ _).trans ?_ | split | rfl

theorem pending_takeFrame (v0 s) : (takeFrame v0 s).pending = s.pending := by
  simp only [takeFrame] <;>
    repeat' first | simp only [↓mk_pending, ↓pending_useBase] | with_reducible refine (pending_foldl _ (fun s x => ?_) _ _).trans ?_ | split | rfl

theorem pending_takeFrames (v0 v1 s v3 v4) : (takeFrames v0 v1 s v3 v4).1.pending = s.pending := by
  induction v0 generalizing v1 s v3 v4 with
  | zero => rfl
  | succ k ih =>
    unfold takeFrames
    repeat' first | rfl | (rw [ih]; done) | (rw [ih, pending_keepRtcm, pending_takeFrame]; done) | split

theorem pending_opRtcmInput (c s) : (stepState ((opRtcmInput).run c s)).pending = s.pending := by
  simp only [opRtcmInput, stepOp] <;>
    repeat' first | simp only [stepState_commit, stepState_finish, stepState_abort, stepState_wait, ↓mk_pending, ↓pending_takeFrames] | with_reducible refine (pending_foldl _ (fun s x => ?_) _ _).trans ?_ | split | rfl

theorem pending_opGnssStatus (c s) : (stepState ((opGnssStatus).run c s)).pending = s.pending := by
  simp only [opGnssStatus, readOp] <;>
    repeat' first | simp only [stepState_commit, stepState_finish, stepState_abort, stepState_wait, ↓mk_pending, ↓pending_readOp] | with_reducible refine (pending_foldl _ (fun s x => ?_) _ _).trans ?_ | split | rfl

theorem pending_opNavBitsRead (c s) : (stepState ((opNavBitsRead).run c s)).pending = s.pending := by
  simp only [opNavBitsRead, readOp] <;>
    repeat' first | simp only [stepState_commit, stepState_finish, stepState_abort, stepState_wait, ↓mk_pending, ↓pending_readOp] | with_reducible refine (pending_foldl _ (fun s x => ?_) _ _).trans ?_ | split | rfl

theorem pending_meetBad (s v1) : (meetBad s v1).pending = s.pending := by
  simp only [meetBad] <;>
    repeat' first | simp only [↓mk_pending, ↓pending_record] | with_reducible refine (pending_foldl _ (fun s x => ?_) _ _).trans ?_ | split | rfl

theorem pending_meetExamined (v0 s) : (meetExamined v0 s).pending = s.pending := by
  simp only [meetExamined] <;>
    repeat' first | simp only [↓mk_pending, ↓pending_meetBad] | with_reducible refine (pending_foldl _ (fun s x => ?_) _ _).trans ?_ | split | rfl

theorem pending_opEvtRead (c s) : (stepState (opEvtRead.run c s)).pending = s.pending := by
  have h (a b k) (f : Cmd → State → StepRes) : (stepOp a b k f).run = f := rfl
  rw [show opEvtRead.run = _ from h _ _ _ _, stepState_finish, pending_meetExamined]

theorem pending_opEvtInfo (c s) : (stepState ((opEvtInfo).run c s)).pending = s.pending := by
  simp only [opEvtInfo, readOp] <;>
    repeat' first | simp only [stepState_commit, stepState_finish, stepState_abort, stepState_wait, ↓mk_pending, ↓pending_readOp] | with_reducible refine (pending_foldl _ (fun s x => ?_) _ _).trans ?_ | split | rfl

theorem pending_clearEvents (v0 s) : (clearEvents v0 s).pending = s.pending := by
  simp only [clearEvents] <;>
    repeat' first | simp only [↓mk_pending, ↓pending_record] | with_reducible refine (pending_foldl _ (fun s x => ?_) _ _).trans ?_ | split | rfl

theorem pending_opEvtClear (c s) : (stepState ((opEvtClear).run c s)).pending = s.pending := by
  simp only [opEvtClear, stepOp] <;>
    repeat' first | simp only [stepState_commit, stepState_finish, stepState_abort, stepState_wait, ↓mk_pending, ↓pending_clearEvents] | with_reducible refine (pending_foldl _ (fun s x => ?_) _ _).trans ?_ | split | rfl

theorem pending_phaseOn (v0 s) : (phaseOn v0 s).pending = s.pending := by
  simp only [phaseOn] <;>
    repeat' first | simp only [↓mk_pending] | with_reducible refine (pending_foldl _ (fun s x => ?_) _ _).trans ?_ | split | rfl

theorem pending_phaseNow (s) : (phaseNow s).pending = s.pending := by
  simp only [phaseNow] <;>
    repeat' first | simp only [↓mk_pending, ↓pending_phaseOn] | with_reducible refine (pending_foldl _ (fun s x => ?_) _ _).trans ?_ | split | rfl

theorem pending_setRate (v0 s) : (setRate v0 s).pending = s.pending := by
  simp only [setRate] <;>
    repeat' first | simp only [↓mk_pending] | with_reducible refine (pending_foldl _ (fun s x => ?_) _ _).trans ?_ | split | rfl

theorem pending_writeRate (v0 s) : (writeRate v0 s).pending = s.pending := by
  simp only [writeRate] <;>
    repeat' first | simp only [↓mk_pending, ↓pending_setRate, ↓pending_phaseNow] | with_reducible refine (pending_foldl _ (fun s x => ?_) _ _).trans ?_ | split | rfl

theorem pending_opTimeRate (c s) : (stepState ((opTimeRate).run c s)).pending = s.pending := by
  simp only [opTimeRate, stepOp] <;>
    repeat' first | simp only [stepState_commit, stepState_finish, stepState_abort, stepState_wait, ↓mk_pending, ↓pending_writeRate] | with_reducible refine (pending_foldl _ (fun s x => ?_) _ _).trans ?_ | split | rfl

theorem pending_opTimeGet (c s) : (stepState ((opTimeGet).run c s)).pending = s.pending := by
  simp only [opTimeGet, readOp] <;>
    repeat' first | simp only [stepState_commit, stepState_finish, stepState_abort, stepState_wait, ↓mk_pending, ↓pending_readOp] | with_reducible refine (pending_foldl _ (fun s x => ?_) _ _).trans ?_ | split | rfl

theorem pending_moveCounter (v0 s) : (moveCounter v0 s).pending = s.pending := by
  simp only [moveCounter] <;>
    repeat' first | simp only [↓mk_pending] | with_reducible refine (pending_foldl _ (fun s x => ?_) _ _).trans ?_ | split | rfl

theorem pending_drainPort (v0 s v2) : (drainPort v0 s v2).pending = s.pending := by
  induction v0 generalizing s with
  | zero => rfl
  | succ n ih =>
    simp only [drainPort]
    split
    · split
      · rfl
      · rw [ih, pending_emit]
    · rfl

theorem pending_drainCasc (s) : (drainCasc s).pending = s.pending := by
  simp only [drainCasc] <;>
    repeat' first | simp only [↓mk_pending, ↓pending_drainPort] | with_reducible refine (pending_foldl _ (fun s x => ?_) _ _).trans ?_ | split | rfl

theorem pending_queueCasc (v0 s) : (queueCasc v0 s).pending = s.pending := by
  simp only [queueCasc] <;>
    repeat' first | simp only [↓mk_pending, ↓pending_drainCasc] | with_reducible refine (pending_foldl _ (fun s x => ?_) _ _).trans ?_ | split | rfl

theorem pending_sendCascOf (v0 v1 v2 v3 s) : (sendCascOf v0 v1 v2 v3 s).pending = s.pending := by
  simp only [sendCascOf] <;>
    repeat' first | simp only [↓mk_pending, ↓pending_queueCasc] | with_reducible refine (pending_foldl _ (fun s x => ?_) _ _).trans ?_ | split | rfl

theorem pending_sendCasc (v0 v1 v2 s) : (sendCasc v0 v1 v2 s).pending = s.pending := by
  simp only [sendCasc] <;>
    repeat' first | simp only [↓mk_pending, ↓pending_sendCascOf] | with_reducible refine (pending_foldl _ (fun s x => ?_) _ _).trans ?_ | split | rfl

theorem pending_requestSync (v0 v1 s) : (requestSync v0 v1 s).pending = s.pending := by
  simp only [requestSync] <;>
    repeat' first | simp only [↓mk_pending, ↓pending_sendCasc] | with_reducible refine (pending_foldl _ (fun s x => ?_) _ _).trans ?_ | split | rfl

theorem pending_askAgain (v0 v1 s) : (askAgain v0 v1 s).pending = s.pending := by
  simp only [askAgain] <;>
    repeat' first | simp only [↓mk_pending, ↓pending_requestSync] | with_reducible refine (pending_foldl _ (fun s x => ?_) _ _).trans ?_ | split | rfl

theorem pending_realign (v0 v1 s) : (realign v0 v1 s).pending = s.pending := by
  simp only [realign] <;>
    repeat' first | simp only [↓mk_pending, ↓pending_askAgain, ↓pending_record] | with_reducible refine (pending_foldl _ (fun s x => ?_) _ _).trans ?_ | split | rfl

theorem pending_initialStep (v0 v1 v2 s) : (initialStep v0 v1 v2 s).pending = s.pending := by
  simp only [initialStep] <;>
    repeat' first | simp only [↓mk_pending, ↓pending_moveCounter, ↓pending_realign, ↓pending_record] | with_reducible refine (pending_foldl _ (fun s x => ?_) _ _).trans ?_ | split | rfl

theorem pending_opTimeSet (c s) : (stepState ((opTimeSet).run c s)).pending = s.pending := by
  simp only [opTimeSet, stepOp] <;>
    repeat' first | simp only [stepState_commit, stepState_finish, stepState_abort, stepState_wait, ↓mk_pending, ↓pending_initialStep] | with_reducible refine (pending_foldl _ (fun s x => ?_) _ _).trans ?_ | split | rfl

theorem pending_stepNotice (v0 s) : (stepNotice v0 s).pending = s.pending := by
  simp only [stepNotice] <;>
    repeat' first | simp only [↓mk_pending, ↓pending_sendCasc] | with_reducible refine (pending_foldl _ (fun s x => ?_) _ _).trans ?_ | split | rfl

theorem pending_addStep (v0 s) : (addStep v0 s).pending = s.pending := by
  simp only [addStep] <;>
    repeat' first | simp only [↓mk_pending, ↓pending_emit] | with_reducible refine (pending_foldl _ (fun s x => ?_) _ _).trans ?_ | split | rfl

theorem pending_passTicks (v0 s) : (passTicks v0 s).pending = s.pending := by
  simp only [passTicks] <;>
    repeat' first | simp only [↓mk_pending] | with_reducible refine (pending_foldl _ (fun s x => ?_) _ _).trans ?_ | split | rfl

theorem pending_countTo (v0 s) : (countTo v0 s).pending = s.pending := by
  simp only [countTo] <;>
    repeat' first | simp only [↓mk_pending, ↓pending_passTicks] | with_reducible refine (pending_foldl _ (fun s x => ?_) _ _).trans ?_ | split | rfl

theorem pending_applyStep (p s) : (applyStep p s).pending = s.pending := by
  unfold applyStep
  rw [pending_realign, pending_record]
  split
  · rw [pending_writeRate, mk_pending, pending_moveCounter, pending_countTo]
  · rw [mk_pending, pending_moveCounter, pending_countTo]

theorem pending_runTimeStep (v0 s) : (stepState (runTimeStep v0 s)).pending = s.pending := by
  simp only [runTimeStep] <;>
    repeat' first | simp only [stepState_commit, stepState_finish, stepState_abort, stepState_wait, ↓mk_pending, ↓pending_stepNotice, ↓pending_addStep, ↓pending_applyStep] | with_reducible refine (pending_foldl _ (fun s x => ?_) _ _).trans ?_ | split | rfl

theorem pending_opTimeStep (c s) : (stepState ((opTimeStep).run c s)).pending = s.pending := by
  simp only [opTimeStep, stepOp] <;>
    repeat' first | simp only [stepState_commit, stepState_finish, stepState_abort, stepState_wait, ↓mk_pending, ↓pending_runTimeStep] | with_reducible refine (pending_foldl _ (fun s x => ?_) _ _).trans ?_ | split | rfl

theorem pending_runTxStampRead (v0 s) : (stepState (runTxStampRead v0 s)).pending = s.pending := by
  simp only [runTxStampRead] <;>
    repeat' first | simp only [stepState_commit, stepState_finish, stepState_abort, stepState_wait, ↓mk_pending, ↓pending_record] | with_reducible refine (pending_foldl _ (fun s x => ?_) _ _).trans ?_ | split | rfl

theorem pending_opTxStampRead (c s) : (stepState ((opTxStampRead).run c s)).pending = s.pending := by
  simp only [opTxStampRead, stepOp] <;>
    repeat' first | simp only [stepState_commit, stepState_finish, stepState_abort, stepState_wait, ↓mk_pending, ↓pending_runTxStampRead] | with_reducible refine (pending_foldl _ (fun s x => ?_) _ _).trans ?_ | split | rfl

theorem pending_opModuleList (c s) : (stepState ((opModuleList).run c s)).pending = s.pending := by
  simp only [opModuleList, readOp] <;>
    repeat' first | simp only [stepState_commit, stepState_finish, stepState_abort, stepState_wait, ↓mk_pending, ↓pending_readOp] | with_reducible refine (pending_foldl _ (fun s x => ?_) _ _).trans ?_ | split | rfl

theorem pending_opModuleRead (c s) : (stepState ((opModuleRead).run c s)).pending = s.pending := by
  simp only [opModuleRead, readOp] <;>
    repeat' first | simp only [stepState_commit, stepState_finish, stepState_abort, stepState_wait, ↓mk_pending, ↓pending_readOp] | with_reducible refine (pending_foldl _ (fun s x => ?_) _ _).trans ?_ | split | rfl

theorem pending_modSlotM (v0 v1 s) : (modSlotM v0 v1 s).pending = s.pending := by
  simp only [modSlotM] <;>
    repeat' first | simp only [↓mk_pending] | with_reducible refine (pending_foldl _ (fun s x => ?_) _ _).trans ?_ | split | rfl

theorem pending_startRead (v0 s) : (startRead v0 s).pending = s.pending := by
  simp only [startRead] <;>
    repeat' first | simp only [↓mk_pending, ↓pending_modSlotM, ↓pending_emit] | with_reducible refine (pending_foldl _ (fun s x => ?_) _ _).trans ?_ | split | rfl

theorem pending_leaveSlot (v0 s) : (leaveSlot v0 s).pending = s.pending := by
  simp only [leaveSlot] <;>
    repeat' first | simp only [↓mk_pending, ↓pending_record, ↓pending_modSlotM] | with_reducible refine (pending_foldl _ (fun s x => ?_) _ _).trans ?_ | split | rfl

theorem pending_serveGone (s v1) : (serveGone s v1).pending = s.pending := by
  simp only [serveGone] <;>
    repeat' first | simp only [↓mk_pending, ↓pending_leaveSlot] | with_reducible refine (pending_foldl _ (fun s x => ?_) _ _).trans ?_ | split | rfl

theorem pending_bootReads (s) : (bootReads s).pending = s.pending := by
  simp only [bootReads] <;>
    repeat' first | simp only [↓mk_pending, ↓pending_startRead, ↓pending_serveGone] | with_reducible refine (pending_foldl _ (fun s x => ?_) _ _).trans ?_ | split | rfl

theorem pending_opModuleRescan (c s) : (stepState ((opModuleRescan).run c s)).pending = s.pending := by
  simp only [opModuleRescan, stepOp] <;>
    repeat' first | simp only [stepState_commit, stepState_finish, stepState_abort, stepState_wait, ↓mk_pending, ↓pending_bootReads, ↓pending_startRead] | with_reducible refine (pending_foldl _ (fun s x => ?_) _ _).trans ?_ | split | rfl

theorem pending_opModuleAccept (c s) : (stepState ((opModuleAccept).run c s)).pending = s.pending := by
  simp only [opModuleAccept, stepOp] <;>
    repeat' first | simp only [stepState_commit, stepState_finish, stepState_abort, stepState_wait, ↓mk_pending, ↓pending_modSlotM] | with_reducible refine (pending_foldl _ (fun s x => ?_) _ _).trans ?_ | split | rfl

theorem pending_opMapRead (c s) : (stepState ((opMapRead).run c s)).pending = s.pending := by
  simp only [opMapRead, readOp] <;>
    repeat' first | simp only [stepState_commit, stepState_finish, stepState_abort, stepState_wait, ↓mk_pending, ↓pending_readOp] | with_reducible refine (pending_foldl _ (fun s x => ?_) _ _).trans ?_ | split | rfl

theorem pending_opStructUpdate (c s) : (stepState ((opStructUpdate).run c s)).pending = s.pending := by
  simp only [opStructUpdate, stepOp] <;>
    repeat' first | simp only [stepState_commit, stepState_finish, stepState_abort, stepState_wait, ↓mk_pending] | with_reducible refine (pending_foldl _ (fun s x => ?_) _ _).trans ?_ | split | rfl

theorem pending_opStructDrop (c s) : (stepState ((opStructDrop).run c s)).pending = s.pending := by
  simp only [opStructDrop, stepOp] <;>
    repeat' first | simp only [stepState_commit, stepState_finish, stepState_abort, stepState_wait, ↓mk_pending] | with_reducible refine (pending_foldl _ (fun s x => ?_) _ _).trans ?_ | split | rfl

theorem pending_pushEffect (v0 v1 v2 s) : (pushEffect v0 v1 v2 s).pending = s.pending := by
  simp only [pushEffect] <;>
    repeat' first | simp only [↓mk_pending] | with_reducible refine (pending_foldl _ (fun s x => ?_) _ _).trans ?_ | split | rfl

theorem pending_runMapWrite (v0 s) : (stepState (runMapWrite v0 s)).pending = s.pending := by
  simp only [runMapWrite] <;>
    repeat' first | simp only [stepState_commit, stepState_finish, stepState_abort, stepState_wait, ↓mk_pending, ↓pending_pushEffect] | with_reducible refine (pending_foldl _ (fun s x => ?_) _ _).trans ?_ | split | rfl

theorem pending_opMapWrite (c s) : (stepState ((opMapWrite).run c s)).pending = s.pending := by
  simp only [opMapWrite, stepOp] <;>
    repeat' first | simp only [stepState_commit, stepState_finish, stepState_abort, stepState_wait, ↓mk_pending, ↓pending_runMapWrite] | with_reducible refine (pending_foldl _ (fun s x => ?_) _ _).trans ?_ | split | rfl

theorem pending_elapseTo (v0 s) : (elapseTo v0 s).pending = s.pending := by
  simp only [elapseTo] <;>
    repeat' first | simp only [↓mk_pending, ↓pending_passTicks] | with_reducible refine (pending_foldl _ (fun s x => ?_) _ _).trans ?_ | split | rfl

theorem pending_setDomain (v0 v1 s) : (setDomain v0 v1 s).pending = s.pending := by
  simp only [setDomain] <;>
    repeat' first | simp only [↓mk_pending] | with_reducible refine (pending_foldl _ (fun s x => ?_) _ _).trans ?_ | split | rfl

theorem pending_settleDomain (s v1) : (settleDomain s v1).pending = s.pending := by
  simp only [settleDomain] <;>
    repeat' first | simp only [↓mk_pending, ↓pending_setDomain, ↓pending_elapseTo] | with_reducible refine (pending_foldl _ (fun s x => ?_) _ _).trans ?_ | split | rfl

theorem pending_admitWake (v0 v1 s) : (admitWake v0 v1 s).pending = s.pending := by
  simp only [admitWake] <;>
    repeat' first | simp only [↓mk_pending] | with_reducible refine (pending_foldl _ (fun s x => ?_) _ _).trans ?_ | split | rfl

theorem pending_admitAll (v0 s) : (admitAll v0 s).pending = s.pending := by
  induction v0 generalizing s with
  | nil => rfl
  | cons e es ih =>
    simp only [admitAll]
    split
    · rw [ih, pending_admitWake]
    · rfl

theorem pending_openWindow (s) : (openWindow s).pending = s.pending := by
  simp only [openWindow] <;>
    repeat' first | simp only [↓mk_pending, ↓pending_admitAll] | with_reducible refine (pending_foldl _ (fun s x => ?_) _ _).trans ?_ | split | rfl

theorem pending_requestWake (v0 s v2) : (requestWake v0 s v2).pending = s.pending := by
  simp only [requestWake] <;>
    repeat' first | simp only [↓mk_pending, ↓pending_openWindow, ↓pending_admitWake] | with_reducible refine (pending_foldl _ (fun s x => ?_) _ _).trans ?_ | split | rfl

theorem pending_accessDomains (v0 v1 s) : (accessDomains v0 v1 s).pending = s.pending := by
  simp only [accessDomains] <;>
    repeat' first | simp only [↓mk_pending, ↓pending_settleDomain, ↓pending_requestWake] | with_reducible refine (pending_foldl _ (fun s x => ?_) _ _).trans ?_ | split | rfl

theorem pending_stopDomains (v0 s) : (stopDomains v0 s).pending = s.pending := by
  simp only [stopDomains] <;>
    repeat' first | simp only [↓mk_pending, ↓pending_setDomain] | with_reducible refine (pending_foldl _ (fun s x => ?_) _ _).trans ?_ | split | rfl

theorem pending_leaveSolver (v0 v1 s) : (leaveSolver v0 v1 s).pending = s.pending := by
  simp only [leaveSolver] <;>
    repeat' first | simp only [↓mk_pending, ↓pending_stopDomains] | with_reducible refine (pending_foldl _ (fun s x => ?_) _ _).trans ?_ | split | rfl

theorem pending_deadlineEvent (v0 v1 v2 s) : (deadlineEvent v0 v1 v2 s).pending = s.pending := by
  simp only [deadlineEvent] <;>
    repeat' first | simp only [↓mk_pending, ↓pending_record] | with_reducible refine (pending_foldl _ (fun s x => ?_) _ _).trans ?_ | split | rfl

theorem pending_retain (v0 v1 v2 s) : (retain v0 v1 v2 s).pending = s.pending := by
  simp only [retain] <;>
    repeat' first | simp only [↓mk_pending] | with_reducible refine (pending_foldl _ (fun s x => ?_) _ _).trans ?_ | split | rfl

theorem pending_runSolve (v0 v1 s) : (stepState (runSolve v0 v1 s)).pending = s.pending := by
  simp only [runSolve] <;>
    repeat' first | simp only [stepState_commit, stepState_finish, stepState_abort, stepState_wait, ↓mk_pending, ↓pending_leaveSolver, ↓pending_deadlineEvent, ↓pending_retain] | with_reducible refine (pending_foldl _ (fun s x => ?_) _ _).trans ?_ | split | rfl

theorem pending_placedSolve (v0 v1 s) : (stepState (placedSolve v0 v1 s)).pending = s.pending := by
  simp only [placedSolve] <;>
    repeat' first | simp only [stepState_commit, stepState_finish, stepState_abort, stepState_wait, ↓mk_pending, ↓pending_runSolve, ↓pending_accessDomains] | with_reducible refine (pending_foldl _ (fun s x => ?_) _ _).trans ?_ | split | rfl

theorem pending_opSolveWithin (v0 c s) : (stepState ((opSolveWithin v0).run c s)).pending = s.pending := by
  simp only [opSolveWithin, stepOp] <;>
    repeat' first | simp only [stepState_commit, stepState_finish, stepState_abort, stepState_wait, ↓mk_pending, ↓pending_placedSolve] | with_reducible refine (pending_foldl _ (fun s x => ?_) _ _).trans ?_ | split | rfl

theorem pending_opSolve (c s) : (stepState ((opSolve).run c s)).pending = s.pending := by
  simp only [opSolve] <;>
    repeat' first | simp only [stepState_commit, stepState_finish, stepState_abort, stepState_wait, ↓mk_pending, ↓pending_opSolveWithin] | with_reducible refine (pending_foldl _ (fun s x => ?_) _ _).trans ?_ | split | rfl

theorem pending_opMapStatus (c s) : (stepState ((opMapStatus).run c s)).pending = s.pending := by
  simp only [opMapStatus, readOp] <;>
    repeat' first | simp only [stepState_commit, stepState_finish, stepState_abort, stepState_wait, ↓mk_pending, ↓pending_readOp] | with_reducible refine (pending_foldl _ (fun s x => ?_) _ _).trans ?_ | split | rfl

theorem pending_runStructLoad (v0 s) : (stepState (runStructLoad v0 s)).pending = s.pending := by
  simp only [runStructLoad] <;>
    repeat' first | simp only [stepState_commit, stepState_finish, stepState_abort, stepState_wait, ↓mk_pending] | with_reducible refine (pending_foldl _ (fun s x => ?_) _ _).trans ?_ | split | rfl

theorem pending_opStructLoad (c s) : (stepState ((opStructLoad).run c s)).pending = s.pending := by
  simp only [opStructLoad, stepOp] <;>
    repeat' first | simp only [stepState_commit, stepState_finish, stepState_abort, stepState_wait, ↓mk_pending, ↓pending_runStructLoad] | with_reducible refine (pending_foldl _ (fun s x => ?_) _ _).trans ?_ | split | rfl

theorem pending_finishWith (v0 v1 v2 s) : (stepState (finishWith v0 v1 v2 s)).pending = s.pending := by
  simp only [finishWith] <;>
    repeat' first | simp only [stepState_commit, stepState_finish, stepState_abort, stepState_wait, ↓mk_pending, ↓pending_pushEffect] | with_reducible refine (pending_foldl _ (fun s x => ?_) _ _).trans ?_ | split | rfl

theorem pending_opJoystickSet (c s) : (stepState ((opJoystickSet).run c s)).pending = s.pending := by
  simp only [opJoystickSet, stepOp] <;>
    repeat' first | simp only [stepState_commit, stepState_finish, stepState_abort, stepState_wait, ↓mk_pending, ↓pending_finishWith] | with_reducible refine (pending_foldl _ (fun s x => ?_) _ _).trans ?_ | split | rfl

theorem pending_opSetpointSet (c s) : (stepState ((opSetpointSet).run c s)).pending = s.pending := by
  simp only [opSetpointSet, stepOp] <;>
    repeat' first | simp only [stepState_commit, stepState_finish, stepState_abort, stepState_wait, ↓mk_pending, ↓pending_finishWith] | with_reducible refine (pending_foldl _ (fun s x => ?_) _ _).trans ?_ | split | rfl

theorem pending_opControlStatus (c s) : (stepState ((opControlStatus).run c s)).pending = s.pending := by
  simp only [opControlStatus, readOp] <;>
    repeat' first | simp only [stepState_commit, stepState_finish, stepState_abort, stepState_wait, ↓mk_pending, ↓pending_readOp] | with_reducible refine (pending_foldl _ (fun s x => ?_) _ _).trans ?_ | split | rfl

theorem pending_opSetpointGet (c s) : (stepState ((opSetpointGet).run c s)).pending = s.pending := by
  simp only [opSetpointGet, readOp] <;>
    repeat' first | simp only [stepState_commit, stepState_finish, stepState_abort, stepState_wait, ↓mk_pending, ↓pending_readOp] | with_reducible refine (pending_foldl _ (fun s x => ?_) _ _).trans ?_ | split | rfl

theorem pending_opModeSet (c s) : (stepState ((opModeSet).run c s)).pending = s.pending := by
  simp only [opModeSet, stepOp] <;>
    repeat' first | simp only [stepState_commit, stepState_finish, stepState_abort, stepState_wait, ↓mk_pending, ↓pending_finishWith] | with_reducible refine (pending_foldl _ (fun s x => ?_) _ _).trans ?_ | split | rfl

theorem pending_opThrusterAvail (c s) : (stepState ((opThrusterAvail).run c s)).pending = s.pending := by
  simp only [opThrusterAvail, stepOp] <;>
    repeat' first | simp only [stepState_commit, stepState_finish, stepState_abort, stepState_wait, ↓mk_pending, ↓pending_finishWith] | with_reducible refine (pending_foldl _ (fun s x => ?_) _ _).trans ?_ | split | rfl

theorem pending_stopControl (s) : (stopControl s).pending = s.pending := by
  simp only [stopControl] <;>
    repeat' first | simp only [↓mk_pending, ↓pending_record] | with_reducible refine (pending_foldl _ (fun s x => ?_) _ _).trans ?_ | split | rfl

theorem pending_safEvent (v0 v1 s) : (safEvent v0 v1 s).pending = s.pending := by
  simp only [safEvent] <;>
    repeat' first | simp only [↓mk_pending, ↓pending_record] | with_reducible refine (pending_foldl _ (fun s x => ?_) _ _).trans ?_ | split | rfl

theorem pending_closeTest (v0 s) : (closeTest v0 s).pending = s.pending := by
  simp only [closeTest] <;>
    repeat' first | simp only [↓mk_pending, ↓pending_safEvent] | with_reducible refine (pending_foldl _ (fun s x => ?_) _ _).trans ?_ | split | rfl

theorem pending_finishTest (v0 s) : (finishTest v0 s).pending = s.pending := by
  simp only [finishTest] <;>
    repeat' first | simp only [↓mk_pending, ↓pending_closeTest, ↓pending_endCmd] | with_reducible refine (pending_foldl _ (fun s x => ?_) _ _).trans ?_ | split | rfl

theorem pending_abortTest (s) : (abortTest s).pending = s.pending := by
  simp only [abortTest] <;>
    repeat' first | simp only [↓mk_pending, ↓pending_finishTest] | with_reducible refine (pending_foldl _ (fun s x => ?_) _ _).trans ?_ | split | rfl

theorem pending_stopOutput (s) : (stopOutput s).pending = s.pending := by
  simp only [stopOutput] <;>
    repeat' first | simp only [↓mk_pending] | with_reducible refine (pending_foldl _ (fun s x => ?_) _ _).trans ?_ | split | rfl

theorem pending_endStopped (s) : (endStopped s).pending = s.pending := by
  simp only [endStopped] <;>
    repeat' first | simp only [↓mk_pending, ↓pending_endCmd] | with_reducible refine (pending_foldl _ (fun s x => ?_) _ _).trans ?_ | split | rfl

theorem pending_abandonChain (s) : (abandonChain s).pending = s.pending := by
  simp only [abandonChain] <;>
    repeat' first | simp only [↓mk_pending] | with_reducible refine (pending_foldl _ (fun s x => ?_) _ _).trans ?_ | split | rfl

theorem pending_modCan (v0 v1 s) : (modCan v0 v1 s).pending = s.pending := by
  simp only [modCan] <;>
    repeat' first | simp only [↓mk_pending] | with_reducible refine (pending_foldl _ (fun s x => ?_) _ _).trans ?_ | split | rfl

theorem pending_sendCan (v0 v1 v2 s) : (sendCan v0 v1 v2 s).pending = s.pending := by
  simp only [sendCan] <;>
    repeat' first | simp only [↓mk_pending, ↓pending_emit, ↓pending_modCan] | with_reducible refine (pending_foldl _ (fun s x => ?_) _ _).trans ?_ | split | rfl

theorem pending_sendBeacon (s v1) : (sendBeacon s v1).pending = s.pending := by
  simp only [sendBeacon] <;>
    repeat' first | simp only [↓mk_pending, ↓pending_sendCan] | with_reducible refine (pending_foldl _ (fun s x => ?_) _ _).trans ?_ | split | rfl

theorem pending_modDrive (v0 v1 s) : (modDrive v0 v1 s).pending = s.pending := by
  simp only [modDrive] <;>
    repeat' first | simp only [↓mk_pending] | with_reducible refine (pending_foldl _ (fun s x => ?_) _ _).trans ?_ | split | rfl

theorem pending_sendCommand (s v1) : (sendCommand s v1).pending = s.pending := by
  simp only [sendCommand] <;>
    repeat' first | simp only [↓mk_pending, ↓pending_sendCan, ↓pending_modDrive] | with_reducible refine (pending_foldl _ (fun s x => ?_) _ _).trans ?_ | split | rfl

theorem pending_sendFrames (v0 s) : (sendFrames v0 s).pending = s.pending := by
  simp only [sendFrames] <;>
    repeat' first | simp only [↓mk_pending, ↓pending_sendBeacon, ↓pending_sendCommand] | with_reducible refine (pending_foldl _ (fun s x => ?_) _ _).trans ?_ | split | rfl

theorem pending_takeStop (s) : (takeStop s).pending = s.pending := by
  simp only [takeStop] <;>
    repeat' first | simp only [↓mk_pending, ↓pending_abortTest, ↓pending_stopOutput, ↓pending_endStopped, ↓pending_stopControl, ↓pending_abandonChain, ↓pending_sendFrames] | with_reducible refine (pending_foldl _ (fun s x => ?_) _ _).trans ?_ | split | rfl

theorem pending_latchTrip (v0 v1 v2 s) : (latchTrip v0 v1 v2 s).pending = s.pending := by
  simp only [latchTrip] <;>
    repeat' first | simp only [↓mk_pending, ↓pending_safEvent, ↓pending_takeStop] | with_reducible refine (pending_foldl _ (fun s x => ?_) _ _).trans ?_ | split | rfl

theorem pending_safeStopTrip (s) : (safeStopTrip s).pending = s.pending := by
  simp only [safeStopTrip] <;>
    repeat' first | simp only [↓mk_pending, ↓pending_latchTrip] | with_reducible refine (pending_foldl _ (fun s x => ?_) _ _).trans ?_ | split | rfl

theorem pending_stopEffect (v0 s) : (stopEffect v0 s).pending = s.pending := by
  simp only [stopEffect] <;>
    repeat' first | simp only [↓mk_pending, ↓pending_takeStop, ↓pending_safeStopTrip] | with_reducible refine (pending_foldl _ (fun s x => ?_) _ _).trans ?_ | split | rfl

theorem pending_stopHere (v0 s) : (stopHere v0 s).pending = s.pending := by
  simp only [stopHere] <;>
    repeat' first | simp only [↓mk_pending, ↓pending_sendCasc, ↓pending_stopEffect] | with_reducible refine (pending_foldl _ (fun s x => ?_) _ _).trans ?_ | split | rfl

theorem pending_opStop (v0 c s) : (stepState ((opStop v0).run c s)).pending = s.pending := by
  simp only [opStop, stepOp] <;>
    repeat' first | simp only [stepState_commit, stepState_finish, stepState_abort, stepState_wait, ↓mk_pending, ↓pending_stopHere] | with_reducible refine (pending_foldl _ (fun s x => ?_) _ _).trans ?_ | split | rfl

theorem pending_announce (s) : (announce s).pending = s.pending := by
  simp only [announce] <;>
    repeat' first | simp only [↓mk_pending, ↓pending_sendCasc] | with_reducible refine (pending_foldl _ (fun s x => ?_) _ _).trans ?_ | split | rfl

theorem pending_nowOwns (s) : (nowOwns s).pending = s.pending := by
  simp only [nowOwns] <;>
    repeat' first | simp only [↓mk_pending, ↓pending_emit] | with_reducible refine (pending_foldl _ (fun s x => ?_) _ _).trans ?_ | split | rfl

theorem pending_newEpoch (v0 s) : (newEpoch v0 s).pending = s.pending := by
  simp only [newEpoch] <;>
    repeat' first | simp only [↓mk_pending, ↓pending_record] | with_reducible refine (pending_foldl _ (fun s x => ?_) _ _).trans ?_ | split | rfl

theorem pending_takeUp (s) : (takeUp s).pending = s.pending := by
  simp only [takeUp] <;>
    repeat' first | simp only [↓mk_pending, ↓pending_announce, ↓pending_nowOwns, ↓pending_newEpoch] | with_reducible refine (pending_foldl _ (fun s x => ?_) _ _).trans ?_ | split | rfl

theorem pending_fallRequests (s) : (fallRequests s).pending = s.pending := by
  simp only [fallRequests] <;>
    repeat' first | simp only [↓mk_pending] | with_reducible refine (pending_foldl _ (fun s x => ?_) _ _).trans ?_ | split | rfl

theorem pending_dropOwnership (s) : (dropOwnership s).pending = s.pending := by
  simp only [dropOwnership] <;>
    repeat' first | simp only [↓mk_pending, ↓pending_fallRequests, ↓pending_emit] | with_reducible refine (pending_foldl _ (fun s x => ?_) _ _).trans ?_ | split | rfl

theorem pending_changeRole (v0 s) : (changeRole v0 s).pending = s.pending := by
  simp only [changeRole] <;>
    repeat' first | simp only [↓mk_pending, ↓pending_dropOwnership, ↓pending_announce] | with_reducible refine (pending_foldl _ (fun s x => ?_) _ _).trans ?_ | split | rfl

theorem pending_opRoleSet (c s) : (stepState ((opRoleSet).run c s)).pending = s.pending := by
  simp only [opRoleSet, stepOp] <;>
    repeat' first | simp only [stepState_commit, stepState_finish, stepState_abort, stepState_wait, ↓mk_pending, ↓pending_takeUp, ↓pending_changeRole] | with_reducible refine (pending_foldl _ (fun s x => ?_) _ _).trans ?_ | split | rfl

theorem pending_seeEpoch (v0 s) : (seeEpoch v0 s).pending = s.pending := by
  simp only [seeEpoch] <;>
    repeat' first | simp only [↓mk_pending] | with_reducible refine (pending_foldl _ (fun s x => ?_) _ _).trans ?_ | split | rfl

theorem pending_sendHandover (v0 s) : (sendHandover v0 s).pending = s.pending := by
  simp only [sendHandover] <;>
    repeat' first | simp only [↓mk_pending, ↓pending_sendCasc] | with_reducible refine (pending_foldl _ (fun s x => ?_) _ _).trans ?_ | split | rfl

theorem pending_runHandover (v0 s) : (stepState (runHandover v0 s)).pending = s.pending := by
  simp only [runHandover] <;>
    repeat' first | simp only [stepState_commit, stepState_finish, stepState_abort, stepState_wait, ↓mk_pending, ↓pending_sendHandover, ↓pending_seeEpoch] | with_reducible refine (pending_foldl _ (fun s x => ?_) _ _).trans ?_ | split | rfl

theorem pending_opHandoverRequest (c s) : (stepState ((opHandoverRequest).run c s)).pending = s.pending := by
  simp only [opHandoverRequest, stepOp] <;>
    repeat' first | simp only [stepState_commit, stepState_finish, stepState_abort, stepState_wait, ↓mk_pending, ↓pending_runHandover] | with_reducible refine (pending_foldl _ (fun s x => ?_) _ _).trans ?_ | split | rfl

theorem pending_opGroupStatus (c s) : (stepState ((opGroupStatus).run c s)).pending = s.pending := by
  simp only [opGroupStatus, readOp] <;>
    repeat' first | simp only [stepState_commit, stepState_finish, stepState_abort, stepState_wait, ↓mk_pending, ↓pending_readOp] | with_reducible refine (pending_foldl _ (fun s x => ?_) _ _).trans ?_ | split | rfl

theorem pending_opHealthRead (c s) : (stepState ((opHealthRead).run c s)).pending = s.pending := by
  simp only [opHealthRead, stepOp] <;>
    repeat' first | simp only [stepState_commit, stepState_finish, stepState_abort, stepState_wait, ↓mk_pending] | with_reducible refine (pending_foldl _ (fun s x => ?_) _ _).trans ?_ | split | rfl

theorem pending_applyAll (s) : (applyAll s).pending = s.pending := by
  simp only [applyAll] <;>
    repeat' first | simp only [↓mk_pending] | with_reducible refine (pending_foldl _ (fun s x => ?_) _ _).trans ?_ | split | rfl

theorem pending_judgeSource (s v1) : (judgeSource s v1).pending = s.pending := by
  simp only [judgeSource] <;>
    repeat' first | simp only [↓mk_pending, ↓pending_latchTrip] | with_reducible refine (pending_foldl _ (fun s x => ?_) _ _).trans ?_ | split | rfl

theorem pending_judgeSources (s) : (judgeSources s).pending = s.pending := by
  simp only [judgeSources] <;>
    repeat' first | simp only [↓mk_pending, ↓pending_judgeSource] | with_reducible refine (pending_foldl _ (fun s x => ?_) _ _).trans ?_ | split | rfl

theorem pending_storeSet (v0 s) : (storeSet v0 s).pending = s.pending := by
  simp only [storeSet] <;>
    repeat' first | simp only [↓mk_pending, ↓pending_applyAll, ↓pending_abortTest, ↓pending_judgeSources] | with_reducible refine (pending_foldl _ (fun s x => ?_) _ _).trans ?_ | split | rfl

theorem pending_runSafetyParamWrite (v0 s) : (stepState (runSafetyParamWrite v0 s)).pending = s.pending := by
  simp only [runSafetyParamWrite] <;>
    repeat' first | simp only [stepState_commit, stepState_finish, stepState_abort, stepState_wait, ↓mk_pending, ↓pending_storeSet] | with_reducible refine (pending_foldl _ (fun s x => ?_) _ _).trans ?_ | split | rfl

theorem pending_opSafetyParamWrite (c s) : (stepState ((opSafetyParamWrite).run c s)).pending = s.pending := by
  simp only [opSafetyParamWrite, stepOp] <;>
    repeat' first | simp only [stepState_commit, stepState_finish, stepState_abort, stepState_wait, ↓mk_pending, ↓pending_runSafetyParamWrite] | with_reducible refine (pending_foldl _ (fun s x => ?_) _ _).trans ?_ | split | rfl

theorem pending_opTripReset (c s) : (stepState ((opTripReset).run c s)).pending = s.pending := by
  simp only [opTripReset, stepOp] <;>
    repeat' first | simp only [stepState_commit, stepState_finish, stepState_abort, stepState_wait, ↓mk_pending, ↓pending_safEvent] | with_reducible refine (pending_foldl _ (fun s x => ?_) _ _).trans ?_ | split | rfl

theorem pending_testChannel (v0 s) : (testChannel v0 s).2.pending = s.pending := by
  simp only [testChannel] <;>
    repeat' first | simp only [↓mk_pending, ↓pending_elapseTo] | with_reducible refine (pending_foldl _ (fun s x => ?_) _ _).trans ?_ | split | rfl

theorem pending_testOn (v0 v1 s) : (testOn v0 v1 s).2.pending = s.pending := by
  induction v0 generalizing v1 s with
  | zero => rfl
  | succ k ih =>
    simp only [testOn]
    repeat' split
    · rfl
    · exact pending_testChannel _ _
    · rw [ih, pending_testChannel]

theorem pending_runBrakeTest (v0 v1 s) : (stepState (runBrakeTest v0 v1 s)).pending = s.pending := by
  simp only [runBrakeTest] <;>
    repeat' first | simp only [stepState_commit, stepState_finish, stepState_abort, stepState_wait, ↓mk_pending, ↓pending_testOn, ↓pending_closeTest] | with_reducible refine (pending_foldl _ (fun s x => ?_) _ _).trans ?_ | split | rfl

theorem pending_opBrakeTest (v0 c s) : (stepState ((opBrakeTest v0).run c s)).pending = s.pending := by
  simp only [opBrakeTest, stepOp] <;>
    repeat' first | simp only [stepState_commit, stepState_finish, stepState_abort, stepState_wait, ↓mk_pending, ↓pending_runBrakeTest] | with_reducible refine (pending_foldl _ (fun s x => ?_) _ _).trans ?_ | split | rfl

theorem pending_confirmSet (v0 s) : (confirmSet v0 s).pending = s.pending := by
  simp only [confirmSet] <;>
    repeat' first | simp only [↓mk_pending, ↓pending_safEvent] | with_reducible refine (pending_foldl _ (fun s x => ?_) _ _).trans ?_ | split | rfl

theorem pending_opSafetyCheckConfirm (c s) : (stepState ((opSafetyCheckConfirm).run c s)).pending = s.pending := by
  simp only [opSafetyCheckConfirm, stepOp] <;>
    repeat' first | simp only [stepState_commit, stepState_finish, stepState_abort, stepState_wait, ↓mk_pending, ↓pending_confirmSet, ↓pending_safEvent] | with_reducible refine (pending_foldl _ (fun s x => ?_) _ _).trans ?_ | split | rfl

theorem pending_opSafetyStatus (c s) : (stepState ((opSafetyStatus).run c s)).pending = s.pending := by
  simp only [opSafetyStatus, readOp] <;>
    repeat' first | simp only [stepState_commit, stepState_finish, stepState_abort, stepState_wait, ↓mk_pending, ↓pending_readOp] | with_reducible refine (pending_foldl _ (fun s x => ?_) _ _).trans ?_ | split | rfl

theorem pending_opSafetyCheckRead (c s) : (stepState ((opSafetyCheckRead).run c s)).pending = s.pending := by
  simp only [opSafetyCheckRead, readOp] <;>
    repeat' first | simp only [stepState_commit, stepState_finish, stepState_abort, stepState_wait, ↓mk_pending, ↓pending_readOp] | with_reducible refine (pending_foldl _ (fun s x => ?_) _ _).trans ?_ | split | rfl

theorem pending_seeImage (s) : (seeImage s).pending = s.pending := by
  simp only [seeImage] <;>
    repeat' first | simp only [↓mk_pending, ↓pending_record] | with_reducible refine (pending_foldl _ (fun s x => ?_) _ _).trans ?_ | split | rfl

theorem pending_opMtrMailboxRead (c s) : (stepState ((opMtrMailboxRead).run c s)).pending = s.pending := by
  simp only [opMtrMailboxRead, stepOp] <;>
    repeat' first | simp only [stepState_commit, stepState_finish, stepState_abort, stepState_wait, ↓mk_pending, ↓pending_seeImage] | with_reducible refine (pending_foldl _ (fun s x => ?_) _ _).trans ?_ | split | rfl

theorem pending_opMtrIdentRead (c s) : (stepState ((opMtrIdentRead).run c s)).pending = s.pending := by
  simp only [opMtrIdentRead, readOp] <;>
    repeat' first | simp only [stepState_commit, stepState_finish, stepState_abort, stepState_wait, ↓mk_pending, ↓pending_readOp] | with_reducible refine (pending_foldl _ (fun s x => ?_) _ _).trans ?_ | split | rfl

theorem pending_opResetCauseClear (c s) : (stepState ((opResetCauseClear).run c s)).pending = s.pending := by
  simp only [opResetCauseClear, stepOp] <;>
    repeat' first | simp only [stepState_commit, stepState_finish, stepState_abort, stepState_wait, ↓mk_pending] | with_reducible refine (pending_foldl _ (fun s x => ?_) _ _).trans ?_ | split | rfl

theorem pending_opResetCauseRead (c s) : (stepState ((opResetCauseRead).run c s)).pending = s.pending := by
  simp only [opResetCauseRead, readOp] <;>
    repeat' first | simp only [stepState_commit, stepState_finish, stepState_abort, stepState_wait, ↓mk_pending, ↓pending_readOp] | with_reducible refine (pending_foldl _ (fun s x => ?_) _ _).trans ?_ | split | rfl

theorem pending_opReset (c s) : (stepState ((opReset).run c s)).pending = s.pending := by
  simp only [opReset, stepOp] <;>
    repeat' first | simp only [stepState_commit, stepState_finish, stepState_abort, stepState_wait, ↓mk_pending] | with_reducible refine (pending_foldl _ (fun s x => ?_) _ _).trans ?_ | split | rfl

theorem pending_opPwrStateSet (c s) : (stepState ((opPwrStateSet).run c s)).pending = s.pending := by
  simp only [opPwrStateSet, stepOp] <;>
    repeat' first | simp only [stepState_commit, stepState_finish, stepState_abort, stepState_wait, ↓mk_pending] | with_reducible refine (pending_foldl _ (fun s x => ?_) _ _).trans ?_ | split | rfl

theorem pending_opPwrStatus (c s) : (stepState ((opPwrStatus).run c s)).pending = s.pending := by
  simp only [opPwrStatus, readOp] <;>
    repeat' first | simp only [stepState_commit, stepState_finish, stepState_abort, stepState_wait, ↓mk_pending, ↓pending_readOp] | with_reducible refine (pending_foldl _ (fun s x => ?_) _ _).trans ?_ | split | rfl

theorem pending_runSignalRead (v0 s) : (stepState (runSignalRead v0 s)).pending = s.pending := by
  simp only [runSignalRead] <;>
    repeat' first | simp only [stepState_commit, stepState_finish, stepState_abort, stepState_wait, ↓mk_pending, ↓pending_sendFor, ↓pending_modEntry, ↓pending_modCmd] | with_reducible refine (pending_foldl _ (fun s x => ?_) _ _).trans ?_ | split | rfl

theorem pending_opSignalRead (c s) : (stepState ((opSignalRead).run c s)).pending = s.pending := by
  simp only [opSignalRead, stepOp] <;>
    repeat' first | simp only [stepState_commit, stepState_finish, stepState_abort, stepState_wait, ↓mk_pending, ↓pending_runSignalRead] | with_reducible refine (pending_foldl _ (fun s x => ?_) _ _).trans ?_ | split | rfl

theorem pending_opTableInfo (c s) : (stepState ((opTableInfo).run c s)).pending = s.pending := by
  simp only [opTableInfo, readOp] <;>
    repeat' first | simp only [stepState_commit, stepState_finish, stepState_abort, stepState_wait, ↓mk_pending, ↓pending_readOp] | with_reducible refine (pending_foldl _ (fun s x => ?_) _ _).trans ?_ | split | rfl

theorem pending_opRoleKeySet (c s) : (stepState ((opRoleKeySet).run c s)).pending = s.pending := by
  simp only [opRoleKeySet, stepOp] <;>
    repeat' first | simp only [stepState_commit, stepState_finish, stepState_abort, stepState_wait, ↓mk_pending] | with_reducible refine (pending_foldl _ (fun s x => ?_) _ _).trans ?_ | split | rfl

theorem pending_opConfigGet (c s) : (stepState ((opConfigGet).run c s)).pending = s.pending := by
  simp only [opConfigGet, readOp] <;>
    repeat' first | simp only [stepState_commit, stepState_finish, stepState_abort, stepState_wait, ↓mk_pending, ↓pending_readOp] | with_reducible refine (pending_foldl _ (fun s x => ?_) _ _).trans ?_ | split | rfl

theorem pending_frontEndWritten (s) : (frontEndWritten s).pending = s.pending := by
  simp only [frontEndWritten] <;>
    repeat' first | simp only [↓mk_pending] | with_reducible refine (pending_foldl _ (fun s x => ?_) _ _).trans ?_ | split | rfl

theorem pending_installTable (v0 v1 v2 s) : (installTable v0 v1 v2 s).pending = s.pending := by
  simp only [installTable] <;>
    repeat' first | simp only [↓mk_pending] | with_reducible refine (pending_foldl _ (fun s x => ?_) _ _).trans ?_ | split | rfl

theorem pending_runTableWrite (v0 s) : (stepState (runTableWrite v0 s)).pending = s.pending := by
  simp only [runTableWrite] <;>
    repeat' first | simp only [stepState_commit, stepState_finish, stepState_abort, stepState_wait, ↓mk_pending, ↓pending_installTable, ↓pending_frontEndWritten, ↓pending_finishWith] | with_reducible refine (pending_foldl _ (fun s x => ?_) _ _).trans ?_ | split | rfl

theorem pending_opTableWrite (c s) : (stepState ((opTableWrite).run c s)).pending = s.pending := by
  simp only [opTableWrite, stepOp] <;>
    repeat' first | simp only [stepState_commit, stepState_finish, stepState_abort, stepState_wait, ↓mk_pending, ↓pending_runTableWrite] | with_reducible refine (pending_foldl _ (fun s x => ?_) _ _).trans ?_ | split | rfl

theorem pending_scheduleSync (v0 v1 v2 s) : (scheduleSync v0 v1 v2 s).pending = s.pending := by
  simp only [scheduleSync] <;>
    repeat' first | simp only [↓mk_pending, ↓pending_requestSync] | with_reducible refine (pending_foldl _ (fun s x => ?_) _ _).trans ?_ | split | rfl

theorem pending_canRecoverAsk (v0 s) : (canRecoverAsk v0 s).pending = s.pending := by
  simp only [canRecoverAsk] <;>
    repeat' first | simp only [↓mk_pending] | with_reducible refine (pending_foldl _ (fun s x => ?_) _ _).trans ?_ | split | rfl

theorem pending_oneShot (v0 v1 s) : (oneShot v0 v1 s).pending = s.pending := by
  simp only [oneShot] <;>
    repeat' first | simp only [↓mk_pending, ↓pending_scheduleSync, ↓pending_canRecoverAsk] | with_reducible refine (pending_foldl _ (fun s x => ?_) _ _).trans ?_ | split | rfl

theorem pending_stageParam (v0 v1 v2 s) : (stageParam v0 v1 v2 s).pending = s.pending := by
  simp only [stageParam] <;>
    repeat' first | simp only [↓mk_pending] | with_reducible refine (pending_foldl _ (fun s x => ?_) _ _).trans ?_ | split | rfl

theorem pending_runConfigSet (v0 s) : (stepState (runConfigSet v0 s)).pending = s.pending := by
  simp only [runConfigSet] <;>
    repeat' first | simp only [stepState_commit, stepState_finish, stepState_abort, stepState_wait, ↓mk_pending, ↓pending_oneShot, ↓pending_stageParam, ↓pending_finishWith] | with_reducible refine (pending_foldl _ (fun s x => ?_) _ _).trans ?_ | split | rfl

theorem pending_opConfigSet (c s) : (stepState ((opConfigSet).run c s)).pending = s.pending := by
  simp only [opConfigSet, stepOp] <;>
    repeat' first | simp only [stepState_commit, stepState_finish, stepState_abort, stepState_wait, ↓mk_pending, ↓pending_runConfigSet] | with_reducible refine (pending_foldl _ (fun s x => ?_) _ _).trans ?_ | split | rfl

theorem pending_opSignalInfo (c s) : (stepState ((opSignalInfo).run c s)).pending = s.pending := by
  simp only [opSignalInfo, readOp] <;>
    repeat' first | simp only [stepState_commit, stepState_finish, stepState_abort, stepState_wait, ↓mk_pending, ↓pending_readOp] | with_reducible refine (pending_foldl _ (fun s x => ?_) _ _).trans ?_ | split | rfl

theorem pending_opTableRead (c s) : (stepState ((opTableRead).run c s)).pending = s.pending := by
  simp only [opTableRead, readOp] <;>
    repeat' first | simp only [stepState_commit, stepState_finish, stepState_abort, stepState_wait, ↓mk_pending, ↓pending_readOp] | with_reducible refine (pending_foldl _ (fun s x => ?_) _ _).trans ?_ | split | rfl

theorem pending_opSourceSelect (c s) : (stepState ((opSourceSelect).run c s)).pending = s.pending := by
  simp only [opSourceSelect, stepOp] <;>
    repeat' first | simp only [stepState_commit, stepState_finish, stepState_abort, stepState_wait, ↓mk_pending, ↓pending_finishWith] | with_reducible refine (pending_foldl _ (fun s x => ?_) _ _).trans ?_ | split | rfl

theorem pending_writeImage (s) : (writeImage s).pending = s.pending := by
  simp only [writeImage] <;>
    repeat' first | simp only [↓mk_pending] | with_reducible refine (pending_foldl _ (fun s x => ?_) _ _).trans ?_ | split | rfl

theorem pending_recordIdentities (s) : (recordIdentities s).pending = s.pending := by
  simp only [recordIdentities] <;>
    repeat' first | simp only [↓mk_pending] | with_reducible refine (pending_foldl _ (fun s x => ?_) _ _).trans ?_ | split | rfl

theorem pending_completeLock (v0 s) : (completeLock v0 s).pending = s.pending := by
  simp only [completeLock] <;>
    repeat' first | simp only [↓mk_pending, ↓pending_recordIdentities, ↓pending_record, ↓pending_pushEffect, ↓pending_abandonChain] | with_reducible refine (pending_foldl _ (fun s x => ?_) _ _).trans ?_ | split | rfl

theorem pending_runConfigLock (v0 s) : (stepState (runConfigLock v0 s)).pending = s.pending := by
  simp only [runConfigLock] <;>
    repeat' first | simp only [stepState_commit, stepState_finish, stepState_abort, stepState_wait, ↓mk_pending, ↓pending_writeImage, ↓pending_finishWith, ↓pending_pushEffect, ↓pending_completeLock] | with_reducible refine (pending_foldl _ (fun s x => ?_) _ _).trans ?_ | split | rfl

theorem pending_opConfigLock (c s) : (stepState ((opConfigLock).run c s)).pending = s.pending := by
  simp only [opConfigLock, stepOp] <;>
    repeat' first | simp only [stepState_commit, stepState_finish, stepState_abort, stepState_wait, ↓mk_pending, ↓pending_runConfigLock] | with_reducible refine (pending_foldl _ (fun s x => ?_) _ _).trans ?_ | split | rfl

theorem pending_opConfigUnlock (c s) : (stepState ((opConfigUnlock).run c s)).pending = s.pending := by
  simp only [opConfigUnlock, stepOp] <;>
    repeat' first | simp only [stepState_commit, stepState_finish, stepState_abort, stepState_wait, ↓mk_pending] | with_reducible refine (pending_foldl _ (fun s x => ?_) _ _).trans ?_ | split | rfl

theorem pending_opIdentityRead (c s) : (stepState ((opIdentityRead).run c s)).pending = s.pending := by
  simp only [opIdentityRead, readOp] <;>
    repeat' first | simp only [stepState_commit, stepState_finish, stepState_abort, stepState_wait, ↓mk_pending, ↓pending_readOp] | with_reducible refine (pending_foldl _ (fun s x => ?_) _ _).trans ?_ | split | rfl

theorem pending_noOp (v0 c s) : (stepState ((noOp v0).run c s)).pending = s.pending := by
  simp only [noOp, stepOp] <;>
    repeat' first | simp only [stepState_commit, stepState_finish, stepState_abort, stepState_wait, ↓mk_pending] | with_reducible refine (pending_foldl _ (fun s x => ?_) _ _).trans ?_ | split | rfl

theorem pending_opOf (n d) (e : opOf n = some d) : ∀ c s, (stepState (d.run c s)).pending = s.pending := by
  have h : ∀ d ∈ opDefs, ∀ c s, (stepState (d.run c s)).pending = s.pending := by
    simp only [opDefs, List.forall_mem_append, List.forall_mem_cons, List.forall_mem_nil]
    exact ⟨⟨⟨⟨⟨pending_opSessionAuth, pending_opSessionResync, pending_opSessionPing, pending_opSessionClose, pending_opTagAbort, pending_opConfigLock, pending_opConfigUnlock, pending_opConfigSet, pending_opConfigGet, pending_opTableWrite, pending_opTableRead, pending_opTableInfo, pending_opSignalRead, pending_opSignalInfo, pending_opSourceSelect, nofun⟩, ⟨pending_opModeSet, pending_opControlStatus, pending_opSetpointSet, pending_opSetpointGet, pending_opJoystickSet, pending_opThrusterAvail, (pending_opStop 0x03F0), pending_opGnssStatus, pending_opGnssRawRead, pending_opRtcmInput, pending_opNavBitsRead, pending_opTimeGet, pending_opTimeSet, pending_opTimeStep, pending_opTimeRate, pending_opTxStampRead, nofun⟩⟩, ⟨pending_opStructLoad, pending_opStructUpdate, pending_opSolve, pending_opStructDrop, pending_opMapWrite, pending_opMapRead, pending_opMapStatus, pending_opGroupStatus, pending_opRoleSet, pending_opHandoverRequest, pending_opHealthRead, nofun⟩⟩, ⟨pending_opSafetyStatus, pending_opSafetyParamWrite, pending_opSafetyCheckRead, pending_opSafetyCheckConfirm, (pending_opBrakeTest []), pending_opTripReset, (pending_opStop 0x08F0), pending_opMtrMailboxRead, pending_opMtrIdentRead, pending_opEvtInfo, pending_opEvtRead, pending_opEvtClear, nofun⟩⟩, ⟨pending_opPwrStatus, pending_opPwrStateSet, pending_opReset, pending_opResetCauseRead, pending_opResetCauseClear, pending_opIdentityRead, pending_opModuleList, pending_opModuleRead, pending_opModuleAccept, pending_opModuleRescan, pending_opRoleKeySet, pending_opJournalQuery, pending_opJournalList, pending_opJournalRejects, nofun⟩⟩
  exact h d (List.mem_of_find?_eq_some e)

theorem pending_freshen (s) : (freshen s).pending = s.pending := by
  simp only [freshen] <;>
    repeat' first | simp only [↓mk_pending] | with_reducible refine (pending_foldl _ (fun s x => ?_) _ _).trans ?_ | split | rfl

theorem pending_gridView (s) : (gridView s).pending = s.pending := by
  simp only [gridView] <;>
    repeat' first | simp only [↓mk_pending] | with_reducible refine (pending_foldl _ (fun s x => ?_) _ _).trans ?_ | split | rfl

theorem pending_railBelow (v0 v1 s) : (railBelow v0 v1 s).pending = s.pending := by
  simp only [railBelow] <;>
    repeat' first | simp only [↓mk_pending] | with_reducible refine (pending_foldl _ (fun s x => ?_) _ _).trans ?_ | split | rfl

theorem pending_railsUp (v0 s) : (railsUp v0 s).pending = s.pending := by
  simp only [railsUp] <;>
    repeat' first | simp only [↓mk_pending] | with_reducible refine (pending_foldl _ (fun s x => ?_) _ _).trans ?_ | split | rfl

theorem pending_newEntry (v0 s) : (newEntry v0 s).pending = s.pending := by
  simp only [newEntry] <;>
    repeat' first | simp only [↓mk_pending] | with_reducible refine (pending_foldl _ (fun s x => ?_) _ _).trans ?_ | split | rfl

theorem pending_closeSession (v0 s) : (closeSession v0 s).pending = s.pending := by
  simp only [closeSession] <;>
    repeat' first | simp only [↓mk_pending, ↓pending_abandonTag, ↓pending_endCmd, ↓pending_modSlot] | with_reducible refine (pending_foldl _ (fun s x => ?_) _ _).trans ?_ | split | rfl

theorem pending_runCmd (d : OpDef) (h : ∀ c s, (stepState (d.run c s)).pending = s.pending) (n e s) : (runCmd d n e s).pending = s.pending := by
  induction n generalizing s with
  | zero => rfl
  | succ n ih =>
    unfold runCmd
    split
    · rfl
    · rename_i c _
      split
      · rfl
      · simp only
        generalize hq : (modCmd e (fun c => { c with started := true }) (if c.started then s
          else modEntry e false (fun j => { j with state := .started }) s)) = t
        have ht : t.pending = s.pending := by
          rw [← hq, pending_modCmd]; split
          · rfl
          · rw [pending_modEntry]
        generalize (if c.started = true then 0 else d.check c s) = st
        by_cases hs : st ≠ 0
        · rw [if_pos hs, pending_endCmd, ht]
        · rw [if_neg hs]
          have h3 := (h { c with started := true } t).trans ht
          revert h3
          generalize d.run { c with started := true } t = res
          intro h3
          cases res <;> simp only [stepState] at h3 <;> simp only <;>
            (repeat' first | exact h3 | rw [ih] | rw [pending_endCmd] | rw [pending_modCmd] | rw [pending_modEntry] | rw [pending_closeSession] | split)

theorem pending_accept (d : OpDef) (h : ∀ c s, (stepState (d.run c s)).pending = s.pending) (v1 v2 v3 v4 v5 s) : (accept d v1 v2 v3 v4 v5 s).pending = s.pending := by
  simp only [accept, pending_runCmd d h]
  split
  · rfl
  · rw [pending_putTag]; rfl

theorem pending_countReject (v0 v1 s) : (countReject v0 v1 s).pending = s.pending := by
  simp only [countReject] <;>
    repeat' first | simp only [↓mk_pending, ↓pending_modSlot] | with_reducible refine (pending_foldl _ (fun s x => ?_) _ _).trans ?_ | split | rfl

theorem pending_reject (v0 v1 v2 v3 v4 s) : (reject v0 v1 v2 v3 v4 s).pending = s.pending := by
  simp only [reject] <;>
    repeat' first | simp only [↓mk_pending, ↓pending_countReject, ↓pending_sendReply] | with_reducible refine (pending_foldl _ (fun s x => ?_) _ _).trans ?_ | split | rfl

theorem pending_spoilTag (v0 v1 v2 v3 v4 v5 v6 s) : (spoilTag v0 v1 v2 v3 v4 v5 v6 s).pending = s.pending := by
  simp only [spoilTag] <;>
    repeat' first | simp only [↓mk_pending, ↓pending_countReject, ↓pending_putTag, ↓pending_sendReply] | with_reducible refine (pending_foldl _ (fun s x => ?_) _ _).trans ?_ | split | rfl

theorem pending_newCommand (d : OpDef) (h : ∀ c s, (stepState (d.run c s)).pending = s.pending) (v1 v2 v3 s) : (newCommand d v1 v2 v3 s).pending = s.pending := by
  simp only [newCommand]
  repeat' first | rfl | simp only [pending_accept d h, pending_spoilTag, pending_spoilTag, pending_countReject, pending_reject, pending_sendReply, pending_modSlot, pending_putTag] | split

theorem pending_furtherFragment (d : OpDef) (h : ∀ c s, (stepState (d.run c s)).pending = s.pending) (v1 v2 v3 s) : (furtherFragment d v1 v2 v3 s).pending = s.pending := by
  simp only [furtherFragment]
  repeat' first | rfl | simp only [pending_accept d h, pending_spoilTag, pending_spoilTag, pending_countReject, pending_abandonTag, pending_putTag] | split

theorem pending_duplicate (v0 v1 v2 s) : (duplicate v0 v1 v2 s).pending = s.pending := by
  simp only [duplicate] <;>
    repeat' first | simp only [↓mk_pending, ↓pending_sendReplies, ↓pending_reject, ↓pending_sendReply] | with_reducible refine (pending_foldl _ (fun s x => ?_) _ _).trans ?_ | split | rfl

theorem pending_bySequence (d : OpDef) (h : ∀ c s, (stepState (d.run c s)).pending = s.pending) (v1 v2 v3 s) : (bySequence d v1 v2 v3 s).pending = s.pending := by
  simp only [bySequence]
  repeat' first | rfl | simp only [pending_newCommand d h, pending_furtherFragment d h, pending_duplicate, pending_reject] | split

theorem pending_takeBuffer (v0 v1 v2 s) : (takeBuffer v0 v1 v2 s).pending = s.pending := by
  simp only [takeBuffer] <;>
    repeat' first | simp only [↓mk_pending] | with_reducible refine (pending_foldl _ (fun s x => ?_) _ _).trans ?_ | split | rfl

theorem pending_packetIn (v0) (d : OpDef) (v2 v3 s) (h : ∀ c s, (stepState (d.run c s)).pending = s.pending) : (packetIn v0 d v2 v3 s).pending = s.pending := by
  simp only [packetIn]
  repeat' first | rfl | simp only [pending_bySequence d h, pending_accept d h, pending_reject, pending_modSlot, pending_takeBuffer] | split

theorem pending_dropSignal (v0 s) : (dropSignal v0 s).pending = s.pending := by
  simp only [dropSignal] <;>
    repeat' first | simp only [↓mk_pending] | with_reducible refine (pending_foldl _ (fun s x => ?_) _ _).trans ?_ | split | rfl

theorem pending_markBad (v0 s) : (markBad v0 s).pending = s.pending := by
  simp only [markBad] <;>
    repeat' first | simp only [↓mk_pending] | with_reducible refine (pending_foldl _ (fun s x => ?_) _ _).trans ?_ | split | rfl

theorem pending_pruneSignals (v0 s) : (pruneSignals v0 s).pending = s.pending := by
  simp only [pruneSignals] <;>
    repeat' first | simp only [↓mk_pending] | with_reducible refine (pending_foldl _ (fun s x => ?_) _ _).trans ?_ | split | rfl

theorem pending_publishAs (v0 v1 s) : (publishAs v0 v1 s).pending = s.pending := by
  simp only [publishAs] <;>
    repeat' first | simp only [↓mk_pending] | with_reducible refine (pending_foldl _ (fun s x => ?_) _ _).trans ?_ | split | rfl

theorem pending_publish (v0 v1 s) : (publish v0 v1 s).pending = s.pending := by
  simp only [publish] <;>
    repeat' first | simp only [↓mk_pending, ↓pending_publishAs] | with_reducible refine (pending_foldl _ (fun s x => ?_) _ _).trans ?_ | split | rfl

theorem pending_startSignal (v0 s) : (startSignal v0 s).pending = s.pending := by
  simp only [startSignal] <;>
    repeat' first | simp only [↓mk_pending] | with_reducible refine (pending_foldl _ (fun s x => ?_) _ _).trans ?_ | split | rfl

theorem pending_execArpIcmpRequest (v0 v1 v2 s) : (after s (execArpIcmpRequest v0 v1 v2 s)).pending = s.pending := by
  simp only [execArpIcmpRequest] <;>
    repeat' first | simp only [after_next, ↓mk_pending, ↓pending_emit] | with_reducible refine (pending_foldl _ (fun s x => ?_) _ _).trans ?_ | split | rfl

theorem pending_expire (v0 v1 v2 s) : (expire v0 v1 v2 s).pending = s.pending := by
  simp only [expire] <;>
    repeat' first | simp only [↓mk_pending, ↓pending_closeSession, ↓pending_record] | with_reducible refine (pending_foldl _ (fun s x => ?_) _ _).trans ?_ | split | rfl

theorem pending_execAuthTimeout (v0 s) : (after s (execAuthTimeout v0 s)).pending = s.pending := by
  simp only [execAuthTimeout] <;>
    repeat' first | simp only [after_next, ↓mk_pending, ↓pending_expire, ↓pending_elapseTo] | with_reducible refine (pending_foldl _ (fun s x => ?_) _ _).trans ?_ | split | rfl

theorem pending_execFragGapExpiry (v0 v1 s) : (after s (execFragGapExpiry v0 v1 s)).pending = s.pending := by
  simp only [execFragGapExpiry] <;>
    repeat' first | simp only [after_next, ↓mk_pending, ↓pending_abandonTag, ↓pending_elapseTo] | with_reducible refine (pending_foldl _ (fun s x => ?_) _ _).trans ?_ | split | rfl

theorem pending_execFragTotalExpiry (v0 v1 s) : (after s (execFragTotalExpiry v0 v1 s)).pending = s.pending := by
  simp only [execFragTotalExpiry] <;>
    repeat' first | simp only [after_next, ↓mk_pending, ↓pending_abandonTag, ↓pending_elapseTo] | with_reducible refine (pending_foldl _ (fun s x => ?_) _ _).trans ?_ | split | rfl

theorem pending_execInterimAcceptedReply (v0 s) : (after s (execInterimAcceptedReply v0 s)).pending = s.pending := by
  simp only [execInterimAcceptedReply] <;>
    repeat' first | simp only [after_next, ↓mk_pending, ↓pending_elapseTo, ↓pending_sendFor, ↓pending_modCmd] | with_reducible refine (pending_foldl _ (fun s x => ?_) _ _).trans ?_ | split | rfl

theorem pending_flushJournal (s) : (flushJournal s).pending = s.pending := by
  simp only [flushJournal] <;>
    repeat' first | simp only [↓mk_pending] | with_reducible refine (pending_foldl _ (fun s x => ?_) _ _).trans ?_ | split | rfl

theorem pending_execJournalBufferFlush (s) : (after s (execJournalBufferFlush s)).pending = s.pending := by
  simp only [execJournalBufferFlush] <;>
    repeat' first | simp only [after_next, ↓mk_pending, ↓pending_flushJournal] | with_reducible refine (pending_foldl _ (fun s x => ?_) _ _).trans ?_ | split | rfl

theorem pending_execJournalList (v0 v1 s) : (after s (execJournalList v0 v1 s)).pending = s.pending :=
  pending_packetIn _ _ _ _ _ pending_opJournalList

theorem pending_execJournalQuery (v0 v1 s) : (after s (execJournalQuery v0 v1 s)).pending = s.pending :=
  pending_packetIn _ _ _ _ _ pending_opJournalQuery

theorem pending_execJournalRejects (v0 v1 s) : (after s (execJournalRejects v0 v1 s)).pending = s.pending :=
  pending_packetIn _ _ _ _ _ pending_opJournalRejects

theorem pending_execLockoutExpiry (v0 s) : (after s (execLockoutExpiry v0 s)).pending = s.pending := by
  simp only [execLockoutExpiry] <;>
    repeat' first | simp only [after_next, ↓mk_pending, ↓pending_elapseTo] | with_reducible refine (pending_foldl _ (fun s x => ?_) _ _).trans ?_ | split | rfl

theorem pending_execReadPacket (v0 s) : (after s (execReadPacket v0 s)).pending = s.pending := by
  simp only [execReadPacket] <;>
    repeat' first | simp only [after_next, ↓mk_pending, ↓pending_emit] | with_reducible refine (pending_foldl _ (fun s x => ?_) _ _).trans ?_ | split | rfl

theorem pending_execSessionAuth (v0 v1 s) : (after s (execSessionAuth v0 v1 s)).pending = s.pending :=
  pending_packetIn _ _ _ _ _ pending_opSessionAuth

theorem pending_execSessionClose (v0 v1 s) : (after s (execSessionClose v0 v1 s)).pending = s.pending :=
  pending_packetIn _ _ _ _ _ pending_opSessionClose

theorem pending_execSessionIdleExpiry (v0 s) : (after s (execSessionIdleExpiry v0 s)).pending = s.pending := by
  simp only [execSessionIdleExpiry] <;>
    repeat' first | simp only [after_next, ↓mk_pending, ↓pending_expire, ↓pending_elapseTo] | with_reducible refine (pending_foldl _ (fun s x => ?_) _ _).trans ?_ | split | rfl

theorem pending_sessionOpenPacket (v0 v1 s) : (sessionOpenPacket v0 v1 s).pending = s.pending := by
  simp only [sessionOpenPacket] <;>
    repeat' first | simp only [↓mk_pending, ↓pending_takeBuffer, ↓pending_reject, ↓pending_sendReply] | with_reducible refine (pending_foldl _ (fun s x => ?_) _ _).trans ?_ | split | rfl

theorem pending_execSessionOpen (v0 v1 s) : (after s (execSessionOpen v0 v1 s)).pending = s.pending := by
  simp only [execSessionOpen] <;>
    repeat' first | simp only [after_next, ↓mk_pending, ↓pending_sessionOpenPacket] | with_reducible refine (pending_foldl _ (fun s x => ?_) _ _).trans ?_ | split | rfl

theorem pending_execSessionPing (v0 v1 s) : (after s (execSessionPing v0 v1 s)).pending = s.pending :=
  pending_packetIn _ _ _ _ _ pending_opSessionPing

theorem pending_execSessionResync (v0 v1 s) : (after s (execSessionResync v0 v1 s)).pending = s.pending :=
  pending_packetIn _ _ _ _ _ pending_opSessionResync

theorem pending_execTagAbort (v0 v1 s) : (after s (execTagAbort v0 v1 s)).pending = s.pending :=
  pending_packetIn _ _ _ _ _ pending_opTagAbort

theorem pending_execWritePacket (v0 v1 s) : (after s (execWritePacket v0 v1 s)).pending = s.pending := by
  simp only [execWritePacket] <;>
    repeat' first | simp only [after_next, ↓mk_pending] | with_reducible refine (pending_foldl _ (fun s x => ?_) _ _).trans ?_ | split | rfl

theorem pending_askSearch (s v1) : (askSearch s v1).pending = s.pending := by
  simp only [askSearch] <;>
    repeat' first | simp only [↓mk_pending] | with_reducible refine (pending_foldl _ (fun s x => ?_) _ _).trans ?_ | split | rfl

theorem pending_modChan (v0 v1 s) : (modChan v0 v1 s).pending = s.pending := by
  simp only [modChan] <;>
    repeat' first | simp only [↓mk_pending] | with_reducible refine (pending_foldl _ (fun s x => ?_) _ _).trans ?_ | split | rfl

theorem pending_assignOne (s) : (assignOne s).pending = s.pending := by
  simp only [assignOne] <;>
    repeat' first | simp only [↓mk_pending, ↓pending_modChan] | with_reducible refine (pending_foldl _ (fun s x => ?_) _ _).trans ?_ | split | rfl

theorem pending_modBand (v0 v1 s) : (modBand v0 v1 s).pending = s.pending := by
  simp only [modBand] <;>
    repeat' first | simp only [↓mk_pending] | with_reducible refine (pending_foldl _ (fun s x => ?_) _ _).trans ?_ | split | rfl

theorem pending_bandFault (v0 s) : (bandFault v0 s).pending = s.pending := by
  simp only [bandFault] <;>
    repeat' first | simp only [↓mk_pending, ↓pending_modBand, ↓pending_record] | with_reducible refine (pending_foldl _ (fun s x => ?_) _ _).trans ?_ | split | rfl

theorem pending_checkBand (v0 v1 s) : (checkBand v0 v1 s).pending = s.pending := by
  simp only [checkBand] <;>
    repeat' first | simp only [↓mk_pending, ↓pending_modBand, ↓pending_bandFault] | with_reducible refine (pending_foldl _ (fun s x => ?_) _ _).trans ?_ | split | rfl

theorem pending_copyEphemeris (s) : (copyEphemeris s).pending = s.pending := by
  simp only [copyEphemeris] <;>
    repeat' first | simp only [↓mk_pending] | with_reducible refine (pending_foldl _ (fun s x => ?_) _ _).trans ?_ | split | rfl

theorem pending_disturb (v0 s) : (disturb v0 s).pending = s.pending := by
  simp only [disturb] <;>
    repeat' first | simp only [↓mk_pending] | with_reducible refine (pending_foldl _ (fun s x => ?_) _ _).trans ?_ | split | rfl

theorem pending_execAgcUpdate (v0 v1 s) : (after s (execAgcUpdate v0 v1 s)).pending = s.pending := by
  simp only [execAgcUpdate] <;>
    repeat' first | simp only [after_next, ↓mk_pending, ↓pending_elapseTo, ↓pending_modBand, ↓pending_bandFault] | with_reducible refine (pending_foldl _ (fun s x => ?_) _ _).trans ?_ | split | rfl

theorem pending_execBandClockCheck (v0 s) : (after s (execBandClockCheck v0 s)).pending = s.pending := by
  simp only [execBandClockCheck] <;>
    repeat' first | simp only [after_next, ↓mk_pending, ↓pending_elapseTo, ↓pending_checkBand] | with_reducible refine (pending_foldl _ (fun s x => ?_) _ _).trans ?_ | split | rfl

theorem pending_execBandHealthy (v0 s) : (after s (execBandHealthy v0 s)).pending = s.pending := by
  simp only [execBandHealthy] <;>
    repeat' first | simp only [after_next, ↓mk_pending, ↓pending_elapseTo, ↓pending_modBand] | with_reducible refine (pending_foldl _ (fun s x => ?_) _ _).trans ?_ | split | rfl

theorem pending_searchOne (s) : (searchOne s).pending = s.pending := by
  unfold searchOne
  split
  · rfl
  · extract_lets next
    cases next with
    | none => rfl
    | some i => exact pending_modChan _ _ _

theorem pending_serveSearches (s) : (serveSearches s).pending = s.pending := by
  simp only [serveSearches] <;>
    repeat' first | simp only [↓mk_pending, ↓pending_assignOne, ↓pending_searchOne] | with_reducible refine (pending_foldl _ (fun s x => ?_) _ _).trans ?_ | split | rfl

theorem pending_execChannelLossOfLock (v0 s) : (after s (execChannelLossOfLock v0 s)).pending = s.pending := by
  simp only [execChannelLossOfLock] <;>
    repeat' first | simp only [after_next, ↓mk_pending, ↓pending_elapseTo, ↓pending_serveSearches, ↓pending_modChan] | with_reducible refine (pending_foldl _ (fun s x => ?_) _ _).trans ?_ | split | rfl

theorem pending_execEphemerisCopy (s) : (after s (execEphemerisCopy s)).pending = s.pending := by
  simp only [execEphemerisCopy] <;>
    repeat' first | simp only [after_next, ↓mk_pending, ↓pending_copyEphemeris, ↓pending_elapseTo] | with_reducible refine (pending_foldl _ (fun s x => ?_) _ _).trans ?_ | split | rfl

theorem pending_sendEntry (v0 s) : (sendEntry v0 s).pending = s.pending := by
  simp only [sendEntry] <;>
    repeat' first | simp only [↓mk_pending, ↓pending_emit] | with_reducible refine (pending_foldl _ (fun s x => ?_) _ _).trans ?_ | split | rfl

theorem pending_sendFrontEnd (v0 s) : (sendFrontEnd v0 s).pending = s.pending := by
  simp only [sendFrontEnd] <;>
    repeat' first | simp only [↓mk_pending, ↓pending_sendEntry] | with_reducible refine (pending_foldl _ (fun s x => ?_) _ _).trans ?_ | split | rfl

theorem pending_execFrontEndReplay (v0 s) : (after s (execFrontEndReplay v0 s)).pending = s.pending := by
  simp only [execFrontEndReplay] <;>
    repeat' first | simp only [after_next, ↓mk_pending, ↓pending_elapseTo, ↓pending_modBand, ↓pending_sendFrontEnd] | with_reducible refine (pending_foldl _ (fun s x => ?_) _ _).trans ?_ | split | rfl

theorem pending_execGnssJamming (v0 s) : (after s (execGnssJamming v0 s)).pending = s.pending := by
  simp only [execGnssJamming] <;>
    repeat' first | simp only [after_next, ↓mk_pending, ↓pending_record, ↓pending_modBand, ↓pending_elapseTo] | with_reducible refine (pending_foldl _ (fun s x => ?_) _ _).trans ?_ | split | rfl

theorem pending_execGnssRawPublish (s) : (after s (execGnssRawPublish s)).pending = s.pending := by
  simp only [execGnssRawPublish] <;>
    repeat' first | simp only [after_next, ↓mk_pending, ↓pending_countTo] | with_reducible refine (pending_foldl _ (fun s x => ?_) _ _).trans ?_ | split | rfl

theorem pending_execGnssRawRead (v0 v1 s) : (after s (execGnssRawRead v0 v1 s)).pending = s.pending :=
  pending_packetIn _ _ _ _ _ pending_opGnssRawRead

theorem pending_publishSol (v0 v1 v2 s) : (publishSol v0 v1 v2 s).pending = s.pending := by
  simp only [publishSol] <;>
    repeat' first | simp only [↓mk_pending, ↓pending_publishAs] | with_reducible refine (pending_foldl _ (fun s x => ?_) _ _).trans ?_ | split | rfl

theorem pending_publishBase (v0 v1 v2 s) : (publishBase v0 v1 v2 s).pending = s.pending := by
  simp only [publishBase] <;>
    repeat' first | simp only [↓mk_pending, ↓pending_publishAs] | with_reducible refine (pending_foldl _ (fun s x => ?_) _ _).trans ?_ | split | rfl

theorem pending_execGnssSolutionPublish (v0 v1 s) : (after s (execGnssSolutionPublish v0 v1 s)).pending = s.pending := by
  simp only [execGnssSolutionPublish] <;>
    repeat' first | simp only [after_next, ↓mk_pending, ↓pending_countTo, ↓pending_publishSol, ↓pending_publishBase] | with_reducible refine (pending_foldl _ (fun s x => ?_) _ _).trans ?_ | split | rfl

theorem pending_execGnssStatus (v0 v1 s) : (after s (execGnssStatus v0 v1 s)).pending = s.pending :=
  pending_packetIn _ _ _ _ _ pending_opGnssStatus

theorem pending_execJamIndicator (v0 s) : (after s (execJamIndicator v0 s)).pending = s.pending := by
  simp only [execJamIndicator] <;>
    repeat' first | simp only [after_next, ↓mk_pending, ↓pending_elapseTo, ↓pending_modBand] | with_reducible refine (pending_foldl _ (fun s x => ?_) _ _).trans ?_ | split | rfl

theorem pending_leaveJobs (s) : (leaveJobs s).pending = s.pending := by
  simp only [leaveJobs] <;>
    repeat' first | simp only [↓mk_pending] | with_reducible refine (pending_foldl _ (fun s x => ?_) _ _).trans ?_ | split | rfl

theorem pending_solveEpoch (v0 v1 v2 s) : (solveEpoch v0 v1 v2 s).pending = s.pending := by
  simp only [solveEpoch] <;>
    repeat' first | simp only [↓mk_pending, ↓pending_record] | with_reducible refine (pending_foldl _ (fun s x => ?_) _ _).trans ?_ | split | rfl

theorem pending_execMeasurementEpoch (v0 v1 v2 s) : (after s (execMeasurementEpoch v0 v1 v2 s)).pending = s.pending := by
  simp only [execMeasurementEpoch] <;>
    repeat' first | simp only [after_next, ↓mk_pending, ↓pending_countTo, ↓pending_leaveJobs, ↓pending_solveEpoch] | with_reducible refine (pending_foldl _ (fun s x => ?_) _ _).trans ?_ | split | rfl

theorem pending_execNavBitsRead (v0 v1 s) : (after s (execNavBitsRead v0 v1 s)).pending = s.pending :=
  pending_packetIn _ _ _ _ _ pending_opNavBitsRead

theorem pending_useUnit (v0 v1 v2 s) : (useUnit v0 v1 v2 s).pending = s.pending := by
  simp only [useUnit] <;>
    repeat' first | simp only [↓mk_pending, ↓pending_publish] | with_reducible refine (pending_foldl _ (fun s x => ?_) _ _).trans ?_ | split | rfl

theorem pending_execNavUnitDecoded (v0 v1 s) : (after s (execNavUnitDecoded v0 v1 s)).pending = s.pending := by
  simp only [execNavUnitDecoded] <;>
    repeat' first | simp only [after_next, ↓mk_pending, ↓pending_modChan, ↓pending_useUnit] | with_reducible refine (pending_foldl _ (fun s x => ?_) _ _).trans ?_ | split | rfl

theorem pending_execNotchUpdate (v0 v1 v2 s) : (after s (execNotchUpdate v0 v1 v2 s)).pending = s.pending := by
  simp only [execNotchUpdate] <;>
    repeat' first | simp only [after_next, ↓mk_pending, ↓pending_elapseTo, ↓pending_modBand, ↓pending_disturb] | with_reducible refine (pending_foldl _ (fun s x => ?_) _ _).trans ?_ | split | rfl

theorem pending_execRtcmInput (v0 v1 s) : (after s (execRtcmInput v0 v1 s)).pending = s.pending :=
  pending_packetIn _ _ _ _ _ pending_opRtcmInput

theorem pending_execSearchComplete (v0 v1 v2 s) : (after s (execSearchComplete v0 v1 v2 s)).pending = s.pending := by
  simp only [execSearchComplete] <;>
    repeat' first | simp only [after_next, ↓mk_pending, ↓pending_elapseTo, ↓pending_serveSearches, ↓pending_modChan] | with_reducible refine (pending_foldl _ (fun s x => ?_) _ _).trans ?_ | split | rfl

theorem pending_loopStart (v0 s) : (loopStart v0 s).pending = s.pending := by
  simp only [loopStart] <;>
    repeat' first | simp only [↓mk_pending, ↓pending_elapseTo, ↓pending_serveSearches, ↓pending_askSearch] | with_reducible refine (pending_foldl _ (fun s x => ?_) _ _).trans ?_ | split | rfl

theorem pending_execTrackingLoop (v0 v1 v2 s) : (after s (execTrackingLoop v0 v1 v2 s)).pending = s.pending := by
  simp only [execTrackingLoop] <;>
    repeat' first | simp only [after_next, ↓mk_pending, ↓pending_modChan, ↓pending_loopStart] | with_reducible refine (pending_foldl _ (fun s x => ?_) _ _).trans ?_ | split | rfl

theorem pending_startFrontEnd (s) : (startFrontEnd s).pending = s.pending := by
  simp only [startFrontEnd] <;>
    repeat' first | simp only [↓mk_pending, ↓pending_sendEntry] | with_reducible refine (pending_foldl _ (fun s x => ?_) _ _).trans ?_ | split | rfl

theorem pending_gnssStart (s) : (gnssStart s).pending = s.pending := by
  simp only [gnssStart] <;>
    repeat' first | simp only [↓mk_pending, ↓pending_startFrontEnd] | with_reducible refine (pending_foldl _ (fun s x => ?_) _ _).trans ?_ | split | rfl

theorem pending_solutionsStop (s) : (solutionsStop s).pending = s.pending := by
  simp only [solutionsStop] <;>
    repeat' first | simp only [↓mk_pending] | with_reducible refine (pending_foldl _ (fun s x => ?_) _ _).trans ?_ | split | rfl

theorem pending_markOutput (v0 s) : (markOutput v0 s).pending = s.pending := by
  unfold markOutput
  cases acqCfg s v0 with
  | none => rfl
  | some k => exact pending_markBad _ _

theorem pending_applySync (v0 v1 v2 s) : (applySync v0 v1 v2 s).pending = s.pending := by
  simp only [applySync] <;>
    repeat' first | simp only [↓mk_pending, ↓pending_phaseOn, ↓pending_markOutput, ↓pending_record] | with_reducible refine (pending_foldl _ (fun s x => ?_) _ _).trans ?_ | split | rfl

theorem pending_runClocks (s) : (runClocks s).pending = s.pending := by
  simp only [runClocks] <;>
    repeat' first | simp only [↓mk_pending] | with_reducible refine (pending_foldl _ (fun s x => ?_) _ _).trans ?_ | split | rfl

theorem pending_modAcq (v0 v1 s) : (modAcq v0 v1 s).pending = s.pending := by
  simp only [modAcq] <;>
    repeat' first | simp only [↓mk_pending] | with_reducible refine (pending_foldl _ (fun s x => ?_) _ _).trans ?_ | split | rfl

theorem pending_startChan (v0 v1 s) : (startChan v0 v1 s).pending = s.pending := by
  simp only [startChan] <;>
    repeat' first | simp only [↓mk_pending, ↓pending_startSignal, ↓pending_modAcq] | with_reducible refine (pending_foldl _ (fun s x => ?_) _ _).trans ?_ | split | rfl

theorem pending_acqBoundary (v0 s) : (acqBoundary v0 s).pending = s.pending := by
  simp only [acqBoundary] <;>
    repeat' first | simp only [↓mk_pending, ↓pending_scheduleSync, ↓pending_applySync, ↓pending_runClocks, ↓pending_startChan, ↓pending_modAcq, ↓pending_publish] | with_reducible refine (pending_foldl _ (fun s x => ?_) _ _).trans ?_ | split | rfl

theorem pending_acqFault (v0 s) : (acqFault v0 s).pending = s.pending := by
  simp only [acqFault] <;>
    repeat' first | simp only [↓mk_pending, ↓pending_record, ↓pending_markOutput, ↓pending_modAcq] | with_reducible refine (pending_foldl _ (fun s x => ?_) _ _).trans ?_ | split | rfl

theorem pending_acqPublish (v0 v1 v2 v3 s) : (acqPublish v0 v1 v2 v3 s).pending = s.pending := by
  simp only [acqPublish] <;>
    repeat' first | simp only [↓mk_pending, ↓pending_publishAs] | with_reducible refine (pending_foldl _ (fun s x => ?_) _ _).trans ?_ | split | rfl

theorem pending_acqStep (v0 v1 s v3) : (acqStep v0 v1 s v3).pending = s.pending := by
  simp only [acqStep] <;>
    repeat' first | simp only [↓mk_pending, ↓pending_modAcq, ↓pending_countTo, ↓pending_acqFault, ↓pending_record, ↓pending_acqPublish] | with_reducible refine (pending_foldl _ (fun s x => ?_) _ _).trans ?_ | split | rfl

theorem pending_acqStop (s) : (acqStop s).pending = s.pending := by
  simp only [acqStop] <;>
    repeat' first | simp only [↓mk_pending] | with_reducible refine (pending_foldl _ (fun s x => ?_) _ _).trans ?_ | split | rfl

theorem pending_execAcqModFault (v0 s) : (after s (execAcqModFault v0 s)).pending = s.pending := by
  simp only [execAcqModFault] <;>
    repeat' first | simp only [after_next, ↓mk_pending, ↓pending_acqFault] | with_reducible refine (pending_foldl _ (fun s x => ?_) _ _).trans ?_ | split | rfl

theorem pending_execAcqOutput (v0 v1 s) : (after s (execAcqOutput v0 v1 s)).pending = s.pending := by
  simp only [execAcqOutput] <;>
    repeat' first | simp only [after_next, ↓mk_pending, ↓pending_acqStep] | with_reducible refine (pending_foldl _ (fun s x => ?_) _ _).trans ?_ | split | rfl

theorem pending_execAcqSync (s) : (after s (execAcqSync s)).pending = s.pending := by
  simp only [execAcqSync] <;>
    repeat' first | simp only [after_next, ↓mk_pending, ↓pending_applySync, ↓pending_countTo] | with_reducible refine (pending_foldl _ (fun s x => ?_) _ _).trans ?_ | split | rfl

theorem pending_execAcqSyncPinEdge (v0 s) : (after s (execAcqSyncPinEdge v0 s)).pending = s.pending := by
  simp only [execAcqSyncPinEdge] <;>
    repeat' first | simp only [after_next, ↓mk_pending, ↓pending_requestSync] | with_reducible refine (pending_foldl _ (fun s x => ?_) _ _).trans ?_ | split | rfl

theorem pending_execModFaultClear (v0 s) : (after s (execModFaultClear v0 s)).pending = s.pending := by
  simp only [execModFaultClear] <;>
    repeat' first | simp only [after_next, ↓mk_pending, ↓pending_elapseTo, ↓pending_modAcq] | with_reducible refine (pending_foldl _ (fun s x => ?_) _ _).trans ?_ | split | rfl

theorem pending_execSettlingEnd (v0 s) : (after s (execSettlingEnd v0 s)).pending = s.pending := by
  simp only [execSettlingEnd] <;>
    repeat' first | simp only [after_next, ↓mk_pending, ↓pending_countTo, ↓pending_modAcq] | with_reducible refine (pending_foldl _ (fun s x => ?_) _ _).trans ?_ | split | rfl

theorem pending_thresholdsOff (s) : (thresholdsOff s).pending = s.pending := by
  simp only [thresholdsOff] <;>
    repeat' first | simp only [↓mk_pending, ↓pending_record, ↓pending_modAcq] | with_reducible refine (pending_foldl _ (fun s x => ?_) _ _).trans ?_ | split | rfl

theorem pending_execControlBlockWrite (s) : (after s (execControlBlockWrite s)).pending = s.pending := by
  simp only [execControlBlockWrite] <;>
    repeat' first | simp only [after_next, ↓mk_pending] | with_reducible refine (pending_foldl _ (fun s x => ?_) _ _).trans ?_ | split | rfl

theorem pending_execEventEntry (v0 v1 s) : (after s (execEventEntry v0 v1 s)).pending = s.pending := by
  simp only [execEventEntry] <;>
    repeat' first | simp only [after_next, ↓mk_pending, ↓pending_record] | with_reducible refine (pending_foldl _ (fun s x => ?_) _ _).trans ?_ | split | rfl

theorem pending_flushEvents (s) : (flushEvents s).pending = s.pending := by
  simp only [flushEvents] <;>
    repeat' first | simp only [↓mk_pending, ↓pending_pushRec] | with_reducible refine (pending_foldl _ (fun s x => ?_) _ _).trans ?_ | split | rfl

theorem pending_execEventFlush (s) : (after s (execEventFlush s)).pending = s.pending := by
  simp only [execEventFlush] <;>
    repeat' first | simp only [after_next, ↓mk_pending, ↓pending_flushEvents] | with_reducible refine (pending_foldl _ (fun s x => ?_) _ _).trans ?_ | split | rfl

theorem pending_execEvtClear (v0 v1 s) : (after s (execEvtClear v0 v1 s)).pending = s.pending :=
  pending_packetIn _ _ _ _ _ pending_opEvtClear

theorem pending_execEvtInfo (v0 v1 s) : (after s (execEvtInfo v0 v1 s)).pending = s.pending :=
  pending_packetIn _ _ _ _ _ pending_opEvtInfo

theorem pending_execEvtRead (v0 v1 s) : (after s (execEvtRead v0 v1 s)).pending = s.pending :=
  pending_packetIn _ _ _ _ _ pending_opEvtRead

theorem pending_modEx (v0 v1 s) : (modEx v0 v1 s).pending = s.pending := by
  simp only [modEx] <;>
    repeat' first | simp only [↓mk_pending] | with_reducible refine (pending_foldl _ (fun s x => ?_) _ _).trans ?_ | split | rfl

theorem pending_queueStamp (v0 s) : (queueStamp v0 s).pending = s.pending := by
  simp only [queueStamp] <;>
    repeat' first | simp only [↓mk_pending] | with_reducible refine (pending_foldl _ (fun s x => ?_) _ _).trans ?_ | split | rfl

theorem pending_sendEvent (v0 v1 v2 v3 v4 v5 s) : (sendEvent v0 v1 v2 v3 v4 v5 s).pending = s.pending := by
  simp only [sendEvent] <;>
    repeat' first | simp only [↓mk_pending, ↓pending_emit, ↓pending_modEx, ↓pending_queueStamp] | with_reducible refine (pending_foldl _ (fun s x => ?_) _ _).trans ?_ | split | rfl

theorem pending_cascEvent (v0 v1 v2 v3 v4 s) : (cascEvent v0 v1 v2 v3 v4 s).pending = s.pending := by
  simp only [cascEvent] <;>
    repeat' first | simp only [↓mk_pending, ↓pending_elapseTo, ↓pending_sendEvent] | with_reducible refine (pending_foldl _ (fun s x => ?_) _ _).trans ?_ | split | rfl

theorem pending_cascSync (v0 v1 s) : (cascSync v0 v1 s).pending = s.pending := by
  simp only [cascSync] <;>
    repeat' first | simp only [↓mk_pending, ↓pending_initialStep, ↓pending_modEx] | with_reducible refine (pending_foldl _ (fun s x => ?_) _ _).trans ?_ | split | rfl

theorem pending_publishExchange (v0 v1 v2 v3 v4 v5 v6 s) : (publishExchange v0 v1 v2 v3 v4 v5 v6 s).pending = s.pending := by
  simp only [publishExchange] <;>
    repeat' first | simp only [↓mk_pending, ↓pending_modEx, ↓pending_publish] | with_reducible refine (pending_foldl _ (fun s x => ?_) _ _).trans ?_ | split | rfl

theorem pending_endPdelay (v0 v1 v2 v3 v4 s) : (endPdelay v0 v1 v2 v3 v4 s).pending = s.pending := by
  simp only [endPdelay] <;>
    repeat' first | simp only [↓mk_pending, ↓pending_modEx, ↓pending_publishExchange] | with_reducible refine (pending_foldl _ (fun s x => ?_) _ _).trans ?_ | split | rfl

theorem pending_pdelayResp (v0 v1 s) : (pdelayResp v0 v1 s).pending = s.pending := by
  simp only [pdelayResp] <;>
    repeat' first | simp only [↓mk_pending, ↓pending_modEx, ↓pending_endPdelay] | with_reducible refine (pending_foldl _ (fun s x => ?_) _ _).trans ?_ | split | rfl

theorem pending_cascPtp (v0 v1 s) : (cascPtp v0 v1 s).pending = s.pending := by
  simp only [cascPtp] <;>
    repeat' first | simp only [↓mk_pending, ↓pending_cascSync, ↓pending_sendEvent, ↓pending_pdelayResp] | with_reducible refine (pending_foldl _ (fun s x => ?_) _ _).trans ?_ | split | rfl

theorem pending_endDelay (v0 v1 s) : (endDelay v0 v1 s).pending = s.pending := by
  simp only [endDelay] <;>
    repeat' first | simp only [↓mk_pending, ↓pending_publishExchange] | with_reducible refine (pending_foldl _ (fun s x => ?_) _ _).trans ?_ | split | rfl

theorem pending_syncDone (v0 s) : (syncDone v0 s).pending = s.pending := by
  simp only [syncDone] <;>
    repeat' first | simp only [↓mk_pending, ↓pending_modEx] | with_reducible refine (pending_foldl _ (fun s x => ?_) _ _).trans ?_ | split | rfl

theorem pending_hearAnnounce (v0 v1 s) : (hearAnnounce v0 v1 s).pending = s.pending := by
  simp only [hearAnnounce] <;>
    repeat' first | simp only [↓mk_pending, ↓pending_modEx, ↓pending_publish] | with_reducible refine (pending_foldl _ (fun s x => ?_) _ _).trans ?_ | split | rfl

theorem pending_ethPtp (v0 v1 s) : (ethPtp v0 v1 s).pending = s.pending := by
  simp only [ethPtp] <;>
    repeat' first | simp only [↓mk_pending, ↓pending_modEx, ↓pending_syncDone, ↓pending_emit, ↓pending_endDelay, ↓pending_pdelayResp, ↓pending_endPdelay, ↓pending_hearAnnounce] | with_reducible refine (pending_foldl _ (fun s x => ?_) _ _).trans ?_ | split | rfl

theorem pending_holdRate (s) : (holdRate s).pending = s.pending := by
  simp only [holdRate] <;>
    repeat' first | simp only [↓mk_pending, ↓pending_writeRate] | with_reducible refine (pending_foldl _ (fun s x => ?_) _ _).trans ?_ | split | rfl

theorem pending_execHoldoverEnter (s) : (after s (execHoldoverEnter s)).pending = s.pending := by
  unfold execHoldoverEnter
  split
  · rw [after_next, pending_record]
    split
    · rw [pending_holdRate, mk_pending, pending_elapseTo]
    · rw [mk_pending, pending_elapseTo]
  · rfl

theorem pending_execPdelayReqTx (v0 s) : (after s (execPdelayReqTx v0 s)).pending = s.pending := by
  simp only [execPdelayReqTx] <;>
    repeat' first | simp only [after_next, ↓mk_pending, ↓pending_cascEvent] | with_reducible refine (pending_foldl _ (fun s x => ?_) _ _).trans ?_ | split | rfl

theorem pending_execPpsInEdge (v0 s) : (after s (execPpsInEdge v0 s)).pending = s.pending := by
  simp only [execPpsInEdge] <;>
    repeat' first | simp only [after_next, ↓mk_pending, ↓pending_publish] | with_reducible refine (pending_foldl _ (fun s x => ?_) _ _).trans ?_ | split | rfl

theorem pending_execPpsOutPulse (s) : (after s (execPpsOutPulse s)).pending = s.pending := by
  simp only [execPpsOutPulse] <;>
    repeat' first | simp only [after_next, ↓mk_pending, ↓pending_countTo, ↓pending_emit] | with_reducible refine (pending_foldl _ (fun s x => ?_) _ _).trans ?_ | split | rfl

theorem pending_execPtpMessageRx (v0 v1 s) : (after s (execPtpMessageRx v0 v1 s)).pending = s.pending := by
  simp only [execPtpMessageRx] <;>
    repeat' first | simp only [after_next, ↓mk_pending, ↓pending_ethPtp, ↓pending_cascPtp] | with_reducible refine (pending_foldl _ (fun s x => ?_) _ _).trans ?_ | split | rfl

theorem pending_execPtpMessageTx (v0 v1 v2 s) : (after s (execPtpMessageTx v0 v1 v2 s)).pending = s.pending := by
  simp only [execPtpMessageTx] <;>
    repeat' first | simp only [after_next, ↓mk_pending, ↓pending_emit, ↓pending_modEx, ↓pending_sendEvent] | with_reducible refine (pending_foldl _ (fun s x => ?_) _ _).trans ?_ | split | rfl

theorem pending_execPtpSyncTx (v0 s) : (after s (execPtpSyncTx v0 s)).pending = s.pending := by
  simp only [execPtpSyncTx] <;>
    repeat' first | simp only [after_next, ↓mk_pending, ↓pending_cascEvent] | with_reducible refine (pending_foldl _ (fun s x => ?_) _ _).trans ?_ | split | rfl

theorem pending_offsetAlarm (v0 s) : (offsetAlarm v0 s).pending = s.pending := by
  simp only [offsetAlarm] <;>
    repeat' first | simp only [↓mk_pending, ↓pending_record] | with_reducible refine (pending_foldl _ (fun s x => ?_) _ _).trans ?_ | split | rfl

theorem pending_holdoverExit (v0 s) : (holdoverExit v0 s).pending = s.pending := by
  simp only [holdoverExit] <;>
    repeat' first | simp only [↓mk_pending, ↓pending_record] | with_reducible refine (pending_foldl _ (fun s x => ?_) _ _).trans ?_ | split | rfl

theorem pending_takeOffset (v0 s) : (takeOffset v0 s).pending = s.pending := by
  simp only [takeOffset] <;>
    repeat' first | simp only [↓mk_pending, ↓pending_freshen, ↓pending_offsetAlarm, ↓pending_holdoverExit, ↓pending_writeRate] | with_reducible refine (pending_foldl _ (fun s x => ?_) _ _).trans ?_ | split | rfl

theorem pending_useOffset (v0 s) : (useOffset v0 s).pending = s.pending := by
  unfold useOffset
  split
  · cases masterPort s with
    | none => rfl
    | some p => exact pending_modEx _ _ _
  · rfl
  · cases slavePort s with
    | none => rfl
    | some p => exact pending_modEx _ _ _
  · rfl

theorem pending_execServoMeasurement (v0 s) : (after s (execServoMeasurement v0 s)).pending = s.pending := by
  unfold execServoMeasurement
  repeat' first | rw [after_next, pending_takeOffset, pending_initialStep, pending_useOffset] | rw [after_next, pending_takeOffset, pending_useOffset] | split | rw [after_next]

theorem pending_execTimeGet (v0 v1 s) : (after s (execTimeGet v0 v1 s)).pending = s.pending :=
  pending_packetIn _ _ _ _ _ pending_opTimeGet

theorem pending_execTimeRate (v0 v1 s) : (after s (execTimeRate v0 v1 s)).pending = s.pending :=
  pending_packetIn _ _ _ _ _ pending_opTimeRate

theorem pending_execTimeSet (v0 v1 s) : (after s (execTimeSet v0 v1 s)).pending = s.pending :=
  pending_packetIn _ _ _ _ _ pending_opTimeSet

theorem pending_execTimeStep (v0 v1 s) : (after s (execTimeStep v0 v1 s)).pending = s.pending :=
  pending_packetIn _ _ _ _ _ pending_opTimeStep

theorem pending_execTimeStepInstant (s) : (after s (execTimeStepInstant s)).pending = s.pending := by
  simp only [execTimeStepInstant]
  split
  · simp only [after_next]
  · split
    · rw [after_next, pending_runCmd _ pending_opTimeStep, pending_applyStep]
    · rw [after_next, pending_applyStep]

theorem pending_execTxStampRead (v0 v1 s) : (after s (execTxStampRead v0 v1 s)).pending = s.pending :=
  pending_packetIn _ _ _ _ _ pending_opTxStampRead

theorem pending_pruneStamps (s) : (pruneStamps s).pending = s.pending := by
  simp only [pruneStamps] <;>
    repeat' first | simp only [↓mk_pending] | with_reducible refine (pending_foldl _ (fun s x => ?_) _ _).trans ?_ | split | rfl

theorem pending_busBoundary (s) : (busBoundary s).pending = s.pending := by
  simp only [busBoundary] <;>
    repeat' first | simp only [↓mk_pending, ↓pending_publish] | with_reducible refine (pending_foldl _ (fun s x => ?_) _ _).trans ?_ | split | rfl

theorem pending_canEntry (v0 v1 v2 v3 v4 s v6) : (canEntry v0 v1 v2 v3 v4 s v6).pending = s.pending := by
  simp only [canEntry] <;>
    repeat' first | simp only [↓mk_pending, ↓pending_modCan, ↓pending_publishAs] | with_reducible refine (pending_foldl _ (fun s x => ?_) _ _).trans ?_ | split | rfl

theorem pending_canInit (s) : (canInit s).pending = s.pending := by
  simp only [canInit] <;>
    repeat' first | simp only [↓mk_pending] | with_reducible refine (pending_foldl _ (fun s x => ?_) _ _).trans ?_ | split | rfl

theorem pending_canRecoverStart (s) : (canRecoverStart s).pending = s.pending := by
  simp only [canRecoverStart] <;>
    repeat' first | simp only [↓mk_pending] | with_reducible refine (pending_foldl _ (fun s x => ?_) _ _).trans ?_ | split | rfl

theorem pending_canRejoin (v0 s) : (canRejoin v0 s).pending = s.pending := by
  simp only [canRejoin] <;>
    repeat' first | simp only [↓mk_pending] | with_reducible refine (pending_foldl _ (fun s x => ?_) _ _).trans ?_ | split | rfl

theorem pending_canWake (s) : (canWake s).pending = s.pending := by
  simp only [canWake] <;>
    repeat' first | simp only [↓mk_pending] | with_reducible refine (pending_foldl _ (fun s x => ?_) _ _).trans ?_ | split | rfl

theorem pending_discardSentence (v0 s) : (discardSentence v0 s).pending = s.pending := by
  simp only [discardSentence] <;>
    repeat' first | simp only [↓mk_pending] | with_reducible refine (pending_foldl _ (fun s x => ?_) _ _).trans ?_ | split | rfl

theorem pending_loseDrive (v0 s) : (loseDrive v0 s).pending = s.pending := by
  simp only [loseDrive] <;>
    repeat' first | simp only [↓mk_pending, ↓pending_record, ↓pending_modDrive] | with_reducible refine (pending_foldl _ (fun s x => ?_) _ _).trans ?_ | split | rfl

theorem pending_faultSignals (v0 s) : (faultSignals v0 s).pending = s.pending := by
  simp only [faultSignals] <;>
    repeat' first | simp only [↓mk_pending, ↓pending_markBad] | with_reducible refine (pending_foldl _ (fun s x => ?_) _ _).trans ?_ | split | rfl

theorem pending_execCanBusOff (v0 s) : (after s (execCanBusOff v0 s)).pending = s.pending := by
  simp only [execCanBusOff] <;>
    repeat' first | simp only [after_next, ↓mk_pending, ↓pending_record, ↓pending_modCan, ↓pending_loseDrive, ↓pending_faultSignals] | with_reducible refine (pending_foldl _ (fun s x => ?_) _ _).trans ?_ | split | rfl

theorem pending_execCanErrorPassive (v0 v1 v2 s) : (after s (execCanErrorPassive v0 v1 v2 s)).pending = s.pending := by
  simp only [execCanErrorPassive] <;>
    repeat' first | simp only [after_next, ↓mk_pending, ↓pending_modCan, ↓pending_record] | with_reducible refine (pending_foldl _ (fun s x => ?_) _ _).trans ?_ | split | rfl

theorem pending_execCanFrameRx (v0 v1 v2 v3 v4 v5 s) : (after s (execCanFrameRx v0 v1 v2 v3 v4 v5 s)).pending = s.pending := by
  simp only [execCanFrameRx] <;>
    repeat' first | simp only [after_next, ↓mk_pending, ↓pending_modCan, ↓pending_canEntry] | with_reducible refine (pending_foldl _ (fun s x => ?_) _ _).trans ?_ | split | rfl

theorem pending_execCanRecovered (v0 s) : (after s (execCanRecovered v0 s)).pending = s.pending := by
  simp only [execCanRecovered] <;>
    repeat' first | simp only [after_next, ↓mk_pending, ↓pending_record, ↓pending_modCan] | with_reducible refine (pending_foldl _ (fun s x => ?_) _ _).trans ?_ | split | rfl

theorem pending_execDriveHbLost (v0 s) : (after s (execDriveHbLost v0 s)).pending = s.pending := by
  simp only [execDriveHbLost] <;>
    repeat' first | simp only [after_next, ↓mk_pending, ↓pending_elapseTo, ↓pending_record, ↓pending_modDrive] | with_reducible refine (pending_foldl _ (fun s x => ?_) _ _).trans ?_ | split | rfl

theorem pending_execDriveLost (v0 s) : (after s (execDriveLost v0 s)).pending = s.pending := by
  simp only [execDriveLost] <;>
    repeat' first | simp only [after_next, ↓mk_pending, ↓pending_loseDrive] | with_reducible refine (pending_foldl _ (fun s x => ?_) _ _).trans ?_ | split | rfl

theorem pending_execDriveStatusRx (v0 v1 v2 s) : (after s (execDriveStatusRx v0 v1 v2 s)).pending = s.pending := by
  simp only [execDriveStatusRx] <;>
    repeat' first | simp only [after_next, ↓mk_pending, ↓pending_modCan, ↓pending_modDrive] | with_reducible refine (pending_foldl _ (fun s x => ?_) _ _).trans ?_ | split | rfl

theorem pending_judgeFeedback (v0 v1 v2 s) : (judgeFeedback v0 v1 v2 s).pending = s.pending := by
  simp only [judgeFeedback] <;>
    repeat' first | simp only [↓mk_pending, ↓pending_modDrive, ↓pending_record] | with_reducible refine (pending_foldl _ (fun s x => ?_) _ _).trans ?_ | split | rfl

theorem pending_stopOwning (s) : (stopOwning s).pending = s.pending := by
  simp only [stopOwning] <;>
    repeat' first | simp only [↓mk_pending, ↓pending_dropOwnership, ↓pending_announce, ↓pending_record] | with_reducible refine (pending_foldl _ (fun s x => ?_) _ _).trans ?_ | split | rfl

theorem pending_learnOwner (v0 s) : (learnOwner v0 s).pending = s.pending := by
  simp only [learnOwner] <;>
    repeat' first | simp only [↓mk_pending, ↓pending_stopOwning, ↓pending_seeEpoch] | with_reducible refine (pending_foldl _ (fun s x => ?_) _ _).trans ?_ | split | rfl

theorem pending_meetOwner (v0 s) : (meetOwner v0 s).pending = s.pending := by
  simp only [meetOwner] <;>
    repeat' first | simp only [↓mk_pending] | with_reducible refine (pending_foldl _ (fun s x => ?_) _ _).trans ?_ | split | rfl

theorem pending_execFeedbackRx (v0 v1 v2 s) : (after s (execFeedbackRx v0 v1 v2 s)).pending = s.pending := by
  simp only [execFeedbackRx] <;>
    repeat' first | simp only [after_next, ↓mk_pending, ↓pending_modCan, ↓pending_judgeFeedback, ↓pending_modDrive, ↓pending_learnOwner, ↓pending_meetOwner] | with_reducible refine (pending_foldl _ (fun s x => ?_) _ _).trans ?_ | split | rfl

theorem pending_execModuleAccept (v0 v1 s) : (after s (execModuleAccept v0 v1 s)).pending = s.pending :=
  pending_packetIn _ _ _ _ _ pending_opModuleAccept

theorem pending_execModuleList (v0 v1 s) : (after s (execModuleList v0 v1 s)).pending = s.pending :=
  pending_packetIn _ _ _ _ _ pending_opModuleList

theorem pending_execModuleNackRetry (v0 s) : (after s (execModuleNackRetry v0 s)).pending = s.pending := by
  simp only [execModuleNackRetry] <;>
    repeat' first | simp only [after_next, ↓mk_pending, ↓pending_emit, ↓pending_modSlotM, ↓pending_elapseTo, ↓pending_record] | with_reducible refine (pending_foldl _ (fun s x => ?_) _ _).trans ?_ | split | rfl

theorem pending_execModulePresent (v0 s) : (after s (execModulePresent v0 s)).pending = s.pending := by
  simp only [execModulePresent] <;>
    repeat' first | simp only [after_next, ↓mk_pending, ↓pending_startRead, ↓pending_modSlotM] | with_reducible refine (pending_foldl _ (fun s x => ?_) _ _).trans ?_ | split | rfl

theorem pending_execModuleRead (v0 v1 s) : (after s (execModuleRead v0 v1 s)).pending = s.pending :=
  pending_packetIn _ _ _ _ _ pending_opModuleRead

theorem pending_identify (v0 v1 s) : (identify v0 v1 s).pending = s.pending := by
  simp only [identify] <;>
    repeat' first | simp only [↓mk_pending, ↓pending_modSlotM, ↓pending_record] | with_reducible refine (pending_foldl _ (fun s x => ?_) _ _).trans ?_ | split | rfl

theorem pending_execModuleReadComplete (v0 v1 s) : (after s (execModuleReadComplete v0 v1 s)).pending = s.pending := by
  simp only [execModuleReadComplete] <;>
    repeat' first | simp only [after_next, ↓mk_pending, ↓pending_identify] | with_reducible refine (pending_foldl _ (fun s x => ?_) _ _).trans ?_ | split | rfl

theorem pending_execModuleRemoved (v0 s) : (after s (execModuleRemoved v0 s)).pending = s.pending := by
  simp only [execModuleRemoved] <;>
    repeat' first | simp only [after_next, ↓mk_pending, ↓pending_modSlotM, ↓pending_leaveSlot] | with_reducible refine (pending_foldl _ (fun s x => ?_) _ _).trans ?_ | split | rfl

theorem pending_execModuleRescan (v0 v1 s) : (after s (execModuleRescan v0 v1 s)).pending = s.pending :=
  pending_packetIn _ _ _ _ _ pending_opModuleRescan

theorem pending_sentenceEntry (v0 v1 v2 v3 s v5) : (sentenceEntry v0 v1 v2 v3 s v5).pending = s.pending := by
  simp only [sentenceEntry] <;>
    repeat' first | simp only [↓mk_pending, ↓pending_publishAs] | with_reducible refine (pending_foldl _ (fun s x => ?_) _ _).trans ?_ | split | rfl

theorem pending_execSerialSentenceRx (v0 v1 v2 v3 s) : (after s (execSerialSentenceRx v0 v1 v2 v3 s)).pending = s.pending := by
  simp only [execSerialSentenceRx] <;>
    repeat' first | simp only [after_next, ↓mk_pending, ↓pending_discardSentence, ↓pending_record, ↓pending_sentenceEntry] | with_reducible refine (pending_foldl _ (fun s x => ?_) _ _).trans ?_ | split | rfl

theorem pending_keepSlots (v0 s) : (keepSlots v0 s).pending = s.pending := by
  simp only [keepSlots] <;>
    repeat' first | simp only [↓mk_pending] | with_reducible refine (pending_foldl _ (fun s x => ?_) _ _).trans ?_ | split | rfl

theorem pending_serveSlot (s v1) : (serveSlot s v1).pending = s.pending := by
  simp only [serveSlot] <;>
    repeat' first | simp only [↓mk_pending, ↓pending_serveGone, ↓pending_startRead] | with_reducible refine (pending_foldl _ (fun s x => ?_) _ _).trans ?_ | split | rfl

theorem pending_serveSlots (s) : (serveSlots s).pending = s.pending := by
  simp only [serveSlots] <;>
    repeat' first | simp only [↓mk_pending, ↓pending_serveSlot] | with_reducible refine (pending_foldl _ (fun s x => ?_) _ _).trans ?_ | split | rfl

theorem pending_superviseDrive (s v1) : (superviseDrive s v1).pending = s.pending := by
  simp only [superviseDrive] <;>
    repeat' first | simp only [↓mk_pending, ↓pending_modDrive, ↓pending_loseDrive, ↓pending_record] | with_reducible refine (pending_foldl _ (fun s x => ?_) _ _).trans ?_ | split | rfl

theorem pending_modTrack (v0 v1 s) : (modTrack v0 v1 s).pending = s.pending := by
  simp only [modTrack] <;>
    repeat' first | simp only [↓mk_pending] | with_reducible refine (pending_foldl _ (fun s x => ?_) _ _).trans ?_ | split | rfl

theorem pending_clearSlip (v0 s) : (clearSlip v0 s).pending = s.pending := by
  simp only [clearSlip] <;>
    repeat' first | simp only [↓mk_pending, ↓pending_record, ↓pending_modTrack] | with_reducible refine (pending_foldl _ (fun s x => ?_) _ _).trans ?_ | split | rfl

theorem pending_countDropped (v0 s) : (countDropped v0 s).pending = s.pending := by
  simp only [countDropped] <;>
    repeat' first | simp only [↓mk_pending] | with_reducible refine (pending_foldl _ (fun s x => ?_) _ _).trans ?_ | split | rfl

theorem pending_dropUnnamed (s) : (dropUnnamed s).pending = s.pending := by
  simp only [dropUnnamed] <;>
    repeat' first | simp only [↓mk_pending] | with_reducible refine (pending_foldl _ (fun s x => ?_) _ _).trans ?_ | split | rfl

theorem pending_execClockSlipCleared (v0 s) : (after s (execClockSlipCleared v0 s)).pending = s.pending := by
  simp only [execClockSlipCleared] <;>
    repeat' first | simp only [after_next, ↓mk_pending, ↓pending_clearSlip] | with_reducible refine (pending_foldl _ (fun s x => ?_) _ _).trans ?_ | split | rfl

theorem pending_execOpticalFrameRx (v0 v1 s) : (after s (execOpticalFrameRx v0 v1 s)).pending = s.pending := by
  simp only [execOpticalFrameRx] <;>
    repeat' first | simp only [after_next, ↓mk_pending, ↓pending_countDropped, ↓pending_publish] | with_reducible refine (pending_foldl _ (fun s x => ?_) _ _).trans ?_ | split | rfl

theorem pending_judgeSample (v0 s v2) : (judgeSample v0 s v2).pending = s.pending := by
  simp only [judgeSample] <;>
    repeat' first | simp only [↓mk_pending, ↓pending_modTrack, ↓pending_record, ↓pending_clearSlip] | with_reducible refine (pending_foldl _ (fun s x => ?_) _ _).trans ?_ | split | rfl

theorem pending_outPut (v0 v1 v2 s) : (outPut v0 v1 v2 s).pending = s.pending := by
  simp only [outPut] <;>
    repeat' first | simp only [↓mk_pending] | with_reducible refine (pending_foldl _ (fun s x => ?_) _ _).trans ?_ | split | rfl

theorem pending_snapInput (v0 s v2) : (snapInput v0 s v2).pending = s.pending := by
  simp only [snapInput] <;>
    repeat' first | simp only [↓mk_pending, ↓pending_judgeSample] | with_reducible refine (pending_foldl _ (fun s x => ?_) _ _).trans ?_ | split | rfl

theorem pending_associateHead (v0 v1 v2 v3 v4 v5 s) : (associateHead v0 v1 v2 v3 v4 v5 s).2.pending = s.pending := by
  simp only [associateHead] <;>
    repeat' first | simp only [↓mk_pending, ↓pending_countDropped, ↓pending_record] | with_reducible refine (pending_foldl _ (fun s x => ?_) _ _).trans ?_ | split | rfl

theorem pending_modGroup (v0 v1 s) : (modGroup v0 v1 s).pending = s.pending := by
  simp only [modGroup] <;>
    repeat' first | simp only [↓mk_pending] | with_reducible refine (pending_foldl _ (fun s x => ?_) _ _).trans ?_ | split | rfl

theorem pending_fireHold (v0 s) : (fireHold v0 s).pending = s.pending := by
  simp only [fireHold] <;>
    repeat' first | simp only [↓mk_pending, ↓pending_record, ↓pending_modGroup] | with_reducible refine (pending_foldl _ (fun s x => ?_) _ _).trans ?_ | split | rfl

theorem pending_holdOn (v0 v1 s) : (holdOn v0 v1 s).pending = s.pending := by
  simp only [holdOn] <;>
    repeat' first | simp only [↓mk_pending, ↓pending_record, ↓pending_fireHold, ↓pending_modGroup] | with_reducible refine (pending_foldl _ (fun s x => ?_) _ _).trans ?_ | split | rfl

theorem pending_setState (v0 v1 s) : (setState v0 v1 s).pending = s.pending := by
  simp only [setState] <;>
    repeat' first | simp only [↓mk_pending] | with_reducible refine (pending_foldl _ (fun s x => ?_) _ _).trans ?_ | split | rfl

theorem pending_declareDispute (v0 v1 s) : (declareDispute v0 v1 s).pending = s.pending := by
  simp only [declareDispute] <;>
    repeat' first | simp only [↓mk_pending, ↓pending_record, ↓pending_modGroup, ↓pending_holdOn, ↓pending_setState] | with_reducible refine (pending_foldl _ (fun s x => ?_) _ _).trans ?_ | split | rfl

theorem pending_execRefHoldTimeout (v0 s) : (after s (execRefHoldTimeout v0 s)).pending = s.pending := by
  simp only [execRefHoldTimeout] <;>
    repeat' first | simp only [after_next, ↓mk_pending, ↓pending_fireHold] | with_reducible refine (pending_foldl _ (fun s x => ?_) _ _).trans ?_ | split | rfl

theorem pending_fusedOn (v0 v1 v2 s) : (fusedOn v0 v1 v2 s).pending = s.pending := by
  simp only [fusedOn] <;>
    repeat' first | simp only [↓mk_pending, ↓pending_modGroup] | with_reducible refine (pending_foldl _ (fun s x => ?_) _ _).trans ?_ | split | rfl

theorem pending_fusionLock (s) : (fusionLock s).pending = s.pending := by
  simp only [fusionLock] <;>
    repeat' first | simp only [↓mk_pending] | with_reducible refine (pending_foldl _ (fun s x => ?_) _ _).trans ?_ | split | rfl

theorem pending_fusionStop (s) : (fusionStop s).pending = s.pending := by
  simp only [fusionStop] <;>
    repeat' first | simp only [↓mk_pending] | with_reducible refine (pending_foldl _ (fun s x => ?_) _ _).trans ?_ | split | rfl

theorem pending_learnAnchor (v0 v1 s) : (learnAnchor v0 v1 s).pending = s.pending := by
  simp only [learnAnchor] <;>
    repeat' first | simp only [↓mk_pending, ↓pending_record] | with_reducible refine (pending_foldl _ (fun s x => ?_) _ _).trans ?_ | split | rfl

theorem pending_setRef (v0 v1 s) : (setRef v0 v1 s).pending = s.pending := by
  simp only [setRef] <;>
    repeat' first | simp only [↓mk_pending] | with_reducible refine (pending_foldl _ (fun s x => ?_) _ _).trans ?_ | split | rfl

theorem pending_opticalRef (v0 a v2) : (opticalRef v0 a v2).2.2.pending = a.2.2.pending := by
  unfold opticalRef
  simp only
  repeat' first | rfl | simp only [pending_setRef, pending_associateHead] | split

theorem pending_projectRef (v0 s v2) : (projectRef v0 s v2).pending = s.pending := by
  simp only [projectRef] <;>
    repeat' first | simp only [↓mk_pending, ↓pending_setRef, ↓pending_learnAnchor] | with_reducible refine (pending_foldl _ (fun s x => ?_) _ _).trans ?_ | split | rfl

theorem pending_publishGroup (s v1) : (publishGroup s v1).pending = s.pending := by
  simp only [publishGroup] <;>
    repeat' first | simp only [↓mk_pending, ↓pending_outPut] | with_reducible refine (pending_foldl _ (fun s x => ?_) _ _).trans ?_ | split | rfl

theorem pending_publishRef (s v1) : (publishRef s v1).pending = s.pending := by
  simp only [publishRef] <;>
    repeat' first | simp only [↓mk_pending, ↓pending_outPut] | with_reducible refine (pending_foldl _ (fun s x => ?_) _ _).trans ?_ | split | rfl

theorem pending_recordExcluded (v0 v1 s) : (recordExcluded v0 v1 s).pending = s.pending := by
  simp only [recordExcluded] <;>
    repeat' first | simp only [↓mk_pending, ↓pending_record] | with_reducible refine (pending_foldl _ (fun s x => ?_) _ _).trans ?_ | split | rfl

theorem pending_resolveDispute (v0 v1 s) : (resolveDispute v0 v1 s).pending = s.pending := by
  simp only [resolveDispute] <;>
    repeat' first | simp only [↓mk_pending, ↓pending_record, ↓pending_modGroup] | with_reducible refine (pending_foldl _ (fun s x => ?_) _ _).trans ?_ | split | rfl

theorem pending_selectIn (v0 v1 s v3) : (selectIn v0 v1 s v3).pending = s.pending := by
  simp only [selectIn] <;>
    repeat' first | simp only [↓mk_pending, ↓pending_modGroup, ↓pending_resolveDispute] | with_reducible refine (pending_foldl _ (fun s x => ?_) _ _).trans ?_ | split | rfl

theorem pending_selectSource (v0 v1 s) : (selectSource v0 v1 s).pending = s.pending := by
  simp only [selectSource] <;>
    repeat' first | simp only [↓mk_pending, ↓pending_selectIn] | with_reducible refine (pending_foldl _ (fun s x => ?_) _ _).trans ?_ | split | rfl

theorem pending_standOn (v0 v1 v2 v3 v4 s) : (standOn v0 v1 v2 v3 v4 s).pending = s.pending := by
  simp only [standOn] <;>
    repeat' first | simp only [↓mk_pending, ↓pending_recordExcluded, ↓pending_setState, ↓pending_fusedOn] | with_reducible refine (pending_foldl _ (fun s x => ?_) _ _).trans ?_ | split | rfl

theorem pending_voteGroup (v0 v1 s) : (voteGroup v0 v1 s).pending = s.pending := by
  simp only [voteGroup] <;>
    repeat' first | simp only [↓mk_pending, ↓pending_setState, ↓pending_modGroup, ↓pending_fusedOn, ↓pending_standOn, ↓pending_resolveDispute, ↓pending_holdOn, ↓pending_declareDispute] | with_reducible refine (pending_foldl _ (fun s x => ?_) _ _).trans ?_ | split | rfl

theorem pending_voteInputs (v0 v1 v2 s) : (voteInputs v0 v1 v2 s).pending = s.pending := by
  simp only [voteInputs] <;>
    repeat' first | simp only [↓mk_pending, ↓pending_voteGroup] | with_reducible refine (pending_foldl _ (fun s x => ?_) _ _).trans ?_ | split | rfl

theorem pending_stage3 (s) : (stage3 s).pending = s.pending := by
  have h3 (att : Att) (l : List Nat) (a : Nat × Nat × State) : (l.foldl (opticalRef att) a).2.2.pending = a.2.2.pending := by
    induction l generalizing a with
    | nil => rfl
    | cons x l ih => rw [List.foldl_cons, ih, pending_opticalRef]
  simp only [stage3]
  repeat' first
    | simp only [↓pending_voteInputs, ↓pending_outPut, ↓pending_voteGroup, ↓h3]
    | with_reducible refine (pending_foldl _ (fun s x => ?_) _ _).trans ?_
    | exact pending_projectRef _ _ _
    | exact pending_publishRef _ _
    | exact pending_publishGroup _ _
    | split
    | rfl

theorem pending_endWarmup (s) : (endWarmup s).pending = s.pending := by
  simp only [endWarmup] <;>
    repeat' first | simp only [↓mk_pending] | with_reducible refine (pending_foldl _ (fun s x => ?_) _ _).trans ?_ | split | rfl

theorem pending_rnnFail (s) : (rnnFail s).pending = s.pending := by
  simp only [rnnFail] <;>
    repeat' first | simp only [↓mk_pending, ↓pending_record] | with_reducible refine (pending_foldl _ (fun s x => ?_) _ _).trans ?_ | split | rfl

theorem pending_execRnnFault (s) : (after s (execRnnFault s)).pending = s.pending := by
  simp only [execRnnFault] <;>
    repeat' first | simp only [after_next, ↓mk_pending, ↓pending_rnnFail] | with_reducible refine (pending_foldl _ (fun s x => ?_) _ _).trans ?_ | split | rfl

theorem pending_execRnnWaitExpiry (v0 s) : (after s (execRnnWaitExpiry v0 s)).pending = s.pending := by
  simp only [execRnnWaitExpiry] <;>
    repeat' first | simp only [after_next, ↓mk_pending, ↓pending_record] | with_reducible refine (pending_foldl _ (fun s x => ?_) _ _).trans ?_ | split | rfl

theorem pending_execRnnWarmupEnd (s) : (after s (execRnnWarmupEnd s)).pending = s.pending := by
  simp only [execRnnWarmupEnd] <;>
    repeat' first | simp only [after_next, ↓mk_pending, ↓pending_endWarmup] | with_reducible refine (pending_foldl _ (fun s x => ?_) _ _).trans ?_ | split | rfl

theorem pending_rnnRestart (s) : (rnnRestart s).pending = s.pending := by
  simp only [rnnRestart] <;>
    repeat' first | simp only [↓mk_pending] | with_reducible refine (pending_foldl _ (fun s x => ?_) _ _).trans ?_ | split | rfl

theorem pending_rnnStep (v0 s) : (rnnStep v0 s).pending = s.pending := by
  simp only [rnnStep] <;>
    repeat' first | simp only [↓mk_pending] | with_reducible refine (pending_foldl _ (fun s x => ?_) _ _).trans ?_ | split | rfl

theorem pending_modXchk (v0 v1 s) : (modXchk v0 v1 s).pending = s.pending := by
  simp only [modXchk] <;>
    repeat' first | simp only [↓mk_pending] | with_reducible refine (pending_foldl _ (fun s x => ?_) _ _).trans ?_ | split | rfl

theorem pending_agree (v0 s) : (agree v0 s).pending = s.pending := by
  simp only [agree] <;>
    repeat' first | simp only [↓mk_pending, ↓pending_record, ↓pending_modXchk] | with_reducible refine (pending_foldl _ (fun s x => ?_) _ _).trans ?_ | split | rfl

theorem pending_modPhys (v0 s) : (modPhys v0 s).pending = s.pending := by
  simp only [modPhys] <;>
    repeat' first | simp only [↓mk_pending] | with_reducible refine (pending_foldl _ (fun s x => ?_) _ _).trans ?_ | split | rfl

theorem pending_reinitPart (v0 s) : (reinitPart v0 s).pending = s.pending := by
  simp only [reinitPart] <;>
    repeat' first | simp only [↓mk_pending, ↓pending_record, ↓pending_modPhys] | with_reducible refine (pending_foldl _ (fun s x => ?_) _ _).trans ?_ | split | rfl

theorem pending_countRejects (v0 s) : (countRejects v0 s).pending = s.pending := by
  simp only [countRejects] <;>
    repeat' first | simp only [↓mk_pending, ↓pending_modPhys, ↓pending_reinitPart] | with_reducible refine (pending_foldl _ (fun s x => ?_) _ _).trans ?_ | split | rfl

theorem pending_crossCheck (s v1) : (crossCheck s v1).pending = s.pending := by
  simp only [crossCheck] <;>
    repeat' first | simp only [↓mk_pending, ↓pending_modXchk, ↓pending_record, ↓pending_agree] | with_reducible refine (pending_foldl _ (fun s x => ?_) _ _).trans ?_ | split | rfl

theorem pending_execObsAgree (v0 s) : (after s (execObsAgree v0 s)).pending = s.pending := by
  simp only [execObsAgree] <;>
    repeat' first | simp only [after_next, ↓mk_pending, ↓pending_agree] | with_reducible refine (pending_foldl _ (fun s x => ?_) _ _).trans ?_ | split | rfl

theorem pending_execObsReinit (v0 s) : (after s (execObsReinit v0 s)).pending = s.pending := by
  simp only [execObsReinit] <;>
    repeat' first | simp only [after_next, ↓mk_pending, ↓pending_reinitPart] | with_reducible refine (pending_foldl _ (fun s x => ?_) _ _).trans ?_ | split | rfl

theorem pending_obsLock (v0 v1 s) : (obsLock v0 v1 s).pending = s.pending := by
  simp only [obsLock] <;>
    repeat' first | simp only [↓mk_pending, ↓pending_rnnRestart] | with_reducible refine (pending_foldl _ (fun s x => ?_) _ _).trans ?_ | split | rfl

theorem pending_obsStop (s) : (obsStop s).pending = s.pending := by
  simp only [obsStop] <;>
    repeat' first | simp only [↓mk_pending, ↓pending_rnnRestart] | with_reducible refine (pending_foldl _ (fun s x => ?_) _ _).trans ?_ | split | rfl

theorem pending_physInit (v0 s) : (physInit v0 s).pending = s.pending := by
  simp only [physInit] <;>
    repeat' first | simp only [↓mk_pending, ↓pending_record, ↓pending_modPhys] | with_reducible refine (pending_foldl _ (fun s x => ?_) _ _).trans ?_ | split | rfl

theorem pending_physPredict (s) : (physPredict s).pending = s.pending := by
  simp only [physPredict] <;>
    repeat' first | simp only [↓mk_pending, ↓pending_modPhys] | with_reducible refine (pending_foldl _ (fun s x => ?_) _ _).trans ?_ | split | rfl

theorem pending_updateMeas (v0 v1 s v3) : (updateMeas v0 v1 s v3).pending = s.pending := by
  simp only [updateMeas] <;>
    repeat' first | simp only [↓mk_pending, ↓pending_modPhys, ↓pending_record] | with_reducible refine (pending_foldl _ (fun s x => ?_) _ _).trans ?_ | split | rfl

theorem pending_physStep (s) : (physStep s).pending = s.pending := by
  simp only [physStep] <;>
    repeat' first | simp only [↓mk_pending, ↓pending_modPhys, ↓pending_physInit, ↓pending_countRejects, ↓pending_updateMeas] | with_reducible refine (pending_foldl _ (fun s x => ?_) _ _).trans ?_ | split | rfl

theorem pending_waitingObs (s) : (waitingObs s).pending = s.pending := by
  simp only [waitingObs] <;>
    repeat' first | simp only [↓mk_pending, ↓pending_outPut] | with_reducible refine (pending_foldl _ (fun s x => ?_) _ _).trans ?_ | split | rfl

theorem pending_publishObs (s) : (publishObs s).pending = s.pending := by
  simp only [publishObs] <;>
    repeat' first | simp only [↓mk_pending, ↓pending_waitingObs, ↓pending_outPut] | with_reducible refine (pending_foldl _ (fun s x => ?_) _ _).trans ?_ | split | rfl

theorem pending_stage4 (s) : (stage4 s).pending = s.pending := by
  simp only [stage4] <;>
    repeat' first | simp only [↓mk_pending, ↓pending_rnnRestart, ↓pending_physStep, ↓pending_rnnStep, ↓pending_endWarmup, ↓pending_crossCheck, ↓pending_publishObs, ↓pending_physPredict] | with_reducible refine (pending_foldl _ (fun s x => ?_) _ _).trans ?_ | split | rfl

theorem pending_leaveWork (v0 s) : (leaveWork v0 s).pending = s.pending := by
  simp only [leaveWork] <;>
    repeat' first | simp only [↓mk_pending, ↓pending_stopDomains] | with_reducible refine (pending_foldl _ (fun s x => ?_) _ _).trans ?_ | split | rfl

theorem pending_onDomains (v0 v1 v2 s) (h : ∀ s, (v2 s).pending = s.pending) : (onDomains v0 v1 v2 s).pending = s.pending := by
  unfold onDomains
  extract_lets s1
  split
  · exact (h s1).trans (pending_accessDomains _ _ _)
  · exact pending_accessDomains _ _ _

theorem pending_setHome (v0 v1 s) : (setHome v0 v1 s).pending = s.pending := by
  simp only [setHome] <;>
    repeat' first | simp only [↓mk_pending] | with_reducible refine (pending_foldl _ (fun s x => ?_) _ _).trans ?_ | split | rfl

theorem pending_onWork (v0 v1 v2 v3 s) (h : ∀ s, (v3 s).pending = s.pending) : (onWork v0 v1 v2 v3 s).pending = s.pending :=
  pending_onDomains _ _ _ _ fun s => (h _).trans (pending_setHome _ _ s)

theorem pending_reportStall (v0 s) : (reportStall v0 s).pending = s.pending := by
  simp only [reportStall] <;>
    repeat' first | simp only [↓mk_pending] | with_reducible refine (pending_foldl _ (fun s x => ?_) _ _).trans ?_ | split | rfl

theorem pending_stallFirst (s) : (stallFirst s).pending = s.pending := by
  simp only [stallFirst] <;>
    repeat' first | simp only [↓mk_pending, ↓pending_accessDomains, ↓pending_reportStall] | with_reducible refine (pending_foldl _ (fun s x => ?_) _ _).trans ?_ | split | rfl

theorem pending_seenNode (v0 v1 s) : (seenNode v0 v1 s).pending = s.pending := by
  simp only [seenNode] <;>
    repeat' first | simp only [↓mk_pending] | with_reducible refine (pending_foldl _ (fun s x => ?_) _ _).trans ?_ | split | rfl

theorem pending_takePlace (a o p) : (takePlace a o p).2.pending = a.2.pending := by
  unfold takePlace
  extract_lets s m
  clear_value m
  repeat' first | rfl | split | simp only [pending_record]

theorem pending_takeLoose (a o) : (takeLoose a o).2.pending = a.2.pending := by
  unfold takeLoose
  split
  · exact pending_takePlace _ _ _
  · rfl

theorem pending_promote (m a p) : (promote m a p).2.pending = a.2.pending := by
  unfold promote
  repeat' first | rfl | simp only [pending_record] | split

theorem pending_retire (m a p) : (retire m a p).2.pending = a.2.pending := by
  unfold retire
  repeat' first | rfl | simp only [pending_record] | split

theorem pending_maintain (s) : (maintain s).pending = s.pending := by
  have h (g : List (Nat × List Byte) × State → Nat → List (Nat × List Byte) × State) : True := trivial
  simp only [maintain, pending_pushEffect, pending_foldl2 _ (pending_retire _), pending_foldl2 _ (pending_promote _), pending_foldl2 _ pending_takeLoose]

theorem pending_execMapMaintenance (s) : (after s (execMapMaintenance s)).pending = s.pending := by
  simp only [execMapMaintenance, after_next]
  split
  · exact pending_onWork _ _ _ _ _ fun s => by rw [pending_leaveWork, pending_maintain]
  · rfl

theorem pending_execMapRead (v0 v1 s) : (after s (execMapRead v0 v1 s)).pending = s.pending :=
  pending_packetIn _ _ _ _ _ pending_opMapRead

theorem pending_execMapStatus (v0 v1 s) : (after s (execMapStatus v0 v1 s)).pending = s.pending :=
  pending_packetIn _ _ _ _ _ pending_opMapStatus

theorem pending_execMapWrite (v0 v1 s) : (after s (execMapWrite v0 v1 s)).pending = s.pending :=
  pending_packetIn _ _ _ _ _ pending_opMapWrite

theorem pending_execSolve (v0 v1 s) : (after s (execSolve v0 v1 s)).pending = s.pending :=
  pending_packetIn _ _ _ _ _ pending_opSolve

theorem pending_execStructDrop (v0 v1 s) : (after s (execStructDrop v0 v1 s)).pending = s.pending :=
  pending_packetIn _ _ _ _ _ pending_opStructDrop

theorem pending_execStructLoad (v0 v1 s) : (after s (execStructLoad v0 v1 s)).pending = s.pending :=
  pending_packetIn _ _ _ _ _ pending_opStructLoad

theorem pending_execStructUpdate (v0 v1 s) : (after s (execStructUpdate v0 v1 s)).pending = s.pending :=
  pending_packetIn _ _ _ _ _ pending_opStructUpdate

theorem pending_hostDeadline (v0 v1 s) : (hostDeadline v0 v1 s).pending = s.pending := by
  unfold hostDeadline
  split
  · rfl
  · rw [pending_runCmd _ (pending_opSolveWithin _), pending_countTo]

theorem pending_mapGone (s) : (mapGone s).pending = s.pending := by
  simp only [mapGone] <;>
    repeat' first | simp only [↓mk_pending] | with_reducible refine (pending_foldl _ (fun s x => ?_) _ _).trans ?_ | split | rfl

theorem pending_solverLost (s) : (solverLost s).pending = s.pending := by
  simp only [solverLost] <;>
    repeat' first | simp only [↓mk_pending] | with_reducible refine (pending_foldl _ (fun s x => ?_) _ _).trans ?_ | split | rfl

theorem pending_levelSolve (v0 v1 s) : (levelSolve v0 v1 s).2.2.pending = s.pending := by
  simp only [levelSolve]
  split
  · rfl
  · rw [pending_retain]

theorem pending_levelThen {α : Type} (v0 v1) (next : List F64 → State → Option α × State) (s) (h : ∀ x s, (next x s).2.pending = s.pending) :
    (levelThen v0 v1 next s).2.pending = s.pending := by
  simp only [levelThen]
  split
  · exact pending_levelSolve _ _ _
  · split
    · simp only [pending_deadlineEvent, pending_levelSolve]
    · rw [h, pending_levelSolve]

theorem pending_levelEpoch (v0 v1 v2 v3 s) : (levelEpoch v0 v1 v2 v3 s).2.pending = s.pending := by
  unfold levelEpoch
  split
  · rfl
  · exact pending_levelThen _ _ _ _ fun _ s => pending_levelThen _ _ _ s fun _ _ => rfl

theorem pending_levelPublish (v0 v1 v2 s) : (levelPublish v0 v1 v2 s).pending = s.pending := by
  simp only [levelPublish] <;>
    repeat' first | simp only [↓mk_pending, ↓pending_publishAs] | with_reducible refine (pending_foldl _ (fun s x => ?_) _ _).trans ?_ | split | rfl

theorem pending_levelRun (v0 v1 v2 v3 v4 s) : (levelRun v0 v1 v2 v3 v4 s).pending = s.pending := by
  unfold levelRun
  extract_lets arr late s0 x1 s1 s2
  have h0 : s0.pending = s.pending := pending_countTo _ _
  clear_value s0
  have h1 : s1.pending = s0.pending := rfl
  clear_value s1
  have h : s2.pending = s.pending := by
    simp only [s2]; split <;> (try rw [pending_record]) <;> exact h1.trans h0
  clear_value s2
  have hl (inp) : (levelEpoch (levelLimit v0 v2 s2) v3 inp v4 s2).2.pending = s.pending := (pending_levelEpoch _ _ _ _ _).trans h
  cases s.gnss.levelIn with
  | none => exact h
  | some inp =>
    have hi := hl inp
    simp only []
    generalize levelEpoch (levelLimit v0 v2 s2) v3 inp v4 s2 = q at hi
    obtain ⟨_ | q, s3⟩ := q
    · simp only [pending_leaveSolver]; exact hi
    · simp only [pending_leaveSolver, pending_levelPublish]; exact hi

theorem pending_execLevelAPublish (v0 v1 v2 v3 s) : (after s (execLevelAPublish v0 v1 v2 v3 s)).pending = s.pending := by
  unfold execLevelAPublish
  split
  · rfl
  · split
    · rfl
    · exact pending_onDomains _ _ _ _ (pending_levelRun _ _ _ _ _)

theorem pending_baNode (m a x) : (baNode m a x).2.pending = a.2.pending := by
  unfold baNode
  repeat' first | rfl | simp only [pending_record] | split

theorem pending_baCommit (b s) : (baCommit b s).pending = s.pending := by
  simp only [baCommit, pending_pushEffect, pending_foldl2 _ (pending_baNode _)]

theorem pending_baStart (s) : (baStart s).pending = s.pending := by
  simp only [baStart] <;>
    repeat' first | simp only [↓mk_pending, ↓pending_requestWake] | with_reducible refine (pending_foldl _ (fun s x => ?_) _ _).trans ?_ | split | rfl

theorem pending_execBaPass (s) : (after s (execBaPass s)).pending = s.pending := by
  unfold execBaPass
  split
  · rfl
  · rw [after_next]
    split
    · refine pending_onDomains _ _ _ _ fun s => ?_
      simp only []
      split
      · exact pending_baCommit _ _
      · rw [pending_stopDomains, pending_baCommit]
    · rfl

theorem pending_frameEstimates (s) : (frameEstimates s).pending = s.pending := by
  simp only [frameEstimates] <;>
    repeat' first | simp only [↓mk_pending] | with_reducible refine (pending_foldl _ (fun s x => ?_) _ _).trans ?_ | split | rfl

theorem pending_ctlRow (v0 s) : (ctlRow v0 s).pending = s.pending := by
  simp only [ctlRow] <;>
    repeat' first | simp only [↓mk_pending, ↓pending_record] | with_reducible refine (pending_foldl _ (fun s x => ?_) _ _).trans ?_ | split | rfl

theorem pending_execBerthOptLost (s) : (after s (execBerthOptLost s)).pending = s.pending := by
  simp only [execBerthOptLost] <;>
    repeat' first | simp only [after_next, ↓mk_pending, ↓pending_ctlRow] | with_reducible refine (pending_foldl _ (fun s x => ?_) _ _).trans ?_ | split | rfl

theorem pending_execFollowLimit (v0 s) : (after s (execFollowLimit v0 s)).pending = s.pending := by
  simp only [execFollowLimit] <;>
    repeat' first | simp only [after_next, ↓mk_pending, ↓pending_ctlRow] | with_reducible refine (pending_foldl _ (fun s x => ?_) _ _).trans ?_ | split | rfl

theorem pending_execFollowWarn (v0 s) : (after s (execFollowWarn v0 s)).pending = s.pending := by
  simp only [execFollowWarn] <;>
    repeat' first | simp only [after_next, ↓mk_pending, ↓pending_ctlRow] | with_reducible refine (pending_foldl _ (fun s x => ?_) _ _).trans ?_ | split | rfl

theorem pending_execJoyTimeout (s) : (after s (execJoyTimeout s)).pending = s.pending := by
  simp only [execJoyTimeout] <;>
    repeat' first | simp only [after_next, ↓mk_pending, ↓pending_ctlRow] | with_reducible refine (pending_foldl _ (fun s x => ?_) _ _).trans ?_ | split | rfl

theorem pending_execTargetLostTimeout (s) : (after s (execTargetLostTimeout s)).pending = s.pending := by
  simp only [execTargetLostTimeout] <;>
    repeat' first | simp only [after_next, ↓mk_pending, ↓pending_ctlRow] | with_reducible refine (pending_foldl _ (fun s x => ?_) _ _).trans ?_ | split | rfl

theorem pending_execTrackHoldExpiry (s) : (after s (execTrackHoldExpiry s)).pending = s.pending := by
  simp only [execTrackHoldExpiry] <;>
    repeat' first | simp only [after_next, ↓mk_pending, ↓pending_ctlRow] | with_reducible refine (pending_foldl _ (fun s x => ?_) _ _).trans ?_ | split | rfl

theorem pending_execControlStatus (v0 v1 s) : (after s (execControlStatus v0 v1 s)).pending = s.pending :=
  pending_packetIn _ _ _ _ _ pending_opControlStatus

theorem pending_execJoystickSet (v0 v1 s) : (after s (execJoystickSet v0 v1 s)).pending = s.pending :=
  pending_packetIn _ _ _ _ _ pending_opJoystickSet

theorem pending_execModeSet (v0 v1 s) : (after s (execModeSet v0 v1 s)).pending = s.pending :=
  pending_packetIn _ _ _ _ _ pending_opModeSet

theorem pending_execSetpointGet (v0 v1 s) : (after s (execSetpointGet v0 v1 s)).pending = s.pending :=
  pending_packetIn _ _ _ _ _ pending_opSetpointGet

theorem pending_execSetpointSet (v0 v1 s) : (after s (execSetpointSet v0 v1 s)).pending = s.pending :=
  pending_packetIn _ _ _ _ _ pending_opSetpointSet

theorem pending_clearFaults (v0 s) : (clearFaults v0 s).pending = s.pending := by
  simp only [clearFaults] <;>
    repeat' first | simp only [↓mk_pending] | with_reducible refine (pending_foldl _ (fun s x => ?_) _ _).trans ?_ | split | rfl

theorem pending_availIn (v0 v1 s) : (availIn v0 v1 s).pending = s.pending := by
  simp only [availIn] <;>
    repeat' first | simp only [↓mk_pending, ↓pending_clearFaults] | with_reducible refine (pending_foldl _ (fun s x => ?_) _ _).trans ?_ | split | rfl

theorem pending_clearDue (v0 s) : (clearDue v0 s).pending = s.pending := by
  simp only [clearDue] <;>
    repeat' first | simp only [↓mk_pending, ↓pending_clearFaults] | with_reducible refine (pending_foldl _ (fun s x => ?_) _ _).trans ?_ | split | rfl

theorem pending_execThrusterAvail (v0 v1 s) : (after s (execThrusterAvail v0 v1 s)).pending = s.pending :=
  pending_packetIn _ _ _ _ _ pending_opThrusterAvail

theorem pending_modThr (v0 v1 s) : (modThr v0 v1 s).pending = s.pending := by
  simp only [modThr] <;>
    repeat' first | simp only [↓mk_pending] | with_reducible refine (pending_foldl _ (fun s x => ?_) _ _).trans ?_ | split | rfl

theorem pending_returnThr (v0 s) : (returnThr v0 s).pending = s.pending := by
  simp only [returnThr] <;>
    repeat' first | simp only [↓mk_pending, ↓pending_record, ↓pending_modThr] | with_reducible refine (pending_foldl _ (fun s x => ?_) _ _).trans ?_ | split | rfl

theorem pending_execThrusterReturned (v0 s) : (after s (execThrusterReturned v0 s)).pending = s.pending := by
  simp only [execThrusterReturned] <;>
    repeat' first | simp only [after_next, ↓mk_pending, ↓pending_returnThr] | with_reducible refine (pending_foldl _ (fun s x => ?_) _ _).trans ?_ | split | rfl

theorem pending_judgeMode (s v1) : (judgeMode s v1).pending = s.pending := by
  simp only [judgeMode] <;>
    repeat' first | simp only [↓mk_pending, ↓pending_returnThr, ↓pending_modThr] | with_reducible refine (pending_foldl _ (fun s x => ?_) _ _).trans ?_ | split | rfl

theorem pending_fixAvail (s) : (fixAvail s).pending = s.pending := by
  simp only [fixAvail] <;>
    repeat' first | simp only [↓mk_pending, ↓pending_judgeMode] | with_reducible refine (pending_foldl _ (fun s x => ?_) _ _).trans ?_ | split | rfl

theorem pending_judgeThruster (s v1) : (judgeThruster s v1).pending = s.pending := by
  simp only [judgeThruster] <;>
    repeat' first | simp only [↓mk_pending, ↓pending_record, ↓pending_modThr] | with_reducible refine (pending_foldl _ (fun s x => ?_) _ _).trans ?_ | split | rfl

theorem pending_judgeThrusters (s) : (judgeThrusters s).pending = s.pending := by
  simp only [judgeThrusters] <;>
    repeat' first | simp only [↓mk_pending, ↓pending_judgeThruster] | with_reducible refine (pending_foldl _ (fun s x => ?_) _ _).trans ?_ | split | rfl

theorem pending_keepFault (v0 s) : (keepFault v0 s).pending = s.pending := by
  simp only [keepFault] <;>
    repeat' first | simp only [↓mk_pending] | with_reducible refine (pending_foldl _ (fun s x => ?_) _ _).trans ?_ | split | rfl

theorem pending_keepMarks (v0 s) : (keepMarks v0 s).pending = s.pending := by
  simp only [keepMarks] <;>
    repeat' first | simp only [↓mk_pending, ↓pending_keepSlots] | with_reducible refine (pending_foldl _ (fun s x => ?_) _ _).trans ?_ | split | rfl

theorem pending_publishThrusters (v0 s) : (publishThrusters v0 s).pending = s.pending := by
  simp only [publishThrusters] <;>
    repeat' first | simp only [↓mk_pending, ↓pending_outPut] | with_reducible refine (pending_foldl _ (fun s x => ?_) _ _).trans ?_ | split | rfl

theorem pending_stage6 (v0 s) : (stage6 v0 s).pending = s.pending := by
  simp only [stage6] <;>
    repeat' first | simp only [↓mk_pending, ↓pending_retain, ↓pending_deadlineEvent] | with_reducible refine (pending_foldl _ (fun s x => ?_) _ _).trans ?_ | split | rfl

theorem pending_stage7 (s) : (stage7 s).pending = s.pending := by
  simp only [stage7] <;>
    repeat' first | simp only [↓mk_pending, ↓pending_publishThrusters, ↓pending_modThr, ↓pending_record] | with_reducible refine (pending_foldl _ (fun s x => ?_) _ _).trans ?_ | split | rfl

theorem pending_boundaryStops (s) : (boundaryStops s).pending = s.pending := by
  simp only [boundaryStops] <;>
    repeat' first | simp only [↓mk_pending, ↓pending_stopHere, ↓pending_endCmd, ↓pending_stopEffect] | with_reducible refine (pending_foldl _ (fun s x => ?_) _ _).trans ?_ | split | rfl

theorem pending_execSafeStop (v0 v1 s) : (after s (execSafeStop v0 v1 s)).pending = s.pending :=
  pending_packetIn _ _ _ _ _ (pending_opStop _)

theorem pending_execThrustStop (v0 v1 s) : (after s (execThrustStop v0 v1 s)).pending = s.pending :=
  pending_packetIn _ _ _ _ _ (pending_opStop _)

theorem pending_modBrake (v0 v1 s) : (modBrake v0 v1 s).pending = s.pending := by
  simp only [modBrake] <;>
    repeat' first | simp only [↓mk_pending] | with_reducible refine (pending_foldl _ (fun s x => ?_) _ _).trans ?_ | split | rfl

theorem pending_placementStop (s) : (placementStop s).pending = s.pending := by
  simp only [placementStop] <;>
    repeat' first | simp only [↓mk_pending, ↓pending_takeStop, ↓pending_record] | with_reducible refine (pending_foldl _ (fun s x => ?_) _ _).trans ?_ | split | rfl

theorem pending_askBrake (v0 v1 s) : (askBrake v0 v1 s).pending = s.pending := by
  simp only [askBrake] <;>
    repeat' first | simp only [↓mk_pending, ↓pending_modBrake] | with_reducible refine (pending_foldl _ (fun s x => ?_) _ _).trans ?_ | split | rfl

theorem pending_askBrakes (s) : (askBrakes s).pending = s.pending := by
  simp only [askBrakes] <;>
    repeat' first | simp only [↓mk_pending, ↓pending_askBrake] | with_reducible refine (pending_foldl _ (fun s x => ?_) _ _).trans ?_ | split | rfl

theorem pending_bumpCount (v0 v1 s) : (bumpCount v0 v1 s).pending = s.pending := by
  simp only [bumpCount] <;>
    repeat' first | simp only [↓mk_pending] | with_reducible refine (pending_foldl _ (fun s x => ?_) _ _).trans ?_ | split | rfl

theorem pending_modSat (v0 v1 v2 s) : (modSat v0 v1 v2 s).pending = s.pending := by
  simp only [modSat] <;>
    repeat' first | simp only [↓mk_pending, ↓pending_modThr] | with_reducible refine (pending_foldl _ (fun s x => ?_) _ _).trans ?_ | split | rfl

theorem pending_satFault (v0 v1 s) : (satFault v0 v1 s).pending = s.pending := by
  simp only [satFault] <;>
    repeat' first | simp only [↓mk_pending, ↓pending_record, ↓pending_keepFault, ↓pending_modSat] | with_reducible refine (pending_foldl _ (fun s x => ?_) _ _).trans ?_ | split | rfl

theorem pending_execActSatFault (v0 v1 s) : (after s (execActSatFault v0 v1 s)).pending = s.pending := by
  simp only [execActSatFault] <;>
    repeat' first | simp only [after_next, ↓mk_pending, ↓pending_satFault] | with_reducible refine (pending_foldl _ (fun s x => ?_) _ _).trans ?_ | split | rfl

theorem pending_satWarn (v0 v1 s) : (satWarn v0 v1 s).pending = s.pending := by
  simp only [satWarn] <;>
    repeat' first | simp only [↓mk_pending, ↓pending_record, ↓pending_modSat] | with_reducible refine (pending_foldl _ (fun s x => ?_) _ _).trans ?_ | split | rfl

theorem pending_execActSatWarn (v0 v1 s) : (after s (execActSatWarn v0 v1 s)).pending = s.pending := by
  simp only [execActSatWarn] <;>
    repeat' first | simp only [after_next, ↓mk_pending, ↓pending_satWarn] | with_reducible refine (pending_foldl _ (fun s x => ?_) _ _).trans ?_ | split | rfl

theorem pending_startThr (s v1) : (startThr s v1).pending = s.pending := by
  simp only [startThr] <;>
    repeat' first | simp only [↓mk_pending, ↓pending_modThr] | with_reducible refine (pending_foldl _ (fun s x => ?_) _ _).trans ?_ | split | rfl

theorem pending_makeCurrent (v0 s) : (makeCurrent v0 s).pending = s.pending := by
  simp only [makeCurrent] <;>
    repeat' first | simp only [↓mk_pending, ↓pending_startThr] | with_reducible refine (pending_foldl _ (fun s x => ?_) _ _).trans ?_ | split | rfl

theorem pending_extCurrent (v0 s) : (extCurrent v0 s).pending = s.pending := by
  simp only [extCurrent] <;>
    repeat' first | simp only [↓mk_pending, ↓pending_makeCurrent] | with_reducible refine (pending_foldl _ (fun s x => ?_) _ _).trans ?_ | split | rfl

theorem pending_extRelease (v0 s) : (extRelease v0 s).pending = s.pending := by
  simp only [extRelease] <;>
    repeat' first | simp only [↓mk_pending, ↓pending_extCurrent] | with_reducible refine (pending_foldl _ (fun s x => ?_) _ _).trans ?_ | split | rfl

theorem pending_markRelease (v0 v1 s) : (markRelease v0 v1 s).pending = s.pending := by
  simp only [markRelease] <;>
    repeat' first | simp only [↓mk_pending] | with_reducible refine (pending_foldl _ (fun s x => ?_) _ _).trans ?_ | split | rfl

theorem pending_release (s) : (release s).pending = s.pending := by
  simp only [release] <;>
    repeat' first | simp only [↓mk_pending, ↓pending_makeCurrent, ↓pending_bumpCount] | with_reducible refine (pending_foldl _ (fun s x => ?_) _ _).trans ?_ | split | rfl

theorem pending_superviseExt (s) : (superviseExt s).pending = s.pending := by
  simp only [superviseExt] <;>
    repeat' first | simp only [↓mk_pending, ↓pending_record] | with_reducible refine (pending_foldl _ (fun s x => ?_) _ _).trans ?_ | split | rfl

theorem pending_steerThr (v0 s v2) : (steerThr v0 s v2).pending = s.pending := by
  simp only [steerThr] <;>
    repeat' first | simp only [↓mk_pending, ↓pending_modThr] | with_reducible refine (pending_foldl _ (fun s x => ?_) _ _).trans ?_ | split | rfl

theorem pending_satStep (v0 v1 v2 s) : (satStep v0 v1 v2 s).pending = s.pending := by
  simp only [satStep] <;>
    repeat' first | simp only [↓mk_pending, ↓pending_satFault, ↓pending_satWarn, ↓pending_modSat] | with_reducible refine (pending_foldl _ (fun s x => ?_) _ _).trans ?_ | split | rfl

theorem pending_superviseThr (s v1) : (superviseThr s v1).pending = s.pending := by
  simp only [superviseThr] <;>
    repeat' first | simp only [↓mk_pending, ↓pending_satStep] | with_reducible refine (pending_foldl _ (fun s x => ?_) _ _).trans ?_ | split | rfl

theorem pending_keepFrames (s) : (keepFrames s).pending = s.pending := by
  simp only [keepFrames] <;>
    repeat' first | simp only [↓mk_pending] | with_reducible refine (pending_foldl _ (fun s x => ?_) _ _).trans ?_ | split | rfl

theorem pending_watchHold (s) : (watchHold s).pending = s.pending := by
  simp only [watchHold] <;>
    repeat' first | simp only [↓mk_pending] | with_reducible refine (pending_foldl _ (fun s x => ?_) _ _).trans ?_ | split | rfl

theorem pending_sendExtFb (s) : (sendExtFb s).pending = s.pending := by
  simp only [sendExtFb] <;>
    repeat' first | simp only [↓mk_pending, ↓pending_sendCasc] | with_reducible refine (pending_foldl _ (fun s x => ?_) _ _).trans ?_ | split | rfl

theorem pending_tpRun (v0 v1 s) : (tpRun v0 v1 s).pending = s.pending := by
  simp only [tpRun] <;>
    repeat' first | simp only [↓mk_pending, ↓pending_boundaryStops, ↓pending_extRelease, ↓pending_markRelease, ↓pending_release, ↓pending_superviseDrive, ↓pending_superviseExt, ↓pending_steerThr, ↓pending_superviseThr, ↓pending_askBrakes, ↓pending_sendFrames, ↓pending_keepFrames, ↓pending_watchHold, ↓pending_sendExtFb, ↓pending_drainCasc] | with_reducible refine (pending_foldl _ (fun s x => ?_) _ _).trans ?_ | split | rfl

theorem pending_tpWork (v0 v1 s) : (tpWork v0 v1 s).pending = s.pending := by
  simp only [tpWork] <;>
    repeat' first | simp only [↓mk_pending, ↓pending_boundaryStops, ↓pending_tpRun] | with_reducible refine (pending_foldl _ (fun s x => ?_) _ _).trans ?_ | split | rfl

theorem pending_execTpBoundary (s) : (after s (execTpBoundary s)).pending = s.pending := by
  simp only [execTpBoundary] <;>
    repeat' first | simp only [after_next, ↓mk_pending, ↓pending_gridView, ↓pending_tpWork, ↓pending_countTo] | with_reducible refine (pending_foldl _ (fun s x => ?_) _ _).trans ?_ | split | rfl

theorem pending_stagedView (s) : (stagedView s).pending = s.pending := by
  simp only [stagedView] <;>
    repeat' first | simp only [↓mk_pending] | with_reducible refine (pending_foldl _ (fun s x => ?_) _ _).trans ?_ | split | rfl

theorem pending_applyBlock (v0 s) : (applyBlock v0 s).pending = s.pending := by
  simp only [applyBlock] <;>
    repeat' first | simp only [↓mk_pending] | with_reducible refine (pending_foldl _ (fun s x => ?_) _ _).trans ?_ | split | rfl

theorem pending_applySignal (v0 v1 s) : (applySignal v0 v1 s).pending = s.pending := by
  simp only [applySignal] <;>
    repeat' first | simp only [↓mk_pending, ↓pending_outPut] | with_reducible refine (pending_foldl _ (fun s x => ?_) _ _).trans ?_ | split | rfl

theorem pending_applyEntry (v0 v1 s) : (applyEntry v0 v1 s).pending = s.pending := by
  simp only [applyEntry] <;>
    repeat' first | simp only [↓mk_pending, ↓pending_applyBlock, ↓pending_applySignal] | with_reducible refine (pending_foldl _ (fun s x => ?_) _ _).trans ?_ | split | rfl

theorem pending_applyEntries (v0 v1 s) : (applyEntries v0 v1 s).pending = s.pending := by
  induction v0 generalizing v1 s with
  | nil => rfl
  | cons e es ih => rw [applyEntries, ih, pending_applyEntry]

theorem pending_stage8 (s) : (stage8 s).pending = s.pending := by
  simp only [stage8] <;>
    repeat' first | simp only [↓mk_pending, ↓pending_sendCascOf] | with_reducible refine (pending_foldl _ (fun s x => ?_) _ _).trans ?_ | split | rfl

theorem pending_execMirror (s) : (after s (execMirror s)).pending = s.pending := by
  simp only [execMirror] <;>
    repeat' first | simp only [after_next, ↓mk_pending, ↓pending_stage8] | with_reducible refine (pending_foldl _ (fun s x => ?_) _ _).trans ?_ | split | rfl

theorem pending_mirrorIn (v0 s) : (mirrorIn v0 s).pending = s.pending := by
  simp only [mirrorIn] <;>
    repeat' first | simp only [↓mk_pending] | with_reducible refine (pending_foldl _ (fun s x => ?_) _ _).trans ?_ | split | rfl

theorem pending_execMirrorRx (v0 s) : (after s (execMirrorRx v0 s)).pending = s.pending := by
  simp only [execMirrorRx] <;>
    repeat' first | simp only [after_next, ↓mk_pending, ↓pending_mirrorIn] | with_reducible refine (pending_foldl _ (fun s x => ?_) _ _).trans ?_ | split | rfl

theorem pending_keepSignals (s) : (keepSignals s).pending = s.pending := by
  simp only [keepSignals] <;>
    repeat' first | simp only [↓mk_pending] | with_reducible refine (pending_foldl _ (fun s x => ?_) _ _).trans ?_ | split | rfl

theorem pending_keepStream (s) : (keepStream s).pending = s.pending := by
  simp only [keepStream] <;>
    repeat' first | simp only [↓mk_pending] | with_reducible refine (pending_foldl _ (fun s x => ?_) _ _).trans ?_ | split | rfl

theorem pending_useStream (v0 s) : (useStream v0 s).pending = s.pending := by
  simp only [useStream] <;>
    repeat' first | simp only [↓mk_pending, ↓pending_applyEntries] | with_reducible refine (pending_foldl _ (fun s x => ?_) _ _).trans ?_ | split | rfl

theorem pending_noteHandover (s) : (noteHandover s).pending = s.pending := by
  simp only [noteHandover] <;>
    repeat' first | simp only [↓mk_pending] | with_reducible refine (pending_foldl _ (fun s x => ?_) _ _).trans ?_ | split | rfl

theorem pending_handoverDone (v0 s) : (handoverDone v0 s).pending = s.pending := by
  simp only [handoverDone] <;>
    repeat' first | simp only [↓mk_pending, ↓pending_noteHandover, ↓pending_record, ↓pending_seeEpoch, ↓pending_stopOwning, ↓pending_endCmd] | with_reducible refine (pending_foldl _ (fun s x => ?_) _ _).trans ?_ | split | rfl

theorem pending_tryHandover (v0 v1 s t) (h : tryHandover v0 v1 s = some t) : t.pending = s.pending := by
  simp only [tryHandover, Option.map_eq_some_iff] at h
  obtain ⟨d, -, rfl⟩ := h
  rw [pending_sendHandover]

theorem pending_handoverNext (v0 v1 s) : (handoverNext v0 v1 s).pending = s.pending := by
  simp only [handoverNext]
  repeat' first | rfl | simp only [pending_endCmd, pending_record] | exact pending_tryHandover _ _ _ _ ‹_› | split

theorem pending_ackIn (v0 s) : (ackIn v0 s).pending = s.pending := by
  simp only [ackIn] <;>
    repeat' first | simp only [↓mk_pending, ↓pending_stopOwning, ↓pending_handoverDone, ↓pending_handoverNext] | with_reducible refine (pending_foldl _ (fun s x => ?_) _ _).trans ?_ | split | rfl

theorem pending_exclude (v0 s) : (exclude v0 s).pending = s.pending := by
  simp only [exclude] <;>
    repeat' first | simp only [↓mk_pending, ↓pending_changeRole, ↓pending_record] | with_reducible refine (pending_foldl _ (fun s x => ?_) _ _).trans ?_ | split | rfl

theorem pending_modPeer (v0 v1 s) : (modPeer v0 v1 s).pending = s.pending := by
  simp only [modPeer] <;>
    repeat' first | simp only [↓mk_pending] | with_reducible refine (pending_foldl _ (fun s x => ?_) _ _).trans ?_ | split | rfl

theorem pending_releasePermit (v0 s) : (releasePermit v0 s).pending = s.pending := by
  simp only [releasePermit] <;>
    repeat' first | simp only [↓mk_pending] | with_reducible refine (pending_foldl _ (fun s x => ?_) _ _).trans ?_ | split | rfl

theorem pending_resolveRole (s) : (resolveRole s).pending = s.pending := by
  simp only [resolveRole] <;>
    repeat' first | simp only [↓mk_pending, ↓pending_exclude] | with_reducible refine (pending_foldl _ (fun s x => ?_) _ _).trans ?_ | split | rfl

theorem pending_meetMaster (v0 v1 s) : (meetMaster v0 v1 s).pending = s.pending := by
  simp only [meetMaster] <;>
    repeat' first | simp only [↓mk_pending, ↓pending_stopOwning, ↓pending_record, ↓pending_changeRole] | with_reducible refine (pending_foldl _ (fun s x => ?_) _ _).trans ?_ | split | rfl

theorem pending_announceIn (m s) : (announceIn m s).pending = s.pending := by
  unfold announceIn
  split
  · rfl
  · split
    · exact pending_exclude _ _
    · extract_lets b old p s0 s1 s2 own x1 s3 s4
      have h1 : s1.pending = s.pending := by
        simp only [s1]; split <;> simp only [pending_meetOwner, s0, pending_modPeer]
      clear_value s1
      have h2 : s2.pending = s.pending := by
        simp only [s2]; split <;> simp only [pending_learnOwner, pending_seeEpoch, h1]
      clear_value s2
      have h3 : s3.pending = s.pending := by
        simp only [s3]; repeat' first | exact h2 | split
      clear_value s3
      have h4 : s4.pending = s.pending := by
        simp only [s4]; split <;> simp only [pending_releasePermit, h3]
      clear_value s4
      split <;> simp only [pending_resolveRole, pending_meetMaster, h4]

theorem pending_setLink (v0 v1 s) : (setLink v0 v1 s).pending = s.pending := by
  simp only [setLink] <;>
    repeat' first | simp only [↓mk_pending, ↓pending_record] | with_reducible refine (pending_foldl _ (fun s x => ?_) _ _).trans ?_ | split | rfl

theorem pending_badFrame (v0 s) : (badFrame v0 s).pending = s.pending := by
  simp only [badFrame] <;>
    repeat' first | simp only [↓mk_pending, ↓pending_setLink] | with_reducible refine (pending_foldl _ (fun s x => ?_) _ _).trans ?_ | split | rfl

theorem pending_becomeOwner (v0 s) : (becomeOwner v0 s).pending = s.pending := by
  simp only [becomeOwner] <;>
    repeat' first | simp only [↓mk_pending, ↓pending_newEpoch, ↓pending_noteHandover, ↓pending_announce, ↓pending_askBrakes, ↓pending_sendFrames, ↓pending_nowOwns] | with_reducible refine (pending_foldl _ (fun s x => ?_) _ _).trans ?_ | split | rfl

theorem pending_bootDataIn (v0 s) : (bootDataIn v0 s).pending = s.pending := by
  simp only [bootDataIn] <;>
    repeat' first | simp only [↓mk_pending] | with_reducible refine (pending_foldl _ (fun s x => ?_) _ _).trans ?_ | split | rfl

theorem pending_bootReqIn (v0 s) : (bootReqIn v0 s).pending = s.pending := by
  simp only [bootReqIn] <;>
    repeat' first | simp only [↓mk_pending, ↓pending_sendCasc] | with_reducible refine (pending_foldl _ (fun s x => ?_) _ _).trans ?_ | split | rfl

theorem pending_execAck (v0 s) : (after s (execAck v0 s)).pending = s.pending := by
  simp only [execAck] <;>
    repeat' first | simp only [after_next, ↓mk_pending, ↓pending_ackIn] | with_reducible refine (pending_foldl _ (fun s x => ?_) _ _).trans ?_ | split | rfl

theorem pending_execAnnounceRx (v0 s) : (after s (execAnnounceRx v0 s)).pending = s.pending := by
  simp only [execAnnounceRx] <;>
    repeat' first | simp only [after_next, ↓mk_pending, ↓pending_announceIn] | with_reducible refine (pending_foldl _ (fun s x => ?_) _ _).trans ?_ | split | rfl

theorem pending_execAnnounceTx (s) : (after s (execAnnounceTx s)).pending = s.pending := by
  simp only [execAnnounceTx] <;>
    repeat' first | simp only [after_next, ↓mk_pending, ↓pending_announce, ↓pending_elapseTo] | with_reducible refine (pending_foldl _ (fun s x => ?_) _ _).trans ?_ | split | rfl

theorem pending_sendArb (v0 v1 v2 s) : (sendArb v0 v1 v2 s).pending = s.pending := by
  simp only [sendArb] <;>
    repeat' first | simp only [↓mk_pending, ↓pending_emit] | with_reducible refine (pending_foldl _ (fun s x => ?_) _ _).trans ?_ | split | rfl

theorem pending_sendAck (v0 v1 v2 s) : (sendAck v0 v1 v2 s).pending = s.pending := by
  simp only [sendAck] <;>
    repeat' first | simp only [↓mk_pending, ↓pending_sendArb, ↓pending_sendCasc] | with_reducible refine (pending_foldl _ (fun s x => ?_) _ _).trans ?_ | split | rfl

theorem pending_takeIn (v0 v1 s) : (takeIn v0 v1 s).pending = s.pending := by
  simp only [takeIn] <;>
    repeat' first | simp only [↓mk_pending, ↓pending_sendAck, ↓pending_becomeOwner, ↓pending_meetOwner, ↓pending_learnOwner, ↓pending_seeEpoch, ↓pending_noteHandover] | with_reducible refine (pending_foldl _ (fun s x => ?_) _ _).trans ?_ | split | rfl

theorem pending_yieldIn (v0 v1 s) : (yieldIn v0 v1 s).pending = s.pending := by
  simp only [yieldIn] <;>
    repeat' first | simp only [↓mk_pending, ↓pending_sendAck, ↓pending_stopOwning] | with_reducible refine (pending_foldl _ (fun s x => ?_) _ _).trans ?_ | split | rfl

theorem pending_execArbiterDatagramRx (v0 v1 v2 s) : (after s (execArbiterDatagramRx v0 v1 v2 s)).pending = s.pending := by
  simp only [execArbiterDatagramRx] <;>
    repeat' first | simp only [after_next, ↓mk_pending, ↓pending_takeIn, ↓pending_yieldIn] | with_reducible refine (pending_foldl _ (fun s x => ?_) _ _).trans ?_ | split | rfl

theorem pending_execBootData (v0 s) : (after s (execBootData v0 s)).pending = s.pending := by
  simp only [execBootData] <;>
    repeat' first | simp only [after_next, ↓mk_pending, ↓pending_bootDataIn] | with_reducible refine (pending_foldl _ (fun s x => ?_) _ _).trans ?_ | split | rfl

theorem pending_execBootReq (v0 s) : (after s (execBootReq v0 s)).pending = s.pending := by
  simp only [execBootReq] <;>
    repeat' first | simp only [after_next, ↓mk_pending, ↓pending_bootReqIn] | with_reducible refine (pending_foldl _ (fun s x => ?_) _ _).trans ?_ | split | rfl

theorem pending_execBootReqTx (s) : (after s (execBootReqTx s)).pending = s.pending := by
  simp only [execBootReqTx] <;>
    repeat' first | simp only [after_next, ↓mk_pending, ↓pending_elapseTo, ↓pending_sendCasc] | with_reducible refine (pending_foldl _ (fun s x => ?_) _ _).trans ?_ | split | rfl

theorem pending_forward (v0 v1 s) : (forward v0 v1 s).pending = s.pending := by
  simp only [forward] <;>
    repeat' first | simp only [↓mk_pending, ↓pending_queueCasc] | with_reducible refine (pending_foldl _ (fun s x => ?_) _ _).trans ?_ | split | rfl

theorem pending_learnDistance (v0 v1 v2 v3 s) : (learnDistance v0 v1 v2 v3 s).pending = s.pending := by
  simp only [learnDistance] <;>
    repeat' first | simp only [↓mk_pending, ↓pending_modPeer] | with_reducible refine (pending_foldl _ (fun s x => ?_) _ _).trans ?_ | split | rfl

theorem pending_keepHealth (v0 v1 s) : (keepHealth v0 v1 s).pending = s.pending := by
  simp only [keepHealth] <;>
    repeat' first | simp only [↓mk_pending, ↓pending_modPeer] | with_reducible refine (pending_foldl _ (fun s x => ?_) _ _).trans ?_ | split | rfl

theorem pending_healthIn (v0 s) : (healthIn v0 s).pending = s.pending := by
  simp only [healthIn] <;>
    repeat' first | simp only [↓mk_pending, ↓pending_keepHealth, ↓pending_meetOwner, ↓pending_learnOwner, ↓pending_seeEpoch] | with_reducible refine (pending_foldl _ (fun s x => ?_) _ _).trans ?_ | split | rfl

theorem pending_extCmdIn (v0 s) : (extCmdIn v0 s).pending = s.pending := by
  simp only [extCmdIn] <;>
    repeat' first | simp only [↓mk_pending, ↓pending_record, ↓pending_seeEpoch] | with_reducible refine (pending_foldl _ (fun s x => ?_) _ _).trans ?_ | split | rfl

theorem pending_extFbIn (v0 s) : (extFbIn v0 s).pending = s.pending := by
  simp only [extFbIn] <;>
    repeat' first | simp only [↓mk_pending] | with_reducible refine (pending_foldl _ (fun s x => ?_) _ _).trans ?_ | split | rfl

theorem pending_stopIn (v0 s) : (stopIn v0 s).pending = s.pending := by
  simp only [stopIn] <;>
    repeat' first | simp only [↓mk_pending, ↓pending_stopEffect] | with_reducible refine (pending_foldl _ (fun s x => ?_) _ _).trans ?_ | split | rfl

theorem pending_stepNoticeIn (v0 s) : (stepNoticeIn v0 s).pending = s.pending := by
  simp only [stepNoticeIn] <;>
    repeat' first | simp only [↓mk_pending, ↓pending_addStep] | with_reducible refine (pending_foldl _ (fun s x => ?_) _ _).trans ?_ | split | rfl

theorem pending_syncNoticeIn (v0 s) : (syncNoticeIn v0 s).pending = s.pending := by
  simp only [syncNoticeIn] <;>
    repeat' first | simp only [↓mk_pending, ↓pending_record] | with_reducible refine (pending_foldl _ (fun s x => ?_) _ _).trans ?_ | split | rfl

theorem pending_takeFrame2 (v0 v1 s) : (takeFrame2 v0 v1 s).pending = s.pending := by
  simp only [takeFrame2] <;>
    repeat' first | simp only [↓mk_pending, ↓pending_announceIn, ↓pending_healthIn, ↓pending_takeIn, ↓pending_yieldIn, ↓pending_ackIn, ↓pending_mirrorIn, ↓pending_extCmdIn, ↓pending_extFbIn, ↓pending_stopIn, ↓pending_stepNoticeIn, ↓pending_syncNoticeIn, ↓pending_bootReqIn, ↓pending_bootDataIn] | with_reducible refine (pending_foldl _ (fun s x => ?_) _ _).trans ?_ | split | rfl

theorem pending_execCascFrameRx (v0 v1 s) : (after s (execCascFrameRx v0 v1 s)).pending = s.pending := by
  simp only [execCascFrameRx] <;>
    repeat' first | simp only [after_next, ↓mk_pending, ↓pending_badFrame, ↓pending_forward, ↓pending_learnDistance, ↓pending_takeFrame2] | with_reducible refine (pending_foldl _ (fun s x => ?_) _ _).trans ?_ | split | rfl

theorem pending_execCascLinkDown (v0 s) : (after s (execCascLinkDown v0 s)).pending = s.pending := by
  simp only [execCascLinkDown] <;>
    repeat' first | simp only [after_next, ↓mk_pending, ↓pending_setLink] | with_reducible refine (pending_foldl _ (fun s x => ?_) _ _).trans ?_ | split | rfl

theorem pending_execCascLinkUp (v0 s) : (after s (execCascLinkUp v0 s)).pending = s.pending := by
  simp only [execCascLinkUp] <;>
    repeat' first | simp only [after_next, ↓mk_pending, ↓pending_setLink] | with_reducible refine (pending_foldl _ (fun s x => ?_) _ _).trans ?_ | split | rfl

theorem pending_execCatchUpStep (v0 s) : (after s (execCatchUpStep v0 s)).pending = s.pending := by
  simp only [execCatchUpStep] <;>
    repeat' first | simp only [after_next, ↓mk_pending, ↓pending_applyStep] | with_reducible refine (pending_foldl _ (fun s x => ?_) _ _).trans ?_ | split | rfl

theorem pending_execExtCmd (v0 s) : (after s (execExtCmd v0 s)).pending = s.pending := by
  simp only [execExtCmd] <;>
    repeat' first | simp only [after_next, ↓mk_pending, ↓pending_extCmdIn] | with_reducible refine (pending_foldl _ (fun s x => ?_) _ _).trans ?_ | split | rfl

theorem pending_execExtFb (v0 s) : (after s (execExtFb v0 s)).pending = s.pending := by
  simp only [execExtFb] <;>
    repeat' first | simp only [after_next, ↓mk_pending, ↓pending_extFbIn] | with_reducible refine (pending_foldl _ (fun s x => ?_) _ _).trans ?_ | split | rfl

theorem pending_extLose (s) : (extLose s).pending = s.pending := by
  simp only [extLose] <;>
    repeat' first | simp only [↓mk_pending, ↓pending_record] | with_reducible refine (pending_foldl _ (fun s x => ?_) _ _).trans ?_ | split | rfl

theorem pending_execExtMasterLost (s) : (after s (execExtMasterLost s)).pending = s.pending := by
  simp only [execExtMasterLost] <;>
    repeat' first | simp only [after_next, ↓mk_pending, ↓pending_extLose] | with_reducible refine (pending_foldl _ (fun s x => ?_) _ _).trans ?_ | split | rfl

theorem pending_execGroupStatus (v0 v1 s) : (after s (execGroupStatus v0 v1 s)).pending = s.pending :=
  pending_packetIn _ _ _ _ _ pending_opGroupStatus

theorem pending_execHandoverAckTimeout (s) : (after s (execHandoverAckTimeout s)).pending = s.pending := by
  simp only [execHandoverAckTimeout] <;>
    repeat' first | simp only [after_next, ↓mk_pending, ↓pending_elapseTo, ↓pending_handoverNext] | with_reducible refine (pending_foldl _ (fun s x => ?_) _ _).trans ?_ | split | rfl

theorem pending_execHandoverRequest (v0 v1 s) : (after s (execHandoverRequest v0 v1 s)).pending = s.pending :=
  pending_packetIn _ _ _ _ _ pending_opHandoverRequest

theorem pending_resendAck (s) : (resendAck s).pending = s.pending := by
  simp only [resendAck] <;>
    repeat' first | simp only [↓mk_pending, ↓pending_elapseTo, ↓pending_sendCasc] | with_reducible refine (pending_foldl _ (fun s x => ?_) _ _).trans ?_ | split | rfl

theorem pending_execHandoverResend (s) : (after s (execHandoverResend s)).pending = s.pending := by
  simp only [execHandoverResend] <;>
    repeat' first | simp only [after_next, ↓mk_pending, ↓pending_resendAck, ↓pending_sendHandover, ↓pending_elapseTo] | with_reducible refine (pending_foldl _ (fun s x => ?_) _ _).trans ?_ | split | rfl

theorem pending_execHbInToggle (v0 s) : (after s (execHbInToggle v0 s)).pending = s.pending := by
  simp only [execHbInToggle] <;>
    repeat' first | simp only [after_next, ↓mk_pending, ↓pending_modPeer] | with_reducible refine (pending_foldl _ (fun s x => ?_) _ _).trans ?_ | split | rfl

theorem pending_execHealthRead (v0 v1 s) : (after s (execHealthRead v0 v1 s)).pending = s.pending :=
  pending_packetIn _ _ _ _ _ pending_opHealthRead

theorem pending_execHealthRx (v0 s) : (after s (execHealthRx v0 s)).pending = s.pending := by
  simp only [execHealthRx] <;>
    repeat' first | simp only [after_next, ↓mk_pending, ↓pending_healthIn] | with_reducible refine (pending_foldl _ (fun s x => ?_) _ _).trans ?_ | split | rfl

theorem pending_withdrawPermit (v0 s) : (withdrawPermit v0 s).pending = s.pending := by
  simp only [withdrawPermit] <;>
    repeat' first | simp only [↓mk_pending, ↓pending_emit] | with_reducible refine (pending_foldl _ (fun s x => ?_) _ _).trans ?_ | split | rfl

theorem pending_execOwnerOverlap (s) : (after s (execOwnerOverlap s)).pending = s.pending := by
  simp only [execOwnerOverlap] <;>
    repeat' first | simp only [after_next, ↓mk_pending, ↓pending_record, ↓pending_withdrawPermit] | with_reducible refine (pending_foldl _ (fun s x => ?_) _ _).trans ?_ | split | rfl

theorem pending_execOwnershipTakeUp (s) : (after s (execOwnershipTakeUp s)).pending = s.pending := by
  simp only [execOwnershipTakeUp] <;>
    repeat' first | simp only [after_next, ↓mk_pending, ↓pending_takeUp, ↓pending_elapseTo] | with_reducible refine (pending_foldl _ (fun s x => ?_) _ _).trans ?_ | split | rfl

theorem pending_execPermitInLow (v0 s) : (after s (execPermitInLow v0 s)).pending = s.pending := by
  simp only [execPermitInLow] <;>
    repeat' first | simp only [after_next, ↓mk_pending, ↓pending_stopOwning] | with_reducible refine (pending_foldl _ (fun s x => ?_) _ _).trans ?_ | split | rfl

theorem pending_execRoleSet (v0 v1 s) : (after s (execRoleSet v0 v1 s)).pending = s.pending :=
  pending_packetIn _ _ _ _ _ pending_opRoleSet

theorem pending_loseStruct (s v1) : (loseStruct s v1).pending = s.pending := by
  simp only [loseStruct] <;>
    repeat' first | simp only [↓mk_pending, ↓pending_record] | with_reducible refine (pending_foldl _ (fun s x => ?_) _ _).trans ?_ | split | rfl

theorem pending_moveStructs (v0 s) : (moveStructs v0 s).pending = s.pending := by
  simp only [moveStructs] <;>
    repeat' first | simp only [↓mk_pending, ↓pending_loseStruct] | with_reducible refine (pending_foldl _ (fun s x => ?_) _ _).trans ?_ | split | rfl

theorem pending_retireTile (v0 v1 s) : (retireTile v0 v1 s).pending = s.pending := by
  simp only [retireTile] <;>
    repeat' first | simp only [↓mk_pending, ↓pending_record, ↓pending_moveStructs, ↓pending_placementStop] | with_reducible refine (pending_foldl _ (fun s x => ?_) _ _).trans ?_ | split | rfl

theorem pending_execSelftestCycle (v0 s) : (after s (execSelftestCycle v0 s)).pending = s.pending := by
  simp only [execSelftestCycle] <;>
    repeat' first | simp only [after_next, ↓mk_pending, ↓pending_retireTile, ↓pending_rnnFail] | with_reducible refine (pending_foldl _ (fun s x => ?_) _ _).trans ?_ | split | rfl

theorem pending_execStepNotice (v0 s) : (after s (execStepNotice v0 s)).pending = s.pending := by
  simp only [execStepNotice] <;>
    repeat' first | simp only [after_next, ↓mk_pending, ↓pending_stepNoticeIn] | with_reducible refine (pending_foldl _ (fun s x => ?_) _ _).trans ?_ | split | rfl

theorem pending_execStop (v0 s) : (after s (execStop v0 s)).pending = s.pending := by
  simp only [execStop] <;>
    repeat' first | simp only [after_next, ↓mk_pending, ↓pending_stopIn] | with_reducible refine (pending_foldl _ (fun s x => ?_) _ _).trans ?_ | split | rfl

theorem pending_execSyncNotice (v0 s) : (after s (execSyncNotice v0 s)).pending = s.pending := by
  simp only [execSyncNotice] <;>
    repeat' first | simp only [after_next, ↓mk_pending, ↓pending_syncNoticeIn] | with_reducible refine (pending_foldl _ (fun s x => ?_) _ _).trans ?_ | split | rfl

theorem pending_execTake (v0 s) : (after s (execTake v0 s)).pending = s.pending := by
  simp only [execTake] <;>
    repeat' first | simp only [after_next, ↓mk_pending, ↓pending_takeIn] | with_reducible refine (pending_foldl _ (fun s x => ?_) _ _).trans ?_ | split | rfl

theorem pending_execTileRetired (v0 v1 s) : (after s (execTileRetired v0 v1 s)).pending = s.pending := by
  simp only [execTileRetired] <;>
    repeat' first | simp only [after_next, ↓mk_pending, ↓pending_retireTile] | with_reducible refine (pending_foldl _ (fun s x => ?_) _ _).trans ?_ | split | rfl

theorem pending_execYield (v0 s) : (after s (execYield v0 s)).pending = s.pending := by
  simp only [execYield] <;>
    repeat' first | simp only [after_next, ↓mk_pending, ↓pending_yieldIn] | with_reducible refine (pending_foldl _ (fun s x => ?_) _ _).trans ?_ | split | rfl

theorem pending_extPeriod (s) : (extPeriod s).pending = s.pending := by
  simp only [extPeriod] <;>
    repeat' first | simp only [↓mk_pending, ↓pending_extLose] | with_reducible refine (pending_foldl _ (fun s x => ?_) _ _).trans ?_ | split | rfl

theorem pending_failOwner (v0 v1 v2 s) : (failOwner v0 v1 v2 s).pending = s.pending := by
  simp only [failOwner]
  repeat' first | rfl | simp only [pending_withdrawPermit, pending_record] | exact pending_tryHandover _ _ _ _ ‹_› | split

theorem pending_judgePairs (s) : (judgePairs s).pending = s.pending := by
  simp only [judgePairs] <;>
    repeat' first | simp only [↓mk_pending, ↓pending_record] | with_reducible refine (pending_foldl _ (fun s x => ?_) _ _).trans ?_ | split | rfl

theorem pending_judge (s) : (judge s).pending = s.pending := by
  simp only [judge] <;>
    repeat' first | simp only [↓mk_pending, ↓pending_judgePairs, ↓pending_failOwner] | with_reducible refine (pending_foldl _ (fun s x => ?_) _ _).trans ?_ | split | rfl

theorem pending_sendHealth (v0 s) : (sendHealth v0 s).pending = s.pending := by
  simp only [sendHealth] <;>
    repeat' first | simp only [↓mk_pending, ↓pending_sendCasc, ↓pending_keepHealth, ↓pending_sendArb, ↓pending_emit] | with_reducible refine (pending_foldl _ (fun s x => ?_) _ _).trans ?_ | split | rfl

theorem pending_sendBlock (s v1) : (sendBlock s v1).pending = s.pending := by
  simp only [sendBlock] <;>
    repeat' first | simp only [↓mk_pending, ↓pending_bumpCount, ↓pending_emit] | with_reducible refine (pending_foldl _ (fun s x => ?_) _ _).trans ?_ | split | rfl

theorem pending_flushBlocks (s) : (flushBlocks s).pending = s.pending := by
  simp only [flushBlocks] <;>
    repeat' first | simp only [↓mk_pending, ↓pending_sendBlock] | with_reducible refine (pending_foldl _ (fun s x => ?_) _ _).trans ?_ | split | rfl

theorem pending_openBlock (s) : (openBlock s).pending = s.pending := by
  simp only [openBlock] <;>
    repeat' first | simp only [↓mk_pending] | with_reducible refine (pending_foldl _ (fun s x => ?_) _ _).trans ?_ | split | rfl

theorem pending_endStage (v0 s) : (endStage v0 s).pending = s.pending := by
  simp only [endStage] <;>
    repeat' first | simp only [↓mk_pending] | with_reducible refine (pending_foldl _ (fun s x => ?_) _ _).trans ?_ | split | rfl

theorem pending_endSix (v0 s) : (endSix v0 s).pending = s.pending := by
  simp only [endSix] <;>
    repeat' first | simp only [↓mk_pending, ↓pending_keepStream, ↓pending_endStage, ↓pending_stage6] | with_reducible refine (pending_foldl _ (fun s x => ?_) _ _).trans ?_ | split | rfl

theorem pending_allocate (v0 s) : (allocate v0 s).pending = s.pending := by
  simp only [allocate] <;>
    repeat' first | simp only [↓mk_pending, ↓pending_countTo, ↓pending_endSix, ↓pending_record] | with_reducible refine (pending_foldl _ (fun s x => ?_) _ _).trans ?_ | split | rfl

theorem pending_beat (v0 s) : (beat v0 s).pending = s.pending := by
  simp only [beat] <;>
    repeat' first | simp only [↓mk_pending] | with_reducible refine (pending_foldl _ (fun s x => ?_) _ _).trans ?_ | split | rfl

theorem pending_takeControl (v0 v1 s) : (takeControl v0 v1 s).pending = s.pending := by
  simp only [takeControl] <;>
    repeat' first | simp only [↓mk_pending, ↓pending_outPut, ↓pending_record, ↓pending_fixAvail] | with_reducible refine (pending_foldl _ (fun s x => ?_) _ _).trans ?_ | split | rfl

theorem pending_control (s) : (control s).pending = s.pending := by
  simp only [control] <;>
    repeat' first | simp only [↓mk_pending, ↓pending_bumpCount, ↓pending_takeControl] | with_reducible refine (pending_foldl _ (fun s x => ?_) _ _).trans ?_ | split | rfl

theorem pending_dropChain (v0 s) : (dropChain v0 s).pending = s.pending := by
  simp only [dropChain] <;>
    repeat' first | simp only [↓mk_pending, ↓pending_bumpCount] | with_reducible refine (pending_foldl _ (fun s x => ?_) _ _).trans ?_ | split | rfl

theorem pending_execAllocation (v0 s) : (after s (execAllocation v0 s)).pending = s.pending := by
  unfold execAllocation
  split
  · rfl
  · refine pending_onDomains _ _ _ _ fun t => ?_
    split
    · exact pending_allocate _ _
    · exact pending_endSix _ _

theorem pending_execControl (s) : (after s (execControl s)).pending = s.pending := by
  simp only [execControl, after_next]
  split
  · exact pending_onWork _ _ _ _ _ pending_control
  · rfl

theorem pending_loseSchedule (v0 s) : (loseSchedule v0 s).pending = s.pending := by
  simp only [loseSchedule] <;>
    repeat' first | simp only [↓mk_pending, ↓pending_record, ↓pending_bumpCount] | with_reducible refine (pending_foldl _ (fun s x => ?_) _ _).trans ?_ | split | rfl

theorem pending_planNext (s) : (planNext s).pending = s.pending := by
  simp only [planNext] <;>
    repeat' first | simp only [↓mk_pending, ↓pending_loseSchedule] | with_reducible refine (pending_foldl _ (fun s x => ?_) _ _).trans ?_ | split | rfl

theorem pending_judgeLate (s) : (judgeLate s).pending = s.pending := by
  simp only [judgeLate] <;>
    repeat' first | simp only [↓mk_pending, ↓pending_bumpCount, ↓pending_record] | with_reducible refine (pending_foldl _ (fun s x => ?_) _ _).trans ?_ | split | rfl

theorem pending_sendExtCmd (s) : (sendExtCmd s).pending = s.pending := by
  simp only [sendExtCmd] <;>
    repeat' first | simp only [↓mk_pending, ↓pending_sendCasc] | with_reducible refine (pending_foldl _ (fun s x => ?_) _ _).trans ?_ | split | rfl

theorem pending_giveCommands (s) : (giveCommands s).pending = s.pending := by
  simp only [giveCommands] <;>
    repeat' first | simp only [↓mk_pending, ↓pending_sendExtCmd] | with_reducible refine (pending_foldl _ (fun s x => ?_) _ _).trans ?_ | split | rfl

theorem pending_handOff (s) : (handOff s).pending = s.pending := by
  simp only [handOff] <;>
    repeat' first | simp only [↓mk_pending, ↓pending_planNext, ↓pending_judgeLate, ↓pending_giveCommands, ↓pending_keepSignals, ↓pending_stage7] | with_reducible refine (pending_foldl _ (fun s x => ?_) _ _).trans ?_ | split | rfl

theorem pending_execHandOff (s) : (after s (execHandOff s)).pending = s.pending := by
  simp only [execHandOff] <;>
    repeat' first | simp only [after_next, ↓mk_pending, ↓pending_handOff] | with_reducible refine (pending_foldl _ (fun s x => ?_) _ _).trans ?_ | split | rfl

theorem pending_finalReads (s) : (finalReads s).pending = s.pending := by
  simp only [finalReads] <;>
    repeat' first | simp only [↓mk_pending, ↓pending_endCmd] | with_reducible refine (pending_foldl _ (fun s x => ?_) _ _).trans ?_ | split | rfl

theorem pending_lastJobs (s) : (lastJobs s).pending = s.pending := by
  simp only [lastJobs] <;>
    repeat' first | simp only [↓mk_pending, ↓pending_stopDomains] | with_reducible refine (pending_foldl _ (fun s x => ?_) _ _).trans ?_ | split | rfl

theorem pending_stage9 (s) : (stage9 s).pending = s.pending := by
  simp only [stage9] <;>
    repeat' first | simp only [↓mk_pending, ↓pending_beat, ↓pending_sendHealth, ↓pending_finalReads, ↓pending_baStart, ↓pending_openBlock, ↓pending_lastJobs] | with_reducible refine (pending_foldl _ (fun s x => ?_) _ _).trans ?_ | split | rfl

theorem pending_execHealth (s) : (after s (execHealth s)).pending = s.pending := by
  simp only [execHealth] <;>
    repeat' first | simp only [after_next, ↓mk_pending, ↓pending_stage9] | with_reducible refine (pending_foldl _ (fun s x => ?_) _ _).trans ?_ | split | rfl

theorem pending_observerStage (s) : (observerStage s).pending = s.pending := by
  simp only [observerStage] <;>
    repeat' first | simp only [↓mk_pending, ↓pending_stopDomains, ↓pending_endStage, ↓pending_frameEstimates, ↓pending_stage4] | with_reducible refine (pending_foldl _ (fun s x => ?_) _ _).trans ?_ | split | rfl

theorem pending_execObserverUpdate (s) : (after s (execObserverUpdate s)).pending = s.pending := by
  simp only [execObserverUpdate, after_next]
  split
  · exact pending_onWork _ _ _ _ _ pending_observerStage
  · rfl

theorem pending_startChain (s) : (startChain s).pending = s.pending := by
  simp only [startChain] <;>
    repeat' first | simp only [↓mk_pending, ↓pending_bumpCount] | with_reducible refine (pending_foldl _ (fun s x => ?_) _ _).trans ?_ | split | rfl

theorem pending_execParisonChain (s) : (after s (execParisonChain s)).pending = s.pending := by
  simp only [execParisonChain, after_next]
  split
  · exact pending_onWork _ _ _ _ _ pending_startChain
  · rfl

theorem pending_execParisonChainComplete (s) : (after s (execParisonChainComplete s)).pending = s.pending := by
  simp only [execParisonChainComplete] <;>
    repeat' first | simp only [after_next, ↓mk_pending, ↓pending_stopDomains] | with_reducible refine (pending_foldl _ (fun s x => ?_) _ _).trans ?_ | split | rfl

theorem pending_voteStage (s) : (voteStage s).pending = s.pending := by
  simp only [voteStage] <;>
    repeat' first | simp only [↓mk_pending, ↓pending_stopDomains, ↓pending_endStage, ↓pending_stage3] | with_reducible refine (pending_foldl _ (fun s x => ?_) _ _).trans ?_ | split | rfl

theorem pending_execProjectionAssociationVote (s) : (after s (execProjectionAssociationVote s)).pending = s.pending := by
  simp only [execProjectionAssociationVote, after_next]
  split
  · exact pending_onWork _ _ _ _ _ pending_voteStage
  · rfl

theorem pending_pruneHeads (v0 s) : (pruneHeads v0 s).pending = s.pending := by
  simp only [pruneHeads] <;>
    repeat' first | simp only [↓mk_pending] | with_reducible refine (pending_foldl _ (fun s x => ?_) _ _).trans ?_ | split | rfl

theorem pending_ownStructs (s) : (ownStructs s).pending = s.pending := by
  simp only [ownStructs] <;>
    repeat' first | simp only [↓mk_pending] | with_reducible refine (pending_foldl _ (fun s x => ?_) _ _).trans ?_ | split | rfl

theorem pending_lockIn (v0 v1 s) : (lockIn v0 v1 s).pending = s.pending := by
  simp only [lockIn] <;>
    repeat' first | simp only [↓mk_pending, ↓pending_canRejoin, ↓pending_obsLock, ↓pending_fusionLock, ↓pending_dropUnnamed, ↓pending_pruneStamps, ↓pending_thresholdsOff, ↓pending_ownStructs] | with_reducible refine (pending_foldl _ (fun s x => ?_) _ _).trans ?_ | split | rfl

theorem pending_takeEffect (s v1) : (takeEffect s v1).pending = s.pending := by
  simp only [takeEffect] <;>
    repeat' first | simp only [↓mk_pending, ↓pending_lockIn, ↓pending_dropUnnamed, ↓pending_thresholdsOff, ↓pending_availIn, ↓pending_selectSource] | with_reducible refine (pending_foldl _ (fun s x => ?_) _ _).trans ?_ | split | rfl

theorem pending_takeCounted (s v1) : (takeCounted s v1).pending = s.pending := by
  simp only [takeCounted] <;>
    repeat' first | simp only [↓mk_pending, ↓pending_takeEffect] | with_reducible refine (pending_foldl _ (fun s x => ?_) _ _).trans ?_ | split | rfl

theorem pending_takeStream (v0 s) : (takeStream v0 s).pending = s.pending := by
  simp only [takeStream] <;>
    repeat' first | simp only [↓mk_pending, ↓pending_useStream, ↓pending_takeCounted] | with_reducible refine (pending_foldl _ (fun s x => ?_) _ _).trans ?_ | split | rfl

theorem pending_takeDue (v0 v1 s) : (takeDue v0 v1 s).pending = s.pending := by
  simp only [takeDue] <;>
    repeat' first | simp only [↓mk_pending, ↓pending_takeStream, ↓pending_takeCounted] | with_reducible refine (pending_foldl _ (fun s x => ?_) _ _).trans ?_ | split | rfl

theorem pending_startPeriod (v0 v1 v2 v3 v4 s) : (startPeriod v0 v1 v2 v3 v4 s).pending = s.pending := by
  simp only [startPeriod] <;>
    repeat' first | simp only [↓mk_pending, ↓pending_pruneHeads, ↓pending_takeDue, ↓pending_judgeThrusters, ↓pending_snapInput, ↓pending_keepMarks] | with_reducible refine (pending_foldl _ (fun s x => ?_) _ _).trans ?_ | split | rfl

theorem pending_execSnapshot (s) : (after s (execSnapshot s)).pending = s.pending := by
  simp only [execSnapshot] <;>
    repeat' first | simp only [after_next, ↓mk_pending, ↓pending_startPeriod, ↓pending_countTo, ↓pending_stallFirst] | with_reducible refine (pending_foldl _ (fun s x => ?_) _ _).trans ?_ | split | rfl

theorem pending_execSolverDeadline (v0 v1 s) : (after s (execSolverDeadline v0 v1 s)).pending = s.pending := by
  simp only [execSolverDeadline] <;>
    repeat' first | simp only [after_next, ↓mk_pending, ↓pending_endSix, ↓pending_countTo, ↓pending_hostDeadline] | with_reducible refine (pending_foldl _ (fun s x => ?_) _ _).trans ?_ | split | rfl

theorem pending_openPeriod (v0 v1 v2 s) : (openPeriod v0 v1 v2 s).pending = s.pending := by
  simp only [openPeriod] <;>
    repeat' first | simp only [↓mk_pending, ↓pending_dropChain, ↓pending_extPeriod, ↓pending_judge, ↓pending_canRecoverStart, ↓pending_busBoundary, ↓pending_acqBoundary, ↓pending_clearDue, ↓pending_flushBlocks, ↓pending_keepMarks, ↓pending_tpWork, ↓pending_pruneSignals] | with_reducible refine (pending_foldl _ (fun s x => ?_) _ _).trans ?_ | split | rfl

theorem pending_ownEffects (v0 s) : (ownEffects v0 s).pending = s.pending := by
  simp only [ownEffects] <;>
    repeat' first | simp only [↓mk_pending, ↓pending_takeEffect] | with_reducible refine (pending_foldl _ (fun s x => ?_) _ _).trans ?_ | split | rfl

theorem pending_execVesselPeriodBoundary (s) : (after s (execVesselPeriodBoundary s)).pending = s.pending := by
  simp only [execVesselPeriodBoundary] <;>
    repeat' first | simp only [after_next, ↓mk_pending, ↓pending_openPeriod, ↓pending_countTo, ↓pending_ownEffects] | with_reducible refine (pending_foldl _ (fun s x => ?_) _ _).trans ?_ | split | rfl

theorem pending_channelFault (v0 s) : (channelFault v0 s).pending = s.pending := by
  simp only [channelFault] <;>
    repeat' first | simp only [↓mk_pending, ↓pending_modBrake, ↓pending_latchTrip] | with_reducible refine (pending_foldl _ (fun s x => ?_) _ _).trans ?_ | split | rfl

theorem pending_drainMonitor (s) : (drainMonitor s).pending = s.pending := by
  simp only [drainMonitor] <;>
    repeat' first | simp only [↓mk_pending, ↓pending_record] | with_reducible refine (pending_foldl _ (fun s x => ?_) _ _).trans ?_ | split | rfl

theorem pending_execBrakeTest (v0 v1 v2 s) : (after s (execBrakeTest v0 v1 v2 s)).pending = s.pending :=
  pending_packetIn _ _ _ _ _ (pending_opBrakeTest _)

theorem pending_execBrakeTestDue (v0 s) : (after s (execBrakeTestDue v0 s)).pending = s.pending := by
  simp only [execBrakeTestDue] <;>
    repeat' first | simp only [after_next, ↓mk_pending, ↓pending_safEvent, ↓pending_modBrake] | with_reducible refine (pending_foldl _ (fun s x => ?_) _ _).trans ?_ | split | rfl

theorem pending_internalFault (v0 s) : (internalFault v0 s).pending = s.pending := by
  simp only [internalFault] <;>
    repeat' first | simp only [↓mk_pending, ↓pending_latchTrip] | with_reducible refine (pending_foldl _ (fun s x => ?_) _ _).trans ?_ | split | rfl

theorem pending_execClockWindow (v0 s) : (after s (execClockWindow v0 s)).pending = s.pending := by
  simp only [execClockWindow] <;>
    repeat' first | simp only [after_next, ↓mk_pending, ↓pending_internalFault] | with_reducible refine (pending_foldl _ (fun s x => ?_) _ _).trans ?_ | split | rfl

theorem pending_execClockWindowTimeout (s) : (after s (execClockWindowTimeout s)).pending = s.pending := by
  simp only [execClockWindowTimeout] <;>
    repeat' first | simp only [after_next, ↓mk_pending, ↓pending_internalFault, ↓pending_elapseTo] | with_reducible refine (pending_foldl _ (fun s x => ?_) _ _).trans ?_ | split | rfl

theorem pending_modDisc (v0 v1 s) : (modDisc v0 v1 s).pending = s.pending := by
  simp only [modDisc] <;>
    repeat' first | simp only [↓mk_pending] | with_reducible refine (pending_foldl _ (fun s x => ?_) _ _).trans ?_ | split | rfl

theorem pending_execDiscrepancy (v0 s) : (after s (execDiscrepancy v0 s)).pending = s.pending := by
  simp only [execDiscrepancy] <;>
    repeat' first | simp only [after_next, ↓mk_pending, ↓pending_judgeSources, ↓pending_modDisc] | with_reducible refine (pending_foldl _ (fun s x => ?_) _ _).trans ?_ | split | rfl

theorem pending_execHeartbeatAbsent (s) : (after s (execHeartbeatAbsent s)).pending = s.pending := by
  simp only [execHeartbeatAbsent] <;>
    repeat' first | simp only [after_next, ↓mk_pending, ↓pending_elapseTo, ↓pending_latchTrip] | with_reducible refine (pending_foldl _ (fun s x => ?_) _ _).trans ?_ | split | rfl

theorem pending_execMonitorDiagnostic (v0 v1 s) : (after s (execMonitorDiagnostic v0 v1 s)).pending = s.pending := by
  simp only [execMonitorDiagnostic] <;>
    repeat' first | simp only [after_next, ↓mk_pending, ↓pending_internalFault] | with_reducible refine (pending_foldl _ (fun s x => ?_) _ _).trans ?_ | split | rfl

theorem pending_execMonitorStartUp (v0 v1 s) : (after s (execMonitorStartUp v0 v1 s)).pending = s.pending := by
  simp only [execMonitorStartUp] <;>
    repeat' first | simp only [after_next, ↓mk_pending, ↓pending_railsUp] | with_reducible refine (pending_foldl _ (fun s x => ?_) _ _).trans ?_ | split | rfl

theorem pending_execRampEnd (v0 s) : (after s (execRampEnd v0 s)).pending = s.pending := by
  simp only [execRampEnd] <;>
    repeat' first | simp only [after_next, ↓mk_pending, ↓pending_modBrake, ↓pending_elapseTo] | with_reducible refine (pending_foldl _ (fun s x => ?_) _ _).trans ?_ | split | rfl

theorem pending_execReadbackDeviation (v0 s) : (after s (execReadbackDeviation v0 s)).pending = s.pending := by
  simp only [execReadbackDeviation] <;>
    repeat' first | simp only [after_next, ↓mk_pending, ↓pending_channelFault] | with_reducible refine (pending_foldl _ (fun s x => ?_) _ _).trans ?_ | split | rfl

theorem pending_execReleaseRequestFallExpiry (v0 s) : (after s (execReleaseRequestFallExpiry v0 s)).pending = s.pending := by
  simp only [execReleaseRequestFallExpiry] <;>
    repeat' first | simp only [after_next, ↓mk_pending, ↓pending_modBrake, ↓pending_elapseTo] | with_reducible refine (pending_foldl _ (fun s x => ?_) _ _).trans ?_ | split | rfl

theorem pending_settlePair (v0 s) : (settlePair v0 s).pending = s.pending := by
  simp only [settlePair] <;>
    repeat' first | simp only [↓mk_pending, ↓pending_modDisc] | with_reducible refine (pending_foldl _ (fun s x => ?_) _ _).trans ?_ | split | rfl

theorem pending_modIn (v0 v1 s) : (modIn v0 v1 s).pending = s.pending := by
  simp only [modIn] <;>
    repeat' first | simp only [↓mk_pending] | with_reducible refine (pending_foldl _ (fun s x => ?_) _ _).trans ?_ | split | rfl

theorem pending_execSafeInputFiltered (v0 v1 s) : (after s (execSafeInputFiltered v0 v1 s)).pending = s.pending := by
  simp only [execSafeInputFiltered] <;>
    repeat' first | simp only [after_next, ↓mk_pending, ↓pending_judgeSources, ↓pending_settlePair, ↓pending_modIn] | with_reducible refine (pending_foldl _ (fun s x => ?_) _ _).trans ?_ | split | rfl

theorem pending_execSafetyCheckConfirm (v0 v1 s) : (after s (execSafetyCheckConfirm v0 v1 s)).pending = s.pending :=
  pending_packetIn _ _ _ _ _ pending_opSafetyCheckConfirm

theorem pending_execSafetyCheckRead (v0 v1 s) : (after s (execSafetyCheckRead v0 v1 s)).pending = s.pending :=
  pending_packetIn _ _ _ _ _ pending_opSafetyCheckRead

theorem pending_execSafetyParamWrite (v0 v1 s) : (after s (execSafetyParamWrite v0 v1 s)).pending = s.pending :=
  pending_packetIn _ _ _ _ _ pending_opSafetyParamWrite

theorem pending_execSafetyStatus (v0 v1 s) : (after s (execSafetyStatus v0 v1 s)).pending = s.pending :=
  pending_packetIn _ _ _ _ _ pending_opSafetyStatus

theorem pending_execSwitchTest (v0 v1 s) : (after s (execSwitchTest v0 v1 s)).pending = s.pending := by
  simp only [execSwitchTest] <;>
    repeat' first | simp only [after_next, ↓mk_pending, ↓pending_channelFault] | with_reducible refine (pending_foldl _ (fun s x => ?_) _ _).trans ?_ | split | rfl

theorem pending_execTestPulse (v0 v1 v2 s) : (after s (execTestPulse v0 v1 v2 s)).pending = s.pending := by
  simp only [execTestPulse] <;>
    repeat' first | simp only [after_next, ↓mk_pending, ↓pending_judgeSources] | with_reducible refine (pending_foldl _ (fun s x => ?_) _ _).trans ?_ | split | rfl

theorem pending_execTripReset (v0 v1 s) : (after s (execTripReset v0 v1 s)).pending = s.pending :=
  pending_packetIn _ _ _ _ _ pending_opTripReset

theorem pending_monitorReset (v0 s) : (monitorReset v0 s).pending = s.pending := by
  simp only [monitorReset] <;>
    repeat' first | simp only [↓mk_pending] | with_reducible refine (pending_foldl _ (fun s x => ?_) _ _).trans ?_ | split | rfl

theorem pending_ageInputs (v0 s) : (ageInputs v0 s).pending = s.pending := by
  simp only [ageInputs] <;>
    repeat' first | simp only [↓mk_pending] | with_reducible refine (pending_foldl _ (fun s x => ?_) _ _).trans ?_ | split | rfl

theorem pending_takeFeedbacks (v0 s) : (takeFeedbacks v0 s).pending = s.pending := by
  simp only [takeFeedbacks] <;>
    repeat' first | simp only [↓mk_pending, ↓pending_modDrive] | with_reducible refine (pending_foldl _ (fun s x => ?_) _ _).trans ?_ | split | rfl

theorem pending_replayClock (v0 v1 s) : (replayClock v0 v1 s).pending = s.pending := by
  simp only [replayClock] <;>
    repeat' first | simp only [↓mk_pending] | with_reducible refine (pending_foldl _ (fun s x => ?_) _ _).trans ?_ | split | rfl

theorem pending_replayStages (s) : (replayStages s).pending = s.pending := by
  simp only [replayStages] <;>
    repeat' first | simp only [↓mk_pending, ↓pending_keepSignals, ↓pending_stage7, ↓pending_endSix, ↓pending_control, ↓pending_stage4, ↓pending_stage3] | with_reducible refine (pending_foldl _ (fun s x => ?_) _ _).trans ?_ | split | rfl

theorem pending_takeOptical (v0 s) : (takeOptical v0 s).pending = s.pending := by
  simp only [takeOptical] <;>
    repeat' first | simp only [↓mk_pending] | with_reducible refine (pending_foldl _ (fun s x => ?_) _ _).trans ?_ | split | rfl

theorem pending_takeChan (v0 s) : (takeChan v0 s).pending = s.pending := by
  simp only [takeChan] <;>
    repeat' first | simp only [↓mk_pending] | with_reducible refine (pending_foldl _ (fun s x => ?_) _ _).trans ?_ | split | rfl

theorem pending_takeEpoch (v0 s) : (takeEpoch v0 s).pending = s.pending := by
  simp only [takeEpoch] <;>
    repeat' first | simp only [↓mk_pending, ↓pending_takeChan] | with_reducible refine (pending_foldl _ (fun s x => ?_) _ _).trans ?_ | split | rfl

theorem pending_takeRtcm (v0 s) : (takeRtcm v0 s).pending = s.pending := by
  simp only [takeRtcm] <;>
    repeat' first | simp only [↓mk_pending, ↓pending_takeFrames] | with_reducible refine (pending_foldl _ (fun s x => ?_) _ _).trans ?_ | split | rfl

theorem pending_takeInput (v0 v1 s) : (takeInput v0 v1 s).pending = s.pending := by
  simp only [takeInput] <;>
    repeat' first | simp only [↓mk_pending, ↓pending_publishAs] | with_reducible refine (pending_foldl _ (fun s x => ?_) _ _).trans ?_ | split | rfl

theorem pending_replaySnapshot (v0 v1 v2 s) : (replaySnapshot v0 v1 v2 s).pending = s.pending := by
  simp only [replaySnapshot] <;>
    repeat' first | simp only [↓mk_pending, ↓pending_takeOptical, ↓pending_pruneHeads, ↓pending_takeCounted, ↓pending_takeEpoch, ↓pending_takeRtcm, ↓pending_takeInput, ↓pending_ageInputs, ↓pending_judgeThrusters] | with_reducible refine (pending_foldl _ (fun s x => ?_) _ _).trans ?_ | split | rfl

theorem pending_replayTps (v0 s) : (replayTps v0 s).pending = s.pending := by
  simp only [replayTps] <;>
    repeat' first | simp only [↓mk_pending, ↓pending_tpRun] | with_reducible refine (pending_foldl _ (fun s x => ?_) _ _).trans ?_ | split | rfl

theorem pending_runBlock (v0 v1 v2 s) : (runBlock v0 v1 v2 s).pending = s.pending := by
  simp only [runBlock] <;>
    repeat' first | simp only [↓mk_pending, ↓pending_clearFaults, ↓pending_takeFeedbacks, ↓pending_replayClock, ↓pending_replayStages, ↓pending_replaySnapshot, ↓pending_keepMarks, ↓pending_tpRun, ↓pending_replayTps, ↓pending_stage9, ↓pending_stage8, ↓pending_bumpCount, ↓pending_record] | with_reducible refine (pending_foldl _ (fun s x => ?_) _ _).trans ?_ | split | rfl

theorem pending_blockDone (v0 v1 v2 s) : (blockDone v0 v1 v2 s).pending = s.pending := by
  simp only [blockDone] <;>
    repeat' first | simp only [↓mk_pending, ↓pending_record, ↓pending_runBlock] | with_reducible refine (pending_foldl _ (fun s x => ?_) _ _).trans ?_ | split | rfl

theorem pending_newBlock (v0 v1 s) : (newBlock v0 v1 s).pending = s.pending := by
  simp only [newBlock] <;>
    repeat' first | simp only [↓mk_pending, ↓pending_record] | with_reducible refine (pending_foldl _ (fun s x => ?_) _ _).trans ?_ | split | rfl

theorem pending_blockPart (v0 s) : (blockPart v0 s).pending = s.pending := by
  simp only [blockPart] <;>
    repeat' first | simp only [↓mk_pending, ↓pending_newBlock, ↓pending_blockDone] | with_reducible refine (pending_foldl _ (fun s x => ?_) _ _).trans ?_ | split | rfl

theorem pending_execLogBlockRx (v0 v1 s) : (after s (execLogBlockRx v0 v1 s)).pending = s.pending := by
  simp only [execLogBlockRx] <;>
    repeat' first | simp only [after_next, ↓mk_pending, ↓pending_blockPart] | with_reducible refine (pending_foldl _ (fun s x => ?_) _ _).trans ?_ | split | rfl

theorem pending_svcReply (v0 v1 v2 s) : (svcReply v0 v1 v2 s).pending = s.pending := by
  simp only [svcReply] <;>
    repeat' first | simp only [↓mk_pending, ↓pending_emit] | with_reducible refine (pending_foldl _ (fun s x => ?_) _ _).trans ?_ | split | rfl

theorem pending_svcIn (v0 v1 v2 v3 v4 s) (h : ∀ s, (v4 s).pending = s.pending) : (after s (svcIn v0 v1 v2 v3 v4 s)).pending = s.pending := by
  simp only [svcIn, after_next]
  repeat' first | exact h _ | simp only [after_next, ↓pending_svcReply] | split | rfl

theorem pending_mtrCommit (s) : (mtrCommit s).pending = s.pending := by
  simp only [mtrCommit] <;>
    repeat' first | simp only [↓mk_pending] | with_reducible refine (pending_foldl _ (fun s x => ?_) _ _).trans ?_ | split | rfl

theorem pending_mtrLog (v0 v1 v2 v3 v4 s) : (mtrLog v0 v1 v2 v3 v4 s).pending = s.pending := by
  simp only [mtrLog] <;>
    repeat' first | simp only [↓mk_pending] | with_reducible refine (pending_foldl _ (fun s x => ?_) _ _).trans ?_ | split | rfl

theorem pending_mtrApply (s) : (mtrApply s).pending = s.pending := by
  simp only [mtrApply] <;>
    repeat' first | simp only [↓mk_pending, ↓pending_mtrCommit, ↓pending_mtrLog] | with_reducible refine (pending_foldl _ (fun s x => ?_) _ _).trans ?_ | split | rfl

theorem pending_execCommit (v0 v1 s) : (after s (execCommit v0 v1 s)).pending = s.pending := by
  refine pending_svcIn _ _ _ _ _ _ (fun s => ?_)
  repeat' first | rfl | simp only [↓pending_svcReply, ↓pending_mtrApply] | split | simp only

theorem pending_mtrActivate (v0 s) : (mtrActivate v0 s).pending = s.pending := by
  simp only [mtrActivate] <;>
    repeat' first | simp only [↓mk_pending, ↓pending_mtrCommit, ↓pending_mtrLog] | with_reducible refine (pending_foldl _ (fun s x => ?_) _ _).trans ?_ | split | rfl

theorem pending_execFwActivate (v0 v1 s) : (after s (execFwActivate v0 v1 s)).pending = s.pending := by
  refine pending_svcIn _ _ _ _ _ _ (fun s => ?_)
  repeat' first | rfl | simp only [↓pending_svcReply, ↓pending_mtrApply, ↓pending_mtrActivate] | split | simp only

theorem pending_execFwBlock (v0 v1 s) : (after s (execFwBlock v0 v1 s)).pending = s.pending := by
  refine pending_svcIn _ _ _ _ _ _ (fun s => ?_)
  repeat' first | rfl | simp only [↓pending_svcReply, ↓pending_mtrApply, ↓pending_mtrActivate] | split | simp only

theorem pending_mtrNote (v0 s) : (mtrNote v0 s).pending = s.pending := by
  simp only [mtrNote] <;>
    repeat' first | simp only [↓mk_pending, ↓pending_mtrLog] | with_reducible refine (pending_foldl _ (fun s x => ?_) _ _).trans ?_ | split | rfl

theorem pending_execMtrClockCheck (v0 v1 s) : (after s (execMtrClockCheck v0 v1 s)).pending = s.pending := by
  simp only [execMtrClockCheck] <;>
    repeat' first | simp only [after_next, ↓mk_pending, ↓pending_elapseTo, ↓pending_mtrNote, ↓pending_mtrLog] | with_reducible refine (pending_foldl _ (fun s x => ?_) _ _).trans ?_ | split | rfl

theorem pending_execMtrIdentRead (v0 v1 s) : (after s (execMtrIdentRead v0 v1 s)).pending = s.pending :=
  pending_packetIn _ _ _ _ _ pending_opMtrIdentRead

theorem pending_execMtrMailboxRead (v0 v1 s) : (after s (execMtrMailboxRead v0 v1 s)).pending = s.pending :=
  pending_packetIn _ _ _ _ _ pending_opMtrMailboxRead

theorem pending_mtrStart (v0 v1 s) : (mtrStart v0 v1 s).pending = s.pending := by
  simp only [mtrStart] <;>
    repeat' first | simp only [↓mk_pending, ↓pending_freshen, ↓pending_mtrLog, ↓pending_mtrNote] | with_reducible refine (pending_foldl _ (fun s x => ?_) _ _).trans ?_ | split | rfl

theorem pending_execMtrPowerUp (v0 v1 s) : (after s (execMtrPowerUp v0 v1 s)).pending = s.pending := by
  simp only [execMtrPowerUp] <;>
    repeat' first | simp only [after_next, ↓mk_pending, ↓pending_mtrStart, ↓pending_mtrNote, ↓pending_railsUp] | with_reducible refine (pending_foldl _ (fun s x => ?_) _ _).trans ?_ | split | rfl

theorem pending_execMtrPulse (v0 s) : (after s (execMtrPulse v0 s)).pending = s.pending := by
  simp only [execMtrPulse] <;>
    repeat' first | simp only [after_next, ↓mk_pending, ↓pending_elapseTo, ↓pending_emit] | with_reducible refine (pending_foldl _ (fun s x => ?_) _ _).trans ?_ | split | rfl

theorem pending_execMtrRegisterCommit (s) : (after s (execMtrRegisterCommit s)).pending = s.pending := by
  simp only [execMtrRegisterCommit] <;>
    repeat' first | simp only [after_next, ↓mk_pending, ↓pending_mtrCommit] | with_reducible refine (pending_foldl _ (fun s x => ?_) _ _).trans ?_ | split | rfl

theorem pending_mtrSampleIn (v0 s) : (mtrSampleIn v0 s).pending = s.pending := by
  simp only [mtrSampleIn] <;>
    repeat' first | simp only [↓mk_pending] | with_reducible refine (pending_foldl _ (fun s x => ?_) _ _).trans ?_ | split | rfl

theorem pending_execMtrSample (v0 s) : (after s (execMtrSample v0 s)).pending = s.pending := by
  simp only [execMtrSample] <;>
    repeat' first | simp only [after_next, ↓mk_pending, ↓pending_mtrSampleIn, ↓pending_elapseTo] | with_reducible refine (pending_foldl _ (fun s x => ?_) _ _).trans ?_ | split | rfl

theorem pending_mtrSecondEnd (v0 s) : (mtrSecondEnd v0 s).pending = s.pending := by
  simp only [mtrSecondEnd] <;>
    repeat' first | simp only [↓mk_pending, ↓pending_seeImage] | with_reducible refine (pending_foldl _ (fun s x => ?_) _ _).trans ?_ | split | rfl

theorem pending_execMtrSecond (v0 s) : (after s (execMtrSecond v0 s)).pending = s.pending := by
  simp only [execMtrSecond] <;>
    repeat' first | simp only [after_next, ↓mk_pending, ↓pending_mtrSecondEnd, ↓pending_elapseTo] | with_reducible refine (pending_foldl _ (fun s x => ?_) _ _).trans ?_ | split | rfl

theorem pending_execMtrWatchdog (s) : (after s (execMtrWatchdog s)).pending = s.pending := by
  simp only [execMtrWatchdog] <;>
    repeat' first | simp only [after_next, ↓mk_pending, ↓pending_mtrStart, ↓pending_mtrNote] | with_reducible refine (pending_foldl _ (fun s x => ?_) _ _).trans ?_ | split | rfl

theorem pending_execPhaseLoss (v0 v1 s) : (after s (execPhaseLoss v0 v1 s)).pending = s.pending := by
  simp only [execPhaseLoss] <;>
    repeat' first | simp only [after_next, ↓mk_pending, ↓pending_mtrLog] | with_reducible refine (pending_foldl _ (fun s x => ?_) _ _).trans ?_ | split | rfl

theorem pending_execReadIdent (v0 v1 s) : (after s (execReadIdent v0 v1 s)).pending = s.pending := by
  refine pending_svcIn _ _ _ _ _ _ (fun s => ?_)
  repeat' first | rfl | simp only [↓pending_svcReply, ↓pending_mtrApply, ↓pending_mtrActivate] | split | simp only

theorem pending_execReadLog (v0 v1 s) : (after s (execReadLog v0 v1 s)).pending = s.pending := by
  refine pending_svcIn _ _ _ _ _ _ (fun s => ?_)
  repeat' first | rfl | simp only [↓pending_svcReply, ↓pending_mtrApply, ↓pending_mtrActivate] | split | simp only

theorem pending_execReadMailbox (v0 v1 s) : (after s (execReadMailbox v0 v1 s)).pending = s.pending := by
  refine pending_svcIn _ _ _ _ _ _ (fun s => ?_)
  repeat' first | rfl | simp only [↓pending_svcReply, ↓pending_mtrApply, ↓pending_mtrActivate] | split | simp only

theorem pending_execReadParam (v0 v1 s) : (after s (execReadParam v0 v1 s)).pending = s.pending := by
  refine pending_svcIn _ _ _ _ _ _ (fun s => ?_)
  repeat' first | rfl | simp only [↓pending_svcReply, ↓pending_mtrApply, ↓pending_mtrActivate] | split | simp only

theorem pending_execSealed (s) : (after s (execSealed s)).pending = s.pending := by
  simp only [execSealed] <;>
    repeat' first | simp only [after_next, ↓mk_pending, ↓pending_mtrNote] | with_reducible refine (pending_foldl _ (fun s x => ?_) _ _).trans ?_ | split | rfl

theorem pending_execUnsealed (s) : (after s (execUnsealed s)).pending = s.pending := by
  simp only [execUnsealed] <;>
    repeat' first | simp only [after_next, ↓mk_pending, ↓pending_mtrNote] | with_reducible refine (pending_foldl _ (fun s x => ?_) _ _).trans ?_ | split | rfl

theorem pending_execVddMtrLoss (s) : (after s (execVddMtrLoss s)).pending = s.pending := by
  simp only [execVddMtrLoss] <;>
    repeat' first | simp only [after_next, ↓mk_pending, ↓pending_railBelow] | with_reducible refine (pending_foldl _ (fun s x => ?_) _ _).trans ?_ | split | rfl

theorem pending_execVddMtrWarning (s) : (after s (execVddMtrWarning s)).pending = s.pending := by
  simp only [execVddMtrWarning] <;>
    repeat' first | simp only [after_next, ↓mk_pending, ↓pending_mtrCommit, ↓pending_mtrNote, ↓pending_railBelow] | with_reducible refine (pending_foldl _ (fun s x => ?_) _ _).trans ?_ | split | rfl

theorem pending_execWriteParam (v0 v1 s) : (after s (execWriteParam v0 v1 s)).pending = s.pending := by
  refine pending_svcIn _ _ _ _ _ _ (fun s => ?_)
  repeat' first | rfl | simp only [↓pending_svcReply, ↓pending_mtrApply, ↓pending_mtrActivate] | split | simp only

theorem pending_mtrDeviceReset (s) : (mtrDeviceReset s).pending = s.pending := by
  simp only [mtrDeviceReset] <;>
    repeat' first | simp only [↓mk_pending, ↓pending_mtrStart, ↓pending_mtrCommit, ↓pending_mtrNote] | with_reducible refine (pending_foldl _ (fun s x => ?_) _ _).trans ?_ | split | rfl

theorem pending_resetPower (v0 s) : (resetPower v0 s).pending = s.pending := by
  simp only [resetPower] <;>
    repeat' first | simp only [↓mk_pending] | with_reducible refine (pending_foldl _ (fun s x => ?_) _ _).trans ?_ | split | rfl

theorem pending_settleEffects (s) : (settleEffects s).pending = s.pending := by
  simp only [settleEffects] <;>
    repeat' first | simp only [↓mk_pending, ↓pending_takeEffect] | with_reducible refine (pending_foldl _ (fun s x => ?_) _ _).trans ?_ | split | rfl

theorem pending_groupStop (v0 v1 s) : (groupStop v0 v1 s).pending = s.pending := by
  simp only [groupStop] <;>
    repeat' first | simp only [↓mk_pending] | with_reducible refine (pending_foldl _ (fun s x => ?_) _ _).trans ?_ | split | rfl

theorem pending_enginesStop (s) : (enginesStop s).pending = s.pending := by
  simp only [enginesStop] <;>
    repeat' first | simp only [↓mk_pending, ↓pending_obsStop, ↓pending_fusionStop, ↓pending_solutionsStop] | with_reducible refine (pending_foldl _ (fun s x => ?_) _ _).trans ?_ | split | rfl

theorem pending_freezeJournal (v0 s) : (freezeJournal v0 s).pending = s.pending := by
  simp only [freezeJournal] <;>
    repeat' first | simp only [↓mk_pending] | with_reducible refine (pending_foldl _ (fun s x => ?_) _ _).trans ?_ | split | rfl

theorem pending_hostStop (v0 s) : (hostStop v0 s).pending = s.pending := by
  simp only [hostStop] <;>
    repeat' first | simp only [↓mk_pending, ↓pending_freezeJournal] | with_reducible refine (pending_foldl _ (fun s x => ?_) _ _).trans ?_ | split | rfl

theorem pending_fwStop (v0 s) : (fwStop v0 s).pending = s.pending := by
  simp only [fwStop] <;>
    repeat' first | simp only [↓mk_pending, ↓pending_settleEffects, ↓pending_groupStop, ↓pending_dropOwnership, ↓pending_enginesStop, ↓pending_hostStop, ↓pending_applyAll, ↓pending_abortTest] | with_reducible refine (pending_foldl _ (fun s x => ?_) _ _).trans ?_ | split | rfl

theorem pending_restoreImage (s) : (restoreImage s).pending = s.pending := by
  simp only [restoreImage] <;>
    repeat' first | simp only [↓mk_pending] | with_reducible refine (pending_foldl _ (fun s x => ?_) _ _).trans ?_ | split | rfl

theorem pending_systemStop (s) : (systemStop s).pending = s.pending := by
  simp only [systemStop] <;>
    repeat' first | simp only [↓mk_pending, ↓pending_restoreImage, ↓pending_monitorReset] | with_reducible refine (pending_foldl _ (fun s x => ?_) _ _).trans ?_ | split | rfl

theorem pending_powerStop (s) : (powerStop s).pending = s.pending := by
  simp only [powerStop] <;>
    repeat' first | simp only [↓mk_pending, ↓pending_mtrDeviceReset] | with_reducible refine (pending_foldl _ (fun s x => ?_) _ _).trans ?_ | split | rfl

theorem pending_assertReset (v0 s) : (assertReset v0 s).pending = s.pending := by
  simp only [assertReset] <;>
    repeat' first | simp only [↓mk_pending, ↓pending_resetPower, ↓pending_fwStop, ↓pending_latchTrip, ↓pending_systemStop, ↓pending_powerStop] | with_reducible refine (pending_foldl _ (fun s x => ?_) _ _).trans ?_ | split | rfl

theorem pending_controlLost (s) : (controlLost s).pending = s.pending := by
  simp only [controlLost] <;>
    repeat' first | simp only [↓mk_pending, ↓pending_record] | with_reducible refine (pending_foldl _ (fun s x => ?_) _ _).trans ?_ | split | rfl

theorem pending_corruptEntry (s v1) : (corruptEntry s v1).pending = s.pending := by
  simp only [corruptEntry] <;>
    repeat' first | simp only [↓mk_pending, ↓pending_record, ↓pending_modEntry] | with_reducible refine (pending_foldl _ (fun s x => ?_) _ _).trans ?_ | split | rfl

theorem pending_corruptRecord (s v1) : (corruptRecord s v1).pending = s.pending := by
  simp only [corruptRecord] <;>
    repeat' first | simp only [↓mk_pending] | with_reducible refine (pending_foldl _ (fun s x => ?_) _ _).trans ?_ | split | rfl

theorem pending_corruptTable (s v1) : (corruptTable s v1).pending = s.pending := by
  simp only [corruptTable] <;>
    repeat' first | simp only [↓mk_pending, ↓pending_record] | with_reducible refine (pending_foldl _ (fun s x => ?_) _ _).trans ?_ | split | rfl

theorem pending_execCommandedReset (s) : (after s (execCommandedReset s)).pending = s.pending := by
  simp only [execCommandedReset] <;>
    repeat' first | simp only [after_next, ↓mk_pending, ↓pending_assertReset, ↓pending_elapseTo] | with_reducible refine (pending_foldl _ (fun s x => ?_) _ _).trans ?_ | split | rfl

theorem pending_startPower (s) : (startPower s).pending = s.pending := by
  simp only [startPower] <;>
    repeat' first | simp only [↓mk_pending] | with_reducible refine (pending_foldl _ (fun s x => ?_) _ _).trans ?_ | split | rfl

theorem pending_restoreEntries (v0 v1 v2 s) : (restoreEntries v0 v1 v2 s).pending = s.pending := by
  induction v1 generalizing v2 s with
  | nil => rfl
  | cons e es ih =>
    simp only [restoreEntries, ih]
    repeat' first | rfl | simp only [pending_applyEntry] | split

theorem pending_restoreRetention (s) : (restoreRetention s).pending = s.pending := by
  simp only [restoreRetention] <;>
    repeat' first | simp only [↓mk_pending, ↓pending_restoreEntries] | with_reducible refine (pending_foldl _ (fun s x => ?_) _ _).trans ?_ | split | rfl

theorem pending_imageLost (s) : (imageLost s).pending = s.pending := by
  simp only [imageLost] <;>
    repeat' first | simp only [↓mk_pending] | with_reducible refine (pending_foldl _ (fun s x => ?_) _ _).trans ?_ | split | rfl

theorem pending_startFaults (v0 s) : (startFaults v0 s).pending = s.pending := by
  simp only [startFaults] <;>
    repeat' first | simp only [↓mk_pending, ↓pending_corruptRecord, ↓pending_controlLost, ↓pending_imageLost, ↓pending_corruptTable, ↓pending_corruptEntry] | with_reducible refine (pending_foldl _ (fun s x => ?_) _ _).trans ?_ | split | rfl

theorem pending_startFirmware (v0 s) : (startFirmware v0 s).pending = s.pending := by
  simp only [startFirmware] <;>
    repeat' first | simp only [↓mk_pending, ↓pending_startPower, ↓pending_restoreRetention, ↓pending_record, ↓pending_startFaults, ↓pending_bootReads, ↓pending_canInit, ↓pending_serveSlots, ↓pending_ownStructs, ↓pending_holdRate, ↓pending_resolveRole, ↓pending_drainMonitor, ↓pending_rnnRestart] | with_reducible refine (pending_foldl _ (fun s x => ?_) _ _).trans ?_ | split | rfl

theorem pending_execFirmwareStart (v0 s) : (after s (execFirmwareStart v0 s)).pending = s.pending := by
  simp only [execFirmwareStart] <;>
    repeat' first | simp only [after_next, ↓mk_pending, ↓pending_startFirmware] | with_reducible refine (pending_foldl _ (fun s x => ?_) _ _).trans ?_ | split | rfl

theorem pending_execReset (v0 v1 s) : (after s (execReset v0 v1 s)).pending = s.pending :=
  pending_packetIn _ _ _ _ _ pending_opReset

theorem pending_execResetCauseClear (v0 v1 s) : (after s (execResetCauseClear v0 v1 s)).pending = s.pending :=
  pending_packetIn _ _ _ _ _ pending_opResetCauseClear

theorem pending_execResetCauseRead (v0 v1 s) : (after s (execResetCauseRead v0 v1 s)).pending = s.pending :=
  pending_packetIn _ _ _ _ _ pending_opResetCauseRead

theorem pending_powerSteps (s) : (powerSteps s).pending = s.pending := by
  simp only [powerSteps] <;>
    repeat' first | simp only [↓mk_pending] | with_reducible refine (pending_foldl _ (fun s x => ?_) _ _).trans ?_ | split | rfl

theorem pending_resumeCounter (s) : (resumeCounter s).pending = s.pending := by
  simp only [resumeCounter] <;>
    repeat' first | simp only [↓mk_pending, ↓pending_writeRate, ↓pending_record] | with_reducible refine (pending_foldl _ (fun s x => ?_) _ _).trans ?_ | split | rfl

theorem pending_startCounter (s) : (startCounter s).pending = s.pending := by
  simp only [startCounter] <;>
    repeat' first | simp only [↓mk_pending, ↓pending_resumeCounter, ↓pending_record] | with_reducible refine (pending_foldl _ (fun s x => ?_) _ _).trans ?_ | split | rfl

theorem pending_systemSteps (v0 s) : (systemSteps v0 s).pending = s.pending := by
  simp only [systemSteps] <;>
    repeat' first | simp only [↓mk_pending, ↓pending_monitorReset, ↓pending_gnssStart, ↓pending_startCounter] | with_reducible refine (pending_foldl _ (fun s x => ?_) _ _).trans ?_ | split | rfl

theorem pending_romOptions (v0 s) : (romOptions v0 s).pending = s.pending := by
  simp only [romOptions] <;>
    repeat' first | simp only [↓mk_pending, ↓pending_record] | with_reducible refine (pending_foldl _ (fun s x => ?_) _ _).trans ?_ | split | rfl

theorem pending_storedOptions (s) : (storedOptions s).pending = s.pending := by
  simp only [storedOptions] <;>
    repeat' first | simp only [↓mk_pending] | with_reducible refine (pending_foldl _ (fun s x => ?_) _ _).trans ?_ | split | rfl

theorem pending_sequenceStage (v0 v1 v2 s) : (sequenceStage v0 v1 v2 s).pending = s.pending := by
  simp only [sequenceStage] <;>
    repeat' first | simp only [↓mk_pending, ↓pending_powerSteps, ↓pending_elapseTo, ↓pending_systemSteps, ↓pending_romOptions, ↓pending_storedOptions] | with_reducible refine (pending_foldl _ (fun s x => ?_) _ _).trans ?_ | split | rfl

theorem pending_execResetSequence (v0 v1 v2 s) : (after s (execResetSequence v0 v1 v2 s)).pending = s.pending := by
  simp only [execResetSequence] <;>
    repeat' first | simp only [after_next, ↓mk_pending, ↓pending_sequenceStage] | with_reducible refine (pending_foldl _ (fun s x => ?_) _ _).trans ?_ | split | rfl

theorem pending_execRstN (s) : (after s (execRstN s)).pending = s.pending := by
  simp only [execRstN] <;>
    repeat' first | simp only [after_next, ↓mk_pending, ↓pending_assertReset] | with_reducible refine (pending_foldl _ (fun s x => ?_) _ _).trans ?_ | split | rfl

theorem pending_execSafetyResetRequest (s) : (after s (execSafetyResetRequest s)).pending = s.pending := by
  simp only [execSafetyResetRequest] <;>
    repeat' first | simp only [after_next, ↓mk_pending, ↓pending_elapseTo, ↓pending_assertReset] | with_reducible refine (pending_foldl _ (fun s x => ?_) _ _).trans ?_ | split | rfl

theorem pending_execWatchdog (s) : (after s (execWatchdog s)).pending = s.pending := by
  simp only [execWatchdog] <;>
    repeat' first | simp only [after_next, ↓mk_pending, ↓pending_assertReset, ↓pending_elapseTo] | with_reducible refine (pending_foldl _ (fun s x => ?_) _ _).trans ?_ | split | rfl

theorem pending_bowStop (s) : (bowStop s).pending = s.pending := by
  simp only [bowStop] <;>
    repeat' first | simp only [↓mk_pending, ↓pending_latchTrip, ↓pending_takeStop, ↓pending_record] | with_reducible refine (pending_foldl _ (fun s x => ?_) _ _).trans ?_ | split | rfl

theorem pending_enterDeep (s) : (enterDeep s).pending = s.pending := by
  simp only [enterDeep] <;>
    repeat' first | simp only [↓mk_pending, ↓pending_copyEphemeris, ↓pending_systemStop, ↓pending_fwStop] | with_reducible refine (pending_foldl _ (fun s x => ?_) _ _).trans ?_ | split | rfl

theorem pending_enterOff (s) : (enterOff s).pending = s.pending := by
  simp only [enterOff] <;>
    repeat' first | simp only [↓mk_pending, ↓pending_systemStop, ↓pending_fwStop, ↓pending_emit] | with_reducible refine (pending_foldl _ (fun s x => ?_) _ _).trans ?_ | split | rfl

theorem pending_enterSleep (s) : (enterSleep s).pending = s.pending := by
  simp only [enterSleep] <;>
    repeat' first | simp only [↓mk_pending, ↓pending_acqStop, ↓pending_applyAll, ↓pending_dropOwnership, ↓pending_obsStop, ↓pending_fusionStop, ↓pending_settleEffects, ↓pending_abandonChain] | with_reducible refine (pending_foldl _ (fun s x => ?_) _ _).trans ?_ | split | rfl

theorem pending_enterPower (v0 v1 s) : (enterPower v0 v1 s).pending = s.pending := by
  simp only [enterPower] <;>
    repeat' first | simp only [↓mk_pending, ↓pending_flushEvents, ↓pending_record, ↓pending_enterSleep, ↓pending_enterDeep, ↓pending_enterOff] | with_reducible refine (pending_foldl _ (fun s x => ?_) _ _).trans ?_ | split | rfl

theorem pending_recovered (v0 v1 s v3) : (recovered v0 v1 s v3).pending = s.pending := by
  simp only [recovered] <;>
    repeat' first | simp only [↓mk_pending, ↓pending_record] | with_reducible refine (pending_foldl _ (fun s x => ?_) _ _).trans ?_ | split | rfl

theorem pending_execBowRecovered (l s) : (after s (execBowRecovered l s)).pending = s.pending := by
  have h (d : Nat) (s : State) (i : Nat) : (recovered d l s i).pending = s.pending := by
    simp only [recovered]; repeat' first | simp only [↓pending_record, ↓mk_pending] | split | rfl
  unfold execBowRecovered
  split
  · rw [after_next, pending_serveSlots, mk_pending, pending_railsUp, pending_foldl _ (fun s x => h _ _ _)]
    split
    · exact pending_bowStop s
    · rfl
  · rfl

theorem pending_execBowStop (s) : (after s (execBowStop s)).pending = s.pending := by
  simp only [execBowStop] <;>
    repeat' first | simp only [after_next, ↓mk_pending, ↓pending_bowStop, ↓pending_elapseTo] | with_reducible refine (pending_foldl _ (fun s x => ?_) _ _).trans ?_ | split | rfl

theorem pending_raiseBow (s) : (raiseBow s).pending = s.pending := by
  simp only [raiseBow] <;>
    repeat' first | simp only [↓mk_pending, ↓pending_abortTest, ↓pending_abandonChain, ↓pending_record] | with_reducible refine (pending_foldl _ (fun s x => ?_) _ _).trans ?_ | split | rfl

theorem pending_execBowWarning (v0 v1 s) : (after s (execBowWarning v0 v1 s)).pending = s.pending := by
  simp only [execBowWarning] <;>
    repeat' first | simp only [after_next, ↓mk_pending, ↓pending_raiseBow] | with_reducible refine (pending_foldl _ (fun s x => ?_) _ _).trans ?_ | split | rfl

theorem pending_isolate (v0 s) : (isolate v0 s).pending = s.pending := by
  simp only [isolate] <;>
    repeat' first | simp only [↓mk_pending, ↓pending_retireTile, ↓pending_bandFault, ↓pending_setLink, ↓pending_placementStop] | with_reducible refine (pending_foldl _ (fun s x => ?_) _ _).trans ?_ | split | rfl

theorem pending_isolateNamed (v0 v1 s) : (isolateNamed v0 v1 s).pending = s.pending := by
  simp only [isolateNamed] <;>
    repeat' first | simp only [↓mk_pending, ↓pending_retireTile, ↓pending_isolate] | with_reducible refine (pending_foldl _ (fun s x => ?_) _ _).trans ?_ | split | rfl

theorem pending_execClockSkew (v0 v1 s) : (after s (execClockSkew v0 v1 s)).pending = s.pending := by
  simp only [execClockSkew] <;>
    repeat' first | simp only [after_next, ↓mk_pending, ↓pending_record, ↓pending_isolateNamed] | with_reducible refine (pending_foldl _ (fun s x => ?_) _ _).trans ?_ | split | rfl

theorem pending_execDomainReady (v0 s) : (after s (execDomainReady v0 s)).pending = s.pending := by
  simp only [execDomainReady] <;>
    repeat' first | simp only [after_next, ↓mk_pending, ↓pending_elapseTo] | with_reducible refine (pending_foldl _ (fun s x => ?_) _ _).trans ?_ | split | rfl

theorem pending_execDomainReturn (v0 s) : (after s (execDomainReturn v0 s)).pending = s.pending := by
  simp only [execDomainReturn] <;>
    repeat' first | simp only [after_next, ↓mk_pending] | with_reducible refine (pending_foldl _ (fun s x => ?_) _ _).trans ?_ | split | rfl

theorem pending_execDomainWakeRequest (v0 v1 s) : (after s (execDomainWakeRequest v0 v1 s)).pending = s.pending := by
  simp only [execDomainWakeRequest] <;>
    repeat' first | simp only [after_next, ↓mk_pending, ↓pending_requestWake] | with_reducible refine (pending_foldl _ (fun s x => ?_) _ _).trans ?_ | split | rfl

theorem pending_wakeFrom (v0 v1 s) : (wakeFrom v0 v1 s).pending = s.pending := by
  simp only [wakeFrom] <;>
    repeat' first | simp only [↓mk_pending] | with_reducible refine (pending_foldl _ (fun s x => ?_) _ _).trans ?_ | split | rfl

theorem pending_ringWake (s) : (ringWake s).pending = s.pending := by
  simp only [ringWake] <;>
    repeat' first | simp only [↓mk_pending, ↓pending_wakeFrom] | with_reducible refine (pending_foldl _ (fun s x => ?_) _ _).trans ?_ | split | rfl

theorem pending_writeByte (v0 v1 s) : (writeByte v0 v1 s).pending = s.pending := by
  simp only [writeByte] <;>
    repeat' first | simp only [↓mk_pending, ↓pending_ringWake] | with_reducible refine (pending_foldl _ (fun s x => ?_) _ _).trans ?_ | split | rfl

theorem pending_writeWindow (v0 v1 s) : (writeWindow v0 v1 s).pending = s.pending := by
  induction v1 generalizing v0 s with
  | nil => rfl
  | cons v vs ih => rw [writeWindow, ih, pending_writeByte]

theorem pending_execDoorbellIrqEn (v0 s) : (after s (execDoorbellIrqEn v0 s)).pending = s.pending := by
  simp only [execDoorbellIrqEn] <;>
    repeat' first | simp only [after_next, ↓mk_pending, ↓pending_writeWindow] | with_reducible refine (pending_foldl _ (fun s x => ?_) _ _).trans ?_ | split | rfl

theorem pending_execDoorbellWake (s) : (after s (execDoorbellWake s)).pending = s.pending := by
  simp only [execDoorbellWake] <;>
    repeat' first | simp only [after_next, ↓mk_pending, ↓pending_ringWake] | with_reducible refine (pending_foldl _ (fun s x => ?_) _ _).trans ?_ | split | rfl

theorem pending_execHostStatusClear (v0 s) : (after s (execHostStatusClear v0 s)).pending = s.pending := by
  simp only [execHostStatusClear] <;>
    repeat' first | simp only [after_next, ↓mk_pending, ↓pending_writeWindow] | with_reducible refine (pending_foldl _ (fun s x => ?_) _ _).trans ?_ | split | rfl

theorem pending_execIdleEntry (s) : (after s (execIdleEntry s)).pending = s.pending := by
  simp only [execIdleEntry] <;>
    repeat' first | simp only [after_next, ↓mk_pending] | with_reducible refine (pending_foldl _ (fun s x => ?_) _ _).trans ?_ | split | rfl

theorem pending_execJunctionHot (v0 s) : (after s (execJunctionHot v0 s)).pending = s.pending := by
  simp only [execJunctionHot] <;>
    repeat' first | simp only [after_next, ↓mk_pending, ↓pending_record] | with_reducible refine (pending_foldl _ (fun s x => ?_) _ _).trans ?_ | split | rfl

theorem pending_execJunctionHotEnd (v0 s) : (after s (execJunctionHotEnd v0 s)).pending = s.pending := by
  simp only [execJunctionHotEnd] <;>
    repeat' first | simp only [after_next, ↓mk_pending] | with_reducible refine (pending_foldl _ (fun s x => ?_) _ _).trans ?_ | split | rfl

theorem pending_execPeriodWakeRequest (s) : (after s (execPeriodWakeRequest s)).pending = s.pending := by
  simp only [execPeriodWakeRequest] <;>
    repeat' first | simp only [after_next, ↓mk_pending, ↓pending_requestWake, ↓pending_countTo] | with_reducible refine (pending_foldl _ (fun s x => ?_) _ _).trans ?_ | split | rfl

theorem pending_execPowerStateEntry (s) : (after s (execPowerStateEntry s)).pending = s.pending := by
  simp only [execPowerStateEntry] <;>
    repeat' first | simp only [after_next, ↓mk_pending, ↓pending_elapseTo, ↓pending_enterPower] | with_reducible refine (pending_foldl _ (fun s x => ?_) _ _).trans ?_ | split | rfl

theorem pending_exitSleep (s) : (exitSleep s).pending = s.pending := by
  simp only [exitSleep] <;>
    repeat' first | simp only [↓mk_pending, ↓pending_gnssStart, ↓pending_record, ↓pending_resolveRole, ↓pending_rnnRestart, ↓pending_ownStructs, ↓pending_bootReads, ↓pending_canWake] | with_reducible refine (pending_foldl _ (fun s x => ?_) _ _).trans ?_ | split | rfl

theorem pending_exitDeep (v0 s) : (exitDeep v0 s).pending = s.pending := by
  simp only [exitDeep] <;>
    repeat' first | simp only [↓mk_pending] | with_reducible refine (pending_foldl _ (fun s x => ?_) _ _).trans ?_ | split | rfl

theorem pending_exitOff (s) : (exitOff s).pending = s.pending := by
  simp only [exitOff] <;>
    repeat' first | simp only [↓mk_pending, ↓pending_assertReset, ↓pending_emit, ↓pending_record] | with_reducible refine (pending_foldl _ (fun s x => ?_) _ _).trans ?_ | split | rfl

theorem pending_execPowerStateExit (v0 s) : (after s (execPowerStateExit v0 s)).pending = s.pending := by
  simp only [execPowerStateExit] <;>
    repeat' first | simp only [after_next, ↓mk_pending, ↓pending_exitSleep, ↓pending_exitDeep, ↓pending_exitOff] | with_reducible refine (pending_foldl _ (fun s x => ?_) _ _).trans ?_ | split | rfl

theorem pending_execPwrEntryAbandoned (s) : (after s (execPwrEntryAbandoned s)).pending = s.pending := by
  simp only [execPwrEntryAbandoned] <;>
    repeat' first | simp only [after_next, ↓mk_pending, ↓pending_elapseTo, ↓pending_record] | with_reducible refine (pending_foldl _ (fun s x => ?_) _ _).trans ?_ | split | rfl

theorem pending_execPwrSchedEnter (s) : (after s (execPwrSchedEnter s)).pending = s.pending := by
  simp only [execPwrSchedEnter] <;>
    repeat' first | simp only [after_next, ↓mk_pending, ↓pending_countTo, ↓pending_record] | with_reducible refine (pending_foldl _ (fun s x => ?_) _ _).trans ?_ | split | rfl

theorem pending_execPwrSchedWake (s) : (after s (execPwrSchedWake s)).pending = s.pending := by
  simp only [execPwrSchedWake] <;>
    repeat' first | simp only [after_next, ↓mk_pending, ↓pending_wakeFrom, ↓pending_elapseTo] | with_reducible refine (pending_foldl _ (fun s x => ?_) _ _).trans ?_ | split | rfl

theorem pending_execPwrStateSet (v0 v1 s) : (after s (execPwrStateSet v0 v1 s)).pending = s.pending :=
  pending_packetIn _ _ _ _ _ pending_opPwrStateSet

theorem pending_execPwrStatus (v0 v1 s) : (after s (execPwrStatus v0 v1 s)).pending = s.pending :=
  pending_packetIn _ _ _ _ _ pending_opPwrStatus

theorem pending_execResetCauseWrite (v0 s) : (after s (execResetCauseWrite v0 s)).pending = s.pending := by
  simp only [execResetCauseWrite] <;>
    repeat' first | simp only [after_next, ↓mk_pending, ↓pending_writeWindow] | with_reducible refine (pending_foldl _ (fun s x => ?_) _ _).trans ?_ | split | rfl

theorem pending_railLost (v0 s) : (railLost v0 s).pending = s.pending := by
  simp only [railLost] <;>
    repeat' first | simp only [↓mk_pending] | with_reducible refine (pending_foldl _ (fun s x => ?_) _ _).trans ?_ | split | rfl

theorem pending_execSupplyReset (v0 s) : (after s (execSupplyReset v0 s)).pending = s.pending := by
  simp only [execSupplyReset] <;>
    repeat' first | simp only [after_next, ↓mk_pending, ↓pending_monitorReset, ↓pending_railBelow, ↓pending_assertReset, ↓pending_railLost] | with_reducible refine (pending_foldl _ (fun s x => ?_) _ _).trans ?_ | split | rfl

theorem pending_execThermalGradient (v0 v1 v2 v3 s) : (after s (execThermalGradient v0 v1 v2 v3 s)).pending = s.pending := by
  simp only [execThermalGradient] <;>
    repeat' first | simp only [after_next, ↓mk_pending, ↓pending_isolateNamed, ↓pending_record] | with_reducible refine (pending_foldl _ (fun s x => ?_) _ _).trans ?_ | split | rfl

theorem pending_execVddSafeWarning (v0 s) : (after s (execVddSafeWarning v0 s)).pending = s.pending := by
  simp only [execVddSafeWarning] <;>
    repeat' first | simp only [after_next, ↓mk_pending, ↓pending_monitorReset, ↓pending_railBelow, ↓pending_internalFault] | with_reducible refine (pending_foldl _ (fun s x => ?_) _ _).trans ?_ | split | rfl

theorem pending_execWakeFrame (v0 v1 s) : (after s (execWakeFrame v0 v1 s)).pending = s.pending := by
  simp only [execWakeFrame] <;>
    repeat' first | simp only [after_next, ↓mk_pending, ↓pending_wakeFrom] | with_reducible refine (pending_foldl _ (fun s x => ?_) _ _).trans ?_ | split | rfl

theorem pending_execWakeGovernorWindow (s) : (after s (execWakeGovernorWindow s)).pending = s.pending := by
  simp only [execWakeGovernorWindow] <;>
    repeat' first | simp only [after_next, ↓mk_pending, ↓pending_openWindow, ↓pending_countTo] | with_reducible refine (pending_foldl _ (fun s x => ?_) _ _).trans ?_ | split | rfl

theorem pending_execWakePin (s) : (after s (execWakePin s)).pending = s.pending := by
  simp only [execWakePin] <;>
    repeat' first | simp only [after_next, ↓mk_pending, ↓pending_wakeFrom] | with_reducible refine (pending_foldl _ (fun s x => ?_) _ _).trans ?_ | split | rfl

theorem pending_execWindowWriteOther (v0 v1 s) : (after s (execWindowWriteOther v0 v1 s)).pending = s.pending := by
  simp only [execWindowWriteOther] <;>
    repeat' first | simp only [after_next, ↓mk_pending, ↓pending_writeWindow] | with_reducible refine (pending_foldl _ (fun s x => ?_) _ _).trans ?_ | split | rfl

theorem pending_aheadView (s) : (aheadView s).pending = s.pending := by
  simp only [aheadView] <;>
    repeat' first | simp only [↓mk_pending] | with_reducible refine (pending_foldl _ (fun s x => ?_) _ _).trans ?_ | split | rfl

theorem pending_execConfigGet (v0 v1 s) : (after s (execConfigGet v0 v1 s)).pending = s.pending :=
  pending_packetIn _ _ _ _ _ pending_opConfigGet

theorem pending_execConfigLock (v0 v1 s) : (after s (execConfigLock v0 v1 s)).pending = s.pending :=
  pending_packetIn _ _ _ _ _ pending_opConfigLock

theorem pending_execConfigSet (v0 v1 s) : (after s (execConfigSet v0 v1 s)).pending = s.pending :=
  pending_packetIn _ _ _ _ _ pending_opConfigSet

theorem pending_execConfigUnlock (v0 v1 s) : (after s (execConfigUnlock v0 v1 s)).pending = s.pending :=
  pending_packetIn _ _ _ _ _ pending_opConfigUnlock

theorem pending_execIdentityRead (v0 v1 s) : (after s (execIdentityRead v0 v1 s)).pending = s.pending :=
  pending_packetIn _ _ _ _ _ pending_opIdentityRead

theorem pending_execRoleKeySet (v0 v1 s) : (after s (execRoleKeySet v0 v1 s)).pending = s.pending :=
  pending_packetIn _ _ _ _ _ pending_opRoleKeySet

theorem pending_execSignalInfo (v0 v1 s) : (after s (execSignalInfo v0 v1 s)).pending = s.pending :=
  pending_packetIn _ _ _ _ _ pending_opSignalInfo

theorem pending_execSignalRead (v0 v1 s) : (after s (execSignalRead v0 v1 s)).pending = s.pending :=
  pending_packetIn _ _ _ _ _ pending_opSignalRead

theorem pending_execSourceSelect (v0 v1 s) : (after s (execSourceSelect v0 v1 s)).pending = s.pending :=
  pending_packetIn _ _ _ _ _ pending_opSourceSelect

theorem pending_execTableInfo (v0 v1 s) : (after s (execTableInfo v0 v1 s)).pending = s.pending :=
  pending_packetIn _ _ _ _ _ pending_opTableInfo

theorem pending_execTableRead (v0 v1 s) : (after s (execTableRead v0 v1 s)).pending = s.pending :=
  pending_packetIn _ _ _ _ _ pending_opTableRead

theorem pending_execTableWrite (v0 v1 s) : (after s (execTableWrite v0 v1 s)).pending = s.pending :=
  pending_packetIn _ _ _ _ _ pending_opTableWrite

theorem pending_joinView (v0 s) : (joinView v0 s).pending = s.pending := by
  simp only [joinView] <;>
    repeat' first | simp only [↓mk_pending, ↓pending_aheadView, ↓pending_stagedView] | with_reducible refine (pending_foldl _ (fun s x => ?_) _ _).trans ?_ | split | rfl

theorem pending_execCommitPoint (e s) : (after s (execCommitPoint e s)).pending = s.pending := by
  simp only [execCommitPoint]
  split
  · rw [after_next]
    split
    · rename_i h
      split
      · exact pending_runCmd _ (pending_opOf _ _ h) _ _ _
      · rfl
    · rfl
  · rfl

theorem pending_packetFor (v0 v1 v2 s) : (packetFor v0 v1 v2 s).pending = s.pending := by
  unfold packetFor
  split
  · exact pending_sessionOpenPacket _ _ _
  · split
    · rename_i h; exact pending_packetIn _ _ _ _ _ (pending_opOf _ _ h)
    · exact pending_packetIn _ _ _ _ _ (fun _ _ => rfl)

theorem pending_execFragmentReceived (v0 v1 v2 s) : (after s (execFragmentReceived v0 v1 v2 s)).pending = s.pending := by
  simp only [execFragmentReceived] <;>
    repeat' first | simp only [after_next, ↓mk_pending, ↓pending_packetFor] | with_reducible refine (pending_foldl _ (fun s x => ?_) _ _).trans ?_ | split | rfl

theorem pending_execUnknownOpcode (v0 v1 v2 s) : (after s (execUnknownOpcode v0 v1 v2 s)).pending = s.pending := by
  simp only [execUnknownOpcode] <;>
    repeat' first | simp only [after_next, ↓mk_pending, ↓pending_packetFor] | with_reducible refine (pending_foldl _ (fun s x => ?_) _ _).trans ?_ | split | rfl

end Sys2Proof.Machine
end

