-- ==== Sys2Proof/Tests/Slice0.lean ====
section
/-! SUPPORT. Small states, the checks of well-formedness on ill-formed terms, and for every statement states and operands that meet what it
supposes. -/

namespace Sys2Proof.Tests

open Sys2Proof Sys2Proof.Machine

/-! States. -/

/-- Firmware runs, the time is LOCKED at whole second 1,000,000, the island measures, the monitor's start-up tests have ended. -/
def up : State :=
  { State.reset with
    pwr := { pwrReset with boot := .running, fwBuild := 0x0101#16, fwAt := 1000000000, domains := List.replicate 25 .stopped },
    time := { timeReset with elapsed := 4000000000, sec := 1000000, state := .locked, lastValidAt := 4000000000 },
    saf := { safReset with phase := 2 }, mtr := { mtrReset with on := true, measuring := true },
    evt := { recReset with operNs := 4000000000 } }

/-- Parameters in force. -/
def force (l : List (Nat × Nat)) (s : State) : State :=
  { s with cfg := { s.cfg with force := l.foldl (fun m e => keyPut e.1 (vU32 e.2) m) s.cfg.force } }

/-- A table in force. -/
def table (id : Nat) (b : List Byte) (s : State) : State :=
  { s with cfg := { s.cfg with forceTabs := keyPut id b s.cfg.forceTabs } }

def pwr (f : PwrState → PwrState) (s : State) : State := { s with pwr := f s.pwr }
def tim (f : TimeState → TimeState) (s : State) : State := { s with time := f s.time }
def hst (f : HostState → HostState) (s : State) : State := { s with host := f s.host }
def grp (f : GrpState → GrpState) (s : State) : State := { s with grp := f s.grp }
def saf (f : SafState → SafState) (s : State) : State := { s with saf := f s.saf }
def mtr (f : MtrState → MtrState) (s : State) : State := { s with mtr := f s.mtr }
def gns (f : GnssState → GnssState) (s : State) : State := { s with gnss := f s.gnss }
def acq (f : AcqState → AcqState) (s : State) : State := { s with acq := f s.acq }
def bus (f : BusState → BusState) (s : State) : State := { s with bus := f s.bus }
def fus (f : FusState → FusState) (s : State) : State := { s with fus := f s.fus }
def obs (f : ObsState → ObsState) (s : State) : State := { s with obs := f s.obs }
def slv (f : SlvState → SlvState) (s : State) : State := { s with slv := f s.slv }
def ctl (f : CtlState → CtlState) (s : State) : State := { s with ctl := f s.ctl }
def thr (f : ThrState → ThrState) (s : State) : State := { s with thr := f s.thr }
def sch (f : SchState → SchState) (s : State) : State := { s with sch := f s.sch }
def grd (f : GridState → GridState) (s : State) : State := { s with grid := f s.grid }
def evt (f : RecState → RecState) (s : State) : State := { s with evt := f s.evt }
def cfg (f : CfgState → CfgState) (s : State) : State := { s with cfg := f s.cfg }

/-- A host on Ethernet port A. -/
def hostA : Src := .eth false 0x0A000001#32 40000#16

/-- Session 1 open to `hostA`, authenticated as COMMISSIONER under epoch 5, its highest sequence number 9. -/
def ses : Session :=
  { sessionReset with isOpen := true, epoch := 5, src := hostA, authed := true, role := 3, wantRole := 3, window := 8, high := 9#32,
                      lastAt := 3900000000, openedAt := 3000000000 }

def seated (x : Session) (s : State) : State := hst (fun h => { h with sessions := modAt h.sessions 0 fun _ => x, epochCounter := 5 }) s

def upS : State := seated ses up

/-- A whole packet with its check word. -/
def pkt (code cls n tag seq : Nat) (src : Src) (p : List Byte) : Req :=
  let r : Req := { src := src, dstPort := 30940#16, ipFragment := false, magic := 0x564B#16, flags := 8#8, cls := BitVec.ofNat 8 cls, session := 1#16, tag := BitVec.ofNat 8 tag, fragment := 0#8,
                   seq := BitVec.ofNat 32 seq, paramLen := BitVec.ofNat 16 p.length, status := 0#16, epoch := 5#16, trailer := 0#32, burst := n }
  { r with trailer := crc32c (reqHeader r code ++ p) }

/-- A new command of session 1. -/
def new_ (code cls n : Nat) (p : List Byte) : Req := pkt code cls (max 1 n) 3 10 hostA p

/-- Bytes at their offsets, zero elsewhere. -/
def bytesAt (n : Nat) (l : List (Nat × Nat)) : List Byte :=
  (List.range n).map fun i => BitVec.ofNat 8 (((l.find? fun e => e.1 == i).map (·.2)).getD 0)

/-- A set with one pair of inputs, HEARTBEAT that resets, test age 5 h, and channel 0 with a ramp of 100 ms. -/
def setBody : List Byte := bytesAt 256 [(8, 1), (9, 1), (10, 1), (15, 50), (19, 5), (24, 2), (26, 2), (28, 1), (88, 1), (93, 100)]

/-- The least set that its rules take. -/
def goodBody : List Byte := bytesAt 256 [(0, 0x56), (1, 0x4B), (2, 0x53), (3, 0x50), (4, 1), (13, 5), (15, 50), (17, 1)]

def safS : State := saf (fun x => { x with set := some ⟨setBody, some (checkOf setBody, 1, none)⟩, stored := some ⟨setBody, none⟩ }) upS
def pairOff : State := saf (fun x => { x with inputs := modAt x.inputs 0 fun y => { y with high := false } }) safS
def stopOff : State := saf (fun x => { x with inputs := modAt x.inputs 8 fun y => { y with high := false } }) safS
def discrepant : State := saf (fun x => { x with disc := modAt x.disc 4 fun _ => (true, false) }) safS
def released : State := saf (fun x => { x with brakes := modAt x.brakes 0 fun b => { b with request := true, released := true } }) safS
def ramping : State := saf (fun x => { x with brakes := modAt x.brakes 0 fun b => { b with released := true, ramp := some 3900000000 } }) safS
def fallen : State := saf (fun x => { x with brakes := modAt x.brakes 0 fun b => { b with released := true, fallAt := some 3990000000 } }) safS
def beating : State := saf (fun x => { x with hb := some (3, 3990000000) }) safS
def silent : State := saf (fun x => { x with hb := some (3, 3000000000), hbAbsent := some 3050000000 }) safS
def tripped : State := saf (fun x => { x with latched := 2 ^ 9 }) safS
def broken : State := saf (fun x => { x with latched := 2 ^ 14, detail := 1 }) safS
def dueTold : State := saf (fun x => { x with brakes := modAt x.brakes 0 fun b => { b with due := true } }) safS
def testedLong : State := saf (fun x => { x with brakes := modAt x.brakes 0 fun b => { b with testAt := some 0 } }) (evt (fun e => { e with operNs := 6 * 3600 * 10 ^ 9 }) safS)
def holdBody : List Byte := bytesAt 256 [(88, 1), (98, 10), (99, 1)]
def holdS : State := saf (fun x => { x with set := some ⟨holdBody, some (checkOf holdBody, 1, none)⟩ }) upS
def testing : State := saf (fun x => { x with test := some ⟨0, 1, [], 0, some (true, 0, []), List.replicate 8 0⟩ }) safS

/-! Power. -/

def bow : State := pwr (fun p => { p with bowSince := some 3999999000, bowRails := 1#11, bowLow := modAt p.bowLow 0 fun _ => 630 }) upS
def bowLate : State := pwr (fun p => { p with bowSince := some 3000000000, bowRails := 1#11 }) upS
def bowDone : State := pwr (fun p => { p with bowSince := some 3000000000, bowRails := 1#11, bowStopped := true }) upS
def idle : State := pwr (fun p => { p with state := .idle }) upS
def asleep : State := pwr (fun p => { p with state := .sleep, enteredAt := 3500000000 }) upS
def asleepSched : State := pwr (fun p => { p with state := .sleep, enteredAt := 3500000000, schedWakeAt := some 5000000000 }) upS
def asleepWoken : State := pwr (fun p => { p with state := .sleep, wakePend := 1 }) upS
def deep : State := pwr (fun p => { p with state := .deepSleep, boot := .inReset .system }) (tim (fun t => { t with counting := false, calib := some (1, 2) }) up)
def deepWoken : State := pwr (fun p => { p with wakePend := 2, retention := some (zeros 300) }) deep
def off : State := pwr (fun p => { p with state := .off, boot := .inReset .powerOn, pwrReq := false }) State.reset
def offWoken : State := pwr (fun p => { p with wakePend := 1 }) off
def wakeLan : State := force [(0x0B03, 3)] asleep
def pendSleep : State := pwr (fun p => { p with entryPending := some (.sleep, 0, false) }) (tim (fun t => { t with elapsed := 1000 }) upS)
def pendDeep : State := pwr (fun p => { p with entryPending := some (.deepSleep, 0, false) }) (tim (fun t => { t with elapsed := 1000 }) upS)
def pendOff : State := pwr (fun p => { p with entryPending := some (.off, 0, true) }) (tim (fun t => { t with elapsed := 1000 }) upS)
def sched : State := force [(0x0B04, 2), (0x0B05, 30), (0x0B06, 60)] upS
def schedMode : State := ctl (fun c => { c with mode := 1 }) sched
def rstCore : State := pwr (fun p => { p with resetPending := some (.core, 4000100000) }) upS
def rstSystem : State := pwr (fun p => { p with resetPending := some (.system, 4000100000) }) upS
def atPowerOn : State := pwr (fun p => { p with boot := .inReset .powerOn, sources := [.por] }) State.reset
def atSystem : State := pwr (fun p => { p with boot := .inReset .system }) State.reset
def atSystem4 : State := pwr (fun p => { p with loadCount := 4 }) atSystem
def atLoading : State := pwr (fun p => { p with boot := .loading, loadCount := 1 }) State.reset
def atCore : State := pwr (fun p => { p with boot := .inReset .core }) State.reset
def clockless : State := pwr (fun p => { p with straps := 24#7 }) atCore
def cascRom : State := pwr (fun p => { p with straps := 2#7 }) State.reset
def cascRomOk : State := grp (fun g => { g with bootOk := true }) cascRom
def waking : State := pwr (fun p => { p with domains := modAt p.domains 0 fun _ => .waking 1000, window := 10000000000 }) upS
def windowNowS : State := force [(0x0B01, 12)] (pwr (fun p => { p with window := 10000000000 }) upS)
def windowFull : State := pwr (fun p => { p with windowCharge := 12 }) windowNowS
def windowStop : State := tim (fun t => { t with counting := false }) (pwr (fun p => { p with domains := modAt p.domains 3 fun _ => .waiting 2 3999000000 }) windowNowS)
def hot : State := pwr (fun p => { p with hotEpisode := true }) upS
def isolatedAll : State := pwr (fun p => { p with isolated := 0x3FFF#14, skewActive := 3#14, thermalDomain := some 1 }) upS

/-! The island. -/

def feederOn : Feeder := { feederReset with owed := 2, urms := [0x40000000#32, 0, 0], loss := [false, true, false] }
def isl (f : MtrState → MtrState) : State := mtr f (mtr (fun m => { m with params := [(1, 3#32), (0x101, 0x3F800000#32)], feeders := modAt m.feeders 0 fun _ => feederOn }) upS)
def islImage : State := isl fun m => { m with image := some (zeros 356), since60 := 60 }
def islLow : State := isl fun m => { m with image := some (zeros 356), feeders := modAt m.feeders 0 fun x => { x with urms := [0, 0x3F000000#32, 0] } }
def islSecond : State := isl fun m => { m with samples := 8000, steady := 100 }
def islFault : State := isl fun m => { m with clockFault := true, steady := 99 }
def islGap : State := isl fun m => { m with measuring := false, gap := some 3000000000, steady := 99 }
def islOpen : State := isl fun m => { m with unsealed := true, staged := [(2, 0x3C#32)], blocks := [(0, [1#8, 2#8])] }
def islOpenSame : State := isl fun m => { m with unsealed := true }
def islOpenFast : State := isl fun m => { m with unsealed := true, staged := [(0x100, 0x47C35000#32), (0x103, 0x47C35000#32)] }
def islLogFull : State := isl fun m => { m with unsealed := true, log := List.replicate mtrSlots ⟨0, 0, 5, 0, 0, 0, 0, 0, 0⟩ }
def islLast : State := isl fun m => { m with unsealed := true, staged := [(2, 0x3C#32)], sealCount := 2 ^ 32 - 1, blocks := [(0, [1#8, 2#8])] }
def islStored : State := isl fun m => { m with store := some ⟨List.replicate 4 [1, 2, 3, 4, 5], 6, 0, m.params⟩ }
def islOff : State := mtr (fun m => { m with on := false, measuring := false, store := some ⟨List.replicate 4 [1, 2, 3, 4, 5], 6, 0, []⟩, older := some ⟨List.replicate 4 [1, 2, 3, 4, 4], 5, 0, []⟩ }) up
def islSeen : State := isl fun m => { m with image := some (zeros 356), seen := some (9, zeros 4) }

/-! Events. -/

def evRec (n : Nat) : EvRec := ⟨n, 0, 1, .rnnLoaded, 0, false, none, zeros 6, none, none⟩
def oneEvent : State := evt (fun e => { e with recs := [evRec 0], newest := 0 }) upS
def droppedEvents : State := evt (fun e => { e with recs := [evRec 0], newest := 0, dropped := 3 }) upS
def fullBuffer : State := evt (fun e => { e with recs := (List.range 1024).map evRec, newest := 1023 }) upS

/-! Service frames. -/

def svcCrc (cmd : Nat) (p : List Byte) : BitVec 32 := BitVec.ofNat 32 (crcNat (be 2 (1 + p.length) ++ be 1 cmd ++ p))
def param2 : List Byte := [0#8, 2#8]
def param9 : List Byte := [0#8, 9#8]
def write2 : List Byte := [0#8, 2#8, 0#8, 0#8, 0#8, 0x3C#8]
def write9 : List Byte := [0#8, 9#8, 0#8, 0#8, 0#8, 0x3C#8]
def log5 : List Byte := [0#8, 0#8, 0#8, 0#8, 4#8]
def log0 : List Byte := zeros 5
def activate : List Byte := [0#8, 0#8, 0#8, 2#8] ++ zeros 64
def zeros24 : List Byte := zeros 24
def zeros8 : List Byte := zeros 8
def wakeData : List Byte := [0x56#8, 0x4B#8, 0#8]
def msg0 : CascMsg := ⟨false, 1, 0, 5, 7, zeros 64⟩

/-! Time and pulses. -/

def follower : State := grp (fun g => { g with role := 1 }) upS
def stepDue : State := tim (fun t => { t with steps := [⟨5, 1000001000000000, 0, 7, none⟩] }) upS
def stepLater : State := tim (fun t => { t with steps := [⟨-5, 1000002000000000, 1, 8, none⟩, ⟨5, 1000001000000000, 1, 7, none⟩] }) follower
def behindMaster : State := tim (fun t => { t with masterStepCount := 3 }) follower
def unsetUp : State := tim (fun t => { t with state := .unset, sec := 0 }) upS
def slewing : State := tim (fun t => { t with state := .slewing, slew := 0x4024000000000000#64 }) upS
def holdOver : State := tim (fun t => { t with state := .holdover, holdErr0 := 5 }) upS
def stampsQueued : State := tim (fun t => { t with txQueue := [⟨1, 0, ⟨5, 3⟩⟩, ⟨2, 1, ⟨6, 3⟩⟩], txOverflow := true, txEpisode := true, txDiscarded := 2 }) upS
def ptpBoth : State := force [(0x0510, 3)] follower
def ptpFw : State := force [(0x0510, 3), (0x0501, 2)] upS
def ptpSlave : State := tim (fun t => { t with ptpEx := modAt t.ptpEx 0 fun x => { x with heard := some ⟨[1], 9, 3999000000⟩ } }) ptpFw
def ptpMaster : State := force [(0x0510, 3), (0x0501, 1)] upS
def linkedS : State := grp (fun g => { g with links := [true, true] }) upS
def linkedFollower : State := grp (fun g => { g with links := [true, true] }) follower
def ppsHigh : State := tim (fun t => { t with ppsOn := true }) upS
def gpsTime : State := force [(0x0501, 1)] (gns (fun g => { g with timeOff := some 5 }) upS)
def gpsTimeFar : State := gns (fun g => { g with timeOff := some (-5000000) }) gpsTime
def gpsUnset : State := force [(0x0501, 1), (0x0503, 1)] (gns (fun g => { g with timeOff := some (-1700000000000000000) }) unsetUp)
def stopped : State := tim (fun t => { t with counting := false }) upS

/-! The baseband. -/

def band0 (f : Band → Band) : State := gns (fun g => { g with bands := modAt g.bands 0 f }) upS
def bandBadS : State := band0 fun b => { b with fault := true, faultSince := 3900000000 }
def bandHeld : State := gns (fun g => { g with replayHeld := [0] }) bandBadS
def bandClean : State := band0 fun b => { b with fault := true, cleanSince := some 3950000000 }
def bandJam : State := band0 fun b => { b with jam := 120, jamSince := some 3500000000 }
def bandJammed : State := band0 fun b => { b with jammed := true, calmSince := some 3500000000 }
def bandHalf : State := band0 fun b => { b with duty := 511 }
def bandOff : State := force [(0x0402, 0x3E)] upS
def notchOff : State := force [(0x0410, 0)] upS
def chan0 (f : Chan → Chan) : State := gns (fun g => { g with chans := modAt g.chans 0 f }) upS
def searching : State := chan0 fun c => { c with state := 1, svid := 5, prio := 2, searchAt := some 3999000000 }
def searchAgain : State := chan0 fun c => { c with state := 1, svid := 5, prio := 1, lostAt := some 3998000000, searchAt := some 3999000000 }
def pulledIn : State := chan0 fun c => { c with state := 2, svid := 5, settled := some 3000000000 }
def phaseLock : State := chan0 fun c => { c with state := 3, svid := 5, phaseGood := some 3000000000 }
def bitSync : State := chan0 fun c => { c with state := 4, svid := 5, phaseBad := some 3900000000 }
def tracked : State := chan0 fun c => { c with state := 5, svid := 5, signal := 0, weakSince := some 3500000000 }
def epochOf : State := gns (fun g => { g with epoch := some 999999990000000, pendRaw := true, awaiting := [0, 3], levelA := true }) upS
def epochA : State := force [(0x0219, 1)] epochOf
def epochIn : State := gns (fun g => { g with levelIn := some ⟨[], some (0, 0, 0), none, false⟩ }) epochA
def epochABounded : State := force [(0x0105, 1)] epochA
def epochBounded : State := force [(0x0105, 1)] epochOf
def epochOld : State := gns (fun g => { g with olds := [⟨999999980000000, 1, solReset, baseReset⟩] }) epochOf
def baseOff : State := gns (fun g => { g with on := false }) upS

/-! Acquisition. -/

def acqRec : List Byte := bytesAt 768 [(1, 3), (3, 64), (4, 2), (5, 1), (6, 2), (8, 0x10), (10, 0x10), (11, 1), (12, 0x3F), (13, 0x80)]
def chanA (n : Nat) : State := acq (fun a => { a with chans := modAt a.chans 0 fun c => { c with state := n, settle := 100 }, mclk := [640000, 0] }) (table 0x0260 acqRec upS)
def acqRunning : State := chanA 2
def acqSettling : State := chanA 1
def acqFaulty : State := acq (fun a => { a with chans := modAt a.chans 0 fun c => { c with fault := true, lastRun := 3995000000 } }) acqRunning
def acqRising : State := force [(0x0253, 1)] acqRunning
def acqFalling : State := force [(0x0253, 2)] acqRunning
def acqDue : State := acq (fun a => { a with syncs := [(1000000000300000, 1), (1000000000200000, 0)] }) acqRunning
def acqGroup : State := force [(0x0254, 1)] (grp (fun g => { g with role := 1 }) acqRunning)

/-! Buses, drives and modules. -/

def driveBody : List Byte := bytesAt 128 ([(1, 0), (2, 1), (4, 0xFF)] ++ (List.range 15).map fun i => (8 * i + 9, 0xFF))
def canBody : List Byte := bytesAt 24 [(4, 1), (5, 1)]
def busBody : List Byte := bytesAt 256 [(1, 1), (2, 1), (5, 5), (7, 12), (8, 3), (9, 1), (10, 2), (11, 3), (12, 1), (13, 1)]
def drives : State :=
  bus (fun b => { b with can := modAt b.can 0 fun c => { c with state := 1 } }) (table 0x0290 busBody (table 0x0291 driveBody upS))
def passive : State := bus (fun b => { b with can := modAt b.can 0 fun c => { c with state := 2, tec := 130 } }) drives
def busOff : State := bus (fun b => { b with can := modAt b.can 0 fun c => { c with state := 3, tec := 256 } }) drives
def recovering : State := bus (fun b => { b with can := modAt b.can 0 fun c => { c with state := 4 } }) drives
def missedFb : State := bus (fun b => { b with drives := modAt b.drives 0 fun d => { d with missed := 5 } }) drives
def hbLostS : State := bus (fun b => { b with drives := modAt b.drives 0 fun d => { d with hbLost := true, stale := true } }) drives
def serialBody : List Byte := bytesAt 64 [(2, 1)]
def serialOn : State := table 0x0293 serialBody upS
def slot0 (f : Slot → Slot) : State := bus (fun b => { b with slots := modAt b.slots 0 f }) upS
def reading : State := slot0 fun x => { x with present := true, reading := true }
def readingThrice : State := slot0 fun x => { x with present := true, reading := true, nacks := 3 }
def goneWhileDown : State := pwr (fun p => { p with boot := .rom }) (slot0 fun x => { x with present := true, state := 1, desc := zeros 256 })
def identified : State := slot0 fun x => { x with present := true, state := 2, desc := zeros 256 }

/-! Periods. -/

def running : State := grd (fun g => { g with running := true, period := 50000000, startT := 1000000000000000, endT := 1000000020000000, tpDone := 1, tpTotal := 10 }) upS
def lastTp : State := grd (fun g => { g with tpDone := 10 }) running
def begun : State := sch (fun x => { x with begun := [(50000000, 1000000000000000)] }) running
def staged (n : Nat) : State := sch (fun x => { x with stage := n, cur := 50000000, b := 1000000000000000, start := 1000000000000000, snap := 1000000000000000, dt := 20000000,
                                                         prevSnap := 999999980000000, durs := [1000000] })
  (pwr (fun p => { p with domains := List.replicate 25 .awake }) running)
def atStage2 : State := staged 2
def atStage2Asleep : State := pwr (fun p => { p with domains := List.replicate 25 .stopped }) atStage2
def atStage2Full : State := pwr (fun p => { p with window := 10000000000, windowCharge := 1000 }) atStage2Asleep
def stageFull (n : Nat) : State := sch (fun x => { x with stage := n }) atStage2Full
def atStage3Full : State := stageFull 3
def atStage4Full : State := stageFull 4
def begunWaits : State := gns (fun g => { g with epoch := some 999999980000000, awaiting := [0] }) begun
def atStage3 : State := staged 3
def atStage4 : State := staged 4
def atStage5 : State := staged 5
def atStage5Bounded : State := force [(0x0105, 1)] atStage5
def atStage6 : State := staged 6
def atStage7 : State := staged 7
def atStage7Done : State := sch (fun x => { x with s8 := true, s9 := true }) atStage7
def chainDueS : State := sch (fun x => { x with chainDue := true }) atStage7
def chainDueFull : State := sch (fun x => { x with chainDue := true }) (stageFull 7)
def chained : State := sch (fun x => { x with chain := some ⟨50000001, zeros 160, false, ctlReset, ctlReset, [], []⟩ }) atStage7
def chainedDone : State := sch (fun x => { x with chain := some ⟨50000001, zeros 160, true, ctlReset, ctlReset, [], []⟩ }) atStage7
def replaying : State := force [(0x035D, 1)] running

/-! Fusion, observers and the map. -/

def group0 (f : VGroup → VGroup) : State := fus (fun x => { x with groups := modAt x.groups 0 f }) upS
def held : State := group0 fun g => { g with hold := some 3000 }
def heldLost : State := group0 fun g => { g with hold := some 1500, lost := true }
def heldFired : State := group0 fun g => { g with hold := some 3000, fired := true }
def clockSlipped : State := fus (fun x => { x with tracks := modAt x.tracks 0 fun t => { t with slip := true, good := 100 } }) upS
def headOn : State := table 0x0201 (bytesAt 2048 [(1, 17), (2, 1), (3, 0x88)]) upS
def frame0 : List Byte :=
  let b := bytesAt 16 [(0, 0x56), (1, 0x4B), (2, 0x4F), (3, 0x48)]
  b ++ be 4 (crcNat b)
def modelBody : List Byte := bytesAt 256 [(0, 0x3F), (1, 0x80), (16, 0x3F), (17, 0x80), (32, 0x3F), (33, 0x80), (227, 2)]
def physRun : State := obs (fun o => { o with phys := { o.phys with running := true, rejPos := 2, rejHdg := 2 } }) (table 0x0360 modelBody upS)
def rnnWarm : State := obs (fun o => { o with rnn := { o.rnn with state := 1, since := 500 } }) atStage3
def rnnWaits : State := force [(0x0105, 1)] rnnWarm
def rnnLate : State := obs (fun o => { o with rnn := { o.rnn with late := true } }) rnnWaits
def rnnFaulted : State := obs (fun o => { o with rnn := { o.rnn with state := 4 } }) upS
def disagreeing : State := obs (fun o => { o with xchk := modAt o.xchk 0 fun x => { x with disagree := true, count := 50 } }) upS

/-! Control and thrusters. -/

def joyOld : State := ctl (fun c => { c with mode := 1, joyAge := 50, joy := [0x3F000000#32, 0, 0] }) upS
def autoPos : State := ctl (fun c => { c with mode := 3, fe := c.fe.map fun x => { x with warnCount := 5, limitCount := 5 } }) upS
def autoPosDegrade : State := force [(0x0310, 2)] autoPos
def targetGone : State := ctl (fun c => { c with mode := 5, targetLost := true, lostCount := 250 }) upS
def berthing : State := ctl (fun c => { c with mode := 6, phase := 2, optCount := 100 }) upS
def trackBody : List Byte := bytesAt 64 [(25, 1), (27, 1)]
def tracking : State := ctl (fun c => { c with mode := 4, arrivedPos := true, holdAge := 50 }) (table 0x0393 trackBody upS)
def thrBody : List Byte := bytesAt 2048 [(1, 1), (60, 1), (62, 2)]
def thruster (f : Thr → Thr) : State := thr (fun t => { t with mask := 1, thr := modAt t.thr 0 f }) (table 0x03A0 thrBody drives)
def saturated : State := thruster fun t => { t with prop := { t.prop with count := 1000 }, steer := { t.steer with warn := true, fault := true } }
def lostThr : State := thruster fun t => { t with lost := true, held := 100, ready := true }
def feedback1 : List Byte := bytesAt 24 [(0, 1)]
def returning : State := bus (fun b => { b with drives := modAt b.drives 0 fun d => { d with fbs := [(999999999000000, feedback1)] } }) (sch (fun x => { x with snap := 1000000000000000 }) lostThr)
def retiredTile : State := sch (fun x => { x with retired := 4 }) upS

/-! The group. -/

def badFrameS : List Byte := zeros 24
def standby : State := grp (fun g => { g with role := 1, takenHistory := [true], cyclesAsStandby := 1, peers := modAt g.peers 1 fun p => { p with announced := true } })
  (obs (fun o => { o with phys := { o.phys with running := true } }) safS)
def readyWith (c : Nat) : State := grp (fun g => { g with peers := modAt g.peers 1 fun p => { p with announced := true, role := 0, crc := c, health := zeros 20 ++ be 4 (revision standby) ++ zeros 40 } }) standby
def ready : State := readyWith (configCrc standby)
def handing : State := grp (fun g => { g with ho := some ⟨1, 6, 1, 0, 4, [], 3995000000, 3999500000, false, false, none⟩ }) upS
def handingLate : State := grp (fun g => { g with ho := some ⟨1, 6, 1, 0, 4, [], 3985000000, 3989500000, true, true, none⟩ }) upS
def handingCmd : State := grp (fun g => { g with ho := some ⟨1, 6, 1, 0, 4, [], 3985000000, 3989500000, true, false, some 0⟩ }) upS
def owner : State := grp (fun g => { g with owns := true, epoch := 5, ownEpoch := 5 }) upS
def vetoed : State := force [(0x0713, 1)] owner
def external : State := force [(0x0711, 0xFE), (0x071E, 0x0A000009)] upS
def extension : State := grp (fun g => { g with role := 3, peers := g.peers.map fun p => { p with announced := true } }) upS
def extensionWith (c : Nat) : State := grp (fun g => { g with peers := g.peers.map fun p => { p with crc := c } }) extension
def extensionSame : State := extensionWith (configCrc extension)
def extensionOther : State := extensionWith (configCrc extension + 1)
def extensionAlone : State := grp (fun g => { g with extMissed := 3 }) extension
def masterExt : State := force [(0x0712, 1)] upS
def boundedS : State := force [(0x0105, 1)] upS
def shadowS : State := grp (fun g => { g with role := 1 }) running
def takeMe : CascMsg := ⟨false, 1, 0, 5, 7, [0#8, 1#8, 0#8, 6#8, 0#8, 1#8, 4#8] ++ zeros 57⟩
def takeOther : CascMsg := ⟨false, 1, 0, 5, 7, [0#8, 1#8, 0#8, 6#8, 1#8, 3#8, 4#8] ++ zeros 57⟩
def yieldMe : CascMsg := ⟨false, 1, 0, 5, 7, [0#8, 1#8, 0#8, 6#8, 1#8, 0#8, 4#8] ++ zeros 57⟩
def extCmdMsg : CascMsg := ⟨false, 1, 0, 5, 7, zeros 208⟩
def extFbMsg : CascMsg := ⟨false, 1, 0, 5, 7, zeros 640⟩
def stopMsg : CascMsg := ⟨false, 1, 0, 5, 7, [3#8, 0xF0#8]⟩
def noticeMsg : CascMsg := ⟨false, 1, 0, 5, 7, zeros 16 ++ be 8 1000001 ++ be 4 0 ++ be 2 4⟩
def announceMsg : CascMsg := ⟨false, 1, 0, 5, 7, [1#8, 1#8, 0#8, 0#8] ++ zeros 4 ++ [0#8, 3#8]⟩
def imagePart : CascMsg := ⟨false, 1, 0, 5, 7, be 2 0 ++ be 2 1 ++ [1#8, 2#8]⟩
def datagram24 : List Byte := zeros 24
def data8 : List Byte := zeros 8
def data256 : List Byte := zeros 256

/-! The host. -/

def sesNew : Session := { ses with authed := false, role := 0, challenge := List.replicate 16 7#8, nonce := List.replicate 16 9#8 }
def unproved : State := seated sesNew up
def tagsOf (l : List (Nat × TagState)) : State := seated { ses with tags := l } up
def tagEnded : State := tagsOf [(5, .ended 7 4 1 [] 3 1 1 0)]
def tagPart : State := tagsOf [(5, .reassembling 7 0x0103 1 [(0, List.replicate 4 0#8)] none 3990000000 3995000000 false)]
def cmd0 (op k n : Nat) (started : Bool) (p : List Byte) : Cmd :=
  { entry := 0, slot := 1, epoch := 5, src := hostA, tag := 5, noTag := false, seq := 7, opcode := op, cls := 1, params := p, specOk := false, k := k,
    n := n, started := started, orphan := false, interim := false, abort := false, busy := false, validElapsed := 3999500000, validT := 0, validC := 0, data := [] }
def entry0 (op n : Nat) : JEntry :=
  { entry := 0, session := 1, epoch := 5, tag := 5, cls := 1, opcode := op, seq := 7, state := .started, interrupted := false, replySent := false,
    parisonSent := false, posted := false, k := 0, n := n, status := 0, fragments := 1, paramCrc := 0, firstPeriod := none, accepted := none,
    ended := none, cycles := 1, corrupt := none }
def flying (c : Cmd) : State :=
  hst (fun h => { h with cmds := [c], journal := [⟨entry0 c.opcode c.n, none⟩], nextEntry := 1 }) (tagsOf [(5, .inFlight 7 c.opcode 1 0)])
def tagBusy : State := hst (fun h => { h with cmds := h.cmds.map fun c => { c with busy := true } })
  (hst (fun h => { h with cmds := [cmd0 0x0103 0 1 false []], journal := [⟨entry0 0x0103 1, none⟩], nextEntry := 1 }) (tagsOf [(5, .inFlight 7 0x0103 1 0)]))
def marked9 : State := seated { ses with marks := 1#64, tags := [(3, .ended 9 4 1 [] 3 1 1 0)] } up
def flight9 : State := hst (fun h => { h with cmds := [{ cmd0 0x0103 0 1 false [] with seq := 9, tag := 3 }], journal := [⟨entry0 0x0103 1, none⟩], nextEntry := 1 }) (seated { ses with marks := 1#64, tags := [(3, .inFlight 9 0x0103 1 0)] } up)
def tagFlight : State := hst (fun h => { h with cmds := [cmd0 0x0103 0 1 false []], journal := [⟨entry0 0x0103 1, none⟩], nextEntry := 1 }) (tagsOf [(5, .inFlight 7 0x0103 1 0)])
def viewer : State := seated { ses with role := 0, wantRole := 0 } up
def waitingCmd : State := flying (cmd0 0x0103 0 1 false [])
def loading : State := flying (cmd0 0x0601 0 2 true [])
def answered : State := flying { cmd0 0x0601 0 2 true [] with interim := true }
def steppedCmd : State := tim (fun t => { t with steps := [⟨5, 1000001000000000, 0, 7, some 0⟩] }) (flying { cmd0 0x0503 0 1 true [] with data := [1000001000000000] })
def lockedOutS : State := hst (fun h => { h with lockouts := [(originOf hostA, 3999000000)] }) upS
def spiFull : State := hst (fun h => { h with spiIn := [[1#8], [2#8]], spiOut := [[1#8, 2#8, 3#8]] }) upS
def spiHeld : State := hst (fun h => { h with spiIn := List.replicate 2 (packetBytes (new_ 4 1 1 []) 4 []) }) upS
def spiTwo : State := hst (fun h => { h with spiOut := [[], [1#8]] }) upS
def lockedS : State := cfg (fun c => { c with locked := true }) upS
def badStaged : State := cfg (fun c => { c with staged := [(0x0101, 20001)] }) upS
def moving : State := ctl (fun c => { c with mode := 1 }) upS
def grouped : State := table 0x0203 (bytesAt 128 [(1, 1), (15, 1)]) (table 0x0202 (bytesAt 576 [(1, 1)]) upS)
def hostRate : State := force [(0x0502, 1)] upS
def rawReady : State := gns (fun g => { g with epoch := some 999999990000000, rawEpoch := some 999999990000000, raw := [(0, zeros 48)] }) upS
def peerReady : State := grp (fun g => { g with peers := modAt g.peers 1 fun p => { p with announced := true, role := 1, health := bytesAt 64 [(3, 1)], healthPeriod := some 50000000 } }) upS
def p0003_ok : List Byte := be 4 77 ++ zeros 18
def p0004_none : List Byte := []
def p0001_ok : List Byte := be 1 3 ++ be 1 4 ++ zeros 16
def p0002_ok : List Byte := proof (roleKey upS 3) (List.replicate 16 7#8) (List.replicate 16 9#8) 1 5 3 1
def p0006_free : List Byte := [9#8]
def p0006_five : List Byte := [5#8]
def p0102_none : List Byte := []
def p0103_next : List Byte := be 2 0x0106 ++ be 2 0 ++ be 4 100 ++ be 4 0
def p0103_live : List Byte := be 2 0x0B01 ++ be 2 0 ++ be 4 100 ++ be 4 0
def p0104_vp : List Byte := be 2 0x0101
def p0104_report : List Byte := be 2 0x03B0
def p0104_no : List Byte := be 2 1
def p0110_next : List Byte := be 2 0x0700 ++ be 2 0 ++ be 4 0 ++ be 4 (crcNat [])
def p0110_live : List Byte := be 2 0x0393 ++ be 2 0 ++ be 4 0 ++ be 4 (crcNat [])
def p0110_bad : List Byte := be 2 0x0393 ++ be 2 0 ++ be 4 0 ++ be 4 1
def p0111_ok : List Byte := be 2 0x0393 ++ be 2 0 ++ be 4 0 ++ be 4 16
def p0112_ok : List Byte := be 2 0x0393
def p0201_one : List Byte := be 2 1 ++ be 2 0x0400
def p0201_fine : List Byte := be 2 1 ++ be 2 0x0400
def p0202_ok : List Byte := be 2 0x0030
def p0210_ok : List Byte := [1#8, 0#8]
def p0301_zero : List Byte := [0#8]
def p0301_one : List Byte := [1#8]
def p0310_halt : List Byte := bytesAt 24 [(0, 12)]
def p0320_zero : List Byte := zeros 12
def p0330_none : List Byte := be 4 0
def p0402_all : List Byte := [0xFF#8, 0#8, 0#8, 0#8, 0#8, 4#8]
def p0403_empty : List Byte := be 2 0
def p0404_zero : List Byte := be 2 0
def p0502_ok : List Byte := be 8 5 ++ be 4 0
def p0503_ok : List Byte := be 8 1000000 ++ be 4 5
def p0504_zero : List Byte := be 8 0
def p0505_one : List Byte := [1#8]
def entry1 : List Byte := be 4 0 ++ be 4 0 ++ be 8 0x3FF0000000000000
def hash1 : Nat := structHash 0 1 1 [(0, 0, 0x3FF0000000000000#64)]
def p0601_ok : List Byte := be 4 0 ++ be 8 hash1 ++ be 4 1 ++ be 4 1 ++ be 4 1 ++ entry1
def structS : State := slv (fun x => { x with structs := [(0, loadStruct p0601_ok)] }) upS
def mapping : State := force [(0x0620, 1), (0x0622, 1)] (slv (fun x => { x with structs := [(58, loadStruct p0601_ok)], baRun := some ⟨3, 0, 0, [⟨1, 2, 3, 4, 5#8⟩], []⟩, map := [(1, bytesAt 16 [(15, 0x80)])] }) upS)
def mapFull : State := pwr (fun p => { p with window := 10000000000, windowCharge := 1000, domains := List.replicate 25 .stopped }) mapping
def atStage5Full : State := slv (fun x => { x with structs := [(56, loadStruct p0601_ok)] }) (stageFull 5)
def p0602_ok : List Byte := be 2 0 ++ be 2 1 ++ be 8 hash1 ++ be 4 0 ++ be 4 0 ++ be 8 0x4000000000000000
def p0603_ok : List Byte := be 4 0 ++ be 4 0 ++ be 4 0 ++ be 8 hash1 ++ be 8 0x3FF0000000000000
def p0604_zero : List Byte := [0#8]
def p0610_ok : List Byte := be 4 1 ++ be 4 1 ++ be 4 1590000000 ++ zeros 11 ++ [1#8]
def p0611_ok : List Byte := be 4 0 ++ be 4 2
def p0702_zero : List Byte := [0#8]
def p0703_one : List Byte := [1#8]
def p0704_one : List Byte := [1#8]
def p0704_zero : List Byte := [0#8]
def p0802_good : List Byte := be 4 256 ++ be 4 2814452675 ++ goodBody
def p0802_crc : List Byte := be 4 4 ++ be 4 1 ++ zeros 4
def p0802_bad : List Byte := be 4 4 ++ be 4 (crcNat (zeros 4)) ++ zeros 4
def p0804_ok : List Byte := be 4 2519226607
def p0804_no : List Byte := be 4 0
def p0805_none : List Byte := [0#8]
def p0805_one : List Byte := [1#8]
def p0A02_ok : List Byte := be 4 0 ++ be 2 10 ++ be 4 0
def p0B02_sleep : List Byte := [2#8]
def p0B03_core : List Byte := [1#8]
def p0B05_one : List Byte := be 4 1
def p0C03_zero : List Byte := [0#8]
def p0C04_zero : List Byte := [0#8]
def p0C05_zero : List Byte := [0#8]
def p0C05_all : List Byte := [0xFF#8]
def p0C10_zero : List Byte := be 4 0 ++ zeros 32
def p0D01_ok : List Byte := be 2 1 ++ be 2 5 ++ be 1 5 ++ be 1 0 ++ be 4 7
def p0D02_ok : List Byte := be 2 1 ++ be 2 5 ++ be 4 0 ++ be 2 10
def p0D03_one : List Byte := be 2 1
def p0D03_no : List Byte := be 2 9
def data1440 : List Byte := List.replicate 1440 7#8
def fragReq : Req := let r : Req := { pkt 0x0610 3 2 3 10 hostA data1440 with flags := 0#8 }; { r with trailer := crc32c (reqHeader r 0x0610 ++ data1440) }
def unkReq : Req := pkt 0x0777 1 1 3 10 hostA [0#8]
/-- A request with the trailer that fits. -/
def sent (code : Nat) (p : List Byte) (r : Req) : Req := { r with trailer := crc32c (reqHeader r code ++ p) }
def specReq : Req := let r : Req := { new_ 0x0201 1 1 p0201_fine with flags := 12#8 }; { r with trailer := crc32c (reqHeader r 0x0201 ++ p0201_fine) }

/-! What the statements suppose is met: one theorem to a statement. -/

set_option Elab.async false
set_option linter.all false

/-- A packet that passes steps 1 to 3 of Table 02-3 passes all of `Fresh` but what concerns earlier commands. -/
def freshB (code cls n : Nat) (r : Req) (p : List Byte) (s : State) (x : Session) : Bool :=
  decide (r.fragment.toNat = 0 ∧ isLastFrag r = true) && decide (r.paramLen.toNat = p.length ∧ p.length ≤ 1440 ∧ r.tag.toNat ≤ 127 ∧ cls ≤ 3) &&
    decide (openSlot s r.session.toNat = some x ∧ x.src = r.src ∧ r.epoch.toNat = x.epoch) &&
    decide ((x.authed = true ∨ code = 0x0002 ∨ code = 0x0005) ∧ r.cls.toNat = cls ∧ roleNeeded code x p ≤ x.role) &&
    decide (1 ≤ seqD x r.seq ∧ seqD x r.seq ≤ 64) && decide (tagHeld x r.tag.toNat = false ∧ placeFree x cls = true) &&
    decide (bowRaised s = false ∧ 1 ≤ r.burst ∧ n ≤ r.burst)

theorem fresh_of {code cls n : Nat} {r : Req} {p : List Byte} {s : State} {x : Session} (hr : readable r code p s = true)
    (h : freshB code cls n r p s x = true) (he : (∀ d ∈ s.host.cmds, d.entry < s.host.nextEntry) ∧ ∀ j ∈ s.host.journal, j.cur.entry < s.host.nextEntry)
    (hf : ∀ d ∈ s.host.cmds, ∀ o ∈ objsOf d.opcode d, ∀ c : Cmd, c.params = p → ∀ o' ∈ objsOf code c, sameObj o o' = false) : Fresh code cls n r p s x := by
  simp only [freshB, Bool.and_eq_true, decide_eq_true_eq] at h
  exact ⟨hr, h.1.1.1.1.1.1, h.1.1.1.1.1.2, h.1.1.1.1.2, h.1.1.1.2, h.1.1.2, h.1.2, he, hf, h.2⟩

/-- Firmware answers on Ethernet port A at the ROM default UDP port. -/
def answers (s : State) : Bool := awake s && !s.pwr.isolated.getLsbD 6 && s.cfg.udpPort == 30940

theorem readable_new {code cls n : Nat} {p : List Byte} {s : State} (h : answers s = true) : readable (new_ code cls n p) code p s = true := by
  simp only [answers, Bool.and_eq_true, beq_iff_eq] at h
  simp only [readable, arrives, portDown, new_, pkt, hostA, isReplyPkt, crcOk, reqHeader, h.1.1, h.2, beq_self_eq_true]
  simpa using h.1.2

theorem fresh_new {code cls n : Nat} {p : List Byte} {s : State} {x : Session}
    (h : (answers s && s.host.cmds.isEmpty && s.host.journal.isEmpty && freshB code cls n (new_ code cls n p) p s x) = true) :
    Fresh code cls n (new_ code cls n p) p s x := by
  simp only [Bool.and_eq_true, List.isEmpty_iff] at h
  exact fresh_of (readable_new h.1.1.1) h.2 (by simp [h.1.1.2, h.1.2]) (by simp [h.1.1.2])

/-- The packet of a new command of session 1 is fresh, and more holds that its command supposes. -/
def Able (code cls n : Nat) (ok : Cmd → State → Prop) (p : List Byte) (s : State) (x : Session) : Prop :=
  Fresh code cls n (new_ code cls n p) p s x ∧ ok (cmdOf code cls n (new_ code cls n p) p s) (admitted code cls n (new_ code cls n p) p s)

theorem able {code cls n : Nat} {ok : Cmd → State → Prop} {p : List Byte} {s : State} {x : Session}
    (h : (answers s && s.host.cmds.isEmpty && s.host.journal.isEmpty && freshB code cls n (new_ code cls n p) p s x) = true)
    (hk : ok (cmdOf code cls n (new_ code cls n p) p s) (admitted code cls n (new_ code cls n p) p s)) : Able code cls n ok p s x := ⟨fresh_new h, hk⟩

/-- A fold whose state is evaluated at every step. -/
def strict (f : Nat → Byte → Nat) : List Byte → Nat → Nat
  | [], c => c
  | b :: l, 0 => strict f l (f 0 b)
  | b :: l, n + 1 => strict f l (f (n + 1) b)

theorem strict_crc (l : List Byte) (c : Nat) (h : c < 2 ^ 32) :
    strict (fun c b => (crc32cByte (BitVec.ofNat 32 c) b).toNat) l c = (l.foldl crc32cByte (BitVec.ofNat 32 c)).toNat := by
  induction l generalizing c with
  | nil => simpa [strict] using (Nat.mod_eq_of_lt h).symm
  | cons b l ih => cases c <;> simp [strict, ih _ (BitVec.isLt _)]

theorem crcNat_strict (l : List Byte) (c : Nat) (h : strict (fun c b => (crc32cByte (BitVec.ofNat 32 c) b).toNat) l 0xFFFFFFFF = c) :
    crcNat l = c ^^^ 0xFFFFFFFF := by
  rw [← h, strict_crc _ _ (by decide)]
  simp [crcNat, crc32c, BitVec.toNat_xor]

theorem crc_goodBody : crcNat goodBody = 2814452675 := crcNat_strict _ (2814452675 ^^^ 0xFFFFFFFF) (by decide +kernel)
theorem check_setBody : checkOf setBody = 2519226607 :=
  show crcNat ([0x56#8, 0x4B#8, 0x43#8, 0x56#8] ++ setBody) = 2519226607 from
  crcNat_strict ([0x56#8, 0x4B#8, 0x43#8, 0x56#8] ++ setBody) (2519226607 ^^^ 0xFFFFFFFF) (by decide +kernel)

theorem confirmed_safS : safConfirmed safS = true :=
  show (some (checkOf setBody) == some (checkOf setBody)) = true from beq_self_eq_true _
theorem confirmed_holdS : safConfirmed holdS = true :=
  show (some (checkOf holdBody) == some (checkOf holdBody)) = true from beq_self_eq_true _
theorem confirmed_ready : safConfirmed ready = true :=
  show (some (checkOf setBody) == some (checkOf setBody)) = true from beq_self_eq_true _

theorem sameBuild_ready : sameBuild ready = true := by
  have hm : masterOf ready = some 1 := by decide +kernel
  have hc : (peerOf ready 1).crc = configCrc ready := by
    have h : ∀ c, (peerOf (readyWith c) 1).crc = c := fun _ => rfl
    have hk : ready.cfg = standby.cfg := rfl
    simp only [ready, h, configCrc] at hk ⊢
    simp only [hk]
  have hr : (fieldU (peerOf ready 1).health 20 4 == revision ready) = true := by decide +kernel
  have hd : configDiffers ready = false := by simp [configDiffers, hm, hc]
  simp [sameBuild, hm, hd, hr]

theorem eligible_ready : eligible ready = true := by
  simp only [eligible, ineligible, confirmed_ready, sameBuild_ready]
  decide +kernel

theorem sealKept_reset : SealKept State.reset :=
  ⟨fun _ h => h.elim (fun h => (nomatch (show (none : Option MtrStore) = some _ from h))) fun h => (nomatch (show (none : Option MtrStore) = some _ from h)),
   fun _ h => (nomatch (show (none : Option MtrStore) = some _ from h)), fun _ => rfl, by decide +kernel, by decide +kernel⟩

theorem logFull_islLogFull : mtrLogFull islLogFull = true := by
  show (decide (mtrSlots ≤ (List.replicate mtrSlots _).length) && (List.replicate mtrSlots _).all _) = true
  simp [MtrRec.legal]

/-- What `sesNew` has become when its SESSION_AUTH is admitted. -/
def sesProving : Session := { markSeq 10#32 { sesNew with lastAt := 4000000000 } with tags := [(3, .inFlight 10 2 1 0)] }

/-- That SESSION_AUTH as a command, and the state it is admitted in. -/
def authCmd : Cmd := cmdOf 2 1 1 (new_ 2 1 1 p0002_ok) p0002_ok unproved
def authAt : State := admitted 2 1 1 (new_ 2 1 1 p0002_ok) p0002_ok unproved

theorem proof_p0002 : authCmd.params = proof (roleKey authAt sesProving.wantRole) sesProving.challenge sesProving.nonce authCmd.slot sesProving.epoch
    sesProving.wantRole 1 := by
  rw [show authCmd.params = p0002_ok by simp only [authCmd, cmdOf], show authCmd.slot = 1 by decide +kernel,
    show roleKey authAt sesProving.wantRole = roleKey upS 3 by decide +kernel,
    show sesProving.challenge = List.replicate 16 7#8 by decide +kernel, show sesProving.nonce = List.replicate 16 9#8 by decide +kernel,
    show sesProving.epoch = 5 by decide +kernel, show sesProving.wantRole = 3 by decide +kernel, p0002_ok]

theorem crc_extension (c : Nat) : (peerOf (extensionWith c) 1).crc = c := rfl
theorem cfg_extension (c : Nat) : configCrc (extensionWith c) = configCrc extension := by
  simp only [configCrc, show (extensionWith c).cfg = extension.cfg from rfl]
theorem crc_extensionSame : (peerOf extensionSame 1).crc = configCrc extensionSame := by rw [extensionSame, crc_extension, cfg_extension]
theorem crc_extensionOther : (peerOf extensionOther 1).crc ≠ configCrc extensionOther := by
  rw [extensionOther, crc_extension, cfg_extension]
  generalize configCrc extension = n
  omega

theorem readable_fragReq : readable fragReq 0x0610 data1440 upS = true := by
  have h : crcOk fragReq 0x0610 data1440 = true := by simp only [crcOk, fragReq, reqHeader, beq_self_eq_true]
  show (awake _ && arrives _ _ _ _ && !portDown _ _ && _ && crcOk fragReq 0x0610 data1440 && _) = true
  rw [h]; decide +kernel
theorem header_fragReq : headerStatus fragReq data1440 = 0 := by
  have hl : data1440.length = 1440 := List.length_replicate
  have hp : fragReq.paramLen = BitVec.ofNat 16 data1440.length := rfl
  rw [headerStatus, hp, hl]; decide +kernel

theorem ping_row : (⟨0x0004, 1, .sessionPing⟩ : HostRow) ∈ hostRows := by simp [hostRows]
theorem unlock_row : (⟨0x0102, 1, .configUnlock⟩ : HostRow) ∈ hostRows := by simp [hostRows]
theorem set_row : (⟨0x0103, 1, .configSet⟩ : HostRow) ∈ hostRows := by simp [hostRows]
theorem not_part : ∀ q o c fs l t0 t1 sp, keyGet 3 { ses with marks := 1#64, tags := [(3, .ended 9 4 1 [] 3 1 1 0)] }.tags ≠
    some (.reassembling q o c fs l t0 t1 sp) := by
  intro q o c fs l t0 t1 sp h
  exact TagState.noConfusion (Option.some.inj (show some (TagState.ended 9 4 1 [] 3 1 1 0) = _ from h))

theorem checkNow_body {s : State} {b : List Byte} (h : (safSet s).map (·.body) = some b) : checkNow s = checkOf b := by
  cases hs : safSet s with
  | none => simp [hs] at h
  | some p => simp [hs] at h; simp [checkNow, hs, h]
theorem wit_StepRunsFront :
    (∃ (c : Instr) (cs : List Instr) (s : State), s.pending = c :: cs) :=
  ⟨.ephemerisCopy, [], { State.reset with pending := [.ephemerisCopy] }, rfl⟩

theorem wit_IdleTick :
    (∃ s : State, s.pending = []) :=
  ⟨State.reset, rfl⟩

theorem wit_QueueKept :
    (∃ s t : State, step s = .next t) :=
  ⟨State.reset, _, rfl⟩

theorem wit_PacketSilent :
    ((∃ h ∈ hostRows, ∃ (r : Req) (p : List Byte) (s : State), readable r h.code p s = false)) ∧
    ((∃ (r : Req) (p : List Byte) (s : State), readable r 1 p s = false)) :=
  ⟨⟨_, ping_row, new_ 4 1 1 [], [], State.reset, by decide +kernel⟩,
   ⟨new_ 1 1 1 [], [], State.reset, by decide +kernel⟩⟩

theorem wit_PacketRefused :
    ((∃ h ∈ hostRows, ∃ (r : Req) (p : List Byte) (s : State), readable r h.code p s = true ∧ headerStatus r p ≠ 0)) ∧
    ((∃ h ∈ hostRows, ∃ (r : Req) (p : List Byte) (s : State), readable r h.code p s = true ∧ headerStatus r p = 0 ∧
      openSlot (takeBuffer r h.code p s) r.session.toNat = none)) ∧
    ((∃ h ∈ hostRows, ∃ (r : Req) (p : List Byte) (s : State) (x : Session), readable r h.code p s = true ∧ headerStatus r p = 0 ∧
      openSlot (takeBuffer r h.code p s) r.session.toNat = some x ∧ x.src ≠ r.src ∧ ¬(h.code = 3 ∧ byteAt p 4 = 1))) ∧
    ((∃ h ∈ hostRows, ∃ (r : Req) (p : List Byte) (s : State) (x : Session), readable r h.code p s = true ∧ headerStatus r p = 0 ∧
      openSlot (takeBuffer r h.code p s) r.session.toNat = some x ∧ x.src = r.src ∧ r.epoch.toNat ≠ x.epoch)) ∧
    ((∃ h ∈ hostRows, ∃ (r : Req) (p : List Byte) (s : State) (x : Session), readable r h.code p s = true ∧ headerStatus r p = 0 ∧
      openSlot (takeBuffer r h.code p s) r.session.toNat = some x ∧ x.src = r.src ∧ r.epoch.toNat = x.epoch ∧ x.authed = false ∧ h.code ≠ 2 ∧
      h.code ≠ 5)) ∧
    ((∃ h ∈ hostRows, ∃ (r : Req) (p : List Byte) (s : State) (x : Session), readable r h.code p s = true ∧ headerStatus r p = 0 ∧
      openSlot (takeBuffer r h.code p s) r.session.toNat = some x ∧ x.src = r.src ∧ r.epoch.toNat = x.epoch ∧
      (x.authed = true ∨ h.code = 2 ∨ h.code = 5) ∧ r.cls.toNat ≠ h.cls)) ∧
    ((∃ h ∈ hostRows, ∃ (r : Req) (p : List Byte) (s : State) (x : Session), readable r h.code p s = true ∧ headerStatus r p = 0 ∧
      openSlot (takeBuffer r h.code p s) r.session.toNat = some x ∧ x.src = r.src ∧ r.epoch.toNat = x.epoch ∧
      (x.authed = true ∨ h.code = 2 ∨ h.code = 5) ∧ r.cls.toNat = h.cls ∧ x.role < roleNeeded h.code x p)) ∧
    ((∃ h ∈ hostRows, ∃ (r : Req) (p : List Byte) (s : State) (x : Session), readable r h.code p s = true ∧ headerStatus r p = 0 ∧
      openSlot (takeBuffer r h.code p s) r.session.toNat = some x ∧ x.src = r.src ∧ r.epoch.toNat = x.epoch ∧
      (x.authed = true ∨ h.code = 2 ∨ h.code = 5) ∧ r.cls.toNat = h.cls ∧ roleNeeded h.code x p ≤ x.role ∧ h.code ≠ 3 ∧ 65 ≤ seqD x r.seq ∧
      seqD x r.seq ≤ 4294967232)) :=
  ⟨⟨_, ping_row, sent 4 [] { new_ 4 1 1 [] with tag := 200#8 }, [], upS, by decide +kernel⟩,
   ⟨_, ping_row, sent 4 [] { new_ 4 1 1 [] with session := 2 }, [], upS, by decide +kernel⟩,
   ⟨_, ping_row, { new_ 4 1 1 [] with src := .eth true 0x0A000001#32 40000#16 }, [], upS, ses, by decide +kernel⟩,
   ⟨_, ping_row, sent 4 [] { new_ 4 1 1 [] with epoch := 6 }, [], upS, ses, by decide +kernel⟩,
   ⟨_, ping_row, new_ 4 1 1 [], [], unproved, sesNew, by decide +kernel⟩,
   ⟨_, ping_row, sent 4 [] { new_ 4 1 1 [] with cls := 2#8 }, [], upS, ses, by decide +kernel⟩,
   ⟨_, unlock_row, new_ 0x0102 1 1 [], [], viewer, { ses with role := 0, wantRole := 0 }, by decide +kernel⟩,
   ⟨_, ping_row, sent 4 [] { new_ 4 1 1 [] with seq := 100 }, [], upS, ses, by decide +kernel⟩⟩

theorem wit_RefusalLeaves :
    ((∃ (r : Req) (s : State) (n : Nat) (x : Session), s.host.sessions[n]? = some x ∧ n + 1 = r.session.toNat ∧ x.isOpen = true)) ∧
    ((∃ (r : Req) (s : State) (n : Nat) (x : Session), s.host.sessions[n]? = some x ∧ n + 1 ≠ r.session.toNat)) :=
  ⟨⟨new_ 4 1 1 [], upS, 0, ses, by decide +kernel⟩,
   ⟨new_ 4 1 1 [], upS, 1, sessionReset, by decide +kernel⟩⟩

theorem wit_DuplicateNotExecuted :
    ((∃ h ∈ hostRows, ∃ (r : Req) (p : List Byte) (s : State) (x : Session) (q o c : Nat) (reps : List Reply) (js k n st : Nat), h.code ≠ 3 ∧
      readable r h.code p s = true ∧ headerStatus r p = 0 ∧
      openSlot (takeBuffer r h.code p s) r.session.toNat = some x ∧ x.src = r.src ∧ r.epoch.toNat = x.epoch ∧
        (x.authed = true ∨ h.code = 2 ∨ h.code = 5) ∧ r.cls.toNat = h.cls ∧ roleNeeded h.code x p ≤ x.role ∧
      behind (seqD x r.seq) = true ∧ marked x (seqD x r.seq) = true ∧ keyGet r.tag.toNat x.tags = some (.ended q o c reps js k n st) ∧
        (q = r.seq.toNat ∧ o = h.code ∧ c = r.cls.toNat))) ∧
    ((∃ h ∈ hostRows, ∃ (r : Req) (p : List Byte) (s : State) (x : Session) (q o c : Nat) (reps : List Reply) (js k n st : Nat), h.code ≠ 3 ∧
      readable r h.code p s = true ∧ headerStatus r p = 0 ∧
      openSlot (takeBuffer r h.code p s) r.session.toNat = some x ∧ x.src = r.src ∧ r.epoch.toNat = x.epoch ∧
        (x.authed = true ∨ h.code = 2 ∨ h.code = 5) ∧ r.cls.toNat = h.cls ∧ roleNeeded h.code x p ≤ x.role ∧
      behind (seqD x r.seq) = true ∧ marked x (seqD x r.seq) = true ∧ keyGet r.tag.toNat x.tags = some (.ended q o c reps js k n st) ∧
        ¬(q = r.seq.toNat ∧ o = h.code ∧ c = r.cls.toNat))) ∧
    ((∃ h ∈ hostRows, ∃ (r : Req) (p : List Byte) (s : State) (x : Session) (q o c e : Nat) (j : JEntry), h.code ≠ 3 ∧ readable r h.code p s = true ∧
      headerStatus r p = 0 ∧
      openSlot (takeBuffer r h.code p s) r.session.toNat = some x ∧ x.src = r.src ∧ r.epoch.toNat = x.epoch ∧
        (x.authed = true ∨ h.code = 2 ∨ h.code = 5) ∧ r.cls.toNat = h.cls ∧ roleNeeded h.code x p ≤ x.role ∧
      behind (seqD x r.seq) = true ∧ marked x (seqD x r.seq) = true ∧ keyGet r.tag.toNat x.tags = some (.inFlight q o c e) ∧ findEntry s e = some j ∧
        (q = r.seq.toNat ∧ o = h.code ∧ c = r.cls.toNat))) ∧
    ((∃ h ∈ hostRows, ∃ (r : Req) (p : List Byte) (s : State) (x : Session) (q o c e : Nat) (j : JEntry), h.code ≠ 3 ∧ readable r h.code p s = true ∧
      headerStatus r p = 0 ∧
      openSlot (takeBuffer r h.code p s) r.session.toNat = some x ∧ x.src = r.src ∧ r.epoch.toNat = x.epoch ∧
        (x.authed = true ∨ h.code = 2 ∨ h.code = 5) ∧ r.cls.toNat = h.cls ∧ roleNeeded h.code x p ≤ x.role ∧
      behind (seqD x r.seq) = true ∧ marked x (seqD x r.seq) = true ∧ keyGet r.tag.toNat x.tags = some (.inFlight q o c e) ∧ findEntry s e = some j ∧
        ¬(q = r.seq.toNat ∧ o = h.code ∧ c = r.cls.toNat))) ∧
    ((∃ h ∈ hostRows, ∃ (r : Req) (p : List Byte) (s : State) (x : Session), h.code ≠ 3 ∧ readable r h.code p s = true ∧ headerStatus r p = 0 ∧
      openSlot (takeBuffer r h.code p s) r.session.toNat = some x ∧ x.src = r.src ∧ r.epoch.toNat = x.epoch ∧
        (x.authed = true ∨ h.code = 2 ∨ h.code = 5) ∧ r.cls.toNat = h.cls ∧ roleNeeded h.code x p ≤ x.role ∧
      behind (seqD x r.seq) = true ∧ marked x (seqD x r.seq) = true ∧ ∀ q o c fs l t0 t1 sp,
        keyGet r.tag.toNat x.tags ≠ some (.reassembling q o c fs l t0 t1 sp))) :=
  ⟨⟨_, ping_row, sent 4 [] { new_ 4 1 1 [] with seq := 9 }, [], marked9, { ses with marks := 1#64, tags := [(3, .ended 9 4 1 [] 3 1 1 0)] }, 9, 4, 1,
    [], 3, 1, 1, 0, by decide +kernel⟩,
   ⟨_, unlock_row, sent 0x0102 [] { new_ 0x0102 1 1 [] with seq := 9 }, [], marked9, { ses with marks := 1#64, tags := [(3,
     .ended 9 4 1 [] 3 1 1 0)] }, 9, 4, 1, [], 3, 1, 1, 0, by decide +kernel⟩,
   ⟨_, set_row, sent 0x0103 [] { new_ 0x0103 1 1 [] with seq := 9 }, [], flight9, { ses with marks := 1#64, tags := [(3, .inFlight 9 0x0103 1 0)] },
     9, 0x0103, 1, 0, entry0 0x0103 1, by decide +kernel⟩,
   ⟨_, ping_row, sent 4 [] { new_ 4 1 1 [] with seq := 9 }, [], flight9, { ses with marks := 1#64, tags := [(3, .inFlight 9 0x0103 1 0)] }, 9,
     0x0103, 1, 0, entry0 0x0103 1, by decide +kernel⟩,
   by refine ⟨_, ping_row, sent 4 [] { new_ 4 1 1 [] with seq := 9 }, [], marked9, { ses with marks := 1#64, tags := [(3,
     .ended 9 4 1 [] 3 1 1 0)] }, ?_, ?_, ?_, ?_, ?_, ?_, ?_, ?_, ?_, ?_, ?_, not_part⟩ <;> decide +kernel⟩

theorem wit_EndedCommand :
    Fresh 0x0004 1 1 (new_ 0x0004 1 1 []) [] upS ses :=
  fresh_new (by decide +kernel)

theorem wit_SessionOpens :
    ((∃ (r : Req) (p : List Byte) (s : State), readable r 1 p s = true ∧ headerStatus r p = 0 ∧ openStatus r.src p s = 0)) ∧
    ((∃ (r : Req) (p : List Byte) (s : State), readable r 1 p s = true ∧ headerStatus r p = 0 ∧ openStatus r.src p (takeBuffer r 1 p s) ≠ 0)) :=
  ⟨⟨new_ 1 1 1 p0001_ok, p0001_ok, up, by decide +kernel⟩,
   ⟨new_ 1 1 1 [], [], up, by decide +kernel⟩⟩

theorem wit_SessionRows_1 :
    Able 0x0004 1 1 (fun c _ => c.params = []) p0004_none upS ses ∧
    (Able 0x0002 1 1 (fun c s => ∃ x : Session, openSlot s c.slot = some x ∧ x.authed = false ∧ c.params.length = 16 ∧
      c.params = proof (roleKey s x.wantRole) x.challenge x.nonce c.slot x.epoch x.wantRole 1 ∧ ¬(x.wantRole = 3 ∧ commissionerHeld c.slot s = true))
      p0002_ok unproved sesNew) ∧
    (Fresh 0x0005 1 1 (new_ 0x0005 1 1 []) [] upS ses) ∧
    (∃ r : Req, ∃ p : List Byte, ∃ s : State, ∃ x : Session, readable r 3 p s = true ∧ headerStatus r p = 0 ∧
      openSlot s r.session.toNat = some x ∧ x.src = r.src ∧ r.epoch.toNat = x.epoch ∧ x.authed = true ∧ r.cls.toNat = 1 ∧ roleOf 3 ≤ x.role ∧
      bowRaised s = false ∧ 1 ≤ r.burst ∧ (∀ d ∈ s.host.cmds, d.entry < s.host.nextEntry) ∧ p.length = 22 ∧ byteAt p 4 = 0 ∧ byteAt p 5 = 0 ∧
      slice p 6 16 = zeros 16) ∧
    Able 0x0006 1 1 (fun c s => c.params.length = 1 ∧ byteAt c.params 0 ≤ 127 ∧
      (openSlot s c.slot).bind (fun x => keyGet (byteAt c.params 0) x.tags) = none) p0006_free upS ses ∧
    (∃ (q o cl : Nat) (reps : List Reply) (js k n st : Nat), Able 0x0006 1 1 (fun c s => c.params.length = 1 ∧ byteAt c.params 0 ≤ 127 ∧
      (openSlot s c.slot).bind (fun x => keyGet (byteAt c.params 0) x.tags) =
      some (.ended q o cl reps js k n st)) p0006_five tagEnded { ses with tags := [(5, .ended 7 4 1 [] 3 1 1 0)] }) ∧
    (∃ (q o cl : Nat) (fs : List (Nat × List Byte)) (l : Option Nat) (t0 t1 : Nat) (sp : Bool), Able 0x0006 1 1 (fun c s => c.params.length = 1 ∧
      byteAt c.params 0 ≤ 127 ∧ (openSlot s c.slot).bind (fun x => keyGet (byteAt c.params 0) x.tags) =
      some (.reassembling q o cl fs l t0 t1 sp)) p0006_five tagPart
      { ses with tags := [(5, .reassembling 7 0x0103 1 [(0, List.replicate 4 0#8)] none 3990000000 3995000000 false)] }) ∧
    (∃ (q o cl e : Nat) (d : Cmd), Able 0x0006 1 1 (fun c s => c.params.length = 1 ∧ byteAt c.params 0 ≤ 127 ∧
      (openSlot s c.slot).bind (fun x => keyGet (byteAt c.params 0) x.tags) =
      some (.inFlight q o cl e) ∧ findCmd s e = some d ∧ e ≠ c.entry ∧ d.cls ≠ 0 ∧ d.busy = false) p0006_five tagFlight
      { ses with tags := [(5, .inFlight 7 0x0103 1 0)] }) := by
  refine ⟨?_,
   able (by decide +kernel) ⟨sesProving, by decide +kernel, rfl, by decide +kernel, proof_p0002, by decide +kernel⟩,
   fresh_new (by decide +kernel),
   ⟨new_ 3 1 1 p0003_ok, p0003_ok, upS, ses, by decide +kernel⟩,
   ?_,
   ⟨7, 4, 1, [], 3, 1, 1, 0, able (by decide +kernel) (by decide +kernel)⟩,
   ⟨7, 0x0103, 1, _, none, 3990000000, 3995000000, false, able (by decide +kernel) ⟨by decide +kernel, by decide +kernel, rfl⟩⟩,
   ⟨7, 0x0103, 1, 0, cmd0 0x0103 0 1 false [],
     fresh_of (readable_new (by decide +kernel)) (by decide +kernel) (by decide +kernel) (by simp [objsOf]), by decide +kernel⟩⟩ <;>
    exact able (by decide +kernel) (by decide +kernel)

theorem wit_SessionRows_2 :
    (∃ (q o cl e : Nat) (d : Cmd) (j : JEntry), Able 0x0006 1 1 (fun c s => c.params.length = 1 ∧ byteAt c.params 0 ≤ 127 ∧
      (openSlot s c.slot).bind (fun x => keyGet (byteAt c.params 0) x.tags) =
      some (.inFlight q o cl e) ∧ findCmd s e = some d ∧ findEntry s e = some j ∧ e ≠ c.entry ∧ d.cls ≠ 0 ∧ d.busy = true) p0006_five tagBusy
      { ses with tags := [(5, .inFlight 7 0x0103 1 0)] }) :=
  ⟨7, 0x0103, 1, 0, { cmd0 0x0103 0 1 false [] with busy := true }, entry0 0x0103 1,
     fresh_of (readable_new (by decide +kernel)) (by decide +kernel) (by decide +kernel) (by simp [objsOf]), by decide +kernel⟩

theorem wit_JournalRows :
    Able 0x0D01 1 1 (fun c _ => c.params.length = 10 ∧ byteAt c.params 5 = 0) p0D01_ok upS ses ∧
    Able 0x0D02 3 1 (fun c _ => c.params.length = 10 ∧ 1 ≤ fieldU c.params 8 2 ∧ fieldU c.params 8 2 ≤ 1024) p0D02_ok upS ses ∧
    Able 0x0D03 1 1 (fun c s => c.params.length = 2 ∧ (slotNo s (fieldU c.params 0 2)).isSome) p0D03_one upS ses ∧
    Able 0x0D03 1 1 (fun c s => c.params.length = 2 ∧ slotNo s (fieldU c.params 0 2) = none) p0D03_no upS ses := by
  refine ⟨?_,
   ?_,
   ?_,
   ?_⟩ <;>
    exact able (by decide +kernel) (by decide +kernel)

theorem wit_ConfigReads :
    Able 0x0104 1 1 (fun c _ => c.params.length = 2 ∧ (paramDef (fieldU c.params 0 2)).isSome) p0104_vp upS ses ∧
    Able 0x0104 1 1 (fun c _ => c.params.length = 2 ∧ paramDef (fieldU c.params 0 2) = none ∧
      isReport (fieldU c.params 0 2) = false) p0104_no upS ses ∧
    Able 0x0104 1 1 (fun c _ => c.params.length = 2 ∧ paramDef (fieldU c.params 0 2) = none ∧
      isReport (fieldU c.params 0 2) = true) p0104_report upS ses ∧
    Able 0x0111 3 1 (fun c _ => c.params.length = 12 ∧ byteAt c.params 2 ≤ 1 ∧ byteAt c.params 3 = 0 ∧ fieldU c.params 8 4 ≤ 92148 ∧
      noTable (fieldU c.params 0 2) = false) p0111_ok upS ses ∧
    Able 0x0112 1 1 (fun c _ => c.params.length = 2 ∧ noTable (fieldU c.params 0 2) = false) p0112_ok upS ses ∧
    Able 0x0202 3 1 (fun c s => c.params.length = 2 ∧ (sigType s (fieldU c.params 0 2)).isSome) p0202_ok upS ses ∧
    Able 0x0201 1 1 (fun c s => 2 ≤ c.params.length ∧ c.params.length = 2 + 2 * fieldU c.params 0 2 ∧ 1 ≤ fieldU c.params 0 2 ∧
      fieldU c.params 0 2 ≤ 1024 ∧ (∀ i ∈ readIds c.params, (sigType s i).isSome) ∧ (c.specOk = false ∨ (∀ ch,
      s.sch.chain = some ch → ch.done = false) ∨ parisonIds (readIds c.params) = false)) p0201_one upS ses ∧
    (∃ (r : Req) (p : List Byte) (s : State) (x : Session) (ch : Chain), Fresh 0x0201 1 1 r p s x ∧ s.sch.chain = some ch ∧ ch.done = true ∧
      2 ≤ p.length ∧ p.length = 2 + 2 * fieldU p 0 2 ∧ 1 ≤ fieldU p 0 2 ∧ fieldU p 0 2 ≤ 1024 ∧ (∀ i ∈ readIds p, (sigType s i).isSome) ∧
      isSpecOk r = true ∧ parisonIds (readIds p) = true) := by
  refine ⟨?_,
   ?_,
   ?_,
   ?_,
   ?_,
   ?_,
   ?_,
   ⟨specReq, p0201_fine, chainedDone, ses, _, fresh_of (by decide +kernel) (by decide +kernel) (by decide +kernel)
     fun _ h => (by simp [show chainedDone.host.cmds = [] from rfl] at h), rfl, by decide +kernel⟩⟩ <;>
    exact able (by decide +kernel) (by decide +kernel)

theorem wit_ConfigWrites_1 :
    Able 0x0102 1 1 (fun c s => c.params = [] ∧ inStandby s = true ∧ s.cfg.locked = true) p0102_none lockedS ses ∧
    Able 0x0102 1 1 (fun c s => c.params = [] ∧ inStandby s = false) p0102_none schedMode ses ∧
    Able 0x0102 1 1 (fun c s => c.params = [] ∧ inStandby s = true ∧ s.cfg.locked = false) p0102_none upS ses ∧
    Able 0x0103 1 1 (fun c s => configSetCheck c s = 0 ∧ ((paramDef (fieldU c.params 0 2)).map (·.live)).getD false = false) p0103_next upS ses ∧
    Able 0x0103 1 1 (fun c s => configSetCheck c s = 0 ∧ ((paramDef (fieldU c.params 0 2)).map (·.live)).getD false = true) p0103_live upS ses ∧
    (Fresh 0x0110 1 4 (new_ 0x0110 1 4 p0110_next) p0110_next upS ses ∧ let c := cmdOf 0x0110 1 4 (new_ 0x0110 1 4 p0110_next) p0110_next upS; let u := admitted 0x0110 1 4 (new_ 0x0110 1 4 p0110_next) p0110_next upS; let id := fieldU p0110_next 0 2; let b := p0110_next.drop 12; let live := ((tabDef id).map (·.live)).getD false; let u1 := committed c 1 { u with cfg := { u.cfg with stagingBuf := keyPut id b u.cfg.stagingBuf } }; tableWriteCheck c u = 0 ∧ fieldU p0110_next 8 4 = crcNat b ∧ (acqTable id && stopsPending u1) = false ∧ tableStep2 live id b u1 = 0) ∧
    (Fresh 0x0110 1 4 (new_ 0x0110 1 4 p0110_bad) p0110_bad upS ses ∧ let c := cmdOf 0x0110 1 4 (new_ 0x0110 1 4 p0110_bad) p0110_bad upS; let u := admitted 0x0110 1 4 (new_ 0x0110 1 4 p0110_bad) p0110_bad upS; let b := p0110_bad.drop 12; tableWriteCheck c u = 0 ∧ fieldU p0110_bad 8 4 ≠ crcNat b) ∧
    (Fresh 0x0101 1 2 (new_ 0x0101 1 2 []) [] upS ses ∧ let u := admitted 0x0101 1 2 (new_ 0x0101 1 2 []) [] upS; inStandby upS = true ∧ upS.cfg.locked = false ∧ timeValid upS = true ∧ lockOk u = true ∧ ownStructsFit u = true) := by
  refine ⟨?_,
   ?_,
   ?_,
   ?_,
   ?_,
   ⟨?_, ?_⟩,
   ⟨?_, ?_⟩,
   ⟨?_, ?_⟩⟩ <;>
    first | decide +kernel | exact able (by decide +kernel) (by decide +kernel) | exact fresh_new (by decide +kernel)

theorem wit_ConfigWrites_2 :
    Able 0x0101 1 2 (fun c s => c.params = [] ∧ inStandby s = false) [] schedMode ses ∧
    Able 0x0101 1 2 (fun c s => c.params = [] ∧ inStandby s = true ∧ s.cfg.locked = true) [] lockedS ses ∧
    Able 0x0101 1 2 (fun c s => c.params = [] ∧ inStandby s = true ∧ s.cfg.locked = false ∧ timeValid s = false) [] unsetUp ses ∧
    Able 0x0101 1 2 (fun c s => c.params = [] ∧ inStandby s = true ∧ s.cfg.locked = false ∧ timeValid s = true ∧
      lockOk s = false) [] badStaged ses := by
  refine ⟨?_,
   ?_,
   ?_,
   ?_⟩ <;>
    exact able (by decide +kernel) (by decide +kernel)

theorem wit_ControlCommands_1 :
    Able 0x0301 1 1 (fun c s => modeSetCheck c s = 0) p0301_zero upS ses ∧
    Able 0x0301 1 1 (fun c s => c.params.length = 1 ∧ byteAt c.params 0 ≤ 6 ∧ byteAt c.params 0 ≠ 0 ∧ controlBarred s = 0 ∧
      s.cfg.locked = false) p0301_one upS ses ∧
    Able 0x0301 1 1 (fun c s => c.params.length = 1 ∧ byteAt c.params 0 ≤ 6 ∧ byteAt c.params 0 ≠ 0 ∧ controlBarred s = 0 ∧ s.cfg.locked = true ∧
      safConfirmed s = false) p0301_one lockedS ses ∧
    Able 0x0310 1 1 (fun c s => setpointCheck c s = 0) p0310_halt upS ses ∧
    Able 0x0320 1 1 (fun c s => c.params.length = 12 ∧ ([0, 4, 8].all fun o => fin32 (rat (-1) 1) (rat 1 1) (fieldF32 c.params o)) = true ∧
      controlBarred s = 0 ∧ joyMode s.ctl.mode = true) p0320_zero joyOld ses ∧
    Able 0x0210 1 1 (fun c s => c.params.length = 2 ∧ byteAt c.params 1 ≤ 1 ∧ controlBarred s = 0 ∧
      sourceKnown s (byteAt c.params 0) = true) p0210_ok grouped ses ∧
    Able 0x0330 1 1 (fun c s => c.params.length = 4 ∧ fieldU c.params 0 4 &&& configuredMask s = fieldU c.params 0 4 ∧
      controlBarred s = 0) p0330_none upS ses ∧
    ((∃ (m k : Nat) (s : State) (i : Nat) (a b : Thr), s.thr.thr[i]? = some a ∧ (availIn m k s).thr.thr[i]? = some b)) := by
  refine ⟨?_,
   ?_,
   ?_,
   ?_,
   ?_,
   ?_,
   ?_,
   ⟨1, 1, saturated, 0, _, _, rfl, rfl⟩⟩ <;>
    exact able (by decide +kernel) (by decide +kernel)

theorem wit_ControlCommands_2 :
    ((∃ (m k : Nat) (s : State) (i : Nat) (a b : Thr), s.thr.thr[i]? = some a ∧ (availIn m k s).thr.thr[i]? = some b ∧ bitOf k i = true)) ∧
    ((∃ (m k : Nat) (s : State) (i : Nat) (a b : Thr), s.thr.thr[i]? = some a ∧ (availIn m k s).thr.thr[i]? = some b ∧ bitOf k i = false)) ∧
    Able 0x0302 1 1 (fun c _ => c.params = []) [] upS ses ∧
    Able 0x0311 1 1 (fun c _ => c.params = []) [] upS ses := by
  refine ⟨⟨1, 1, saturated, 0, _, _, rfl, rfl, by decide⟩,
   ⟨2, 2, saturated, 0, _, _, rfl, rfl, by decide⟩,
   ?_,
   ?_⟩ <;>
    exact able (by decide +kernel) (by decide +kernel)

theorem wit_StopCommands :
    (Fresh 0x03F0 0 1 (new_ 0x03F0 0 1 []) [] atStage5Bounded ses ∧ isDet atStage5Bounded = false) ∧
    (Fresh 0x08F0 0 1 (new_ 0x08F0 0 1 []) [] atStage5Bounded ses ∧ isDet atStage5Bounded = false) ∧
    (Fresh 0x03F0 0 1 (new_ 0x03F0 0 1 []) [] upS ses ∧ isDet upS = true) ∧
    (Fresh 0x08F0 0 1 (new_ 0x08F0 0 1 []) [] upS ses ∧ isDet upS = true) := by
  refine ⟨⟨?_, ?_⟩,
   ⟨?_, ?_⟩,
   ⟨?_, ?_⟩,
   ⟨?_, ?_⟩⟩ <;>
    first | decide +kernel | exact fresh_new (by decide +kernel)

theorem wit_GnssCommands :
    Able 0x0401 1 1 (fun c s => c.params = [] ∧ gnssUp s = true ∧ s.gnss.epoch.isSome) [] epochOf ses ∧
    Able 0x0401 1 1 (fun c s => c.params = [] ∧ (gnssUp s = false ∨ s.gnss.epoch = none)) [] upS ses ∧
    Able 0x0402 3 1 (fun c s => c.params.length = 6 ∧ (byteAt c.params 0 ≤ 2 ∨ byteAt c.params 0 = 0xFF) ∧ byteAt c.params 1 = 0 ∧
      1 ≤ fieldU c.params 4 2 ∧ fieldU c.params 4 2 ≤ 256 ∧ gnssUp s = true ∧ s.gnss.rawEpoch.isSome) p0402_all rawReady ses ∧
    Able 0x0404 3 1 (fun c _ => c.params.length = 2 ∧ fieldU c.params 0 2 ≤ 255) p0404_zero upS ses ∧
    Able 0x0403 1 1 (fun c _ => 2 ≤ c.params.length ∧ c.params.length = 2 + fieldU c.params 0 2) p0403_empty upS ses := by
  refine ⟨?_,
   ?_,
   ?_,
   ?_,
   ?_⟩ <;>
    exact able (by decide +kernel) (by decide +kernel)

theorem wit_TimeCommands :
    Able 0x0501 1 1 (fun c _ => c.params = []) [] upS ses ∧
    Able 0x0502 1 1 (fun c s => c.params.length = 12 ∧ badNs c 8 = 0 ∧ isFollower s = false ∧ timeValid s = false ∧
      s.cfg.locked = false) p0502_ok unsetUp ses ∧
    Able 0x0502 1 1 (fun c s => c.params.length = 12 ∧ badNs c 8 = 0 ∧ isFollower s = false ∧ timeValid s = true) p0502_ok upS ses ∧
    Able 0x0504 1 1 (fun c s => let r := num64 (fieldF64 c.params 0)
      c.params.length = 8 ∧ rateInRange r = true ∧ timeValid s = true ∧ isFollower s = false ∧ pNat s 0x0502 ≠ 0 ∧
        (r.add (rateOf s.time.incr).neg).abs.le (Num.ofInt (pNat s 0x0504)) = true) p0504_zero hostRate ses ∧
    (Fresh 0x0505 1 1 (new_ 0x0505 1 1 p0505_one) p0505_one upS ses ∧ p0505_one.length = 1 ∧ 1 ≤ byteAt p0505_one 0 ∧ byteAt p0505_one 0 ≤ 100) ∧
    (Fresh 0x0503 1 1 (new_ 0x0503 1 1 p0503_ok) p0503_ok upS ses ∧ let c := cmdOf 0x0503 1 1 (new_ 0x0503 1 1 p0503_ok) p0503_ok upS; p0503_ok.length = 12 ∧ badNs c 8 = 0 ∧ isFollower upS = false ∧ timeValid upS = true) := by
  refine ⟨?_,
   ?_,
   ?_,
   ?_,
   ⟨?_, ?_⟩,
   ⟨?_, ?_⟩⟩ <;>
    first | decide +kernel | exact able (by decide +kernel) (by decide +kernel) | exact fresh_new (by decide +kernel)

theorem wit_SolverCommands :
    (Fresh 0x0601 1 2 (new_ 0x0601 1 2 p0601_ok) p0601_ok upS ses ∧ ∃ (n : Nat), let c := cmdOf 0x0601 1 2 (new_ 0x0601 1 2 p0601_ok) p0601_ok upS; let u := admitted 0x0601 1 2 (new_ 0x0601 1 2 p0601_ok) p0601_ok upS; let t := loadStruct p0601_ok; structLoadCheck c u = 0 ∧ placeStruct u (byteAt p0601_ok 0) t.bytes (promises c.entry u) = some n) ∧
    ((∃ t : Struct, Able 0x0602 2 1 (fun c s => structUpdateCheck c s = 0 ∧ structOf s (byteAt c.params 0) = some t) p0602_ok structS ses)) ∧
    Able 0x0604 1 1 (fun c s => c.params.length = 1 ∧ byteAt c.params 0 ≤ 55 ∧ (structOf s (byteAt c.params 0)).isSome) p0604_zero structS ses ∧
    Able 0x0604 1 1 (fun c s => c.params.length = 1 ∧ byteAt c.params 0 ≤ 55 ∧ structOf s (byteAt c.params 0) = none) p0604_zero upS ses ∧
    ((∃ t : Struct, Fresh 0x0603 2 1 (new_ 0x0603 2 1 p0603_ok) p0603_ok structS ses ∧
      let c := cmdOf 0x0603 2 1 (new_ 0x0603 2 1 p0603_ok) p0603_ok structS; let u := admitted 0x0603 2 1 (new_ 0x0603 2 1 p0603_ok) p0603_ok structS
      let w := accessDomains 2 (solverTile (byteAt p0603_ok 0) u) u
      solveCheck c u = 0 ∧ structOf u (byteAt p0603_ok 0) = some t ∧
        (domainsUp (solverTile (byteAt p0603_ok 0) u) w = true ∨ (lateLimit c w).isSome) ∧
      (hostSolve c t (lateLimit c w) w).1.status ≠ stInconsistent)) := by
  refine ⟨⟨?_, 0, ?_⟩,
   ⟨loadStruct p0601_ok, able (by decide +kernel) (by decide +kernel)⟩,
   ?_,
   ?_,
   ⟨loadStruct p0601_ok, fresh_new (by decide +kernel), by decide +kernel⟩⟩ <;>
    first | decide +kernel | exact able (by decide +kernel) (by decide +kernel) | exact fresh_new (by decide +kernel)

theorem wit_MapCommands :
    (Fresh 0x0610 3 2 (new_ 0x0610 3 2 p0610_ok) p0610_ok upS ses ∧
      mapWriteCheck (cmdOf 0x0610 3 2 (new_ 0x0610 3 2 p0610_ok) p0610_ok upS) upS = 0) ∧
    Able 0x0611 3 1 (fun c _ => c.params.length = 8 ∧ 1 ≤ fieldU c.params 4 4 ∧ fieldU c.params 4 4 ≤ 5759 ∧
      fieldU c.params 0 4 + fieldU c.params 4 4 ≤ mapSlots) p0611_ok upS ses ∧
    Able 0x0612 1 1 (fun c _ => c.params = []) [] upS ses := by
  refine ⟨⟨?_, ?_⟩,
   ?_,
   ?_⟩ <;>
    first | decide +kernel | exact able (by decide +kernel) (by decide +kernel) | exact fresh_new (by decide +kernel)

theorem wit_GroupCommands :
    Able 0x0701 1 1 (fun c _ => c.params = []) [] upS ses ∧
    Able 0x0702 1 1 (fun c s => c.params.length = 1 ∧ byteAt c.params 0 ≤ 3 ∧ s.ctl.mode = 0 ∧
      roleSetBad (byteAt c.params 0) s = false) p0702_zero upS ses ∧
    Able 0x0702 1 1 (fun c s => c.params.length = 1 ∧ byteAt c.params 0 ≤ 3 ∧ s.ctl.mode ≠ 0) p0702_zero moving ses ∧
    (Able 0x0704 1 1 (fun c s => c.params.length = 1 ∧ (byteAt c.params 0 = deviceNo s ∨ byteAt c.params 0 ≤ 3 ∧
      ∃ n, (peerOf s (byteAt c.params 0)).healthPeriod = some n ∧ periodIndex s ≤ n + 3)) p0704_one peerReady ses) ∧
    Able 0x0703 1 1 (fun c s => c.params.length = 1 ∧ s.grp.role ≠ 0) p0703_one follower ses ∧
    (Fresh 0x0703 1 1 (new_ 0x0703 1 1 p0703_one) p0703_one peerReady ses ∧ p0703_one.length = 1 ∧ peerReady.grp.role = 0 ∧
      ((byteAt p0703_one 0 = deviceNo peerReady ∨ byteAt p0703_one 0 ≤ 3 ∧ (peerOf peerReady (byteAt p0703_one 0)).announced = true)) ∧
      handoverActive peerReady = false ∧ mayTakeOver peerReady (byteAt p0703_one 0) = true) := by
  refine ⟨?_,
   ?_,
   ?_,
   ?_,
   ?_,
   ⟨?_, ?_⟩⟩ <;>
    first | decide +kernel | exact able (by decide +kernel) (by decide +kernel) | exact fresh_new (by decide +kernel)

theorem wit_SafetyCommands_1 :
    Able 0x0801 1 1 (fun c _ => c.params = []) [] upS ses ∧
    Able 0x0803 1 1 (fun c s => c.params = [] ∧ (safSet s).isSome) [] safS ses ∧
    Able 0x0804 1 1 (fun c s => c.params.length = 4 ∧ (safSet s).isSome ∧ fieldU c.params 0 4 = checkNow s) p0804_ok safS ses ∧
    (Fresh 0x0804 1 1 (new_ 0x0804 1 1 p0804_no) p0804_no safS ses ∧ p0804_no.length = 4 ∧ (safSet safS).isSome ∧
      fieldU p0804_no 0 4 ≠ checkNow safS) ∧
    Able 0x0806 1 1 (fun c s => c.params = [] ∧ tripClears s = true) [] upS ses ∧
    Able 0x0806 1 1 (fun c s => c.params = [] ∧ tripClears s = false) [] ramping ses ∧
    ((∃ p : List Byte, Fresh 0x0802 1 3 (new_ 0x0802 1 3 p) p upS ses ∧ 8 ≤ p.length ∧ p.length = 8 + fieldU p 0 4 ∧ upS.ctl.mode = 0 ∧
      crcNat (p.drop 8) = fieldU p 4 4 ∧ setStatus (p.drop 8) = 0)) ∧
    ((∃ p : List Byte, Fresh 0x0802 1 3 (new_ 0x0802 1 3 p) p upS ses ∧ 8 ≤ p.length ∧ p.length = 8 + fieldU p 0 4 ∧ upS.ctl.mode = 0 ∧
      crcNat (p.drop 8) ≠ fieldU p 4 4)) := by
  refine ⟨?_,
   ?_,
   able (by decide +kernel) ⟨by decide +kernel, by decide +kernel, (by decide +kernel : fieldU p0804_ok 0 4 = 2519226607).trans
     (check_setBody.symm.trans (checkNow_body (by decide +kernel)).symm)⟩,
   ⟨fresh_new (by decide +kernel), by decide +kernel, by decide +kernel, by
     rw [checkNow_body (s := safS) (b := setBody) (by decide +kernel), check_setBody]; decide +kernel⟩,
   ?_,
   ?_,
   ⟨p0802_good, fresh_new (by decide +kernel), by decide +kernel, by decide +kernel, rfl, crc_goodBody.trans (by decide +kernel), by decide +kernel⟩,
   ⟨p0802_crc, fresh_new (by decide +kernel), by decide +kernel⟩⟩ <;>
    exact able (by decide +kernel) (by decide +kernel)

theorem wit_SafetyCommands_2 :
    ((∃ p : List Byte, Fresh 0x0802 1 3 (new_ 0x0802 1 3 p) p upS ses ∧ 8 ≤ p.length ∧ p.length = 8 + fieldU p 0 4 ∧ upS.ctl.mode = 0 ∧
      crcNat (p.drop 8) = fieldU p 4 4 ∧ setStatus (p.drop 8) ≠ 0)) ∧
    ((∃ obs : List TestObs, Fresh 0x0805 1 1 (new_ 0x0805 1 1 p0805_none) p0805_none safS ses ∧ p0805_none.length = 1 ∧ safS.ctl.mode = 0 ∧
      safConfirmed safS = true ∧
      tripActive safS = false ∧ safS.saf.test = none ∧ let c := cmdOf 0x0805 1 1 (new_ 0x0805 1 1 p0805_none) p0805_none safS
      8 ≤ (testOn 9 ⟨c.entry, byteAt p0805_none 0, obs, 0, none,
        List.replicate 8 0⟩ (admitted 0x0805 1 1 (new_ 0x0805 1 1 p0805_none) p0805_none safS)).1.chan)) ∧
    ((∃ obs : List TestObs, Fresh 0x0805 1 1 (new_ 0x0805 1 1 p0805_one) p0805_one holdS ses ∧ p0805_one.length = 1 ∧ holdS.ctl.mode = 0 ∧
      safConfirmed holdS = true ∧
      tripActive holdS = false ∧ holdS.saf.test = none ∧ let c := cmdOf 0x0805 1 1 (new_ 0x0805 1 1 p0805_one) p0805_one holdS
      8 > (testOn 9 ⟨c.entry, byteAt p0805_one 0, obs, 0, none,
        List.replicate 8 0⟩ (admitted 0x0805 1 1 (new_ 0x0805 1 1 p0805_one) p0805_one holdS)).1.chan)) :=
  ⟨⟨p0802_bad, fresh_new (by decide +kernel), by decide +kernel⟩,
   ⟨[], fresh_new (by decide +kernel), by decide +kernel, rfl, confirmed_safS, by decide +kernel, rfl, by decide +kernel⟩,
   ⟨[], fresh_new (by decide +kernel), by decide +kernel, rfl, confirmed_holdS, by decide +kernel, rfl, by decide +kernel⟩⟩

theorem wit_IslandAndEventCommands :
    (Fresh 0x0901 1 1 (new_ 0x0901 1 1 []) [] islImage ses ∧ ∃ (b : List Byte), islImage.mtr.on = true ∧ islImage.mtr.image = some b) ∧
    Able 0x0901 1 1 (fun c s => c.params = [] ∧ (s.mtr.on = false ∨ s.mtr.image = none)) [] upS ses ∧
    Able 0x0902 1 1 (fun c s => c.params = [] ∧ s.mtr.on = true) [] upS ses ∧
    Able 0x0A01 1 1 (fun c _ => c.params = []) [] upS ses ∧
    Able 0x0A02 3 1 (fun c _ => c.params.length = 10 ∧ 1 ≤ fieldU c.params 4 2 ∧ fieldU c.params 4 2 ≤ 2048 ∧
      byteAt c.params 6 ≤ 4) p0A02_ok upS ses ∧
    (∀ r ∈ oneEvent.evt.recs, r.bad = none) ∧
    Able 0x0A03 1 1 (fun c _ => c.params = []) [] upS ses ∧
    (clearEvents 1 upS).evt.recs ≠ [] := by
  refine ⟨⟨?_, ((islImage.mtr.image).get (by decide +kernel)), ?_⟩,
   ?_,
   ?_,
   ?_,
   ?_,
   by decide +kernel,
   ?_,
   by decide +kernel⟩ <;>
    first | decide +kernel | exact able (by decide +kernel) (by decide +kernel) | exact fresh_new (by decide +kernel)

theorem wit_PowerCommands_1 :
    Able 0x0B01 1 1 (fun c _ => c.params = []) [] upS ses ∧
    Able 0x0B02 1 1 (fun c s => c.params.length = 1 ∧ (byteAt c.params 0 = 2 ∨ byteAt c.params 0 = 3 ∨ byteAt c.params 0 = 4) ∧ s.ctl.mode = 0 ∧
      anyReleased s = false) p0B02_sleep upS ses ∧
    Able 0x0B02 1 1 (fun c s => c.params.length = 1 ∧ (byteAt c.params 0 = 2 ∨ byteAt c.params 0 = 3 ∨ byteAt c.params 0 = 4) ∧
      s.ctl.mode ≠ 0) p0B02_sleep moving ses ∧
    Able 0x0B02 1 1 (fun c s => c.params.length = 1 ∧ (byteAt c.params 0 = 2 ∨ byteAt c.params 0 = 3 ∨ byteAt c.params 0 = 4) ∧ s.ctl.mode = 0 ∧
      anyReleased s = true) p0B02_sleep released ses ∧
    Able 0x0B03 1 1 (fun c s => c.params.length = 1 ∧ (byteAt c.params 0 = 1 ∨ byteAt c.params 0 = 2) ∧ s.ctl.mode = 0) p0B03_core upS ses ∧
    Able 0x0B03 1 1 (fun c s => c.params.length = 1 ∧ (byteAt c.params 0 = 1 ∨ byteAt c.params 0 = 2) ∧ s.ctl.mode ≠ 0) p0B03_core moving ses ∧
    Able 0x0B04 1 1 (fun c _ => c.params = []) [] upS ses ∧
    Able 0x0B05 1 1 (fun c _ => c.params.length = 4) p0B05_one upS ses := by
  refine ⟨?_,
   ?_,
   ?_,
   ?_,
   ?_,
   ?_,
   ?_,
   ?_⟩ <;>
    exact able (by decide +kernel) (by decide +kernel)

theorem wit_PowerCommands_2 :
    Able 0x0C01 1 1 (fun c _ => c.params = []) [] upS ses ∧
    Able 0x0C10 1 1 (fun c _ => c.params.length = 36 ∧ byteAt c.params 0 ≤ 4 ∧ byteAt c.params 1 = 0 ∧ byteAt c.params 2 = 0 ∧
      byteAt c.params 3 = 0) p0C10_zero upS ses := by
  refine ⟨?_,
   ?_⟩ <;>
    exact able (by decide +kernel) (by decide +kernel)

theorem wit_ModuleCommands :
    Able 0x0C02 1 1 (fun c _ => c.params = []) [] upS ses ∧
    Able 0x0C03 1 1 (fun c _ => c.params.length = 1 ∧ byteAt c.params 0 ≤ 7) p0C03_zero upS ses ∧
    Able 0x0C04 1 1 (fun c s => c.params.length = 1 ∧ byteAt c.params 0 ≤ 7 ∧ (slotOf s (byteAt c.params 0)).state = 2) p0C04_zero identified ses ∧
    Able 0x0C04 1 1 (fun c s => c.params.length = 1 ∧ byteAt c.params 0 ≤ 7 ∧ (slotOf s (byteAt c.params 0)).state ≠ 2) p0C04_zero upS ses ∧
    Able 0x0C05 1 1 (fun c s => c.params.length = 1 ∧ byteAt c.params 0 ≤ 7 ∧ (slotOf s (byteAt c.params 0)).present = true) p0C05_zero reading ses ∧
    Able 0x0C05 1 1 (fun c s => c.params.length = 1 ∧ byteAt c.params 0 ≤ 7 ∧ (slotOf s (byteAt c.params 0)).present = false) p0C05_zero upS ses ∧
    Able 0x0C05 1 1 (fun c _ => c.params.length = 1 ∧ byteAt c.params 0 = 0xFF) p0C05_all upS ses := by
  refine ⟨?_,
   ?_,
   ?_,
   ?_,
   ?_,
   ?_,
   ?_⟩ <;>
    exact able (by decide +kernel) (by decide +kernel)

theorem wit_ExpiryRows :
    ((∃ (s : State) (slot : Fin 8) (tag : Fin 128) (x : Session) (q o c : Nat) (fs : List (Nat × List Byte)) (l : Option Nat) (t0 t1 : Nat) (sp : Bool),
      openSlot s (slot.val + 1) = some x ∧ keyGet tag.val x.tags = some (.reassembling q o c fs l t0 t1 sp))) ∧
    (∃ s : State, ∃ slot : Fin 8, ∃ tag : Fin 128, reassemblyOf s (slot.val + 1) tag.val = none) ∧
    (∃ s : State, ∃ slot : Fin 8, ∃ x : Session, openSlot s (slot.val + 1) = some x ∧ awake s = true) ∧
    (∃ s : State, ∃ slot : Fin 8, ∃ x : Session, openSlot s (slot.val + 1) = some x ∧ awake s = true ∧ x.authed = false) ∧
    (∃ s : State, ∃ slot : Fin 8, openSlot s (slot.val + 1) = none) ∧
    (∃ s : State, ∃ src : Src, lockedOut src s = true) := by
  refine ⟨⟨tagPart, 0, 5, _, 7, 0x0103, 1, _, none, 3990000000, 3995000000, false, rfl, rfl⟩,
   ⟨State.reset, 0, 0, ?_⟩,
   ⟨upS, 0, ((openSlot upS (0 + 1)).get (by decide +kernel)), ?_⟩,
   ⟨unproved, 0, ((openSlot unproved (0 + 1)).get (by decide +kernel)), ?_⟩,
   ⟨State.reset, 0, ?_⟩,
   ⟨lockedOutS, hostA, ?_⟩⟩ <;>
    decide +kernel

theorem wit_CommandProgressRows :
    ((∃ d : OpDef, ∃ r : Req, ∃ op : BitVec 16, ∃ p : List Byte, ∃ s : State, ∃ x : Session, opOf op.toNat = some d ∧ d.code ≠ 3 ∧
      readable r d.code p s = true ∧ headerStatus r p = 0 ∧ openSlot s r.session.toNat = some x ∧ x.src = r.src ∧
      sessionStatus true d r p x = 0 ∧ 1 ≤ seqD x r.seq ∧ seqD x r.seq ≤ 64 ∧ isLastFrag r = false ∧ p.length = 1440 ∧
      tagHeld x r.tag.toNat = false ∧ placeFree x r.cls.toNat = true ∧ reassemblies s < 4)) ∧
    (∃ r : Req, ∃ op : BitVec 16, ∃ p : List Byte, ∃ s : State, ∃ x : Session, opOf op.toNat = none ∧ op.toNat ≠ 1 ∧ op.toNat ≠ 2 ∧ op.toNat ≠ 5 ∧
      readable r op.toNat p s = true ∧ headerStatus r p = 0 ∧ openSlot s r.session.toNat = some x ∧ x.src = r.src ∧ r.epoch.toNat = x.epoch ∧
      x.authed = true) ∧
    (∃ e : Nat, ∃ s : State, ∃ c : Cmd, ∃ j : JEntry, findCmd s e = some c ∧ findEntry s e = some j ∧ c.opcode = 0x0601 ∧ c.started = true ∧
      c.abort = false ∧ c.k = 0 ∧ awake s = true ∧ bowRaised s = false ∧ blocked (objsOf 0x0601) objsOf c s = false) ∧
    (∃ e : Nat, ∃ s : State, findCmd s e = none) ∧
    (∃ e : Nat, ∃ s : State, ∃ c : Cmd, ∃ j : JEntry, findCmd s e = some c ∧ findEntry s e = some j ∧ ((c.cls = 0 ∨ c.interim = true))) ∧
    (∃ e : Nat, ∃ s : State, ∃ c : Cmd, ∃ j : JEntry, findCmd s e = some c ∧ findEntry s e = some j ∧ c.cls ≠ 0 ∧ c.interim = false) ∧
    (∃ s : State, bowRaised s = true) ∧
    (∃ s : State, bowRaised s = false) := by
  refine ⟨by
     refine ⟨opMapWrite, fragReq, 0x0610, data1440, upS, ses, rfl, by decide, readable_fragReq, header_fragReq, ?_, ?_, ?_, ?_, ?_, ?_,
       List.length_replicate, ?_, ?_, ?_⟩ <;>
       decide +kernel,
   ⟨unkReq, (BitVec.ofNat 16 1911), [0#8], upS, ((openSlot upS unkReq.session.toNat).get (by decide +kernel)), ?_⟩,
   ⟨0, loading, ((findCmd loading 0).get (by decide +kernel)), ((findEntry loading 0).get (by decide +kernel)), ?_⟩,
   ⟨0, State.reset, ?_⟩,
   ⟨0, answered, ((findCmd answered 0).get (by decide +kernel)), ((findEntry answered 0).get (by decide +kernel)), ?_⟩,
   ⟨0, tagBusy, ((findCmd tagBusy 0).get (by decide +kernel)), ((findEntry tagBusy 0).get (by decide +kernel)), ?_⟩,
   ⟨bow, ?_⟩,
   ⟨State.reset, ?_⟩⟩ <;>
    decide +kernel

theorem wit_SpiPort_1 :
    (∃ s : State, let held := if awake s then s.host.spiIn.dropWhile discards else s.host.spiIn; ((s.pwr.state = .run ∨ s.pwr.state = .idle)) ∧ held.length < 2) ∧
    (∃ s : State, let held := if awake s then s.host.spiIn.dropWhile discards else s.host.spiIn; ((s.pwr.state = .run ∨ s.pwr.state = .idle)) ∧ 2 ≤ held.length) ∧
    (∃ s : State, ∃ n : Nat, ∃ q : List Byte, ∃ qs : List (List Byte), s.host.spiOut = q :: qs ∧ q.length + 2 ≤ n) ∧
    (∃ s : State, ∃ n : Nat, ∃ q : List Byte, ∃ qs : List (List Byte), s.host.spiOut = q :: qs ∧ n < q.length + 2) ∧
    (∃ s : State, s.host.spiOut = []) ∧
    (∃ s : State, s.pwr.state ≠ .off) ∧
    (∃ s : State, s.pwr.state = .off) ∧
    (∃ addr : Byte, ∃ data : List Byte, ((∀ k, k < data.length → addr.toNat + k ≠ 0x0B ∧ addr.toNat + k ≠ 0x0F ∧ addr.toNat + k ≠ 0x13))) := by
  refine ⟨⟨State.reset, ?_⟩,
   ⟨spiHeld, ?_⟩,
   ⟨spiFull, 7, [0x01#8, 0x02#8, 0x03#8], [], ?_⟩,
   ⟨spiFull, 0, [0x01#8, 0x02#8, 0x03#8], [], ?_⟩,
   ⟨State.reset, ?_⟩,
   ⟨State.reset, ?_⟩,
   ⟨off, ?_⟩,
   ⟨(BitVec.ofNat 8 0), [], ?_⟩⟩ <;>
    decide +kernel

theorem wit_SpiPort_2 :
    (∃ s : State, ∃ v : Byte, let h := { s.host with inOverrun := s.host.inOverrun && !v.getLsbD 0, outOverrun := s.host.outOverrun && !v.getLsbD 1 }; s.pwr.state ≠ .off) ∧
    (∃ s : State, awake s = true) ∧
    (∃ s : State, awake s = false) := by
  refine ⟨⟨State.reset, (BitVec.ofNat 8 0), ?_⟩,
   ⟨up, ?_⟩,
   ⟨State.reset, ?_⟩⟩ <;>
    decide +kernel

theorem wit_TimeRows_1 :
    (∃ s : State, firstStep s.time.steps = none) ∧
    (∃ s : State, ∃ p : PendStep, firstStep s.time.steps = some p ∧ ((p.entry = none ∨ (∀ q ∈ s.time.steps, q.entry = p.entry → q = p) ∧ ∃ e,
      p.entry = some e ∧ ∃ c, findCmd s e = some c ∧ c.data ≠ []))) ∧
    (∃ s : State, awake s = true ∧ isFollower s = true ∧ s.ctl.mode = 0 ∧ noticeCount s ≠ s.time.masterStepCount) ∧
    (∃ s : State, ((awake s = false ∨ isFollower s = false ∨ s.ctl.mode ≠ 0 ∨ noticeCount s = s.time.masterStepCount))) ∧
    (∃ s : State, ∃ src : Fin 4, sourceOffset s src.val = none) ∧
    (∃ s : State, ∃ src : Fin 4, (awake s = false ∨ timeSource s ≠ some src.val)) ∧
    (∃ s : State, ∃ src : Fin 4, s.time.state = .unset ∧ (¬(pNat s 0x0503 = 1 ∧ (src.val = 1 ∨ src.val = 2)))) ∧
    (∃ s : State, ∃ src : Fin 4, ∃ o : Int, sourceOffset s src.val = some o ∧ awake s = true ∧ timeSource s = some src.val ∧
      s.time.state ≠ .unset) := by
  refine ⟨⟨State.reset, ?_⟩,
   ⟨stepDue, ((firstStep stepDue.time.steps).get (by decide +kernel)), ?_⟩,
   ⟨stepLater, ?_⟩,
   ⟨State.reset, ?_⟩,
   ⟨State.reset, 0, ?_⟩,
   ⟨State.reset, 0, ?_⟩,
   ⟨State.reset, 0, ?_⟩,
   ⟨gpsTime, 1, 5, ?_⟩⟩ <;>
    decide +kernel

theorem wit_TimeRows_2 :
    (∃ s : State, ∃ src : Fin 4, ∃ o : Int, sourceOffset s src.val = some o ∧ awake s = true ∧ timeSource s = some src.val ∧ s.time.state = .unset ∧
      pNat s 0x0503 = 1 ∧ ((src.val = 1 ∨ src.val = 2)) ∧ s.time.frac < 2 ^ 32 ∧ o ≤ s.time.total ∧ (s.time.total : Int) - o < 2 ^ 64 * 10 ^ 9) ∧
    (∃ s : State, ((s.time.state = .locked ∨ s.time.state = .slewing ∨ s.time.state = .free ∧ isFollower s = true))) ∧
    (∃ s : State, s.time.state ≠ .locked ∧ s.time.state ≠ .slewing ∧ ¬(s.time.state = .free ∧ isFollower s = true)) := by
  refine ⟨⟨gpsUnset, 1, -1700000000000000000, ?_⟩,
   ⟨up, ?_⟩,
   ⟨State.reset, ?_⟩⟩ <;>
    decide +kernel

theorem wit_PtpAndPulseRows_1 :
    (∃ s : State, ∃ port : Fin 4, ∃ m : PtpMsg, awake s = true ∧ port.val < 2 ∧ bitOf (pNat s 0x0510) port.val = true ∧ m.domain = pNat s 0x0512 ∧
      m.udp = (pNat s 0x0514 == 0) ∧ hostAllows m s = true ∧ s.time.ptpEx.length = 4 ∧ m.typ = 0 ∧ m.twoStep = true ∧ portState s port.val = .slave ∧
      ((∃ h, heardNow s port.val = some h ∧ h.sender = m.sender))) ∧
    (∃ s : State, ∃ port : Fin 4, ∃ m : PtpMsg, awake s = true ∧ port.val < 2 ∧ bitOf (pNat s 0x0510) port.val = true ∧ m.domain = pNat s 0x0512 ∧
      m.udp = (pNat s 0x0514 == 0) ∧ hostAllows m s = true ∧ s.time.ptpEx.length = 4 ∧ m.typ = 1 ∧ portState s port.val = .master ∧
      pNat s 0x0511 = 0) ∧
    (∃ s : State, ∃ port : Fin 4, ∃ m : PtpMsg, awake s = true ∧ port.val < 2 ∧ bitOf (pNat s 0x0510) port.val = true ∧ m.domain = pNat s 0x0512 ∧
      m.udp = (pNat s 0x0514 == 0) ∧ hostAllows m s = true ∧ s.time.ptpEx.length = 4 ∧ m.typ = 11 ∧ heardNow s port.val = none) ∧
    (∃ s : State, awake s = false) ∧
    (∃ s : State, ∃ b : Bool, ∃ typ : Fin 5, awake s = true ∧ maySend s (b2n b) typ.val = true) ∧
    (∃ s : State, ∃ b : Bool, ∃ typ : Fin 5, (awake s = false ∨ maySend s (b2n b) typ.val = false)) ∧
    (∃ s : State, ∃ d : Bool, awake s = true ∧ linkUp s (b2n d) = true ∧ (isFollower s = true → masterPort s ≠ some (b2n d))) ∧
    (∃ s : State, ∃ d : Bool, isFollower s = true ∧ masterPort s = some (b2n d)) := by
  refine ⟨⟨ptpSlave, 0, ⟨0, 0, true, 9, 4, ⟨1, 2⟩, 0, true, 1, 2, none, [1]⟩, ?_⟩,
   ⟨ptpBoth, 0, ⟨1, 0, true, 9, 4, ⟨1, 2⟩, 0, true, 1, 2, none, [1]⟩, ?_⟩,
   ⟨ptpBoth, 0, ⟨11, 0, true, 9, 4, ⟨1, 2⟩, 0, true, 1, 2, none, [1]⟩, ?_⟩,
   ⟨State.reset, ?_⟩,
   ⟨ptpBoth, true, 0, ?_⟩,
   ⟨State.reset, true, 0, ?_⟩,
   ⟨linkedS, true, ?_⟩,
   ⟨linkedFollower, false, ?_⟩⟩ <;>
    decide +kernel

theorem wit_PtpAndPulseRows_2 :
    (∃ s : State, ∃ d : Bool, awake s = true ∧ linkUp s (b2n d) = true) ∧
    (∃ s : State, s.time.counting = true ∧ s.time.ppsOn = true ∧ ppsGate s = true ∧ s.time.ppsLast = none) ∧
    (∃ s : State, s.time.counting = true ∧ s.time.ppsOn = false) ∧
    (∃ s : State, s.time.counting = false) ∧
    (∃ s : State, ∃ rising : Bool, awake s = true ∧ rising = (pNat s 0x0533 == 0)) ∧
    (∃ s : State, ∃ rising : Bool, ((awake s = false ∨ rising ≠ (pNat s 0x0533 == 0)))) := by
  refine ⟨⟨linkedS, true, ?_⟩,
   ⟨ppsHigh, ?_⟩,
   ⟨State.reset, ?_⟩,
   ⟨stopped, ?_⟩,
   ⟨up, true, ?_⟩,
   ⟨State.reset, true, ?_⟩⟩ <;>
    decide +kernel

theorem wit_GnssBandRows :
    (∃ s : State, gnssUp s = true ∧ s.gnss.bands.length = 6) ∧
    (∃ s : State, ∃ a : Fin 3, ∃ b : Nat, gnssUp s = true ∧ s.gnss.bands.length = 6 ∧ [2 * a.val,
      2 * a.val + 1].find? (fun b => (bandOf s b).fault && !(bandOf s b).replayed) = some b ∧ s.gnss.replayHeld.contains a.val = true) ∧
    (∃ s : State, ∃ a : Fin 3, ∃ b : Nat, gnssUp s = true ∧ s.gnss.bands.length = 6 ∧ [2 * a.val,
      2 * a.val + 1].find? (fun b => (bandOf s b).fault && !(bandOf s b).replayed) = some b ∧ s.gnss.replayHeld.contains a.val = false) ∧
    (∃ s : State, ∃ b : Fin 6, ∃ e : Nat, gnssUp s = true ∧ s.gnss.bands.length = 6 ∧ (bandOf s b.val).cleanSince = some e ∧
      (bandOf s b.val).fault = true) ∧
    (∃ s : State, ∃ b : Fin 6, gnssUp s = true ∧ s.gnss.bands.length = 6 ∧ ((bandOf s b.val).cleanSince = none ∨ (bandOf s b.val).fault = false)) ∧
    (∃ s : State, ∃ b : Fin 6, ∃ e : Nat, gnssUp s = true ∧ s.gnss.bands.length = 6 ∧ (bandOf s b.val).jammed = false ∧
      (bandOf s b.val).jamSince = some e) ∧
    (∃ s : State, ∃ b : Fin 6, ∃ e : Nat, gnssUp s = true ∧ s.gnss.bands.length = 6 ∧ (bandOf s b.val).jammed = true ∧
      (bandOf s b.val).calmSince = some e) := by
  refine ⟨⟨State.reset, ?_⟩,
   ⟨bandHeld, 0, 0, ?_⟩,
   ⟨bandBadS, 0, 0, ?_⟩,
   ⟨bandClean, 0, 3950000000, ?_⟩,
   ⟨State.reset, 0, ?_⟩,
   ⟨bandJam, 0, 3500000000, ?_⟩,
   ⟨bandJammed, 0, 3500000000, ?_⟩⟩ <;>
    decide +kernel

theorem wit_GnssChannelRows_1 :
    (∃ s : State, ∃ o : LoopObs, gnssUp s = true ∧ o.ch < s.gnss.chans.length) ∧
    (∃ s : State, gnssUp s = true) ∧
    (∃ s : State, let v := loopStart [] s; gnssUp s = true ∧ s.gnss.asks = []) ∧
    (∃ s : State, ∃ ch : Fin 256, gnssUp s = true ∧ ch.val < s.gnss.chans.length ∧ 2 ≤ (chanOf s ch.val).state ∧
      (((chanOf s ch.val).weakSince ≠ none ∨ (chanOf s ch.val).phaseBad ≠ none))) ∧
    (∃ s : State, ∃ ch : Fin 256, gnssUp s = true ∧ (chanOf s ch.val).state < 2) ∧
    (∃ s : State, ∃ ch : Fin 256, ∃ x : SearchTarget, ∃ n : Nat, gnssUp s = true ∧ ch.val < s.gnss.chans.length ∧ (chanOf s ch.val).state = 1 ∧
      searchEnd s true (chanOf s ch.val) = some n ∧ sameSignal x (chanOf s ch.val) = true ∧ searchable s x = true ∧ inWindow s ch.val x = true ∧
      s.gnss.asks = []) ∧
    (∃ s : State, ∃ ch : Fin 256, ∃ x : SearchTarget, ∃ b : Bool, gnssUp s = true ∧
      ((searchEnd s b (chanOf s ch.val) = none ∨ (chanOf s ch.val).state ≠ 1 ∨ b = true ∧
      (sameSignal x (chanOf s ch.val) && searchable s x && inWindow s ch.val x) = false))) ∧
    (∃ s : State, ∃ ch : Fin 256, ∃ n : Nat, gnssUp s = true ∧ ch.val < s.gnss.chans.length ∧ (chanOf s ch.val).state = 1 ∧
      searchEnd s false (chanOf s ch.val) = some n ∧ s.gnss.asks = []) := by
  refine ⟨⟨State.reset, ⟨0, 4000, 0, true, true, false⟩, ?_⟩,
   ⟨State.reset, ?_⟩,
   ⟨State.reset, ?_⟩,
   ⟨bitSync, 0, ?_⟩,
   ⟨State.reset, 0, ?_⟩,
   ⟨searching, 0, ⟨0, 0, 5, true, 800, 0, 0, 0⟩, 4007000000, ?_⟩,
   ⟨State.reset, 0, ⟨0, 0, 5, true, 800, 0, 0, 0⟩, true, ?_⟩,
   ⟨searching, 0, 4131000000, ?_⟩⟩ <;>
    decide +kernel

theorem wit_GnssChannelRows_2 :
    (∃ s : State, ∃ ch : Fin 256, ∃ u : NavUnit, let c := chanOf s ch.val; let body := unitBody (unitBits c.signal) u.bits; gnssUp s = true ∧ ch.val < s.gnss.chans.length ∧ (chanOf s ch.val).state = 5 ∧ (u.decoded && unitCheck c.signal body) = true) ∧
    (∃ s : State, ∃ ch : Fin 256, ∃ u : NavUnit, let c := chanOf s ch.val; let body := unitBody (unitBits c.signal) u.bits; gnssUp s = true ∧ ch.val < s.gnss.chans.length ∧ (chanOf s ch.val).state = 5 ∧ (u.decoded && unitCheck c.signal body) = false) ∧
    (∃ s : State, ∃ ch : Fin 256, gnssUp s = true ∧ (chanOf s ch.val).state ≠ 5) ∧
    (∃ s : State, gnssUp s = true ∧ bowRaised s = false) ∧
    (∃ s : State, gnssUp s = true ∧ bowRaised s = true) := by
  refine ⟨⟨tracked, 0, ⟨zeros 38, true, ⟨7, 0⟩, 1, false, some 37⟩, ?_⟩,
   ⟨tracked, 0, ⟨zeros 38, false, ⟨7, 0⟩, 1, false, none⟩, ?_⟩,
   ⟨State.reset, 0, ?_⟩,
   ⟨State.reset, ?_⟩,
   ⟨bow, ?_⟩⟩ <;>
    decide +kernel

theorem wit_GnssPublishRows_1 :
    (∃ s : State, gnssUp s = true) ∧
    (∃ s : State, gnssUp s = false) ∧
    (∃ s : State, ∃ e : Nat, s.gnss.epoch = some e ∧ gnssUp s = true ∧ s.gnss.pendRaw = true) ∧
    (∃ s : State, s.gnss.pendRaw = false) ∧
    (∃ s : State, ∃ w : Fin 6, ∃ e : Nat, s.gnss.epoch = some e ∧ awake s = true ∧ s.gnss.olds = [] ∧ s.gnss.awaiting.contains w.val = true) ∧
    (∃ s : State, ∃ w : Fin 6, ∃ e : Nat, s.gnss.epoch = some e ∧ awake s = true ∧ s.gnss.olds = [] ∧ s.gnss.awaiting.contains w.val = true ∧
      isDet s = false) ∧
    (∃ s : State, ∃ w : Fin 6, ∃ e : Nat, s.gnss.epoch = some e ∧ awake s = true ∧ s.gnss.olds = [] ∧ s.gnss.awaiting.contains w.val = true ∧
      isDet s = true) ∧
    (∃ s : State, ∃ w : Fin 6, ∃ h : HeldOut, s.gnss.olds.find? (fun x => x.what == w.val) = some h ∧ awake s = true) := by
  refine ⟨⟨State.reset, ?_⟩,
   ⟨baseOff, ?_⟩,
   ⟨epochOf, 999999990000000, ?_⟩,
   ⟨State.reset, ?_⟩,
   ⟨epochOf, 0, 999999990000000, ?_⟩,
   ⟨epochABounded, 0, 999999990000000, ?_⟩,
   ⟨epochOf, 0, 999999990000000, ?_⟩,
   ⟨epochOld, 1, ((epochOld.gnss.olds.find? (fun x => x.what == 1)).get (by decide +kernel)), ?_⟩⟩ <;>
    decide +kernel

theorem wit_GnssPublishRows_2 :
    (∃ s : State, ∃ w : Fin 6, heldJob s w.val = none) ∧
    ((∃ (s : State) (c : Bool) (e : Nat) (inp : LevelIn), s.gnss.epoch = some e ∧ awake s = true ∧ pNat s 0x0219 = 1 ∧ s.gnss.levelA = true ∧
      let ds := solverTile 57 s; let v := accessDomains 2 ds s
      domainsUp ds v = true ∧ v.gnss.levelIn = some inp ∧ (c = true ∨ isDet v = false))) ∧
    (∃ s : State, s.gnss.levelA = false) := by
  refine ⟨⟨State.reset, 0, ?_⟩,
   ⟨epochIn, true, 999999990000000, ⟨[], some (0, 0, 0), none, false⟩, by decide +kernel⟩,
   ⟨State.reset, ?_⟩⟩ <;>
    decide +kernel

theorem wit_AcqRows_1 :
    (∃ s : State, ∃ ch : Fin 16, (acqCfg s ch.val = none ∨ (at_ acqChanReset s.acq.chans ch.val).state = 0)) ∧
    (∃ s : State, ∃ ch : Fin 16, ch.val < s.acq.chans.length ∧ acqUp s = true ∧ (at_ acqChanReset s.acq.chans ch.val).state ≠ 0 ∧
      (at_ acqChanReset s.acq.chans ch.val).fault = false) ∧
    (∃ s : State, ∃ ch : Fin 16, (at_ acqChanReset s.acq.chans ch.val).state = 0) ∧
    (∃ s : State, ∃ ch : Fin 16, ∃ k : AcqCfg, ch.val < s.acq.chans.length ∧ acqCfg s ch.val = some k ∧
      (at_ acqChanReset s.acq.chans ch.val).state ≠ 0 ∧ (at_ acqChanReset s.acq.chans ch.val).fault = true) ∧
    (∃ s : State, ∃ ch : Fin 16, ch.val < s.acq.chans.length ∧ (at_ acqChanReset s.acq.chans ch.val).state = 1) ∧
    (∃ s : State, ∃ rising : Bool, acqUp s = true ∧ syncOwner s = true ∧ (((pNat s 0x0253 = 1 ∧ rising = true) ∨ (pNat s 0x0253 = 2 ∧
      rising = false))) ∧ s.acq.lastPin = none) ∧
    (∃ s : State, pNat s 0x0253 = 0) ∧
    (∃ s : State, ∃ i : Nat, ∃ o : Nat, firstSync s.acq.syncs = some (i, o) ∧ acqUp s = true) := by
  refine ⟨⟨State.reset, 0, ?_⟩,
   ⟨acqRunning, 0, ?_⟩,
   ⟨State.reset, 0, ?_⟩,
   ⟨acqFaulty, 0, ((acqCfg acqFaulty 0).get (by decide +kernel)), ?_⟩,
   ⟨acqSettling, 0, ?_⟩,
   ⟨acqRising, true, ?_⟩,
   ⟨State.reset, ?_⟩,
   ⟨acqDue, 1000000000200000, 0, ?_⟩⟩ <;>
    decide +kernel

theorem wit_AcqRows_2 :
    (∃ s : State, s.acq.syncs = []) := by
  refine ⟨State.reset, ?_⟩ <;>
    decide +kernel

theorem wit_CanRows :
    (∃ s : State, ∃ b : Fin 8, ∃ tec : BitVec 8, ∃ rec_ : BitVec 8, b.val < s.bus.can.length ∧ busUp s = true ∧ (canOf s b.val).state = 1 ∧
      (canOf s b.val).tec ≤ tec.toNat ∧ (canOf s b.val).rec_ ≤ rec_.toNat ∧ ((128 ≤ tec.toNat ∨ 128 ≤ rec_.toNat))) ∧
    (∃ s : State, ∃ b : Fin 8, (canOf s b.val).state ≠ 1 ∧ (canOf s b.val).state ≠ 2) ∧
    (∃ s : State, ∃ b : Fin 8, b.val < s.bus.can.length ∧ busUp s = true ∧ (((canOf s b.val).state = 1 ∨ (canOf s b.val).state = 2))) ∧
    (∃ s : State, ∃ b : Fin 8, (canOf s b.val).state = 0) ∧
    (∃ s : State, ∃ b : Fin 8, b.val < s.bus.can.length ∧ busUp s = true ∧ (canOf s b.val).state = 4) := by
  refine ⟨⟨drives, 0, (BitVec.ofNat 8 0), (BitVec.ofNat 8 130), ?_⟩,
   ⟨State.reset, 0, ?_⟩,
   ⟨drives, 0, ?_⟩,
   ⟨State.reset, 0, ?_⟩,
   ⟨recovering, 0, ?_⟩⟩ <;>
    decide +kernel

theorem wit_DriveRows :
    (∃ s : State, ∃ b : Fin 8, ∃ n : Fin 32, ∃ data : List Byte, ∃ k : Nat, ∃ d : DriveMap, profileRx s b.val = true ∧ data.length = 24 ∧
      thrusterAt s b.val n.val = some (k, d) ∧ awake s = true ∧ k < s.bus.drives.length) ∧
    (∃ s : State, ∃ b : Fin 8, ∃ n : Fin 32, ∃ data : List Byte, profileRx s b.val = true ∧ data.length = 24 ∧ thrusterAt s b.val n.val = none ∧
      awake s = true) ∧
    (∃ data : List Byte, data.length ≠ 24) ∧
    (∃ s : State, ∃ b : Fin 8, ∃ n : Fin 32, ∃ data : List Byte, ∃ k : Nat, ∃ d : DriveMap, profileRx s b.val = true ∧ data.length = 8 ∧
      thrusterAt s b.val n.val = some (k, d) ∧ awake s = true ∧ k < s.bus.drives.length) ∧
    (∃ data : List Byte, data.length ≠ 8) ∧
    (∃ s : State, ∃ k : Fin 16, ∃ d : DriveMap, driveRec (ownMap s) k.val = some d ∧ (driveSt s k.val).hbLost = false ∧ awake s = true ∧
      k.val < s.bus.drives.length) ∧
    (∃ s : State, ∃ k : Fin 16, ∃ d : DriveMap, driveRec (ownMap s) k.val = some d ∧ awake s = true ∧ k.val < s.bus.drives.length ∧
      ((pNat s 0x02A2 ≤ (driveSt s k.val).missed ∨ (canOf s d.bus).state = 3))) ∧
    (∃ s : State, ∃ k : Fin 16, driveRec (ownMap s) k.val = none) := by
  refine ⟨⟨drives, 0, 1, canBody, 0, ((thrusterAt drives 0 1).get (by decide +kernel)).2, ?_⟩,
   ⟨drives, 0, 0, canBody, ?_⟩,
   ⟨[], ?_⟩,
   ⟨drives, 0, 1, data8, 0, ((thrusterAt drives 0 1).get (by decide +kernel)).2, ?_⟩,
   ⟨[], ?_⟩,
   ⟨drives, 0, ((driveRec (ownMap drives) 0).get (by decide +kernel)), ?_⟩,
   ⟨busOff, 0, ((driveRec (ownMap busOff) 0).get (by decide +kernel)), ?_⟩,
   ⟨State.reset, 0, ?_⟩⟩ <;>
    decide +kernel

theorem wit_SerialAndModuleRows :
    (∃ s : State, ∃ i : Fin 8, i.val < s.bus.slots.length) ∧
    (∃ s : State, ∃ i : Fin 8, (slotOf s i.val).reading = true ∧ awake s = true ∧ bowRaised s = false) ∧
    (∃ s : State, ∃ i : Fin 8, (slotOf s i.val).reading = false) ∧
    (∃ s : State, ∃ i : Fin 8, i.val < s.bus.slots.length ∧ (slotOf s i.val).reading = true ∧ awake s = true ∧ bowRaised s = false) ∧
    (∃ s : State, ∃ i : Fin 8, i.val < s.bus.slots.length ∧ awake s = true ∧ (((slotOf s i.val).present = true ∨ (slotOf s i.val).state ≠ 0))) ∧
    (∃ s : State, ∃ i : Fin 8, i.val < s.bus.slots.length ∧ awake s = false ∧ (((slotOf s i.val).present = true ∨ (slotOf s i.val).state ≠ 0))) ∧
    (∃ s : State, ∃ i : Fin 8, awake s = true ∧ (slotOf s i.val).present = false ∧ (slotOf s i.val).state = 0) := by
  refine ⟨⟨State.reset, 0, ?_⟩,
   ⟨reading, 0, ?_⟩,
   ⟨State.reset, 0, ?_⟩,
   ⟨reading, 0, ?_⟩,
   ⟨reading, 0, ?_⟩,
   ⟨goneWhileDown, 0, ?_⟩,
   ⟨up, 0, ?_⟩⟩ <;>
    decide +kernel

theorem wit_BoundaryRows :
    (∃ s : State, awake s = true ∧ s.time.counting = true) ∧
    (∃ s : State, (awake s = false ∨ s.time.counting = false)) ∧
    (∃ s : State, awake s = true ∧ s.grid.running = true ∧ s.grid.tpDone ≠ 0 ∧ s.grid.tpDone < s.grid.tpTotal) ∧
    (∃ s : State, s.grid.tpTotal ≤ s.grid.tpDone) ∧
    (∃ s : State, s.grid.running = false) := by
  refine ⟨⟨up, ?_⟩,
   ⟨State.reset, ?_⟩,
   ⟨running, ?_⟩,
   ⟨State.reset, ?_⟩,
   ⟨State.reset, ?_⟩⟩ <;>
    decide +kernel

theorem wit_StageRows_1 :
    (∃ s : State, ∃ n : Nat, ∃ b : Int, ∃ l : List (Nat × Int), s.sch.begun = (n, b) :: l ∧ awake s = true ∧
      replays { s with cfg := cfgBefore b s } = false ∧ periodEnded s = true ∧ levelAWait { s with cfg := cfgBefore b s } b = false ∧
      solutionWait { s with cfg := cfgBefore b s } b = false) ∧
    (∃ s : State, ∃ n : Nat, ∃ b : Int, ∃ l : List (Nat × Int), s.sch.begun = (n, b) :: l ∧
      ((levelAWait { s with cfg := cfgBefore b s } b = true ∨ solutionWait { s with cfg := cfgBefore b s } b = true))) ∧
    (∃ s : State, s.sch.begun = []) ∧
    (∃ s : State, let v := accessDomains 2 (workTile 0 s ++ [16, 15]) s; awake s = true ∧ s.sch.stage = 2 ∧ domainsUp (workTile 0 s ++ [16, 15]) v = true) ∧
    (∃ s : State, let v := accessDomains 2 (workTile 0 s ++ [16, 15]) s; awake s = true ∧ s.sch.stage = 2 ∧ domainsUp (workTile 0 s ++ [16, 15]) v = false) ∧
    (∃ s : State, s.sch.stage ≠ 2) ∧
    (∃ s : State, let v := accessDomains 2 (workTile 1 s ++ recurrentNeeds s) s; awake s = true ∧ s.sch.stage = 3 ∧ domainsUp (workTile 1 s ++ recurrentNeeds s) v = true) ∧
    (∃ s : State, let v := accessDomains 2 (workTile 1 s ++ recurrentNeeds s) s; awake s = true ∧ s.sch.stage = 3 ∧ domainsUp (workTile 1 s ++ recurrentNeeds s) v = false) := by
  refine ⟨⟨begun, 50000000, 1000000000000000, [], ?_⟩,
   ⟨begunWaits, 50000000, 1000000000000000, [], ?_⟩,
   ⟨State.reset, ?_⟩,
   ⟨atStage2, ?_⟩,
   ⟨atStage2Full, ?_⟩,
   ⟨State.reset, ?_⟩,
   ⟨atStage3, ?_⟩,
   ⟨atStage3Full, ?_⟩⟩ <;>
    decide +kernel

theorem wit_StageRows_2 :
    (∃ s : State, s.sch.stage ≠ 3) ∧
    (∃ s : State, let v := accessDomains 1 (workTile 2 s) s; awake s = true ∧ s.sch.stage = 4 ∧ domainsUp (workTile 2 s) v = true) ∧
    (∃ s : State, let v := accessDomains 1 (workTile 2 s) s; awake s = true ∧ s.sch.stage = 4 ∧ domainsUp (workTile 2 s) v = false) ∧
    (∃ s : State, s.sch.stage ≠ 4) ∧
    (∃ s : State, let v := accessDomains 2 (solverTile 56 s) s; awake s = true ∧ s.sch.stage = 5 ∧ ((isDet s = true ∨ s.time.total ≤ s.thr.s6Due)) ∧ domainsUp (solverTile 56 s) v = true) ∧
    (∃ s : State, let v := accessDomains 2 (solverTile 56 s) s; awake s = true ∧ s.sch.stage = 5 ∧ ((isDet s = true ∨ s.time.total ≤ s.thr.s6Due)) ∧ domainsUp (solverTile 56 s) v = false) ∧
    (∃ s : State, (s.sch.stage ≠ 5 ∨ isDet s = false ∧ s.thr.s6Due < s.time.total)) ∧
    (∃ s : State, awake s = true ∧ s.sch.stage = 5 ∧ isDet s = false) := by
  refine ⟨⟨State.reset, ?_⟩,
   ⟨atStage4, ?_⟩,
   ⟨atStage4Full, ?_⟩,
   ⟨State.reset, ?_⟩,
   ⟨atStage5, ?_⟩,
   ⟨atStage5Full, ?_⟩,
   ⟨State.reset, ?_⟩,
   ⟨atStage5Bounded, ?_⟩⟩ <;>
    decide +kernel

theorem wit_StageRows_3 :
    (∃ s : State, ∃ i : Fin 64, i.val < 56 ∧ solveInFlight s i.val = none) ∧
    (∃ s : State, awake s = true ∧ s.sch.stage = 6) ∧
    (∃ s : State, s.sch.stage ≠ 6) ∧
    (∃ s : State, awake s = true ∧ s.sch.stage = 7 ∧ s.sch.s8 = false ∧ s.grp.role = 0) ∧
    (∃ s : State, (s.sch.s8 = true ∨ s.sch.stage ≠ 7 ∨ s.grp.role ≠ 0)) ∧
    (∃ s : State, awake s = true ∧ s.sch.stage = 7 ∧ s.sch.s9 = false) ∧
    (∃ s : State, (s.sch.s9 = true ∨ s.sch.stage ≠ 7)) := by
  refine ⟨⟨State.reset, 0, ?_⟩,
   ⟨atStage6, ?_⟩,
   ⟨State.reset, ?_⟩,
   ⟨atStage7, ?_⟩,
   ⟨State.reset, ?_⟩,
   ⟨atStage7, ?_⟩,
   ⟨State.reset, ?_⟩⟩ <;>
    decide +kernel

theorem wit_ChainRows :
    (∃ s : State, let v := accessDomains 3 (workTile 3 s) s; awake s = true ∧ s.sch.chainDue = true ∧ s.sch.stage = 7 ∧ s.sch.chain = none ∧ bowRaised s = false ∧ domainsUp (workTile 3 s) v = true) ∧
    (∃ s : State, let v := accessDomains 3 (workTile 3 s) s; awake s = true ∧ s.sch.chainDue = true ∧ s.sch.stage = 7 ∧ s.sch.chain = none ∧ bowRaised s = false ∧ domainsUp (workTile 3 s) v = false) ∧
    (∃ s : State, (s.sch.chainDue = false ∨ s.sch.stage ≠ 7 ∨ bowRaised s = true)) ∧
    (∃ s : State, replays s = false) ∧
    (∃ d : List Byte, fieldU d 0 4 ≠ 0x564B4C47) ∧
    (∃ s : State, awake s = true ∧ replays s = true) := by
  refine ⟨⟨chainDueS, ?_⟩,
   ⟨chainDueFull, ?_⟩,
   ⟨State.reset, ?_⟩,
   ⟨State.reset, ?_⟩,
   ⟨[], ?_⟩,
   ⟨replaying, ?_⟩⟩ <;>
    decide +kernel

theorem wit_FusionAndObserverRows_1 :
    (∃ s : State, ∃ g : Fin 8, ∃ c : Nat, g.val < s.fus.groups.length ∧ (groupSt s g.val).hold = some c ∧ holdPeriods s (groupSt s g.val).lost ≤ c ∧
      (groupSt s g.val).fired = false) ∧
    (∃ s : State, ∃ g : Fin 8, ((groupSt s g.val).hold = none ∨ (groupSt s g.val).fired = true)) ∧
    (∃ s : State, ∃ i : Fin 64, i.val < s.fus.tracks.length ∧ (trackOf s i.val).slip = true ∧ 100 ≤ (trackOf s i.val).good) ∧
    (∃ s : State, ∃ i : Fin 64, ((trackOf s i.val).slip = false ∨ (trackOf s i.val).good < 100)) ∧
    (∃ s : State, ∃ d : List Byte, awake s = true ∧ opticalOk s d = true ∧ byteAt d 4 < s.fus.heads.length) ∧
    (∃ s : State, ∃ d : List Byte, awake s = true ∧ opticalOk s d = false) ∧
    (∃ s : State, awake s = false) ∧
    (∃ s : State, ∃ h : Bool, ∃ m : ObsModel, obsModel s = some m ∧ s.obs.phys.running = true ∧
      m.reinit ≤ (if h then s.obs.phys.rejHdg else s.obs.phys.rejPos)) := by
  refine ⟨⟨held, 0, 3000, ?_⟩,
   ⟨State.reset, 0, ?_⟩,
   ⟨clockSlipped, 0, ?_⟩,
   ⟨State.reset, 0, ?_⟩,
   ⟨headOn, frame0, ?_⟩,
   ⟨up, [], ?_⟩,
   ⟨State.reset, ?_⟩,
   ⟨physRun, true, ((obsModel physRun).get (by decide +kernel)), ?_⟩⟩ <;>
    decide +kernel

theorem wit_FusionAndObserverRows_2 :
    (∃ s : State, (obsModel s = none ∨ s.obs.phys.running = false)) ∧
    (∃ s : State, s.obs.rnn.state = 1 ∧ pNat s 0x0343 ≤ s.obs.rnn.since ∧ ((s.sch.stage = 2 ∨ s.sch.stage = 3))) ∧
    (∃ s : State, (s.obs.rnn.state ≠ 1 ∨ s.obs.rnn.since < pNat s 0x0343 ∨ s.sch.stage ≠ 2 ∧ s.sch.stage ≠ 3)) ∧
    (∃ s : State, awake s = true ∧ s.obs.rnn.state ≠ 4) ∧
    (∃ s : State, s.obs.rnn.state = 4) ∧
    (∃ s : State, isDet s = false ∧ s.sch.stage = 3 ∧ ((s.obs.rnn.state = 1 ∨ s.obs.rnn.state = 2)) ∧ s.obs.rnn.late = false) ∧
    (∃ s : State, (isDet s = true ∨ s.obs.rnn.late = true)) ∧
    (∃ s : State, ∃ q : Fin 9, q.val < s.obs.xchk.length ∧ (at_ xchkReset s.obs.xchk q.val).disagree = true ∧
      pNat s 0x0342 ≤ (at_ xchkReset s.obs.xchk q.val).count) := by
  refine ⟨⟨State.reset, ?_⟩,
   ⟨rnnWarm, ?_⟩,
   ⟨State.reset, ?_⟩,
   ⟨up, ?_⟩,
   ⟨rnnFaulted, ?_⟩,
   ⟨rnnWaits, ?_⟩,
   ⟨State.reset, ?_⟩,
   ⟨disagreeing, 0, ?_⟩⟩ <;>
    decide +kernel

theorem wit_FusionAndObserverRows_3 :
    (∃ s : State, ∃ q : Fin 9, (at_ xchkReset s.obs.xchk q.val).disagree = false) := by
  refine ⟨State.reset, 0, ?_⟩ <;>
    decide +kernel

theorem wit_MapRows :
    (∃ s : State, let v := accessDomains 3 (workTile 4 s) s; pNat s 0x0620 = 1 ∧ class3 s = true ∧ domainsUp (workTile 4 s) v = true) ∧
    (∃ s : State, let v := accessDomains 3 (workTile 4 s) s; pNat s 0x0620 = 1 ∧ class3 s = true ∧ domainsUp (workTile 4 s) v = false) ∧
    (∃ s : State, (pNat s 0x0620 ≠ 1 ∨ class3 s = false)) ∧
    (∃ s : State, ∃ b : BaRun, let v := accessDomains 3 (solverTile 58 s) s; s.slv.baRun = some b ∧ pNat s 0x0622 = 1 ∧ class3 s = true ∧ domainsUp (solverTile 58 s) v = true) ∧
    (∃ s : State, ∃ b : BaRun, let v := accessDomains 3 (solverTile 58 s) s; s.slv.baRun = some b ∧ pNat s 0x0622 = 1 ∧ class3 s = true ∧ domainsUp (solverTile 58 s) v = false) ∧
    (∃ s : State, (s.slv.baRun = none ∨ pNat s 0x0622 ≠ 1 ∨ class3 s = false)) := by
  refine ⟨⟨mapping, ?_⟩,
   ⟨mapFull, ?_⟩,
   ⟨State.reset, ?_⟩,
   ⟨mapping, ((mapping.slv.baRun).get (by decide +kernel)), ?_⟩,
   ⟨mapFull, ((mapFull.slv.baRun).get (by decide +kernel)), ?_⟩,
   ⟨State.reset, ?_⟩⟩ <;>
    decide +kernel

theorem wit_ControlTimerRows_1 :
    (∃ s : State, joyMode s.ctl.mode = true ∧ s.ctl.joyTimeout = false ∧ msPeriods s (pNat s 0x0302) ≤ s.ctl.joyAge) ∧
    (∃ s : State, (joyMode s.ctl.mode = false ∨ s.ctl.joyTimeout = true ∨ s.ctl.joyAge < msPeriods s (pNat s 0x0302))) ∧
    (∃ s : State, ∃ k : Fin 3, k.val < s.ctl.fe.length ∧ 1 < axisSrc s.ctl.mode k.val ∧ (at_ feReset s.ctl.fe k.val).warn = false ∧
      max 1 (msPeriods s (fieldU (tabRec s 0x0390 48 k.val) 28 4)) ≤ (at_ feReset s.ctl.fe k.val).warnCount) ∧
    (∃ s : State, ∃ k : Fin 3, k.val < s.ctl.fe.length ∧ 1 < axisSrc s.ctl.mode k.val ∧ (at_ feReset s.ctl.fe k.val).limit = false ∧
      max 1 (msPeriods s (fieldU (tabRec s 0x0390 48 k.val) 32 4)) ≤ (at_ feReset s.ctl.fe k.val).limitCount ∧ pNat s 0x0310 ≠ 1) ∧
    (∃ s : State, ∃ k : Fin 3, axisSrc s.ctl.mode k.val ≤ 1) ∧
    (∃ s : State, s.ctl.mode = 5 ∧ s.ctl.targetLost = true ∧ msPeriods s (pNat s 0x0312) ≤ s.ctl.lostCount) ∧
    (∃ s : State, (s.ctl.mode ≠ 5 ∨ s.ctl.targetLost = false)) ∧
    (∃ s : State, s.ctl.mode = 6 ∧ 2 ≤ s.ctl.phase ∧ s.ctl.optLost = false ∧ msPeriods s (pNat s 0x0313) ≤ s.ctl.optCount) := by
  refine ⟨⟨joyOld, ?_⟩,
   ⟨State.reset, ?_⟩,
   ⟨autoPos, 0, ?_⟩,
   ⟨autoPos, 0, ?_⟩,
   ⟨State.reset, 0, ?_⟩,
   ⟨targetGone, ?_⟩,
   ⟨State.reset, ?_⟩,
   ⟨berthing, ?_⟩⟩ <;>
    decide +kernel

theorem wit_ControlTimerRows_2 :
    (∃ s : State, (s.ctl.mode ≠ 6 ∨ s.ctl.phase < 2 ∨ s.ctl.optLost = true)) ∧
    (∃ s : State, s.ctl.mode = 4 ∧ wpHold s s.ctl.waypoint ∧ s.ctl.arrivedPos = true ∧ s.ctl.waypoint + 1 < wpCount s ∧
      wpHoldPeriods s s.ctl.waypoint ≤ s.ctl.holdAge) ∧
    (∃ s : State, (s.ctl.mode ≠ 4 ∨ s.ctl.arrivedPos = false)) := by
  refine ⟨⟨State.reset, ?_⟩,
   ⟨tracking, ?_⟩,
   ⟨State.reset, ?_⟩⟩ <;>
    decide +kernel

theorem wit_ThrusterRows_1 :
    (∃ s : State, ∃ k : Fin 32, ∃ st : Bool, k.val < s.thr.thr.length ∧ satLimit s k.val 60 ≠ 0 ∧ satLimit s k.val 60 ≤ (satOf s k.val st).count ∧
      (satOf s k.val st).warn = false) ∧
    (∃ s : State, ∃ k : Fin 32, ∃ st : Bool, (satOf s k.val st).warn = true) ∧
    (∃ s : State, ∃ k : Fin 32, ∃ st : Bool, k.val < s.thr.thr.length ∧ satLimit s k.val 62 ≠ 0 ∧ satLimit s k.val 62 ≤ (satOf s k.val st).count ∧
      (satOf s k.val st).fault = false) ∧
    (∃ s : State, ∃ k : Fin 32, ∃ st : Bool, (satOf s k.val st).fault = true) ∧
    (∃ s : State, ∃ k : Fin 32, k.val < s.thr.thr.length ∧ (thrOf s k.val).lost = true ∧ (thrOf s k.val).ready = true ∧
      max 1 (msPeriods s (pNat s 0x032C)) ≤ (thrOf s k.val).held) ∧
    (∃ s : State, ∃ k : Fin 32, ((thrOf s k.val).lost = false ∨ (thrOf s k.val).ready = false)) ∧
    (∃ s : State, ∃ n : Fin 12, fwRunning s = true ∧ bitOf s.sch.retired n.val = false) ∧
    (∃ s : State, fwRunning s = false) := by
  refine ⟨⟨saturated, 0, false, ?_⟩,
   ⟨saturated, 0, true, ?_⟩,
   ⟨saturated, 0, false, ?_⟩,
   ⟨saturated, 0, true, ?_⟩,
   ⟨lostThr, 0, ?_⟩,
   ⟨State.reset, 0, ?_⟩,
   ⟨up, 0, ?_⟩,
   ⟨State.reset, ?_⟩⟩ <;>
    decide +kernel

theorem wit_ThrusterRows_2 :
    (∃ s : State, ∃ n : Fin 12, bitOf s.sch.retired n.val = true) := by
  refine ⟨retiredTile, 2, ?_⟩ <;>
    decide +kernel

theorem wit_CascadeRows_1 :
    (∃ s : State, cascUp s = true ∧ s.pwr.isolated.getLsbD 8 = false ∧ s.grp.links.length = 2) ∧
    (∃ s : State, cascUp s = false) ∧
    (∃ s : State, s.pwr.isolated.getLsbD 8 = true) ∧
    (∃ s : State, ∃ d : Bool, linkUp s (b2n d) = false) ∧
    (∃ s : State, ∃ d : Bool, ∃ f : List Byte, linkUp s (b2n d) = true ∧
      ((f.length < 20 ∨ f.length ≠ 20 + fieldU f 4 2 ∨ 2048 < fieldU f 4 2 ∨ crcNat (f.take (f.length - 4)) ≠ fieldU f (f.length - 4) 4))) ∧
    (∃ s : State, awake s = true) ∧
    (∃ s : State, awake s = false) ∧
    (∃ s : State, ∃ m : CascMsg, fwRunning s = true ∧ m.src ≠ deviceNo s ∧ m.src < s.grp.peers.length) := by
  refine ⟨⟨State.reset, ?_⟩,
   ⟨asleep, ?_⟩,
   ⟨isolatedAll, ?_⟩,
   ⟨State.reset, true, ?_⟩,
   ⟨linkedS, true, [], ?_⟩,
   ⟨up, ?_⟩,
   ⟨State.reset, ?_⟩,
   ⟨up, msg0, ?_⟩⟩ <;>
    decide +kernel

theorem wit_CascadeRows_2 :
    (∃ s : State, fwRunning s = false) ∧
    (∃ m : CascMsg, m.payload.length ≠ 64) ∧
    (∃ s : State, ∃ m : CascMsg, fwRunning s = true ∧ m.payload.length = 64 ∧ m.src < s.grp.peers.length) ∧
    (∃ s : State, awaitsImage s = true) ∧
    (∃ s : State, awaitsImage s = false) ∧
    (∃ s : State, ∃ m : CascMsg, let i := fieldU m.payload 0 2; let ps := s.grp.bootParts.filter (fun p => !(p.1 == m.src && p.2.1 == i)) ++ [(m.src, i, m.payload.drop 4)]; let img := (List.range (fieldU m.payload 2 2)).map fun k => (ps.find? fun p => p.1 == m.src && p.2.1 == k).map (·.2.2); awaitsImage s = true ∧ img.any (·.isNone) = true) ∧
    (∃ s : State, ∃ m : CascMsg, let i := fieldU m.payload 0 2; let ps := s.grp.bootParts.filter (fun p => !(p.1 == m.src && p.2.1 == i)) ++ [(m.src, i, m.payload.drop 4)]; let img := (List.range (fieldU m.payload 2 2)).map fun k => (ps.find? fun p => p.1 == m.src && p.2.1 == k).map (·.2.2); awaitsImage s = true ∧ img.any (·.isNone) = false) := by
  refine ⟨⟨State.reset, ?_⟩,
   ⟨extCmdMsg, ?_⟩,
   ⟨up, msg0, ?_⟩,
   ⟨cascRom, ?_⟩,
   ⟨State.reset, ?_⟩,
   ⟨cascRom, takeMe, ?_⟩,
   ⟨cascRom, msg0, ?_⟩⟩ <;>
    decide +kernel

theorem wit_HandoverRows_1 :
    (∃ s : State, s.grp.ho = none ∧ s.grp.ackTo = none) ∧
    (∃ s : State, ∃ h : Handover, s.grp.ho = some h ∧ awake s = true ∧ s.time.elapsed < h.startedAt + ms (pNat s 0x0719)) ∧
    (∃ s : State, s.grp.ho = none) ∧
    (∃ s : State, ∃ h : Handover, s.grp.ho = some h ∧ awake s = true ∧ h.targetAcked = true) ∧
    (∃ s : State, ∃ h : Handover, s.grp.ho = some h ∧ awake s = true ∧ h.targetAcked = false) ∧
    ((∃ s : State, ∃ m : CascMsg, pNat s 0x0711 ≠ 0xFE ∧ byteAt m.payload 4 = deviceNo s ∧ fwRunning s = true ∧ s.grp.lastTake = none ∧
      eligible s = true ∧
      epochHigher (fieldU m.payload 2 2) s.grp.epoch = true ∧ s.grp.ackTo = none ∧ s.grp.ho = none)) ∧
    (∃ s : State, ∃ m : CascMsg, pNat s 0x0711 ≠ 0xFE ∧ byteAt m.payload 4 = deviceNo s ∧ fwRunning s = true ∧ s.grp.lastTake = none ∧
      epochHigher (fieldU m.payload 2 2) s.grp.epoch = false) ∧
    (∃ s : State, ∃ m : CascMsg, pNat s 0x0711 ≠ 0xFE ∧ byteAt m.payload 4 ≠ deviceNo s ∧ fwRunning s = true) := by
  refine ⟨⟨State.reset, ?_⟩,
   ⟨handing, ((handing.grp.ho).get (by decide +kernel)), ?_⟩,
   ⟨State.reset, ?_⟩,
   ⟨handingLate, ((handingLate.grp.ho).get (by decide +kernel)), ?_⟩,
   ⟨handing, ((handing.grp.ho).get (by decide +kernel)), ?_⟩,
   by refine ⟨ready, takeMe, ?_, ?_, ?_, ?_, eligible_ready, ?_, ?_, ?_⟩ <;> decide +kernel,
   ⟨up, msg0, ?_⟩,
   ⟨up, takeOther, ?_⟩⟩ <;>
    decide +kernel

theorem wit_HandoverRows_2 :
    (∃ s : State, ∃ m : CascMsg, pNat s 0x0711 ≠ 0xFE ∧ byteAt m.payload 5 = deviceNo s) ∧
    (∃ s : State, ∃ m : CascMsg, ((pNat s 0x0711 = 0xFE ∨ byteAt m.payload 5 ≠ deviceNo s))) ∧
    (∃ s : State, s.grp.ho = none ∧ s.grp.owns = false) ∧
    (∃ s : State, ∃ m : CascMsg, ∃ h : Handover, s.grp.ho = some h ∧ fwRunning s = true ∧ h.id = fieldU m.payload 0 2 ∧
      h.epoch = fieldU m.payload 2 2 ∧ byteAt m.payload 6 = 4 ∧ h.targetAcked = false) ∧
    (∃ s : State, ∃ ip : BitVec 32, ∃ d : List Byte,
      ((awake s = false ∨ pNat s 0x0711 ≠ 0xFE ∨ roleKey s 4 = [] ∨ ip.toNat ≠ pNat s 0x071E ∨ d.drop (d.length - 16) ≠ (hmac (roleKey s 4) (d.take (d.length - 16))).take 16 ∨ fieldU d (d.length - 20) 4 ≤ s.grp.datagramSeen))) ∧
    (∃ s : State, awake s = true ∧ s.time.counting = true) ∧
    (∃ s : State, (awake s = false ∨ s.time.counting = false)) := by
  refine ⟨⟨State.reset, msg0, ?_⟩,
   ⟨State.reset, takeMe, ?_⟩,
   ⟨State.reset, ?_⟩,
   ⟨handing, takeMe, ((handing.grp.ho).get (by decide +kernel)), ?_⟩,
   ⟨State.reset, (BitVec.ofNat 32 0), [], ?_⟩,
   ⟨up, ?_⟩,
   ⟨State.reset, ?_⟩⟩ <;>
    decide +kernel

theorem wit_GroupTrafficRows_1 :
    ((∃ s : State, ∃ m : CascMsg, awake s = true ∧ s.grp.role = 3 ∧ m.payload.length = 208 ∧ (peerOf s m.src).crc = configCrc s ∧
      epochHigher s.grp.epoch (fieldU m.payload 12 2) = false)) ∧
    ((∃ s : State, ∃ m : CascMsg, awake s = true ∧ s.grp.role = 3 ∧ m.payload.length = 208 ∧ (peerOf s m.src).crc ≠ configCrc s)) ∧
    (∃ s : State, ∃ m : CascMsg, ((awake s = false ∨ s.grp.role ≠ 3 ∨ m.payload.length ≠ 208))) ∧
    (∃ s : State, ∃ m : CascMsg, awake s = true ∧ s.grp.role = 0 ∧ pNat s 0x0712 = m.src ∧ m.payload.length = 640) ∧
    (∃ s : State, ∃ m : CascMsg, ((awake s = false ∨ s.grp.role ≠ 0 ∨ pNat s 0x0712 ≠ m.src ∨ m.payload.length ≠ 640))) ∧
    (∃ s : State, awake s = true ∧ s.grp.role = 3 ∧ 3 ≤ s.grp.extMissed ∧ s.grp.extLost = false) ∧
    (∃ s : State, (s.grp.role ≠ 3 ∨ s.grp.extMissed < 3 ∨ s.grp.extLost = true)) ∧
    (∃ s : State, ∃ m : CascMsg, awake s = true ∧ ((fieldU m.payload 0 2 = 0x03F0 ∨ fieldU m.payload 0 2 = 0x08F0)) ∧ isDet s = true) := by
  refine ⟨⟨extensionSame, extCmdMsg, by decide +kernel, by decide +kernel, by decide +kernel, crc_extensionSame, by decide +kernel⟩,
   ⟨extensionOther, extCmdMsg, by decide +kernel, by decide +kernel, by decide +kernel, crc_extensionOther⟩,
   ⟨State.reset, msg0, ?_⟩,
   ⟨masterExt, extFbMsg, ?_⟩,
   ⟨State.reset, msg0, ?_⟩,
   ⟨extensionAlone, ?_⟩,
   ⟨State.reset, ?_⟩,
   ⟨up, stopMsg, ?_⟩⟩ <;>
    decide +kernel

theorem wit_GroupTrafficRows_2 :
    (∃ s : State, ∃ m : CascMsg, awake s = true ∧ ((fieldU m.payload 0 2 = 0x03F0 ∨ fieldU m.payload 0 2 = 0x08F0)) ∧ isDet s = false) ∧
    (∃ m : CascMsg, fieldU m.payload 0 2 ≠ 0x03F0 ∧ fieldU m.payload 0 2 ≠ 0x08F0) ∧
    ((∃ s : State, ∃ m : CascMsg, awake s = true ∧ isFollower s = true ∧ s.time.total ≤ fieldU m.payload 16 8 * 10 ^ 9 + fieldU m.payload 24 4)) ∧
    (∃ s : State, isFollower s = false) ∧
    (∃ s : State, acqUp s = true ∧ pNat s 0x0254 = 1 ∧ isFollower s = true) ∧
    (∃ s : State, awake s = true ∧ bowRaised s = false ∧ ((s.grp.role = 1 ∨ s.grp.role = 2))) ∧
    (∃ s : State, ((s.grp.role ≠ 1 ∧ s.grp.role ≠ 2 ∨ bowRaised s = true))) := by
  refine ⟨⟨boundedS, stopMsg, ?_⟩,
   ⟨msg0, ?_⟩,
   ⟨follower, noticeMsg, by decide +kernel⟩,
   ⟨State.reset, ?_⟩,
   ⟨acqGroup, ?_⟩,
   ⟨follower, ?_⟩,
   ⟨State.reset, ?_⟩⟩ <;>
    decide +kernel

theorem wit_SafetyRows_1 :
    (∃ s : State, s.saf.phase ≠ 2) ∧
    (∃ s : State, s.saf.phase = 2) ∧
    (∃ s : State, ∃ p : Fin 5, s.saf.phase = 2 ∧ s.saf.disc.length = 5 ∧ isPair s p.val = true ∧ (pairDemand s p.val).1 ≠ (pairDemand s p.val).2 ∧
      (discOf s p.val).1 = false) ∧
    (∃ s : State, ∃ p : Fin 5, ((isPair s p.val = false ∨ (pairDemand s p.val).1 = (pairDemand s p.val).2 ∨ (discOf s p.val).1 = true))) ∧
    (∃ s : State, ∃ c : Fin 8, ∃ t0 : Nat, (brakeOf s c.val).ramp = some t0) ∧
    (∃ s : State, ∃ c : Fin 8, (brakeOf s c.val).ramp = none) ∧
    (∃ s : State, ∃ c : Fin 8, ∃ t0 : Nat, (brakeOf s c.val).fallAt = some t0 ∧ (brakeOf s c.val).request = false ∧ (brakeOf s c.val).ramp = none) ∧
    (∃ s : State, ∃ c : Fin 8, (((brakeOf s c.val).fallAt = none ∨ (brakeOf s c.val).request = true ∨ (brakeOf s c.val).ramp.isSome))) := by
  refine ⟨⟨State.reset, ?_⟩,
   ⟨up, ?_⟩,
   ⟨pairOff, 0, ?_⟩,
   ⟨State.reset, 0, ?_⟩,
   ⟨ramping, 0, 3900000000, ?_⟩,
   ⟨State.reset, 0, ?_⟩,
   ⟨fallen, 0, 3990000000, ?_⟩,
   ⟨State.reset, 0, ?_⟩⟩ <;>
    decide +kernel

theorem wit_SafetyRows_2 :
    (∃ s : State, ∃ c : Fin 8, s.saf.phase = 2 ∧ brakeOn s c.val = true ∧ s.saf.brakes.length = 8) ∧
    (∃ s : State, ∃ c : Fin 8, brakeOn s c.val = false) ∧
    (∃ s : State, ∃ c : Fin 8, s.saf.phase = 2 ∧ (brakeOf s c.val).released = true) ∧
    (∃ s : State, ∃ c : Fin 8, (brakeOf s c.val).released = false) ∧
    (∃ s : State, ∃ n : Nat, ∃ t0 : Nat, s.saf.hb = some (n, t0) ∧ s.saf.phase = 2 ∧ (safSet s).isSome ∧ s.saf.hbAbsent = none) ∧
    (∃ s : State, (s.saf.hb = none ∨ safSet s = none ∨ s.saf.hbAbsent.isSome)) ∧
    (∃ s : State, ∃ t0 : Nat, s.saf.hbAbsent = some t0 ∧ setU8 s 10 = 1 ∧ s.saf.phase = 2 ∧ fwRunning s = true) ∧
    (∃ s : State, (s.saf.hbAbsent = none ∨ setU8 s 10 ≠ 1 ∨ fwRunning s = false)) := by
  refine ⟨⟨safS, 0, ?_⟩,
   ⟨State.reset, 0, ?_⟩,
   ⟨released, 0, ?_⟩,
   ⟨State.reset, 0, ?_⟩,
   ⟨beating, 3, 3990000000, ?_⟩,
   ⟨State.reset, ?_⟩,
   ⟨silent, 3050000000, ?_⟩,
   ⟨State.reset, ?_⟩⟩ <;>
    decide +kernel

theorem wit_SafetyRows_3 :
    (∃ s : State, ∃ c : Fin 8, setU16 s 18 ≠ 0 ∧ brakeOn s c.val = true ∧ (brakeOf s c.val).due = false ∧ ((∀ h,
      testAge s c.val = some h → setU16 s 18 < h))) ∧
    (∃ s : State, ∃ c : Fin 8, ((setU16 s 18 = 0 ∨ brakeOn s c.val = false ∨ (brakeOf s c.val).due = true))) ∧
    (∃ s : State, startingUp s = true) ∧
    (∃ s : State, startingUp s = false) := by
  refine ⟨⟨safS, 0, ?_⟩,
   ⟨State.reset, 0, ?_⟩,
   ⟨State.reset, ?_⟩,
   ⟨up, ?_⟩⟩ <;>
    decide +kernel

theorem wit_IslandRows_1 :
    (∃ s : State, s.mtr.on = false) ∧
    (∃ s : State, s.mtr.on = true ∧ s.mtr.measuring = true) ∧
    (∃ s : State, s.mtr.measuring = false) ∧
    (∃ s : State, s.mtr.on = true ∧ s.mtr.measuring = true ∧ s.mtr.samples < 8000) ∧
    (∃ s : State, s.mtr.on = true ∧ ((s.mtr.measuring = false ∨ 8000 ≤ s.mtr.samples))) ∧
    (∃ s : State, ∃ f : Fin 4, s.mtr.on = true ∧ mtrOn s.mtr.params f.val = true ∧ 0 < (at_ feederReset s.mtr.feeders f.val).owed) ∧
    (∃ s : State, ∃ f : Fin 4, ((mtrOn s.mtr.params f.val = false ∨ (at_ feederReset s.mtr.feeders f.val).owed = 0))) ∧
    (∃ s : State, ∃ f : Fin 4, ∃ k : Fin 3, ∃ x : Feeder, s.mtr.on = true ∧ s.mtr.image.isSome ∧ mtrOn s.mtr.params f.val = true ∧
      s.mtr.feeders[f.val]? = some x ∧ x.loss.length = 3 ∧ at_ false x.loss k.val = false ∧
      dlt (f2d (at_ 0 x.urms k.val)) (dmul (dofRat 10 100) (f2d (mtrP s (0x100 + 6 * f.val + k.val)))) = true) := by
  refine ⟨⟨State.reset, ?_⟩,
   ⟨up, ?_⟩,
   ⟨State.reset, ?_⟩,
   ⟨up, ?_⟩,
   ⟨islSecond, ?_⟩,
   ⟨islImage, 0, ?_⟩,
   ⟨State.reset, 0, ?_⟩,
   ⟨islImage, 0, 2, ((islImage.mtr.feeders[0]?).get (by decide +kernel)), ?_⟩⟩ <;>
    decide +kernel

theorem wit_IslandRows_2 :
    (∃ s : State, ∃ f : Fin 4, ∃ k : Fin 3, ∃ x : Feeder, s.mtr.on = true ∧ s.mtr.image.isSome ∧ mtrOn s.mtr.params f.val = true ∧
      s.mtr.feeders[f.val]? = some x ∧ x.loss.length = 3 ∧ at_ false x.loss k.val = true ∧
      dle (dmul (dofRat 12 100) (f2d (mtrP s (0x100 + 6 * f.val + k.val)))) (f2d (at_ 0 x.urms k.val)) = true) ∧
    (∃ s : State, ∃ f : Fin 4, ((s.mtr.image = none ∨ mtrOn s.mtr.params f.val = false))) ∧
    (∃ s : State, s.mtr.on = true) ∧
    (∃ s : State, s.mtr.on = true ∧ 60 ≤ s.mtr.since60) ∧
    (∃ s : State, s.mtr.since60 < 60) ∧
    (∃ s : State, ∃ st : MtrStore, s.mtr.on = true ∧ s.mtr.store = some st) ∧
    (((∃ (s : State) (a : Bool) (st : MtrStore), s.mtr.on = false ∧ a = true ∧ s.mtr.store = some st) ∧
      (∃ (s : State) (a b : Bool) (st : MtrStore), s.mtr.on = false ∧ (a = false ∨ s.mtr.store = none) ∧ b = true ∧ s.mtr.older = some st))) ∧
    (∃ s : State, ∃ a : Bool, ∃ b : Bool, s.mtr.on = false ∧ ((a = false ∨ s.mtr.store = none)) ∧ ((b = false ∨ s.mtr.older = none))) := by
  refine ⟨⟨islLow, 0, 1, ((islLow.mtr.feeders[0]?).get (by decide +kernel)), ?_⟩,
   ⟨State.reset, 0, ?_⟩,
   ⟨up, ?_⟩,
   ⟨islImage, ?_⟩,
   ⟨State.reset, ?_⟩,
   ⟨islStored, ((islStored.mtr.store).get (by decide +kernel)), ?_⟩,
   ⟨⟨islOff, true, _, rfl, rfl, rfl⟩, islOff, false, true, _, rfl, .inl rfl, rfl, rfl⟩,
   ⟨State.reset, true, true, ?_⟩⟩ <;>
    decide +kernel

theorem wit_IslandRows_3 :
    (∃ s : State, s.mtr.on = true ∧ s.mtr.unsealed = false) ∧
    (∃ s : State, s.mtr.on = true ∧ s.mtr.unsealed = true) ∧
    (∃ s : State, s.mtr.unsealed = true) ∧
    (∃ s : State, s.mtr.unsealed = false) := by
  refine ⟨⟨up, ?_⟩,
   ⟨islOpen, ?_⟩,
   ⟨islOpen, ?_⟩,
   ⟨State.reset, ?_⟩⟩ <;>
    decide +kernel

theorem wit_IslandServiceRows_1 :
    (∃ p : List Byte, ∃ k : BitVec 32, ∃ s : State, svcHeard 1 p k s = false) ∧
    (∃ p : List Byte, ∃ k : BitVec 32, ∃ s : State, svcHeard 2 p k s = false) ∧
    (∃ p : List Byte, ∃ k : BitVec 32, ∃ s : State, svcHeard 3 p k s = false) ∧
    (∃ p : List Byte, ∃ k : BitVec 32, ∃ s : State, svcHeard 4 p k s = false) ∧
    (∃ p : List Byte, ∃ k : BitVec 32, ∃ s : State, svcHeard 5 p k s = false) ∧
    (∃ p : List Byte, ∃ k : BitVec 32, ∃ s : State, svcHeard 6 p k s = false) ∧
    (∃ p : List Byte, ∃ k : BitVec 32, ∃ s : State, svcHeard 7 p k s = false) ∧
    (∃ p : List Byte, ∃ k : BitVec 32, ∃ s : State, svcHeard 8 p k s = false) := by
  refine ⟨⟨[], (BitVec.ofNat 32 0), State.reset, ?_⟩,
   ⟨[], (BitVec.ofNat 32 0), State.reset, ?_⟩,
   ⟨[], (BitVec.ofNat 32 0), State.reset, ?_⟩,
   ⟨[], (BitVec.ofNat 32 0), State.reset, ?_⟩,
   ⟨[], (BitVec.ofNat 32 0), State.reset, ?_⟩,
   ⟨[], (BitVec.ofNat 32 0), State.reset, ?_⟩,
   ⟨[], (BitVec.ofNat 32 0), State.reset, ?_⟩,
   ⟨[], (BitVec.ofNat 32 0), State.reset, ?_⟩⟩ <;>
    decide +kernel

theorem wit_IslandServiceRows_2 :
    (∃ p : List Byte, ∃ s : State, svcHeard 1 p (svcCrc 1 p) s = true ∧ p = []) ∧
    (∃ p : List Byte, ∃ s : State, svcHeard 1 p (svcCrc 1 p) s = true ∧ p ≠ []) ∧
    (∃ p : List Byte, ∃ s : State, ∃ b, svcHeard 2 p (svcCrc 2 p) s = true ∧ p = [] ∧ s.mtr.image = some b) ∧
    (∃ p : List Byte, ∃ s : State, svcHeard 2 p (svcCrc 2 p) s = true ∧ p = [] ∧ s.mtr.image = none) ∧
    (∃ p : List Byte, ∃ s : State, svcHeard 2 p (svcCrc 2 p) s = true ∧ p ≠ []) ∧
    (∃ p : List Byte, ∃ s : State, ∃ d, svcHeard 3 p (svcCrc 3 p) s = true ∧ p.length = 2 ∧ mtrDefault (fieldU p 0 2) = some d) ∧
    (∃ p : List Byte, ∃ s : State, svcHeard 3 p (svcCrc 3 p) s = true ∧ p.length = 2 ∧ mtrDefault (fieldU p 0 2) = none) ∧
    (∃ p : List Byte, ∃ s : State, svcHeard 3 p (svcCrc 3 p) s = true ∧ p.length ≠ 2) := by
  refine ⟨⟨[], bow, ?_⟩,
   ⟨[0#8], bow, ?_⟩,
   ⟨[], islImage, ((islImage.mtr.image).get (by decide +kernel)), ?_⟩,
   ⟨[], bow, ?_⟩,
   ⟨[0#8], bow, ?_⟩,
   ⟨param2, bow, 0x0000007c#32, ?_⟩,
   ⟨param9, bow, ?_⟩,
   ⟨[], bow, ?_⟩⟩ <;>
    decide +kernel

theorem wit_IslandServiceRows_3 :
    (∃ p : List Byte, ∃ s : State, let id := fieldU p 0 2; let v := BitVec.ofNat 32 (fieldU p 2 4); svcHeard 4 p (svcCrc 4 p) s = true ∧ p.length ≠ 6) ∧
    (∃ p : List Byte, ∃ s : State, let id := fieldU p 0 2; let v := BitVec.ofNat 32 (fieldU p 2 4); svcHeard 4 p (svcCrc 4 p) s = true ∧ p.length = 6 ∧ s.mtr.unsealed = false) ∧
    (∃ p : List Byte, ∃ s : State, let id := fieldU p 0 2; let v := BitVec.ofNat 32 (fieldU p 2 4); svcHeard 4 p (svcCrc 4 p) s = true ∧ p.length = 6 ∧ s.mtr.unsealed = true ∧ (mtrDefault id).isSome ∧ mtrRange (mtrMerged s) id v = true) ∧
    (∃ p : List Byte, ∃ s : State, let id := fieldU p 0 2; let v := BitVec.ofNat 32 (fieldU p 2 4); svcHeard 4 p (svcCrc 4 p) s = true ∧ p.length = 6 ∧ s.mtr.unsealed = true ∧ ((mtrDefault id = none ∨ mtrRange (mtrMerged s) id v = false))) ∧
    (∃ p : List Byte, ∃ s : State, svcHeard 5 p (svcCrc 5 p) s = true ∧ p ≠ []) ∧
    (∃ p : List Byte, ∃ s : State, svcHeard 5 p (svcCrc 5 p) s = true ∧ p = [] ∧ s.mtr.unsealed = false) ∧
    ((∃ p : List Byte, ∃ s : State, svcHeard 5 p (svcCrc 5 p) s = true ∧ p = [] ∧ s.mtr.unsealed = true ∧ mtrLogFull s = true)) ∧
    (∃ p : List Byte, ∃ s : State, svcHeard 5 p (svcCrc 5 p) s = true ∧ p = [] ∧ s.mtr.unsealed = true ∧ mtrLogFull s = false ∧
      s.mtr.sealCount < 2 ^ 32 - 1 ∧ pulseRateOk (mtrMerged s) = false) := by
  refine ⟨⟨[], bow, ?_⟩,
   ⟨write2, bow, ?_⟩,
   ⟨write2, islOpen, ?_⟩,
   ⟨write9, islOpen, ?_⟩,
   ⟨[0#8], bow, ?_⟩,
   ⟨[], bow, ?_⟩,
   ⟨[], islLogFull, by decide +kernel, rfl, rfl, logFull_islLogFull⟩,
   ⟨[], islOpenFast, ?_⟩⟩ <;>
    decide +kernel

theorem wit_IslandServiceRows_4 :
    (∃ p : List Byte, ∃ s : State, svcHeard 5 p (svcCrc 5 p) s = true ∧ p = [] ∧ s.mtr.unsealed = true ∧ mtrLogFull s = false ∧
      s.mtr.sealCount < 2 ^ 32 - 1 ∧ pulseRateOk (mtrMerged s) = true ∧ ((List.range 24).all (offsetOk (mtrMerged s))) = true) ∧
    (∃ p : List Byte, ∃ s : State, let n := byteAt p 4; let l := (s.mtr.log.filter fun r => decide (fieldU p 0 4 ≤ r.num)).take n; svcHeard 6 p (svcCrc 6 p) s = true ∧ p.length ≠ 5) ∧
    (∃ p : List Byte, ∃ s : State, let n := byteAt p 4; let l := (s.mtr.log.filter fun r => decide (fieldU p 0 4 ≤ r.num)).take n; svcHeard 6 p (svcCrc 6 p) s = true ∧ p.length = 5 ∧ ((n = 0 ∨ 32 < n))) ∧
    (∃ p : List Byte, ∃ s : State, let n := byteAt p 4; let l := (s.mtr.log.filter fun r => decide (fieldU p 0 4 ≤ r.num)).take n; svcHeard 6 p (svcCrc 6 p) s = true ∧ p.length = 5 ∧ 1 ≤ n ∧ n ≤ 32) ∧
    (∃ p : List Byte, ∃ s : State, svcHeard 7 p (svcCrc 7 p) s = true ∧ ((p.length < 4 ∨ 1028 < p.length))) ∧
    (∃ p : List Byte, ∃ s : State, svcHeard 7 p (svcCrc 7 p) s = true ∧ 4 ≤ p.length ∧ p.length ≤ 1028 ∧ s.mtr.unsealed = false) ∧
    (∃ p : List Byte, ∃ s : State, svcHeard 7 p (svcCrc 7 p) s = true ∧ 4 ≤ p.length ∧ p.length ≤ 1028 ∧ s.mtr.unsealed = true) ∧
    (∃ p : List Byte, ∃ s : State, svcHeard 8 p (svcCrc 8 p) s = true ∧ p.length ≠ 68) := by
  refine ⟨⟨[], islOpen, ?_⟩,
   ⟨[], bow, ?_⟩,
   ⟨log0, bow, ?_⟩,
   ⟨log5, bow, ?_⟩,
   ⟨[], bow, ?_⟩,
   ⟨(zeros 22), bow, ?_⟩,
   ⟨(zeros 22), islOpen, ?_⟩,
   ⟨[], bow, ?_⟩⟩ <;>
    decide +kernel

theorem wit_IslandServiceRows_5 :
    (∃ p : List Byte, ∃ s : State, svcHeard 8 p (svcCrc 8 p) s = true ∧ p.length = 68 ∧ s.mtr.unsealed = false) ∧
    (∃ p : List Byte, ∃ s : State, ∃ img : List Byte, svcHeard 8 p (svcCrc 8 p) s = true ∧ p.length = 68 ∧ s.mtr.unsealed = true ∧
      mtrLogFull s = false ∧ s.mtr.sealCount < 2 ^ 32 - 1 ∧ fieldU p 0 4 ≠ 0 ∧ loadedImage (fieldU p 0 4) s.mtr.blocks = some img) := by
  refine ⟨⟨activate, bow, ?_⟩,
   ⟨activate, islOpen, [0x01#8, 0x02#8], ?_⟩⟩ <;>
    decide +kernel

theorem wit_SealRule :
    (∃ s : State, svcHeard 5 [] (svcCrc 5 []) s = true ∧ s.mtr.unsealed = true ∧ mtrLogFull s = false ∧ pulseRateOk (mtrMerged s) = true ∧
      ((List.range 24).all (offsetOk (mtrMerged s))) = true ∧ ((∃ e ∈ s.mtr.staged, e.2 ≠ mtrP s e.1)) ∧ s.mtr.sealCount < 2 ^ 32 - 1) ∧
    (∃ s : State, svcHeard 5 [] (svcCrc 5 []) s = true ∧ s.mtr.unsealed = true ∧ mtrLogFull s = false ∧ pulseRateOk (mtrMerged s) = true ∧
      ((List.range 24).all (offsetOk (mtrMerged s))) = true ∧ ((∃ e ∈ s.mtr.staged, e.2 ≠ mtrP s e.1)) ∧ 2 ^ 32 - 1 ≤ s.mtr.sealCount) ∧
    (∃ s : State, svcHeard 5 [] (svcCrc 5 []) s = true ∧ s.mtr.unsealed = true ∧ mtrLogFull s = false ∧ pulseRateOk (mtrMerged s) = true ∧
      ((List.range 24).all (offsetOk (mtrMerged s))) = true ∧ ((∀ e ∈ s.mtr.staged, e.2 = mtrP s e.1))) ∧
    (∃ p : List Byte, ∃ s : State, ∃ img : List Byte, svcHeard 8 p (svcCrc 8 p) s = true ∧ p.length = 68 ∧ s.mtr.unsealed = true ∧
      mtrLogFull s = false ∧ fieldU p 0 4 ≠ 0 ∧ loadedImage (fieldU p 0 4) s.mtr.blocks = some img ∧ s.mtr.sealCount < 2 ^ 32 - 1) ∧
    (∃ p : List Byte, ∃ s : State, ∃ img : List Byte, svcHeard 8 p (svcCrc 8 p) s = true ∧ p.length = 68 ∧ s.mtr.unsealed = true ∧
      mtrLogFull s = false ∧ fieldU p 0 4 ≠ 0 ∧ loadedImage (fieldU p 0 4) s.mtr.blocks = some img ∧ 2 ^ 32 - 1 ≤ s.mtr.sealCount) ∧
    ((∃ (c : Instr) (s t : State), SealKept s ∧ exec c s = .next t)) := by
  refine ⟨⟨islOpen, ?_⟩,
   ⟨islLast, ?_⟩,
   ⟨islOpenSame, ?_⟩,
   ⟨activate, islOpen, [0x01#8, 0x02#8], ?_⟩,
   ⟨activate, islLast, [0x01#8, 0x02#8], ?_⟩,
   ⟨.ephemerisCopy, State.reset, _, sealKept_reset, rfl⟩⟩ <;>
    decide +kernel

theorem wit_SealInvariant :
    (∃ s t : State, SealKept s ∧ step s = .next t ∧ s.mtr.unsealed = false) :=
  ⟨State.reset, _, sealKept_reset, rfl, rfl⟩

theorem wit_EvtInfoRule :
    Able 0x0A01 1 1 (fun c s => c.params = [] ∧ s.evt.recs = []) [] upS ses ∧
    ((∃ o : EvRec, Able 0x0A01 1 1 (fun c s => c.params = [] ∧ s.evt.recs.head? = some o) [] oneEvent ses)) := by
  refine ⟨?_,
   ⟨evRec 0, able (by decide +kernel) (by decide +kernel)⟩⟩ <;>
    exact able (by decide +kernel) (by decide +kernel)

theorem wit_EventRows :
    (∃ s : State, bowRaised s = false ∧ fwRunning s = true) ∧
    (∃ s : State, (bowRaised s = true ∨ fwRunning s = false)) ∧
    (∃ s : State, bowRaised s = false) ∧
    (∃ s : State, bowRaised s = true) := by
  refine ⟨⟨idle, ?_⟩,
   ⟨State.reset, ?_⟩,
   ⟨State.reset, ?_⟩,
   ⟨bow, ?_⟩⟩ <;>
    decide +kernel

theorem wit_SupplyRows_1 :
    (∃ s : State, ∃ i : Fin 11, ∃ mv : Nat, bowRail i.val = true ∧ s.pwr.state ≠ .off ∧ s.pwr.boot ≠ .inReset .powerOn ∧ mv < (railLevels i.val).1) ∧
    (∃ i : Fin 11, ∃ mv : Nat, ((bowRail i.val = false ∨ (railLevels i.val).1 ≤ mv))) ∧
    (∃ s : State, ∃ t0 : Nat, s.pwr.bowSince = some t0 ∧ s.pwr.bowStopped = false) ∧
    (∃ s : State, (s.pwr.bowSince = none ∨ s.pwr.bowStopped = true)) ∧
    (∃ s : State, ∃ t0 : Nat, s.pwr.bowSince = some t0) ∧
    (∃ s : State, s.pwr.bowSince = none) ∧
    (∃ s : State, ∃ i : Fin 11, i.val ≠ 2 ∧ i.val ≠ 7 ∧ i.val ≠ 8 ∧ s.pwr.state ≠ .off) ∧
    (∃ s : State, ∃ i : Fin 11, i.val ≠ 2 ∧ i.val ≠ 7 ∧ s.pwr.state = .off) := by
  refine ⟨⟨State.reset, 0, 0, ?_⟩,
   ⟨0, 1000, ?_⟩,
   ⟨bow, 3999999000, ?_⟩,
   ⟨State.reset, ?_⟩,
   ⟨bow, 3999999000, ?_⟩,
   ⟨State.reset, ?_⟩,
   ⟨State.reset, 0, ?_⟩,
   ⟨off, 0, ?_⟩⟩ <;>
    decide +kernel

theorem wit_SupplyRows_2 :
    (∃ s : State, s.pwr.state ≠ .off) ∧
    (∃ s : State, s.pwr.state = .off) ∧
    (∃ s : State, ∃ t0 : Nat, s.pwr.resetPending = some (.core, t0)) ∧
    (∃ s : State, ∃ t0 : Nat, s.pwr.resetPending = some (.system, t0)) ∧
    (∃ s : State, s.pwr.resetPending = none) := by
  refine ⟨⟨State.reset, ?_⟩,
   ⟨off, ?_⟩,
   ⟨rstCore, 4000100000, ?_⟩,
   ⟨rstSystem, 4000100000, ?_⟩,
   ⟨State.reset, ?_⟩⟩ <;>
    decide +kernel

theorem wit_WatchdogRule :
    (∃ s : State, awake s = true) ∧
    (∃ s : State, s.pwr.boot = .rom) ∧
    (∃ s : State, fwRunning s = false) ∧
    (∃ s : State, s.pwr.boot = .rom ∧ s.pwr.state = .run ∧ bootable s = true) := by
  refine ⟨⟨bow, ?_⟩,
   ⟨State.reset, ?_⟩,
   ⟨State.reset, ?_⟩,
   ⟨State.reset, ?_⟩⟩ <;>
    decide +kernel

theorem wit_StartRows_1 :
    (∃ s : State, s.pwr.state ≠ .run) ∧
    (∃ s : State, (s.pwr.boot = .rom ∨ s.pwr.boot = .running)) ∧
    (∃ s : State, s.pwr.state = .run ∧ s.pwr.boot = .inReset .powerOn) ∧
    (∃ s : State, s.pwr.state = .run ∧ s.pwr.boot = .inReset .system ∧ s.pwr.loadCount ≠ 4) ∧
    (∃ s : State, s.pwr.state = .run ∧ s.pwr.boot = .inReset .system ∧ s.pwr.loadCount = 4) ∧
    (∃ s : State, s.pwr.state = .run ∧ s.pwr.boot = .loading) ∧
    (∃ s : State, s.pwr.state = .run ∧ s.pwr.boot = .inReset .core ∧ ((clkMode s ≠ 3 ∨ linkUp s 0 = true ∨ linkUp s 1 = true))) ∧
    (∃ s : State, s.pwr.state = .run ∧ s.pwr.boot = .inReset .core ∧ clkMode s = 3 ∧ linkUp s 0 = false ∧ linkUp s 1 = false) := by
  refine ⟨⟨idle, ?_⟩,
   ⟨State.reset, ?_⟩,
   ⟨atPowerOn, ?_⟩,
   ⟨atSystem, ?_⟩,
   ⟨atSystem4, ?_⟩,
   ⟨atLoading, ?_⟩,
   ⟨atCore, ?_⟩,
   ⟨clockless, ?_⟩⟩ <;>
    decide +kernel

theorem wit_StartRows_2 :
    (∃ s : State, (s.pwr.boot ≠ .rom ∨ bootable s = false)) ∧
    (∃ s : State, s.pwr.boot = .rom ∧ s.pwr.state = .run ∧ bootable s = true) := by
  refine ⟨⟨bow, ?_⟩,
   ⟨State.reset, ?_⟩⟩ <;>
    decide +kernel

theorem wit_PowerStateRows_1 :
    (∃ s : State, ∃ x : PState, ∃ t0 : Nat, ∃ b : Bool, s.pwr.entryPending = some (x, t0, b) ∧ ((x = .sleep ∨ x = .deepSleep ∨ x = .off)) ∧
      awake s = true ∧ entryReady s = true ∧ s.time.elapsed ≤ t0 + ms 1000) ∧
    (∃ s : State, (s.pwr.entryPending = none ∨ awake s = false ∨ entryReady s = false)) ∧
    (∃ s : State, ∃ e : PState × Nat × Bool, s.pwr.entryPending = some e) ∧
    (∃ s : State, s.pwr.entryPending = none) ∧
    (∃ s : State, awake s = true ∧ pNat s 0x0B04 ≠ 0 ∧ timeValid s = true ∧ s.pwr.entryPending = none) ∧
    (∃ s : State, (awake s = false ∨ pNat s 0x0B04 = 0 ∨ timeValid s = false ∨ s.pwr.entryPending.isSome)) ∧
    (∃ s : State, ∃ t0 : Nat, s.pwr.schedWakeAt = some t0 ∧ ((s.pwr.state = .sleep ∨ s.pwr.state = .deepSleep)) ∧ s.pwr.wakePend = 0) ∧
    (∃ s : State, (s.pwr.schedWakeAt = none ∨ (s.pwr.state ≠ .sleep ∧ s.pwr.state ≠ .deepSleep))) := by
  refine ⟨⟨pendSleep, .sleep, 0, false, ?_⟩,
   ⟨State.reset, ?_⟩,
   ⟨pendSleep, (Sys2Proof.Machine.PState.sleep, 0, false), ?_⟩,
   ⟨State.reset, ?_⟩,
   ⟨sched, ?_⟩,
   ⟨State.reset, ?_⟩,
   ⟨asleepSched, 5000000000, ?_⟩,
   ⟨State.reset, ?_⟩⟩ <;>
    decide +kernel

theorem wit_PowerStateRows_2 :
    (∃ s : State, ((s.pwr.state = .sleep ∨ s.pwr.state = .deepSleep ∨ s.pwr.state = .off)) ∧ s.pwr.wakePend = 0) ∧
    (∃ s : State, ((s.pwr.state = .sleep ∨ s.pwr.state = .deepSleep)) ∧ s.pwr.wakePend = 0) ∧
    (∃ s : State, s.pwr.wakePend ≠ 0) ∧
    (∃ s : State, s.pwr.entryPending = none ∧ ((s.pwr.state = .run ∨ s.pwr.state = .idle))) ∧
    (∃ s : State, ∃ b : Bool, ∃ d : List Byte, s.pwr.state = .sleep ∧ s.pwr.wakePend = 0 ∧ bitOf (pNat s 0x0B03) (b2n b) = true ∧
      fieldU d 0 2 = 0x564B ∧ 2 ≤ d.length ∧ portDown (.eth b 0 0) s = false) ∧
    (∃ s : State, ∃ b : Bool, ∃ d : List Byte, ((bitOf (pNat s 0x0B03) (b2n b) = false ∨ fieldU d 0 2 ≠ 0x564B ∨ portDown (.eth b 0 0) s = true))) ∧
    (∃ s : State, (s.pwr.wakePend = 0 ∨ s.pwr.state = .run ∨ s.pwr.state = .idle)) ∧
    (∃ s : State, s.pwr.wakePend ≠ 0 ∧ s.pwr.state = .sleep) := by
  refine ⟨⟨asleep, ?_⟩,
   ⟨asleep, ?_⟩,
   ⟨asleepWoken, ?_⟩,
   ⟨State.reset, ?_⟩,
   ⟨asleep, true, wakeData, ?_⟩,
   ⟨State.reset, true, [], ?_⟩,
   ⟨State.reset, ?_⟩,
   ⟨asleepWoken, ?_⟩⟩ <;>
    decide +kernel

theorem wit_PowerStateRows_3 :
    (∃ s : State, s.pwr.wakePend ≠ 0 ∧ s.pwr.state = .deepSleep) ∧
    (∃ s : State, s.pwr.wakePend ≠ 0 ∧ s.pwr.state = .off) := by
  refine ⟨⟨deepWoken, ?_⟩,
   ⟨offWoken, ?_⟩⟩ <;>
    decide +kernel

theorem wit_DomainRows_1 :
    (∃ s : State, awake s = false) ∧
    (∃ s : State, ∃ d : Fin 25, awake s = true ∧ windowNow s = s.pwr.window ∧ s.pwr.domains.length = 25 ∧ domainOf s d.val = .stopped ∧
      mayWake s d.val = true) ∧
    (∃ s : State, ∃ d : Fin 25, windowNow s = s.pwr.window ∧ ((domainOf s d.val ≠ .stopped ∨ mayWake s d.val = false))) ∧
    (∃ s : State, awake s = true) ∧
    (∃ s : State, ∃ d : Fin 25, ∃ t0 : Nat, domainOf s d.val = .waking t0) ∧
    ((∃ s : State, ∃ d : Fin 25, ∀ t0, domainOf s d.val ≠ .waking t0)) ∧
    (∃ s : State, awake s = true ∧ s.time.counting = true ∧ s.pwr.domains.length = 25) ∧
    (∃ s : State, (awake s = false ∨ s.time.counting = false)) := by
  refine ⟨⟨State.reset, ?_⟩,
   ⟨waking, 1, ?_⟩,
   ⟨waking, 0, ?_⟩,
   ⟨bow, ?_⟩,
   ⟨waking, 0, 1000, ?_⟩,
   ⟨State.reset, 0, fun t0 h => by simp [show domainOf State.reset 0 = .stopped from rfl] at h⟩,
   ⟨bow, ?_⟩,
   ⟨State.reset, ?_⟩⟩ <;>
    decide +kernel

theorem wit_DomainRows_2 :
    (∃ s : State, fwRunning s = true ∧ s.pwr.state = .run ∧ ((∀ w ∈ s.pwr.domains.take 17, w = .stopped))) ∧
    (∃ s : State, (s.pwr.state ≠ .run ∨ (∃ w ∈ s.pwr.domains.take 17, w ≠ .stopped))) ∧
    (∃ s : State, ∃ c : Fin 14, ((12 ≤ c.val ∨ awake s = false))) ∧
    (∃ hot : BitVec 16, ∃ cold : BitVec 16, hot.toInt - cold.toInt ≤ 250) ∧
    (∃ s : State, ∃ c : Fin 14, c.val < 12 ∧ awake s = true) ∧
    (∃ s : State, ∃ c : Fin 14, ∃ hot : BitVec 16, ∃ cold : BitVec 16, c.val < 12 ∧ awake s = true ∧ 250 < hot.toInt - cold.toInt) ∧
    (∃ s : State, ∃ n : BitVec 16, 1100 < n.toInt ∧ fwRunning s = true) ∧
    (∃ s : State, ∃ n : BitVec 16, ((n.toInt ≤ 1100 ∨ fwRunning s = false))) := by
  refine ⟨⟨bow, ?_⟩,
   ⟨idle, ?_⟩,
   ⟨State.reset, 0, ?_⟩,
   ⟨(BitVec.ofNat 16 0), (BitVec.ofNat 16 0), ?_⟩,
   ⟨bow, 0, ?_⟩,
   ⟨bow, 0, (BitVec.ofNat 16 1051), (BitVec.ofNat 16 0), ?_⟩,
   ⟨bow, (BitVec.ofNat 16 1101), ?_⟩,
   ⟨State.reset, (BitVec.ofNat 16 0), ?_⟩⟩ <;>
    decide +kernel

theorem wit_DomainRows_3 :
    (∃ s : State, ∃ n : BitVec 16, n.toInt ≤ 1050 ∧ s.pwr.hotEpisode = true) ∧
    (∃ s : State, ∃ n : BitVec 16, ((1050 < n.toInt ∨ s.pwr.hotEpisode = false))) := by
  refine ⟨⟨hot, (BitVec.ofNat 16 0), ?_⟩,
   ⟨State.reset, (BitVec.ofNat 16 0), ?_⟩⟩ <;>
    decide +kernel

/-! An ill-formed command for each check of `Instr.wf`, and its refusal. -/

/-- More parameters than one datagram carries. -/
def tooMany : List Byte := List.replicate 70000 0#8

theorem length_tooMany : tooMany.length = 70000 := List.length_replicate

theorem test_wf_packet (r : Req) (op : BitVec 16) : Instr.wf (.sessionOpen r tooMany) = false ∧ Instr.wf (.unknownOpcode r op tooMany) = false ∧
    Instr.wf (.brakeTest r [1#8] (List.replicate 9 ⟨true, true, true⟩)) = false := by
  simp [Instr.wf, packetFits, length_tooMany]
theorem test_wf_window : Instr.wf (.windowWriteOther 0x10#8 (zeros 5)) = false := by decide +kernel
theorem test_wf_datagrams (b : Bool) (ip : BitVec 32) : Instr.wf (.logBlockRx b tooMany) = false ∧ Instr.wf (.opticalFrameRx b tooMany) = false ∧
    Instr.wf (.wakeFrame b tooMany) = false ∧ Instr.wf (.arbiterDatagramRx b ip tooMany) = false ∧ Instr.wf (.writePacket tooMany b) = false := by
  simp [Instr.wf, datagramFits, length_tooMany]
def lateNs : Stamp := ⟨1, 1000000000⟩
def msg9 : PtpMsg := ⟨0, 0, true, 9, 4, ⟨1, 2⟩, 0, true, 1, 2, none, []⟩
theorem test_wf_time : Instr.wf (.ptpMessageRx 0 { msg9 with typ := 16 }) = false ∧ Instr.wf (.ptpMessageRx 0 { msg9 with time := lateNs }) = false ∧
    Instr.wf (.catchUpStep lateNs) = false := by decide +kernel
theorem test_wf_gnss : Instr.wf (.measurementEpoch [⟨256, none, 0, 0, true⟩] [] []) = false ∧ Instr.wf (.measurementEpoch [] [] [⟨3, 0, 0, 0, 0⟩]) = false ∧
    Instr.wf (.bandClockCheck [0]) = false ∧ Instr.wf (.agcUpdate 0 []) = false ∧ Instr.wf (.trackingLoop [] [] []) = false ∧
    Instr.wf (.trackingLoop (List.replicate 6 []) [⟨3, 0, 5, true, 0, 0, 0, 0⟩] []) = false ∧
    Instr.wf (.trackingLoop (List.replicate 6 []) [] [⟨256, 0, 0, true, true, false⟩]) = false ∧ Instr.wf (.searchComplete 0 true ⟨3, 0, 5, true, 0, 0, 0, 0⟩) = false ∧
    Instr.wf (.notchUpdate 0 [] []) = false ∧ Instr.wf (.navUnitDecoded 0 ⟨zeros 129, true, ⟨7, 0⟩, 1, false, none⟩) = false := by decide +kernel
theorem test_wf_epoch (x : SolMeas) (u : NavUnit) (q : LevelSat) : Instr.wf (.measurementEpoch [] [{ x with ant := 3 }] []) = false ∧
    Instr.wf (.navUnitDecoded 0 { u with first := lateNs }) = false ∧ Instr.wf (.levelAPublish true 0 0 (List.replicate 257 q)) = false := by
  refine ⟨by simp [Instr.wf], by simp [Instr.wf, stampOk, lateNs], ?_⟩
  simp only [Instr.wf, List.length_replicate]; decide
theorem test_wf_buses : Instr.wf (.canFrameRx 0 ⟨true, false, false⟩ true 0 0 (zeros 65)) = false ∧
    Instr.wf (.canFrameRx 0 ⟨false, false, false⟩ false 2048 0 []) = false ∧ Instr.wf (.canFrameRx 0 ⟨true, false, true⟩ true 0 0 []) = false ∧
    Instr.wf (.canFrameRx 0 ⟨false, true, false⟩ true 0 0 []) = false ∧
    Instr.wf (.feedbackRx 0 1 (zeros 65)) = false ∧ Instr.wf (.driveStatusRx 0 1 (zeros 65)) = false ∧ Instr.wf (.serialSentenceRx 0 0 [] true) = false ∧
    Instr.wf (.moduleReadComplete 0 (zeros 24)) = false := by decide +kernel
theorem test_wf_cascade (d : Bool) : Instr.wf (.cascFrameRx d (List.replicate 2069 0#8)) = false ∧ Instr.wf (.take ⟨false, 1, 0, 65536, 7, []⟩) = false ∧
    Instr.wf (.bootData ⟨false, 1, 0, 0, 7, List.replicate 2049 0#8⟩) = false := by
  simp only [Instr.wf, cascOk, List.length_replicate]; decide
theorem test_wf_safety : Instr.wf (.testPulse 0 [true] (List.replicate 10 true)) = false ∧ Instr.wf (.mtrSample []) = false ∧ Instr.wf (.mtrSecond []) = false ∧
    Instr.wf (.bowRecovered [1]) = false ∧ Instr.wf (.eventEntry .rnnLoaded (zeros 7)) = false := by decide +kernel
theorem test_wf_service (k : BitVec 32) : Instr.wf (.fwBlock tooMany k) = false := by simp [Instr.wf, serviceOk, length_tooMany]
theorem test_wf_taken : Instr.wf (.sessionOpen (new_ 1 1 1 p0001_ok) p0001_ok) = true ∧ Instr.wf (.mtrSecond [0, 0, 0, 0]) = true := by decide +kernel

/-! Words and steps. -/

/-- The table gives no row any bits. -/
theorem test_no_word (nbits w : Nat) (s : State) : decodeTableWord nbits w = none ∧ s.withFetchWord nbits w = s := ⟨rfl, rfl⟩
theorem test_step_front : step { State.reset with pending := [.doorbellIrqEn false, .doorbellWake] } =
    exec (.doorbellIrqEn false) { State.reset with pending := [.doorbellWake] } := rfl

/-! Examples that the spec works out. -/

def digits : List Byte := [0x31#8, 0x32#8, 0x33#8, 0x34#8, 0x35#8, 0x36#8, 0x37#8, 0x38#8, 0x39#8]

/-- R41 and R512 give the check words of "123456789". -/
theorem test_check_words : crc32c digits = 0xE3069283#32 ∧ crc16 digits = 0x29B1#16 := by decide +kernel

/-- Chapter 04: −6,250 ppb is TIME_INCR 0x3_FFFE_5C92 and −1,250 ppb 0x3_FFFF_AC1D. -/
theorem test_time_incr : incrOf (.fin true 6250 0) = 0x3FFFE5C92#64 ∧ incrOf (.fin true 1250 0) = 0x3FFFFAC1D#64 := by decide +kernel

/-- The header of the SESSION_OPEN that chapter 03 works out. -/
def openReq : Req :=
  sent 1 ([2#8, 16#8] ++ (List.range 16).map (BitVec.ofNat 8)) { new_ 1 1 1 (zeros 18) with session := 0, tag := 0, seq := 0, epoch := 0 }
def openParams : List Byte := [2#8, 16#8] ++ (List.range 16).map (BitVec.ofNat 8)
def twoOpen : State :=
  hst (fun h => { h with sessions := modAt (modAt h.sessions 0 fun _ => { ses with window := 40 }) 1 fun _ => { ses with window := 40 }, epochCounter := 0x412 }) up

theorem test_open_header : reqHeader openReq 1 =
    [0x56#8, 0x4B#8, 8#8, 1#8, 0#8, 0#8, 0#8, 0#8, 0#8, 0#8, 0#8, 0#8, 0#8, 1#8, 0#8, 0x12#8, 0#8, 0#8, 0#8, 0#8] := by decide +kernel

/-- It takes slot 3 under epoch 0x0413 with the whole window of 16 and the role SERVICE. -/
theorem test_open : (match execSessionOpen openReq openParams twoOpen with
    | .next t => (openSlot t 3).map fun x => (x.epoch, x.window, x.wantRole, x.authed)
    | _ => none) = some (0x413, 16, 2, false) := by decide +kernel

/-- Chapter 02: from H = 70 the number 68 lies at D = 4,294,967,294, in the window behind. -/
theorem test_late_number : seqD { ses with high := 70#32 } 68#32 = 4294967294 ∧ behind 4294967294 = true := by decide +kernel

/-- Chapter 16: with GAIN 500 V and 4,000 A on feeder 2, PULSE_DIV 41 is too fast and 42 passes. -/
def pulseParams (d : Nat) : List (Nat × BitVec 32) :=
  [(2, 0#32), (1, 4#32), (0x10C, 0x43FA0000#32), (0x10D, 0x43FA0000#32), (0x10E, 0x43FA0000#32), (0x10F, 0x457A0000#32), (0x110, 0x457A0000#32),
   (0x111, 0x457A0000#32), (0x12, BitVec.ofNat 32 d)]
theorem test_pulse_div : pulseRateOk (pulseParams 41) = false ∧ pulseRateOk (pulseParams 42) = true := by decide +kernel

/-- Chapter 17: a CLOCK_SLIP of the same input raises REPEAT, keeps the record and shows the last δ. -/
theorem test_repeat : ((record .clockSlip (be 2 9 ++ be 4 24870) (record .clockSlip (be 2 9 ++ be 4 25300) upS)).evt.recs.map fun r => (r.rep, r.params)) =
    [(1, be 2 9 ++ be 4 24870)] := by decide +kernel

end Sys2Proof.Tests
end

section
/-! SUPPORT. Frames of what firmware start and the system steps run: the parts of the state that each operation may change. -/

namespace Sys2Proof.Machine

-- Proofs elaborated side by side, each on a stack of its own, take the joined text past the check's memory limit.
set_option Elab.async false

/-- Frames of successive operations compose into one that covers both. -/
theorem Only.comp {ps qs rs : List Part} {s t u : State} (h : Only ps s t) (k : Only qs t u) (hp : ∀ p ∈ ps, p ∈ rs := by decide)
    (hq : ∀ p ∈ qs, p ∈ rs := by decide) : Only rs s u :=
  (h.mono hp).trans (k.mono hq)

/-- A frame of both branches is one of the choice. -/
theorem Only.ite {c : Prop} [Decidable c] {ps : List Part} {s t u : State} (h : c → Only ps s t) (k : ¬c → Only ps s u) :
    Only ps s (if c then t else u) := by
  split
  · exact h ‹_›
  · exact k ‹_›

/-! One part written. -/

theorem Only.setTime {s : State} (x : TimeState) : Only [.time] s { s with time := x } := by
  apply Only.fields <;> simp

theorem Only.setCfg {s : State} (x : CfgState) : Only [.cfg] s { s with cfg := x } := by
  apply Only.fields <;> simp

theorem Only.setEvt {s : State} (x : RecState) : Only [.evt] s { s with evt := x } := by
  apply Only.fields <;> simp

theorem Only.setPwr {s : State} (x : PwrState) : Only [.pwr] s { s with pwr := x } := by
  apply Only.fields <;> simp

theorem Only.setSig {s : State} (x : SigState) : Only [.sig] s { s with sig := x } := by
  apply Only.fields <;> simp

theorem Only.setGnss {s : State} (x : GnssState) : Only [.gnss] s { s with gnss := x } := by
  apply Only.fields <;> simp

theorem Only.setBus {s : State} (x : BusState) : Only [.bus] s { s with bus := x } := by
  apply Only.fields <;> simp

theorem Only.setObs {s : State} (x : ObsState) : Only [.obs] s { s with obs := x } := by
  apply Only.fields <;> simp

theorem Only.setSlv {s : State} (x : SlvState) : Only [.slv] s { s with slv := x } := by
  apply Only.fields <;> simp

theorem Only.setThr {s : State} (x : ThrState) : Only [.thr] s { s with thr := x } := by
  apply Only.fields <;> simp

theorem Only.setGrp {s : State} (x : GrpState) : Only [.grp] s { s with grp := x } := by
  apply Only.fields <;> simp

theorem Only.setSaf {s : State} (x : SafState) : Only [.saf] s { s with saf := x } := by
  apply Only.fields <;> simp

/-! The recorder, the journal and time. -/

theorem record_only (e : Ev) (ps : List Byte) (s : State) : Only [.evt] s (record e ps s) := by
  apply Only.fields <;> simp

theorem emit_only (o : Out) (s : State) : Only [.out] s (emit o s) := by
  apply Only.fields <;> simp

theorem modEntry_only (e : Nat) (b : Bool) (f : JEntry → JEntry) (s : State) : Only [.host] s (modEntry e b f s) := by
  apply Only.fields <;> simp

theorem elapseTo_only (e : Nat) (s : State) : Only [.time, .evt] s (elapseTo e s) := by
  apply Only.fields <;> simp

theorem le_elapsed_elapseTo (e : Nat) (s : State) : e ≤ (elapseTo e s).time.elapsed := by
  simp only [elapseTo, passTicks]
  omega

theorem writeRate_only (r : Num) (s : State) : Only [.time, .acq] s (writeRate r s) := by
  apply Only.fields <;> simp

theorem holdRate_only (s : State) : Only [.time, .acq] s (holdRate s) :=
  Only.ite (fun _ => (Only.setTime _).comp (writeRate_only _ _)) fun _ => Only.refl

/-! Module slots. -/

theorem modSlotM_only (i : Nat) (f : Slot → Slot) (s : State) : Only [.bus] s (modSlotM i f s) := by
  apply Only.fields <;> simp

theorem serveGone_only (s : State) (i : Nat) : Only [.bus, .evt] s (serveGone s i) :=
  Only.ite (fun _ => (modSlotM_only _ _ _).comp (record_only _ _ _)) fun _ => Only.refl

theorem startRead_only (i : Nat) (s : State) : Only [.bus, .out] s (startRead i s) :=
  Only.ite (fun _ => (modSlotM_only _ _ _).mono (by decide)) fun _ => (modSlotM_only _ _ _).comp (emit_only _ _)

theorem serveSlot_only (s : State) (i : Nat) : Only [.bus, .evt, .out] s (serveSlot s i) :=
  Only.ite (fun _ => (serveGone_only _ _).comp (startRead_only _ _)) fun _ => (serveGone_only _ _).mono (by decide)

theorem serveSlots_only (s : State) : Only [.bus, .evt, .out] s (serveSlots s) :=
  Only.ite (fun _ => Only.refl.foldl _ serveSlot_only _) fun _ => Only.refl

theorem bootReads_only (s : State) : Only [.bus, .evt, .out] s (bootReads s) :=
  (Only.refl.foldl _ serveGone_only _).comp
    (Only.refl.foldl (ps := [.bus, .out]) _ (fun t i => Only.ite (fun _ => startRead_only i t) fun _ => Only.refl) _)

theorem canInit_only (s : State) : Only [.bus] s (canInit s) :=
  Only.setBus _

/-! Engines and the group. -/

theorem ownStructs_only (s : State) : Only [.slv] s (ownStructs s) :=
  (Only.setSlv _).trans (Only.setSlv _)

theorem rnnRestart_only (s : State) : Only [.obs] s (rnnRestart s) :=
  Only.setObs _

theorem fallRequests_only (s : State) : Only [.saf] s (fallRequests s) :=
  Only.ite (fun _ => Only.refl) fun _ => Only.setSaf _

theorem dropOwnership_only (s : State) : Only [.grp, .saf, .out] s (dropOwnership s) :=
  Only.ite (fun _ => ((Only.setGrp _).comp (rs := [.grp, .out]) (emit_only _ _)).comp (fallRequests_only _)) fun _ => Only.refl

theorem announce_only (s : State) : Only [.grp, .out] s (announce s) := by
  apply Only.fields <;> simp [announce]

theorem changeRole_only (r : Nat) (s : State) : Only [.grp, .saf, .out] s (changeRole r s) :=
  Only.ite (fun _ => Only.refl) fun _ => (dropOwnership_only s).comp ((Only.setGrp _).comp (rs := [.grp, .out]) (announce_only _))

theorem exclude_only (e : Ev) (s : State) : Only [.evt, .grp, .saf, .out] s (exclude e s) :=
  Only.ite (fun _ => Only.refl) fun _ => (changeRole_only 1 s).comp ((Only.setGrp _).comp (rs := [.evt, .grp]) (record_only _ _ _))

theorem resolveRole_only (s : State) : Only [.evt, .grp, .saf, .out] s (resolveRole s) :=
  Only.ite (fun _ => exclude_only _ s) fun _ => Only.refl

theorem drainMonitor_only (s : State) : Only [.evt, .saf] s (drainMonitor s) := by
  unfold drainMonitor
  extract_lets put taken counted
  have hput : ∀ t q, Only [.evt] t (put t q) := fun t q => (record_only q.1 q.2.1 t).trans (Only.setEvt _)
  have htaken : Only [.evt] s taken := Only.refl.foldl put hput _
  have hcounted : Only [.evt] taken counted := Only.ite (fun _ => Only.refl) fun _ => record_only _ _ _
  exact (htaken.trans hcounted).comp (Only.setSaf _)

/-! Retention (R521, R522). -/

theorem applyBlock_only (b : Block) (s : State) : Only [.fus, .obs, .slv, .ctl, .thr, .sch] s (applyBlock b s) := by
  cases b <;> (apply Only.fields <;> simp [applyBlock])

theorem applySignal_only (id : Nat) (v : OutVal) (s : State) : Only [.sig, .thr] s (applySignal id v s) :=
  (Only.setThr _).comp (Only.setSig _)

theorem applyEntry_only (e : MirEntry) (bs : List Byte) (s : State) : Only [.sig, .fus, .obs, .slv, .ctl, .thr, .sch] s (applyEntry e bs s) := by
  unfold applyEntry
  split
  · split
    · exact (applyBlock_only _ s).mono (by decide)
    · exact Only.refl
  · exact (applySignal_only _ _ s).mono (by decide)

theorem restoreEntries_only (saved : Nat) (es : List MirEntry) (bs : List Byte) (s : State) :
    Only [.sig, .fus, .obs, .slv, .ctl, .thr, .sch] s (restoreEntries saved es bs s) := by
  induction es generalizing bs s with
  | nil => exact Only.refl
  | cons e es ih =>
    unfold restoreEntries
    exact Only.trans (Only.ite (fun _ => (applyEntry_only e _ s).comp (Only.setThr _)) fun _ =>
      Only.ite (fun _ => Only.refl) fun _ => (Only.setSig _).mono (by decide)) (ih _ _)

theorem restoreRetention_only (s : State) : Only [.sig, .fus, .obs, .slv, .ctl, .thr, .sch] s (restoreRetention s) := by
  unfold restoreRetention
  split
  · exact restoreEntries_only _ _ _ s
  · exact Only.refl

/-- Only the exit from DEEP SLEEP restores a retention image. -/
theorem restoreRetention_of_not_deepExit {s : State} (h : s.pwr.deepExit = false) : restoreRetention s = s := by
  simp [restoreRetention, h]

/-! Faults of MRAM at firmware start (R75, R96, R513, R569). -/

theorem corruptRecord_only (s : State) (e : Nat × List Byte) : Only [.evt] s (corruptRecord s e) :=
  Only.setEvt _

theorem controlLost_only (s : State) : Only [.evt] s (controlLost s) := by
  unfold controlLost
  split
  · exact (Only.setEvt _).trans (record_only _ _ _)
  · exact record_only _ _ s

theorem imageLost_only (s : State) : Only [.cfg] s (imageLost s) :=
  Only.setCfg _

theorem corruptEntry_only (s : State) (e : Nat × List Byte) : Only [.host, .evt] s (corruptEntry s e) :=
  Only.ite (fun _ => Only.refl) fun _ => (modEntry_only _ _ _ s).comp (record_only _ _ _)

theorem corruptTable_only (s : State) (id : Nat) : Only [.cfg, .evt] s (corruptTable s id) :=
  Only.ite (fun _ => Only.refl) fun _ => (Only.setCfg _).comp (record_only _ _ _)

theorem corruptEntry_sessions (s : State) (e : Nat × List Byte) : (corruptEntry s e).host.sessions = s.host.sessions := by
  simp only [corruptEntry]
  split
  · rfl
  · rw [record_host, modEntry]

theorem corruptEntries_sessions (l : List (Nat × List Byte)) (s : State) : (l.foldl corruptEntry s).host.sessions = s.host.sessions := by
  induction l generalizing s with
  | nil => rfl
  | cons e l ih => rw [List.foldl_cons, ih, corruptEntry_sessions]

/-- Before the journal is checked, faults cost event records, the control block and the configuration; after it, tables. -/
theorem startFaults_frames (f : StartFaults) (s : State) : ∃ u : State, Only [.cfg, .evt] s u ∧
    Only [.cfg, .evt] (f.journal.foldl corruptEntry u) (startFaults f s) := by
  unfold startFaults
  extract_lets wide s0 s1 s2
  have h0 : Only [.evt] s s0 := Only.refl.foldl _ corruptRecord_only _
  have h1 : Only [.evt] s0 s1 := Only.ite (fun _ => controlLost_only _) fun _ => Only.refl
  have h2 : Only [.cfg] s1 s2 := Only.ite (fun _ => imageLost_only _) fun _ => Only.refl
  exact ⟨s2, (h0.trans h1).comp h2, Only.refl.foldl _ corruptTable_only _⟩

theorem startFaults_only (f : StartFaults) (s : State) : Only [.cfg, .host, .evt] s (startFaults f s) := by
  obtain ⟨u, before, after⟩ := startFaults_frames f s
  exact (before.comp (rs := [.cfg, .host, .evt]) (Only.refl.foldl _ corruptEntry_only f.journal)).comp after

theorem startFaults_sessions (f : StartFaults) (s : State) : (startFaults f s).host.sessions = s.host.sessions := by
  obtain ⟨u, before, after⟩ := startFaults_frames f s
  have hbefore : u.host = s.host := before.2 .host (by decide)
  have hafter : (startFaults f s).host = (f.journal.foldl corruptEntry u).host := after.2 .host (by decide)
  rw [hafter, corruptEntries_sessions, hbefore]

end Sys2Proof.Machine
end

section
/-! SUPPORT. The stages from reset to firmware, each with its frame and the fields it sets (R8, R536 to R539). -/

namespace Sys2Proof.Machine

set_option Elab.async false -- As in the section above.

/-! The system steps. -/

theorem startFrontEnd_only (s : State) : Only [.out] s (startFrontEnd s) :=
  Only.refl.foldl _ (fun t _ => emit_only _ t) _

theorem gnssStart_only (s : State) : Only [.gnss, .out] s (gnssStart s) :=
  (Only.setGnss _).comp (startFrontEnd_only _)

theorem monitorReset_only (phase : Nat) (s : State) : Only [.saf] s (monitorReset phase s) :=
  Only.setSaf _

theorem resumeCounter_only (s : State) : Only [.time, .evt, .acq] s (resumeCounter s) := by
  unfold resumeCounter
  split
  refine Only.comp (ps := [.time, .acq]) (qs := [.evt]) ?_ (Only.ite (fun _ => Only.refl) fun _ => record_only _ _ _)
  exact (Only.setTime _).comp (Only.ite (fun _ => writeRate_only _ _) fun _ => Only.refl)

theorem startCounter_only (s : State) : Only [.time, .evt, .acq] s (startCounter s) :=
  Only.ite (fun _ => (resumeCounter_only s).comp (qs := [.evt])
    ((Only.ite (fun _ => record_only _ _ _) fun _ => Only.refl).trans ((record_only _ _ _).trans (record_only _ _ _))))
    fun _ => (Only.setTime _).mono (by decide)

/-- The straps sampled and the role taken from them; after DEEP SLEEP the straps stand, and a retention image keeps the role. -/
def strapped (k : BitVec 7) (s : State) : State :=
  let st := if s.pwr.deepExit then s.pwr.straps else k
  { s with pwr := { s.pwr with straps := st, boot := .inReset .core },
           grp := { s.grp with role := if s.pwr.deepExit && s.pwr.retention.isSome then s.grp.role else st.toNat / 32 % 4 } }

theorem strapped_only (k : BitVec 7) (s : State) : Only [.pwr, .grp] s (strapped k s) := by
  apply Only.fields <;> simp [strapped]

theorem systemSteps_eq (k : BitVec 7) (s : State) : systemSteps k s = monitorReset 1 (gnssStart (startCounter (strapped k s))) := rfl

theorem systemSteps_afterStraps (k : BitVec 7) (s : State) : Only [.time, .evt, .gnss, .acq, .saf, .out] (strapped k s) (systemSteps k s) := by
  rw [systemSteps_eq]
  exact ((startCounter_only _).comp (rs := [.time, .evt, .gnss, .acq, .out]) (gnssStart_only _)).comp (monitorReset_only _ _)

theorem systemSteps_only (k : BitVec 7) (s : State) : Only [.time, .evt, .pwr, .gnss, .acq, .grp, .saf, .out] s (systemSteps k s) :=
  (strapped_only k s).comp (systemSteps_afterStraps k s)

theorem systemSteps_pwr (k : BitVec 7) (s : State) : (systemSteps k s).pwr = (strapped k s).pwr :=
  (systemSteps_afterStraps k s).2 .pwr (by decide)

theorem systemSteps_grp (k : BitVec 7) (s : State) : (systemSteps k s).grp = (strapped k s).grp :=
  (systemSteps_afterStraps k s).2 .grp (by decide)

theorem systemSteps_cfg (k : BitVec 7) (s : State) : (systemSteps k s).cfg = s.cfg :=
  (systemSteps_only k s).2 .cfg (by decide)

theorem systemSteps_phase (k : BitVec 7) (s : State) : (systemSteps k s).saf.phase = 1 := by
  rw [systemSteps_eq, monitorReset]

theorem systemSteps_straps {k : BitVec 7} {s : State} (h : s.pwr.deepExit = false) :
    (systemSteps k s).pwr.straps = k ∧ (systemSteps k s).grp.role = k.toNat / 32 % 4 := by
  rw [systemSteps_pwr, systemSteps_grp]
  simp [strapped, h]

/-! The option record (R539). -/

theorem romOptions_only (e : Ev) (s : State) : Only [.cfg, .evt, .pwr] s (romOptions e s) := by
  apply Only.fields <;> simp [romOptions]

theorem storedOptions_only (s : State) : Only [.cfg, .pwr] s (storedOptions s) := by
  apply Only.fields <;> simp [storedOptions]

@[simp] theorem romOptions_cfg (e : Ev) (s : State) : (romOptions e s).cfg = { s.cfg with udpPort := 30940, groupDev := 0xFF } := by
  simp [romOptions]

@[simp] theorem romOptions_pwr (e : Ev) (s : State) : (romOptions e s).pwr = { s.pwr with optionsFallback := true, loadCount := 0 } := by
  simp [romOptions]

/-! The stages of the sequence. -/

theorem powerSteps_only (s : State) : Only [.evt, .pwr] s (powerSteps s) := by
  apply Only.fields <;> simp [powerSteps]

section
variable {k : BitVec 7} {a b : Bool} {s : State}

theorem resetSequence_of_not_run (h : s.pwr.state ≠ .run) : exec (.resetSequence k a b) s = .next s :=
  congrArg Host.Outcome.next (if_neg h)

theorem resetSequence_of_run (h : s.pwr.state = .run) : exec (.resetSequence k a b) s = .next (sequenceStage k a b s) :=
  congrArg Host.Outcome.next (if_pos h)

theorem resetSequence_of_released (h : s.pwr.boot = .rom ∨ s.pwr.boot = .running) : exec (.resetSequence k a b) s = .next s := by
  by_cases hrun : s.pwr.state = .run
  · rw [resetSequence_of_run hrun]
    rcases h with h | h <;> simp [sequenceStage, h]
  · exact resetSequence_of_not_run hrun

theorem resetSequence_powerOn (hrun : s.pwr.state = .run) (hboot : s.pwr.boot = .inReset .powerOn) :
    ∃ t : State, exec (.resetSequence k a b) s = .next t ∧ t.pwr.boot = .inReset .system ∧
      t.evt.cycles = min (s.evt.cycles + 1) 0xFFFFFF ∧ t.evt.ctrlCycles = t.evt.cycles ∧ t.pwr.cause = causeWord 0 s.pwr.sources s.pwr.reach ∧
      s.time.elapsed + ms 1 ≤ t.time.elapsed ∧ Only [.time, .evt, .pwr] s t := by
  refine ⟨powerSteps (elapseTo (s.time.elapsed + ms 1) s), ?_, ?_, ?_, ?_, ?_, le_elapsed_elapseTo _ s,
    (elapseTo_only _ s).comp (powerSteps_only _)⟩
  · simp [resetSequence_of_run hrun, sequenceStage, hboot]
  all_goals simp [powerSteps, elapseTo, passTicks]

theorem resetSequence_load (hrun : s.pwr.state = .run) (hboot : s.pwr.boot = .inReset .system) (hload : s.pwr.loadCount ≠ 4) :
    exec (.resetSequence k a b) s = .next { s with pwr := { s.pwr with loadCount := s.pwr.loadCount + 1, boot := .loading } } := by
  simp [resetSequence_of_run hrun, sequenceStage, hboot, hload]

theorem resetSequence_fourthTry (hrun : s.pwr.state = .run) (hboot : s.pwr.boot = .inReset .system) (hload : s.pwr.loadCount = 4) :
    ∃ t : State, exec (.resetSequence k a b) s = .next t ∧ t.pwr.boot = .inReset .core ∧ t.pwr.optionsFallback = true ∧
      t.cfg.udpPort = 30940 ∧ t.cfg.groupDev = 0xFF ∧ t.saf.phase = 1 ∧ Only [.time, .cfg, .evt, .pwr, .gnss, .acq, .grp, .saf, .out] s t := by
  refine ⟨systemSteps k (romOptions .optionsFallback s), ?_, ?_, ?_, ?_, ?_, systemSteps_phase _ _,
    (romOptions_only _ s).comp (systemSteps_only _ _)⟩
  · simp [resetSequence_of_run hrun, sequenceStage, hboot, hload]
  all_goals simp [systemSteps_pwr, systemSteps_cfg, strapped]

theorem resetSequence_loaded (hrun : s.pwr.state = .run) (hboot : s.pwr.boot = .loading) :
    ∃ t : State, exec (.resetSequence k a b) s = .next t ∧ t.pwr.boot = .inReset .core ∧ t.pwr.loadCount = 0 ∧ t.saf.phase = 1 ∧
      ((a || b) = true → t.pwr.optionsFallback = false ∧ t.cfg.udpPort = s.cfg.optUdpPort ∧ t.cfg.groupDev = s.cfg.optGroupDev) ∧
      ((a || b) = false → t.pwr.optionsFallback = true ∧ t.cfg.udpPort = 30940 ∧ t.cfg.groupDev = 0xFF) ∧
      (s.pwr.deepExit = false → t.pwr.straps = k ∧ t.grp.role = k.toNat / 32 % 4) ∧
      Only [.time, .cfg, .evt, .pwr, .gnss, .acq, .grp, .saf, .out] s t := by
  have hexec : exec (.resetSequence k a b) s = .next (systemSteps k (if a || b then storedOptions s else romOptions .optionsInvalid s)) := by
    simp [resetSequence_of_run hrun, sequenceStage, hboot]
  rw [hexec]
  cases hcopy : a || b with
  | true =>
    refine ⟨_, rfl, ?_, ?_, systemSteps_phase _ _, fun _ => ?_, nofun, fun hdeep => systemSteps_straps (by exact hdeep),
      (storedOptions_only s).comp (systemSteps_only _ _)⟩ <;>
      simp [systemSteps_pwr, systemSteps_cfg, strapped, storedOptions]
  | false =>
    refine ⟨_, rfl, ?_, ?_, systemSteps_phase _ _, nofun, fun _ => ?_, fun hdeep => systemSteps_straps (by simpa using hdeep),
      (romOptions_only _ s).comp (systemSteps_only _ _)⟩ <;>
      simp [systemSteps_pwr, systemSteps_cfg, strapped]

theorem resetSequence_toRom (hrun : s.pwr.state = .run) (hboot : s.pwr.boot = .inReset .core)
    (hclk : clkMode s ≠ 3 ∨ linkUp s 0 = true ∨ linkUp s 1 = true) :
    exec (.resetSequence k a b) s = .next { s with pwr := { s.pwr with boot := .rom } } := by
  have hgo : ¬(clkMode s = 3 ∧ !linkUp s 0 ∧ !linkUp s 1) := by
    rcases hclk with h | h | h <;> simp [h]
  rw [resetSequence_of_run hrun]
  simp only [sequenceStage, hboot, if_neg hgo]

theorem resetSequence_unclocked (hrun : s.pwr.state = .run) (hboot : s.pwr.boot = .inReset .core) (hclk : clkMode s = 3)
    (h0 : linkUp s 0 = false) (h1 : linkUp s 1 = false) : exec (.resetSequence k a b) s = .next s := by
  simp [resetSequence_of_run hrun, sequenceStage, hboot, hclk, h0, h1]

end

/-! Firmware start. -/

theorem startPower_only (s : State) : Only [.pwr, .grp] s (startPower s) := by
  apply Only.fields <;> simp [startPower]

/-- The restored entries reach neither the controller nor the time, which are all that its new record is made of. -/
theorem startPower_restored_pwr (s : State) : (startPower (restoreRetention s)).pwr = (startPower s).pwr := by
  have hpwr : (restoreRetention s).pwr = s.pwr := (restoreRetention_only s).2 .pwr (by decide)
  have htime : (restoreRetention s).time = s.time := (restoreRetention_only s).2 .time (by decide)
  simp only [startPower, hpwr, htime]

theorem startPower_fwBuild_ne_zero (s : State) : (startPower s).pwr.fwBuild ≠ 0 := by
  intro h
  have hlow := Config.fwBuildLow.isLt
  have hnat := congrArg BitVec.toNat h
  simp only [startPower, BitVec.toNat_ofNat, BitVec.ofNat_eq_ofNat] at hnat
  omega

theorem startPower_period_domain (s : State) {i : Nat} (h : i < 17) : (startPower s).pwr.domains[i]? = some .stopped := by
  have hrange : (List.range 25)[i]? = some i := List.getElem?_range (by omega)
  simp [startPower, hrange, h]

/-- The state in which the faults of MRAM are found: the controller started, RESET and MODE_CHANGED recorded (R8, R368). -/
def startRecorded (s : State) : State :=
  record .modeChanged (be 1 s.pwr.oldMode ++ be 1 0 ++ be 1 7) (record .reset (be 4 s.pwr.cause.toNat) (startPower (restoreRetention s)))

theorem startRecorded_only (s : State) : Only [.evt] (startPower (restoreRetention s)) (startRecorded s) :=
  (record_only _ _ _).trans (record_only _ _ _)

/-- What firmware start does once the faults of MRAM are found. -/
theorem startFirmware_afterFaults (f : StartFaults) (s : State) :
    Only [.time, .evt, .acq, .bus, .obs, .slv, .grp, .saf, .out] (startFaults f (startRecorded s)) (startFirmware f s) := by
  unfold startFirmware
  extract_lets wide s1 s2 s3 s4 s5 time5 s6
  have h4 : Only [.evt, .bus, .out] s3 s4 := Only.ite (fun _ => (canInit_only _).comp (bootReads_only _)) fun _ =>
    (serveSlots_only _).mono (by decide)
  have h5 : Only [.slv] s4 s5 := ownStructs_only _
  have h6 : Only [.time, .acq] s5 s6 := (Only.setTime _).comp (holdRate_only _)
  have hlast : Only [.evt, .obs, .grp, .saf, .out] s6 (resolveRole (drainMonitor (rnnRestart s6))) :=
    (rnnRestart_only _).comp ((drainMonitor_only _).comp (rs := [.evt, .grp, .saf, .out]) (resolveRole_only _))
  exact (h4.comp (rs := [.time, .evt, .acq, .bus, .slv, .out]) (h5.comp (rs := [.time, .acq, .slv]) h6)).comp hlast

theorem startFirmware_afterPower (f : StartFaults) (s : State) :
    Only [.time, .cfg, .host, .evt, .acq, .bus, .obs, .slv, .grp, .saf, .out] (startPower (restoreRetention s)) (startFirmware f s) :=
  ((startRecorded_only s).comp (rs := [.cfg, .host, .evt]) (startFaults_only f _)).comp (startFirmware_afterFaults f s)

theorem startFirmware_only (f : StartFaults) (s : State) :
    Only [.time, .cfg, .host, .evt, .pwr, .sig, .acq, .bus, .fus, .obs, .slv, .ctl, .thr, .sch, .grp, .saf, .out] s (startFirmware f s) :=
  ((restoreRetention_only s).comp (rs := [.pwr, .sig, .fus, .obs, .slv, .ctl, .thr, .sch, .grp]) (startPower_only _)).comp
    (startFirmware_afterPower f s)

theorem startFirmware_pwr (f : StartFaults) (s : State) : (startFirmware f s).pwr = (startPower s).pwr :=
  ((startFirmware_afterPower f s).2 .pwr (by decide)).trans (startPower_restored_pwr s)

theorem startFirmware_sessions (f : StartFaults) (s : State) : (startFirmware f s).host.sessions = s.host.sessions := by
  have hfaults : (startFirmware f s).host = (startFaults f (startRecorded s)).host := (startFirmware_afterFaults f s).2 .host (by decide)
  have hrecorded : Only [.evt, .pwr, .sig, .fus, .obs, .slv, .ctl, .thr, .sch, .grp] s (startRecorded s) :=
    ((restoreRetention_only s).comp (rs := [.pwr, .sig, .fus, .obs, .slv, .ctl, .thr, .sch, .grp]) (startPower_only _)).comp (startRecorded_only s)
  have hhost : (startRecorded s).host = s.host := hrecorded.2 .host (by decide)
  rw [hfaults, startFaults_sessions, hhost]

/-- Away from DEEP SLEEP no retention image is restored, and the engines keep what the reset left them. -/
theorem startFirmware_only_of_not_deepExit (f : StartFaults) {s : State} (h : s.pwr.deepExit = false) :
    Only [.time, .cfg, .host, .evt, .pwr, .acq, .bus, .obs, .slv, .grp, .saf, .out] s (startFirmware f s) := by
  have hrest := startFirmware_afterPower f s
  rw [restoreRetention_of_not_deepExit h] at hrest
  exact (startPower_only s).comp hrest

section
variable {f : StartFaults} {s : State}

theorem firmwareStart_of_not_ready (h : ¬(s.pwr.boot = .rom ∧ s.pwr.state = .run ∧ bootable s)) : exec (.firmwareStart f) s = .next s :=
  congrArg Host.Outcome.next (if_neg h)

theorem firmwareStart_of_ready (hboot : s.pwr.boot = .rom) (hrun : s.pwr.state = .run) (himage : bootable s = true) :
    exec (.firmwareStart f) s = .next (startFirmware f s) :=
  congrArg Host.Outcome.next (if_pos ⟨hboot, hrun, himage⟩)

theorem firmwareStart_starts (hboot : s.pwr.boot = .rom) (hrun : s.pwr.state = .run) (himage : bootable s = true) :
    ∃ t : State, exec (.firmwareStart f) s = .next t ∧ t.pwr.boot = .running ∧ t.pwr.fwBuild ≠ 0 ∧
      t.pwr.fwAt = s.time.elapsed ∧ t.pwr.sources = [] ∧ t.pwr.cause = s.pwr.cause ∧ (∀ i, i < 17 → t.pwr.domains[i]? = some .stopped) ∧
      t.pwr.retention = none ∧ t.host.sessions = s.host.sessions ∧
      (s.pwr.deepExit = false → t.fus = s.fus ∧ t.ctl = s.ctl ∧ t.sch = s.sch) ∧
      Only [.time, .cfg, .host, .evt, .pwr, .sig, .acq, .bus, .fus, .obs, .slv, .ctl, .thr, .sch, .grp, .saf, .out] s t := by
  refine ⟨startFirmware f s, firmwareStart_of_ready hboot hrun himage, ?_⟩
  rw [startFirmware_pwr]
  refine ⟨rfl, startPower_fwBuild_ne_zero s, rfl, rfl, rfl, fun i hi => startPower_period_domain s hi, rfl, startFirmware_sessions f s,
    fun hdeep => ?_, startFirmware_only f s⟩
  have hframe := startFirmware_only_of_not_deepExit f hdeep
  exact ⟨hframe.2 .fus (by decide), hframe.2 .ctl (by decide), hframe.2 .sch (by decide)⟩

end

/-- Settles O58: one lemma for each stage of the sequence, and the frame of each. -/
theorem startRows : Obligations.StartRows := by
  intro k a b f s
  refine ⟨fun hstate => ⟨resetSequence_of_not_run hstate, firmwareStart_of_not_ready fun ⟨_, hrun, _⟩ => hstate hrun⟩,
    resetSequence_of_released, resetSequence_powerOn, resetSequence_load, resetSequence_fourthTry, resetSequence_loaded,
    resetSequence_toRom, resetSequence_unclocked, fun hnot => firmwareStart_of_not_ready ?_, firmwareStart_starts⟩
  rintro ⟨hboot, -, himage⟩
  rcases hnot with hrom | hbad
  · exact hrom hboot
  · simp [hbad] at himage

end Sys2Proof.Machine
end

section
/-! SUPPORT. The vessel boundary (R16, R409): the lock that starts a replay comes into force at it. -/

namespace Sys2Proof.Machine

set_option Elab.async false

/-- Firmware runs a period that ends at 20 ms, and a CONFIG_LOCK whose image sets LOG_REPLAY waits for its first snapshot. -/
def replayLocked : State :=
  { State.reset with
    pwr := { pwrReset with boot := .running },
    grid := { gridReset with running := true, endT := 20000000 },
    sch := { schReset with pend := [⟨0, 0x0101, [], .lock [(0x035D, vU32 1)] []⟩] } }

theorem replayLocked_counts : awake replayLocked = true ∧ replayLocked.time.counting = true ∧ replays replayLocked = false := by
  decide +kernel

/-- The period that the boundary opens replays, so that the waiting effects come into force at the boundary itself. -/
theorem vesselPeriodBoundary_replayLocked :
    (after replayLocked (exec .vesselPeriodBoundary replayLocked)).cfg.force ≠ replayLocked.cfg.force := by
  decide +kernel

/-- Refutes O39: where the lock of LOG_REPLAY waits, no replay is in force before the boundary, but one is in the period it opens; the
lock comes into force there (R409), and the configuration is not the one before. -/
theorem not_boundaryRows : ¬ Obligations.BoundaryRows := by
  intro h
  obtain ⟨hawake, hcounting, hreplays⟩ := replayLocked_counts
  obtain ⟨t, hexec, -, -, -, hcfg, -⟩ := (h replayLocked).1 hawake hcounting
  have hforce : t.cfg.force ≠ replayLocked.cfg.force := by
    simpa only [hexec, after_next] using vesselPeriodBoundary_replayLocked
  exact hforce (congrArg CfgState.force (hcfg hreplays))

end Sys2Proof.Machine
end

section
/-! SUPPORT. The control opcodes (R99, R100, R271, R333, R339, R340, R354, R371). -/

namespace Sys2Proof.Machine

set_option Elab.async false

/-! Commands of one step. -/

/-- Between acceptance and its first step a command changes only the host interface. -/
theorem accepted_eq_admitted (code cls n : Nat) (r : Req) (p : List Byte) (s : State) :
    accepted code cls n r p s = { admitted code cls n r p s with host := (accepted code cls n r p s).host } := by
  unfold accepted admitted putTag modSlot
  split <;> rfl

/-- The checks of an opcode look neither at the host interface nor at whether the command has begun. -/
def HostBlind (d : OpDef) : Prop :=
  ∀ (c : Cmd) (s : State) (h : HostState), d.check { c with started := false } { s with host := h } = d.check c s

theorem HostBlind.accepted_check {d : OpDef} (hd : HostBlind d) (r : Req) (p : List Byte) (s : State) :
    d.check (waitingCmd d.code d.cls d.n r p s) (accepted d.code d.cls d.n r p s) =
      d.check (cmdOf d.code d.cls d.n r p s) (admitted d.code d.cls d.n r p s) := by
  rw [accepted_eq_admitted]
  exact hd _ _ _

/-- A row whose packet is one step, where the step finishes with status OK. -/
theorem acts_of_finish {d : OpDef} {row : Req → List Byte → Instr} {ok : Cmd → State → Prop} {eff : Cmd → State → State}
    {reply : Cmd → State → List Byte} {first : Cmd → State → Option Nat} (hd : HostBlind d) (h3 : d.code ≠ 0x0003) (h5 : d.code ≠ 0x0005)
    (hrow : ∀ r p s, exec (row r p) s = .next (packetIn true d r p s)) (hok : ∀ c u, ok c u → d.check c u = 0)
    (hrun : ∀ c u, d.run c u = .finish (eff c u) 0 (reply c u) (first c u)) (hcmds : ∀ c u, (eff c u).host.cmds = u.host.cmds) :
    Acts d.code d.cls d.n row ok eff reply first := by
  intro r p s x hfresh c u hpre
  have hcheck := (hd.accepted_check r p s).trans (hok c u hpre)
  have hcmd : findCmd (eff c u) s.host.nextEntry = findCmd u s.host.nextEntry := by rw [findCmd, hcmds, findCmd]
  rw [hrow, packetIn_finishes d r p s x h3 h5 hfresh hcheck _ _ _ _ (hrun c u) hcmd]

/-- A row whose packet its checks refuse with one status. -/
theorem refuses_of_check {d : OpDef} {row : Req → List Byte → Instr} {bad : Cmd → State → Prop} {st : Nat} (hd : HostBlind d)
    (h3 : d.code ≠ 0x0003) (h0 : st ≠ 0) (hrow : ∀ r p s, exec (row r p) s = .next (packetIn true d r p s))
    (hbad : ∀ c u, bad c u → d.check c u = st) : Refuses d.code d.cls d.n row bad st := by
  intro r p s x hfresh c u hpre
  have hcheck := (hd.accepted_check r p s).trans (hbad c u hpre)
  rw [hrow, packetIn_refuses d r p s x h3 hfresh st h0 hcheck]

/-! The order of checks (R566). -/

theorem firstOf_nil : firstOf [] = 0 := rfl

theorem firstOf_zero_cons (l : List Nat) : firstOf (0 :: l) = firstOf l := rfl

theorem firstOf_cons_of_ne_zero {n : Nat} (h : n ≠ 0) (l : List Nat) : firstOf (n :: l) = n := by
  cases n with
  | zero => exact absurd rfl h
  | succ n => rfl

theorem firstOf_singleton (n : Nat) : firstOf [n] = n := by
  cases n <;> rfl

theorem when_false (st : Nat) : when_ false st = 0 := rfl

theorem sizeIs_of_length {n : Nat} {c : Cmd} (h : c.params.length = n) : sizeIs n c = 0 := if_pos h

/-! The opcodes. -/

section
variable {c : Cmd} {u : State}

theorem modeSetCheck_leaving (hlen : c.params.length = 1) (hmode : byteAt c.params 0 ≤ 6) (hmove : byteAt c.params 0 ≠ 0)
    (hbar : controlBarred u = 0) : modeSetCheck c u = firstOf [when_ (!u.cfg.locked) stConfigUnlocked, when_ (!safConfirmed u) stNotConfirmed,
      when_ (tripActive u) stTripActive, when_ (!mayChange u.ctl.mode (byteAt c.params 0) || u.pwr.entryPending.isSome) stModeRefused,
      when_ (!(u.sch.enter5.contains (byteAt c.params 0))) stNotReady] := by
  have henum : decide (6 < byteAt c.params 0) = false := by simpa using hmode
  simp only [modeSetCheck, sizeIs_of_length hlen, henum, hbar, if_neg hmove, when_false, firstOf_zero_cons, firstOf_singleton]

theorem modeSetCheck_unlocked (hlen : c.params.length = 1) (hmode : byteAt c.params 0 ≤ 6) (hmove : byteAt c.params 0 ≠ 0)
    (hbar : controlBarred u = 0) (hlock : u.cfg.locked = false) : modeSetCheck c u = stConfigUnlocked := by
  rw [modeSetCheck_leaving hlen hmode hmove hbar, hlock]
  exact firstOf_cons_of_ne_zero (by decide) _

theorem modeSetCheck_unconfirmed (hlen : c.params.length = 1) (hmode : byteAt c.params 0 ≤ 6) (hmove : byteAt c.params 0 ≠ 0)
    (hbar : controlBarred u = 0) (hlock : u.cfg.locked = true) (hconf : safConfirmed u = false) : modeSetCheck c u = stNotConfirmed := by
  rw [modeSetCheck_leaving hlen hmode hmove hbar, hlock, hconf, Bool.not_true, when_false, firstOf_zero_cons]
  exact firstOf_cons_of_ne_zero (n := stNotConfirmed) (by decide) _

theorem joystickSet_passes (hlen : c.params.length = 12)
    (hrange : ([0, 4, 8].all fun o => fin32 (rat (-1) 1) (rat 1 1) (fieldF32 c.params o)) = true) (hbar : controlBarred u = 0)
    (hmode : joyMode u.ctl.mode = true) : opJoystickSet.check c u = 0 := by
  simp only [opJoystickSet, stepOp, sizeIs_of_length hlen, hrange, hbar, hmode, Bool.not_true, when_false, firstOf_zero_cons, firstOf_nil]

theorem sourceSelect_passes (hlen : c.params.length = 2) (hsel : byteAt c.params 1 ≤ 1) (hbar : controlBarred u = 0)
    (hknown : sourceKnown u (byteAt c.params 0) = true) : opSourceSelect.check c u = 0 := by
  have henum : decide (1 < byteAt c.params 1) = false := by simpa using hsel
  simp only [opSourceSelect, stepOp, sizeIs_of_length hlen, henum, hbar, hknown, Bool.not_true, when_false, firstOf_zero_cons, firstOf_nil]

theorem thrusterAvail_passes (hlen : c.params.length = 4) (hmask : fieldU c.params 0 4 &&& configuredMask u = fieldU c.params 0 4)
    (hbar : controlBarred u = 0) : opThrusterAvail.check c u = 0 := by
  simp only [opThrusterAvail, stepOp, sizeIs_of_length hlen, hmask, hbar, bne_self_eq_false, when_false, firstOf_zero_cons, firstOf_nil]

theorem readOp_passes (code cls : Nat) (reply : Cmd → State → List Byte) (h : c.params = []) :
    (readOp code cls 0 (fun _ _ => 0) reply).check c u = 0 := by
  have hlen : c.params.length = 0 := by rw [h, List.length_nil]
  simp only [readOp, sizeIs_of_length hlen, firstOf_zero_cons, firstOf_nil]

end

/-! THRUSTER_AVAIL in force (R371, R387). -/

theorem cleared_fault (x : SatChan) : x.cleared.fault = false := by
  unfold SatChan.cleared
  split
  · rfl
  · exact Bool.eq_false_iff.mpr ‹_›

/-- The thrusters named leave FAULT in both channels; the others stand. -/
theorem availIn_getElem (m k : Nat) (s : State) (i : Nat) : (availIn m k s).thr.thr[i]? =
    s.thr.thr[i]?.map fun x => if bitOf k i then { x with prop := x.prop.cleared, steer := x.steer.cleared } else x := by
  simp only [availIn, clearFaults, List.getElem?_mapIdx]

theorem availIn_thruster {m k i : Nat} {s : State} {a b : Thr} (ha : s.thr.thr[i]? = some a) (hb : (availIn m k s).thr.thr[i]? = some b) :
    (bitOf k i = true → b.prop.fault = false ∧ b.steer.fault = false) ∧ (bitOf k i = false → b = a) := by
  rw [availIn_getElem, ha, Option.map_some, Option.some_inj] at hb
  subst hb
  constructor <;> intro hbit
  · rw [if_pos hbit]
    exact ⟨cleared_fault _, cleared_fault _⟩
  · rw [hbit]
    exact if_neg Bool.false_ne_true

/-- Settles O16: every opcode is one step whose checks look at no part of the host interface. -/
theorem controlCommands : Obligations.ControlCommands := by
  refine ⟨?_, ?_, ?_, ?_, ?_, ?_, ?_, fun m k s i a b ha hb => ⟨rfl, availIn_thruster ha hb⟩, ?_, ?_⟩
  · exact acts_of_finish (d := opModeSet) (fun _ _ _ => rfl) (by decide) (by decide) (fun _ _ _ => rfl) (fun _ _ h => h) (fun _ _ => rfl)
      fun _ _ => rfl
  · exact refuses_of_check (d := opModeSet) (fun _ _ _ => rfl) (by decide) (by decide) (fun _ _ _ => rfl)
      fun c u ⟨hlen, hmode, hmove, hbar, hlock⟩ => modeSetCheck_unlocked hlen hmode hmove hbar hlock
  · exact refuses_of_check (d := opModeSet) (fun _ _ _ => rfl) (by decide) (by decide) (fun _ _ _ => rfl)
      fun c u ⟨hlen, hmode, hmove, hbar, hlock, hconf⟩ => modeSetCheck_unconfirmed hlen hmode hmove hbar hlock hconf
  · exact acts_of_finish (d := opSetpointSet) (fun _ _ _ => rfl) (by decide) (by decide) (fun _ _ _ => rfl) (fun _ _ h => h) (fun _ _ => rfl)
      fun _ _ => rfl
  · exact acts_of_finish (d := opJoystickSet) (fun _ _ _ => rfl) (by decide) (by decide) (fun _ _ _ => rfl)
      (fun c u ⟨hlen, hrange, hbar, hmode⟩ => joystickSet_passes hlen hrange hbar hmode) (fun _ _ => rfl) fun _ _ => rfl
  · exact acts_of_finish (d := opSourceSelect) (fun _ _ _ => rfl) (by decide) (by decide) (fun _ _ _ => rfl)
      (fun c u ⟨hlen, hsel, hbar, hknown⟩ => sourceSelect_passes hlen hsel hbar hknown) (fun _ _ => rfl) fun _ _ => rfl
  · exact acts_of_finish (d := opThrusterAvail) (fun _ _ _ => rfl) (by decide) (by decide) (fun _ _ _ => rfl)
      (fun c u ⟨hlen, hmask, hbar⟩ => thrusterAvail_passes hlen hmask hbar) (fun _ _ => rfl) fun _ _ => rfl
  · exact acts_of_finish (d := opControlStatus) (fun _ _ _ => rfl) (by decide) (by decide) (fun _ _ _ => rfl)
      (fun _ _ h => readOp_passes _ _ _ h) (fun _ _ => rfl) fun _ _ => rfl
  · exact acts_of_finish (d := opSetpointGet) (fun _ _ _ => rfl) (by decide) (by decide) (fun _ _ _ => rfl)
      (fun _ _ h => readOp_passes _ _ _ h) (fun _ _ => rfl) fun _ _ => rfl

end Sys2Proof.Machine
end

section
/-! SUPPORT. The switched domains and the wake governor (R34, R35, R523, R524): one rule for each operation on a domain. -/

namespace Sys2Proof.Machine

set_option Elab.async false

/-! Lists changed at one place. -/

@[simp] theorem length_modAt {α : Type} (l : List α) (i : Nat) (f : α → α) : (modAt l i f).length = l.length := by
  induction l generalizing i with
  | nil => rfl
  | cons x l ih => cases i with
    | zero => rfl
    | succ i => exact congrArg Nat.succ (ih i)

theorem at_modAt {α : Type} (d : α) (l : List α) (i j : Nat) (f : α → α) :
    at_ d (modAt l i f) j = if i = j ∧ j < l.length then f (at_ d l j) else at_ d l j := by
  induction l generalizing i j with
  | nil => simp [modAt]
  | cons x l ih =>
    cases i <;> cases j
    case succ.succ i j => simpa [modAt, at_] using ih i j
    all_goals simp [modAt, at_]

theorem Only.setSch {s : State} (x : SchState) : Only [.sch] s { s with sch := x } := by
  apply Only.fields <;> simp

theorem countTo_only (n : Nat) (s : State) : Only [.time, .evt] s (countTo n s) := by
  apply Only.fields <;> simp

/-! One domain. -/

theorem domainOf_setDomain (w : Wake) (d k : Nat) (s : State) :
    domainOf (setDomain w d s) k = if d = k ∧ k < s.pwr.domains.length then w else domainOf s k :=
  at_modAt _ _ _ _ _

theorem domainOf_admitWake (d asked k : Nat) (s : State) :
    domainOf (admitWake d asked s) k = if d = k ∧ k < s.pwr.domains.length then .waking s.time.elapsed else domainOf s k :=
  at_modAt _ _ _ _ _

theorem domainOf_of_length_le {s : State} {d : Nat} (h : s.pwr.domains.length ≤ d) : domainOf s d = .stopped := by
  simp [domainOf, at_, List.getElem?_eq_none h]

theorem lt_length_of_domainOf {s : State} {d : Nat} (h : domainOf s d ≠ .stopped) : d < s.pwr.domains.length :=
  Nat.lt_of_not_le fun hle => h (domainOf_of_length_le hle)

theorem setDomain_only (w : Wake) (d : Nat) (s : State) : Only [.pwr] s (setDomain w d s) :=
  Only.setPwr _

theorem admitWake_only (d asked : Nat) (s : State) : Only [.pwr] s (admitWake d asked s) :=
  Only.setPwr _

theorem charge_le_of_wakeFits {d : Nat} {s : State} (h : wakeFits d s = true) : s.pwr.windowCharge + (domainWake d).2 ≤ pNat s 0x0B01 := by
  simp only [wakeFits, Bool.and_eq_true, decide_eq_true_eq] at h
  exact h.2

/-! The governor's window. -/

theorem admitAll_only (l : List (Nat × Nat)) (s : State) : Only [.pwr] s (admitAll l s) := by
  induction l generalizing s with
  | nil => exact Only.refl
  | cons q l ih => exact Only.ite (fun _ => (admitWake_only _ _ _).trans (ih _)) fun _ => Only.refl

theorem admitAll_window (l : List (Nat × Nat)) (s : State) : (admitAll l s).pwr.window = s.pwr.window := by
  induction l generalizing s with
  | nil => rfl
  | cons q l ih =>
    unfold admitAll
    split
    · exact ih _
    · rfl

/-- No admission takes the charge above the budget. -/
theorem admitAll_charge (l : List (Nat × Nat)) {s : State} (h : s.pwr.windowCharge ≤ pNat s 0x0B01) :
    (admitAll l s).pwr.windowCharge ≤ pNat s 0x0B01 := by
  induction l generalizing s with
  | nil => exact h
  | cons q l ih =>
    unfold admitAll
    split
    · exact ih (charge_le_of_wakeFits ‹_›)
    · exact h

theorem openWindow_of_now {s : State} (h : windowNow s = s.pwr.window) : openWindow s = s :=
  if_pos h

theorem openWindow_only (s : State) : Only [.pwr] s (openWindow s) :=
  Only.ite (fun _ => Only.refl) fun _ => (Only.setPwr _).trans (admitAll_only _ _)

theorem windowNow_openWindow (s : State) : windowNow (openWindow s) = windowNow s := by
  have htime : (openWindow s).time = s.time := (openWindow_only s).2 .time (by decide)
  simp only [windowNow, htime]

theorem openWindow_window (s : State) : (openWindow s).pwr.window = windowNow s := by
  unfold openWindow
  split
  · exact Eq.symm ‹_›
  · exact admitAll_window _ _

theorem openWindow_charge {s : State} (h : windowNow s ≠ s.pwr.window) : (openWindow s).pwr.windowCharge ≤ pNat s 0x0B01 := by
  simp only [openWindow, if_neg h]
  exact admitAll_charge (s := { s with pwr := { s.pwr with window := windowNow s, windowCharge := 0 } }) _ (Nat.zero_le _)

/-! A request. -/

theorem requestWake_of_up {s : State} {d : Nat} (cls : Nat) (h : domainOf s d ≠ .stopped ∨ mayWake s d = false) : requestWake cls s d = s := by
  refine if_pos ?_
  rcases h with h | h <;> simp [h]

theorem requestWake_of_stopped {s : State} {d : Nat} (cls : Nat) (h : domainOf s d = .stopped) (hw : mayWake s d = true) :
    requestWake cls s d = if wakeFits d (openWindow s) then admitWake d (openWindow s).time.elapsed (openWindow s)
      else setDomain (.waiting cls (openWindow s).time.elapsed) d (openWindow s) := by
  simp only [requestWake, h, hw]
  rfl

theorem requestWake_only (cls : Nat) (s : State) (d : Nat) : Only [.pwr] s (requestWake cls s d) :=
  Only.ite (fun _ => Only.refl) fun _ => (openWindow_only s).trans (Only.ite (fun _ => admitWake_only _ _ _) fun _ => Only.setPwr _)

/-- No domain stops from `s` to `t`, and their number stands. -/
def NoneStops (s t : State) : Prop :=
  t.pwr.domains.length = s.pwr.domains.length ∧ ∀ d, domainOf s d ≠ .stopped → domainOf t d ≠ .stopped

theorem NoneStops.refl (s : State) : NoneStops s s := ⟨rfl, fun _ h => h⟩

theorem NoneStops.trans {s t u : State} (h : NoneStops s t) (k : NoneStops t u) : NoneStops s u :=
  ⟨k.1.trans h.1, fun d hd => k.2 d (h.2 d hd)⟩

theorem NoneStops.of_domains {s t : State} (h : t.pwr.domains = s.pwr.domains) : NoneStops s t := by
  simp [NoneStops, domainOf, h]

theorem NoneStops.foldl {α : Type} {f : State → α → State} (hf : ∀ s x, NoneStops s (f s x)) (l : List α) (s : State) :
    NoneStops s (l.foldl f s) := by
  induction l generalizing s with
  | nil => exact NoneStops.refl s
  | cons x l ih => exact (hf s x).trans (ih _)

theorem setDomain_noneStops {w : Wake} (hw : w ≠ .stopped) (d : Nat) (s : State) : NoneStops s (setDomain w d s) := by
  refine ⟨length_modAt _ _ _, fun k hk => ?_⟩
  rw [domainOf_setDomain]
  split
  · exact hw
  · exact hk

theorem admitWake_noneStops (d asked : Nat) (s : State) : NoneStops s (admitWake d asked s) :=
  (setDomain_noneStops (w := .waking s.time.elapsed) nofun d s).trans (NoneStops.of_domains rfl)

theorem admitAll_noneStops (l : List (Nat × Nat)) (s : State) : NoneStops s (admitAll l s) := by
  induction l generalizing s with
  | nil => exact NoneStops.refl s
  | cons q l ih =>
    unfold admitAll
    split
    · exact (admitWake_noneStops _ _ _).trans (ih _)
    · exact NoneStops.refl s

theorem openWindow_noneStops (s : State) : NoneStops s (openWindow s) := by
  unfold openWindow
  split
  · exact NoneStops.refl s
  · exact NoneStops.trans (NoneStops.of_domains rfl) (admitAll_noneStops _ _)

theorem requestWake_noneStops (cls : Nat) (s : State) (d : Nat) : NoneStops s (requestWake cls s d) := by
  by_cases hstopped : domainOf s d = .stopped ∧ mayWake s d = true
  · obtain ⟨hs, hw⟩ := hstopped
    rw [requestWake_of_stopped cls hs hw]
    refine (openWindow_noneStops s).trans ?_
    split
    · exact admitWake_noneStops _ _ _
    · exact setDomain_noneStops (by nofun) _ _
  · have hup : domainOf s d ≠ .stopped ∨ mayWake s d = false := by
      simpa [Classical.or_iff_not_imp_left] using hstopped
    rw [requestWake_of_up cls hup]
    exact NoneStops.refl s

/-- A request leaves its own domain waking or waiting, or as it was where it had not stopped. -/
theorem requestWake_asks {s : State} {d : Nat} (cls : Nat) (hw : mayWake s d = true) (hd : d < s.pwr.domains.length) :
    domainOf (requestWake cls s d) d ≠ .stopped := by
  by_cases hs : domainOf s d = .stopped
  · have hlen : d < (openWindow s).pwr.domains.length := (openWindow_noneStops s).1 ▸ hd
    rw [requestWake_of_stopped cls hs hw]
    split
    · rw [domainOf_admitWake, if_pos ⟨rfl, hlen⟩]
      nofun
    · rw [domainOf_setDomain, if_pos ⟨rfl, hlen⟩]
      nofun
  · exact (requestWake_noneStops cls s d).2 d hs

theorem mayWake_of_sch {s t : State} (h : t.sch = s.sch) (d : Nat) : mayWake t d = mayWake s d := by
  simp only [mayWake, h]

theorem requestWakes_ask (cls : Nat) (l : List Nat) {s : State} {d : Nat} (hmem : d ∈ l) (hw : mayWake s d = true)
    (hd : d < s.pwr.domains.length) : domainOf (l.foldl (requestWake cls) s) d ≠ .stopped := by
  induction l generalizing s with
  | nil => exact absurd hmem List.not_mem_nil
  | cons k l ih =>
    rw [List.foldl_cons]
    by_cases hk : d = k
    · subst hk
      exact (NoneStops.foldl (requestWake_noneStops cls) l _).2 d (requestWake_asks cls hw hd)
    · have hsch : (requestWake cls s k).sch = s.sch := (requestWake_only cls s k).2 .sch (by decide)
      exact ih ((List.mem_cons.mp hmem).resolve_left hk) ((mayWake_of_sch hsch d).trans hw) ((requestWake_noneStops cls s k).1 ▸ hd)

/-! Jobs. -/

theorem settleDomain_only (s : State) (d : Nat) : Only [.time, .evt, .pwr] s (settleDomain s d) := by
  unfold settleDomain
  split
  · exact (elapseTo_only _ s).comp (setDomain_only _ _ _)
  · exact Only.refl

theorem settleDomain_noneStops (s : State) (d : Nat) : NoneStops s (settleDomain s d) := by
  unfold settleDomain
  split
  · exact NoneStops.trans (NoneStops.of_domains (congrArg PwrState.domains (elapseTo_pwr _ s))) (setDomain_noneStops (by nofun) _ _)
  · exact NoneStops.refl s

theorem accessDomains_only (cls : Nat) (ds : List Nat) (s : State) : Only [.time, .evt, .pwr] s (accessDomains cls ds s) :=
  Only.comp (Only.refl.foldl (ps := [.pwr]) _ (requestWake_only cls) ds) (Only.refl.foldl _ settleDomain_only ds)

theorem accessDomains_noneStops (cls : Nat) (ds : List Nat) (s : State) : NoneStops s (accessDomains cls ds s) :=
  (NoneStops.foldl (requestWake_noneStops cls) ds s).trans (NoneStops.foldl settleDomain_noneStops ds _)

theorem stopDomains_only (ds : List Nat) (s : State) : Only [.pwr] s (stopDomains ds s) :=
  Only.refl.foldl _ (fun t _ => Only.ite (fun _ => setDomain_only _ _ t) fun _ => Only.refl) ds

end Sys2Proof.Machine
end

section
/-! SUPPORT. Isolation (R527): what a class 0 stop, a retired tile and an isolated domain may change. -/

namespace Sys2Proof.Machine

set_option Elab.async false

theorem Only.setCtl {s : State} (x : CtlState) : Only [.ctl] s { s with ctl := x } := by
  apply Only.fields <;> simp

/-! Frames and replies sent. -/

theorem endCmd_only (c : Cmd) (j : JState) (k status : Nat) (reply : List Byte) (first : Option Nat) (s : State) :
    Only [.host, .out] s (endCmd c j k status reply first s) := by
  apply Only.fields <;> simp

theorem modCan_only (b : Nat) (f : CanBus → CanBus) (s : State) : Only [.bus] s (modCan b f s) :=
  Only.setBus _

theorem sendCan_only (b id : Nat) (data : List Byte) (s : State) : Only [.bus, .out] s (sendCan b id data s) :=
  Only.ite (fun _ => (modCan_only _ _ s).comp (emit_only _ _)) fun _ => Only.refl

theorem sendCommand_only (s : State) (p : Nat × DriveMap) : Only [.bus, .out] s (sendCommand s p) :=
  (Only.setBus _).comp (sendCan_only _ _ _ _)

theorem sendBeacon_only (s : State) (b : Nat) : Only [.bus, .out] s (sendBeacon s b) :=
  sendCan_only _ _ _ s

theorem sendFrames_only (beacon : Bool) (s : State) : Only [.bus, .out] s (sendFrames beacon s) :=
  Only.ite (fun _ => Only.refl) fun _ =>
    (Only.ite (fun _ => Only.refl.foldl _ sendBeacon_only _) fun _ => Only.refl).foldl _ sendCommand_only _

/-! A class 0 stop (R86, R337, R383, R473). -/

theorem safEvent_only (e : Ev) (ps : List Byte) (s : State) : Only [.evt, .saf] s (safEvent e ps s) :=
  Only.ite (fun _ => (record_only _ _ s).mono (by decide)) fun _ =>
    Only.ite (fun _ => (Only.setSaf _).mono (by decide)) fun _ => (Only.setSaf _).mono (by decide)

theorem finishTest_only (b : BTest) (s : State) : Only [.host, .evt, .saf, .out] s (finishTest b s) := by
  have hclose : Only [.evt, .saf] s (closeTest b s) := (Only.setSaf _).comp (safEvent_only _ _ _)
  unfold finishTest
  extract_lets t
  split
  · exact hclose.comp (endCmd_only _ _ _ _ _ _ _)
  · exact hclose.mono (by decide)

theorem abortTest_only (s : State) : Only [.host, .evt, .saf, .out] s (abortTest s) := by
  unfold abortTest
  split
  · exact Only.refl
  · exact finishTest_only _ s

theorem abandonChain_only (s : State) : Only [.sch] s (abandonChain s) :=
  Only.ite (fun _ => Only.setSch _) fun _ => Only.setSch _

theorem stopControl_only (s : State) : Only [.evt, .ctl, .sch] s (stopControl s) := by
  unfold stopControl
  extract_lets old dead entered c1 keep sch s1
  have h1 : Only [.ctl, .sch] s s1 := by
    apply Only.fields <;> simp [s1]
  exact Only.ite (fun _ => h1.mono (by decide)) fun _ => h1.comp (record_only _ _ _)

theorem endStopped_only (s : State) : Only [.host, .out] s (endStopped s) :=
  Only.refl.foldl _ (fun t _ => endCmd_only _ _ _ _ _ _ t) _

theorem stopOutput_only (s : State) : Only [.thr, .grp] s (stopOutput s) := by
  apply Only.fields <;> simp [stopOutput]

theorem takeStop_only (s : State) : Only [.host, .evt, .bus, .ctl, .thr, .sch, .grp, .saf, .out] s (takeStop s) := by
  unfold takeStop
  extract_lets s1
  have hcontrol : Only [.evt, .ctl, .sch] s (stopControl (abandonChain s)) := (abandonChain_only s).comp (stopControl_only _)
  have hcommands : Only [.host, .evt, .ctl, .sch, .out] s (endStopped (stopControl (abandonChain s))) := hcontrol.comp (endStopped_only _)
  have houtput : Only [.host, .evt, .ctl, .thr, .sch, .grp, .out] s (stopOutput (endStopped (stopControl (abandonChain s)))) :=
    hcommands.comp (stopOutput_only _)
  have h1 : Only [.host, .evt, .ctl, .thr, .sch, .grp, .saf, .out] s s1 := houtput.comp (abortTest_only _)
  exact Only.ite (fun _ => h1.mono (by decide)) fun _ => h1.comp (sendFrames_only _ _)

theorem placementStop_only (s : State) : Only [.host, .evt, .bus, .ctl, .thr, .sch, .grp, .saf, .out] s (placementStop s) :=
  (record_only _ _ s).comp (takeStop_only _)

/-! Retired tiles (R394). -/

theorem moveStructs_only (n : Nat) (s : State) : Only [.evt, .slv] s (moveStructs n s) :=
  Only.foldl _ ((Only.setSlv _).mono (by decide)) (fun _ _ => (Only.setSlv _).comp (record_only _ _ _)) _

theorem retireTile_only (solver : Bool) (n : Nat) (s : State) :
    Only [.host, .evt, .bus, .slv, .ctl, .thr, .sch, .grp, .saf, .out] s (retireTile solver n s) := by
  unfold retireTile
  extract_lets bit sch s1 s2
  refine Only.ite (fun _ => Only.refl) fun _ => ?_
  have h1 : Only [.evt, .sch] s s1 := (Only.setSch _).comp (record_only _ _ _)
  have h2 : Only [.evt, .slv, .sch] s s2 := h1.comp (qs := [.evt, .slv]) (Only.ite (fun _ => moveStructs_only _ _) fun _ => Only.refl)
  exact Only.ite (fun _ => h2.comp (qs := [.host, .evt, .bus, .ctl, .thr, .sch, .grp, .saf, .out])
    ((Only.setSch _).comp (placementStop_only _))) fun _ => h2.mono (by decide)

/-! An isolated domain (R527). -/

theorem bandFault_only (b : Nat) (s : State) : Only [.evt, .gnss] s (bandFault b s) :=
  Only.ite (fun _ => (Only.setGnss _).mono (by decide)) fun _ =>
    ((Only.setGnss _).trans (Only.setGnss _)).comp (record_only _ _ _)

theorem setLink_only (port : Nat) (up : Bool) (s : State) : Only [.evt, .grp] s (setLink port up s) := by
  unfold setLink
  extract_lets grp s1 grp1 s2
  refine Only.ite (fun _ => Only.refl) fun _ => ?_
  have h1 : Only [.grp] s s1 := Only.setGrp _
  have h2 : Only [.grp] s s2 := h1.trans (Only.ite (fun _ => Only.refl) fun _ => Only.setGrp _)
  exact Only.ite (fun _ => h2.comp (record_only _ _ _)) fun _ => h2.mono (by decide)

/-- A domain marked isolated. -/
def markIsolated (cd : Nat) (s : State) : State := { s with pwr := { s.pwr with isolated := s.pwr.isolated ||| BitVec.ofNat 14 (2 ^ cd) } }

theorem isolate_after (cd : Nat) (s : State) :
    Only [.host, .evt, .gnss, .bus, .slv, .ctl, .thr, .sch, .grp, .saf, .out] (markIsolated cd s) (isolate cd s) := by
  refine Only.ite (fun _ => ?_) fun _ => Only.ite (fun _ => ?_) fun _ => Only.ite (fun _ => ?_) fun _ => Only.ite (fun _ => ?_) fun _ => Only.refl
  · exact (retireTile_only _ _ _).comp (retireTile_only _ _ _)
  · exact Only.foldl _ Only.refl (fun t b => (bandFault_only b t).mono (by decide)) _
  · exact (setLink_only _ _ _).comp (setLink_only _ _ _)
  · exact Only.ite (fun _ => Only.refl) fun _ => (Only.setSch _).comp (placementStop_only _)

theorem isolate_pwr (cd : Nat) (s : State) :
    (isolate cd s).pwr = { s.pwr with isolated := s.pwr.isolated ||| BitVec.ofNat 14 (2 ^ cd) } :=
  (isolate_after cd s).2 .pwr (by decide)

theorem isolate_only (cd : Nat) (s : State) : Only [.host, .evt, .pwr, .gnss, .bus, .slv, .ctl, .thr, .sch, .grp, .saf, .out] s (isolate cd s) :=
  (Only.setPwr _).comp (isolate_after cd s)

/-- Of the supply and clocks, isolation changes only which domains are isolated. -/
theorem isolateNamed_spec (cd : Nat) (x : Option (Fin 14)) (s : State) :
    Only [.host, .evt, .pwr, .gnss, .bus, .slv, .ctl, .thr, .sch, .grp, .saf, .out] s (isolateNamed cd x s) ∧
      ∃ w : BitVec 14, (isolateNamed cd x s).pwr = { s.pwr with isolated := w } ∧
        (x = none → w = s.pwr.isolated ||| BitVec.ofNat 14 (2 ^ cd)) := by
  have htile : ∀ (b : Bool) (n : Nat),
      Only [.host, .evt, .pwr, .gnss, .bus, .slv, .ctl, .thr, .sch, .grp, .saf, .out] s (retireTile b n s) ∧
        (retireTile b n s).pwr = { s.pwr with isolated := s.pwr.isolated } := fun b n =>
    ⟨(retireTile_only b n s).mono (by decide), (retireTile_only b n s).2 .pwr (by decide)⟩
  cases x with
  | none => exact ⟨isolate_only cd s, _, isolate_pwr cd s, fun _ => rfl⟩
  | some t =>
    unfold isolateNamed
    simp only
    split
    · exact ⟨(htile _ _).1, _, (htile _ _).2, nofun⟩
    · split
      · exact ⟨(htile _ _).1, _, (htile _ _).2, nofun⟩
      · exact ⟨isolate_only cd s, _, isolate_pwr cd s, nofun⟩

/-! The rows of clocks and temperature (R527, R560). -/

section
variable {c : Fin 14} {x : Option (Fin 14)} {hot cold : BitVec 16} {s : State}

theorem clockSkew_idle (h : 12 ≤ c.val ∨ awake s = false) : exec (.clockSkew c x) s = .next s := by
  refine if_pos ?_
  simpa using h

theorem thermalGradient_idle (h : 12 ≤ c.val ∨ awake s = false ∨ hot.toInt - cold.toInt ≤ 250) :
    exec (.thermalGradient c x hot cold) s = .next s := by
  refine if_pos ?_
  simpa using h

theorem clockSkew_isolates (hc : c.val < 12) (hs : awake s = true) :
    ∃ t : State, exec (.clockSkew c x) s = .next t ∧ t.pwr.skewActive = s.pwr.skewActive ||| BitVec.ofNat 14 (2 ^ c.val) ∧
      (x = none → t.pwr.isolated = s.pwr.isolated ||| BitVec.ofNat 14 (2 ^ c.val)) ∧
      Only [.host, .evt, .pwr, .gnss, .bus, .slv, .ctl, .thr, .sch, .grp, .saf, .out] s t := by
  have hexec : exec (.clockSkew c x) s = .next (isolateNamed c.val x (record .clockSkew (be 1 c.val)
      { s with pwr := { s.pwr with skewActive := s.pwr.skewActive ||| BitVec.ofNat 14 (2 ^ c.val) } })) :=
    if_neg (by simp [hs, hc])
  refine ⟨_, hexec, ?_⟩
  generalize hu : record .clockSkew (be 1 c.val) { s with pwr := { s.pwr with skewActive := s.pwr.skewActive ||| BitVec.ofNat 14 (2 ^ c.val) } } = u
  have hnoted : Only [.evt, .pwr] s u := hu ▸ (Only.setPwr _).comp (record_only _ _ _)
  have hupwr : u.pwr = { s.pwr with skewActive := s.pwr.skewActive ||| BitVec.ofNat 14 (2 ^ c.val) } := by rw [← hu, record_pwr]
  obtain ⟨hframe, w, hpwr, hw⟩ := isolateNamed_spec c.val x u
  rw [hpwr]
  exact ⟨congrArg PwrState.skewActive hupwr, fun hx => (hw hx).trans (by rw [hupwr]), hnoted.comp hframe⟩

theorem thermalGradient_isolates (hc : c.val < 12) (hs : awake s = true) (hdiff : 250 < hot.toInt - cold.toInt) :
    ∃ t : State, exec (.thermalGradient c x hot cold) s = .next t ∧ t.pwr.thermalDomain = some c.val ∧
      t.pwr.tempMax = hot.toInt ∧ t.pwr.tempMin = cold.toInt ∧ (x = none → t.pwr.isolated = s.pwr.isolated ||| BitVec.ofNat 14 (2 ^ c.val)) ∧
      Only [.host, .evt, .pwr, .gnss, .bus, .slv, .ctl, .thr, .sch, .grp, .saf, .out] s t := by
  have hexec : exec (.thermalGradient c x hot cold) s = .next (isolateNamed c.val x (record .thermalGradient (be 1 c.val)
      { s with pwr := { s.pwr with thermalDomain := some c.val, tempMax := hot.toInt, tempMin := cold.toInt } })) :=
    if_neg (by simp [hs, hc, Int.not_le.mpr hdiff])
  refine ⟨_, hexec, ?_⟩
  generalize hu : record .thermalGradient (be 1 c.val)
    { s with pwr := { s.pwr with thermalDomain := some c.val, tempMax := hot.toInt, tempMin := cold.toInt } } = u
  have hnoted : Only [.evt, .pwr] s u := hu ▸ (Only.setPwr _).comp (record_only _ _ _)
  have hupwr : u.pwr = { s.pwr with thermalDomain := some c.val, tempMax := hot.toInt, tempMin := cold.toInt } := by rw [← hu, record_pwr]
  obtain ⟨hframe, w, hpwr, hw⟩ := isolateNamed_spec c.val x u
  rw [hpwr]
  exact ⟨congrArg PwrState.thermalDomain hupwr, congrArg PwrState.tempMax hupwr, congrArg PwrState.tempMin hupwr,
    fun hx => (hw hx).trans (by rw [hupwr]), hnoted.comp hframe⟩

/-- Clearing a bit of a mask clears it. -/
theorem getLsbD_and_not_bit (v : BitVec 14) (c : Fin 14) : (v &&& ~~~ BitVec.ofNat 14 (2 ^ c.val)).getLsbD c.val = false := by
  rw [BitVec.getLsbD_and, BitVec.getLsbD_not, BitVec.getLsbD_ofNat, Nat.testBit_two_pow_self]
  simp

theorem domainReturn_clears (c : Fin 14) (s : State) :
    ∃ t : State, exec (.domainReturn c) s = .next t ∧ t.pwr.isolated.getLsbD c.val = false ∧ t.pwr.skewActive.getLsbD c.val = false ∧
      t.pwr.thermalDomain ≠ some c.val ∧ Only [.pwr, .sch] s t := by
  refine ⟨_, rfl, ?_⟩
  have hthermal : s.pwr.thermalDomain.filter (· != c.val) ≠ some c.val := by simp [Option.filter_eq_some_iff]
  split
  · exact ⟨getLsbD_and_not_bit _ c, getLsbD_and_not_bit _ c, hthermal, (Only.setPwr _).comp (Only.setSch _)⟩
  · exact ⟨getLsbD_and_not_bit _ c, getLsbD_and_not_bit _ c, hthermal, (Only.setPwr _).mono (by decide)⟩

theorem junctionHot_tells {n : BitVec 16} (hn : 1100 < n.toInt) (hs : fwRunning s = true) :
    ∃ t : State, exec (.junctionHot n) s = .next t ∧ t.pwr = { s.pwr with tempMax := n.toInt, hotEpisode := true } ∧
      Only [.evt, .pwr] s t ∧ (s.pwr.hotEpisode = true → t.evt = s.evt) := by
  have hgo : ¬(n.toInt ≤ 1100 ∨ !fwRunning s) := by simp [hs, hn]
  refine ⟨_, congrArg Host.Outcome.next (if_neg hgo), ?_⟩
  split
  case isTrue hep => exact ⟨by rw [← hep], (Only.setPwr _).mono (by decide), fun _ => rfl⟩
  case isFalse hep => exact ⟨record_pwr _ _ _, (Only.setPwr _).comp (record_only _ _ _), fun h => absurd h hep⟩

theorem junctionHot_idle {n : BitVec 16} (h : n.toInt ≤ 1100 ∨ fwRunning s = false) : exec (.junctionHot n) s = .next s := by
  refine congrArg Host.Outcome.next (if_pos ?_)
  simpa using h

theorem junctionHotEnd_ends {n : BitVec 16} (hn : n.toInt ≤ 1050) (hs : s.pwr.hotEpisode = true) :
    exec (.junctionHotEnd n) s = .next { s with pwr := { s.pwr with tempMax := n.toInt, hotEpisode := false } } := by
  refine congrArg Host.Outcome.next (if_neg ?_)
  simpa [hs] using hn

theorem junctionHotEnd_idle {n : BitVec 16} (h : 1050 < n.toInt ∨ s.pwr.hotEpisode = false) : exec (.junctionHotEnd n) s = .next s := by
  refine congrArg Host.Outcome.next (if_pos ?_)
  simpa using h

end

/-! The rows of the wake governor (R34, R35, R516, R523, R524). -/

section
variable {d : Fin 25} {s : State}

theorem domainWakeRequest_of_awake (c : Fin 4) (h : awake s = true) : exec (.domainWakeRequest d c) s = .next (requestWake c.val s d.val) :=
  congrArg Host.Outcome.next (if_pos h)

theorem domainWakeRequest_of_not_awake (c : Fin 4) (h : awake s = false) : exec (.domainWakeRequest d c) s = .next s :=
  congrArg Host.Outcome.next (if_neg (Bool.eq_false_iff.mp h))

theorem domainWakeRequest_asks (c : Fin 4) (hs : awake s = true) (hnow : windowNow s = s.pwr.window) (hlen : s.pwr.domains.length = 25)
    (hstop : domainOf s d.val = .stopped) (hmay : mayWake s d.val = true) :
    ∃ t : State, exec (.domainWakeRequest d c) s = .next t ∧ Only [.pwr] s t ∧ (∀ k, k ≠ d.val → domainOf t k = domainOf s k) ∧
      (wakeFits d.val s = true → domainOf t d.val = .waking s.time.elapsed ∧
        t.pwr.windowCharge = s.pwr.windowCharge + (domainWake d.val).2 ∧ t.pwr.windowCharge ≤ pNat s 0x0B01) ∧
      (wakeFits d.val s = false → domainOf t d.val = .waiting c.val s.time.elapsed ∧ t.pwr.windowCharge = s.pwr.windowCharge) := by
  refine ⟨_, domainWakeRequest_of_awake c hs, requestWake_only _ _ _, ?_⟩
  have hd : d.val < s.pwr.domains.length := hlen.symm ▸ d.isLt
  rw [requestWake_of_stopped c.val hstop hmay, openWindow_of_now hnow]
  split
  case isTrue hfits =>
    refine ⟨fun k hk => ?_, fun _ => ⟨?_, rfl, charge_le_of_wakeFits hfits⟩, fun h => absurd hfits (by simp [h])⟩
    · rw [domainOf_admitWake, if_neg fun h => hk h.1.symm]
    · rw [domainOf_admitWake, if_pos ⟨rfl, hd⟩]
  case isFalse hfits =>
    refine ⟨fun k hk => ?_, fun h => absurd h hfits, fun _ => ⟨?_, rfl⟩⟩
    · rw [domainOf_setDomain, if_neg fun h => hk h.1.symm]
    · rw [domainOf_setDomain, if_pos ⟨rfl, hd⟩]

theorem domainWakeRequest_idle (c : Fin 4) (h : domainOf s d.val ≠ .stopped ∨ mayWake s d.val = false) :
    exec (.domainWakeRequest d c) s = .next s := by
  cases hs : awake s with
  | true => rw [domainWakeRequest_of_awake c hs, requestWake_of_up c.val h]
  | false => exact domainWakeRequest_of_not_awake c hs

theorem wakeGovernorWindow_opens (hs : awake s = true) : ∃ t : State, exec .wakeGovernorWindow s = .next t ∧ t.pwr.window = windowNow t ∧
    (t.pwr.window ≠ s.pwr.window → t.pwr.windowCharge ≤ pNat s 0x0B01) ∧ Only [.time, .evt, .pwr] s t := by
  have hexec : exec .wakeGovernorWindow s = .next (openWindow (if s.time.counting then countTo ((windowNow s + 1) * 100000) s else s)) :=
    if_neg (by simp [hs])
  refine ⟨_, hexec, ?_⟩
  generalize hu : (if s.time.counting then countTo ((windowNow s + 1) * 100000) s else s) = u
  have hwait : Only [.time, .evt] s u := hu ▸ Only.ite (fun _ => countTo_only _ s) fun _ => Only.refl
  have hpwr : u.pwr = s.pwr := hwait.2 .pwr (by decide)
  have hcfg : u.cfg = s.cfg := hwait.2 .cfg (by decide)
  refine ⟨by rw [openWindow_window, windowNow_openWindow], fun hnew => ?_, hwait.comp (openWindow_only u)⟩
  rw [openWindow_window, ← hpwr] at hnew
  have hbudget : pNat u 0x0B01 = pNat s 0x0B01 := by simp only [pNat, pVal, hcfg]
  rw [← hbudget]
  exact openWindow_charge hnew

theorem domainReady_wakes {t0 : Nat} (h : domainOf s d.val = .waking t0) : ∃ t : State, exec (.domainReady d) s = .next t ∧
    domainOf t d.val = .awake ∧ t0 + us (domainWake d.val).1 ≤ t.time.elapsed ∧ (∀ k, k ≠ d.val → domainOf t k = domainOf s k) ∧
    Only [.time, .evt, .pwr] s t := by
  have hexec : exec (.domainReady d) s = .next (setDomain .awake d.val (elapseTo (t0 + us (domainWake d.val).1) s)) := by
    show execDomainReady d s = _
    rw [execDomainReady, h]
    rfl
  have hpwr : (elapseTo (t0 + us (domainWake d.val).1) s).pwr = s.pwr := elapseTo_pwr _ s
  have hd : d.val < s.pwr.domains.length := lt_length_of_domainOf (by rw [h]; nofun)
  refine ⟨_, hexec, ?_, le_elapsed_elapseTo _ s, fun k hk => ?_, (elapseTo_only _ s).comp (setDomain_only _ _ _)⟩
  · rw [domainOf_setDomain, hpwr, if_pos ⟨rfl, hd⟩]
  · rw [domainOf_setDomain, if_neg fun h => hk h.1.symm, domainOf, hpwr, domainOf]

theorem domainReady_idle (h : ∀ t0, domainOf s d.val ≠ .waking t0) : exec (.domainReady d) s = .next s := by
  show execDomainReady d s = _
  unfold execDomainReady
  split
  · exact absurd ‹_› (h _)
  · rfl

theorem mem_wakeOrder {k : Nat} (h : k < 17) : k ∈ wakeOrder.take 17 := by
  have hall : ∀ i : Fin 17, i.val ∈ wakeOrder.take 17 := by decide
  exact hall ⟨k, h⟩

theorem periodWakeRequest_asks (hs : awake s = true) (hcount : s.time.counting = true) (hlen : s.pwr.domains.length = 25) :
    ∃ t : State, exec .periodWakeRequest s = .next t ∧ (∀ k, k < 17 → mayWake s k = true → domainOf t k ≠ .stopped) ∧
      Only [.time, .evt, .pwr] s t := by
  have hexec : exec .periodWakeRequest s = .next ((wakeOrder.take 17).foldl (requestWake 2)
      (countTo (seqTick ((nextBoundary s).1.toNat - us (pNat s 0x0106))) s)) := if_neg (by simp [hs, hcount])
  refine ⟨_, hexec, fun k hk hmay => ?_, Only.comp (countTo_only _ s) (Only.refl.foldl (ps := [.pwr]) _ (requestWake_only 2) _)⟩
  refine requestWakes_ask 2 _ (mem_wakeOrder hk) ?_ ?_
  · exact (mayWake_of_sch (countTo_sch _ s) k).trans hmay
  · rw [countTo_pwr, hlen]
    omega

theorem periodWakeRequest_idle (h : awake s = false ∨ s.time.counting = false) : exec .periodWakeRequest s = .next s := by
  refine if_pos ?_
  simpa using h

theorem idleEntry_enters (hs : fwRunning s = true) (hrun : s.pwr.state = .run) (hall : ∀ w ∈ s.pwr.domains.take 17, w = .stopped) :
    exec .idleEntry s = .next { s with pwr := { s.pwr with state := .idle } } := by
  refine congrArg Host.Outcome.next (if_pos ?_)
  simpa [hs, hrun] using hall

theorem idleEntry_idle (h : s.pwr.state ≠ .run ∨ ∃ w ∈ s.pwr.domains.take 17, w ≠ .stopped) : exec .idleEntry s = .next s := by
  refine congrArg Host.Outcome.next (if_neg ?_)
  simp only [Bool.and_eq_true, beq_iff_eq, List.all_eq_true, not_and]
  rintro ⟨-, hrun⟩ hall
  rcases h with hstate | ⟨w, hw, hne⟩
  · exact hstate hrun
  · exact hne (hall w hw)

end

/-- Settles O60: each row by the rule of its operation on the domains. -/
theorem domainRows : Obligations.DomainRows := by
  intro s
  refine ⟨fun d c hs => domainWakeRequest_of_not_awake c hs, fun d c => domainWakeRequest_asks c, fun d c _ h => domainWakeRequest_idle c h,
    wakeGovernorWindow_opens, fun hs => if_pos (by simp [hs]), fun d t0 => domainReady_wakes, fun d => domainReady_idle,
    periodWakeRequest_asks, periodWakeRequest_idle, idleEntry_enters, idleEntry_idle,
    fun c x hot cold h => ⟨clockSkew_idle h, thermalGradient_idle (h.imp_right Or.inl)⟩,
    fun c x hot cold h => thermalGradient_idle (Or.inr (Or.inr h)),
    fun c x hc hs => ⟨clockSkew_isolates hc hs, fun hot cold => thermalGradient_isolates hc hs⟩, fun c => domainReturn_clears c s,
    fun n => junctionHot_tells, fun n => junctionHot_idle, fun n => junctionHotEnd_ends, fun n => junctionHotEnd_idle⟩

end Sys2Proof.Machine
end

section
/-! SUPPORT. Frames of stages 3 and 4: the votes, the references and the observers (R248 to R303). -/

namespace Sys2Proof.Machine

set_option Elab.async false

theorem Only.setFus {s : State} (x : FusState) : Only [.fus] s { s with fus := x } := by
  apply Only.fields <;> simp

theorem outPut_only (id : Nat) (v : Value) (q : Nat) (s : State) : Only [.sig] s (outPut id v q s) :=
  Only.setSig _

/-! Votes (R264 to R271). -/

theorem modGroup_only (g : Nat) (f : VGroup → VGroup) (s : State) : Only [.fus] s (modGroup g f s) :=
  Only.setFus _

theorem setState_only (src st : Nat) (s : State) : Only [.fus] s (setState src st s) :=
  Only.setFus _

theorem setStates_only {α : Type} (src st : α → Nat) (l : List α) (s : State) :
    Only [.fus] s (l.foldl (fun s i => setState (src i) (st i) s) s) :=
  Only.refl.foldl _ (fun t _ => setState_only _ _ t) l

theorem fireHold_only (g : Nat) (s : State) : Only [.evt, .fus] s (fireHold g s) := by
  unfold fireHold
  extract_lets v s1 fus
  have h1 : Only [.evt, .fus] s s1 := (modGroup_only _ _ s).comp (record_only _ _ _)
  split
  · exact Only.ite (fun _ => Only.ite (fun _ => h1.comp (Only.setFus _)) fun _ => h1) fun _ => Only.refl
  · exact Only.refl

theorem holdOn_only (g : Nat) (lost : Bool) (s : State) : Only [.evt, .fus] s (holdOn g lost s) := by
  unfold holdOn
  extract_lets v s1
  have h1 : Only [.evt] s s1 := Only.ite (fun _ => record_only _ _ _) fun _ => Only.refl
  exact (h1.comp (rs := [.evt, .fus]) (modGroup_only _ _ _)).trans (fireHold_only _ _)

theorem fusedOn_only (g : Nat) (single : Bool) (used : List Rep) (s : State) : Only [.fus] s (fusedOn g single used s) :=
  modGroup_only _ _ s

theorem standOn_only (g : Nat) (single : Bool) (cs : List Src1) (used : List Rep) (out : List (Nat × F64)) (s : State) :
    Only [.evt, .fus] s (standOn g single cs used out s) := by
  unfold standOn
  extract_lets s1 ins
  have h1 : Only [.evt, .fus] s s1 := Only.refl.foldl _ (fun t x => (setState_only _ _ t).comp (record_only _ _ _)) out
  exact h1.comp (qs := [.fus]) ((setStates_only _ _ ins s1).trans (fusedOn_only _ _ _ _))

theorem resolveDispute_only (g cause : Nat) (s : State) : Only [.evt, .fus] s (resolveDispute g cause s) :=
  (modGroup_only _ _ s).comp (record_only _ _ _)

theorem declareDispute_only (g : Nat) (reps : List Rep) (s : State) : Only [.evt, .fus] s (declareDispute g reps s) := by
  unfold declareDispute
  extract_lets ms mask s1
  have h1 : Only [.evt, .fus] s s1 := (modGroup_only _ _ s).comp (record_only _ _ _)
  exact (h1.comp (setStates_only _ _ ms s1)).trans (holdOn_only _ _ _)

theorem voteGroup_only (g : Nat) (usable : List Src1) (s0 : State) : Only [.evt, .fus] s0 (voteGroup g usable s0) := by
  unfold voteGroup
  extract_lets n gate members desel isUsable s v0 lapse s2 v cs ps preferred others disputed
  have h : Only [.fus] s0 s := setStates_only _ _ members s0
  have h2 : Only [.fus] s0 s2 := h.trans (Only.ite (fun _ => modGroup_only _ _ _) fun _ => Only.refl)
  have hpreferred : Only [.fus] s0 preferred :=
    h2.foldl _ (fun t i => Only.ite (fun _ => Only.refl) fun _ => setState_only _ _ t) members
  have hdisputed : Only [.evt, .fus] s0 disputed := h2.comp (setStates_only _ _ v.dispute s2)
  have hplain : Only [.evt, .fus] s0 s2 := h2.mono (by decide)
  split
  · exact hpreferred.comp (fusedOn_only _ _ _ _)
  · split
    · split
      · exact (hdisputed.trans (resolveDispute_only _ _ _)).trans (standOn_only _ _ _ _ _ _)
      · exact hdisputed.trans (holdOn_only _ _ _)
    · split
      · exact hplain.trans (holdOn_only _ _ _)
      · exact hplain.trans (standOn_only _ _ _ _ _ _)
      · exact hplain.trans (declareDispute_only _ _ _)

theorem voteInputs_only (g : Nat) (roll pitch : F64) (s : State) : Only [.evt, .fus] s (voteInputs g roll pitch s) :=
  Only.ite (fun _ => voteGroup_only _ _ _) fun _ => Only.refl

/-! References (R252 to R262). -/

theorem setRef_only (r : Nat) (x : RefOut) (s : State) : Only [.fus] s (setRef r x s) :=
  Only.setFus _

theorem learnAnchor_only (r : Nat) (att : Att) (s : State) : Only [.evt, .fus] s (learnAnchor r att s) := by
  unfold learnAnchor
  split
  · exact Only.ite (fun _ => (Only.setFus _).comp (record_only _ _ _)) fun _ => Only.refl
  · exact Only.refl

theorem projectRef_only (att : Att) (s : State) (r : Nat) : Only [.evt, .fus] s (projectRef att s r) := by
  unfold projectRef
  split
  case h_3 => exact (learnAnchor_only r att s).comp (setRef_only _ _ _)
  all_goals exact (setRef_only _ _ s).mono (by decide)

theorem associateHead_only (head : Nat) (h : HeadPose) (maxRange fov : F64) (frame : Nat × List Byte) (room : Nat) (s : State) :
    Only [.evt, .fus, .slv] s (associateHead head h maxRange fov frame room s).2 := by
  unfold associateHead
  extract_lets all os cs gate a left pairs loose s1 s2 fresh marks kept fus slv s3
  have h1 : Only [.fus] s s1 := Only.setFus _
  have h2 : Only [.evt, .fus] s s2 := h1.comp (qs := [.evt]) (Only.ite (fun _ => record_only _ _ _) fun _ => Only.refl)
  have h3 : Only [.fus, .slv] s2 s3 := Only.ite (fun _ => by apply Only.fields <;> simp) fun _ => Only.refl
  exact h2.comp h3

theorem opticalRef_only (att : Att) (acc : Nat × Nat × State) (r : Nat) :
    Only [.evt, .fus, .slv] acc.2.2 (opticalRef att acc r).2.2 := by
  unfold opticalRef
  extract_lets s i
  split
  · exact Only.refl
  · split
    · exact Only.refl
    · exact (associateHead_only _ _ _ _ _ _ _).comp (setRef_only _ _ _)

theorem opticalRefs_only (att : Att) (l : List Nat) {acc o : Nat × Nat × State} (ho : l.foldl (opticalRef att) acc = o) :
    Only [.evt, .fus, .slv] acc.2.2 o.2.2 := by
  subst ho
  induction l generalizing acc with
  | nil => exact Only.refl
  | cons r l ih => exact (opticalRef_only att acc r).trans ih

theorem publishGroup_only (s : State) (g : Nat) : Only [.sig] s (publishGroup s g) := by
  unfold publishGroup
  extract_lets v x
  refine Only.ite (fun _ => Only.refl) fun _ => ?_
  split
  · exact ((outPut_only _ _ _ _).trans (outPut_only _ _ _ _)).trans (outPut_only _ _ _ _)
  all_goals exact outPut_only _ _ _ _

theorem publishRef_only (s : State) (r : Nat) : Only [.sig] s (publishRef s r) := by
  unfold publishRef
  extract_lets st slip s1 x b
  have h1 : Only [.sig] s s1 := outPut_only _ _ _ _
  exact Only.ite (fun _ => ((h1.trans (outPut_only _ _ _ _)).trans (outPut_only _ _ _ _)).trans (outPut_only _ _ _ _)) fun _ => h1

theorem stage3_only (s : State) : Only [.evt, .sig, .fus, .obs, .slv] s (stage3 s) := by
  unfold stage3
  extract_lets fus obs rnn s1 s2 s3 att refs s4 byHead o s5 s6 s7 s8
  have h1 : Only [.fus, .obs] s s1 := by
    apply Only.fields <;> simp [s1]
  have h2 : Only [.evt, .fus] s1 s2 := (voteInputs_only 2 d0 d0 s1).trans (voteInputs_only 3 d0 d0 _)
  have h3 : Only [.evt, .fus] s1 s3 := h2.trans (voteInputs_only 1 _ _ s2)
  have h4 : Only [.evt, .fus] s3 s4 := Only.refl.foldl _ (projectRef_only att) refs
  clear_value s4
  have ho : Only [.evt, .fus, .slv] s4 o.2.2 := opticalRefs_only att byHead (acc := (0, 0, s4)) (o := o) rfl
  have h5 : Only [.sig] o.2.2 s5 := (outPut_only 0x0180 (vU32 o.1) 1 o.2.2).trans (outPut_only 0x0181 (vU32 o.2.1) 1 _)
  have h6 : Only [.sig] o.2.2 s6 := h5.trans (outPut_only 0x0182 (vU32 s5.fus.dropped) 1 s5)
  have h7 : Only [.evt, .fus] s6 s7 := Only.ite (fun _ => voteGroup_only _ _ _) fun _ => Only.refl
  have h8 : Only [.evt, .fus] s7 s8 := Only.refl.foldl _ (fun t g => voteInputs_only g _ _ t) _
  have hlast : Only [.sig] s8 (refs.foldl publishRef ((List.range 8).foldl publishGroup s8)) :=
    (Only.refl.foldl _ publishGroup_only _).foldl _ publishRef_only refs
  have hrefs : Only [.evt, .fus, .obs, .slv] s o.2.2 := (h1.comp (rs := [.evt, .fus, .obs]) (h3.trans h4)).comp ho
  exact (hrefs.comp h6).trans ((h7.trans h8).comp hlast)

/-! The observers (R275 to R303). -/

theorem modPhys_only (f : PhysState → PhysState) (s : State) : Only [.obs] s (modPhys f s) :=
  Only.setObs _

theorem recordPhys_only (e : Ev) (ps : List Byte) (f : PhysState → PhysState) (s : State) : Only [.evt, .obs] s (record e ps (modPhys f s)) :=
  (modPhys_only f s).comp (record_only _ _ _)

theorem updateMeas_only (m : ObsModel) (tau : List F32) (s : State) (z : Meas) : Only [.evt, .obs] s (updateMeas m tau s z) := by
  unfold updateMeas
  extract_lets p
  split
  · exact (modPhys_only _ s).mono (by decide)
  · exact recordPhys_only _ _ _ s
  · exact (modPhys_only _ s).mono (by decide)

theorem reinitPart_only (heading : Bool) (s : State) : Only [.evt, .obs] s (reinitPart heading s) := by
  unfold reinitPart
  split
  · exact Only.refl
  · exact Only.ite (fun _ => Only.refl) fun _ => recordPhys_only _ _ _ s

theorem countRejects_only (zs : List Meas) (s : State) : Only [.evt, .obs] s (countRejects zs s) :=
  (Only.comp (modPhys_only _ s) (reinitPart_only false _)).trans (reinitPart_only true _)

theorem physStep_only (s0 : State) : Only [.evt, .obs] s0 (physStep s0) := by
  unfold physStep
  extract_lets s tau dt zs
  have h : Only [.evt, .obs] s0 s := (modPhys_only _ s0).mono (by decide)
  split
  · exact h
  · split
    · exact Only.ite (fun _ => h.trans (recordPhys_only _ _ _ s)) fun _ => h
    · extract_lets a s1
      have h1 : Only [.evt, .obs] s0 s1 := h.comp (modPhys_only _ s)
      exact (h1.foldl _ (updateMeas_only _ _) _).trans (countRejects_only _ _)

theorem physPredict_only (s : State) : Only [.obs] s (physPredict s) := by
  unfold physPredict
  extract_lets p angle
  split
  · exact Only.refl
  · exact Only.ite (fun _ => Only.refl) fun _ => modPhys_only _ s

theorem endWarmup_only (s : State) : Only [.obs] s (endWarmup s) :=
  Only.ite (fun _ => Only.setObs _) fun _ => Only.refl

theorem rnnStep_only (h : RnnHdr) (s : State) : Only [.obs] s (rnnStep h s) :=
  Only.setObs _

theorem modXchk_only (q : Nat) (f : Xchk → Xchk) (s : State) : Only [.obs] s (modXchk q f s) :=
  Only.setObs _

theorem agree_only (q : Nat) (s : State) : Only [.evt, .obs] s (agree q s) :=
  Only.ite (fun _ => (modXchk_only _ _ s).comp (record_only _ _ _)) fun _ => Only.refl

theorem crossCheck_only (s : State) (q : Nat) : Only [.evt, .obs] s (crossCheck s q) := by
  unfold crossCheck
  split
  · exact Only.refl
  · extract_lets r d0' d bad s1 s2
    have h1 : Only [.obs] s s1 := modXchk_only _ _ s
    have h2 : Only [.obs] s s2 := h1.trans (modXchk_only _ _ _)
    exact Only.ite (fun _ => Only.refl) fun _ => Only.ite
      (fun _ => Only.ite (fun _ => h2.mono (by decide)) fun _ => h2.comp (record_only _ _ _))
      fun _ => (h1.trans (modXchk_only _ _ _)).comp (agree_only _ _)

theorem waitingObs_only (s : State) : Only [.sig, .obs] s (waitingObs s) := by
  unfold waitingObs
  extract_lets worn s1
  have hworn : ∀ t id, Only [.sig] t (worn t id) := fun t id => by
    simp only [worn]
    split
    · exact Only.ite (fun _ => Only.refl) fun _ => outPut_only _ _ _ t
    · exact Only.refl
  have h1 : Only [.sig] s s1 := Only.refl.foldl _ hworn _
  exact h1.comp (Only.setObs _)

theorem publishObs_only (s : State) : Only [.sig, .obs] s (publishObs s) := by
  unfold publishObs
  extract_lets p qual s1 s2 s3 s4 s5 s6 flags
  have h1 : Only [.sig, .obs] s s1 := Only.ite (fun _ => waitingObs_only s) fun _ => Only.refl.foldl _ (fun t q =>
    (Only.setObs _).comp (qs := [.sig]) (((outPut_only _ _ _ _).trans (outPut_only _ _ _ _)).trans (outPut_only _ _ _ _))) _
  have h2 : Only [.sig] s1 s2 := Only.ite (fun _ => Only.refl) fun _ => Only.refl.foldl _ (fun t _ => outPut_only _ _ _ t) _
  have h3 : Only [.sig] s2 s3 := by
    simp only [s3]
    split
    · exact Only.refl
    · exact Only.refl
    · refine Only.refl.foldl _ (fun t o => ?_) _
      split
      · exact (outPut_only _ _ _ t).trans (outPut_only _ _ _ _)
      · exact Only.refl
  have h4 : Only [.sig] s3 s4 := by
    simp only [s4]
    split
    · exact Only.refl
    · exact Only.refl.foldl _ (fun t _ => outPut_only _ _ _ t) _
  have h5 : Only [.sig] s4 s5 := by
    simp only [s5]
    split
    · exact outPut_only _ _ _ _
    · exact Only.refl
  have h6 : Only [.sig] s5 s6 := by
    simp only [s6]
    split
    · exact outPut_only _ _ _ _
    · exact Only.refl
  have hlast : Only [.sig] s6 _ := (((outPut_only 0x0370 (vU32 (b2n p.running)) 1 s6).trans (outPut_only 0x0371 (vU32 (rnnShown s)) 1 _)).trans
    (outPut_only 0x0372 (vU32 flags) 1 _)).trans (outPut_only 0x0373 (vU32 p.rejected) 1 _)
  exact h1.comp (qs := [.sig]) (((((h2.trans h3).trans h4).trans h5).trans h6).trans hlast)

theorem stage4_only (s0 : State) : Only [.evt, .sig, .obs] s0 (stage4 s0) := by
  unfold stage4
  extract_lets s1 s2 s3 s4
  have h1 : Only [.obs] s0 s1 := Only.ite (fun _ => Only.refl) fun _ => Only.ite (fun _ => rnnRestart_only s0) fun _ => Only.refl
  have h2 : Only [.evt, .obs] s0 s2 := h1.comp (physStep_only s1)
  have h3 : Only [.obs] s2 s3 := by
    simp only [s3]
    split
    · exact Only.refl
    · exact Only.ite (fun _ => Only.refl) fun _ => (endWarmup_only s2).trans (rnnStep_only _ _)
  have h4 : Only [.evt, .obs] s3 s4 := Only.refl.foldl _ crossCheck_only _
  have h : Only [.evt, .obs] s0 s4 := (h2.comp h3).trans h4
  exact (h.comp (rs := [.evt, .obs]) (physPredict_only s4)).comp (publishObs_only _)

theorem frameEstimates_only (s : State) : Only [.slv] s (frameEstimates s) :=
  Only.ite (fun _ => Only.setSlv _) fun _ => Only.refl

end Sys2Proof.Machine
end

section
/-! SUPPORT. Frames of stages 5 to 9: control, allocation, the hand-off, the mirror stream and the end of the period (R338 to R435). -/

namespace Sys2Proof.Machine

set_option Elab.async false

theorem modThr_only (t : Nat) (f : Thr → Thr) (s : State) : Only [.thr] s (modThr t f s) :=
  Only.setThr _

theorem bumpCount_only (i n : Nat) (s : State) : Only [.sch] s (bumpCount i n s) :=
  Only.setSch _

theorem sendCascOf_only (period typ dst : Nat) (payload : List Byte) (s : State) : Only [.grp, .out] s (sendCascOf period typ dst payload s) := by
  apply Only.fields <;> simp

theorem sendCasc_only (typ dst : Nat) (payload : List Byte) (s : State) : Only [.grp, .out] s (sendCasc typ dst payload s) :=
  sendCascOf_only _ _ _ _ _

/-! Stage 5 (R338, R371). -/

theorem returnThr_only (t : Nat) (s : State) : Only [.evt, .thr] s (returnThr t s) :=
  Only.ite (fun _ => (modThr_only _ _ s).comp (record_only _ _ _)) fun _ => Only.refl

theorem judgeMode_only (s0 : State) (t : Nat) : Only [.evt, .thr] s0 (judgeMode s0 t) := by
  unfold judgeMode
  extract_lets all s x
  have h : Only [.evt, .thr] s0 s := Only.comp (modThr_only _ _ s0) (returnThr_only _ _)
  exact Only.ite (fun _ => h.comp (modThr_only _ _ _)) fun _ => Only.ite (fun _ => h) fun _ => h.comp (modThr_only _ _ _)

theorem fixAvail_only (s : State) : Only [.evt, .thr] s (fixAvail s) :=
  Only.refl.foldl _ judgeMode_only _

/-- The part of a result of stage 5 that no stage reads back: signals and events. -/
theorem publishControl_only (r : CtlRun) (s : State) : Only [.evt, .sig] s
    (r.evs.foldl (fun s e => record e.1 e.2 s) (r.sigs.foldl (fun s e => outPut e.1 e.2.value e.2.q s) s)) :=
  Only.comp (Only.refl.foldl (ps := [.sig]) _ (fun t _ => outPut_only _ _ _ t) r.sigs)
    (Only.refl.foldl (ps := [.evt]) _ (fun t _ => record_only _ _ t) r.evs)

/-- What stage 5 leaves: its frame, the stage ended, no chain, and the period in hand still the same. -/
def ControlDone (s t : State) : Prop :=
  Only [.evt, .sig, .ctl, .thr, .sch] s t ∧ t.sch.stage = 5 ∧ t.sch.chain = none ∧ t.sch.cur = s.sch.cur

theorem controlDone_bumpCount {s t : State} (i n : Nat) (h : ControlDone s t) : ControlDone s (bumpCount i n t) :=
  ⟨h.1.comp (bumpCount_only i n t), h.2⟩

/-- Taking a result, the chain's or a full one, ends stage 5 (R397). -/
theorem controlDone_takeControl (inp : List Byte) (r : CtlRun) {s u : State} (hu : Only [.sch] s u) (hchain : u.sch.chain = none)
    (hcur : u.sch.cur = s.sch.cur) : ControlDone s (takeControl inp r u) := by
  unfold takeControl
  extract_lets s1 s2 src s3
  have h2 : Only [.evt, .sig, .ctl] u s2 := (Only.setCtl _).comp (publishControl_only r _)
  have hsch2 : s2.sch = u.sch := h2.2 .sch (by decide)
  clear_value s2
  have hfix : Only [.evt, .thr] { s2 with sch := { s2.sch with rec5 := inp, stage := 5 } } s3 := fixAvail_only _
  have hsch3 : s3.sch = { u.sch with rec5 := inp, stage := 5 } := (hfix.2 .sch (by decide)).trans (by simp only [hsch2])
  have h3 : Only [.evt, .sig, .ctl, .thr, .sch] s s3 := hu.comp (h2.comp (rs := [.evt, .sig, .ctl, .thr, .sch]) ((Only.setSch _).comp (rs := [.evt, .thr, .sch]) hfix))
  clear_value s3
  have hlast : ∀ (a : SchState) (b : ThrState), Only [.evt, .sig, .ctl, .thr, .sch] s { s3 with sch := a, thr := b } := fun a b =>
    h3.comp (qs := [.thr, .sch]) (by apply Only.fields <;> simp)
  exact ⟨hlast _ _, congrArg SchState.stage hsch3, (congrArg SchState.chain hsch3).trans hchain, (congrArg SchState.cur hsch3).trans hcur⟩

/-- Stage 5 takes the chain's result or its own, and leaves no chain. -/
theorem control_spec (s : State) : ControlDone s (control s) := by
  have htake : ∀ inp r, ControlDone s (takeControl inp r { s with sch := { s.sch with chain := none, chainDue := false } }) := fun inp r =>
    controlDone_takeControl inp r (Only.setSch _) rfl rfl
  unfold control
  dsimp only
  generalize actualRecord s = inp
  split
  next c _ =>
    split
    · exact controlDone_bumpCount 3 1 (htake inp _)
    · split
      · exact controlDone_bumpCount 1 1 (htake inp _)
      · exact controlDone_bumpCount 2 1 (htake inp _)
  next => exact htake inp _

/-! Stage 6 (R378). -/

theorem retain_only (i : Nat) (t : Struct) (r : SolveRes) (s : State) : Only [.slv] s (retain i t r s) :=
  Only.setSlv _

theorem deadlineEvent_only (i : Nat) (r : SolveRes) (refused : Bool) (s : State) : Only [.evt] s (deadlineEvent i r refused s) :=
  record_only _ _ _

theorem stage6_only (limit : Option Nat) (s : State) : Only [.evt, .slv, .thr] s (stage6 limit s) := by
  unfold stage6
  split
  · exact (Only.setThr _).mono (by decide)
  · split
    extract_lets src s1 s2 s3 lim
    have h1 : Only [.slv] s s1 := Only.setSlv _
    have h2 : Only [.slv] s s2 := h1.trans (Only.ite (fun _ => Only.refl) fun _ => retain_only _ _ _ _)
    have h3 : Only [.evt, .slv] s s3 := h2.comp (qs := [.evt]) (Only.ite (fun _ => deadlineEvent_only _ _ _ _) fun _ => Only.refl)
    exact h3.comp (Only.setThr _)

theorem endStage_only (n : Nat) (s : State) : Only [.sch] s (endStage n s) :=
  Only.setSch _

/-- The stream is that of the state which stage 6 leaves. -/
theorem endSix_spec (limit : Option Nat) (s : State) : Only [.evt, .slv, .thr, .sch] s (endSix limit s) ∧ (endSix limit s).sch.stage = 6 ∧
    (endSix limit s).sch.cur = s.sch.cur ∧ (endSix limit s).sch.mirrorOut = (if s.grp.role = 0 then
      mirrorStream { endSix limit s with sch := { (endSix limit s).sch with mirrorOut := s.sch.mirrorOut } } else []) := by
  have hsix : Only [.evt, .slv, .thr] s (stage6 limit s) := stage6_only limit s
  have hsch : (stage6 limit s).sch = s.sch := hsix.2 .sch (by decide)
  have hgrp : (stage6 limit s).grp = s.grp := hsix.2 .grp (by decide)
  have hframe : Only [.evt, .slv, .thr, .sch] s (endSix limit s) := hsix.comp ((endStage_only 6 _).trans (Only.setSch _))
  refine ⟨hframe, rfl, (show (stage6 limit s).sch.cur = s.sch.cur by rw [hsch]), ?_⟩
  have hback : { endSix limit s with sch := { (endSix limit s).sch with mirrorOut := s.sch.mirrorOut } } = endStage 6 (stage6 limit s) := by
    rw [← hsch]
    rfl
  have hout : (endSix limit s).sch.mirrorOut = if (stage6 limit s).grp.role = 0 then mirrorStream (endStage 6 (stage6 limit s)) else [] := rfl
  rw [hback, hout, hgrp]

/-- Under DET the solve may take until past its deadline instant. -/
theorem allocate_eq (late : Nat) (s : State) : ∃ u : State, Only [.time, .evt] s u ∧ allocate late s = endSix none u := by
  unfold allocate
  extract_lets t l
  have ht : Only [.time, .evt] s t := Only.ite (fun _ => Only.refl) fun _ => countTo_only _ _
  exact ⟨_, ht.trans (Only.ite (fun _ => Only.refl) fun _ => (record_only _ _ _).mono (by decide)), rfl⟩

/-! Stage 7 (R379 to R381, R402 to R405). -/

theorem publishThrusters_only (load : List F64) (s : State) : Only [.sig] s (publishThrusters load s) := by
  unfold publishThrusters
  extract_lets put putF all each s1 s2 s3
  have hput : ∀ id v t, Only [.sig] t (put id v t) := fun id v t => outPut_only id v 1 t
  have h1 : Only [.sig] s s1 := Only.refl.foldl _ (fun t _ => ((hput _ _ t).trans (hput _ _ _)).trans (hput _ _ _)) _
  have h2 : Only [.sig] s1 s2 := ((hput _ _ _).trans (hput _ _ _)).trans (hput _ _ _)
  have h3 : Only [.sig] s2 s3 := Only.refl.foldl _ (fun t _ =>
    ((((hput _ _ t).trans (hput _ _ _)).trans (hput _ _ _)).trans (hput _ _ _)).trans (hput _ _ _)) _
  exact ((h1.trans h2).trans h3).foldl _ (fun t _ => (hput _ _ t).trans (hput _ _ _)) _

theorem stage7_only (s : State) : Only [.evt, .sig, .thr] s (stage7 s) := by
  unfold stage7
  split
  extract_lets ts pubs alloc ach used fl src s1 s2
  have h1 : Only [.thr] s s1 := Only.setThr _
  have h2 : Only [.sig, .thr] s s2 := (h1.foldl _ (fun t _ => modThr_only _ _ t) _).comp (publishThrusters_only _ _)
  exact Only.ite (fun _ => h2.comp (record_only _ _ _)) fun _ => h2.mono (by decide)

theorem keepSignals_only (s : State) : Only [.sch] s (keepSignals s) :=
  Only.setSch _

theorem sendExtCmd_only (s : State) : Only [.grp, .out] s (sendExtCmd s) :=
  Only.ite (fun _ => Only.refl) fun _ => sendCasc_only _ _ _ s

theorem giveCommands_only (s : State) : Only [.thr, .grp, .out] s (giveCommands s) :=
  Only.ite (fun _ => (Only.setThr _).mono (by decide)) fun _ => Only.ite (fun _ => (Only.setGrp _).mono (by decide)) fun _ =>
    (Only.setThr _).comp (sendExtCmd_only _)

theorem judgeLate_spec (s : State) : Only [.evt, .sch] s (judgeLate s) ∧ (judgeLate s).sch.mirrorOut = s.sch.mirrorOut := by
  unfold judgeLate
  split
  · refine ⟨((Only.setSch _).comp (rs := [.evt, .sch]) (record_only _ _ _)).comp (bumpCount_only _ _ _), ?_⟩
    simp only [bumpCount, record_sch]
  · exact ⟨Only.refl, rfl⟩

theorem loseSchedule_spec (c7 : Int) (s : State) : Only [.evt, .sch] s (loseSchedule c7 s) ∧ (loseSchedule c7 s).sch.mirrorOut = s.sch.mirrorOut := by
  refine ⟨((Only.setSch _).comp (rs := [.evt, .sch]) (record_only _ _ _)).comp ((bumpCount_only _ _ _).trans (bumpCount_only _ _ _)), ?_⟩
  simp only [loseSchedule, bumpCount, record_sch]

theorem planNext_spec (s : State) : Only [.evt, .sch] s (planNext s) ∧ (planNext s).sch.mirrorOut = s.sch.mirrorOut := by
  unfold planNext
  extract_lets c7 bs durs nom a sch s1
  have h1 : Only [.sch] s s1 := Only.setSch _
  split
  · obtain ⟨hframe, hout⟩ := loseSchedule_spec c7 s1
    exact ⟨h1.comp hframe, hout⟩
  · exact ⟨(h1.trans (Only.setSch _)).mono (by decide), rfl⟩

/-- What the hand-off does before its end: the commands go out, lateness is judged and the next period is planned. -/
theorem planned_spec (s : State) : let t := planNext (judgeLate (giveCommands (keepSignals (stage7 s))))
    Only [.evt, .sig, .thr, .sch, .grp, .out] s t ∧ t.sch.mirrorOut = (keepSignals (stage7 s)).sch.mirrorOut := by
  have hgive := giveCommands_only (keepSignals (stage7 s))
  obtain ⟨hlate, hlateOut⟩ := judgeLate_spec (giveCommands (keepSignals (stage7 s)))
  obtain ⟨hplan, hplanOut⟩ := planNext_spec (judgeLate (giveCommands (keepSignals (stage7 s))))
  have hsch : (giveCommands (keepSignals (stage7 s))).sch = (keepSignals (stage7 s)).sch := hgive.2 .sch (by decide)
  have hkept : Only [.evt, .sig, .thr, .sch] s (keepSignals (stage7 s)) := (stage7_only s).comp (keepSignals_only _)
  exact ⟨(hkept.comp (rs := [.evt, .sig, .thr, .sch, .grp, .out]) hgive).comp (hlate.trans hplan), hplanOut.trans (hlateOut.trans (by rw [hsch]))⟩

/-- The end of the hand-off: stage 7, and the indication to the island. -/
theorem handOffEnd_only (u : State) (a : SchState) (b : MtrState) : Only [.sch, .mtr] u { u with sch := a, mtr := b } := by
  apply Only.fields <;> simp

/-- The hand-off after stage 7: the stream gets its output signals, the commands go out, the next period is planned. -/
theorem handOff_spec (s : State) : Only [.evt, .sig, .thr, .sch, .grp, .mtr, .out] s (handOff s) ∧ (handOff s).sch.stage = 7 ∧
    (handOff s).mtr = { s.mtr with dp := (handOff s).mtr.dp } ∧ (handOff s).mtr.dp.isSome ∧ (handOff s).sch.mirrorOut =
      (if s.sch.mirrorOut.isEmpty then [] else withSignals (stage7 s) (mirrorEntries (stage7 s)) s.sch.mirrorOut) := by
  obtain ⟨hframe, hout⟩ := planned_spec s
  have hsch7 : (stage7 s).sch = s.sch := (stage7_only s).2 .sch (by decide)
  have hmtr : (planNext (judgeLate (giveCommands (keepSignals (stage7 s))))).mtr = s.mtr := hframe.2 .mtr (by decide)
  unfold handOff
  generalize planNext (judgeLate (giveCommands (keepSignals (stage7 s)))) = u at hframe hout hmtr
  refine ⟨hframe.comp (handOffEnd_only u _ _), rfl, by rw [← hmtr], rfl, hout.trans ?_⟩
  rw [keepSignals, hsch7]

/-! Stage 8 (R431). -/

theorem stage8_spec (s : State) : Only [.sch, .grp, .out] s (stage8 s) ∧ (stage8 s).sch = { s.sch with s8 := true } := by
  have hsend : Only [.grp, .out] { s with sch := { s.sch with s8 := true } } (stage8 s) := Only.refl.foldl _ (fun t d =>
    Only.refl.foldl _ (fun u _ => sendCascOf_only _ _ _ _ u) _) _
  exact ⟨(Only.setSch _).comp hsend, hsend.2 .sch (by decide)⟩

/-! Stage 9 (R98, R401, R435, R467). -/

theorem keepHealth_only (d : Nat) (h : List Byte) (s : State) : Only [.grp] s (keepHealth d h s) :=
  Only.setGrp _

theorem sendArb_only (ports : List Bool) (typ : Nat) (payload : List Byte) (s : State) : Only [.grp, .out] s (sendArb ports typ payload s) := by
  apply Only.fields <;> simp

theorem sendHealth_only (n : Nat) (s : State) : Only [.grp, .out] s (sendHealth n s) := by
  unfold sendHealth
  extract_lets h s1 s2
  have h1 : Only [.grp, .out] s s1 := Only.comp (keepHealth_only _ _ s) (sendCasc_only _ _ _ _)
  have h2 : Only [.grp, .out] s s2 := h1.trans (Only.ite (fun _ => sendArb_only _ _ _ _) fun _ => Only.refl)
  exact Only.ite (fun _ => h2) fun _ => h2.trans ((Only.setGrp _).comp (emit_only _ _))

theorem beat_only (n : Nat) (s : State) : Only [.saf] s (beat n s) :=
  Only.ite (fun _ => Only.setSaf _) fun _ => Only.refl

theorem finalReads_only (s : State) : Only [.host, .sch, .out] s (finalReads s) := by
  refine Only.foldl _ ((Only.setSch _).mono (by decide)) (fun t w => ?_) _
  split
  · exact (endCmd_only _ _ _ _ _ _ t).mono (by decide)
  · exact Only.refl

theorem openBlock_only (s : State) : Only [.sch] s (openBlock s) :=
  Only.ite (fun _ => Only.setSch _) fun _ => Only.setSch _

theorem baStart_only (s : State) : Only [.pwr, .slv] s (baStart s) :=
  Only.ite (fun _ => (Only.setSlv _).comp (requestWake_only _ _ _)) fun _ => Only.refl

theorem lastJobs_only (s : State) : Only [.pwr] s (lastJobs s) :=
  stopDomains_only _ s

theorem stage9_spec (s : State) : Only [.host, .pwr, .sig, .slv, .sch, .grp, .saf, .out] s (stage9 s) ∧ (stage9 s).sch.s9 = true ∧
    (stage9 s).sig.readPeriod = some s.sch.cur := by
  unfold stage9
  extract_lets s1 sig s2 s3
  have h1 : Only [.grp, .saf, .out] s s1 := (sendHealth_only _ s).comp (beat_only _ _)
  have hread : Only [.host, .sch, .out] { s1 with sig := { s1.sig with read := readSignals s1, readPeriod := some s1.sch.cur } } s2 := finalReads_only _
  have h3 : Only [.pwr, .slv, .sch] s2 s3 := (openBlock_only _).comp (baStart_only _)
  have hlast : Only [.pwr] { s3 with sch := { s3.sch with s9 := true } } (lastJobs { s3 with sch := { s3.sch with s9 := true } }) := lastJobs_only _
  have hsch1 : s1.sch = s.sch := h1.2 .sch (by decide)
  have hsig2 : s2.sig = { s1.sig with read := readSignals s1, readPeriod := some s1.sch.cur } := hread.2 .sig (by decide)
  have hsig3 : s3.sig = s2.sig := h3.2 .sig (by decide)
  have hsch : (lastJobs { s3 with sch := { s3.sch with s9 := true } }).sch = { s3.sch with s9 := true } := hlast.2 .sch (by decide)
  have hsig : (lastJobs { s3 with sch := { s3.sch with s9 := true } }).sig = s3.sig := hlast.2 .sig (by decide)
  have h2 : Only [.host, .sig, .sch, .grp, .saf, .out] s s2 :=
    h1.comp (qs := [.host, .sig, .sch, .out]) ((Only.setSig _).comp hread)
  refine ⟨(h2.comp (rs := [.host, .pwr, .sig, .slv, .sch, .grp, .saf, .out]) h3).comp (qs := [.pwr, .sch]) ((Only.setSch _).comp hlast), ?_, ?_⟩
  · rw [hsch]
  · rw [hsig, hsig3, hsig2, hsch1]

end Sys2Proof.Machine
end

section
/-! SUPPORT. The rows of stages 3 to 9 (R248 to R435): a job with its domains, and each stage in its turn. -/

namespace Sys2Proof.Machine

set_option Elab.async false

/-! A job on its domains (R35). -/

theorem onDomains_up {cls : Nat} {ds : List Nat} {s : State} (run : State → State) (h : domainsUp ds (accessDomains cls ds s) = true) :
    onDomains cls ds run s = run (accessDomains cls ds s) :=
  if_pos h

theorem onDomains_waits {cls : Nat} {ds : List Nat} {s : State} (run : State → State) (h : domainsUp ds (accessDomains cls ds s) = false) :
    onDomains cls ds run s = accessDomains cls ds s :=
  if_neg (Bool.eq_false_iff.mp h)

theorem setHome_spec (job : Nat) (ds : List Nat) (s : State) : Only [.sch] s (setHome job ds s) ∧ (setHome job ds s).sch.cur = s.sch.cur := by
  cases ds with
  | nil => exact ⟨Only.refl, rfl⟩
  | cons d ds => exact ⟨Only.setSch _, rfl⟩

/-- The state in which a job of a work tile runs once its domains are ready. -/
def jobStart (cls job : Nat) (more : List Nat) (s : State) : State :=
  setHome job (workTile job s) (accessDomains cls (workTile job s ++ more) s)

theorem jobStart_spec (cls job : Nat) (more : List Nat) (s : State) :
    Only [.time, .evt, .pwr, .sch] s (jobStart cls job more s) ∧ (jobStart cls job more s).sch.cur = s.sch.cur ∧
      (jobStart cls job more s).pwr = (accessDomains cls (workTile job s ++ more) s).pwr := by
  have haccess := accessDomains_only cls (workTile job s ++ more) s
  obtain ⟨hhome, hcur⟩ := setHome_spec job (workTile job s) (accessDomains cls (workTile job s ++ more) s)
  have hsch : (accessDomains cls (workTile job s ++ more) s).sch = s.sch := haccess.2 .sch (by decide)
  exact ⟨haccess.comp hhome, hcur.trans (by rw [hsch]), hhome.2 .pwr (by decide)⟩

theorem onWork_up {cls job : Nat} {more : List Nat} {s : State} (run : State → State)
    (h : domainsUp (workTile job s ++ more) (accessDomains cls (workTile job s ++ more) s) = true) :
    onWork cls job more run s = run (jobStart cls job more s) :=
  onDomains_up (fun v => run (setHome job (workTile job s) v)) h

theorem onWork_waits {cls job : Nat} {more : List Nat} {s : State} (run : State → State)
    (h : domainsUp (workTile job s ++ more) (accessDomains cls (workTile job s ++ more) s) = false) :
    onWork cls job more run s = accessDomains cls (workTile job s ++ more) s :=
  onDomains_waits (fun v => run (setHome job (workTile job s) v)) h

theorem domainOf_stopDomains_one {d : Nat} {s : State} (h : domainOf s d = .awake) :
    domainOf (stopDomains [d] s) d = .stopped := by
  have hd : d < s.pwr.domains.length := lt_length_of_domainOf (by rw [h]; nofun)
  simp [stopDomains, h, domainOf_setDomain, hd]

/-! Stages 3 and 4 (R248, R299). -/

@[simp] theorem endStage_stage (n : Nat) (s : State) : (endStage n s).sch.stage = n := rfl

@[simp] theorem endStage_cur (n : Nat) (s : State) : (endStage n s).sch.cur = s.sch.cur := rfl

theorem voteStage_spec (s : State) : Only [.evt, .pwr, .sig, .fus, .obs, .slv, .sch] s (voteStage s) ∧ (voteStage s).sch.stage = 3 ∧
    (voteStage s).sch.cur = s.sch.cur ∧ (domainOf s 15 = .awake → domainOf (voteStage s) 15 = .stopped) := by
  have hthree := stage3_only s
  have hend : Only [.evt, .sig, .fus, .obs, .slv, .sch] s (endStage 3 (stage3 s)) := hthree.comp (endStage_only 3 _)
  have hstop : Only [.pwr] (endStage 3 (stage3 s)) (voteStage s) := stopDomains_only [15] _
  have hsch3 : (stage3 s).sch = s.sch := hthree.2 .sch (by decide)
  have hsch : (voteStage s).sch = (endStage 3 (stage3 s)).sch := hstop.2 .sch (by decide)
  have hpwr : (endStage 3 (stage3 s)).pwr = s.pwr := hend.2 .pwr (by decide)
  refine ⟨hend.comp hstop, by rw [hsch, endStage_stage], by rw [hsch, endStage_cur, hsch3], fun h => domainOf_stopDomains_one ?_⟩
  rw [domainOf, hpwr]
  exact h

theorem observerStage_spec (s : State) : Only [.evt, .pwr, .sig, .obs, .slv, .sch] s (observerStage s) ∧ (observerStage s).sch.stage = 4 ∧
    (observerStage s).sch.cur = s.sch.cur := by
  have hfour : Only [.evt, .sig, .obs, .slv] s (frameEstimates (stage4 s)) := (stage4_only s).comp (frameEstimates_only _)
  have hstop : Only [.pwr] (endStage 4 (frameEstimates (stage4 s))) (observerStage s) := stopDomains_only [14] _
  have hsch4 : (frameEstimates (stage4 s)).sch = s.sch := hfour.2 .sch (by decide)
  have hsch : (observerStage s).sch = (endStage 4 (frameEstimates (stage4 s))).sch := hstop.2 .sch (by decide)
  exact ⟨(hfour.comp (rs := [.evt, .sig, .obs, .slv, .sch]) (endStage_only 4 _)).comp hstop, by rw [hsch, endStage_stage],
    by rw [hsch, endStage_cur, hsch4]⟩

section
variable {s : State}

/-- A row that is not in its turn, for every stage whose row asks for `awake` and a condition of its own. -/
theorem next_of_not {c : Bool} {run : State → State} (h : c = false) : (Host.Outcome.next (if c then run s else s)) = (.next s : Result) :=
  congrArg Host.Outcome.next (if_neg (Bool.eq_false_iff.mp h))

theorem vote_runs (hs : awake s = true) (hstage : s.sch.stage = 2) :
    exec .projectionAssociationVote s = .next (onWork 2 0 [16, 15] voteStage s) :=
  congrArg Host.Outcome.next (if_pos (by simp [hs, hstage]))

theorem vote_ends (hs : awake s = true) (hstage : s.sch.stage = 2)
    (hup : domainsUp (workTile 0 s ++ [16, 15]) (accessDomains 2 (workTile 0 s ++ [16, 15]) s) = true) :
    ∃ t : State, exec .projectionAssociationVote s = .next t ∧ t.sch.stage = 3 ∧ t.sch.cur = s.sch.cur ∧
      domainOf t 15 = (if 15 < s.pwr.domains.length then .stopped else domainOf s 15) ∧ Only [.time, .evt, .pwr, .sig, .fus, .obs, .slv, .sch] s t := by
  obtain ⟨hstart, hcur, hpwr⟩ := jobStart_spec 2 0 [16, 15] s
  obtain ⟨hframe, hthree, hkept, hstop⟩ := voteStage_spec (jobStart 2 0 [16, 15] s)
  have hready : domainOf (accessDomains 2 (workTile 0 s ++ [16, 15]) s) 15 = .awake := by
    have hall := List.all_eq_true.mp hup 15 (by simp)
    simpa using hall
  have hlen : 15 < s.pwr.domains.length := by
    rw [← (accessDomains_noneStops 2 (workTile 0 s ++ [16, 15]) s).1]
    exact lt_length_of_domainOf (by rw [hready]; nofun)
  refine ⟨_, (vote_runs hs hstage).trans (congrArg Host.Outcome.next (onWork_up _ hup)), hthree, hkept.trans hcur, ?_, hstart.comp hframe⟩
  rw [if_pos hlen]
  refine hstop ?_
  rw [domainOf, hpwr]
  exact hready

theorem vote_idle (h : s.sch.stage ≠ 2) : exec .projectionAssociationVote s = .next s :=
  next_of_not (by simp [h])

theorem observer_runs (hs : awake s = true) (hstage : s.sch.stage = 3) :
    exec .observerUpdate s = .next (onWork 2 1 (recurrentNeeds s) observerStage s) :=
  congrArg Host.Outcome.next (if_pos (by simp [hs, hstage]))

theorem observer_ends (hs : awake s = true) (hstage : s.sch.stage = 3)
    (hup : domainsUp (workTile 1 s ++ recurrentNeeds s) (accessDomains 2 (workTile 1 s ++ recurrentNeeds s) s) = true) :
    ∃ t : State, exec .observerUpdate s = .next t ∧ t.sch.stage = 4 ∧ t.sch.cur = s.sch.cur ∧
      Only [.time, .evt, .pwr, .sig, .obs, .slv, .sch] s t := by
  obtain ⟨hstart, hcur, -⟩ := jobStart_spec 2 1 (recurrentNeeds s) s
  obtain ⟨hframe, hfour, hkept⟩ := observerStage_spec (jobStart 2 1 (recurrentNeeds s) s)
  exact ⟨_, (observer_runs hs hstage).trans (congrArg Host.Outcome.next (onWork_up _ hup)), hfour, hkept.trans hcur, hstart.comp hframe⟩

theorem observer_idle (h : s.sch.stage ≠ 3) : exec .observerUpdate s = .next s :=
  next_of_not (by simp [h])

/-! Stage 5 (R338). -/

theorem control_runs (hs : awake s = true) (hstage : s.sch.stage = 4) : exec .control s = .next (onWork 1 2 [] control s) :=
  congrArg Host.Outcome.next (if_pos (by simp [hs, hstage]))

theorem control_ends (hs : awake s = true) (hstage : s.sch.stage = 4)
    (hup : domainsUp (workTile 2 s) (accessDomains 1 (workTile 2 s) s) = true) :
    ∃ t : State, exec .control s = .next t ∧ t.sch.stage = 5 ∧ t.sch.chain = none ∧ t.sch.cur = s.sch.cur ∧
      Only [.time, .evt, .pwr, .sig, .ctl, .thr, .sch] s t := by
  obtain ⟨hstart, hcur, -⟩ := jobStart_spec 1 2 [] s
  obtain ⟨hframe, hfive, hchain, hkept⟩ := control_spec (jobStart 1 2 [] s)
  rw [← List.append_nil (workTile 2 s)] at hup
  exact ⟨_, (control_runs hs hstage).trans (congrArg Host.Outcome.next (onWork_up _ hup)), hfive, hchain, hkept.trans hcur, hstart.comp hframe⟩

theorem control_waits (hs : awake s = true) (hstage : s.sch.stage = 4)
    (hup : domainsUp (workTile 2 s) (accessDomains 1 (workTile 2 s) s) = false) : exec .control s = .next (accessDomains 1 (workTile 2 s) s) := by
  rw [← List.append_nil (workTile 2 s)] at hup ⊢
  exact (control_runs hs hstage).trans (congrArg Host.Outcome.next (onWork_waits _ hup))

theorem control_idle (h : s.sch.stage ≠ 4) : exec .control s = .next s :=
  next_of_not (by simp [h])

/-! Stage 6 (R378). -/

/-- Stage 6 ended after waiting: the stream is fixed there, on the MASTER only. -/
theorem endSix_after (limit : Option Nat) {u : State} (hu : Only [.time, .evt, .pwr] s u) :
    (endSix limit u).sch.stage = 6 ∧ (endSix limit u).sch.cur = s.sch.cur ∧ (endSix limit u).sch.mirrorOut = (if s.grp.role = 0 then
      mirrorStream { endSix limit u with sch := { (endSix limit u).sch with mirrorOut := s.sch.mirrorOut } } else []) ∧
    Only [.time, .evt, .pwr, .slv, .thr, .sch] s (endSix limit u) := by
  obtain ⟨hframe, hstage, hcur, hout⟩ := endSix_spec limit u
  have hsch : u.sch = s.sch := hu.2 .sch (by decide)
  have hgrp : u.grp = s.grp := hu.2 .grp (by decide)
  rw [hsch, hgrp] at hout
  exact ⟨hstage, hcur.trans (by rw [hsch]), hout, hu.comp hframe⟩

theorem allocation_runs (late : BitVec 32) (hs : awake s = true) (hstage : s.sch.stage = 5)
    (hdue : isDet s = true ∨ s.time.total ≤ s.thr.s6Due) :
    exec (.allocation late) s = .next (onDomains 2 (solverTile 56 s) (if isDet s then allocate late.toNat else endSix none) s) := by
  refine if_neg ?_
  rcases hdue with hdet | hdue
  · simp [hs, hstage, hdet]
  · simp [hs, hstage, Int.not_lt.mpr hdue]

theorem allocation_ends (late : BitVec 32) (hs : awake s = true) (hstage : s.sch.stage = 5)
    (hdue : isDet s = true ∨ s.time.total ≤ s.thr.s6Due)
    (hup : domainsUp (solverTile 56 s) (accessDomains 2 (solverTile 56 s) s) = true) :
    ∃ t : State, exec (.allocation late) s = .next t ∧ t.sch.stage = 6 ∧ t.sch.cur = s.sch.cur ∧
      t.sch.mirrorOut = (if s.grp.role = 0 then mirrorStream { t with sch := { t.sch with mirrorOut := s.sch.mirrorOut } } else []) ∧
      Only [.time, .evt, .pwr, .slv, .thr, .sch] s t := by
  have hready := accessDomains_only 2 (solverTile 56 s) s
  obtain ⟨u, hwait, hsolve⟩ : ∃ u, Only [.time, .evt, .pwr] s u ∧
      (if isDet s then allocate late.toNat else endSix none) (accessDomains 2 (solverTile 56 s) s) = endSix none u := by
    split
    · obtain ⟨u, hu, hsolve⟩ := allocate_eq late.toNat (accessDomains 2 (solverTile 56 s) s)
      exact ⟨u, hready.comp hu, hsolve⟩
    · exact ⟨_, hready, rfl⟩
  exact ⟨endSix none u, (allocation_runs late hs hstage hdue).trans (congrArg Host.Outcome.next ((onDomains_up _ hup).trans hsolve)),
    endSix_after none hwait⟩

theorem allocation_idle (late : BitVec 32) (h : s.sch.stage ≠ 5 ∨ isDet s = false ∧ s.thr.s6Due < s.time.total) :
    exec (.allocation late) s = .next s := by
  refine if_pos ?_
  rcases h with h | ⟨hdet, hdue⟩
  · simp [h]
  · simp [hdet, hdue]

theorem solverDeadline_ends (it : Nat) (hs : awake s = true) (hstage : s.sch.stage = 5) (hdet : isDet s = false) :
    ∃ t : State, exec (.solverDeadline 56 it) s = .next t ∧ t.sch.stage = 6 ∧ Only [.time, .evt, .slv, .thr, .sch] s t := by
  obtain ⟨hframe, hsix, -⟩ := endSix_spec (some it) (countTo s.thr.s6Due.toNat s)
  exact ⟨_, congrArg Host.Outcome.next (if_pos (by simp [hs, hstage, hdet])), hsix, (countTo_only _ s).comp hframe⟩

theorem solverDeadline_idle (i : Fin 64) (it : Nat) (hi : i.val < 56) (h : solveInFlight s i.val = none) :
    exec (.solverDeadline i it) s = .next s := by
  have hhost : hostDeadline i.val it s = s := by
    rw [hostDeadline, h]
  show execSolverDeadline i it s = _
  rw [execSolverDeadline, if_neg (Nat.ne_of_lt hi), if_pos hi, hhost]

/-! Stages 7 to 9 (R379, R431, R435). -/

theorem handOff_ends (hs : awake s = true) (hstage : s.sch.stage = 6) :
    ∃ t : State, exec .handOff s = .next t ∧ t.sch.stage = 7 ∧ t.mtr = { s.mtr with dp := t.mtr.dp } ∧ t.mtr.dp.isSome ∧
      t.sch.mirrorOut = (if s.sch.mirrorOut.isEmpty then [] else withSignals (stage7 s) (mirrorEntries (stage7 s)) s.sch.mirrorOut) ∧
      Only [.evt, .sig, .thr, .sch, .grp, .mtr, .out] s t := by
  obtain ⟨hframe, hseven, hmtr, hdp, hout⟩ := handOff_spec s
  exact ⟨handOff s, congrArg Host.Outcome.next (if_pos (by simp [hs, hstage])), hseven, hmtr, hdp, hout, hframe⟩

theorem handOff_idle (h : s.sch.stage ≠ 6) : exec .handOff s = .next s :=
  next_of_not (by simp [h])

theorem mirror_ends (hs : awake s = true) (hstage : s.sch.stage = 7) (height : s.sch.s8 = false) (hrole : s.grp.role = 0) :
    ∃ t : State, exec .mirror s = .next t ∧ t.sch.s8 = true ∧ t.sch.mirrorOut = s.sch.mirrorOut ∧ Only [.sch, .grp, .out] s t := by
  obtain ⟨hframe, hsch⟩ := stage8_spec s
  exact ⟨stage8 s, congrArg Host.Outcome.next (if_pos (by simp [hs, hstage, height, hrole])), by rw [hsch], by rw [hsch], hframe⟩

theorem mirror_idle (h : s.sch.s8 = true ∨ s.sch.stage ≠ 7 ∨ s.grp.role ≠ 0) : exec .mirror s = .next s := by
  refine next_of_not ?_
  rcases h with h | h | h <;> simp [h]

theorem health_ends (hs : awake s = true) (hstage : s.sch.stage = 7) (hnine : s.sch.s9 = false) :
    ∃ t : State, exec .health s = .next t ∧ t.sch.s9 = true ∧ t.sig.readPeriod = some s.sch.cur ∧
      Only [.host, .pwr, .sig, .slv, .sch, .grp, .saf, .out, .fresh] s t := by
  obtain ⟨hframe, hdone, hread⟩ := stage9_spec s
  exact ⟨stage9 s, congrArg Host.Outcome.next (if_pos (by simp [hs, hstage, hnine])), hdone, hread, hframe.mono (by decide)⟩

theorem health_idle (h : s.sch.s9 = true ∨ s.sch.stage ≠ 7) : exec .health s = .next s := by
  refine next_of_not ?_
  rcases h with h | h <;> simp [h]

end

end Sys2Proof.Machine
end

section
/-! SUPPORT. The snapshot of a period (R21, R22): what its start names stays through everything that comes into force with it. -/

namespace Sys2Proof.Machine

set_option Elab.async false

theorem Only.setAcq {s : State} (x : AcqState) : Only [.acq] s { s with acq := x } := by
  apply Only.fields <;> simp

/-! What a lock, a selection and an availability change do. -/

theorem fusionLock_only (s : State) : Only [.sig, .fus] s (fusionLock s) := by
  apply Only.fields <;> simp [fusionLock]

theorem obsLock_only (model net : Bool) (s : State) : Only [.obs] s (obsLock model net s) := by
  unfold obsLock
  extract_lets src s1 s2
  have h1 : Only [.obs] s s1 := Only.ite (fun _ => Only.refl) fun _ => Only.setObs _
  have h2 : Only [.obs] s1 s2 := Only.ite (fun _ => Only.refl) fun _ => rnnRestart_only _
  exact (h1.trans h2).trans (Only.setObs _)

theorem canRejoin_only (old : List Byte) (s : State) : Only [.bus] s (canRejoin old s) :=
  Only.setBus _

theorem modAcq_only (c : Nat) (f : AcqChan → AcqChan) (s : State) : Only [.acq] s (modAcq c f s) :=
  Only.setAcq _

theorem thresholdsOff_only (s : State) : Only [.evt, .acq] s (thresholdsOff s) := by
  refine Only.refl.foldl _ (fun t i => ?_) _
  split
  · exact Only.refl
  · extract_lets c v t1
    have h1 : Only [.evt, .acq] t t1 := Only.ite (fun _ => (modAcq_only _ _ t).comp (record_only _ _ _)) fun _ => Only.refl
    exact Only.ite (fun _ => h1.trans ((modAcq_only _ _ t1).comp (record_only _ _ _))) fun _ => h1

theorem pruneStamps_only (s : State) : Only [.time] s (pruneStamps s) :=
  Only.ite (fun _ => Only.refl) fun _ => Only.setTime _

theorem dropUnnamed_only (s : State) : Only [.sig] s (dropUnnamed s) :=
  Only.setSig _

theorem selectIn_only (src : Nat) (prefer : Bool) (s : State) (g : Nat) : Only [.evt, .fus] s (selectIn src prefer s g) := by
  unfold selectIn
  extract_lets v s1 cause same
  have h1 : Only [.evt, .fus] s s1 := (Only.ite (fun _ => modGroup_only _ _ s) fun _ => Only.refl).mono (by decide)
  exact Only.ite (fun _ => h1) fun _ => Only.ite (fun _ => h1.trans (resolveDispute_only _ _ _)) fun _ =>
    (h1.trans (resolveDispute_only _ _ _)).comp (modGroup_only _ _ _)

theorem selectSource_only (src sel : Nat) (s : State) : Only [.evt, .fus] s (selectSource src sel s) := by
  unfold selectSource
  extract_lets gs rest src s1
  have hstart : ∀ x : FusState, Only [.evt, .fus] s { s with fus := x } := fun x => (Only.setFus x).mono (by decide)
  have h1 : Only [.evt, .fus] s s1 := (hstart _).foldl _ (selectIn_only _ _) gs
  exact Only.ite (fun _ => Only.refl) fun _ => Only.ite (fun _ => (hstart _).foldl (ps := [.evt, .fus]) _ (selectIn_only _ _) gs) fun _ =>
    Only.ite (fun _ => h1.comp (Only.setFus _)) fun _ => h1

theorem availIn_only (m clear : Nat) (s : State) : Only [.thr] s (availIn m clear s) :=
  (Only.setThr _).trans (Only.setThr _)

/-! What the start of a period names. -/

/-- What the start of a period fixes of the schedule. -/
def startOf (x : SchState) : List (Nat × Int) × Nat × Int × Int × Bool := (x.begun, x.cur, x.b, x.prevSnap, x.s9)

/-- What a snapshot may change. -/
def snapshotParts : List Part := [.time, .cfg, .evt, .pwr, .sig, .gnss, .acq, .bus, .fus, .obs, .slv, .ctl, .thr, .sch, .grp]

/-- A step within a snapshot: its frame, and the period still the one that started. -/
def Takes (s t : State) : Prop := Only snapshotParts s t ∧ startOf t.sch = startOf s.sch

theorem Takes.refl (s : State) : Takes s s := ⟨Only.refl, rfl⟩

theorem Takes.trans {s t u : State} (h : Takes s t) (k : Takes t u) : Takes s u := ⟨h.1.trans k.1, k.2.trans h.2⟩

theorem Takes.foldl {α : Type} {f : State → α → State} (hf : ∀ s x, Takes s (f s x)) (l : List α) {s t : State} (h : Takes s t) :
    Takes s (l.foldl f t) := by
  induction l generalizing t with
  | nil => exact h
  | cons x l ih => exact ih (h.trans (hf t x))

/-- A step that leaves the schedule alone. -/
theorem Takes.of_only {ps : List Part} {s t : State} (h : Only ps s t) (hps : ∀ p ∈ ps, p ∈ snapshotParts := by decide)
    (hsch : .sch ∉ ps := by decide) : Takes s t :=
  ⟨h.mono hps, congrArg startOf (h.2 .sch hsch)⟩

/-- A step of the schedule alone, but for what the start of the period fixes. -/
theorem Takes.setSch {s : State} {x : SchState} (h : startOf x = startOf s.sch) : Takes s { s with sch := x } :=
  ⟨(Only.setSch x).mono (by decide), h⟩

/-- As `Takes.setSch`, the level A solution dropped with it. -/
theorem Takes.setSchGnss {s : State} {x : SchState} {g : GnssState} (h : startOf x = startOf s.sch) : Takes s { s with sch := x, gnss := g } :=
  ⟨by apply Only.fields <;> simp [snapshotParts], h⟩

/-! The effects due. -/

theorem lockIn_takes (ps : List (Nat × Value)) (ts : List (Nat × List Byte)) (s : State) : Takes s (lockIn ps ts s) := by
  unfold lockIn
  extract_lets cfg s1 same digest net s2 thr s3
  have h1 : Only [.cfg] s s1 := Only.setCfg _
  have h2 : Only [.sig, .bus, .fus, .obs] s1 s2 :=
    ((fusionLock_only s1).comp (rs := [.sig, .fus, .obs]) (obsLock_only _ _ _)).comp (canRejoin_only _ _)
  clear_value s2
  have hmask : Only [.slv, .thr] s2 (ownStructs { s2 with thr := { s2.thr with mask := 0 } }) := (Only.setThr _).comp (ownStructs_only _)
  have h3 : Only [.time, .evt, .sig, .acq, .slv, .thr] s2 s3 :=
    ((hmask.comp (rs := [.evt, .acq, .slv, .thr]) (thresholdsOff_only _)).comp (rs := [.time, .evt, .acq, .slv, .thr]) (pruneStamps_only _)).comp
      (dropUnnamed_only _)
  clear_value s3
  exact (((Takes.of_only h1).trans (Takes.of_only h2)).trans (Takes.of_only h3)).trans (Takes.setSchGnss rfl)

theorem takeEffect_takes (s : State) (p : Pend) : Takes s (takeEffect s p) := by
  unfold takeEffect
  split
  case h_1 => exact lockIn_takes _ _ s
  case h_2 => exact Takes.of_only (Only.setCfg _)
  case h_3 =>
    exact ((Takes.of_only (Only.setCfg _)).trans (Takes.of_only (thresholdsOff_only _))).trans (Takes.of_only (dropUnnamed_only _))
  case h_7 => exact Takes.of_only (availIn_only _ _ s)
  case h_8 => exact Takes.of_only (selectSource_only _ _ s)
  case h_9 => exact Takes.of_only (Only.setSlv _)
  all_goals exact Takes.refl s

theorem takeCounted_takes (s : State) (p : Pend) : Takes s (takeCounted s p) := by
  unfold takeCounted
  extract_lets s1
  have h1 : Takes s s1 := takeEffect_takes s p
  split
  · exact h1.trans (Takes.setSch rfl)
  · exact h1

/-! The mirror stream (R432). -/

theorem applyBlock_takes (b : Block) (s : State) : Takes s (applyBlock b s) :=
  ⟨(applyBlock_only b s).mono (by decide), by cases b <;> rfl⟩

theorem applyEntry_takes (e : MirEntry) (bs : List Byte) (s : State) : Takes s (applyEntry e bs s) := by
  unfold applyEntry
  split
  · split
    · exact applyBlock_takes _ s
    · exact Takes.refl s
  · exact Takes.of_only (applySignal_only _ _ s)

theorem applyEntries_takes (es : List MirEntry) (bs : List Byte) (s : State) : Takes s (applyEntries es bs s) := by
  induction es generalizing bs s with
  | nil => exact Takes.refl s
  | cons e es ih => exact (applyEntry_takes e _ s).trans (ih _ _)

theorem useStream_takes (n : Nat) (s : State) : Takes s (useStream n s) := by
  unfold useStream
  split
  · exact Takes.refl s
  · extract_lets got src s1
    have h1 : Takes s s1 := by
      simp only [s1]
      split
      · exact applyEntries_takes _ _ s
      · exact Takes.of_only (Only.setGrp _)
    exact h1.trans (Takes.of_only (Only.setGrp _))

theorem takeStream_takes (n : Nat) (s : State) : Takes s (takeStream n s) :=
  Takes.foldl takeCounted_takes _ (useStream_takes n s)

theorem takeDue_takes (n : Nat) (snap : Int) (s : State) : Takes s (takeDue n snap s) := by
  unfold takeDue
  extract_lets due mine src s1
  have h1 : Takes s s1 := Takes.setSch rfl
  exact (Takes.foldl takeCounted_takes mine h1).trans (takeStream_takes n _)

/-! The inputs and thrusters at the snapshot (R242, R371). -/

theorem modTrack_only (i : Nat) (f : InTrack → InTrack) (s : State) : Only [.fus] s (modTrack i f s) :=
  Only.setFus _

theorem recordTrack_only (i : Nat) (f : InTrack → InTrack) (e : Ev) (ps : List Byte) (s : State) : Only [.evt, .fus] s (record e ps (modTrack i f s)) :=
  (modTrack_only i f s).comp (record_only _ _ _)

theorem clearSlip_only (i : Nat) (s : State) : Only [.evt, .fus] s (clearSlip i s) :=
  Only.ite (fun _ => recordTrack_only _ _ _ _ s) fun _ => Only.refl

theorem judgeSample_only (i : Nat) (s : State) (arr : Nat) : Only [.evt, .fus] s (judgeSample i s arr) := by
  unfold judgeSample
  extract_lets kind base t s0
  have h0 : Only [.evt, .fus] s s0 := (modTrack_only _ _ s).mono (by decide)
  have hmod : ∀ f, Only [.evt, .fus] s (modTrack i f s0) := fun f => h0.comp (modTrack_only i f s0)
  split
  · exact h0
  · split
    · exact hmod _
    · split
      · exact h0
      · exact Only.ite (fun _ => Only.ite (fun _ => hmod _) fun _ => h0.trans (recordTrack_only _ _ _ _ s0)) fun _ =>
          Only.ite (fun _ => (hmod _).trans (clearSlip_only i _)) fun _ => h0

theorem snapInput_only (at_ : Int) (s : State) (i : Nat) : Only [.evt, .fus] s (snapInput at_ s i) := by
  unfold snapInput
  split
  · exact (Only.setFus _).mono (by decide)
  · extract_lets s1 entry
    have h1 : Only [.evt, .fus] s s1 := Only.ite (fun _ => Only.refl) fun _ => Only.refl.foldl _ (judgeSample_only i) _
    exact h1.comp (Only.setFus _)

theorem pruneHeads_only (at_ : Int) (s : State) : Only [.fus] s (pruneHeads at_ s) :=
  Only.setFus _

theorem keepMarks_only (n : Nat) (s : State) : Only [.bus, .thr] s (keepMarks n s) :=
  (Only.setBus (s := s) _).comp (Only.setThr _)

theorem judgeThruster_only (s : State) (t : Nat) : Only [.evt, .thr] s (judgeThruster s t) := by
  unfold judgeThruster
  extract_lets x rows base az secs ac0 ac inside cond mask lostNow s1 x'
  have h1 : Only [.evt] s s1 := Only.ite (fun _ => record_only _ _ _) fun _ => Only.refl
  exact h1.comp (modThr_only _ _ s1)

theorem judgeThrusters_only (s : State) : Only [.evt, .thr] s (judgeThrusters s) :=
  Only.refl.foldl _ judgeThruster_only _

/-! The start of a period. -/

/-- The schedule at the start of a period, as `startPeriod` sets it before anything comes into force. -/
theorem startPeriod_spec (n : Nat) (b a snap : Int) (lag : Nat) (s : State) :
    Only snapshotParts s (startPeriod n b a snap lag s) ∧
    startOf (startPeriod n b a snap lag s).sch = (s.sch.begun.drop 1, n, b, s.sch.snap, false) ∧
    ((startPeriod n b a snap lag s).sch.stage = 2 ∨
      (startPeriod n b a snap lag s).sch.stage = 7 ∧ (startPeriod n b a snap lag s).sch.s8 = true) := by
  unfold startPeriod
  extract_lets measured fus v sch s1 s2 dt sch2 s3 sch3 s4
  have h1 : Only [.fus, .sch] s s1 := ((Only.setFus _).comp (rs := [.fus, .sch]) (Only.setSch _)).comp (pruneHeads_only _ _)
  have hstart : startOf s1.sch = (s.sch.begun.drop 1, n, b, s.sch.snap, false) := rfl
  have h2 : Takes s1 s2 := takeDue_takes n snap s1
  clear_value s1
  have h3 : Takes s1 s3 := h2.trans (Takes.setSch rfl)
  have hmarks : Takes s3 (if isDet s3 then s3 else keepMarks n s3) := by
    split
    · exact Takes.refl s3
    · exact Takes.of_only (keepMarks_only n s3)
  have h4 : Takes s1 s4 := (h3.trans (Takes.foldl (fun t i => Takes.of_only (snapInput_only snap t i)) _ hmarks)).trans
    (Takes.of_only (judgeThrusters_only _))
  clear_value s3 s4
  split
  · exact ⟨(h1.comp (rs := snapshotParts) h3.1).comp (Only.setSch _), h3.2.trans hstart, Or.inr ⟨rfl, rfl⟩⟩
  · exact ⟨(h1.comp (rs := snapshotParts) h4.1).comp (Only.setSch _), h4.2.trans hstart, Or.inl rfl⟩

theorem reportStall_only (ns : Nat) (s : State) : Only [.pwr] s (reportStall ns s) :=
  Only.ite (fun _ => Only.refl) fun _ => Only.setPwr _

theorem stallFirst_only (s : State) : Only [.time, .evt, .pwr] s (stallFirst s) :=
  (accessDomains_only _ _ s).comp (reportStall_only _ _)

/-! The row of the snapshot (R21, R36, R167). -/

section
variable {s : State} {n : Nat} {b : Int} {l : List (Nat × Int)}

/-- Where nothing is waited for, the period starts, and stalls for the first stages where it has any. -/
theorem snapshot_starts (hbegun : s.sch.begun = (n, b) :: l) (hs : awake s = true) (hreplay : replays { s with cfg := cfgBefore b s } = false)
    (hended : periodEnded s = true) (hlevel : levelAWait { s with cfg := cfgBefore b s } b = false)
    (hsol : solutionWait { s with cfg := cfgBefore b s } b = false) : ∃ (a snap : Int) (lag : Nat), exec .snapshot s =
      .next (if noStages (startPeriod n b a snap lag (countTo a.toNat s)) then startPeriod n b a snap lag (countTo a.toNat s)
        else stallFirst (startPeriod n b a snap lag (countTo a.toNat s))) := by
  have hguard : (!awake s || replays { s with cfg := cfgBefore b s } || !periodEnded s || levelAWait { s with cfg := cfgBefore b s } b ||
      solutionWait { s with cfg := cfgBefore b s } b) = false := by
    simp [hs, hreplay, hended, hlevel, hsol]
  show ∃ a snap lag, execSnapshot s = _
  unfold execSnapshot
  rw [hbegun]
  dsimp only
  rw [hguard]
  exact ⟨_, _, _, rfl⟩

theorem snapshot_ends (hbegun : s.sch.begun = (n, b) :: l) (hs : awake s = true) (hreplay : replays { s with cfg := cfgBefore b s } = false)
    (hended : periodEnded s = true) (hlevel : levelAWait { s with cfg := cfgBefore b s } b = false)
    (hsol : solutionWait { s with cfg := cfgBefore b s } b = false) :
    ∃ t : State, exec .snapshot s = .next t ∧ t.sch.begun = l ∧ t.sch.cur = n ∧ t.sch.b = b ∧ t.sch.prevSnap = s.sch.snap ∧
      (t.sch.stage = 2 ∨ t.sch.stage = 7 ∧ t.sch.s8 = true) ∧ t.sch.s9 = false ∧
      Only [.time, .cfg, .evt, .pwr, .sig, .gnss, .acq, .bus, .fus, .obs, .slv, .ctl, .thr, .sch, .grp] s t := by
  obtain ⟨a, snap, lag, hexec⟩ := snapshot_starts hbegun hs hreplay hended hlevel hsol
  refine ⟨_, hexec, ?_⟩
  have hsch : (countTo a.toNat s).sch = s.sch := (countTo_only _ s).2 .sch (by decide)
  obtain ⟨hframe, hstart, hstage⟩ := startPeriod_spec n b a snap lag (countTo a.toNat s)
  rw [hsch, hbegun] at hstart
  generalize startPeriod n b a snap lag (countTo a.toNat s) = u at hframe hstart hstage
  have hstall : Only [.time, .evt, .pwr] u (if noStages u then u else stallFirst u) :=
    Only.ite (fun _ => Only.refl) fun _ => stallFirst_only u
  have hkept : (if noStages u then u else stallFirst u).sch = u.sch := hstall.2 .sch (by decide)
  simp only [startOf, Prod.mk.injEq] at hstart
  obtain ⟨hleft, hcur, hb, hprev, hnine⟩ := hstart
  rw [hkept]
  exact ⟨hleft, hcur, hb, hprev, hstage, hnine, (countTo_only _ s).comp (hframe.comp (rs := snapshotParts) hstall)⟩

theorem snapshot_waits (hbegun : s.sch.begun = (n, b) :: l) (h : levelAWait { s with cfg := cfgBefore b s } b = true ∨
    solutionWait { s with cfg := cfgBefore b s } b = true) : exec .snapshot s = .next s := by
  show execSnapshot s = _
  rw [execSnapshot, hbegun]
  refine if_pos ?_
  rcases h with h | h <;> simp [h]

theorem snapshot_idle (h : s.sch.begun = []) : exec .snapshot s = .next s := by
  show execSnapshot s = _
  rw [execSnapshot, h]

end

/-- Settles O40: each stage by the rule of its row. -/
theorem stageRows : Obligations.StageRows := by
  intro s
  refine ⟨fun n b l => snapshot_ends, fun n b l => snapshot_waits, snapshot_idle,
    fun hs hstage => ⟨vote_ends hs hstage, fun hup => (vote_runs hs hstage).trans (congrArg Host.Outcome.next (onWork_waits _ hup))⟩, vote_idle,
    fun hs hstage => ⟨observer_ends hs hstage, fun hup => (observer_runs hs hstage).trans (congrArg Host.Outcome.next (onWork_waits _ hup))⟩,
    observer_idle, fun hs hstage => ⟨control_ends hs hstage, control_waits hs hstage⟩, control_idle,
    fun late hs hstage hdue => ⟨allocation_ends late hs hstage hdue,
      fun hup => (allocation_runs late hs hstage hdue).trans (congrArg Host.Outcome.next (onDomains_waits _ hup))⟩,
    fun late => allocation_idle late, fun it => solverDeadline_ends it, fun i it => solverDeadline_idle i it, handOff_ends, handOff_idle,
    mirror_ends, mirror_idle, health_ends, health_idle⟩

end Sys2Proof.Machine
end

section
/-! SUPPORT. The host interface, one rule for each operation (R38, R39, R46 to R58, R70): keyed lists, sessions, what a reply sent leaves alone,
and the end of a command. -/

namespace Sys2Proof.Machine

set_option Elab.async false

theorem Only.setHost {s : State} (x : HostState) : Only [.host] s { s with host := x } := by
  apply Only.fields <;> simp

/-! Keyed lists and lists changed at one place. -/

@[simp] theorem keyGet_keyPut_same {α : Type} (k : Nat) (v : α) (l : List (Nat × α)) : keyGet k (keyPut k v l) = some v := by
  induction l with
  | nil => simp [keyPut, keyGet]
  | cons p l ih =>
    obtain ⟨k', v'⟩ := p
    unfold keyPut
    split
    · simp [keyGet]
    · split
      · simp [keyGet]
      · have hk : (k' == k) = false := beq_eq_false_iff_ne.mpr (by omega)
        simpa [keyGet, List.find?_cons, hk] using ih

theorem getElem?_modAt {α : Type} (f : α → α) (l : List α) (i j : Nat) :
    (modAt l i f)[j]? = if i = j then l[j]?.map f else l[j]? := by
  induction l generalizing i j with
  | nil => simp [modAt]
  | cons x l ih =>
    cases i <;> cases j
    case succ.succ i j => simpa [modAt] using ih i j
    all_goals simp [modAt]

/-! Sessions. -/

theorem openSlot_of_sessions {s t : State} (h : t.host.sessions = s.host.sessions) (n : Nat) : openSlot t n = openSlot s n := by
  simp only [openSlot, slotNo, h]

theorem slotNo_modSlot (m n : Nat) (f : Session → Session) (s : State) :
    slotNo (modSlot n f s) m = if m = n then (slotNo s m).map f else slotNo s m := by
  simp only [slotNo, modSlot]
  by_cases hm : m = 0
  · simp [hm]
  · by_cases hn : n = 0
    · simp [hn, hm]
    · have hi : n - 1 = m - 1 ↔ m = n := by omega
      simp only [hm, hn, if_false, getElem?_modAt, hi]

theorem openSlot_modSlot_other {m n : Nat} (h : m ≠ n) (f : Session → Session) (s : State) : openSlot (modSlot n f s) m = openSlot s m := by
  rw [openSlot, slotNo_modSlot, if_neg h, openSlot]

theorem openSlot_modSlot_closed (n : Nat) {f : Session → Session} (hf : ∀ x, (f x).isOpen = false) (s : State) :
    openSlot (modSlot n f s) n = none := by
  rw [openSlot, slotNo_modSlot, if_pos rfl]
  cases slotNo s n with
  | none => rfl
  | some x => simp [hf]

theorem isOpen_of_openSlot {s : State} {n : Nat} {x : Session} (h : openSlot s n = some x) : x.isOpen = true :=
  (Option.filter_eq_some_iff.mp h).2

/-- A change of slots touches the sessions alone. -/
theorem modSlot_only (n : Nat) (f : Session → Session) (s : State) : Only [.host] s (modSlot n f s) :=
  Only.ite (fun _ => Only.refl) fun _ => Only.setHost _

theorem modSlot_hostKept (n : Nat) (f : Session → Session) (s : State) :
    (modSlot n f s).host = { s.host with sessions := (modSlot n f s).host.sessions } := by
  unfold modSlot
  split <;> rfl

@[simp] theorem modSlot_cmds (n : Nat) (f : Session → Session) (s : State) : (modSlot n f s).host.cmds = s.host.cmds := by
  rw [modSlot_hostKept]

@[simp] theorem modSlot_journal (n : Nat) (f : Session → Session) (s : State) : (modSlot n f s).host.journal = s.host.journal := by
  rw [modSlot_hostKept]

@[simp] theorem modSlot_epochCounter (n : Nat) (f : Session → Session) (s : State) :
    (modSlot n f s).host.epochCounter = s.host.epochCounter := by
  rw [modSlot_hostKept]

theorem takeBuffer_only (r : Req) (code : Nat) (p : List Byte) (s : State) : Only [.host] s (takeBuffer r code p s) := by
  apply Only.fields <;> simp

/-- A packet taken out of its inbound buffer leaves the rest of the host interface. -/
theorem takeBuffer_hostKept (r : Req) (code : Nat) (p : List Byte) (s : State) :
    (takeBuffer r code p s).host = { s.host with spiIn := (takeBuffer r code p s).host.spiIn } := by
  unfold takeBuffer
  repeat' split
  all_goals rfl

@[simp] theorem takeBuffer_sessions (r : Req) (code : Nat) (p : List Byte) (s : State) :
    (takeBuffer r code p s).host.sessions = s.host.sessions := by
  rw [takeBuffer_hostKept]

@[simp] theorem takeBuffer_cmds (r : Req) (code : Nat) (p : List Byte) (s : State) : (takeBuffer r code p s).host.cmds = s.host.cmds := by
  rw [takeBuffer_hostKept]

@[simp] theorem takeBuffer_journal (r : Req) (code : Nat) (p : List Byte) (s : State) :
    (takeBuffer r code p s).host.journal = s.host.journal := by
  rw [takeBuffer_hostKept]

@[simp] theorem takeBuffer_epochCounter (r : Req) (code : Nat) (p : List Byte) (s : State) :
    (takeBuffer r code p s).host.epochCounter = s.host.epochCounter := by
  rw [takeBuffer_hostKept]

/-! Replies sent (R38, R39). -/

/-- The host interface but for the outbound queue of the SPI host port, the one part of it that a reply goes through. -/
def HostState.quiet (h : HostState) : HostState := { h with spiOut := [], outOverrun := false }

theorem sendReply_quiet (dst : Src) (bytes : List Byte) (s : State) : (sendReply dst bytes s).host.quiet = s.host.quiet := by
  unfold sendReply
  repeat' split
  all_goals rfl

theorem sendReplies_quiet (dst : Src) (epoch : Nat) (retry : Bool) (qs : List Reply) (s : State) :
    (sendReplies dst epoch retry qs s).host.quiet = s.host.quiet := by
  unfold sendReplies
  induction qs generalizing s with
  | nil => rfl
  | cons q qs ih => rw [List.foldl_cons, ih, sendReply_quiet]

theorem sendFor_quiet (c : Cmd) (status : Nat) (ps : List Byte) (s : State) : (sendFor c status ps s).host.quiet = s.host.quiet := by
  unfold sendFor
  split
  · split
    · rfl
    · exact sendReplies_quiet _ _ _ _ s
  · rfl

theorem sendReply_only (dst : Src) (bytes : List Byte) (s : State) : Only [.host, .out] s (sendReply dst bytes s) := by
  apply Only.fields <;> simp

theorem sendReplies_only (dst : Src) (epoch : Nat) (retry : Bool) (qs : List Reply) (s : State) :
    Only [.host, .out] s (sendReplies dst epoch retry qs s) := by
  apply Only.fields <;> simp

theorem sendFor_only (c : Cmd) (status : Nat) (ps : List Byte) (s : State) : Only [.host, .out] s (sendFor c status ps s) := by
  apply Only.fields <;> simp

section
variable {s t : State} (h : t.host.quiet = s.host.quiet)
include h

theorem sessions_of_quiet : t.host.sessions = s.host.sessions := (congrArg HostState.sessions h :)

theorem cmds_of_quiet : t.host.cmds = s.host.cmds := (congrArg HostState.cmds h :)

theorem journal_of_quiet : t.host.journal = s.host.journal := (congrArg HostState.journal h :)

theorem epochCounter_of_quiet : t.host.epochCounter = s.host.epochCounter := (congrArg HostState.epochCounter h :)

theorem openSlot_of_quiet (n : Nat) : openSlot t n = openSlot s n := openSlot_of_sessions (sessions_of_quiet h) n

end

/-! A refusal (R43, R76). -/

/-- What the rejection record of a session becomes. -/
def rejectedOnce (hdr : List Byte) (x : Session) : Session :=
  if x.isOpen then { x with rejCount := min (x.rejCount + 1) (2 ^ 32 - 1), rejLast := hdr } else x

/-- A refusal sends one reply and counts it in the session's record. -/
theorem reject_sends (r : Req) (code status : Nat) (b : Bool) (ps : List Byte) (s : State) :
    ∃ (dst : Src) (bytes : List Byte), reject r code status b ps s =
      modSlot r.session.toNat (rejectedOnce (reqHeader r code)) (sendReply dst bytes s) :=
  ⟨_, _, rfl⟩

theorem reject_only (r : Req) (code status : Nat) (b : Bool) (ps : List Byte) (s : State) :
    Only [.host, .out] s (reject r code status b ps s) := by
  obtain ⟨dst, bytes, heq⟩ := reject_sends r code status b ps s
  rw [heq]
  exact (sendReply_only dst bytes s).comp (modSlot_only _ _ _)

@[simp] theorem reject_cmds (r : Req) (code status : Nat) (b : Bool) (ps : List Byte) (s : State) :
    (reject r code status b ps s).host.cmds = s.host.cmds := by
  obtain ⟨dst, bytes, heq⟩ := reject_sends r code status b ps s
  rw [heq, modSlot_cmds, cmds_of_quiet (sendReply_quiet dst bytes s)]

@[simp] theorem reject_journal (r : Req) (code status : Nat) (b : Bool) (ps : List Byte) (s : State) :
    (reject r code status b ps s).host.journal = s.host.journal := by
  obtain ⟨dst, bytes, heq⟩ := reject_sends r code status b ps s
  rw [heq, modSlot_journal, journal_of_quiet (sendReply_quiet dst bytes s)]

/-- The sessions after a refusal: the record of the packet's own session, where it is open. -/
theorem reject_sessions (r : Req) (code status : Nat) (b : Bool) (ps : List Byte) (s : State) :
    (reject r code status b ps s).host.sessions = if r.session.toNat = 0 then s.host.sessions
      else modAt s.host.sessions (r.session.toNat - 1) (rejectedOnce (reqHeader r code)) := by
  obtain ⟨dst, bytes, heq⟩ := reject_sends r code status b ps s
  rw [heq, modSlot]
  split <;> simp only [sessions_of_quiet (sendReply_quiet dst bytes s)]

theorem reject_slot {r : Req} {code status : Nat} {b : Bool} {ps : List Byte} {s : State} {n : Nat} {x : Session}
    (hx : s.host.sessions[n]? = some x) : (reject r code status b ps s).host.sessions[n]? =
      some (if n + 1 = r.session.toNat then rejectedOnce (reqHeader r code) x else x) := by
  rw [reject_sessions]
  by_cases h0 : r.session.toNat = 0
  · have hne : n + 1 ≠ r.session.toNat := by omega
    rw [if_pos h0, if_neg hne, hx]
  · have hn : r.session.toNat - 1 = n ↔ n + 1 = r.session.toNat := by omega
    simp only [if_neg h0, getElem?_modAt, hn, hx, Option.map_some]
    split <;> rfl

theorem rejectedOnce_eq (hdr : List Byte) (x : Session) :
    rejectedOnce hdr x = { x with rejCount := (rejectedOnce hdr x).rejCount, rejLast := (rejectedOnce hdr x).rejLast } := by
  unfold rejectedOnce
  split <;> rfl

theorem rejectedOnce_of_open (hdr : List Byte) {x : Session} (h : x.isOpen = true) :
    (rejectedOnce hdr x).rejCount = min (x.rejCount + 1) (2 ^ 32 - 1) ∧ (rejectedOnce hdr x).rejLast = hdr := by
  simp [rejectedOnce, h]

/-- Settles O8: one reply sent, and the record of the packet's own session. -/
theorem refusalLeaves : Obligations.RefusalLeaves := by
  intro r code status b ps s
  refine ⟨reject_only .., reject_cmds .., reject_journal .., ?_, fun n x hx => ⟨_, reject_slot hx, ?_, fun hn hopen => ?_, fun hn => if_neg hn⟩⟩
  · rw [reject_sessions]
    split
    · rfl
    · exact length_modAt _ _ _
  · split
    · exact rejectedOnce_eq _ x
    · rfl
  · rw [if_pos hn]
    exact rejectedOnce_of_open _ hopen

end Sys2Proof.Machine
end

section
/-! SUPPORT. Packet validation, step by step of Table 02-3 (R43, R52, R53, R57), for every row that is a packet of the host. -/

namespace Sys2Proof.Machine

set_option Elab.async false

/-! The rows. -/

/-- Each row of `hostRows` carries the packets of the opcode that stands at its place in `opDefs`. -/
theorem hostRows_opDefs : List.Forall₂ (fun (h : HostRow) (d : OpDef) => d.code = h.code ∧ d.cls = h.cls ∧
    ∀ r p s, exec (h.row r p) s = .next (packetIn true d r p s)) hostRows opDefs := by
  repeat' first | exact .nil | refine .cons ⟨rfl, rfl, fun _ _ _ => rfl⟩ ?_

/-- A row of the host is packet validation under its opcode. -/
theorem exec_hostRow {h : HostRow} (hh : h ∈ hostRows) :
    ∃ d : OpDef, d.code = h.code ∧ d.cls = h.cls ∧ ∀ r p s, exec (h.row r p) s = .next (packetIn true d r p s) := by
  obtain ⟨i, hi, rfl⟩ := List.getElem_of_mem hh
  exact ⟨opDefs[i]'(hostRows_opDefs.length_eq ▸ hi), hostRows_opDefs.get hi _⟩

/-! Steps 1 to 6: silence, the header and the session. -/

section
variable {b : Bool} {d : OpDef} {r : Req} {p : List Byte} {s : State}

theorem packetIn_unreadable (h : readable r d.code p s = false) : packetIn b d r p s = takeBuffer r d.code p s := by
  simp [packetIn, h]

theorem packetIn_badHeader (hread : readable r d.code p s = true) (hst : headerStatus r p ≠ 0) :
    packetIn b d r p s = reject r d.code (headerStatus r p) true [] (takeBuffer r d.code p s) := by
  simp [packetIn, hread, hst]

theorem packetIn_unbound (hread : readable r d.code p s = true) (hst : headerStatus r p = 0)
    (hopen : openSlot (takeBuffer r d.code p s) r.session.toNat = none) :
    packetIn b d r p s = reject r d.code stUnknownSession true [] (takeBuffer r d.code p s) := by
  simp [packetIn, hread, hst, hopen]

variable {x : Session}

theorem packetIn_otherSource (hread : readable r d.code p s = true) (hst : headerStatus r p = 0)
    (hopen : openSlot (takeBuffer r d.code p s) r.session.toNat = some x) (hsrc : x.src ≠ r.src) (hbind : rebinds d p = false) :
    packetIn b d r p s = reject r d.code stUnknownSession true [] (takeBuffer r d.code p s) := by
  simp [packetIn, hread, hst, hopen, hsrc, hbind]

/-- What a session notes of a packet heard at an instant (R50, R55). -/
def Session.hears (r : Req) (t : Nat) (y : Session) : Session :=
  { y with retries := y.retries + b2n (isRetryPkt r), lastAt := if r.epoch.toNat = y.epoch then t else y.lastAt }

theorem noticed_eq (r : Req) (s : State) : noticed r s = modSlot r.session.toNat (Session.hears r s.time.elapsed) s := rfl

theorem openSlot_noticed (h : openSlot s r.session.toNat = some x) :
    openSlot (noticed r s) r.session.toNat = some (x.hears r s.time.elapsed) :=
  modSlot_openSlot _ _ _ _ h (show x.isOpen = true from isOpen_of_openSlot h)

theorem noticed_only (r : Req) (s : State) : Only [.host] s (noticed r s) := modSlot_only _ _ _

@[simp] theorem noticed_cmds (r : Req) (s : State) : (noticed r s).host.cmds = s.host.cmds := modSlot_cmds _ _ _

@[simp] theorem noticed_journal (r : Req) (s : State) : (noticed r s).host.journal = s.host.journal := modSlot_journal _ _ _

/-- A packet of an open session and its own source is noted, then judged by steps 7 to 12 and by its number. -/
theorem packetIn_session (hread : readable r d.code p s = true) (hst : headerStatus r p = 0)
    (hopen : openSlot (takeBuffer r d.code p s) r.session.toNat = some x) (hsrc : x.src = r.src) : packetIn b d r p s =
      let v := noticed r (takeBuffer r d.code p s)
      if sessionStatus b d r p x ≠ 0 then reject r d.code (sessionStatus b d r p x) false [] v
      else if d.code = 0x0003 then accept d r true p 1 (isSpecOk r) v
      else bySequence d r p (x.hears r s.time.elapsed) v := by
  have hnoted := openSlot_noticed hopen
  rw [noticed_eq, takeBuffer_time] at hnoted
  rw [noticed_eq, takeBuffer_time]
  unfold packetIn
  simp only [hread, hst, hopen, hsrc, Bool.not_true, Bool.false_eq_true, ne_eq, not_true_eq_false, false_and, if_false]
  rw [takeBuffer_time]
  show (if _ then _ else if _ then _ else bySequence d r p ((openSlot (modSlot _ (Session.hears r s.time.elapsed) _) _).getD x) _) = _
  rw [hnoted]
  rfl

end

/-! Steps 7 to 12 (R43). -/

section
variable {d : OpDef} {r : Req} {p : List Byte} {x : Session}

theorem sessionStatus_staleEpoch (b : Bool) (h : r.epoch.toNat ≠ x.epoch) : sessionStatus b d r p x = stStaleEpoch := by
  simp [sessionStatus, h]

variable (hep : r.epoch.toNat = x.epoch)
include hep

theorem sessionStatus_notAuthenticated (b : Bool) (hauth : x.authed = false) (h2 : d.code ≠ 2) (h5 : d.code ≠ 5) :
    sessionStatus b d r p x = stNotAuthenticated := by
  simp [sessionStatus, hep, hauth, h2, h5]

variable (hauth : x.authed = true ∨ d.code = 2 ∨ d.code = 5)
include hauth

theorem sessionStatus_authenticated (b : Bool) : sessionStatus b d r p x = if ¬b then stUnknownOpcode
    else if r.cls.toNat ≠ d.cls then stClassMismatch
    else if x.role < roleNeeded d.code x p then stRoleInsufficient
    else 0 := by
  have hpass : ¬(¬x.authed ∧ d.code ≠ 0x0002 ∧ d.code ≠ 0x0005) := by
    rintro ⟨hno, h2, h5⟩
    rcases hauth with h | h | h
    · exact hno h
    · exact h2 h
    · exact h5 h
  rw [sessionStatus, if_neg (by simp [hep]), if_neg hpass]

theorem sessionStatus_classMismatch (hcls : r.cls.toNat ≠ d.cls) : sessionStatus true d r p x = stClassMismatch := by
  simp [sessionStatus_authenticated hep hauth, hcls]

theorem sessionStatus_roleInsufficient (hcls : r.cls.toNat = d.cls) (hrole : x.role < roleNeeded d.code x p) :
    sessionStatus true d r p x = stRoleInsufficient := by
  simp [sessionStatus_authenticated hep hauth, hcls, hrole]

theorem sessionStatus_passes (hcls : r.cls.toNat = d.cls) (hrole : roleNeeded d.code x p ≤ x.role) : sessionStatus true d r p x = 0 := by
  simp [sessionStatus_authenticated hep hauth, hcls, hrole]

end

section
variable {b : Bool} {d : OpDef} {r : Req} {p : List Byte} {s : State} {x : Session} {st : Nat}
variable (hread : readable r d.code p s = true) (hst : headerStatus r p = 0)
  (hopen : openSlot (takeBuffer r d.code p s) r.session.toNat = some x) (hsrc : x.src = r.src)
include hread hst hopen hsrc

theorem packetIn_sessionRefused (h : sessionStatus b d r p x = st) (h0 : st ≠ 0) :
    packetIn b d r p s = reject r d.code st false [] (noticed r (takeBuffer r d.code p s)) := by
  subst h
  rw [packetIn_session hread hst hopen hsrc]
  exact if_pos h0

theorem packetIn_bySequence (h : sessionStatus b d r p x = 0) (h3 : d.code ≠ 3) : packetIn b d r p s =
    bySequence d r p (x.hears r s.time.elapsed) (noticed r (takeBuffer r d.code p s)) := by
  rw [packetIn_session hread hst hopen hsrc]
  simp only [h, ne_eq, not_true_eq_false, if_false, h3]

end

/-! Step 13 (R52, R53, R57). -/

section
variable {d : OpDef} {r : Req} {p : List Byte} {s : State} {x : Session}

theorem bySequence_gap (hlo : 65 ≤ seqD x r.seq) (hhi : seqD x r.seq ≤ 4294967232) :
    bySequence d r p x s = reject r d.code stSeqGap false [] s := by
  have hnew : ¬(1 ≤ seqD x r.seq ∧ seqD x r.seq ≤ 64) := by omega
  have hbehind : ¬(seqD x r.seq = 0 ∨ 4294967233 ≤ seqD x r.seq) := by omega
  simp [bySequence, hnew, behind, hbehind]

/-- A number of the window behind H that is marked and whose tag reassembles nothing is a duplicate. -/
theorem bySequence_duplicate (hbehind : behind (seqD x r.seq) = true) (hmark : marked x (seqD x r.seq) = true)
    (htag : ∀ q o c fs l t0 t1 sp, keyGet r.tag.toNat x.tags ≠ some (.reassembling q o c fs l t0 t1 sp)) :
    bySequence d r p x s = duplicate r d.code x s := by
  have hnew : ¬(1 ≤ seqD x r.seq ∧ seqD x r.seq ≤ 64) := by
    simp only [behind, Bool.or_eq_true, beq_iff_eq, decide_eq_true_eq] at hbehind
    omega
  simp only [bySequence, if_neg hnew, hbehind, hmark, if_true] -- `htag` takes the match to its last branch.

variable {code : Nat}

theorem duplicate_ended {q o c js k n st : Nat} {reps : List Reply} (h : keyGet r.tag.toNat x.tags = some (.ended q o c reps js k n st)) :
    duplicate r code x s = if q = r.seq.toNat ∧ o = code ∧ c = r.cls.toNat then sendReplies x.src x.epoch true reps s
      else reject r code stDuplicate false [] s := by
  simp only [duplicate, h]

theorem duplicate_inFlight {q o c e : Nat} {j : JEntry} (h : keyGet r.tag.toNat x.tags = some (.inFlight q o c e))
    (hj : findEntry s e = some j) : duplicate r code x s = if q = r.seq.toNat ∧ o = code ∧ c = r.cls.toNat then
      sendReply x.src ((replyOf r code (if j.k = 0 then stAccepted else stPartial) (progressBytes j)).packet x.epoch false) s
      else reject r code stDuplicate false [] s := by
  simp only [duplicate, h, hj]

/-- A duplicate executes nothing: at most replies are sent and a refusal counted. -/
theorem duplicate_keeps (r : Req) (code : Nat) (x : Session) (s : State) : Only [.host, .out] s (duplicate r code x s) ∧
    (duplicate r code x s).host.cmds = s.host.cmds ∧ (duplicate r code x s).host.journal = s.host.journal := by
  have hreject : Only [.host, .out] s (reject r code stDuplicate false [] s) ∧
      (reject r code stDuplicate false [] s).host.cmds = s.host.cmds ∧
      (reject r code stDuplicate false [] s).host.journal = s.host.journal :=
    ⟨reject_only .., reject_cmds .., reject_journal ..⟩
  unfold duplicate
  split
  · split
    · exact ⟨sendReplies_only .., cmds_of_quiet (sendReplies_quiet ..), journal_of_quiet (sendReplies_quiet ..)⟩
    · exact hreject
  · split
    · split
      · exact ⟨sendReply_only .., cmds_of_quiet (sendReply_quiet ..), journal_of_quiet (sendReply_quiet ..)⟩
      · exact ⟨Only.refl, rfl, rfl⟩
    · exact hreject
  · exact hreject

end

/-! The statements. -/

theorem sessionOpenPacket_unreadable {r : Req} {p : List Byte} {s : State} (h : readable r 1 p s = false) :
    sessionOpenPacket r p s = takeBuffer r 1 p s := by
  simp [sessionOpenPacket, h]

/-- Settles O6: every row of the host begins with steps 1 to 3. -/
theorem packetSilent : Obligations.PacketSilent := by
  refine fun r p s => ⟨fun h hh hread => ?_, fun hread => congrArg Host.Outcome.next (sessionOpenPacket_unreadable hread)⟩
  obtain ⟨d, hcode, -, hexec⟩ := exec_hostRow hh
  rw [hexec, ← hcode, packetIn_unreadable (hcode ▸ hread)]

/-- Settles O7: each status by the lemma of its step. -/
theorem packetRefused : Obligations.PacketRefused := by
  intro h hh r p s
  obtain ⟨d, hcode, hcls, hexec⟩ := exec_hostRow hh
  simp only [hexec, ← hcode, ← hcls, Host.Outcome.next.injEq]
  refine fun hread => ⟨packetIn_badHeader hread, packetIn_unbound hread, fun hst x hopen => ⟨fun hsrc hbind => ?_, fun hsrc hep => ?_,
    fun hsrc hep => ⟨fun hauth h2 h5 => ?_, fun hauth => ⟨fun hc => ?_, fun hc hrole => ?_, fun hc hrole h3 hlo hhi => ?_⟩⟩⟩⟩
  · exact packetIn_otherSource hread hst hopen hsrc (by simpa [rebinds] using hbind)
  · exact packetIn_sessionRefused hread hst hopen hsrc (sessionStatus_staleEpoch true hep) (by decide)
  · exact packetIn_sessionRefused hread hst hopen hsrc (sessionStatus_notAuthenticated hep true hauth h2 h5) (by decide)
  · exact packetIn_sessionRefused hread hst hopen hsrc (sessionStatus_classMismatch hep hauth hc) (by decide)
  · exact packetIn_sessionRefused hread hst hopen hsrc (sessionStatus_roleInsufficient hep hauth hc hrole) (by decide)
  · rw [packetIn_bySequence hread hst hopen hsrc (sessionStatus_passes hep hauth hc hrole) h3]
    exact bySequence_gap hlo hhi

/-- Settles O9: a marked number on a tag that reassembles nothing is answered by the state of its tag. -/
theorem duplicateNotExecuted : Obligations.DuplicateNotExecuted := by
  intro h hh h3 r p s x u v hread hst hopen hsrc hep hauth hc hrole hbehind hmark
  obtain ⟨d, hcode, hcls, hexec⟩ := exec_hostRow hh
  have hduplicate : (∀ q o c fs l t0 t1 sp, keyGet r.tag.toNat x.tags ≠ some (.reassembling q o c fs l t0 t1 sp)) →
      exec (h.row r p) s = .next (duplicate r h.code (x.hears r s.time.elapsed) v) := by
    intro htag
    rw [← hcode] at h3 hauth hrole hread
    rw [← hcls] at hc
    have hpass := sessionStatus_passes hep hauth hc hrole
    rw [hexec, packetIn_bySequence hread hst (by rw [hcode]; exact hopen) hsrc hpass h3,
      bySequence_duplicate (x := x.hears r s.time.elapsed) hbehind hmark htag, hcode]
  refine ⟨fun q o c reps js k n st htag => ?_, fun q o c e j htag hentry => ?_, fun htag => ⟨_, hduplicate htag, ?_⟩⟩
  · rw [hduplicate (by simp [htag]), duplicate_ended (x := x.hears r s.time.elapsed) htag]
    exact ⟨fun hsame => by rw [if_pos hsame]; rfl, fun hother => by rw [if_neg hother]⟩
  · have hentry' : findEntry v e = some j := by
      rw [← hentry]
      simp only [findEntry, v, u, noticed_journal, takeBuffer_journal]
    rw [hduplicate (by simp [htag]), duplicate_inFlight (x := x.hears r s.time.elapsed) htag hentry']
    exact ⟨fun hsame => by rw [if_pos hsame]; rfl, fun hother => by rw [if_neg hother]⟩
  · obtain ⟨honly, hcmds, hjournal⟩ := duplicate_keeps r h.code (x.hears r s.time.elapsed) v
    have hnoted : Only [.host] s v := (takeBuffer_only r h.code p s).trans (noticed_only r u)
    refine ⟨hnoted.comp honly, hcmds.trans ?_, hjournal.trans ?_⟩
    · rw [noticed_cmds, takeBuffer_cmds]
    · rw [noticed_journal, takeBuffer_journal]

/-- Settles O1: the front command is what `step` looks at. -/
theorem stepRunsFront : Obligations.StepRunsFront := by
  intro c cs s hfront
  rw [step, hfront]

end Sys2Proof.Machine
end

section
/-! SUPPORT. Commands in flight and their journal entries (R44, R45, R55, R56, R70, R71): how they are found after a change, what an admitted
command stands in, and what its end leaves. -/

namespace Sys2Proof.Machine

set_option Elab.async false

/-! Found by entry number. -/

theorem find?_map_of_kept {α : Type} {q : α → Bool} {g : α → α} (h : ∀ a, q (g a) = q a) (l : List α) :
    (l.map g).find? q = (l.find? q).map g := by
  rw [List.find?_map, show q ∘ g = q from funext h]

theorem findCmd_of_cmds {s t : State} (h : t.host.cmds = s.host.cmds) (e : Nat) : findCmd t e = findCmd s e := by
  rw [findCmd, h, findCmd]

theorem entry_of_findCmd {s : State} {e : Nat} {c : Cmd} (h : findCmd s e = some c) : c.entry = e := by
  simpa using List.find?_some h

section
variable {e m : Nat} {f : Cmd → Cmd} {s : State} (hf : ∀ c, (f c).entry = c.entry)
include hf

theorem findCmd_modCmd : findCmd (modCmd e f s) m = (findCmd s m).map fun c => if c.entry == e then f c else c :=
  find?_map_of_kept (fun c => by
    show ((if c.entry == e then f c else c).entry == m) = (c.entry == m)
    split <;> simp only [hf]) _

theorem findCmd_modCmd_same {c : Cmd} (h : findCmd s e = some c) : findCmd (modCmd e f s) e = some (f c) := by
  rw [findCmd_modCmd hf, h, Option.map_some, if_pos (beq_iff_eq.mpr (entry_of_findCmd h))]

theorem findCmd_modCmd_other (h : m ≠ e) : findCmd (modCmd e f s) m = findCmd s m := by
  rw [findCmd_modCmd hf]
  cases hc : findCmd s m with
  | none => rfl
  | some c =>
    have hne : c.entry ≠ e := entry_of_findCmd hc ▸ h
    simp [hne]

end

theorem findEntry_of_journal {s t : State} (h : t.host.journal = s.host.journal) (e : Nat) : findEntry t e = findEntry s e := by
  rw [findEntry, h, findEntry]

/-- The slot of an entry after a change of it. -/
theorem findSlot_modEntry {f : JEntry → JEntry} (hf : ∀ j, (f j).entry = j.entry) (e : Nat) (commit : Bool) (s : State) :
    (modEntry e commit f s).host.journal.find? (fun j => j.cur.entry == e) = (s.host.journal.find? fun j => j.cur.entry == e).map
      fun j => ⟨f j.cur, if commit then some (f j.cur) else j.mram⟩ := by
  have hkept : ∀ j : JSlot, ((if j.cur.entry == e then ⟨f j.cur, if commit then some (f j.cur) else j.mram⟩ else j : JSlot).cur.entry == e) =
      (j.cur.entry == e) := by
    intro j
    split <;> simp only [hf]
  refine (find?_map_of_kept hkept _).trans ?_
  cases hj : s.host.journal.find? fun j => j.cur.entry == e with
  | none => rfl
  | some j => rw [Option.map_some, if_pos (List.find?_some hj), Option.map_some]

theorem findEntry_modEntry {f : JEntry → JEntry} (hf : ∀ j, (f j).entry = j.entry) (e : Nat) (commit : Bool) (s : State) :
    findEntry (modEntry e commit f s) e = (findEntry s e).map f := by
  rw [findEntry, findSlot_modEntry hf, findEntry]
  cases s.host.journal.find? fun j => j.cur.entry == e <;> rfl

/-- A command whose steps have begun. -/
def Cmd.begun (c : Cmd) : Cmd := { c with started := true }

theorem modCmd_only (e : Nat) (f : Cmd → Cmd) (s : State) : Only [.host] s (modCmd e f s) :=
  Only.setHost _

/-! A command admitted. -/

theorem heard_only (code : Nat) (r : Req) (p : List Byte) (s : State) : Only [.host] s (heard code r p s) :=
  (takeBuffer_only r code p s).trans (modSlot_only _ _ _)

theorem newEntry_only (j : JEntry) (s : State) : Only [.host] s (newEntry j s) :=
  Only.setHost _

theorem putTag_only (slot tag : Nat) (t : TagState) (s : State) : Only [.host] s (putTag slot tag t s) :=
  modSlot_only _ _ _

theorem openSlot_putTag {slot : Nat} {s : State} {x : Session} (h : openSlot s slot = some x) (tag : Nat) (t : TagState) :
    openSlot (putTag slot tag t s) slot = some { x with tags := keyPut tag t x.tags } :=
  modSlot_openSlot _ _ _ _ h (show x.isOpen = true from isOpen_of_openSlot h)

theorem tag_putTag {slot : Nat} {s : State} {x : Session} (h : openSlot s slot = some x) (tag : Nat) (t : TagState) :
    (openSlot (putTag slot tag t s) slot).bind (fun y => keyGet tag y.tags) = some t := by
  rw [openSlot_putTag h]
  exact keyGet_keyPut_same tag t x.tags

/-- The command and its journal entry stand, its tag is still to be taken. -/
def entered (code cls n : Nat) (r : Req) (p : List Byte) (s : State) : State :=
  let s1 := newEntry (entryOf code cls n r p s) (heard code r p s)
  { s1 with host := { s1.host with cmds := s1.host.cmds ++ [cmdOf code cls n r p s] } }

theorem admitted_eq (code cls n : Nat) (r : Req) (p : List Byte) (s : State) : admitted code cls n r p s =
    putTag r.session.toNat r.tag.toNat (.inFlight r.seq.toNat code cls s.host.nextEntry) (entered code cls n r p s) := rfl

theorem entered_sessions (code cls n : Nat) (r : Req) (p : List Byte) (s : State) :
    (entered code cls n r p s).host.sessions = (heard code r p s).host.sessions := rfl

theorem admitted_only (code cls n : Nat) (r : Req) (p : List Byte) (s : State) : Only [.host] s (admitted code cls n r p s) :=
  ((heard_only code r p s).trans (newEntry_only _ _)).trans ((Only.setHost _).trans (putTag_only _ _ _ _))

theorem admitted_cmds (code cls n : Nat) (r : Req) (p : List Byte) (s : State) :
    (admitted code cls n r p s).host.cmds = s.host.cmds ++ [cmdOf code cls n r p s] := by
  simp only [admitted, putTag_host, newEntry, heard_host]

/-- Numbers marked leave all of a session but H and the marks. -/
theorem markSeq_eq (q : BitVec 32) (x : Session) : markSeq q x = { x with high := (markSeq q x).high, marks := (markSeq q x).marks } := by
  unfold markSeq
  extract_lets d
  repeat' split
  all_goals rfl

theorem markSeq_isOpen (q : BitVec 32) (x : Session) : (markSeq q x).isOpen = x.isOpen := by
  rw [markSeq_eq]

/-- A session that hears a new number at an instant and marks it (R50, R52). -/
def Session.numbered (r : Req) (t : Nat) (y : Session) : Session :=
  markSeq r.seq { y with retries := y.retries + b2n (isRetryPkt r), lastAt := t }

theorem numbered_isOpen (r : Req) (t : Nat) (y : Session) : (y.numbered r t).isOpen = y.isOpen :=
  markSeq_isOpen _ _

section
variable {code cls n : Nat} {r : Req} {p : List Byte} {s : State} {x : Session} (h : Fresh code cls n r p s x)
include h

theorem Fresh.findCmd_admitted (n' : Nat) : findCmd (admitted code cls n' r p s) s.host.nextEntry = some (cmdOf code cls n' r p s) := by
  rw [findCmd, admitted_cmds]
  refine find_append_last _ _ _ (fun d hd => ?_) (by simp [cmdOf])
  have hlt := h.entry.1 d hd
  exact beq_eq_false_iff_ne.mpr hlt.ne

theorem Fresh.findEntry_admitted (n' : Nat) :
    findEntry (admitted code cls n' r p s) s.host.nextEntry = some (entryOf code cls n' r p s) := by
  have hjournal : (admitted code cls n' r p s).host.journal = (newEntry (entryOf code cls n' r p s) (heard code r p s)).host.journal := by
    simp only [admitted, putTag_host]
  have hold : ∀ j ∈ (if (heard code r p s).host.journal.length < 16384 then (heard code r p s).host.journal
      else dropOldest (heard code r p s) (heard code r p s).host.journal), j ∈ s.host.journal := by
    rw [(heard_host code r p s).2.1]
    split
    · exact fun _ hj => hj
    · exact dropOldest_sub _ _
  rw [findEntry, hjournal, newEntry, find_append_last _ _ _ (fun j hj => ?_) (by simp [entryOf])]
  · rfl
  · exact beq_eq_false_iff_ne.mpr (h.entry.2 j (hold j hj)).ne

/-- The session of an admitted command: its number marked, its tag in flight. -/
theorem Fresh.openSlot_admitted (n' : Nat) : ∃ y : Session, openSlot (admitted code cls n' r p s) r.session.toNat = some y ∧
    y = { x with retries := y.retries, lastAt := s.time.elapsed, high := y.high, marks := y.marks,
                 tags := keyPut r.tag.toNat (.inFlight r.seq.toNat code cls s.host.nextEntry) x.tags } := by
  obtain ⟨hopen, -, -⟩ := h.session
  have htaken : openSlot (takeBuffer r code p s) r.session.toNat = some x := (takeBuffer_openSlot ..).trans hopen
  have hheard : openSlot (heard code r p s) r.session.toNat = some (x.numbered r s.time.elapsed) :=
    modSlot_openSlot _ _ _ _ htaken ((numbered_isOpen ..).trans (isOpen_of_openSlot hopen))
  have hentered := (openSlot_of_sessions (entered_sessions code cls n' r p s) _).trans hheard
  rw [admitted_eq]
  refine ⟨_, openSlot_putTag hentered _ _, ?_⟩
  rw [Session.numbered, markSeq_eq]

end

/-! The end of a command (R55, R56, R70). -/

/-- The journal entry of a command that ends. -/
def endedEntry (c : Cmd) (state : JState) (k status : Nat) (first : Option Nat) (s : State) (j : JEntry) : JEntry :=
  { j with state := state, k := k, status := status, replySent := answers c s, ended := now s, firstPeriod := first <|> j.firstPeriod }

/-- The final reply of a command as its tag retains it. -/
def retainedReplies (c : Cmd) (status : Nat) (reply : List Byte) : List Reply :=
  replyFragments { cls := c.cls, session := c.slot, tag := c.tag, fragment := 0, seq := c.seq, opcode := c.opcode, status := status,
                   last := true, params := [] } reply

/-- The journal entry of a command that ends is final; it is in MRAM at once where a command of class 1 to 3 is done (R71). -/
def closedEntry (c : Cmd) (state : JState) (k status : Nat) (first : Option Nat) (s : State) : State :=
  modEntry c.entry (state == .done && (c.cls != 0)) (endedEntry c state k status first s) s

/-- A command that ends has its journal entry final, its final reply sent and its place left; what its tag holds is still to change. -/
def leftFlight (c : Cmd) (state : JState) (k status : Nat) (reply : List Byte) (first : Option Nat) (s : State) : State :=
  let s2 := sendFor c status reply (closedEntry c state k status first s)
  { s2 with host := { s2.host with cmds := s2.host.cmds.filter (fun d => d.entry != c.entry) } }

section
variable (c : Cmd) (state : JState) (k status : Nat) (reply : List Byte) (first : Option Nat) (s : State)

theorem leftFlight_sessions : (leftFlight c state k status reply first s).host.sessions = s.host.sessions :=
  (sessions_of_quiet (sendFor_quiet c status reply (closedEntry c state k status first s)) :)

theorem leftFlight_cmds : (leftFlight c state k status reply first s).host.cmds = s.host.cmds.filter fun d => d.entry != c.entry :=
  congrArg (List.filter _) (cmds_of_quiet (sendFor_quiet c status reply (closedEntry c state k status first s)) :)

theorem findEntry_leftFlight :
    findEntry (leftFlight c state k status reply first s) c.entry = (findEntry s c.entry).map (endedEntry c state k status first s) := by
  have hjournal : (leftFlight c state k status reply first s).host.journal = (closedEntry c state k status first s).host.journal :=
    (journal_of_quiet (sendFor_quiet c status reply (closedEntry c state k status first s)) :)
  rw [findEntry_of_journal hjournal]
  exact findEntry_modEntry (f := endedEntry c state k status first s) (fun _ => rfl) _ _ s

/-- After `leftFlight` the end of a command changes at most what its tag holds. -/
theorem endCmd_leftFlight : endCmd c state k status reply first s = leftFlight c state k status reply first s ∨
    ∃ f : Session → Session, endCmd c state k status reply first s = modSlot c.slot f (leftFlight c state k status reply first s) := by
  unfold endCmd
  extract_lets sent commit s1 s2 s3
  repeat' split
  case h_1.isTrue.isTrue => exact .inr ⟨_, rfl⟩
  case h_1.isTrue.isFalse => exact .inr ⟨_, rfl⟩
  all_goals exact .inl rfl

theorem endCmd_cmds : (endCmd c state k status reply first s).host.cmds = s.host.cmds.filter fun d => d.entry != c.entry := by
  rw [← leftFlight_cmds c state k status reply first s]
  obtain h | ⟨f, h⟩ := endCmd_leftFlight c state k status reply first s <;> rw [h]
  exact modSlot_cmds _ _ _

theorem findEntry_endCmd :
    findEntry (endCmd c state k status reply first s) c.entry = (findEntry s c.entry).map (endedEntry c state k status first s) := by
  rw [← findEntry_leftFlight c state k status reply first s]
  obtain h | ⟨f, h⟩ := endCmd_leftFlight c state k status reply first s <;> rw [h]
  exact findEntry_of_journal (modSlot_journal _ _ _) _

theorem findCmd_endCmd_same : findCmd (endCmd c state k status reply first s) c.entry = none := by
  rw [findCmd, endCmd_cmds, List.find?_eq_none]
  intro d hd
  simpa using (List.mem_filter.mp hd).2

theorem findCmd_endCmd_other {e : Nat} (h : e ≠ c.entry) : findCmd (endCmd c state k status reply first s) e = findCmd s e := by
  rw [findCmd, endCmd_cmds, List.find?_filter, findCmd]
  congr 1
  funext d
  by_cases hd : d.entry = e
  · simp [hd, h]
  · simp [hd]

/-- A command that ends under the epoch of its session, its tag in flight, has its final reply retained on that tag. -/
theorem endCmd_retains {x : Session} {o cl : Nat} (htag : c.noTag = false) (horphan : c.orphan = false) (hopen : openSlot s c.slot = some x)
    (hheld : keyGet c.tag x.tags = some (.inFlight c.seq o cl c.entry)) (hep : x.epoch = c.epoch) :
    endCmd c state k status reply first s =
      putTag c.slot c.tag (.ended c.seq c.opcode c.cls (retainedReplies c status reply) state.code k c.n status)
        (leftFlight c state k status reply first s) := by
  have hleft : openSlot (leftFlight c state k status reply first s) c.slot = some x :=
    (openSlot_of_sessions (leftFlight_sessions c state k status reply first s) _).trans hopen
  unfold endCmd
  extract_lets sent commit s1 s2 kept s3 y
  have hs3 : leftFlight c state k status reply first s = s3 := rfl
  rw [hs3] at hleft ⊢
  have hy : y.epoch = c.epoch := by simp only [y, hleft, Option.getD_some, hep]
  clear_value s3 y
  simp only [htag, horphan, Bool.or_self, Bool.false_eq_true, if_false, hleft, Option.bind_some, hheld, and_self, if_true, hy]
  rfl

end

/-- Settles O10: the entry, the tag and the place of the command that ends, each by the rule of its list. -/
theorem endedCommand : Obligations.EndedCommand := by
  intro code cls n r p s x hfresh js k status reply first c t
  refine ⟨(admitted_only code cls n r p s).comp (endCmd_only ..), findCmd_endCmd_same .., fun d hd => ?_, ?_, ?_⟩
  · have hlt := hfresh.entry.1 d hd
    rw [endCmd_cmds, admitted_cmds]
    exact List.mem_filter.mpr ⟨List.mem_append_left _ hd, bne_iff_ne.mpr hlt.ne⟩
  · exact ⟨_, (findEntry_endCmd ..).trans (congrArg (Option.map _) (hfresh.findEntry_admitted n)), rfl, rfl, rfl⟩
  · obtain ⟨y, hopen, hy⟩ := hfresh.openSlot_admitted n
    have hheld : keyGet r.tag.toNat y.tags = some (.inFlight r.seq.toNat code cls s.host.nextEntry) := by
      rw [hy]
      exact keyGet_keyPut_same _ _ _
    have hep : y.epoch = r.epoch.toNat := by
      rw [hy]
      exact hfresh.session.2.2.symm
    have hretained := endCmd_retains c js k status reply first (admitted code cls n r p s) rfl rfl hopen hheld hep
    have hleft := openSlot_of_sessions (leftFlight_sessions c js k status reply first (admitted code cls n r p s)) r.session.toNat
    refine ⟨retainedReplies c status reply, ?_⟩
    rw [show t = _ from hretained]
    exact tag_putTag (hleft.trans hopen) _ _

end Sys2Proof.Machine
end

section
/-! SUPPORT. SESSION_OPEN (R47, R49): the slot it takes and what bars it. -/

namespace Sys2Proof.Machine

set_option Elab.async false

theorem eq_zero_of_firstOf {l : List Nat} (h : firstOf l = 0) : ∀ n ∈ l, n = 0 := by
  induction l with
  | nil => simp
  | cons n l ih =>
    cases n with
    | zero => simpa using ih h
    | succ n => exact absurd h (Nat.succ_ne_zero n)

theorem when_eq_zero {b : Bool} {st : Nat} (h0 : st ≠ 0) (h : when_ b st = 0) : b = false := by
  cases b
  · rfl
  · exact absurd h h0

section
variable {src : Src} {p : List Byte} {r : Req} {s : State}

/-- A SESSION_OPEN that nothing bars finds a free slot. -/
theorem freeSlot_of_openStatus (h : openStatus src p s = 0) : ∃ i, freeSlot s = some i := by
  have hfree : when_ (freeSlot s).isNone stNoSession = 0 := eq_zero_of_firstOf h _ (by simp)
  have hsome := when_eq_zero (by decide) hfree
  exact Option.isSome_iff_exists.mp (by simpa using hsome)

theorem lt_of_freeSlot {i : Nat} (h : freeSlot s = some i) : i < s.host.sessions.length :=
  (List.findIdx?_eq_some_iff_findIdx_eq.mp h).1

/-- Slot `i + 1` taken by a new session, under the epoch and the challenge issued to it. -/
def seatNew (i : Nat) (x : Session) (s : State) : State :=
  { s with host := { s.host with sessions := modAt s.host.sessions i (fun _ => x), epochCounter := x.epoch, randoms := s.host.randoms + 16 } }

theorem seatNew_sessions (i : Nat) (x : Session) (s : State) :
    (seatNew i x s).host.sessions = (modSlot (i + 1) (fun _ => x) s).host.sessions := rfl

theorem openSlot_seatNew_same {i : Nat} {x : Session} (hi : i < s.host.sessions.length) (hx : x.isOpen = true) :
    openSlot (seatNew i x s) (i + 1) = some x := by
  rw [openSlot_of_sessions (seatNew_sessions i x s), openSlot, slotNo_modSlot, if_pos rfl]
  simp [slotNo, hi, hx]

theorem openSlot_seatNew_other {i n : Nat} (x : Session) (h : n ≠ i + 1) : openSlot (seatNew i x s) n = openSlot s n :=
  (openSlot_of_sessions (seatNew_sessions i x s) n).trans (openSlot_modSlot_other h _ s)

/-- A SESSION_OPEN that passes its header is one reply, after the slot is taken where nothing bars it. -/
theorem sessionOpenPacket_passed (hread : readable r 1 p s = true) (hst : headerStatus r p = 0) :
    ∃ bytes : List Byte, sessionOpenPacket r p s = sendReply r.src bytes
      (if openStatus r.src p (takeBuffer r 1 p s) ≠ 0 then takeBuffer r 1 p s
        else seatNew ((freeSlot (takeBuffer r 1 p s)).getD 0) (openedSession r.src p (takeBuffer r 1 p s)) (takeBuffer r 1 p s)) := by
  unfold sessionOpenPacket
  extract_lets u st rep i x ps h
  simp only [hread, hst, Bool.not_true, Bool.false_eq_true, if_false, ne_eq, not_true_eq_false]
  split <;> exact ⟨_, rfl⟩

theorem sessionOpen_barred (hread : readable r 1 p s = true) (hst : headerStatus r p = 0) (hbar : openStatus r.src p (takeBuffer r 1 p s) ≠ 0) :
    ∃ t : State, exec (.sessionOpen r p) s = .next t ∧ t.host.sessions = s.host.sessions ∧ t.host.epochCounter = s.host.epochCounter ∧
      Only [.host, .out] s t := by
  obtain ⟨bytes, hpacket⟩ := sessionOpenPacket_passed hread hst
  rw [if_pos hbar] at hpacket
  have hquiet := sendReply_quiet r.src bytes (takeBuffer r 1 p s)
  refine ⟨_, congrArg Host.Outcome.next hpacket, ?_, ?_, (takeBuffer_only r 1 p s).comp (sendReply_only _ _ _)⟩
  · rw [sessions_of_quiet hquiet, takeBuffer_sessions]
  · rw [epochCounter_of_quiet hquiet, takeBuffer_epochCounter]

theorem sessionOpen_opens (hread : readable r 1 p s = true) (hst : headerStatus r p = 0) (hfree : openStatus r.src p (takeBuffer r 1 p s) = 0) :
    ∃ i : Nat, freeSlot (takeBuffer r 1 p s) = some i ∧ ∃ t : State, exec (.sessionOpen r p) s = .next t ∧
      openSlot t (i + 1) = some (openedSession r.src p (takeBuffer r 1 p s)) ∧ (∀ n, n ≠ i + 1 → openSlot t n = openSlot s n) ∧
      t.host.epochCounter = nextEpoch s.host.epochCounter ∧ t.host.journal = s.host.journal ∧ t.host.cmds = s.host.cmds ∧
      Only [.host, .out] s t := by
  obtain ⟨i, hi⟩ := freeSlot_of_openStatus hfree
  obtain ⟨bytes, hpacket⟩ := sessionOpenPacket_passed hread hst
  rw [if_neg (not_not_intro hfree), hi, Option.getD_some] at hpacket
  have hquiet := sendReply_quiet r.src bytes (seatNew i (openedSession r.src p (takeBuffer r 1 p s)) (takeBuffer r 1 p s))
  refine ⟨i, hi, _, congrArg Host.Outcome.next hpacket, ?_, fun n hn => ?_, ?_, ?_, ?_, ?_⟩
  · rw [openSlot_of_quiet hquiet]
    exact openSlot_seatNew_same (lt_of_freeSlot hi) rfl
  · rw [openSlot_of_quiet hquiet, openSlot_seatNew_other _ hn, takeBuffer_openSlot]
  · rw [epochCounter_of_quiet hquiet]
    exact congrArg nextEpoch (takeBuffer_epochCounter ..)
  · exact (journal_of_quiet hquiet).trans (takeBuffer_journal ..)
  · exact (cmds_of_quiet hquiet).trans (takeBuffer_cmds ..)
  · exact ((takeBuffer_only r 1 p s).trans (Only.setHost _)).comp (sendReply_only _ _ _)

end

/-- Settles O11: the slot taken, or the reply of what bars it. -/
theorem sessionOpens : Obligations.SessionOpens := by
  intro r p s u hread hst
  exact ⟨sessionOpen_opens hread hst, sessionOpen_barred hread hst⟩

end Sys2Proof.Machine
end

section
/-! SUPPORT. The session and journal opcodes (R48, R50, R51, R61, R68, R74, R76, R77, R117). -/

namespace Sys2Proof.Machine

set_option Elab.async false

/-! A command of one step. -/

theorem accepted_sessions (code cls n : Nat) (r : Req) (p : List Byte) (s : State) :
    (accepted code cls n r p s).host.sessions = (admitted code cls n r p s).host.sessions := by
  unfold accepted admitted putTag modSlot
  split <;> rfl

/-- A row whose packet is one step, where what the row supposes is needed for the step to finish with status OK. -/
theorem acts_of_step {d : OpDef} {row : Req → List Byte → Instr} {ok : Cmd → State → Prop} {eff : Cmd → State → State}
    {reply : Cmd → State → List Byte} {first : Cmd → State → Option Nat}
    (hblind : ∀ r p s, d.check (waitingCmd d.code d.cls d.n r p s) (accepted d.code d.cls d.n r p s) =
      d.check (cmdOf d.code d.cls d.n r p s) (admitted d.code d.cls d.n r p s))
    (h3 : d.code ≠ 0x0003) (h5 : d.code ≠ 0x0005) (hrow : ∀ r p s, exec (row r p) s = .next (packetIn true d r p s))
    (hok : ∀ c u, ok c u → d.check c u = 0) (hrun : ∀ c u, ok c u → d.run c u = .finish (eff c u) 0 (reply c u) (first c u))
    (hcmd : ∀ c u, ok c u → findCmd (eff c u) c.entry = findCmd u c.entry) : Acts d.code d.cls d.n row ok eff reply first := by
  intro r p s x hfresh c u hpre
  have hcheck := (hblind r p s).trans (hok c u hpre)
  rw [hrow, packetIn_finishes d r p s x h3 h5 hfresh hcheck _ _ _ _ (hrun c u hpre) (hcmd c u hpre)]

/-- A zero byte passes the check of a zero field (R79). -/
theorem zeroAt_one {c : Cmd} {o : Nat} (h : byteAt c.params o = 0) : zeroAt c o 1 = 0 := by
  have hzero : ∀ b ∈ slice c.params o 1, (b == 0) = true := by
    intro b hb
    have hlist : slice c.params o 1 = (c.params[o]?).toList := by
      simp only [slice, List.take_one, List.head?_drop]
    rw [hlist, Option.mem_toList] at hb
    have hbyte : b.toNat = 0 := by simpa [byteAt, List.getD_eq_getElem?_getD, Option.mem_def.mp hb] using h
    simpa using BitVec.eq_of_toNat_eq hbyte
  rw [zeroAt, allZero, List.all_eq_true.mpr hzero, Bool.not_true, when_false]

/-! Reassemblies abandoned and slots closed (R51, R61). -/

section
variable (slot tag status : Nat) (s : State)

/-- An abandonment leaves the state, or sends one reply and sets what the tag holds. -/
theorem abandonTag_cases : abandonTag slot tag status s = s ∨
    ∃ (t : TagState) (dst : Src) (bytes : List Byte), abandonTag slot tag status s = putTag slot tag t (sendReply dst bytes s) := by
  unfold abandonTag
  split
  · exact .inl rfl
  · split
    · exact .inr ⟨_, _, _, rfl⟩
    · exact .inl rfl

theorem abandonTag_only : Only [.host, .out] s (abandonTag slot tag status s) := by
  obtain h | ⟨t, dst, bytes, h⟩ := abandonTag_cases slot tag status s <;> rw [h]
  · exact Only.refl
  · exact (sendReply_only dst bytes s).comp (putTag_only slot tag t _)

theorem abandonTag_cmds : (abandonTag slot tag status s).host.cmds = s.host.cmds := by
  obtain h | ⟨t, dst, bytes, h⟩ := abandonTag_cases slot tag status s <;> rw [h]
  exact (putTag_host slot tag t _).1.trans (cmds_of_quiet (sendReply_quiet dst bytes s))

theorem abandonTags_only (l : List (Nat × TagState)) : Only [.host, .out] s (l.foldl (fun s t => abandonTag slot t.1 status s) s) :=
  Only.refl.foldl _ (fun t g => abandonTag_only slot g.1 status t) l

theorem abandonTags_cmds (l : List (Nat × TagState)) :
    (l.foldl (fun s t => abandonTag slot t.1 status s) s).host.cmds = s.host.cmds := by
  induction l generalizing s with
  | nil => rfl
  | cons g l ih => rw [List.foldl_cons, ih, abandonTag_cmds]

variable {slot tag status s} {x : Session}

/-- What an abandonment leaves of a session: all but what its tags hold. -/
theorem openSlot_abandonTag (h : openSlot s slot = some x) :
    ∃ tags, openSlot (abandonTag slot tag status s) slot = some { x with tags := tags } := by
  obtain hs | ⟨t, dst, bytes, hs⟩ := abandonTag_cases slot tag status s <;> rw [hs]
  · exact ⟨x.tags, h⟩
  · exact ⟨_, openSlot_putTag ((openSlot_of_quiet (sendReply_quiet dst bytes s) slot).trans h) tag t⟩

theorem openSlot_abandonTags (h : openSlot s slot = some x) (l : List (Nat × TagState)) :
    ∃ tags, openSlot (l.foldl (fun s t => abandonTag slot t.1 status s) s) slot = some { x with tags := tags } := by
  induction l generalizing s x with
  | nil => exact ⟨x.tags, h⟩
  | cons g l ih =>
    obtain ⟨tags, hg⟩ := openSlot_abandonTag (tag := g.1) (status := status) h
    exact ih (x := { x with tags := tags }) hg

/-- A reassembly abandoned has its reply retained on its tag. -/
theorem tag_abandonTag {q o c t0 t1 : Nat} {fs : List (Nat × List Byte)} {l : Option Nat} {sp : Bool} (h : openSlot s slot = some x)
    (htag : keyGet tag x.tags = some (.reassembling q o c fs l t0 t1 sp)) : ∃ reps : List Reply,
      (openSlot (abandonTag slot tag status s) slot).bind (fun y => keyGet tag y.tags) = some (.ended q o c reps 0 0 0 status) := by
  simp only [abandonTag, h, htag]
  exact ⟨_, tag_putTag ((openSlot_of_quiet (sendReply_quiet _ _ s) slot).trans h) tag _⟩

end

theorem closeSession_only (n : Nat) (s : State) : Only [.host, .out] s (closeSession n s) := by
  unfold closeSession
  split
  · exact Only.refl
  · extract_lets s1 kept s2 dead s3
    have h1 : Only [.host, .out] s s1 := abandonTags_only n _ s _
    have h2 : Only [.host] s1 s2 := Only.setHost _
    have h3 : Only [.host, .out] s2 s3 := Only.refl.foldl _ (fun t c => endCmd_only c _ _ _ _ _ t) dead
    exact ((h1.comp h2).trans h3).comp (modSlot_only _ _ s3)

theorem openSlot_closeSession (n : Nat) (s : State) : openSlot (closeSession n s) n = none := by
  unfold closeSession
  split
  · assumption
  · exact openSlot_modSlot_closed n (fun _ => rfl) _

/-! SESSION_CLOSE (R50, R90). -/

theorem sessionClose_closes {r : Req} {s : State} {x : Session} (h : Fresh 0x0005 1 1 r [] s x) : exec (.sessionClose r []) s =
    .next (closeSession r.session.toNat (endCmd (cmdOf 0x0005 1 1 r [] s) .done 1 0 [] none (admitted 0x0005 1 1 r [] s))) := by
  obtain ⟨b, hb⟩ : ∃ b, r.burst = b + 1 := ⟨r.burst - 1, by have := h.power.2.1; omega⟩
  have hfirst := runCmd_first opSessionClose 1 b r [] s x h
  have hcheck : opSessionClose.check (waitingCmd 5 1 1 r [] s) (accepted 5 1 1 r [] s) = 0 := readOp_passes 5 1 _ rfl
  rw [show exec (.sessionClose r []) s = .next (packetIn true opSessionClose r [] s) from rfl,
    packetIn_accepts opSessionClose 1 r [] s x (by decide) h]
  refine congrArg Host.Outcome.next ((congrArg (runCmd opSessionClose · _ _) hb).trans (hfirst.trans ?_))
  show (if opSessionClose.check (waitingCmd 5 1 1 r [] s) (accepted 5 1 1 r [] s) ≠ 0 then _ else
    closeSession r.session.toNat (endCmd ((findCmd (admitted 5 1 1 r [] s) s.host.nextEntry).getD _) .done 1 0 [] none _)) = _
  rw [hcheck, h.findCmd_admitted]
  rfl

/-! SESSION_RESYNC (R68). -/

/-- A command that takes no tag, as packet validation begins it. -/
def untaggedCmd (d : OpDef) (r : Req) (p : List Byte) (s : State) : Cmd :=
  { waitingCmd d.code d.cls d.n r p s with noTag := true }

/-- That command and its journal entry stand. -/
def untagged (d : OpDef) (r : Req) (p : List Byte) (s : State) : State :=
  let s1 := newEntry { entryOf d.code d.cls d.n r p s with state := .accepted } s
  { s1 with host := { s1.host with cmds := s1.host.cmds ++ [untaggedCmd d r p s] } }

theorem accept_untagged (d : OpDef) (r : Req) (p : List Byte) (s : State) :
    accept d r true p 1 (isSpecOk r) s = runCmd d (if d.cls = 0 then 1 else r.burst) s.host.nextEntry (untagged d r p s) := rfl

theorem untagged_only (d : OpDef) (r : Req) (p : List Byte) (s : State) : Only [.host] s (untagged d r p s) :=
  (newEntry_only _ s).trans (Only.setHost _)

theorem untagged_find (d : OpDef) (r : Req) (p : List Byte) {s : State} (h : ∀ c ∈ s.host.cmds, c.entry < s.host.nextEntry) :
    findCmd (untagged d r p s) s.host.nextEntry = some (untaggedCmd d r p s) :=
  find_append_last _ s.host.cmds _ (fun c hc => beq_eq_false_iff_ne.mpr (h c hc).ne) (by simp [untaggedCmd, waitingCmd, cmdOf])

/-- The state in which the first step of a command runs. -/
def begun (e : Nat) (s : State) : State :=
  modCmd e Cmd.begun (modEntry e false (fun j => { j with state := .started }) s)

theorem begun_only (e : Nat) (s : State) : Only [.host] s (begun e s) :=
  (modEntry_only _ _ _ s).trans (modCmd_only _ _ _)

/-- A command that waits for nothing and that no check refuses ends with its first step. -/
theorem runCmd_finishes {d : OpDef} {b e : Nat} {s t : State} {c : Cmd} {status : Nat} {reply : List Byte} {first : Option Nat}
    (hc : findCmd s e = some c) (hfree : blocked (objsOf c.opcode) objsOf c s = false) (hbow : bowRaised s = false) (hnew : c.started = false)
    (hcheck : d.check c s = 0) (h5 : c.opcode ≠ 0x0005) (hrun : d.run c.begun (begun e s) = .finish t status reply first)
    (hcmds : t.host.cmds = (begun e s).host.cmds) :
    runCmd d (b + 1) e s = endCmd c.begun .done c.n status reply first t := by
  have hfound : findCmd t e = some c.begun :=
    (findCmd_of_cmds hcmds e).trans (findCmd_modCmd_same (f := Cmd.begun) (fun _ => rfl) hc)
  unfold begun Cmd.begun at hrun
  simp only [runCmd, hc, hfree, hbow, hnew, hcheck, hrun, Bool.false_and, Bool.or_false, Bool.false_eq_true, if_false, ne_eq, not_true_eq_false, h5,
    hfound, Option.getD_some]

/-- The end of a command without a tag changes no session. -/
theorem endCmd_untagged {c : Cmd} (h : c.noTag = true) (state : JState) (k status : Nat) (reply : List Byte) (first : Option Nat) (s : State) :
    endCmd c state k status reply first s = leftFlight c state k status reply first s :=
  if_pos (by rw [h, Bool.true_or])

theorem leftFlight_epochCounter (c : Cmd) (state : JState) (k status : Nat) (reply : List Byte) (first : Option Nat) (s : State) :
    (leftFlight c state k status reply first s).host.epochCounter = s.host.epochCounter :=
  (epochCounter_of_quiet (sendFor_quiet c status reply (closedEntry c state k status first s)) :)

/-- H after a SESSION_RESYNC: the number before S0. -/
def resyncHigh (p : List Byte) : BitVec 32 := BitVec.ofNat 32 (fieldU p 0 4 + 2 ^ 32 - 1)

/-- The slot of session `n` after a SESSION_RESYNC that keeps its source: a new epoch, H at the number before S0, and the tags in flight. -/
def Resynced (n : Nat) (x : Session) (p : List Byte) (epochs : Nat) (t : State) : Prop :=
  t.host.epochCounter = nextEpoch epochs ∧ ∃ y : Session, openSlot t n = some y ∧ y.epoch = nextEpoch epochs ∧
    y.high = resyncHigh p ∧ y.src = x.src ∧ y.authed = x.authed ∧ y.role = x.role ∧
    ∀ g ∈ y.tags, tagInFlight g = true

/-- What a SESSION_RESYNC that keeps its source makes of the session. -/
def Session.resynced (high : BitVec 32) (epoch : Nat) (y : Session) : Session :=
  { setHigh high y with epoch := epoch, tags := y.tags.filter tagInFlight, src := y.src }

section
variable (high : BitVec 32) (epoch : Nat) (y : Session)

theorem resynced_isOpen : (y.resynced high epoch).isOpen = y.isOpen := rfl

theorem resynced_fields : (y.resynced high epoch).epoch = epoch ∧ (y.resynced high epoch).high = high ∧ (y.resynced high epoch).src = y.src ∧
    (y.resynced high epoch).authed = y.authed ∧ (y.resynced high epoch).role = y.role :=
  ⟨rfl, rfl, rfl, rfl, rfl⟩

theorem resynced_tags : ∀ g ∈ (y.resynced high epoch).tags, tagInFlight g = true :=
  fun _ hg => (List.mem_filter.mp hg).2

end

/-- The reassemblies of a session abandoned, and the next epoch issued. -/
def reissued (n : Nat) (x : Session) (s : State) : State :=
  let s1 := x.tags.foldl (fun s t => abandonTag n t.1 stFragmentError s) s
  { s1 with host := { s1.host with epochCounter := nextEpoch s.host.epochCounter } }

theorem reissued_only (n : Nat) (x : Session) (s : State) : Only [.host, .out] s (reissued n x s) :=
  (abandonTags_only n stFragmentError s x.tags).comp (qs := [.host]) (Only.setHost _)

theorem openSlot_reissued {n : Nat} {x : Session} {s : State} (h : openSlot s n = some x) :
    ∃ tags, openSlot (reissued n x s) n = some { x with tags := tags } :=
  openSlot_abandonTags (status := stFragmentError) h x.tags

theorem runResync_keepsSource {c : Cmd} {s : State} {x : Session} (hopen : openSlot s c.slot = some x) (hkeep : byteAt c.params 4 = 0) :
    ∃ reply : List Byte, runResync c s = .finish
      (modSlot c.slot (Session.resynced (resyncHigh c.params) (nextEpoch s.host.epochCounter)) (reissued c.slot x s)) 0 reply none := by
  have hbind : (byteAt c.params 4 == 1) = false := by rw [hkeep]; rfl
  simp only [runResync, hopen, hbind, Bool.false_and, Bool.false_eq_true, if_false]
  exact ⟨_, rfl⟩

theorem runResync_resyncs {c : Cmd} {s : State} {x : Session} (hopen : openSlot s c.slot = some x) (hkeep : byteAt c.params 4 = 0) :
    ∃ (t : State) (reply : List Byte), runResync c s = .finish t 0 reply none ∧ t.host.cmds = s.host.cmds ∧ Only [.host, .out] s t ∧
      Resynced c.slot x c.params s.host.epochCounter t := by
  obtain ⟨reply, hrun⟩ := runResync_keepsSource hopen hkeep
  obtain ⟨tags, htags⟩ := openSlot_reissued hopen
  have hslot := modSlot_openSlot c.slot (Session.resynced (resyncHigh c.params) (nextEpoch s.host.epochCounter)) _ _ htags
    ((resynced_isOpen _ _ { x with tags := tags }).trans (isOpen_of_openSlot htags))
  refine ⟨_, reply, hrun, ?_, (reissued_only c.slot x s).comp (modSlot_only _ _ _), modSlot_epochCounter _ _ _, _, hslot, ?_⟩
  · rw [modSlot_cmds]
    exact abandonTags_cmds c.slot stFragmentError s x.tags
  · obtain ⟨hepoch, hhigh, hsrc, hauthed, hrole⟩ := resynced_fields (resyncHigh c.params) (nextEpoch s.host.epochCounter) { x with tags := tags }
    exact ⟨hepoch, hhigh, hsrc, hauthed, hrole, resynced_tags _ _ _⟩

theorem resyncCheck_passes {c : Cmd} (s : State) (hlen : c.params.length = 22) (hkeep : byteAt c.params 4 = 0) (hzero : byteAt c.params 5 = 0)
    (hproof : slice c.params 6 16 = zeros 16) : opSessionResync.check c s = 0 := by
  have hall : allZero (zeros 16) = true := by decide
  simp only [opSessionResync, stepOp, sizeIs_of_length hlen, hkeep, zeroAt_one hzero, hproof, hall]
  rfl

section
variable {r : Req} {p : List Byte} {s : State} {x : Session}

/-- The command of a SESSION_RESYNC that passes its checks ends with its one step. -/
theorem runCmd_resyncs (b : Nat) (hopen : openSlot s r.session.toNat = some x) (hbow : bowRaised s = false)
    (hentry : ∀ c ∈ s.host.cmds, c.entry < s.host.nextEntry) (hlen : p.length = 22) (hkeep : byteAt p 4 = 0) (hzero : byteAt p 5 = 0)
    (hproof : slice p 6 16 = zeros 16) :
    Only [.host, .out] s (runCmd opSessionResync (b + 1) s.host.nextEntry (untagged opSessionResync r p s)) ∧
      Resynced r.session.toNat x p s.host.epochCounter (runCmd opSessionResync (b + 1) s.host.nextEntry (untagged opSessionResync r p s)) := by
  have hstand : openSlot (begun s.host.nextEntry (untagged opSessionResync r p s)) r.session.toNat = some x :=
    (openSlot_of_sessions rfl _).trans hopen
  obtain ⟨t, reply, hrun, hcmds, honly, hcounter, hslot⟩ :=
    runResync_resyncs (c := (untaggedCmd opSessionResync r p s).begun) hstand hkeep
  have hfree : blocked (objsOf 3) objsOf (untaggedCmd opSessionResync r p s) (untagged opSessionResync r p s) = false := by
    simp [blocked, objsOf]
  have h5 : (untaggedCmd opSessionResync r p s).opcode ≠ 0x0005 := show 0x0003 ≠ 0x0005 by decide
  rw [runCmd_finishes (untagged_find opSessionResync r p hentry) hfree hbow rfl (resyncCheck_passes _ hlen hkeep hzero hproof) h5 hrun hcmds]
  have hstood : Only [.host] s (begun s.host.nextEntry (untagged opSessionResync r p s)) :=
    (untagged_only opSessionResync r p s).trans (begun_only _ _)
  refine ⟨(hstood.comp honly).trans (endCmd_only ..), ?_, ?_⟩
  · rw [endCmd_untagged rfl, leftFlight_epochCounter]
    exact hcounter
  · rw [endCmd_untagged rfl, openSlot_of_sessions (leftFlight_sessions ..)]
    exact hslot

/-- A SESSION_RESYNC that keeps its source, as a packet. -/
theorem sessionResync_resyncs (hread : readable r 3 p s = true) (hst : headerStatus r p = 0) (hopen : openSlot s r.session.toNat = some x)
    (hsrc : x.src = r.src) (hep : r.epoch.toNat = x.epoch) (hauth : x.authed = true) (hcls : r.cls.toNat = 1) (hrole : roleOf 3 ≤ x.role)
    (hbow : bowRaised s = false) (hburst : 1 ≤ r.burst) (hentry : ∀ c ∈ s.host.cmds, c.entry < s.host.nextEntry) (hlen : p.length = 22)
    (hkeep : byteAt p 4 = 0) (hzero : byteAt p 5 = 0) (hproof : slice p 6 16 = zeros 16) :
    ∃ t : State, exec (.sessionResync r p) s = .next t ∧ Only [.host, .out] s t ∧ Resynced r.session.toNat x p s.host.epochCounter t := by
  have htaken : openSlot (takeBuffer r 3 p s) r.session.toNat = some x := (takeBuffer_openSlot ..).trans hopen
  have hpass : sessionStatus true opSessionResync r p x = 0 := sessionStatus_passes hep (.inl hauth) hcls hrole
  have hpacket := packetIn_session (b := true) (d := opSessionResync) hread hst htaken hsrc
  obtain ⟨b, hb⟩ : ∃ b, r.burst = b + 1 := ⟨r.burst - 1, by omega⟩
  have hnoticed : Only [.host] s (noticed r (takeBuffer r 3 p s)) := (takeBuffer_only r 3 p s).trans (noticed_only r _)
  have hbow' : bowRaised (noticed r (takeBuffer r 3 p s)) = false :=
    (congrArg (fun p : PwrState => p.bowSince.isSome) (hnoticed.2 .pwr (by decide))).trans hbow
  have hnext : (noticed r (takeBuffer r 3 p s)).host.nextEntry = s.host.nextEntry :=
    (modSlot_nextEntry ..).trans (takeBuffer_nextEntry ..)
  have hentry' : ∀ c ∈ (noticed r (takeBuffer r 3 p s)).host.cmds, c.entry < (noticed r (takeBuffer r 3 p s)).host.nextEntry := by
    rw [noticed_cmds, takeBuffer_cmds, hnext]
    exact hentry
  have hepochs : (noticed r (takeBuffer r 3 p s)).host.epochCounter = s.host.epochCounter :=
    (modSlot_epochCounter ..).trans (takeBuffer_epochCounter ..)
  obtain ⟨honly, hresynced⟩ := runCmd_resyncs b (openSlot_noticed htaken) hbow' hentry' hlen hkeep hzero hproof
  rw [hepochs] at hresynced
  refine ⟨_, congrArg Host.Outcome.next (hpacket.trans ?_), hnoticed.comp honly, hresynced⟩
  simp only [hpass, ne_eq, not_true_eq_false, if_false]
  exact (accept_untagged ..).trans (congrArg (runCmd opSessionResync · _ _) hb)

end

/-! TAG_ABORT (R77). -/

section
variable {c : Cmd} {u : State}

theorem tagAbort_passes (hlen : c.params.length = 1) (htag : byteAt c.params 0 ≤ 127) : opTagAbort.check c u = 0 := by
  have hrange : decide (127 < byteAt c.params 0) = false := by simpa using htag
  simp only [opTagAbort, stepOp, sizeIs_of_length hlen, hrange, when_false, firstOf_zero_cons, firstOf_nil]

theorem runAbort_free (h : (openSlot u c.slot).bind (fun x => keyGet (byteAt c.params 0) x.tags) = none) :
    runAbort c u = .finish u 0 (be 6 0) none := by
  simp only [runAbort, h]

theorem runAbort_ended {q o cl js k n st : Nat} {reps : List Reply}
    (h : (openSlot u c.slot).bind (fun x => keyGet (byteAt c.params 0) x.tags) = some (.ended q o cl reps js k n st)) :
    runAbort c u = .finish u 0 (be 1 js ++ be 1 k ++ be 1 n ++ be 1 0 ++ be 2 st) none := by
  simp only [runAbort, h]

theorem runAbort_reassembling {q o cl t0 t1 : Nat} {fs : List (Nat × List Byte)} {l : Option Nat} {sp : Bool}
    (h : (openSlot u c.slot).bind (fun x => keyGet (byteAt c.params 0) x.tags) = some (.reassembling q o cl fs l t0 t1 sp)) :
    runAbort c u = .finish (abandonTag c.slot (byteAt c.params 0) stAbortedByHost u) 0 (be 4 0 ++ be 2 stAbortedByHost) none := by
  simp only [runAbort, h]

variable {q o cl e : Nat} {d : Cmd}
  (h : (openSlot u c.slot).bind (fun x => keyGet (byteAt c.params 0) x.tags) = some (.inFlight q o cl e)) (hd : findCmd u e = some d)
  (hother : e ≠ c.entry) (hcls : d.cls ≠ 0)
include h hd hother hcls

theorem runAbort_waiting (hbusy : d.busy = false) : runAbort c u = .finish (endCmd d .aborted d.k stAbortedByHost [] none u) 0
    (be 1 5 ++ be 1 d.k ++ be 1 d.n ++ be 1 0 ++ be 2 stAbortedByHost) none := by
  simp only [runAbort, h, hd, hother, hcls, hbusy, or_self, if_false, Bool.false_eq_true]

theorem runAbort_busy {j : JEntry} (hj : findEntry u e = some j) (hbusy : d.busy = true) :
    runAbort c u = .finish (modCmd e (fun d => { d with abort := true }) u) 0
      (be 1 j.state.code ++ be 1 d.k ++ be 1 d.n ++ be 1 0 ++ be 2 0) none := by
  simp only [runAbort, h, hd, hj, hother, hcls, hbusy, or_self, if_false, if_true]

end

/-- A TAG_ABORT whose layout is right and whose step finishes. -/
theorem tagAbort_acts {ok : Cmd → State → Prop} {eff : Cmd → State → State} {reply : Cmd → State → List Byte}
    (hlayout : ∀ c u, ok c u → c.params.length = 1 ∧ byteAt c.params 0 ≤ 127)
    (hrun : ∀ c u, ok c u → runAbort c u = .finish (eff c u) 0 (reply c u) none)
    (hcmd : ∀ c u, ok c u → findCmd (eff c u) c.entry = findCmd u c.entry) : Acts 0x0006 1 1 .tagAbort ok eff reply fun _ _ => none :=
  acts_of_step (d := opTagAbort) (fun _ _ _ => rfl) (by decide) (by decide) (fun _ _ _ => rfl)
    (fun c u h => tagAbort_passes (hlayout c u h).1 (hlayout c u h).2) hrun hcmd

/-! SESSION_AUTH (R48). -/

theorem runAuth_authenticates {c : Cmd} {u : State} {x : Session} (hopen : openSlot u c.slot = some x) (hauth : x.authed = false)
    (hproof : c.params = proof (roleKey u x.wantRole) x.challenge x.nonce c.slot x.epoch x.wantRole 1)
    (hheld : ¬(x.wantRole = 3 ∧ commissionerHeld c.slot u = true)) : runAuth c u =
      .finish (modSlot c.slot (fun y => { y with authed := true, role := ((openSlot u c.slot).getD sessionReset).wantRole }) u) 0
        (let x := (openSlot u c.slot).getD sessionReset;
          be 1 x.wantRole ++ be 1 0 ++ proof (roleKey u x.wantRole) x.challenge x.nonce c.slot x.epoch x.wantRole 2) none := by
  simp only [runAuth, hopen, hauth, Bool.false_eq_true, if_false, ne_eq, ← hproof, not_true_eq_false, hheld, Option.getD_some]

/-! The rows. -/

/-- Settles O12: each opcode by what its one step does. -/
theorem sessionRows : Obligations.SessionRows := by
  refine ⟨?_, ?_, fun r s x => sessionClose_closes, fun r p s x hread hst hopen hsrc hep hauth hcls hrole hbow hburst hentry hlen hkeep hzero
    hproof => ?_, ?_, fun q o cl reps js k n st => ?_, fun q o cl fs l t0 t1 sp => ?_, fun q o cl e d => ?_, fun q o cl e d j => ?_⟩
  · exact acts_of_finish (d := opSessionPing) (fun _ _ _ => rfl) (by decide) (by decide) (fun _ _ _ => rfl)
      (fun _ _ h => readOp_passes _ _ _ h) (fun _ _ => rfl) fun _ _ => rfl
  · exact acts_of_step (d := opSessionAuth) (fun _ _ _ => rfl) (by decide) (by decide) (fun _ _ _ => rfl)
      (fun c u ⟨x, hopen, hauth, hlen, hproof, hheld⟩ => sizeIs_of_length hlen)
      (fun c u ⟨x, hopen, hauth, hlen, hproof, hheld⟩ => runAuth_authenticates hopen hauth hproof hheld)
      fun c u _ => findCmd_of_cmds (modSlot_cmds _ _ _) _
  · obtain ⟨t, hexec, honly, hcounter, y, hslot, hepoch, hhigh, hsame, hauthed, hrole', htags⟩ := sessionResync_resyncs hread hst hopen hsrc hep
      hauth hcls hrole hbow hburst hentry hlen hkeep hzero hproof
    exact ⟨t, hexec, honly, y, hslot, hepoch, hepoch.trans hcounter.symm, hhigh, hsame, hauthed.trans hauth, hrole', htags⟩
  · exact tagAbort_acts (fun c u ⟨hlen, htag, _⟩ => ⟨hlen, htag⟩) (fun c u ⟨_, _, hfree⟩ => runAbort_free hfree) fun _ _ _ => rfl
  · exact tagAbort_acts (fun c u ⟨hlen, htag, _⟩ => ⟨hlen, htag⟩) (fun c u ⟨_, _, hended⟩ => runAbort_ended hended) fun _ _ _ => rfl
  · exact tagAbort_acts (fun c u ⟨hlen, htag, _⟩ => ⟨hlen, htag⟩) (fun c u ⟨_, _, hpart⟩ => runAbort_reassembling hpart)
      fun c u _ => findCmd_of_cmds (abandonTag_cmds _ _ _ _) _
  · refine tagAbort_acts (fun c u ⟨hlen, htag, _⟩ => ⟨hlen, htag⟩)
      (fun c u ⟨_, _, htag, hd, hother, hcls, hbusy⟩ => runAbort_waiting htag hd hother hcls hbusy) ?_
    intro c u ⟨_, _, _, hd, hother, _, _⟩
    have hentry : c.entry ≠ d.entry := entry_of_findCmd hd ▸ hother.symm
    exact findCmd_endCmd_other d .aborted d.k stAbortedByHost [] none u hentry
  · exact tagAbort_acts (fun c u ⟨hlen, htag, _⟩ => ⟨hlen, htag⟩)
      (fun c u ⟨_, _, htag, hd, hj, hother, hcls, hbusy⟩ => runAbort_busy htag hd hother hcls hj hbusy)
      fun c u ⟨_, _, _, _, _, hother, _, _⟩ => findCmd_modCmd_other (fun _ => rfl) hother.symm

/-! The journal opcodes (R74, R76, R117). -/

section
variable {c : Cmd} {u : State}

theorem journalQuery_passes (hlen : c.params.length = 10) (hzero : byteAt c.params 5 = 0) : opJournalQuery.check c u = 0 := by
  simp only [opJournalQuery, readOp, sizeIs_of_length hlen, zeroAt_one hzero, firstOf_zero_cons, firstOf_nil]

theorem journalQuery_finishes (c : Cmd) (u : State) : opJournalQuery.run c u = .finish u 0 (((entries u).reverse.find? fun j =>
      j.session == fieldU c.params 0 2 && j.epoch == fieldU c.params 2 2 && j.tag == fieldU c.params 4 1 && j.seq == fieldU c.params 6 4).elim
    (noEntry (fieldU c.params 0 2) (fieldU c.params 2 2) (fieldU c.params 4 1) (fieldU c.params 6 4)) JEntry.bytes) none := by
  simp only [opJournalQuery, readOp]
  split <;> simp only [*, Option.elim_some, Option.elim_none]

theorem journalList_passes (hlen : c.params.length = 10) (hlo : 1 ≤ fieldU c.params 8 2) (hhi : fieldU c.params 8 2 ≤ 1024) :
    opJournalList.check c u = 0 := by
  have hrange : decide (fieldU c.params 8 2 = 0 ∨ 1024 < fieldU c.params 8 2) = false := by
    rw [decide_eq_false_iff_not]
    omega
  simp only [opJournalList, readOp, sizeIs_of_length hlen, hrange, when_false, firstOf_zero_cons, firstOf_nil]

theorem journalRejects_passes (hlen : c.params.length = 2) (hslot : (slotNo u (fieldU c.params 0 2)).isSome = true) :
    opJournalRejects.check c u = 0 := by
  have hnone : (slotNo u (fieldU c.params 0 2)).isNone = false := by simpa using hslot
  simp only [opJournalRejects, readOp, sizeIs_of_length hlen, hnone, when_false, firstOf_zero_cons, firstOf_nil]

theorem journalRejects_unknown (hlen : c.params.length = 2) (hslot : slotNo u (fieldU c.params 0 2) = none) :
    opJournalRejects.check c u = stUnknownObject := by
  simp only [opJournalRejects, readOp, sizeIs_of_length hlen, hslot, firstOf_zero_cons]
  rfl

end

/-- JOURNAL_REJECTS looks at the sessions alone, which stand from acceptance to the first step. -/
theorem journalRejects_blind (r : Req) (p : List Byte) (s : State) : opJournalRejects.check (waitingCmd 0x0D03 1 1 r p s) (accepted 0x0D03 1 1 r p s) =
    opJournalRejects.check (cmdOf 0x0D03 1 1 r p s) (admitted 0x0D03 1 1 r p s) := by
  simp only [opJournalRejects, readOp, slotNo, accepted_sessions, waitingCmd, sizeIs]

/-- Settles O13: every opcode is one step that leaves the state. -/
theorem journalRows : Obligations.JournalRows := by
  refine ⟨?_, ?_, ?_, ?_⟩
  · exact acts_of_finish (d := opJournalQuery) (fun _ _ _ => rfl) (by decide) (by decide) (fun _ _ _ => rfl)
      (fun c u ⟨hlen, hzero⟩ => journalQuery_passes hlen hzero) (fun c u => journalQuery_finishes c u) fun _ _ => rfl
  · exact acts_of_finish (d := opJournalList) (fun _ _ _ => rfl) (by decide) (by decide) (fun _ _ _ => rfl)
      (fun c u ⟨hlen, hlo, hhi⟩ => journalList_passes hlen hlo hhi) (fun _ _ => rfl) fun _ _ => rfl
  · exact acts_of_step (d := opJournalRejects) journalRejects_blind (by decide) (by decide) (fun _ _ _ => rfl)
      (fun c u ⟨hlen, hslot⟩ => journalRejects_passes hlen hslot) (fun _ _ _ => rfl) fun _ _ _ => rfl
  · intro r p s x hfresh c u ⟨hlen, hslot⟩
    exact congrArg Host.Outcome.next (packetIn_refuses opJournalRejects r p s x (by decide) hfresh stUnknownObject (by decide)
      ((journalRejects_blind r p s).trans (journalRejects_unknown hlen hslot)))

end Sys2Proof.Machine
end

section
/-! SUPPORT. The timers of the host conversation (R49 to R51, R61). -/

namespace Sys2Proof.Machine

set_option Elab.async false

section
variable {s : State} {n tag : Nat} {x : Session}

theorem reassemblyOf_of_tag {q o c t0 t1 : Nat} {fs : List (Nat × List Byte)} {l : Option Nat} {sp : Bool} (hopen : openSlot s n = some x)
    (htag : keyGet tag x.tags = some (.reassembling q o c fs l t0 t1 sp)) : reassemblyOf s n tag = some (t0, t1) := by
  simp only [reassemblyOf, hopen, Option.bind_some, htag]

theorem openSlot_elapseTo (e : Nat) : openSlot (elapseTo e s) n = openSlot s n :=
  openSlot_of_sessions (congrArg HostState.sessions (elapseTo_host e s)) n

/-- A reassembly abandoned at an instant or after it. -/
theorem abandon_expires {q o c t0 t1 : Nat} {fs : List (Nat × List Byte)} {l : Option Nat} {sp : Bool} (hopen : openSlot s n = some x)
    (htag : keyGet tag x.tags = some (.reassembling q o c fs l t0 t1 sp)) (e : Nat) :
    e ≤ (abandonTag n tag stFragmentError (elapseTo e s)).time.elapsed ∧
      Only [.time, .host, .evt, .out] s (abandonTag n tag stFragmentError (elapseTo e s)) ∧
      ∃ reps : List Reply, (openSlot (abandonTag n tag stFragmentError (elapseTo e s)) n).bind (fun y => keyGet tag y.tags) =
        some (.ended q o c reps 0 0 0 stFragmentError) := by
  have htime : (abandonTag n tag stFragmentError (elapseTo e s)).time = (elapseTo e s).time :=
    (abandonTag_only n tag stFragmentError _).2 .time (by decide)
  refine ⟨?_, (elapseTo_only e s).comp (abandonTag_only ..), tag_abandonTag ((openSlot_elapseTo e).trans hopen) htag⟩
  rw [htime]
  exact le_elapsed_elapseTo e s

/-- A session recorded as expired and closed at an instant or after it. -/
theorem expire_closes (n cause : Nat) (x : Session) (e : Nat) (s : State) : openSlot (expire n cause x (elapseTo e s)) n = none ∧
    e ≤ (expire n cause x (elapseTo e s)).time.elapsed ∧ Only [.time, .host, .evt, .out] s (expire n cause x (elapseTo e s)) := by
  have hexpire : Only [.host, .evt, .out] (elapseTo e s) (expire n cause x (elapseTo e s)) :=
    (record_only _ _ _).comp (closeSession_only n _)
  have htime : (expire n cause x (elapseTo e s)).time = (elapseTo e s).time := hexpire.2 .time (by decide)
  refine ⟨openSlot_closeSession n _, ?_, (elapseTo_only e s).comp hexpire⟩
  rw [htime]
  exact le_elapsed_elapseTo e s

end

section
variable {s : State} {slot : Fin 8} {tag : Fin 128} {x : Session}

theorem fragExpiry_idle (h : reassemblyOf s (slot.val + 1) tag.val = none) :
    exec (.fragGapExpiry slot tag) s = .next s ∧ exec (.fragTotalExpiry slot tag) s = .next s := by
  show execFragGapExpiry slot tag s = _ ∧ execFragTotalExpiry slot tag s = _
  simp only [execFragGapExpiry, execFragTotalExpiry, h, and_self]

theorem fragGapExpiry_runs {t0 t1 : Nat} (h : reassemblyOf s (slot.val + 1) tag.val = some (t0, t1)) : exec (.fragGapExpiry slot tag) s =
    .next (abandonTag (slot.val + 1) tag.val stFragmentError (elapseTo (t1 + ms (pNat s 0x0112)) s)) := by
  show execFragGapExpiry slot tag s = _
  simp only [execFragGapExpiry, h]

theorem fragTotalExpiry_runs {t0 t1 : Nat} (h : reassemblyOf s (slot.val + 1) tag.val = some (t0, t1)) : exec (.fragTotalExpiry slot tag) s =
    .next (abandonTag (slot.val + 1) tag.val stFragmentError (elapseTo (t0 + ms (pNat s 0x0113)) s)) := by
  show execFragTotalExpiry slot tag s = _
  simp only [execFragTotalExpiry, h]

theorem sessionExpiry_idle (h : openSlot s (slot.val + 1) = none) :
    exec (.sessionIdleExpiry slot) s = .next s ∧ exec (.authTimeout slot) s = .next s := by
  show execSessionIdleExpiry slot s = _ ∧ execAuthTimeout slot s = _
  simp only [execSessionIdleExpiry, execAuthTimeout, h, and_self]

theorem sessionIdleExpiry_runs (h : openSlot s (slot.val + 1) = some x) (hs : awake s = true) : exec (.sessionIdleExpiry slot) s =
    .next (expire (slot.val + 1) 0 x (elapseTo (x.lastAt + ms (pNat s 0x0111)) s)) := by
  show execSessionIdleExpiry slot s = _
  simp only [execSessionIdleExpiry, h, hs, if_true]

theorem authTimeout_runs (h : openSlot s (slot.val + 1) = some x) (hs : awake s = true) (hauth : x.authed = false) :
    exec (.authTimeout slot) s = .next (expire (slot.val + 1) 1 x (elapseTo (x.openedAt + ms 5000) s)) := by
  show execAuthTimeout slot s = _
  simp only [execAuthTimeout, h, hs, hauth, Bool.not_false, Bool.and_self, if_true]

end

/-- A source locked out is so no more once its lockout has expired. -/
theorem lockoutExpiry_ends {s : State} {src : Src} (h : lockedOut src s = true) :
    ∃ t : State, exec (.lockoutExpiry src) s = .next t ∧ lockedOut src t = false ∧ Only [.time, .host, .evt] s t := by
  obtain ⟨l, hl⟩ : ∃ l, s.host.lockouts.find? (fun l => l.1 == originOf src) = some l := by
    obtain ⟨l, hmem, hlock⟩ := List.any_eq_true.mp h
    exact Option.isSome_iff_exists.mp (List.find?_isSome.mpr ⟨l, hmem, (Bool.and_eq_true_iff.mp hlock).1⟩)
  refine ⟨{ elapseTo (l.2 + ms 60000) s with host := { (elapseTo (l.2 + ms 60000) s).host with
    lockouts := (elapseTo (l.2 + ms 60000) s).host.lockouts.filter (fun m => m.1 != originOf src) } }, ?_, ?_,
    (elapseTo_only _ s).comp (Only.setHost _)⟩
  · show execLockoutExpiry src s = _
    simp only [execLockoutExpiry, hl]
  · refine List.any_eq_false.mpr fun m hm => ?_
    have hne : (m.1 == originOf src) = false := by simpa using (List.mem_filter.mp hm).2
    simp [hne]

/-- Settles O27: what each timer ends, at its instant at least. -/
theorem expiryRows : Obligations.ExpiryRows := by
  intro s
  refine ⟨fun slot tag x q o c fs l t0 t1 sp hopen htag => ?_, fun slot tag => fragExpiry_idle, fun slot x hopen hs => ?_,
    fun slot => sessionExpiry_idle, fun src => lockoutExpiry_ends⟩
  · have hpart := reassemblyOf_of_tag hopen htag
    exact ⟨⟨_, fragGapExpiry_runs hpart, abandon_expires hopen htag _⟩, ⟨_, fragTotalExpiry_runs hpart, abandon_expires hopen htag _⟩⟩
  · exact ⟨⟨_, sessionIdleExpiry_runs hopen hs, expire_closes _ _ _ _ s⟩,
      fun hauth => ⟨_, authTimeout_runs hopen hs hauth, expire_closes _ _ _ _ s⟩⟩

end Sys2Proof.Machine
end

section
/-! SUPPORT. Fragments, unknown opcodes, commit points and the interim reply (R43, R60, R64, R71, R72, R83, R529). -/

namespace Sys2Proof.Machine

set_option Elab.async false

/-! A packet by its opcode. -/

theorem opOf_one : opOf 1 = none := by decide

theorem packetFor_known {r : Req} {code : Nat} {p : List Byte} {s : State} {d : OpDef} (h : opOf code = some d) :
    packetFor r code p s = packetIn true d r p s := by
  have h1 : code ≠ 1 := by
    rintro rfl
    simp [opOf_one] at h
  simp only [packetFor, if_neg h1, h]

theorem packetFor_unknown {r : Req} {code : Nat} {p : List Byte} {s : State} (h1 : code ≠ 1) (h : opOf code = none) :
    packetFor r code p s = packetIn false (noOp code) r p s := by
  simp only [packetFor, if_neg h1, h]

/-! The first fragment of a command (R60, R62). -/

theorem map_modAt_of_kept {α β : Type} {f : α → α} {g : α → β} (h : ∀ a, g (f a) = g a) (l : List α) (i : Nat) :
    (modAt l i f).map g = l.map g := by
  induction l generalizing i with
  | nil => rfl
  | cons a l ih => cases i with
    | zero => simp only [modAt, List.map_cons, h]
    | succ i => simp only [modAt, List.map_cons, ih]

/-- Packets heard begin and end no reassembly. -/
theorem reassemblies_noticed (r : Req) (s : State) : reassemblies (noticed r s) = reassemblies s := by
  rw [noticed_eq, modSlot]
  split
  · rfl
  · exact congrArg List.sum (map_modAt_of_kept (f := Session.hears r s.time.elapsed) (fun _ => rfl) _ _)

theorem reassemblies_takeBuffer (r : Req) (code : Nat) (p : List Byte) (s : State) : reassemblies (takeBuffer r code p s) = reassemblies s := by
  rw [reassemblies, takeBuffer_sessions, reassemblies]

section
variable {d : OpDef} {r : Req} {p : List Byte} {s : State} {x : Session}

theorem bySequence_new (hlo : 1 ≤ seqD x r.seq) (hhi : seqD x r.seq ≤ 64) : bySequence d r p x s = newCommand d r p x s :=
  if_pos ⟨hlo, hhi⟩

theorem newCommand_fragment (hlast : isLastFrag r = false) (hlen : p.length = 1440) (hheld : tagHeld x r.tag.toNat = false)
    (hplace : placeFree x r.cls.toNat = true) (hfew : reassemblies s < 4) : newCommand d r p x s =
      putTag r.session.toNat r.tag.toNat (.reassembling r.seq.toNat d.code r.cls.toNat [(r.fragment.toNat, p)] none s.time.elapsed
        s.time.elapsed (isSpecOk r)) (modSlot r.session.toNat (markSeq r.seq) s) := by
  have hroom : ¬4 ≤ reassemblies s := by omega
  simp [newCommand, hlast, hlen, hheld, hplace, hroom]

theorem fragmentReceived_begins {op : BitVec 16} (hd : opOf op.toNat = some d) (h3 : d.code ≠ 3) (hread : readable r d.code p s = true)
    (hst : headerStatus r p = 0) (hopen : openSlot s r.session.toNat = some x) (hsrc : x.src = r.src)
    (hpass : sessionStatus true d r p x = 0) (hlo : 1 ≤ seqD x r.seq) (hhi : seqD x r.seq ≤ 64) (hlast : isLastFrag r = false)
    (hlen : p.length = 1440) (hheld : tagHeld x r.tag.toNat = false) (hplace : placeFree x r.cls.toNat = true) (hfew : reassemblies s < 4) :
    ∃ t : State, exec (.fragmentReceived r op p) s = .next t ∧ Only [.host] s t ∧ t.host.cmds = s.host.cmds ∧
      t.host.journal = s.host.journal ∧ (openSlot t r.session.toNat).bind (fun y => keyGet r.tag.toNat y.tags) =
        some (.reassembling r.seq.toNat d.code r.cls.toNat [(r.fragment.toNat, p)] none s.time.elapsed s.time.elapsed (isSpecOk r)) := by
  have htaken : openSlot (takeBuffer r d.code p s) r.session.toNat = some x := (takeBuffer_openSlot ..).trans hopen
  have hnoted : Only [.host] s (noticed r (takeBuffer r d.code p s)) := (takeBuffer_only r d.code p s).trans (noticed_only r _)
  have htime : (noticed r (takeBuffer r d.code p s)).time = s.time := hnoted.2 .time (by decide)
  have hfew' : reassemblies (noticed r (takeBuffer r d.code p s)) < 4 := by rwa [reassemblies_noticed, reassemblies_takeBuffer]
  have hpacket := packetIn_bySequence hread hst htaken hsrc hpass h3
  rw [bySequence_new (x := x.hears r s.time.elapsed) hlo hhi,
    newCommand_fragment (x := x.hears r s.time.elapsed) hlast hlen hheld hplace hfew', htime] at hpacket
  have hmarked := modSlot_openSlot r.session.toNat (markSeq r.seq) _ _ (openSlot_noticed htaken)
    ((markSeq_isOpen _ _).trans (isOpen_of_openSlot (openSlot_noticed htaken)))
  refine ⟨_, congrArg Host.Outcome.next ((packetFor_known hd).trans hpacket), ?_, ?_, ?_, tag_putTag hmarked _ _⟩
  · exact (hnoted.trans (modSlot_only _ _ _)).trans (putTag_only _ _ _ _)
  · rw [(putTag_host ..).1, modSlot_cmds, noticed_cmds, takeBuffer_cmds]
  · rw [(putTag_host ..).2.1, modSlot_journal, noticed_journal, takeBuffer_journal]

end

/-! An opcode that no table gives (R43). -/

theorem unknownOpcode_refused {r : Req} {op : BitVec 16} {p : List Byte} {s : State} {x : Session} (hop : opOf op.toNat = none)
    (h1 : op.toNat ≠ 1) (hread : readable r op.toNat p s = true) (hst : headerStatus r p = 0)
    (hopen : openSlot s r.session.toNat = some x) (hsrc : x.src = r.src) (hep : r.epoch.toNat = x.epoch) (hauth : x.authed = true) :
    exec (.unknownOpcode r op p) s = .next (reject r op.toNat stUnknownOpcode false [] (noticed r (takeBuffer r op.toNat p s))) := by
  have htaken : openSlot (takeBuffer r op.toNat p s) r.session.toNat = some x := (takeBuffer_openSlot ..).trans hopen
  have hunknown : sessionStatus false (noOp op.toNat) r p x = stUnknownOpcode := by
    rw [sessionStatus_authenticated hep (.inl hauth), if_pos Bool.false_ne_true]
  exact congrArg Host.Outcome.next ((packetFor_unknown h1 hop).trans
    (packetIn_sessionRefused (d := noOp op.toNat) hread hst htaken hsrc hunknown (by decide)))

/-! Commit points (R71). -/

theorem commitPoint_idle {e : Nat} {s : State} (h : findCmd s e = none) : exec (.commitPoint e) s = .next s := by
  show execCommitPoint e s = _
  simp only [execCommitPoint, h]

/-- A command that has passed its next commit point. -/
def Cmd.pastPoint (c : Cmd) : Cmd := { c with k := c.k + 1, busy := false, data := [] }

/-- The journal entry of a command that has passed its `k`th commit point. -/
def JEntry.pastPoint (k : Nat) (first : Option Nat) (j : JEntry) : JEntry :=
  { j with state := .partial_, k := k, firstPeriod := first <|> j.firstPeriod }

/-- A command begun that waits for nothing passes its next commit point, the journal record with it. -/
theorem runCmd_commits {d : OpDef} {e : Nat} {s t : State} {c : Cmd} {first : Option Nat} (hc : findCmd s e = some c)
    (hfree : blocked (objsOf c.opcode) objsOf c s = false) (hbow : bowRaised s = false) (hbegun : c.started = true) (habort : c.abort = false)
    (hrun : d.run c.begun (modCmd e Cmd.begun s) = .commit t first) :
    runCmd d 1 e s = modCmd e Cmd.pastPoint (modEntry e true (JEntry.pastPoint (c.k + 1) first) t) := by
  unfold Cmd.begun at hrun
  simp only [runCmd, hc, hfree, hbow, hbegun, hrun, Bool.false_and, Bool.or_false, Bool.false_eq_true, if_false, if_true, ne_eq,
    not_true_eq_false]
  simp only [habort, Bool.false_eq_true, if_false]
  rfl

/-- What a commit point leaves: the command one step on, and its journal record in MRAM. -/
theorem commits_spec {e n : Nat} {first : Option Nat} {c : Cmd} {i : JSlot} {s : State} (hc : findCmd s e = some c)
    (hi : s.host.journal.find? (fun j => j.cur.entry == e) = some i) : ∃ t : State,
      t = modCmd e Cmd.pastPoint (modEntry e true (JEntry.pastPoint n first) s) ∧ Only [.host] s t ∧ findCmd t e = some c.pastPoint ∧
      t.host.journal.find? (fun j => j.cur.entry == e) = some ⟨i.cur.pastPoint n first, some (i.cur.pastPoint n first)⟩ := by
  refine ⟨_, rfl, (modEntry_only _ _ _ s).trans (modCmd_only _ _ _), ?_, ?_⟩
  · exact findCmd_modCmd_same (f := Cmd.pastPoint) (fun _ => rfl) hc
  · exact (findSlot_modEntry (f := JEntry.pastPoint n first) (fun _ => rfl) e true s).trans (congrArg (Option.map _) hi)

theorem runStructLoad_first {c : Cmd} (h : c.k = 0) (s : State) : opStructLoad.run c s = .commit s none :=
  if_pos h

/-- The first commit point of a STRUCT_LOAD (R310). -/
theorem commitPoint_structLoad {e : Nat} {c : Cmd} {j : JEntry} {s : State} (hc : findCmd s e = some c) (hj : findEntry s e = some j)
    (hop : c.opcode = 0x0601) (hbegun : c.started = true) (habort : c.abort = false) (hk : c.k = 0) (hs : awake s = true)
    (hbow : bowRaised s = false) (hfree : blocked (objsOf 0x0601) objsOf c s = false) :
    ∃ t : State, exec (.commitPoint e) s = .next t ∧ Only [.host] s t ∧ (findCmd t e).map (·.k) = some 1 ∧
      ∃ k : JSlot, t.host.journal.find? (fun i => i.cur.entry == e) = some k ∧ k.cur = { j with state := .partial_, k := 1 } ∧
        k.mram = some k.cur := by
  obtain ⟨i, hi, rfl⟩ := Option.map_eq_some_iff.mp hj
  have hknown : opOf c.opcode = some opStructLoad := by rw [hop]; rfl
  have hstep : exec (.commitPoint e) s = .next (runCmd opStructLoad 1 e s) := by
    show execCommitPoint e s = _
    simp only [execCommitPoint, hc, hknown, hs, if_true]
  have hbegin : findCmd (modCmd e Cmd.begun s) e = some c.begun := findCmd_modCmd_same (f := Cmd.begun) (fun _ => rfl) hc
  obtain ⟨t, ht, honly, hcmd, hslot⟩ := commits_spec (n := c.k + 1) (first := none) hbegin hi
  have hrun := runCmd_commits hc (by rw [hop]; exact hfree) hbow hbegun habort (runStructLoad_first (c := c.begun) hk _)
  refine ⟨t, ?_, (modCmd_only _ _ s).trans honly, ?_, _, hslot, ?_, rfl⟩
  · rw [hstep, hrun, ht]
  · rw [hcmd, Option.map_some]
    exact congrArg (fun k => some (k + 1)) hk
  · rw [hk]
    rfl

/-! The interim reply and the journal buffer (R64, R72, R83, R529). -/

/-- A command that has had its interim reply. -/
def Cmd.told (c : Cmd) : Cmd := { c with interim := true }

section
variable {e : Nat} {c : Cmd} {j : JEntry} {s : State}

theorem interimReply_idle (hc : findCmd s e = some c) (hj : findEntry s e = some j) (h : c.cls = 0 ∨ c.interim = true) :
    exec (.interimAcceptedReply e) s = .next s := by
  show execInterimAcceptedReply e s = _
  simp only [execInterimAcceptedReply, hc, hj, h, if_true]

/-- An interim reply marks its command and leaves the journal. -/
theorem interim_spec (status : Nat) (ps : List Byte) {u : State} (hc : findCmd u e = some c) :
    (findCmd (sendFor c status ps (modCmd e Cmd.told u)) e).map (·.interim) = some true ∧
      (sendFor c status ps (modCmd e Cmd.told u)).host.journal = u.host.journal ∧
      Only [.host, .out] u (sendFor c status ps (modCmd e Cmd.told u)) := by
  have hquiet := sendFor_quiet c status ps (modCmd e Cmd.told u)
  refine ⟨?_, (journal_of_quiet hquiet :), (modCmd_only e Cmd.told u).comp (sendFor_only c status ps _)⟩
  rw [findCmd_of_cmds (cmds_of_quiet hquiet), findCmd_modCmd_same (f := Cmd.told) (fun _ => rfl) hc]
  rfl

theorem interimReply_sent (hc : findCmd s e = some c) (hj : findEntry s e = some j) (hcls : c.cls ≠ 0) (hfirst : c.interim = false) :
    ∃ t : State, exec (.interimAcceptedReply e) s = .next t ∧ c.validElapsed + ms 1 ≤ t.time.elapsed ∧
      (findCmd t e).map (·.interim) = some true ∧ t.host.journal = s.host.journal ∧ Only [.time, .host, .evt, .out] s t := by
  have hexec : exec (.interimAcceptedReply e) s = .next (sendFor c (if j.k = 0 then stAccepted else stPartial) (progressBytes j)
      (modCmd e Cmd.told (elapseTo (c.validElapsed + ms 1) s))) := by
    show execInterimAcceptedReply e s = _
    simp only [execInterimAcceptedReply, hc, hj, hcls, hfirst, Bool.false_eq_true, or_self, if_false]
    rfl
  have hhost := elapseTo_host (c.validElapsed + ms 1) s
  have hpassed := elapseTo_only (c.validElapsed + ms 1) s
  have hinstant := le_elapsed_elapseTo (c.validElapsed + ms 1) s
  generalize elapseTo (c.validElapsed + ms 1) s = u at hexec hhost hpassed hinstant
  have hcmd : findCmd u e = some c := (findCmd_of_cmds (congrArg HostState.cmds hhost) e).trans hc
  obtain ⟨htold, hjournal, honly⟩ := interim_spec (if j.k = 0 then stAccepted else stPartial) (progressBytes j) hcmd
  refine ⟨_, hexec, ?_, htold, hjournal.trans (congrArg HostState.journal hhost), hpassed.comp honly⟩
  rw [show (sendFor _ _ _ _).time = u.time from honly.2 .time (by decide)]
  exact hinstant

end

theorem flushJournal_writes (s : State) : Only [.host] s (flushJournal s) ∧ (∀ j ∈ (flushJournal s).host.journal, j.mram = some j.cur) ∧
    (flushJournal s).host.journal.map (·.cur) = s.host.journal.map (·.cur) := by
  refine ⟨Only.setHost _, fun j hj => ?_, ?_⟩
  · obtain ⟨i, -, rfl⟩ := List.mem_map.mp hj
    rfl
  · simp [flushJournal]

/-- Settles O28: the fragment, the unknown opcode, the commit point, the interim reply and the journal buffer, each by the lemma of its row. -/
theorem commandProgressRows : Obligations.CommandProgressRows := by
  refine ⟨fun d r op p s x => fragmentReceived_begins, fun r op p s x hop h1 _ _ => unknownOpcode_refused hop h1,
    fun e c j s => commitPoint_structLoad, fun e s => commitPoint_idle,
    fun e c j s hc hj => ⟨interimReply_idle hc hj, interimReply_sent hc hj⟩, fun s => ⟨fun hbow => ?_, fun hbow => ?_⟩⟩
  · exact congrArg Host.Outcome.next (if_pos hbow)
  · exact ⟨_, congrArg Host.Outcome.next (if_neg (Bool.eq_false_iff.mp hbow)), flushJournal_writes s⟩

end Sys2Proof.Machine
end

section
/-! SUPPORT. The SPI host port, its register window and the other requests that need no session (R38, R39, R118 to R121, R554). -/

namespace Sys2Proof.Machine

set_option Elab.async false

/-! Packets in and out (R39, R554). -/

section
variable {s : State}

/-- The packets that the inbound buffers still hold when a new one comes. -/
def heldPackets (s : State) : List (List Byte) := if awake s then s.host.spiIn.dropWhile discards else s.host.spiIn

theorem writePacket_whole (data : List Byte) (hs : s.pwr.state = .run ∨ s.pwr.state = .idle) : exec (.writePacket data true) s =
    if (heldPackets s).length < 2 then .next { s with host := { s.host with spiIn := heldPackets s ++ [data] } }
    else .next { s with host := { s.host with inOverrun := true } } := by
  have hup : (s.pwr.state == .run || s.pwr.state == .idle) = true := by rcases hs with h | h <;> rw [h] <;> rfl
  show execWritePacket data true s = _
  simp only [execWritePacket, hup, Bool.not_true, Bool.or_self, Bool.false_eq_true, if_false]
  rfl

theorem writePacket_torn (data : List Byte) : exec (.writePacket data false) s = .next s := rfl

variable {q : List Byte} {qs : List (List Byte)} (h : s.host.spiOut = q :: qs) {n : Nat}
include h

theorem readPacket_whole (hn : q.length + 2 ≤ n) : exec (.readPacket n) s =
    .next { s with host := { s.host with spiOut := qs }, out := .reply .spi 0 (be 2 q.length ++ q) :: s.out } := by
  have hclocked : ¬n < q.length + 2 := by omega
  show execReadPacket n s = _
  simp only [execReadPacket, h, hclocked, if_false]
  rfl

theorem readPacket_short (hn : n < q.length + 2) : exec (.readPacket n) s = .next s := by
  show execReadPacket n s = _
  simp only [execReadPacket, h, hn, if_true]

end

theorem readPacket_none {s : State} (h : s.host.spiOut = []) (n : Nat) :
    exec (.readPacket n) s = .next { s with out := .reply .spi 0 (be 2 0) :: s.out } := by
  show execReadPacket n s = _
  simp only [execReadPacket, h]
  rfl

/-! Writes of the register window (R118 to R121). -/

theorem windowUp_of_ne {s : State} (h : s.pwr.state ≠ .off) : windowUp s = true := bne_iff_ne.mpr h

/-- A byte at an address with nothing to write changes nothing. -/
theorem writeByte_ignored {addr : Nat} (h : addr ≠ 0x0B ∧ addr ≠ 0x0F ∧ addr ≠ 0x13) (v : Byte) (s : State) : writeByte addr v s = s := by
  simp only [writeByte, h, if_false]

theorem writeWindow_ignored {addr : Nat} {data : List Byte}
    (h : ∀ k, k < data.length → addr + k ≠ 0x0B ∧ addr + k ≠ 0x0F ∧ addr + k ≠ 0x13) (s : State) : writeWindow addr data s = s := by
  induction data generalizing addr s with
  | nil => rfl
  | cons v vs ih =>
    have hfirst : addr ≠ 0x0B ∧ addr ≠ 0x0F ∧ addr ≠ 0x13 := h 0 (Nat.zero_lt_succ _)
    have hrest : ∀ k, k < vs.length → addr + 1 + k ≠ 0x0B ∧ addr + 1 + k ≠ 0x0F ∧ addr + 1 + k ≠ 0x13 := by
      intro k hk
      rw [Nat.add_assoc, Nat.add_comm 1 k]
      exact h (k + 1) (Nat.succ_lt_succ hk)
    rw [writeWindow, writeByte_ignored hfirst, ih hrest]

/-- Of a word written to a register only its last byte meets a field that takes it. -/
theorem writeWindow_word {addr : Nat} (h : addr = 0x08 ∨ addr = 0x0C ∨ addr = 0x10) (v : Nat) (s : State) :
    writeWindow addr (be 4 v) s = writeByte (addr + 3) (BitVec.ofNat 8 v) s := by
  have h0 : addr ≠ 0x0B ∧ addr ≠ 0x0F ∧ addr ≠ 0x13 := by omega
  have h1 : addr + 1 ≠ 0x0B ∧ addr + 1 ≠ 0x0F ∧ addr + 1 ≠ 0x13 := by omega
  have h2 : addr + 2 ≠ 0x0B ∧ addr + 2 ≠ 0x0F ∧ addr + 2 ≠ 0x13 := by omega
  simp only [be, writeWindow, writeByte_ignored h0, writeByte_ignored h1, writeByte_ignored h2, Nat.pow_zero, Nat.div_one]

theorem getLsbD_low (v : BitVec 32) {i : Nat} (h : i < 8) : (BitVec.ofNat 8 v.toNat).getLsbD i = v.getLsbD i := by
  simp [h]

/-- The source bits of RESET_CAUSE lie in its last byte. -/
theorem and_low (v : BitVec 32) : (BitVec.ofNat 8 v.toNat).setWidth 32 &&& 0x7F#32 = v &&& 0x7F#32 := by
  refine BitVec.eq_of_toNat_eq ?_
  rw [BitVec.toNat_and, BitVec.toNat_and, BitVec.toNat_setWidth, BitVec.toNat_ofNat]
  show _ &&& (2 ^ 7 - 1) = _ &&& (2 ^ 7 - 1)
  rw [Nat.and_two_pow_sub_one_eq_mod, Nat.and_two_pow_sub_one_eq_mod]
  omega

section
variable {s : State} (hs : s.pwr.state ≠ .off)
include hs

theorem hostStatusClear_clears (v : BitVec 32) : exec (.hostStatusClear v) s = .next { s with host :=
    { s.host with inOverrun := s.host.inOverrun && !v.getLsbD 0, outOverrun := s.host.outOverrun && !v.getLsbD 1 } } := by
  show execHostStatusClear v s = _
  rw [execHostStatusClear, windowUp_of_ne hs, if_pos rfl, writeWindow_word (.inl rfl), ← getLsbD_low v (i := 0) (by decide),
    ← getLsbD_low v (i := 1) (by decide)]
  rfl

theorem resetCauseWrite_clears (v : BitVec 32) :
    exec (.resetCauseWrite v) s = .next { s with pwr := { s.pwr with cause := s.pwr.cause &&& ~~~(v &&& 0x7F#32) } } := by
  show execResetCauseWrite v s = _
  rw [execResetCauseWrite, windowUp_of_ne hs, if_pos rfl, writeWindow_word (.inr (.inl rfl)), ← and_low v]
  rfl

theorem doorbellIrqEn_sets (on : Bool) : exec (.doorbellIrqEn on) s = .next { s with host := { s.host with irqEn := on } } := by
  show execDoorbellIrqEn on s = _
  rw [execDoorbellIrqEn, windowUp_of_ne hs, if_pos rfl, writeWindow_word (.inr (.inr rfl))]
  cases on <;> rfl

theorem windowWriteOther_runs (addr : Byte) (data : List Byte) : exec (.windowWriteOther addr data) s = .next (writeWindow addr.toNat data s) := by
  show execWindowWriteOther addr data s = _
  rw [execWindowWriteOther, windowUp_of_ne hs, if_pos rfl]

/-! Reads of the register window (R5, R118). -/

theorem readWindow_runs (addr n : Nat) : readWindow s addr n = (List.range n).map fun i => (windowBytes s).getD (addr + i) 0 := by
  rw [readWindow, windowUp_of_ne hs, if_pos rfl]

end

theorem windowWriteOther_off {s : State} (h : s.pwr.state = .off) (addr : Byte) (data : List Byte) :
    exec (.windowWriteOther addr data) s = .next s := by
  show execWindowWriteOther addr data s = _
  rw [execWindowWriteOther, windowUp, h]
  rfl

theorem windowWriteOther_ignored {s : State} {addr : Byte} {data : List Byte}
    (h : ∀ k, k < data.length → addr.toNat + k ≠ 0x0B ∧ addr.toNat + k ≠ 0x0F ∧ addr.toNat + k ≠ 0x13) :
    exec (.windowWriteOther addr data) s = .next s := by
  by_cases hs : s.pwr.state = .off
  · exact windowWriteOther_off hs addr data
  · rw [windowWriteOther_runs hs, writeWindow_ignored h]

theorem arpIcmpRequest_eq (b arp : Bool) (ip : BitVec 32) (s : State) :
    exec (.arpIcmpRequest b ip arp) s = .next (if awake s then emit (.icmp b ip arp) s else s) := rfl

/-- Settles O29: packets by the buffers, writes by the byte that meets a field, reads by the window's bytes. -/
theorem spiPort : Obligations.SpiPort := by
  intro s
  refine ⟨fun data hs => ⟨fun hroom => ?_, fun hfull => ?_⟩, writePacket_torn, fun n q qs h => readPacket_whole h,
    fun n q qs h => readPacket_short h, fun n h => readPacket_none h n,
    fun v hs => ⟨hostStatusClear_clears hs v, resetCauseWrite_clears hs v⟩, fun on hs => doorbellIrqEn_sets hs on,
    fun addr data h => windowWriteOther_off h addr data, fun addr data => windowWriteOther_ignored,
    fun v hs => windowWriteOther_runs hs 0x0B#8 [v], fun hs => ?_, fun b arp ip => ⟨fun hs => ?_, fun hs => ?_⟩⟩
  · exact (writePacket_whole data hs).trans (if_pos hroom)
  · exact (writePacket_whole data hs).trans (if_neg (Nat.not_lt.mpr hfull))
  · simp only [readWindow_runs hs]
    exact ⟨rfl, rfl, rfl, rfl⟩
  · rw [arpIcmpRequest_eq, if_pos hs]
  · rw [arpIcmpRequest_eq, hs]
    rfl

end Sys2Proof.Machine
end

section
/-! SUPPORT. A command of the host from its packet to its end (R44, R45, R70, R71, R566): what each of its steps leaves, whichever opcode it has,
and the commands that leave flight on the way. -/

namespace Sys2Proof.Machine

set_option Elab.async false

/-! Frames used as equations. -/

/-- What changes the host interface alone leaves the rest as it is. -/
theorem Only.eq_setHost {s t : State} (h : Only [.host] s t) : t = { s with host := t.host } := by
  obtain ⟨hpending, hparts⟩ := h
  have htime := hparts .time (by decide)
  have hgrid := hparts .grid (by decide)
  have hcfg := hparts .cfg (by decide)
  have hevt := hparts .evt (by decide)
  have hpwr := hparts .pwr (by decide)
  have hsig := hparts .sig (by decide)
  have hgnss := hparts .gnss (by decide)
  have hacq := hparts .acq (by decide)
  have hbus := hparts .bus (by decide)
  have hfus := hparts .fus (by decide)
  have hobs := hparts .obs (by decide)
  have hslv := hparts .slv (by decide)
  have hctl := hparts .ctl (by decide)
  have hthr := hparts .thr (by decide)
  have hsch := hparts .sch (by decide)
  have hgrp := hparts .grp (by decide)
  have hsaf := hparts .saf (by decide)
  have hmtr := hparts .mtr (by decide)
  have hout := hparts .out (by decide)
  have hfresh := hparts .fresh (by decide)
  simp only [Part.same] at htime hgrid hcfg hevt hpwr hsig hgnss hacq hbus hfus hobs hslv hctl hthr hsch hgrp hsaf hmtr hout hfresh
  rw [← hpending, ← htime, ← hgrid, ← hcfg, ← hevt, ← hpwr, ← hsig, ← hgnss, ← hacq, ← hbus, ← hfus, ← hobs, ← hslv, ← hctl, ← hthr, ← hsch, ← hgrp,
    ← hsaf, ← hmtr, ← hout, ← hfresh]

/-- A command admitted changes the host interface alone. -/
theorem admitted_eq_setHost (code cls n : Nat) (r : Req) (p : List Byte) (s : State) :
    admitted code cls n r p s = { s with host := (admitted code cls n r p s).host } :=
  (admitted_only code cls n r p s).eq_setHost

/-! Commands that leave flight. -/

/-- Commands may have left flight; those still in flight are as they were. -/
def Thins (s t : State) : Prop := ∀ e, findCmd t e = none ∨ findCmd t e = findCmd s e

theorem Thins.of_cmds {s t : State} (h : t.host.cmds = s.host.cmds) : Thins s t := fun e => .inr (findCmd_of_cmds h e)

theorem Thins.of_only {ps : List Part} {s t : State} (h : Only ps s t) (hps : .host ∉ ps := by decide) : Thins s t :=
  .of_cmds (congrArg HostState.cmds (h.2 .host hps))

theorem Thins.refl (s : State) : Thins s s := .of_cmds rfl

theorem Thins.trans {s t u : State} (h : Thins s t) (k : Thins t u) : Thins s u := by
  intro e
  obtain hgone | hsame := k e
  · exact .inl hgone
  · rw [hsame]
    exact h e

theorem Thins.foldl {α : Type} {f : State → α → State} (hf : ∀ s x, Thins s (f s x)) (l : List α) {s t : State} (h : Thins s t) :
    Thins s (l.foldl f t) := by
  induction l generalizing t with
  | nil => exact h
  | cons x l ih => exact ih (h.trans (hf t x))

theorem Thins.ite {c : Prop} [Decidable c] {s t u : State} (h : c → Thins s t) (k : ¬c → Thins s u) : Thins s (if c then t else u) := by
  split
  · exact h ‹_›
  · exact k ‹_›

/-- A command found before is, after commands have left, that command wherever one is found. -/
theorem Thins.getD_found {s t : State} {e : Nat} {c : Cmd} (h : Thins s t) (hc : findCmd s e = some c) : (findCmd t e).getD c = c := by
  obtain hgone | hsame := h e
  · rw [hgone, Option.getD_none]
  · rw [hsame, hc, Option.getD_some]

theorem endCmd_thins (c : Cmd) (j : JState) (k status : Nat) (reply : List Byte) (first : Option Nat) (s : State) :
    Thins s (endCmd c j k status reply first s) := by
  intro e
  by_cases he : e = c.entry
  · subst he
    exact .inl (findCmd_endCmd_same ..)
  · exact .inr (findCmd_endCmd_other _ _ _ _ _ _ _ he)

/-- A command that has passed `k` commit points and waits for nothing. -/
def Cmd.through (k : Nat) (c : Cmd) : Cmd := { c with k := k, busy := false, data := [] }

/-! One step. -/

/-- The host conversation's own opcodes, whose commands do more than their steps. -/
def sessionOps : List Nat := [0x0002, 0x0003, 0x0005]

/-- A command that waits (R45, R71). -/
def Cmd.waits (data : List Nat) (c : Cmd) : Cmd := { c with busy := true, data := data }

theorem findCmd_waits {s : State} {e : Nat} {c : Cmd} (h : findCmd s e = some c) (data : List Nat) :
    findCmd (modCmd e (Cmd.waits data) s) e = some (c.waits data) :=
  findCmd_modCmd_same (f := Cmd.waits data) (fun _ => rfl) h

/-- What one step of a command answers, and up to `b` commit points more, leave. -/
def afterStep (d : OpDef) (b : Nat) (c : Cmd) : StepRes → State
  | .commit t first => runCmd d b c.entry (modCmd c.entry Cmd.pastPoint (modEntry c.entry true (JEntry.pastPoint (c.k + 1) first) t))
  | .finish t status reply first => endCmd ((findCmd t c.entry).getD c) .done c.n status reply first t
  | .abort t status => endCmd c .aborted c.k status [] none t
  | .wait t data => modCmd c.entry (Cmd.waits data) t

theorem modCmd_congr {e : Nat} {f g : Cmd → Cmd} {s : State} (h : ∀ c ∈ s.host.cmds, c.entry = e → f c = g c) : modCmd e f s = modCmd e g s := by
  have hcmds : (s.host.cmds.map fun c => if c.entry == e then f c else c) = s.host.cmds.map fun c => if c.entry == e then g c else c := by
    refine List.map_congr_left fun c hc => ?_
    by_cases he : c.entry = e
    · simp [he, h c hc he]
    · simp [he]
  simp only [modCmd, hcmds]

theorem modCmd_of_fixed {e : Nat} {f : Cmd → Cmd} {s : State} (h : ∀ c ∈ s.host.cmds, c.entry = e → f c = c) : modCmd e f s = s := by
  rw [modCmd_congr (g := id) h]
  simp [modCmd]

section
variable {d : OpDef} {r : Req} {p : List Byte} {s : State} {x : Session} (hplain : d.code ∉ sessionOps) (h : Fresh d.code d.cls d.n r p s x)

/-- Commit points that a packet lets its command pass. -/
def pointsOf (d : OpDef) (r : Req) : Nat := if d.cls = 0 then 1 else r.burst

include hplain h

/-- A packet that nothing refuses begins its command, and the first step is taken. -/
theorem packetIn_begins (hcheck : d.check (waitingCmd d.code d.cls d.n r p s) (accepted d.code d.cls d.n r p s) = 0) :
    packetIn true d r p s = afterStep d (pointsOf d r - 1) (cmdOf d.code d.cls d.n r p s)
      (d.run (cmdOf d.code d.cls d.n r p s) (admitted d.code d.cls d.n r p s)) := by
  obtain ⟨h2, h3, h5⟩ : d.code ≠ 2 ∧ d.code ≠ 3 ∧ d.code ≠ 5 := by simpa [sessionOps] using hplain
  have hb : pointsOf d r = (pointsOf d r - 1) + 1 := by
    have := h.power.2
    unfold pointsOf
    split <;> omega
  have hfirst := packetIn_accepts d d.n r p s x h3 h
  rw [show (if d.cls = 0 then 1 else r.burst) = pointsOf d r from rfl, hb, runCmd_first d d.n _ r p s x h] at hfirst
  rw [hfirst]
  simp only [hcheck, ne_eq, not_true_eq_false, if_false]
  cases d.run (cmdOf d.code d.cls d.n r p s) (admitted d.code d.cls d.n r p s) with
  | commit t first => rfl
  | finish t status reply first =>
    simp only [h5, if_false]
    rfl
  | abort t status =>
    simp only [h2, and_false, if_false]
    rfl
  | wait t data => rfl

/-- The packet of a command of several steps lets it pass all its commit points. -/
theorem packetIn_begins_all (hcheck : d.check (waitingCmd d.code d.cls d.n r p s) (accepted d.code d.cls d.n r p s) = 0)
    (hcls : d.cls ≠ 0 := by decide) (hn : 1 ≤ d.n := by decide) :
    ∃ b, packetIn true d r p s = afterStep d (b + (d.n - 1)) ((cmdOf d.code d.cls d.n r p s).through 0)
      (d.run ((cmdOf d.code d.cls d.n r p s).through 0) (admitted d.code d.cls d.n r p s)) := by
  have hburst : pointsOf d r - 1 = r.burst - d.n + (d.n - 1) := by
    have := h.power.2.2
    rw [pointsOf, if_neg hcls]
    omega
  exact ⟨r.burst - d.n, hburst ▸ packetIn_begins hplain h hcheck⟩

end

/-- A command begun that waits for no other takes its next step. -/
theorem runCmd_steps {d : OpDef} {e : Nat} {t : State} {c : Cmd} (hc : findCmd t e = some c) (hplain : c.opcode ∉ sessionOps)
    (hfree : blocked (objsOf c.opcode) objsOf c t = false) (hbow : bowRaised t = false) (hbegun : c.started = true) (habort : c.abort = false)
    (hall : ∀ i ∈ t.host.cmds, i.entry = e → i.started = true) (b : Nat) : runCmd d (b + 1) e t = afterStep d b c (d.run c t) := by
  obtain ⟨h2, -, h5⟩ : c.opcode ≠ 2 ∧ c.opcode ≠ 3 ∧ c.opcode ≠ 5 := by simpa [sessionOps] using hplain
  have hentry := entry_of_findCmd hc
  have hmod : modCmd e (fun c => { c with started := true }) t = t := by
    refine modCmd_of_fixed fun i hi he => ?_
    rw [← hall i hi he]
  subst hentry
  cases c
  cases hbegun
  cases habort
  conv_lhs => unfold runCmd
  simp only [hc, hfree, hbow, hmod, Bool.false_and, Bool.or_false, Bool.false_eq_true, if_false, if_true, ne_eq, not_true_eq_false, h5, h2, and_false]
  generalize d.run _ t = answer
  cases answer <;> rfl

/-! The steps after the first. -/

/-- The command that a packet has begun in `s` stands in flight past `k` commit points, behind the commands that stood there, and there is no
brown-out. -/
structure Past (code cls n : Nat) (r : Req) (p : List Byte) (s : State) (k : Nat) (t : State) : Prop where
  cmds : t.host.cmds = s.host.cmds ++ [(cmdOf code cls n r p s).through k]
  power : bowRaised t = false

section
variable {code cls n : Nat} {r : Req} {p : List Byte} {s : State} {x : Session} (h : Fresh code cls n r p s x)
include h

theorem Fresh.past_admitted : Past code cls n r p s 0 (admitted code cls n r p s) := by
  refine ⟨admitted_cmds .., ?_⟩
  rw [admitted_eq_setHost]
  exact h.power.1

variable {k : Nat} {t : State} (hp : Past code cls n r p s k t)
include hp

theorem Past.findCmd : findCmd t s.host.nextEntry = some ((cmdOf code cls n r p s).through k) := by
  rw [Machine.findCmd, hp.cmds]
  exact find_append_last _ _ _ (fun c hc => beq_eq_false_iff_ne.mpr (h.entry.1 c hc).ne) (by simp [cmdOf, Cmd.through])

/-- Of the commands in flight only this one has its journal entry. -/
theorem Past.eq_of_entry {c : Cmd} (hc : c ∈ t.host.cmds) (he : c.entry = s.host.nextEntry) : c = (cmdOf code cls n r p s).through k := by
  rw [hp.cmds, List.mem_append, List.mem_singleton] at hc
  obtain hold | hnew := hc
  · exact absurd he (h.entry.1 c hold).ne
  · exact hnew

theorem Past.unblocked : blocked (objsOf code) objsOf ((cmdOf code cls n r p s).through k) t = false := by
  simp only [blocked, hp.cmds, List.any_append, List.any_cons, List.any_nil, Bool.or_false, Bool.or_eq_false_iff]
  constructor
  · simp only [List.any_eq_false, Bool.and_eq_true, not_and, List.any_eq_true, not_exists, Bool.not_eq_true]
    intro d hd _ o ho o' ho'
    exact h.free d hd o ho _ rfl o' ho'
  · simp [cmdOf, Cmd.through]

/-- A commit point passed keeps the command in flight, one point on. -/
theorem Past.commits {u : State} (hcmds : u.host.cmds = t.host.cmds) (hpwr : u.pwr = t.pwr) :
    Past code cls n r p s (k + 1) (committed (cmdOf code cls n r p s) (k + 1) u) := by
  have hold : ∀ c ∈ s.host.cmds, (if c.entry == s.host.nextEntry then c.through (k + 1) else c) = c := by
    intro c hc
    rw [if_neg]
    simpa using (h.entry.1 c hc).ne
  refine ⟨?_, ?_⟩
  · show u.host.cmds.map (fun c => if c.entry == s.host.nextEntry then c.through (k + 1) else c) = _
    rw [hcmds, hp.cmds, List.map_append, map_unchanged _ _ hold]
    simp [cmdOf, Cmd.through]
  · exact (congrArg (fun q : PwrState => q.bowSince.isSome) hpwr).trans hp.power

end

section
variable {d : OpDef} {r : Req} {p : List Byte} {s : State} {x : Session} (hplain : d.code ∉ sessionOps) (h : Fresh d.code d.cls d.n r p s x)
  {k : Nat} {t : State} (hp : Past d.code d.cls d.n r p s k t)
include hplain h hp

/-- A step of a command past its `k`th commit point. -/
theorem Past.runs (b : Nat) : runCmd d (b + 1) s.host.nextEntry t = afterStep d b ((cmdOf d.code d.cls d.n r p s).through k)
    (d.run ((cmdOf d.code d.cls d.n r p s).through k) t) := by
  refine runCmd_steps (hp.findCmd h) hplain (hp.unblocked h) hp.power rfl rfl (fun c hc he => ?_) b
  rw [hp.eq_of_entry h hc he]
  rfl

/-- A step that commits goes on to the next. -/
theorem Past.afterStep_commit (b : Nat) {u : State} (hcmds : u.host.cmds = t.host.cmds) (hpwr : u.pwr = t.pwr) :
    afterStep d (b + 1) ((cmdOf d.code d.cls d.n r p s).through k) (.commit u none) =
      afterStep d b ((cmdOf d.code d.cls d.n r p s).through (k + 1))
        (d.run ((cmdOf d.code d.cls d.n r p s).through (k + 1)) (committed (cmdOf d.code d.cls d.n r p s) (k + 1) u)) := by
  have hpoint : modCmd s.host.nextEntry Cmd.pastPoint (modEntry s.host.nextEntry true (JEntry.pastPoint (k + 1) none) u) =
      committed (cmdOf d.code d.cls d.n r p s) (k + 1) u := by
    refine modCmd_congr fun c hc he => ?_
    rw [hp.eq_of_entry h (hcmds ▸ hc : c ∈ t.host.cmds) he]
    rfl
  rw [← (hp.commits h hcmds hpwr).runs hplain h b, ← hpoint]
  rfl

end

/-! The end of a command. -/

/-- A step that finishes ends its command, whatever other commands have ended by it. -/
theorem afterStep_finish {d : OpDef} {b : Nat} {c : Cmd} {t u : State} (hc : findCmd t c.entry = some c) (hthins : Thins t u) (status : Nat)
    (reply : List Byte) (first : Option Nat) :
    afterStep d b c (.finish u status reply first) = endCmd c .done c.n status reply first u := by
  simp only [afterStep, hthins.getD_found hc]

/-- A step past the `k`th commit point that finishes. -/
theorem Past.afterStep_ends {d : OpDef} {r : Req} {p : List Byte} {s t u : State} {x : Session} {k b : Nat} {status : Nat} {reply : List Byte}
    {first : Option Nat} (hp : Past d.code d.cls d.n r p s k t) (h : Fresh d.code d.cls d.n r p s x)
    (hrun : d.run ((cmdOf d.code d.cls d.n r p s).through k) t = .finish u status reply first) (hthins : Thins t u) :
    afterStep d b ((cmdOf d.code d.cls d.n r p s).through k) (d.run ((cmdOf d.code d.cls d.n r p s).through k) t) =
      endCmd (cmdOf d.code d.cls d.n r p s) .done d.n status reply first u := by
  rw [hrun, afterStep_finish (hp.findCmd h) hthins]
  rfl

/-! A packet of one step. -/

section
variable (d : OpDef) {r : Req} {p : List Byte} {s t : State} {x : Session} (h : Fresh d.code d.cls d.n r p s x)
  (hcheck : d.check (cmdOf d.code d.cls d.n r p s) (admitted d.code d.cls d.n r p s) = 0)
include h hcheck

theorem packetIn_ends {status : Nat} {reply : List Byte} {first : Option Nat}
    (hrun : d.run (cmdOf d.code d.cls d.n r p s) (admitted d.code d.cls d.n r p s) = .finish t status reply first)
    (hthins : Thins (admitted d.code d.cls d.n r p s) t) (hblind : HostBlind d := by exact fun _ _ _ => rfl)
    (hplain : d.code ∉ sessionOps := by decide) :
    packetIn true d r p s = endCmd (cmdOf d.code d.cls d.n r p s) .done d.n status reply first t := by
  rw [packetIn_begins hplain h ((hblind.accepted_check r p s).trans hcheck), hrun, afterStep_finish (h.findCmd_admitted d.n) hthins]
  rfl

theorem packetIn_aborts {status : Nat}
    (hrun : d.run (cmdOf d.code d.cls d.n r p s) (admitted d.code d.cls d.n r p s) = .abort t status)
    (hblind : HostBlind d := by exact fun _ _ _ => rfl) (hplain : d.code ∉ sessionOps := by decide) :
    packetIn true d r p s = endCmd (cmdOf d.code d.cls d.n r p s) .aborted 0 status [] none t := by
  rw [packetIn_begins hplain h ((hblind.accepted_check r p s).trans hcheck), hrun]
  rfl

theorem packetIn_waits {data : List Nat}
    (hrun : d.run (cmdOf d.code d.cls d.n r p s) (admitted d.code d.cls d.n r p s) = .wait t data)
    (hblind : HostBlind d := by exact fun _ _ _ => rfl) (hplain : d.code ∉ sessionOps := by decide) :
    packetIn true d r p s = modCmd s.host.nextEntry (Cmd.waits data) t := by
  rw [packetIn_begins hplain h ((hblind.accepted_check r p s).trans hcheck), hrun]
  rfl

end

/-! A row of one step. -/

section
variable {row : Req → List Byte → Instr} {ok : Cmd → State → Prop} {reply : Cmd → State → List Byte}

/-- A row whose packet is one step that finishes with status OK, whatever other commands end by it. -/
theorem acts_of_ending (d : OpDef) {eff : Cmd → State → State} {first : Cmd → State → Option Nat} (hok : ∀ c u, ok c u → d.check c u = 0)
    (hrun : ∀ c u, ok c u → d.run c u = .finish (eff c u) 0 (reply c u) (first c u)) (hthins : ∀ c u, Thins u (eff c u))
    (hblind : HostBlind d := by exact fun _ _ _ => rfl) (hplain : d.code ∉ sessionOps := by decide)
    (hrow : ∀ r p s, exec (row r p) s = .next (packetIn true d r p s) := by exact fun _ _ _ => rfl) :
    Acts d.code d.cls d.n row ok eff reply first := by
  intro r p s x hfresh c u hpre
  rw [hrow, packetIn_ends d hfresh (hok c u hpre) (hrun c u hpre) (hthins c u) hblind hplain]

/-- A row whose packet is one step that leaves the host interface. -/
theorem acts_of_keeping (d : OpDef) {eff : Cmd → State → State} {first : Cmd → State → Option Nat} (hok : ∀ c u, ok c u → d.check c u = 0)
    (hrun : ∀ c u, d.run c u = .finish (eff c u) 0 (reply c u) (first c u) := by exact fun _ _ => rfl)
    (hhost : ∀ c u, (eff c u).host = u.host := by exact fun _ _ => rfl)
    (hblind : HostBlind d := by exact fun _ _ _ => rfl) (hplain : d.code ∉ sessionOps := by decide)
    (hrow : ∀ r p s, exec (row r p) s = .next (packetIn true d r p s) := by exact fun _ _ _ => rfl) :
    Acts d.code d.cls d.n row ok eff reply first :=
  acts_of_ending d hok (fun c u _ => hrun c u) (fun c u => .of_cmds (congrArg HostState.cmds (hhost c u))) hblind hplain hrow

/-- A row that replies to a packet without parameters. -/
theorem reads_of_empty {code cls : Nat} (hplain : code ∉ sessionOps := by decide)
    (hrow : ∀ r p s, exec (row r p) s = .next (packetIn true (readOp code cls 0 (fun _ _ => 0) reply) r p s) := by exact fun _ _ _ => rfl) :
    Reads code cls row (fun c _ => c.params = []) reply :=
  acts_of_keeping (readOp code cls 0 (fun _ _ => 0) reply) (fun _ _ h => readOp_passes _ _ _ h) (hplain := hplain) (hrow := hrow)

/-- A row whose packet its checks refuse with one status. -/
theorem refuses_of_status (d : OpDef) {bad : Cmd → State → Prop} {st : Nat} (hbad : ∀ c u, bad c u → d.check c u = st)
    (h0 : st ≠ 0 := by decide) (hblind : HostBlind d := by exact fun _ _ _ => rfl) (h3 : d.code ≠ 0x0003 := by decide)
    (hrow : ∀ r p s, exec (row r p) s = .next (packetIn true d r p s) := by exact fun _ _ _ => rfl) : Refuses d.code d.cls d.n row bad st :=
  refuses_of_check hblind h3 h0 hrow hbad

end

/-! Checks of layouts. -/

theorem when_true (st : Nat) : when_ true st = st := rfl

theorem when_not_true (st : Nat) : when_ (!true) st = 0 := rfl

theorem sizeIs_nil {c : Cmd} (h : c.params = []) : sizeIs 0 c = 0 := sizeIs_of_length (by rw [h, List.length_nil])

end Sys2Proof.Machine
end

section
/-! SUPPORT. The power, reset and identity opcodes (R113 to R116, R120, R517, R540): each is one step. -/

namespace Sys2Proof.Machine

set_option Elab.async false

section
variable {c : Cmd} {u : State}

/-! PWR_STATE_SET. -/

theorem pwrStateSet_layout (hlen : c.params.length = 1) (henum : byteAt c.params 0 = 2 ∨ byteAt c.params 0 = 3 ∨ byteAt c.params 0 = 4) :
    opPwrStateSet.check c u = firstOf [when_ (u.ctl.mode != 0) stNotStandby, when_ (anyReleased u) stBrakeReleased] := by
  have hknown : (byteAt c.params 0 == 2 || byteAt c.params 0 == 3 || byteAt c.params 0 == 4) = true := by
    rcases henum with h | h | h <;> rw [h] <;> rfl
  simp only [opPwrStateSet, stepOp, sizeIs_of_length hlen, hknown, when_not_true, firstOf_zero_cons]

theorem pwrStateSet_moving (hlen : c.params.length = 1) (henum : byteAt c.params 0 = 2 ∨ byteAt c.params 0 = 3 ∨ byteAt c.params 0 = 4)
    (hmode : u.ctl.mode ≠ 0) : opPwrStateSet.check c u = stNotStandby := by
  rw [pwrStateSet_layout hlen henum, bne_iff_ne.mpr hmode]
  exact firstOf_cons_of_ne_zero (n := stNotStandby) (by decide) _

theorem pwrStateSet_standby (hlen : c.params.length = 1) (henum : byteAt c.params 0 = 2 ∨ byteAt c.params 0 = 3 ∨ byteAt c.params 0 = 4)
    (hmode : u.ctl.mode = 0) : opPwrStateSet.check c u = when_ (anyReleased u) stBrakeReleased := by
  rw [pwrStateSet_layout hlen henum, hmode, bne_self_eq_false, when_false, firstOf_zero_cons, firstOf_singleton]

/-! RESET. -/

theorem reset_layout (hlen : c.params.length = 1) (henum : byteAt c.params 0 = 1 ∨ byteAt c.params 0 = 2) :
    opReset.check c u = when_ (u.ctl.mode != 0) stNotStandby := by
  have hknown : (byteAt c.params 0 != 1 && byteAt c.params 0 != 2) = false := by
    rcases henum with h | h <;> rw [h] <;> rfl
  simp only [opReset, stepOp, sizeIs_of_length hlen, hknown, when_false, firstOf_zero_cons, firstOf_singleton]

/-! ROLE_KEY_SET. -/

/-- A zero field of `n` bytes passes its check byte by byte (R79). -/
theorem zeroAt_bytes {o n : Nat} (h : ∀ i < n, byteAt c.params (o + i) = 0) : zeroAt c o n = 0 := by
  have hzero : ∀ b ∈ slice c.params o n, (b == 0) = true := by
    intro b hb
    obtain ⟨i, hi, rfl⟩ := List.mem_iff_getElem.mp hb
    have hlen : i < n ∧ o + i < c.params.length := by
      simp only [slice, List.length_take, List.length_drop] at hi
      omega
    have hbyte := h i hlen.1
    rw [byteAt, List.getD_eq_getElem _ _ hlen.2] at hbyte
    simpa [slice] using BitVec.eq_of_toNat_eq (y := 0) hbyte
  rw [zeroAt, allZero, List.all_eq_true.mpr hzero, when_not_true]

theorem roleKeySet_passes (hlen : c.params.length = 36) (hrole : byteAt c.params 0 ≤ 4) (h1 : byteAt c.params 1 = 0) (h2 : byteAt c.params 2 = 0)
    (h3 : byteAt c.params 3 = 0) : opRoleKeySet.check c u = 0 := by
  have henum : decide (4 < byteAt c.params 0) = false := by simpa using hrole
  have hzero : zeroAt c 1 3 = 0 := by
    refine zeroAt_bytes fun i hi => ?_
    interval_cases i <;> assumption
  simp only [opRoleKeySet, stepOp, sizeIs_of_length hlen, henum, hzero, when_false, firstOf_zero_cons, firstOf_nil]

end

/-- Settles O25: each opcode is one step whose checks look at no part of the host interface. -/
theorem powerCommands : Obligations.PowerCommands := by
  refine ⟨?_, ?_, ?_, ?_, ?_, ?_, ?_, ?_, ?_, ?_⟩
  · exact reads_of_empty
  · refine acts_of_keeping opPwrStateSet ?_
    intro c u ⟨hlen, henum, hmode, hbrakes⟩
    rw [pwrStateSet_standby hlen henum hmode, hbrakes, when_false]
  · exact refuses_of_status opPwrStateSet fun c u ⟨hlen, henum, hmode⟩ => pwrStateSet_moving hlen henum hmode
  · refine refuses_of_status opPwrStateSet ?_
    intro c u ⟨hlen, henum, hmode, hbrakes⟩
    rw [pwrStateSet_standby hlen henum hmode, hbrakes]
    rfl
  · refine acts_of_keeping opReset ?_
    intro c u ⟨hlen, henum, hmode⟩
    rw [reset_layout hlen henum, hmode]
    rfl
  · refine refuses_of_status opReset ?_
    intro c u ⟨hlen, henum, hmode⟩
    rw [reset_layout hlen henum, bne_iff_ne.mpr hmode]
    rfl
  · exact reads_of_empty
  · exact acts_of_keeping opResetCauseClear (fun _ _ hlen => sizeIs_of_length hlen)
  · exact reads_of_empty
  · exact acts_of_keeping opRoleKeySet (fun c u ⟨hlen, hrole, h1, h2, h3⟩ => roleKeySet_passes hlen hrole h1 h2 h3)

end Sys2Proof.Machine
end

section
/-! SUPPORT. The module opcodes (R115, R116, R229, R232). -/

namespace Sys2Proof.Machine

set_option Elab.async false

section
variable {c : Cmd} {u : State} (hlen : c.params.length = 1)
include hlen

theorem moduleRead_passes (hslot : byteAt c.params 0 ≤ 7) : opModuleRead.check c u = 0 := by
  have hknown : decide (7 < byteAt c.params 0) = false := by simpa using hslot
  simp only [opModuleRead, readOp, sizeIs_of_length hlen, hknown, when_false, firstOf_zero_cons, firstOf_nil]

theorem moduleAccept_layout (hslot : byteAt c.params 0 ≤ 7) :
    opModuleAccept.check c u = when_ ((slotOf u (byteAt c.params 0)).state != 2) stInconsistent := by
  have hknown : decide (7 < byteAt c.params 0) = false := by simpa using hslot
  simp only [opModuleAccept, stepOp, sizeIs_of_length hlen, hknown, when_false, firstOf_zero_cons, firstOf_singleton]

theorem moduleRescan_passes (hslot : byteAt c.params 0 ≤ 7 ∨ byteAt c.params 0 = 0xFF) : opModuleRescan.check c u = 0 := by
  have hknown : decide (7 < byteAt c.params 0 ∧ byteAt c.params 0 ≠ 0xFF) = false := by
    rw [decide_eq_false_iff_not]
    omega
  simp only [opModuleRescan, stepOp, sizeIs_of_length hlen, hknown, when_false, firstOf_zero_cons, firstOf_nil]

end

/-- A rescan of one slot reads it where a module is present. -/
theorem moduleRescan_one {c : Cmd} {u : State} (hslot : byteAt c.params 0 ≤ 7) : opModuleRescan.run c u =
    .finish (if (slotOf u (byteAt c.params 0)).present then startRead (byteAt c.params 0) u else u) 0 [] none := by
  have hone : byteAt c.params 0 ≠ 0xFF := by omega
  simp only [opModuleRescan, stepOp, if_neg hone]

/-- Settles O26: each opcode is one step whose checks look at no part of the host interface. -/
theorem moduleCommands : Obligations.ModuleCommands := by
  refine ⟨?_, ?_, ?_, ?_, ?_, ?_, ?_⟩
  · exact reads_of_empty
  · exact acts_of_keeping opModuleRead (fun c u ⟨hlen, hslot⟩ => moduleRead_passes hlen hslot)
  · refine acts_of_keeping opModuleAccept ?_
    intro c u ⟨hlen, hslot, hstate⟩
    rw [moduleAccept_layout hlen hslot, hstate]
    rfl
  · refine refuses_of_status opModuleAccept ?_
    intro c u ⟨hlen, hslot, hstate⟩
    rw [moduleAccept_layout hlen hslot, bne_iff_ne.mpr hstate]
    rfl
  · refine acts_of_ending opModuleRescan (fun c u ⟨hlen, hslot, _⟩ => moduleRescan_passes hlen (.inl hslot)) ?_
      fun c u => Thins.of_only (startRead_only _ u)
    intro c u ⟨_, hslot, hpresent⟩
    rw [moduleRescan_one hslot, if_pos hpresent]
  · refine acts_of_ending opModuleRescan (fun c u ⟨hlen, hslot, _⟩ => moduleRescan_passes hlen (.inl hslot)) ?_ fun c u => Thins.refl u
    intro c u ⟨_, hslot, hempty⟩
    rw [moduleRescan_one hslot, hempty]
    rfl
  · exact acts_of_ending opModuleRescan (fun c u ⟨hlen, hall⟩ => moduleRescan_passes hlen (.inr hall))
      (fun c u ⟨_, hall⟩ => by simp only [opModuleRescan, stepOp, if_pos hall])
      fun c u => Thins.of_only (bootReads_only u)

end Sys2Proof.Machine
end

section
/-! SUPPORT. The metrology and event opcodes (R111, R113, R497, R500, R509, R510, R513, R514). -/

namespace Sys2Proof.Machine

set_option Elab.async false

theorem Only.setMtr {s : State} (x : MtrState) : Only [.mtr] s { s with mtr := x } := by
  apply Only.fields <;> simp

/-! The mailbox. -/

/-- The seal that an image shows: the word and its mark. -/
def sealShown (b : List Byte) : Nat × List Byte := (fieldU b 16 4, slice b 20 4)

/-- A seal shown is recorded where another was seen before. -/
def sealRecorded (new : Nat × List Byte) (s : State) : State :=
  match s.mtr.seen with
  | some old => if old = new then s else record .mtrSealChanged (be 2 (satU 16 old.1) ++ be 4 new.1) s
  | none => s

theorem sealRecorded_only (new : Nat × List Byte) (s : State) : Only [.evt] s (sealRecorded new s) := by
  unfold sealRecorded
  split
  · exact Only.ite (fun _ => Only.refl) fun _ => record_only _ _ s
  · exact Only.refl

theorem sealRecorded_of_known {new : Nat × List Byte} {s : State} (h : s.mtr.seen = none ∨ s.mtr.seen = some new) : sealRecorded new s = s := by
  rcases h with h | h <;> simp [sealRecorded, h]

theorem seeImage_eq {s : State} {b : List Byte} (h : s.mtr.image = some b) : seeImage s =
    { sealRecorded (sealShown b) s with mtr := { (sealRecorded (sealShown b) s).mtr with seen := some (sealShown b) } } := by
  unfold seeImage
  split
  · next hnone => cases hnone.symm.trans h
  · next i hi =>
    obtain rfl : i = b := Option.some.inj (hi.symm.trans h)
    rfl

/-- The image read is noted, a seal other than the one seen before recorded. -/
theorem seeImage_spec {s : State} {b : List Byte} (h : s.mtr.image = some b) :
    (seeImage s).mtr = { s.mtr with seen := some (sealShown b) } ∧ Only [.evt, .mtr] s (seeImage s) ∧
      ((s.mtr.seen = none ∨ s.mtr.seen = some (sealShown b)) → (seeImage s).evt = s.evt) := by
  have honly := sealRecorded_only (sealShown b) s
  have hmtr : (sealRecorded (sealShown b) s).mtr = s.mtr := honly.2 .mtr (by decide)
  rw [seeImage_eq h]
  refine ⟨?_, honly.comp (Only.setMtr _), fun hknown => ?_⟩
  · show ({ (sealRecorded (sealShown b) s).mtr with seen := some (sealShown b) } : MtrState) = _
    rw [hmtr]
  · exact (congrArg State.evt (sealRecorded_of_known hknown) :)

section
variable {c : Cmd} {u : State}

theorem mtrMailboxRead_layout (h : c.params = []) :
    opMtrMailboxRead.check c u = when_ (!u.mtr.on || u.mtr.image.isNone) stNotReady := by
  simp only [opMtrMailboxRead, stepOp, sizeIs_nil h, firstOf_zero_cons, firstOf_singleton]

theorem mtrIdentRead_passes (h : c.params = []) (hon : u.mtr.on = true) : opMtrIdentRead.check c u = 0 := by
  simp only [opMtrIdentRead, readOp, sizeIs_nil h, hon, when_not_true, firstOf_zero_cons, firstOf_nil]

end

/-- A mailbox image is read, and its seal noted. -/
theorem mtrMailboxRead_reads {r : Req} {s : State} {x : Session} {b : List Byte} (h : Fresh 0x0901 1 1 r [] s x) (hon : s.mtr.on = true)
    (himage : s.mtr.image = some b) : ∃ t : State, exec (.mtrMailboxRead r []) s = .next t ∧
      t.mtr = { s.mtr with seen := some (sealShown b) } ∧ Only [.host, .evt, .mtr, .out] s t ∧ findCmd t s.host.nextEntry = none ∧
      ((s.mtr.seen = none ∨ s.mtr.seen = some (sealShown b)) → t.evt = s.evt) := by
  have hadm := admitted_only 0x0901 1 1 r [] s
  have hmtr : (admitted 0x0901 1 1 r [] s).mtr = s.mtr := hadm.2 .mtr (by decide)
  have hevt : (admitted 0x0901 1 1 r [] s).evt = s.evt := hadm.2 .evt (by decide)
  obtain ⟨hseen, honly, hsame⟩ := seeImage_spec (hmtr ▸ himage : (admitted 0x0901 1 1 r [] s).mtr.image = some b)
  have hcheck : opMtrMailboxRead.check (cmdOf 0x0901 1 1 r [] s) (admitted 0x0901 1 1 r [] s) = 0 := by
    rw [mtrMailboxRead_layout rfl, hmtr, hon, himage]
    rfl
  have hpacket := packetIn_ends opMtrMailboxRead h hcheck rfl (.of_only honly)
  have hend := endCmd_only (cmdOf 0x0901 1 1 r [] s) .done 1 0 ((admitted 0x0901 1 1 r [] s).mtr.image.getD []) none
    (seeImage (admitted 0x0901 1 1 r [] s))
  refine ⟨_, congrArg Host.Outcome.next hpacket, ?_, ?_, findCmd_endCmd_same .., fun hold => ?_⟩
  · exact (hend.2 .mtr (by decide)).trans (hseen.trans (by rw [hmtr]))
  · exact (hadm.comp (rs := [.host, .evt, .mtr]) honly).comp hend
  · exact (hend.2 .evt (by decide)).trans ((hsame (by rw [hmtr]; exact hold)).trans hevt)

/-! Events. -/

theorem evtRead_passes {c : Cmd} {u : State} (hlen : c.params.length = 10) (hlo : 1 ≤ fieldU c.params 4 2) (hhi : fieldU c.params 4 2 ≤ 2048)
    (hsev : byteAt c.params 6 ≤ 4) : opEvtRead.check c u = 0 := by
  have hcount : decide (fieldU c.params 4 2 = 0 ∨ 2048 < fieldU c.params 4 2) = false := by
    rw [decide_eq_false_iff_not]
    omega
  have hrange : decide (4 < byteAt c.params 6) = false := by simpa using hsev
  simp only [opEvtRead, stepOp, sizeIs_of_length hlen, hcount, hrange, when_false, firstOf_zero_cons, firstOf_nil]

theorem meetBad_only (s : State) (r : EvRec) : Only [.evt] s (meetBad s r) := by
  unfold meetBad
  split
  · exact (Only.setEvt _).trans (record_only _ _ _)
  · exact Only.refl

theorem meetExamined_only (c : Cmd) (s : State) : Only [.evt] s (meetExamined c s) :=
  Only.refl.foldl _ meetBad_only _

theorem meetBad_of_good {r : EvRec} (h : r.bad = none) (s : State) : meetBad s r = s := by
  simp only [meetBad, h]

theorem mem_of_mem_evFrom {n : Nat} {e : RecState} {r : EvRec} (h : r ∈ evFrom n e) : r ∈ e.recs := by
  unfold evFrom at h
  extract_lets back at h
  split at h
  · cases h
  · exact List.mem_of_mem_drop h

/-- Where every record's CRC holds, an EVT_READ meets none (R513). -/
theorem meetExamined_of_good {s : State} (h : ∀ r ∈ s.evt.recs, r.bad = none) (c : Cmd) : meetExamined c s = s := by
  have hgood : ∀ l : List EvRec, (∀ r ∈ l, r.bad = none) → l.foldl meetBad s = s := by
    intro l
    induction l with
    | nil => exact fun _ => rfl
    | cons r l ih =>
      intro hl
      rw [List.foldl_cons, meetBad_of_good (hl r List.mem_cons_self), ih fun q hq => hl q (List.mem_cons_of_mem _ hq)]
  exact hgood _ fun r hr => h r (mem_of_mem_evFrom (List.mem_of_mem_take hr))

theorem clearEvents_only (n : Nat) (s : State) : Only [.evt] s (clearEvents n s) :=
  (Only.setEvt _).trans (record_only _ _ _)

/-- EVT_CLEARED is the one record left (R514). -/
theorem clearEvents_recs (n : Nat) (s : State) : ∀ e ∈ (clearEvents n s).evt.recs, e.ev = .evtCleared := by
  intro e he
  simp only [clearEvents, record, repKey, Option.bind_none, RecState.waiting, List.filter_nil, List.length_nil, evtBuffer, pushRec] at he
  simp at he
  rw [he]

/-- Settles O24: each opcode is one step; what it does to the mailbox and to the event log is said by their lemmas. -/
theorem islandAndEventCommands : Obligations.IslandAndEventCommands := by
  refine ⟨fun r s x b h hon himage => mtrMailboxRead_reads h hon himage, ?_, ?_, ?_, ?_, fun c s h => meetExamined_of_good h c, ?_, clearEvents_recs⟩
  · refine refuses_of_status opMtrMailboxRead ?_
    intro c u ⟨hempty, hnot⟩
    rw [mtrMailboxRead_layout hempty]
    obtain hoff | hnone := hnot
    · rw [hoff]
      rfl
    · rw [hnone, Option.isNone_none, Bool.or_true, when_true]
  · exact acts_of_keeping opMtrIdentRead fun c u ⟨hempty, hon⟩ => mtrIdentRead_passes hempty hon
  · exact reads_of_empty
  · exact acts_of_ending opEvtRead (fun c u ⟨hlen, hlo, hhi, hsev⟩ => evtRead_passes hlen hlo hhi hsev) (fun _ _ _ => rfl)
      fun c u => .of_only (meetExamined_only c u)
  · exact acts_of_ending opEvtClear (fun _ _ h => sizeIs_nil h) (fun _ _ _ => rfl) fun c u => .of_only (clearEvents_only c.slot u)

end Sys2Proof.Machine
end

section
/-! SUPPORT. The opcodes of the baseband (R101, R102, R163, R166, R169, R176). -/

namespace Sys2Proof.Machine

set_option Elab.async false

section
variable {c : Cmd} {u : State}

theorem gnssStatus_layout (h : c.params = []) : opGnssStatus.check c u = when_ (!gnssUp u || u.gnss.epoch.isNone) stNotReady := by
  simp only [opGnssStatus, readOp, sizeIs_nil h, firstOf_zero_cons, firstOf_singleton]

theorem gnssRawRead_passes (hlen : c.params.length = 6) (hant : byteAt c.params 0 ≤ 2 ∨ byteAt c.params 0 = 0xFF) (hzero : byteAt c.params 1 = 0)
    (hlo : 1 ≤ fieldU c.params 4 2) (hhi : fieldU c.params 4 2 ≤ 256) (hup : gnssUp u = true) (hepoch : u.gnss.rawEpoch.isSome = true) :
    opGnssRawRead.check c u = 0 := by
  have hknown : decide (2 < byteAt c.params 0 ∧ byteAt c.params 0 ≠ 0xFF) = false := by
    rw [decide_eq_false_iff_not]
    omega
  have hcount : decide (fieldU c.params 4 2 = 0 ∨ 256 < fieldU c.params 4 2) = false := by
    rw [decide_eq_false_iff_not]
    omega
  have hready : (!gnssUp u || u.gnss.rawEpoch.isNone) = false := by simp [hup, hepoch]
  simp only [opGnssRawRead, readOp, sizeIs_of_length hlen, hknown, zeroAt_one hzero, hcount, hready, when_false, firstOf_zero_cons, firstOf_nil]

theorem navBitsRead_passes (hlen : c.params.length = 2) (hchan : fieldU c.params 0 2 ≤ 255) : opNavBitsRead.check c u = 0 := by
  have hknown : decide (255 < fieldU c.params 0 2) = false := by simpa using hchan
  simp only [opNavBitsRead, readOp, sizeIs_of_length hlen, hknown, when_false, firstOf_zero_cons, firstOf_nil]

theorem rtcmInput_passes (hmin : 2 ≤ c.params.length) (hlen : c.params.length = 2 + fieldU c.params 0 2) : opRtcmInput.check c u = 0 := by
  have hshort : decide (c.params.length < 2) = false := decide_eq_false (by omega)
  simp only [opRtcmInput, stepOp, bne_eq_false_iff_eq.mpr hlen, hshort, Bool.or_false, when_false]

end

/-! Frames taken (R102, R169). -/

theorem useBase_only (id : Nat) (p : Int × Int × Int) (s : State) : Only [.evt, .gnss] s (useBase id p s) :=
  Only.ite (fun _ => (Only.setGnss _).comp (record_only _ _ _)) fun _ => (Only.setGnss _).mono (by decide)

theorem takeFrame_only (f : List Byte) (s : State) : Only [.evt, .gnss] s (takeFrame f s) := by
  unfold takeFrame
  extract_lets t id p arps s1
  have h1 : Only [.evt, .gnss] s s1 := (Only.setGnss _).mono (by decide)
  refine Only.ite (fun _ => Only.ite (fun _ => h1.trans (useBase_only _ _ _)) fun _ => h1) fun _ => Only.ite (fun _ => ?_) fun _ => Only.refl
  split
  · exact (useBase_only _ _ s).comp (Only.setGnss _)
  · exact Only.refl

theorem keepRtcm_only (f : List Byte) (s : State) : Only [.sch] s (keepRtcm f s) :=
  Only.ite (fun _ => Only.setSch _) fun _ => Only.refl

theorem takeFrames_only (k : Nat) (bs : List Byte) (s : State) (t u : Nat) : Only [.evt, .gnss, .sch] s (takeFrames k bs s t u).1 := by
  induction k generalizing bs s t u with
  | zero => exact Only.refl
  | succ k ih =>
    unfold takeFrames
    split
    · exact Only.refl
    · split
      · exact Only.refl
      · exact ih _ s _ _
      · split
        · exact ((takeFrame_only _ s).comp (rs := [.evt, .gnss, .sch]) (keepRtcm_only _ _)).trans (ih _ _ _ _)
        · exact ih _ s _ _

/-- Settles O18: each opcode is one step, and only RTCM_INPUT changes anything. -/
theorem gnssCommands : Obligations.GnssCommands := by
  refine ⟨?_, ?_, ?_, ?_, ?_⟩
  · refine acts_of_keeping opGnssStatus ?_
    intro c u ⟨hempty, hup, hepoch⟩
    rw [gnssStatus_layout hempty, hup, Option.isNone_eq_false_iff.mpr hepoch]
    rfl
  · refine refuses_of_status opGnssStatus ?_
    intro c u ⟨hempty, hnot⟩
    rw [gnssStatus_layout hempty]
    obtain hdown | hnone := hnot
    · rw [hdown]
      rfl
    · rw [hnone, Option.isNone_none, Bool.or_true, when_true]
  · exact acts_of_keeping opGnssRawRead fun c u ⟨hlen, hant, hzero, hlo, hhi, hup, hepoch⟩ =>
      gnssRawRead_passes hlen hant hzero hlo hhi hup hepoch
  · exact acts_of_keeping opNavBitsRead fun c u ⟨hlen, hchan⟩ => navBitsRead_passes hlen hchan
  · exact acts_of_ending opRtcmInput (fun c u ⟨hmin, hlen⟩ => rtcmInput_passes hmin hlen) (fun _ _ _ => rfl)
      fun c u => .of_only (takeFrames_only _ _ u _ _)

end Sys2Proof.Machine
end

section
/-! SUPPORT. The redundancy opcodes (R107, R108, R420, R435, R444, R447). -/

namespace Sys2Proof.Machine

set_option Elab.async false

/-! What the transmit queues of the cascade leave. -/

section
variable {α : Type} (part : GrpState → α) (hpart : ∀ g q f n, part { g with txq := q, txFree := f, txSeq := n } = part g)
include hpart

theorem drainPort_grp_part (n : Nat) (s : State) (port : Nat) : part (drainPort n s port).grp = part s.grp := by
  induction n generalizing s with
  | zero => rfl
  | succ n ih =>
    unfold drainPort
    extract_lets free
    split
    · split
      · rfl
      · exact (ih _).trans (hpart s.grp _ _ s.grp.txSeq)
    · rfl

theorem drainCasc_grp_part (s : State) : part (drainCasc s).grp = part s.grp := by
  simp only [drainCasc, List.foldl_cons, List.foldl_nil, drainPort_grp_part part hpart]

theorem queueCasc_grp_part (f : TxFrame) (s : State) : part (queueCasc f s).grp = part s.grp := by
  unfold queueCasc
  extract_lets s1
  exact (drainCasc_grp_part part hpart _).trans ((hpart s1.grp _ _ s1.grp.txSeq).trans (drainCasc_grp_part part hpart s))

/-- A message sent leaves all of the group but its queues. -/
theorem sendCascOf_grp_part (period typ dst : Nat) (payload : List Byte) (s : State) :
    part (sendCascOf period typ dst payload s).grp = part s.grp := by
  have hfold : ∀ (f : TxFrame) (ports : List Nat) (t : State),
      part (ports.foldl (fun s p => queueCasc { f with port := p } s) t).grp = part t.grp := by
    intro f ports
    induction ports with
    | nil => exact fun _ => rfl
    | cons p ports ih => exact fun t => (ih _).trans (queueCasc_grp_part part hpart _ t)
  exact (hfold ⟨0, dst, typ, _⟩ _ _).trans (hpart s.grp s.grp.txq s.grp.txFree _)

end

/-! ROLE_SET. -/

theorem newEpoch_only (e : Nat) (s : State) : Only [.evt, .grp] s (newEpoch e s) :=
  (Only.setGrp _).comp (record_only _ _ _)

theorem nowOwns_only (s : State) : Only [.grp, .out] s (nowOwns s) :=
  (Only.setGrp _).comp (emit_only _ _)

theorem takeUp_only (s : State) : Only [.evt, .grp, .out] s (takeUp s) :=
  Only.ite (fun _ => Only.refl) fun _ =>
    (Only.ite (fun _ => Only.refl) fun _ => newEpoch_only _ s).comp ((nowOwns_only _).trans (announce_only _))

section
variable {c : Cmd} {u : State}

theorem roleSet_layout (hlen : c.params.length = 1) (henum : byteAt c.params 0 ≤ 3) :
    opRoleSet.check c u = firstOf [when_ (u.ctl.mode != 0) stNotStandby, when_ (roleSetBad (byteAt c.params 0) u) stInconsistent] := by
  have hknown : decide (3 < byteAt c.params 0) = false := by simpa using henum
  simp only [opRoleSet, stepOp, sizeIs_of_length hlen, hknown, when_false, firstOf_zero_cons]

theorem roleSet_passes (hlen : c.params.length = 1) (henum : byteAt c.params 0 ≤ 3) (hmode : u.ctl.mode = 0)
    (hrole : roleSetBad (byteAt c.params 0) u = false) : opRoleSet.check c u = 0 := by
  rw [roleSet_layout hlen henum, hmode, hrole]
  rfl

theorem roleSet_moving (hlen : c.params.length = 1) (henum : byteAt c.params 0 ≤ 3) (hmode : u.ctl.mode ≠ 0) :
    opRoleSet.check c u = stNotStandby := by
  rw [roleSet_layout hlen henum, bne_iff_ne.mpr hmode]
  exact firstOf_cons_of_ne_zero (n := stNotStandby) (by decide) _

/-! HEALTH_READ. -/

theorem healthRead_passes (hlen : c.params.length = 1) (hknown : byteAt c.params 0 = deviceNo u ∨ byteAt c.params 0 ≤ 3 ∧
    ∃ n, (peerOf u (byteAt c.params 0)).healthPeriod = some n ∧ periodIndex u ≤ n + 3) : opHealthRead.check c u = 0 := by
  simp only [opHealthRead, stepOp, sizeIs_of_length hlen, firstOf_zero_cons, firstOf_singleton]
  obtain hown | ⟨hno, n, hperiod, hrecent⟩ := hknown
  · rw [hown, bne_self_eq_false, Bool.false_and, when_false]
  · rw [hperiod, decide_eq_true hno]
    simp only [decide_eq_true hrecent, Bool.and_true, Bool.not_true, Bool.and_false, when_false]

/-! HANDOVER_REQUEST. -/

theorem handoverRequest_notMaster (hlen : c.params.length = 1) (hrole : u.grp.role ≠ 0) : opHandoverRequest.check c u = stNotMaster := by
  simp only [opHandoverRequest, stepOp, sizeIs_of_length hlen, bne_iff_ne.mpr hrole, when_true, firstOf_zero_cons]
  exact firstOf_cons_of_ne_zero (n := stNotMaster) (by decide) _

theorem handoverRequest_passes (hlen : c.params.length = 1) (hrole : u.grp.role = 0)
    (hpeer : byteAt c.params 0 = deviceNo u ∨ byteAt c.params 0 ≤ 3 ∧ (peerOf u (byteAt c.params 0)).announced = true)
    (hidle : handoverActive u = false) (hmay : mayTakeOver u (byteAt c.params 0) = true) : opHandoverRequest.check c u = 0 := by
  have hknown : (byteAt c.params 0 != deviceNo u && !(decide (byteAt c.params 0 ≤ 3) && (peerOf u (byteAt c.params 0)).announced)) = false := by
    obtain hown | ⟨hno, hannounced⟩ := hpeer
    · rw [hown, bne_self_eq_false, Bool.false_and]
    · rw [decide_eq_true hno, hannounced, Bool.true_and, Bool.not_true, Bool.and_false]
  simp only [opHandoverRequest, stepOp, sizeIs_of_length hlen, hrole, bne_self_eq_false, hknown, hidle, hmay, when_false, when_not_true,
    firstOf_zero_cons, firstOf_nil]

end

theorem seeEpoch_only (e : Nat) (s : State) : Only [.grp] s (seeEpoch e s) :=
  Only.ite (fun _ => Only.setGrp _) fun _ => Only.refl

theorem seeEpoch_hoCount (e : Nat) (s : State) : (seeEpoch e s).grp.hoCount = s.grp.hoCount := by
  unfold seeEpoch
  split <;> rfl

theorem sendHandover_only (h : Handover) (s : State) : Only [.grp, .out] s (sendHandover h s) :=
  have h1 : Only [.grp, .out] s (if h.oldAcked || h.cmd.isSome then s else sendCasc 0x04 h.old (hoBytes h.id h.epoch h.target h.old 0 0) s) :=
    Only.ite (fun _ => Only.refl) fun _ => sendCasc_only _ _ _ s
  (h1.trans (Only.ite (fun _ => Only.refl) fun _ => sendCasc_only _ _ _ _)).comp (Only.setGrp _)

theorem sendHandover_hoCount (h : Handover) (s : State) : (sendHandover h s).grp.hoCount = s.grp.hoCount := by
  have hsend : ∀ typ dst payload (t : State), (sendCasc typ dst payload t).grp.hoCount = t.grp.hoCount :=
    fun _ _ _ t => sendCascOf_grp_part GrpState.hoCount (fun _ _ _ _ => rfl) _ _ _ _ t
  unfold sendHandover
  extract_lets s1 s2
  have h1 : s1.grp.hoCount = s.grp.hoCount := by
    unfold s1
    split
    · rfl
    · exact hsend _ _ _ s
  have h2 : s2.grp.hoCount = s1.grp.hoCount := by
    unfold s2
    split
    · rfl
    · exact hsend _ _ _ s1
  exact h2.trans h1

/-- The handover that a HANDOVER_REQUEST begins (R444). -/
def requested (c : Cmd) (s : State) : Handover :=
  { id := s.grp.hoCount, epoch := (s.grp.ownEpoch + 1) % 65536, target := byteAt c.params 0, old := deviceNo s, cause := 4, tried := [],
    startedAt := s.time.elapsed, lastSent := s.time.elapsed, oldAcked := false, targetAcked := false, cmd := some c.entry }

/-- A HANDOVER_REQUEST counts its handover and sends the first TAKE. -/
def beginHandover (c : Cmd) (s : State) : State :=
  sendHandover (requested c s)
    (seeEpoch (requested c s).epoch { s with grp := { s.grp with hoCount := (s.grp.hoCount + 1) % 65536 } })

theorem beginHandover_only (c : Cmd) (s : State) : Only [.grp, .out] s (beginHandover c s) :=
  ((Only.setGrp _).trans (seeEpoch_only _ _)).comp (rs := [.grp, .out]) (sendHandover_only _ _)

theorem beginHandover_hoCount (c : Cmd) (s : State) : (beginHandover c s).grp.hoCount = (s.grp.hoCount + 1) % 65536 := by
  rw [beginHandover, sendHandover_hoCount, seeEpoch_hoCount]

/-- A request to a device that may take over begins its handover and waits. -/
theorem handoverRequest_begins {r : Req} {p : List Byte} {s : State} {x : Session} (h : Fresh 0x0703 1 1 r p s x) (hlen : p.length = 1)
    (hrole : s.grp.role = 0) (hpeer : byteAt p 0 = deviceNo s ∨ byteAt p 0 ≤ 3 ∧ (peerOf s (byteAt p 0)).announced = true)
    (hidle : handoverActive s = false) (hmay : mayTakeOver s (byteAt p 0) = true) : ∃ t : State, exec (.handoverRequest r p) s = .next t ∧
      t.grp.hoCount = (s.grp.hoCount + 1) % 65536 ∧ (findCmd t s.host.nextEntry).map (·.data) = some [1] ∧ Only [.host, .grp, .out] s t ∧
      ∃ h : Handover, t.grp.ho = some h ∧ h.epoch = (s.grp.ownEpoch + 1) % 65536 ∧ h.target = byteAt p 0 ∧ h.old = deviceNo s ∧ h.cause = 4 := by
  let c := cmdOf 0x0703 1 1 r p s
  have hadm : Only [.host] s (admitted 0x0703 1 1 r p s) := admitted_only ..
  have hcheck : opHandoverRequest.check c (admitted 0x0703 1 1 r p s) = 0 := by
    rw [admitted_eq_setHost]
    exact handoverRequest_passes hlen hrole hpeer hidle hmay
  have hgrp : (admitted 0x0703 1 1 r p s).grp = s.grp := hadm.2 .grp (by decide)
  have hcfg : (admitted 0x0703 1 1 r p s).cfg = s.cfg := hadm.2 .cfg (by decide)
  have honly := beginHandover_only c (admitted 0x0703 1 1 r p s)
  have hpacket : packetIn true opHandoverRequest r p s = modCmd s.host.nextEntry (Cmd.waits [1]) (beginHandover c (admitted 0x0703 1 1 r p s)) :=
    packetIn_waits opHandoverRequest h hcheck rfl
  have hfound : findCmd (beginHandover c (admitted 0x0703 1 1 r p s)) s.host.nextEntry = some c :=
    (findCmd_of_cmds (congrArg HostState.cmds (honly.2 .host (by decide))) _).trans (h.findCmd_admitted 1)
  refine ⟨_, congrArg Host.Outcome.next hpacket, ?_, ?_, (hadm.comp (rs := [.host, .grp, .out]) honly).comp (modCmd_only _ _ _),
    { requested c (admitted 0x0703 1 1 r p s) with lastSent := _ }, rfl, ?_, rfl, ?_, rfl⟩
  · exact (beginHandover_hoCount _ _).trans (by rw [hgrp])
  · rw [findCmd_waits hfound]
    rfl
  · exact (by rw [hgrp] : ((admitted 0x0703 1 1 r p s).grp.ownEpoch + 1) % 65536 = _)
  · rw [requested, admitted_eq_setHost]
    rfl

/-- Settles O22: ROLE_SET and the reads are one step, HANDOVER_REQUEST's first step waits. -/
theorem groupCommands : Obligations.GroupCommands := by
  refine ⟨reads_of_empty, ?_, ?_, ?_, ?_, fun r p s x => handoverRequest_begins⟩
  · exact acts_of_ending opRoleSet (fun c u ⟨hlen, henum, hmode, hrole⟩ => roleSet_passes hlen henum hmode hrole) (fun _ _ _ => rfl)
      fun c u => (Thins.of_only (changeRole_only _ u)).trans (.of_only (takeUp_only _))
  · exact refuses_of_status opRoleSet fun c u ⟨hlen, henum, hmode⟩ => roleSet_moving hlen henum hmode
  · exact acts_of_keeping opHealthRead fun c u ⟨hlen, hknown⟩ => healthRead_passes hlen hknown
  · exact refuses_of_status opHandoverRequest fun c u ⟨hlen, hrole⟩ => handoverRequest_notMaster hlen hrole

end Sys2Proof.Machine
end

section
/-! SUPPORT. The time opcodes (R104, R125, R129, R131, R134, R140, R141, R144). -/

namespace Sys2Proof.Machine

set_option Elab.async false

/-! TIME_SET: every command in flight keeps its place while the counter moves. -/

/-- A command whose time at validation has moved with the counter (R134). -/
def Cmd.moved (delta : Int) (c : Cmd) : Cmd := { c with validT := c.validT + delta }

/-- The end of a command does not read its time at validation. -/
theorem endCmd_moved (c : Cmd) (delta : Int) (j : JState) (k status : Nat) (reply : List Byte) (first : Option Nat) (s : State) :
    endCmd (c.moved delta) j k status reply first s = endCmd c j k status reply first s := rfl

theorem requestSync_only (b o : Nat) (s : State) : Only [.acq, .grp, .out] s (requestSync b o s) :=
  Only.ite (fun _ => (Only.setAcq _).comp (sendCasc_only _ _ _ _)) fun _ => (Only.setAcq _).mono (by decide)

theorem askAgain_only (old b : Int) (s : State) : Only [.acq, .grp, .out] s (askAgain old b s) :=
  Only.ite (fun _ => Only.refl) fun _ => (Only.setAcq _).comp (requestSync_only _ _ _)

theorem realign_only (cause : Nat) (delta : Int) (s : State) : Only [.grid, .acq, .evt, .grp, .out] s (realign cause delta s) := by
  unfold realign
  extract_lets g old a b s1
  have h1 : Only [.grid, .acq, .grp, .out] s s1 :=
    Only.ite (fun _ => Only.comp (ps := [.grid]) (by apply Only.fields <;> simp) (askAgain_only _ _ _)) fun _ => Only.refl
  exact h1.comp (record_only _ _ s1)

theorem initialStep_cmds (t origin : Nat) (state : TState) (s : State) :
    (initialStep t origin state s).host.cmds = s.host.cmds.map (Cmd.moved ((t : Int) - s.time.total)) := by
  have hreal := fun u => (realign_only 4 ((t : Int) - s.time.total) (record .timeSet (be 1 origin) u)).2 .host (by decide)
  exact congrArg HostState.cmds ((hreal _).trans ((record_only _ _ _).2 .host (by decide)))

theorem findCmd_initialStep {s : State} {e : Nat} {c : Cmd} (h : findCmd s e = some c) (t origin : Nat) (state : TState) :
    findCmd (initialStep t origin state s) e = some (c.moved ((t : Int) - s.time.total)) := by
  rw [findCmd, initialStep_cmds, List.find?_map]
  exact congrArg (Option.map _) (show s.host.cmds.find? (fun i => i.entry == e) = some c from h)

section
variable {c : Cmd} {u : State}

theorem timeSet_layout (hlen : c.params.length = 12) (hns : badNs c 8 = 0) (hlead : isFollower u = false) :
    opTimeSet.check c u = firstOf [when_ (timeValid u) stTimeAlreadySet, when_ u.cfg.locked stConfigLocked] := by
  simp only [opTimeSet, stepOp, sizeIs_of_length hlen, hns, hlead, when_false, firstOf_zero_cons]

theorem timeSet_passes (hlen : c.params.length = 12) (hns : badNs c 8 = 0) (hlead : isFollower u = false) (hunset : timeValid u = false)
    (hopen : u.cfg.locked = false) : opTimeSet.check c u = 0 := by
  rw [timeSet_layout hlen hns hlead, hunset, hopen]
  rfl

theorem timeSet_again (hlen : c.params.length = 12) (hns : badNs c 8 = 0) (hlead : isFollower u = false) (hset : timeValid u = true) :
    opTimeSet.check c u = stTimeAlreadySet := by
  rw [timeSet_layout hlen hns hlead, hset]
  exact firstOf_cons_of_ne_zero (n := stTimeAlreadySet) (by decide) _

/-! TIME_RATE. -/

theorem timeRate_passes (hlen : c.params.length = 8) (hrange : rateInRange (num64 (fieldF64 c.params 0)) = true) (hset : timeValid u = true)
    (hlead : isFollower u = false) (hhost : pNat u 0x0502 ≠ 0)
    (hslew : (((num64 (fieldF64 c.params 0)).add (rateOf u.time.incr).neg).abs.le (Num.ofInt (pNat u 0x0504))) = true) :
    opTimeRate.check c u = 0 := by
  have hmine : (isFollower u || pNat u 0x0502 == 0) = false := by rw [hlead, beq_false_of_ne hhost, Bool.false_or]
  simp only [opTimeRate, stepOp, sizeIs_of_length hlen, hrange, hset, hmine, hslew, when_false, when_not_true, firstOf_zero_cons, firstOf_nil]

/-! TX_STAMP_READ. -/

theorem txStampRead_passes (hlen : c.params.length = 1) (hlo : 1 ≤ byteAt c.params 0) (hhi : byteAt c.params 0 ≤ 100) :
    opTxStampRead.check c u = 0 := by
  have hcount : decide (byteAt c.params 0 = 0 ∨ 100 < byteAt c.params 0) = false := by
    rw [decide_eq_false_iff_not]
    omega
  simp only [opTxStampRead, stepOp, sizeIs_of_length hlen, hcount, when_false, firstOf_zero_cons, firstOf_nil]

/-! TIME_STEP. -/

theorem timeStep_passes (hlen : c.params.length = 12) (hns : badNs c 8 = 0) (hlead : isFollower u = false) (hset : timeValid u = true) :
    opTimeStep.check c u = 0 := by
  simp only [opTimeStep, stepOp, sizeIs_of_length hlen, hns, hlead, hset, when_false, when_not_true, firstOf_zero_cons, firstOf_nil]

end

/-- TIME_SET loads the counter and ends, whatever the commands in flight show as their time. -/
theorem timeSet_acts : Acts 0x0502 1 1 .timeSet
    (fun c s => c.params.length = 12 ∧ badNs c 8 = 0 ∧ isFollower s = false ∧ timeValid s = false ∧ s.cfg.locked = false)
    (fun c s => initialStep (timeField c 0) 0 .free s) (fun _ _ => []) (fun _ _ => none) := by
  intro r p s x h c u ⟨hlen, hns, hlead, hunset, hopen⟩
  have hcheck : opTimeSet.check (waitingCmd 0x0502 1 1 r p s) (accepted 0x0502 1 1 r p s) = 0 :=
    (HostBlind.accepted_check (d := opTimeSet) (fun _ _ _ => rfl) r p s).trans (timeSet_passes hlen hns hlead hunset hopen)
  have hfound : findCmd (initialStep (timeField c 0) 0 .free u) s.host.nextEntry = some (c.moved ((timeField c 0 : Int) - u.time.total)) :=
    findCmd_initialStep (h.findCmd_admitted 1) _ _ _
  have hpacket : packetIn true opTimeSet r p s =
      endCmd ((findCmd (initialStep (timeField c 0) 0 .free u) s.host.nextEntry).getD c) .done 1 0 [] none (initialStep (timeField c 0) 0 .free u) :=
    packetIn_begins (d := opTimeSet) (by decide) h hcheck
  refine congrArg Host.Outcome.next (hpacket.trans ?_)
  rw [hfound, Option.getD_some, endCmd_moved]

/-! TX_STAMP_READ takes stamps off the queue (R140, R141). -/

/-- The queue after a read of `n` stamps: an episode of overflow ends with the queue empty. -/
def stampsTaken (n : Nat) (s : State) : State :=
  let done := s.time.txEpisode && (s.time.txQueue.drop n).isEmpty
  { s with time := { s.time with txQueue := s.time.txQueue.drop n, txOverflow := false, txEpisode := s.time.txEpisode && !done,
                                 txDiscarded := if done then 0 else s.time.txDiscarded } }

/-- A read that empties the queue records the episode of overflow that it ends. -/
def stampsRead (n : Nat) (s : State) : State :=
  if s.time.txEpisode && (s.time.txQueue.drop n).isEmpty then record .txStampOverflow (be 4 (satU 32 s.time.txDiscarded)) (stampsTaken n s)
  else stampsTaken n s

theorem stampsRead_taken (n : Nat) (s : State) : Only [.evt] (stampsTaken n s) (stampsRead n s) :=
  Only.ite (fun _ => record_only _ _ _) fun _ => Only.refl

theorem txStampRead_reads {r : Req} {p : List Byte} {s : State} {x : Session} (h : Fresh 0x0505 1 1 r p s x) (hlen : p.length = 1)
    (hlo : 1 ≤ byteAt p 0) (hhi : byteAt p 0 ≤ 100) : ∃ t : State, exec (.txStampRead r p) s = .next t ∧
      t.time.txQueue = s.time.txQueue.drop (byteAt p 0) ∧ t.time.txOverflow = false ∧ Only [.time, .host, .evt, .out] s t ∧
      t.time = { s.time with txQueue := t.time.txQueue, txOverflow := false, txEpisode := t.time.txEpisode, txDiscarded := t.time.txDiscarded } := by
  let n := byteAt p 0
  let u := admitted 0x0505 1 1 r p s
  have hadm : Only [.host] s u := admitted_only ..
  have htaken : Only [.time] u (stampsTaken n u) := Only.setTime _
  have hread := htaken.comp (rs := [.time, .evt]) (stampsRead_taken n u)
  obtain ⟨reply, hpacket⟩ : ∃ reply, packetIn true opTxStampRead r p s = endCmd (cmdOf 0x0505 1 1 r p s) .done 1 0 reply none (stampsRead n u) :=
    ⟨_, packetIn_ends opTxStampRead h (txStampRead_passes hlen hlo hhi) rfl (.of_only hread)⟩
  have hend := endCmd_only (cmdOf 0x0505 1 1 r p s) .done 1 0 reply none (stampsRead n u)
  have ht := (hend.2 .time (by decide)).trans ((stampsRead_taken n u).2 .time (by decide))
  have htime : u.time = s.time := hadm.2 .time (by decide)
  refine ⟨_, congrArg Host.Outcome.next hpacket, ?_, ?_, (hadm.comp (rs := [.time, .host, .evt]) hread).comp hend, ?_⟩
  all_goals rw [ht, stampsTaken, htime]

/-! TIME_STEP (R134, R144). -/

/-- The step that a TIME_STEP announces: from the counter at validation to the time asked for, at the next whole millisecond 10 ms on. -/
def announced (c : Cmd) (i : Nat) (s : State) : PendStep :=
  { delta := (timeField c 0 : Int) - c.validT, instant := i, origin := 0, count := (s.time.stepCount + 1) % 65536, entry := some c.entry }

/-- The instant of a step announced now. -/
def stepInstant (s : State) : Nat := ((s.time.total + b2n (s.time.frac != 0) + 10000000 + 999999) / 1000000) * 1000000

/-- One more step waits. -/
def withStep (q : PendStep) (s : State) : State := { s with time := { s.time with steps := s.time.steps ++ [q] } }

/-- The fall of the pulse in progress. -/
def withFall (n : Nat) (s : State) : State := { s with time := { s.time with ppsFall := n } }

/-- A pulse in progress may end sooner for a step that waits. -/
theorem addStep_cases (q : PendStep) (s : State) :
    addStep q s = withStep q s ∨ ∃ o n, n ≤ s.time.ppsFall ∧ addStep q s = emit o (withFall n (withStep q s)) := by
  unfold addStep
  extract_lets src s1
  split
  · extract_lets since fall
    split
    · next hsooner => exact .inr ⟨_, _, hsooner.2.le, rfl⟩
    · exact .inl rfl
  · exact .inl rfl

theorem addStep_only (q : PendStep) (s : State) : Only [.time, .out] s (addStep q s) := by
  obtain h | ⟨o, n, -, h⟩ := addStep_cases q s <;> rw [h]
  · exact (Only.setTime _).mono (by decide)
  · exact ((Only.setTime _).trans (Only.setTime _)).comp (emit_only _ _)

theorem addStep_time (q : PendStep) (s : State) :
    (addStep q s).time = { s.time with steps := s.time.steps ++ [q], ppsFall := (addStep q s).time.ppsFall } ∧
      (addStep q s).time.ppsFall ≤ s.time.ppsFall := by
  obtain h | ⟨o, n, hn, h⟩ := addStep_cases q s <;> rw [h]
  · exact ⟨rfl, le_rfl⟩
  · exact ⟨rfl, hn⟩

theorem stepNotice_only (q : PendStep) (s : State) : Only [.grp, .out] s (stepNotice q s) :=
  Only.ite (fun _ => sendCasc_only _ _ _ _) fun _ => Only.refl

theorem timeStep_waits {r : Req} {p : List Byte} {s : State} {x : Session} (h : Fresh 0x0503 1 1 r p s x)
    (hlen : p.length = 12) (hns : badNs (cmdOf 0x0503 1 1 r p s) 8 = 0) (hlead : isFollower s = false) (hset : timeValid s = true) :
    ∃ t : State, exec (.timeStep r p) s = .next t ∧
      t.time = { s.time with steps := s.time.steps ++ [announced (cmdOf 0x0503 1 1 r p s) (stepInstant s) s], ppsFall := t.time.ppsFall } ∧
      t.time.ppsFall ≤ s.time.ppsFall ∧ (findCmd t s.host.nextEntry).map (·.data) = some [stepInstant s] ∧ Only [.time, .host, .grp, .out] s t := by
  let c := cmdOf 0x0503 1 1 r p s
  let u := admitted 0x0503 1 1 r p s
  let q := announced c (stepInstant s) s
  let v := stepNotice q (addStep q u)
  have hadm : Only [.host] s u := admitted_only ..
  have htime : u.time = s.time := hadm.2 .time (by decide)
  have hcheck : opTimeStep.check c u = 0 := by
    unfold u
    rw [admitted_eq_setHost]
    exact timeStep_passes hlen hns hlead hset
  have hrun : opTimeStep.run c u = .wait v [stepInstant s] := by
    have hraw : opTimeStep.run c u =
      .wait (stepNotice (announced c (stepInstant u) u) (addStep (announced c (stepInstant u) u) u)) [stepInstant u] := rfl
    rw [hraw, stepInstant, announced, htime]
    rfl
  have hadd := addStep_only q u
  have honly : Only [.time, .grp, .out] u v := hadd.comp (stepNotice_only _ _)
  have hv : v.time = (addStep q u).time := (stepNotice_only q _).2 .time (by decide)
  obtain ⟨hsteps, hfall⟩ := addStep_time q u
  have hfound : findCmd v s.host.nextEntry = some c :=
    (findCmd_of_cmds (congrArg HostState.cmds (honly.2 .host (by decide))) _).trans (h.findCmd_admitted 1)
  refine ⟨_, congrArg Host.Outcome.next (packetIn_waits opTimeStep h hcheck hrun), ?_, ?_, ?_,
    (hadm.comp (rs := [.time, .host, .grp, .out]) honly).comp (modCmd_only _ _ _)⟩
  · show v.time = { s.time with steps := s.time.steps ++ [q], ppsFall := v.time.ppsFall }
    rw [hv, ← htime]
    exact hsteps
  · show v.time.ppsFall ≤ s.time.ppsFall
    rw [hv, ← htime]
    exact hfall
  · show (findCmd (modCmd s.host.nextEntry (Cmd.waits [stepInstant s]) v) s.host.nextEntry).map (·.data) = _
    rw [findCmd_waits hfound]
    rfl

/-- Settles O19: every opcode is one step; TIME_STEP's waits for its instant. -/
theorem timeCommands : Obligations.TimeCommands := by
  refine ⟨reads_of_empty, timeSet_acts, ?_, ?_, fun r p s x => txStampRead_reads, fun r p s x h => timeStep_waits h⟩
  · exact refuses_of_status opTimeSet fun c u ⟨hlen, hns, hlead, hset⟩ => timeSet_again hlen hns hlead hset
  · exact acts_of_ending opTimeRate (fun c u ⟨hlen, hrange, hset, hlead, hhost, hslew⟩ => timeRate_passes hlen hrange hset hlead hhost hslew)
      (fun _ _ _ => rfl) fun c u => .of_only (writeRate_only _ u)

end Sys2Proof.Machine
end

section
/-! SUPPORT. The opcodes that read configuration and signals (R91, R95, R97, R98, R400). -/

namespace Sys2Proof.Machine

set_option Elab.async false

section
variable {c : Cmd} {u : State}

/-! CONFIG_GET. -/

theorem configGet_layout (hlen : c.params.length = 2) : opConfigGet.check c u =
    when_ ((paramDef (fieldU c.params 0 2)).isNone && !isReport (fieldU c.params 0 2)) stUnknownObject := by
  simp only [opConfigGet, readOp, sizeIs_of_length hlen, firstOf_zero_cons, firstOf_singleton]

theorem configGet_param (hlen : c.params.length = 2) (hdef : (paramDef (fieldU c.params 0 2)).isSome = true) : opConfigGet.check c u = 0 := by
  rw [configGet_layout hlen, Option.isNone_eq_false_iff.mpr hdef, Bool.false_and, when_false]

theorem configGet_report (hlen : c.params.length = 2) (hrep : isReport (fieldU c.params 0 2) = true) : opConfigGet.check c u = 0 := by
  rw [configGet_layout hlen, hrep, Bool.not_true, Bool.and_false, when_false]

theorem configGet_unknown (hlen : c.params.length = 2) (hdef : paramDef (fieldU c.params 0 2) = none)
    (hrep : isReport (fieldU c.params 0 2) = false) : opConfigGet.check c u = stUnknownObject := by
  rw [configGet_layout hlen, hdef, hrep]
  rfl

/-! Tables and descriptions of signals. -/

theorem tableRead_passes (hlen : c.params.length = 12) (henum : byteAt c.params 2 ≤ 1) (hzero : byteAt c.params 3 = 0)
    (hmax : fieldU c.params 8 4 ≤ 92148) (htable : noTable (fieldU c.params 0 2) = false) : opTableRead.check c u = 0 := by
  have hknown : decide (1 < byteAt c.params 2) = false := by simpa using henum
  have hrange : decide (92148 < fieldU c.params 8 4) = false := by simpa using hmax
  simp only [opTableRead, readOp, sizeIs_of_length hlen, hknown, zeroAt_one hzero, hrange, htable, when_false, firstOf_zero_cons, firstOf_nil]

theorem tableInfo_passes (hlen : c.params.length = 2) (htable : noTable (fieldU c.params 0 2) = false) : opTableInfo.check c u = 0 := by
  simp only [opTableInfo, readOp, sizeIs_of_length hlen, htable, when_false, firstOf_zero_cons, firstOf_nil]

theorem signalInfo_passes (hlen : c.params.length = 2) (htype : (sigType u (fieldU c.params 0 2)).isSome = true) : opSignalInfo.check c u = 0 := by
  simp only [opSignalInfo, readOp, sizeIs_of_length hlen, Option.isNone_eq_false_iff.mpr htype, when_false, firstOf_zero_cons, firstOf_nil]

/-! SIGNAL_READ. -/

theorem signalRead_passes (hlen : c.params.length = 2 + 2 * fieldU c.params 0 2) (hlo : 1 ≤ fieldU c.params 0 2)
    (hhi : fieldU c.params 0 2 ≤ 1024) (hids : ∀ i ∈ readIds c.params, (sigType u i).isSome = true) : opSignalRead.check c u = 0 := by
  have hshort : decide (c.params.length < 2) = false := decide_eq_false (by omega)
  have hcount : decide (fieldU c.params 0 2 = 0 ∨ 1024 < fieldU c.params 0 2) = false := by
    rw [decide_eq_false_iff_not]
    omega
  simp only [opSignalRead, stepOp, hshort, bne_eq_false_iff_eq.mpr hlen, Bool.or_false, hcount, List.all_eq_true.mpr hids, when_false,
    when_not_true, firstOf_zero_cons, firstOf_nil]

/-- A read that finds no completed chain, or asks for none, answers at once. -/
theorem runSignalRead_replies (hdata : c.data = [])
    (hplain : c.specOk = false ∨ (∀ ch, u.sch.chain = some ch → ch.done = false) ∨ parisonIds (readIds c.params) = false) :
    runSignalRead c u = .finish u 0 (readReply u c.params) none := by
  unfold runSignalRead
  rw [hdata]
  split
  · next ch _ hchain =>
    have hnone : (c.specOk && ch.done && parisonIds (readIds c.params)) = false := by
      obtain h | h | h := hplain
      · rw [h, Bool.false_and, Bool.false_and]
      · rw [h ch hchain, Bool.and_false, Bool.false_and]
      · rw [h, Bool.and_false]
    rw [if_neg (Bool.not_eq_true _ ▸ hnone)]
    rfl
  · rfl
  · next hfirst hsecond =>
    cases hchain : u.sch.chain with
    | none => exact absurd hchain (hsecond rfl)
    | some ch => exact absurd hchain (hfirst ch rfl)

end

/-! A read answered PARISON (R400, R401). -/

/-- An entry whose PARISON reply is sent. -/
def JEntry.foretold (j : JEntry) : JEntry := { j with parisonSent := true }

/-- The PARISON reply sent, the command waits for stage 9 of the chain. -/
def foretold (c : Cmd) (ch : Chain) (s : State) : State :=
  let t := modEntry c.entry false JEntry.foretold (modCmd c.entry Cmd.told (sendFor c stParison (parisonReply ch s c.params) s))
  { t with sch := { t.sch with waiting := t.sch.waiting ++ [(c.entry, ch.period)] } }

theorem runSignalRead_waits {c : Cmd} {u : State} {ch : Chain} (hdata : c.data = []) (hchain : u.sch.chain = some ch)
    (h : (c.specOk && ch.done && parisonIds (readIds c.params)) = true) : runSignalRead c u = .wait (foretold c ch u) [ch.period] := by
  simp only [runSignalRead, hdata, hchain, h, if_true]
  rfl

section
variable (c : Cmd) (ch : Chain) (s : State)

theorem foretold_only : Only [.host, .sch, .out] s (foretold c ch s) :=
  have hnoted := (modCmd_only c.entry Cmd.told (sendFor c stParison (parisonReply ch s c.params) s)).trans (modEntry_only c.entry false JEntry.foretold _)
  ((sendFor_only c _ _ s).comp (rs := [.host, .out]) hnoted).comp (Only.setSch _)

theorem foretold_waiting : (foretold c ch s).sch.waiting = s.sch.waiting ++ [(c.entry, ch.period)] := by
  simp only [foretold, modEntry_sch, modCmd_sch, sendFor_sch]

variable {c ch s}

theorem findCmd_foretold (h : findCmd s c.entry = some c) : findCmd (foretold c ch s) c.entry = some c.told := by
  have hsent : findCmd (sendFor c stParison (parisonReply ch s c.params) s) c.entry = some c :=
    (findCmd_of_cmds (cmds_of_quiet (sendFor_quiet ..)) _).trans h
  have hmod := findCmd_modCmd_same (f := Cmd.told) (fun _ => rfl) hsent
  exact (findCmd_of_cmds (by simp only [foretold, modEntry]) _).trans hmod

theorem findEntry_foretold : findEntry (foretold c ch s) c.entry = (findEntry s c.entry).map JEntry.foretold := by
  have hmod := findEntry_modEntry (f := JEntry.foretold) (fun _ => rfl) c.entry false
    (modCmd c.entry Cmd.told (sendFor c stParison (parisonReply ch s c.params) s))
  have hsent : findEntry (modCmd c.entry Cmd.told (sendFor c stParison (parisonReply ch s c.params) s)) c.entry = findEntry s c.entry :=
    findEntry_of_journal (journal_of_quiet (sendFor_quiet c stParison (parisonReply ch s c.params) s) :) _
  rw [hsent] at hmod
  exact hmod

end

theorem signalRead_foretells {r : Req} {p : List Byte} {s : State} {x : Session} {ch : Chain} (h : Fresh 0x0201 1 1 r p s x)
    (hchain : s.sch.chain = some ch) (hdone : ch.done = true) (hlen : p.length = 2 + 2 * fieldU p 0 2)
    (hlo : 1 ≤ fieldU p 0 2) (hhi : fieldU p 0 2 ≤ 1024) (hids : ∀ i ∈ readIds p, (sigType s i).isSome = true) (hspec : isSpecOk r = true)
    (hparison : parisonIds (readIds p) = true) : ∃ t : State, exec (.signalRead r p) s = .next t ∧ Only [.host, .sch, .out] s t ∧
      t.sch.waiting = s.sch.waiting ++ [(s.host.nextEntry, ch.period)] ∧ (findCmd t s.host.nextEntry).map (·.data) = some [ch.period] ∧
      (findEntry t s.host.nextEntry).map (·.parisonSent) = some true := by
  let c := cmdOf 0x0201 1 1 r p s
  let u := admitted 0x0201 1 1 r p s
  have hadm : Only [.host] s u := admitted_only ..
  have hsch : u.sch = s.sch := hadm.2 .sch (by decide)
  have hcheck : opSignalRead.check c u = 0 := by
    unfold u
    rw [admitted_eq_setHost]
    exact signalRead_passes hlen hlo hhi hids
  have hrun : opSignalRead.run c u = .wait (foretold c ch u) [ch.period] :=
    runSignalRead_waits rfl (hsch ▸ hchain) (by rw [hdone, show c.specOk = true from hspec, show parisonIds (readIds c.params) = true from hparison]; rfl)
  have hfound : findCmd (foretold c ch u) s.host.nextEntry = some c.told := findCmd_foretold (h.findCmd_admitted 1)
  have hentry : findEntry (foretold c ch u) s.host.nextEntry = (findEntry u s.host.nextEntry).map JEntry.foretold := findEntry_foretold
  refine ⟨_, congrArg Host.Outcome.next (packetIn_waits opSignalRead h hcheck hrun),
    (hadm.comp (rs := [.host, .sch, .out]) (foretold_only c ch u)).comp (modCmd_only _ _ _), ?_, ?_, ?_⟩
  · exact (foretold_waiting c ch u).trans (by rw [hsch]; rfl)
  · show (findCmd (modCmd s.host.nextEntry (Cmd.waits [ch.period]) (foretold c ch u)) s.host.nextEntry).map (·.data) = _
    rw [findCmd_waits hfound]
    rfl
  · show (findEntry (foretold c ch u) s.host.nextEntry).map (·.parisonSent) = _
    rw [hentry, h.findEntry_admitted 1]
    rfl

/-- Settles O14: the reads are one step each, and a SIGNAL_READ answered PARISON waits. -/
theorem configReads : Obligations.ConfigReads := by
  refine ⟨?_, ?_, ?_, ?_, ?_, ?_, ?_, fun r p s x ch h hchain hdone _ => signalRead_foretells h hchain hdone⟩
  · refine acts_of_ending opConfigGet (fun c u ⟨hlen, hdef⟩ => configGet_param hlen hdef) (fun c u ⟨_, hdef⟩ => ?_) fun _ _ => .refl _
    obtain ⟨d, hd⟩ := Option.isSome_iff_exists.mp hdef
    simp only [opConfigGet, readOp, hd, Option.map_some, Option.getD_some]
  · exact refuses_of_status opConfigGet fun c u ⟨hlen, hdef, hrep⟩ => configGet_unknown hlen hdef hrep
  · refine acts_of_ending opConfigGet (fun c u ⟨hlen, _, hrep⟩ => configGet_report hlen hrep) (fun c u ⟨_, hdef, _⟩ => ?_) fun _ _ => .refl _
    simp only [opConfigGet, readOp, hdef]
  · exact acts_of_keeping opTableRead fun c u ⟨hlen, henum, hzero, hmax, htable⟩ => tableRead_passes hlen henum hzero hmax htable
  · exact acts_of_keeping opTableInfo fun c u ⟨hlen, htable⟩ => tableInfo_passes hlen htable
  · exact acts_of_keeping opSignalInfo fun c u ⟨hlen, htype⟩ => signalInfo_passes hlen htype
  · intro r p s x h c u ⟨_, hlen, hlo, hhi, hids, hplain⟩
    exact congrArg Host.Outcome.next
      (packetIn_ends opSignalRead h (signalRead_passes hlen hlo hhi hids) (runSignalRead_replies rfl hplain) (.refl _))

end Sys2Proof.Machine
end

section
/-! SUPPORT. The class 0 stops and the safety opcodes (R86, R105, R109, R110, R111, R337, R383, R429, R461 to R477). -/

namespace Sys2Proof.Machine

set_option Elab.async false

/-! The commands that a stop ends leave flight. -/

theorem closeTest_only (b : BTest) (s : State) : Only [.evt, .saf] s (closeTest b s) :=
  (Only.setSaf _).comp (safEvent_only _ _ _)

theorem finishTest_thins (b : BTest) (s : State) : Thins s (finishTest b s) := by
  have hclose : Thins s (closeTest b s) := .of_only (closeTest_only b s)
  unfold finishTest
  extract_lets t
  split
  · exact hclose.trans (endCmd_thins _ _ _ _ _ _ t)
  · exact hclose

theorem abortTest_thins (s : State) : Thins s (abortTest s) := by
  unfold abortTest
  split
  · exact .refl s
  · exact finishTest_thins _ s

theorem endStopped_thins (s : State) : Thins s (endStopped s) :=
  Thins.foldl (fun t c => endCmd_thins c .aborted c.k stStopped [] none t) _ (.refl s)

theorem takeStop_thins (s : State) : Thins s (takeStop s) := by
  have hcontrol : Only [.evt, .ctl, .sch] s (stopControl (abandonChain s)) := (abandonChain_only s).comp (stopControl_only _)
  have hcommands : Thins s (endStopped (stopControl (abandonChain s))) := (Thins.of_only hcontrol).trans (endStopped_thins _)
  have hended : Thins s (abortTest (stopOutput (endStopped (stopControl (abandonChain s))))) :=
    (hcommands.trans (.of_only (stopOutput_only _))).trans (abortTest_thins _)
  exact Thins.ite (fun _ => hended) fun _ => hended.trans (.of_only (sendFrames_only _ _))

theorem latchTrip_thins (src : Nat) (ramp : Bool) (mask : Nat) (s : State) : Thins s (latchTrip src ramp mask s) := by
  unfold latchTrip
  extract_lets _ s1 f _ s2
  have hbefore : Only [.evt, .saf] s s2 := ((Only.setSaf _).comp (rs := [.evt, .saf]) (safEvent_only _ _ _)).comp (Only.setSaf _)
  exact Thins.ite (fun _ => .refl s) fun _ => (Thins.of_only hbefore).trans (takeStop_thins s2)

theorem stopHere_thins (opcode : Nat) (s : State) : Thins s (stopHere opcode s) := by
  have heffect : Thins s (stopEffect opcode s) := (takeStop_thins s).trans (Thins.ite (fun _ => latchTrip_thins _ _ _ _) fun _ => .refl _)
  exact heffect.trans (.of_only (sendCasc_only _ _ _ _))

/-! THRUST_STOP and SAFE_STOP. -/

theorem stop_passes (opcode : Nat) {r : Req} {s : State} (u : State) : (opStop opcode).check (cmdOf opcode 0 1 r [] s) u = 0 :=
  sizeIs_nil (c := cmdOf opcode 0 1 r [] s) rfl

section
variable {opcode : Nat} {r : Req} {s : State} {x : Session} (h : Fresh opcode 0 1 r [] s x) (hplain : opcode ∉ sessionOps)
include h hplain

theorem stop_takes_effect (hdet : isDet s = false) : packetIn true (opStop opcode) r [] s =
    endCmd (cmdOf opcode 0 1 r [] s) .done 1 0 (be 8 (periodIndex (admitted opcode 0 1 r [] s))) none
      (stopHere opcode (admitted opcode 0 1 r [] s)) := by
  have hbounded : isDet (admitted opcode 0 1 r [] s) = false := by
    rw [admitted_eq_setHost]
    exact hdet
  have hrun : (opStop opcode).run (cmdOf opcode 0 1 r [] s) (admitted opcode 0 1 r [] s) =
      .finish (stopHere opcode (admitted opcode 0 1 r [] s)) 0 (be 8 (periodIndex (admitted opcode 0 1 r [] s))) none := by
    simp only [opStop, stepOp, hbounded, Bool.false_eq_true, if_false]
    rfl
  exact packetIn_ends (opStop opcode) h (stop_passes opcode _) hrun (stopHere_thins _ _) (hplain := hplain)

theorem stop_waits (hdet : isDet s = true) : packetIn true (opStop opcode) r [] s =
    modCmd s.host.nextEntry (Cmd.waits []) (admitted opcode 0 1 r [] s) := by
  have hdet' : isDet (admitted opcode 0 1 r [] s) = true := by
    rw [admitted_eq_setHost]
    exact hdet
  have hrun : (opStop opcode).run (cmdOf opcode 0 1 r [] s) (admitted opcode 0 1 r [] s) = .wait (admitted opcode 0 1 r [] s) [] := by
    simp only [opStop, stepOp, hdet', if_true]
    rfl
  exact packetIn_waits (opStop opcode) h (stop_passes opcode _) hrun (hplain := hplain)

end

/-- Settles O17: under BOUNDED a stop's step finishes with its effect, under DET it waits. -/
theorem stopCommands : Obligations.StopCommands := by
  refine ⟨fun r s x h hdet => ?_, fun r s x h hdet => ?_, fun r s x hdet => ⟨fun h => ?_, fun h => ?_⟩⟩
  · exact congrArg Host.Outcome.next (stop_takes_effect h (by decide) hdet)
  · exact congrArg Host.Outcome.next (stop_takes_effect h (by decide) hdet)
  · exact congrArg Host.Outcome.next (stop_waits h (by decide) hdet)
  · exact congrArg Host.Outcome.next (stop_waits h (by decide) hdet)

/-! The safety parameter set. -/

theorem judgeSource_thins (s : State) (src : Nat) : Thins s (judgeSource s src) :=
  Thins.ite (fun _ => .refl s) fun _ => Thins.ite (fun _ => latchTrip_thins _ _ _ s) fun _ =>
    Thins.ite (fun _ => .refl s) fun _ => latchTrip_thins _ _ _ s

theorem storeSet_thins (b : List Byte) (s : State) : Thins s (storeSet b s) := by
  unfold storeSet
  extract_lets q _ s1
  have h1 : Thins s s1 := ((Thins.of_only (Only.setSaf _)).trans (abortTest_thins _)).trans (.of_only (Only.setSaf _))
  exact (h1.trans (.of_only (Only.setSaf _))).trans (Thins.foldl judgeSource_thins _ (.refl _))

section
variable {c : Cmd} {u : State}

theorem safetyCheckRead_passes (hempty : c.params = []) (hset : (safSet u).isSome = true) : opSafetyCheckRead.check c u = 0 := by
  simp only [opSafetyCheckRead, readOp, sizeIs_nil hempty, Option.isNone_eq_false_iff.mpr hset, when_false, firstOf_zero_cons, firstOf_nil]

theorem safetyCheckConfirm_passes (hlen : c.params.length = 4) (hset : (safSet u).isSome = true) : opSafetyCheckConfirm.check c u = 0 := by
  simp only [opSafetyCheckConfirm, stepOp, sizeIs_of_length hlen, Option.isNone_eq_false_iff.mpr hset, when_false, firstOf_zero_cons, firstOf_nil]

theorem tripReset_layout (hempty : c.params = []) : opTripReset.check c u = when_ (!tripClears u) stTripActive := by
  simp only [opTripReset, stepOp, sizeIs_nil hempty, firstOf_zero_cons, firstOf_singleton]

theorem safetyParamWrite_passes (hmin : 8 ≤ c.params.length) (hlen : c.params.length = 8 + fieldU c.params 0 4) (hmode : u.ctl.mode = 0) :
    opSafetyParamWrite.check c u = 0 := by
  have hshort : decide (c.params.length < 8) = false := decide_eq_false (by omega)
  simp only [opSafetyParamWrite, stepOp, hshort, bne_eq_false_iff_eq.mpr hlen, Bool.or_false, hmode, bne_self_eq_false, when_false,
    firstOf_zero_cons, firstOf_nil]

theorem brakeTest_passes (obs : List TestObs) (hlen : c.params.length = 1) (hmode : u.ctl.mode = 0) (hconfirmed : safConfirmed u = true)
    (htrip : tripActive u = false) : (opBrakeTest obs).check c u = 0 := by
  simp only [opBrakeTest, stepOp, sizeIs_of_length hlen, hmode, bne_self_eq_false, hconfirmed, htrip, when_false, when_not_true,
    firstOf_zero_cons, firstOf_nil]

end

/-- A check value that does not agree is refused, and recorded (R472). -/
theorem safetyCheckConfirm_mismatch {r : Req} {p : List Byte} {s : State} {x : Session} (h : Fresh 0x0804 1 1 r p s x) (hlen : p.length = 4)
    (hset : (safSet s).isSome = true) (hdiff : fieldU p 0 4 ≠ checkNow s) : packetIn true opSafetyCheckConfirm r p s =
      endCmd (cmdOf 0x0804 1 1 r p s) .aborted 0 stCheckMismatch [] none (safEvent .safetyCheckMismatch [] (admitted 0x0804 1 1 r p s)) := by
  have hsame : ∀ u : State, Only [.host] s u → safSet u = safSet s ∧ checkNow u = checkNow s := fun u hu => by
    rw [hu.eq_setHost]
    exact ⟨rfl, rfl⟩
  obtain ⟨hsaf, hnow⟩ := hsame _ (admitted_only 0x0804 1 1 r p s)
  refine packetIn_aborts opSafetyCheckConfirm h (safetyCheckConfirm_passes hlen (hsaf ▸ hset)) ?_
  exact if_neg (hnow ▸ hdiff)

/-! SAFETY_PARAM_WRITE's steps (R110). -/

section
variable {r : Req} {p : List Byte} {s : State} {x : Session} (h : Fresh 0x0802 1 3 r p s x) (hmin : 8 ≤ p.length)
  (hlen : p.length = 8 + fieldU p 0 4) (hmode : s.ctl.mode = 0)
include h hmin hlen hmode

theorem safetyParamWrite_begins : ∃ b, packetIn true opSafetyParamWrite r p s = afterStep opSafetyParamWrite (b + 2)
    ((cmdOf 0x0802 1 3 r p s).through 0) (runSafetyParamWrite ((cmdOf 0x0802 1 3 r p s).through 0) (admitted 0x0802 1 3 r p s)) := by
  have hcheck : opSafetyParamWrite.check (cmdOf 0x0802 1 3 r p s) (admitted 0x0802 1 3 r p s) = 0 := by
    rw [admitted_eq_setHost]
    exact safetyParamWrite_passes hmin hlen hmode
  exact packetIn_begins_all (d := opSafetyParamWrite) (by decide) h
    ((HostBlind.accepted_check (d := opSafetyParamWrite) (fun _ _ _ => rfl) r p s).trans hcheck)

/-- A body of another CRC is refused (R110). -/
theorem safetyParamWrite_badCrc (hcrc : crcNat (p.drop 8) ≠ fieldU p 4 4) : packetIn true opSafetyParamWrite r p s =
    endCmd (cmdOf 0x0802 1 3 r p s) .aborted 0 stTableCrc [] none (admitted 0x0802 1 3 r p s) := by
  obtain ⟨b, hpacket⟩ := safetyParamWrite_begins h hmin hlen hmode
  have hrun : runSafetyParamWrite ((cmdOf 0x0802 1 3 r p s).through 0) (admitted 0x0802 1 3 r p s) = .abort (admitted 0x0802 1 3 r p s) stTableCrc :=
    if_neg hcrc
  rw [hpacket, hrun]
  rfl

variable (hcrc : crcNat (p.drop 8) = fieldU p 4 4)
include hcrc

/-- The first commit point: the CRC holds. -/
theorem safetyParamWrite_checked : ∃ b, packetIn true opSafetyParamWrite r p s = afterStep opSafetyParamWrite (b + 1)
    ((cmdOf 0x0802 1 3 r p s).through 1)
    (runSafetyParamWrite ((cmdOf 0x0802 1 3 r p s).through 1) (committed (cmdOf 0x0802 1 3 r p s) 1 (admitted 0x0802 1 3 r p s))) := by
  obtain ⟨b, hpacket⟩ := safetyParamWrite_begins h hmin hlen hmode
  have hrun : runSafetyParamWrite ((cmdOf 0x0802 1 3 r p s).through 0) (admitted 0x0802 1 3 r p s) = .commit (admitted 0x0802 1 3 r p s) none := if_pos hcrc
  rw [hpacket, hrun]
  exact ⟨b, h.past_admitted.afterStep_commit (d := opSafetyParamWrite) (by decide) h (b + 1) rfl rfl⟩

/-- A set that its rules refuse (R470). -/
theorem safetyParamWrite_badSet (hset : setStatus (p.drop 8) ≠ 0) : packetIn true opSafetyParamWrite r p s =
    endCmd (cmdOf 0x0802 1 3 r p s) .aborted 1 (setStatus (p.drop 8)) [] none
      (committed (cmdOf 0x0802 1 3 r p s) 1 (admitted 0x0802 1 3 r p s)) := by
  obtain ⟨b, hpacket⟩ := safetyParamWrite_checked h hmin hlen hmode hcrc
  have hrun : ∀ t, runSafetyParamWrite ((cmdOf 0x0802 1 3 r p s).through 1) t = .abort t (setStatus (p.drop 8)) := fun t => if_neg hset
  rw [hpacket, hrun]
  rfl

/-- The set is stored (R110, R472). -/
theorem safetyParamWrite_stores (hset : setStatus (p.drop 8) = 0) : packetIn true opSafetyParamWrite r p s =
    endCmd (cmdOf 0x0802 1 3 r p s) .done 3 0 (be 4 (checkOf (p.drop 8))) none
      (storeSet (p.drop 8) (committed (cmdOf 0x0802 1 3 r p s) 2 (committed (cmdOf 0x0802 1 3 r p s) 1 (admitted 0x0802 1 3 r p s)))) := by
  obtain ⟨b, hpacket⟩ := safetyParamWrite_checked h hmin hlen hmode hcrc
  have hrun : ∀ t, runSafetyParamWrite ((cmdOf 0x0802 1 3 r p s).through 1) t = .commit t none := fun t => if_pos hset
  have hone := h.past_admitted.commits h (u := admitted 0x0802 1 3 r p s) rfl rfl
  have htwo := hone.commits h (u := committed (cmdOf 0x0802 1 3 r p s) 1 (admitted 0x0802 1 3 r p s)) rfl rfl
  rw [hpacket, hrun]
  exact (hone.afterStep_commit (d := opSafetyParamWrite) (by decide) h b rfl rfl).trans
    (htwo.afterStep_ends (d := opSafetyParamWrite) h rfl (storeSet_thins _ _))

end

/-! BRAKE_TEST (R473 to R475). -/

theorem testChannel_only (b : BTest) (s : State) : Only [.time, .evt] s (testChannel b s).2 := by
  unfold testChannel
  extract_lets c o
  split
  · exact Only.refl
  · split
    · exact Only.refl
    · split
      · exact elapseTo_only _ s
      · split
        · exact Only.refl
        · split
          · exact Only.refl
          · split
            · exact Only.refl
            · split <;> exact Only.refl

theorem testOn_only (n : Nat) (b : BTest) (s : State) : Only [.time, .evt] s (testOn n b s).2 := by
  induction n generalizing b s with
  | zero => exact Only.refl
  | succ n ih =>
    unfold testOn
    split
    · exact Only.refl
    · have hchannel := testChannel_only b s
      split
      next b1 s1 heq =>
      rw [heq] at hchannel
      split
      · exact hchannel
      · exact hchannel.trans (ih b1 s1)

/-- A test that a BRAKE_TEST starts. -/
def testStart (c : Cmd) (obs : List TestObs) : BTest := ⟨c.entry, byteAt c.params 0, obs, 0, none, List.replicate 8 0⟩

/-- The step of a BRAKE_TEST while no test runs. -/
theorem runBrakeTest_starts {obs : List TestObs} {c : Cmd} {u : State} (h : u.saf.test = none) : runBrakeTest obs c u =
    if 8 ≤ (testOn 9 (testStart c obs) u).1.chan then
      .finish (closeTest (testOn 9 (testStart c obs) u).1 (testOn 9 (testStart c obs) u).2) 0
        ((testOn 9 (testStart c obs) u).1.verdicts.flatMap (be 1)) none
    else .wait { (testOn 9 (testStart c obs) u).2 with
        saf := { (testOn 9 (testStart c obs) u).2.saf with test := some (testOn 9 (testStart c obs) u).1 } } [] := by
  simp only [runBrakeTest, h]
  rfl

section
variable {r : Req} {p : List Byte} {obs : List TestObs} {s : State} {x : Session} (h : Fresh 0x0805 1 1 r p s x) (hlen : p.length = 1)
  (hmode : s.ctl.mode = 0) (hconfirmed : safConfirmed s = true) (htrip : tripActive s = false) (htest : s.saf.test = none)
include h hlen hmode hconfirmed htrip htest

theorem brakeTest_runs :
    let c := cmdOf 0x0805 1 1 r p s
    let f := testOn 9 ⟨c.entry, byteAt p 0, obs, 0, none, List.replicate 8 0⟩ (admitted 0x0805 1 1 r p s)
    (8 ≤ f.1.chan → packetIn true (opBrakeTest obs) r p s = endCmd c .done 1 0 (f.1.verdicts.flatMap (be 1)) none (closeTest f.1 f.2)) ∧
    (f.1.chan < 8 → packetIn true (opBrakeTest obs) r p s =
      modCmd c.entry (Cmd.waits []) { f.2 with saf := { f.2.saf with test := some f.1 } }) := by
  intro c f
  have hpre : (opBrakeTest obs).check c (admitted 0x0805 1 1 r p s) = 0 ∧ (admitted 0x0805 1 1 r p s).saf.test = none := by
    rw [admitted_eq_setHost]
    exact ⟨brakeTest_passes obs hlen hmode hconfirmed htrip, htest⟩
  obtain ⟨hcheck, hidle⟩ := hpre
  have hrun : (opBrakeTest obs).run c (admitted 0x0805 1 1 r p s) = if 8 ≤ f.1.chan then
      .finish (closeTest f.1 f.2) 0 (f.1.verdicts.flatMap (be 1)) none
    else .wait { f.2 with saf := { f.2.saf with test := some f.1 } } [] := runBrakeTest_starts hidle
  have hplain : 0x0805 ∉ sessionOps := by decide
  have htests : Thins (admitted 0x0805 1 1 r p s) f.2 := .of_only (testOn_only _ _ _)
  constructor
  · intro hall
    rw [if_pos hall] at hrun
    exact packetIn_ends (opBrakeTest obs) h hcheck hrun (htests.trans (.of_only (closeTest_only _ _))) (hplain := hplain)
  · intro hleft
    rw [if_neg (by omega)] at hrun
    exact packetIn_waits (opBrakeTest obs) h hcheck hrun (hplain := hplain)

end

/-- Settles O23: SAFETY_PARAM_WRITE passes its steps one by one, the other opcodes are one step. -/
theorem safetyCommands : Obligations.SafetyCommands := by
  refine ⟨reads_of_empty, ?_, ?_, fun r p s x h hlen hset hdiff => ?_, ?_, ?_, fun r p s x h hmin hlen hmode => ⟨?_, ?_, ?_⟩,
    fun r p obs s x h hlen hmode hconfirmed htrip htest => ?_⟩
  · exact acts_of_keeping opSafetyCheckRead fun c u ⟨hempty, hset⟩ => safetyCheckRead_passes hempty hset
  · exact acts_of_ending opSafetyCheckConfirm (fun c u ⟨hlen, hset, _⟩ => safetyCheckConfirm_passes hlen hset)
      (fun c u ⟨_, _, hsame⟩ => if_pos hsame) fun c u => .of_only ((Only.setSaf _).comp (rs := [.evt, .saf]) (safEvent_only _ _ _))
  · exact congrArg Host.Outcome.next (safetyCheckConfirm_mismatch h hlen hset hdiff)
  · refine acts_of_ending opTripReset (fun c u ⟨hempty, hclears⟩ => ?_) (fun _ _ _ => rfl)
      fun c u => .of_only ((Only.setSaf _).comp (rs := [.evt, .saf]) (safEvent_only _ _ _))
    rw [tripReset_layout hempty, hclears, when_not_true]
  · refine refuses_of_status opTripReset fun c u ⟨hempty, hclears⟩ => ?_
    rw [tripReset_layout hempty, hclears]
    rfl
  · exact fun hcrc hset => congrArg Host.Outcome.next (safetyParamWrite_stores h hmin hlen hmode hcrc hset)
  · exact fun hcrc => congrArg Host.Outcome.next (safetyParamWrite_badCrc h hmin hlen hmode hcrc)
  · exact fun hcrc hset => congrArg Host.Outcome.next (safetyParamWrite_badSet h hmin hlen hmode hcrc hset)
  · obtain ⟨hall, hleft⟩ := brakeTest_runs (obs := obs) h hlen hmode hconfirmed htrip htest
    exact ⟨fun hdone => congrArg Host.Outcome.next (hall hdone), fun hmore => congrArg Host.Outcome.next (hleft hmore)⟩

end Sys2Proof.Machine
end

section
/-! SUPPORT. What STRUCT_LOADs in flight promise, read by the checks of STRUCT_LOAD and CONFIG_LOCK (R309, log 46). -/

namespace Sys2Proof.Machine

set_option Elab.async false

/-- The STRUCT_LOADs past their first step, of journal entries before `before`. -/
def loadsBefore (before : Nat) (h : HostState) : List Cmd :=
  h.cmds.filter fun c => c.opcode == 0x0601 && c.k == 1 && decide (c.entry < before)

/-- Of the host interface only these loads count. -/
theorem promises_setHost {s : State} {n : Nat} {h : HostState} (hl : loadsBefore n h = loadsBefore n s.host) :
    promises n { s with host := h } = promises n s := by
  unfold promises
  exact congrArg (fun l => List.foldl _ (0, 0) l) hl

section
variable (n : Nat) (code cls m : Nat) (r : Req) (p : List Byte) (s : State)

/-- A command that has not begun its second step is no load past its first. -/
theorem loadsBefore_accepted : loadsBefore n (accepted code cls m r p s).host = loadsBefore n s.host := by
  rw [loadsBefore, (accepted_cmds ..).1, List.filter_append]
  simp [waitingCmd, cmdOf, loadsBefore]

theorem loadsBefore_admitted : loadsBefore n (admitted code cls m r p s).host = loadsBefore n s.host := by
  rw [loadsBefore, admitted_cmds, List.filter_append]
  simp [cmdOf, loadsBefore]

theorem accepted_nextEntry : (accepted code cls m r p s).host.nextEntry = (admitted code cls m r p s).host.nextEntry := by
  unfold accepted admitted putTag modSlot
  split <;> rfl

/-- Between acceptance and the first step the promises stand. -/
theorem loads_accepted : loadsBefore (accepted code cls m r p s).host.nextEntry (accepted code cls m r p s).host =
    loadsBefore (admitted code cls m r p s).host.nextEntry (admitted code cls m r p s).host := by
  rw [accepted_nextEntry, loadsBefore_accepted, loadsBefore_admitted]

end

/-- A command is no load before its own entry. -/
theorem Past.loadsBefore {code cls n : Nat} {r : Req} {p : List Byte} {s : State} {k : Nat} {t : State} (hp : Past code cls n r p s k t) :
    loadsBefore s.host.nextEntry t.host = loadsBefore s.host.nextEntry s.host := by
  rw [Machine.loadsBefore, hp.cmds, List.filter_append]
  simp [cmdOf, Cmd.through, Machine.loadsBefore]

/-- What a command commits changes the host interface alone. -/
theorem committed_eq_setHost (c : Cmd) (k : Nat) (s : State) : committed c k s = { s with host := (committed c k s).host } :=
  ((modEntry_only _ _ _ s).trans (modCmd_only _ _ _)).eq_setHost

end Sys2Proof.Machine
end

section
/-! SUPPORT. The solver opcodes (R105, R106, R306 to R320). -/

namespace Sys2Proof.Machine

set_option Elab.async false

/-! STRUCT_LOAD. -/

theorem structLoadCheck_setHost {c : Cmd} {s : State} {h : HostState} (hl : loadsBefore h.nextEntry h = loadsBefore s.host.nextEntry s.host)
    (hn : h.nextEntry = s.host.nextEntry) :
    structLoadCheck { c with started := false } { s with host := h } = structLoadCheck c s := by
  have hpromised : promises h.nextEntry { s with host := h } = promises s.host.nextEntry s := by
    rw [hn] at hl ⊢
    exact promises_setHost hl
  unfold structLoadCheck
  rw [show promises (State.host { s with host := h }).nextEntry { s with host := h } = promises s.host.nextEntry s from hpromised]
  rfl

/-- A structure on its tile. -/
def onTile (n : Nat) (t : Struct) : Struct := { t with tile := n }

/-- A structure is resident. -/
def putStruct (i : Nat) (t : Struct) (s : State) : State := { s with slv := { s.slv with structs := keyPut i t s.slv.structs } }

theorem runStructLoad_places {c : Cmd} {s : State} {n : Nat} (hk : c.k ≠ 0)
    (hroom : placeStruct s (byteAt c.params 0) (loadStruct c.params).bytes (promises c.entry s) = some n) :
    runStructLoad c s = .finish (putStruct (byteAt c.params 0) (onTile n (loadStruct c.params)) s) 0 [] none := by
  unfold runStructLoad
  rw [if_neg hk]
  extract_lets i t
  rw [show placeStruct s i t.bytes (promises c.entry s) = some n from hroom]
  rfl

theorem structLoad_places {r : Req} {p : List Byte} {s : State} {x : Session} {n : Nat} (h : Fresh 0x0601 1 2 r p s x)
    (hcheck : structLoadCheck (cmdOf 0x0601 1 2 r p s) (admitted 0x0601 1 2 r p s) = 0)
    (hroom : placeStruct (admitted 0x0601 1 2 r p s) (byteAt p 0) (loadStruct p).bytes (promises s.host.nextEntry (admitted 0x0601 1 2 r p s)) = some n) :
    packetIn true opStructLoad r p s = endCmd (cmdOf 0x0601 1 2 r p s) .done 2 0 [] none
      (putStruct (byteAt p 0) (onTile n (loadStruct p)) (committed (cmdOf 0x0601 1 2 r p s) 1 (admitted 0x0601 1 2 r p s))) := by
  let c := cmdOf 0x0601 1 2 r p s
  let u := admitted 0x0601 1 2 r p s
  let v := committed c 1 u
  have haccepted : structLoadCheck (waitingCmd 0x0601 1 2 r p s) (accepted 0x0601 1 2 r p s) = 0 := by
    rw [accepted_eq_admitted]
    exact (structLoadCheck_setHost (loads_accepted ..) (accepted_nextEntry ..)).trans hcheck
  obtain ⟨b, hpacket⟩ := packetIn_begins_all (d := opStructLoad) (by decide) h haccepted
  have hone : Past 0x0601 1 2 r p s 1 v := h.past_admitted.commits h rfl rfl
  have hpromised : promises c.entry v = promises c.entry u := by
    unfold v
    rw [committed_eq_setHost]
    exact promises_setHost (hone.loadsBefore.trans (loadsBefore_admitted ..).symm)
  have hroom' : placeStruct v (byteAt p 0) (loadStruct p).bytes (promises c.entry v) = some n := by
    rw [hpromised]
    unfold v
    rw [committed_eq_setHost]
    exact hroom
  have hstep := h.past_admitted.afterStep_commit (d := opStructLoad) (by decide) h b (u := u) rfl rfl
  have hlast := hone.afterStep_ends (d := opStructLoad) (b := b) h (runStructLoad_places (c := c.through 1) Nat.one_ne_zero hroom') (.of_only (Only.setSlv _))
  exact hpacket.trans (hstep.trans hlast)

/-! STRUCT_UPDATE, STRUCT_DROP. -/

theorem structUpdate_runs {c : Cmd} {u : State} {t : Struct} (h : structOf u (byteAt c.params 0) = some t) : opStructUpdate.run c u =
    .finish (putStruct (byteAt c.params 0) { t with entries := updateEntries (entriesAt c.params 12 (fieldU c.params 2 2)) t.entries } u) 0 [] none := by
  simp only [opStructUpdate, stepOp, h]
  rfl

theorem structDrop_layout {c : Cmd} {u : State} (hlen : c.params.length = 1) (hi : byteAt c.params 0 ≤ 55) :
    opStructDrop.check c u = when_ (structOf u (byteAt c.params 0)).isNone stStructureUnknown := by
  have hknown : decide (63 < byteAt c.params 0) = false := decide_eq_false (by omega)
  have hhost : decide (55 < byteAt c.params 0) = false := decide_eq_false (by omega)
  simp only [opStructDrop, stepOp, sizeIs_of_length hlen, hknown, hhost, when_false, firstOf_zero_cons, firstOf_singleton]

/-! SOLVE. -/

/-- The end of a solve that returns an iterate: the domains of `w` up, its result `h` retained (R316, R317). -/
def solved (c : Cmd) (t : Struct) (h : SolveRes × Bool) (w : State) : State :=
  leaveSolver (byteAt c.params 0) c.entry (retain (byteAt c.params 0) t h.1
    (if h.1.status = stDeadlineMiss ∧ h.2 = true then deadlineEvent (byteAt c.params 0) h.1 h.2 w else w))

/-- The reply of a solve. -/
def solveReply (h : SolveRes) : List Byte :=
  be 2 h.iter ++ be 1 (b2n h.feasible) ++ be 1 0 ++ be 8 h.residual.toNat ++ h.x.flatMap fun y => be 8 y.toNat

theorem leaveSolver_only (i but : Nat) (s : State) : Only [.pwr] s (leaveSolver i but s) := by
  unfold leaveSolver
  split
  · exact Only.ite (fun _ => Only.refl) fun _ => stopDomains_only _ s
  · exact Only.refl

theorem solved_only (c : Cmd) (t : Struct) (h : SolveRes × Bool) (w : State) : Only [.evt, .slv, .pwr] w (solved c t h w) := by
  have hevent : Only [.evt] w (if h.1.status = stDeadlineMiss ∧ h.2 = true then deadlineEvent (byteAt c.params 0) h.1 h.2 w else w) :=
    Only.ite (fun _ => deadlineEvent_only _ _ _ w) fun _ => Only.refl
  exact (hevent.comp (rs := [.evt, .slv]) (retain_only _ _ _ _)).comp (leaveSolver_only _ _ _)

theorem runSolve_returns {c : Cmd} {w : State} {t : Struct} {limit : Option Nat} (ht : structOf w (byteAt c.params 0) = some t)
    (hkept : (hostSolve c t limit w).1.status ≠ stInconsistent) : runSolve limit c w =
      .finish (solved c t (hostSolve c t limit w) w) (solveStatus (hostSolve c t limit w).1 (hostSolve c t limit w).2)
        (solveReply (hostSolve c t limit w).1) none := by
  simp only [runSolve, ht, hkept, if_false]
  rfl

/-- A solve runs once its domains are up, or at once where its deadline has passed (R35, R318, R319). -/
theorem placedSolve_runs {c : Cmd} {u : State} (hready : domainsUp (solverTile (byteAt c.params 0) u)
      (accessDomains 2 (solverTile (byteAt c.params 0) u) u) = true ∨ (lateLimit c (accessDomains 2 (solverTile (byteAt c.params 0) u) u)).isSome = true) :
    placedSolve none c u = runSolve (lateLimit c (accessDomains 2 (solverTile (byteAt c.params 0) u) u)) c
      (accessDomains 2 (solverTile (byteAt c.params 0) u) u) := by
  simp only [placedSolve]
  cases hlate : lateLimit c (accessDomains 2 (solverTile (byteAt c.params 0) u) u) with
  | some k => rfl
  | none =>
    rw [hlate] at hready
    obtain hup | hlimit := hready
    · simp only [hup, if_true]
    · cases hlimit

theorem structOf_of_slv {s t : State} (h : t.slv = s.slv) (i : Nat) : structOf t i = structOf s i := by
  rw [structOf, h, structOf]

theorem solve_returns {r : Req} {p : List Byte} {s : State} {x : Session} {t : Struct} (h : Fresh 0x0603 2 1 r p s x) :
    let c := cmdOf 0x0603 2 1 r p s
    let u := admitted 0x0603 2 1 r p s
    let w := accessDomains 2 (solverTile (byteAt p 0) u) u
    let g := hostSolve c t (lateLimit c w) w
    solveCheck c u = 0 → structOf u (byteAt p 0) = some t → (domainsUp (solverTile (byteAt p 0) u) w = true ∨ (lateLimit c w).isSome) →
    g.1.status ≠ stInconsistent →
    packetIn true opSolve r p s = endCmd c .done 1 (solveStatus g.1 g.2) (solveReply g.1) none (solved c t g w) := by
  intro c u w g hcheck ht hready hkept
  have hw : Only [.time, .evt, .pwr] u w := accessDomains_only _ _ u
  have hrun : opSolve.run c u = .finish (solved c t g w) (solveStatus g.1 g.2) (solveReply g.1) none :=
    (placedSolve_runs (c := c) hready).trans (runSolve_returns (c := c) ((structOf_of_slv (hw.2 .slv (by decide)) _).trans ht) hkept)
  exact packetIn_ends opSolve h hcheck hrun ((Thins.of_only hw).trans (.of_only (solved_only c t g w)))

/-- Settles O20: STRUCT_LOAD commits once and then places its structure, the other opcodes are one step. -/
theorem solverCommands : Obligations.SolverCommands := by
  refine ⟨?_, fun t => ?_, ?_, ?_, ?_⟩
  · intro r p s x n h c u t v hcheck hroom
    exact congrArg Host.Outcome.next (structLoad_places h hcheck hroom)
  · exact acts_of_ending opStructUpdate (fun c u ⟨hcheck, _⟩ => hcheck) (fun c u ⟨_, ht⟩ => structUpdate_runs ht) fun c u => .of_only (Only.setSlv _)
  · refine acts_of_keeping opStructDrop fun c u ⟨hlen, hi, hthere⟩ => ?_
    rw [structDrop_layout hlen hi, Option.isNone_eq_false_iff.mpr hthere, when_false]
  · refine refuses_of_status opStructDrop fun c u ⟨hlen, hi, hnone⟩ => ?_
    rw [structDrop_layout hlen hi, hnone]
    rfl
  · intro r p s x t h c u w g e hcheck ht hready hkept
    have hreturns := solve_returns h hcheck ht hready hkept
    rw [solveReply, solved] at hreturns
    exact congrArg Host.Outcome.next hreturns

end Sys2Proof.Machine
end

section
/-! SUPPORT. The opcodes that write configuration (R91 to R96). -/

namespace Sys2Proof.Machine

set_option Elab.async false

theorem pushEffect_only (opcode : Nat) (ps : List Byte) (e : Effect) (s : State) : Only [.sch] s (pushEffect opcode ps e s) :=
  Only.setSch _

/-! CONFIG_UNLOCK. -/

section
variable {c : Cmd} {u : State}

theorem configUnlock_layout (hempty : c.params = []) :
    opConfigUnlock.check c u = firstOf [when_ (!inStandby u) stNotStandby, when_ (!u.cfg.locked) stConfigUnlocked] := by
  simp only [opConfigUnlock, stepOp, sizeIs_nil hempty, firstOf_zero_cons]

theorem configUnlock_passes (hempty : c.params = []) (hstandby : inStandby u = true) (hlocked : u.cfg.locked = true) :
    opConfigUnlock.check c u = 0 := by
  rw [configUnlock_layout hempty, hstandby, hlocked]
  rfl

theorem configUnlock_moving (hempty : c.params = []) (hstandby : inStandby u = false) : opConfigUnlock.check c u = stNotStandby := by
  rw [configUnlock_layout hempty, hstandby]
  exact firstOf_cons_of_ne_zero (n := stNotStandby) (by decide) _

theorem configUnlock_open (hempty : c.params = []) (hstandby : inStandby u = true) (hlocked : u.cfg.locked = false) :
    opConfigUnlock.check c u = stConfigUnlocked := by
  rw [configUnlock_layout hempty, hstandby, hlocked]
  rfl

end

/-! CONFIG_SET. -/

/-- A parameter's value is staged, and a one-shot request asked for. -/
def setParam (id : Nat) (v : Value) (live : Bool) (s : State) : State := oneShot id v (stageParam id v live s)

theorem scheduleSync_only (n next : Nat) (nextAt : Int) (s : State) : Only [.acq, .grp, .out] s (scheduleSync n next nextAt s) := by
  unfold scheduleSync
  split
  · exact Only.ite (fun _ => Only.refl) fun _ => Only.ite (fun _ => (Only.setAcq _).comp (requestSync_only _ _ _)) fun _ =>
      Only.ite (fun _ => (Only.setAcq _).comp (requestSync_only _ _ _)) fun _ => Only.refl
  · exact Only.refl

theorem oneShot_only (id : Nat) (v : Value) (s : State) : Only [.acq, .bus, .grp, .out] s (oneShot id v s) :=
  Only.ite (fun _ => (Only.setAcq _).comp (scheduleSync_only _ _ _ _)) fun _ =>
    Only.ite (fun _ => (Only.setBus _).mono (by decide)) fun _ => Only.refl

theorem setParam_only (id : Nat) (v : Value) (live : Bool) (s : State) : Only [.cfg, .acq, .bus, .grp, .out] s (setParam id v live s) :=
  (Only.setCfg _).comp (oneShot_only _ _ _)

section
variable {c : Cmd} {u : State}

theorem configSet_stages (h : ((paramDef (fieldU c.params 0 2)).map (·.live)).getD false = false) : opConfigSet.run c u =
    .finish (setParam (fieldU c.params 0 2) (BitVec.ofNat 64 (fieldU c.params 4 8)) false u) 0 [] none := by
  simp only [opConfigSet, stepOp, runConfigSet, h, Bool.false_eq_true, if_false]
  rfl

/-- A LIVE parameter set. -/
def setLive (c : Cmd) (u : State) : State :=
  pushEffect c.opcode c.params (.param (fieldU c.params 0 2) (BitVec.ofNat 64 (fieldU c.params 4 8)))
    (setParam (fieldU c.params 0 2) (BitVec.ofNat 64 (fieldU c.params 4 8)) true u)

theorem configSet_posts (h : ((paramDef (fieldU c.params 0 2)).map (·.live)).getD false = true) : opConfigSet.run c u =
    .finish (setLive c u) 0 [] (some (firstPeriod (setLive c u))) := by
  simp only [opConfigSet, stepOp, runConfigSet, h, if_true]
  rfl

theorem setLive_only (c : Cmd) (u : State) : Only [.cfg, .acq, .bus, .grp, .out, .sch] u (setLive c u) :=
  (setParam_only _ _ _ u).comp (pushEffect_only _ _ _ _)

end

/-! TABLE_WRITE's steps (R95). -/

/-- The body in the staging buffer. -/
def bufferTable (id : Nat) (b : List Byte) (s : State) : State := { s with cfg := { s.cfg with stagingBuf := keyPut id b s.cfg.stagingBuf } }

/-- The body at its MRAM place. -/
def writeTable (id : Nat) (b : List Byte) (s : State) : State := { s with cfg := { s.cfg with mramTabs := putTab id b s.cfg.mramTabs } }

/-- A table is LIVE. -/
def tableLive (id : Nat) : Bool := ((tabDef id).map (·.live)).getD false

/-- The body staged: a table of the front end drops what it replays. -/
def stageTable (id : Nat) (b : List Byte) (s : State) : State := installTable id b (tableLive id) (if id = 0x0400 then frontEndWritten s else s)

theorem stageTable_only (id : Nat) (b : List Byte) (s : State) : Only [.cfg, .gnss] s (stageTable id b s) :=
  have hfront : Only [.gnss] s (if id = 0x0400 then frontEndWritten s else s) := Only.ite (fun _ => Only.setGnss _) fun _ => Only.refl
  hfront.comp (Only.setCfg _)

section
variable {r : Req} {p : List Byte} {s : State} {x : Session} (h : Fresh 0x0110 1 4 r p s x)
  (hcheck : tableWriteCheck (cmdOf 0x0110 1 4 r p s) (admitted 0x0110 1 4 r p s) = 0)
include h hcheck

theorem tableWrite_begins : ∃ b, packetIn true opTableWrite r p s = afterStep opTableWrite (b + 3) ((cmdOf 0x0110 1 4 r p s).through 0)
    (runTableWrite ((cmdOf 0x0110 1 4 r p s).through 0) (admitted 0x0110 1 4 r p s)) :=
  packetIn_begins_all (d := opTableWrite) (by decide) h
    ((HostBlind.accepted_check (d := opTableWrite) (fun _ _ _ => rfl) r p s).trans hcheck)

/-- A body of another CRC is refused (R95). -/
theorem tableWrite_badCrc (hcrc : fieldU p 8 4 ≠ crcNat (p.drop 12)) : packetIn true opTableWrite r p s =
    endCmd (cmdOf 0x0110 1 4 r p s) .aborted 0 stTableCrc [] none (admitted 0x0110 1 4 r p s) := by
  obtain ⟨b, hpacket⟩ := tableWrite_begins h hcheck
  have hrun : runTableWrite ((cmdOf 0x0110 1 4 r p s).through 0) (admitted 0x0110 1 4 r p s) = .abort (admitted 0x0110 1 4 r p s) stTableCrc :=
    if_pos hcrc
  rw [hpacket, hrun]
  rfl

/-- The three commit points of TABLE_WRITE (R95): the CRC holds, the rules hold, the body is in MRAM. -/
theorem tableWrite_written (hcrc : fieldU p 8 4 = crcNat (p.drop 12)) :
    let c := cmdOf 0x0110 1 4 r p s
    let u1 := committed c 1 (bufferTable (fieldU p 0 2) (p.drop 12) (admitted 0x0110 1 4 r p s))
    let u2 := committed c 2 u1
    let u3 := committed c 3 (writeTable (fieldU p 0 2) (p.drop 12) u2)
    (acqTable (fieldU p 0 2) && stopsPending u1) = false → tableStep2 (tableLive (fieldU p 0 2)) (fieldU p 0 2) (p.drop 12) u1 = 0 →
    Past 0x0110 1 4 r p s 3 u3 ∧ ∃ b, packetIn true opTableWrite r p s = afterStep opTableWrite b (c.through 3) (runTableWrite (c.through 3) u3) := by
  intro c u1 u2 u3 hstop hrules
  obtain ⟨b, hpacket⟩ := tableWrite_begins h hcheck
  have hzero := h.past_admitted
  have hone : Past 0x0110 1 4 r p s 1 u1 := hzero.commits h rfl rfl
  have htwo : Past 0x0110 1 4 r p s 2 u2 := hone.commits h rfl rfl
  have hthree : Past 0x0110 1 4 r p s 3 u3 := htwo.commits h rfl rfl
  have hrun0 : runTableWrite (c.through 0) (admitted 0x0110 1 4 r p s) =
      .commit (bufferTable (fieldU p 0 2) (p.drop 12) (admitted 0x0110 1 4 r p s)) none := if_neg (not_not_intro hcrc)
  have hrun1 : runTableWrite (c.through 1) u1 = .commit u1 none :=
    (if_neg (Bool.not_eq_true _ ▸ hstop)).trans (if_neg (not_not_intro hrules))
  have hrun2 : runTableWrite (c.through 2) u2 = .commit (writeTable (fieldU p 0 2) (p.drop 12) u2) none := rfl
  refine ⟨hthree, b, ?_⟩
  calc packetIn true opTableWrite r p s = afterStep opTableWrite (b + 3) (c.through 0) (runTableWrite (c.through 0) _) := hpacket
    _ = afterStep opTableWrite (b + 2) (c.through 1) (runTableWrite (c.through 1) u1) := by
      rw [hrun0]
      exact hzero.afterStep_commit (d := opTableWrite) (by decide) h (b + 2) rfl rfl
    _ = afterStep opTableWrite (b + 1) (c.through 2) (runTableWrite (c.through 2) u2) := by
      rw [hrun1]
      exact hone.afterStep_commit (d := opTableWrite) (by decide) h (b + 1) rfl rfl
    _ = afterStep opTableWrite b (c.through 3) (runTableWrite (c.through 3) u3) := by
      rw [hrun2]
      exact htwo.afterStep_commit (d := opTableWrite) (by decide) h b rfl rfl

end

/-- The last step of TABLE_WRITE. -/
theorem runTableWrite_last {c : Cmd} {u : State} :
    runTableWrite (c.through 3) u =
      if tableLive (fieldU c.params 0 2) then
        finishWith c (.table (fieldU c.params 0 2) (c.params.drop 12)) [] (stageTable (fieldU c.params 0 2) (c.params.drop 12) u)
      else .finish (stageTable (fieldU c.params 0 2) (c.params.drop 12) u) 0 [] none := rfl

/-! CONFIG_LOCK's steps (R93, R94, R96). -/

theorem recordIdentities_only (s : State) : Only [.bus] s (recordIdentities s) :=
  Only.setBus _

theorem completeLock_only (c : Cmd) (s : State) : Only [.cfg, .evt, .bus, .sch] s (completeLock c s) := by
  unfold completeLock
  extract_lets _ s1 hdr s2
  have h1 : Only [.cfg, .bus] s s1 := (Only.setCfg _).comp (recordIdentities_only _)
  have h2 : Only [.cfg, .evt, .bus] s s2 := h1.comp (rs := [.cfg, .evt, .bus]) (Only.ite (fun _ => Only.refl (ps := [.evt])) fun _ => record_only _ _ s1)
  split
  · exact h2.comp (Only.ite (fun _ => abandonChain_only s2) fun _ => Only.refl)
  · exact h2.mono (by decide)

section
variable {c : Cmd} {u : State} (hempty : c.params = [])
include hempty

theorem lockCheck_layout : lockCheck c u = firstOf [when_ (!inStandby u) stNotStandby, when_ u.cfg.locked stConfigLocked,
    when_ (!timeValid u) stTimeNotSet, when_ (!lockOk u) stInconsistent, when_ (!ownStructsFit u) stNoSpace] := by
  rw [lockCheck, sizeIs_nil hempty, firstOf_zero_cons]

theorem lockCheck_moving (hstandby : inStandby u = false) : lockCheck c u = stNotStandby := by
  rw [lockCheck_layout hempty, hstandby]
  exact firstOf_cons_of_ne_zero (n := stNotStandby) (by decide) _

variable (hstandby : inStandby u = true)
include hstandby

theorem lockCheck_locked (hlocked : u.cfg.locked = true) : lockCheck c u = stConfigLocked := by
  rw [lockCheck_layout hempty, hstandby, when_not_true, firstOf_zero_cons, hlocked]
  exact firstOf_cons_of_ne_zero (n := stConfigLocked) (by decide) _

variable (hopen : u.cfg.locked = false)
include hopen

theorem lockCheck_timeless (htime : timeValid u = false) : lockCheck c u = stTimeNotSet := by
  rw [lockCheck_layout hempty, hstandby, when_not_true, firstOf_zero_cons, hopen, when_false, firstOf_zero_cons, htime]
  exact firstOf_cons_of_ne_zero (n := stTimeNotSet) (by decide) _

variable (htime : timeValid u = true)
include htime

theorem lockCheck_inconsistent (hrules : lockOk u = false) : lockCheck c u = stInconsistent := by
  rw [lockCheck_layout hempty, hstandby, when_not_true, firstOf_zero_cons, hopen, when_false, firstOf_zero_cons, htime, when_not_true,
    firstOf_zero_cons, hrules]
  exact firstOf_cons_of_ne_zero (n := stInconsistent) (by decide) _

theorem lockCheck_passes (hrules : lockOk u = true) (hroom : ownStructsFit u = true) : lockCheck c u = 0 := by
  rw [lockCheck_layout hempty, hstandby, hopen, htime, hrules, hroom]
  rfl

end

/-! The rules of a lock read of the host interface no more than the promises of STRUCT_LOADs. -/

section
variable (s : State) (h : HostState)

theorem apart_setHost (l : List (List Byte)) : apart { s with host := h } l = apart s l := by
  induction l with
  | nil => rfl
  | cons a l ih =>
    cases l with
    | nil => rfl
    | cons b l => exact congrArg (_ && ·) ih

theorem trackTableStatus_setHost (b : List Byte) : trackTableStatus { s with host := h } b = trackTableStatus s b := by
  unfold trackTableStatus
  rw [apart_setHost]
  rfl

theorem ownStatus_setHost (id : Nat) (b : List Byte) : ownStatus { s with host := h } id b = ownStatus s id b := by
  unfold ownStatus
  rw [trackTableStatus_setHost]
  rfl

theorem tablesLockOk_setHost : tablesLockOk { s with host := h } = tablesLockOk s := by
  unfold tablesLockOk
  simp only [ownStatus_setHost]
  rfl

theorem lockOk_setHost : lockOk { s with host := h } = lockOk s := by
  unfold lockOk
  extract_lets v w
  rw [show tablesLockOk v = tablesLockOk w from tablesLockOk_setHost (stagedView s) h]
  rfl

end

theorem ownStructsFit_setHost {s : State} {h : HostState} (hl : loadsBefore h.nextEntry h = loadsBefore s.host.nextEntry s.host)
    (hn : h.nextEntry = s.host.nextEntry) : ownStructsFit { s with host := h } = ownStructsFit s := by
  have hpromised : promises h.nextEntry { stagedView s with host := h } = promises s.host.nextEntry (stagedView s) := by
    rw [hn] at hl ⊢
    exact promises_setHost (s := stagedView s) hl
  unfold ownStructsFit
  extract_lets v w
  rw [show promises v.host.nextEntry v = promises w.host.nextEntry w from hpromised]
  rfl

/-- A CONFIG_LOCK that its checks refuse. -/
theorem configLock_refuses {bad : Cmd → State → Prop} {st : Nat} (h0 : st ≠ 0) (hbad : ∀ c u, bad c u → lockCheck c u = st)
    (hblind : ∀ (c : Cmd) (u : State) (h : HostState), bad c u → bad { c with started := false } { u with host := h }) :
    Refuses 0x0101 1 2 .configLock bad st := by
  intro r p s x h c u hpre
  have hcheck : lockCheck (waitingCmd 0x0101 1 2 r p s) (accepted 0x0101 1 2 r p s) = st := by
    rw [accepted_eq_admitted]
    exact hbad _ _ (hblind c u _ hpre)
  exact congrArg Host.Outcome.next (packetIn_refuses opConfigLock r p s x (by decide) h st h0 hcheck)

theorem configLock_locks {r : Req} {s : State} {x : Session} (h : Fresh 0x0101 1 2 r [] s x) :
    let c := cmdOf 0x0101 1 2 r [] s
    let u := admitted 0x0101 1 2 r [] s
    let u1 := committed c 1 (writeImage u)
    let u2 := pushEffect c.opcode c.params (.lock u1.cfg.image u1.cfg.imageTabs) (completeLock c u1)
    let v := pushEffect c.opcode c.params (.lock u1.cfg.image u1.cfg.imageTabs) u1
    inStandby s = true → s.cfg.locked = false → timeValid s = true → lockOk u = true → ownStructsFit u = true →
    packetIn true opConfigLock r [] s = endCmd c .done 2 0
      (be 4 (crcNat (crcString u1.cfg.image u1.cfg.imageTabs)) ++ be 8 (firstPeriod v)) (some (firstPeriod u2)) u2 := by
  intro c u u1 u2 v hstandby hopen htime hrules hroom
  have hu : Only [.host] s u := admitted_only ..
  have hpre : inStandby u = true ∧ u.cfg.locked = false ∧ timeValid u = true := by
    rw [hu.eq_setHost]
    exact ⟨hstandby, hopen, htime⟩
  obtain ⟨hstandby', hopen', htime'⟩ := hpre
  have hcheck : lockCheck (waitingCmd 0x0101 1 2 r [] s) (accepted 0x0101 1 2 r [] s) = 0 := by
    have hfits := (ownStructsFit_setHost (s := u) (loads_accepted 0x0101 1 2 r [] s) (accepted_nextEntry ..)).trans hroom
    rw [accepted_eq_admitted]
    exact lockCheck_passes rfl hstandby' hopen' htime' ((lockOk_setHost u _).trans hrules) hfits
  obtain ⟨b, hpacket⟩ := packetIn_begins_all (d := opConfigLock) (by decide) h hcheck
  have hone : Past 0x0101 1 2 r [] s 1 u1 := h.past_admitted.commits h rfl rfl
  have hstep := h.past_admitted.afterStep_commit (d := opConfigLock) (by decide) h b (u := writeImage u) rfl rfl
  have hthins : Thins u1 u2 := .of_only ((completeLock_only c u1).comp (rs := [.cfg, .evt, .bus, .sch]) (pushEffect_only _ _ _ _))
  exact hpacket.trans (hstep.trans (hone.afterStep_ends (d := opConfigLock) h rfl hthins))

/-- Settles O15: TABLE_WRITE and CONFIG_LOCK pass their commit points one by one, the other opcodes are one step. -/
theorem configWrites : Obligations.ConfigWrites := by
  refine ⟨?_, ?_, ?_, ?_, ?_, ?_, ?_, ?_, ?_, ?_, ?_⟩
  · exact acts_of_keeping opConfigUnlock fun c u ⟨hempty, hstandby, hlocked⟩ => configUnlock_passes hempty hstandby hlocked
  · exact refuses_of_status opConfigUnlock fun c u ⟨hempty, hstandby⟩ => configUnlock_moving hempty hstandby
  · exact refuses_of_status opConfigUnlock fun c u ⟨hempty, hstandby, hlocked⟩ => configUnlock_open hempty hstandby hlocked
  · exact acts_of_ending opConfigSet (fun c u ⟨hcheck, _⟩ => hcheck) (fun c u ⟨_, hstaged⟩ => configSet_stages hstaged)
      fun c u => .of_only (setParam_only _ _ _ u)
  · exact acts_of_ending opConfigSet (fun c u ⟨hcheck, _⟩ => hcheck) (fun c u ⟨_, hlive⟩ => configSet_posts hlive)
      fun c u => .of_only (setLive_only c u)
  · intro r p s x h c u id b live u1 u2 u3 u4
    refine ⟨fun hcheck hcrc hstop hrules => ?_, fun hcheck hcrc => congrArg Host.Outcome.next (tableWrite_badCrc h hcheck hcrc)⟩
    obtain ⟨hthree, n, hpacket⟩ := tableWrite_written h hcheck hcrc hstop hrules
    have hstaged : Thins u3 u4 := .of_only (stageTable_only id b u3)
    refine congrArg Host.Outcome.next (hpacket.trans ?_)
    by_cases hlive : live = true
    · rw [if_pos hlive]
      exact hthree.afterStep_ends (d := opTableWrite) h (runTableWrite_last.trans (if_pos hlive)) (hstaged.trans (.of_only (pushEffect_only _ _ _ _)))
    · rw [if_neg hlive]
      exact hthree.afterStep_ends (d := opTableWrite) h (runTableWrite_last.trans (if_neg hlive)) hstaged
  · intro r s x h c u u1 u2 v hstandby hopen htime hrules hroom
    exact congrArg Host.Outcome.next (configLock_locks h hstandby hopen htime hrules hroom)
  · exact configLock_refuses (by decide) (fun c u ⟨hempty, hstandby⟩ => lockCheck_moving hempty hstandby) fun _ _ _ hpre => hpre
  · exact configLock_refuses (by decide) (fun c u ⟨hempty, hstandby, hlocked⟩ => lockCheck_locked hempty hstandby hlocked) fun _ _ _ hpre => hpre
  · exact configLock_refuses (by decide) (fun c u ⟨hempty, hstandby, hopen, htime⟩ => lockCheck_timeless hempty hstandby hopen htime)
      fun _ _ _ hpre => hpre
  · exact configLock_refuses (by decide)
      (fun c u ⟨hempty, hstandby, hopen, htime, hrules⟩ => lockCheck_inconsistent hempty hstandby hopen htime hrules)
      fun c u h ⟨hempty, hstandby, hopen, htime, hrules⟩ => ⟨hempty, hstandby, hopen, htime, (lockOk_setHost u h).trans hrules⟩

end Sys2Proof.Machine
end

section
/-! SUPPORT. What a reset leaves, whichever its source (R39, R49, R73, R368, R531 to R537). -/

namespace Sys2Proof.Machine

set_option Elab.async false

/-! With no command in flight a stop leaves the host interface. -/

section
variable {s : State} (h : s.host.cmds = [])
include h

theorem finishTest_host_of_idle (b : BTest) : (finishTest b s).host = s.host := by
  have hclose : (closeTest b s).host = s.host := (closeTest_only b s).2 .host (by decide)
  have hnone : findCmd (closeTest b s) b.entry = none := by
    rw [findCmd, hclose, h, List.find?_nil]
  unfold finishTest
  extract_lets t
  split
  · next c hc => exact absurd (hnone.symm.trans hc) (Option.some_ne_none c).symm
  · exact hclose

theorem abortTest_host_of_idle : (abortTest s).host = s.host := by
  unfold abortTest
  split
  · rfl
  · exact finishTest_host_of_idle h _

theorem endStopped_of_idle : endStopped s = s := by
  rw [endStopped, h, List.filter_nil, List.foldl_nil]

theorem takeStop_host_of_idle : (takeStop s).host = s.host := by
  have hcontrol : (stopControl (abandonChain s)).host = s.host :=
    ((abandonChain_only s).comp (rs := [.evt, .ctl, .sch]) (stopControl_only _)).2 .host (by decide)
  have hidle : (stopControl (abandonChain s)).host.cmds = [] := by rw [hcontrol, h]
  have hout : (stopOutput (stopControl (abandonChain s))).host = s.host := ((stopOutput_only _).2 .host (by decide)).trans hcontrol
  have habort : (abortTest (stopOutput (stopControl (abandonChain s)))).host = s.host :=
    (abortTest_host_of_idle (by rw [hout, h])).trans hout
  unfold takeStop
  rw [endStopped_of_idle hidle]
  extract_lets s1
  split
  · exact habort
  · exact ((sendFrames_only _ s1).2 .host (by decide)).trans habort

theorem latchTrip_host_of_idle (src : Nat) (ramp : Bool) (mask : Nat) : (latchTrip src ramp mask s).host = s.host := by
  unfold latchTrip
  extract_lets _ s1 f _ s2
  have h2 : s2.host = s.host := ((Only.setSaf _).comp (rs := [.evt, .saf]) (safEvent_only .safetyTrip (be 1 src) _)).2 .host (by decide)
  split
  · rfl
  · exact (takeStop_host_of_idle (by rw [h2, h])).trans h2

end

theorem latchTrip_only (src : Nat) (ramp : Bool) (mask : Nat) (s : State) :
    Only [.host, .evt, .bus, .ctl, .thr, .sch, .grp, .saf, .out] s (latchTrip src ramp mask s) := by
  unfold latchTrip
  extract_lets _ s1 f _ s2
  have h2 : Only [.evt, .saf] s s2 := ((Only.setSaf _).comp (rs := [.evt, .saf]) (safEvent_only .safetyTrip (be 1 src) _)).comp (Only.setSaf _)
  exact Only.ite (fun _ => Only.refl) fun _ => h2.comp (takeStop_only s2)

/-! Effects that come into force as firmware stops (R73). -/

/-- What effects that come into force may change. -/
def settledParts : List Part := [.time, .cfg, .evt, .sig, .gnss, .acq, .bus, .fus, .obs, .slv, .thr, .sch]

/-- Effects may have come into force: of the time no more has changed than the queue of stamps. -/
def Settles (s t : State) : Prop := Only settledParts s t ∧ ∃ q, t.time = { s.time with txQueue := q }

theorem Settles.refl (s : State) : Settles s s := ⟨Only.refl, _, rfl⟩

theorem Settles.trans {s t u : State} (h : Settles s t) (k : Settles t u) : Settles s u := by
  obtain ⟨hst, q, hq⟩ := h
  obtain ⟨htu, q', hq'⟩ := k
  exact ⟨hst.trans htu, q', by rw [hq', hq]⟩

theorem Settles.foldl {α : Type} {f : State → α → State} (hf : ∀ s x, Settles s (f s x)) (l : List α) (s : State) : Settles s (l.foldl f s) := by
  induction l generalizing s with
  | nil => exact .refl s
  | cons x l ih => exact (hf s x).trans (ih _)

theorem Settles.of_only {ps : List Part} {s t : State} (h : Only ps s t) (hps : ∀ p ∈ ps, p ∈ settledParts := by decide)
    (htime : .time ∉ ps := by decide) : Settles s t :=
  ⟨h.mono hps, s.time.txQueue, h.2 .time htime⟩

theorem pruneStamps_settles (s : State) : Settles s (pruneStamps s) := by
  refine ⟨(pruneStamps_only s).mono (by decide), ?_⟩
  unfold pruneStamps
  split
  · exact ⟨_, rfl⟩
  · exact ⟨_, rfl⟩

theorem lockIn_settles (ps : List (Nat × Value)) (ts : List (Nat × List Byte)) (s : State) : Settles s (lockIn ps ts s) := by
  unfold lockIn
  extract_lets cfg s1 same digest net s2 thr s3
  have h1 : Settles s s1 := .of_only (Only.setCfg _)
  have h2 : Only [.sig, .bus, .fus, .obs] s1 s2 :=
    ((fusionLock_only s1).comp (rs := [.sig, .fus, .obs]) (obsLock_only _ _ _)).comp (canRejoin_only _ _)
  clear_value s2
  have hmask : Only [.evt, .acq, .slv, .thr] s2 (thresholdsOff (ownStructs { s2 with thr := { s2.thr with mask := 0 } })) :=
    ((Only.setThr _).comp (rs := [.slv, .thr]) (ownStructs_only _)).comp (thresholdsOff_only _)
  have h3 : Settles s2 s3 := ((Settles.of_only hmask).trans (pruneStamps_settles _)).trans (.of_only (dropUnnamed_only _))
  clear_value s3
  have hlast : ∀ (x : SchState) (g : GnssState), Only [.gnss, .sch] s3 { s3 with sch := x, gnss := g } := fun x g => by
    apply Only.fields <;> simp
  exact ((h1.trans (.of_only h2)).trans h3).trans (.of_only (hlast _ _))

theorem takeEffect_settles (s : State) (p : Pend) : Settles s (takeEffect s p) := by
  unfold takeEffect
  split
  case h_1 => exact lockIn_settles _ _ s
  case h_2 => exact .of_only (Only.setCfg _)
  case h_3 => exact ((Settles.of_only (Only.setCfg _)).trans (.of_only (thresholdsOff_only _))).trans (.of_only (dropUnnamed_only _))
  case h_7 => exact .of_only (availIn_only _ _ s)
  case h_8 => exact .of_only (selectSource_only _ _ s)
  case h_9 => exact .of_only (Only.setSlv _)
  all_goals exact .refl s

theorem settleEffects_settles (s : State) : Settles s (settleEffects s) :=
  (Settles.of_only (Only.setSch _)).trans (Settles.foldl takeEffect_settles _ _)

/-! The host interface as firmware stops (R39, R49, R73). -/

/-- Sessions closed, no command in flight, the SPI buffers empty; the overrun bits are kept by a core reset. -/
structure HostStopped (l : Level) (h t : HostState) : Prop where
  sessions : t.sessions = List.replicate 8 sessionReset
  cmds : t.cmds = []
  spi : t.spiIn = [] ∧ t.spiOut = []
  lockouts : t.lockouts = []
  overruns : t.inOverrun = ((l == .core) && h.inOverrun) ∧ t.outOverrun = ((l == .core) && h.outOverrun)

theorem hostStop_stopped (l : Level) (s : State) : HostStopped l s.host (hostStop l s).host := by
  have hkept : (freezeJournal (l == .powerOn) s).host.inOverrun = s.host.inOverrun ∧
      (freezeJournal (l == .powerOn) s).host.outOverrun = s.host.outOverrun := by
    unfold freezeJournal
    split <;> exact ⟨rfl, rfl⟩
  refine ⟨rfl, rfl, ⟨rfl, rfl⟩, rfl, ?_, ?_⟩
  · simp only [hostStop, hkept]
  · simp only [hostStop, hkept]

theorem hostStop_only (l : Level) (s : State) : Only [.host] s (hostStop l s) :=
  Only.setHost _

/-! Firmware stops. -/

theorem enginesStop_only (s : State) : Only [.time, .grid, .sig, .gnss, .fus, .obs, .slv, .ctl, .thr, .sch, .mtr] s (enginesStop s) := by
  apply Only.fields <;> simp [enginesStop, obsStop, fusionStop, solutionsStop, rnnRestart]

theorem groupStop_only (ran owned : Bool) (s : State) : Only [.grp] s (groupStop ran owned s) :=
  Only.setGrp _

theorem applyAll_only (s : State) : Only [.saf] s (applyAll s) :=
  Only.setSaf _

/-- Firmware has stopped at a level. -/
structure FwStopped (l : Level) (s t : State) : Prop where
  pwr : t.pwr = { s.pwr with oldMode := t.pwr.oldMode, boot := bootAfter l s.pwr.boot }
  host : HostStopped l s.host t.host
  elapsed : t.time.elapsed = s.time.elapsed
  ctl : t.ctl = ctlReset

theorem fwStop_stopped (l : Level) (s0 : State) : FwStopped l s0 (fwStop l s0) := by
  unfold fwStop
  extract_lets run _ s owned s1 s2
  have hsettled : Settles s s1 := by
    unfold s1
    split
    · exact settleEffects_settles s
    · exact .refl s
  obtain ⟨hparts, q, htime⟩ := hsettled
  clear_value s1
  have hengines := enginesStop_only (hostStop l s1)
  have hgroup : Only [.grp, .saf, .out] (enginesStop (hostStop l s1)) s2 := (dropOwnership_only _).comp (groupStop_only _ _ _)
  have hhost : s2.host = (hostStop l s1).host := (hgroup.2 .host (by decide)).trans (hengines.2 .host (by decide))
  have hidle : s2.host.cmds = [] := by
    rw [hhost]
    rfl
  have habort : Only [.host, .evt, .saf, .out] s2 (applyAll (abortTest s2)) := (abortTest_only s2).comp (applyAll_only _)
  have hbefore : s1.host = s0.host := hparts.2 .host (by decide)
  refine ⟨?_, ?_, ?_, ?_⟩
  · have hpwr : (applyAll (abortTest s2)).pwr = s.pwr :=
      ((habort.2 .pwr (by decide)).trans (hgroup.2 .pwr (by decide))).trans
        (((hengines.2 .pwr (by decide)).trans ((hostStop_only l s1).2 .pwr (by decide))).trans (hparts.2 .pwr (by decide)))
    rw [hpwr]
  · have hlast : (applyAll (abortTest s2)).host = (hostStop l s1).host := (abortTest_host_of_idle hidle).trans hhost
    rw [hlast, ← hbefore]
    exact hostStop_stopped l s1
  · have hlast : (applyAll (abortTest s2)).time = (enginesStop (hostStop l s1)).time := (habort.2 .time (by decide)).trans (hgroup.2 .time (by decide))
    rw [hlast]
    exact (congrArg TimeState.elapsed htime :)
  · exact ((habort.2 .ctl (by decide)).trans (hgroup.2 .ctl (by decide)))

/-! RESET_CAUSE (R120, R537). -/

theorem testBit_putBit (w i : Nat) : (putBit w i true).testBit i = true := by
  unfold putBit
  split
  · assumption
  · next h => simp only [if_true, Nat.add_comm w, Nat.testBit_two_pow_add_eq, h, Bool.not_false]

/-- The source that asserts last has its bit. -/
theorem causeWord_last (bits : Nat) (srcs : List RSrc) (src : RSrc) (reach : Level) :
    (causeWord bits (srcs ++ [src]) reach).getLsbD src.bit = true := by
  have hbit : src.bit < 8 := by cases src <;> simp [RSrc.bit]
  have hlow : ∀ w : Nat, (w + 256 * reach.code).testBit src.bit = w.testBit src.bit := by
    intro w
    have hmod : (w + 256 * reach.code) % 2 ^ 8 = w % 2 ^ 8 := Nat.add_mul_mod_self_left w 256 reach.code
    have hboth : ((w + 256 * reach.code) % 2 ^ 8).testBit src.bit = (w % 2 ^ 8).testBit src.bit := by rw [hmod]
    rwa [Nat.testBit_mod_two_pow, Nat.testBit_mod_two_pow, decide_eq_true hbit, Bool.true_and, Bool.true_and] at hboth
  rw [causeWord, BitVec.getLsbD_ofNat, List.foldl_append, List.foldl_cons, List.foldl_nil, hlow, testBit_putBit]
  simp only [Bool.and_true, decide_eq_true_eq]
  omega

/-! The levels past the core (Table 18-8). -/

/-- The blocks of the system level are reset. -/
structure SystemStopped (s t : State) : Prop where
  pwr : t.pwr = { s.pwr with isolated := 0, skewActive := 0, thermalDomain := none }
  host : t.host = s.host
  elapsed : t.time.elapsed = s.time.elapsed
  cfg : t.cfg.locked = false
  saf : t.saf.phase = 0 ∧ t.saf.latched = 0
  ctl : t.ctl = s.ctl
  slv : t.slv = slvReset

theorem systemStop_stopped (s : State) : SystemStopped s (systemStop s) :=
  ⟨rfl, rfl, rfl, rfl, ⟨rfl, rfl⟩, rfl, rfl⟩

theorem mtrLog_only (code feeder param old new : Nat) (s : State) : Only [.mtr] s (mtrLog code feeder param old new s) :=
  Only.ite (fun _ => Only.refl) fun _ => Only.setMtr _

theorem mtrStart_only (newer older : Bool) (s : State) : Only [.mtr, .fresh] s (mtrStart newer older s) := by
  unfold mtrStart
  extract_lets m gap good st _ m' s1
  have h1 : Only [.mtr, .fresh] s s1 := by
    apply Only.fields <;> simp [s1, freshen]
  exact h1.comp (rs := [.mtr, .fresh]) ((Only.ite (fun _ => mtrLog_only _ _ _ _ _ s1) fun _ => Only.refl).trans (mtrLog_only _ _ _ _ _ _))

theorem mtrDeviceReset_only (s : State) : Only [.mtr, .fresh] s (mtrDeviceReset s) :=
  have hcommit : Only [.mtr] s (mtrCommit (mtrNote 14 s)) := (mtrLog_only _ _ _ _ _ s).trans (Only.setMtr _)
  Only.ite (fun _ => hcommit.comp (mtrStart_only _ _ _)) fun _ => Only.refl

/-- What a power-on reset takes beside the system level: what is no part of the reset's own record. -/
theorem powerStop_leaves (s : State) : Only [.grid, .evt, .pwr, .mtr, .fresh] s (powerStop s) ∧
    (powerStop s).pwr = { s.pwr with retention := none, wakeQueued := 0, wakeStallMax := 0 } := by
  unfold powerStop
  extract_lets lost keep
  have hbefore : ∀ (g : GridState) (e : RecState) (q : PwrState), Only [.grid, .evt, .pwr] s { s with grid := g, evt := e, pwr := q } := fun g e q => by
    apply Only.fields <;> simp
  exact ⟨(hbefore _ _ _).comp (mtrDeviceReset_only _), (mtrDeviceReset_only _).2 .pwr (by decide)⟩

/-! A reset source asserts. -/

/-- The state in which the reset of a level has run, before a power-on reset's own part. -/
def levelStop (src : RSrc) (s : State) : State :=
  if src.reach = .core then latchTrip 11 false 0xFF (resetPower src (fwStop src.reach s)) else systemStop (resetPower src (fwStop src.reach s))

theorem assertReset_eq (src : RSrc) (s : State) :
    assertReset src s = if src.reach = .powerOn then powerStop (levelStop src s) else levelStop src s := rfl

/-- What a reset leaves of each part that it is told by. -/
structure LevelStopped (src : RSrc) (s t : State) : Prop where
  boot : t.pwr.boot = bootAfter src.reach s.pwr.boot
  build : t.pwr.fwBuild = 0
  run : t.pwr.state = .run
  cause : t.pwr.cause.getLsbD src.bit = true
  warned : t.pwr.bowSince = s.pwr.bowSince
  host : HostStopped src.reach s.host t.host
  elapsed : t.time.elapsed = s.time.elapsed
  past : src.reach ≠ .core → t.cfg.locked = false ∧ t.saf.phase = 0 ∧ t.saf.latched = 0

theorem levelStop_stopped (src : RSrc) (s : State) : LevelStopped src s (levelStop src s) := by
  have hfw := fwStop_stopped src.reach s
  have hpwr : (resetPower src (fwStop src.reach s)).pwr.boot = bootAfter src.reach s.pwr.boot ∧
      (resetPower src (fwStop src.reach s)).pwr.bowSince = s.pwr.bowSince := by
    constructor
    · exact (congrArg PwrState.boot hfw.pwr :)
    · exact (congrArg PwrState.bowSince hfw.pwr :)
  have hcause : (resetPower src (fwStop src.reach s)).pwr.cause.getLsbD src.bit = true := causeWord_last _ _ src _
  unfold levelStop
  by_cases hcore : src.reach = .core
  · rw [if_pos hcore]
    have honly := latchTrip_only 11 false 0xFF (resetPower src (fwStop src.reach s))
    have hkept : (latchTrip 11 false 0xFF (resetPower src (fwStop src.reach s))).pwr = (resetPower src (fwStop src.reach s)).pwr := honly.2 .pwr (by decide)
    have hhost := latchTrip_host_of_idle (s := resetPower src (fwStop src.reach s)) hfw.host.cmds 11 false 0xFF
    have htime : (latchTrip 11 false 0xFF (resetPower src (fwStop src.reach s))).time = (fwStop src.reach s).time := honly.2 .time (by decide)
    refine ⟨?_, ?_, ?_, ?_, ?_, ?_, ?_, fun hpast => absurd hcore hpast⟩
    · exact hkept ▸ hpwr.1
    · rw [hkept]
      rfl
    · rw [hkept]
      rfl
    · exact hkept ▸ hcause
    · exact hkept ▸ hpwr.2
    · rw [hhost]
      exact hfw.host
    · rw [htime]
      exact hfw.elapsed
  · rw [if_neg hcore]
    exact ⟨hpwr.1, rfl, rfl, hcause, hpwr.2, hfw.host, hfw.elapsed, fun _ => ⟨rfl, rfl, rfl⟩⟩

theorem assertReset_stopped (src : RSrc) (s : State) : LevelStopped src s (assertReset src s) := by
  have hlevel := levelStop_stopped src s
  rw [assertReset_eq]
  split
  · obtain ⟨honly, hpwr⟩ := powerStop_leaves (levelStop src s)
    have hhost : (powerStop (levelStop src s)).host = (levelStop src s).host := honly.2 .host (by decide)
    have htime : (powerStop (levelStop src s)).time = (levelStop src s).time := honly.2 .time (by decide)
    have hcfg : (powerStop (levelStop src s)).cfg = (levelStop src s).cfg := honly.2 .cfg (by decide)
    have hsaf : (powerStop (levelStop src s)).saf = (levelStop src s).saf := honly.2 .saf (by decide)
    refine ⟨?_, ?_, ?_, ?_, ?_, ?_, ?_, fun hpast => ?_⟩
    · exact (congrArg PwrState.boot hpwr).trans hlevel.boot
    · exact (congrArg PwrState.fwBuild hpwr).trans hlevel.build
    · exact (congrArg PwrState.state hpwr).trans hlevel.run
    · rw [hpwr]
      exact hlevel.cause
    · exact (congrArg PwrState.bowSince hpwr).trans hlevel.warned
    · rw [hhost]
      exact hlevel.host
    · rw [htime]
      exact hlevel.elapsed
    · rw [hcfg, hsaf]
      exact hlevel.past hpast
  · exact hlevel

/-- Retention SRAM is lost by a power-on reset (R508). -/
theorem assertReset_retention {src : RSrc} (h : src.reach = .powerOn) (s : State) : (assertReset src s).pwr.retention = none := by
  rw [assertReset_eq, if_pos h, (powerStop_leaves _).2]

/-- `ResetBy` is what these parts tell of a reset. -/
theorem LevelStopped.resetBy {src : RSrc} {s t : State} (h : LevelStopped src s t) : ResetBy src s t := by
  obtain ⟨hin, hout⟩ := h.host.overruns
  refine ⟨h.boot, h.build, h.run, h.cause, h.host.sessions, h.host.cmds, h.host.spi.1, h.host.spi.2, fun hcore => ?_, fun hpast => ?_⟩
  · rw [hin, hout, hcore]
    exact ⟨rfl, rfl⟩
  · rw [hin, hout, beq_false_of_ne hpast]
    exact ⟨rfl, rfl, h.past hpast⟩

theorem assertReset_resetBy (src : RSrc) (s : State) : ResetBy src s (assertReset src s) := (assertReset_stopped src s).resetBy

end Sys2Proof.Machine
end

section
/-! SUPPORT. The supplies and the reset sources (R114, R528 to R535). -/

namespace Sys2Proof.Machine

set_option Elab.async false

/-! What a brake test's end and a stop leave of the monitor. -/

theorem safEvent_latched (e : Ev) (ps : List Byte) (s : State) : (safEvent e ps s).saf.latched = s.saf.latched := by
  unfold safEvent
  split
  · rw [record_saf]
  · split <;> rfl

theorem safEvent_test (e : Ev) (ps : List Byte) (s : State) : (safEvent e ps s).saf.test = s.saf.test := by
  unfold safEvent
  split
  · rw [record_saf]
  · split <;> rfl

theorem closeTest_test (b : BTest) (s : State) : (closeTest b s).saf.test = none := by
  rw [closeTest, safEvent_test]

theorem closeTest_latched (b : BTest) (s : State) : (closeTest b s).saf.latched = s.saf.latched := by
  rw [closeTest, safEvent_latched]

theorem finishTest_saf (b : BTest) (s : State) : (finishTest b s).saf = (closeTest b s).saf := by
  unfold finishTest
  extract_lets t
  split
  · exact (endCmd_only _ _ _ _ _ _ t).2 .saf (by decide)
  · rfl

theorem abortTest_test (s : State) : (abortTest s).saf.test = none := by
  unfold abortTest
  split
  · assumption
  · rw [finishTest_saf, closeTest_test]

theorem abortTest_latched (s : State) : (abortTest s).saf.latched = s.saf.latched := by
  unfold abortTest
  split
  · rfl
  · rw [finishTest_saf, closeTest_latched]

/-- A stop that has taken effect: STANDBY in the control engine and to the thrusters, the latched sources as they were (R337, R383). -/
structure Stopped (s t : State) : Prop where
  mode : t.ctl.mode = 0
  current : ∀ x ∈ t.thr.current, x = standbyCmd
  latched : t.saf.latched = s.saf.latched

theorem stopControl_mode (s : State) : (stopControl s).ctl.mode = 0 := by
  unfold stopControl
  extract_lets old dead entered c1 keep sch s1
  have h1 : s1.ctl.mode = 0 := rfl
  split
  · exact h1
  · exact (congrArg CtlState.mode ((record_only _ _ s1).2 .ctl (by decide))).trans h1

theorem takeStop_stopped (s : State) : Stopped s (takeStop s) := by
  have hcontrol : Only [.evt, .ctl, .sch] s (stopControl (abandonChain s)) := (abandonChain_only s).comp (stopControl_only _)
  have hended := endStopped_only (stopControl (abandonChain s))
  have hout := stopOutput_only (endStopped (stopControl (abandonChain s)))
  have habort := abortTest_only (stopOutput (endStopped (stopControl (abandonChain s))))
  have hended' : Stopped s (abortTest (stopOutput (endStopped (stopControl (abandonChain s))))) := by
    refine ⟨?_, fun x hx => ?_, ?_⟩
    · rw [show (abortTest _).ctl = (stopControl (abandonChain s)).ctl from
        ((habort.2 .ctl (by decide)).trans (hout.2 .ctl (by decide))).trans (hended.2 .ctl (by decide)), stopControl_mode]
    · rw [show (abortTest _).thr = _ from habort.2 .thr (by decide)] at hx
      exact List.eq_of_mem_replicate hx
    · rw [abortTest_latched, show (stopOutput _).saf = s.saf from
        ((hout.2 .saf (by decide)).trans (hended.2 .saf (by decide))).trans (hcontrol.2 .saf (by decide))]
  unfold takeStop
  extract_lets s1
  split
  · exact hended'
  · have hframes := sendFrames_only false s1
    refine ⟨?_, ?_, ?_⟩
    · rw [show (sendFrames false s1).ctl = s1.ctl from hframes.2 .ctl (by decide)]
      exact hended'.mode
    · rw [show (sendFrames false s1).thr = s1.thr from hframes.2 .thr (by decide)]
      exact hended'.current
    · rw [show (sendFrames false s1).saf = s1.saf from hframes.2 .saf (by decide)]
      exact hended'.latched

/-- A source not yet latched is latched by the stop that it causes. -/
theorem latchTrip_latches {src : Nat} {ramp : Bool} {mask : Nat} {s : State} (hphase : s.saf.phase = 2) (hnew : bitOf s.saf.latched src = false) :
    (latchTrip src ramp mask s).ctl.mode = 0 ∧ (∀ x ∈ (latchTrip src ramp mask s).thr.current, x = standbyCmd) ∧
      bitOf (latchTrip src ramp mask s).saf.latched src = true := by
  have hnot : ¬(s.saf.phase ≠ 2 ∨ bitOf s.saf.latched src = true) := by
    simp only [hphase, hnew, ne_eq, not_true_eq_false, Bool.false_eq_true, or_self, not_false_iff]
  unfold latchTrip
  rw [if_neg hnot]
  extract_lets _ s1 f _ s2
  obtain ⟨hmode, hcurrent, hlatched⟩ := takeStop_stopped s2
  refine ⟨hmode, hcurrent, ?_⟩
  have h2 : s2.saf.latched = s.saf.latched + 2 ^ src := safEvent_latched _ _ _
  rw [hlatched, h2, bitOf, Nat.add_comm, Nat.testBit_two_pow_add_eq]
  rw [bitOf] at hnew
  rw [hnew, Bool.not_false]

/-! The warning (R528, R529). -/

theorem abandonChain_chain (s : State) : (abandonChain s).sch.chain = none := by
  unfold abandonChain
  split
  · rfl
  · next h => exact Option.not_isSome_iff_eq_none.mp h

/-- The warning noted. -/
def noteBow (s : State) : State :=
  { s with pwr := { s.pwr with bowSince := some s.time.elapsed, bowStopped := false, bowCount := min (s.pwr.bowCount + 1) (2 ^ 32 - 1) } }

theorem raiseBow_eq (s : State) : raiseBow s = abortTest (abandonChain (record .bowWarning [] (noteBow s))) := rfl

theorem raiseBow_spec (s : State) : (raiseBow s).pwr = (noteBow s).pwr ∧ (raiseBow s).sch.chain = none ∧ (raiseBow s).saf.test = none ∧
    Only [.host, .evt, .pwr, .sch, .saf, .out] s (raiseBow s) := by
  rw [raiseBow_eq]
  have hnoted : Only [.pwr] s (noteBow s) := Only.setPwr _
  have hrecorded := record_only .bowWarning [] (noteBow s)
  have hchain := abandonChain_only (record .bowWarning [] (noteBow s))
  have habort := abortTest_only (abandonChain (record .bowWarning [] (noteBow s)))
  refine ⟨?_, ?_, abortTest_test _, ((hnoted.comp (rs := [.evt, .pwr]) hrecorded).comp (rs := [.evt, .pwr, .sch]) hchain).comp habort⟩
  · exact ((habort.2 .pwr (by decide)).trans (hchain.2 .pwr (by decide))).trans (hrecorded.2 .pwr (by decide))
  · rw [show (abortTest _).sch = _ from habort.2 .sch (by decide), abandonChain_chain]

section
variable {s : State} {i : Fin 11} {mv : Nat}

theorem bowWarning_idle (h : bowRail i.val = false ∨ (railLevels i.val).1 ≤ mv) : exec (.bowWarning i mv) s = .next s := by
  show execBowWarning i mv s = .next s
  unfold execBowWarning
  rw [if_pos]
  obtain hrail | hlevel := h
  · rw [hrail]
    rfl
  · rw [decide_eq_true hlevel, Bool.or_true]

/-- A sample of a rail below its warning level. -/
def sampled (i mv : Nat) (s : State) : State := { s with pwr := lowRail i mv s.pwr }

theorem bowWarning_low (hrail : bowRail i.val = true) (hoff : s.pwr.state ≠ .off) (hpor : s.pwr.boot ≠ .inReset .powerOn)
    (hlow : mv < (railLevels i.val).1) :
    exec (.bowWarning i mv) s = .next (if bowRaised s then sampled i.val mv s else raiseBow (sampled i.val mv s)) := by
  show execBowWarning i mv s = _
  unfold execBowWarning
  rw [if_neg]
  · rfl
  · simp only [hrail, beq_false_of_ne hoff, beq_false_of_ne hpor, Bool.not_true, Bool.false_or, decide_eq_true_eq]
    omega

theorem bowWarning_spec (hrail : bowRail i.val = true) (hoff : s.pwr.state ≠ .off) (hpor : s.pwr.boot ≠ .inReset .powerOn)
    (hlow : mv < (railLevels i.val).1) : ∃ t : State, exec (.bowWarning i mv) s = .next t ∧ bowRaised t = true ∧
      t.pwr.bowRails = s.pwr.bowRails ||| BitVec.ofNat 11 (2 ^ i.val) ∧ t.pwr.railMv = modAt s.pwr.railMv i.val (fun _ => mv) ∧
      (bowRaised s = true → Only [.pwr] s t ∧ t.pwr.bowSince = s.pwr.bowSince) ∧
      (bowRaised s = false → t.pwr.bowSince = some s.time.elapsed ∧ t.pwr.bowCount = min (s.pwr.bowCount + 1) (2 ^ 32 - 1) ∧ t.sch.chain = none ∧
        t.saf.test = none ∧ Only [.host, .evt, .pwr, .sch, .saf, .out] s t) := by
  refine ⟨_, bowWarning_low hrail hoff hpor hlow, ?_⟩
  cases hraised : bowRaised s with
  | true => exact ⟨hraised, rfl, rfl, fun _ => ⟨Only.setPwr _, rfl⟩, fun h => absurd h (by decide)⟩
  | false =>
    obtain ⟨hpwr, hchain, htest, honly⟩ := raiseBow_spec (sampled i.val mv s)
    have hsampled : Only [.pwr] s (sampled i.val mv s) := Only.setPwr _
    rw [if_neg (by decide)]
    refine ⟨?_, ?_, ?_, fun h => absurd h (by decide), fun _ => ⟨?_, ?_, hchain, htest, hsampled.comp honly⟩⟩
    · rw [bowRaised, hpwr]
      rfl
    all_goals
      rw [hpwr]
      rfl

end

/-! The controlled stop (R530). -/

/-- The stop that the warning brings. -/
def bowTrip (s : State) : State := if s.saf.phase = 2 ∧ !bitOf s.saf.latched 12 then latchTrip 12 true 0xFF s else takeStop s

/-- The stop is told. -/
def noteBowStop (s : State) : State := record .bowStop [] { s with pwr := { s.pwr with bowStopped := true } }

theorem bowStop_eq (s : State) : bowStop s = noteBowStop (bowTrip s) := rfl

theorem noteBowStop_only (s : State) : Only [.evt, .pwr] s (noteBowStop s) :=
  (Only.setPwr _).comp (record_only _ _ _)

theorem noteBowStop_pwr (s : State) : (noteBowStop s).pwr = { s.pwr with bowStopped := true } :=
  (record_only _ _ _).2 .pwr (by decide)

theorem bowTrip_only (s : State) : Only [.host, .evt, .bus, .ctl, .thr, .sch, .grp, .saf, .out] s (bowTrip s) :=
  Only.ite (fun _ => latchTrip_only _ _ _ s) fun _ => takeStop_only s

theorem bowTrip_stops (s : State) : (bowTrip s).ctl.mode = 0 ∧ (∀ x ∈ (bowTrip s).thr.current, x = standbyCmd) ∧
    (s.saf.phase = 2 → bitOf (bowTrip s).saf.latched 12 = true) := by
  unfold bowTrip
  split
  · next h =>
    obtain ⟨hmode, hcurrent, hlatched⟩ := latchTrip_latches (ramp := true) (mask := 0xFF) h.1 (Bool.not_eq_true' _ ▸ h.2)
    exact ⟨hmode, hcurrent, fun _ => hlatched⟩
  · next h =>
    obtain ⟨hmode, hcurrent, hlatched⟩ := takeStop_stopped s
    refine ⟨hmode, hcurrent, fun hphase => ?_⟩
    rw [hlatched]
    simpa [hphase] using h

theorem bowStop_only (s : State) : Only [.host, .evt, .pwr, .bus, .ctl, .thr, .sch, .grp, .saf, .out] s (bowStop s) :=
  (bowTrip_only s).comp (noteBowStop_only _)

theorem bowStop_pwr (s : State) : (bowStop s).pwr = { s.pwr with bowStopped := true } := by
  rw [bowStop_eq, noteBowStop_pwr, show (bowTrip s).pwr = s.pwr from (bowTrip_only s).2 .pwr (by decide)]

theorem bowStop_stops (s : State) : (bowStop s).ctl.mode = 0 ∧ (∀ x ∈ (bowStop s).thr.current, x = standbyCmd) ∧
    (s.saf.phase = 2 → bitOf (bowStop s).saf.latched 12 = true) := by
  have hnote := noteBowStop_only (bowTrip s)
  rw [bowStop_eq, show (noteBowStop _).ctl = _ from hnote.2 .ctl (by decide), show (noteBowStop _).thr = _ from hnote.2 .thr (by decide),
    show (noteBowStop _).saf = _ from hnote.2 .saf (by decide)]
  exact bowTrip_stops s

theorem bowStop_row {s : State} {t0 : Nat} (hsince : s.pwr.bowSince = some t0) (hnot : s.pwr.bowStopped = false) :
    ∃ t : State, exec .bowStop s = .next t ∧ t.pwr.bowStopped = true ∧ t0 + us 2000 ≤ t.time.elapsed ∧ t.ctl.mode = 0 ∧
      (s.saf.phase = 2 → bitOf t.saf.latched 12 = true) ∧ (∀ x ∈ t.thr.current, x = standbyCmd) ∧
      Only [.time, .host, .evt, .pwr, .bus, .ctl, .thr, .sch, .grp, .saf, .out] s t := by
  have hexec : exec .bowStop s = .next (bowStop (elapseTo (t0 + us 2000) s)) := by
    show execBowStop s = _
    simp only [execBowStop, hsince, hnot, Bool.false_eq_true, if_false]
  have helapse := elapseTo_only (t0 + us 2000) s
  have hstop := bowStop_only (elapseTo (t0 + us 2000) s)
  obtain ⟨hmode, hcurrent, hlatched⟩ := bowStop_stops (elapseTo (t0 + us 2000) s)
  refine ⟨_, hexec, ?_, ?_, hmode, fun hphase => hlatched ?_, hcurrent, helapse.comp hstop⟩
  · rw [bowStop_pwr]
  · rw [show (bowStop _).time = _ from hstop.2 .time (by decide)]
    exact le_elapsed_elapseTo _ s
  · exact (congrArg SafState.phase (helapse.2 .saf (by decide))).trans hphase

theorem bowStop_idle {s : State} (h : s.pwr.bowSince = none ∨ s.pwr.bowStopped = true) : exec .bowStop s = .next s := by
  show execBowStop s = .next s
  unfold execBowStop
  split
  · next t hsince =>
    obtain hnone | hstopped := h
    · cases hnone.symm.trans hsince
    · rw [hstopped, if_pos rfl]
  · rfl

/-! The warning's end (R530). -/

/-- The stop that a warning of more than 2,000 µs has had. -/
def lateStop (t0 : Nat) (s : State) : State := if decide (t0 + us 2000 < s.time.elapsed) && !s.pwr.bowStopped then bowStop s else s

theorem lateStop_only (t0 : Nat) (s : State) : Only [.host, .evt, .pwr, .bus, .ctl, .thr, .sch, .grp, .saf, .out] s (lateStop t0 s) :=
  Only.ite (fun _ => bowStop_only s) fun _ => Only.refl

theorem lateStop_rails (t0 : Nat) (s : State) : (lateStop t0 s).pwr.bowRails = s.pwr.bowRails := by
  unfold lateStop
  split
  · rw [bowStop_pwr]
  · rfl

theorem recovered_only (dur : Nat) (lowest : List Nat) (s : State) (i : Nat) : Only [.evt] s (recovered dur lowest s i) :=
  Only.ite (fun _ => Only.refl) fun _ => record_only _ _ s

/-- No warning is raised, and the one that was lasted `dur` microseconds. -/
def bowOver (dur : Nat) (s : State) : State :=
  { s with pwr := { s.pwr with bowSince := none, bowLastUs := min dur (2 ^ 32 - 1), bowLow := List.replicate 11 0, bowStopped := false } }

theorem bowRecovered_row {s : State} {t0 : Nat} (lowest : List Nat) (hsince : s.pwr.bowSince = some t0) :
    ∃ t : State, exec (.bowRecovered lowest) s = .next t ∧ bowRaised t = false ∧ t.pwr.bowRails = s.pwr.bowRails &&& railsHeld s ∧
      t.pwr.bowStopped = false ∧ t.pwr.bowLastUs = min ((s.time.elapsed - t0) / 1000) (2 ^ 32 - 1) ∧
      Only [.host, .evt, .pwr, .bus, .ctl, .thr, .sch, .grp, .saf, .out] s t := by
  let s0 := lateStop t0 s
  let dur := (s0.time.elapsed - t0) / 1000
  let s1 := (List.range 11).foldl (recovered dur lowest) s0
  let v := bowOver dur (railsUp (railsHeld s) s1)
  have hexec : exec (.bowRecovered lowest) s = .next (serveSlots v) := by
    show execBowRecovered lowest s = _
    simp only [execBowRecovered, hsince]
    rfl
  have h0 : Only [.host, .evt, .pwr, .bus, .ctl, .thr, .sch, .grp, .saf, .out] s s0 := lateStop_only t0 s
  have h1 : Only [.evt] s0 s1 := Only.refl.foldl _ (recovered_only dur lowest) _
  have hv : Only [.pwr] s1 v := (Only.setPwr _).trans (Only.setPwr _)
  have hover : Only [.host, .evt, .pwr, .bus, .ctl, .thr, .sch, .grp, .saf, .out] s v := h0.comp (h1.comp (rs := [.evt, .pwr]) hv)
  have hpwr : (serveSlots v).pwr = v.pwr := (serveSlots_only v).2 .pwr (by decide)
  have htime : s0.time = s.time := h0.2 .time (by decide)
  refine ⟨_, hexec, ?_, ?_, ?_, ?_, hover.comp (serveSlots_only v)⟩
  · rw [bowRaised, hpwr]
    rfl
  · rw [hpwr, ← lateStop_rails t0 s, ← show s1.pwr = s0.pwr from h1.2 .pwr (by decide)]
    rfl
  · rw [hpwr]
    rfl
  · rw [hpwr, ← htime]
    rfl

/-! Reset sources (R531 to R535). -/

/-- A reset is told by the part of the state before it that the statement reads. -/
theorem ResetBy.of_before {src : RSrc} {s s' t : State} (hboot : s'.pwr.boot = s.pwr.boot) (hhost : s'.host = s.host) (h : ResetBy src s' t) :
    ResetBy src s t := by
  unfold ResetBy at h ⊢
  rwa [hboot, hhost] at h

theorem railLost_kept (i : Nat) (s : State) : (railLost i s).pwr.boot = s.pwr.boot ∧ (railLost i s).host = s.host ∧
    (railLost i s).pwr.bowSince = none := by
  unfold railLost
  extract_lets _ p
  split <;> exact ⟨rfl, rfl, rfl⟩

theorem supplyReset_resets (src : RSrc) (i : Nat) (s : State) : ResetBy src s (assertReset src (railLost i s)) ∧
    bowRaised (assertReset src (railLost i s)) = false := by
  obtain ⟨hboot, hhost, hsince⟩ := railLost_kept i s
  refine ⟨(assertReset_resetBy src _).of_before hboot hhost, ?_⟩
  rw [bowRaised, (assertReset_stopped src _).warned, hsince]
  rfl

theorem supplyReset_row {s : State} {i : Fin 11} (h2 : i.val ≠ 2) (h7 : i.val ≠ 7) (h8 : i.val ≠ 8) (hoff : s.pwr.state ≠ .off) :
    exec (.supplyReset i) s = .next (assertReset (.supply i.val) (railLost i.val s)) := by
  show execSupplyReset i s = _
  simp only [execSupplyReset, h2, h7, h8, hoff, false_and, or_self, if_false]

theorem commandedReset_row {s : State} {l : Level} {t0 : Nat} (src : RSrc) (hsrc : (if l = .core then .cmdCore else .cmdSystem) = src)
    (h : s.pwr.resetPending = some (l, t0)) : ∃ t : State, exec .commandedReset s = .next t ∧ ResetBy src s t ∧ t0 ≤ t.time.elapsed := by
  have helapse := elapseTo_only t0 s
  refine ⟨assertReset src (elapseTo t0 s), ?_, ?_, ?_⟩
  · show execCommandedReset s = _
    simp only [execCommandedReset, h, hsrc]
  · exact (assertReset_resetBy src _).of_before (congrArg PwrState.boot (helapse.2 .pwr (by decide))) (helapse.2 .host (by decide))
  · rw [(assertReset_stopped src _).elapsed]
    exact le_elapsed_elapseTo t0 s

/-- Settles O56: the warning, the controlled stop and the reset sources, each by its own lemma. -/
theorem supplyRows : Obligations.SupplyRows := by
  intro s
  refine ⟨fun i mv => bowWarning_spec, fun i mv => bowWarning_idle, fun t0 => bowStop_row, bowStop_idle, fun l t0 => bowRecovered_row l, ?_, ?_, ?_,
    ?_, rfl, ?_, ?_, ?_, fun t0 => commandedReset_row .cmdCore rfl, fun t0 => commandedReset_row .cmdSystem rfl, ?_⟩
  · intro l hnone
    show execBowRecovered l s = _
    simp only [execBowRecovered, hnone]
  · intro i h2 h7 h8 hoff
    exact ⟨_, supplyReset_row h2 h7 h8 hoff, supplyReset_resets _ _ s⟩
  · obtain ⟨hreset, hbow⟩ := supplyReset_resets .por 2 s
    have hexec : exec (.supplyReset 2) s = .next (assertReset .por (railLost 2 s)) := by
      show execSupplyReset 2 s = _
      simp [execSupplyReset]
    exact ⟨_, hexec, hreset, hbow, assertReset_retention rfl _, (assertReset_stopped .por _).host.lockouts⟩
  · refine ⟨_, rfl, rfl, rfl, rfl, rfl, ?_⟩
    have hbelow : Only [.pwr] s (railBelow 7 1600 s) := Only.setPwr _
    exact hbelow.comp (monitorReset_only 0 _)
  · intro i h2 h7 hoff
    show execSupplyReset i s = _
    simp only [execSupplyReset, h2, h7, hoff, true_and, ne_eq, not_false_iff, or_true, if_true, if_false]
  · intro hon
    refine ⟨assertReset .pin s, ?_, assertReset_resetBy .pin s⟩
    show execRstN s = _
    rw [execRstN, if_neg hon]
  · intro hoff
    show execRstN s = _
    rw [execRstN, if_pos hoff]
  · intro hnone
    show execCommandedReset s = _
    simp only [execCommandedReset, hnone]

end Sys2Proof.Machine
end

section
/-! SUPPORT. The power states (R121, R517 to R522). -/

namespace Sys2Proof.Machine

set_option Elab.async false

/-! Entry (R517). -/

theorem elapsed_elapseTo_le {e n : Nat} {s : State} (hs : s.time.elapsed ≤ n) (he : e + 3 ≤ n) : (elapseTo e s).time.elapsed ≤ n := by
  simp only [elapseTo, passTicks]
  omega

theorem passTicks_counting (n : Nat) (s : State) : (passTicks n s).time.counting = s.time.counting := by
  simp only [passTicks, TimeState.setUnits]
  split <;> rfl

theorem elapseTo_counting (e : Nat) (s : State) : (elapseTo e s).time.counting = s.time.counting := passTicks_counting _ s

/-- What entry waits for is no matter of time. -/
theorem entryReady_elapseTo (e : Nat) (s : State) : entryReady (elapseTo e s) = entryReady s := by
  have h := elapseTo_only e s
  have hwaiting : (elapseTo e s).evt.waiting = s.evt.waiting := rfl
  simp only [entryReady, bowRaised, inStandby, hwaiting, show (elapseTo e s).host = s.host from h.2 .host (by decide),
    show (elapseTo e s).pwr = s.pwr from h.2 .pwr (by decide), show (elapseTo e s).ctl = s.ctl from h.2 .ctl (by decide),
    show (elapseTo e s).sch = s.sch from h.2 .sch (by decide)]

theorem running_of_awake {s : State} (h : awake s = true) : s.pwr.boot = .running := by
  obtain ⟨hrun, -⟩ := Bool.and_eq_true_iff.mp h
  exact beq_iff_eq.mp hrun

theorem flushEvents_only (s : State) : Only [.evt] s (flushEvents s) := by
  unfold flushEvents
  extract_lets _ s1
  have h1 : Only [.evt] s s1 := Only.setEvt _
  split
  · exact h1
  · have hlost : ∀ (e : RecState) (ps : List Byte), Only [.evt] s1 (pushRec .evtLost ps true { s1 with evt := e }) := fun e ps => by
      apply Only.fields <;> simp
    exact h1.trans (hlost _ _)

/-- A device that is about to enter a power state: the entry is told, and no longer pending. -/
def entering (sched : Bool) (s : State) : State :=
  let u := flushEvents (record .pwrEnter [] s)
  let wakeAt := if sched then some (u.time.elapsed + ms (1000 * pNat u 0x0B06)) else none
  { u with pwr := { u.pwr with entryPending := none, enteredAt := u.time.elapsed, schedWakeAt := wakeAt } }

theorem entering_kept (sched : Bool) (s : State) : (entering sched s).pwr.entryPending = none ∧ (entering sched s).pwr.boot = s.pwr.boot ∧
    (entering sched s).time = s.time := by
  have htold : Only [.evt] s (flushEvents (record .pwrEnter [] s)) := (record_only _ _ s).trans (flushEvents_only _)
  exact ⟨rfl, (congrArg PwrState.boot (htold.2 .pwr (by decide)) :), htold.2 .time (by decide)⟩

theorem enterPower_eq (sched : Bool) (s : State) : enterPower .sleep sched s = enterSleep (entering sched s) ∧
    enterPower .deepSleep sched s = enterDeep (entering sched s) ∧ enterPower .off sched s = enterOff (entering sched s) := ⟨rfl, rfl, rfl⟩

/-- What each of the three states has in common once entered: the control engine, the solver's structures and the switched domains lost. -/
structure Entered (x : PState) (s t : State) : Prop where
  state : t.pwr.state = x
  pending : t.pwr.entryPending = s.pwr.entryPending
  domains : t.pwr.domains = List.replicate 25 .stopped
  elapsed : t.time.elapsed = s.time.elapsed
  ctl : t.ctl = ctlReset
  structs : t.slv.structs = []

/-- What runs on the tiles has stopped. -/
def tilesStop (s : State) : State := acqStop (applyAll (dropOwnership (obsStop (fusionStop (settleEffects (abandonChain s))))))

theorem tilesStop_kept (s : State) : (tilesStop s).pwr = s.pwr ∧ ∃ q, (tilesStop s).time = { s.time with txQueue := q } := by
  have hchain := abandonChain_only s
  obtain ⟨hparts, q, htime⟩ := settleEffects_settles (abandonChain s)
  have hobs : Only [.fus, .obs] (settleEffects (abandonChain s)) (obsStop (fusionStop (settleEffects (abandonChain s)))) :=
    (Only.setFus _).comp ((Only.setObs _).trans (rnnRestart_only _))
  have hrest : Only [.acq, .grp, .saf, .out] (obsStop (fusionStop (settleEffects (abandonChain s)))) (tilesStop s) :=
    ((dropOwnership_only _).comp (rs := [.grp, .saf, .out]) (applyAll_only _)).comp (Only.setAcq _)
  have hlater := hobs.comp (rs := [.fus, .obs, .acq, .grp, .saf, .out]) hrest
  refine ⟨?_, q, ?_⟩
  · exact ((hlater.2 .pwr (by decide)).trans (hparts.2 .pwr (by decide))).trans (hchain.2 .pwr (by decide))
  · rw [show (tilesStop s).time = _ from hlater.2 .time (by decide), htime, show (abandonChain s).time = s.time from hchain.2 .time (by decide)]

theorem enterSleep_entered (s : State) : Entered .sleep s (enterSleep s) ∧ (enterSleep s).pwr.boot = s.pwr.boot ∧
    (enterSleep s).time.counting = s.time.counting := by
  obtain ⟨hpwr, q, htime⟩ := tilesStop_kept s
  have hpwr' : (enterSleep s).pwr = { (tilesStop s).pwr with state := .sleep, domains := List.replicate 25 .stopped } := rfl
  have htime' : (enterSleep s).time = (tilesStop s).time := rfl
  rw [hpwr] at hpwr'
  rw [htime] at htime'
  exact ⟨⟨(congrArg PwrState.state hpwr' :), (congrArg PwrState.entryPending hpwr' :), rfl, (congrArg TimeState.elapsed htime' :), rfl, rfl⟩,
    (congrArg PwrState.boot hpwr' :), (congrArg TimeState.counting htime' :)⟩

/-- The image is saved before DEEP SLEEP (R521, R522). -/
def imageSaved (s : State) : State :=
  let u := copyEphemeris s
  { u with pwr := { u.pwr with retention := some (retentionImage u), oldPeriod := u.grid.period, fwBuild := 0 } }

theorem enterDeep_entered (s : State) : Entered .deepSleep s (enterDeep s) ∧ (enterDeep s).time.counting = false ∧
    (enterDeep s).pwr.retention.isSome = true ∧ (enterDeep s).pwr.boot = bootAfter .system s.pwr.boot := by
  have hfw := fwStop_stopped .system (imageSaved s)
  have hpwr : (enterDeep s).pwr = { (systemStop (fwStop .system (imageSaved s))).pwr with
      state := .deepSleep, domains := List.replicate 25 .stopped } := rfl
  rw [(systemStop_stopped _).pwr, hfw.pwr] at hpwr
  have hctl : (enterDeep s).ctl = (fwStop .system (imageSaved s)).ctl := rfl
  exact ⟨⟨rfl, (congrArg PwrState.entryPending hpwr :), rfl, rfl, hctl.trans hfw.ctl, rfl⟩, rfl,
    (congrArg (fun p : PwrState => p.retention.isSome) hpwr :), (congrArg PwrState.boot hpwr :)⟩

theorem enterOff_entered (s : State) : Entered .off s (enterOff s) ∧ (enterOff s).pwr.boot = .inReset .powerOn ∧
    (enterOff s).pwr.pwrReq = false ∧ (enterOff s).out.head? = some (.pin "PWR_REQ" false) := by
  have hfw := fwStop_stopped .powerOn s
  have hpending : (enterOff s).pwr.entryPending = (fwStop .powerOn s).pwr.entryPending := rfl
  rw [hfw.pwr] at hpending
  have hctl : (enterOff s).ctl = (fwStop .powerOn s).ctl := rfl
  have htime : (enterOff s).time.elapsed = (fwStop .powerOn s).time.elapsed := rfl
  exact ⟨⟨rfl, hpending, rfl, htime.trans hfw.elapsed, hctl.trans hfw.ctl, rfl⟩, rfl, rfl, rfl⟩

/-- An entry that is due is made. -/
theorem powerStateEntry_row {s : State} {x : PState} {t0 : Nat} {b : Bool} (hpending : s.pwr.entryPending = some (x, t0, b))
    (hawake : awake s = true) (hready : entryReady s = true) (hin : s.time.elapsed ≤ t0 + ms 1000) :
    exec .powerStateEntry s = .next (enterPower x b (elapseTo (if b then t0 else t0 + ms 1) s)) := by
  have hdue : (elapseTo (if b then t0 else t0 + ms 1) s).time.elapsed ≤ t0 + ms 1000 := by
    refine elapsed_elapseTo_le hin ?_
    split <;> simp only [ms] <;> omega
  show execPowerStateEntry s = _
  simp only [execPowerStateEntry, hpending, hawake, entryReady_elapseTo, hready, decide_eq_true hdue, Bool.and_self, if_true]

theorem powerStateEntry_spec {s : State} {x : PState} {t0 : Nat} {b : Bool} (hpending : s.pwr.entryPending = some (x, t0, b))
    (hx : x = .sleep ∨ x = .deepSleep ∨ x = .off) (hawake : awake s = true) (hready : entryReady s = true) (hin : s.time.elapsed ≤ t0 + ms 1000) :
    ∃ t : State, exec .powerStateEntry s = .next t ∧ t.pwr.state = x ∧ t.pwr.entryPending = none ∧
      t.pwr.domains = List.replicate 25 .stopped ∧ t0 ≤ t.time.elapsed ∧ (b = false → t0 + ms 1 ≤ t.time.elapsed) ∧ t.ctl = ctlReset ∧
      t.slv.structs = [] ∧ (x = .sleep → fwRunning t = true ∧ t.time.counting = s.time.counting) ∧
      (x = .deepSleep → t.time.counting = false ∧ t.pwr.retention.isSome ∧ t.pwr.boot = .inReset .system) ∧
      (x = .off → t.pwr.boot = .inReset .powerOn ∧ t.pwr.pwrReq = false ∧ t.out.head? = some (.pin "PWR_REQ" false)) := by
  let s1 := elapseTo (if b then t0 else t0 + ms 1) s
  let u := entering b s1
  obtain ⟨hnone, hboot, htime⟩ := entering_kept b s1
  have hrunning : u.pwr.boot = .running := hboot.trans (running_of_awake hawake)
  have hlate : (if b then t0 else t0 + ms 1) ≤ s1.time.elapsed := le_elapsed_elapseTo _ s
  have hcommon : ∀ t, Entered x u t → t.pwr.state = x ∧ t.pwr.entryPending = none ∧ t.pwr.domains = List.replicate 25 .stopped ∧
      t0 ≤ t.time.elapsed ∧ (b = false → t0 + ms 1 ≤ t.time.elapsed) ∧ t.ctl = ctlReset ∧ t.slv.structs = [] := by
    intro t ⟨hstate, hpend, hdomains, helapsed, hctl, hstructs⟩
    have hdue : (if b then t0 else t0 + ms 1) ≤ t.time.elapsed := by
      rw [helapsed, htime]
      exact hlate
    refine ⟨hstate, hpend.trans hnone, hdomains, ?_, fun hb => ?_, hctl, hstructs⟩
    · exact le_trans (by split <;> omega) hdue
    · simpa [hb] using hdue
  have hexec := powerStateEntry_row hpending hawake hready hin
  obtain rfl | rfl | rfl := hx
  · obtain ⟨hentered, hkept, hcount⟩ := enterSleep_entered u
    obtain ⟨h1, h2, h3, h4, h5, h6, h7⟩ := hcommon _ hentered
    refine ⟨_, hexec.trans (congrArg _ (enterPower_eq b s1).1), h1, h2, h3, h4, h5, h6, h7, fun _ => ⟨?_, ?_⟩, nofun, nofun⟩
    · rw [fwRunning, hkept, hrunning]
      rfl
    · rw [hcount, htime]
      exact elapseTo_counting _ s
  · obtain ⟨hentered, hcount, hretained, hreset⟩ := enterDeep_entered u
    obtain ⟨h1, h2, h3, h4, h5, h6, h7⟩ := hcommon _ hentered
    refine ⟨_, hexec.trans (congrArg _ (enterPower_eq b s1).2.1), h1, h2, h3, h4, h5, h6, h7, nofun, fun _ => ⟨hcount, hretained, ?_⟩, nofun⟩
    rw [hreset, hrunning]
    rfl
  · obtain ⟨hentered, hoff⟩ := enterOff_entered u
    obtain ⟨h1, h2, h3, h4, h5, h6, h7⟩ := hcommon _ hentered
    exact ⟨_, hexec.trans (congrArg _ (enterPower_eq b s1).2.2), h1, h2, h3, h4, h5, h6, h7, nofun, nofun, fun _ => hoff⟩

/-! Entries asked for and given up (R517, R541). -/

theorem powerStateEntry_idle {s : State} (h : s.pwr.entryPending = none ∨ awake s = false ∨ entryReady s = false) :
    exec .powerStateEntry s = .next s := by
  show execPowerStateEntry s = .next s
  unfold execPowerStateEntry
  split
  · next st t sched hpending =>
    obtain hnone | hasleep | hbusy := h
    · cases hnone.symm.trans hpending
    · simp only [hasleep, Bool.false_and, Bool.false_eq_true, if_false]
    · simp only [entryReady_elapseTo, hbusy, Bool.and_false, Bool.false_and, Bool.false_eq_true, if_false]
  · rfl

theorem pwrEntryAbandoned_row {s : State} {e : PState × Nat × Bool} (hpending : s.pwr.entryPending = some e) :
    ∃ t : State, exec .pwrEntryAbandoned s = .next t ∧ t.pwr.entryPending = none ∧ t.pwr.wakePend = 0 ∧ e.2.1 + ms 1000 ≤ t.time.elapsed ∧
      t.pwr.state = s.pwr.state ∧ Only [.time, .evt, .pwr] s t := by
  let s1 := elapseTo (e.2.1 + ms 1000) s
  have helapse : Only [.time, .evt] s s1 := elapseTo_only _ s
  have hexec : exec .pwrEntryAbandoned s = .next (record .pwrEntryAbandoned [] { s1 with pwr := { s1.pwr with entryPending := none, wakePend := 0 } }) := by
    show execPwrEntryAbandoned s = _
    simp only [execPwrEntryAbandoned, hpending]
    rfl
  have hrecord := record_only .pwrEntryAbandoned [] { s1 with pwr := { s1.pwr with entryPending := none, wakePend := 0 } }
  have hpwr := hrecord.2 .pwr (by decide)
  refine ⟨_, hexec, (congrArg PwrState.entryPending hpwr :), (congrArg PwrState.wakePend hpwr :), ?_, ?_,
    helapse.comp ((Only.setPwr _).comp (rs := [.evt, .pwr]) hrecord)⟩
  · rw [show (record _ _ _).time = s1.time from hrecord.2 .time (by decide)]
    exact le_elapsed_elapseTo _ s
  · exact (congrArg PwrState.state hpwr :).trans (congrArg PwrState.state (helapse.2 .pwr (by decide)) :)

theorem pwrEntryAbandoned_idle {s : State} (h : s.pwr.entryPending = none) : exec .pwrEntryAbandoned s = .next s := by
  show execPwrEntryAbandoned s = .next s
  simp only [execPwrEntryAbandoned, h]

/-- Where the counter reaches the schedule's time of day (R541). -/
def schedAt (s : State) : Nat :=
  s.time.total + (pNat s 0x0B05 * 10 ^ 9 + 86400 * 10 ^ 9 - s.time.total % (86400 * 10 ^ 9)) % (86400 * 10 ^ 9)

theorem pwrSchedEnter_row {s : State} (hawake : awake s = true) (hstate : pNat s 0x0B04 ≠ 0) (htime : timeValid s = true)
    (hfree : s.pwr.entryPending = none) : exec .pwrSchedEnter s = .next
      (if (countTo (schedAt s) s).ctl.mode ≠ 0 ∨ anyReleased (countTo (schedAt s) s) then record .pwrSchedSkipped [] (countTo (schedAt s) s)
        else { countTo (schedAt s) s with pwr := { (countTo (schedAt s) s).pwr with
          entryPending := some (stateOf (pNat s 0x0B04), (countTo (schedAt s) s).time.elapsed, true) } }) := by
  show execPwrSchedEnter s = _
  unfold execPwrSchedEnter
  extract_lets st day s1
  rw [if_neg]
  · rfl
  · simpa [hawake, htime, hfree] using hstate

theorem pwrSchedEnter_spec {s : State} (hawake : awake s = true) (hstate : pNat s 0x0B04 ≠ 0) (htime : timeValid s = true)
    (hfree : s.pwr.entryPending = none) : ∃ t : State, exec .pwrSchedEnter s = .next t ∧ t.pwr.state = s.pwr.state ∧
      (s.ctl.mode = 0 ∧ anyReleased s = false → t.pwr.entryPending = some (stateOf (pNat s 0x0B04), t.time.elapsed, true)) ∧
      (s.ctl.mode ≠ 0 ∨ anyReleased s = true → t.pwr.entryPending = none) ∧ Only [.time, .evt, .pwr] s t := by
  have hexec := pwrSchedEnter_row hawake hstate htime hfree
  generalize countTo (schedAt s) s = s1, countTo_only (schedAt s) s = hcount at hexec
  have hctl : s1.ctl = s.ctl := hcount.2 .ctl (by decide)
  have hbrakes : anyReleased s1 = anyReleased s := by rw [anyReleased, show s1.saf = s.saf from hcount.2 .saf (by decide), anyReleased]
  have hpwr : s1.pwr = s.pwr := hcount.2 .pwr (by decide)
  rw [hctl, hbrakes] at hexec
  refine ⟨_, hexec, ?_⟩
  by_cases hskip : s.ctl.mode ≠ 0 ∨ anyReleased s = true
  · rw [if_pos hskip]
    have hrecord := record_only .pwrSchedSkipped [] s1
    have hkept : (record .pwrSchedSkipped [] s1).pwr = s.pwr := (hrecord.2 .pwr (by decide)).trans hpwr
    refine ⟨congrArg PwrState.state hkept, fun ⟨hmode, happlied⟩ => ?_, fun _ => (congrArg PwrState.entryPending hkept).trans hfree,
      hcount.comp hrecord⟩
    rw [happlied] at hskip
    exact absurd hskip (by simp [hmode])
  · rw [if_neg hskip]
    exact ⟨(congrArg PwrState.state hpwr :), fun _ => rfl, fun h => absurd h hskip, hcount.comp (Only.setPwr _)⟩

theorem pwrSchedEnter_idle {s : State} (h : awake s = false ∨ pNat s 0x0B04 = 0 ∨ timeValid s = false ∨ s.pwr.entryPending.isSome = true) :
    exec .pwrSchedEnter s = .next s := by
  show execPwrSchedEnter s = .next s
  unfold execPwrSchedEnter
  extract_lets st day s1
  rw [if_pos]
  obtain h | h | h | h := h
  · simp only [h, Bool.not_false, Bool.true_or]
  · simp only [show st = 0 from h, decide_true, Bool.or_true, Bool.true_or]
  · simp only [h, Bool.not_false, Bool.or_true, Bool.true_or]
  · simp only [h, Bool.or_true]

/-! Wake sources (R518). -/

/-- The first wake source of a state is noted. -/
def woken (src : Nat) (s : State) : State := { s with pwr := { s.pwr with wakePend := src } }

section
variable {s : State} {src : Nat} {states : List PState}

theorem wakeFrom_takes (hstate : states.contains s.pwr.state = true) (hfirst : s.pwr.wakePend = 0) : wakeFrom src states s = woken src s := by
  simp only [wakeFrom, hstate, hfirst, Bool.true_or, beq_self_eq_true, Bool.and_self, if_true]
  rfl

theorem wakeFrom_later (h : s.pwr.wakePend ≠ 0) : wakeFrom src states s = s := by
  simp only [wakeFrom, beq_false_of_ne h, Bool.and_false, Bool.false_eq_true, if_false]

theorem wakeFrom_other (hstate : states.contains s.pwr.state = false) (hnone : s.pwr.entryPending = none) : wakeFrom src states s = s := by
  simp only [wakeFrom, hstate, hnone, Bool.or_self, Bool.false_and, Bool.false_eq_true, if_false]

theorem ringWake_later (h : s.pwr.wakePend ≠ 0) : ringWake s = s := by
  unfold ringWake
  split
  · exact wakeFrom_later h
  · rfl

theorem ringWake_running (h : s.pwr.state = .run ∨ s.pwr.state = .idle) : ringWake s = s := by
  rcases h with h | h <;> simp [ringWake, h]

end

/-- A wake datagram is one on a port that may wake, with the wake word (R518). -/
theorem wakeFrame_row (b : Bool) (d : List Byte) (s : State) : exec (.wakeFrame b d) s = .next
    (if bitOf (pNat s 0x0B03) (b2n b) && fieldU d 0 2 == 0x564B && decide (2 ≤ d.length) && !portDown (.eth b 0 0) s then wakeFrom 3 [.sleep] s
      else s) := rfl

theorem wakeFrame_idle {b : Bool} {d : List Byte} {s : State} (h : wakeFrom 3 [.sleep] s = s) : exec (.wakeFrame b d) s = .next s := by
  rw [wakeFrame_row, h, ite_self]

theorem wakeFrame_barred {b : Bool} {d : List Byte} {s : State}
    (h : bitOf (pNat s 0x0B03) (b2n b) = false ∨ fieldU d 0 2 ≠ 0x564B ∨ portDown (.eth b 0 0) s = true) : exec (.wakeFrame b d) s = .next s := by
  rw [wakeFrame_row, if_neg]
  obtain h | h | h := h
  · simp only [h, Bool.false_and, Bool.false_eq_true, not_false_iff]
  · simp only [beq_false_of_ne h, Bool.and_false, Bool.false_and, Bool.false_eq_true, not_false_iff]
  · simp only [h, Bool.not_true, Bool.and_false, Bool.false_eq_true, not_false_iff]

theorem pwrSchedWake_row {s : State} {t0 : Nat} (hat : s.pwr.schedWakeAt = some t0) (hstate : s.pwr.state = .sleep ∨ s.pwr.state = .deepSleep)
    (hfirst : s.pwr.wakePend = 0) : ∃ t : State, exec .pwrSchedWake s = .next t ∧ t.pwr = { s.pwr with wakePend := 4 } ∧ t0 ≤ t.time.elapsed ∧
      Only [.time, .evt, .pwr] s t := by
  have helapse := elapseTo_only t0 s
  have hpwr : (elapseTo t0 s).pwr = s.pwr := helapse.2 .pwr (by decide)
  have hwoken : wakeFrom 4 [.sleep, .deepSleep] (elapseTo t0 s) = woken 4 (elapseTo t0 s) := by
    refine wakeFrom_takes ?_ (by rw [hpwr, hfirst])
    rw [hpwr]
    rcases hstate with h | h <;> rw [h] <;> rfl
  have hexec : exec .pwrSchedWake s = .next (woken 4 (elapseTo t0 s)) := by
    show execPwrSchedWake s = _
    simp only [execPwrSchedWake, hat, hstate, if_true, hwoken]
  refine ⟨_, hexec, ?_, le_elapsed_elapseTo t0 s, helapse.comp (Only.setPwr _)⟩
  rw [woken, hpwr]

theorem pwrSchedWake_idle {s : State} (h : s.pwr.schedWakeAt = none ∨ s.pwr.state ≠ .sleep ∧ s.pwr.state ≠ .deepSleep) :
    exec .pwrSchedWake s = .next s := by
  show execPwrSchedWake s = .next s
  unfold execPwrSchedWake
  split
  · next t hat =>
    obtain hnone | ⟨hsleep, hdeep⟩ := h
    · cases hnone.symm.trans hat
    · rw [if_neg (not_or_intro hsleep hdeep)]
  · rfl

/-! Exits (R519). -/

/-- SLEEP is left: the state of the power controller before the blocks start again. -/
def sleepLeft (s : State) : PwrState :=
  { s.pwr with state := .run, domains := (List.range 25).map fun i => if i = 17 then .awake else .stopped, fwAt := s.time.elapsed,
               wdtServed := s.time.elapsed, lastExit := 1, lastWake := s.pwr.wakePend, wakePend := 0, schedWakeAt := none }

theorem exitSleep_pwr (s : State) : (exitSleep s).pwr = sleepLeft s := by
  unfold exitSleep
  extract_lets gone shift d _ _ s1 g _ s2
  have hstart : Only [.gnss, .out] s1 g := gnssStart_only s1
  have hbus : Only [.bus] s2 (canWake s2) := Only.setBus _
  have hreads : Only [.bus, .evt, .out] s2 (bootReads (canWake s2)) := hbus.comp (bootReads_only _)
  have hengines : Only [.obs, .slv] (bootReads (canWake s2)) (rnnRestart (ownStructs (bootReads (canWake s2)))) :=
    (ownStructs_only _).comp (rnnRestart_only _)
  have hrole := resolveRole_only (rnnRestart (ownStructs (bootReads (canWake s2))))
  have hlast := record_only .pwrExit (be 1 s.pwr.wakePend) (resolveRole (rnnRestart (ownStructs (bootReads (canWake s2)))))
  have h2 : s2.pwr = s1.pwr := hstart.2 .pwr (by decide)
  exact ((hlast.2 .pwr (by decide)).trans (hrole.2 .pwr (by decide))).trans
    (((hengines.2 .pwr (by decide)).trans (hreads.2 .pwr (by decide))).trans h2)

theorem exitDeep_spec (b : Bool) (s : State) : (exitDeep b s).pwr.state = .run ∧ (exitDeep b s).pwr.lastExit = 2 ∧
    (exitDeep b s).pwr.lastWake = s.pwr.wakePend ∧ (exitDeep b s).pwr.wakePend = 0 ∧ (exitDeep b s).pwr.boot = .inReset .system ∧
    (exitDeep b s).pwr.deepExit = true ∧
    (b = false → (exitDeep b s).pwr.retention = none ∧ (exitDeep b s).pwr.retentionLost = true ∧ (exitDeep b s).cfg = s.cfg) ∧
    Only [.cfg, .pwr, .grp] s (exitDeep b s) := by
  unfold exitDeep
  extract_lets img ok _ p
  split
  · next hok =>
    refine ⟨rfl, rfl, rfl, rfl, rfl, rfl, fun hb => ?_, ?_⟩
    · simp [ok, hb] at hok
    · apply Only.fields <;> simp
  · exact ⟨rfl, rfl, rfl, rfl, rfl, rfl, fun _ => ⟨rfl, rfl, rfl⟩, (Only.setPwr _).mono (by decide)⟩

theorem exitOff_spec (s : State) : ResetBy .por s (exitOff s) ∧ (exitOff s).pwr.lastExit = 3 ∧ (exitOff s).pwr.lastWake = s.pwr.wakePend := by
  have hreset : ResetBy .por s (assertReset .por (emit (.pin "PWR_REQ" true) s)) := (assertReset_resetBy .por _).of_before rfl rfl
  unfold exitOff
  extract_lets s1
  have hrecord := record_only .pwrExit (be 1 s.pwr.wakePend) { s1 with pwr := { s1.pwr with lastExit := 3, lastWake := s.pwr.wakePend } }
  have hpwr := hrecord.2 .pwr (by decide)
  refine ⟨?_, (congrArg PwrState.lastExit hpwr :), (congrArg PwrState.lastWake hpwr :)⟩
  unfold ResetBy
  rw [show (record _ _ _).pwr = _ from hpwr, show (record _ _ _).host = s1.host from hrecord.2 .host (by decide),
    show (record _ _ _).cfg = s1.cfg from hrecord.2 .cfg (by decide), show (record _ _ _).saf = s1.saf from hrecord.2 .saf (by decide)]
  exact hreset

theorem powerStateExit_idle {s : State} (b : Bool) (h : s.pwr.wakePend = 0 ∨ s.pwr.state = .run ∨ s.pwr.state = .idle) :
    exec (.powerStateExit b) s = .next s := by
  show execPowerStateExit b s = _
  unfold execPowerStateExit
  rcases h with h | h | h <;> simp [h]

/-- Settles O59: the entry, what asks for one and what ends it, each by its own lemma. -/
theorem powerStateRows : Obligations.PowerStateRows := by
  intro s
  refine ⟨fun x t0 b => powerStateEntry_spec, powerStateEntry_idle, fun e => pwrEntryAbandoned_row, pwrEntryAbandoned_idle, pwrSchedEnter_spec,
    pwrSchedEnter_idle, fun t0 => pwrSchedWake_row, pwrSchedWake_idle, fun hstate hfirst => congrArg Host.Outcome.next (wakeFrom_takes ?_ hfirst),
    fun hstate hfirst => ?_, fun hlater => ⟨?_, ?_, fun b d => ?_⟩, fun hnone hstate => ⟨?_, ?_, fun b d => ?_⟩,
    fun b d hstate hfirst hport hword hlen hup => ?_, fun b d => wakeFrame_barred, powerStateExit_idle, fun b hwake hstate => ?_,
    fun b hwake hstate => ?_, fun b hwake hstate => ?_⟩
  · rcases hstate with h | h | h <;> rw [h] <;> rfl
  · show Host.Outcome.next (ringWake s) = _
    rw [ringWake, if_pos hstate]
    refine congrArg Host.Outcome.next (wakeFrom_takes ?_ hfirst)
    rcases hstate with h | h <;> rw [h] <;> rfl
  · exact congrArg Host.Outcome.next (wakeFrom_later hlater)
  · exact congrArg Host.Outcome.next (ringWake_later hlater)
  · exact wakeFrame_idle (wakeFrom_later hlater)
  · exact congrArg Host.Outcome.next (wakeFrom_other (by rcases hstate with h | h <;> rw [h] <;> rfl) hnone)
  · exact congrArg Host.Outcome.next (ringWake_running hstate)
  · exact wakeFrame_idle (wakeFrom_other (by rcases hstate with h | h <;> rw [h] <;> rfl) hnone)
  · rw [wakeFrame_row, if_pos, wakeFrom_takes (by rw [hstate]; rfl) hfirst, woken]
    simp only [hport, hword, decide_eq_true hlen, hup, beq_self_eq_true, Bool.not_false, Bool.and_self]
  · refine ⟨exitSleep s, ?_, ?_⟩
    · show execPowerStateExit b s = _
      simp only [execPowerStateExit, hwake, hstate, if_false]
    · rw [exitSleep_pwr]
      exact ⟨rfl, rfl, rfl, rfl, rfl, rfl⟩
  · refine ⟨exitDeep b s, ?_, exitDeep_spec b s⟩
    show execPowerStateExit b s = _
    simp only [execPowerStateExit, hwake, hstate, if_false]
  · refine ⟨exitOff s, ?_, exitOff_spec s⟩
    show execPowerStateExit b s = _
    simp only [execPowerStateExit, hwake, hstate, if_false]

end Sys2Proof.Machine
end

section
/-! SUPPORT. The counter (R122): what a tick leaves, and the state after a power-on reset (R123, R127). -/

namespace Sys2Proof.Machine

set_option Elab.async false

/-! What is read of the configuration. -/

theorem pNat_of_cfg {s t : State} (h : t.cfg = s.cfg) (id : Nat) : pNat t id = pNat s id := by
  rw [pNat, pVal, h, pNat, pVal]

/-! The counter. -/

theorem TimeState.units_setUnits (t : TimeState) {u : Nat} (h : u / 2 ^ 32 / 10 ^ 9 < 2 ^ 64) : (t.setUnits u).units = u := by
  simp only [TimeState.units, TimeState.setUnits, Nat.mod_eq_of_lt h]
  omega

theorem passTicks_only (n : Nat) (s : State) : Only [.time, .evt] s (passTicks n s) := by
  apply Only.fields <;> simp

theorem passTicks_units {n : Nat} {s : State} (hcount : s.time.counting = true)
    (hroom : (s.time.units + n * s.time.incr.toNat) / 2 ^ 32 / 10 ^ 9 < 2 ^ 64) :
    (passTicks n s).time.units = s.time.units + n * s.time.incr.toNat := by
  simp only [passTicks, hcount, if_true]
  exact TimeState.units_setUnits s.time hroom

theorem passTicks_stopped {s : State} (n : Nat) (hstop : s.time.counting = false) :
    (passTicks n s).time = { s.time with elapsed := s.time.elapsed + 4 * n } := by
  simp only [passTicks, hstop, Bool.false_eq_true, if_false]

/-- While ticks pass, the counter and elapsed time go on and the rest of the time base stands. -/
theorem passTicks_time (n : Nat) (s : State) : (passTicks n s).time = { s.time with
    sec := (passTicks n s).time.sec, ns := (passTicks n s).time.ns, frac := (passTicks n s).time.frac, elapsed := (passTicks n s).time.elapsed } := by
  simp only [passTicks, TimeState.setUnits]
  split <;> rfl

theorem countTo_time (n : Nat) (s : State) : (countTo n s).time = { s.time with
    sec := (countTo n s).time.sec, ns := (countTo n s).time.ns, frac := (countTo n s).time.frac, elapsed := (countTo n s).time.elapsed } :=
  passTicks_time _ s

theorem step_of_empty {s : State} (h : s.pending = []) : step s = .next (passTicks 1 s) := by
  rw [step, h]

/-- Settles O2: the tick of an empty queue is `passTicks 1`. -/
theorem idleTick : Obligations.IdleTick := by
  intro s hempty
  refine ⟨_, step_of_empty hempty, passTicks_only 1 s, rfl, fun hcount hroom => ?_, passTicks_stopped 1, rfl⟩
  rw [passTicks_units hcount (by rwa [Nat.one_mul]), Nat.one_mul]

/-! The state after a power-on reset. -/

theorem openSlot_reset (n : Nat) : openSlot State.reset n = none := by
  refine Option.filter_eq_none_iff.mpr fun x hx => ?_
  have hmem : x ∈ List.replicate 8 sessionReset := by
    unfold slotNo at hx
    split at hx
    · exact absurd hx nofun
    · exact List.mem_of_getElem? hx
  rw [List.eq_of_mem_replicate hmem]
  exact Bool.false_ne_true

theorem not_stored_reset {st : MtrStore} : ¬(State.reset.mtr.store = some st ∨ State.reset.mtr.older = some st) := by
  rintro (h | h) <;> exact absurd h nofun

/-- The island has logged nothing and stored nothing, and SEAL is 0. -/
theorem sealKept_atReset : SealKept State.reset :=
  ⟨fun _ h => absurd h not_stored_reset, fun _ h => absurd (.inl h) not_stored_reset, fun _ => rfl, Nat.zero_le _, le_rfl⟩

/-- Settles O5: every field stands as `State.reset` writes it; the slots and the island by their own lemmas. -/
theorem resetState : Obligations.ResetState := by
  refine ⟨rfl, rfl, rfl, openSlot_reset, rfl, rfl, rfl, rfl, rfl, rfl, rfl, rfl, rfl, rfl, rfl, fun c hc => ?_, rfl, sealKept_atReset⟩
  rw [List.eq_of_mem_replicate (show c ∈ List.replicate 16 acqChanReset from hc)]
  rfl

end Sys2Proof.Machine
end

section
/-! SUPPORT. IEEE 1588 messages (R137 to R144): the exchange of a port, the master heard, and what is sent. -/

namespace Sys2Proof.Machine

set_option Elab.async false

/-! What each operation leaves. -/

theorem modEx_only (p : Nat) (f : PtpEx → PtpEx) (s : State) : Only [.time] s (modEx p f s) :=
  Only.setTime _

theorem exOf_modEx_same {p : Nat} {s : State} (h : p < s.time.ptpEx.length) (f : PtpEx → PtpEx) : exOf (modEx p f s) p = f (exOf s p) :=
  (at_modAt _ _ _ _ _).trans (if_pos ⟨rfl, h⟩)

theorem getElem?_ptpEx {p : Nat} {s : State} (h : p < s.time.ptpEx.length) : s.time.ptpEx[p]? = some (exOf s p) := by
  rw [exOf, at_, List.getD_eq_getElem?_getD, List.getElem?_eq_getElem h, Option.getD_some]

theorem publish_only (id : Nat) (v : Value) (s : State) : Only [.sig] s (publish id v s) :=
  Only.setSig _

theorem publish_newest (id : Nat) (v : Value) (s : State) :
    (keyGet id (publish id v s).sig.tab).bind List.head? = some ⟨v, false, s.time.total, none, none, none⟩ := by
  rw [publish, publishAs, keyGet_keyPut_same]
  rfl

theorem queueStamp_cases (x : TxStamp) (s : State) : queueStamp x s = s ∨
    ∃ q o e n, queueStamp x s = { s with time := { s.time with txQueue := q, txOverflow := o, txEpisode := e, txDiscarded := n } } := by
  unfold queueStamp
  split
  · exact .inl rfl
  · split
    · exact .inr ⟨_, s.time.txOverflow, s.time.txEpisode, s.time.txDiscarded, rfl⟩
    · exact .inr ⟨s.time.txQueue, _, _, _, rfl⟩

theorem queueStamp_only (x : TxStamp) (s : State) : Only [.time] s (queueStamp x s) := by
  obtain h | ⟨q, o, e, n, h⟩ := queueStamp_cases x s <;> rw [h]
  · exact Only.refl
  · exact Only.setTime _

theorem queueStamp_elapsed (x : TxStamp) (s : State) : (queueStamp x s).time.elapsed = s.time.elapsed := by
  obtain h | ⟨q, o, e, n, h⟩ := queueStamp_cases x s <;> rw [h]

/-! Messages received on an Ethernet port (R131, R137, R139). -/

/-- A port that is enabled takes the message: its domain, its transport and its sender are the configured ones. -/
structure Heeded (port : Nat) (m : PtpMsg) (s : State) : Prop where
  on : ptpOn s port = true
  domain : m.domain = pNat s 0x0512
  transport : m.udp = (pNat s 0x0514 == 0)
  sender : hostAllows m s = true

/-- A Sync begins an exchange: it is received at `t2`, and in two steps t1 is still to come. -/
def PtpEx.begun (m : PtpMsg) (t2 : Int) (x : PtpEx) : PtpEx :=
  { x with syncSeq := m.seqId, corr := corrQ m, t2 := t2, t1 := if m.twoStep then none else some (msgQ m) }

section
variable {port : Nat} {m : PtpMsg} {s : State}

theorem Heeded.gate (h : Heeded port m s) :
    (!ptpOn s port || m.domain != pNat s 0x0512 || m.udp != (pNat s 0x0514 == 0) || !hostAllows m s) = false := by
  simp only [h.on, h.sender, h.domain, h.transport, bne_self_eq_false, Bool.not_true, Bool.or_self]

theorem syncDone_waiting (h : (exOf s port).t1 = none) : syncDone port s = s := by
  simp only [syncDone, h]

theorem ethPtp_sync (h : Heeded port m s) (htyp : m.typ = 0) (hslave : portState s port = .slave) {x : PtpMaster}
    (hheard : heardNow s port = some x) (hfrom : x.sender = m.sender) :
    ethPtp port m s = syncDone port (modEx port (PtpEx.begun m (portStamp s port false)) s) := by
  simp only [ethPtp, h.gate, htyp, hslave, hheard, hfrom, Option.map_some, Option.getD_some, beq_self_eq_true, Bool.and_self, Bool.not_true,
    Bool.false_eq_true, if_false]
  rfl

theorem ethPtp_sync_spec (h : Heeded port m s) (hlen : port < s.time.ptpEx.length) (htyp : m.typ = 0) (htwo : m.twoStep = true)
    (hslave : portState s port = .slave) {x : PtpMaster} (hheard : heardNow s port = some x) (hfrom : x.sender = m.sender) :
    Only [.time] s (ethPtp port m s) ∧ ∃ y : PtpEx, (ethPtp port m s).time.ptpEx[port]? = some y ∧ y.syncSeq = m.seqId ∧ y.t1 = none ∧
      y.t2 = portStamp s port false := by
  have hex : exOf (modEx port (PtpEx.begun m (portStamp s port false)) s) port = (exOf s port).begun m (portStamp s port false) :=
    exOf_modEx_same hlen _
  have hwaits : ((exOf s port).begun m (portStamp s port false)).t1 = none := if_pos htwo
  rw [ethPtp_sync h htyp hslave hheard hfrom, syncDone_waiting (by rw [hex, hwaits])]
  refine ⟨modEx_only _ _ _, _, getElem?_ptpEx (by rwa [modEx, length_modAt]), ?_⟩
  rw [hex]
  exact ⟨rfl, hwaits, rfl⟩

theorem ethPtp_delayReq (h : Heeded port m s) (htyp : m.typ = 1) (hmaster : portState s port = .master) (he2e : pNat s 0x0511 = 0) :
    ethPtp port m s = emit (.ptp port 9 (ptpBytes m.seqId (some (portStamp s port false)) (m.corr - fracCorr (portStamp s port false)) [])) s := by
  simp only [ethPtp, h.gate, htyp, hmaster, he2e, beq_self_eq_true, Bool.and_self, Bool.false_eq_true, if_false, if_true]

theorem ethPtp_announce (h : Heeded port m s) (htyp : m.typ = 11) : ethPtp port m s = hearAnnounce port m s := by
  simp only [ethPtp, h.gate, htyp, Bool.false_eq_true, if_false]

/-- The sender of an Announce is the master heard, at elapsed time `e`. -/
def PtpEx.hearing (m : PtpMsg) (e : Nat) (x : PtpEx) : PtpEx := { x with heard := some ⟨m.rank, m.sender, e⟩ }

/-- The first master heard is kept; on the slave port its UTC offset may be published. -/
theorem hearAnnounce_first (h : heardNow s port = none) :
    let s1 := modEx port (PtpEx.hearing m s.time.elapsed) s
    hearAnnounce port m s = s1 ∨ ∃ u, hearAnnounce port m s = publish 0x0031 (vI32 u) { s1 with time := { s1.time with utcOffset := u } } := by
  simp only [hearAnnounce, h, if_true]
  split
  · exact .inr ⟨_, rfl⟩
  · exact .inl rfl

theorem hearAnnounce_first_spec (h : heardNow s port = none) (hlen : port < s.time.ptpEx.length) :
    Only [.time, .sig] s (hearAnnounce port m s) ∧
      (exOf (hearAnnounce port m s) port).heard = some ⟨m.rank, m.sender, s.time.elapsed⟩ := by
  have hex := exOf_modEx_same hlen (PtpEx.hearing m s.time.elapsed)
  have hmod := modEx_only port (PtpEx.hearing m s.time.elapsed) s
  obtain heq | ⟨u, heq⟩ := hearAnnounce_first (m := m) h <;> rw [heq]
  · exact ⟨hmod.mono (by decide), congrArg PtpEx.heard hex⟩
  · exact ⟨(hmod.trans (Only.setTime _)).comp (publish_only _ _ _), congrArg PtpEx.heard hex⟩

end

theorem ptpMessageRx_ethernet {port : Fin 4} {s : State} (m : PtpMsg) (hawake : awake s = true) (hport : port.val < 2) :
    exec (.ptpMessageRx port m) s = .next (ethPtp port.val m s) := by
  show execPtpMessageRx port m s = _
  simp only [execPtpMessageRx, hawake, hport, Bool.not_true, Bool.false_eq_true, if_false, if_true]

theorem ptpMessageRx_asleep {port : Fin 4} {s : State} (m : PtpMsg) (hasleep : awake s = false) : exec (.ptpMessageRx port m) s = .next s :=
  if_pos (by rw [hasleep]; rfl)

/-! Messages sent (R137, R140, R142). -/

theorem emits_only (l : List Out) (s : State) : Only [.out] s (l.foldl (fun s o => emit o s) s) :=
  Only.refl.foldl _ (fun t o => emit_only o t) l

theorem emits_out (l : List Out) (s : State) : (l.foldl (fun s o => emit o s) s).out = l.reverse ++ s.out := by
  induction l generalizing s with
  | nil => rfl
  | cons o l ih => rw [List.foldl_cons, ih, emit, List.reverse_cons, List.append_assoc, List.singleton_append]

/-- Whatever follows it up, a transmission begins with the message itself. -/
theorem txMessages_head (port typ seq : Nat) (twoStep : Bool) (t : Int) (asked : Option Int) (more : List Byte) :
    ∃ b l, txMessages port typ seq twoStep t asked more = .ptp port typ b :: l := by
  unfold txMessages
  split <;> exact ⟨_, _, rfl⟩

theorem sendEvent_spec (port typ seq : Nat) (twoStep : Bool) (asked : Option Int) (more : List Byte) (s : State) :
    (∃ b, .ptp port typ b ∈ (sendEvent port typ seq twoStep asked more s).out) ∧
      Only [.time, .out] s (sendEvent port typ seq twoStep asked more s) ∧
      (sendEvent port typ seq twoStep asked more s).time.elapsed = s.time.elapsed := by
  unfold sendEvent
  extract_lets t s1 s2
  have hsent : Only [.out] s s1 := emits_only _ _
  have hkept : Only [.time] s1 s2 := Only.ite (fun _ => modEx_only _ _ _) fun _ => Only.refl
  have helapsed : s2.time.elapsed = s1.time.elapsed := by
    unfold s2
    split <;> rfl
  obtain ⟨b, l, hhead⟩ := txMessages_head port typ seq twoStep t asked more
  have hmem : .ptp port typ b ∈ s1.out := by
    rw [show s1.out = _ from emits_out _ _, hhead]
    simp
  refine ⟨⟨b, ?_⟩, hsent.comp (hkept.trans (queueStamp_only _ _)), ?_⟩
  · rwa [show (queueStamp _ s2).out = s1.out from (hkept.trans (queueStamp_only _ _)).2 .out (by decide)]
  · rw [queueStamp_elapsed, helapsed, show s1.time = s.time from hsent.2 .time (by decide)]

/-- A message that the state of the port allows is sent: an Announce without a stamp, the others as event messages, a Pdelay_Resp to the
request that waits. -/
theorem ptpMessageTx_sends {b : Bool} {typ : Fin 5} {s : State} (q : BitVec 16) (hawake : awake s = true) (hmay : maySend s (b2n b) typ.val = true) :
    ∃ t : State, exec (.ptpMessageTx b typ q) s = .next t ∧ (∃ l, .ptp (b2n b) (if typ.val = 4 then 11 else typ.val) l ∈ t.out) ∧
      Only [.time, .out] s t := by
  have hgo : ¬(!awake s || !maySend s (b2n b) typ.val) = true := by simp [hawake, hmay]
  by_cases hann : typ.val = 4
  · refine ⟨_, (if_neg hgo).trans (if_pos hann), ?_, (emit_only _ s).mono (by decide)⟩
    rw [if_pos hann]
    exact ⟨_, List.mem_cons_self⟩
  · have hevent : ∃ (n : Nat) (two : Bool) (asked : Option Int),
        exec (.ptpMessageTx b typ q) s = .next (sendEvent (b2n b) typ.val n two asked [] s) ∨
        exec (.ptpMessageTx b typ q) s = .next (modEx (b2n b) (fun x => { x with asked := none }) (sendEvent (b2n b) typ.val n two asked [] s)) := by
      have hexec : exec (.ptpMessageTx b typ q) s = _ := (if_neg hgo).trans (if_neg hann)
      rw [hexec]
      split
      · next h3 _ => exact ⟨_, _, _, .inr (by rw [h3])⟩
      · exact ⟨_, _, _, .inl rfl⟩
    rw [if_neg hann]
    obtain ⟨n, two, asked, hplain | hanswer⟩ := hevent
    · obtain ⟨hsent, honly, -⟩ := sendEvent_spec (b2n b) typ.val n two asked [] s
      exact ⟨_, hplain, hsent, honly⟩
    · obtain ⟨hsent, honly, -⟩ := sendEvent_spec (b2n b) typ.val n two asked [] s
      exact ⟨_, hanswer, hsent, honly.comp (modEx_only _ _ _)⟩

theorem ptpMessageTx_idle {b : Bool} {typ : Fin 5} {s : State} (q : BitVec 16) (h : awake s = false ∨ maySend s (b2n b) typ.val = false) :
    exec (.ptpMessageTx b typ q) s = .next s :=
  if_pos (by rcases h with h | h <;> simp [h])

theorem cascEvent_spec (slot typ interval : Nat) (d : Bool) (more : List Byte) {s : State} (hawake : awake s = true)
    (hlink : linkUp s (b2n d) = true) :
    (∃ l, .ptp (2 + b2n d) typ l ∈ (cascEvent slot (2 + b2n d) typ interval more s).out) ∧
      Only [.time, .evt, .out] s (cascEvent slot (2 + b2n d) typ interval more s) ∧
      s.time.ptpAt.getD slot 0 + interval ≤ (cascEvent slot (2 + b2n d) typ interval more s).time.elapsed := by
  unfold cascEvent
  rw [if_neg (by simp [hawake, hlink])]
  extract_lets s1 q src s2
  have hs2 : Only [.time, .evt] s s2 := (elapseTo_only _ s).comp (Only.setTime _)
  obtain ⟨hsent, honly, helapsed⟩ := sendEvent_spec (2 + b2n d) typ q false none more s2
  refine ⟨hsent, hs2.comp honly, ?_⟩
  rw [helapsed]
  exact le_elapsed_elapseTo _ s

theorem cascEvent_asleep (slot port typ interval : Nat) (more : List Byte) {s : State} (h : awake s = false) :
    cascEvent slot port typ interval more s = s :=
  if_pos (by simp [h])

theorem ptpSyncTx_relays {d : Bool} {s : State} (h : isFollower s = true → masterPort s ≠ some (b2n d)) : exec (.ptpSyncTx d) s =
    .next (cascEvent (b2n d) (2 + b2n d) 0 62500000
      (be 2 (if isFollower s then s.time.masterStepCount else noticeCount s) ++ be 4 (errNs s)) s) :=
  if_neg (by simpa using h)

theorem ptpSyncTx_toMaster {d : Bool} {s : State} (hfol : isFollower s = true) (hport : masterPort s = some (b2n d)) :
    exec (.ptpSyncTx d) s = .next s :=
  if_pos (by simp [hfol, hport])

theorem ptpSyncTx_asleep (d : Bool) {s : State} (h : awake s = false) : exec (.ptpSyncTx d) s = .next s := by
  by_cases hfol : isFollower s = true ∧ masterPort s = some (b2n d)
  · exact ptpSyncTx_toMaster hfol.1 hfol.2
  · rw [ptpSyncTx_relays (not_and.mp hfol), cascEvent_asleep _ _ _ _ _ h]

end Sys2Proof.Machine
end

section
/-! SUPPORT. The pulse per second (R146 to R148). -/

namespace Sys2Proof.Machine

set_option Elab.async false

section
variable {s : State}

/-! PPS_OUT. -/

theorem ppsOutPulse_stopped (hstop : s.time.counting = false) : exec .ppsOutPulse s = .next s :=
  if_pos (by rw [hstop]; rfl)

theorem ppsGate_countTo (n : Nat) : ppsGate (countTo n s) = ppsGate s := by
  have hstate : (countTo n s).time.state = s.time.state := (congrArg TimeState.state (countTo_time n s)).trans rfl
  simp only [ppsGate, hstate, pNat_of_cfg (countTo_cfg n s)]

/-- The pin is off: the instant comes without a pulse. -/
theorem ppsOutPulse_off (hcount : s.time.counting = true) (hoff : s.time.ppsOn = false) :
    exec .ppsOutPulse s = .next (countTo (nextPps s) s) := by
  have hoff' : (countTo (nextPps s) s).time.ppsOn = false := (congrArg TimeState.ppsOn (countTo_time _ s)).trans hoff
  show execPpsOutPulse s = _
  simp only [execPpsOutPulse, hcount, hoff', Bool.not_true, Bool.false_and, Bool.false_eq_true, if_false]

/-- The pin is high for `w` nanoseconds from now. -/
def ppsPulsed (w : Nat) (s : State) : State :=
  emit (.pulse "PPS_OUT" w) { s with time := { s.time with ppsLast := some s.time.elapsed, ppsFall := s.time.elapsed + w } }

theorem ppsPulsed_only (w : Nat) (s : State) : Only [.time, .out] s (ppsPulsed w s) :=
  Only.comp (Only.setTime _) (emit_only _ _)

theorem ppsOutPulse_pulses (hcount : s.time.counting = true) (hon : s.time.ppsOn = true) (hgate : ppsGate s = true)
    (hfirst : s.time.ppsLast = none) : exec .ppsOutPulse s =
      .next (ppsPulsed (min (us (pNat s 0x0530)) (pulseGap (countTo (nextPps s) s) / 2)) (countTo (nextPps s) s)) := by
  have hon' : (countTo (nextPps s) s).time.ppsOn = true := (congrArg TimeState.ppsOn (countTo_time _ s)).trans hon
  have hfirst' : (countTo (nextPps s) s).time.ppsLast = none := (congrArg TimeState.ppsLast (countTo_time _ s)).trans hfirst
  show execPpsOutPulse s = _
  simp only [execPpsOutPulse, hcount, hon', hfirst', ppsGate_countTo, hgate, pNat_of_cfg (countTo_cfg _ s), Bool.not_true, Bool.not_false,
    Bool.and_self, Bool.false_eq_true, if_false, if_true, ppsPulsed]

/-! PPS_IN. -/

theorem ppsInEdge_idle {rising : Bool} (h : awake s = false ∨ rising ≠ (pNat s 0x0533 == 0)) : exec (.ppsInEdge rising) s = .next s :=
  if_pos (by rcases h with h | h <;> simp [h])

/-- An edge of the configured direction is stamped and published; one a second after the last gives a measurement. -/
theorem ppsInEdge_stamps {rising : Bool} (hawake : awake s = true) (hedge : rising = (pNat s 0x0533 == 0)) :
    ∃ t : State, exec (.ppsInEdge rising) s = .next t ∧ t.time.ppsIn = some s.time.elapsed ∧ Only [.time, .sig] s t ∧
      (keyGet 0x0030 t.sig.tab).bind List.head? = some ⟨vU64 s.time.total, false, s.time.total, none, none, none⟩ ∧
      (s.time.ppsIn = none → t.time.ppsOff = none) ∧
      (∀ l, s.time.ppsIn = some l → s.time.ppsBad = false → 999900000 ≤ s.time.elapsed - l → s.time.elapsed - l ≤ 1000100000 →
        t.time.ppsOff = some (fromSecond s.time.total)) := by
  have htaken : ¬(!awake s || rising != (pNat s 0x0533 == 0)) = true := by simp [hawake, hedge]
  refine ⟨_, if_neg htaken, rfl, (publish_only _ _ s).comp (Only.setTime _), publish_newest _ _ s,
    fun hnone => ?_, fun l hlast hgood hlo hhi => ?_⟩
  · simp [hnone]
  · simp [hlast, hgood, hlo, hhi]

end

/-- Settles O31: each message by the rule of its type, the pulses by what lets them pass. -/
theorem ptpAndPulseRows : Obligations.PtpAndPulseRows := by
  intro s
  refine ⟨fun port m hawake hport hon hdom hudp hhost hlen => ?_, fun port m => ptpMessageRx_asleep m, fun b typ q => ptpMessageTx_sends q,
    fun b typ q => ptpMessageTx_idle q, fun d hawake hlink haway => ?_, fun d => ptpSyncTx_toMaster, fun d hawake hlink => ?_,
    fun d hasleep => ⟨ptpSyncTx_asleep d hasleep, congrArg Host.Outcome.next (cascEvent_asleep _ _ _ _ _ hasleep)⟩,
    fun hcount hon hgate hfirst => ?_, fun hcount hoff => ?_, ppsOutPulse_stopped, fun rising => ppsInEdge_stamps, fun rising => ppsInEdge_idle⟩
  · have hheeded : Heeded port.val m s := ⟨hon, hdom, hudp, hhost⟩
    have hex : port.val < s.time.ptpEx.length := by
      rw [hlen]
      exact port.isLt
    refine ⟨fun htyp htwo hslave ⟨x, hheard, hfrom⟩ => ?_, fun htyp hmaster he2e => ?_, fun htyp hnone => ?_⟩
    · exact ⟨_, ptpMessageRx_ethernet m hawake hport, ethPtp_sync_spec hheeded hex htyp htwo hslave hheard hfrom⟩
    · rw [ptpMessageRx_ethernet m hawake hport, ethPtp_delayReq hheeded htyp hmaster he2e]
      exact ⟨_, rfl, ⟨_, List.mem_cons_self⟩, emit_only _ s⟩
    · rw [ptpMessageRx_ethernet m hawake hport, ethPtp_announce hheeded htyp]
      exact ⟨_, rfl, hearAnnounce_first_spec hnone hex⟩
  · obtain ⟨hsent, honly, hat⟩ := cascEvent_spec (b2n d) 0 62500000 d
      (be 2 (if isFollower s then s.time.masterStepCount else noticeCount s) ++ be 4 (errNs s)) hawake hlink
    exact ⟨_, ptpSyncTx_relays haway, hsent, honly, hat⟩
  · exact ⟨_, rfl, cascEvent_spec (4 + b2n d) 2 1000000000 d [] hawake hlink⟩
  · refine ⟨_, ppsOutPulse_pulses hcount hon hgate hfirst, ?_, rfl, (countTo_only _ s).comp (ppsPulsed_only _ _)⟩
    rw [ppsPulsed, emit, countTo_out]
  · exact ⟨_, ppsOutPulse_off hcount hoff, countTo_out _ s, countTo_only _ s⟩

end Sys2Proof.Machine
end

section
/-! SUPPORT. Steps of the counter (R134, R143, R144, R195). -/

namespace Sys2Proof.Machine

set_option Elab.async false

/-! A step taken (R134). -/

/-- The parts that a step of the counter moves. -/
abbrev steppedParts : List Part := [.time, .host, .evt, .gnss, .acq, .sch, .thr]

theorem moveCounter_only (delta : Int) (s : State) : Only [.time, .host, .gnss, .acq, .sch, .thr] s (moveCounter delta s) := by
  apply Only.fields <;> simp [moveCounter]

theorem TimeState.units_eq (t : TimeState) : t.units = t.total * 2 ^ 32 + t.frac := rfl

theorem moveCounter_total {delta : Int} {s : State} {n : Nat} (hfrac : s.time.frac < 2 ^ 32) (hn : (n : Int) = s.time.total + delta)
    (hroom : n < 2 ^ 64 * 10 ^ 9) : (moveCounter delta s).time.total = n := by
  have hunits : ((s.time.units : Int) + delta * 2 ^ 32).toNat = n * 2 ^ 32 + s.time.frac := by
    rw [TimeState.units_eq]
    omega
  have hmoved : (moveCounter delta s).time.total = n / 10 ^ 9 % 2 ^ 64 * 10 ^ 9 + n % 10 ^ 9 := by
    have hwhole : (n * 2 ^ 32 + s.time.frac) / 2 ^ 32 = n := by omega
    simp only [moveCounter, TimeState.total, TimeState.setUnits, hunits, hwhole]
  omega

/-- The counter has taken step `p`, and no slew is left. -/
def stepTaken (p : PendStep) (s : State) : State :=
  let t := moveCounter p.delta s
  { t with time := { t.time with steps := t.time.steps.filter (· != p), slew := 0, stepCount := p.count } }

/-- A servo of the firmware goes on at its frequency estimate. -/
def estimateRate (s : State) : State := if servoOwns s then writeRate (num64 s.time.freq) s else s

theorem applyStep_eq (p : PendStep) (s : State) : applyStep p s = realign p.origin p.delta
    (record .timeStep (be 1 p.origin ++ be 5 (p.instant / 1000000)) (estimateRate (stepTaken p (countTo p.instant s)))) := by
  unfold applyStep
  generalize countTo p.instant s = u
  rfl

theorem writeRate_time (r : Num) (s : State) :
    (writeRate r s).time = { s.time with incr := incrOf r, rate := pack64 (rateOf (incrOf r)) } := by
  simp only [writeRate, setRate, phaseNow_time]

theorem estimateRate_only (s : State) : Only [.time, .acq] s (estimateRate s) :=
  Only.ite (fun _ => writeRate_only _ s) fun _ => Only.refl

theorem estimateRate_time (s : State) :
    (estimateRate s).time = { s.time with incr := (estimateRate s).time.incr, rate := (estimateRate s).time.rate } := by
  unfold estimateRate
  split
  · rw [writeRate_time]
  · rfl

/-- What stands once step `p` has been taken from `s`, before the grid is realigned. -/
structure Stepped (p : PendStep) (s t : State) : Prop where
  only : Only steppedParts s t
  steps : t.time.steps = s.time.steps.filter (· != p)
  count : t.time.stepCount = p.count
  slew : t.time.slew = 0
  state : t.time.state = s.time.state
  cmds : t.host.cmds = s.host.cmds.map (Cmd.moved p.delta)

theorem stepTaken_stepped (p : PendStep) (s : State) : Stepped p s (stepTaken p s) where
  only := (moveCounter_only _ _).comp (rs := steppedParts) (Only.setTime _)
  steps := rfl
  count := rfl
  slew := rfl
  state := rfl
  cmds := rfl

/-- What a step finds is not changed by the time before it. -/
theorem Stepped.of_countTo {p : PendStep} {n : Nat} {s t : State} (h : Stepped p (countTo n s) t) : Stepped p s t where
  only := (countTo_only n s).comp (rs := steppedParts) h.only
  steps := h.steps.trans (by rw [countTo_time])
  count := h.count
  slew := h.slew
  state := h.state.trans (by rw [countTo_time])
  cmds := h.cmds.trans (by rw [countTo_host])

/-- The rate written and the event recorded after a step leave what it has done. -/
theorem Stepped.recorded {p : PendStep} {s t : State} (h : Stepped p s t) (e : Ev) (ps : List Byte) :
    Stepped p s (record e ps (estimateRate t)) where
  only := h.only.comp (rs := steppedParts) ((estimateRate_only t).comp (rs := steppedParts) (record_only e ps _))
  steps := Eq.trans (by rw [record_time, estimateRate_time]) h.steps
  count := Eq.trans (by rw [record_time, estimateRate_time]) h.count
  slew := Eq.trans (by rw [record_time, estimateRate_time]) h.slew
  state := Eq.trans (by rw [record_time, estimateRate_time]) h.state
  cmds := Eq.trans (by rw [record_host, (estimateRate_only t).2 .host (by decide)]) h.cmds

/-- A step is taken, and then the grid is realigned. -/
theorem applyStep_realigns (p : PendStep) (s : State) : ∃ u : State, applyStep p s = realign p.origin p.delta u ∧ Stepped p s u :=
  ⟨_, applyStep_eq p s, (stepTaken_stepped p _).of_countTo.recorded _ _⟩

theorem applyStep_spec (p : PendStep) (s : State) : Only (steppedParts ++ [.grid, .grp, .out]) s (applyStep p s) ∧
    (applyStep p s).time.steps = s.time.steps.filter (· != p) ∧ (applyStep p s).time.stepCount = p.count ∧ (applyStep p s).time.slew = 0 ∧
    (applyStep p s).time.state = s.time.state ∧ (applyStep p s).host.cmds = s.host.cmds.map (Cmd.moved p.delta) := by
  obtain ⟨u, heq, hstep⟩ := applyStep_realigns p s
  have hreal := realign_only p.origin p.delta u
  rw [heq, show (realign p.origin p.delta u).time = u.time from hreal.2 .time (by decide),
    show (realign p.origin p.delta u).host = u.host from hreal.2 .host (by decide)]
  exact ⟨hstep.only.comp hreal, hstep.steps, hstep.count, hstep.slew, hstep.state, hstep.cmds⟩

theorem Only.setGrid {s : State} (x : GridState) : Only [.grid] s { s with grid := x } := by
  apply Only.fields <;> simp

/-! A follower asks no other device to synchronise (R195). -/

theorem requestSync_follower {s : State} (h : isFollower s = true) (b o : Nat) : Only [.acq] s (requestSync b o s) := by
  unfold requestSync
  rw [if_neg fun hlead => hlead.2 h]
  exact Only.setAcq _

theorem askAgain_follower {s : State} (h : isFollower s = true) (old b : Int) : Only [.acq] s (askAgain old b s) := by
  unfold askAgain
  extract_lets mine
  exact Only.ite (fun _ => Only.refl) fun _ => (Only.setAcq _).trans (requestSync_follower (by exact h) _ _)

theorem realign_follower {s : State} (h : isFollower s = true) (cause : Nat) (delta : Int) :
    Only [.grid, .acq, .evt] s (realign cause delta s) := by
  unfold realign
  extract_lets g old a b s1
  have h1 : Only [.grid, .acq] s s1 :=
    Only.ite (fun _ => (Only.setGrid _).comp (askAgain_follower (by exact h) _ _)) fun _ => Only.refl
  exact h1.comp (record_only _ _ s1)

theorem applyStep_follower {s : State} (h : isFollower s = true) (p : PendStep) : Only (steppedParts ++ [.grid]) s (applyStep p s) := by
  obtain ⟨u, heq, hstep⟩ := applyStep_realigns p s
  have hrole : isFollower u = true := by
    rwa [isFollower, show u.grp = s.grp from hstep.only.2 .grp (by decide)]
  exact heq ▸ hstep.only.comp (realign_follower hrole _ _)

/-- The step to the MASTER's time `m`, at the next whole millisecond (R144). -/
def missedStep (m : Stamp) (s : State) : PendStep :=
  let i := (s.time.total + 999999) / 1000000 * 1000000
  { delta := ((m.sec * 10 ^ 9 + m.ns : Nat) : Int) - s.time.total, instant := i, origin := 2, count := s.time.masterStepCount, entry := none }

theorem catchUpStep_steps {s : State} (m : Stamp) (hawake : awake s = true) (hfol : isFollower s = true) (hstandby : s.ctl.mode = 0)
    (hmissed : noticeCount s ≠ s.time.masterStepCount) : ∃ t : State, exec (.catchUpStep m) s = .next t ∧
      t.time.stepCount = s.time.masterStepCount ∧ t.time.slew = 0 ∧ Only [.time, .grid, .host, .evt, .gnss, .acq, .sch, .thr] s t := by
  obtain ⟨-, -, hcount, hslew, -, -⟩ := applyStep_spec (missedStep m s) s
  exact ⟨_, if_neg (by simp [hawake, hfol, hstandby, hmissed]), hcount, hslew, (applyStep_follower hfol _).mono (by decide)⟩

theorem catchUpStep_idle {s : State} (m : Stamp)
    (h : awake s = false ∨ isFollower s = false ∨ s.ctl.mode ≠ 0 ∨ noticeCount s = s.time.masterStepCount) :
    exec (.catchUpStep m) s = .next s :=
  if_pos (by rcases h with h | h | h | h <;> simp [h])

/-! The instant of a step (R134, log 27). -/

theorem findCmd_moved {s t : State} {delta : Int} (h : t.host.cmds = s.host.cmds.map (Cmd.moved delta)) {e : Nat} {c : Cmd}
    (hc : findCmd s e = some c) : findCmd t e = some (c.moved delta) := by
  rw [findCmd, h, List.find?_map]
  exact congrArg (Option.map _) (show s.host.cmds.find? (fun i => i.entry == e) = some c from hc)

theorem stepOfEntry_eq_none {s : State} {e : Nat} (h : ∀ p ∈ s.time.steps, p.entry ≠ some e) : stepOfEntry s e = none :=
  List.find?_eq_none.mpr fun p hp => by simpa using h p hp

/-- Once its step has been taken, a TIME_STEP answers the instant it waited for. -/
theorem runTimeStep_taken {c : Cmd} {s : State} (hdata : c.data ≠ []) (htaken : stepOfEntry s c.entry = none) :
    ∃ reply, opTimeStep.run c s = .finish s 0 reply none := by
  obtain ⟨i, l, hl⟩ := List.exists_cons_of_ne_nil hdata
  refine ⟨be 8 (i / 10 ^ 9) ++ be 4 (i % 10 ^ 9), ?_⟩
  show runTimeStep c s = _
  simp only [runTimeStep, hl, htaken]

/-- A TIME_STEP whose step has been taken ends, or still waits where it may not run: the conversation with the host alone goes on. -/
theorem runCmd_timeStep_only {e : Nat} {s : State} {c : Cmd} (hc : findCmd s e = some c) (hdata : c.data ≠ [])
    (htaken : ∀ p ∈ s.time.steps, p.entry ≠ some e) : Only [.host, .out] s (runCmd opTimeStep 1 e s) := by
  unfold runCmd
  rw [hc]
  refine Only.ite (fun _ => Only.refl) fun _ => ?_
  extract_lets st s1 c1
  have h1 : Only [.host] s s1 :=
    Only.trans (Only.ite (fun _ => Only.refl) fun _ => modEntry_only _ _ _ _) (modCmd_only _ _ _)
  refine Only.ite (fun _ => h1.comp (endCmd_only _ _ _ _ _ _ _)) fun _ => ?_
  have hentry : c.entry = e := entry_of_findCmd hc
  have hnone : stepOfEntry s1 c1.entry = none := by
    rw [show c1.entry = e from hentry]
    refine stepOfEntry_eq_none ?_
    rwa [show s1.time = s.time from h1.2 .time (by decide)]
  obtain ⟨reply, hrun⟩ := runTimeStep_taken (c := c1) hdata hnone
  rw [hrun]
  refine h1.comp (rs := [.host, .out]) (qs := [.host, .out]) (Only.ite (fun _ => ?_) fun _ => ?_)
  · exact (endCmd_only _ _ _ _ _ _ _).trans (closeSession_only _ _)
  · exact endCmd_only _ _ _ _ _ _ _

theorem timeStepInstant_idle {s : State} (h : firstStep s.time.steps = none) : exec .timeStepInstant s = .next s := by
  show execTimeStepInstant s = _
  simp only [execTimeStepInstant, h]

/-- No command waits for the step, or one does that waits for no other. -/
def OwnStep (p : PendStep) (s : State) : Prop :=
  p.entry = none ∨ (∀ q ∈ s.time.steps, q.entry = p.entry → q = p) ∧ ∃ e c, p.entry = some e ∧ findCmd s e = some c ∧ c.data ≠ []

/-- The first step is taken at its instant, and the command that waits for it, where there is one, ends. -/
theorem timeStepInstant_takes {s : State} {p : PendStep} (h : firstStep s.time.steps = some p) (hentry : OwnStep p s) :
    ∃ t : State, exec .timeStepInstant s = .next t ∧ Only [.host, .out] (applyStep p s) t := by
  rcases hentry with hnone | ⟨halone, e, c, he, hc, hdata⟩
  · refine ⟨_, ?_, Only.refl⟩
    show execTimeStepInstant s = _
    simp only [execTimeStepInstant, h, hnone]
  · obtain ⟨-, hsteps, -, -, -, hcmds⟩ := applyStep_spec p s
    refine ⟨runCmd opTimeStep 1 e (applyStep p s), ?_, runCmd_timeStep_only (findCmd_moved hcmds hc) hdata fun q hq hqe => ?_⟩
    · show execTimeStepInstant s = _
      simp only [execTimeStepInstant, h, he]
    · rw [hsteps, List.mem_filter, bne_iff_ne] at hq
      exact hq.2 (halone q hq.1 (hqe.trans he.symm))

theorem timeStepInstant_spec {s : State} {p : PendStep} (h : firstStep s.time.steps = some p) (hentry : OwnStep p s) :
    ∃ t : State, exec .timeStepInstant s = .next t ∧ p ∉ t.time.steps ∧ t.time.stepCount = p.count ∧ t.time.slew = 0 ∧
      t.time.state = s.time.state ∧ Only [.time, .grid, .host, .evt, .gnss, .acq, .sch, .thr, .grp, .out] s t := by
  obtain ⟨t, hexec, honly⟩ := timeStepInstant_takes h hentry
  obtain ⟨hstepped, hsteps, hcount, hslew, hstate, -⟩ := applyStep_spec p s
  refine ⟨t, hexec, ?_⟩
  rw [show t.time = (applyStep p s).time from honly.2 .time (by decide)]
  refine ⟨fun hmem => ?_, hcount, hslew, hstate, hstepped.comp honly⟩
  rw [hsteps, List.mem_filter] at hmem
  exact bne_iff_ne.mp hmem.2 rfl

end Sys2Proof.Machine
end

section
/-! SUPPORT. The servo (R127, R129, R131 to R133, R143, R175). -/

namespace Sys2Proof.Machine

set_option Elab.async false

/-! A measurement taken. -/

theorem holdoverExit_only (o : Int) (s : State) : Only [.evt] s (holdoverExit o s) :=
  Only.ite (fun _ => record_only _ _ s) fun _ => Only.refl

/-- The alarm of an offset stands while the offset is beyond STEP_ALARM_NS. -/
theorem offsetAlarm_time (o : Int) (s : State) :
    (offsetAlarm o s).time = { s.time with offsetLarge := decide (pNat s 0x0506 < o.natAbs) } := by
  have hcast : ((pNat s 0x0506 : Int) < o.natAbs) = (pNat s 0x0506 < o.natAbs) := propext Int.ofNat_lt
  simp only [offsetAlarm, hcast]
  split
  · next hfar =>
    split
    · next hlarge => simp only [decide_eq_true hfar, ← hlarge]
    · rw [record_time, decide_eq_true hfar]
  · next hnear => rw [decide_eq_false hnear]

theorem offsetAlarm_only (o : Int) (s : State) : Only [.time, .evt] s (offsetAlarm o s) :=
  Only.ite (fun _ => Only.ite (fun _ => Only.refl) fun _ => (Only.setTime _).comp (record_only _ _ _)) fun _ => (Only.setTime _).mono (by decide)

theorem freshen_only (s : State) : Only [.fresh] s (freshen s) := by
  apply Only.fields <;> simp

/-- The state in which a measurement is judged: holdover has ended, and the alarm stands as the offset has it. -/
def judged (o : Int) (s : State) : State := freshen (offsetAlarm o (holdoverExit o s))

theorem judged_only (o : Int) (s : State) : Only [.time, .evt, .fresh] s (judged o s) :=
  ((holdoverExit_only o s).comp (rs := [.time, .evt]) (offsetAlarm_only o _)).comp (rs := [.time, .evt, .fresh]) (freshen_only _)

theorem judged_time (o : Int) (s : State) :
    (judged o s).time = { s.time with offsetLarge := decide (pNat s 0x0506 < o.natAbs) } := by
  have hexit := holdoverExit_only o s
  show (offsetAlarm o (holdoverExit o s)).time = _
  rw [offsetAlarm_time, show (holdoverExit o s).time = s.time from hexit.2 .time (by decide), pNat_of_cfg (hexit.2 .cfg (by decide))]

/-- A source that measures is valid; the servo's estimates are free (log 24). -/
theorem takeOffset_time (o : Int) (s : State) : (takeOffset o s).time = { s.time with
    sourceValid := true, lastValidAt := s.time.elapsed, errAt := s.time.elapsed, errNs := (takeOffset o s).time.errNs,
    holdErr0 := (takeOffset o s).time.holdErr0, offsetLarge := decide (pNat s 0x0506 < o.natAbs),
    state := if o.natAbs ≤ pNat s 0x0505 ∧ o.natAbs ≤ pNat s 0x0506 then .locked else .slewing,
    freq := (takeOffset o s).time.freq, slew := (takeOffset o s).time.slew, incr := (takeOffset o s).time.incr,
    rate := (takeOffset o s).time.rate } := by
  have htime := judged_time o s
  have hlocked : (decide (o.natAbs ≤ pNat (judged o s) 0x0505) && !(judged o s).time.offsetLarge) =
      decide (o.natAbs ≤ pNat s 0x0505 ∧ o.natAbs ≤ pNat s 0x0506) := by
    simp only [htime, pNat_of_cfg ((judged_only o s).2 .cfg (by decide)), Bool.decide_and, ← decide_not, Nat.not_lt]
  unfold takeOffset
  extract_lets u f est e locked err src t
  have ht : t = { s.time with
      sourceValid := true, lastValidAt := s.time.elapsed, errAt := s.time.elapsed, errNs := err, holdErr0 := err,
      offsetLarge := decide (pNat s 0x0506 < o.natAbs),
      state := if o.natAbs ≤ pNat s 0x0505 ∧ o.natAbs ≤ pNat s 0x0506 then .locked else .slewing } := by
    simp only [t, src, e, show u.time = _ from htime, show locked = _ from hlocked, decide_eq_true_eq]
  split
  · rw [writeRate_time, ht]
  · rw [ht]

theorem takeOffset_only (o : Int) (s : State) : Only [.time, .evt, .acq, .fresh] s (takeOffset o s) := by
  unfold takeOffset
  extract_lets u f est e locked err src t
  exact (judged_only o s).comp (rs := [.time, .evt, .acq, .fresh]) (qs := [.time, .acq])
    (Only.ite (fun _ => (Only.setTime _).comp (writeRate_only _ _)) fun _ => (Only.setTime _).mono (by decide))

theorem takeOffset_valid (o : Int) (s : State) : (takeOffset o s).time.sourceValid = true := by
  rw [takeOffset_time]

theorem takeOffset_lastValidAt (o : Int) (s : State) : (takeOffset o s).time.lastValidAt = s.time.elapsed := by
  rw [takeOffset_time]

theorem takeOffset_state (o : Int) (s : State) : (takeOffset o s).time.state =
    if o.natAbs ≤ pNat s 0x0505 ∧ o.natAbs ≤ pNat s 0x0506 then .locked else .slewing := by
  rw [takeOffset_time]

theorem takeOffset_state_cases (o : Int) (s : State) : (takeOffset o s).time.state = .locked ∨ (takeOffset o s).time.state = .slewing := by
  rw [takeOffset_state]
  split
  · exact .inl rfl
  · exact .inr rfl

theorem takeOffset_locked_iff (o : Int) (s : State) :
    (takeOffset o s).time.state = .locked ↔ o.natAbs ≤ pNat s 0x0505 ∧ o.natAbs ≤ pNat s 0x0506 := by
  rw [takeOffset_state]
  split <;> simp [*]

theorem takeOffset_units (o : Int) (s : State) : (takeOffset o s).time.units = s.time.units := by
  rw [TimeState.units, takeOffset_time, TimeState.units]

theorem takeOffset_total (o : Int) (s : State) : (takeOffset o s).time.total = s.time.total := by
  rw [TimeState.total, takeOffset_time, TimeState.total]

/-! The offset of a source, taken once. -/

/-- The offset of port `p`'s exchange has been taken. -/
def dropOffset (p : Nat) (s : State) : State := modEx p (fun x => { x with offset := none }) s

theorem dropOffset_only (p : Nat) (s : State) : Only [.time] s (dropOffset p s) :=
  modEx_only _ _ _

theorem useOffset_cascade (s : State) : useOffset 0 s = (masterPort s).elim s fun p => dropOffset (p + 2) s := rfl

theorem useOffset_ptp (s : State) : useOffset 2 s = (slavePort s).elim s fun p => dropOffset p s := rfl

theorem useOffset_only (src : Nat) (s : State) : Only [.time, .gnss] s (useOffset src s) := by
  unfold useOffset
  split
  · cases masterPort s
    · exact Only.refl
    · exact (dropOffset_only _ s).mono (by decide)
  · exact (Only.setGnss _).mono (by decide)
  · cases slavePort s
    · exact Only.refl
    · exact (dropOffset_only _ s).mono (by decide)
  · exact (Only.setTime _).mono (by decide)

/-- Taking a measurement changes nothing of the time base but the exchanges and the pulse. -/
theorem useOffset_time (src : Nat) (s : State) :
    (useOffset src s).time = { s.time with ptpEx := (useOffset src s).time.ptpEx, ppsOff := (useOffset src s).time.ppsOff } := by
  unfold useOffset
  split
  · cases masterPort s <;> rfl
  · rfl
  · cases slavePort s <;> rfl
  · rfl

theorem useOffset_counter (src : Nat) (s : State) : (useOffset src s).time.units = s.time.units ∧
    (useOffset src s).time.frac = s.time.frac ∧ (useOffset src s).time.elapsed = s.time.elapsed := by
  rw [useOffset_time]
  exact ⟨rfl, rfl, rfl⟩

/-- An exchange without its offset still hears its master. -/
theorem exOf_dropOffset (p q : Nat) (s : State) : exOf (dropOffset p s) q =
    { exOf s q with offset := if p = q then none else (exOf s q).offset } := by
  show at_ ptpExReset (modAt s.time.ptpEx p _) q = _
  rw [at_modAt]
  by_cases hpq : p = q
  · by_cases hlen : q < s.time.ptpEx.length
    · rw [if_pos ⟨hpq, hlen⟩, if_pos hpq]
      rfl
    · rw [if_neg fun h => hlen h.2, if_pos hpq, exOf, at_, List.getD_eq_default _ _ (Nat.le_of_not_lt hlen)]
      rfl
  · rw [if_neg fun h => hpq h.1, if_neg hpq]
    rfl

theorem heardNow_dropOffset (p q : Nat) (s : State) : heardNow (dropOffset p s) q = heardNow s q := by
  rw [heardNow, exOf_dropOffset]
  rfl

theorem slavePort_dropOffset (p : Nat) (s : State) : slavePort (dropOffset p s) = slavePort s := by
  simp only [slavePort, heardNow_dropOffset]
  rfl

theorem sourceOffset_useOffset (src : Fin 4) (s : State) : sourceOffset (useOffset src.val s) src.val = none := by
  match src with
  | 0 =>
    show (masterPort (useOffset 0 s)).bind (fun p => (exOf (useOffset 0 s) (p + 2)).offset) = none
    rw [useOffset_cascade]
    cases hp : masterPort s with
    | none => simp only [Option.elim_none, hp, Option.bind_none]
    | some p =>
      rw [Option.elim_some, show masterPort (dropOffset _ s) = masterPort s from rfl, hp, Option.bind_some, exOf_dropOffset]
      exact if_pos rfl
  | 1 => rfl
  | 2 =>
    show (slavePort (useOffset 2 s)).bind (fun p => (exOf (useOffset 2 s) p).offset) = none
    rw [useOffset_ptp]
    cases hp : slavePort s with
    | none => simp only [Option.elim_none, hp, Option.bind_none]
    | some p =>
      rw [Option.elim_some, slavePort_dropOffset, hp, Option.bind_some, exOf_dropOffset]
      exact if_pos rfl
  | 3 => rfl

section
variable {s t : State}

theorem masterPort_of_links (hgrp : t.grp = s.grp) (hpwr : t.pwr = s.pwr) : masterPort t = masterPort s := by
  have hpeer : peerOf t = peerOf s := funext fun d => by rw [peerOf, hgrp, peerOf]
  have hlink : linkUp t = linkUp s := funext fun p => by rw [linkUp, cascUp, hgrp, hpwr, linkUp, cascUp]
  have hports : portsTo t = portsTo s := funext fun d => by rw [portsTo, hlink, hpeer, portsTo]
  rw [masterPort, hpeer, hports, masterPort]

theorem slavePort_of_heard (hcfg : t.cfg = s.cfg) (hgrp : t.grp = s.grp) (hex : t.time.ptpEx = s.time.ptpEx)
    (helapsed : t.time.elapsed = s.time.elapsed) : slavePort t = slavePort s := by
  have hval : pVal t = pVal s := funext fun id => by rw [pVal, hcfg, pVal]
  have hnat : pNat t = pNat s := funext (pNat_of_cfg hcfg)
  have hheard : heardNow t = heardNow s := funext fun p => by rw [heardNow, exOf, ptpOn, hex, hnat, helapsed, heardNow, exOf, ptpOn]
  rw [slavePort, hostServo, timeSource, isFollower, hval, hnat, hgrp, hheard, slavePort, hostServo, timeSource, isFollower]

end

/-- What a source has measured is read off its exchange, the time solution or the pulse. -/
theorem sourceOffset_takeOffset (o : Int) (src : Nat) (s : State) : sourceOffset (takeOffset o s) src = sourceOffset s src := by
  have honly := takeOffset_only o s
  have hgrp : (takeOffset o s).grp = s.grp := honly.2 .grp (by decide)
  have hgnss : (takeOffset o s).gnss = s.gnss := honly.2 .gnss (by decide)
  have htimes : (takeOffset o s).time.ptpEx = s.time.ptpEx ∧ (takeOffset o s).time.ppsOff = s.time.ppsOff ∧
      (takeOffset o s).time.elapsed = s.time.elapsed := by
    rw [takeOffset_time]
    exact ⟨rfl, rfl, rfl⟩
  obtain ⟨hptp, hpps, helapsed⟩ := htimes
  have hex : exOf (takeOffset o s) = exOf s := funext fun p => by rw [exOf, hptp, exOf]
  unfold sourceOffset
  rw [masterPort_of_links hgrp (honly.2 .pwr (by decide)), slavePort_of_heard (honly.2 .cfg (by decide)) hgrp hptp helapsed, hex, hgnss, hpps]

/-! SERVO_MEASUREMENT. -/

theorem servoMeasurement_none {s : State} {src : Fin 4} (h : sourceOffset s src.val = none) : exec (.servoMeasurement src) s = .next s := by
  show execServoMeasurement src s = _
  simp only [execServoMeasurement, h]

theorem servoMeasurement_unused {s : State} {src : Fin 4} (h : awake s = false ∨ timeSource s ≠ some src.val) :
    exec (.servoMeasurement src) s = .next s := by
  cases ho : sourceOffset s src.val with
  | none => exact servoMeasurement_none ho
  | some o =>
    have hskip : (!awake s || timeSource s != some src.val) = true := by rcases h with h | h <;> simp [h]
    show execServoMeasurement src s = _
    simp only [execServoMeasurement, ho, hskip, if_true]

/-- Device time stays UNSET where AUTOSET does not take it from the source. -/
theorem servoMeasurement_unset {s : State} {src : Fin 4} (hunset : s.time.state = .unset)
    (hkeep : ¬(pNat s 0x0503 = 1 ∧ (src.val = 1 ∨ src.val = 2))) : exec (.servoMeasurement src) s = .next s := by
  cases ho : sourceOffset s src.val with
  | none => exact servoMeasurement_none ho
  | some o =>
    show execServoMeasurement src s = _
    simp only [execServoMeasurement, ho, hunset, ne_eq, not_true_eq_false, if_false, hkeep, ite_self]

section
variable {s : State} {src : Fin 4} {o : Int} (ho : sourceOffset s src.val = some o) (hawake : awake s = true)
  (hsrc : timeSource s = some src.val)
include ho hawake hsrc

theorem servoMeasurement_takes (hset : s.time.state ≠ .unset) :
    exec (.servoMeasurement src) s = .next (takeOffset o (useOffset src.val s)) := by
  show execServoMeasurement src s = _
  simp only [execServoMeasurement, ho, hawake, hsrc, bne_self_eq_false, Bool.not_true, Bool.or_self, Bool.false_eq_true, if_false, ne_eq, hset,
    not_false_eq_true, if_true]

theorem servoMeasurement_autosets (hunset : s.time.state = .unset) (hauto : pNat s 0x0503 = 1) (hfrom : src.val = 1 ∨ src.val = 2) :
    exec (.servoMeasurement src) s =
      .next (takeOffset 0 (initialStep ((s.time.total : Int) - o).toNat src.val .free (useOffset src.val s))) := by
  show execServoMeasurement src s = _
  simp only [execServoMeasurement, ho, hawake, hsrc, bne_self_eq_false, Bool.not_true, Bool.or_self, Bool.false_eq_true, if_false, ne_eq, hunset,
    not_true_eq_false, hauto, hfrom, and_self, if_true]

end

/-! The first valid time (R129). -/

/-- The counter has been loaded with `n` nanoseconds. -/
def timeLoaded (n : Nat) (state : TState) (s : State) : State :=
  let t := moveCounter ((n : Int) - s.time.total) s
  { t with time := { t.time with frac := 0, state := state } }

theorem TimeState.total_withFrac (t : TimeState) (f : Nat) (state : TState) :
    ({ t with frac := f, state := state } : TimeState).total = t.total := rfl

theorem timeLoaded_only (n : Nat) (state : TState) (s : State) : Only steppedParts s (timeLoaded n state s) :=
  (moveCounter_only _ s).comp (rs := steppedParts) (Only.setTime _)

theorem timeLoaded_total {n : Nat} {s : State} (hfrac : s.time.frac < 2 ^ 32) (hroom : n < 2 ^ 64 * 10 ^ 9) (state : TState) :
    (timeLoaded n state s).time.total = n := by
  have hmoved : (moveCounter ((n : Int) - s.time.total) s).time.total = n := moveCounter_total hfrac (by omega) hroom
  exact (TimeState.total_withFrac _ 0 state).trans hmoved

theorem initialStep_eq (n origin : Nat) (state : TState) (s : State) : initialStep n origin state s =
    realign 4 ((n : Int) - s.time.total) (record .timeSet (be 1 origin) (timeLoaded n state s)) := rfl

theorem initialStep_only (n origin : Nat) (state : TState) (s : State) :
    Only (steppedParts ++ [.grid, .grp, .out]) s (initialStep n origin state s) := by
  rw [initialStep_eq]
  exact ((timeLoaded_only n state s).comp (rs := steppedParts) (record_only _ _ _)).comp (realign_only _ _ _)

theorem initialStep_total {n : Nat} {s : State} (hfrac : s.time.frac < 2 ^ 32) (hroom : n < 2 ^ 64 * 10 ^ 9) (origin : Nat) (state : TState) :
    (initialStep n origin state s).time.total = n := by
  rw [initialStep_eq, (realign_only _ _ _).2 .time (by decide), record_time, timeLoaded_total hfrac hroom]

section
variable {s : State} {src : Fin 4} {o : Int} (ho : sourceOffset s src.val = some o) (hawake : awake s = true)
  (hsrc : timeSource s = some src.val)
include ho hawake hsrc

theorem servoMeasurement_spec (hset : s.time.state ≠ .unset) : ∃ t : State, exec (.servoMeasurement src) s = .next t ∧
    t.time.sourceValid = true ∧ t.time.lastValidAt = s.time.elapsed ∧ sourceOffset t src.val = none ∧
    (t.time.state = .locked ∨ t.time.state = .slewing) ∧
    (t.time.state = .locked ↔ o.natAbs ≤ pNat s 0x0505 ∧ o.natAbs ≤ pNat s 0x0506) ∧
    t.time.units = s.time.units ∧ Only [.time, .evt, .gnss, .acq, .fresh] s t := by
  have hused := useOffset_only src.val s
  have hcfg : (useOffset src.val s).cfg = s.cfg := hused.2 .cfg (by decide)
  obtain ⟨hunits, -, helapsed⟩ := useOffset_counter src.val s
  refine ⟨_, servoMeasurement_takes ho hawake hsrc hset, takeOffset_valid _ _, (takeOffset_lastValidAt _ _).trans helapsed,
    (sourceOffset_takeOffset _ _ _).trans (sourceOffset_useOffset src s), takeOffset_state_cases _ _, ?_,
    (takeOffset_units _ _).trans hunits, hused.comp (takeOffset_only _ _)⟩
  rw [takeOffset_locked_iff, pNat_of_cfg hcfg, pNat_of_cfg hcfg]

/-- The time of the source is the counter less the offset, and the counter takes it. -/
theorem servoMeasurement_autoset_spec (hunset : s.time.state = .unset) (hauto : pNat s 0x0503 = 1) (hfrom : src.val = 1 ∨ src.val = 2)
    (hfrac : s.time.frac < 2 ^ 32) (hpast : o ≤ s.time.total) (hroom : (s.time.total : Int) - o < 2 ^ 64 * 10 ^ 9) :
    ∃ t : State, exec (.servoMeasurement src) s = .next t ∧ (t.time.total : Int) = s.time.total - o ∧ t.time.sourceValid = true ∧
      t.time.state ≠ .unset ∧ Only [.time, .grid, .host, .evt, .gnss, .acq, .sch, .thr, .grp, .out, .fresh] s t := by
  have hused := useOffset_only src.val s
  obtain ⟨-, husedFrac, -⟩ := useOffset_counter src.val s
  refine ⟨_, servoMeasurement_autosets ho hawake hsrc hunset hauto hfrom, ?_, takeOffset_valid _ _, ?_,
    (hused.comp (rs := steppedParts ++ [.grid, .grp, .out]) (initialStep_only _ _ _ _)).comp (takeOffset_only _ _)⟩
  · rw [takeOffset_total, initialStep_total (by rwa [husedFrac]) (by omega)]
    omega
  · rcases takeOffset_state_cases 0 (initialStep ((s.time.total : Int) - o).toNat src.val .free (useOffset src.val s)) with h | h <;>
      rw [h] <;> exact nofun

end

/-! HOLDOVER (R127, R143). -/

/-- The counter has run on without a valid source until HOLDOVER begins. -/
def heldOver (s : State) : State :=
  let s1 := elapseTo ((if isFollower s then s.time.lastSyncAt else s.time.lastValidAt) + ms (pNat s 0x0507)) s
  { s1 with time := { s1.time with state := .holdover, sourceValid := false } }

theorem holdoverEnter_row {s : State} (h : s.time.state = .locked ∨ s.time.state = .slewing ∨ s.time.state = .free ∧ isFollower s = true) :
    exec .holdoverEnter s = .next (record .holdoverEnter [] (if fwRunning s then holdRate (heldOver s) else heldOver s)) :=
  if_pos h

theorem holdRate_time (s : State) :
    (holdRate s).time = { s.time with slew := (holdRate s).time.slew, incr := (holdRate s).time.incr, rate := (holdRate s).time.rate } := by
  unfold holdRate
  split
  · rw [writeRate_time]
  · rfl

theorem holdRate_slew {s : State} (hstate : s.time.state = .holdover) (howns : servoOwns s = true) : (holdRate s).time.slew = 0 := by
  rw [holdRate, if_pos ⟨hstate, howns⟩, writeRate_time]

theorem heldOver_only (s : State) : Only [.time, .evt] s (heldOver s) :=
  (elapseTo_only _ s).comp (Only.setTime _)

theorem servoOwns_heldOver (s : State) : servoOwns (heldOver s) = servoOwns s := by
  have honly := heldOver_only s
  rw [servoOwns, isFollower, pNat_of_cfg (honly.2 .cfg (by decide)), show (heldOver s).grp = s.grp from honly.2 .grp (by decide), servoOwns,
    isFollower]

theorem holdoverEnter_spec {s : State} (h : s.time.state = .locked ∨ s.time.state = .slewing ∨ s.time.state = .free ∧ isFollower s = true) :
    ∃ t : State, exec .holdoverEnter s = .next t ∧ t.time.state = .holdover ∧ t.time.sourceValid = false ∧
      (if isFollower s then s.time.lastSyncAt else s.time.lastValidAt) + ms (pNat s 0x0507) ≤ t.time.elapsed ∧
      (servoOwns s = true → fwRunning s = true → t.time.slew = 0) ∧ Only [.time, .evt, .acq] s t := by
  have hheld := heldOver_only s
  refine ⟨_, holdoverEnter_row h, ?_⟩
  rw [record_time]
  by_cases hfw : fwRunning s = true
  · rw [if_pos hfw]
    refine ⟨?_, ?_, ?_, fun howns _ => holdRate_slew rfl ((servoOwns_heldOver s).trans howns),
      (hheld.comp (rs := [.time, .evt, .acq]) (holdRate_only _)).comp (record_only _ _ _)⟩
    all_goals rw [holdRate_time]
    · rfl
    · rfl
    · exact le_elapsed_elapseTo _ s
  · rw [if_neg hfw]
    exact ⟨rfl, rfl, le_elapsed_elapseTo _ s, fun _ hrun => absurd hrun hfw, hheld.comp (record_only _ _ _)⟩

theorem holdoverEnter_idle {s : State} (hlocked : s.time.state ≠ .locked) (hslewing : s.time.state ≠ .slewing)
    (hfree : ¬(s.time.state = .free ∧ isFollower s = true)) : exec .holdoverEnter s = .next s :=
  if_neg (by simp only [hlocked, hslewing, hfree, or_self, not_false_eq_true])

/-- Settles O30: a step by what it leaves before the grid is realigned, a measurement by what the servo takes of it. -/
theorem timeRows : Obligations.TimeRows :=
  ⟨fun _ => ⟨timeStepInstant_idle, fun _ => timeStepInstant_spec, fun m => catchUpStep_steps m, fun m => catchUpStep_idle m⟩,
   fun _ => ⟨fun _ => servoMeasurement_none, fun _ => servoMeasurement_unused, fun _ => servoMeasurement_unset, fun _ _ => servoMeasurement_spec,
     fun _ _ => servoMeasurement_autoset_spec, holdoverEnter_spec, holdoverEnter_idle⟩⟩

end Sys2Proof.Machine
end

section
/-! SUPPORT. The antenna bands (R150 to R153, R161, R162): what each operation makes of a band, and which bands it leaves alone. -/

namespace Sys2Proof.Machine

set_option Elab.async false

section
variable {b k : Nat} {s t : State}

/-! One band. -/

theorem bandOf_of_gnss (h : t.gnss = s.gnss) (k : Nat) : bandOf t k = bandOf s k := by
  rw [bandOf, h, bandOf]

theorem bandOf_modBand_same (h : b < s.gnss.bands.length) (f : Band → Band) : bandOf (modBand b f s) b = f (bandOf s b) :=
  (at_modAt _ _ _ _ _).trans (if_pos ⟨rfl, h⟩)

theorem bandOf_modBand_ne (h : b ≠ k) (f : Band → Band) : bandOf (modBand b f s) k = bandOf s k :=
  (at_modAt _ _ _ _ _).trans (if_neg fun hand => h hand.1)

theorem modBand_only (b : Nat) (f : Band → Band) (s : State) : Only [.gnss] s (modBand b f s) :=
  Only.setGnss _

@[simp] theorem modBand_length (b : Nat) (f : Band → Band) (s : State) : (modBand b f s).gnss.bands.length = s.gnss.bands.length :=
  length_modAt _ _ _

/-- A fault stops the channels and changes nothing of the band but its fault. -/
theorem bandFault_bands (b : Nat) (s : State) : ∃ n r, (bandFault b s).gnss.bands =
    modAt s.gnss.bands b fun x => if (bandOf s b).fault then { x with cleanSince := none }
      else { x with fault := true, faultSince := n, cleanSince := none, replayed := r } := by
  unfold bandFault
  split
  · exact ⟨0, false, rfl⟩
  · refine ⟨s.time.elapsed, false, ?_⟩
    rw [record_gnss]
    rfl

theorem bandFault_length (b : Nat) (s : State) : (bandFault b s).gnss.bands.length = s.gnss.bands.length := by
  obtain ⟨n, r, h⟩ := bandFault_bands b s
  rw [h, length_modAt]

theorem bandOf_bandFault_same (h : b < s.gnss.bands.length) :
    ∃ n r, bandOf (bandFault b s) b = { bandOf s b with fault := true, faultSince := n, cleanSince := none, replayed := r } := by
  obtain ⟨n, r, hbands⟩ := bandFault_bands b s
  have hat := at_modAt bandReset s.gnss.bands b b
  rw [bandOf, hbands, hat, if_pos ⟨rfl, h⟩]
  cases hfault : (bandOf s b).fault
  · exact ⟨n, r, rfl⟩
  · exact ⟨(bandOf s b).faultSince, (bandOf s b).replayed, by rw [if_pos rfl, ← hfault]; rfl⟩

theorem bandOf_bandFault_ne (h : b ≠ k) : bandOf (bandFault b s) k = bandOf s k := by
  obtain ⟨n, r, hbands⟩ := bandFault_bands b s
  rw [bandOf, hbands, at_modAt, if_neg fun hand => h hand.1, bandOf]

/-! BAND_CLOCK_CHECK (R150). -/

/-- What faults a band at a clock check. -/
def checkBad (count b : Nat) (s : State) : Bool := countBad count || slipped (fillAfter count (bandOf s b).fill) || gnssIsolated s

/-- A band with its elastic buffer filled anew. -/
def refilled (count b : Nat) (s : State) : State :=
  modBand b (fun x => { x with fill := if slipped (fillAfter count (bandOf s b).fill) then 32 else fillAfter count (bandOf s b).fill }) s

theorem checkBand_bad {count : Nat} (h : checkBad count b s = true) : checkBand count b s = bandFault b (refilled count b s) :=
  if_pos h

theorem checkBand_clean {count : Nat} (h : checkBad count b s = false) : checkBand count b s =
    modBand b (fun x => { x with cleanSince := x.cleanSince <|> some s.time.elapsed }) (refilled count b s) :=
  if_neg (Bool.eq_false_iff.mp h)

theorem checkBand_only (count b : Nat) (s : State) : Only [.evt, .gnss] s (checkBand count b s) :=
  Only.ite (fun _ => (modBand_only _ _ s).comp (bandFault_only _ _)) fun _ => ((modBand_only _ _ s).trans (modBand_only _ _ _)).mono (by decide)

theorem checkBand_length (count b : Nat) (s : State) : (checkBand count b s).gnss.bands.length = s.gnss.bands.length := by
  cases h : checkBad count b s
  · rw [checkBand_clean h, modBand_length, refilled, modBand_length]
  · rw [checkBand_bad h, bandFault_length, refilled, modBand_length]

theorem bandOf_checkBand_ne (h : b ≠ k) (count : Nat) : bandOf (checkBand count b s) k = bandOf s k := by
  cases hbad : checkBad count b s
  · rw [checkBand_clean hbad, bandOf_modBand_ne h, refilled, bandOf_modBand_ne h]
  · rw [checkBand_bad hbad, bandOf_bandFault_ne h, refilled, bandOf_modBand_ne h]

theorem bandOf_checkBand_same (h : b < s.gnss.bands.length) (count : Nat) :
    (checkBad count b s = true → (bandOf (checkBand count b s) b).fault = true ∧ (bandOf (checkBand count b s) b).cleanSince = none) ∧
    (checkBad count b s = false → (bandOf (checkBand count b s) b).fault = (bandOf s b).fault ∧
      (bandOf (checkBand count b s) b).cleanSince = (bandOf s b).cleanSince.or (some s.time.elapsed)) := by
  have hrefilled : b < (refilled count b s).gnss.bands.length := by rwa [refilled, modBand_length]
  refine ⟨fun hbad => ?_, fun hclean => ?_⟩
  · obtain ⟨n, r, hfault⟩ := bandOf_bandFault_same hrefilled
    rw [checkBand_bad hbad, hfault]
    exact ⟨rfl, rfl⟩
  · rw [checkBand_clean hclean, bandOf_modBand_same hrefilled, refilled, bandOf_modBand_same h]
    exact ⟨rfl, by cases (bandOf s b).cleanSince <;> rfl⟩

theorem bandOf_checkBands_ne {counts : Nat → Nat} {l : List Nat} (h : k ∉ l) :
    bandOf (l.foldl (fun s b => checkBand (counts b) b s) s) k = bandOf s k := by
  induction l generalizing s with
  | nil => rfl
  | cons a l ih =>
    rw [List.foldl_cons, ih (List.not_mem_of_not_mem_cons h), bandOf_checkBand_ne (Ne.symm (List.ne_of_not_mem_cons h))]

/-- Among bands each checked once, a band is judged as it stood before any. -/
theorem bandOf_checkBands {counts : Nat → Nat} {l : List Nat} (hnodup : l.Nodup) (hmem : b ∈ l) :
    ∃ u : State, Only [.evt, .gnss] s u ∧ u.gnss.bands.length = s.gnss.bands.length ∧ bandOf u b = bandOf s b ∧
      bandOf (l.foldl (fun s b => checkBand (counts b) b s) s) b = bandOf (checkBand (counts b) b u) b := by
  induction l generalizing s with
  | nil => exact absurd hmem List.not_mem_nil
  | cons a l ih =>
    obtain ⟨hfresh, hrest⟩ := List.nodup_cons.mp hnodup
    by_cases hab : a = b
    · subst hab
      exact ⟨s, Only.refl, rfl, rfl, bandOf_checkBands_ne hfresh⟩
    · obtain ⟨u, honly, hlen, hband, heq⟩ := ih (s := checkBand (counts a) a s) hrest ((List.mem_cons.mp hmem).resolve_left (Ne.symm hab))
      exact ⟨u, (checkBand_only _ _ s).trans honly, hlen.trans (checkBand_length _ _ _), hband.trans (bandOf_checkBand_ne hab _), heq⟩

end

/-- The state in which the counts of a clock check are judged, at elapsed time `n` at least. -/
def checkStart (n : Nat) (s : State) : State :=
  let s1 := elapseTo n s
  { s1 with gnss := { s1.gnss with clockAt := s1.time.elapsed } }

theorem checkStart_only (n : Nat) (s : State) : Only [.time, .evt, .gnss] s (checkStart n s) :=
  (elapseTo_only n s).comp (Only.setGnss _)

theorem checkStart_elapsed (n : Nat) (s : State) : n ≤ (checkStart n s).time.elapsed :=
  le_elapsed_elapseTo n s

theorem checkStart_bands (n : Nat) (s : State) : (checkStart n s).gnss.bands = s.gnss.bands := by
  rw [checkStart, elapseTo_gnss]

section
variable {s : State} (hup : gnssUp s = true)
include hup

theorem bandClockCheck_runs (counts : List Nat) : exec (.bandClockCheck counts) s =
    .next ((List.range 6).foldl (fun s b => checkBand (counts.getD b 6144000) b s) (checkStart (s.gnss.clockAt + ms 100) s)) :=
  if_neg (by simp [hup])

theorem bandClockCheck_spec (hlen : s.gnss.bands.length = 6) (counts : List Nat) :
    ∃ t : State, exec (.bandClockCheck counts) s = .next t ∧ s.gnss.clockAt + ms 100 ≤ t.time.elapsed ∧ Only [.time, .evt, .gnss] s t ∧
      ∀ b, b < 6 → (checkBad (counts.getD b 6144000) b s = true → (bandOf t b).fault = true ∧ (bandOf t b).cleanSince = none) ∧
        (checkBad (counts.getD b 6144000) b s = false →
          (bandOf t b).fault = (bandOf s b).fault ∧ (bandOf t b).cleanSince = (bandOf s b).cleanSince.or (some t.time.elapsed)) := by
  refine ⟨_, bandClockCheck_runs hup counts, ?_⟩
  have hstart := checkStart_only (s.gnss.clockAt + ms 100) s
  have hwait := checkStart_elapsed (s.gnss.clockAt + ms 100) s
  have hbands := checkStart_bands (s.gnss.clockAt + ms 100) s
  generalize checkStart (s.gnss.clockAt + ms 100) s = v at hstart hwait hbands ⊢
  generalize ht : (List.range 6).foldl (fun s b => checkBand (counts.getD b 6144000) b s) v = t
  have hchecks : Only [.evt, .gnss] v t := ht ▸ Only.refl.foldl _ (fun u b => checkBand_only _ b u) _
  have htime : t.time = v.time := hchecks.2 .time (by decide)
  refine ⟨by rwa [htime], hstart.comp hchecks, fun b hb => ?_⟩
  obtain ⟨u, honly, hulen, hband, heq⟩ :=
    bandOf_checkBands (s := v) (counts := fun b => counts.getD b 6144000) List.nodup_range (List.mem_range.mpr hb)
  have hbandStart : bandOf u b = bandOf s b := by rw [hband, bandOf, hbands, bandOf]
  have hpwr : u.pwr = s.pwr := (honly.2 .pwr (by decide)).trans (hstart.2 .pwr (by decide))
  have hutime : u.time = t.time := (honly.2 .time (by decide)).trans htime.symm
  have hbad : checkBad (counts.getD b 6144000) b u = checkBad (counts.getD b 6144000) b s := by
    simp only [checkBad, gnssIsolated, hbandStart, hpwr]
  have hsame := bandOf_checkBand_same (s := u) (b := b) (by rwa [hulen, hbands, hlen]) (counts.getD b 6144000)
  rw [hbad, hbandStart, hutime, ← heq, ht] at hsame
  exact hsame

end

/-! FRONT_END_REPLAY and BAND_HEALTHY (R151, R152). -/

theorem sendFrontEnd_only (a : Nat) (s : State) : Only [.out] s (sendFrontEnd a s) :=
  Only.refl.foldl _ (fun t _ => emit_only _ t) _

section
variable {s : State}

/-- The band of an antenna for which its front end is to be replayed. -/
def replayBand (a : Nat) (s : State) : Option Nat := [2 * a, 2 * a + 1].find? fun b => (bandOf s b).fault && !(bandOf s b).replayed

theorem replayBand_lt {a : Fin 3} {b : Nat} (h : replayBand a.val s = some b) : b < 6 := by
  have hmem := List.mem_of_find?_eq_some h
  simp only [List.mem_cons, List.not_mem_nil, or_false] at hmem
  omega

theorem frontEndReplay_held {a : Fin 3} {b : Nat} (hband : replayBand a.val s = some b) (hheld : s.gnss.replayHeld.contains a.val = true) :
    exec (.frontEndReplay a) s = .next s := by
  show execFrontEndReplay a s = _
  unfold replayBand at hband
  simp only [execFrontEndReplay, hband, hheld, Bool.or_true, if_true]

/-- The front end of antenna `a` is replayed for band `b`, once `n` has come; `held` are the antennas whose replays stop. -/
def replayedAt (a b n : Nat) (held : List Nat) (s : State) : State :=
  let s2 := modBand b (fun x => { x with replayed := true }) (sendFrontEnd a (elapseTo n s))
  { s2 with gnss := { s2.gnss with replays := s2.gnss.replays ++ [(a, s2.time.elapsed)], replayHeld := held } }

theorem replayedAt_spec {b : Nat} (h : b < s.gnss.bands.length) (a n : Nat) (held : List Nat) :
    (bandOf (replayedAt a b n held s) b).replayed = true ∧ n ≤ (replayedAt a b n held s).time.elapsed ∧
      (∃ l, (replayedAt a b n held s).gnss.replays = l ++ [(a, (replayedAt a b n held s).time.elapsed)]) ∧
      Only [.time, .evt, .gnss, .out] s (replayedAt a b n held s) := by
  have hsent : Only [.time, .evt, .out] s (sendFrontEnd a (elapseTo n s)) := (elapseTo_only n s).comp (sendFrontEnd_only a _)
  have hgnss : (sendFrontEnd a (elapseTo n s)).gnss = s.gnss := hsent.2 .gnss (by decide)
  have htime : (replayedAt a b n held s).time = (elapseTo n s).time := (sendFrontEnd_only a _).2 .time (by decide)
  refine ⟨congrArg Band.replayed (bandOf_modBand_same (by rwa [hgnss]) _), ?_, ⟨_, rfl⟩,
    hsent.comp ((modBand_only _ _ _).trans (Only.setGnss _))⟩
  rw [htime]
  exact le_elapsed_elapseTo n s

theorem frontEndReplay_replays {a : Fin 3} {b : Nat} (hup : gnssUp s = true) (hband : replayBand a.val s = some b)
    (hfree : s.gnss.replayHeld.contains a.val = false) :
    ∃ held : List Nat, exec (.frontEndReplay a) s = .next (replayedAt a.val b ((bandOf s b).faultSince + ms 1000) held s) := by
  show ∃ held : List Nat, execFrontEndReplay a s = _
  unfold replayBand at hband
  simp only [execFrontEndReplay, hband, hup, hfree, Bool.not_true, Bool.or_self, Bool.false_eq_true, if_false]
  exact ⟨_, rfl⟩

/-- A channel that returns to acquisition with its band. -/
def Chan.resumes (b : Nat) (c : Chan) : Chan := if c.svid ≠ 0 ∧ c.state = 0 ∧ c.band = b then { c with state := 1 } else c

theorem Chan.resumes_state {b : Nat} {c : Chan} (hsat : (c.resumes b).svid ≠ 0) (hband : (c.resumes b).band = b) : (c.resumes b).state ≠ 0 := by
  by_cases h : c.svid ≠ 0 ∧ c.state = 0 ∧ c.band = b
  · rw [Chan.resumes, if_pos h]
    exact Nat.one_ne_zero
  · rw [Chan.resumes, if_neg h] at *
    exact fun hidle => h ⟨hsat, hidle, hband⟩

theorem bandHealthy_idle {b : Fin 6} (h : (bandOf s b.val).cleanSince = none ∨ (bandOf s b.val).fault = false) :
    exec (.bandHealthy b) s = .next s := by
  show execBandHealthy b s = _
  unfold execBandHealthy
  extract_lets x
  split
  · rfl
  · next hclean =>
    have hfault : x.fault = false := h.resolve_left (by rw [show (bandOf s b.val).cleanSince = _ from hclean]; nofun)
    rw [hfault]
    rfl

/-- Band `b` is healthy again, once `n` has come. -/
def healed (b n : Nat) (s : State) : State :=
  let s2 := modBand b (fun x => { x with fault := false, cleanSince := none, replayed := false }) (elapseTo n s)
  { s2 with gnss := { s2.gnss with chans := s2.gnss.chans.map (Chan.resumes b) } }

theorem healed_spec {b : Nat} (h : b < s.gnss.bands.length) (n : Nat) : (bandOf (healed b n s) b).fault = false ∧
    n ≤ (healed b n s).time.elapsed ∧ Only [.time, .evt, .gnss] s (healed b n s) ∧
    (∀ c ∈ (healed b n s).gnss.chans, c.svid ≠ 0 → c.band = b → c.state ≠ 0) := by
  refine ⟨congrArg Band.fault (bandOf_modBand_same ?_ _), le_elapsed_elapseTo n s,
    (elapseTo_only n s).comp ((modBand_only _ _ _).trans (Only.setGnss _)), fun c hc hsat hband => ?_⟩
  · rwa [elapseTo_gnss]
  · obtain ⟨d, -, rfl⟩ := List.mem_map.mp hc
    exact Chan.resumes_state hsat hband

theorem bandHealthy_heals {b : Fin 6} {e : Nat} (hup : gnssUp s = true) (hclean : (bandOf s b.val).cleanSince = some e)
    (hfault : (bandOf s b.val).fault = true) : exec (.bandHealthy b) s = .next (healed b.val (e + ms 1000) s) := by
  show execBandHealthy b s = _
  simp only [execBandHealthy, hclean, hfault, hup, Bool.not_true, Bool.or_self, Bool.false_eq_true, if_false]
  rfl

/-! AGC_UPDATE (R153). -/

/-- The duty code moves by at most one and stays in its range. -/
theorem agcStep_near (target : F32) (high total d : Nat) (h : d ≤ 1023) :
    agcStep target high total d ≤ 1023 ∧ agcStep target high total d ≤ d + 1 ∧ d ≤ agcStep target high total d + 1 := by
  unfold agcStep
  extract_lets
  split
  · omega
  · split <;> omega

/-- The duty code that a millisecond of samples gives a band. -/
def agcCode (b : Nat) (codes : List Iq) (s : State) : Nat := agcStep (pReal s 0x0413) (highCount codes) (2 * codes.length) (bandOf s b).duty

/-- A band with the duty code of a millisecond. -/
def agcStepped (b : Nat) (codes : List Iq) (s : State) : State :=
  let s1 := elapseTo (s.gnss.agcAt.getD b 0 + ms 1) s
  modBand b (fun x => { x with duty := agcCode b codes s, dutySum := x.dutySum + agcCode b codes s, dutyCount := x.dutyCount + 1 })
    { s1 with gnss := { s1.gnss with agcAt := modAt s1.gnss.agcAt b (fun _ => s1.time.elapsed) } }

theorem agcUpdate_runs (b : Fin 6) (codes : List Iq) (hup : gnssUp s = true) : exec (.agcUpdate b codes) s =
    .next (if stuckCodes codes then bandFault b.val (agcStepped b.val codes s) else agcStepped b.val codes s) :=
  if_neg (by simp [hup])

theorem agcStepped_only (b : Nat) (codes : List Iq) (s : State) : Only [.time, .evt, .gnss] s (agcStepped b codes s) :=
  (elapseTo_only _ s).comp ((Only.setGnss _).trans (modBand_only _ _ _))

theorem agcStepped_duty {b : Nat} (h : b < s.gnss.bands.length) (codes : List Iq) :
    (bandOf (agcStepped b codes s) b).duty = agcCode b codes s :=
  congrArg Band.duty (bandOf_modBand_same (by simpa using h) _)

theorem agcUpdate_spec (b : Fin 6) (codes : List Iq) (hup : gnssUp s = true) (hlen : s.gnss.bands.length = 6) :
    ∃ t : State, exec (.agcUpdate b codes) s = .next t ∧ (bandOf t b.val).duty = agcCode b.val codes s ∧
      (stuckCodes codes = true → (bandOf t b.val).fault = true) ∧ Only [.time, .evt, .gnss] s t := by
  have hb : b.val < s.gnss.bands.length := by
    rw [hlen]
    exact b.isLt
  have hstepped := agcStepped_only b.val codes s
  have hduty := agcStepped_duty hb codes
  refine ⟨_, agcUpdate_runs b codes hup, ?_⟩
  split
  · have hb' : b.val < (agcStepped b.val codes s).gnss.bands.length := by
      rw [agcStepped, modBand_length, elapseTo_gnss]
      exact hb
    obtain ⟨n, r, hfault⟩ := bandOf_bandFault_same hb'
    rw [hfault]
    exact ⟨hduty, fun _ => rfl, hstepped.comp (bandFault_only _ _)⟩
  · next hvaried => exact ⟨hduty, fun hstuck => absurd hstuck hvaried, hstepped⟩

/-! NOTCH_UPDATE (R161). -/

theorem notchEngage_length (thr : F32) (overs : List F32) (n : Nat) (ns : List (Option Notch)) :
    (notchEngage thr overs n ns).1.length = ns.length := by
  induction n generalizing ns with
  | zero => rfl
  | succ n ih =>
    unfold notchEngage
    split
    · rw [ih, length_modAt]
    · rfl

theorem disturb_only (b : Nat) (s : State) : Only [.gnss] s (disturb b s) :=
  Only.setGnss _

theorem bandOf_disturb_ne {b k : Nat} (h : b ≠ k) (s : State) : bandOf (disturb b s) k = bandOf s k :=
  (at_modAt _ _ _ _ _).trans (if_neg fun hand => h hand.1)

theorem bandOf_disturb_same {b : Nat} (h : b < s.gnss.bands.length) : bandOf (disturb b s) b = { bandOf s b with disturbed := true } :=
  (at_modAt _ _ _ _ _).trans (if_pos ⟨rfl, h⟩)

/-- The notches of band `b` become `ns`, its phase disturbed or not. -/
def renotched (b : Nat) (ns : List (Option Notch)) (fifth hit : Bool) (s : State) : State :=
  let s1 := modBand b (fun x => { x with notches := ns, fifth := fifth })
    { s with gnss := { s.gnss with notchAt := modAt s.gnss.notchAt b (fun _ => s.time.elapsed) } }
  if hit then disturb b s1 else s1

theorem renotched_spec {b : Nat} (h : b < s.gnss.bands.length) (ns : List (Option Notch)) (fifth hit : Bool) :
    Only [.gnss] s (renotched b ns fifth hit s) ∧ (bandOf (renotched b ns fifth hit s) b).notches = ns ∧
      ∀ k, k ≠ b → bandOf (renotched b ns fifth hit s) k = bandOf s k := by
  unfold renotched
  extract_lets _ s1
  have h1 : Only [.gnss] s s1 := (Only.setGnss _).trans (modBand_only _ _ _)
  have hnotches : (bandOf s1 b).notches = ns := congrArg Band.notches (bandOf_modBand_same h _)
  have hothers : ∀ k, k ≠ b → bandOf s1 k = bandOf s k := fun k hk => bandOf_modBand_ne (Ne.symm hk) _
  cases hit
  · exact ⟨h1, hnotches, hothers⟩
  · have hb1 : b < s1.gnss.bands.length := (modBand_length _ _ _).symm ▸ h
    refine ⟨h1.trans (disturb_only _ _), ?_, fun k hk => (bandOf_disturb_ne (Ne.symm hk) _).trans (hothers k hk)⟩
    exact (congrArg Band.notches (bandOf_disturb_same hb1)).trans hnotches

/-- There are four notches after an update, and none engaged where they are disabled. -/
theorem notchUpdate_spec (b : Fin 6) (tr : List Nat) (sp : List F32) (hup : gnssUp s = true) (hb : b.val < s.gnss.bands.length) :
    ∃ t : State, exec (.notchUpdate b tr sp) s = .next t ∧ Only [.time, .evt, .gnss] s t ∧ (bandOf t b.val).notches.length = 4 ∧
      (bitOf (pNat s 0x0410) b.val = false → ∀ n ∈ (bandOf t b.val).notches, n = none) ∧ ∀ k, k ≠ b.val → bandOf t k = bandOf s k := by
  show ∃ t : State, execNotchUpdate b tr sp s = _ ∧ _
  unfold execNotchUpdate
  rw [if_neg (by simp [hup])]
  extract_lets i s1 _ s2 thr enabled overs followed ns
  have hlen : ns.length = 4 := by simp [ns, followed]
  have hfree : enabled = false → ∀ n ∈ ns, n = none := fun hoff n hn => by
    obtain ⟨p, hp, rfl⟩ := List.mem_map.mp hn
    obtain ⟨j, -, rfl⟩ := List.mem_map.mp hp
    split
    · rfl
    · rw [if_neg (Bool.eq_false_iff.mp hoff)]
    · rw [if_neg (Bool.eq_false_iff.mp hoff)]
  have hwait : Only [.time, .evt] s s1 := elapseTo_only _ s
  have hgnss : s1.gnss = s.gnss := hwait.2 .gnss (by decide)
  have hb1 : i < s1.gnss.bands.length := by rwa [hgnss]
  generalize hengage : (if enabled then notchEngage thr overs 4 ns else (ns, false)) = p
  obtain ⟨ns', engaged⟩ := p
  obtain ⟨honly, hnotches, hothers⟩ := renotched_spec hb1 ns' (enabled && ns'.all Option.isSome && (strongestFree thr overs ns').isSome)
    (engaged || followed.any (·.2))
  refine ⟨_, rfl, hwait.comp honly, ?_, fun hoff => ?_, fun k hk => (hothers k hk).trans (bandOf_of_gnss hgnss k)⟩
  · refine (congrArg List.length hnotches).trans ?_
    split at hengage
    · rw [← hlen, ← notchEngage_length thr overs 4 ns, hengage]
    · rw [← hlen, (Prod.mk.inj hengage).1]
  · rw [if_neg (Bool.eq_false_iff.mp hoff)] at hengage
    refine (congrArg (fun l => ∀ n ∈ l, n = none) (hnotches.trans (Prod.mk.inj hengage).1.symm)).mpr (hfree hoff)

/-! JAM_INDICATOR and GNSS_JAMMING (R162). -/

theorem jamValue_le (db : F32) (sum count : Nat) (ref : Option Nat) (notches : Nat) : jamValue db sum count ref notches ≤ 255 :=
  Nat.min_le_left _ _

/-- A band whose indicator is `j` at elapsed time `e`. -/
def Band.jamAt (alarm j e : Nat) (x : Band) : Band :=
  { x with jam := j, dutySum := 0, dutyCount := 0, jamSince := if alarm ≤ j then x.jamSince <|> some e else none,
           calmSince := if j < alarm - 20 then x.calmSince <|> some e else none }

theorem Band.jamAt_jamSince (alarm j e : Nat) (x : Band) : alarm ≤ j ↔ (x.jamAt alarm j e).jamSince.isSome = true := by
  unfold Band.jamAt
  by_cases h : alarm ≤ j
  · cases x.jamSince <;> simp [h]
  · simp [h]

/-- The indicator of band `b` is `j`, once `n` has come. -/
def jamRenewed (b n j : Nat) (s : State) : State :=
  let s1 := elapseTo n s
  modBand b (fun x => (learnCode (dataChans s b) x).jamAt (pNat s 0x0412) j s1.time.elapsed)
    { s1 with gnss := { s1.gnss with jamAt := modAt s1.gnss.jamAt b (fun _ => s1.time.elapsed) } }

theorem jamIndicator_renews (b : Fin 6) (hup : gnssUp s = true) :
    ∃ j ≤ 255, exec (.jamIndicator b) s = .next (jamRenewed b.val (s.gnss.jamAt.getD b.val 0 + ms 100) j s) :=
  ⟨_, jamValue_le _ _ _ _ _, if_neg (by simp [hup])⟩

theorem jamRenewed_spec {b j : Nat} (h : b < s.gnss.bands.length) (n : Nat) (hj : j ≤ 255) :
    (bandOf (jamRenewed b n j s) b).dutyCount = 0 ∧ (bandOf (jamRenewed b n j s) b).jam ≤ 255 ∧
      (pNat s 0x0412 ≤ (bandOf (jamRenewed b n j s) b).jam ↔ (bandOf (jamRenewed b n j s) b).jamSince.isSome) ∧
      Only [.time, .evt, .gnss] s (jamRenewed b n j s) := by
  rw [jamRenewed, bandOf_modBand_same (by simpa using h)]
  exact ⟨rfl, hj, Band.jamAt_jamSince _ _ _ _, (elapseTo_only n s).comp ((Only.setGnss _).trans (modBand_only _ _ _))⟩

/-- JAMMED of band `b` becomes `on` once `n` has come, with its event. -/
def jamTold (b : Nat) (on : Bool) (n : Nat) (s : State) : State :=
  record .gnssJamming (be 1 b ++ be 1 (b2n on)) (modBand b (fun x => { x with jammed := on }) (elapseTo n s))

theorem jamTold_spec {b : Nat} (h : b < s.gnss.bands.length) (on : Bool) (n : Nat) :
    (bandOf (jamTold b on n s) b).jammed = on ∧ n ≤ (jamTold b on n s).time.elapsed ∧ Only [.time, .evt, .gnss] s (jamTold b on n s) := by
  unfold jamTold
  refine ⟨?_, ?_, ((elapseTo_only n s).comp (rs := [.time, .evt, .gnss]) (modBand_only _ _ _)).comp (record_only _ _ _)⟩
  · rw [bandOf_of_gnss (record_gnss _ _ _), bandOf_modBand_same (by rwa [elapseTo_gnss])]
  · rw [record_time]
    exact le_elapsed_elapseTo n s

theorem gnssJamming_sets {b : Fin 6} {e : Nat} (hcalm : (bandOf s b.val).jammed = false) (hsince : (bandOf s b.val).jamSince = some e) :
    exec (.gnssJamming b) s = .next (jamTold b.val true (e + ms 1000) s) := by
  show execGnssJamming b s = _
  simp only [execGnssJamming, hcalm, hsince]
  rfl

theorem gnssJamming_clears {b : Fin 6} {e : Nat} (hjam : (bandOf s b.val).jammed = true) (hsince : (bandOf s b.val).calmSince = some e) :
    exec (.gnssJamming b) s = .next (jamTold b.val false (e + ms 5000) s) := by
  show execGnssJamming b s = _
  simp only [execGnssJamming, hjam, hsince]
  rfl

end

/-- Settles O32: each row by what it makes of its band. -/
theorem gnssBandRows : Obligations.GnssBandRows := by
  intro s hup hlen
  have hlt : ∀ b : Fin 6, b.val < s.gnss.bands.length := fun b => by
    rw [hlen]
    exact b.isLt
  refine ⟨bandClockCheck_spec hup hlen, fun a b hband => ⟨frontEndReplay_held hband, fun hfree => ?_⟩,
    fun b e hclean hfault => ⟨_, bandHealthy_heals hup hclean hfault, healed_spec (hlt b) _⟩, fun b => bandHealthy_idle,
    fun b codes => ?_, fun b tr sp => ?_,
    fun b => ?_, fun b e hcalm hsince => ⟨_, gnssJamming_sets hcalm hsince, jamTold_spec (hlt b) _ _⟩,
    fun b e hjam hsince => ⟨_, gnssJamming_clears hjam hsince, jamTold_spec (hlt b) _ _⟩⟩
  · obtain ⟨held, hexec⟩ := frontEndReplay_replays hup hband hfree
    exact ⟨_, hexec, replayedAt_spec (hlen ▸ replayBand_lt hband) _ _ _⟩
  · obtain ⟨t, hexec, hduty, hstuck, honly⟩ := agcUpdate_spec b codes hup hlen
    refine ⟨t, hexec, hduty, hstuck, honly, fun hrange => ?_⟩
    rw [hduty]
    exact agcStep_near _ _ _ _ hrange
  · obtain ⟨t, hexec, honly, hfour, hfree, hothers⟩ := notchUpdate_spec b tr sp hup (hlt b)
    exact ⟨t, hexec, honly, hfour, hfree, fun k _ => hothers k⟩
  · obtain ⟨j, hj, hexec⟩ := jamIndicator_renews b hup
    exact ⟨_, hexec, jamRenewed_spec (hlt b) _ hj⟩

end Sys2Proof.Machine
end

section
/-! SUPPORT. The searches of the tracking channels (R154, R157, R159): which channels a request, an assignment and a search may change. -/

namespace Sys2Proof.Machine

set_option Elab.async false

/-! One channel. -/

section
variable {i k : Nat} {s t : State}

theorem chanOf_of_gnss (h : t.gnss = s.gnss) (k : Nat) : chanOf t k = chanOf s k := by
  rw [chanOf, h, chanOf]

theorem chanOf_modChan_same (h : i < s.gnss.chans.length) (f : Chan → Chan) : chanOf (modChan i f s) i = f (chanOf s i) :=
  (at_modAt _ _ _ _ _).trans (if_pos ⟨rfl, h⟩)

theorem chanOf_modChan_ne (h : i ≠ k) (f : Chan → Chan) : chanOf (modChan i f s) k = chanOf s k :=
  (at_modAt _ _ _ _ _).trans (if_neg fun hand => h hand.1)

theorem chanOf_modChan_cases (i k : Nat) (f : Chan → Chan) (s : State) :
    chanOf (modChan i f s) k = chanOf s k ∨ i = k ∧ chanOf (modChan i f s) k = f (chanOf s k) := by
  by_cases h : i = k ∧ k < s.gnss.chans.length
  · exact .inr ⟨h.1, (at_modAt _ _ _ _ _).trans (if_pos h)⟩
  · exact .inl ((at_modAt _ _ _ _ _).trans (if_neg h))

theorem modChan_only (i : Nat) (f : Chan → Chan) (s : State) : Only [.gnss] s (modChan i f s) :=
  Only.setGnss _

@[simp] theorem modChan_length (i : Nat) (f : Chan → Chan) (s : State) : (modChan i f s).gnss.chans.length = s.gnss.chans.length :=
  length_modAt _ _ _

end

/-! Searches taken up (R159). -/

/-- Searches begin: nothing changes but when channels in ACQ are searched for. -/
structure Searches (s t : State) : Prop where
  frame : Only [.gnss] s t
  length : t.gnss.chans.length = s.gnss.chans.length
  chan : ∀ k, chanOf t k = { chanOf s k with searchAt := (chanOf t k).searchAt }
  kept : ∀ k, (chanOf s k).state ≠ 1 → chanOf t k = chanOf s k

theorem Searches.refl (s : State) : Searches s s := ⟨Only.refl, rfl, fun _ => rfl, fun _ _ => rfl⟩

theorem Searches.state {s t : State} (h : Searches s t) (k : Nat) : (chanOf t k).state = (chanOf s k).state :=
  (congrArg Chan.state (h.chan k)).trans rfl

theorem Searches.trans {s t u : State} (h : Searches s t) (g : Searches t u) : Searches s u where
  frame := h.frame.trans g.frame
  length := g.length.trans h.length
  chan k := by
    rw [g.chan k, h.chan k]
  kept k hk := (g.kept k (by rwa [h.state])).trans (h.kept k hk)

theorem Searches.modChan {s : State} {i : Nat} (h : (chanOf s i).state = 1) (at_ : Option Nat) :
    Searches s (modChan i (fun c => { c with searchAt := at_ }) s) where
  frame := modChan_only _ _ s
  length := modChan_length _ _ s
  chan k := by
    obtain hsame | ⟨-, hmod⟩ := chanOf_modChan_cases i k (fun c => { c with searchAt := at_ }) s
    · rw [hsame]
    · rw [hmod]
  kept k hk := chanOf_modChan_ne (fun hik : i = k => hk (hik ▸ h)) _

/-- An index chosen by going through a list is one of those that could be chosen. -/
theorem foldl_choice {P : Nat → Prop} {f : Option Nat → Nat → Option Nat} (hf : ∀ best j, f best j = best ∨ f best j = some j ∧ P j)
    {l : List Nat} {i : Nat} (h : l.foldl f none = some i) : P i := by
  refine List.foldlRecOn (motive := fun best => ∀ i, best = some i → P i) l f (by nofun) (fun best hbest j _ => ?_) i h
  obtain heq | ⟨heq, hj⟩ := hf best j <;> rw [heq]
  · exact hbest
  · rintro _ ⟨⟩
    exact hj

theorem searchOne_searches (s : State) : Searches s (searchOne s) := by
  unfold searchOne
  split
  · exact .refl s
  · extract_lets next
    cases hi : next with
    | none => exact .refl s
    | some i =>
      refine .modChan (foldl_choice (P := fun j => (chanOf s j).state = 1) (fun best j => ?_) hi) _
      dsimp only
      split
      · exact .inl rfl
      · next hfree =>
        have hacq : (chanOf s j).state = 1 := by
          simp only [Bool.or_eq_true, bne_iff_ne, ne_eq, not_or, not_not] at hfree
          exact hfree.1
        split
        · split
          · exact .inr ⟨rfl, hacq⟩
          · exact .inl rfl
        · exact .inr ⟨rfl, hacq⟩

theorem foldl_searchOne (l : List Nat) (s : State) : Searches s (l.foldl (fun s _ => searchOne s) s) := by
  induction l generalizing s with
  | nil => exact .refl s
  | cons _ l ih => exact (searchOne_searches s).trans (ih _)

/-- The channels given to the requests that wait. -/
def assigned (s : State) : State := (List.range s.gnss.asks.length).foldl (fun s _ => assignOne s) s

theorem serveSearches_searches (s : State) : Searches (assigned s) (serveSearches s) :=
  foldl_searchOne (List.range 16) (assigned s)

theorem serveSearches_of_noAsks {s : State} (h : s.gnss.asks = []) : Searches s (serveSearches s) := by
  have hnone : assigned s = s := by
    rw [assigned, h]
    rfl
  have hserve := serveSearches_searches s
  rwa [hnone] at hserve

/-! Requests and their channels (R157). -/

theorem askSearch_only (s : State) (x : SearchTarget) : Only [.gnss] s (askSearch s x) :=
  Only.ite (fun _ => Only.refl) fun _ => Only.setGnss _

theorem askSearch_chans (s : State) (x : SearchTarget) : (askSearch s x).gnss.chans = s.gnss.chans := by
  unfold askSearch
  split <;> rfl

theorem foldl_askSearch_chans (l : List SearchTarget) (s : State) : (l.foldl askSearch s).gnss.chans = s.gnss.chans := by
  induction l generalizing s with
  | nil => rfl
  | cons x l ih => rw [List.foldl_cons, ih, askSearch_chans]

/-- A channel for a request is an unassigned one, or one of low priority. -/
theorem chanFor_spec {s : State} {p i : Nat} (h : chanFor s p = some i) : (chanOf s i).state = 0 ∨ 4 ≤ chanPrio s (chanOf s i) := by
  unfold chanFor at h
  split at h
  · next j hj =>
    cases h
    obtain ⟨hlt, hfree, -⟩ := List.findIdx?_eq_some_iff_getElem.mp hj
    left
    have hat : chanOf s i = s.gnss.chans[i] := List.getD_eq_getElem _ _ hlt
    simp only [Bool.and_eq_true, beq_iff_eq] at hfree
    rw [hat, hfree.1]
  · split at h
    · exact absurd h nofun
    · right
      refine foldl_choice (P := fun j => 4 ≤ chanPrio s (chanOf s j)) (fun best j => ?_) h
      split
      · exact .inl rfl
      · next hlow =>
        split
        · split
          · exact .inr ⟨rfl, Nat.le_of_not_lt hlow⟩
          · exact .inl rfl
        · exact .inr ⟨rfl, Nat.le_of_not_lt hlow⟩

/-- A request gets a channel, or waits. -/
theorem assignOne_cases (s : State) : assignOne s = s ∨ ∃ (i p : Nat) (c : Chan) (l : List SearchTarget), chanFor s p = some i ∧
    assignOne s = modChan i (fun _ => c) { s with gnss := { s.gnss with asks := l } } := by
  unfold assignOne
  split
  · exact .inl rfl
  · split
    · exact .inl rfl
    · next hfor => exact .inr ⟨_, _, _, _, hfor, rfl⟩

theorem assignOne_only (s : State) : Only [.gnss] s (assignOne s) := by
  obtain h | ⟨i, p, c, l, -, h⟩ := assignOne_cases s <;> rw [h]
  · exact Only.refl
  · exact (Only.setGnss _).trans (modChan_only _ _ _)

theorem assignOne_length (s : State) : (assignOne s).gnss.chans.length = s.gnss.chans.length := by
  obtain h | ⟨i, p, c, l, -, h⟩ := assignOne_cases s <;> rw [h]
  exact modChan_length _ _ _

/-- A channel that re-acquires keeps its satellite. -/
theorem assignOne_keeps {s : State} {k : Nat} (h : lostNow s (chanOf s k) = true) : chanOf (assignOne s) k = chanOf s k := by
  obtain hs | ⟨i, p, c, l, hfor, hs⟩ := assignOne_cases s <;> rw [hs]
  have hacq : (chanOf s k).state = 1 := by
    simp only [lostNow, Bool.and_eq_true, beq_iff_eq] at h
    exact h.1
  have hprio : chanPrio s (chanOf s k) = 1 := if_pos h
  refine chanOf_modChan_ne (fun hik => ?_) _
  subst hik
  have hspec := chanFor_spec hfor
  rw [hacq, hprio] at hspec
  omega

theorem foldl_assignOne_spec (l : List Nat) (s : State) :
    Only [.gnss] s (l.foldl (fun s _ => assignOne s) s) ∧
      (l.foldl (fun s _ => assignOne s) s).gnss.chans.length = s.gnss.chans.length ∧
      ∀ k, lostNow s (chanOf s k) = true → chanOf (l.foldl (fun s _ => assignOne s) s) k = chanOf s k := by
  induction l generalizing s with
  | nil => exact ⟨Only.refl, rfl, fun _ _ => rfl⟩
  | cons _ l ih =>
    obtain ⟨honly, hlen, hkept⟩ := ih (assignOne s)
    refine ⟨(assignOne_only s).trans honly, hlen.trans (assignOne_length s), fun k hk => ?_⟩
    have hone := assignOne_keeps hk
    have htime : (assignOne s).time = s.time := (assignOne_only s).2 .time (by decide)
    exact (hkept k (by rw [hone, lostNow, htime]; exact hk)).trans hone

theorem assigned_spec (s : State) : Only [.gnss] s (assigned s) ∧ (assigned s).gnss.chans.length = s.gnss.chans.length ∧
    ∀ k, lostNow s (chanOf s k) = true → chanOf (assigned s) k = chanOf s k :=
  foldl_assignOne_spec _ s

theorem serveSearches_only (s : State) : Only [.gnss] s (serveSearches s) :=
  (assigned_spec s).1.trans (serveSearches_searches s).frame

theorem serveSearches_length (s : State) : (serveSearches s).gnss.chans.length = s.gnss.chans.length :=
  (serveSearches_searches s).length.trans (assigned_spec s).2.1

theorem serveSearches_keeps {s : State} {k : Nat} (h : lostNow s (chanOf s k) = true) :
    chanOf (serveSearches s) k = { chanOf s k with searchAt := (chanOf (serveSearches s) k).searchAt } := by
  rw [← (assigned_spec s).2.2 k h]
  exact (serveSearches_searches s).chan k

end Sys2Proof.Machine
end

section
/-! SUPPORT. The rows of the tracking channels (R155 to R160, R163). -/

namespace Sys2Proof.Machine

set_option Elab.async false

/-! TRACKING_LOOP (R154 to R156). -/

/-- A millisecond has passed at elapsed time `n`, and the channels that have to be IDLE are freed. -/
def pruned (n : Nat) (s : State) : State :=
  let s1 := elapseTo n s
  { s1 with gnss := { s1.gnss with loopAt := s1.time.elapsed, chans := s1.gnss.chans.map (pruneChan s1) } }

theorem pruned_only (n : Nat) (s : State) : Only [.time, .evt, .gnss] s (pruned n s) :=
  (elapseTo_only n s).comp (Only.setGnss _)

theorem pruned_elapsed (n : Nat) (s : State) : n ≤ (pruned n s).time.elapsed :=
  le_elapsed_elapseTo n s

theorem pruned_asks (n : Nat) (s : State) : (pruned n s).gnss.asks = s.gnss.asks := by
  rw [pruned, elapseTo_gnss]

theorem pruned_length (n : Nat) (s : State) : (pruned n s).gnss.chans.length = s.gnss.chans.length := by
  rw [pruned, List.length_map, elapseTo_gnss]

theorem loopStart_eq (asks : List SearchTarget) (s : State) :
    loopStart asks s = serveSearches (asks.foldl askSearch (pruned (s.gnss.loopAt + ms 1) s)) := rfl

theorem pruneChan_reset (s : State) : pruneChan s chanReset = chanReset :=
  by simp [pruneChan, chanReset]

theorem pruneChan_of_cfg {s t : State} (hcfg : t.cfg = s.cfg) (htime : t.time.elapsed = s.time.elapsed) (c : Chan) :
    pruneChan t c = pruneChan s c := by
  simp only [pruneChan, enabledChan, pNat_of_cfg hcfg, htime]
  rfl

theorem chanOf_pruned (n : Nat) (s : State) (k : Nat) : chanOf (pruned n s) k = pruneChan (pruned n s) (chanOf s k) := by
  have hsame : pruneChan (pruned n s) = pruneChan (elapseTo n s) := funext (pruneChan_of_cfg rfl rfl)
  rw [hsame]
  simp only [chanOf, at_, pruned, elapseTo_gnss, List.getD_eq_getElem?_getD, List.getElem?_map]
  cases s.gnss.chans[k]?
  · exact (pruneChan_reset _).symm
  · rfl

theorem loopStart_frame (asks : List SearchTarget) (s : State) : Only [.gnss] (pruned (s.gnss.loopAt + ms 1) s) (loopStart asks s) := by
  rw [loopStart_eq]
  exact (Only.refl.foldl _ askSearch_only asks).trans (serveSearches_only _)

theorem loopStart_spec (asks : List SearchTarget) (s : State) : Only [.time, .evt, .gnss] s (loopStart asks s) ∧
    s.gnss.loopAt + ms 1 ≤ (loopStart asks s).time.elapsed ∧ (loopStart asks s).gnss.chans.length = s.gnss.chans.length := by
  have hframe := loopStart_frame asks s
  have htime : (loopStart asks s).time = (pruned (s.gnss.loopAt + ms 1) s).time := hframe.2 .time (by decide)
  refine ⟨(pruned_only _ s).comp hframe, ?_, ?_⟩
  · rw [htime]
    exact pruned_elapsed _ s
  · rw [loopStart_eq, serveSearches_length, foldl_askSearch_chans, pruned_length]

theorem chanOf_loopStart_noAsks {s : State} (h : s.gnss.asks = []) (k : Nat) :
    chanOf (loopStart [] s) k = { pruneChan (loopStart [] s) (chanOf s k) with searchAt := (chanOf (loopStart [] s) k).searchAt } := by
  have hframe := loopStart_frame [] s
  have hsearch : Searches (pruned (s.gnss.loopAt + ms 1) s) (loopStart [] s) := serveSearches_of_noAsks (by rw [pruned_asks, h])
  have hprune : pruneChan (loopStart [] s) (chanOf s k) = chanOf (pruned (s.gnss.loopAt + ms 1) s) k := by
    rw [chanOf_pruned]
    exact pruneChan_of_cfg (hframe.2 .cfg (by decide)) (congrArg TimeState.elapsed (hframe.2 .time (by decide))) _
  rw [hprune]
  exact hsearch.chan k

/-- The loops of one channel move it by one state at most. -/
theorem loopChan_state_le (s : State) (e : Nat) (xs : List (List Iq)) (o : LoopObs) (c : Chan) :
    (loopChan s e xs o c).state ≤ max c.state (min 5 (c.state + 1)) := by
  unfold loopChan
  extract_lets weak bad good c1 held c2
  have hstate : c2.state = c.state := by
    unfold c2
    split <;> rfl
  split <;> rename_i hcase
  · split <;> simp <;> omega
  · split <;> simp <;> omega
  · split <;> simp <;> omega
  · omega

/-- One observation taken. -/
def observe (xs : List (List Iq)) (s : State) (o : LoopObs) : State :=
  modChan o.ch (fun c => if 2 ≤ c.state then loopChan s s.time.elapsed xs o c else c) s

theorem trackingLoop_runs {s : State} (hup : gnssUp s = true) (xs : List (List Iq)) (asks : List SearchTarget) (obs : List LoopObs) :
    exec (.trackingLoop xs asks obs) s = .next (obs.foldl (observe xs) (loopStart asks s)) :=
  if_neg (by simp [hup])

theorem foldl_observe_only (xs : List (List Iq)) (obs : List LoopObs) (s : State) : Only [.gnss] s (obs.foldl (observe xs) s) :=
  Only.refl.foldl _ (fun _ _ => modChan_only _ _ _) _

theorem chanOf_foldl_observe {xs : List (List Iq)} {obs : List LoopObs} {k : Nat} (h : ∀ o ∈ obs, o.ch ≠ k) (s : State) :
    chanOf (obs.foldl (observe xs) s) k = chanOf s k := by
  induction obs generalizing s with
  | nil => rfl
  | cons o obs ih =>
    rw [List.foldl_cons, ih (fun p hp => h p (List.mem_cons_of_mem _ hp)), observe, chanOf_modChan_ne (h o List.mem_cons_self)]

theorem trackingLoop_unobserved {s : State} (hup : gnssUp s = true) (xs : List (List Iq)) (asks : List SearchTarget) (obs : List LoopObs) :
    ∃ t : State, exec (.trackingLoop xs asks obs) s = .next t ∧ Only [.time, .evt, .gnss] s t ∧
      ∀ k, (∀ o ∈ obs, o.ch ≠ k) → chanOf t k = chanOf (loopStart asks s) k :=
  ⟨_, trackingLoop_runs hup xs asks obs, (loopStart_spec asks s).1.comp (foldl_observe_only xs obs _), fun _ hk => chanOf_foldl_observe hk _⟩

theorem trackingLoop_observed {s : State} (hup : gnssUp s = true) (xs : List (List Iq)) (asks : List SearchTarget) (o : LoopObs)
    (hch : o.ch < s.gnss.chans.length) :
    ∃ t : State, exec (.trackingLoop xs asks [o]) s = .next t ∧ s.gnss.loopAt + ms 1 ≤ t.time.elapsed ∧ Only [.time, .evt, .gnss] s t ∧
      let v := loopStart asks s
      let c := chanOf v o.ch
      chanOf t o.ch = (if 2 ≤ c.state then loopChan v t.time.elapsed xs o c else c) ∧
        (chanOf t o.ch).state ≤ max c.state (min 5 (c.state + 1)) := by
  obtain ⟨hstart, hwait, hlen⟩ := loopStart_spec asks s
  refine ⟨_, trackingLoop_runs hup xs asks [o], ?_⟩
  generalize loopStart asks s = v at hstart hwait hlen ⊢
  have hchan : chanOf (observe xs v o) o.ch =
      if 2 ≤ (chanOf v o.ch).state then loopChan v v.time.elapsed xs o (chanOf v o.ch) else chanOf v o.ch :=
    chanOf_modChan_same (by rwa [hlen]) _
  refine ⟨hwait, hstart.comp (modChan_only _ _ v), hchan, ?_⟩
  rw [List.foldl_cons, List.foldl_nil, hchan]
  split
  · exact loopChan_state_le _ _ _ _ _
  · exact Nat.le_max_left _ _

/-! CHANNEL_LOSS_OF_LOCK (R156). -/

/-- The baseband while time moves on. -/
theorem elapseTo_spec (n : Nat) (s : State) : ∃ u : State, elapseTo n s = u ∧ Only [.time, .evt] s u ∧ n ≤ u.time.elapsed ∧ u.gnss = s.gnss :=
  ⟨_, rfl, elapseTo_only n s, le_elapsed_elapseTo n s, elapseTo_gnss n s⟩

/-- A channel that has lost lock at elapsed time `e`. -/
def Chan.lost (e : Nat) (c : Chan) : Chan :=
  { c with state := 1, lostAt := some e, searchAt := none, lockSince := none, slipped := true, weakSince := none, phaseBad := none,
           settled := none, phaseGood := none }

/-- The instant at which a channel has lost lock. -/
def lossDue (c : Chan) : Option Nat :=
  match c.weakSince, c.phaseBad with
  | some a, some b => some (min (a + ms 1000) (b + ms 200))
  | some a, none => some (a + ms 1000)
  | none, some b => some (b + ms 200)
  | none, none => none

theorem lossDue_isSome {c : Chan} (h : c.weakSince ≠ none ∨ c.phaseBad ≠ none) : ∃ n, lossDue c = some n := by
  unfold lossDue
  split
  · exact ⟨_, rfl⟩
  · exact ⟨_, rfl⟩
  · exact ⟨_, rfl⟩
  · next hweak hphase => exact absurd h (by simp [hweak, hphase])

theorem channelLossOfLock_eq (ch : Fin 256) (s : State) : exec (.channelLossOfLock ch) s =
    match lossDue (chanOf s ch.val) with
    | none => .next s
    | some n => if (chanOf s ch.val).state < 2 then .next s
      else .next (serveSearches (modChan ch.val (Chan.lost (elapseTo n s).time.elapsed) (elapseTo n s))) := rfl

theorem channelLossOfLock_idle {ch : Fin 256} {s : State} (h : (chanOf s ch.val).state < 2) : exec (.channelLossOfLock ch) s = .next s := by
  rw [channelLossOfLock_eq]
  split
  · rfl
  · rw [if_pos h]

theorem channelLossOfLock_loses {ch : Fin 256} {s : State} (hlen : ch.val < s.gnss.chans.length) (hstate : 2 ≤ (chanOf s ch.val).state)
    (hbad : (chanOf s ch.val).weakSince ≠ none ∨ (chanOf s ch.val).phaseBad ≠ none) :
    ∃ t : State, exec (.channelLossOfLock ch) s = .next t ∧ (chanOf t ch.val).state = 1 ∧ (chanOf t ch.val).lockSince = none ∧
      (chanOf t ch.val).slipped = true ∧ (chanOf t ch.val).svid = (chanOf s ch.val).svid ∧ Only [.time, .evt, .gnss] s t ∧
      (∀ e, (chanOf s ch.val).phaseBad = some e → (chanOf s ch.val).weakSince = none → e + ms 200 ≤ t.time.elapsed) := by
  obtain ⟨n, hdue⟩ := lossDue_isSome hbad
  have hexec := channelLossOfLock_eq ch s
  simp only [hdue, Nat.not_lt.mpr hstate, if_false] at hexec
  refine ⟨_, hexec, ?_⟩
  obtain ⟨u, hu, hwait, hn, hgnss⟩ := elapseTo_spec n s
  rw [hu]
  have hlost : chanOf (modChan ch.val (Chan.lost u.time.elapsed) u) ch.val = (chanOf s ch.val).lost u.time.elapsed := by
    rw [chanOf_modChan_same (by rwa [hgnss]), chanOf_of_gnss hgnss]
  have hagain : lostNow (modChan ch.val (Chan.lost u.time.elapsed) u) ((chanOf s ch.val).lost u.time.elapsed) = true := by
    simp [lostNow, Chan.lost, modChan]
  have hkept := serveSearches_keeps (hlost ▸ hagain)
  have hserve := serveSearches_only (modChan ch.val (Chan.lost u.time.elapsed) u)
  rw [hkept, hlost]
  refine ⟨rfl, rfl, rfl, rfl, hwait.comp ((modChan_only _ _ u).trans hserve), fun e hphase hweak => ?_⟩
  have hdue' : e + ms 200 = n := by simpa [lossDue, hphase, hweak] using hdue
  have htime : (serveSearches (modChan ch.val (Chan.lost u.time.elapsed) u)).time = u.time := hserve.2 .time (by decide)
  rwa [htime, hdue']

/-! SEARCH_COMPLETE (R157, R159). -/

/-- Loops that start at a frequency, a code rate and a code phase. -/
def lockTracker (carrHz codeRate codePh : F64) : Tracker := { trackerReset with carrHz := carrHz, codeRate := codeRate, codePh := codePh }

theorem lockTracker_carrHz (f r p : F64) : (lockTracker f r p).carrHz = f := rfl

/-- A channel that enters PULL_IN with its loops. -/
def Chan.pullIn (elev : Nat) (trk : Tracker) (c : Chan) : Chan :=
  { c with state := 2, elev := elev, lostAt := none, searchAt := none, trk := trk }

theorem Chan.pullIn_svid (elev : Nat) (trk : Tracker) (c : Chan) : (c.pullIn elev trk).svid = c.svid := rfl

theorem Chan.pullIn_trk (elev : Nat) (trk : Tracker) (c : Chan) : (c.pullIn elev trk).trk = trk := rfl

/-- A channel that has found its satellite. -/
def Chan.found (x : SearchTarget) (c : Chan) : Chan :=
  c.pullIn x.elev (lockTracker (dofInt x.doppler) (dofInt (chipRate c.signal)) (ddiv (dofInt x.halfChips) (dofInt 2)))

theorem Chan.found_carrHz (x : SearchTarget) (c : Chan) : (c.found x).trk.carrHz = dofInt x.doppler := by
  rw [Chan.found, Chan.pullIn_trk, lockTracker_carrHz]

/-- A channel whose search has found nothing: it is searched for again, or free. -/
def Chan.missed (again : Bool) (c : Chan) : Chan :=
  if again then { c with searchAt := none } else { c with state := 0, svid := 0, lostAt := none, searchAt := none }

section
variable {ch : Fin 256} {x : SearchTarget} {n : Nat} {s : State}

theorem searchComplete_idle {b : Bool} (h : searchEnd s b (chanOf s ch.val) = none ∨ (chanOf s ch.val).state ≠ 1 ∨
      b = true ∧ (sameSignal x (chanOf s ch.val) && searchable s x && inWindow s ch.val x) = false) :
    exec (.searchComplete ch b x) s = .next s := by
  show execSearchComplete ch b x s = _
  unfold execSearchComplete
  extract_lets c
  split
  · rfl
  · next hend =>
    extract_lets
    obtain hnone | hstate | ⟨rfl, hnot⟩ := h
    · exact absurd (hnone.symm.trans hend) nofun
    · rw [if_pos (by simp [c, hstate])]
    · split
      · rfl
      · rw [if_pos rfl, if_neg (Bool.eq_false_iff.mp hnot)]

variable (hup : gnssUp s = true) (hstate : (chanOf s ch.val).state = 1)
include hup hstate

theorem searchComplete_finds (hend : searchEnd s true (chanOf s ch.val) = some n)
    (hmatch : (sameSignal x (chanOf s ch.val) && searchable s x && inWindow s ch.val x) = true) :
    exec (.searchComplete ch true x) s = .next (serveSearches (modChan ch.val (Chan.found x) (elapseTo n s))) := by
  show execSearchComplete ch true x s = _
  simp only [execSearchComplete, hend, hup, hstate, hmatch, Bool.not_true, bne_self_eq_false, Bool.or_self, Bool.false_eq_true, if_false, if_true]
  rfl

theorem searchComplete_misses (hend : searchEnd s false (chanOf s ch.val) = some n) : exec (.searchComplete ch false x) s =
    .next (serveSearches (modChan ch.val (Chan.missed (lostNow (elapseTo n s) (chanOf s ch.val))) (elapseTo n s))) := by
  show execSearchComplete ch false x s = _
  simp only [execSearchComplete, hend, hup, hstate, Bool.not_true, bne_self_eq_false, Bool.or_self, Bool.false_eq_true, if_false]
  cases lostNow (elapseTo n s) (chanOf s ch.val) <;> rfl

omit hup hstate in
/-- A channel changed at the end of a search, where no request waits: channels in ACQ only begin searches. -/
theorem serve_modChan_spec {i : Nat} (hlen : i < s.gnss.chans.length) (hasks : s.gnss.asks = []) (f : Chan → Chan) :
    Searches (modChan i f s) (serveSearches (modChan i f s)) ∧ Only [.gnss] s (serveSearches (modChan i f s)) ∧
      chanOf (serveSearches (modChan i f s)) i = { f (chanOf s i) with searchAt := (chanOf (serveSearches (modChan i f s)) i).searchAt } := by
  have hsearch := serveSearches_of_noAsks (s := modChan i f s) hasks
  refine ⟨hsearch, (modChan_only i f s).trans hsearch.frame, ?_⟩
  rw [← chanOf_modChan_same hlen f]
  exact hsearch.chan i

theorem searchComplete_finds_spec (hlen : ch.val < s.gnss.chans.length) (hend : searchEnd s true (chanOf s ch.val) = some n)
    (hsame : sameSignal x (chanOf s ch.val) = true) (hable : searchable s x = true) (hwindow : inWindow s ch.val x = true)
    (hasks : s.gnss.asks = []) :
    ∃ t : State, exec (.searchComplete ch true x) s = .next t ∧ (chanOf t ch.val).state = 2 ∧ (chanOf t ch.val).searchAt = none ∧
      (chanOf t ch.val).lostAt = none ∧ (chanOf t ch.val).trk.carrHz = dofInt x.doppler ∧ (chanOf t ch.val).svid = x.svid ∧
      n ≤ t.time.elapsed ∧ Only [.time, .evt, .gnss] s t ∧
      ∀ k, k ≠ ch.val → chanOf t k = { chanOf s k with searchAt := (chanOf t k).searchAt } := by
  refine ⟨_, searchComplete_finds hup hstate hend (by simp [hsame, hable, hwindow]), ?_⟩
  obtain ⟨u, hu, hwait, hn, hgnss⟩ := elapseTo_spec n s
  rw [hu]
  have hchan : chanOf u = chanOf s := funext (chanOf_of_gnss hgnss)
  have hlenU : ch.val < u.gnss.chans.length := by rwa [hgnss]
  obtain ⟨hsearch, honly, -⟩ := serve_modChan_spec hlenU (by rw [hgnss, hasks]) (Chan.found x)
  have hfound : chanOf (modChan ch.val (Chan.found x) u) ch.val = (chanOf s ch.val).found x := by rw [chanOf_modChan_same hlenU, hchan]
  have htime : (serveSearches (modChan ch.val (Chan.found x) u)).time = u.time := honly.2 .time (by decide)
  rw [hsearch.kept ch.val (by rw [hfound]; exact (by decide : 2 ≠ 1)), hfound, htime]
  refine ⟨rfl, rfl, rfl, Chan.found_carrHz x _, ?_, hn, hwait.comp honly, fun k hk => ?_⟩
  · simp only [sameSignal, Bool.and_eq_true, beq_iff_eq] at hsame
    rw [Chan.found, Chan.pullIn_svid, hsame.2]
  · have hother : chanOf (modChan ch.val (Chan.found x) u) k = chanOf s k := by rw [chanOf_modChan_ne (Ne.symm hk), hchan]
    have hsearched := hsearch.chan k
    rwa [hother] at hsearched

theorem searchComplete_misses_spec (hlen : ch.val < s.gnss.chans.length) (hend : searchEnd s false (chanOf s ch.val) = some n)
    (hasks : s.gnss.asks = []) :
    ∃ t : State, exec (.searchComplete ch false x) s = .next t ∧ n ≤ t.time.elapsed ∧ Only [.time, .evt, .gnss] s t ∧
      (lostNow (elapseTo n s) (chanOf s ch.val) = true → (chanOf t ch.val).state = 1 ∧ (chanOf t ch.val).svid = (chanOf s ch.val).svid) ∧
      (lostNow (elapseTo n s) (chanOf s ch.val) = false → (chanOf t ch.val).state = 0 ∧ (chanOf t ch.val).svid = 0) := by
  refine ⟨_, searchComplete_misses hup hstate hend, ?_⟩
  obtain ⟨u, hu, hwait, hn, hgnss⟩ := elapseTo_spec n s
  rw [hu]
  generalize lostNow u (chanOf s ch.val) = again
  obtain ⟨-, honly, hmissed⟩ := serve_modChan_spec (s := u) (i := ch.val) (by rwa [hgnss]) (by rw [hgnss, hasks]) (Chan.missed again)
  have htime : (serveSearches (modChan ch.val (Chan.missed again) u)).time = u.time := honly.2 .time (by decide)
  rw [hmissed, htime, chanOf_of_gnss hgnss]
  refine ⟨hn, hwait.comp honly, ?_, ?_⟩
  · rintro rfl
    exact ⟨hstate, rfl⟩
  · rintro rfl
    exact ⟨rfl, rfl⟩

end

/-! NAV_UNIT_DECODED (R126, R160, R163). -/

/-- A channel with its latest unit; `stamp` is when the unit began. -/
def Chan.withUnit (body : List Byte) (ok : Bool) (stamp : WhenRec) (c : Chan) : Chan :=
  { c with navFormat := navFormatOf c.signal, navCheck := if ok then 0 else 1, navBits := unitBits c.signal, navData := body, navStamp := stamp }

theorem useUnit_cases (c : Chan) (u : NavUnit) (body : List Byte) (s : State) :
    let s1 := { s with gnss := if u.almanac then { s.gnss with alm := keyPut (unitKey c u.page) body s.gnss.alm }
      else { s.gnss with eph := keyPut (unitKey c u.page) body s.gnss.eph } }
    useUnit c u body s = s1 ∨ ∃ o, useUnit c u body s = publish 0x0031 (vI32 o) { s1 with time := { s1.time with utcOffset := o } } := by
  unfold useUnit
  cases u.utc with
  | none => exact .inl rfl
  | some o => exact .inr ⟨o, rfl⟩

theorem useUnit_gnss (c : Chan) (u : NavUnit) (body : List Byte) (s : State) :
    (useUnit c u body s).gnss = if u.almanac then { s.gnss with alm := keyPut (unitKey c u.page) body s.gnss.alm }
      else { s.gnss with eph := keyPut (unitKey c u.page) body s.gnss.eph } := by
  obtain h | ⟨o, h⟩ := useUnit_cases c u body s <;> rw [h]
  exact publish_gnss _ _ _

theorem useUnit_only (c : Chan) (u : NavUnit) (body : List Byte) (s : State) : Only [.time, .sig, .gnss] s (useUnit c u body s) := by
  obtain h | ⟨o, h⟩ := useUnit_cases c u body s <;> rw [h]
  · exact (Only.setGnss _).mono (by decide)
  · exact ((Only.setGnss _).comp (rs := [.time, .gnss]) (Only.setTime _)).comp (publish_only _ _ _)

section
variable {ch : Fin 256} {u : NavUnit} {s : State}

theorem navUnitDecoded_idle (h : (chanOf s ch.val).state ≠ 5) : exec (.navUnitDecoded ch u) s = .next s :=
  if_pos (by simp [h])

/-- The state with the unit kept at its channel. -/
def unitKept (ch : Nat) (u : NavUnit) (s : State) : State :=
  let c := chanOf s ch
  let body := unitBody (unitBits c.signal) u.bits
  modChan ch (Chan.withUnit body (u.decoded && unitCheck c.signal body) (some ⟨u.first.sec, if timeValid s then u.first.ns else 2 ^ 32 - 1⟩)) s

theorem chanOf_unitKept {i : Nat} (hlen : i < s.gnss.chans.length) (u : NavUnit) :
    let c := chanOf s i
    let body := unitBody (unitBits c.signal) u.bits
    (chanOf (unitKept i u s) i).navCheck = (if (u.decoded && unitCheck c.signal body) = true then 0 else 1) ∧
      (chanOf (unitKept i u s) i).navData = body := by
  rw [unitKept, chanOf_modChan_same hlen]
  exact ⟨rfl, rfl⟩

theorem navUnitDecoded_runs (hup : gnssUp s = true) (hstate : (chanOf s ch.val).state = 5) :
    let c := chanOf s ch.val
    let body := unitBody (unitBits c.signal) u.bits
    exec (.navUnitDecoded ch u) s = .next (if (u.decoded && unitCheck c.signal body) = true then useUnit c u body (unitKept ch.val u s)
      else unitKept ch.val u s) :=
  if_neg (by simp [hup, hstate])

theorem navUnitDecoded_passes (hup : gnssUp s = true) (hlen : ch.val < s.gnss.chans.length) (hstate : (chanOf s ch.val).state = 5) :
    let c := chanOf s ch.val
    let body := unitBody (unitBits c.signal) u.bits
    (u.decoded && unitCheck c.signal body) = true → ∃ t : State, exec (.navUnitDecoded ch u) s = .next t ∧ (chanOf t ch.val).navCheck = 0 ∧
      (chanOf t ch.val).navData = body ∧ Only [.time, .sig, .gnss] s t ∧
      (u.almanac = false → keyGet (unitKey c u.page) t.gnss.eph = some body ∧ t.gnss.alm = s.gnss.alm) ∧
      (u.almanac = true → keyGet (unitKey c u.page) t.gnss.alm = some body ∧ t.gnss.eph = s.gnss.eph) := by
  intro c body hok
  obtain ⟨hcheck, hdata⟩ := chanOf_unitKept hlen u
  have hgnss := useUnit_gnss c u body (unitKept ch.val u s)
  have hchan : chanOf (useUnit c u body (unitKept ch.val u s)) ch.val = chanOf (unitKept ch.val u s) ch.val := by
    rw [chanOf, hgnss]
    split <;> rfl
  refine ⟨useUnit c u body (unitKept ch.val u s), (navUnitDecoded_runs hup hstate).trans (by rw [if_pos hok]), ?_, ?_,
    (modChan_only _ _ s).comp (useUnit_only c u body _), ?_, ?_⟩
  · rw [hchan, hcheck, if_pos hok]
  · rw [hchan, hdata]
  · intro heph
    rw [hgnss, heph]
    exact ⟨keyGet_keyPut_same _ _ _, rfl⟩
  · intro halm
    rw [hgnss, halm]
    exact ⟨keyGet_keyPut_same _ _ _, rfl⟩

theorem navUnitDecoded_fails (hup : gnssUp s = true) (hlen : ch.val < s.gnss.chans.length) (hstate : (chanOf s ch.val).state = 5) :
    let c := chanOf s ch.val
    let body := unitBody (unitBits c.signal) u.bits
    (u.decoded && unitCheck c.signal body) = false → ∃ t : State, exec (.navUnitDecoded ch u) s = .next t ∧ (chanOf t ch.val).navCheck = 1 ∧
      (chanOf t ch.val).navData = body ∧ Only [.gnss] s t ∧ t.gnss.eph = s.gnss.eph ∧ t.gnss.alm = s.gnss.alm := by
  intro c body hbad
  have hbad' : ¬(u.decoded && unitCheck c.signal body) = true := Bool.eq_false_iff.mp hbad
  obtain ⟨hcheck, hdata⟩ := chanOf_unitKept hlen u
  exact ⟨unitKept ch.val u s, (navUnitDecoded_runs hup hstate).trans (by rw [if_neg hbad']),
    by rw [hcheck, if_neg hbad'], hdata, modChan_only _ _ s, rfl, rfl⟩

/-! EPHEMERIS_COPY (R160). -/

theorem ephemerisCopy_copies (hup : gnssUp s = true) (hbow : bowRaised s = false) :
    exec .ephemerisCopy s = .next (copyEphemeris (elapseTo (s.gnss.ephAt + ms 900000) s)) :=
  congrArg Host.Outcome.next (if_pos (by simp [hup, hbow]))

theorem ephemerisCopy_held (hbow : bowRaised s = true) : exec .ephemerisCopy s = .next s :=
  congrArg Host.Outcome.next (if_neg (by simp [hbow]))

end

/-- Settles O33: each row by what it does to its channel, and to the others where it serves the searches. -/
theorem gnssChannelRows : Obligations.GnssChannelRows := by
  intro s hup
  refine ⟨trackingLoop_observed hup, trackingLoop_unobserved hup, chanOf_loopStart_noAsks,
    fun ch => channelLossOfLock_loses, fun ch => channelLossOfLock_idle, fun ch x n hlen hstate hend hsame hable hwindow hasks => ?_,
    fun ch x b => searchComplete_idle, fun ch x n hlen hstate hend hasks => searchComplete_misses_spec hup hstate hlen hend hasks,
    fun ch u hlen hstate => ⟨navUnitDecoded_passes hup hlen hstate, navUnitDecoded_fails hup hlen hstate⟩,
    fun ch u => navUnitDecoded_idle, fun hbow => ?_, ephemerisCopy_held⟩
  · exact searchComplete_finds_spec hup hstate hlen hend hsame hable hwindow hasks
  · refine ⟨_, ephemerisCopy_copies hup hbow, ?_, le_elapsed_elapseTo _ s, (elapseTo_only _ s).comp (Only.setGnss _)⟩
    rw [copyEphemeris, elapseTo_gnss]

end Sys2Proof.Machine
end

section
/-! SUPPORT. Measurement epochs and what is published after them (R165 to R172, R322). -/

namespace Sys2Proof.Machine

set_option Elab.async false

/-! Signals published. -/

theorem publishAs_only (id : Nat) (v : SigVal) (s : State) : Only [.sig] s (publishAs id v s) :=
  Only.setSig _

theorem keyGet_keyPut_ne {α : Type} {k j : Nat} (h : k ≠ j) (v : α) (l : List (Nat × α)) : keyGet j (keyPut k v l) = keyGet j l := by
  induction l with
  | nil => simp [keyPut, keyGet, h]
  | cons p l ih =>
    obtain ⟨k', v'⟩ := p
    unfold keyPut
    split
    · simp [keyGet, h]
    · split
      · next heq =>
        subst heq
        simp [keyGet, h]
      · simp only [keyGet, List.find?_cons] at ih ⊢
        split
        · rfl
        · exact ih

/-- The newest publication of a signal. -/
def newest (id : Nat) (s : State) : Option SigVal := (keyGet id s.sig.tab).bind List.head?

theorem newest_publishAs_same (id : Nat) (v : SigVal) (s : State) : newest id (publishAs id v s) = some v := by
  rw [newest, publishAs, keyGet_keyPut_same]
  rfl

theorem newest_publishAs_ne {id n : Nat} (h : id ≠ n) (v : SigVal) (s : State) : newest n (publishAs id v s) = newest n s := by
  rw [newest, publishAs, keyGet_keyPut_ne h, newest]

theorem publishSol_only (a e : Nat) (x : Sol) (s : State) : Only [.sig] s (publishSol a e x s) := by
  unfold publishSol
  exact (((((publishAs_only _ _ _).trans (publishAs_only _ _ _)).trans (publishAs_only _ _ _)).trans (publishAs_only _ _ _)).trans
    (publishAs_only _ _ _)).trans (publishAs_only _ _ _)

theorem publishBase_only (q e : Nat) (x : Base) (s : State) : Only [.sig] s (publishBase q e x s) := by
  unfold publishBase
  exact (((publishAs_only _ _ _).trans (publishAs_only _ _ _)).trans (publishAs_only _ _ _)).trans (publishAs_only _ _ _)

theorem publishSol_newest (a e : Nat) (x : Sol) (s : State) :
    newest (0x0200 + 16 * a) (publishSol a e x s) = some ⟨vF64 x.lat, x.kind == 0, e + 10000000, some e, none, none⟩ := by
  unfold publishSol
  extract_lets arr put
  have hother : ∀ (k : Nat) (v : Value) (u : State), k ≠ 0 → newest (0x0200 + 16 * a) (put k v u) = newest (0x0200 + 16 * a) u :=
    fun k v u hk => newest_publishAs_ne (by omega) _ u
  rw [hother 5 _ _ (by decide), hother 4 _ _ (by decide), hother 3 _ _ (by decide), hother 2 _ _ (by decide), hother 1 _ _ (by decide)]
  exact newest_publishAs_same _ _ s

theorem publishBase_newest (q e : Nat) (x : Base) (s : State) :
    newest (0x0240 + 8 * q) (publishBase q e x s) = some ⟨vF32 x.az, x.state == 0, e + 10000000, some e, none, none⟩ := by
  unfold publishBase
  extract_lets arr put
  have hother : ∀ (k : Nat) (v : Value) (u : State), k ≠ 0 → newest (0x0240 + 8 * q) (put k v u) = newest (0x0240 + 8 * q) u :=
    fun k v u hk => newest_publishAs_ne (by omega) _ u
  rw [hother 3 _ _ (by decide), hother 2 _ _ (by decide), hother 1 _ _ (by decide)]
  exact newest_publishAs_same _ _ s

/-! MEASUREMENT_EPOCH (R165 to R172). -/

theorem leaveJobs_only (s : State) : Only [.gnss] s (leaveJobs s) :=
  Only.ite (fun _ => Only.setGnss _) fun _ => Only.setGnss _

theorem leaveJobs_kept (s : State) : (leaveJobs s).gnss.chans = s.gnss.chans ∧ (leaveJobs s).gnss.bands = s.gnss.bands := by
  unfold leaveJobs
  dsimp only
  split <;> exact ⟨rfl, rfl⟩

/-- Jobs fall due for the antennas and the pairs of the parameters, by the faults of the bands. -/
theorem solJobs_of_bands {s t : State} (hcfg : t.cfg = s.cfg) (hbands : t.gnss.bands = s.gnss.bands) : solJobs t = solJobs s := by
  have hband : bandOf t = bandOf s := funext fun b => by rw [bandOf, hbands, bandOf]
  have hnat : pNat t = pNat s := funext (pNat_of_cfg hcfg)
  have hon : antennaOn t = antennaOn s := funext fun a => by rw [antennaOn, hnat, hband, antennaOn]
  rw [solJobs, hon, hnat, solJobs]

/-- The solutions of an epoch are due: what was latched stands. -/
structure Solves (s t : State) : Prop where
  frame : Only [.time, .evt, .gnss] s t
  total : t.time.total = s.time.total
  latch : t.gnss.epoch = s.gnss.epoch ∧ t.gnss.pendRaw = s.gnss.pendRaw ∧ t.gnss.latched = s.gnss.latched
  chans : t.gnss.chans = s.gnss.chans
  bands : t.gnss.bands = s.gnss.bands
  jobs : t.gnss.awaiting = solJobs s
  level : pNat s 0x035D ≠ 1 → t.gnss.levelA = true ∧ t.gnss.levelIn.isSome = true

theorem Solves.recorded {s t : State} (h : Solves s t) (ev : Ev) (ps : List Byte) : Solves s (record ev ps t) := by
  have hgnss := record_gnss ev ps t
  obtain ⟨hframe, htotal, hlatch, hchans, hbands, hjobs, hlevel⟩ := h
  refine ⟨hframe.comp (record_only ev ps t), by rwa [record_time], ?_, ?_, ?_, ?_, ?_⟩
  all_goals rwa [hgnss]

theorem solveEpoch_solves (e : Nat) (sols : List SolMeas) (bases : List BaseMeas) (s : State) : Solves s (solveEpoch e sols bases s) := by
  unfold solveEpoch
  extract_lets bs fail rtk logged off _ _ s1
  have hframe : Only [.time, .evt, .gnss] s s1 := by
    apply Only.fields <;> simp [s1]
  have hsolved : Solves s s1 := by
    refine ⟨hframe, rfl, ⟨rfl, rfl, rfl⟩, rfl, rfl, rfl, fun hlog => ?_⟩
    have hlive : logged = false := beq_eq_false_iff_ne.mpr hlog
    simp [s1, hlive]
  generalize fail = f
  cases f with
  | none => exact hsolved
  | some mm => exact hsolved.recorded _ _

/-- The channels latched at an epoch `e`, with what their loops gave. -/
def latchedAt (e : Nat) (cs : List ChanMeas) (s : State) : State :=
  let g := s.gnss
  let ls := g.chans.mapIdx fun i c => latchChan s e (cs.find? (fun m => m.ch == i)) c
  { s with gnss := { g with chans := ls, bands := g.bands.map (fun b => { b with disturbed := false }), epoch := some e, pendRaw := true,
                            latched := ((List.range 256).zip ls).map fun p => (p.1, p.2.bytes p.1),
                            epochWhen := some ⟨e / 10 ^ 9, if timeValid s then e % 10 ^ 9 else 2 ^ 32 - 1⟩ } }

/-- What an epoch `e` leaves of the baseband, from `s` on. -/
structure Epoch (e : Nat) (s t : State) : Prop where
  frame : Only [.time, .evt, .gnss] s t
  epoch : t.gnss.epoch = some e
  raw : t.gnss.pendRaw = true
  latched : t.gnss.latched = ((List.range 256).zip t.gnss.chans).map fun p => (p.1, p.2.bytes p.1)
  length : t.gnss.chans.length = s.gnss.chans.length
  bands : ∀ b ∈ t.gnss.bands, b.disturbed = false
  total : t.time.total = s.time.total

theorem latchedAt_epoch (e : Nat) (cs : List ChanMeas) (s : State) : Epoch e s (latchedAt e cs s) where
  frame := (Only.setGnss _).mono (by decide)
  epoch := rfl
  raw := rfl
  latched := rfl
  length := List.length_mapIdx
  bands b hb := by
    obtain ⟨c, -, rfl⟩ := List.mem_map.mp hb
    rfl
  total := rfl

theorem Epoch.solved {e : Nat} {s t u : State} (h : Epoch e s t) (k : Solves t u) : Epoch e s u := by
  obtain ⟨hepoch, hraw, hlatched⟩ := k.latch
  exact ⟨h.frame.trans k.frame, hepoch.trans h.epoch, hraw.trans h.raw, by rw [hlatched, k.chans, h.latched], by rw [k.chans, h.length],
    by rw [k.bands]; exact h.bands, k.total.trans h.total⟩

theorem measurementEpoch_idle {s : State} (h : gnssUp s = false) (cs : List ChanMeas) (ss : List SolMeas) (bs : List BaseMeas) :
    exec (.measurementEpoch cs ss bs) s = .next s :=
  if_pos (by simp [h])

theorem measurementEpoch_spec {s : State} (hup : gnssUp s = true) (cs : List ChanMeas) (ss : List SolMeas) (bs : List BaseMeas) :
    ∃ t : State, exec (.measurementEpoch cs ss bs) s = .next t ∧
      (∃ e, t.gnss.epoch = some e ∧ e % (10 ^ 9 / max 1 (pNat s 0x0403)) = 0 ∧ e ≤ t.time.total) ∧
      t.gnss.pendRaw = true ∧ t.gnss.latched = ((List.range 256).zip t.gnss.chans).map (fun p => (p.1, p.2.bytes p.1)) ∧
      (fwRunning s = true → t.gnss.awaiting = solJobs t ∧ (pNat s 0x035D ≠ 1 → t.gnss.levelA = true ∧ t.gnss.levelIn.isSome = true)) ∧
      (∀ b ∈ t.gnss.bands, b.disturbed = false) ∧ t.gnss.chans.length = s.gnss.chans.length ∧ Only [.time, .evt, .gnss] s t := by
  show ∃ t : State, execMeasurementEpoch cs ss bs s = _ ∧ _
  unfold execMeasurementEpoch
  rw [if_neg (by simp [hup])]
  have hleft : Only [.time, .evt, .gnss] s (countTo (nextEpochT s s.time.total) (leaveJobs s)) := (leaveJobs_only s).comp (countTo_only _ _)
  have hchans : (countTo (nextEpochT s s.time.total) (leaveJobs s)).gnss.chans = s.gnss.chans := by rw [countTo_gnss, (leaveJobs_kept s).1]
  generalize countTo (nextEpochT s s.time.total) (leaveJobs s) = v at hleft hchans ⊢
  refine ⟨let d := 10 ^ 9 / max 1 (pNat s 0x0403)
    let e := v.time.total / d * d
    if fwRunning v then solveEpoch e ss bs (latchedAt e cs v) else latchedAt e cs v, rfl, ?_⟩
  dsimp only
  generalize 10 ^ 9 / max 1 (pNat s 0x0403) = d
  have hmultiple := Nat.mul_mod_left (v.time.total / d) d
  have hpast := Nat.div_mul_le_self v.time.total d
  generalize v.time.total / d * d = e at hmultiple hpast ⊢
  have hlatch := latchedAt_epoch e cs v
  have hrun : fwRunning v = fwRunning s := by rw [fwRunning, hleft.2 .pwr (by decide), fwRunning]
  have hdue : Epoch e v (if fwRunning v then solveEpoch e ss bs (latchedAt e cs v) else latchedAt e cs v) := by
    split
    · exact hlatch.solved (solveEpoch_solves e ss bs _)
    · exact hlatch
  refine ⟨⟨e, hdue.epoch, hmultiple, by rw [hdue.total]; exact hpast⟩, hdue.raw, hdue.latched, fun hfw => ?_, hdue.bands,
    hdue.length.trans (by rw [hchans]), hleft.trans hdue.frame⟩
  rw [hrun, hfw, if_pos rfl]
  have hsolve := solveEpoch_solves e ss bs (latchedAt e cs v)
  have hcfg : (latchedAt e cs v).cfg = s.cfg := (hlatch.frame.2 .cfg (by decide)).trans (hleft.2 .cfg (by decide))
  exact ⟨hsolve.jobs.trans (solJobs_of_bands (hsolve.frame.2 .cfg (by decide)) hsolve.bands).symm,
    fun hlog => hsolve.level (by rwa [pNat_of_cfg hcfg])⟩

/-! GNSS_RAW_PUBLISH (R165, R167). -/

theorem countTo_spec (n : Nat) (s : State) : ∃ u : State, countTo n s = u ∧ Only [.time, .evt] s u ∧ u.gnss = s.gnss :=
  ⟨_, rfl, countTo_only n s, countTo_gnss n s⟩

/-- The records latched at epoch `e` are the raw data. -/
def rawPublished (e : Nat) (s : State) : State :=
  { s with gnss := { s.gnss with pendRaw := false, rawEpoch := some e, rawWhen := s.gnss.epochWhen, raw := s.gnss.latched } }

theorem gnssRawPublish_runs {s : State} {e : Nat} (hepoch : s.gnss.epoch = some e) (hup : gnssUp s = true) (hraw : s.gnss.pendRaw = true) :
    exec .gnssRawPublish s = .next (rawPublished e (countTo (e + 1000000) s)) := by
  show execGnssRawPublish s = _
  simp only [execGnssRawPublish, hepoch, hup, hraw, Bool.not_true, Bool.or_self, Bool.false_eq_true, if_false]
  rfl

theorem gnssRawPublish_idle {s : State} (h : s.gnss.pendRaw = false) : exec .gnssRawPublish s = .next s := by
  show execGnssRawPublish s = _
  unfold execGnssRawPublish
  split
  · rw [if_pos (by simp [h])]
  · rfl

/-! GNSS_SOLUTION_PUBLISH (R167). -/

/-- The job of an antenna or baseline at the latest epoch `e`. -/
def latestJob (e w : Nat) (s : State) : HeldOut := ⟨e, w, at_ solReset s.gnss.heldSols w, at_ baseReset s.gnss.heldBases (w - 3)⟩

theorem heldJob_latest {s : State} {e w : Nat} (hepoch : s.gnss.epoch = some e) (holds : s.gnss.olds = [])
    (hawait : s.gnss.awaiting.contains w = true) : heldJob s w = some (latestJob e w s) := by
  rw [heldJob, holds, hawait, hepoch]
  rfl

theorem heldJob_old {s : State} {w : Nat} {h : HeldOut} (hold : s.gnss.olds.find? (fun x => x.what == w) = some h) : heldJob s w = some h := by
  rw [heldJob, hold, Option.some_or]

/-- The state at the arrival of a job's output, the job awaited no more. -/
def jobEnded (h : HeldOut) (n : Nat) (s : State) : State :=
  let s1 := countTo n s
  { s1 with gnss := endJob h s1.gnss }

theorem jobEnded_only (h : HeldOut) (n : Nat) (s : State) : Only [.time, .evt, .gnss] s (jobEnded h n s) :=
  (countTo_only n s).comp (Only.setGnss _)

theorem jobEnded_gnss (h : HeldOut) (n : Nat) (s : State) : (jobEnded h n s).gnss = endJob h s.gnss := by
  rw [jobEnded, countTo_gnss]

theorem endJob_latest {h : HeldOut} {g : GnssState} (holds : g.olds = []) :
    endJob h g = { g with awaiting := g.awaiting.filter (· != h.what) } := by
  rw [endJob, if_neg (by simp [holds])]

theorem endJob_old {h : HeldOut} {g : GnssState} (hold : h ∈ g.olds) : endJob h g = { g with olds := g.olds.filter (· != h) } := by
  rw [endJob, if_pos (List.contains_iff_mem.mpr hold)]

section
variable {w : Fin 6} {h : HeldOut} {s : State}

theorem gnssSolutionPublish_idle (hnone : heldJob s w.val = none) (c : Bool) : exec (.gnssSolutionPublish w c) s = .next s := by
  show execGnssSolutionPublish w c s = _
  simp only [execGnssSolutionPublish, hnone]

variable (hjob : heldJob s w.val = some h) (hawake : awake s = true)
include hjob hawake

theorem gnssSolutionPublish_completed : exec (.gnssSolutionPublish w true) s =
    .next (if w.val < 3 then publishSol w.val h.epoch h.sol (jobEnded h (h.epoch + 10000000) s)
      else publishBase (w.val - 3) h.epoch h.base (jobEnded h (h.epoch + 10000000) s)) := by
  show execGnssSolutionPublish w true s = _
  simp only [execGnssSolutionPublish, hjob, hawake, Bool.not_true, Bool.false_eq_true, if_false, if_true]
  rfl

theorem gnssSolutionPublish_dropped (hbounded : isDet s = false) : exec (.gnssSolutionPublish w false) s =
    .next (let s2 := jobEnded h (h.epoch + 10000000) s
      { s2 with gnss := { dropHeld w.val s2.gnss with dropped := min 65535 (s2.gnss.dropped + 1) } }) := by
  show execGnssSolutionPublish w false s = _
  simp only [execGnssSolutionPublish, hjob, hawake, hbounded, Bool.not_true, Bool.false_eq_true, if_false]
  rfl

theorem gnssSolutionPublish_waits (hdet : isDet s = true) : exec (.gnssSolutionPublish w false) s =
    .next (countTo (h.epoch + 10000000) s) := by
  show execGnssSolutionPublish w false s = _
  simp only [execGnssSolutionPublish, hjob, hawake, hdet, Bool.not_true, Bool.false_eq_true, if_false, if_true]

/-- A completed job is published and awaited no more, with its epoch as validity instant. -/
theorem gnssSolutionPublish_publishes : ∃ t : State, exec (.gnssSolutionPublish w true) s = .next t ∧ t.gnss = endJob h s.gnss ∧
    Only [.time, .evt, .sig, .gnss] s t ∧
    (w.val < 3 → newest (0x0200 + 16 * w.val) t = some ⟨vF64 h.sol.lat, h.sol.kind == 0, h.epoch + 10000000, some h.epoch, none, none⟩) ∧
    (3 ≤ w.val → newest (0x0240 + 8 * (w.val - 3)) t =
      some ⟨vF32 h.base.az, h.base.state == 0, h.epoch + 10000000, some h.epoch, none, none⟩) := by
  refine ⟨_, gnssSolutionPublish_completed hjob hawake, ?_⟩
  have hended := jobEnded_only h (h.epoch + 10000000) s
  have hgnss := jobEnded_gnss h (h.epoch + 10000000) s
  generalize jobEnded h (h.epoch + 10000000) s = u at hended hgnss ⊢
  split
  · next hant =>
    have hput := publishSol_only w.val h.epoch h.sol u
    exact ⟨(hput.2 .gnss (by decide)).trans hgnss, hended.comp hput, fun _ => publishSol_newest _ _ _ u,
      fun hbase => absurd hbase (Nat.not_le.mpr hant)⟩
  · next hbase =>
    have hput := publishBase_only (w.val - 3) h.epoch h.base u
    exact ⟨(hput.2 .gnss (by decide)).trans hgnss, hended.comp hput, fun hant => absurd hant hbase, fun _ => publishBase_newest _ _ _ u⟩

end

theorem dropHeld_awaiting (w : Nat) (g : GnssState) : (dropHeld w g).awaiting = g.awaiting := by
  unfold dropHeld
  split <;> rfl

/-- A job of the latest epoch not completed in time is dropped and counted. -/
theorem gnssSolutionPublish_drops {w : Fin 6} {h : HeldOut} {s : State} (hjob : heldJob s w.val = some h) (hawake : awake s = true)
    (hbounded : isDet s = false) : ∃ t : State, exec (.gnssSolutionPublish w false) s = .next t ∧
      t.gnss.awaiting = (endJob h s.gnss).awaiting ∧ t.gnss.dropped = min 65535 ((endJob h s.gnss).dropped + 1) ∧
      Only [.time, .evt, .gnss] s t := by
  refine ⟨_, gnssSolutionPublish_dropped hjob hawake hbounded, ?_⟩
  have hended := jobEnded_only h (h.epoch + 10000000) s
  have hgnss := jobEnded_gnss h (h.epoch + 10000000) s
  generalize jobEnded h (h.epoch + 10000000) s = u at hended hgnss ⊢
  rw [← hgnss]
  exact ⟨dropHeld_awaiting _ _, rfl, hended.trans ((Only.setGnss _).mono (by decide))⟩

/-! LEVEL_A_PUBLISH (R320 to R322). -/

theorem levelAPublish_idle {s : State} (h : s.gnss.levelA = false) (c : Bool) (late : BitVec 32) (it : BitVec 16) (sats : List LevelSat) :
    exec (.levelAPublish c late it sats) s = .next s := by
  show execLevelAPublish c late it sats s = _
  unfold execLevelAPublish
  split
  · rfl
  · rw [if_pos (by simp [h])]

theorem levelAPublish_runs {s : State} {e : Nat} (hepoch : s.gnss.epoch = some e) (hawake : awake s = true) (hon : pNat s 0x0219 = 1)
    (hdue : s.gnss.levelA = true) (c : Bool) (late : BitVec 32) (it : BitVec 16) (sats : List LevelSat) :
    exec (.levelAPublish c late it sats) s = .next (onDomains 2 (solverTile 57 s) (levelRun c late.toNat it.toNat e sats) s) := by
  show execLevelAPublish c late it sats s = _
  simp only [execLevelAPublish, hepoch, hawake, hon, hdue, Bool.not_true, bne_self_eq_false, Bool.or_self, Bool.false_eq_true, if_false]

/-- Level A of an epoch has been taken up: its input is taken once. -/
def levelTaken (s : State) : State := { s with gnss := { s.gnss with levelA := false, levelIn := none } }

/-- An epoch of level A that is not late: its solution published at its instant, or nothing. -/
theorem levelRun_inTime {c : Bool} {v : State} {inp : LevelIn} (hin : v.gnss.levelIn = some inp) (hintime : c = true ∨ isDet v = false)
    (late it e : Nat) (sats : List LevelSat) :
    let arr := e + us (pNat v 0x0610)
    let w := levelTaken (countTo arr v)
    let x := levelEpoch (levelLimit c it w) e inp sats w
    levelRun c late it e sats v = leaveSolver 57 x.2.host.nextEntry ((x.1.map fun q => levelPublish e arr q x.2).getD x.2) := by
  intro arr w x
  have hlate : (!c && isDet v) = false := by
    obtain rfl | hbounded := hintime
    · rfl
    · rw [hbounded, Bool.and_false]
  simp only [levelRun, hlate, hin, Bool.false_eq_true, if_false]
  show (match x with
    | (some q, s3) => leaveSolver 57 s3.host.nextEntry (levelPublish e arr q s3)
    | (none, s3) => leaveSolver 57 s3.host.nextEntry s3) = _
  obtain ⟨_ | q, u⟩ := x <;> rfl

theorem levelPublish_spec (te arr : Nat) (q : LevelSol) (s : State) :
    Only [.sig, .gnss] s (levelPublish te arr q s) ∧ (levelPublish te arr q s).gnss.level = some q ∧
      newest 0x0260 (levelPublish te arr q s) = some ⟨vF64 (at_ d0 q.x 0), false, arr, some te, none, none⟩ ∧
      newest 0x0261 (levelPublish te arr q s) = some ⟨vF64 (at_ d0 q.x 1), false, arr, some te, none, none⟩ := by
  unfold levelPublish
  extract_lets put
  have hput : ∀ (k : Nat) (v : Value) (u : State), Only [.sig] u (put k v u) := fun k v u => publishAs_only _ _ u
  have hsame : ∀ (k : Nat) (v : Value) (u : State), newest (0x0260 + k) (put k v u) = some ⟨v, false, arr, some te, none, none⟩ :=
    fun k v u => newest_publishAs_same _ _ u
  have hother : ∀ (j k : Nat) (v : Value) (u : State), k ≠ j → newest (0x0260 + j) (put k v u) = newest (0x0260 + j) u :=
    fun j k v u hk => newest_publishAs_ne (by omega) _ u
  refine ⟨(Only.setGnss _).comp (((hput _ _ _).trans (hput _ _ _)).trans (hput _ _ _)), rfl, ?_, ?_⟩
  · exact ((hother 0 2 _ _ (by decide)).trans (hother 0 1 _ _ (by decide))).trans (hsame 0 _ _)
  · exact (hother 1 2 _ _ (by decide)).trans (hsame 1 _ _)

/-- Settles O34: an epoch by what it latches and makes due, each output by the job that it ends. -/
theorem gnssPublishRows : Obligations.GnssPublishRows := by
  intro s
  refine ⟨fun hup cs ss bs => measurementEpoch_spec hup cs ss bs, fun hdown => measurementEpoch_idle hdown, fun e hepoch hup hraw => ?_,
    gnssRawPublish_idle, fun w e hepoch hawake holds hawait => ?_, fun w h hold hawake => ?_, fun w c hnone => gnssSolutionPublish_idle hnone c,
    fun c e late it sats inp hepoch hawake hon hdue => ?_, fun te arr q => levelPublish_spec te arr q s,
    fun c late it sats hnone => levelAPublish_idle hnone c late it sats⟩
  · refine ⟨_, gnssRawPublish_runs hepoch hup hraw, ?_⟩
    obtain ⟨u, hu, hwait, hgnss⟩ := countTo_spec (e + 1000000) s
    rw [hu]
    exact ⟨rfl, rfl, congrArg GnssState.latched hgnss, hwait.comp (Only.setGnss _)⟩
  · have hjob := heldJob_latest hepoch holds hawait
    have hgone : w.val ∉ (endJob (latestJob e w.val s) s.gnss).awaiting := by
      rw [endJob_latest holds]
      simp [latestJob]
    refine ⟨?_, fun hbounded => ?_, fun hdet => ⟨_, gnssSolutionPublish_waits hjob hawake hdet, countTo_only _ s⟩⟩
    · obtain ⟨t, hexec, hgnss, honly, hsol, hbase⟩ := gnssSolutionPublish_publishes hjob hawake
      exact ⟨t, hexec, by rwa [hgnss], honly, hsol, hbase⟩
    · obtain ⟨t, hexec, hawaiting, hdropped, honly⟩ := gnssSolutionPublish_drops hjob hawake hbounded
      exact ⟨t, hexec, by rwa [hawaiting], honly.2 .sig (by decide), by rw [hdropped, endJob_latest holds], honly⟩
  · obtain ⟨t, hexec, hgnss, honly, hsol, -⟩ := gnssSolutionPublish_publishes (heldJob_old hold) hawake
    rw [endJob_old (List.mem_of_find?_eq_some hold)] at hgnss
    exact ⟨t, hexec, by rw [hgnss]; simp, by rw [hgnss], honly, hsol⟩
  · intro ds v arr s0 w x hdomains hin hintime
    rw [levelAPublish_runs hepoch hawake hon hdue, onDomains_up _ hdomains]
    exact congrArg Host.Outcome.next (levelRun_inTime hin hintime _ _ _ _)

end Sys2Proof.Machine
end

section
/-! SUPPORT. The acquisition channels (R180 to R197): which channels an operation may change, and what a synchronisation leaves. -/

namespace Sys2Proof.Machine

set_option Elab.async false

/-! One channel. -/

/-- Channel `i` of the acquisition chain. -/
def acqOf (s : State) (i : Nat) : AcqChan := at_ acqChanReset s.acq.chans i

theorem acqOf_of_acq {s t : State} (h : t.acq = s.acq) (i : Nat) : acqOf t i = acqOf s i := by
  rw [acqOf, acqOf, h]

theorem acqOf_modAcq_same {i : Nat} {s : State} (h : i < s.acq.chans.length) (f : AcqChan → AcqChan) :
    acqOf (modAcq i f s) i = f (acqOf s i) :=
  (at_modAt _ _ _ _ _).trans (if_pos ⟨rfl, h⟩)

theorem markOutput_only (i : Nat) (s : State) : Only [.sig] s (markOutput i s) := by
  unfold markOutput
  cases acqCfg s i with
  | none => exact Only.refl
  | some k => exact Only.setSig _

theorem markOutput_acq (i : Nat) (s : State) : (markOutput i s).acq = s.acq :=
  (markOutput_only i s).2 .acq (by decide)

/-- What an operation on channel `i` leaves: only its outputs, its events and time move, and no other channel changes. -/
structure AltersChan (i : Nat) (s t : State) : Prop where
  only : Only [.time, .evt, .sig, .acq] s t
  length : t.acq.chans.length = s.acq.chans.length
  others : ∀ k, k ≠ i → t.acq.chans[k]? = s.acq.chans[k]?

namespace AltersChan

theorem refl {i : Nat} {s : State} : AltersChan i s s := ⟨Only.refl, rfl, fun _ _ => rfl⟩

theorem trans {i : Nat} {s t u : State} (h : AltersChan i s t) (k : AltersChan i t u) : AltersChan i s u :=
  ⟨h.only.trans k.only, k.length.trans h.length, fun j hj => (k.others j hj).trans (h.others j hj)⟩

/-- An operation that leaves the chain alone. -/
theorem of_only {i : Nat} {s t : State} (h : Only [.time, .evt, .sig] s t) : AltersChan i s t := by
  have hacq : t.acq = s.acq := h.2 .acq (by decide)
  exact ⟨h.mono (by decide), by rw [hacq], fun _ _ => by rw [hacq]⟩

theorem modAcq (i : Nat) (f : AcqChan → AcqChan) (s : State) : AltersChan i s (modAcq i f s) :=
  ⟨(modAcq_only i f s).mono (by decide), length_modAt _ _ _, fun _ hk => (getElem?_modAt _ _ _ _).trans (if_neg hk.symm)⟩

theorem ite {c : Prop} [Decidable c] {i : Nat} {s t u : State} (h : AltersChan i s t) (k : AltersChan i s u) :
    AltersChan i s (if c then t else u) := by
  split
  · exact h
  · exact k

theorem foldl {α : Type} {i : Nat} {f : State → α → State} (hf : ∀ s x, AltersChan i s (f s x)) (l : List α) (s : State) :
    AltersChan i s (l.foldl f s) := by
  induction l generalizing s with
  | nil => exact refl
  | cons x l ih => exact (hf s x).trans (ih _)

theorem countTo (i n : Nat) (s : State) : AltersChan i s (countTo n s) := of_only ((countTo_only n s).mono (by decide))

end AltersChan

/-! ACQ_OUTPUT (R180 to R186, R192). -/

theorem acqPublish_only (k : AcqCfg) (d : Nat) (outs : List (Int × Int)) (c : AcqChan) (s : State) : Only [.sig] s (acqPublish k d outs c s) := by
  unfold acqPublish
  extract_lets s1
  have houts : Only [.sig] s s1 := Only.ite (fun _ => Only.refl.foldl _ (fun t _ => publishAs_only _ _ t) _) fun _ => Only.refl
  exact Only.ite (fun _ => Only.refl) fun _ => houts.trans (publishAs_only _ _ s1)

theorem acqFault_alters (i : Nat) (s : State) : AltersChan i s (acqFault i s) :=
  (AltersChan.modAcq i _ s).trans (.of_only ((markOutput_only i _).comp (record_only _ _ _)))

/-- A bit of a channel goes through its chain, to MOD_FAULT or its end, to its thresholds and to its publications: each step its own. -/
theorem acqStep_alters (i : Nat) (k : AcqCfg) (s : State) (b : Bool) : AltersChan i s (acqStep i k s b) := by
  unfold acqStep
  extract_lets c0
  split
  · exact .refl
  · split
    next c o _ =>
      extract_lets s1 then_ s2 s3 c3
      have h1 : AltersChan i s s1 := .modAcq i _ s
      have hthen : AltersChan i s then_ := h1.trans (.countTo i _ s1)
      have h2 : AltersChan i s s2 := .ite (.ite (hthen.trans (.modAcq i _ then_)) (hthen.trans (acqFault_alters i then_))) h1
      have h3 : AltersChan i s s3 := h2.trans (.countTo i _ s2)
      split
      · exact h2
      · split
        next c4 evs _ =>
          extract_lets told s4
          have h4 : AltersChan i s s4 := (h3.trans (.modAcq i _ s3)).trans
            (.foldl (fun t _ => .of_only ((record_only _ _ t).mono (by decide))) told _)
          exact h4.trans (.of_only ((acqPublish_only _ _ _ _ s4).mono (by decide)))

theorem acqStep_stopped {i : Nat} {s : State} (h : (acqOf s i).state = 0) (k : AcqCfg) (b : Bool) : acqStep i k s b = s :=
  if_pos h

theorem acqOutput_idle {ch : Fin 16} {s : State} (h : acqCfg s ch.val = none ∨ (acqOf s ch.val).state = 0) (bits : List Bool) :
    exec (.acqOutput ch bits) s = .next s := by
  show execAcqOutput ch bits s = _
  unfold execAcqOutput
  split
  · rfl
  · next k hcfg =>
    have hstop : (acqOf s ch.val).state = 0 := h.resolve_left (by simp [hcfg])
    have hbits : bits.foldl (acqStep ch.val k) s = s := List.foldl_fixed' (acqStep_stopped hstop k) bits
    rw [hbits, ite_self]

theorem acqOutput_alters (ch : Fin 16) (bits : List Bool) (s : State) : ∃ t : State, exec (.acqOutput ch bits) s = .next t ∧ AltersChan ch.val s t := by
  show ∃ t : State, execAcqOutput ch bits s = .next t ∧ _
  unfold execAcqOutput
  split
  · exact ⟨s, rfl, .refl⟩
  · split
    · exact ⟨_, rfl, .foldl (acqStep_alters ch.val _) bits s⟩
    · exact ⟨s, rfl, .refl⟩

/-! ACQ_MOD_FAULT, MOD_FAULT_CLEAR and SETTLING_END (R180, R190). -/

section
variable {ch : Fin 16} {s : State}

theorem acqModFault_faults (hlen : ch.val < s.acq.chans.length) (hup : acqUp s = true) (hstate : (acqOf s ch.val).state ≠ 0)
    (hok : (acqOf s ch.val).fault = false) : ∃ t : State, exec (.acqModFault ch) s = .next t ∧ (acqOf t ch.val).fault = true ∧
      (acqOf t ch.val).state = (acqOf s ch.val).state ∧ Only [.evt, .sig, .acq] s t := by
  have hexec : exec (.acqModFault ch) s = .next (acqFault ch.val s) :=
    if_neg (not_or.mpr ⟨hstate, not_or.mpr ⟨Bool.eq_false_iff.mp hok, not_not.mpr hup⟩⟩)
  refine ⟨_, hexec, ?_⟩
  unfold acqFault
  rw [acqOf_of_acq (record_acq _ _ _), acqOf_of_acq (markOutput_acq _ _), acqOf_modAcq_same hlen]
  exact ⟨rfl, rfl, (modAcq_only _ _ s).comp ((markOutput_only _ _).comp (rs := [.evt, .sig]) (record_only _ _ _))⟩

theorem modFaultClear_settles {k : AcqCfg} (hlen : ch.val < s.acq.chans.length) (hcfg : acqCfg s ch.val = some k)
    (hstate : (acqOf s ch.val).state ≠ 0) (hfault : (acqOf s ch.val).fault = true) :
    ∃ t : State, exec (.modFaultClear ch) s = .next t ∧ (acqOf t ch.val).fault = false ∧ (acqOf t ch.val).state = 1 ∧
      (acqOf t ch.val).settle = settleClocks k ∧ (acqOf s ch.val).lastRun + ms 10 ≤ t.time.elapsed ∧ Only [.time, .evt, .acq] s t := by
  have hexec : exec (.modFaultClear ch) s = .next (modAcq ch.val
      (fun c => { enterSettling (elapseTo ((acqOf s ch.val).lastRun + ms 10) s) k c with fault := false, runLen := 0 })
      (elapseTo ((acqOf s ch.val).lastRun + ms 10) s)) := by
    show execModFaultClear ch s = _
    unfold execModFaultClear
    simp only [hcfg]
    exact if_pos ⟨hfault, hstate⟩
  refine ⟨_, hexec, ?_⟩
  rw [acqOf_modAcq_same (by rwa [elapseTo_acq])]
  exact ⟨rfl, rfl, rfl, le_elapsed_elapseTo _ s, (elapseTo_only _ s).comp (modAcq_only _ _ _)⟩

theorem settlingEnd_runs (hlen : ch.val < s.acq.chans.length) (hstate : (acqOf s ch.val).state = 1) :
    ∃ t : State, exec (.settlingEnd ch) s = .next t ∧ (acqOf t ch.val).state = 2 ∧
      (∀ k, k ≠ ch.val → t.acq.chans[k]? = s.acq.chans[k]?) ∧ Only [.time, .evt, .acq] s t := by
  refine ⟨_, if_pos hstate, ?_⟩
  rw [acqOf_modAcq_same (by rwa [countTo_acq])]
  exact ⟨rfl, ((AltersChan.countTo ch.val _ s).trans (.modAcq ch.val _ _)).others, (countTo_only _ s).comp (modAcq_only _ _ _)⟩

theorem stoppedChannel_idle (h : (acqOf s ch.val).state = 0) :
    exec (.acqModFault ch) s = .next s ∧ exec (.modFaultClear ch) s = .next s ∧ exec (.settlingEnd ch) s = .next s := by
  refine ⟨if_pos (.inl h), ?_, if_neg fun hsettling => absurd (h.symm.trans hsettling) (by decide)⟩
  show execModFaultClear ch s = _
  unfold execModFaultClear
  split
  · exact if_neg fun hfaulty => hfaulty.2 h
  · rfl

end

/-! ACQ_SYNC_PIN_EDGE (R195, R196). -/

theorem requestSync_acq (i o : Nat) (s : State) : (requestSync i o s).acq = { s.acq with syncs := s.acq.syncs ++ [(i, o)] } := by
  unfold requestSync
  extract_lets src s1
  split
  · exact sendCasc_acq _ _ _ s1
  · rfl

theorem acqSyncPinEdge_requests {rising : Bool} {s : State} (hup : acqUp s = true) (howner : syncOwner s = true)
    (hedge : (pNat s 0x0253 = 1 ∧ rising = true) ∨ (pNat s 0x0253 = 2 ∧ rising = false)) (hfirst : s.acq.lastPin = none) :
    ∃ t : State, exec (.acqSyncPinEdge rising) s = .next t ∧ t.acq.lastPin = some s.time.elapsed ∧ Only [.acq, .grp, .out] s t ∧
      ∃ i, t.acq.syncs = s.acq.syncs ++ [(i, 0)] ∧ i % 100000 = 0 ∧ s.time.total + 200000 ≤ i ∧ i < s.time.total + 300000 := by
  have hexec : exec (.acqSyncPinEdge rising) s = .next (requestSync ((s.time.total + 200000 + 99999) / 100000 * 100000) 0
      { s with acq := { s.acq with lastPin := some s.time.elapsed } }) := by
    show execAcqSyncPinEdge rising s = _
    unfold execAcqSyncPinEdge
    simp only [hfirst, hup, howner]
    refine if_neg ?_
    rcases hedge with ⟨hsel, rfl⟩ | ⟨hsel, rfl⟩ <;> simp [hsel]
  refine ⟨_, hexec, ?_⟩
  rw [requestSync_acq]
  exact ⟨rfl, (Only.setAcq _).comp (requestSync_only _ _ _), _, rfl, by omega, by omega, by omega⟩

theorem acqSyncPinEdge_unselected {s : State} (h : pNat s 0x0253 = 0) (rising : Bool) : exec (.acqSyncPinEdge rising) s = .next s :=
  if_pos (by simp [h])

/-! ACQ_SYNC (R194). -/

theorem at_mapIdx_of_fixed {α : Type} {d : α} {l : List α} {f : Nat → α → α} {i : Nat} (h : f i (at_ d l i) = at_ d l i) :
    at_ d (l.mapIdx f) i = at_ d l i := by
  simp only [at_, List.getD_eq_getElem?_getD, List.getElem?_mapIdx] at h ⊢
  cases hi : l[i]? with
  | none => rfl
  | some x =>
    rw [hi] at h
    exact h

/-- A synchronisation carried out is no longer waiting, and a channel that does not run takes no part in it. -/
theorem applySync_spec (i origin p : Nat) (s : State) :
    Only [.evt, .sig, .acq] s (applySync i origin p s) ∧ (applySync i origin p s).acq.syncs = s.acq.syncs.filter (fun x => x.1 != i) ∧
      (applySync i origin p s).acq.needSync = false ∧
      ∀ k, (acqOf s k).state = 0 → acqOf (applySync i origin p s) k = acqOf s k := by
  unfold applySync
  extract_lets running u e src s1 onE cs s2
  have h1 : Only [.acq] s s1 := Only.setAcq _
  have h2 : Only [.sig] s1 s2 := Only.refl.foldl _ (fun t j => Only.ite (fun _ => Only.refl) fun _ => markOutput_only j t) _
  have hacq : s2.acq = s1.acq := h2.2 .acq (by decide)
  clear_value s2
  refine ⟨((h1.comp (rs := [.sig, .acq]) h2).comp (rs := [.sig, .acq]) (Only.setAcq _)).comp (record_only _ _ _), ?_, ?_, fun k hstop => ?_⟩
  · rw [record_acq]
    exact congrArg AcqState.syncs hacq
  · rw [record_acq]
    exact congrArg AcqState.needSync hacq
  · rw [acqOf_of_acq (record_acq _ _ _)]
    refine at_mapIdx_of_fixed (l := s.acq.chans) ?_
    split
    · exact if_pos hstop
    · rfl

theorem acqSync_synchronises {s : State} {i o : Nat} (hdue : firstSync s.acq.syncs = some (i, o)) (hup : acqUp s = true) :
    ∃ t : State, exec .acqSync s = .next t ∧ (i, o) ∉ t.acq.syncs ∧ t.acq.needSync = false ∧ Only [.time, .evt, .sig, .acq] s t ∧
      ∀ k, (acqOf s k).state = 0 → acqOf t k = acqOf s k := by
  have hexec : exec .acqSync s = .next (applySync i o (periodAt (s.grid.period + 1) i s) (countTo i s)) := by
    show execAcqSync s = _
    unfold execAcqSync
    simp only [hdue]
    exact if_pos hup
  obtain ⟨honly, hsyncs, hneed, hstopped⟩ := applySync_spec i o (periodAt (s.grid.period + 1) i s) (countTo i s)
  have hchan : ∀ k, acqOf (countTo i s) k = acqOf s k := acqOf_of_acq (countTo_acq i s)
  refine ⟨_, hexec, ?_, hneed, (countTo_only i s).comp honly, fun k hstop => ?_⟩
  · rw [hsyncs]
    simp
  · rw [← hchan k] at hstop ⊢
    exact hstopped k hstop

theorem acqSync_idle {s : State} (h : s.acq.syncs = []) : exec .acqSync s = .next s := by
  show execAcqSync s = _
  unfold execAcqSync
  rw [h]
  rfl

/-- Settles O35: each row by the one channel that it alters, or by the synchronisation that it asks for or carries out. -/
theorem acqRows : Obligations.AcqRows := by
  intro s
  refine ⟨fun _ bits h => acqOutput_idle h bits, fun ch bits => ?_, fun _ => acqModFault_faults, fun _ => stoppedChannel_idle,
    fun _ _ => modFaultClear_settles, fun _ => settlingEnd_runs, fun _ => acqSyncPinEdge_requests,
    fun rising h => acqSyncPinEdge_unselected h rising, fun _ _ => acqSync_synchronises, acqSync_idle⟩
  obtain ⟨t, hexec, halters⟩ := acqOutput_alters ch bits s
  exact ⟨t, hexec, halters.only, halters.length, halters.others⟩

end Sys2Proof.Machine
end

section
/-! SUPPORT. The field buses (R198 to R218): what an operation on a controller or a drive leaves, and what the loss of a bus costs. -/

namespace Sys2Proof.Machine

set_option Elab.async false

/-! One controller and one drive. -/

theorem canOf_modCan_same {b : Nat} {s : State} (h : b < s.bus.can.length) (f : CanBus → CanBus) : canOf (modCan b f s) b = f (canOf s b) :=
  (at_modAt _ _ _ _ _).trans (if_pos ⟨rfl, h⟩)

theorem canOf_modCan_ne {b k : Nat} (h : k ≠ b) (f : CanBus → CanBus) (s : State) : canOf (modCan b f s) k = canOf s k :=
  (at_modAt _ _ _ _ _).trans (if_neg fun hb => h hb.1.symm)

theorem driveSt_modDrive (k t : Nat) (f : Drive → Drive) (s : State) :
    driveSt (modDrive t f s) k = if t = k ∧ k < s.bus.drives.length then f (driveSt s k) else driveSt s k :=
  at_modAt _ _ _ _ _

theorem driveSt_modDrive_same {k : Nat} {s : State} (h : k < s.bus.drives.length) (f : Drive → Drive) :
    driveSt (modDrive k f s) k = f (driveSt s k) :=
  (driveSt_modDrive k k f s).trans (if_pos ⟨rfl, h⟩)

theorem canOf_of_can {s t : State} (h : t.bus.can = s.bus.can) (k : Nat) : canOf t k = canOf s k :=
  congrArg (at_ canReset · k) h

theorem driveSt_of_drives {s t : State} (h : t.bus.drives = s.bus.drives) (k : Nat) : driveSt t k = driveSt s k :=
  congrArg (at_ driveReset · k) h

theorem modDrive_only (k : Nat) (f : Drive → Drive) (s : State) : Only [.bus] s (modDrive k f s) :=
  Only.setBus _

theorem ownMap_of_only {ps : List Part} {s t : State} (h : Only ps s t) (hcfg : .cfg ∉ ps := by decide) (hgrp : .grp ∉ ps := by decide) :
    ownMap t = ownMap s := by
  have hc : t.cfg = s.cfg := h.2 .cfg hcfg
  have hg : t.grp = s.grp := h.2 .grp hgrp
  simp only [ownMap, tab, hc, hg]

theorem markBad_only (id : Nat) (s : State) : Only [.sig] s (markBad id s) :=
  Only.setSig _

theorem faultSignals_only (b : Nat) (s : State) : Only [.sig] s (faultSignals b s) :=
  Only.refl.foldl _ (fun t id => markBad_only id t) _

/-! Drives lost (R218). -/

/-- A drive marked LOST. -/
def Drive.asLost (x : Drive) : Drive := { x with lost := true }

/-- What losing drives leaves: the controllers stand, only drives and events change, and a drive lost before stays lost. -/
structure Loses (s t : State) : Prop where
  only : Only [.evt, .bus] s t
  can : t.bus.can = s.bus.can
  length : t.bus.drives.length = s.bus.drives.length
  lost : ∀ k, (driveSt s k).lost = true → (driveSt t k).lost = true

namespace Loses

theorem refl {s : State} : Loses s s := ⟨Only.refl, rfl, rfl, fun _ h => h⟩

theorem trans {s t u : State} (h : Loses s t) (k : Loses t u) : Loses s u :=
  ⟨h.only.trans k.only, k.can.trans h.can, k.length.trans h.length, fun j hj => k.lost j (h.lost j hj)⟩

/-- One drive marked, with its event. -/
theorem mark (ps : List Byte) (k : Nat) (s : State) : Loses s (record .driveLost ps (modDrive k Drive.asLost s)) := by
  refine ⟨(modDrive_only _ _ s).comp (record_only _ _ _), ?_, ?_, fun j hj => ?_⟩
  · rw [record_bus]
    rfl
  · rw [record_bus]
    exact length_modAt _ _ _
  · rw [driveSt_of_drives (congrArg BusState.drives (record_bus _ _ _)), driveSt_modDrive]
    split
    · rfl
    · exact hj

end Loses

/-- A drive is marked LOST with an event where it is mapped and not lost already; else nothing happens. -/
theorem loseDrive_cases (k : Nat) (s : State) :
    (loseDrive k s = s ∧ (driveRec (ownMap s) k = none ∨ (driveSt s k).lost = true)) ∨
      ∃ ps, loseDrive k s = record .driveLost ps (modDrive k Drive.asLost s) := by
  unfold loseDrive
  cases hmap : driveRec (ownMap s) k with
  | none => exact .inl ⟨rfl, .inl rfl⟩
  | some d =>
    by_cases hlost : (driveSt s k).lost = true
    · exact .inl ⟨if_pos hlost, .inr hlost⟩
    · exact .inr ⟨_, if_neg hlost⟩

theorem loseDrive_loses (k : Nat) (s : State) : Loses s (loseDrive k s) := by
  obtain ⟨hsame, -⟩ | ⟨ps, hmark⟩ := loseDrive_cases k s
  · rw [hsame]
    exact .refl
  · rw [hmark]
    exact .mark ps k s

theorem loseDrive_lost {k : Nat} {s : State} (hlen : k < s.bus.drives.length) (hmap : driveRec (ownMap s) k ≠ none) :
    (driveSt (loseDrive k s) k).lost = true := by
  obtain ⟨hsame, hnone | hlost⟩ | ⟨ps, hmark⟩ := loseDrive_cases k s
  · exact absurd hnone hmap
  · rw [hsame]
    exact hlost
  · rw [hmark, driveSt_of_drives (congrArg BusState.drives (record_bus _ _ _)), driveSt_modDrive_same hlen]
    rfl

/-- A drive is lost with its bus. -/
def loseIfOn (b : Nat) (s : State) (d : Nat × DriveMap) : State := if d.2.bus = b then loseDrive d.1 s else s

theorem loseIfOn_loses (b : Nat) (s : State) (d : Nat × DriveMap) : Loses s (loseIfOn b s d) := by
  unfold loseIfOn
  split
  · exact loseDrive_loses d.1 s
  · exact .refl

theorem foldl_loseIfOn_loses (b : Nat) (l : List (Nat × DriveMap)) (s : State) : Loses s (l.foldl (loseIfOn b) s) := by
  induction l generalizing s with
  | nil => exact .refl
  | cons d l ih => exact (loseIfOn_loses b s d).trans (ih _)

theorem foldl_loseIfOn_lost {b : Nat} {l : List (Nat × DriveMap)} {d : Nat × DriveMap} {s : State} (hd : d ∈ l) (hbus : d.2.bus = b)
    (hlen : d.1 < s.bus.drives.length) (hmap : driveRec (ownMap s) d.1 ≠ none) : (driveSt (l.foldl (loseIfOn b) s) d.1).lost = true := by
  induction l generalizing s with
  | nil => exact absurd hd List.not_mem_nil
  | cons e l ih =>
    have hfirst : Loses s (loseIfOn b s e) := loseIfOn_loses b s e
    obtain rfl | hrest := List.mem_cons.mp hd
    · refine (foldl_loseIfOn_loses b l _).lost _ ?_
      rw [loseIfOn, if_pos hbus]
      exact loseDrive_lost hlen hmap
    · exact ih hrest (by rwa [hfirst.length]) (by rwa [ownMap_of_only hfirst.only])

/-! CAN_ERROR_PASSIVE, CAN_BUS_OFF and CAN_RECOVERED (R205, R206). -/

/-- A controller error-passive, its counters as the bus error leaves them. -/
def CanBus.asPassive (tec rec_ : Nat) (c : CanBus) : CanBus := { c with state := 2, tec := tec, rec_ := rec_ }

/-- A controller in bus-off. -/
def CanBus.asOff (c : CanBus) : CanBus := { c with state := 3, tec := 256 }

/-- A controller recovered into the state its MODE gives, without errors. -/
def CanBus.asRecovered (state : Nat) (c : CanBus) : CanBus := { c with state := state, tec := 0, rec_ := 0 }

section
variable {b : Fin 8} {s : State}

theorem canOf_recorded_modCan (hlen : b.val < s.bus.can.length) (e : Ev) (ps : List Byte) (f : CanBus → CanBus) :
    canOf (record e ps (modCan b.val f s)) b.val = f (canOf s b.val) :=
  (canOf_of_can (congrArg BusState.can (record_bus _ _ _)) _).trans (canOf_modCan_same hlen f)

theorem recorded_modCan_only (b : Nat) (e : Ev) (ps : List Byte) (f : CanBus → CanBus) (s : State) :
    Only [.evt, .bus] s (record e ps (modCan b f s)) :=
  (modCan_only b f s).comp (record_only e ps _)

theorem canErrorPassive_passive {tec rec_ : BitVec 8} (hlen : b.val < s.bus.can.length) (hup : busUp s = true)
    (hactive : (canOf s b.val).state = 1) (htec : (canOf s b.val).tec ≤ tec.toNat) (hrec : (canOf s b.val).rec_ ≤ rec_.toNat)
    (hhigh : 128 ≤ tec.toNat ∨ 128 ≤ rec_.toNat) :
    ∃ t : State, exec (.canErrorPassive b tec rec_) s = .next t ∧ (canOf t b.val).state = 2 ∧ (canOf t b.val).tec = tec.toNat ∧
      (canOf t b.val).rec_ = rec_.toNat ∧ Only [.evt, .bus] s t ∧ ∀ k, k ≠ b.val → canOf t k = canOf s k := by
  have hexec : exec (.canErrorPassive b tec rec_) s =
      .next (record .canErrorPassive (be 1 b.val) (modCan b.val (CanBus.asPassive tec.toNat rec_.toNat) s)) := by
    have hb : (decide (128 ≤ tec.toNat) || decide (128 ≤ rec_.toNat)) = true := by simpa using hhigh
    show execCanErrorPassive b tec rec_ s = _
    simp only [execCanErrorPassive, hup, hactive, htec, hrec, hb]
    rfl
  refine ⟨_, hexec, ?_⟩
  rw [canOf_recorded_modCan hlen]
  refine ⟨rfl, rfl, rfl, recorded_modCan_only _ _ _ _ s, fun k hk => ?_⟩
  rw [canOf_of_can (congrArg BusState.can (record_bus _ _ _)), canOf_modCan_ne hk]

theorem canErrorPassive_idle (hactive : (canOf s b.val).state ≠ 1) (hpassive : (canOf s b.val).state ≠ 2) (tec rec_ : BitVec 8) :
    exec (.canErrorPassive b tec rec_) s = .next s :=
  if_neg (by simp [hactive, hpassive])

/-- What CAN_BUS_OFF makes of its controller and of the signals, before it loses the drives. -/
def busLost (b : Nat) (s : State) : State :=
  faultSignals b (record .canBusOff (be 1 b) (modCan b CanBus.asOff s))

theorem busLost_only (b : Nat) (s : State) : Only [.evt, .sig, .bus] s (busLost b s) :=
  (recorded_modCan_only b _ _ _ s).comp (faultSignals_only b _)

theorem busLost_bus (b : Nat) (s : State) : (busLost b s).bus = (modCan b CanBus.asOff s).bus :=
  ((faultSignals_only b _).2 .bus (by decide)).trans (record_bus _ _ _)

theorem canBusOff_loses (hlen : b.val < s.bus.can.length) (hup : busUp s = true)
    (hstate : (canOf s b.val).state = 1 ∨ (canOf s b.val).state = 2) :
    ∃ t : State, exec (.canBusOff b) s = .next t ∧ (canOf t b.val).state = 3 ∧ (canOf t b.val).tec = 256 ∧ Only [.evt, .sig, .bus] s t ∧
      ∀ d ∈ ownDrives s, d.2.bus = b.val → d.1 < s.bus.drives.length → driveRec (ownMap s) d.1 ≠ none → (driveSt t d.1).lost = true := by
  have hexec : exec (.canBusOff b) s = .next ((ownDrives s).foldl (loseIfOn b.val) (busLost b.val s)) :=
    if_pos (by simpa [hup] using hstate)
  have hloses := foldl_loseIfOn_loses b.val (ownDrives s) (busLost b.val s)
  refine ⟨_, hexec, ?_⟩
  rw [canOf_of_can hloses.can, canOf_of_can (congrArg BusState.can (busLost_bus _ _)), canOf_modCan_same hlen]
  refine ⟨rfl, rfl, (busLost_only _ s).comp hloses.only, fun d hd hon hdrive hmap => foldl_loseIfOn_lost hd hon ?_ ?_⟩
  · rw [busLost_bus]
    exact hdrive
  · rwa [ownMap_of_only (busLost_only _ s)]

theorem stoppedController_idle (h : (canOf s b.val).state = 0) : exec (.canBusOff b) s = .next s ∧ exec (.canRecovered b) s = .next s :=
  ⟨if_neg (by simp [h]), if_neg (by simp [h])⟩

theorem canRecovered_recovers (hlen : b.val < s.bus.can.length) (hup : busUp s = true) (hstate : (canOf s b.val).state = 4) :
    ∃ t : State, exec (.canRecovered b) s = .next t ∧ (canOf t b.val).state = canFresh s b.val ∧ (canOf t b.val).tec = 0 ∧
      (canOf t b.val).rec_ = 0 ∧ Only [.evt, .bus] s t := by
  have hexec : exec (.canRecovered b) s =
      .next (record .canRecovered (be 1 b.val) (modCan b.val (CanBus.asRecovered (canFresh s b.val)) s)) := if_pos (by simp [hup, hstate])
  refine ⟨_, hexec, ?_⟩
  rw [canOf_recorded_modCan hlen]
  exact ⟨rfl, rfl, rfl, recorded_modCan_only _ _ _ _ s⟩

end

/-! CAN_FRAME_RX (R198, R204, R223). -/

/-- What a frame on bus `b` may change: the signals and its own controller. -/
structure HearsFrame (b : Nat) (s t : State) : Prop where
  only : Only [.sig, .bus] s t
  others : ∀ k, k ≠ b → canOf t k = canOf s k
  drives : t.bus.drives = s.bus.drives

namespace HearsFrame

theorem refl {b : Nat} {s : State} : HearsFrame b s s := ⟨Only.refl, fun _ _ => rfl, rfl⟩

theorem trans {b : Nat} {s t u : State} (h : HearsFrame b s t) (k : HearsFrame b t u) : HearsFrame b s u :=
  ⟨h.only.trans k.only, fun j hj => (k.others j hj).trans (h.others j hj), k.drives.trans h.drives⟩

theorem modCan (b : Nat) (f : CanBus → CanBus) (s : State) : HearsFrame b s (modCan b f s) :=
  ⟨(modCan_only b f s).mono (by decide), fun _ hk => canOf_modCan_ne hk f s, rfl⟩

theorem publishAs (b id : Nat) (v : SigVal) (s : State) : HearsFrame b s (publishAs id v s) :=
  ⟨(publishAs_only id v s).mono (by decide), fun _ _ => rfl, rfl⟩

theorem foldl {α : Type} {b : Nat} {f : State → α → State} (hf : ∀ s x, HearsFrame b s (f s x)) (l : List α) (s : State) :
    HearsFrame b s (l.foldl f s) := by
  induction l generalizing s with
  | nil => exact refl
  | cons x l ih => exact (hf s x).trans (ih _)

end HearsFrame

/-- An entry that does not match leaves the frame, one that the frame is too short for counts it, any other publishes its signal. -/
theorem canEntry_hears (b : Nat) (ext : Bool) (id arr : Nat) (data : List Byte) (s : State) (e : List Byte) :
    HearsFrame b s (canEntry b ext id arr data s e) := by
  unfold canEntry
  extract_lets fl st len
  split
  · exact .refl
  · split
    · exact .modCan b _ s
    · exact .publishAs b _ _ s

theorem canFrameRx_unheard {b : Fin 8} {kind : CanKind} {ext : Bool} {id : BitVec 29} {data : List Byte} {s : State}
    (h : busUp s = false ∨ canHears s b.val = false ∨ canTakes s b.val kind ext id.toNat data.length = false) (sof : Nat) :
    exec (.canFrameRx b kind ext id sof data) s = .next s :=
  if_pos (by obtain h | h | h := h <;> simp [h])

/-- A frame heard counts at its controller; awake, a data frame then meets every entry of the map. -/
theorem canFrameRx_heard {b : Fin 8} {kind : CanKind} {ext : Bool} {id : BitVec 29} {data : List Byte} {s : State} (hup : busUp s = true)
    (hhears : canHears s b.val = true) (htakes : canTakes s b.val kind ext id.toNat data.length = true) (sof : Nat) :
    exec (.canFrameRx b kind ext id sof data) s = .next (if awake s && !kind.remote then
      (records 24 (tab s 0x0292)).foldl (canEntry b.val ext id.toNat (s.time.total - sof) data) (modCan b.val recAfter s)
      else modCan b.val recAfter s) := by
  exact (if_neg (by simp [hup, hhears, htakes])).trans (apply_ite Host.Outcome.next _ _ _).symm

theorem canFrameRx_spec (b : Fin 8) (kind : CanKind) (ext : Bool) (id : BitVec 29) (sof : Nat) (data : List Byte) (s : State) :
    ∃ t : State, exec (.canFrameRx b kind ext id sof data) s = .next t ∧ Only [.sig, .bus] s t ∧
      ((canHears s b.val = false ∨ canTakes s b.val kind ext id.toNat data.length = false) → t = s) ∧ (kind.remote = true → t.sig = s.sig) ∧
      (records 24 (tab s 0x0292) = [] → t.sig = s.sig) ∧ (∀ k, k ≠ b.val → canOf t k = canOf s k) ∧ t.bus.drives = s.bus.drives := by
  by_cases h : busUp s = false ∨ canHears s b.val = false ∨ canTakes s b.val kind ext id.toNat data.length = false
  · exact ⟨s, canFrameRx_unheard h sof, Only.refl, fun _ => rfl, fun _ => rfl, fun _ => rfl, fun _ _ => rfl, rfl⟩
  · simp only [not_or, Bool.not_eq_false] at h
    obtain ⟨hup, hhears, htakes⟩ := h
    refine ⟨_, canFrameRx_heard hup hhears htakes sof, ?_⟩
    have hcounted : HearsFrame b.val s (modCan b.val recAfter s) := .modCan _ _ s
    have hmapped := hcounted.trans (.foldl (canEntry_hears b.val ext id.toNat (s.time.total - sof) data) (records 24 (tab s 0x0292)) _)
    have hdeaf : ¬(canHears s b.val = false ∨ canTakes s b.val kind ext id.toNat data.length = false) := by simp [hhears, htakes]
    split
    next hdata =>
      refine ⟨hmapped.only, fun h => absurd h hdeaf, fun hremote => ?_, fun hempty => ?_, hmapped.others, hmapped.drives⟩
      · simp [hremote] at hdata
      · rw [hempty]
        rfl
    next => exact ⟨hcounted.only, fun h => absurd h hdeaf, fun _ => rfl, fun _ => rfl, hcounted.others, hcounted.drives⟩

/-- Settles O36: each row by what it makes of its controller, and the loss of a bus by the drives on it. -/
theorem canRows : Obligations.CanRows := by
  intro s
  exact ⟨fun _ _ _ => canErrorPassive_passive, fun _ tec rec_ hactive hpassive => canErrorPassive_idle hactive hpassive tec rec_,
    fun _ => canBusOff_loses, fun _ => stoppedController_idle, fun _ => canRecovered_recovers,
    fun b kind ext id sof data => canFrameRx_spec b kind ext id sof data s⟩

end Sys2Proof.Machine
end

section
/-! SUPPORT. The drive profile (R208 to R218): what a FEEDBACK and a DRIVE_STATUS leave of their drive, and what owners learn from them. -/

namespace Sys2Proof.Machine

set_option Elab.async false

/-! Owners learned of (R424, R442, R568). -/

theorem stopOwning_only (s : State) : Only [.evt, .grp, .saf, .out] s (stopOwning s) := by
  unfold stopOwning
  extract_lets g s1
  have h1 : Only [.grp, .saf, .out] s s1 := (Only.setGrp _).comp (dropOwnership_only _)
  have hstandby : Only [.evt, .grp, .out] s1 (announce (record .roleYielded [] { s1 with grp := { s1.grp with role := 1, cyclesAsStandby := 0 } })) :=
    ((Only.setGrp _).comp (rs := [.evt, .grp]) (record_only _ _ _)).comp (announce_only _)
  exact .ite (fun _ => .refl) fun _ => .ite (fun _ => h1.comp hstandby) fun _ => h1.mono (by decide)

theorem learnOwner_only (e : Nat) (s : State) : Only [.evt, .grp, .saf, .out] s (learnOwner e s) :=
  (Only.ite (fun _ => stopOwning_only s) fun _ => Only.refl).comp (seeEpoch_only e _)

theorem meetOwner_only (e : Nat) (s : State) : Only [.grp] s (meetOwner e s) :=
  .ite (fun _ => .refl) fun _ => .setGrp _

/-- Learning of an owner changes no drive. -/
theorem driveSt_learnOwner (e k : Nat) (s : State) : driveSt (learnOwner e (meetOwner e s)) k = driveSt s k :=
  driveSt_of_drives (congrArg BusState.drives
    (((learnOwner_only e _).2 .bus (by decide)).trans ((meetOwner_only e s).2 .bus (by decide)))) k

/-! FEEDBACK_RX (R208, R212, R216, R218). -/

/-- A drive whose FEEDBACK has come, on a bus that sends too or on one that only listens. -/
def Drive.heard (arr : Nat) (data : List Byte) (sends : Bool) (x : Drive) : Drive :=
  { x with fbs := ((arr, data) :: x.fbs).take 128, gotFb := true, missed := 0, lost := x.lost && !sends }

/-- A drive whose FEEDBACK is judged. -/
def Drive.judged (bad : Bool) (x : Drive) : Drive := { x with nonEnforcing := bad }

theorem judgeFeedback_bus (k : Nat) (d : DriveMap) (data : List Byte) (s : State) :
    (judgeFeedback k d data s).bus = (modDrive k (Drive.judged (d.enforcing && !bitOf (byteAt data 1) 0)) s).bus := by
  unfold judgeFeedback
  extract_lets seen e bad s0 s1
  have h1 : s1.bus = s0.bus := by
    unfold s1
    split
    · exact record_bus _ _ _
    · rfl
  split
  · exact (record_bus _ _ _).trans h1
  · exact h1

theorem judgeFeedback_only (k : Nat) (d : DriveMap) (data : List Byte) (s : State) : Only [.evt, .bus] s (judgeFeedback k d data s) := by
  unfold judgeFeedback
  extract_lets seen e bad s0 s1
  have h1 : Only [.evt, .bus] s s1 := (modDrive_only k _ s).comp (qs := [.evt]) (.ite (fun _ => record_only _ _ s0) fun _ => .refl)
  exact .ite (fun _ => h1.comp (record_only _ _ s1)) fun _ => h1

/-- A controller that hears the drive profile and does not only listen is one that sends. -/
theorem sends_of_profileRx {s : State} {b : Nat} (hrx : profileRx s b = true) (hsends : (canOf s b).state ≠ 5) :
    ((canOf s b).state == 1 || (canOf s b).state == 2) = true := by
  have hhears : canHears s b = true := by
    simp only [profileRx, Bool.and_eq_true] at hrx
    exact hrx.1.2
  simpa [canHears, hsends] using (Bool.and_eq_true_iff.mp hhears).1

section
variable {b : Fin 8} {n : Fin 32} {data : List Byte} {k : Nat} {d : DriveMap} {s : State}

theorem feedbackRx_keeps (hrx : profileRx s b.val = true) (hdata : data.length = 24) (hmap : thrusterAt s b.val n.val = some (k, d))
    (hawake : awake s = true) (hlen : k < s.bus.drives.length) :
    ∃ t : State, exec (.feedbackRx b n data) s = .next t ∧ (driveSt t k).fbs = ((s.time.total, data) :: (driveSt s k).fbs).take 128 ∧
      (driveSt t k).gotFb = true ∧ (driveSt t k).missed = 0 ∧ ((canOf s b.val).state ≠ 5 → (driveSt t k).lost = false) ∧
      Only [.evt, .bus, .grp, .saf, .out] s t := by
  let u := modDrive k (Drive.heard s.time.total data ((canOf s b.val).state == 1 || (canOf s b.val).state == 2)) (modCan b.val recAfter s)
  have hexec : exec (.feedbackRx b n data) s =
      .next (learnOwner (fieldU data 2 2) (meetOwner (fieldU data 2 2) (judgeFeedback k d data u))) := by
    show execFeedbackRx b n data s = _
    simp only [execFeedbackRx, hrx, hdata, hmap, hawake]
    rfl
  have hu : Only [.bus] s u := (modCan_only b.val recAfter s).trans (modDrive_only k _ _)
  have hheard : driveSt u k = (driveSt s k).heard s.time.total data ((canOf s b.val).state == 1 || (canOf s b.val).state == 2) :=
    driveSt_modDrive_same hlen _
  have hlenu : k < u.bus.drives.length := hlen.trans_eq (length_modAt _ _ _).symm
  refine ⟨_, hexec, ?_⟩
  rw [driveSt_learnOwner, driveSt_of_drives (congrArg BusState.drives (judgeFeedback_bus k d data u)), driveSt_modDrive_same hlenu, hheard]
  refine ⟨rfl, rfl, rfl, fun hsends => ?_, ?_⟩
  · simp only [Drive.judged, Drive.heard, sends_of_profileRx hrx hsends, Bool.not_true, Bool.and_false]
  · exact ((hu.comp (rs := [.evt, .bus]) (judgeFeedback_only k d data u)).comp (rs := [.evt, .bus, .grp]) (meetOwner_only _ _)).comp (learnOwner_only _ _)

theorem feedbackRx_foreign (hrx : profileRx s b.val = true) (hdata : data.length = 24) (hmap : thrusterAt s b.val n.val = none)
    (hawake : awake s = true) :
    exec (.feedbackRx b n data) s = .next (learnOwner (fieldU data 2 2) (meetOwner (fieldU data 2 2) (modCan b.val recAfter s))) := by
  show execFeedbackRx b n data s = _
  simp only [execFeedbackRx, hrx, hdata, hmap, hawake]
  rfl

theorem feedbackRx_otherLength (h : data.length ≠ 24) : exec (.feedbackRx b n data) s = .next s :=
  if_pos (by simp [h])

/-! DRIVE_STATUS_RX (R213, R218). -/

/-- A drive whose DRIVE_STATUS has come. -/
def Drive.reported (arr : Nat) (data : List Byte) (x : Drive) : Drive := { x with status := data, statusAt := arr, hbLost := false }

theorem driveStatusRx_keeps (hrx : profileRx s b.val = true) (hdata : data.length = 8) (hmap : thrusterAt s b.val n.val = some (k, d))
    (hawake : awake s = true) (hlen : k < s.bus.drives.length) :
    ∃ t : State, exec (.driveStatusRx b n data) s = .next t ∧ (driveSt t k).status = data ∧ (driveSt t k).statusAt = s.time.elapsed ∧
      (driveSt t k).hbLost = false ∧ Only [.bus] s t := by
  have hexec : exec (.driveStatusRx b n data) s = .next (modDrive k (Drive.reported s.time.elapsed data) (modCan b.val recAfter s)) := by
    show execDriveStatusRx b n data s = _
    simp only [execDriveStatusRx, hrx, hdata, hmap, hawake]
    rfl
  refine ⟨_, hexec, ?_⟩
  rw [driveSt_modDrive_same (s := modCan b.val recAfter s) hlen]
  exact ⟨rfl, rfl, rfl, (modCan_only _ _ s).trans (modDrive_only _ _ _)⟩

theorem driveStatusRx_otherLength (h : data.length ≠ 8) : exec (.driveStatusRx b n data) s = .next s :=
  if_pos (by simp [h])

end

/-! DRIVE_HB_LOST and DRIVE_LOST (R218). -/

/-- A drive without heartbeat. -/
def Drive.asSilent (x : Drive) : Drive := { x with hbLost := true }

section
variable {k : Fin 16} {d : DriveMap} {s : State}

theorem driveHbLost_marks (hmap : driveRec (ownMap s) k.val = some d) (hok : (driveSt s k.val).hbLost = false) (hawake : awake s = true)
    (hlen : k.val < s.bus.drives.length) :
    ∃ t : State, exec (.driveHbLost k) s = .next t ∧ (driveSt t k.val).hbLost = true ∧
      (driveSt s k.val).statusAt + ms (pNat s 0x02A3) ≤ t.time.elapsed ∧ Only [.time, .evt, .bus] s t := by
  let u := elapseTo ((driveSt s k.val).statusAt + ms (pNat s 0x02A3)) s
  have hexec : exec (.driveHbLost k) s =
      .next (record .driveHbLost (be 1 k.val ++ be 1 d.bus ++ be 2 (echoGap (driveSt s k.val))) (modDrive k.val Drive.asSilent u)) := by
    show execDriveHbLost k s = _
    simp only [execDriveHbLost, hmap, hok, hawake]
    rfl
  have hlenu : k.val < u.bus.drives.length := by rwa [elapseTo_bus]
  refine ⟨_, hexec, ?_, ?_, ((elapseTo_only _ s).comp (modDrive_only _ _ u)).comp (ps := [.time, .evt, .bus]) (record_only _ _ _)⟩
  · rw [driveSt_of_drives (congrArg BusState.drives (record_bus _ _ _)), driveSt_modDrive_same hlenu]
    rfl
  · rw [record_time]
    exact le_elapsed_elapseTo _ s

theorem driveLost_marks (hmap : driveRec (ownMap s) k.val = some d) (hawake : awake s = true) (hlen : k.val < s.bus.drives.length)
    (hgone : pNat s 0x02A2 ≤ (driveSt s k.val).missed ∨ (canOf s d.bus).state = 3) :
    ∃ t : State, exec (.driveLost k) s = .next t ∧ (driveSt t k.val).lost = true ∧ Only [.evt, .bus] s t := by
  have hexec : exec (.driveLost k) s = .next (loseDrive k.val s) := by
    show execDriveLost k s = _
    simp only [execDriveLost, hmap]
    exact if_pos (by simpa [hawake] using hgone)
  exact ⟨_, hexec, loseDrive_lost hlen (by simp [hmap]), (loseDrive_loses k.val s).only⟩

theorem unmappedDrive_idle (h : driveRec (ownMap s) k.val = none) :
    exec (.driveHbLost k) s = .next s ∧ exec (.driveLost k) s = .next s := by
  show execDriveHbLost k s = _ ∧ execDriveLost k s = _
  simp only [execDriveHbLost, execDriveLost, h, and_self]

end

/-- Settles O37: each row by what it makes of its drive, and what follows of owners. -/
theorem driveRows : Obligations.DriveRows := by
  intro s
  exact ⟨fun _ _ _ _ _ => feedbackRx_keeps, fun _ _ _ => feedbackRx_foreign, fun _ _ _ => feedbackRx_otherLength,
    fun _ _ _ _ _ => driveStatusRx_keeps, fun _ _ _ => driveStatusRx_otherLength, fun _ _ => driveHbLost_marks, fun _ _ => driveLost_marks,
    fun _ => unmappedDrive_idle⟩

end Sys2Proof.Machine
end

section
/-! SUPPORT. Serial sentences and module slots (R224 to R232): what a sentence may change, and what a row leaves of its slot. -/

namespace Sys2Proof.Machine

set_option Elab.async false

/-! SERIAL_SENTENCE_RX (R224 to R227). -/

theorem discardSentence_only (port : Nat) (s : State) : Only [.bus] s (discardSentence port s) :=
  Only.setBus _

/-- An entry that a sentence meets publishes one signal or nothing. -/
theorem sentenceEntry_only (port arr : Nat) (q : Sentence) (fs : List (List Byte)) (s : State) (e : List Byte) :
    Only [.sig] s (sentenceEntry port arr q fs s e) := by
  unfold sentenceEntry
  extract_lets p used vf valid f
  split
  · split
    · exact publishAs_only _ _ s
    · exact .refl
  · exact .refl

section
variable {port : Fin 8} {cs : List Byte} {fr : Bool} {s : State}

theorem serialSentenceRx_down (h : busUp s = false) (start : Nat) : exec (.serialSentenceRx port start cs fr) s = .next s :=
  if_pos (by simp [h])

theorem serialSentenceRx_discards (hup : busUp s = true) (htable : (tab s 0x0293).isEmpty = false)
    (hport : byteAt (tabRec s 0x0293 8 port.val) 2 = 1) (hbad : fr = true ∨ 82 < cs.length ∨ awake s = false) (start : Nat) :
    exec (.serialSentenceRx port start cs fr) s = .next (discardSentence port.val s) :=
  (if_neg (by simp [hup, htable, hport])).trans (if_pos (by obtain h | h | h := hbad <;> simp [h]))

theorem serialSentenceRx_only (port : Fin 8) (start : Nat) (cs : List Byte) (fr : Bool) (s : State) :
    ∃ t : State, exec (.serialSentenceRx port start cs fr) s = .next t ∧ Only [.evt, .sig, .bus] s t := by
  have hdiscard : Only [.evt, .sig, .bus] s (discardSentence port.val s) := (discardSentence_only _ s).mono (by decide)
  show ∃ t : State, execSerialSentenceRx port start cs fr s = .next t ∧ _
  unfold execSerialSentenceRx
  extract_lets on s1
  split
  · exact ⟨s, rfl, .refl⟩
  · split
    · exact ⟨_, rfl, hdiscard⟩
    · split
      · exact ⟨_, rfl, hdiscard⟩
      · split
        · exact ⟨_, rfl, hdiscard.trans ((record_only _ _ s1).mono (by decide))⟩
        · exact ⟨_, rfl, Only.refl.foldl _ (fun t e => (sentenceEntry_only _ _ _ _ t e).mono (by decide)) _⟩

end

/-! One slot. -/

theorem slotOf_modSlotM_same {i : Nat} {s : State} (h : i < s.bus.slots.length) (f : Slot → Slot) :
    slotOf (modSlotM i f s) i = f (slotOf s i) :=
  (at_modAt _ _ _ _ _).trans (if_pos ⟨rfl, h⟩)

theorem slotOf_of_bus {s t : State} (h : t.bus = s.bus) (i : Nat) : slotOf t i = slotOf s i := by
  rw [slotOf, slotOf, h]

theorem length_slots_modSlotM (i : Nat) (f : Slot → Slot) (s : State) : (modSlotM i f s).bus.slots.length = s.bus.slots.length :=
  length_modAt _ _ _

/-- A slot with its module plugged in. -/
def Slot.plugged (x : Slot) : Slot := { x with present := true }

/-- A slot whose read is due. -/
def Slot.readDue (x : Slot) : Slot := { x with due := true }

/-- A slot whose read begins. -/
def Slot.readBegun (x : Slot) : Slot := { x with reading := true, nacks := 0, due := false }

/-- A slot whose module did not answer once more. -/
def Slot.refused (x : Slot) : Slot := { x with nacks := x.nacks + 1 }

/-- A slot whose module did not answer at all. -/
def Slot.unanswered (x : Slot) : Slot := { x with reading := false, state := 2, desc := [] }

/-- A slot whose module has been taken away. -/
def Slot.unplugged (x : Slot) : Slot := { x with present := false, due := false, gone := true }

/-- A slot ABSENT. -/
def Slot.asAbsent (x : Slot) : Slot := { x with reading := false, state := 0, desc := [], gone := false }

/-- A slot whose read has ended with a descriptor. -/
def Slot.identified (state : Nat) (data : List Byte) (x : Slot) : Slot := { x with reading := false, desc := padTo 256 data, state := state }

/-! MODULE_PRESENT (R229). -/

theorem startRead_waits {s : State} (h : (awake s && !bowRaised s) = false) (i : Nat) : startRead i s = modSlotM i Slot.readDue s :=
  if_pos (by simpa [← Bool.not_eq_true, imp_iff_not_or] using h)

theorem startRead_begins {s : State} (hawake : awake s = true) (hpower : bowRaised s = false) (i : Nat) :
    startRead i s = emit (.i2c (i % 4) (0x50 + i / 4)) (modSlotM i Slot.readBegun s) :=
  if_neg (by simp [hawake, hpower])

theorem modulePresent_reads {i : Fin 8} {s : State} (hlen : i.val < s.bus.slots.length) :
    ∃ t : State, exec (.modulePresent i) s = .next t ∧ (slotOf t i.val).present = true ∧ Only [.bus, .out] s t ∧
      (awake s = true → bowRaised s = false → (slotOf t i.val).reading = true ∧ (slotOf t i.val).nacks = 0) ∧
      ((awake s && !bowRaised s) = false → (slotOf t i.val).due = true ∧ t.out = s.out) ∧ (slotOf t i.val).state = (slotOf s i.val).state := by
  let u := modSlotM i.val Slot.plugged s
  have hu : slotOf u i.val = (slotOf s i.val).plugged := slotOf_modSlotM_same hlen _
  have hlenu : i.val < u.bus.slots.length := hlen.trans_eq (length_slots_modSlotM _ _ s).symm
  have honly : Only [.bus, .out] s (startRead i.val u) := (modSlotM_only _ _ s).comp (startRead_only i.val u)
  refine ⟨startRead i.val u, rfl, ?_⟩
  cases hreads : awake s && !bowRaised s with
  | false =>
    have hwaits : startRead i.val u = modSlotM i.val Slot.readDue u := startRead_waits (s := u) hreads _
    have hslot : slotOf (startRead i.val u) i.val = (slotOf s i.val).plugged.readDue := by
      rw [hwaits, slotOf_modSlotM_same hlenu, hu]
    rw [hslot]
    refine ⟨rfl, honly, fun hawake hpower => ?_, fun _ => ⟨rfl, ?_⟩, rfl⟩
    · simp [hawake, hpower] at hreads
    · rw [hwaits]
      rfl
  | true =>
    obtain ⟨hawake, hpower⟩ : awake s = true ∧ bowRaised s = false := by simpa using hreads
    have hslot : slotOf (startRead i.val u) i.val = (slotOf s i.val).plugged.readBegun := by
      rw [startRead_begins (s := u) hawake hpower, slotOf_of_bus (emit_bus _ _), slotOf_modSlotM_same hlenu, hu]
    rw [hslot]
    exact ⟨rfl, honly, fun _ _ => ⟨rfl, rfl⟩, fun h => absurd h (by decide), rfl⟩

/-! MODULE_READ_COMPLETE and MODULE_NACK_RETRY (R229, R232). -/

/-- A read that ends leaves its slot identified or unidentified, with an event but where it is identified. -/
theorem identify_cases (i : Nat) (data : List Byte) (s : State) :
    ∃ st, identify i data s = modSlotM i (Slot.identified st data) s ∨
      ∃ e, identify i data s = record e (be 1 i) (modSlotM i (Slot.identified st data) s) := by
  unfold identify
  extract_lets x same st s1
  refine ⟨st, ?_⟩
  split
  · exact .inl rfl
  · exact .inr ⟨_, rfl⟩

theorem identify_only (i : Nat) (data : List Byte) (s : State) : Only [.evt, .bus] s (identify i data s) := by
  obtain ⟨st, h | ⟨e, h⟩⟩ := identify_cases i data s
  · rw [h]
    exact (modSlotM_only _ _ s).mono (by decide)
  · rw [h]
    exact (modSlotM_only _ _ s).comp (record_only _ _ _)

theorem identify_endsRead {i : Nat} {s : State} (hlen : i < s.bus.slots.length) (data : List Byte) :
    (slotOf (identify i data s) i).reading = false := by
  obtain ⟨st, h | ⟨e, h⟩⟩ := identify_cases i data s
  · rw [h, slotOf_modSlotM_same hlen]
    rfl
  · rw [h, slotOf_of_bus (record_bus _ _ _), slotOf_modSlotM_same hlen]
    rfl

section
variable {i : Fin 8} {s : State}

theorem moduleReadComplete_identifies (hreading : (slotOf s i.val).reading = true) (hawake : awake s = true) (hpower : bowRaised s = false)
    (data : List Byte) : exec (.moduleReadComplete i data) s = .next (identify i.val data s) :=
  if_pos (by simp [hreading, hawake, hpower])

theorem notReading_idle (h : (slotOf s i.val).reading = false) (data : List Byte) :
    exec (.moduleReadComplete i data) s = .next s ∧ exec (.moduleNackRetry i) s = .next s :=
  ⟨if_neg (by simp [h]), if_pos (by simp [h])⟩

theorem moduleNackRetry_retries (hreading : (slotOf s i.val).reading = true) (hawake : awake s = true) (hpower : bowRaised s = false)
    (hfew : (slotOf s i.val).nacks < 3) :
    exec (.moduleNackRetry i) s = .next (emit (.i2c (i.val % 4) (0x50 + i.val / 4))
      (modSlotM i.val Slot.refused (elapseTo (s.time.elapsed + ms 1) s))) :=
  (if_neg (by simp [hreading, hawake, hpower])).trans (if_pos hfew)

theorem moduleNackRetry_givesUp (hreading : (slotOf s i.val).reading = true) (hawake : awake s = true) (hpower : bowRaised s = false)
    (hmany : 3 ≤ (slotOf s i.val).nacks) :
    exec (.moduleNackRetry i) s = .next (record .moduleUnidentified (be 1 i.val) (modSlotM i.val Slot.unanswered s)) :=
  (if_neg (by simp [hreading, hawake, hpower])).trans (if_neg (by omega))

theorem moduleNackRetry_spec (hlen : i.val < s.bus.slots.length) (hreading : (slotOf s i.val).reading = true) (hawake : awake s = true)
    (hpower : bowRaised s = false) :
    ∃ t : State, exec (.moduleNackRetry i) s = .next t ∧ Only [.time, .evt, .bus, .out] s t ∧
      ((slotOf s i.val).nacks < 3 → (slotOf t i.val).nacks = (slotOf s i.val).nacks + 1 ∧ (slotOf t i.val).reading = true) ∧
      (3 ≤ (slotOf s i.val).nacks → (slotOf t i.val).reading = false ∧ (slotOf t i.val).state = 2 ∧ t.out = s.out) := by
  obtain hfew | hmany := Nat.lt_or_ge (slotOf s i.val).nacks 3
  · refine ⟨_, moduleNackRetry_retries hreading hawake hpower hfew,
      ((elapseTo_only _ s).comp (modSlotM_only _ _ _)).comp (ps := [.time, .evt, .bus]) (emit_only _ _), fun _ => ?_, fun hmany => absurd hfew hmany.not_gt⟩
    rw [slotOf_of_bus (emit_bus _ _), slotOf_modSlotM_same (by rwa [elapseTo_bus]), slotOf_of_bus (elapseTo_bus _ s)]
    exact ⟨rfl, hreading⟩
  · refine ⟨_, moduleNackRetry_givesUp hreading hawake hpower hmany, (modSlotM_only _ _ s).comp (record_only _ _ _),
      fun hfew => absurd hfew hmany.not_gt, fun _ => ?_⟩
    rw [slotOf_of_bus (record_bus _ _ _), slotOf_modSlotM_same hlen, record_out]
    exact ⟨rfl, rfl, rfl⟩

/-! MODULE_REMOVED (R229). -/

theorem moduleRemoved_unplugs (h : (slotOf s i.val).present = true ∨ (slotOf s i.val).state ≠ 0) :
    exec (.moduleRemoved i) s = .next (if awake s then leaveSlot i.val (modSlotM i.val Slot.unplugged s) else modSlotM i.val Slot.unplugged s) :=
  if_neg fun hgone => h.elim (fun hpresent => by simp [hpresent] at hgone) fun hstate => hstate hgone.2

theorem moduleRemoved_absent (hlen : i.val < s.bus.slots.length) (hawake : awake s = true)
    (h : (slotOf s i.val).present = true ∨ (slotOf s i.val).state ≠ 0) :
    ∃ t : State, exec (.moduleRemoved i) s = .next t ∧ (slotOf t i.val).state = 0 ∧ (slotOf t i.val).present = false ∧
      (slotOf t i.val).desc = [] ∧ Only [.evt, .bus] s t := by
  have hexec := moduleRemoved_unplugs h
  rw [if_pos hawake] at hexec
  have hleft : slotOf (leaveSlot i.val (modSlotM i.val Slot.unplugged s)) i.val = (slotOf s i.val).unplugged.asAbsent := by
    refine (slotOf_of_bus (record_bus _ _ _) _).trans ((slotOf_modSlotM_same ?_ Slot.asAbsent).trans ?_)
    · rwa [length_slots_modSlotM]
    · rw [slotOf_modSlotM_same hlen]
  refine ⟨_, hexec, ?_⟩
  rw [hleft]
  exact ⟨rfl, rfl, rfl, ((modSlotM_only _ _ s).trans (modSlotM_only _ _ _)).comp (record_only _ _ _)⟩

theorem moduleRemoved_noted (hlen : i.val < s.bus.slots.length) (hasleep : awake s = false)
    (h : (slotOf s i.val).present = true ∨ (slotOf s i.val).state ≠ 0) :
    ∃ t : State, exec (.moduleRemoved i) s = .next t ∧ (slotOf t i.val).gone = true ∧ (slotOf t i.val).present = false ∧
      (slotOf t i.val).due = false ∧ (slotOf t i.val).state = (slotOf s i.val).state ∧ Only [.bus] s t := by
  have hexec := moduleRemoved_unplugs h
  rw [if_neg (by simp [hasleep])] at hexec
  refine ⟨_, hexec, ?_⟩
  rw [slotOf_modSlotM_same hlen]
  exact ⟨rfl, rfl, rfl, rfl, modSlotM_only _ _ s⟩

theorem moduleRemoved_idle (hpresent : (slotOf s i.val).present = false) (hstate : (slotOf s i.val).state = 0) :
    exec (.moduleRemoved i) s = .next s :=
  if_pos ⟨by simp [hpresent], hstate⟩

end

/-- Settles O38: a sentence by what discards it, each row of a slot by what it makes of the slot. -/
theorem serialAndModuleRows : Obligations.SerialAndModuleRows := by
  intro s
  refine ⟨fun port start cs fr => ?_, fun _ => modulePresent_reads, fun i data hreading hawake hpower => ?_,
    fun _ data h => notReading_idle h data, fun _ => moduleNackRetry_spec, fun _ => moduleRemoved_absent, fun _ => moduleRemoved_noted,
    fun _ _ => moduleRemoved_idle⟩
  · obtain ⟨t, hexec, honly⟩ := serialSentenceRx_only port start cs fr s
    exact ⟨t, hexec, honly,
      fun hup htable hport hbad => Host.Outcome.next.inj (hexec.symm.trans (serialSentenceRx_discards hup htable hport hbad start)),
      fun hdown => Host.Outcome.next.inj (hexec.symm.trans (serialSentenceRx_down hdown start))⟩
  · exact ⟨_, moduleReadComplete_identifies hreading hawake hpower data, rfl, identify_only _ _ s, fun hlen => identify_endsRead hlen data⟩

end Sys2Proof.Machine
end

section
/-! SUPPORT. The timers and inputs of fusion (R246, R255, R269): what each row leaves of its group, its input and its head. -/

namespace Sys2Proof.Machine

set_option Elab.async false

/-! REF_HOLD_TIMEOUT (R269). -/

/-- A group whose hold has been told. -/
def VGroup.told (v : VGroup) : VGroup := { v with fired := true }

theorem groupSt_of_groups {s t : State} (h : t.fus.groups = s.fus.groups) (g : Nat) : groupSt t g = groupSt s g := by
  rw [groupSt, groupSt, h]

theorem groupSt_modGroup_same {g : Nat} {s : State} (h : g < s.fus.groups.length) (f : VGroup → VGroup) :
    groupSt (modGroup g f s) g = f (groupSt s g) :=
  (at_modAt _ _ _ _ _).trans (if_pos ⟨rfl, h⟩)

theorem groupSt_modGroup_ne {g k : Nat} (h : k ≠ g) (f : VGroup → VGroup) (s : State) : groupSt (modGroup g f s) k = groupSt s k :=
  (at_modAt _ _ _ _ _).trans (if_neg fun hg => h hg.1.symm)

/-- A hold that has run out marks its group, and asks stage 5 to degrade where the group is one of the first four. -/
theorem fireHold_fus {g c : Nat} {s : State} (hhold : (groupSt s g).hold = some c) (hout : holdPeriods s (groupSt s g).lost ≤ c)
    (hfirst : (groupSt s g).fired = false) :
    (fireHold g s).fus = { s.fus with groups := modAt s.fus.groups g VGroup.told,
                                      degrade := if g ≤ 3 then s.fus.degrade ++ [g] else s.fus.degrade } := by
  unfold fireHold
  simp only [hhold]
  rw [if_pos ⟨hout, by simp [hfirst]⟩]
  split <;> rw [record_fus] <;> rfl

theorem fireHold_idle {g : Nat} {s : State} (h : (groupSt s g).hold = none ∨ (groupSt s g).fired = true) : fireHold g s = s := by
  unfold fireHold
  extract_lets v s1 fus
  split
  next c hhold =>
    have hfired : v.fired = true := h.resolve_left (by simp [v, hhold])
    exact if_neg fun hfires => hfires.2 hfired
  next => rfl

theorem refHoldTimeout_fires {g : Fin 8} {c : Nat} {s : State} (hlen : g.val < s.fus.groups.length) (hhold : (groupSt s g.val).hold = some c)
    (hout : holdPeriods s (groupSt s g.val).lost ≤ c) (hfirst : (groupSt s g.val).fired = false) :
    ∃ t : State, exec (.refHoldTimeout g) s = .next t ∧ (groupSt t g.val).fired = true ∧ Only [.evt, .fus] s t ∧
      (g.val ≤ 3 → t.fus.degrade = s.fus.degrade ++ [g.val]) ∧ ∀ k, k ≠ g.val → groupSt t k = groupSt s k := by
  have hfus := fireHold_fus hhold hout hfirst
  have hgroup (k : Nat) : groupSt (fireHold g.val s) k = groupSt (modGroup g.val VGroup.told s) k :=
    groupSt_of_groups (by rw [hfus]; rfl) k
  refine ⟨fireHold g.val s, rfl, ?_, fireHold_only _ s, fun hg => ?_, fun k hk => ?_⟩
  · rw [hgroup, groupSt_modGroup_same hlen]
    rfl
  · exact (congrArg FusState.degrade hfus).trans (if_pos hg)
  · rw [hgroup, groupSt_modGroup_ne hk]

theorem refHoldTimeout_idle {g : Fin 8} {s : State} (h : (groupSt s g.val).hold = none ∨ (groupSt s g.val).fired = true) :
    exec (.refHoldTimeout g) s = .next s :=
  congrArg Host.Outcome.next (fireHold_idle h)

/-! CLOCK_SLIP_CLEARED (R246). -/

/-- An input whose clock is slipped no longer. -/
def InTrack.cleared (t : InTrack) : InTrack := { t with slip := false, good := 0 }

theorem trackOf_of_fus {s t : State} (h : t.fus = s.fus) (i : Nat) : trackOf t i = trackOf s i := by
  rw [trackOf, trackOf, h]

theorem trackOf_modTrack_same {i : Nat} {s : State} (h : i < s.fus.tracks.length) (f : InTrack → InTrack) :
    trackOf (modTrack i f s) i = f (trackOf s i) :=
  (at_modAt _ _ _ _ _).trans (if_pos ⟨rfl, h⟩)

theorem trackOf_modTrack_ne {i k : Nat} (h : k ≠ i) (f : InTrack → InTrack) (s : State) : trackOf (modTrack i f s) k = trackOf s k :=
  (at_modAt _ _ _ _ _).trans (if_neg fun hi => h hi.1.symm)

theorem clockSlipCleared_clears {i : Fin 64} {s : State} (hlen : i.val < s.fus.tracks.length) (hslip : (trackOf s i.val).slip = true)
    (hgood : 100 ≤ (trackOf s i.val).good) :
    ∃ t : State, exec (.clockSlipCleared i) s = .next t ∧ (trackOf t i.val).slip = false ∧ (trackOf t i.val).good = 0 ∧
      Only [.evt, .fus] s t ∧ ∀ k, k ≠ i.val → trackOf t k = trackOf s k := by
  have hclear : clearSlip i.val s = record .clockSlipCleared (be 1 i.val) (modTrack i.val InTrack.cleared s) :=
    if_pos (by simp [hslip, hgood])
  have htrack (k : Nat) : trackOf (clearSlip i.val s) k = trackOf (modTrack i.val InTrack.cleared s) k := by
    rw [hclear, trackOf_of_fus (record_fus _ _ _)]
  refine ⟨clearSlip i.val s, rfl, ?_⟩
  rw [htrack, trackOf_modTrack_same hlen]
  exact ⟨rfl, rfl, clearSlip_only _ s, fun k hk => (htrack k).trans (trackOf_modTrack_ne hk _ s)⟩

theorem clockSlipCleared_idle {i : Fin 64} {s : State} (h : (trackOf s i.val).slip = false ∨ (trackOf s i.val).good < 100) :
    exec (.clockSlipCleared i) s = .next s := by
  have hnot : ((trackOf s i.val).slip && decide (100 ≤ (trackOf s i.val).good)) = false := by
    obtain hslip | hgood := h
    · simp [hslip]
    · simp [Nat.not_le.mpr hgood]
  exact congrArg Host.Outcome.next (if_neg (by simp [hnot]))

/-! OPTICAL_FRAME_RX (R255). -/

/-- A frame is kept for head `h`, newest first, with its arrival stamp. -/
def keepFrame (h : Nat) (frame : List Byte) (s : State) : State :=
  { s with fus := { s.fus with heads := modAt s.fus.heads h fun l => (s.time.total, frame) :: l } }

theorem keepFrame_only (h : Nat) (frame : List Byte) (s : State) : Only [.fus] s (keepFrame h frame s) :=
  Only.setFus _

theorem keepFrame_newest {h : Nat} {s : State} (hlen : h < s.fus.heads.length) (frame : List Byte) :
    ((keepFrame h frame s).fus.heads[h]?).bind List.head? = some (s.time.total, frame) := by
  simp [keepFrame, getElem?_modAt, List.getElem?_eq_getElem hlen]

theorem countDropped_only (n : Nat) (s : State) : Only [.fus] s (countDropped n s) :=
  Only.setFus _

section
variable {s : State} {d : List Byte}

/-- A frame that passes its checks is kept, its sequence number published, and the observations of no class counted. -/
theorem opticalFrameRx_keeps (hawake : awake s = true) (hok : opticalOk s d = true) (b : Bool) :
    ∃ n, exec (.opticalFrameRx b d) s = .next (countDropped n (publish (0x0188 + byteAt d 4) (vU32 (fieldU d 6 2))
      (keepFrame (byteAt d 4) (d.take (16 + 24 * byteAt d 5)) s))) :=
  ⟨_, (if_neg (by simp [hawake])).trans (if_neg (by simp [hok]))⟩

theorem opticalFrameRx_accepts (hawake : awake s = true) (hok : opticalOk s d = true) (hhead : byteAt d 4 < s.fus.heads.length) (b : Bool) :
    ∃ t : State, exec (.opticalFrameRx b d) s = .next t ∧
      (t.fus.heads[byteAt d 4]?).bind List.head? = some (s.time.total, d.take (16 + 24 * byteAt d 5)) ∧ Only [.sig, .fus] s t ∧
      (keyGet (0x0188 + byteAt d 4) t.sig.tab).bind List.head? = some ⟨vU32 (fieldU d 6 2), false, s.time.total, none, none, none⟩ := by
  obtain ⟨n, hexec⟩ := opticalFrameRx_keeps hawake hok b
  exact ⟨_, hexec, keepFrame_newest hhead _,
    ((keepFrame_only _ _ s).comp (publish_only _ _ _)).comp (ps := [.sig, .fus]) (countDropped_only n _), publish_newest _ _ (keepFrame _ _ s)⟩

theorem opticalFrameRx_drops (hawake : awake s = true) (hbad : opticalOk s d = false) (b : Bool) :
    exec (.opticalFrameRx b d) s = .next { s with fus := { s.fus with dropped := min (2 ^ 32 - 1) (s.fus.dropped + 1) } } :=
  (if_neg (by simp [hawake])).trans (if_pos (by simp [hbad]))

theorem opticalFrameRx_asleep (h : awake s = false) (b : Bool) : exec (.opticalFrameRx b d) s = .next s :=
  if_pos (by simp [h])

end

end Sys2Proof.Machine
end

section
/-! SUPPORT. The timers of the observers (R283, R295, R297, R299): what each row leaves of its observer or quantity. -/

namespace Sys2Proof.Machine

set_option Elab.async false

/-! OBS_REINIT (R283). -/

/-- The physics observer with the part `heading` names started again from `x` and `p`. -/
def PhysState.restarted (heading : Bool) (x p : List F32) (q : PhysState) : PhysState :=
  { q with x := x, p := p, rejPos := if heading then q.rejPos else 0, rejHdg := if heading then 0 else q.rejHdg }

theorem reinitPart_restarts {heading : Bool} {m : ObsModel} {s : State} (hmodel : obsModel s = some m) (hrun : s.obs.phys.running = true)
    (hrej : m.reinit ≤ (if heading then s.obs.phys.rejHdg else s.obs.phys.rejPos)) :
    ∃ x p, (reinitPart heading s).obs = { s.obs with phys := s.obs.phys.restarted heading x p } := by
  unfold reinitPart
  simp only [hmodel]
  rw [if_neg (by simp [hrun, hrej])]
  exact ⟨_, _, record_obs _ _ _⟩

theorem reinitPart_idle {s : State} (h : obsModel s = none ∨ s.obs.phys.running = false) (heading : Bool) : reinitPart heading s = s := by
  unfold reinitPart
  split
  next => rfl
  next m hmodel =>
    have hstopped : s.obs.phys.running = false := h.resolve_left (by simp [hmodel])
    exact if_pos (by simp [hstopped])

theorem obsReinit_restarts {heading : Bool} {m : ObsModel} {s : State} (hmodel : obsModel s = some m) (hrun : s.obs.phys.running = true)
    (hrej : m.reinit ≤ (if heading then s.obs.phys.rejHdg else s.obs.phys.rejPos)) :
    ∃ t : State, exec (.obsReinit heading) s = .next t ∧ (if heading then t.obs.phys.rejHdg = 0 ∧ t.obs.phys.rejPos = s.obs.phys.rejPos
      else t.obs.phys.rejPos = 0 ∧ t.obs.phys.rejHdg = s.obs.phys.rejHdg) ∧ t.obs.rnn = s.obs.rnn ∧ t.obs.phys.running = true ∧
      Only [.evt, .obs] s t := by
  obtain ⟨x, p, hobs⟩ := reinitPart_restarts hmodel hrun hrej
  refine ⟨reinitPart heading s, rfl, ?_⟩
  rw [hobs]
  refine ⟨?_, rfl, hrun, reinitPart_only _ s⟩
  cases heading <;> exact ⟨rfl, rfl⟩

theorem obsReinit_idle {s : State} (h : obsModel s = none ∨ s.obs.phys.running = false) (heading : Bool) :
    exec (.obsReinit heading) s = .next s :=
  congrArg Host.Outcome.next (reinitPart_idle h heading)

/-! RNN_WARMUP_END, RNN_FAULT and RNN_WAIT_EXPIRY (R295, R299). -/

section
variable {s : State}

theorem rnnWarmupEnd_ends (hstate : s.obs.rnn.state = 1) (hsince : pNat s 0x0343 ≤ s.obs.rnn.since) (hstage : s.sch.stage = 2 ∨ s.sch.stage = 3) :
    exec .rnnWarmupEnd s = .next { s with obs := { s.obs with rnn := { s.obs.rnn with state := 2 } } } :=
  congrArg Host.Outcome.next ((if_pos hstage).trans (if_pos ⟨hstate, hsince⟩))

theorem rnnWarmupEnd_idle (h : s.obs.rnn.state ≠ 1 ∨ s.obs.rnn.since < pNat s 0x0343 ∨ s.sch.stage ≠ 2 ∧ s.sch.stage ≠ 3) :
    exec .rnnWarmupEnd s = .next s := by
  refine congrArg Host.Outcome.next ?_
  obtain hstate | hsince | hstage := h
  · exact ite_eq_right_iff.mpr fun _ => if_neg fun hends => hstate hends.1
  · exact ite_eq_right_iff.mpr fun _ => if_neg fun hends => hsince.not_ge hends.2
  · exact if_neg (not_or.mpr hstage)

theorem rnnFail_only (s : State) : Only [.evt, .obs] s (rnnFail s) :=
  Only.ite (fun _ => Only.refl) fun _ => (Only.setObs _).comp (record_only _ _ _)

theorem rnnFail_obs (h : s.obs.rnn.state ≠ 4) : (rnnFail s).obs = { s.obs with rnn := { s.obs.rnn with state := 4 } } := by
  rw [rnnFail, if_neg h, record_obs]

theorem rnnFault_fails (hawake : awake s = true) (h : s.obs.rnn.state ≠ 4) :
    ∃ t : State, exec .rnnFault s = .next t ∧ t.obs.rnn.state = 4 ∧ t.obs.phys = s.obs.phys ∧ Only [.evt, .obs] s t := by
  refine ⟨rnnFail s, congrArg Host.Outcome.next (if_pos hawake), ?_⟩
  rw [rnnFail_obs h]
  exact ⟨rfl, rfl, rnnFail_only s⟩

theorem rnnFault_idle (h : s.obs.rnn.state = 4) : exec .rnnFault s = .next s :=
  congrArg Host.Outcome.next (ite_eq_right_iff.mpr fun _ => if_pos h)

theorem rnnWaitExpiry_late (hdet : isDet s = false) (hstage : s.sch.stage = 3) (hstate : s.obs.rnn.state = 1 ∨ s.obs.rnn.state = 2)
    (hlate : s.obs.rnn.late = false) (u : BitVec 32) :
    ∃ t : State, exec (.rnnWaitExpiry u) s = .next t ∧ t.obs.rnn = { s.obs.rnn with late := true } ∧ Only [.evt, .obs] s t := by
  refine ⟨_, if_pos (by simp [hdet, hstage, hstate, hlate]), ?_, (Only.setObs _).comp (record_only _ _ _)⟩
  rw [record_obs]

theorem rnnWaitExpiry_idle (h : isDet s = true ∨ s.obs.rnn.late = true) (u : BitVec 32) : exec (.rnnWaitExpiry u) s = .next s :=
  if_neg (by obtain h | h := h <;> simp [h])

end

/-! OBS_AGREE (R297). -/

/-- A quantity no longer in disagreement. -/
def Xchk.agreed (x : Xchk) : Xchk := { x with disagree := false, count := 0 }

theorem obsAgree_agrees {q : Fin 9} {s : State} (hlen : q.val < s.obs.xchk.length) (hdis : (at_ xchkReset s.obs.xchk q.val).disagree = true)
    (hcount : pNat s 0x0342 ≤ (at_ xchkReset s.obs.xchk q.val).count) :
    ∃ t : State, exec (.obsAgree q) s = .next t ∧ (at_ xchkReset t.obs.xchk q.val).disagree = false ∧
      (at_ xchkReset t.obs.xchk q.val).count = 0 ∧ Only [.evt, .obs] s t := by
  have hagree : agree q.val s = record .obsAgree (be 1 q.val) (modXchk q.val Xchk.agreed s) :=
    if_pos (by simp [hdis, hcount])
  have hxchk : at_ xchkReset (agree q.val s).obs.xchk q.val = (at_ xchkReset s.obs.xchk q.val).agreed := by
    rw [hagree, record_obs]
    exact (at_modAt _ _ _ _ _).trans (if_pos ⟨rfl, hlen⟩)
  refine ⟨agree q.val s, rfl, ?_⟩
  rw [hxchk]
  exact ⟨rfl, rfl, agree_only _ s⟩

theorem obsAgree_idle {q : Fin 9} {s : State} (h : (at_ xchkReset s.obs.xchk q.val).disagree = false) : exec (.obsAgree q) s = .next s :=
  congrArg Host.Outcome.next (if_neg (by simp [h]))

/-- Settles O42: each row where its time has come or its input counts, and the same row where it has no effect. -/
theorem fusionAndObserverRows : Obligations.FusionAndObserverRows := by
  refine ⟨fun s => ⟨fun _ _ => refHoldTimeout_fires, fun _ => refHoldTimeout_idle, fun _ => clockSlipCleared_clears,
      fun _ => clockSlipCleared_idle, fun b _ hawake hok hhead => opticalFrameRx_accepts hawake hok hhead b,
      fun b _ hawake hbad => opticalFrameRx_drops hawake hbad b, fun b _ h => opticalFrameRx_asleep h b⟩,
    fun s => ⟨fun _ _ => obsReinit_restarts, fun heading h => obsReinit_idle h heading, rnnWarmupEnd_ends, rnnWarmupEnd_idle, rnnFault_fails,
      rnnFault_idle, fun u hdet hstage hstate hlate => rnnWaitExpiry_late hdet hstage hstate hlate u, fun u h => rnnWaitExpiry_idle h u,
      fun _ => obsAgree_agrees, fun _ => obsAgree_idle⟩⟩

end Sys2Proof.Machine
end

section
/-! SUPPORT. The map: its opcodes, maintenance and bundle adjustment (R306, R316, R324 to R330). -/

namespace Sys2Proof.Machine

set_option Elab.async false

/-! MAP_WRITE (R326). -/

/-- Maintenance's own nodes lose those that a MAP_WRITE writes over, and the loss of the map is reported no more (R326, R327). -/
def nodesTaken (c : Cmd) (s : State) : State :=
  { s with slv := { s.slv with mapLost := false, prov := s.slv.prov.filter fun q => !((mapRecords c.params).any fun e => e.1 == q.1) } }

/-- The records of a MAP_WRITE committed in one generation; a full map stays full where no slot has come free (R325, R327). -/
def mapWritten (c : Cmd) (s : State) : State :=
  let t := pushEffect c.opcode c.params (.nodes (mapRecords c.params) none) (nodesTaken c s)
  { t with slv := { t.slv with mapFull := t.slv.mapFull && decide (mapSlots ≤ lowestFree (pNat t 0x0621) (committedMap t).map) } }

theorem mapWritten_only (c : Cmd) (s : State) : Only [.slv, .sch] s (mapWritten c s) :=
  ((Only.setSlv _).comp (rs := [.slv, .sch]) (pushEffect_only _ _ _ _)).trans ((Only.setSlv _).mono (by decide))

theorem runMapWrite_writes {c : Cmd} (hk : c.k ≠ 0) (s : State) :
    runMapWrite c s = .finish (mapWritten c s) 0 [] (some (firstPeriod s)) :=
  if_neg hk

theorem mapWrite_commitsOnce {r : Req} {p : List Byte} {s : State} {x : Session} (h : Fresh 0x0610 3 2 r p s x)
    (hcheck : mapWriteCheck (cmdOf 0x0610 3 2 r p s) s = 0) :
    let c := cmdOf 0x0610 3 2 r p s
    let v := committed c 1 (admitted 0x0610 3 2 r p s)
    exec (.mapWrite r p) s = .next (endCmd c .done 2 0 [] (some (firstPeriod v)) (mapWritten (c.through 1) v)) := by
  intro c v
  have hplain : opMapWrite.code ∉ sessionOps := by decide
  obtain ⟨b, hbegins⟩ := packetIn_begins_all (d := opMapWrite) hplain h hcheck
  have hcommits := h.past_admitted.afterStep_commit (d := opMapWrite) hplain h b (u := admitted 0x0610 3 2 r p s) rfl rfl
  have hone : Past 0x0610 3 2 r p s 1 v := h.past_admitted.commits h rfl rfl
  have hends := hone.afterStep_ends (d := opMapWrite) (b := b) h (runMapWrite_writes (c := c.through 1) Nat.one_ne_zero v)
    (.of_only (mapWritten_only _ v))
  exact congrArg Host.Outcome.next (hbegins.trans (hcommits.trans hends))

/-- What a MAP_WRITE leaves: its records for the first period in force, the map in force as it was. -/
theorem mapWrite_writes {r : Req} {p : List Byte} {s : State} {x : Session} (h : Fresh 0x0610 3 2 r p s x)
    (hcheck : mapWriteCheck (cmdOf 0x0610 3 2 r p s) s = 0) : ∃ t : State, exec (.mapWrite r p) s = .next t ∧ t.slv.mapLost = false ∧
      t.slv.prov = s.slv.prov.filter (fun q => !((mapRecords p).any fun e => e.1 == q.1)) ∧ t.slv.map = s.slv.map ∧ t.slv.gen = s.slv.gen ∧
      t.sch.pend = s.sch.pend ++ [⟨s.time.total, 0x0610, p, .nodes (mapRecords p) none⟩] ∧ findCmd t s.host.nextEntry = none ∧
      Only [.host, .slv, .sch, .out] s t := by
  let c := cmdOf 0x0610 3 2 r p s
  obtain ⟨g, hg⟩ : ∃ g, committed c 1 (admitted 0x0610 3 2 r p s) = { s with host := g } := by
    rw [committed_eq_setHost, admitted_eq_setHost]
    exact ⟨_, rfl⟩
  have hexec : exec (.mapWrite r p) s = .next (endCmd c .done 2 0 [] (some (firstPeriod { s with host := g }))
      (mapWritten (c.through 1) { s with host := g })) := hg ▸ mapWrite_commitsOnce h hcheck
  have honly : Only [.host, .slv, .sch] s (mapWritten (c.through 1) { s with host := g }) := (Only.setHost g).comp (mapWritten_only _ _)
  refine ⟨_, hexec, ?_⟩
  rw [endCmd_slv, endCmd_sch]
  exact ⟨rfl, rfl, rfl, rfl, rfl, findCmd_endCmd_same .., honly.comp (endCmd_only ..)⟩

/-! MAP_READ (R326). -/

theorem mapRead_passes {c : Cmd} {u : State} (hlen : c.params.length = 8) (hlo : 1 ≤ fieldU c.params 4 4) (hhi : fieldU c.params 4 4 ≤ 5759)
    (hfit : fieldU c.params 0 4 + fieldU c.params 4 4 ≤ mapSlots) : opMapRead.check c u = 0 := by
  have hrange : decide (fieldU c.params 4 4 = 0 ∨ 5759 < fieldU c.params 4 4 ∨ mapSlots < fieldU c.params 0 4 + fieldU c.params 4 4) = false :=
    decide_eq_false (by omega)
  simp only [opMapRead, readOp, sizeIs_of_length hlen, hrange, when_false, firstOf_zero_cons, firstOf_nil]

/-- Settles O21: MAP_WRITE commits once and then leaves its records, the reads are one step each. -/
theorem mapCommands : Obligations.MapCommands :=
  ⟨fun _ _ _ _ h hcheck => mapWrite_writes h hcheck,
    acts_of_keeping opMapRead fun _ _ ⟨hlen, hlo, hhi, hfit⟩ => mapRead_passes hlen hlo hhi hfit, reads_of_empty⟩

/-! What maintenance and a pass may change before they commit (R325, R327, R328). -/

/-- The generation that is prepared in `t` is not in force yet: the map, its generation and the resident structures are those of `s`. -/
structure Prepares (s t : State) : Prop where
  only : Only [.evt, .slv] s t
  map : t.slv.map = s.slv.map
  gen : t.slv.gen = s.slv.gen
  structs : t.slv.structs = s.slv.structs

namespace Prepares

theorem refl (s : State) : Prepares s s := ⟨Only.refl, rfl, rfl, rfl⟩

theorem trans {s t u : State} (h : Prepares s t) (k : Prepares t u) : Prepares s u :=
  ⟨h.only.trans k.only, k.map.trans h.map, k.gen.trans h.gen, k.structs.trans h.structs⟩

theorem ite {c : Prop} [Decidable c] {s t u : State} (h : Prepares s t) (k : Prepares s u) : Prepares s (if c then t else u) := by
  split
  · exact h
  · exact k

theorem foldl {α β : Type} {f : β × State → α → β × State} (hf : ∀ acc x, Prepares acc.2 (f acc x).2) (l : List α) (acc : β × State) :
    Prepares acc.2 (l.foldl f acc).2 := by
  induction l generalizing acc with
  | nil => exact refl acc.2
  | cons x l ih => exact (hf acc x).trans (ih (f acc x))

theorem setSlv {s : State} (v : SlvState) (hmap : v.map = s.slv.map := by rfl) (hgen : v.gen = s.slv.gen := by rfl)
    (hstructs : v.structs = s.slv.structs := by rfl) : Prepares s { s with slv := v } :=
  ⟨(Only.setSlv v).mono (by decide), hmap, hgen, hstructs⟩

theorem record {s t : State} (h : Prepares s t) (e : Ev) (ps : List Byte) : Prepares s (record e ps t) := by
  refine h.trans ⟨(record_only e ps t).mono (by decide), ?_, ?_, ?_⟩
  all_goals rw [record_slv]

theorem seenNode {s t : State} (h : Prepares s t) (o : Loose) (n : Nat) : Prepares s (seenNode o n t) :=
  h.trans (setSlv _)

end Prepares

section
variable (acc : List (Nat × List Byte) × State) (m : List (Nat × List Byte))

theorem takePlace_prepares (o : Loose) (p : V3) : Prepares acc.2 (takePlace acc o p).2 := by
  simp only [takePlace]
  split
  · exact .seenNode (.setSlv _) _ _
  · split
    · exact .refl _
    · split
      · exact .ite (.refl _) (.record (.setSlv _) _ _)
      · exact .seenNode (.setSlv _) _ _

theorem takeLoose_prepares (o : Loose) : Prepares acc.2 (takeLoose acc o).2 := by
  unfold takeLoose
  split
  · exact takePlace_prepares ..
  · exact .refl _

theorem promote_prepares (p : Nat × ProvNode) : Prepares acc.2 (promote m acc p).2 := by
  simp only [promote]
  split
  · split
    · dsimp only
      exact .record (.setSlv _) _ _
    · exact .refl _
  · exact .refl _

theorem retire_prepares (t : Track) : Prepares acc.2 (retire m acc t).2 := by
  simp only [retire]
  split
  · split
    · dsimp only
      exact .record (.refl _) _ _
    · exact .refl _
  · exact .refl _

/-- A node that a pass moves, or whose move is refused. -/
theorem baNode_prepares (x : NodeMove) : Prepares acc.2 (baNode m acc x).2 := by
  simp only [baNode]
  split
  · exact .refl _
  · split
    · exact .setSlv _
    · exact .record (.refl _) _ _

end

/-! MAP_MAINTENANCE (R327). -/

/-- A maintenance cycle takes the loose observations and leaves one generation. -/
theorem maintain_spec (s : State) : (maintain s).fus = { s.fus with loose := [] } ∧ (maintain s).slv.map = s.slv.map ∧
    (maintain s).slv.gen = s.slv.gen ∧ (∃ p, (maintain s).sch.pend = s.sch.pend ++ [p]) ∧ Only [.evt, .slv, .fus, .sch] s (maintain s) := by
  unfold maintain
  extract_lets a m b c _ _ s1
  have ha : Prepares s a.2 := .foldl takeLoose_prepares s.fus.loose ([], s)
  have hb : Prepares a.2 b.2 := .foldl (fun acc p => promote_prepares acc m p) a.2.slv.prov a
  have hc : Prepares b.2 c.2 := .foldl (fun acc t => retire_prepares acc m t) (missedTracks b.2) b
  have hall := (ha.trans hb).trans hc
  have htaken : Only [.evt, .slv, .fus] s s1 := hall.only.comp (Only.setFus _)
  have hfus : c.2.fus = s.fus := hall.only.2 .fus (by decide)
  have hsch : c.2.sch = s.sch := hall.only.2 .sch (by decide)
  exact ⟨congrArg (fun f : FusState => { f with loose := [] }) hfus, hall.map, hall.gen, ⟨_, congrArg (fun q : SchState => q.pend ++ [_]) hsch⟩,
    htaken.comp (pushEffect_only _ _ _ s1)⟩

theorem leaveWork_only (job : Nat) (s : State) : Only [.pwr] s (leaveWork job s) :=
  Only.ite (fun _ => stopDomains_only _ s) fun _ => Only.refl

theorem setHome_pend (job : Nat) (ds : List Nat) (s : State) : (setHome job ds s).sch.pend = s.sch.pend := by
  cases ds <;> rfl

theorem jobStart_pend (cls job : Nat) (more : List Nat) (s : State) : (jobStart cls job more s).sch.pend = s.sch.pend :=
  (setHome_pend _ _ _).trans (congrArg SchState.pend ((accessDomains_only _ _ s).2 .sch (by decide)))

section
variable {s : State}

theorem mapMaintenance_runs (hon : pNat s 0x0620 = 1) (hclass : class3 s = true) :
    exec .mapMaintenance s = .next (onWork 3 4 [] (fun v => leaveWork 4 (maintain v)) s) :=
  congrArg Host.Outcome.next (if_pos (by simp [hon, hclass]))

theorem mapMaintenance_commits (hon : pNat s 0x0620 = 1) (hclass : class3 s = true)
    (hup : domainsUp (workTile 4 s) (accessDomains 3 (workTile 4 s) s) = true) :
    ∃ t : State, exec .mapMaintenance s = .next t ∧ t.fus = { s.fus with loose := [] } ∧ t.slv.map = s.slv.map ∧ t.slv.gen = s.slv.gen ∧
      (∃ p, t.sch.pend = s.sch.pend ++ [p]) ∧ Only [.time, .evt, .pwr, .fus, .slv, .sch] s t := by
  rw [← List.append_nil (workTile 4 s)] at hup
  refine ⟨_, (mapMaintenance_runs hon hclass).trans (congrArg Host.Outcome.next (onWork_up _ hup)), ?_⟩
  obtain ⟨hstart, -, -⟩ := jobStart_spec 3 4 [] s
  have hpend := jobStart_pend 3 4 [] s
  generalize jobStart 3 4 [] s = v at hstart hpend ⊢
  have hfus : v.fus = s.fus := hstart.2 .fus (by decide)
  have hslv : v.slv = s.slv := hstart.2 .slv (by decide)
  have hspec := maintain_spec v
  rw [hfus, hslv, hpend] at hspec
  obtain ⟨hloose, hmap, hgen, hleft, hmaintain⟩ := hspec
  have hleave := leaveWork_only 4 (maintain v)
  have hfus' : (leaveWork 4 (maintain v)).fus = (maintain v).fus := hleave.2 .fus (by decide)
  have hslv' : (leaveWork 4 (maintain v)).slv = (maintain v).slv := hleave.2 .slv (by decide)
  have hsch' : (leaveWork 4 (maintain v)).sch = (maintain v).sch := hleave.2 .sch (by decide)
  have honly : Only [.time, .evt, .pwr, .fus, .slv, .sch] s (maintain v) := hstart.comp hmaintain
  rw [hfus', hslv', hsch']
  exact ⟨hloose, hmap, hgen, hleft, honly.comp hleave⟩

theorem mapMaintenance_waits (hon : pNat s 0x0620 = 1) (hclass : class3 s = true)
    (hdown : domainsUp (workTile 4 s) (accessDomains 3 (workTile 4 s) s) = false) :
    exec .mapMaintenance s = .next (accessDomains 3 (workTile 4 s) s) := by
  rw [← List.append_nil (workTile 4 s)] at hdown ⊢
  exact (mapMaintenance_runs hon hclass).trans (congrArg Host.Outcome.next (onWork_waits _ hdown))

theorem mapMaintenance_idle (h : pNat s 0x0620 ≠ 1 ∨ class3 s = false) : exec .mapMaintenance s = .next s := by
  refine next_of_not ?_
  rcases h with h | h <;> simp [h]

end

/-! BA_PASS (R328, R329). -/

/-- What a pass reports, and what it leaves for the map. -/
theorem baCommit_spec (b : BaRun) (s : State) : (baCommit b s).slv.baRun = none ∧ (baCommit b s).slv.baIter = b.iters ∧
    (baCommit b s).slv.baRms = some b.rms ∧ (baCommit b s).slv.baAt = now s ∧ (baCommit b s).slv.map = s.slv.map ∧
    (baCommit b s).slv.structs = keyDel 58 s.slv.structs ∧ (∃ p, (baCommit b s).sch.pend = s.sch.pend ++ [p]) ∧
    Only [.evt, .slv, .sch] s (baCommit b s) := by
  unfold baCommit
  extract_lets v own a w kept _ s1
  have ha : Prepares s a.2 := .foldl (fun acc x => baNode_prepares acc v.map x) own ([], s)
  have hsch : a.2.sch = s.sch := ha.only.2 .sch (by decide)
  have hreport : Only [.evt, .slv] s s1 := ha.only.trans ((Only.setSlv _).mono (by decide))
  exact ⟨rfl, rfl, rfl, rfl, ha.map, congrArg (keyDel 58) ha.structs, ⟨_, congrArg (fun q : SchState => q.pend ++ [_]) hsch⟩,
    hreport.comp (pushEffect_only _ _ _ s1)⟩

/-- A pass ends, and its tile's clock with the last job placed on it (R35). -/
def passEnd (b : BaRun) (s : State) : State :=
  if solverBusy (baTile s) s.host.nextEntry (baCommit b s) then baCommit b s else stopDomains [12 + baTile s] (baCommit b s)

theorem passEnd_only (b : BaRun) (s : State) : Only [.pwr] (baCommit b s) (passEnd b s) :=
  Only.ite (fun _ => Only.refl) fun _ => stopDomains_only _ _

section
variable {s : State} {b : BaRun}

theorem baPass_runs (hrun : s.slv.baRun = some b) (hon : pNat s 0x0622 = 1) (hclass : class3 s = true) :
    exec .baPass s = .next (onDomains 3 (solverTile 58 s) (passEnd b) s) := by
  show execBaPass s = _
  simp only [execBaPass, hrun, hon, hclass, decide_true, Bool.and_self, if_true]
  rfl

theorem baPass_ends (hrun : s.slv.baRun = some b) (hon : pNat s 0x0622 = 1) (hclass : class3 s = true)
    (hup : domainsUp (solverTile 58 s) (accessDomains 3 (solverTile 58 s) s) = true) :
    ∃ t : State, exec .baPass s = .next t ∧ t.slv.baRun = none ∧ t.slv.baIter = b.iters ∧ t.slv.baRms = some b.rms ∧
      t.slv.baAt = now (accessDomains 3 (solverTile 58 s) s) ∧ t.slv.map = s.slv.map ∧ t.slv.structs = keyDel 58 s.slv.structs ∧
      (∃ p, t.sch.pend = s.sch.pend ++ [p]) ∧ Only [.time, .evt, .pwr, .slv, .sch] s t := by
  refine ⟨_, (baPass_runs hrun hon hclass).trans (congrArg Host.Outcome.next (onDomains_up _ hup)), ?_⟩
  have hready := accessDomains_only 3 (solverTile 58 s) s
  generalize accessDomains 3 (solverTile 58 s) s = v at hready ⊢
  have hslv : v.slv = s.slv := hready.2 .slv (by decide)
  have hsch : v.sch = s.sch := hready.2 .sch (by decide)
  have hspec := baCommit_spec b v
  rw [hslv, hsch] at hspec
  obtain ⟨hnone, hiter, hrms, hat, hmap, hstructs, hpend, hcommit⟩ := hspec
  have hend := passEnd_only b v
  have hslv' : (passEnd b v).slv = (baCommit b v).slv := hend.2 .slv (by decide)
  have hsch' : (passEnd b v).sch = (baCommit b v).sch := hend.2 .sch (by decide)
  have honly : Only [.time, .evt, .pwr, .slv, .sch] s (baCommit b v) := hready.comp hcommit
  rw [hslv', hsch']
  exact ⟨hnone, hiter, hrms, hat, hmap, hstructs, hpend, honly.comp hend⟩

theorem baPass_waits (hrun : s.slv.baRun = some b) (hon : pNat s 0x0622 = 1) (hclass : class3 s = true)
    (hdown : domainsUp (solverTile 58 s) (accessDomains 3 (solverTile 58 s) s) = false) :
    exec .baPass s = .next (accessDomains 3 (solverTile 58 s) s) :=
  (baPass_runs hrun hon hclass).trans (congrArg Host.Outcome.next (onDomains_waits _ hdown))

theorem baPass_idle (h : s.slv.baRun = none ∨ pNat s 0x0622 ≠ 1 ∨ class3 s = false) : exec .baPass s = .next s := by
  show execBaPass s = _
  unfold execBaPass
  split
  · rfl
  · next hrun =>
    refine next_of_not ?_
    rcases h with h | h | h
    · rw [h] at hrun
      cases hrun
    · simp [h]
    · simp [h]

end

/-- Settles O43: each row once its domains are up, while it waits for them, and where it has no effect. -/
theorem mapRows : Obligations.MapRows :=
  fun _ => ⟨fun hon hclass => ⟨mapMaintenance_commits hon hclass, mapMaintenance_waits hon hclass⟩, mapMaintenance_idle,
    fun _ hrun hon hclass => ⟨baPass_ends hrun hon hclass, baPass_waits hrun hon hclass⟩, baPass_idle⟩

end Sys2Proof.Machine
end

section
/-! The timers of station control (R354, R356, R358, R361, R364). -/

namespace Sys2Proof.Machine

set_option Elab.async false

/-! A row on the control state: what `ctlRow` writes. -/

section
variable {f : CtlRun → CtlRun} {s : State}

theorem ctlRow_only (f : CtlRun → CtlRun) (s : State) : Only [.evt, .ctl] s (ctlRow f s) :=
  (Only.setCtl _).comp (Only.refl.foldl (ps := [.evt]) _ (fun t _ => record_only _ _ t) _)

/-- Recording the events of a row leaves the control state that the row gives. -/
theorem ctlRow_ctl (f : CtlRun → CtlRun) (s : State) : (ctlRow f s).ctl = (f ⟨s.ctl, [], []⟩).c :=
  (Only.refl.foldl (ps := [.evt]) _ (fun t _ => record_only _ _ t) _).2 .ctl (by decide)

/-- A row that comes into force, by the run it gives. -/
theorem ctlRow_gives {r : CtlRun} (h : f ⟨s.ctl, [], []⟩ = r) : (ctlRow f s).ctl = r.c ∧ Only [.evt, .ctl] s (ctlRow f s) :=
  ⟨h ▸ ctlRow_ctl f s, ctlRow_only f s⟩

/-- A row whose time has not come. -/
theorem next_ctlRow_of_eq (h : f ⟨s.ctl, [], []⟩ = ⟨s.ctl, [], []⟩) : (.next (ctlRow f s) : Result) = .next s := by
  rw [ctlRow, h]
  rfl

end

/-! JOY_TIMEOUT (R354). -/

section
variable {s : State}

theorem joyTimeout_expires (hmode : joyMode s.ctl.mode = true) (hon : s.ctl.joyTimeout = false)
    (hage : msPeriods s (pNat s 0x0302) ≤ s.ctl.joyAge) :
    ∃ t : State, exec .joyTimeout s = .next t ∧ t.ctl = { s.ctl with joy := [0, 0, 0], joyTimeout := true } ∧ Only [.evt, .ctl] s t :=
  ⟨_, rfl, ctlRow_gives (if_pos (by simp [hmode, hon, hage]))⟩

theorem joyTimeout_idle (h : joyMode s.ctl.mode = false ∨ s.ctl.joyTimeout = true ∨ s.ctl.joyAge < msPeriods s (pNat s 0x0302)) :
    exec .joyTimeout s = .next s := by
  refine next_ctlRow_of_eq (if_neg ?_)
  rcases h with h | h | h <;> simp [h]

end

/-! FOLLOW_WARN and FOLLOW_LIMIT (R356). -/

/-- With an action other than the halt (1), FOLLOW_LIMIT leaves the mode and the supervision; action 2 asks for the degradation. -/
theorem feLimit_spec {v : CtlEnv} (h : pNat v.s 0x0310 ≠ 1) (k : Nat) (e : F32) (r : CtlRun) :
    (feLimit v k e r).c.fe = r.c.fe ∧ (feLimit v k e r).c.mode = r.c.mode ∧ (pNat v.s 0x0310 = 2 → (feLimit v k e r).c.feRequest = true) := by
  unfold feLimit
  split
  · exact absurd ‹_› h
  · exact ⟨rfl, rfl, fun _ => rfl⟩
  · next h2 => exact ⟨rfl, rfl, fun hask => absurd hask h2⟩

/-- The warning of an axis raised, its count begun again. -/
def feWarned (k : Nat) (c : CtlState) : CtlState := { c with fe := modAt c.fe k fun f => { f with warn := true, warnCount := 0 } }

/-- The limit of an axis raised, its count begun again. -/
def feLimited (k : Nat) (c : CtlState) : CtlState := { c with fe := modAt c.fe k fun f => { f with limit := true, limitCount := 0 } }

theorem at_feWarned {c : CtlState} {k : Nat} (hk : k < c.fe.length) :
    at_ feReset (feWarned k c).fe k = { at_ feReset c.fe k with warn := true, warnCount := 0 } :=
  (at_modAt ..).trans (if_pos ⟨rfl, hk⟩)

theorem at_feLimited {c : CtlState} {k : Nat} (hk : k < c.fe.length) :
    at_ feReset (feLimited k c).fe k = { at_ feReset c.fe k with limit := true, limitCount := 0 } :=
  (at_modAt ..).trans (if_pos ⟨rfl, hk⟩)

section
variable {s : State} {r : CtlRun} {k : Nat}

theorem feExpire_eq_feWarn (hauto : 1 < axisSrc r.c.mode k) (hoff : (at_ feReset r.c.fe k).warn = false)
    (hheld : max 1 (msPeriods s (fieldU (tabRec s 0x0390 48 k) 28 4)) ≤ (at_ feReset r.c.fe k).warnCount) :
    feExpire false k s r = feWarn k (at_ 0 (ctlErrors (lastEnv s) r.c).e k) (r.mod (feWarned k)) := by
  unfold feExpire
  simp only [Nat.not_le.mpr hauto, hoff, hheld, if_false, Bool.false_eq_true, Bool.not_false, Bool.true_and, decide_true, if_true]
  rfl

theorem feExpire_eq_feLimit (hauto : 1 < axisSrc r.c.mode k) (hoff : (at_ feReset r.c.fe k).limit = false)
    (hheld : max 1 (msPeriods s (fieldU (tabRec s 0x0390 48 k) 32 4)) ≤ (at_ feReset r.c.fe k).limitCount) :
    feExpire true k s r = feLimit (lastEnv s) k (at_ 0 (ctlErrors (lastEnv s) r.c).e k) (r.mod (feLimited k)) := by
  unfold feExpire
  simp only [Nat.not_le.mpr hauto, hoff, hheld, if_false, Bool.not_false, Bool.true_and, decide_true, if_true]
  rfl

end

section
variable {s : State} {k : Fin 3}

theorem followWarn_raises (hk : k.val < s.ctl.fe.length) (hauto : 1 < axisSrc s.ctl.mode k.val)
    (hoff : (at_ feReset s.ctl.fe k.val).warn = false)
    (hheld : max 1 (msPeriods s (fieldU (tabRec s 0x0390 48 k.val) 28 4)) ≤ (at_ feReset s.ctl.fe k.val).warnCount) :
    ∃ t : State, exec (.followWarn k) s = .next t ∧ (at_ feReset t.ctl.fe k.val).warn = true ∧ (at_ feReset t.ctl.fe k.val).warnCount = 0 ∧
      Only [.evt, .ctl] s t ∧ t.ctl.mode = s.ctl.mode := by
  obtain ⟨hctl, honly⟩ := ctlRow_gives (feExpire_eq_feWarn (r := ⟨s.ctl, [], []⟩) hauto hoff hheld)
  have hfe := (congrArg (fun c : CtlState => at_ feReset c.fe k.val) hctl).trans (at_feWarned hk)
  exact ⟨_, rfl, congrArg FeAxis.warn hfe, congrArg FeAxis.warnCount hfe, honly, (congrArg CtlState.mode hctl).trans rfl⟩

theorem followLimit_raises (hk : k.val < s.ctl.fe.length) (hauto : 1 < axisSrc s.ctl.mode k.val)
    (hoff : (at_ feReset s.ctl.fe k.val).limit = false)
    (hheld : max 1 (msPeriods s (fieldU (tabRec s 0x0390 48 k.val) 32 4)) ≤ (at_ feReset s.ctl.fe k.val).limitCount)
    (haction : pNat s 0x0310 ≠ 1) :
    ∃ t : State, exec (.followLimit k) s = .next t ∧ (at_ feReset t.ctl.fe k.val).limit = true ∧ (at_ feReset t.ctl.fe k.val).limitCount = 0 ∧
      Only [.evt, .ctl] s t ∧ t.ctl.mode = s.ctl.mode ∧ (pNat s 0x0310 = 2 → t.ctl.feRequest = true) := by
  obtain ⟨hctl, honly⟩ := ctlRow_gives (feExpire_eq_feLimit (r := ⟨s.ctl, [], []⟩) hauto hoff hheld)
  obtain ⟨hsame, hmode, hask⟩ := feLimit_spec (v := lastEnv s) haction k.val (at_ 0 (ctlErrors (lastEnv s) s.ctl).e k.val)
    (CtlRun.mod ⟨s.ctl, [], []⟩ (feLimited k.val))
  rw [← hctl] at hsame hmode hask
  have hfe := (congrArg (at_ feReset · k.val) hsame).trans (at_feLimited hk)
  exact ⟨_, rfl, congrArg FeAxis.limit hfe, congrArg FeAxis.limitCount hfe, honly, hmode, hask⟩

/-- An axis with no source or under the joystick is not supervised. -/
theorem followRows_idle (h : axisSrc s.ctl.mode k.val ≤ 1) : exec (.followWarn k) s = .next s ∧ exec (.followLimit k) s = .next s :=
  ⟨next_ctlRow_of_eq (if_pos h), next_ctlRow_of_eq (if_pos h)⟩

end

/-! TARGET_LOST_TIMEOUT (R361). -/

section
variable {s : State}

theorem targetLostTimeout_asks (hmode : s.ctl.mode = 5) (hlost : s.ctl.targetLost = true)
    (hheld : msPeriods s (pNat s 0x0312) ≤ s.ctl.lostCount) :
    exec .targetLostTimeout s = .next { s with ctl := { s.ctl with targetRequest := true } } := by
  have hrun : targetExpire s ⟨s.ctl, [], []⟩ = ⟨{ s.ctl with targetRequest := true }, [], []⟩ := if_pos ⟨hmode, hlost, hheld⟩
  show Host.Outcome.next (ctlRow (targetExpire s) s) = _
  rw [ctlRow, hrun]
  rfl

theorem targetLostTimeout_idle (h : s.ctl.mode ≠ 5 ∨ s.ctl.targetLost = false) : exec .targetLostTimeout s = .next s := by
  refine next_ctlRow_of_eq (if_neg ?_)
  rcases h with h | h <;> simp [h]

end

/-! BERTH_OPT_LOST (R364). -/

/-- A halt of the position profile only sets a position target: the mode and the mark of the lost reference stay. -/
theorem haltPos_spec (s : State) (c : CtlState) : (haltPos s c).mode = c.mode ∧ (haltPos s c).optLost = c.optLost := by
  have htarget : ∀ t, (setTarget t c).mode = c.mode ∧ (setTarget t c).optLost = c.optLost := fun t => by
    unfold setTarget
    split <;> exact ⟨rfl, rfl⟩
  unfold haltPos
  dsimp only
  split <;> exact htarget _

section
variable {s : State}

theorem berthOptLost_declares (hmode : s.ctl.mode = 6) (hphase : 2 ≤ s.ctl.phase) (hseen : s.ctl.optLost = false)
    (hheld : msPeriods s (pNat s 0x0313) ≤ s.ctl.optCount) :
    ∃ t : State, exec .berthOptLost s = .next t ∧ t.ctl.optLost = true ∧ t.ctl.mode = 6 ∧ (s.ctl.phase = 2 → t.ctl.halted = true) ∧
      Only [.evt, .ctl] s t := by
  have hdue : s.ctl.mode = 6 ∧ 2 ≤ s.ctl.phase ∧ ¬ s.ctl.optLost ∧ msPeriods s (pNat s 0x0313) ≤ s.ctl.optCount :=
    ⟨hmode, hphase, Bool.eq_false_iff.mp hseen, hheld⟩
  by_cases h2 : s.ctl.phase = 2
  · obtain ⟨hctl, honly⟩ := ctlRow_gives (f := optExpire s) (s := s) ((if_pos hdue).trans (if_pos h2))
    obtain ⟨hkept, hlost⟩ := haltPos_spec s { s.ctl with optLost := true }
    exact ⟨_, rfl, (congrArg CtlState.optLost hctl).trans hlost, ((congrArg CtlState.mode hctl).trans hkept).trans hmode,
      fun _ => congrArg CtlState.halted hctl, honly⟩
  · obtain ⟨hctl, honly⟩ := ctlRow_gives (f := optExpire s) (s := s) ((if_pos hdue).trans (if_neg h2))
    exact ⟨_, rfl, congrArg CtlState.optLost hctl, (congrArg CtlState.mode hctl).trans hmode, fun h => absurd h h2, honly⟩

theorem berthOptLost_idle (h : s.ctl.mode ≠ 6 ∨ s.ctl.phase < 2 ∨ s.ctl.optLost = true) : exec .berthOptLost s = .next s := by
  refine next_ctlRow_of_eq (if_neg ?_)
  rcases h with h | h | h <;> simp [h]

end

/-! TRACK_HOLD_EXPIRY (R358). -/

section
variable {s : State}

theorem trackHoldExpiry_advances (hmode : s.ctl.mode = 4) (hhold : wpHold s s.ctl.waypoint) (hthere : s.ctl.arrivedPos = true)
    (hmore : s.ctl.waypoint + 1 < wpCount s) (hserved : wpHoldPeriods s s.ctl.waypoint ≤ s.ctl.holdAge) :
    ∃ t : State, exec .trackHoldExpiry s = .next t ∧
      t.ctl = { s.ctl with waypoint := s.ctl.waypoint + 1, holdAge := 0, arrivedPos := false } ∧ Only [.evt, .ctl] s t :=
  ⟨_, rfl, ctlRow_gives (if_pos ⟨hmode, hhold, hthere, hmore, hserved⟩)⟩

theorem trackHoldExpiry_idle (h : s.ctl.mode ≠ 4 ∨ s.ctl.arrivedPos = false) : exec .trackHoldExpiry s = .next s := by
  refine next_ctlRow_of_eq (if_neg ?_)
  rcases h with h | h <;> simp [h]

end

/-- Settles O44: each timer of station control once its count has run out, and where it has no effect. -/
theorem controlTimerRows : Obligations.ControlTimerRows :=
  fun _ => ⟨joyTimeout_expires, joyTimeout_idle, fun _ => followWarn_raises, fun _ => followLimit_raises, fun _ => followRows_idle,
    targetLostTimeout_asks, targetLostTimeout_idle, berthOptLost_declares, berthOptLost_idle, trackHoldExpiry_advances, trackHoldExpiry_idle⟩

end Sys2Proof.Machine
end

section
/-! SUPPORT. The dispatch as a whole: every command answers a next state, and none touches the queue. -/

namespace Sys2Proof.Machine

set_option Elab.async false

/-- A meaning that answers a next state. -/
def Answers (r : Result) : Prop := ∃ t, r = .next t

theorem Answers.next (t : State) : Answers (.next t) := ⟨t, rfl⟩

/-- One step is a tick of CD9, or the front command on the rest of the queue. -/
theorem step_cases {s t : State} (h : step s = .next t) :
    s.pending = [] ∧ t = passTicks 1 s ∨ ∃ c cs, s.pending = c :: cs ∧ exec c { s with pending := cs } = .next t := by
  unfold step at h
  split at h
  next hnone => exact .inl ⟨hnone, (Host.Outcome.next.inj h).symm⟩
  next c cs hfront => exact .inr ⟨c, cs, hfront, h⟩

/-- Every branch of every meaning ends in a next state: a row either is one answer, or branches first. -/
theorem exec_answers (c : Instr) (s : State) : Answers (exec c s) := by
  cases c
  case fragGapExpiry | fragTotalExpiry | sessionIdleExpiry | authTimeout | lockoutExpiry | interimAcceptedReply | commitPoint | readPacket |
    vesselPeriodBoundary | tpBoundary | periodWakeRequest | snapshot | rnnWaitExpiry | allocation | solverDeadline | parisonChainComplete |
    ptpMessageRx | servoMeasurement | holdoverEnter | timeStepInstant | catchUpStep | ptpSyncTx | ppsOutPulse | ppsInEdge | measurementEpoch
    | gnssRawPublish | gnssSolutionPublish | levelAPublish | bandClockCheck | frontEndReplay | bandHealthy | agcUpdate | trackingLoop |
    channelLossOfLock | searchComplete | notchUpdate | jamIndicator | gnssJamming | navUnitDecoded | acqOutput | acqModFault | modFaultClear
    | settlingEnd | acqSyncPinEdge | acqSync | canFrameRx | canBusOff | canRecovered | feedbackRx | driveStatusRx | driveHbLost | driveLost
    | serialSentenceRx | moduleReadComplete | moduleNackRetry | moduleRemoved | opticalFrameRx | baPass | cascFrameRx | handoverResend |
    handoverAckTimeout | bootReqTx | arbiterDatagramRx | permitInLow | ownerOverlap | selftestCycle | safeInputFiltered | testPulse |
    discrepancy | rampEnd | releaseRequestFallExpiry | clockWindow | heartbeatAbsent | safetyResetRequest | brakeTestDue | mtrSecond |
    mtrPulse | phaseLoss | mtrClockCheck | mtrPowerUp | bowWarning | bowRecovered | bowStop | supplyReset | powerStateEntry |
    pwrEntryAbandoned | pwrSchedEnter | pwrSchedWake | powerStateExit | wakeGovernorWindow | clockSkew | thermalGradient | domainReturn |
    junctionHot | writePacket | commandedReset | monitorStartUp | ptpMessageTx | canErrorPassive | hbInToggle | domainReady =>
    simp only [exec,
      execFragGapExpiry, execFragTotalExpiry, execSessionIdleExpiry, execAuthTimeout, execLockoutExpiry, execInterimAcceptedReply,
      execCommitPoint, execReadPacket, execVesselPeriodBoundary, execTpBoundary, execPeriodWakeRequest, execSnapshot, execRnnWaitExpiry,
      execAllocation, execSolverDeadline, execParisonChainComplete, execPtpMessageRx, execServoMeasurement, execHoldoverEnter,
      execTimeStepInstant, execCatchUpStep, execPtpSyncTx, execPpsOutPulse, execPpsInEdge, execMeasurementEpoch, execGnssRawPublish,
      execGnssSolutionPublish, execLevelAPublish, execBandClockCheck, execFrontEndReplay, execBandHealthy, execAgcUpdate, execTrackingLoop,
      execChannelLossOfLock, execSearchComplete, execNotchUpdate, execJamIndicator, execGnssJamming, execNavUnitDecoded, execAcqOutput,
      execAcqModFault, execModFaultClear, execSettlingEnd, execAcqSyncPinEdge, execAcqSync, execCanFrameRx, execCanBusOff, execCanRecovered,
      execFeedbackRx, execDriveStatusRx, execDriveHbLost, execDriveLost, execSerialSentenceRx, execModuleReadComplete, execModuleNackRetry,
      execModuleRemoved, execOpticalFrameRx, execBaPass, execCascFrameRx, execHandoverResend, execHandoverAckTimeout, execBootReqTx,
      execArbiterDatagramRx, execPermitInLow, execOwnerOverlap, execSelftestCycle, execSafeInputFiltered, execTestPulse, execDiscrepancy,
      execRampEnd, execReleaseRequestFallExpiry, execClockWindow, execHeartbeatAbsent, execSafetyResetRequest, execBrakeTestDue,
      execMtrSecond, execMtrPulse, execPhaseLoss, execMtrClockCheck, execMtrPowerUp, execBowWarning, execBowRecovered, execBowStop,
      execSupplyReset, execPowerStateEntry, execPwrEntryAbandoned, execPwrSchedEnter, execPwrSchedWake, execPowerStateExit,
      execWakeGovernorWindow, execClockSkew, execThermalGradient, execDomainReturn, execJunctionHot, execWritePacket, execCommandedReset,
      execMonitorStartUp, execPtpMessageTx, execCanErrorPassive, execHbInToggle, execDomainReady]
    repeat' split
    all_goals exact .next _
  all_goals exact .next _

/-- No command touches the queue: each meaning's law says so. -/
theorem pending_exec (c : Instr) (s : State) : (after s (exec c s)).pending = s.pending := by
  cases c <;> simp only [exec,
    pending_execSessionOpen, pending_execSessionAuth, pending_execSessionResync, pending_execSessionPing, pending_execSessionClose,
    pending_execTagAbort, pending_execFragmentReceived, pending_execFragGapExpiry, pending_execFragTotalExpiry,
    pending_execSessionIdleExpiry, pending_execAuthTimeout, pending_execLockoutExpiry, pending_execInterimAcceptedReply,
    pending_execCommitPoint, pending_execJournalBufferFlush, pending_execConfigLock, pending_execConfigUnlock, pending_execConfigSet,
    pending_execConfigGet, pending_execTableWrite, pending_execTableRead, pending_execTableInfo, pending_execSignalRead,
    pending_execSignalInfo, pending_execSourceSelect, pending_execModeSet, pending_execControlStatus, pending_execSetpointSet,
    pending_execSetpointGet, pending_execJoystickSet, pending_execThrusterAvail, pending_execThrustStop, pending_execGnssStatus,
    pending_execGnssRawRead, pending_execRtcmInput, pending_execNavBitsRead, pending_execTimeGet, pending_execTimeSet, pending_execTimeStep,
    pending_execTimeRate, pending_execTxStampRead, pending_execStructLoad, pending_execStructUpdate, pending_execSolve,
    pending_execStructDrop, pending_execMapWrite, pending_execMapRead, pending_execMapStatus, pending_execGroupStatus, pending_execRoleSet,
    pending_execHandoverRequest, pending_execHealthRead, pending_execSafetyStatus, pending_execSafetyParamWrite,
    pending_execSafetyCheckRead, pending_execSafetyCheckConfirm, pending_execBrakeTest, pending_execTripReset, pending_execSafeStop,
    pending_execMtrMailboxRead, pending_execMtrIdentRead, pending_execEvtInfo, pending_execEvtRead, pending_execEvtClear,
    pending_execPwrStatus, pending_execPwrStateSet, pending_execReset, pending_execResetCauseRead, pending_execResetCauseClear,
    pending_execIdentityRead, pending_execModuleList, pending_execModuleRead, pending_execModuleAccept, pending_execModuleRescan,
    pending_execRoleKeySet, pending_execJournalQuery, pending_execJournalList, pending_execJournalRejects, pending_execReadPacket,
    pending_execHostStatusClear, pending_execResetCauseWrite, pending_execDoorbellWake, pending_execDoorbellIrqEn,
    pending_execWindowWriteOther, pending_execVesselPeriodBoundary, pending_execTpBoundary, pending_execPeriodWakeRequest,
    pending_execSnapshot, pending_execProjectionAssociationVote, pending_execRefHoldTimeout, pending_execClockSlipCleared,
    pending_execObserverUpdate, pending_execObsReinit, pending_execRnnWaitExpiry, pending_execRnnWarmupEnd, pending_execObsAgree,
    pending_execControl, pending_execJoyTimeout, pending_execFollowWarn, pending_execFollowLimit, pending_execTargetLostTimeout,
    pending_execBerthOptLost, pending_execTrackHoldExpiry, pending_execAllocation, pending_execSolverDeadline, pending_execThrusterReturned,
    pending_execHandOff, pending_execMirror, pending_execHealth, pending_execLogBlockRx, pending_execParisonChain,
    pending_execParisonChainComplete, pending_execTileRetired, pending_execPtpMessageRx, pending_execServoMeasurement,
    pending_execHoldoverEnter, pending_execTimeStepInstant, pending_execCatchUpStep, pending_execPtpSyncTx, pending_execPdelayReqTx,
    pending_execPpsOutPulse, pending_execPpsInEdge, pending_execMeasurementEpoch, pending_execGnssRawPublish,
    pending_execGnssSolutionPublish, pending_execLevelAPublish, pending_execBandClockCheck, pending_execFrontEndReplay,
    pending_execBandHealthy, pending_execAgcUpdate, pending_execTrackingLoop, pending_execChannelLossOfLock, pending_execSearchComplete,
    pending_execNotchUpdate, pending_execJamIndicator, pending_execGnssJamming, pending_execNavUnitDecoded, pending_execEphemerisCopy,
    pending_execAcqOutput, pending_execAcqModFault, pending_execModFaultClear, pending_execSettlingEnd, pending_execAcqSyncPinEdge,
    pending_execAcqSync, pending_execCanFrameRx, pending_execCanBusOff, pending_execCanRecovered, pending_execFeedbackRx,
    pending_execDriveStatusRx, pending_execDriveHbLost, pending_execDriveLost, pending_execActSatWarn, pending_execActSatFault,
    pending_execSerialSentenceRx, pending_execModulePresent, pending_execModuleReadComplete, pending_execModuleNackRetry,
    pending_execModuleRemoved, pending_execOpticalFrameRx, pending_execMapMaintenance, pending_execBaPass, pending_execCascLinkUp,
    pending_execCascLinkDown, pending_execCascFrameRx, pending_execAnnounceTx, pending_execAnnounceRx, pending_execHealthRx,
    pending_execHandoverResend, pending_execHandoverAckTimeout, pending_execTake, pending_execYield, pending_execAck, pending_execMirrorRx,
    pending_execExtCmd, pending_execExtFb, pending_execExtMasterLost, pending_execStop, pending_execStepNotice, pending_execSyncNotice,
    pending_execBootReq, pending_execBootReqTx, pending_execBootData, pending_execArbiterDatagramRx, pending_execPermitInLow,
    pending_execOwnerOverlap, pending_execOwnershipTakeUp, pending_execSelftestCycle, pending_execSafeInputFiltered, pending_execTestPulse,
    pending_execDiscrepancy, pending_execRampEnd, pending_execReleaseRequestFallExpiry, pending_execReadbackDeviation,
    pending_execSwitchTest, pending_execClockWindow, pending_execHeartbeatAbsent, pending_execSafetyResetRequest,
    pending_execMonitorDiagnostic, pending_execBrakeTestDue, pending_execMtrSample, pending_execMtrSecond, pending_execMtrPulse,
    pending_execPhaseLoss, pending_execMtrClockCheck, pending_execMtrRegisterCommit, pending_execMtrWatchdog, pending_execMtrPowerUp,
    pending_execUnsealed, pending_execSealed, pending_execReadIdent, pending_execReadMailbox, pending_execReadParam, pending_execWriteParam,
    pending_execCommit, pending_execReadLog, pending_execFwBlock, pending_execFwActivate, pending_execEventEntry, pending_execEventFlush,
    pending_execControlBlockWrite, pending_execBowWarning, pending_execBowRecovered, pending_execBowStop, pending_execSupplyReset,
    pending_execRstN, pending_execWatchdog, pending_execResetSequence, pending_execFirmwareStart, pending_execPowerStateEntry,
    pending_execPwrEntryAbandoned, pending_execPwrSchedEnter, pending_execPwrSchedWake, pending_execWakePin, pending_execWakeFrame,
    pending_execPowerStateExit, pending_execDomainWakeRequest, pending_execWakeGovernorWindow, pending_execIdleEntry, pending_execClockSkew,
    pending_execThermalGradient, pending_execDomainReturn, pending_execJunctionHot, pending_execWritePacket, pending_execUnknownOpcode,
    pending_execCommandedReset, pending_execVddMtrWarning, pending_execVddMtrLoss, pending_execVddSafeWarning, pending_execMonitorStartUp,
    pending_execPtpMessageTx, pending_execCanErrorPassive, pending_execRnnFault, pending_execHbInToggle, pending_execDomainReady,
    pending_execArpIcmpRequest, pending_execJunctionHotEnd, pending_execClockWindowTimeout]

/-- Settles O4. -/
theorem neverStops : Obligations.NeverStops := by
  intro s
  unfold step
  split
  · exact Answers.next _
  · exact exec_answers _ _

/-- Settles O3: the front command leaves the queue, and its meaning keeps the rest. -/
theorem queueKept : Obligations.QueueKept := by
  intro s t hstep
  obtain ⟨hnone, rfl⟩ | ⟨c, cs, hfront, hexec⟩ := step_cases hstep
  · rw [passTicks_pending, hnone]
    rfl
  · have hkept := pending_exec c { s with pending := cs }
    rw [hexec] at hkept
    rw [hfront]
    exact hkept

end Sys2Proof.Machine
end

section
/-! SUPPORT. What every step of a host command keeps, its packet keeps. -/

namespace Sys2Proof.Machine

set_option Elab.async false

/-- A relation of states that composes and that no change of the host interface or of what is sent breaks. -/
structure HostFrame (R : State → State → Prop) : Prop where
  host : ∀ {s t}, Only [.host, .out] s t → R s t
  trans : ∀ {s t u}, R s t → R t u → R s u

/-- Every step of an opcode's command keeps a relation. -/
def OpDef.Keeps (R : State → State → Prop) (d : OpDef) : Prop := ∀ c s, R s (stepState (d.run c s))

theorem countReject_only (n : Nat) (hdr : List Byte) (s : State) : Only [.host] s (countReject n hdr s) :=
  modSlot_only _ _ s

theorem spoilTag_only (d : OpDef) (r : Req) (fs : List (Nat × List Byte)) (o c : Nat) (p : List Byte) (x : Session) (s : State) :
    Only [.host, .out] s (spoilTag d r fs o c p x s) :=
  have hsent : Only [.host, .out] s (putTag _ _ _ (sendReply _ _ s)) := (sendReply_only _ _ s).comp (putTag_only _ _ _ _)
  hsent.comp (countReject_only _ _ _)

section
variable {R : State → State → Prop} {d : OpDef} (hR : HostFrame R)
include hR

theorem HostFrame.refl (s : State) : R s s := hR.host Only.refl

/-- Nothing but the host interface changes after `t`. -/
theorem HostFrame.then {s t u : State} (h : R s t) (k : Only [.host, .out] t u) : R s u := hR.trans h (hR.host k)

variable (hd : d.Keeps R)
include hd

theorem HostFrame.runCmd (n e : Nat) (s : State) : R s (runCmd d n e s) := by
  induction n generalizing s with
  | zero => exact hR.refl s
  | succ n ih =>
    unfold Machine.runCmd
    split
    · exact hR.refl s
    next c _ =>
      extract_lets st begun c'
      have hbegun : Only [.host, .out] s begun := by
        refine Only.comp (ps := [.host]) ?_ (modCmd_only _ _ _)
        split
        · exact Only.refl
        · exact modEntry_only _ _ _ s
      have hstep : R s (stepState (d.run c' begun)) := hR.trans (hR.host hbegun) (hd c' begun)
      split
      · exact hR.refl s
      · split
        · exact hR.host (hbegun.trans (endCmd_only _ _ _ _ _ _ _))
        · split
          next s' first hres =>
            rw [hres] at hstep
            extract_lets upd s2 s3
            have h3 : R s s3 := hR.then hstep ((modEntry_only _ _ _ s').comp (modCmd_only _ _ _))
            split
            · exact hR.then h3 (endCmd_only _ _ _ _ _ _ _)
            · exact hR.trans h3 (ih s3)
          next s' status reply first hres =>
            rw [hres] at hstep
            extract_lets c'' s2
            have h2 : R s s2 := hR.then hstep (endCmd_only _ _ _ _ _ _ _)
            split
            · exact hR.then h2 (closeSession_only _ _)
            · exact h2
          next s' status hres =>
            rw [hres] at hstep
            extract_lets s2
            have h2 : R s s2 := hR.then hstep (endCmd_only _ _ _ _ _ _ _)
            split
            · exact hR.then h2 (closeSession_only _ _)
            · exact h2
          next s' data hres =>
            rw [hres] at hstep
            exact hR.then hstep ((modCmd_only _ _ _).mono (by decide))

theorem HostFrame.accept (r : Req) (noTag : Bool) (ps : List Byte) (frags : Nat) (spec : Bool) (s : State) :
    R s (accept d r noTag ps frags spec s) := by
  unfold Machine.accept
  extract_lets n e c j s1 _ s2 s3
  have h2 : Only [.host] s s2 := (newEntry_only _ s).trans (Only.setHost _)
  have h3 : Only [.host] s s3 := by
    unfold s3
    split
    · exact h2
    · exact h2.trans (putTag_only _ _ _ _)
  exact hR.trans (hR.host (h3.mono (by decide))) (hR.runCmd hd _ _ _)

theorem HostFrame.newCommand (r : Req) (p : List Byte) (x : Session) (s : State) : R s (newCommand d r p x s) := by
  unfold Machine.newCommand
  extract_lets n tag whole mark
  have hmark : R s (mark s) := hR.host ((modSlot_only _ _ s).mono (by decide))
  have hreject (st : Nat) : R s (reject r d.code st false [] s) := hR.host (reject_only ..)
  split
  · split
    · exact hreject _
    · exact hR.then hmark (spoilTag_only ..)
  · split
    · exact hreject _
    · split
      · exact hreject _
      · split
        · exact hR.trans hmark (hR.accept hd ..)
        · split
          · exact hreject _
          · exact hR.then hmark ((putTag_only ..).mono (by decide))

theorem HostFrame.furtherFragment (r : Req) (p : List Byte) (x : Session) (s : State) : R s (furtherFragment d r p x s) := by
  unfold Machine.furtherFragment
  extract_lets n tag i
  split
  · split
    · exact hR.refl s
    · extract_lets bad fs' last'
      split
      · exact hR.host (spoilTag_only ..)
      · split
        · exact hR.accept hd ..
        · exact hR.host ((putTag_only ..).mono (by decide))
  · exact hR.refl s

theorem HostFrame.bySequence (r : Req) (p : List Byte) (x : Session) (s : State) : R s (bySequence d r p x s) := by
  have hdup : R s (duplicate r d.code x s) := hR.host (duplicate_keeps r d.code x s).1
  unfold Machine.bySequence
  extract_lets dd
  split
  · exact hR.newCommand hd ..
  · split
    · split
      · split
        · split
          · exact hR.furtherFragment hd ..
          · exact hdup
        · exact hdup
      · exact hR.newCommand hd ..
    · exact hR.host (reject_only ..)

/-- A packet keeps what the steps of its opcode keep. -/
theorem HostFrame.packetIn (implemented : Bool) (r : Req) (p : List Byte) (s : State) : R s (packetIn implemented d r p s) := by
  have htake : Only [.host, .out] s (takeBuffer r d.code p s) := (takeBuffer_only ..).mono (by decide)
  have hreject (st : Nat) (b : Bool) : R s (reject r d.code st b [] (takeBuffer r d.code p s)) := hR.host (htake.trans (reject_only ..))
  unfold Machine.packetIn
  extract_lets u n seen heard
  have hheard : Only [.host, .out] s heard := htake.trans ((modSlot_only ..).mono (by decide))
  split
  · exact hR.host htake
  · split
    · exact hreject _ _
    · split
      · exact hreject _ _
      next x _ =>
        split
        · exact hreject _ _
        · extract_lets st
          split
          · exact hR.host (hheard.trans (reject_only ..))
          · split
            · exact hR.trans (hR.host hheard) (hR.accept hd ..)
            · exact hR.trans (hR.host hheard) (hR.bySequence hd ..)

end

/-- A packet of any opcode keeps what the steps of every opcode keep. -/
theorem HostFrame.packetFor {R : State → State → Prop} (hR : HostFrame R) (hd : ∀ d ∈ opDefs, d.Keeps R) (r : Req) (code : Nat)
    (p : List Byte) (s : State) (hopen : R s (sessionOpenPacket r p s)) : R s (packetFor r code p s) := by
  unfold Machine.packetFor
  split
  · exact hopen
  · split
    next d hop => exact hR.packetIn (hd d (List.mem_of_find?_eq_some hop)) _ _ _ _
    next => exact hR.packetIn (d := noOp code) (fun _ s => hR.refl s) _ _ _ _

/-- A command in flight goes on by a step that keeps what the steps of every opcode keep. -/
theorem HostFrame.commitPoint {R : State → State → Prop} (hR : HostFrame R) (hd : ∀ d ∈ opDefs, d.Keeps R) (e : Nat) (s : State) :
    R s (after s (exec (.commitPoint e) s)) := by
  show R s (after s (execCommitPoint e s))
  unfold execCommitPoint
  split
  · rw [after_next]
    split
    next d hop =>
      split
      · exact hR.runCmd (hd d (List.mem_of_find?_eq_some hop)) _ _ _
      · exact hR.refl s
    next => exact hR.refl s
  · exact hR.refl s

end Sys2Proof.Machine
end

section
/-! SUPPORT. The service port of the island (R491, R493, R499): which frames are answered, and how. -/

namespace Sys2Proof.Machine

set_option Elab.async false

/-! The frame (R499). -/

section
variable {cmd : Nat} {p : List Byte} {k : BitVec 32} {s : State} {ok : Bool} {run : State → State}

theorem svcIn_unheard (h : svcHeard cmd p k s = false) : svcIn cmd p k ok run s = .next s :=
  congrArg Host.Outcome.next (if_pos (by simp [h]))

theorem svcIn_badFrame (h : svcHeard cmd p k s = true) (hok : ok = false) : svcIn cmd p k ok run s = .next (svcReply cmd 6 [] s) :=
  congrArg Host.Outcome.next ((if_neg (by simp [h])).trans (if_pos (by simp [hok])))

theorem svcIn_runs (h : svcHeard cmd p k s = true) (hok : ok = true) : svcIn cmd p k ok run s = .next (run s) :=
  congrArg Host.Outcome.next ((if_neg (by simp [h])).trans (if_neg (by simp [hok])))

end

theorem svcReply_only (cmd status : Nat) (body : List Byte) (s : State) : Only [.out] s (svcReply cmd status body s) := emit_only _ s

theorem svcReply_mtr (cmd status : Nat) (body : List Byte) (s : State) : (svcReply cmd status body s).mtr = s.mtr :=
  (svcReply_only cmd status body s).2 .mtr (by decide)

/-- A frame that the island does not hear. -/
theorem service_unheard (p : List Byte) (k : BitVec 32) (s : State) :
    (svcHeard 1 p k s = false → exec (.readIdent p k) s = .next s) ∧ (svcHeard 2 p k s = false → exec (.readMailbox p k) s = .next s) ∧
    (svcHeard 3 p k s = false → exec (.readParam p k) s = .next s) ∧ (svcHeard 4 p k s = false → exec (.writeParam p k) s = .next s) ∧
    (svcHeard 5 p k s = false → exec (.commit p k) s = .next s) ∧ (svcHeard 6 p k s = false → exec (.readLog p k) s = .next s) ∧
    (svcHeard 7 p k s = false → exec (.fwBlock p k) s = .next s) ∧ (svcHeard 8 p k s = false → exec (.fwActivate p k) s = .next s) := by
  simp only [exec, execReadIdent, execReadMailbox, execReadParam, execWriteParam, execCommit, execReadLog, execFwBlock, execFwActivate]
  exact ⟨svcIn_unheard, svcIn_unheard, svcIn_unheard, svcIn_unheard, svcIn_unheard, svcIn_unheard, svcIn_unheard, svcIn_unheard⟩

/-! The commands that only read: READ_IDENT, READ_MAILBOX, READ_PARAM and READ_LOG. -/

section
variable {p : List Byte} {k : BitVec 32} {s : State}

theorem readIdent_answers (h : svcHeard 1 p k s = true) :
    (p = [] → exec (.readIdent p k) s = .next (svcReply 1 0 (mtrIdentity s ++ be 4 s.mtr.sealCount ++ be 1 (mtrFlags s)) s)) ∧
      (p ≠ [] → exec (.readIdent p k) s = .next (svcReply 1 6 [] s)) := by
  simp only [exec, execReadIdent]
  exact ⟨fun hp => svcIn_runs h (by simp [hp]), fun hp => svcIn_badFrame h (by simp [hp])⟩

theorem readMailbox_answers (h : svcHeard 2 p k s = true) :
    (∀ b, p = [] → s.mtr.image = some b → exec (.readMailbox p k) s = .next (svcReply 2 0 b s)) ∧
      (p = [] → s.mtr.image = none → exec (.readMailbox p k) s = .next (svcReply 2 3 [] s)) ∧
      (p ≠ [] → exec (.readMailbox p k) s = .next (svcReply 2 6 [] s)) := by
  simp only [exec, execReadMailbox]
  refine ⟨fun b hp hb => (svcIn_runs h (by simp [hp])).trans ?_, fun hp hnone => (svcIn_runs h (by simp [hp])).trans ?_,
    fun hp => svcIn_badFrame h (by simp [hp])⟩
  · simp only [hb]
  · simp only [hnone]

theorem readParam_answers (h : svcHeard 3 p k s = true) :
    (∀ d, p.length = 2 → mtrDefault (fieldU p 0 2) = some d → exec (.readParam p k) s =
        .next (svcReply 3 0 (be 2 (fieldU p 0 2) ++ be 4 ((keyGet (fieldU p 0 2) s.mtr.params).getD d).toNat ++
          be 4 (mtrValue (mtrMerged s) (fieldU p 0 2)).toNat) s)) ∧
      (p.length = 2 → mtrDefault (fieldU p 0 2) = none → exec (.readParam p k) s = .next (svcReply 3 2 [] s)) ∧
      (p.length ≠ 2 → exec (.readParam p k) s = .next (svcReply 3 6 [] s)) := by
  simp only [exec, execReadParam]
  refine ⟨fun d hp hd => (svcIn_runs h (by simp [hp])).trans ?_, fun hp hnone => (svcIn_runs h (by simp [hp])).trans ?_,
    fun hp => svcIn_badFrame h (by simp [hp])⟩
  · have hvalue : mtrP s (fieldU p 0 2) = (keyGet (fieldU p 0 2) s.mtr.params).getD d := by rw [mtrP, mtrValue, hd, Option.getD_some]
    rw [← hvalue, if_neg (by simp [hd])]
  · rw [if_pos (by simp [hnone])]

theorem readLog_answers (h : svcHeard 6 p k s = true) :
    let n := byteAt p 4
    let l := (s.mtr.log.filter fun r => decide (fieldU p 0 4 ≤ r.num)).take n
    (p.length ≠ 5 → exec (.readLog p k) s = .next (svcReply 6 6 [] s)) ∧
      (p.length = 5 → (n = 0 ∨ 32 < n) → exec (.readLog p k) s = .next (svcReply 6 2 [] s)) ∧
      (p.length = 5 → 1 ≤ n → n ≤ 32 → exec (.readLog p k) s =
        .next (svcReply 6 0 (be 4 ((l.getLast?.map (·.num + 1)).getD s.mtr.logNext) ++ l.flatMap MtrRec.bytes) s)) := by
  simp only [exec, execReadLog]
  refine ⟨fun hp => svcIn_badFrame h (by simp [hp]), fun hp hn => (svcIn_runs h (by simp [hp])).trans ?_,
    fun hp hlo hhi => (svcIn_runs h (by simp [hp])).trans ?_⟩
  · rw [if_pos hn]
  · rw [if_neg (by omega)]

/-! The commands that change: WRITE_PARAM, COMMIT, FW_BLOCK and FW_ACTIVATE. -/

theorem writeParam_answers (h : svcHeard 4 p k s = true) :
    let id := fieldU p 0 2
    let v := BitVec.ofNat 32 (fieldU p 2 4)
    (p.length ≠ 6 → exec (.writeParam p k) s = .next (svcReply 4 6 [] s)) ∧
      (p.length = 6 → s.mtr.unsealed = false → exec (.writeParam p k) s = .next (svcReply 4 1 [] s)) ∧
      (p.length = 6 → s.mtr.unsealed = true → (mtrDefault id).isSome → mtrRange (mtrMerged s) id v = true → exec (.writeParam p k) s =
        .next (svcReply 4 0 [] { s with mtr := { s.mtr with staged := keyPut id v s.mtr.staged } })) ∧
      (p.length = 6 → s.mtr.unsealed = true → (mtrDefault id = none ∨ mtrRange (mtrMerged s) id v = false) →
        exec (.writeParam p k) s = .next (svcReply 4 2 [] s)) := by
  simp only [exec, execWriteParam]
  refine ⟨fun hp => svcIn_badFrame h (by simp [hp]), fun hp hsealed => (svcIn_runs h (by simp [hp])).trans ?_,
    fun hp hopen hid hrange => (svcIn_runs h (by simp [hp])).trans ?_, fun hp hopen hbad => (svcIn_runs h (by simp [hp])).trans ?_⟩
  · rw [if_pos (by simp [hsealed])]
  · rw [if_neg (by simp [hopen]), if_neg (by simp [Option.isSome_iff_ne_none.mp hid, hrange])]
  · rw [if_neg (by simp [hopen]), if_pos (by obtain hbad | hbad := hbad <;> simp [hbad])]

/-- The staged values differ from those in force. -/
def changesParams (s : State) : Bool := s.mtr.staged.any fun e => e.2 != mtrP s e.1

theorem commit_badFrame (h : svcHeard 5 p k s = true) (hp : p ≠ []) : exec (.commit p k) s = .next (svcReply 5 6 [] s) := by
  simp only [exec, execCommit]
  exact svcIn_badFrame h (by simp [hp])

section
variable (h : svcHeard 5 p k s = true) (hp : p = [])
include h hp

theorem commit_sealed (hsealed : s.mtr.unsealed = false) : exec (.commit p k) s = .next (svcReply 5 1 [] s) := by
  simp only [exec, execCommit]
  exact (svcIn_runs h (by simp [hp])).trans (congrArg Host.Outcome.next (if_pos (by simp [hsealed])))

variable (hopen : s.mtr.unsealed = true)
include hopen

theorem commit_unsealed : exec (.commit p k) s = .next
    (if mtrLogFull s || (changesParams s && decide (2 ^ 32 - 1 ≤ s.mtr.sealCount)) then svcReply 5 4 [] s
      else if !pulseRateOk (mtrMerged s) || !((List.range 24).all (offsetOk (mtrMerged s))) then svcReply 5 3 [] s
      else svcReply 5 0 (be 4 (mtrApply s).mtr.sealCount) (mtrApply s)) := by
  simp only [exec, execCommit]
  exact (svcIn_runs h (by simp [hp])).trans (congrArg Host.Outcome.next (if_neg (by simp [hopen])))

theorem commit_full (hfull : mtrLogFull s = true ∨ changesParams s = true ∧ 2 ^ 32 - 1 ≤ s.mtr.sealCount) :
    exec (.commit p k) s = .next (svcReply 5 4 [] s) := by
  rw [commit_unsealed h hp hopen, if_pos (by simpa using hfull)]

variable (hroom : mtrLogFull s = false) (hlimit : changesParams s = true → s.mtr.sealCount < 2 ^ 32 - 1)
include hroom hlimit

theorem commit_judged : exec (.commit p k) s =
    .next (if !pulseRateOk (mtrMerged s) || !((List.range 24).all (offsetOk (mtrMerged s))) then svcReply 5 3 [] s
      else svcReply 5 0 (be 4 (mtrApply s).mtr.sealCount) (mtrApply s)) := by
  rw [commit_unsealed h hp hopen, if_neg (by simpa [hroom] using hlimit)]

theorem commit_inconsistent (hbad : pulseRateOk (mtrMerged s) = false) : exec (.commit p k) s = .next (svcReply 5 3 [] s) := by
  rw [commit_judged h hp hopen hroom hlimit, if_pos (by rw [hbad]; rfl)]

theorem commit_applies (hrate : pulseRateOk (mtrMerged s) = true) (hoffset : ((List.range 24).all (offsetOk (mtrMerged s))) = true) :
    exec (.commit p k) s = .next (svcReply 5 0 (be 4 (mtrApply s).mtr.sealCount) (mtrApply s)) := by
  rw [commit_judged h hp hopen hroom hlimit, if_neg (by rw [hrate, hoffset]; decide)]

end

theorem fwBlock_answers (h : svcHeard 7 p k s = true) :
    ((p.length < 4 ∨ 1028 < p.length) → exec (.fwBlock p k) s = .next (svcReply 7 6 [] s)) ∧
      (4 ≤ p.length → p.length ≤ 1028 → s.mtr.unsealed = false → exec (.fwBlock p k) s = .next (svcReply 7 1 [] s)) ∧
      (4 ≤ p.length → p.length ≤ 1028 → s.mtr.unsealed = true → exec (.fwBlock p k) s =
        .next (svcReply 7 0 [] { s with mtr := { s.mtr with blocks := s.mtr.blocks ++ [(fieldU p 0 4, p.drop 4)] } })) := by
  simp only [exec, execFwBlock]
  refine ⟨fun hp => svcIn_badFrame h (decide_eq_false (by omega)), fun hlo hhi hsealed => ?_, fun hlo hhi hopen => ?_⟩
  · exact (svcIn_runs h (decide_eq_true ⟨hlo, hhi⟩)).trans (congrArg Host.Outcome.next (if_pos (by simp [hsealed])))
  · exact (svcIn_runs h (decide_eq_true ⟨hlo, hhi⟩)).trans (congrArg Host.Outcome.next (if_neg (by simp [hopen])))

theorem fwActivate_badFrame (h : svcHeard 8 p k s = true) (hp : p.length ≠ 68) : exec (.fwActivate p k) s = .next (svcReply 8 6 [] s) := by
  simp only [exec, execFwActivate]
  exact svcIn_badFrame h (by simp [hp])

section
variable (h : svcHeard 8 p k s = true) (hp : p.length = 68)
include h hp

theorem fwActivate_sealed (hsealed : s.mtr.unsealed = false) : exec (.fwActivate p k) s = .next (svcReply 8 1 [] s) := by
  simp only [exec, execFwActivate]
  exact (svcIn_runs h (by simp [hp])).trans (congrArg Host.Outcome.next (if_pos (by simp [hsealed])))

theorem fwActivate_full (hopen : s.mtr.unsealed = true) (hfull : 2 ^ 32 - 1 ≤ s.mtr.sealCount) :
    exec (.fwActivate p k) s = .next (svcReply 8 4 [] s) := by
  simp only [exec, execFwActivate]
  refine (svcIn_runs h (by simp [hp])).trans (congrArg Host.Outcome.next ?_)
  rw [if_neg (by simp [hopen]), if_pos (by rw [decide_eq_true hfull, Bool.or_true])]

/-- A whole image is judged by its signature. -/
theorem fwActivate_judged {img : List Byte} (hopen : s.mtr.unsealed = true) (hroom : mtrLogFull s = false) (hlimit : s.mtr.sealCount < 2 ^ 32 - 1)
    (hlen : fieldU p 0 4 ≠ 0) (himg : loadedImage (fieldU p 0 4) s.mtr.blocks = some img) : exec (.fwActivate p k) s =
    .next (if Config.mtrSignature (sha256 img) (p.drop 4) = true then
      svcReply 8 0 (mtrIdentity (mtrActivate img s) ++ be 4 (mtrActivate img s).mtr.sealCount) (mtrActivate img s)
      else svcReply 8 5 [] s) := by
  simp only [exec, execFwActivate]
  refine (svcIn_runs h (by simp [hp])).trans (congrArg Host.Outcome.next ?_)
  rw [if_neg (by simp [hopen]), if_neg (by simpa [hroom] using hlimit), if_neg hlen]
  simp only [himg]

end

end

end Sys2Proof.Machine
end

section
/-! SUPPORT. The seal of the island (R480, R491 to R495): what keeps the store, the log, SEAL and the parameters in agreement. -/

namespace Sys2Proof.Machine

set_option Elab.async false

/-! What stands where nothing is applied, committed or restarted: at most the log tells SEAL again. -/

/-- The island keeps its store, SEAL, parameters and firmware, and the log tells the same SEAL, or the one in force. -/
structure KeepsSeal (s t : State) : Prop where
  store : t.mtr.store = s.mtr.store
  older : t.mtr.older = s.mtr.older
  count : t.mtr.sealCount = s.mtr.sealCount
  params : t.mtr.params = s.mtr.params
  firmware : t.mtr.firmware = s.mtr.firmware
  logged : loggedSeal t = loggedSeal s ∨ loggedSeal t = s.mtr.sealCount

theorem loggedSeal_of_mtr {s t : State} (h : t.mtr = s.mtr) : loggedSeal t = loggedSeal s := by rw [loggedSeal, loggedSeal, h]

theorem KeepsSeal.refl (s : State) : KeepsSeal s s := ⟨rfl, rfl, rfl, rfl, rfl, .inl rfl⟩

theorem KeepsSeal.trans {s t u : State} (h : KeepsSeal s t) (k : KeepsSeal t u) : KeepsSeal s u where
  store := k.store.trans h.store
  older := k.older.trans h.older
  count := k.count.trans h.count
  params := k.params.trans h.params
  firmware := k.firmware.trans h.firmware
  logged := by
    obtain hk | hk := k.logged
    · exact h.logged.imp hk.trans hk.trans
    · exact .inr (hk.trans h.count)

/-- Only the island counts. -/
theorem KeepsSeal.congr {s t u : State} (h : KeepsSeal s t) (k : u.mtr = t.mtr) : KeepsSeal s u :=
  h.trans ⟨by rw [k], by rw [k], by rw [k], by rw [k], by rw [k], .inl (loggedSeal_of_mtr k)⟩

theorem KeepsSeal.of_mtr {s t : State} (h : t.mtr = s.mtr) : KeepsSeal s t := (KeepsSeal.refl s).congr h

/-- The registers of measurement, the mailbox, the staged values and the seal's pin are not what the seal rests on. -/
theorem KeepsSeal.set {s t u : State} {m : MtrState} (h : KeepsSeal s t) (hu : u.mtr = m) (hstore : m.store = t.mtr.store := by rfl)
    (holder : m.older = t.mtr.older := by rfl) (hcount : m.sealCount = t.mtr.sealCount := by rfl) (hparams : m.params = t.mtr.params := by rfl)
    (hfirmware : m.firmware = t.mtr.firmware := by rfl) (hlog : m.log = t.mtr.log := by rfl) : KeepsSeal s u := by
  subst hu
  exact h.trans ⟨hstore, holder, hcount, hparams, hfirmware, .inl (by rw [loggedSeal, loggedSeal, hlog])⟩

theorem KeepsSeal.hostFrame : HostFrame KeepsSeal := ⟨fun h => .of_mtr (h.2 .mtr (by decide)), KeepsSeal.trans⟩

/-- A record tells the SEAL in force, where the log has room. -/
theorem loggedSeal_mtrLog (code feeder param old new : Nat) (s : State) :
    loggedSeal (mtrLog code feeder param old new s) = if mtrLogFull s then loggedSeal s else s.mtr.sealCount := by
  unfold mtrLog
  split
  · rfl
  · simp [loggedSeal]

theorem mtrLog_mtr (code feeder param old new : Nat) (s : State) : ∃ l n,
    (mtrLog code feeder param old new s).mtr = { s.mtr with log := l, logNext := n } := by
  unfold mtrLog
  split
  · exact ⟨_, _, rfl⟩
  · exact ⟨_, _, rfl⟩

theorem mtrLog_keepsSeal (code feeder param old new : Nat) (s : State) : KeepsSeal s (mtrLog code feeder param old new s) := by
  have hlogged := loggedSeal_mtrLog code feeder param old new s
  obtain ⟨l, n, hmtr⟩ := mtrLog_mtr code feeder param old new s
  refine ⟨by rw [hmtr], by rw [hmtr], by rw [hmtr], by rw [hmtr], by rw [hmtr], ?_⟩
  rw [hlogged]
  split
  · exact .inl rfl
  · exact .inr rfl

theorem KeepsSeal.log {s t : State} (h : KeepsSeal s t) (code feeder param old new : Nat) :
    KeepsSeal s (mtrLog code feeder param old new t) := h.trans (mtrLog_keepsSeal ..)

theorem KeepsSeal.note {s t : State} (h : KeepsSeal s t) (code : Nat) : KeepsSeal s (mtrNote code t) := h.log ..

/-! The invariant. -/

theorem SealKept.of_keepsSeal {s t : State} (hs : SealKept s) (h : KeepsSeal s t) : SealKept t := by
  obtain ⟨hcopies, hnew, hnone, hlimit, hlog⟩ := hs
  have hlogged := h.logged
  unfold SealKept
  rw [h.store, h.older, h.count, h.params]
  refine ⟨fun st hst => ?_, hnew, hnone, ?_, ?_⟩
  · have hcopy := hcopies st hst
    omega
  · omega
  · omega

/-- What every step but a COMMIT and an activation gives from a state that keeps its seal. -/
structure Guarded (s t : State) : Prop where
  kept : SealKept t
  count : s.mtr.sealCount ≤ t.mtr.sealCount
  firmware : t.mtr.firmware = s.mtr.firmware
  params : t.mtr.params = s.mtr.params ∨ t.mtr.params = [] ∧ t.mtr.store = none ∨ ∃ o, s.mtr.older = some o ∧ t.mtr.params = o.params

theorem KeepsSeal.guarded {s t : State} (h : KeepsSeal s t) (hs : SealKept s) : Guarded s t :=
  ⟨hs.of_keepsSeal h, h.count.ge, h.firmware, .inl h.params⟩

theorem Guarded.before {s t u : State} (h : KeepsSeal s t) (k : Guarded t u) : Guarded s u := by
  refine ⟨k.kept, h.count ▸ k.count, k.firmware.trans h.firmware, ?_⟩
  rw [← h.params, ← h.older]
  exact k.params

theorem Guarded.after {s t u : State} (h : Guarded s t) (k : KeepsSeal t u) : Guarded s u := by
  refine ⟨h.kept.of_keepsSeal k, k.count ▸ h.count, k.firmware.trans h.firmware, ?_⟩
  rw [k.params, k.store]
  exact h.params

/-! The register store (R495). -/

/-- A commit of the registers, SEAL perhaps just raised: the older copy stands below it, and the log tells it or is one behind. -/
theorem sealKept_mtrCommit {s : State} (hold : ∀ st, s.mtr.store = some st → st.sealCount ≤ s.mtr.sealCount ∧
      s.mtr.sealCount ≤ max st.sealCount (loggedSeal s)) (hlimit : s.mtr.sealCount ≤ min (2 ^ 32 - 1) (loggedSeal s + 1))
    (hlog : loggedSeal s ≤ s.mtr.sealCount) : SealKept (mtrCommit s) := by
  refine ⟨fun st hst => ?_, fun st hst => ?_, fun hnone => (Option.some_ne_none _ hnone).elim, hlimit, hlog⟩
  · obtain hst | hst := hst
    · cases Option.some.inj hst
      exact ⟨Nat.le_refl _, Nat.le_max_left _ _⟩
    · exact hold st hst
  · cases Option.some.inj hst
    rfl

theorem mtrCommit_guarded {s : State} (hs : SealKept s) : Guarded s (mtrCommit s) := by
  obtain ⟨hcopies, -, -, hlimit, hlog⟩ := hs
  exact ⟨sealKept_mtrCommit (fun st hst => hcopies st (.inl hst)) hlimit hlog, Nat.le_refl _, rfl, .inl rfl⟩

/-! The restart (R481, R495). -/

/-- The copy of the store that a restart takes: the newer one that verifies. -/
def takenCopy (newer older : Bool) (s : State) : Option MtrStore :=
  (if newer then s.mtr.store else none).or (if older then s.mtr.older else none)

/-- A restart takes its parameters and SEAL from the copy, or the default ones and one more than the log tells; what is logged then only
tells that SEAL again. -/
theorem mtrStart_takes (newer older : Bool) (s : State) : ∃ u : State, KeepsSeal u (mtrStart newer older s) ∧
    u.mtr.store = takenCopy newer older s ∧ u.mtr.older = (if newer && older then s.mtr.older else none) ∧
    u.mtr.params = ((takenCopy newer older s).map (·.params)).getD [] ∧ u.mtr.sealCount =
      max (((takenCopy newer older s).map (·.sealCount)).getD (min (2 ^ 32 - 1) (loggedSeal s + 1))) (loggedSeal s) ∧
    u.mtr.firmware = s.mtr.firmware ∧ loggedSeal u = loggedSeal s := by
  unfold mtrStart
  extract_lets m gap good st _ m' s1
  refine ⟨s1, ?_, rfl, rfl, ?_, ?_, rfl, rfl⟩
  · refine KeepsSeal.trans ?_ (mtrLog_keepsSeal _ _ _ _ _ _)
    split
    · exact mtrLog_keepsSeal _ _ _ _ _ _
    · exact .refl s1
  · show (good.getD _).params = (good.map (·.params)).getD []
    cases good <;> rfl
  · show max (good.getD _).sealCount (loggedSeal s) = max ((good.map (·.sealCount)).getD (min (2 ^ 32 - 1) (loggedSeal s + 1))) (loggedSeal s)
    cases good <;> rfl

/-- A copy that a restart takes is one of the two. -/
theorem takenCopy_some {newer older : Bool} {s : State} {st : MtrStore} (h : takenCopy newer older s = some st) :
    s.mtr.store = some st ∨ s.mtr.older = some st := by
  obtain hst | ⟨-, hst⟩ := Option.or_eq_some_iff.mp h
  · exact .inl (Option.ite_none_right_eq_some.mp hst).2
  · exact .inr (Option.ite_none_right_eq_some.mp hst).2

/-- With no copy to take, no older one stands beside it. -/
theorem takenCopy_none {newer older : Bool} {s : State} (h : takenCopy newer older s = none) :
    (if newer && older then s.mtr.older else none) = none := by
  obtain ⟨-, hold⟩ := Option.or_eq_none_iff.mp h
  cases newer
  · rfl
  · exact hold

theorem mtrStart_guarded (newer older : Bool) {s : State} (hs : SealKept s) : Guarded s (mtrStart newer older s) := by
  obtain ⟨hcopies, hnew, hnone, hlimit, hlog⟩ := hs
  obtain ⟨u, hkeeps, hstore, holder, hparams, hcount, hfirmware, hlogged⟩ := mtrStart_takes newer older s
  refine Guarded.after ?_ hkeeps
  cases hgood : takenCopy newer older s with
  | none =>
    rw [hgood] at hstore hparams hcount
    rw [takenCopy_none hgood] at holder
    simp only [Option.map_none, Option.getD_none] at hparams hcount
    refine ⟨⟨?_, ?_, fun _ => hparams, ?_, ?_⟩, ?_, hfirmware, .inr (.inl ⟨hparams, hstore⟩)⟩
    · simp [hstore, holder]
    · simp [hstore]
    all_goals omega
  | some st =>
    rw [hgood] at hstore hparams hcount
    simp only [Option.map_some, Option.getD_some] at hparams hcount
    have hcopy := takenCopy_some hgood
    have hseal := hcopies st hcopy
    have hsame : u.mtr.sealCount = s.mtr.sealCount := by omega
    refine ⟨⟨fun st' hst' => ?_, fun st' hst' => ?_, fun h => ?_, ?_, ?_⟩, hsame.ge, hfirmware, ?_⟩
    · have hfrom : s.mtr.store = some st' ∨ s.mtr.older = some st' := by
        obtain hst' | hst' := hst'
        · exact takenCopy_some (hgood.trans (hstore.symm.trans hst'))
        · rw [holder] at hst'
          exact .inr (Option.ite_none_right_eq_some.mp hst').2
      rw [hsame, hlogged]
      exact hcopies st' hfrom
    · cases Option.some.inj (hstore.symm.trans hst')
      exact hparams.symm
    · rw [hstore] at h
      cases h
    · omega
    · omega
    · obtain hst | hst := hcopy
      · exact .inl (hparams.trans (hnew st hst))
      · exact .inr (.inr ⟨st, hst, hparams⟩)

/-- A restart with a newer copy that verifies keeps the parameters (R495). -/
theorem mtrStart_params {older : Bool} {s : State} {st : MtrStore} (h : s.mtr.store = some st) :
    (mtrStart true older s).mtr.params = st.params := by
  obtain ⟨u, hkeeps, -, -, hparams, -, -, -⟩ := mtrStart_takes true older s
  rw [hkeeps.params, hparams, takenCopy, if_pos rfl, h]
  rfl

theorem mtrDeviceReset_guarded {s : State} (hs : SealKept s) : Guarded s (mtrDeviceReset s) := by
  unfold mtrDeviceReset
  split
  · have hnote : KeepsSeal s (mtrNote 14 s) := mtrLog_keepsSeal _ _ _ _ _ s
    have hcommit := mtrCommit_guarded (hs.of_keepsSeal hnote)
    have hstart := mtrStart_guarded true true hcommit.kept
    have hstored : (mtrCommit (mtrNote 14 s)).mtr.store = some (committedStore (mtrNote 14 s)) := rfl
    exact .before hnote ⟨hstart.kept, hcommit.count.trans hstart.count, hstart.firmware.trans hcommit.firmware, .inl (mtrStart_params hstored)⟩
  · exact (KeepsSeal.refl s).guarded hs

/-! COMMIT and FW_ACTIVATE (R491 to R493). -/

/-- The staged values applied, SEAL raised where one of them changes, before the log tells it. -/
def appliedSeal (s : State) : State :=
  { s with mtr := { s.mtr with params := mtrMerged s, staged := [], sealCount := s.mtr.sealCount + b2n (changesParams s) } }

/-- The changes logged one by one. -/
def logChanges (s : State) (l : List (Nat × BitVec 32)) (t : State) : State :=
  l.foldl (fun t e => mtrLog 6 (paramFeeder e.1) e.1 (mtrP s e.1).toNat e.2.toNat t) t

theorem changesParams_eq (s : State) : changesParams s = !(s.mtr.staged.filter fun e => e.2 != mtrP s e.1).isEmpty := by
  unfold changesParams
  induction s.mtr.staged with
  | nil => rfl
  | cons e l ih =>
    rw [List.any_cons, List.filter_cons, ih]
    cases e.2 != mtrP s e.1 <;> rfl

theorem mtrApply_eq (s : State) :
    mtrApply s = mtrCommit (logChanges s (s.mtr.staged.filter fun e => e.2 != mtrP s e.1) (appliedSeal s)) := by
  unfold mtrApply appliedSeal
  rw [changesParams_eq]
  rfl

theorem logChanges_keepsSeal (s : State) (l : List (Nat × BitVec 32)) (t : State) : KeepsSeal t (logChanges s l t) := by
  unfold logChanges
  induction l generalizing t with
  | nil => exact .refl t
  | cons e l ih => exact (mtrLog_keepsSeal _ _ _ _ _ t).trans (ih _)

/-- With room for one record, changes logged tell the SEAL in force. -/
theorem loggedSeal_logChanges (s : State) {l : List (Nat × BitVec 32)} (hl : l ≠ []) {t : State} (hroom : mtrLogFull t = false) :
    loggedSeal (logChanges s l t) = t.mtr.sealCount := by
  obtain ⟨e, l, rfl⟩ := List.exists_cons_of_ne_nil hl
  have hfirst := loggedSeal_mtrLog 6 (paramFeeder e.1) e.1 (mtrP s e.1).toNat e.2.toNat t
  rw [hroom, if_neg (by decide)] at hfirst
  have hcount := (mtrLog_keepsSeal 6 (paramFeeder e.1) e.1 (mtrP s e.1).toNat e.2.toNat t).count
  obtain hrest | hrest := (logChanges_keepsSeal s l (mtrLog 6 (paramFeeder e.1) e.1 (mtrP s e.1).toNat e.2.toNat t)).logged
  · exact hrest.trans hfirst
  · exact hrest.trans hcount

/-- What a COMMIT leaves: the merged values in force and stored, SEAL one more where a value changes, and told by the log. -/
structure Applied (s t : State) : Prop where
  params : t.mtr.params = mtrMerged s
  count : t.mtr.sealCount = s.mtr.sealCount + b2n (changesParams s)
  logged : loggedSeal t = if changesParams s then s.mtr.sealCount + 1 else loggedSeal s
  store : t.mtr.store = some ⟨t.mtr.feeders.map Feeder.energy, t.mtr.dpMs, t.mtr.sealCount, t.mtr.params⟩
  staged : t.mtr.staged = []
  feeders : t.mtr.feeders = s.mtr.feeders
  dpMs : t.mtr.dpMs = s.mtr.dpMs
  only : Only [.mtr] s t
  unchanged : changesParams s = false → t.mtr.log = s.mtr.log

theorem logChanges_mtr (s : State) (l : List (Nat × BitVec 32)) (t : State) : ∃ m n,
    (logChanges s l t).mtr = { t.mtr with log := m, logNext := n } := by
  unfold logChanges
  induction l generalizing t with
  | nil => exact ⟨_, _, rfl⟩
  | cons e l ih =>
    obtain ⟨m, n, h⟩ := mtrLog_mtr 6 (paramFeeder e.1) e.1 (mtrP s e.1).toNat e.2.toNat t
    obtain ⟨m', n', h'⟩ := ih (mtrLog 6 (paramFeeder e.1) e.1 (mtrP s e.1).toNat e.2.toNat t)
    exact ⟨m', n', by rw [List.foldl_cons, h', h]⟩

theorem logChanges_only (s : State) (l : List (Nat × BitVec 32)) (t : State) : Only [.mtr] t (logChanges s l t) :=
  Only.refl.foldl _ (fun u _ => mtrLog_only _ _ _ _ _ u) l

theorem mtrApply_applied {s : State} (hroom : mtrLogFull s = false) : Applied s (mtrApply s) := by
  rw [mtrApply_eq]
  have hchanges := changesParams_eq s
  generalize (s.mtr.staged.filter fun e => e.2 != mtrP s e.1) = l at hchanges ⊢
  obtain ⟨m, n, hmtr⟩ := logChanges_mtr s l (appliedSeal s)
  have hkeeps := logChanges_keepsSeal s l (appliedSeal s)
  have honly : Only [.mtr] s (logChanges s l (appliedSeal s)) := (Only.setMtr _).trans (logChanges_only s l _)
  refine ⟨hkeeps.params, hkeeps.count, ?_, rfl, (congrArg MtrState.staged hmtr :), (congrArg MtrState.feeders hmtr :), (congrArg MtrState.dpMs hmtr :),
    honly.trans (Only.setMtr _), fun hsame => ?_⟩
  · cases l with
    | nil =>
      rw [hchanges]
      rfl
    | cons e l =>
      have hlogged := loggedSeal_logChanges s (List.cons_ne_nil e l) (t := appliedSeal s) hroom
      have hcount : (appliedSeal s).mtr.sealCount = s.mtr.sealCount + 1 := congrArg (s.mtr.sealCount + b2n ·) hchanges
      rw [hchanges]
      exact hlogged.trans hcount
  · obtain rfl : l = [] := by
      rw [hsame] at hchanges
      simpa using hchanges
    rfl

/-- A COMMIT that SEAL's limit allows keeps the seal and never lowers it. -/
theorem mtrApply_kept {s : State} (hs : SealKept s) (hroom : mtrLogFull s = false) (hlimit : changesParams s = true → s.mtr.sealCount < 2 ^ 32 - 1) :
    SealKept (mtrApply s) ∧ s.mtr.sealCount ≤ (mtrApply s).mtr.sealCount := by
  obtain ⟨hcopies, -, -, hle, hlog⟩ := hs
  have happlied := mtrApply_applied hroom
  rw [mtrApply_eq] at happlied ⊢
  have hkeeps := logChanges_keepsSeal s (s.mtr.staged.filter fun e => e.2 != mtrP s e.1) (appliedSeal s)
  generalize logChanges s (s.mtr.staged.filter fun e => e.2 != mtrP s e.1) (appliedSeal s) = t at happlied hkeeps ⊢
  have hcount : t.mtr.sealCount = s.mtr.sealCount + b2n (changesParams s) := happlied.count
  have hlogged : loggedSeal t = if changesParams s then s.mtr.sealCount + 1 else loggedSeal s := happlied.logged
  have hcopy (st : MtrStore) (hst : t.mtr.store = some st) := hcopies st (.inl (hkeeps.store.symm.trans hst))
  have hraised : s.mtr.sealCount ≤ t.mtr.sealCount := by omega
  cases hchanges : changesParams s <;> simp only [hchanges, b2n, if_true, if_false, Bool.false_eq_true] at hcount hlogged hlimit
  · exact ⟨sealKept_mtrCommit (fun st hst => by have := hcopy st hst; omega) (by omega) (by omega), hraised⟩
  · have hbelow := hlimit trivial
    exact ⟨sealKept_mtrCommit (fun st hst => by have := hcopy st hst; omega) (by omega) (by omega), hraised⟩

/-- What an activation leaves: the image runs, SEAL one more, told by the log and stored. -/
structure Activated (img : List Byte) (s t : State) : Prop where
  firmware : t.mtr.firmware = img
  blocks : t.mtr.blocks = []
  count : t.mtr.sealCount = s.mtr.sealCount + 1
  logged : loggedSeal t = s.mtr.sealCount + 1
  store : t.mtr.store.map (·.sealCount) = some (s.mtr.sealCount + 1)
  feeders : t.mtr.feeders = s.mtr.feeders
  params : t.mtr.params = s.mtr.params
  only : Only [.mtr] s t

/-- The image in place and SEAL raised, before the log tells it. -/
def activatedSeal (img : List Byte) (s : State) : State :=
  { s with mtr := { s.mtr with firmware := img, blocks := [], sealCount := s.mtr.sealCount + 1 } }

/-- The activation logged, before it is stored. -/
def activationLogged (img : List Byte) (s : State) : State :=
  mtrLog 7 0xFF 0 (fieldU (mtrIdentity s) 0 4) (fieldU (mtrIdentity (activatedSeal img s)) 0 4) (activatedSeal img s)

theorem mtrActivate_eq (img : List Byte) (s : State) : mtrActivate img s = mtrCommit (activationLogged img s) := rfl

theorem activationLogged_keepsSeal (img : List Byte) (s : State) : KeepsSeal (activatedSeal img s) (activationLogged img s) :=
  mtrLog_keepsSeal _ _ _ _ _ _

theorem loggedSeal_activationLogged {s : State} (hroom : mtrLogFull s = false) (img : List Byte) :
    loggedSeal (activationLogged img s) = s.mtr.sealCount + 1 :=
  (loggedSeal_mtrLog _ _ _ _ _ _).trans (if_neg (Bool.eq_false_iff.mp (show mtrLogFull (activatedSeal img s) = false from hroom)))

theorem mtrActivate_activated {s : State} (hroom : mtrLogFull s = false) (img : List Byte) : Activated img s (mtrActivate img s) := by
  have hkeeps := activationLogged_keepsSeal img s
  obtain ⟨l, n, hmtr⟩ := mtrLog_mtr 7 0xFF 0 (fieldU (mtrIdentity s) 0 4) (fieldU (mtrIdentity (activatedSeal img s)) 0 4) (activatedSeal img s)
  exact ⟨hkeeps.firmware, (congrArg MtrState.blocks hmtr :), hkeeps.count, loggedSeal_activationLogged hroom img, congrArg some hkeeps.count,
    (congrArg MtrState.feeders hmtr :), hkeeps.params, ((Only.setMtr _).trans (mtrLog_only ..)).trans (Only.setMtr _)⟩

theorem mtrActivate_kept {s : State} (hs : SealKept s) (hroom : mtrLogFull s = false) (hlimit : s.mtr.sealCount < 2 ^ 32 - 1) (img : List Byte) :
    SealKept (mtrActivate img s) ∧ s.mtr.sealCount ≤ (mtrActivate img s).mtr.sealCount := by
  obtain ⟨hcopies, -, -, hle, hlog⟩ := hs
  have hkeeps := activationLogged_keepsSeal img s
  have hcount : (activationLogged img s).mtr.sealCount = s.mtr.sealCount + 1 := hkeeps.count
  have hlogged := loggedSeal_activationLogged hroom img
  rw [mtrActivate_eq]
  refine ⟨sealKept_mtrCommit (fun st hst => ?_) (by omega) (by omega), hcount ▸ Nat.le_succ _⟩
  have hcopy := hcopies st (.inl (hkeeps.store.symm.trans hst))
  omega

end Sys2Proof.Machine
end

section
/-! SUPPORT. No command breaks the seal: each row of the island, each reset, and all others, which leave the island alone. -/

namespace Sys2Proof.Machine

set_option Elab.async false

/-! Host commands: only MTR_MAILBOX_READ touches the island, and that the image it last saw (R498). -/

theorem OpDef.Keeps.of_mtr {d : OpDef} (h : ∀ c s, (stepState (d.run c s)).mtr = s.mtr) : d.Keeps KeepsSeal := fun c s => .of_mtr (h c s)

theorem seeImage_keepsSeal (s : State) : KeepsSeal s (seeImage s) := by
  cases himage : s.mtr.image with
  | none =>
    simp only [seeImage, himage]
    exact .refl s
  | some b => exact (KeepsSeal.refl s).set (seeImage_spec himage).1

theorem mtrMailboxRead_keepsSeal : opMtrMailboxRead.Keeps KeepsSeal := fun _ s => seeImage_keepsSeal s

theorem opDefs_keepSeal : ∀ d ∈ opDefs, d.Keeps KeepsSeal := by
  simp only [opDefs, List.forall_mem_append, List.forall_mem_cons]
  exact ⟨⟨⟨⟨⟨.of_mtr mtr_opSessionAuth, .of_mtr mtr_opSessionResync, .of_mtr mtr_opSessionPing, .of_mtr mtr_opSessionClose, .of_mtr
    mtr_opTagAbort, .of_mtr mtr_opConfigLock, .of_mtr mtr_opConfigUnlock, .of_mtr mtr_opConfigSet, .of_mtr mtr_opConfigGet, .of_mtr
    mtr_opTableWrite, .of_mtr mtr_opTableRead, .of_mtr mtr_opTableInfo, .of_mtr mtr_opSignalRead, .of_mtr mtr_opSignalInfo, .of_mtr
    mtr_opSourceSelect, nofun⟩, ⟨.of_mtr mtr_opModeSet, .of_mtr mtr_opControlStatus, .of_mtr mtr_opSetpointSet, .of_mtr mtr_opSetpointGet,
    .of_mtr mtr_opJoystickSet, .of_mtr mtr_opThrusterAvail, .of_mtr (mtr_opStop _), .of_mtr mtr_opGnssStatus, .of_mtr mtr_opGnssRawRead,
    .of_mtr mtr_opRtcmInput, .of_mtr mtr_opNavBitsRead, .of_mtr mtr_opTimeGet, .of_mtr mtr_opTimeSet, .of_mtr mtr_opTimeStep, .of_mtr
    mtr_opTimeRate, .of_mtr mtr_opTxStampRead, nofun⟩⟩, ⟨.of_mtr mtr_opStructLoad, .of_mtr mtr_opStructUpdate, .of_mtr mtr_opSolve, .of_mtr
    mtr_opStructDrop, .of_mtr mtr_opMapWrite, .of_mtr mtr_opMapRead, .of_mtr mtr_opMapStatus, .of_mtr mtr_opGroupStatus, .of_mtr
    mtr_opRoleSet, .of_mtr mtr_opHandoverRequest, .of_mtr mtr_opHealthRead, nofun⟩⟩, ⟨.of_mtr mtr_opSafetyStatus, .of_mtr
    mtr_opSafetyParamWrite, .of_mtr mtr_opSafetyCheckRead, .of_mtr mtr_opSafetyCheckConfirm, .of_mtr (mtr_opBrakeTest _), .of_mtr
    mtr_opTripReset, .of_mtr (mtr_opStop _), mtrMailboxRead_keepsSeal, .of_mtr mtr_opMtrIdentRead, .of_mtr mtr_opEvtInfo, .of_mtr
    mtr_opEvtRead, .of_mtr mtr_opEvtClear, nofun⟩⟩, ⟨.of_mtr mtr_opPwrStatus, .of_mtr mtr_opPwrStateSet, .of_mtr mtr_opReset, .of_mtr
    mtr_opResetCauseRead, .of_mtr mtr_opResetCauseClear, .of_mtr mtr_opIdentityRead, .of_mtr mtr_opModuleList, .of_mtr mtr_opModuleRead,
    .of_mtr mtr_opModuleAccept, .of_mtr mtr_opModuleRescan, .of_mtr mtr_opRoleKeySet, .of_mtr mtr_opJournalQuery, .of_mtr mtr_opJournalList,
    .of_mtr mtr_opJournalRejects, nofun⟩⟩

theorem packetFor_keepsSeal (r : Req) (code : Nat) (p : List Byte) (s : State) : KeepsSeal s (packetFor r code p s) :=
  KeepsSeal.hostFrame.packetFor opDefs_keepSeal r code p s (.of_mtr (mtr_sessionOpenPacket ..))

/-! Resets: firmware forgets the image it saw, and a power-on reset commits and restarts the island (R481). -/

theorem enginesStop_keepsSeal (s : State) : KeepsSeal s (enginesStop s) := by
  have hmtr : (obsStop (fusionStop (solutionsStop s))).mtr = s.mtr := by rw [mtr_obsStop, mtr_fusionStop, mtr_solutionsStop]
  exact (KeepsSeal.of_mtr hmtr).set (u := enginesStop s) rfl

theorem fwStop_keepsSeal (l : Level) (s : State) : KeepsSeal s (fwStop l s) := by
  unfold fwStop
  extract_lets run _ t owned s1 s2
  have h1 : KeepsSeal s s1 := by
    refine .of_mtr ?_
    unfold s1
    split
    · exact mtr_settleEffects t
    · rfl
  have h2 : KeepsSeal s s2 := ((h1.congr (mtr_hostStop l s1)).trans (enginesStop_keepsSeal _)).congr
    ((mtr_groupStop ..).trans (mtr_dropOwnership _))
  exact h2.congr ((mtr_applyAll _).trans (mtr_abortTest s2))

theorem levelStop_keepsSeal (src : RSrc) (s : State) : KeepsSeal s (levelStop src s) := by
  have hpower := (fwStop_keepsSeal src.reach s).congr (mtr_resetPower src _)
  unfold levelStop
  split
  · exact hpower.congr (mtr_latchTrip ..)
  · exact hpower.congr (mtr_systemStop _)

theorem assertReset_guarded (src : RSrc) {s : State} (hs : SealKept s) : Guarded s (assertReset src s) := by
  have hlevel := levelStop_keepsSeal src s
  rw [assertReset_eq]
  split
  · refine .before (hlevel.congr ?_) (mtrDeviceReset_guarded (hs.of_keepsSeal (hlevel.congr ?_))) <;> rfl
  · exact hlevel.guarded hs

theorem enterDeep_keepsSeal (s : State) : KeepsSeal s (enterDeep s) := by
  unfold enterDeep
  extract_lets s1 _ s2 t s3
  have h2 : KeepsSeal s s2 := .of_mtr (mtr_copyEphemeris s)
  exact (h2.trans (fwStop_keepsSeal .system s2)).congr (mtr_systemStop _)

theorem enterOff_keepsSeal (s : State) : KeepsSeal s (enterOff s) :=
  (fwStop_keepsSeal .powerOn s).congr ((mtr_emit ..).trans (mtr_systemStop _))

theorem enterPower_keepsSeal (st : PState) (sched : Bool) (s : State) : KeepsSeal s (enterPower st sched s) := by
  unfold enterPower
  extract_lets s1 wakeAt _ s2
  have h2 : KeepsSeal s s2 := .of_mtr ((mtr_flushEvents _).trans (mtr_record ..))
  cases st with
  | sleep => exact h2.congr (mtr_enterSleep s2)
  | deepSleep => exact h2.trans (enterDeep_keepsSeal s2)
  | off => exact h2.trans (enterOff_keepsSeal s2)
  | run => exact h2
  | idle => exact h2

theorem exitOff_guarded {s : State} (hs : SealKept s) : Guarded s (exitOff s) := by
  have hpin : KeepsSeal s (emit (.pin "PWR_REQ" true) s) := .of_mtr (mtr_emit ..)
  refine .before hpin (.after (assertReset_guarded .por (hs.of_keepsSeal hpin)) (.of_mtr ?_))
  unfold exitOff
  exact mtr_record ..

/-! The rows of the island. -/

theorem mtrSampleIn_keepsSeal (bits : List (List Bool)) (s : State) : KeepsSeal s (mtrSampleIn bits s) := (KeepsSeal.refl s).set rfl

theorem mtrSecondEnd_keepsSeal (freq : List F32) (s : State) : KeepsSeal s (mtrSecondEnd freq s) := by
  unfold mtrSecondEnd
  extract_lets m s1 clear _ s2
  have h2 : KeepsSeal s s2 := (KeepsSeal.refl s).set rfl
  split
  · exact h2.trans (seeImage_keepsSeal s2)
  · exact h2

theorem elapseTo_keepsSeal (n : Nat) (s : State) : KeepsSeal s (elapseTo n s) := .of_mtr (mtr_elapseTo n s)

/-- For a row that goes on from an instant reached: the state at that instant gets a name, so that no term computes the instant. -/
theorem elapseTo_reaches (n : Nat) (s : State) : ∃ t, elapseTo n s = t ∧ KeepsSeal s t := ⟨_, rfl, elapseTo_keepsSeal n s⟩

theorem execMtrSample_keepsSeal (bits : List (List Bool)) (s : State) : KeepsSeal s (after s (execMtrSample bits s)) := by
  rw [execMtrSample, after_next]
  split
  · exact (elapseTo_keepsSeal _ s).trans (mtrSampleIn_keepsSeal bits _)
  · exact .refl s

theorem execMtrSecond_keepsSeal (freq : List F32) (s : State) : KeepsSeal s (after s (execMtrSecond freq s)) := by
  simp only [execMtrSecond]
  split
  · exact .refl s
  · split
    · rw [after_next]
      split
      · exact .refl s
      · exact mtrSecondEnd_keepsSeal freq s
    · obtain ⟨t, hsecond, ht⟩ := elapseTo_reaches (s.mtr.sampleAt + us 909091) s
      rw [after_next, hsecond]
      exact (ht.set rfl).trans (mtrSecondEnd_keepsSeal freq _)

theorem execMtrPulse_keepsSeal (f : Fin 4) (s : State) : KeepsSeal s (after s (execMtrPulse f s)) := by
  simp only [execMtrPulse]
  split
  · exact .refl s
  · obtain ⟨t, hpulse, ht⟩ := elapseTo_reaches (at_ 0 s.mtr.pulseAt f + us 1819) s
    rw [after_next, hpulse]
    exact ht.set (mtr_emit ..)

theorem execPhaseLoss_keepsSeal (f : Fin 4) (k : Fin 3) (s : State) : KeepsSeal s (after s (execPhaseLoss f k s)) := by
  unfold execPhaseLoss
  extract_lets f k x u g lost put
  have hput (b : Bool) : KeepsSeal s (put b s) := (KeepsSeal.refl s).set rfl
  split
  · exact .refl s
  · split
    · rw [after_next]
      exact (hput true).log ..
    · split
      · rw [after_next]
        exact (hput false).log ..
      · exact .refl s

theorem execMtrClockCheck_keepsSeal (ppm : Nat) (edges : Bool) (s : State) : KeepsSeal s (after s (execMtrClockCheck ppm edges s)) := by
  unfold execMtrClockCheck
  split
  · exact .refl s
  · obtain ⟨u, hcheck, hu⟩ := elapseTo_reaches (s.mtr.checkAt + ms 9) s
    rw [hcheck]
    extract_lets _ _ t m s2
    have ht : KeepsSeal s t := hu.set rfl
    have h2 : KeepsSeal s s2 := (ht.set rfl).note 9
    split
    · rw [after_next]
      exact ht.set rfl
    · split
      · rw [after_next]
        split
        · exact ht
        · exact (ht.set rfl).note 8
      · split
        · split
          · rw [after_next]
            exact h2.log ..
          · exact h2
        · exact ht

theorem execMtrRegisterCommit_guarded {s : State} (hs : SealKept s) : Guarded s (after s (execMtrRegisterCommit s)) := by
  rw [execMtrRegisterCommit, after_next]
  split
  · exact (mtrCommit_guarded hs).after ((KeepsSeal.refl _).set rfl)
  · exact (KeepsSeal.refl s).guarded hs

theorem execMtrWatchdog_guarded {s : State} (hs : SealKept s) : Guarded s (after s (execMtrWatchdog s)) := by
  rw [execMtrWatchdog, after_next]
  split
  · have hnote : KeepsSeal s (mtrNote 3 s) := (KeepsSeal.refl s).note 3
    exact .before hnote (mtrStart_guarded true true (hs.of_keepsSeal hnote))
  · exact (KeepsSeal.refl s).guarded hs

theorem execMtrPowerUp_guarded (newer older : Bool) {s : State} (hs : SealKept s) : Guarded s (after s (execMtrPowerUp newer older s)) := by
  unfold execMtrPowerUp
  split
  · exact (KeepsSeal.refl s).guarded hs
  · extract_lets _ s1
    rw [after_next]
    have h1 : KeepsSeal s s1 := (KeepsSeal.refl s).set rfl
    have hnote : KeepsSeal s (mtrNote 1 (railsUp 0x6FF#11 s1)) := (h1.congr (mtr_railsUp ..)).note 1
    exact .before hnote (mtrStart_guarded newer older (hs.of_keepsSeal hnote))

theorem execVddMtrWarning_guarded {s : State} (hs : SealKept s) : Guarded s (after s (execVddMtrWarning s)) := by
  rw [execVddMtrWarning, after_next]
  split
  · have hnote : KeepsSeal s (mtrNote 2 (railBelow 8 (railLevels 8).1 s)) := (KeepsSeal.of_mtr (mtr_railBelow ..)).note 2
    exact .before hnote (mtrCommit_guarded (hs.of_keepsSeal hnote))
  · exact (KeepsSeal.refl s).guarded hs

theorem execVddMtrLoss_keepsSeal (s : State) : KeepsSeal s (after s (execVddMtrLoss s)) := by
  rw [execVddMtrLoss, after_next]
  exact (KeepsSeal.refl s).set (mtr_railBelow ..)

theorem execUnsealed_keepsSeal (s : State) : KeepsSeal s (after s (execUnsealed s)) := by
  rw [execUnsealed, after_next]
  split
  · exact ((KeepsSeal.refl s).set rfl).note 4
  · exact .refl s

theorem execSealed_keepsSeal (s : State) : KeepsSeal s (after s (execSealed s)) := by
  rw [execSealed, after_next]
  split
  · exact ((KeepsSeal.refl s).set rfl).note 5
  · exact .refl s

/-- A service frame keeps what the command it carries keeps, an answer being no part of the island. -/
theorem svcIn_of_run {R : State → State → Prop} {cmd : Nat} {p : List Byte} {k : BitVec 32} {ok : Bool} {run : State → State} {s : State}
    (hR : HostFrame R) (hrun : R s (run s)) : R s (after s (svcIn cmd p k ok run s)) := by
  rw [svcIn, after_next]
  split
  · exact hR.refl s
  · split
    · exact hR.host ((svcReply_only ..).mono (by decide))
    · exact hrun

theorem KeepsSeal.reply {s t : State} (h : KeepsSeal s t) (cmd status : Nat) (body : List Byte) : KeepsSeal s (svcReply cmd status body t) :=
  h.congr (svcReply_mtr ..)

theorem execWriteParam_keepsSeal (p : List Byte) (k : BitVec 32) (s : State) : KeepsSeal s (after s (execWriteParam p k s)) := by
  refine svcIn_of_run KeepsSeal.hostFrame ?_
  extract_lets id v
  split
  · exact (KeepsSeal.refl s).reply ..
  · split
    · exact (KeepsSeal.refl s).reply ..
    · exact ((KeepsSeal.refl s).set rfl).reply ..

theorem execFwBlock_keepsSeal (p : List Byte) (k : BitVec 32) (s : State) : KeepsSeal s (after s (execFwBlock p k s)) := by
  refine svcIn_of_run KeepsSeal.hostFrame ?_
  split
  · exact (KeepsSeal.refl s).reply ..
  · exact ((KeepsSeal.refl s).set rfl).reply ..

/-! The rows of the power controller that reset or stop the device. -/

/-- A reset from a state that keeps the seal. -/
theorem KeepsSeal.reset {s t : State} (h : KeepsSeal s t) (hs : SealKept s) (src : RSrc) : Guarded s (assertReset src t) :=
  .before h (assertReset_guarded src (hs.of_keepsSeal h))

theorem execCommandedReset_guarded {s : State} (hs : SealKept s) : Guarded s (after s (execCommandedReset s)) := by
  unfold execCommandedReset
  split
  · rw [after_next]
    exact (elapseTo_keepsSeal _ s).reset hs _
  · exact (KeepsSeal.refl s).guarded hs

theorem execRstN_guarded {s : State} (hs : SealKept s) : Guarded s (after s (execRstN s)) := by
  rw [execRstN, after_next]
  split
  · exact (KeepsSeal.refl s).guarded hs
  · exact (KeepsSeal.refl s).reset hs .pin

theorem execWatchdog_guarded {s : State} (hs : SealKept s) : Guarded s (after s (execWatchdog s)) := by
  rw [execWatchdog, after_next]
  split
  · exact (elapseTo_keepsSeal _ s).reset hs .watchdog
  · exact (KeepsSeal.refl s).guarded hs

theorem execSafetyResetRequest_guarded {s : State} (hs : SealKept s) : Guarded s (after s (execSafetyResetRequest s)) := by
  simp only [execSafetyResetRequest]
  split
  · split
    · rename_i absent _ _
      obtain ⟨t, hlimit, ht⟩ := elapseTo_reaches (absent + cd12Least (ms 1000)) s
      rw [after_next, hlimit]
      have hasked : KeepsSeal s { t with saf := { t.saf with resetReq := true } } := ht.congr rfl
      exact hasked.reset hs .safetyReq
    · exact (KeepsSeal.refl s).guarded hs
  · exact (KeepsSeal.refl s).guarded hs

theorem execSupplyReset_guarded (i : Fin 11) {s : State} (hs : SealKept s) : Guarded s (after s (execSupplyReset i s)) := by
  unfold execSupplyReset
  extract_lets i
  rw [after_next]
  split
  · exact (KeepsSeal.of_mtr ((mtr_monitorReset ..).trans (mtr_railBelow ..))).guarded hs
  · split
    · exact (KeepsSeal.refl s).guarded hs
    · exact (KeepsSeal.of_mtr (mtr_railLost ..)).reset hs _

theorem execPowerStateEntry_keepsSeal (s : State) : KeepsSeal s (after s (execPowerStateEntry s)) := by
  unfold execPowerStateEntry
  split
  · extract_lets s1
    rw [after_next]
    split
    · exact (elapseTo_keepsSeal _ s).trans (enterPower_keepsSeal ..)
    · exact .refl s
  · exact .refl s

theorem execPowerStateExit_guarded (imageOk : Bool) {s : State} (hs : SealKept s) : Guarded s (after s (execPowerStateExit imageOk s)) := by
  unfold execPowerStateExit
  split
  · exact (KeepsSeal.refl s).guarded hs
  · split <;> rw [after_next]
    · exact (KeepsSeal.of_mtr (mtr_exitSleep s)).guarded hs
    · exact (KeepsSeal.of_mtr (mtr_exitDeep imageOk s)).guarded hs
    · exact exitOff_guarded hs
    · exact (KeepsSeal.refl s).guarded hs
    · exact (KeepsSeal.refl s).guarded hs

theorem execHandOff_keepsSeal (s : State) : KeepsSeal s (after s (execHandOff s)) := by
  rw [execHandOff, after_next]
  split
  · exact (KeepsSeal.refl s).set (handOff_spec s).2.2.1
  · exact .refl s

/-! Every command. -/

/-- What the statement asks of a step. -/
def SealStep (s t : State) : Prop :=
  SealKept t ∧ s.mtr.sealCount ≤ t.mtr.sealCount ∧ (s.mtr.unsealed = false → t.mtr.firmware = s.mtr.firmware ∧
    (t.mtr.params = s.mtr.params ∨ t.mtr.params = [] ∧ t.mtr.store = none ∨ ∃ o, s.mtr.older = some o ∧ t.mtr.params = o.params))

theorem Guarded.sealStep {s t : State} (h : Guarded s t) : SealStep s t := ⟨h.kept, h.count, fun _ => ⟨h.firmware, h.params⟩⟩

theorem KeepsSeal.sealStep {s t : State} (h : KeepsSeal s t) (hs : SealKept s) : SealStep s t := (h.guarded hs).sealStep

/-- An unsealed island answers, having applied what keeps the seal. -/
theorem sealStep_of_applied {s t u : State} (hopen : s.mtr.unsealed = true) (h : SealKept t ∧ s.mtr.sealCount ≤ t.mtr.sealCount)
    (hu : u.mtr = t.mtr) : SealStep s u := by
  have hkeeps : KeepsSeal t u := .of_mtr hu
  refine ⟨h.1.of_keepsSeal hkeeps, hkeeps.count ▸ h.2, fun hsealed => ?_⟩
  rw [hopen] at hsealed
  cases hsealed

theorem execCommit_sealStep (p : List Byte) (k : BitVec 32) {s : State} (hs : SealKept s) : SealStep s (after s (execCommit p k s)) := by
  have hreply (status : Nat) (body : List Byte) : SealStep s (svcReply 5 status body s) := ((KeepsSeal.refl s).reply ..).sealStep hs
  rw [execCommit, svcIn, after_next]
  split
  · exact (KeepsSeal.refl s).sealStep hs
  · split
    · exact hreply _ _
    · extract_lets l changes s1
      split
      · exact hreply _ _
      next hopen =>
        split
        · exact hreply _ _
        next hallowed =>
          have hallowed : mtrLogFull s = false ∧ (changesParams s = true → s.mtr.sealCount < 2 ^ 32 - 1) := by
            simpa [changes, changesParams] using hallowed
          split
          · exact hreply _ _
          · exact sealStep_of_applied (by simpa using hopen) (mtrApply_kept hs hallowed.1 hallowed.2) (svcReply_mtr ..)

theorem execFwActivate_sealStep (p : List Byte) (k : BitVec 32) {s : State} (hs : SealKept s) : SealStep s (after s (execFwActivate p k s)) := by
  have hreply (status : Nat) (body : List Byte) : SealStep s (svcReply 8 status body s) := ((KeepsSeal.refl s).reply ..).sealStep hs
  rw [execFwActivate, svcIn, after_next]
  split
  · exact (KeepsSeal.refl s).sealStep hs
  · split
    · exact hreply _ _
    · split
      · exact hreply _ _
      next hopen =>
        split
        · exact hreply _ _
        next hallowed =>
          have hallowed : mtrLogFull s = false ∧ s.mtr.sealCount < 2 ^ 32 - 1 := by simpa using hallowed
          split
          · exact hreply _ _
          · split
            next img _ =>
              split
              · exact sealStep_of_applied (by simpa using hopen) (mtrActivate_kept hs hallowed.1 hallowed.2 img) (svcReply_mtr ..)
              · exact hreply _ _
            next => exact hreply _ _

/-- Every command is a step of the seal: the rows of the island, those that stop or reset the device, the packets of any opcode, and all
others, whose laws leave the island alone. -/
theorem exec_sealStep (c : Instr) {s : State} (hs : SealKept s) : SealStep s (after s (exec c s)) := by
  cases c
  case commit p k => exact execCommit_sealStep p k hs
  case fwActivate p k => exact execFwActivate_sealStep p k hs
  case writeParam p k => exact (execWriteParam_keepsSeal p k s).sealStep hs
  case fwBlock p k => exact (execFwBlock_keepsSeal p k s).sealStep hs
  case mtrSample bits => exact (execMtrSample_keepsSeal bits s).sealStep hs
  case mtrSecond freq => exact (execMtrSecond_keepsSeal freq s).sealStep hs
  case mtrPulse f => exact (execMtrPulse_keepsSeal f s).sealStep hs
  case phaseLoss f k => exact (execPhaseLoss_keepsSeal f k s).sealStep hs
  case mtrClockCheck ppm edges => exact (execMtrClockCheck_keepsSeal ppm edges s).sealStep hs
  case mtrRegisterCommit => exact (execMtrRegisterCommit_guarded hs).sealStep
  case mtrWatchdog => exact (execMtrWatchdog_guarded hs).sealStep
  case mtrPowerUp a b => exact (execMtrPowerUp_guarded a b hs).sealStep
  case vddMtrWarning => exact (execVddMtrWarning_guarded hs).sealStep
  case vddMtrLoss => exact (execVddMtrLoss_keepsSeal s).sealStep hs
  case unsealed => exact (execUnsealed_keepsSeal s).sealStep hs
  case sealed => exact (execSealed_keepsSeal s).sealStep hs
  case handOff => exact (execHandOff_keepsSeal s).sealStep hs
  case mtrMailboxRead r p => exact (KeepsSeal.hostFrame.packetIn mtrMailboxRead_keepsSeal true r p s).sealStep hs
  case fragmentReceived r code p => exact (packetFor_keepsSeal r code.toNat p s).sealStep hs
  case unknownOpcode r code p => exact (packetFor_keepsSeal r code.toNat p s).sealStep hs
  case commitPoint e => exact (KeepsSeal.hostFrame.commitPoint opDefs_keepSeal e s).sealStep hs
  case commandedReset => exact (execCommandedReset_guarded hs).sealStep
  case rstN => exact (execRstN_guarded hs).sealStep
  case watchdog => exact (execWatchdog_guarded hs).sealStep
  case safetyResetRequest => exact (execSafetyResetRequest_guarded hs).sealStep
  case supplyReset i => exact (execSupplyReset_guarded i hs).sealStep
  case powerStateEntry => exact (execPowerStateEntry_keepsSeal s).sealStep hs
  case powerStateExit imageOk => exact (execPowerStateExit_guarded imageOk hs).sealStep
  all_goals
    refine (KeepsSeal.of_mtr ?_).sealStep hs
    simp only [exec,
    mtr_execSessionOpen, mtr_execSessionAuth, mtr_execSessionResync, mtr_execSessionPing, mtr_execSessionClose, mtr_execTagAbort,
    mtr_execFragGapExpiry, mtr_execFragTotalExpiry, mtr_execSessionIdleExpiry, mtr_execAuthTimeout, mtr_execLockoutExpiry,
    mtr_execInterimAcceptedReply, mtr_execJournalBufferFlush, mtr_execConfigLock, mtr_execConfigUnlock, mtr_execConfigSet,
    mtr_execConfigGet, mtr_execTableWrite, mtr_execTableRead, mtr_execTableInfo, mtr_execSignalRead, mtr_execSignalInfo,
    mtr_execSourceSelect, mtr_execModeSet, mtr_execControlStatus, mtr_execSetpointSet, mtr_execSetpointGet, mtr_execJoystickSet,
    mtr_execThrusterAvail, mtr_execThrustStop, mtr_execGnssStatus, mtr_execGnssRawRead, mtr_execRtcmInput, mtr_execNavBitsRead,
    mtr_execTimeGet, mtr_execTimeSet, mtr_execTimeStep, mtr_execTimeRate, mtr_execTxStampRead, mtr_execStructLoad, mtr_execStructUpdate,
    mtr_execSolve, mtr_execStructDrop, mtr_execMapWrite, mtr_execMapRead, mtr_execMapStatus, mtr_execGroupStatus, mtr_execRoleSet,
    mtr_execHandoverRequest, mtr_execHealthRead, mtr_execSafetyStatus, mtr_execSafetyParamWrite, mtr_execSafetyCheckRead,
    mtr_execSafetyCheckConfirm, mtr_execBrakeTest, mtr_execTripReset, mtr_execSafeStop, mtr_execMtrIdentRead, mtr_execEvtInfo,
    mtr_execEvtRead, mtr_execEvtClear, mtr_execPwrStatus, mtr_execPwrStateSet, mtr_execReset, mtr_execResetCauseRead,
    mtr_execResetCauseClear, mtr_execIdentityRead, mtr_execModuleList, mtr_execModuleRead, mtr_execModuleAccept, mtr_execModuleRescan,
    mtr_execRoleKeySet, mtr_execJournalQuery, mtr_execJournalList, mtr_execJournalRejects, mtr_execReadPacket, mtr_execHostStatusClear,
    mtr_execResetCauseWrite, mtr_execDoorbellWake, mtr_execDoorbellIrqEn, mtr_execWindowWriteOther, mtr_execVesselPeriodBoundary,
    mtr_execTpBoundary, mtr_execPeriodWakeRequest, mtr_execSnapshot, mtr_execProjectionAssociationVote, mtr_execRefHoldTimeout,
    mtr_execClockSlipCleared, mtr_execObserverUpdate, mtr_execObsReinit, mtr_execRnnWaitExpiry, mtr_execRnnWarmupEnd, mtr_execObsAgree,
    mtr_execControl, mtr_execJoyTimeout, mtr_execFollowWarn, mtr_execFollowLimit, mtr_execTargetLostTimeout, mtr_execBerthOptLost,
    mtr_execTrackHoldExpiry, mtr_execAllocation, mtr_execSolverDeadline, mtr_execThrusterReturned, mtr_execMirror, mtr_execHealth,
    mtr_execLogBlockRx, mtr_execParisonChain, mtr_execParisonChainComplete, mtr_execTileRetired, mtr_execPtpMessageRx,
    mtr_execServoMeasurement, mtr_execHoldoverEnter, mtr_execTimeStepInstant, mtr_execCatchUpStep, mtr_execPtpSyncTx, mtr_execPdelayReqTx,
    mtr_execPpsOutPulse, mtr_execPpsInEdge, mtr_execMeasurementEpoch, mtr_execGnssRawPublish, mtr_execGnssSolutionPublish,
    mtr_execLevelAPublish, mtr_execBandClockCheck, mtr_execFrontEndReplay, mtr_execBandHealthy, mtr_execAgcUpdate, mtr_execTrackingLoop,
    mtr_execChannelLossOfLock, mtr_execSearchComplete, mtr_execNotchUpdate, mtr_execJamIndicator, mtr_execGnssJamming,
    mtr_execNavUnitDecoded, mtr_execEphemerisCopy, mtr_execAcqOutput, mtr_execAcqModFault, mtr_execModFaultClear, mtr_execSettlingEnd,
    mtr_execAcqSyncPinEdge, mtr_execAcqSync, mtr_execCanFrameRx, mtr_execCanBusOff, mtr_execCanRecovered, mtr_execFeedbackRx,
    mtr_execDriveStatusRx, mtr_execDriveHbLost, mtr_execDriveLost, mtr_execActSatWarn, mtr_execActSatFault, mtr_execSerialSentenceRx,
    mtr_execModulePresent, mtr_execModuleReadComplete, mtr_execModuleNackRetry, mtr_execModuleRemoved, mtr_execOpticalFrameRx,
    mtr_execMapMaintenance, mtr_execBaPass, mtr_execCascLinkUp, mtr_execCascLinkDown, mtr_execCascFrameRx, mtr_execAnnounceTx,
    mtr_execAnnounceRx, mtr_execHealthRx, mtr_execHandoverResend, mtr_execHandoverAckTimeout, mtr_execTake, mtr_execYield, mtr_execAck,
    mtr_execMirrorRx, mtr_execExtCmd, mtr_execExtFb, mtr_execExtMasterLost, mtr_execStop, mtr_execStepNotice, mtr_execSyncNotice,
    mtr_execBootReq, mtr_execBootReqTx, mtr_execBootData, mtr_execArbiterDatagramRx, mtr_execPermitInLow, mtr_execOwnerOverlap,
    mtr_execOwnershipTakeUp, mtr_execSelftestCycle, mtr_execSafeInputFiltered, mtr_execTestPulse, mtr_execDiscrepancy, mtr_execRampEnd,
    mtr_execReleaseRequestFallExpiry, mtr_execReadbackDeviation, mtr_execSwitchTest, mtr_execClockWindow, mtr_execHeartbeatAbsent,
    mtr_execMonitorDiagnostic, mtr_execBrakeTestDue, mtr_execReadIdent, mtr_execReadMailbox, mtr_execReadParam, mtr_execReadLog,
    mtr_execEventEntry, mtr_execEventFlush, mtr_execControlBlockWrite, mtr_execBowWarning, mtr_execBowRecovered, mtr_execBowStop,
    mtr_execResetSequence, mtr_execFirmwareStart, mtr_execPwrEntryAbandoned, mtr_execPwrSchedEnter, mtr_execPwrSchedWake, mtr_execWakePin,
    mtr_execWakeFrame, mtr_execDomainWakeRequest, mtr_execWakeGovernorWindow, mtr_execIdleEntry, mtr_execClockSkew, mtr_execThermalGradient,
    mtr_execDomainReturn, mtr_execJunctionHot, mtr_execWritePacket, mtr_execVddSafeWarning, mtr_execMonitorStartUp, mtr_execPtpMessageTx,
    mtr_execCanErrorPassive, mtr_execRnnFault, mtr_execHbInToggle, mtr_execDomainReady, mtr_execArpIcmpRequest, mtr_execJunctionHotEnd,
    mtr_execClockWindowTimeout]

/-- Settles O53: a tick of CD9 leaves the island alone, and every command is a step of the seal. -/
theorem sealInvariant : Obligations.SealInvariant := by
  intro s t hs hstep
  obtain ⟨-, rfl⟩ | ⟨c, cs, -, hexec⟩ := step_cases hstep
  · exact (KeepsSeal.of_mtr (mtr_passTicks ..)).sealStep hs
  · have hcommand : SealStep { s with pending := cs } (after _ (exec c { s with pending := cs })) := exec_sealStep c hs
    rw [hexec] at hcommand
    exact hcommand

/-- A COMMIT that changes a value is seen by the staged list. -/
theorem changesParams_iff (s : State) : changesParams s = true ↔ ∃ e ∈ s.mtr.staged, e.2 ≠ mtrP s e.1 := by
  simp [changesParams]

/-- Settles O52. -/
theorem sealRule : Obligations.SealRule := by
  refine ⟨fun k s hheard hopen hroom hrate hoffset => ?_, fun p k s img hheard hlen hopen hroom hsize himg => ⟨fun hlimit => ?_, fun hlimit => ?_⟩,
    fun c s t hs hexec => ?_⟩
  · have happlied := mtrApply_applied hroom
    have hmtr := svcReply_mtr 5 0 (be 4 (mtrApply s).mtr.sealCount) (mtrApply s)
    refine ⟨fun hchange hlimit => ?_, fun hchange hlimit => ?_, fun hsame => ?_⟩
    · have hchanges := (changesParams_iff s).mpr hchange
      have hcount : (mtrApply s).mtr.sealCount = s.mtr.sealCount + 1 := by rw [happlied.count, hchanges]; rfl
      refine ⟨_, commit_applies hheard rfl hopen hroom (fun _ => hlimit) hrate hoffset, ?_, ?_, ?_⟩
      · rw [hmtr, hcount]
      · rw [loggedSeal_of_mtr hmtr, happlied.logged, if_pos hchanges]
      · rw [hmtr, happlied.store, Option.map_some, hcount]
    · exact commit_full hheard rfl hopen (.inr ⟨(changesParams_iff s).mpr hchange, hlimit⟩)
    · have hchanges : changesParams s = false := by simpa [changesParams] using hsame
      refine ⟨_, commit_applies hheard rfl hopen hroom (fun h => ?_) hrate hoffset, ?_, ?_⟩
      · rw [hchanges] at h
        cases h
      · rw [hmtr, happlied.count, hchanges]
        rfl
      · rw [hmtr, happlied.unchanged hchanges]
  · have hdone := mtrActivate_activated hroom img
    refine ⟨_, fwActivate_judged hheard hlen hopen hroom hlimit hsize himg, fun hgood => ?_, fun hbad => ?_⟩
    · have hmtr := svcReply_mtr 8 0 (mtrIdentity (mtrActivate img s) ++ be 4 (mtrActivate img s).mtr.sealCount) (mtrActivate img s)
      rw [if_pos hgood, hmtr, loggedSeal_of_mtr hmtr]
      exact ⟨hdone.count, hdone.firmware, hdone.logged, hdone.store⟩
    · rw [if_neg (Bool.eq_false_iff.mp hbad), svcReply_mtr]
  · exact fwActivate_full hheard hlen hopen hlimit
  · have hstep := exec_sealStep c hs
    rw [hexec] at hstep
    exact hstep.2.1

/-- Settles O51: a frame that is not heard, one of the wrong length, and each command refused and carried out. -/
theorem islandServiceRows : Obligations.IslandServiceRows := by
  intro p k s
  obtain ⟨h1, h2, h3, h4, h5, h6, h7, h8⟩ := service_unheard p k s
  refine ⟨h1, h2, h3, h4, h5, h6, h7, h8, readIdent_answers, readMailbox_answers, readParam_answers, writeParam_answers, fun h => ?_, readLog_answers,
    fwBlock_answers, fun h => ?_⟩
  · refine ⟨commit_badFrame h, commit_sealed h, fun hp hopen hfull => commit_full h hp hopen (.inl hfull),
      fun hp hopen hroom hlimit => commit_inconsistent h hp hopen hroom fun _ => hlimit, fun hp hopen hroom hlimit hrate hoffset => ?_⟩
    have happlied := mtrApply_applied hroom
    have hmtr := svcReply_mtr 5 0 (be 4 (mtrApply s).mtr.sealCount) (mtrApply s)
    refine ⟨_, commit_applies h hp hopen hroom (fun _ => hlimit) hrate hoffset, ?_, ?_, ?_, ?_, happlied.only.comp (svcReply_only ..)⟩
    all_goals rw [hmtr]
    · exact happlied.params
    · exact happlied.staged
    · exact happlied.feeders
    · rw [happlied.store, happlied.feeders, happlied.dpMs, happlied.params]
  · refine ⟨fwActivate_badFrame h, fwActivate_sealed h, fun img hp hopen hroom hlimit hlen himg => ?_⟩
    have hdone := mtrActivate_activated hroom img
    have hmtr := svcReply_mtr 8 0 (mtrIdentity (mtrActivate img s) ++ be 4 (mtrActivate img s).mtr.sealCount) (mtrActivate img s)
    refine ⟨_, fwActivate_judged h hp hopen hroom hlimit hlen himg, ?_⟩
    by_cases hsig : Config.mtrSignature (sha256 img) (p.drop 4) = true
    · rw [if_pos hsig, hmtr]
      exact ⟨hdone.feeders, hdone.params, hdone.only.comp (svcReply_only ..), fun _ => ⟨hdone.firmware, hdone.blocks⟩,
        fun hbad => absurd hsig (Bool.eq_false_iff.mp hbad)⟩
    · rw [if_neg hsig, svcReply_mtr]
      exact ⟨rfl, rfl, (svcReply_only ..).mono (by decide), fun hgood => absurd hgood hsig, fun _ => rfl⟩

end Sys2Proof.Machine
end

section
/-! The restart of the island without a copy, the event recorder and the watchdog (R481, R495, R502 to R509, R534). -/

namespace Sys2Proof.Machine

set_option Elab.async false

/-! A power-up with no copy of the store (R495). -/

/-- VDD_MTR is absent, no copy of the store and no log are held, and SEAL is above its 32-bit limit. -/
def sealAboveLimit : State := { State.reset with mtr := { State.reset.mtr with sealCount := 2 ^ 32 } }

/-- The log entry of the power-up tells the count above the limit, and the restart takes it from there. -/
theorem mtrPowerUp_sealAboveLimit :
    ∃ t, exec (.mtrPowerUp false false) sealAboveLimit = .next t ∧ t.mtr.sealCount = 2 ^ 32 := by
  refine ⟨_, rfl, ?_⟩
  obtain ⟨u, hkeeps, -, -, -, hcount, -, -⟩ := mtrStart_takes false false (mtrNote 1 (railsUp 0x6FF#11
    { sealAboveLimit with mtr := { sealAboveLimit.mtr with on := true, cycles := sealAboveLimit.mtr.cycles + 1 } }))
  refine hkeeps.count.trans (hcount.trans ?_)
  decide

/-- Refutes O50: nothing bounds SEAL in the states it speaks of, and a power-up that takes SEAL from a log above the limit does not bring it
down to the limit. -/
theorem not_islandRows : ¬ Obligations.IslandRows := by
  intro h
  obtain ⟨-, -, -, -, -, -, -, -, -, -, -, -, -, -, -, -, -, hnoCopy, -⟩ := h sealAboveLimit
  obtain ⟨t, hexec, -, -, -, -, -, -, -, hseal, -⟩ := hnoCopy false false rfl (.inl rfl) (.inl rfl)
  obtain ⟨u, hexec', hcount⟩ := mtrPowerUp_sealAboveLimit
  cases hexec.symm.trans hexec'
  exact absurd (hcount.symm.trans (hseal (by decide))) (by decide)

/-! EVT_INFO (R509). -/

theorem oldest_of_nil {e : RecState} (h : e.recs = []) : oldest e = (e.newest + 1) % 2 ^ 32 := by rw [oldest, h]

theorem oldest_of_head {e : RecState} {o : EvRec} (h : e.recs.head? = some o) : oldest e = o.num := by
  obtain ⟨l, hl⟩ := List.head?_eq_some_iff.mp h
  rw [oldest, hl]

/-- A row that replies from the state alone, its reply said anew where more is known of the state. -/
theorem Reads.restate {code cls : Nat} {row : Req → List Byte → Instr} {ok ok' : Cmd → State → Prop} {reply reply' : Cmd → State → List Byte}
    (h : Reads code cls row ok reply) (hok : ∀ c s, ok' c s → ok c s) (hreply : ∀ c s, ok' c s → reply c s = reply' c s) :
    Reads code cls row ok' reply' := by
  intro r p s x hfresh c u hc
  rw [h r p s x hfresh (hok _ _ hc), hreply _ _ hc]

theorem evtInfo_reads : Reads 0x0A01 1 .evtInfo (fun c _ => c.params = [])
    (fun _ s => be 4 evtCapacity ++ be 4 s.evt.recs.length ++ be 4 (oldest s.evt) ++ be 4 s.evt.newest) := reads_of_empty

/-- Settles O54. -/
theorem evtInfoRule : Obligations.EvtInfoRule := by
  refine ⟨evtInfo_reads.restate (fun _ _ ⟨hempty, _⟩ => hempty) fun _ s ⟨_, hnil⟩ => ?_,
    fun o => evtInfo_reads.restate (fun _ _ ⟨hempty, _⟩ => hempty) fun _ s ⟨_, hhead⟩ => ?_⟩
  · rw [oldest_of_nil hnil, hnil]
    rfl
  · rw [oldest_of_head hhead]
    rfl

/-! Entering an event (R505 to R508). -/

/-- The record that an event takes. -/
def newRec (e : Ev) (ps : List Byte) (lost : Bool) (s : State) : EvRec :=
  { num := (s.evt.newest + 1) % 2 ^ 32, oper := s.evt.operNs / 10000000 % 2 ^ 40, cycles := s.evt.cycles, ev := e, rep := 0,
    lostBefore := lost, stamp := now s, params := padTo 6 ps, mram := none, bad := none }

theorem pushRec_evt (e : Ev) (ps : List Byte) (lost : Bool) (s : State) : (pushRec e ps lost s).evt = { s.evt with
    recs := (if s.evt.recs.length < evtCapacity then s.evt.recs else s.evt.recs.drop 1) ++ [newRec e ps lost s],
    newest := (s.evt.newest + 1) % 2 ^ 32, slot := (s.evt.slot + 1) % evtCapacity } := rfl

theorem pushRec_last (e : Ev) (ps : List Byte) (lost : Bool) (s : State) :
    (pushRec e ps lost s).evt.recs.getLast? = some (newRec e ps lost s) := by
  rw [pushRec_evt, List.getLast?_concat]

theorem record_of_room {e : Ev} (hrep : repKey e = none) {s : State} (hroom : s.evt.waiting < evtBuffer) (ps : List Byte) :
    record e ps s = pushRec e (padTo 6 ps) false s := by
  simp only [record, hrep, Option.bind_none, hroom, if_true]

theorem record_of_full {e : Ev} (hrep : repKey e = none) {s : State} (hfull : evtBuffer ≤ s.evt.waiting) (ps : List Byte) :
    record e ps s = { s with evt := { s.evt with dropped := s.evt.dropped + 1 } } := by
  simp only [record, hrep, Option.bind_none, Nat.not_lt.mpr hfull, if_false]

theorem padTo_padTo (n : Nat) (ps : List Byte) : padTo n (padTo n ps) = padTo n ps := by
  have hlength : (padTo n ps).length = n := by
    rw [padTo, zeros, List.length_take, List.length_append, List.length_replicate]
    omega
  rw [padTo, hlength, Nat.sub_self, zeros, List.replicate_zero, List.append_nil, List.take_of_length_le hlength.le]

/-! The flush (R508). -/

/-- Every record is in MRAM as it stands. -/
def flushed (s : State) : State := { s with evt := { s.evt with recs := s.evt.recs.map fun r => { r with mram := some (r.rep, r.params) } } }

theorem flushed_waiting (s : State) : (flushed s).evt.waiting = 0 := by
  simp [flushed, RecState.waiting, EvRec.dirty]

theorem flushed_length (s : State) : (flushed s).evt.recs.length = s.evt.recs.length := List.length_map _

theorem flushEvents_of_none {s : State} (h : s.evt.dropped = 0) : flushEvents s = flushed s := if_pos h

theorem flushEvents_of_dropped {s : State} (h : s.evt.dropped ≠ 0) : flushEvents s =
    pushRec .evtLost (be 4 (satU 32 s.evt.dropped)) true { flushed s with evt := { (flushed s).evt with dropped := 0 } } := if_neg h

theorem flushEvents_dropped (s : State) : (flushEvents s).evt.dropped = 0 := by
  by_cases h : s.evt.dropped = 0
  · rw [flushEvents_of_none h]
    exact h
  · rw [flushEvents_of_dropped h]
    rfl

/-- Settles O55: what an event leaves where it takes a record and where it is dropped, and a flush with and without events dropped. -/
theorem eventRows : Obligations.EventRows := by
  intro s
  refine ⟨fun e p => ⟨record e p s, rfl, record_only e p s, fun hrep hroom => ?_, fun hrep hfull => ?_⟩, fun hbow hfw => ?_, fun hheld => ?_,
    fun hbow => ?_, fun hbow => ?_⟩
  · rw [record_of_room hrep hroom]
    refine ⟨rfl, rfl, newRec e (padTo 6 p) false s, pushRec_last .., rfl, rfl, padTo_padTo 6 p, rfl, rfl, rfl, rfl, rfl, fun hspace => ?_⟩
    have hroom : s.evt.recs.length < evtCapacity := hspace
    simp only [pushRec_evt, hroom, if_true]
  · rw [record_of_full hrep hfull]
  · refine ⟨flushEvents s, ?_, flushEvents_only s, flushEvents_dropped s, fun hnone => ?_, fun hsome => ?_⟩
    · show execEventFlush s = _
      rw [execEventFlush, hbow, hfw]
      rfl
    · rw [flushEvents_of_none hnone]
      exact ⟨flushed_waiting s, flushed_length s, rfl⟩
    · rw [flushEvents_of_dropped (Nat.ne_of_gt hsome)]
      exact ⟨_, pushRec_last .., rfl, rfl⟩
  · show execEventFlush s = _
    rw [execEventFlush]
    obtain hbow | hfw := hheld
    · rw [hbow]
      rfl
    · rw [hfw, Bool.not_false, Bool.or_true]
      rfl
  · show execControlBlockWrite s = _
    rw [execControlBlockWrite, hbow]
    rfl
  · show execControlBlockWrite s = _
    rw [execControlBlockWrite, hbow]
    rfl

/-! The watchdog (R534). -/

theorem watchdog_of_asleep {s : State} (h : awake s = false) : exec .watchdog s = .next s := by
  show execWatchdog s = _
  rw [execWatchdog, h]
  rfl

theorem awake_of_not_running {s : State} (h : fwRunning s = false) : awake s = false := by
  rw [awake, h, Bool.false_and]

/-- Settles O57: an expiry is a reset at the first tick at which the time allowed has passed; firmware start counts as served. -/
theorem watchdogRule : Obligations.WatchdogRule := by
  intro s
  refine ⟨fun hawake => ?_, fun hrom => watchdog_of_asleep (awake_of_not_running (by rw [fwRunning, hrom]; rfl)),
    fun hstopped => watchdog_of_asleep (awake_of_not_running hstopped), fun f hboot hrun himage => ?_⟩
  · have helapse := elapseTo_only (s.pwr.wdtServed + ms (pNat s 0x0B02)) s
    refine ⟨assertReset .watchdog (elapseTo (s.pwr.wdtServed + ms (pNat s 0x0B02)) s), ?_, ?_, ?_⟩
    · show execWatchdog s = _
      rw [execWatchdog, if_pos hawake]
    · exact (assertReset_resetBy .watchdog _).of_before (congrArg PwrState.boot (helapse.2 .pwr (by decide))) (helapse.2 .host (by decide))
    · rw [(assertReset_stopped .watchdog _).elapsed]
      exact le_elapsed_elapseTo _ s
  · refine ⟨startFirmware f s, firmwareStart_of_ready hboot hrun himage, ?_, ?_⟩
    · rw [fwRunning, startFirmware_pwr]
      rfl
    · rw [startFirmware_pwr]
      rfl

end Sys2Proof.Machine
end

section
/-! Thrusters that saturate, are lost and return, tiles that retire, and the parison chain (R372, R387, R394 to R396, R409). -/

namespace Sys2Proof.Machine

set_option Elab.async false

/-! One thruster's channels (R387). -/

theorem thrOf_modThr (t k : Nat) (f : Thr → Thr) (s : State) :
    thrOf (modThr t f s) k = if t = k ∧ k < s.thr.thr.length then f (thrOf s k) else thrOf s k := at_modAt ..

theorem thrOf_record (e : Ev) (ps : List Byte) (s : State) (k : Nat) : thrOf (record e ps s) k = thrOf s k := by
  rw [thrOf, show (record e ps s).thr = s.thr from (record_only e ps s).2 .thr (by decide), thrOf]

theorem satOf_record (e : Ev) (ps : List Byte) (s : State) (k : Nat) (st : Bool) : satOf (record e ps s) k st = satOf s k st := by
  rw [satOf, thrOf_record, satOf]

theorem modSat_only (t : Nat) (st : Bool) (f : SatChan → SatChan) (s : State) : Only [.thr] s (modSat t st f s) := modThr_only _ _ _

section
variable {t : Nat} {s : State} (ht : t < s.thr.thr.length)
include ht

/-- A channel is changed, and the thruster's other channel is not. -/
theorem satOf_modSat (st : Bool) (f : SatChan → SatChan) :
    satOf (modSat t st f s) t st = f (satOf s t st) ∧ satOf (modSat t st f s) t (!st) = satOf s t (!st) := by
  simp only [satOf, modSat, thrOf_modThr, ht, and_self, if_true]
  cases st <;> exact ⟨rfl, rfl⟩

theorem actSatWarn_row {st : Bool} (hset : satLimit s t 60 ≠ 0) (hcount : satLimit s t 60 ≤ (satOf s t st).count)
    (hnew : (satOf s t st).warn = false) : (satOf (satWarn t st s) t st).warn = true ∧
      satOf (satWarn t st s) t (!st) = satOf s t (!st) ∧ Only [.evt, .thr] s (satWarn t st s) := by
  obtain ⟨hsame, hother⟩ := satOf_modSat ht st fun c => { c with warn := true }
  have hrow : satWarn t st s = record .actSatWarn (satParams s t st) (modSat t st (fun c => { c with warn := true }) s) :=
    if_pos ⟨hset, hcount, by rw [hnew]; rfl⟩
  rw [hrow, satOf_record, satOf_record, hsame]
  exact ⟨rfl, hother, (modSat_only ..).comp (record_only _ _ _)⟩

theorem actSatFault_row {st : Bool} (hset : satLimit s t 62 ≠ 0) (hcount : satLimit s t 62 ≤ (satOf s t st).count)
    (hnew : (satOf s t st).fault = false) : (satOf (satFault t st s) t st).fault = true ∧
      satOf (satFault t st s) t (!st) = satOf s t (!st) ∧ Only [.evt, .thr, .sch] s (satFault t st s) := by
  obtain ⟨hsame, hother⟩ := satOf_modSat ht st fun c => { c with fault := true }
  have hrow : satFault t st s =
      record .actSatFault (satParams s t st) (keepFault t (modSat t st (fun c => { c with fault := true }) s)) :=
    if_pos ⟨hset, hcount, by rw [hnew]; rfl⟩
  have hkept (st : Bool) (u : State) : satOf (keepFault t u) t st = satOf u t st := rfl
  rw [hrow, satOf_record, satOf_record, hkept, hkept, hsame]
  exact ⟨rfl, hother, ((modSat_only ..).comp (rs := [.thr, .sch]) (Only.setSch _)).comp (record_only _ _ _)⟩

theorem thrusterReturned_row (hlost : (thrOf s t).lost = true) (hready : (thrOf s t).ready = true)
    (hheld : max 1 (msPeriods s (pNat s 0x032C)) ≤ (thrOf s t).held) :
    thrOf (returnThr t s) t = { thrOf s t with lost := false, held := 0 } ∧ Only [.evt, .thr] s (returnThr t s) := by
  have hrow : returnThr t s = record .thrusterReturned (be 1 t) (modThr t (fun x => { x with lost := false, held := 0 }) s) := by
    simp only [returnThr, hlost, hready, hheld, decide_true, Bool.and_self, if_true]
  rw [hrow, thrOf_record, thrOf_modThr, if_pos ⟨rfl, ht⟩]
  exact ⟨rfl, (modThr_only ..).comp (record_only _ _ _)⟩

end

/-! A tile retires (R394). -/

/-- A stop leaves the record of the tiles. -/
theorem takeStop_retired (s : State) : (takeStop s).sch.retired = s.sch.retired := by
  have hcontrol : (stopControl (abandonChain s)).sch.retired = s.sch.retired := by
    have hchain : (abandonChain s).sch.retired = s.sch.retired := by
      unfold abandonChain
      split <;> rfl
    unfold stopControl
    extract_lets old dead entered c1 keep sch s1
    have h1 : s1.sch.retired = s.sch.retired := hchain
    split
    · exact h1
    · rw [(record_only _ _ s1).2 .sch (by decide), h1]
  have hafter : Only [.host, .evt, .thr, .grp, .saf, .out] (stopControl (abandonChain s))
      (abortTest (stopOutput (endStopped (stopControl (abandonChain s))))) :=
    ((endStopped_only _).comp (rs := [.host, .thr, .grp, .out]) (stopOutput_only _)).comp (abortTest_only _)
  have hlast : Only [.host, .evt, .bus, .thr, .grp, .saf, .out] (stopControl (abandonChain s)) (takeStop s) := by
    unfold takeStop
    exact Only.ite (fun _ => hafter.mono (by decide)) fun _ => hafter.comp (sendFrames_only _ _)
  rw [hlast.2 .sch (by decide), hcontrol]

theorem placementStop_retired (s : State) : (placementStop s).sch.retired = s.sch.retired := by
  rw [placementStop, takeStop_retired, (record_only _ _ s).2 .sch (by decide)]

theorem retireTile_retires {n : Nat} {s : State} (h : bitOf s.sch.retired n = false) : bitOf (retireTile false n s).sch.retired n = true := by
  have hbit : bitOf (putBit s.sch.retired n true) n = true := testBit_putBit _ _
  simp only [retireTile, Bool.false_and, h, Bool.or_self, Bool.false_eq_true, if_false]
  split
  · rw [placementStop_retired]
    exact (congrArg (bitOf · n) (congrArg SchState.retired ((record_only _ _ _).2 .sch (by decide))) :).trans hbit
  · exact (congrArg (bitOf · n) (congrArg SchState.retired ((record_only _ _ _).2 .sch (by decide))) :).trans hbit

theorem retireTile_of_retired {n : Nat} {s : State} (h : bitOf s.sch.retired n = true) : retireTile false n s = s := by
  simp only [retireTile, h, Bool.or_true, if_false, Bool.false_eq_true, if_true]

/-- Settles O45. -/
theorem thrusterRows : Obligations.ThrusterRows := by
  intro s
  refine ⟨fun k st hk hset hcount hnew => ⟨_, rfl, actSatWarn_row hk hset hcount hnew⟩, fun k st hold => ?_,
    fun k st hk hset hcount hnew => ⟨_, rfl, actSatFault_row hk hset hcount hnew⟩, fun k st hold => ?_,
    fun k hk hlost hready hheld => ⟨_, rfl, thrusterReturned_row hk hlost hready hheld⟩, fun k hnot => ?_, fun n hrun hin => ?_,
    fun b n hstopped => ?_, fun n hout => ?_⟩
  · show Host.Outcome.next (satWarn k.val st s) = _
    simp only [satWarn, hold, Bool.not_true, Bool.false_eq_true, and_false, if_false]
  · show Host.Outcome.next (satFault k.val st s) = _
    simp only [satFault, hold, Bool.not_true, Bool.false_eq_true, and_false, if_false]
  · show Host.Outcome.next (returnThr k.val s) = _
    obtain hfound | hwaits := hnot
    · simp only [returnThr, hfound, Bool.false_and, Bool.false_eq_true, if_false]
    · simp only [returnThr, hwaits, Bool.false_and, Bool.and_false, Bool.false_eq_true, if_false]
  · refine ⟨retireTile false n.val s, ?_, retireTile_retires hin, retireTile_only ..⟩
    exact congrArg Host.Outcome.next (if_pos hrun)
  · exact congrArg Host.Outcome.next (if_neg (Bool.eq_false_iff.mp hstopped))
  · show Host.Outcome.next (if fwRunning s then retireTile false n.val s else s) = _
    rw [retireTile_of_retired hout, ite_self]

/-! The parison chain (R395, R396). -/

/-- The chain that begins in a state. -/
def chainBegun (s : State) : Chain :=
  ⟨s.sch.cur + 1, predictedRecord s, false, s.ctl, (aheadControl s).c, (aheadControl s).sigs, (aheadControl s).evs⟩

theorem startChain_spec (s : State) : Only [.sch] s (startChain s) ∧ (startChain s).sch.chainDue = false ∧
    (startChain s).sch.chain = some (chainBegun s) :=
  ⟨(Only.setSch _).trans (bumpCount_only _ _ _), rfl, rfl⟩

/-- Where the data of a job lies is no matter of the record predicted. -/
theorem predictedRecord_setHome (job : Nat) (ds : List Nat) (s : State) : predictedRecord (setHome job ds s) = predictedRecord s := by
  cases ds <;> rfl

theorem chain_of_not_due {s : State} (h : s.sch.chainDue = false ∨ s.sch.stage ≠ 7 ∨ bowRaised s = true) :
    exec .parisonChain s = .next s := by
  refine congrArg Host.Outcome.next (if_neg fun hall => ?_)
  simp only [Bool.and_eq_true, beq_iff_eq, Bool.not_eq_true'] at hall
  obtain ⟨⟨⟨⟨-, hdue⟩, hstage⟩, -⟩, hbow⟩ := hall
  obtain h | h | h := h
  · rw [h] at hdue
    cases hdue
  · exact h hstage
  · rw [h] at hbow
    cases hbow

theorem chain_of_due {s : State} (hawake : awake s = true) (hdue : s.sch.chainDue = true) (hstage : s.sch.stage = 7)
    (hnone : s.sch.chain = none) (hbow : bowRaised s = false) : exec .parisonChain s = .next (onWork 3 3 [] startChain s) := by
  refine congrArg Host.Outcome.next (if_pos ?_)
  rw [hawake, hdue, hstage, hnone, hbow]
  rfl

/-- Once its tile is up the chain begins on it. -/
theorem chain_begins {s : State} (h : domainsUp (workTile 3 s) (accessDomains 3 (workTile 3 s) s) = true) :
    let t := onWork 3 3 [] startChain s
    Only [.time, .evt, .pwr, .sch] s t ∧ Only [.sch] (accessDomains 3 (workTile 3 s) s) t ∧ t.sch.chainDue = false ∧
      ∃ ch : Chain, t.sch.chain = some ch ∧ ch.period = s.sch.cur + 1 ∧ ch.done = false ∧
        ch.pred = predictedRecord (accessDomains 3 (workTile 3 s) s) := by
  obtain ⟨hstart, hcur, -⟩ := jobStart_spec 3 3 [] s
  have hrun : onWork 3 3 [] startChain s = startChain (jobStart 3 3 [] s) := onWork_up startChain (by rwa [List.append_nil])
  have hjob : jobStart 3 3 [] s = setHome 3 (workTile 3 s) (accessDomains 3 (workTile 3 s) s) := by rw [jobStart, List.append_nil]
  obtain ⟨honly, hdue, hchain⟩ := startChain_spec (jobStart 3 3 [] s)
  have hhome := (setHome_spec 3 (workTile 3 s) (accessDomains 3 (workTile 3 s) s)).1
  rw [hrun]
  refine ⟨hstart.comp honly, (hjob ▸ hhome).trans honly, hdue, chainBegun (jobStart 3 3 [] s), hchain, congrArg (· + 1) hcur, rfl, ?_⟩
  rw [chainBegun, hjob, predictedRecord_setHome]

theorem chain_completes (s : State) : ∃ t : State, exec .parisonChainComplete s = .next t ∧ Only [.pwr, .sch] s t ∧
    t.sch.chain = s.sch.chain.map fun ch => { ch with done := true } := by
  have hdone : Only [.sch] s { s with sch := { s.sch with chain := s.sch.chain.map fun ch => { ch with done := true } } } := Only.setSch _
  refine ⟨_, rfl, ?_, ?_⟩
  · exact Only.ite (fun _ => hdone.comp (stopDomains_only _ _)) fun _ => hdone.mono (by decide)
  · split
    · exact (congrArg SchState.chain ((stopDomains_only _ _).2 .sch (by decide)) :)
    · rfl

/-! A datagram of a log (R409). -/

/-- What a log's datagram changes: neither the island nor the queue of commands. -/
theorem blockPart_only (d : List Byte) (s : State) : Only [.time, .grid, .cfg, .host, .evt, .pwr, .sig, .gnss, .acq, .bus, .fus, .obs, .slv,
    .ctl, .thr, .sch, .grp, .saf, .out, .fresh] s (blockPart d s) := by
  refine ⟨pending_blockPart d s, fun p hp => ?_⟩
  obtain rfl : p = .mtr := by
    revert hp
    cases p <;> decide
  exact mtr_blockPart d s

theorem blockPart_of_other {d : List Byte} (h : fieldU d 0 4 ≠ 0x564B4C47) (s : State) : blockPart d s = s := if_pos (.inr (.inl h))

/-- Settles O41. -/
theorem chainRows : Obligations.ChainRows := by
  intro s
  refine ⟨fun hawake hdue hstage hnone hbow => ⟨fun hup => ⟨_, chain_of_due hawake hdue hstage hnone hbow, chain_begins hup⟩, fun hwaits => ?_⟩,
    chain_of_not_due, ?_, fun b d hlive => ?_, fun b d hother => ?_, fun b d hawake hreplays => ?_⟩
  · rw [chain_of_due hawake hdue hstage hnone hbow, onWork_waits startChain (by rwa [List.append_nil]), List.append_nil]
  · obtain ⟨t, hexec, honly, hchain⟩ := chain_completes s
    refine ⟨t, hexec, honly, fun ch hch => ?_, fun hnone => ?_⟩
    · rw [hchain, hch]
      rfl
    · rw [hchain, hnone]
      rfl
  · show Host.Outcome.next (if awake s && replays s then blockPart d s else s) = _
    rw [hlive, Bool.and_false]
    rfl
  · show Host.Outcome.next (if awake s && replays s then blockPart d s else s) = _
    rw [blockPart_of_other hother, ite_self]
  · refine ⟨blockPart d s, ?_, blockPart_only d s⟩
    exact congrArg Host.Outcome.next (if_pos (by rw [hawake, hreplays]; rfl))

end Sys2Proof.Machine
end

section
/-! SUPPORT. What a trip leaves of the safety monitor (R461 to R463). -/

namespace Sys2Proof.Machine

set_option Elab.async false

/-! Bits of a word that is added to. -/

theorem testBit_add_two_pow {x i : Nat} (h : x.testBit i = false) {j : Nat} (hj : j ≠ i) : (x + 2 ^ i).testBit j = x.testBit j := by
  obtain hlt | hgt := Nat.lt_or_gt_of_ne hj
  · rw [Nat.add_comm, Nat.testBit_two_pow_add_gt hlt]
  · have heven : x / 2 ^ i % 2 = 0 := by
      rw [Nat.testBit_eq_decide_div_mod_eq, decide_eq_false_iff_not] at h
      omega
    have hhigh (y : Nat) : y.testBit j = (y / 2 ^ i / 2).testBit (j - i - 1) := by
      rw [Nat.div_div_eq_div_mul, ← Nat.pow_succ, Nat.testBit_div_two_pow]
      congr 1
      omega
    rw [hhigh, hhigh x, Nat.add_div_right _ (Nat.two_pow_pos i)]
    congr 1
    omega

/-! Events of the monitor (R468). -/

theorem safEvent_saf (e : Ev) (ps : List Byte) (s : State) : ∃ q n, (safEvent e ps s).saf = { s.saf with queue := q, lost := n } := by
  unfold safEvent
  split
  · exact ⟨s.saf.queue, s.saf.lost, record_saf ..⟩
  · split
    · exact ⟨_, s.saf.lost, rfl⟩
    · exact ⟨s.saf.queue, _, rfl⟩

/-! A trip. -/

/-- The part of the monitor that no trip changes: what it has been told and has measured. -/
def observed (x : SafState) : SafState :=
  { x with latched := 0, brakes := [], trips := 0, lastTrip := none, test := none, queue := [], lost := 0 }

/-- What a trip leaves of the monitor: what is observed stays, and no latched source is cleared. -/
structure TripKeeps (s t : State) : Prop where
  seen : observed t.saf = observed s.saf
  latched : ∀ i, bitOf s.saf.latched i = true → bitOf t.saf.latched i = true
  channels : t.saf.brakes.length = s.saf.brakes.length

theorem TripKeeps.refl (s : State) : TripKeeps s s := ⟨rfl, fun _ h => h, rfl⟩

theorem TripKeeps.trans {s t u : State} (h : TripKeeps s t) (k : TripKeeps t u) : TripKeeps s u :=
  ⟨k.seen.trans h.seen, fun i hi => k.latched i (h.latched i hi), k.channels.trans h.channels⟩

theorem TripKeeps.of_saf {s t : State} (h : t.saf = s.saf) : TripKeeps s t := ⟨by rw [h], fun i hi => by rwa [h], by rw [h]⟩

section
variable {s t : State} (h : TripKeeps s t)
include h

theorem TripKeeps.phase : t.saf.phase = s.saf.phase := (congrArg SafState.phase h.seen :)

theorem TripKeeps.inputs : t.saf.inputs = s.saf.inputs := (congrArg SafState.inputs h.seen :)

theorem TripKeeps.disc : t.saf.disc = s.saf.disc := (congrArg SafState.disc h.seen :)

theorem TripKeeps.detail : t.saf.detail = s.saf.detail := (congrArg SafState.detail h.seen :)

theorem TripKeeps.hbAbsent : t.saf.hbAbsent = s.saf.hbAbsent := (congrArg SafState.hbAbsent h.seen :)

theorem TripKeeps.clock : t.saf.clockCount = s.saf.clockCount ∧ t.saf.clockAt = s.saf.clockAt :=
  ⟨(congrArg SafState.clockCount h.seen :), (congrArg SafState.clockAt h.seen :)⟩

end

theorem safEvent_keeps (e : Ev) (ps : List Byte) (s : State) : TripKeeps s (safEvent e ps s) := by
  obtain ⟨q, n, hsaf⟩ := safEvent_saf e ps s
  refine ⟨?_, fun i hi => ?_, ?_⟩
  · rw [hsaf]
    rfl
  · rwa [safEvent_latched]
  · rw [hsaf]

theorem closeTest_keeps (b : BTest) (s : State) : TripKeeps s (closeTest b s) := by
  unfold closeTest
  extract_lets vs good _ s1
  exact TripKeeps.trans (t := s1) ⟨rfl, fun _ h => h, List.length_mapIdx⟩ (safEvent_keeps _ _ s1)

theorem abortTest_keeps (s : State) : TripKeeps s (abortTest s) := by
  unfold abortTest
  split
  · exact .refl s
  · exact (closeTest_keeps _ s).trans (.of_saf (finishTest_saf _ s))

theorem takeStop_keeps (s : State) : TripKeeps s (takeStop s) := by
  have hbefore : Only [.host, .evt, .ctl, .thr, .sch, .grp, .out] s (stopOutput (endStopped (stopControl (abandonChain s)))) :=
    (((abandonChain_only s).comp (rs := [.evt, .ctl, .sch]) (stopControl_only _)).comp (rs := [.host, .evt, .ctl, .sch, .out])
      (endStopped_only _)).comp (stopOutput_only _)
  have hended := (TripKeeps.of_saf (hbefore.2 .saf (by decide))).trans (abortTest_keeps _)
  unfold takeStop
  extract_lets s1
  split
  · exact hended
  · exact hended.trans (.of_saf ((sendFrames_only false s1).2 .saf (by decide)))

theorem latchTrip_keeps (src : Nat) (ramp : Bool) (mask : Nat) (s : State) : TripKeeps s (latchTrip src ramp mask s) := by
  unfold latchTrip
  split
  · exact .refl s
  · next hnew =>
    extract_lets _ s1 f _ s2
    have hbit : bitOf s.saf.latched src = false := Bool.eq_false_iff.mpr fun hold => hnew (.inr hold)
    have hlatch : TripKeeps s { s with saf := { s.saf with latched := s.saf.latched + 2 ^ src } } := by
      refine ⟨rfl, fun i hi => ?_, rfl⟩
      have hother : i ≠ src := fun hi' => absurd (hi' ▸ hi) (Bool.eq_false_iff.mp hbit)
      exact (testBit_add_two_pow hbit hother).trans hi
    have hchannels : TripKeeps s1 s2 := ⟨rfl, fun _ h => h, List.length_mapIdx⟩
    exact ((hlatch.trans (safEvent_keeps _ _ _)).trans hchannels).trans (takeStop_keeps s2)

/-- After a trip its source is latched, newly or as it was before. -/
theorem latchTrip_latched {src : Nat} {ramp : Bool} {mask : Nat} {s : State} (hphase : s.saf.phase = 2) :
    bitOf (latchTrip src ramp mask s).saf.latched src = true := by
  cases hbit : bitOf s.saf.latched src with
  | true => exact (latchTrip_keeps src ramp mask s).latched src hbit
  | false => exact (latchTrip_latches hphase hbit).2.2

/-! INTERNAL (R466 to R468). -/

theorem internalFault_only (bit : Nat) (s : State) : Only [.host, .evt, .bus, .ctl, .thr, .sch, .grp, .saf, .out] s (internalFault bit s) :=
  Only.ite (fun _ => Only.refl) fun _ => ((Only.setSaf _).comp (latchTrip_only _ _ _ _))

theorem internalFault_of_starting {bit : Nat} {s : State} (h : s.saf.phase ≠ 2) : internalFault bit s = s := if_pos h

/-- INTERNAL and its bit of FAULT_DETAIL; what the monitor has counted stays. -/
theorem internalFault_latches (bit : Nat) {s : State} (h : s.saf.phase = 2) : bitOf (internalFault bit s).saf.latched 14 = true ∧
    bitOf (internalFault bit s).saf.detail bit = true ∧ (internalFault bit s).saf.clockCount = s.saf.clockCount ∧
    (internalFault bit s).saf.clockAt = s.saf.clockAt := by
  have hkeeps := latchTrip_keeps 14 false 0xFF { s with saf := { s.saf with detail := putBit s.saf.detail bit true } }
  have hlatched : bitOf (latchTrip 14 false 0xFF { s with saf := { s.saf with detail := putBit s.saf.detail bit true } }).saf.latched 14 = true :=
    latchTrip_latched h
  have hrow : internalFault bit s = latchTrip 14 false 0xFF { s with saf := { s.saf with detail := putBit s.saf.detail bit true } } :=
    if_neg (not_not_intro h)
  rw [hrow]
  refine ⟨hlatched, ?_, hkeeps.clock⟩
  rw [hkeeps.detail]
  exact testBit_putBit _ _

/-! Sources with a filtered input (R460, R461). -/

theorem judgeSource_keeps (s : State) (src : Nat) : TripKeeps s (judgeSource s src) := by
  unfold judgeSource
  extract_lets a
  split
  · exact .refl s
  · split
    · exact latchTrip_keeps _ _ _ s
    · split
      · exact .refl s
      · exact latchTrip_keeps _ _ _ s

theorem judgeSource_only (s : State) (src : Nat) : Only [.host, .evt, .bus, .ctl, .thr, .sch, .grp, .saf, .out] s (judgeSource s src) := by
  unfold judgeSource
  extract_lets a
  exact Only.ite (fun _ => Only.refl) fun _ => Only.ite (fun _ => latchTrip_only _ _ _ s) fun _ =>
    Only.ite (fun _ => Only.refl) fun _ => latchTrip_only _ _ _ s

theorem foldl_judgeSource_keeps (l : List Nat) (s : State) : TripKeeps s (l.foldl judgeSource s) := by
  induction l generalizing s with
  | nil => exact .refl s
  | cons src l ih => exact (judgeSource_keeps s src).trans (ih _)

theorem judgeSources_keeps (s : State) : TripKeeps s (judgeSources s) := foldl_judgeSource_keeps _ s

theorem judgeSources_only (s : State) : Only [.host, .evt, .bus, .ctl, .thr, .sch, .grp, .saf, .out] s (judgeSources s) :=
  Only.refl.foldl _ judgeSource_only _

/-- ESTOP is asked for: an input of its pair at demand, or the pair discrepant. -/
def estopAsked (x : SafState) : Prop :=
  (at_ safInReset x.inputs 8).high = false ∨ (at_ safInReset x.inputs 9).high = false ∨ (at_ (false, false) x.disc 4).1 = true

theorem persists_estop {s : State} (h : estopAsked s.saf) : persists s 8 = true := by
  have hpersists : persists s 8 = (!(safIn s 8).high || !(safIn s 9).high || (discOf s 4).1 || (safIn s 8).fail || (safIn s 9).fail) := rfl
  rw [hpersists]
  obtain h | h | h := h
  · rw [show (safIn s 8).high = false from h]
    rfl
  · rw [show (safIn s 9).high = false from h, Bool.not_false, Bool.or_true]
    rfl
  · rw [show (discOf s 4).1 = true from h, Bool.or_true]
    rfl

/-- ESTOP is judged last, on the inputs that the other sources were judged on. -/
theorem judgeSources_estop {s : State} (hphase : s.saf.phase = 2) (h : estopAsked s.saf) : bitOf (judgeSources s).saf.latched 8 = true := by
  have hlast : judgeSources s = judgeSource ((List.range 8).foldl judgeSource s) 8 := by
    rw [judgeSources, List.range_succ, List.foldl_append, List.foldl_cons, List.foldl_nil]
  have hkeeps := foldl_judgeSource_keeps (List.range 8) s
  rw [hlast]
  generalize (List.range 8).foldl judgeSource s = u at hkeeps ⊢
  have hasked : estopAsked u.saf := by
    rw [estopAsked, hkeeps.inputs, hkeeps.disc]
    exact h
  rw [judgeSource, persists_estop hasked]
  exact latchTrip_latched (hkeeps.phase.trans hphase)

/-! A channel in CH_FAULT (R455, R456). -/

theorem modBrake_only (c : Nat) (f : Brake → Brake) (s : State) : Only [.saf] s (modBrake c f s) := Only.setSaf _

theorem brakeOf_modBrake (c k : Nat) (f : Brake → Brake) (s : State) :
    brakeOf (modBrake c f s) k = if c = k ∧ k < s.saf.brakes.length then f (brakeOf s k) else brakeOf s k := at_modAt ..

theorem channelFault_only (c : Nat) (s : State) : Only [.host, .evt, .bus, .ctl, .thr, .sch, .grp, .saf, .out] s (channelFault c s) :=
  ((modBrake_only _ _ s).comp (rs := [.host, .evt, .bus, .ctl, .thr, .sch, .grp, .saf, .out]) (latchTrip_only _ _ _ _)).comp (modBrake_only _ _ _)

theorem channelFault_latches {c : Nat} {s : State} (hphase : s.saf.phase = 2) (hc : c < s.saf.brakes.length) :
    (brakeOf (channelFault c s) c).released = false ∧ (brakeOf (channelFault c s) c).fault = true ∧
      bitOf (channelFault c s).saf.latched 13 = true := by
  have hlatched : bitOf (latchTrip 13 false (2 ^ c) (modBrake c applied s)).saf.latched 13 = true := latchTrip_latched hphase
  have hchannels : c < (latchTrip 13 false (2 ^ c) (modBrake c applied s)).saf.brakes.length := by
    rw [(latchTrip_keeps ..).channels]
    exact (length_modAt s.saf.brakes c applied).symm ▸ hc
  rw [channelFault, brakeOf_modBrake, if_pos ⟨rfl, hchannels⟩]
  exact ⟨rfl, rfl, hlatched⟩

/-- A channel that is there is one of the list. -/
theorem lt_length_of_released {c : Nat} {s : State} (h : (brakeOf s c).released = true) : c < s.saf.brakes.length := by
  by_contra hout
  rw [brakeOf, at_, List.getD_eq_default _ _ (Nat.le_of_not_lt hout)] at h
  cases h

end Sys2Proof.Machine
end

section
/-! The rows of the safety monitor (R453 to R478). -/

namespace Sys2Proof.Machine

set_option Elab.async false

/-! Before the start-up tests end. -/

theorem monitor_of_starting {s : State} (h : s.saf.phase ≠ 2) :
    (∀ i b, exec (.safeInputFiltered i b) s = .next s) ∧ (∀ o b a, exec (.testPulse o b a) s = .next s) ∧ (∀ p, exec (.discrepancy p) s = .next s) ∧
      (∀ c, exec (.readbackDeviation c) s = .next s) ∧ (∀ c b, exec (.switchTest c b) s = .next s) ∧ (∀ n, exec (.clockWindow n) s = .next s) ∧
      exec .clockWindowTimeout s = .next s ∧ exec .heartbeatAbsent s = .next s ∧ (∀ k b, exec (.monitorDiagnostic k b) s = .next s) ∧
      exec (.vddSafeWarning false) s = .next (railBelow 7 1680 s) := by
  refine ⟨fun i b => if_pos h, fun o b a => if_pos h, fun p => ?_, fun c => congrArg Host.Outcome.next (if_neg fun hon => h hon.1),
    fun c b => congrArg Host.Outcome.next (if_neg fun hon => h hon.1), fun n => if_pos h, congrArg Host.Outcome.next (if_pos h), ?_,
    fun k b => ?_, congrArg Host.Outcome.next (internalFault_of_starting h)⟩
  · show execDiscrepancy p s = _
    simp only [execDiscrepancy, ne_eq, h, not_false_iff, decide_true, Bool.true_or, if_true]
  · show execHeartbeatAbsent s = _
    unfold execHeartbeatAbsent
    split
    · simp only [ne_eq, h, not_false_iff, decide_true, Bool.true_or, if_true]
    · rfl
  · show Host.Outcome.next (if b then s else internalFault (k.val + 2) s) = _
    rw [internalFault_of_starting h, ite_self]

/-! Inputs (R457 to R460). -/

section
variable {s : State} (hphase : s.saf.phase = 2)
include hphase

theorem safeInputFiltered_row (i : Fin 10) (b : Bool) : ∃ t : State, exec (.safeInputFiltered i b) s = .next t ∧
    t.saf.inputs = modAt s.saf.inputs i.val (fun x => { x with high := b }) ∧
    (s.saf.inputs.length = 10 → 8 ≤ i.val → b = false → bitOf t.saf.latched 8 = true) ∧
    Only [.host, .evt, .bus, .ctl, .thr, .sch, .grp, .saf, .out] s t := by
  let u := settlePair (i.val / 2) (modIn i.val (fun x => { x with high := b }) s)
  have hu : Only [.saf] s u := (Only.setSaf _).trans (Only.setSaf _)
  refine ⟨judgeSources u, if_neg (not_not_intro hphase), (judgeSources_keeps u).inputs, fun hlength hestop hlow => ?_, hu.comp (judgeSources_only u)⟩
  refine judgeSources_estop hphase ?_
  have hchanged : (at_ safInReset u.saf.inputs i.val).high = b := by
    have hinput : at_ safInReset u.saf.inputs i.val = _ := at_modAt safInReset s.saf.inputs i.val i.val fun x => { x with high := b }
    rw [hinput, if_pos ⟨rfl, by omega⟩]
  obtain height | hnine : i.val = 8 ∨ i.val = 9 := by omega
  · rw [height, hlow] at hchanged
    exact .inl hchanged
  · rw [hnine, hlow] at hchanged
    exact .inr (.inl hchanged)

theorem testPulse_row (o : Fin 2) (before after : List Bool) : ∃ t : State, exec (.testPulse o before after) s = .next t ∧
    Only [.host, .evt, .bus, .ctl, .thr, .sch, .grp, .saf, .out] s t ∧ ∀ (k : Nat) (x : SafIn), s.saf.inputs[k]? = some x →
      t.saf.inputs[k]? = some (if inUsed s k = true ∧ tested s k = o.val + 1 then pulsed (at_ false before k) (at_ false after k) x else x) := by
  refine ⟨_, if_neg (not_not_intro hphase), (Only.setSaf _).comp (judgeSources_only _), fun k x hx => ?_⟩
  rw [(judgeSources_keeps _).inputs, List.getElem?_mapIdx, hx, Option.map_some]
  simp only [Bool.and_eq_true, beq_iff_eq]

theorem discrepancy_row (p : Fin 5) (hlength : s.saf.disc.length = 5) (hpair : isPair s p.val = true)
    (hdiffer : (pairDemand s p.val).1 ≠ (pairDemand s p.val).2) (hnew : (discOf s p.val).1 = false) :
    ∃ t : State, exec (.discrepancy p) s = .next t ∧ discOf t p.val = (true, false) ∧ (p.val = 4 → bitOf t.saf.latched 8 = true) ∧
      Only [.host, .evt, .bus, .ctl, .thr, .sch, .grp, .saf, .out] s t := by
  have hexec : exec (.discrepancy p) s = .next (judgeSources (modDisc p.val (fun _ => (true, false)) s)) := by
    show execDiscrepancy p s = _
    simp only [execDiscrepancy, hphase, hpair, beq_false_of_ne hdiffer, hnew, ne_eq, not_true_eq_false, decide_false, Bool.not_true, Bool.or_self,
      Bool.false_eq_true, if_false]
  have hnow : discOf (modDisc p.val (fun _ => (true, false)) s) p.val = (true, false) := by
    have hdisc : discOf (modDisc p.val (fun _ => (true, false)) s) p.val = _ := at_modAt (false, false) s.saf.disc p.val p.val fun _ => (true, false)
    rw [hdisc, if_pos ⟨rfl, by omega⟩]
  refine ⟨_, hexec, ?_, fun hestop => ?_, (Only.setSaf _).comp (judgeSources_only _)⟩
  · rw [discOf, (judgeSources_keeps _).disc]
    exact hnow
  · refine judgeSources_estop hphase (.inr (.inr ?_))
    rw [hestop] at hnow ⊢
    exact congrArg Prod.fst hnow

/-! Diagnostics (R466 to R468). -/

theorem clockWindow_row (n : Nat) : ∃ t : State, exec (.clockWindow n) s = .next t ∧ t.saf.clockCount = n ∧ t.saf.clockAt = s.time.elapsed ∧
    (71875 ≤ n ∧ n ≤ 84375 → Only [.saf] s t ∧ t.saf.latched = s.saf.latched) ∧
    (n < 71875 ∨ 84375 < n → bitOf t.saf.latched 14 = true ∧ bitOf t.saf.detail 0 = true) ∧
    Only [.host, .evt, .bus, .ctl, .thr, .sch, .grp, .saf, .out] s t := by
  let u : State := { s with saf := { s.saf with clockCount := n, clockAt := s.time.elapsed } }
  have hexec : exec (.clockWindow n) s = .next (if n < 71875 ∨ 84375 < n then internalFault 0 u else u) := if_neg (not_not_intro hphase)
  have hu : Only [.saf] s u := Only.setSaf _
  rw [hexec]
  by_cases hout : n < 71875 ∨ 84375 < n
  · obtain ⟨hlatched, hdetail, hcount, hat⟩ := internalFault_latches 0 (s := u) hphase
    rw [if_pos hout]
    exact ⟨_, rfl, hcount, hat, fun hin => by omega, fun _ => ⟨hlatched, hdetail⟩, hu.comp (internalFault_only 0 u)⟩
  · rw [if_neg hout]
    exact ⟨u, rfl, rfl, rfl, fun _ => ⟨hu, rfl⟩, fun h => absurd h hout, hu.mono (by decide)⟩

theorem clockWindowTimeout_row : ∃ t : State, exec .clockWindowTimeout s = .next t ∧ bitOf t.saf.latched 14 = true ∧ bitOf t.saf.detail 0 = true ∧
    s.saf.clockAt + cd12Least 4000000 ≤ t.time.elapsed ∧ Only [.time, .host, .evt, .bus, .ctl, .thr, .sch, .grp, .saf, .out] s t := by
  have hexec : exec .clockWindowTimeout s = .next (internalFault 0 (elapseTo (s.saf.clockAt + cd12Least 4000000) s)) :=
    congrArg Host.Outcome.next (if_neg (not_not_intro hphase))
  have hwait := elapseTo_only (s.saf.clockAt + cd12Least 4000000) s
  have hleast := le_elapsed_elapseTo (s.saf.clockAt + cd12Least 4000000) s
  rw [hexec]
  generalize elapseTo (s.saf.clockAt + cd12Least 4000000) s = u at hwait hleast ⊢
  have hsaf : u.saf = s.saf := hwait.2 .saf (by decide)
  have hfault := internalFault_only 0 u
  obtain ⟨hlatched, hdetail, -, -⟩ := internalFault_latches 0 (s := u) (by rw [hsaf, hphase])
  exact ⟨_, rfl, hlatched, hdetail, by rwa [show (internalFault 0 u).time = u.time from hfault.2 .time (by decide)], hwait.comp hfault⟩

theorem monitorDiagnostic_row (k : Fin 3) : ∃ t : State, exec (.monitorDiagnostic k false) s = .next t ∧ bitOf t.saf.latched 14 = true ∧
    bitOf t.saf.detail (k.val + 2) = true ∧ Only [.host, .evt, .bus, .ctl, .thr, .sch, .grp, .saf, .out] s t := by
  obtain ⟨hlatched, hdetail, -, -⟩ := internalFault_latches (k.val + 2) hphase
  exact ⟨_, rfl, hlatched, hdetail, internalFault_only _ s⟩

theorem vddSafeWarning_row : ∃ t : State, exec (.vddSafeWarning false) s = .next t ∧ bitOf t.saf.latched 14 = true ∧ bitOf t.saf.detail 1 = true ∧
    t.pwr.bowRails = s.pwr.bowRails ||| 0x080#11 ∧ Only [.host, .evt, .pwr, .bus, .ctl, .thr, .sch, .grp, .saf, .out] s t := by
  have hlow : Only [.pwr] s (railBelow 7 (railLevels 7).1 s) := Only.setPwr _
  have hfault := internalFault_only 1 (railBelow 7 (railLevels 7).1 s)
  obtain ⟨hlatched, hdetail, -, -⟩ := internalFault_latches 1 (s := railBelow 7 (railLevels 7).1 s) hphase
  exact ⟨_, rfl, hlatched, hdetail, (congrArg PwrState.bowRails (hfault.2 .pwr (by decide)) :), hlow.comp hfault⟩

/-! The heartbeat (R467). -/

theorem heartbeatAbsent_row {n t0 : Nat} (hhb : s.saf.hb = some (n, t0)) (hset : (safSet s).isSome = true) (hnew : s.saf.hbAbsent = none) :
    ∃ t : State, exec .heartbeatAbsent s = .next t ∧ t.saf.hbAbsent = some t.time.elapsed ∧ bitOf t.saf.latched 10 = true ∧
      t0 + cd12Least (ms (setU16 s 14)) ≤ t.time.elapsed ∧ Only [.time, .host, .evt, .bus, .ctl, .thr, .sch, .grp, .saf, .out] s t := by
  have hnone : (safSet s).isNone = false := by rw [← Option.not_isSome, hset, Bool.not_true]
  have hwait := elapseTo_only (t0 + cd12Least (ms (setU16 s 14))) s
  have hleast := le_elapsed_elapseTo (t0 + cd12Least (ms (setU16 s 14))) s
  obtain ⟨u, hu⟩ : ∃ u, elapseTo (t0 + cd12Least (ms (setU16 s 14))) s = u := ⟨_, rfl⟩
  rw [hu] at hwait hleast
  let v : State := { u with saf := { u.saf with hbAbsent := some u.time.elapsed } }
  have hexec : exec .heartbeatAbsent s = .next (latchTrip 10 (setU8 u 9 == 1) 0xFF v) := by
    show execHeartbeatAbsent s = _
    simp only [execHeartbeatAbsent, hhb, hphase, hnone, hnew, hu, ne_eq, not_true_eq_false, decide_false, Option.isSome_none, Bool.or_self,
      Bool.false_eq_true, if_false]
    rfl
  have hmarked : Only [.saf] u v := Only.setSaf _
  have htrip := latchTrip_only 10 (setU8 u 9 == 1) 0xFF v
  have hkeeps := latchTrip_keeps 10 (setU8 u 9 == 1) 0xFF v
  have htime : (latchTrip 10 (setU8 u 9 == 1) 0xFF v).time = u.time := htrip.2 .time (by decide)
  have hready : v.saf.phase = 2 := by rw [show v.saf.phase = u.saf.phase from rfl, show u.saf = s.saf from hwait.2 .saf (by decide), hphase]
  refine ⟨_, hexec, ?_, latchTrip_latched hready, by rwa [htime], (hwait.comp (rs := [.time, .evt, .saf]) hmarked).comp htrip⟩
  rw [hkeeps.hbAbsent, htime]

theorem readbackDeviation_row (c : Fin 8) (hon : brakeOn s c.val = true) (hlength : s.saf.brakes.length = 8) :
    ∃ t : State, exec (.readbackDeviation c) s = .next t ∧ (brakeOf t c.val).released = false ∧ (brakeOf t c.val).fault = true ∧
      bitOf t.saf.latched 13 = true ∧ Only [.host, .evt, .bus, .ctl, .thr, .sch, .grp, .saf, .out] s t := by
  obtain ⟨hreleased, hfault, hlatched⟩ := channelFault_latches (c := c.val) hphase (by omega)
  exact ⟨_, congrArg Host.Outcome.next (if_pos ⟨hphase, hon⟩), hreleased, hfault, hlatched, channelFault_only _ s⟩

theorem switchTest_row (c : Fin 8) (hreleased : (brakeOf s c.val).released = true) :
    ∃ t : State, exec (.switchTest c false) s = .next t ∧ (brakeOf t c.val).released = false ∧ (brakeOf t c.val).fault = true ∧
      bitOf t.saf.latched 13 = true ∧ Only [.host, .evt, .bus, .ctl, .thr, .sch, .grp, .saf, .out] s t := by
  obtain ⟨happlied, hfault, hlatched⟩ := channelFault_latches hphase (lt_length_of_released hreleased)
  exact ⟨_, congrArg Host.Outcome.next (if_pos ⟨hphase, hreleased, rfl⟩), happlied, hfault, hlatched, channelFault_only _ s⟩

end

theorem discrepancy_idle {s : State} (p : Fin 5)
    (h : isPair s p.val = false ∨ (pairDemand s p.val).1 = (pairDemand s p.val).2 ∨ (discOf s p.val).1 = true) :
    exec (.discrepancy p) s = .next s := by
  show execDiscrepancy p s = _
  unfold execDiscrepancy
  extract_lets q d
  refine if_pos ?_
  obtain h | h | h := h
  · rw [show isPair s q = false from h, Bool.not_false, Bool.or_true]
    rfl
  · rw [show (d.1 == d.2) = true from beq_iff_eq.mpr h, Bool.or_true]
    rfl
  · rw [show (discOf s q).1 = true from h, Bool.or_true]

theorem heartbeatAbsent_idle {s : State} (h : s.saf.hb = none ∨ safSet s = none ∨ s.saf.hbAbsent.isSome = true) :
    exec .heartbeatAbsent s = .next s := by
  show execHeartbeatAbsent s = _
  unfold execHeartbeatAbsent
  split
  · next hhb =>
    refine if_pos ?_
    obtain h | h | h := h
    · cases h.symm.trans hhb
    · rw [h, Option.isNone_none, Bool.or_true, Bool.true_or]
    · rw [h, Bool.or_true]
  · rfl

/-! Channels (R454, R462). -/

section
variable {s : State} (c : Fin 8) {t0 : Nat}

/-- A channel applied once its time has passed. -/
theorem applied_row {i : Instr} {n : Nat} (hexec : exec i s = .next (modBrake c.val applied (elapseTo n s))) :
    ∃ t : State, exec i s = .next t ∧ t.saf = { s.saf with brakes := modAt s.saf.brakes c.val applied } ∧ n ≤ t.time.elapsed ∧
      Only [.time, .evt, .saf] s t := by
  have hwait := elapseTo_only n s
  have hsaf : (elapseTo n s).saf = s.saf := hwait.2 .saf (by decide)
  exact ⟨_, hexec, congrArg (fun x : SafState => { x with brakes := modAt x.brakes c.val applied }) hsaf, le_elapsed_elapseTo n s,
    hwait.comp (modBrake_only ..)⟩

theorem rampEnd_runs (h : (brakeOf s c.val).ramp = some t0) :
    exec (.rampEnd c) s = .next (modBrake c.val applied (elapseTo (t0 + cd12Least (ms (rampMs s c.val))) s)) := by
  show execRampEnd c s = _
  simp only [execRampEnd, h]

theorem rampEnd_idle (h : (brakeOf s c.val).ramp = none) : exec (.rampEnd c) s = .next s := by
  show execRampEnd c s = _
  simp only [execRampEnd, h]

theorem releaseFall_runs (hfall : (brakeOf s c.val).fallAt = some t0) (hrequest : (brakeOf s c.val).request = false)
    (hramp : (brakeOf s c.val).ramp = none) : exec (.releaseRequestFallExpiry c) s =
      .next (modBrake c.val applied (elapseTo (t0 + cd12Least (ms (rampMs s c.val))) s)) := by
  show execReleaseRequestFallExpiry c s = _
  simp only [execReleaseRequestFallExpiry, hfall, hrequest, hramp, Option.isSome_none, Bool.or_self, Bool.false_eq_true, if_false]

theorem releaseFall_idle (h : (brakeOf s c.val).fallAt = none ∨ (brakeOf s c.val).request = true ∨ (brakeOf s c.val).ramp.isSome = true) :
    exec (.releaseRequestFallExpiry c) s = .next s := by
  show execReleaseRequestFallExpiry c s = _
  unfold execReleaseRequestFallExpiry
  extract_lets b
  split
  · next hfall =>
    refine if_pos ?_
    obtain h | h | h := h
    · cases h.symm.trans hfall
    · rw [show b.request = true from h, Bool.true_or]
    · rw [show b.ramp.isSome = true from h, Bool.or_true]
  · rfl

/-! The brake test that is due (R475). -/

theorem brakeTestDue_row (hlimit : setU16 s 18 ≠ 0) (hon : brakeOn s c.val = true) (hnew : (brakeOf s c.val).due = false)
    (hold : ∀ h, testAge s c.val = some h → setU16 s 18 < h) : ∃ t : State, exec (.brakeTestDue c) s = .next t ∧
      t.saf.brakes = modAt s.saf.brakes c.val (fun b => { b with due := true }) ∧ t.saf.latched = s.saf.latched ∧ Only [.evt, .saf] s t := by
  let u := modBrake c.val (fun b => { b with due := true }) s
  have hexec : exec (.brakeTestDue c) s = .next (safEvent .brakeTestDue (be 1 c.val) u) := by
    show execBrakeTestDue c s = _
    unfold execBrakeTestDue
    extract_lets k limit old
    have hpast : old = true := by
      unfold old
      split
      · next h hage => exact decide_eq_true (hold h hage)
      · rfl
    refine if_neg ?_
    rw [hpast, show decide (limit = 0) = false from decide_eq_false hlimit, show brakeOn s k = true from hon, show (brakeOf s k).due = false from hnew]
    decide
  obtain ⟨q, n, hsaf⟩ := safEvent_saf .brakeTestDue (be 1 c.val) u
  refine ⟨_, hexec, ?_, ?_, (modBrake_only ..).comp (safEvent_only _ _ u)⟩
  · rw [hsaf]
    rfl
  · rw [hsaf]
    rfl

theorem brakeTestDue_idle (h : setU16 s 18 = 0 ∨ brakeOn s c.val = false ∨ (brakeOf s c.val).due = true) : exec (.brakeTestDue c) s = .next s := by
  show execBrakeTestDue c s = _
  unfold execBrakeTestDue
  extract_lets k limit old
  refine if_pos ?_
  obtain h | h | h := h
  · rw [show decide (limit = 0) = true from decide_eq_true h]
    rfl
  · rw [show brakeOn s k = false from h, Bool.not_false, Bool.or_true]
    rfl
  · rw [show (brakeOf s k).due = true from h, Bool.or_true]
    rfl

end

/-! The request for a reset (R467). -/

theorem safetyResetRequest_row {s : State} {t0 : Nat} (habsent : s.saf.hbAbsent = some t0) (hreset : setU8 s 10 = 1) (hphase : s.saf.phase = 2)
    (hrun : fwRunning s = true) : ∃ t : State, exec .safetyResetRequest s = .next t ∧ ResetBy .safetyReq s t ∧
      t0 + cd12Least (ms 1000) ≤ t.time.elapsed := by
  have hwait := elapseTo_only (t0 + cd12Least (ms 1000)) s
  have hleast := le_elapsed_elapseTo (t0 + cd12Least (ms 1000)) s
  obtain ⟨u, hu⟩ : ∃ u, elapseTo (t0 + cd12Least (ms 1000)) s = u := ⟨_, rfl⟩
  rw [hu] at hwait hleast
  let v : State := { u with saf := { u.saf with resetReq := true } }
  have hexec : exec .safetyResetRequest s = .next (assertReset .safetyReq v) := by
    show execSafetyResetRequest s = _
    simp only [execSafetyResetRequest, habsent, hreset, hphase, hrun, hu, and_self, if_true]
    rfl
  refine ⟨_, hexec, (assertReset_resetBy .safetyReq v).of_before (congrArg PwrState.boot (hwait.2 .pwr (by decide))) (hwait.2 .host (by decide)), ?_⟩
  rw [(assertReset_stopped .safetyReq v).elapsed]
  exact hleast

theorem safetyResetRequest_idle {s : State} (h : s.saf.hbAbsent = none ∨ setU8 s 10 ≠ 1 ∨ fwRunning s = false) :
    exec .safetyResetRequest s = .next s := by
  show execSafetyResetRequest s = _
  unfold execSafetyResetRequest
  split
  · next habsent =>
    refine if_neg ?_
    rintro ⟨hreset, -, hrun⟩
    obtain h | h | h := h
    · cases h.symm.trans habsent
    · exact h hreset
    · cases h.symm.trans hrun
  · rfl

/-- Settles O49: a lemma for each row. -/
theorem safetyRows : Obligations.SafetyRows := by
  intro s
  refine ⟨monitor_of_starting, fun i b hphase => safeInputFiltered_row hphase i b, fun o b a hphase => testPulse_row hphase o b a,
    fun p hphase hlength hpair hdiffer hnew => discrepancy_row hphase p hlength hpair hdiffer hnew, fun p h => discrepancy_idle p h,
    fun c t0 h => applied_row c (rampEnd_runs c h), fun c h => rampEnd_idle c h,
    fun c t0 hfall hrequest hramp => applied_row c (releaseFall_runs c hfall hrequest hramp), fun c h => releaseFall_idle c h,
    fun c hphase hon hlength => readbackDeviation_row hphase c hon hlength, fun c hoff => ?_,
    fun c hphase hreleased => switchTest_row hphase c hreleased, fun c => ⟨?_, fun happlied => ?_⟩,
    fun n hphase => clockWindow_row hphase n, fun hphase => clockWindowTimeout_row hphase,
    fun n t0 hhb hphase hset hnew => heartbeatAbsent_row hphase hhb hset hnew, heartbeatAbsent_idle,
    fun t0 habsent hreset hphase hrun => safetyResetRequest_row habsent hreset hphase hrun, safetyResetRequest_idle,
    fun k => ⟨rfl, fun hphase => monitorDiagnostic_row hphase k⟩, fun hphase => vddSafeWarning_row hphase, ?_,
    fun c hlimit hon hnew hold => brakeTestDue_row c hlimit hon hnew hold, fun c h => brakeTestDue_idle c h, fun a b hstarting => ?_,
    fun a b hnot => ?_⟩
  · refine congrArg Host.Outcome.next (if_neg fun hon => ?_)
    cases hoff.symm.trans hon.2
  · exact congrArg Host.Outcome.next (if_neg fun hfails => absurd hfails.2.2 (by decide))
  · refine congrArg Host.Outcome.next (if_neg fun hfails => ?_)
    cases happlied.symm.trans hfails.2.1
  · exact ⟨_, rfl, rfl, rfl, rfl, rfl, rfl, (Only.setPwr _).comp (Only.setSaf _)⟩
  · show execMonitorStartUp a b s = _
    rw [execMonitorStartUp, hstarting]
    rfl
  · show execMonitorStartUp a b s = _
    rw [execMonitorStartUp, hnot]
    rfl

end Sys2Proof.Machine
end

section
/-! SUPPORT. Messages between the devices of a group and the ownership of its drives (R415, R420 to R424, R440 to R446, R568). -/

namespace Sys2Proof.Machine

set_option Elab.async false

/-! Messages sent. -/

/-- A part of the group that no message sent changes. -/
def Unsent {α : Type} (part : GrpState → α) : Prop :=
  ∀ g q f n a c, part { g with txq := q, txFree := f, txSeq := n, lastAnnounce := a, datagramSent := c } = part g

section
variable {α : Type} {part : GrpState → α} (hpart : Unsent part)
include hpart

theorem sendCasc_unsent (typ dst : Nat) (payload : List Byte) (s : State) : part (sendCasc typ dst payload s).grp = part s.grp :=
  sendCascOf_grp_part part (fun g q f n => hpart g q f n g.lastAnnounce g.datagramSent) _ _ _ _ s

theorem announce_unsent (s : State) : part (announce s).grp = part s.grp :=
  (sendCasc_unsent hpart _ _ _ _).trans (hpart s.grp s.grp.txq s.grp.txFree s.grp.txSeq _ s.grp.datagramSent)

theorem sendArb_unsent (ports : List Bool) (typ : Nat) (payload : List Byte) (s : State) : part (sendArb ports typ payload s).grp = part s.grp := by
  unfold sendArb
  extract_lets c d port
  have hports : ∀ (l : List Bool) (u : State),
      (l.foldl (fun s b => emit (.udp b (BitVec.ofNat 32 (pNat s 0x071E)) port port d) s) u).grp = u.grp := by
    intro l
    induction l with
    | nil => exact fun _ => rfl
    | cons b l ih => exact fun u => ih _
  split
  · rfl
  · rw [hports]
    exact hpart s.grp s.grp.txq s.grp.txFree s.grp.txSeq s.grp.lastAnnounce c

theorem sendAck_unsent (udp : Bool) (dsts : List Nat) (payload : List Byte) (s : State) : part (sendAck udp dsts payload s).grp = part s.grp := by
  have hring : ∀ (l : List Nat) (u : State), part (l.foldl (fun s d => sendCasc 0x05 d payload s) u).grp = part u.grp := by
    intro l
    induction l with
    | nil => exact fun _ => rfl
    | cons d l ih => exact fun u => (ih _).trans (sendCasc_unsent hpart _ _ _ u)
  unfold sendAck
  extract_lets ring s1
  refine (hring _ s1).trans ?_
  unfold s1
  split
  · exact sendArb_unsent hpart _ _ _ s
  · rfl

end

theorem sendAck_only (udp : Bool) (dsts : List Nat) (payload : List Byte) (s : State) : Only [.grp, .out] s (sendAck udp dsts payload s) :=
  (Only.ite (fun _ => sendArb_only _ _ _ s) fun _ => Only.refl).foldl _ (fun _ _ => sendCasc_only _ _ _ _) _

/-! What is known of the other devices stays, whoever owns. -/

/-- What is known of the other devices, the arbiter's last counter and PERMIT_IN. -/
def known (g : GrpState) : List Peer × Nat × Bool := (g.peers, g.datagramSeen, g.permitIn)

theorem known_unsent : Unsent known := fun _ _ _ _ _ _ => rfl

theorem fallRequests_grp (s : State) : (fallRequests s).grp = s.grp := (fallRequests_only s).2 .grp (by decide)

theorem dropOwnership_grp (s : State) : (dropOwnership s).grp = if s.grp.owns then { s.grp with owns := false, activeOut := false } else s.grp := by
  unfold dropOwnership
  split
  · exact fallRequests_grp _
  · rfl

theorem dropOwnership_known (s : State) : known (dropOwnership s).grp = known s.grp := by
  rw [dropOwnership_grp]
  split <;> rfl

/-- A device that stops owning; firmware that runs takes role STANDBY and tells it. -/
theorem stopOwning_owning {s : State} (h : s.grp.owns = true) : stopOwning s =
    if fwRunning s then announce (record .roleYielded [] { dropOwnership { s with grp := { s.grp with stopped := true } } with
      grp := { (dropOwnership { s with grp := { s.grp with stopped := true } }).grp with role := 1, cyclesAsStandby := 0 } })
    else dropOwnership { s with grp := { s.grp with stopped := true } } := by
  rw [stopOwning, h]
  rfl

theorem stopOwning_idle {s : State} (h : s.grp.owns = false) : stopOwning s = s := by
  rw [stopOwning, h]
  rfl

theorem stopOwning_known (s : State) : known (stopOwning s).grp = known s.grp := by
  cases howns : s.grp.owns with
  | false => rw [stopOwning_idle howns]
  | true =>
    have hdrop : known (dropOwnership { s with grp := { s.grp with stopped := true } }).grp = known s.grp := dropOwnership_known _
    rw [stopOwning_owning howns]
    split
    · rw [announce_unsent known_unsent, record_grp]
      exact hdrop
    · exact hdrop

theorem stopOwning_owns (s : State) : (stopOwning s).grp.owns = false := by
  cases howns : s.grp.owns with
  | false => rw [stopOwning_idle howns, howns]
  | true =>
    have hdrop : (dropOwnership { s with grp := { s.grp with stopped := true } }).grp.owns = false := by
      rw [dropOwnership_grp, if_pos howns]
    rw [stopOwning_owning howns]
    split
    · rw [announce_unsent (part := GrpState.owns) fun _ _ _ _ _ _ => rfl, record_grp]
      exact hdrop
    · exact hdrop

theorem seeEpoch_known (e : Nat) (s : State) : known (seeEpoch e s).grp = known s.grp := by
  unfold seeEpoch
  split <;> rfl

theorem learnOwner_known (e : Nat) (s : State) : known (learnOwner e s).grp = known s.grp := by
  unfold learnOwner
  extract_lets s1
  rw [seeEpoch_known]
  unfold s1
  split
  · exact stopOwning_known s
  · rfl

theorem meetOwner_known (e : Nat) (s : State) : known (meetOwner e s).grp = known s.grp := by
  unfold meetOwner
  split <;> rfl

theorem changeRole_known (r : Nat) (s : State) : known (changeRole r s).grp = known s.grp := by
  unfold changeRole
  split
  · rfl
  · rw [announce_unsent known_unsent]
    exact dropOwnership_known s

theorem exclude_known (e : Ev) (s : State) : known (exclude e s).grp = known s.grp := by
  unfold exclude
  split
  · rfl
  · rw [record_grp]
    exact changeRole_known 1 s

theorem resolveRole_known (s : State) : known (resolveRole s).grp = known s.grp := by
  unfold resolveRole
  split
  · exact exclude_known _ s
  · rfl

theorem meetMaster_known (d : Nat) (p : Peer) (s : State) : known (meetMaster d p s).grp = known s.grp := by
  unfold meetMaster
  extract_lets yields
  split
  · split
    · exact stopOwning_known s
    · rw [record_grp]
      exact changeRole_known 1 s
  · rfl

theorem meetMaster_only (d : Nat) (p : Peer) (s : State) : Only [.evt, .grp, .saf, .out] s (meetMaster d p s) := by
  unfold meetMaster
  extract_lets yields
  exact Only.ite (fun _ => Only.ite (fun _ => stopOwning_only s) fun _ => (changeRole_only 1 s).comp (record_only _ _ _)) fun _ => Only.refl

/-! Owners of higher epochs are learned of from what devices say. -/

/-- What a device that owns, or does not, makes this one learn (R424, R442). -/
def hearOwner (own : Bool) (e : Nat) (s : State) : State :=
  let s1 := if own then meetOwner e s else s
  if own && s1.grp.role == 0 then learnOwner e s1 else seeEpoch e s1

theorem hearOwner_only (own : Bool) (e : Nat) (s : State) : Only [.evt, .grp, .saf, .out] s (hearOwner own e s) := by
  unfold hearOwner
  extract_lets s1
  have h1 : Only [.grp] s s1 := Only.ite (fun _ => meetOwner_only e s) fun _ => Only.refl
  exact h1.comp (Only.ite (fun _ => learnOwner_only e s1) fun _ => (seeEpoch_only e s1).mono (by decide))

theorem hearOwner_known (own : Bool) (e : Nat) (s : State) : known (hearOwner own e s).grp = known s.grp := by
  unfold hearOwner
  extract_lets s1
  have h1 : known s1.grp = known s.grp := by
    unfold s1
    split
    · exact meetOwner_known e s
    · rfl
  split
  · rw [learnOwner_known, h1]
  · rw [seeEpoch_known, h1]

/-! A device becomes the owner (R441). -/

theorem noteHandover_only (s : State) : Only [.grp] s (noteHandover s) := Only.setGrp _

theorem askBrakes_only (s : State) : Only [.saf] s (askBrakes s) := Only.refl.foldl _ (fun u _ => modBrake_only _ _ u) _

theorem Only.setThrGrp {s : State} (x : ThrState) (y : GrpState) : Only [.thr, .grp] s { s with thr := x, grp := y } := by
  apply Only.fields <;> simp

/-- The commands of the shadow are those in force. -/
def takeShadow (s : State) : State :=
  match s.grp.shadowHandoff with
  | some h => { s with thr := { s.thr with current := h.cmds }, grp := { s.grp with shadowHandoff := none } }
  | none => s

theorem takeShadow_spec (s : State) : Only [.thr, .grp] s (takeShadow s) ∧ known (takeShadow s).grp = known s.grp ∧
    (takeShadow s).grp.role = s.grp.role ∧ (takeShadow s).grp.epoch = s.grp.epoch := by
  unfold takeShadow
  split
  · exact ⟨Only.setThrGrp _ _, rfl, rfl, rfl⟩
  · exact ⟨Only.refl, rfl, rfl, rfl⟩

/-- The state in which a new owner tells the others. -/
def owning (e : Nat) (s : State) : State :=
  askBrakes (sendFrames true (nowOwns (takeShadow (newEpoch e { s with grp := { s.grp with role := 0, cyclesAsStandby := 0 } }))))

theorem becomeOwner_eq (e : Nat) (s : State) : becomeOwner e s = noteHandover (announce (owning e s)) := rfl

theorem owning_spec (e : Nat) (s : State) : Only [.evt, .bus, .thr, .grp, .saf, .out] s (owning e s) ∧ known (owning e s).grp = known s.grp ∧
    (owning e s).grp.owns = true ∧ (owning e s).grp.role = 0 ∧ (owning e s).grp.epoch = e := by
  have hfirst : Only [.evt, .grp] s (newEpoch e { s with grp := { s.grp with role := 0, cyclesAsStandby := 0 } }) :=
    (Only.setGrp _).comp (newEpoch_only _ _)
  have hgrp : (newEpoch e { s with grp := { s.grp with role := 0, cyclesAsStandby := 0 } }).grp =
      { s.grp with role := 0, cyclesAsStandby := 0, epoch := e, ownEpoch := e } := record_grp _ _ _
  unfold owning
  generalize newEpoch e { s with grp := { s.grp with role := 0, cyclesAsStandby := 0 } } = u at hfirst hgrp ⊢
  obtain ⟨hshadow, hknown, hrole, hepoch⟩ := takeShadow_spec u
  have howns := nowOwns_only (takeShadow u)
  have hlast : Only [.bus, .saf, .out] (nowOwns (takeShadow u)) (askBrakes (sendFrames true (nowOwns (takeShadow u)))) :=
    (sendFrames_only true _).comp (askBrakes_only _)
  rw [hlast.2 .grp (by decide)]
  refine ⟨((hfirst.comp (rs := [.evt, .thr, .grp]) hshadow).comp (rs := [.evt, .thr, .grp, .out]) howns).comp hlast, ?_, rfl, ?_, ?_⟩
  · exact hknown.trans (by rw [hgrp]; rfl)
  · exact hrole.trans (by rw [hgrp])
  · exact hepoch.trans (by rw [hgrp])

theorem becomeOwner_only (e : Nat) (s : State) : Only [.evt, .bus, .thr, .grp, .saf, .out] s (becomeOwner e s) := by
  rw [becomeOwner_eq]
  exact (owning_spec e s).1.comp ((announce_only _).comp (rs := [.grp, .out]) (noteHandover_only _))

theorem becomeOwner_owns (e : Nat) (s : State) : known (becomeOwner e s).grp = known s.grp ∧ (becomeOwner e s).grp.owns = true ∧
    (becomeOwner e s).grp.role = 0 ∧ (becomeOwner e s).grp.epoch = e := by
  obtain ⟨-, hknown, howns, hrole, hepoch⟩ := owning_spec e s
  have hsent {α : Type} {part : GrpState → α} (h : Unsent part) (hnote : ∀ g n p, part { g with handovers := n, lastHandover := p } = part g) :
      part (becomeOwner e s).grp = part (owning e s).grp := by
    rw [becomeOwner_eq]
    exact (hnote _ _ _).trans (announce_unsent h _)
  exact ⟨(hsent known_unsent fun _ _ _ => rfl).trans hknown, (hsent (part := GrpState.owns) (fun _ _ _ _ _ _ => rfl) fun _ _ _ => rfl).trans howns,
    (hsent (part := GrpState.role) (fun _ _ _ _ _ _ => rfl) fun _ _ _ => rfl).trans hrole,
    (hsent (part := GrpState.epoch) (fun _ _ _ _ _ _ => rfl) fun _ _ _ => rfl).trans hepoch⟩

end Sys2Proof.Machine
end

section
/-! Ownership and handover (R440 to R446, R568). -/

namespace Sys2Proof.Machine

set_option Elab.async false

/-! TAKE (R441, R442). -/

/-- The answer to a TAKE, which is kept for its repeats. -/
def takeAnswer (udp : Bool) (m : CascMsg) (st : Nat) (s : State) : State :=
  sendAck udp (if st = 0 then [m.src, byteAt m.payload 5] else [m.src])
    (hoBytes (fieldU m.payload 0 2) (fieldU m.payload 2 2) (byteAt m.payload 4) (byteAt m.payload 5) 3 st)
    { s with grp := { s.grp with lastTake := some (fieldU m.payload 0 2, fieldU m.payload 2 2, st) } }

theorem takeAnswer_only (udp : Bool) (m : CascMsg) (st : Nat) (s : State) : Only [.grp, .out] s (takeAnswer udp m st s) :=
  (Only.setGrp _).comp (sendAck_only _ _ _ _)

theorem takeAnswer_unsent {α : Type} {part : GrpState → α} (hpart : Unsent part) (udp : Bool) (m : CascMsg) (st : Nat) (s : State) :
    part (takeAnswer udp m st s).grp = part { s.grp with lastTake := some (fieldU m.payload 0 2, fieldU m.payload 2 2, st) } :=
  sendAck_unsent hpart _ _ _ _

theorem takeAnswer_known (udp : Bool) (m : CascMsg) (st : Nat) (s : State) : known (takeAnswer udp m st s).grp = known s.grp :=
  takeAnswer_unsent known_unsent udp m st s

/-- The answer of the new owner is repeated to the old one. -/
def ackOwed (m : CascMsg) (s : State) : State :=
  { s with grp := { s.grp with ackTo := some (fieldU m.payload 0 2, fieldU m.payload 2 2, byteAt m.payload 5, s.time.elapsed, s.time.elapsed) } }

/-- The device that a TAKE names has become the owner and answers. -/
def taken (udp : Bool) (m : CascMsg) (s : State) : State := ackOwed m (takeAnswer udp m 0 (becomeOwner (fieldU m.payload 2 2) s))

theorem taken_only (udp : Bool) (m : CascMsg) (s : State) : Only [.evt, .bus, .thr, .grp, .saf, .out] s (taken udp m s) :=
  (becomeOwner_only _ s).comp ((takeAnswer_only udp m 0 _).comp (rs := [.grp, .out]) (Only.setGrp _))

theorem taken_kept {α : Type} {part : GrpState → α} (hpart : Unsent part) (hanswer : ∀ g t a, part { g with lastTake := t, ackTo := a } = part g)
    (udp : Bool) (m : CascMsg) (s : State) : part (taken udp m s).grp = part (becomeOwner (fieldU m.payload 2 2) s).grp := by
  have hack (g : GrpState) (a : Option (Nat × Nat × Nat × Nat × Nat)) : part { g with ackTo := a } = part g := hanswer g g.lastTake a
  have hlast (g : GrpState) (t : Option (Nat × Nat × Nat)) : part { g with lastTake := t } = part g := hanswer g t g.ackTo
  exact ((hack _ _).trans (takeAnswer_unsent hpart udp m 0 _)).trans (hlast _ _)

theorem taken_owns (udp : Bool) (m : CascMsg) (s : State) : (taken udp m s).grp.owns = true ∧ (taken udp m s).grp.role = 0 ∧
    (taken udp m s).grp.epoch = fieldU m.payload 2 2 ∧ (taken udp m s).grp.lastTake = some (fieldU m.payload 0 2, fieldU m.payload 2 2, 0) := by
  obtain ⟨-, howns, hrole, hepoch⟩ := becomeOwner_owns (fieldU m.payload 2 2) s
  refine ⟨?_, ?_, ?_, ?_⟩
  · rw [taken_kept (part := GrpState.owns) (fun _ _ _ _ _ _ => rfl) fun _ _ _ => rfl, howns]
  · rw [taken_kept (part := GrpState.role) (fun _ _ _ _ _ _ => rfl) fun _ _ _ => rfl, hrole]
  · rw [taken_kept (part := GrpState.epoch) (fun _ _ _ _ _ _ => rfl) fun _ _ _ => rfl, hepoch]
  · exact takeAnswer_unsent (part := GrpState.lastTake) (fun _ _ _ _ _ _ => rfl) udp m 0 _

/-- A TAKE of another device names the owner. -/
def ownerNamed (m : CascMsg) (s : State) : State :=
  let s1 := meetOwner (fieldU m.payload 2 2) (if s.grp.role = 0 then learnOwner (fieldU m.payload 2 2) s else seeEpoch (fieldU m.payload 2 2) s)
  let s2 := { s1 with grp := { s1.grp with owner := some (byteAt m.payload 4), ownerEpoch := fieldU m.payload 2 2 } }
  if !fwRunning s then s1 else if s1.grp.owner = some (byteAt m.payload 4) then s2 else noteHandover s2

theorem ownerNamed_only (m : CascMsg) (s : State) : Only [.evt, .grp, .saf, .out] s (ownerNamed m s) := by
  unfold ownerNamed
  extract_lets s1 _ s2
  have h1 : Only [.evt, .grp, .saf, .out] s s1 :=
    (Only.ite (fun _ => learnOwner_only _ s) fun _ => (seeEpoch_only _ s).mono (by decide)).comp (meetOwner_only _ _)
  have h2 : Only [.evt, .grp, .saf, .out] s s2 := h1.comp (Only.setGrp _)
  exact Only.ite (fun _ => h1) fun _ => Only.ite (fun _ => h2) fun _ => h2.comp (noteHandover_only s2)

theorem ownerNamed_known (m : CascMsg) (s : State) : known (ownerNamed m s).grp = known s.grp := by
  unfold ownerNamed
  extract_lets s1 s2
  have h1 : known s1.grp = known s.grp := by
    rw [meetOwner_known]
    split
    · exact learnOwner_known _ s
    · exact seeEpoch_known _ s
  split
  · exact h1
  · split <;> exact h1

theorem ownerNamed_owner {m : CascMsg} {s : State} (hrun : fwRunning s = true) : (ownerNamed m s).grp.owner = some (byteAt m.payload 4) := by
  unfold ownerNamed
  extract_lets s1 s2
  rw [hrun]
  simp only [Bool.not_true, Bool.false_eq_true, if_false]
  split <;> rfl

theorem takeIn_other {udp : Bool} {m : CascMsg} {s : State} (h : byteAt m.payload 4 ≠ deviceNo s) : takeIn udp m s = ownerNamed m s := if_neg h

/-- A TAKE that names this device is passed over, answered, or makes it the owner. -/
theorem takeIn_own {udp : Bool} {m : CascMsg} {s : State} (h : byteAt m.payload 4 = deviceNo s) :
    takeIn udp m s = s ∨ (∃ st, takeIn udp m s = takeAnswer udp m st s) ∨ takeIn udp m s = taken udp m s := by
  unfold takeIn
  extract_lets b id e target old answer
  have hanswer (st : Nat) (u : State) : answer st u = takeAnswer udp m st u := rfl
  rw [if_pos h]
  split
  · exact .inl rfl
  · split
    · exact .inr (.inl ⟨_, hanswer _ s⟩)
    · split
      · exact .inr (.inl ⟨1, hanswer 1 s⟩)
      · split
        · exact .inr (.inl ⟨2, hanswer 2 s⟩)
        · split
          · exact .inr (.inl ⟨3, hanswer 3 s⟩)
          · exact .inr (.inr (congrArg (ackOwed m) (hanswer 0 (becomeOwner e s))))

theorem takeIn_only (udp : Bool) (m : CascMsg) (s : State) : Only [.evt, .bus, .thr, .grp, .saf, .out] s (takeIn udp m s) := by
  by_cases hown : byteAt m.payload 4 = deviceNo s
  · obtain h | ⟨st, h⟩ | h := takeIn_own (udp := udp) hown
    · rw [h]
      exact Only.refl
    · rw [h]
      exact (takeAnswer_only ..).mono (by decide)
    · rw [h]
      exact taken_only udp m s
  · rw [takeIn_other hown]
    exact (ownerNamed_only m s).mono (by decide)

theorem takeIn_known (udp : Bool) (m : CascMsg) (s : State) : known (takeIn udp m s).grp = known s.grp := by
  by_cases hown : byteAt m.payload 4 = deviceNo s
  · obtain h | ⟨st, h⟩ | h := takeIn_own (udp := udp) hown
    · rw [h]
    · rw [h, takeAnswer_known]
    · rw [h]
      exact (takeAnswer_known udp m 0 _).trans (becomeOwner_owns _ s).1
  · rw [takeIn_other hown, ownerNamed_known]

section
variable {m : CascMsg} {s : State} (hring : pNat s 0x0711 ≠ 0xFE)
include hring

theorem take_exec : exec (.take m) s = .next (takeIn false m s) := congrArg Host.Outcome.next (if_neg hring)

theorem take_names (hother : byteAt m.payload 4 ≠ deviceNo s) (hrun : fwRunning s = true) :
    ∃ t : State, exec (.take m) s = .next t ∧ t.grp.owner = some (byteAt m.payload 4) ∧ Only [.evt, .grp, .saf, .out] s t := by
  rw [take_exec hring, takeIn_other hother]
  exact ⟨_, rfl, ownerNamed_owner hrun, ownerNamed_only m s⟩

section
variable (hown : byteAt m.payload 4 = deviceNo s) (hrun : fwRunning s = true) (hlast : s.grp.lastTake = none)
include hown hrun hlast

theorem take_owns (heligible : eligible s = true) (hhigher : epochHigher (fieldU m.payload 2 2) s.grp.epoch = true)
    (hack : s.grp.ackTo = none) (hho : s.grp.ho = none) : ∃ t : State, exec (.take m) s = .next t ∧ t.grp.owns = true ∧ t.grp.role = 0 ∧
      t.grp.epoch = fieldU m.payload 2 2 ∧ t.grp.lastTake = some (fieldU m.payload 0 2, fieldU m.payload 2 2, 0) ∧
      Only [.evt, .bus, .thr, .grp, .saf, .out] s t := by
  have htaken : takeIn false m s = taken false m s := by
    unfold takeIn
    extract_lets b id e target old answer again busy s1
    have hnew : again = false := by simp only [again, hlast]
    have hidle : busy = false := by simp only [busy, hack, hho, Bool.or_self]
    rw [if_pos hown, hrun, hnew, show epochHigher e s.grp.epoch = true from hhigher, heligible, hidle]
    have hanswer (u : State) : answer 0 u = takeAnswer false m 0 u := rfl
    exact congrArg (ackOwed m) (hanswer (becomeOwner e s))
  obtain ⟨howns, hrole, hepoch, hanswered⟩ := taken_owns false m s
  rw [take_exec hring, htaken]
  exact ⟨_, rfl, howns, hrole, hepoch, hanswered, taken_only false m s⟩

theorem take_refused (hlower : epochHigher (fieldU m.payload 2 2) s.grp.epoch = false) :
    ∃ t : State, exec (.take m) s = .next t ∧ t.grp.owns = s.grp.owns ∧ t.grp.epoch = s.grp.epoch ∧
      t.grp.lastTake = some (fieldU m.payload 0 2, fieldU m.payload 2 2, 1) ∧ Only [.grp, .out] s t := by
  have hanswered : takeIn false m s = takeAnswer false m 1 s := by
    unfold takeIn
    extract_lets b id e target old answer again
    have hnew : again = false := by simp only [again, hlast]
    rw [if_pos hown, hrun, hnew, show epochHigher e s.grp.epoch = false from hlower]
    rfl
  have hanswer {α : Type} {part : GrpState → α} (h : Unsent part) := takeAnswer_unsent h false m 1 s
  rw [take_exec hring, hanswered]
  exact ⟨_, rfl, hanswer (part := GrpState.owns) fun _ _ _ _ _ _ => rfl, hanswer (part := GrpState.epoch) fun _ _ _ _ _ _ => rfl,
    hanswer (part := GrpState.lastTake) fun _ _ _ _ _ _ => rfl, takeAnswer_only ..⟩

end

/-! YIELD (R442). -/

theorem yield_exec : exec (.yield m) s = .next (yieldIn false m s) := congrArg Host.Outcome.next (if_neg hring)

end

theorem yieldIn_only (udp : Bool) (m : CascMsg) (s : State) : Only [.evt, .grp, .saf, .out] s (yieldIn udp m s) :=
  Only.ite (fun _ => (stopOwning_only s).comp (sendAck_only _ _ _ _)) fun _ => Only.refl

theorem yieldIn_other {udp : Bool} {m : CascMsg} {s : State} (h : byteAt m.payload 5 ≠ deviceNo s) : yieldIn udp m s = s := if_neg h

theorem yieldIn_own {udp : Bool} {m : CascMsg} {s : State} (h : byteAt m.payload 5 = deviceNo s) : yieldIn udp m s =
    sendAck udp [m.src] (hoBytes (fieldU m.payload 0 2) (fieldU m.payload 2 2) (byteAt m.payload 4) (byteAt m.payload 5) 4 0) (stopOwning s) :=
  if_pos h

theorem yieldIn_known (udp : Bool) (m : CascMsg) (s : State) : known (yieldIn udp m s).grp = known s.grp := by
  by_cases hown : byteAt m.payload 5 = deviceNo s
  · rw [yieldIn_own hown, sendAck_unsent known_unsent, stopOwning_known]
  · rw [yieldIn_other hown]

theorem yield_stops {m : CascMsg} {s : State} (hring : pNat s 0x0711 ≠ 0xFE) (hown : byteAt m.payload 5 = deviceNo s) :
    ∃ t : State, exec (.yield m) s = .next t ∧ t.grp.owns = false ∧ Only [.evt, .grp, .saf, .out] s t := by
  refine ⟨_, yield_exec hring, ?_, yieldIn_only false m s⟩
  rw [yieldIn_own hown, sendAck_unsent (part := GrpState.owns) fun _ _ _ _ _ _ => rfl, stopOwning_owns]

theorem yield_idle {m : CascMsg} {s : State} (h : pNat s 0x0711 = 0xFE ∨ byteAt m.payload 5 ≠ deviceNo s) : exec (.yield m) s = .next s := by
  by_cases hring : pNat s 0x0711 = 0xFE
  · exact congrArg Host.Outcome.next (if_pos hring)
  · rw [yield_exec hring, yieldIn_other (h.resolve_left hring)]

/-! A handover in progress (R440, R444). -/

theorem resendAck_only (s : State) : Only [.time, .evt, .grp, .out] s (resendAck s) := by
  unfold resendAck
  split
  · exact Only.ite (fun _ => (Only.setGrp _).mono (by decide)) fun _ =>
      (elapseTo_only _ s).comp ((Only.setGrp _).comp (rs := [.grp, .out]) (sendCasc_only _ _ _ _))
  · exact Only.refl

theorem le_elapseTo (e : Nat) (s : State) : s.time.elapsed ≤ (elapseTo e s).time.elapsed := by
  simp only [elapseTo, passTicks]
  omega

theorem resendAck_kept (s : State) : (resendAck s).grp.ho = s.grp.ho ∧ s.time.elapsed ≤ (resendAck s).time.elapsed := by
  unfold resendAck
  split
  · split
    · exact ⟨rfl, Nat.le_refl _⟩
    · extract_lets s1
      have h1 : s1.grp = s.grp := (elapseTo_only _ s).2 .grp (by decide)
      have hle : s.time.elapsed ≤ s1.time.elapsed := le_elapseTo _ s
      clear_value s1
      refine ⟨(sendCasc_unsent (part := GrpState.ho) (fun _ _ _ _ _ _ => rfl) _ _ _ _).trans (congrArg GrpState.ho h1 :), ?_⟩
      rw [(sendCasc_only _ _ _ _).2 .time (by decide)]
      exact hle
  · exact ⟨rfl, Nat.le_refl _⟩

theorem handoverResend_idle {s : State} (hho : s.grp.ho = none) (hack : s.grp.ackTo = none) : exec .handoverResend s = .next s := by
  have hresend : resendAck s = s := by simp only [resendAck, hack]
  show execHandoverResend s = _
  simp only [execHandoverResend, hho, hresend, ite_self]

theorem handoverResend_row {s : State} {h : Handover} (hho : s.grp.ho = some h) (hawake : awake s = true)
    (hin : s.time.elapsed < h.startedAt + ms (pNat s 0x0719)) : ∃ t : State, exec .handoverResend s = .next t ∧
      t.grp.ho.map (·.epoch) = some h.epoch ∧ t.grp.ho.map (·.target) = some h.target ∧ h.lastSent + ms 1 ≤ t.time.elapsed ∧
      Only [.time, .evt, .grp, .out] s t := by
  let u := sendHandover h (elapseTo (h.lastSent + ms 1) s)
  have hexec : exec .handoverResend s = .next (resendAck u) := by
    show execHandoverResend s = _
    simp only [execHandoverResend, hho, hawake, decide_eq_false (Nat.not_le.mpr hin), Bool.not_true, Bool.or_self, Bool.false_eq_true, if_false]
    rfl
  obtain ⟨hkept, hle⟩ := resendAck_kept u
  have htime : u.time = (elapseTo (h.lastSent + ms 1) s).time := (sendHandover_only h _).2 .time (by decide)
  refine ⟨_, hexec, ?_, ?_, ?_, ((elapseTo_only _ s).comp (rs := [.time, .evt, .grp, .out]) (sendHandover_only h _)).trans (resendAck_only u)⟩
  · rw [hkept]
    rfl
  · rw [hkept]
    rfl
  · refine Nat.le_trans (le_elapsed_elapseTo (h.lastSent + ms 1) s) ?_
    rw [← htime]
    exact hle

theorem tryHandover_only {h : Handover} {odd : List Nat} {s t : State} (ht : tryHandover h odd s = some t) : Only [.grp, .out] s t := by
  obtain ⟨d, -, rfl⟩ := Option.map_eq_some_iff.mp ht
  exact (Only.setGrp _).comp (sendHandover_only _ _)

theorem handoverNext_only (h : Handover) (status : Nat) (s : State) : Only [.host, .evt, .grp, .out] s (handoverNext h status s) := by
  unfold handoverNext
  split
  · extract_lets _ s1
    have h1 : Only [.grp] s s1 := Only.setGrp _
    split
    · exact h1.comp (endCmd_only _ _ _ _ _ _ s1)
    · exact h1.mono (by decide)
  · split
    · next ht => exact (tryHandover_only ht).mono (by decide)
    · exact (Only.setGrp _).comp (record_only _ _ _)

/-- A planned handover that fails is over, and its command has ended. -/
theorem handoverNext_ends {h : Handover} {e : Nat} (hcmd : h.cmd = some e) (status : Nat) (s : State) :
    (handoverNext h status s).grp.ho = none ∧ findCmd (handoverNext h status s) e = none := by
  simp only [handoverNext, hcmd]
  cases hfound : findCmd { s with grp := { s.grp with ho := none } } e with
  | none => exact ⟨rfl, hfound⟩
  | some c =>
    have hentry : c.entry = e := by simpa using List.find?_some hfound
    exact ⟨congrArg GrpState.ho ((endCmd_only ..).2 .grp (by decide)), hentry ▸ findCmd_endCmd_same ..⟩

theorem handoverAckTimeout_answered {s : State} {h : Handover} (hho : s.grp.ho = some h) (hawake : awake s = true) (hacked : h.targetAcked = true) :
    ∃ t : State, exec .handoverAckTimeout s = .next t ∧ t.grp.ho = none ∧ h.startedAt + ms (pNat s 0x0719) ≤ t.time.elapsed ∧
      Only [.time, .evt, .grp] s t := by
  let u := elapseTo (h.startedAt + ms (pNat s 0x0719)) s
  have hexec : exec .handoverAckTimeout s = .next { u with grp := { u.grp with ho := none } } := by
    show execHandoverAckTimeout s = _
    simp only [execHandoverAckTimeout, hho, hawake, hacked, Bool.not_true, Bool.false_eq_true, if_false, if_true]
    rfl
  exact ⟨_, hexec, rfl, le_elapsed_elapseTo _ s, (elapseTo_only _ s).comp (Only.setGrp _)⟩

theorem handoverAckTimeout_unanswered {s : State} {h : Handover} (hho : s.grp.ho = some h) (hawake : awake s = true) (hacked : h.targetAcked = false) :
    ∃ t : State, exec .handoverAckTimeout s = .next t ∧ Only [.time, .host, .evt, .grp, .out] s t ∧
      (h.cmd.isSome = true → t.grp.ho = none ∧ ∀ e, h.cmd = some e → findCmd t e = none) := by
  let u := elapseTo (h.startedAt + ms (pNat s 0x0719)) s
  have hexec : exec .handoverAckTimeout s = .next (handoverNext h stPeerAbsent u) := by
    show execHandoverAckTimeout s = _
    simp only [execHandoverAckTimeout, hho, hawake, hacked, Bool.not_true, Bool.false_eq_true, if_false]
    rfl
  refine ⟨_, hexec, (elapseTo_only _ s).comp (handoverNext_only h _ u), fun hplanned => ?_⟩
  obtain ⟨e, he⟩ := Option.isSome_iff_exists.mp hplanned
  refine ⟨(handoverNext_ends he _ u).1, fun e' he' => (handoverNext_ends he' _ u).2⟩

/-! ACK (R440, R442, R444). -/

theorem handoverDone_only (h : Handover) (s : State) : Only [.host, .evt, .grp, .saf, .out] s (handoverDone h s) := by
  unfold handoverDone
  extract_lets _ s1 s2
  have h1 : Only [.evt, .grp] s s1 := ((Only.setGrp _).comp (rs := [.evt, .grp]) (record_only _ _ _)).comp (noteHandover_only _)
  split
  · exact h1.mono (by decide)
  · have h2 : Only [.evt, .grp, .saf, .out] s s2 := h1.comp ((stopOwning_only s1).comp (rs := [.evt, .grp, .saf, .out]) (seeEpoch_only _ _))
    split
    · exact h2.comp (endCmd_only _ _ _ _ _ _ s2)
    · exact h2.mono (by decide)

theorem ackIn_only (m : CascMsg) (s : State) : Only [.host, .evt, .grp, .saf, .out] s (ackIn m s) := by
  unfold ackIn
  extract_lets b id e target ok mine s0
  have h0 : Only [.evt, .grp, .saf, .out] s s0 := Only.ite (fun _ => stopOwning_only s) fun _ => Only.refl
  have hkept : Only [.host, .evt, .grp, .saf, .out] s s0 := h0.mono (by decide)
  split
  · refine Only.ite (fun _ => hkept) fun _ => Only.ite (fun _ => hkept.comp (Only.setGrp _)) fun _ => Only.ite (fun _ => hkept) fun _ =>
      Only.ite (fun _ => ?_) fun _ => h0.comp (handoverNext_only _ _ s0)
    exact h0.comp ((Only.setGrp _).comp (rs := [.host, .evt, .grp, .saf, .out]) (handoverDone_only _ _))
  · exact hkept

theorem ack_idle {m : CascMsg} {s : State} (hho : s.grp.ho = none) (howns : s.grp.owns = false) : exec (.ack m) s = .next s := by
  show Host.Outcome.next (ackIn m s) = _
  simp only [ackIn, howns, hho, Bool.false_and, Bool.false_eq_true, if_false]

theorem ack_ofOld {m : CascMsg} {s : State} {h : Handover} (hho : s.grp.ho = some h) (hrun : fwRunning s = true)
    (hid : h.id = fieldU m.payload 0 2) (hepoch : h.epoch = fieldU m.payload 2 2) (hyield : byteAt m.payload 6 = 4)
    (hwaits : h.targetAcked = false) : ∃ t : State, exec (.ack m) s = .next t ∧ t.grp.ho = some { h with oldAcked := true } ∧ Only [.grp] s t := by
  have hexec : exec (.ack m) s = .next { s with grp := { s.grp with ho := some { h with oldAcked := true } } } := by
    have hnot : (byteAt m.payload 6 == 3) = false := by rw [hyield]; rfl
    show Host.Outcome.next (ackIn m s) = _
    unfold ackIn
    extract_lets b id e target ok mine s0
    have h0 : s0 = s := if_neg (by rw [show (byteAt b 6 == 3) = false from hnot, Bool.and_false]; simp only [Bool.false_and, Bool.false_eq_true, not_false_iff])
    have hmatch : ¬(!fwRunning s || h.id != id || h.epoch != e) = true := by
      rw [hrun, show h.id = id from hid, show h.epoch = e from hepoch, bne_self_eq_false, bne_self_eq_false]
      decide
    clear_value s0
    subst h0
    simp only [hho]
    rw [if_neg hmatch, if_pos hyield, hwaits]
    rfl
  exact ⟨_, hexec, rfl, Only.setGrp _⟩

/-! The external arbiter (R446). -/

theorem arbiterDatagram_ignored {b : Bool} {ip : BitVec 32} {d : List Byte} {s : State}
    (h : awake s = false ∨ pNat s 0x0711 ≠ 0xFE ∨ roleKey s 4 = [] ∨ ip.toNat ≠ pNat s 0x071E ∨
      d.drop (d.length - 16) ≠ (hmac (roleKey s 4) (d.take (d.length - 16))).take 16 ∨ fieldU d (d.length - 20) 4 ≤ s.grp.datagramSeen) :
    exec (.arbiterDatagramRx b ip d) s = .next s := by
  refine if_pos ?_
  simp only [Bool.or_eq_true, Bool.not_eq_true', bne_iff_ne, ne_eq, List.isEmpty_iff, decide_eq_true_eq]
  obtain h | h | h | h | h | h := h
  · exact .inl (.inl (.inl (.inl (.inl (.inl (.inl h))))))
  · exact .inl (.inl (.inl (.inl (.inl (.inl (.inr h))))))
  · exact .inl (.inl (.inl (.inl (.inl (.inr h)))))
  · exact .inl (.inl (.inl (.inl (.inr h))))
  · exact .inl (.inr h)
  · exact .inr h

theorem arbiterDatagram_row (b : Bool) (ip : BitVec 32) (d : List Byte) (s : State) : ∃ t : State, exec (.arbiterDatagramRx b ip d) s = .next t ∧
    Only [.evt, .bus, .thr, .grp, .saf, .out] s t ∧ s.grp.datagramSeen ≤ t.grp.datagramSeen := by
  show ∃ t, execArbiterDatagramRx b ip d s = .next t ∧ _
  unfold execArbiterDatagramRx
  extract_lets n body counter len m _ s1
  split
  · exact ⟨s, rfl, Only.refl, Nat.le_refl _⟩
  · next hvalid =>
    have hrises : s.grp.datagramSeen ≤ counter := by
      simp only [Bool.or_eq_true, not_or, decide_eq_true_eq] at hvalid
      exact Nat.le_of_lt (Nat.not_le.mp hvalid.2)
    have h1 : Only [.grp] s s1 := Only.setGrp _
    have hseen (u : State) (hu : known u.grp = known s1.grp) : s.grp.datagramSeen ≤ u.grp.datagramSeen := by
      rw [show u.grp.datagramSeen = counter from congrArg (fun k => k.2.1) hu]
      exact hrises
    split
    · exact ⟨_, rfl, h1.comp (takeIn_only true m s1), hseen _ (takeIn_known true m s1)⟩
    · split
      · exact ⟨_, rfl, h1.comp ((yieldIn_only true m s1).mono (ps := [.evt, .bus, .thr, .grp, .saf, .out]) (by decide)),
          hseen _ (yieldIn_known true m s1)⟩
      · exact ⟨_, rfl, h1.mono (by decide), hseen s1 rfl⟩

/-! Permits, overlap and take-up (R442, R445, R568). -/

theorem permitInLow_row (r : Bool) (s : State) : ∃ t : State, exec (.permitInLow r) s = .next t ∧ t.grp.permitIn = r ∧
    (pNat s 0x0713 = 1 → t.grp.owns = false) ∧ (pNat s 0x0713 ≠ 1 → Only [.grp] s t) ∧ Only [.evt, .grp, .saf, .out] s t := by
  let u : State := { s with grp := { s.grp with permitIn := r } }
  have hexec : exec (.permitInLow r) s = .next (if pNat s 0x0713 = 1 then stopOwning u else u) := rfl
  have hu : Only [.grp] s u := Only.setGrp _
  rw [hexec]
  by_cases hstops : pNat s 0x0713 = 1
  · rw [if_pos hstops]
    exact ⟨_, rfl, congrArg (fun k => k.2.2) (stopOwning_known u), fun _ => stopOwning_owns u, fun h => absurd hstops h,
      hu.comp (stopOwning_only u)⟩
  · rw [if_neg hstops]
    exact ⟨u, rfl, rfl, fun h => absurd h hstops, fun _ => hu, hu.mono (by decide)⟩

theorem withdrawPermit_spec (d : Nat) (s : State) : Only [.grp, .out] s (withdrawPermit d s) ∧ (withdrawPermit d s).grp.activeIn = s.grp.activeIn := by
  unfold withdrawPermit
  refine List.foldlRecOn (motive := fun u => Only [.grp, .out] s u ∧ u.grp.activeIn = s.grp.activeIn) _ _ ⟨Only.refl, rfl⟩ fun u ⟨honly, hin⟩ i _ => ?_
  split
  · exact ⟨honly.trans ((Only.setGrp _).comp (emit_only _ _)), hin⟩
  · exact ⟨honly, hin⟩

theorem ownerOverlap_row (s : State) : ∃ t : State, exec .ownerOverlap s = .next t ∧ t.grp.activeIn = [true, true] ∧ Only [.evt, .grp, .out] s t := by
  show ∃ t, execOwnerOverlap s = .next t ∧ _
  unfold execOwnerOverlap
  extract_lets _ s1 a b
  have h1 : Only [.grp] s s1 := Only.setGrp _
  split
  · obtain ⟨honly, hin⟩ := withdrawPermit_spec (if epochHigher (peerOf s b).epoch (peerOf s a).epoch then a else b) s1
    refine ⟨_, rfl, ?_, h1.comp (honly.comp (rs := [.evt, .grp, .out]) (record_only _ _ _))⟩
    rw [record_grp, hin]
  · exact ⟨s1, rfl, rfl, h1.mono (by decide)⟩

/-- Ownership is taken up only where the role owns and no higher epoch is known. -/
theorem takeUp_cases (s : State) : takeUp s = s ∨ s.grp.owns = false ∧ roleOwns s = true ∧ outranked s = false := by
  unfold takeUp
  split
  · exact .inl rfl
  · next h =>
    simp only [Bool.or_eq_true, not_or, Bool.not_eq_true, Bool.not_eq_true', Bool.not_eq_false] at h
    obtain ⟨⟨⟨⟨⟨howns, -⟩, hrole⟩, -⟩, -⟩, hrank⟩ := h
    exact .inr ⟨howns, hrole, hrank⟩

theorem roleOwns_elapseTo (e : Nat) (s : State) : roleOwns (elapseTo e s) = roleOwns s := rfl

theorem outranked_elapseTo (e : Nat) (s : State) : outranked (elapseTo e s) = outranked s := rfl

theorem ownershipTakeUp_row {s : State} (hawake : awake s = true) (hcounting : s.time.counting = true) :
    ∃ t : State, exec .ownershipTakeUp s = .next t ∧ s.pwr.fwAt + ms 300 ≤ t.time.elapsed ∧ (s.grp.owns = true → t.grp.owns = true) ∧
      (t.grp.owns = true → s.grp.owns = true ∨ roleOwns s = true ∧ outranked s = false) ∧ Only [.time, .evt, .grp, .out] s t := by
  have hwait := elapseTo_only (s.pwr.fwAt + ms 300) s
  have hleast := le_elapsed_elapseTo (s.pwr.fwAt + ms 300) s
  have hexec : exec .ownershipTakeUp s = .next (takeUp (elapseTo (s.pwr.fwAt + ms 300) s)) :=
    congrArg Host.Outcome.next (if_pos (by rw [hawake, hcounting]; rfl))
  have hrole := roleOwns_elapseTo (s.pwr.fwAt + ms 300) s
  have hrank := outranked_elapseTo (s.pwr.fwAt + ms 300) s
  obtain ⟨u, hu⟩ : ∃ u, elapseTo (s.pwr.fwAt + ms 300) s = u := ⟨_, rfl⟩
  rw [hu] at hwait hleast hexec hrole hrank
  have hgrp : u.grp = s.grp := hwait.2 .grp (by decide)
  refine ⟨_, hexec, by rwa [(takeUp_only u).2 .time (by decide)], fun howns => ?_, fun htaken => ?_, hwait.comp (takeUp_only u)⟩
  · obtain h | ⟨hnot, -, -⟩ := takeUp_cases u
    · rw [h, hgrp, howns]
    · rw [hgrp, howns] at hnot
      cases hnot
  · obtain h | ⟨-, hmay, hfree⟩ := takeUp_cases u
    · rw [h, hgrp] at htaken
      exact .inl htaken
    · exact .inr ⟨hrole.symm.trans hmay, hrank.symm.trans hfree⟩

/-- Settles O47: a lemma for each row. -/
theorem handoverRows : Obligations.HandoverRows := by
  intro s
  refine ⟨handoverResend_idle, fun h hho hawake hin => handoverResend_row hho hawake hin, fun hho => ?_,
    fun h hho hawake hacked => handoverAckTimeout_answered hho hawake hacked, fun h hho hawake hacked => handoverAckTimeout_unanswered hho hawake hacked,
    fun m hring hown hrun hlast heligible hhigher hack hho => take_owns hring hown hrun hlast heligible hhigher hack hho,
    fun m hring hown hrun hlast hlower => take_refused hring hown hrun hlast hlower, fun m hring hother hrun => take_names hring hother hrun,
    fun m hring hown => yield_stops hring hown, fun m h => yield_idle h, fun m hho howns => ack_idle hho howns,
    fun m h hho hrun hid hepoch hyield hwaits => ack_ofOld hho hrun hid hepoch hyield hwaits, fun b ip d h => arbiterDatagram_ignored h,
    fun b ip d => arbiterDatagram_row b ip d s, fun r => permitInLow_row r s, ownerOverlap_row s,
    fun hawake hcounting => ownershipTakeUp_row hawake hcounting, fun h => congrArg Host.Outcome.next (if_neg fun hon => ?_)⟩
  · show execHandoverAckTimeout s = _
    simp only [execHandoverAckTimeout, hho]
  · obtain ⟨hawake, hcounting⟩ := Bool.and_eq_true_iff.mp hon
    obtain h | h := h
    · cases h.symm.trans hawake
    · cases h.symm.trans hcounting

end Sys2Proof.Machine
end

section
/-! The traffic between the devices of a group (R144, R196, R426 to R434). -/

namespace Sys2Proof.Machine

set_option Elab.async false

/-! The mirror stream (R432). -/

/-- A part of the stream of a period, beside those that have come. -/
def gathered (m : CascMsg) (s : State) : State :=
  let old := if s.grp.rxPeriod = some m.period then s.grp.rxParts else []
  { s with grp := { s.grp with rxPeriod := some m.period, rxParts := keyPut (fieldU m.payload 0 2) (m.payload.drop 4) old } }

/-- A part is gathered, and with the last one the stream is taken. -/
theorem mirrorIn_heard {m : CascMsg} {s : State} (hawake : awake s = true) (hshadows : shadows s = true) (hnew : s.sch.cur ≤ m.period) :
    mirrorIn m s = gathered m s ∨ ∃ n body, mirrorIn m s =
      { gathered m s with grp := { (gathered m s).grp with mirrorTaken := some n, stream := body } } := by
  unfold mirrorIn
  rw [if_neg]
  · extract_lets part total old parts s1
    split
    · exact .inl rfl
    · split
      · exact .inr ⟨_, _, rfl⟩
      · exact .inl rfl
  · rw [hawake, hshadows, decide_eq_false (Nat.not_lt.mpr hnew)]
    decide

theorem mirrorIn_unheard {m : CascMsg} {s : State} (h : awake s = false ∨ shadows s = false ∨ m.period < s.sch.cur) : mirrorIn m s = s := by
  refine if_pos ?_
  obtain h | h | h := h
  · rw [h]
    rfl
  · rw [h, Bool.not_false, Bool.or_true, Bool.true_or]
  · rw [decide_eq_true h, Bool.or_true]

theorem mirrorIn_only (m : CascMsg) (s : State) : Only [.grp] s (mirrorIn m s) := by
  by_cases h : awake s = false ∨ shadows s = false ∨ m.period < s.sch.cur
  · rw [mirrorIn_unheard h]
    exact Only.refl
  · simp only [not_or, Bool.not_eq_false, Nat.not_lt] at h
    obtain ⟨hawake, hshadows, hnew⟩ := h
    obtain h | ⟨n, body, h⟩ := mirrorIn_heard hawake hshadows hnew
    · rw [h]
      exact Only.setGrp _
    · rw [h]
      exact (Only.setGrp _).trans (Only.setGrp _)

theorem mirrorIn_gathers {m : CascMsg} {s : State} (hawake : awake s = true) (hshadows : shadows s = true) (hnew : s.sch.cur ≤ m.period) :
    (mirrorIn m s).grp.rxPeriod = some m.period ∧ keyGet (fieldU m.payload 0 2) (mirrorIn m s).grp.rxParts = some (m.payload.drop 4) := by
  obtain h | ⟨n, body, h⟩ := mirrorIn_heard hawake hshadows hnew
  · rw [h]
    exact ⟨rfl, keyGet_keyPut_same ..⟩
  · rw [h]
    exact ⟨rfl, keyGet_keyPut_same ..⟩

/-! EXT_CMD and EXT_FB (R426 to R428). -/

/-- A frame for the EXTENSION has been accepted. -/
def extTaken (m : CascMsg) (s : State) : State :=
  { s with grp := { s.grp with extPending := s.grp.extPending ++ [⟨fieldU m.payload 0 8, byteAt m.payload 8, fieldU m.payload 12 2, m.payload.drop 16⟩],
                               extMissed := 0, extSeen := true, extLost := false, owner := some m.src, ownerEpoch := fieldU m.payload 12 2 } }

theorem extCmdIn_cases (m : CascMsg) (s : State) : extCmdIn m s = s ∨ extCmdIn m s = record .configMismatch [] s ∨
    extCmdIn m s = seeEpoch (fieldU m.payload 12 2) (extTaken m s) := by
  unfold extCmdIn
  extract_lets b c
  split
  · exact .inl rfl
  · split
    · exact .inr (.inl rfl)
    · split
      · exact .inl rfl
      · exact .inr (.inr rfl)

theorem extCmdIn_only (m : CascMsg) (s : State) : Only [.evt, .grp] s (extCmdIn m s) := by
  obtain h | h | h := extCmdIn_cases m s
  · rw [h]
    exact Only.refl
  · rw [h]
    exact (record_only _ _ s).mono (by decide)
  · rw [h]
    exact ((Only.setGrp _).trans (seeEpoch_only _ _)).mono (by decide)

section
variable {m : CascMsg} {s : State}

theorem extCmd_idle (h : awake s = false ∨ s.grp.role ≠ 3 ∨ m.payload.length ≠ 208) : exec (.extCmd m) s = .next s := by
  refine congrArg Host.Outcome.next (if_pos ?_)
  simp only [Bool.or_eq_true, Bool.not_eq_true', bne_iff_ne, or_assoc]
  exact h

section
variable (hawake : awake s = true) (hrole : s.grp.role = 3) (hlength : m.payload.length = 208)
include hawake hrole hlength

/-- An EXT_CMD that an EXTENSION of this configuration judges. -/
theorem extCmd_heard : exec (.extCmd m) s = .next (if (peerOf s m.src).crc ≠ configCrc s then record .configMismatch [] s
    else if epochHigher s.grp.epoch (fieldU m.payload 12 2) then s else seeEpoch (fieldU m.payload 12 2) (extTaken m s)) := by
  refine congrArg Host.Outcome.next (if_neg ?_)
  rw [hawake, hrole, hlength]
  decide

theorem extCmd_taken (hcrc : (peerOf s m.src).crc = configCrc s) (hepoch : epochHigher s.grp.epoch (fieldU m.payload 12 2) = false) :
    ∃ t : State, exec (.extCmd m) s = .next t ∧ t.grp.extMissed = 0 ∧ t.grp.extLost = false ∧ t.grp.owner = some m.src ∧
      (∃ c, t.grp.extPending = s.grp.extPending ++ [c]) ∧ Only [.grp] s t := by
  have hseen {α : Type} (part : GrpState → α) (hpart : ∀ g e, part { g with epoch := e } = part g) :
      part (seeEpoch (fieldU m.payload 12 2) (extTaken m s)).grp = part (extTaken m s).grp := by
    unfold seeEpoch
    split
    · exact hpart _ _
    · rfl
  rw [extCmd_heard hawake hrole hlength, if_neg (not_not_intro hcrc), hepoch]
  exact ⟨_, rfl, hseen GrpState.extMissed fun _ _ => rfl, hseen GrpState.extLost fun _ _ => rfl, hseen GrpState.owner fun _ _ => rfl,
    ⟨_, hseen GrpState.extPending fun _ _ => rfl⟩, (Only.setGrp _).trans (seeEpoch_only _ _)⟩

end

theorem extFb_idle (h : awake s = false ∨ s.grp.role ≠ 0 ∨ pNat s 0x0712 ≠ m.src ∨ m.payload.length ≠ 640) : exec (.extFb m) s = .next s := by
  refine congrArg Host.Outcome.next (if_neg ?_)
  simp only [Bool.and_eq_true, beq_iff_eq, not_and_or, Bool.not_eq_true, or_assoc]
  exact h

theorem testBit_of_putBit_false {w i k : Nat} (h : (putBit w i false).testBit k = true) : w.testBit k = true := by
  unfold putBit at h
  split at h
  · next hset =>
    have hle : 2 ^ i ≤ w := Nat.ge_two_pow_of_testBit hset
    have hsplit : w - 2 ^ i + 2 ^ i = w := Nat.sub_add_cancel hle
    have hclear : (w - 2 ^ i).testBit i = false := by
      have hflip := Nat.testBit_two_pow_add_eq (w - 2 ^ i) i
      rw [Nat.add_comm, hsplit, hset] at hflip
      simpa using hflip.symm
    by_cases hk : k = i
    · exact hk ▸ hset
    · rw [← hsplit, testBit_add_two_pow hclear hk]
      exact h
  · exact h

theorem testBit_of_foldl_putBit {k : Nat} (l : List Nat) {w : Nat} (h : (l.foldl (fun m t => putBit m t false) w).testBit k = true) :
    w.testBit k = true := by
  induction l generalizing w with
  | nil => exact h
  | cons t l ih => exact testBit_of_putBit_false (ih h)

/-- An EXT_FB is kept, and shows which clears have been done. -/
theorem extFb_taken (hawake : awake s = true) (hrole : s.grp.role = 0) (hsrc : pNat s 0x0712 = m.src) (hlength : m.payload.length = 640) :
    ∃ t : State, exec (.extFb m) s = .next t ∧
      t.grp = { s.grp with extFb := ((s.time.total, m.payload) :: s.grp.extFb).take 128, extFbMissed := 0, extFbSeen := true } ∧
      t.thr = { s.thr with extClear := t.thr.extClear } ∧ (∀ k, bitOf t.thr.extClear k = true → bitOf s.thr.extClear k = true) ∧
      Only [.thr, .grp] s t := by
  refine ⟨_, congrArg Host.Outcome.next (if_pos ?_), rfl, rfl, fun k hk => testBit_of_foldl_putBit _ hk, Only.setThrGrp _ _⟩
  rw [hawake, hrole, hsrc, hlength]
  simp

theorem extFbIn_only (m : CascMsg) (s : State) : Only [.thr, .grp] s (extFbIn m s) :=
  Only.ite (fun _ => Only.setThrGrp _ _) fun _ => Only.refl

theorem extLose_only (s : State) : Only [.evt, .thr, .grp] s (extLose s) :=
  Only.ite (fun _ => ((Only.setThr _).comp (rs := [.thr, .grp]) (Only.setGrp _)).comp (record_only _ _ _)) fun _ => Only.refl

theorem extMasterLost_row (hawake : awake s = true) (hrole : s.grp.role = 3) (hmissed : 3 ≤ s.grp.extMissed) (hnew : s.grp.extLost = false) :
    ∃ t : State, exec .extMasterLost s = .next t ∧ t.grp.extLost = true ∧ t.grp.extPending = [] ∧
      (∀ i c, 16 ≤ i → t.thr.current[i]? = some c → c = standbyCmd) ∧ Only [.evt, .thr, .grp] s t := by
  have hlost : s.grp.role = 3 ∧ 3 ≤ s.grp.extMissed ∧ ¬s.grp.extLost = true := ⟨hrole, hmissed, by rw [hnew]; decide⟩
  refine ⟨extLose s, congrArg Host.Outcome.next (if_pos hawake), ?_, ?_, fun i c hi hc => ?_, extLose_only s⟩
  · rw [extLose, if_pos hlost, record_grp]
  · rw [extLose, if_pos hlost, record_grp]
  · rw [extLose, if_pos hlost, record_thr] at hc
    rw [List.getElem?_mapIdx] at hc
    obtain ⟨-, -, rfl⟩ := Option.map_eq_some_iff.mp hc
    exact if_pos hi

theorem extMasterLost_idle (h : s.grp.role ≠ 3 ∨ s.grp.extMissed < 3 ∨ s.grp.extLost = true) : exec .extMasterLost s = .next s := by
  have hkept : extLose s = s := by
    refine if_neg ?_
    rintro ⟨hrole, hmissed, hnew⟩
    obtain h | h | h := h
    · exact h hrole
    · omega
    · exact hnew h
  show Host.Outcome.next (if awake s then extLose s else s) = _
  rw [hkept, ite_self]

/-! STOP (R429). -/

theorem stop_idle (h3 : fieldU m.payload 0 2 ≠ 0x03F0) (h8 : fieldU m.payload 0 2 ≠ 0x08F0) : exec (.stop m) s = .next s := by
  refine congrArg Host.Outcome.next (if_pos ?_)
  rw [beq_false_of_ne h3, beq_false_of_ne h8, Bool.or_self, Bool.not_false, Bool.or_true]

theorem stop_heard (hawake : awake s = true) (hopcode : fieldU m.payload 0 2 = 0x03F0 ∨ fieldU m.payload 0 2 = 0x08F0) :
    exec (.stop m) s = .next (if isDet s then { s with thr := { s.thr with stopPending := s.thr.stopPending ++ [fieldU m.payload 0 2] } }
      else stopEffect (fieldU m.payload 0 2) s) := by
  refine congrArg Host.Outcome.next (if_neg ?_)
  obtain h | h := hopcode <;> rw [hawake, h] <;> decide

theorem stopEffect_only (o : Nat) (s : State) : Only [.host, .evt, .bus, .ctl, .thr, .sch, .grp, .saf, .out] s (stopEffect o s) :=
  (takeStop_only s).trans (Only.ite (fun _ => latchTrip_only _ _ _ _) fun _ => Only.refl)

theorem stopIn_only (m : CascMsg) (s : State) : Only [.host, .evt, .bus, .ctl, .thr, .sch, .grp, .saf, .out] s (stopIn m s) := by
  unfold stopIn
  extract_lets o
  exact Only.ite (fun _ => Only.refl) fun _ => Only.ite (fun _ => (Only.setThr _).mono (by decide)) fun _ => stopEffect_only o s

/-! STEP_NOTICE and SYNC_NOTICE (R144, R196). -/

/-- The step that a notice tells. -/
def noticedStep (m : CascMsg) : PendStep :=
  ⟨fieldS m.payload 0 16, fieldU m.payload 16 8 * 10 ^ 9 + fieldU m.payload 24 4, 1, fieldU m.payload 28 2, none⟩

theorem stepNoticeIn_eq (m : CascMsg) (s : State) : stepNoticeIn m s =
    if !awake s || !isFollower s || decide ((noticedStep m).instant < s.time.total) then s else addStep (noticedStep m) s := rfl

theorem stepNoticeIn_only (m : CascMsg) (s : State) : Only [.time, .out] s (stepNoticeIn m s) := by
  rw [stepNoticeIn_eq]
  exact Only.ite (fun _ => Only.refl) fun _ => addStep_only _ s

theorem stepNotice_taken (hawake : awake s = true) (hfollows : isFollower s = true) (htime : s.time.total ≤ (noticedStep m).instant) :
    exec (.stepNotice m) s = .next (addStep (noticedStep m) s) ∧ (addStep (noticedStep m) s).time.steps = s.time.steps ++ [noticedStep m] := by
  refine ⟨congrArg Host.Outcome.next ((stepNoticeIn_eq m s).trans (if_neg ?_)), ?_⟩
  · rw [hawake, hfollows, decide_eq_false (Nat.not_lt.mpr htime)]
    decide
  · obtain ⟨htime', -⟩ := addStep_time (noticedStep m) s
    rw [htime']

theorem notices_ofMaster (h : isFollower s = false) : exec (.stepNotice m) s = .next s ∧ exec (.syncNotice m) s = .next s := by
  refine ⟨congrArg Host.Outcome.next ((stepNoticeIn_eq m s).trans (if_pos ?_)), congrArg Host.Outcome.next (if_pos ?_)⟩
  · rw [h, Bool.not_false, Bool.or_true, Bool.true_or]
  · rw [h, Bool.not_false, Bool.or_true]

theorem syncNoticeIn_only (m : CascMsg) (s : State) : Only [.evt, .acq] s (syncNoticeIn m s) := by
  have hset (x : AcqState) : Only [.acq] s { s with acq := x } := by apply Only.fields <;> simp
  unfold syncNoticeIn
  extract_lets i t
  exact Only.ite (fun _ => Only.refl) fun _ => Only.ite (fun _ => (hset _).mono (by decide)) fun _ => (hset _).comp (record_only _ _ _)

theorem syncNotice_taken (hup : acqUp s = true) (hparam : pNat s 0x0254 = 1) (hfollows : isFollower s = true) :
    ∃ t : State, exec (.syncNotice m) s = .next t ∧ Only [.evt, .acq] s t ∧ ∃ i, t.acq.syncs = s.acq.syncs ++ [(i, 2)] ∧ s.time.total ≤ i := by
  refine ⟨syncNoticeIn m s, rfl, syncNoticeIn_only m s, ?_⟩
  unfold syncNoticeIn
  extract_lets i t
  rw [if_neg (by rw [hup, hparam, hfollows]; decide)]
  split
  · next hin => exact ⟨i, rfl, hin⟩
  · refine ⟨(t + 99999) / 100000 * 100000, ?_, ?_⟩
    · rw [record_acq]
    · show s.time.total ≤ (s.time.total + 99999) / 100000 * 100000
      omega

/-! Self-tests and HB_IN (R434, R437). -/

/-- A self-test is counted. -/
def selfTested (o : SelfTest) (s : State) : State :=
  { s with grp := { s.grp with selftestCycles := (s.grp.selftestCycles + 1) % 2 ^ 32,
                               cyclesAsStandby := if o == .passed then s.grp.cyclesAsStandby + b2n (s.grp.role == 1) else 0 } }

/-- What a self-test finds. -/
def selfTestFound (o : SelfTest) (s : State) : State :=
  match o with
  | .passed => s
  | .tile solver n => retireTile solver n.val s
  | .recurrent => rnnFail s
  | .marver => s
  | .memory => { s with grp := { s.grp with memoryFail := true } }

theorem selftestCycle_runs (o : SelfTest) (hawake : awake s = true) (hbow : bowRaised s = false) (hrole : s.grp.role = 1 ∨ s.grp.role = 2) :
    exec (.selftestCycle o) s = .next (selfTestFound o (selfTested o s)) := by
  have hready : ¬(!awake s || bowRaised s || !(s.grp.role == 1 || s.grp.role == 2)) = true := by
    obtain h | h := hrole <;> rw [hawake, hbow, h] <;> decide
  refine (if_neg hready).trans ?_
  cases o <;> rfl

theorem rnnFail_state (s : State) : (rnnFail s).obs.rnn.state = 4 := by
  by_cases h : s.obs.rnn.state = 4
  · rw [rnnFail, if_pos h, h]
  · rw [rnnFail_obs h]

theorem selftestCycle_row (o : SelfTest) (hawake : awake s = true) (hbow : bowRaised s = false) (hrole : s.grp.role = 1 ∨ s.grp.role = 2) :
    ∃ t : State, exec (.selftestCycle o) s = .next t ∧
      (o = .passed → t.grp.selftestCycles = (s.grp.selftestCycles + 1) % 2 ^ 32 ∧ Only [.grp] s t) ∧
      (o = .memory → t.grp.memoryFail = true ∧ Only [.grp] s t) ∧ (o = .recurrent → t.obs.rnn.state = 4 ∧ Only [.evt, .obs, .grp] s t) ∧
      (o = .marver → t.grp.cyclesAsStandby = 0 ∧ Only [.grp] s t) ∧
      Only [.host, .evt, .bus, .obs, .slv, .ctl, .thr, .sch, .grp, .saf, .out] s t := by
  refine ⟨_, selftestCycle_runs o hawake hbow hrole, ?_⟩
  have hcounted : Only [.grp] s (selfTested o s) := Only.setGrp _
  cases o with
  | passed => exact ⟨fun _ => ⟨rfl, hcounted⟩, nofun, nofun, nofun, hcounted.mono (by decide)⟩
  | tile solver n =>
    exact ⟨nofun, nofun, nofun, nofun, hcounted.comp ((retireTile_only solver n.val _).mono (ps := [.host, .evt, .bus, .obs, .slv, .ctl, .thr, .sch,
      .grp, .saf, .out]) (by decide))⟩
  | recurrent =>
    have hfailed : Only [.evt, .obs, .grp] s (rnnFail (selfTested .recurrent s)) := hcounted.comp (rnnFail_only _)
    exact ⟨nofun, nofun, fun _ => ⟨rnnFail_state _, hfailed⟩, nofun, hfailed.mono (by decide)⟩
  | marver => exact ⟨nofun, nofun, nofun, fun _ => ⟨rfl, hcounted⟩, hcounted.mono (by decide)⟩
  | memory =>
    have hfailed : Only [.grp] s { selfTested .memory s with grp := { (selfTested .memory s).grp with memoryFail := true } } :=
      hcounted.trans (Only.setGrp _)
    exact ⟨nofun, fun _ => ⟨rfl, hfailed⟩, nofun, nofun, hfailed.mono (by decide)⟩

theorem selftestCycle_idle (o : SelfTest) (h : s.grp.role ≠ 1 ∧ s.grp.role ≠ 2 ∨ bowRaised s = true) : exec (.selftestCycle o) s = .next s := by
  refine if_pos ?_
  obtain ⟨h1, h2⟩ | h := h
  · rw [beq_false_of_ne h1, beq_false_of_ne h2, Bool.or_self, Bool.not_false, Bool.or_true]
  · rw [h, Bool.or_true, Bool.true_or]

end

theorem modPeer_only (d : Nat) (f : Peer → Peer) (s : State) : Only [.grp] s (modPeer d f s) := Only.setGrp _

theorem hbInToggle_row (k : Fin 2) (s : State) : ∃ t : State, exec (.hbInToggle k) s = .next t ∧
    t.grp.hbIn[k.val]? = (s.grp.hbIn[k.val]?).map (!·) ∧ Only [.grp, .fresh] s t := by
  have htoggled : (modAt s.grp.hbIn k.val (!·))[k.val]? = (s.grp.hbIn[k.val]?).map (!·) := by
    rw [getElem?_modAt, if_pos rfl]
  have h1 : Only [.grp] s { s with grp := { s.grp with hbIn := modAt s.grp.hbIn k.val (!·) } } := Only.setGrp _
  refine ⟨_, rfl, ?_, Only.ite (fun _ => (h1.trans (modPeer_only _ _ _)).mono (by decide)) fun _ => h1.mono (by decide)⟩
  split <;> exact htoggled

/-- Settles O48: a lemma for each row. -/
theorem groupTrafficRows : Obligations.GroupTrafficRows := by
  intro s
  refine ⟨fun m => ⟨_, rfl, mirrorIn_only m s, mirrorIn_unheard, mirrorIn_gathers⟩,
    fun m hawake hrole hlength hcrc hepoch => extCmd_taken hawake hrole hlength hcrc hepoch, fun m hawake hrole hlength hcrc => ?_,
    fun m h => extCmd_idle h, fun m hawake hrole hsrc hlength => extFb_taken hawake hrole hsrc hlength, fun m h => extFb_idle h,
    extMasterLost_row, extMasterLost_idle, fun m hawake hopcode => ⟨fun hdet => ?_, fun hdet => ?_⟩, fun m h3 h8 => stop_idle h3 h8,
    fun m hawake hfollows htime => stepNotice_taken hawake hfollows htime, fun m h => notices_ofMaster h,
    fun m hup hparam hfollows => syncNotice_taken hup hparam hfollows, fun o hawake hbow hrole => selftestCycle_row o hawake hbow hrole,
    fun o h => selftestCycle_idle o h, fun k => hbInToggle_row k s⟩
  · rw [extCmd_heard hawake hrole hlength, if_pos hcrc]
  · rw [stop_heard hawake hopcode, if_pos hdet]
  · rw [stop_heard hawake hopcode, if_neg (Bool.eq_false_iff.mp hdet)]

end Sys2Proof.Machine
end

section
/-! The links of the cascade and what the devices of a group say of themselves (R413 to R417, R421, R437). -/

namespace Sys2Proof.Machine

set_option Elab.async false

/-! The links (R413). -/

/-- What a link's change leaves of the group: its counters, and nothing is forgotten of the frames taken. -/
theorem setLink_kept (port : Nat) (up : Bool) (s : State) :
    (setLink port up s).grp.framesDropped = s.grp.framesDropped ∧ (setLink port up s).grp.seen = s.grp.seen := by
  unfold setLink
  extract_lets g s1 g1 s2
  have h2 : s2.grp.framesDropped = s.grp.framesDropped ∧ s2.grp.seen = s.grp.seen := by
    unfold s2
    split <;> exact ⟨rfl, rfl⟩
  split
  · exact ⟨rfl, rfl⟩
  · split
    · rw [record_grp]
      exact h2
    · exact h2

/-- A link takes the state asked for, and the other port's keeps its own. -/
theorem setLink_links {port : Nat} {s : State} (hport : port < s.grp.links.length) (up : Bool) :
    at_ false (setLink port up s).grp.links port = up ∧ ∀ k, k ≠ port → at_ false (setLink port up s).grp.links k = at_ false s.grp.links k := by
  unfold setLink
  extract_lets g s1 g1 s2
  split
  · next hsame => exact ⟨beq_iff_eq.mp hsame, fun _ _ => rfl⟩
  · have h2 : s2.grp.links = modAt s.grp.links port fun _ => up := by
      unfold s2
      split <;> rfl
    have hlinks : at_ false s2.grp.links port = up ∧ ∀ k, k ≠ port → at_ false s2.grp.links k = at_ false s.grp.links k := by
      rw [h2]
      refine ⟨?_, fun k hk => ?_⟩
      · rw [at_modAt, if_pos ⟨rfl, hport⟩]
      · rw [at_modAt, if_neg fun h => hk h.1.symm]
    split
    · rw [record_grp]
      exact hlinks
    · exact hlinks

theorem b2n_port (d : Bool) : b2n d < 2 ∧ 1 - b2n d ≠ b2n d := by cases d <;> decide

theorem cascLinkUp_row {s : State} (d : Bool) (hup : cascUp s = true) (hin : s.pwr.isolated.getLsbD 8 = false) (hlinks : s.grp.links.length = 2) :
    ∃ t : State, exec (.cascLinkUp d) s = .next t ∧ at_ false t.grp.links (b2n d) = true ∧
      at_ false t.grp.links (1 - b2n d) = at_ false s.grp.links (1 - b2n d) ∧ Only [.evt, .grp] s t := by
  obtain ⟨hport, hother⟩ := b2n_port d
  obtain ⟨hset, hkept⟩ := setLink_links (s := s) (hlinks ▸ hport) true
  refine ⟨setLink (b2n d) true s, congrArg Host.Outcome.next (if_pos ?_), hset, hkept _ hother, setLink_only ..⟩
  rw [hup, hin]
  rfl

theorem cascLinkDown_row {s : State} (d : Bool) (hup : cascUp s = true) (hlinks : s.grp.links.length = 2) :
    ∃ t : State, exec (.cascLinkDown d) s = .next t ∧ at_ false t.grp.links (b2n d) = false ∧
      at_ false t.grp.links (1 - b2n d) = at_ false s.grp.links (1 - b2n d) ∧ Only [.evt, .grp] s t := by
  obtain ⟨hport, hother⟩ := b2n_port d
  obtain ⟨hset, hkept⟩ := setLink_links (s := s) (hlinks ▸ hport) false
  exact ⟨setLink (b2n d) false s, congrArg Host.Outcome.next (if_pos hup), hset, hkept _ hother, setLink_only ..⟩

/-! ANNOUNCE and HEALTH (R415, R421, R437). -/

theorem peerOf_of_known {s t : State} (h : known t.grp = known s.grp) (d : Nat) : peerOf t d = peerOf s d :=
  congrArg (fun k : List Peer × Nat × Bool => at_ peerReset k.1 d) h

theorem peerOf_modPeer {d : Nat} {s : State} (hd : d < s.grp.peers.length) (f : Peer → Peer) : peerOf (modPeer d f s) d = f (peerOf s d) := by
  have hpeer : peerOf (modPeer d f s) d = _ := at_modAt peerReset s.grp.peers d d f
  rw [hpeer, if_pos ⟨rfl, hd⟩]
  rfl

/-- A device as its ANNOUNCE tells it. -/
def announcing (m : CascMsg) (s : State) : Peer :=
  { peerOf s m.src with announced := true, role := byteAt m.payload 1, owning := byteAt m.payload 2 == 1, crc := fieldU m.payload 4 4,
                        epoch := fieldU m.payload 8 2 }

/-- What an ANNOUNCE heard leaves beside the device's entry. -/
theorem announceIn_heard {m : CascMsg} {s : State} (hrun : fwRunning s = true) (hother : m.src ≠ deviceNo s) :
    Only [.evt, .grp, .saf, .out] s (announceIn m s) ∧
      known (announceIn m s).grp = known (modPeer m.src (fun _ => announcing m s) s).grp := by
  unfold announceIn
  rw [hrun]
  rw [if_neg (by decide), if_neg hother]
  extract_lets b old p s0 s1 s2 own g3 s3 s4
  have h2 : s2 = hearOwner (p.owning && p.role != 3) p.epoch s0 := rfl
  have h0 : Only [.grp] s s0 := modPeer_only _ _ s
  have honly2 : Only [.evt, .grp, .saf, .out] s s2 := h2 ▸ h0.comp (hearOwner_only _ _ s0)
  have hknown2 : known s2.grp = known s0.grp := h2 ▸ hearOwner_known _ _ s0
  have h3 : Only [.grp] s2 s3 ∧ known s3.grp = known s2.grp := by
    unfold s3
    split
    · exact ⟨Only.setGrp _, rfl⟩
    · split
      · exact ⟨Only.setGrp _, rfl⟩
      · exact ⟨Only.refl, rfl⟩
  have h4 : Only [.grp] s2 s4 ∧ known s4.grp = known s2.grp := by
    unfold s4
    split
    · exact h3
    · exact ⟨h3.1.trans (Only.setGrp _), h3.2⟩
  have honly4 : Only [.evt, .grp, .saf, .out] s s4 := honly2.comp h4.1
  split
  · exact ⟨honly4, h4.2.trans hknown2⟩
  · refine ⟨honly4.comp ((meetMaster_only _ _ s4).comp (rs := [.evt, .grp, .saf, .out]) (resolveRole_only _)), ?_⟩
    rw [resolveRole_known, meetMaster_known]
    exact h4.2.trans hknown2

theorem announceIn_only (m : CascMsg) (s : State) : Only [.evt, .grp, .saf, .out] s (announceIn m s) := by
  by_cases hrun : fwRunning s = true
  · by_cases hown : m.src = deviceNo s
    · have hexcluded : announceIn m s = exclude .cascDuplicate s := by
        rw [announceIn, hrun]
        exact if_pos hown
      rw [hexcluded]
      exact exclude_only _ s
    · exact (announceIn_heard hrun hown).1
  · rw [announceIn, Bool.eq_false_iff.mpr hrun]
    exact Only.refl

theorem announceRx_row {m : CascMsg} {s : State} (hrun : fwRunning s = true) (hother : m.src ≠ deviceNo s) (hsrc : m.src < s.grp.peers.length) :
    ∃ t : State, exec (.announceRx m) s = .next t ∧ (peerOf t m.src).announced = true ∧ (peerOf t m.src).role = byteAt m.payload 1 ∧
      (peerOf t m.src).epoch = fieldU m.payload 8 2 ∧ Only [.evt, .grp, .saf, .out] s t := by
  obtain ⟨honly, hknown⟩ := announceIn_heard hrun hother
  refine ⟨announceIn m s, rfl, ?_⟩
  rw [peerOf_of_known hknown, peerOf_modPeer hsrc]
  exact ⟨rfl, rfl, rfl, honly⟩

theorem healthIn_idle {m : CascMsg} {s : State} (h : fwRunning s = false ∨ m.payload.length ≠ 64) : healthIn m s = s := by
  refine if_pos ?_
  obtain h | h := h
  · rw [h]
    rfl
  · rw [bne_iff_ne.mpr h, Bool.or_true]

theorem healthIn_heard {m : CascMsg} {s : State} (hrun : fwRunning s = true) (hlength : m.payload.length = 64) : healthIn m s =
    hearOwner (bitOf (byteAt m.payload 3) 1 && byteAt m.payload 1 != 3) (fieldU m.payload 12 2) (keepHealth m.src m.payload s) := by
  refine if_neg ?_
  rw [hrun, hlength]
  decide

theorem healthIn_only (m : CascMsg) (s : State) : Only [.evt, .grp, .saf, .out] s (healthIn m s) := by
  by_cases h : fwRunning s = false ∨ m.payload.length ≠ 64
  · rw [healthIn_idle h]
    exact Only.refl
  · simp only [not_or, Bool.not_eq_false, not_not] at h
    rw [healthIn_heard h.1 h.2]
    exact (keepHealth_only _ _ s).comp (hearOwner_only _ _ _)

theorem healthRx_row {m : CascMsg} {s : State} (hrun : fwRunning s = true) (hlength : m.payload.length = 64) (hsrc : m.src < s.grp.peers.length) :
    ∃ t : State, exec (.healthRx m) s = .next t ∧ (peerOf t m.src).health = m.payload ∧ Only [.evt, .grp, .saf, .out, .fresh] s t := by
  have hkept : (peerOf (keepHealth m.src m.payload s) m.src).health = m.payload := by
    unfold keepHealth
    extract_lets n up
    have hup (p : Peer) : (up p).health = p.health := by
      unfold up
      split <;> rfl
    rw [peerOf_modPeer hsrc, hup]
  refine ⟨healthIn m s, rfl, ?_, (healthIn_only m s).mono (by decide)⟩
  rw [healthIn_heard hrun hlength, peerOf_of_known (hearOwner_known _ _ _), hkept]

/-! The image (R417). -/

theorem bootReqIn_only (m : CascMsg) (s : State) : Only [.grp, .out] s (bootReqIn m s) :=
  Only.ite (fun _ => Only.refl.foldl _ (fun u _ => sendCasc_only _ _ _ u) _) fun _ => Only.refl

theorem bootReqIn_asleep {m : CascMsg} {s : State} (h : awake s = false) : bootReqIn m s = s :=
  if_neg (by rw [h, Bool.false_and]; decide)

theorem bootDataIn_idle {s : State} (h : awaitsImage s = false) (m : CascMsg) : bootDataIn m s = s := if_pos (by rw [h]; rfl)

theorem bootDataIn_only (m : CascMsg) (s : State) : Only [.grp] s (bootDataIn m s) := by
  unfold bootDataIn
  extract_lets i ps img
  exact Only.ite (fun _ => Only.refl) fun _ => Only.ite (fun _ => Only.setGrp _) fun _ => Only.ite (fun _ => Only.setGrp _) fun _ => Only.setGrp _

theorem bootReqTx_row {s : State} (h : awaitsImage s = true) : ∃ t : State, exec .bootReqTx s = .next t ∧ t.grp.bootAskedAt = t.time.elapsed ∧
    s.grp.bootAskedAt + ms 100 ≤ t.time.elapsed ∧ Only [.time, .evt, .grp, .out] s t := by
  have hwait := elapseTo_only (s.grp.bootAskedAt + ms 100) s
  have hleast := le_elapsed_elapseTo (s.grp.bootAskedAt + ms 100) s
  have hexec : exec .bootReqTx s = .next (let u := elapseTo (s.grp.bootAskedAt + ms 100) s
    sendCasc 0x40 0xFF [] { u with grp := { u.grp with bootAskedAt := u.time.elapsed } }) := if_pos h
  obtain ⟨u, hu⟩ : ∃ u, elapseTo (s.grp.bootAskedAt + ms 100) s = u := ⟨_, rfl⟩
  rw [hu] at hwait hleast hexec
  have hsend := sendCasc_only 0x40 0xFF [] { u with grp := { u.grp with bootAskedAt := u.time.elapsed } }
  refine ⟨_, hexec, ?_, ?_, hwait.comp ((Only.setGrp _).comp (rs := [.grp, .out]) hsend)⟩
  · rw [sendCasc_unsent (part := GrpState.bootAskedAt) fun _ _ _ _ _ _ => rfl, hsend.2 .time (by decide)]
  · rw [hsend.2 .time (by decide)]
    exact hleast

/-- ANNOUNCE notes the time of its sending. -/
theorem announce_sentAt (s : State) : (announce s).grp.lastAnnounce = s.time.elapsed :=
  sendCascOf_grp_part GrpState.lastAnnounce (fun _ _ _ _ => rfl) _ _ _ _ _

theorem announceTx_row {s : State} (h : awake s = true) : ∃ t : State, exec .announceTx s = .next t ∧ t.grp.lastAnnounce = t.time.elapsed ∧
    s.grp.lastAnnounce + ms 100 ≤ t.time.elapsed ∧ Only [.time, .evt, .grp, .out] s t := by
  have hsend := announce_only (elapseTo (s.grp.lastAnnounce + ms 100) s)
  refine ⟨_, congrArg Host.Outcome.next (if_pos h), ?_, ?_, (elapseTo_only _ s).comp hsend⟩
  · rw [announce_sentAt, hsend.2 .time (by decide)]
  · rw [hsend.2 .time (by decide)]
    exact le_elapsed_elapseTo _ s

/-! Frames (R414, R415). -/

theorem badFrame_row (port : Nat) (s : State) : (badFrame port s).grp.framesDropped = min (s.grp.framesDropped + 1) (2 ^ 32 - 1) ∧
    (badFrame port s).grp.seen = s.grp.seen ∧ Only [.evt, .grp] s (badFrame port s) := by
  unfold badFrame
  extract_lets t ts g s1
  have h1 : Only [.grp] s s1 := Only.setGrp _
  split
  · obtain ⟨hdropped, hseen⟩ := setLink_kept port false s1
    exact ⟨hdropped, hseen, h1.comp (setLink_only port false s1)⟩
  · exact ⟨rfl, rfl, h1.mono (by decide)⟩

theorem queueCasc_only (f : TxFrame) (s : State) : Only [.grp, .out] s (queueCasc f s) := by
  apply Only.fields <;> simp

theorem forward_only (port : Nat) (f : List Byte) (s : State) : Only [.grp, .out] s (forward port f s) := by
  unfold forward
  extract_lets hops other
  exact Only.ite (fun _ => Only.refl) fun _ => queueCasc_only _ s

theorem takeFrame2_only (typ : Nat) (m : CascMsg) (s : State) :
    Only [.time, .host, .evt, .acq, .bus, .ctl, .thr, .sch, .grp, .saf, .out] s (takeFrame2 typ m s) := by
  unfold takeFrame2
  split
  case h_1 => exact (announceIn_only m s).mono (by decide)
  case h_2 => exact (healthIn_only m s).mono (by decide)
  case h_3 => exact Only.ite (fun _ => Only.refl) fun _ => (takeIn_only false m s).mono (by decide)
  case h_4 => exact Only.ite (fun _ => Only.refl) fun _ => (yieldIn_only false m s).mono (by decide)
  case h_5 => exact (ackIn_only m s).mono (by decide)
  case h_6 => exact (mirrorIn_only m s).mono (by decide)
  case h_7 => exact (extCmdIn_only m s).mono (by decide)
  case h_8 => exact (extFbIn_only m s).mono (by decide)
  case h_9 => exact (stopIn_only m s).mono (by decide)
  case h_10 => exact (stepNoticeIn_only m s).mono (by decide)
  case h_11 => exact (syncNoticeIn_only m s).mono (by decide)
  case h_12 => exact (bootReqIn_only m s).mono (by decide)
  case h_13 => exact (bootDataIn_only m s).mono (by decide)
  case h_14 => exact Only.refl

theorem cascFrameRx_unheard {d : Bool} {s : State} (h : linkUp s (b2n d) = false) (f : List Byte) : exec (.cascFrameRx d f) s = .next s :=
  if_pos (by rw [h]; rfl)

theorem cascFrameRx_only (d : Bool) (f : List Byte) (s : State) : ∃ t : State, exec (.cascFrameRx d f) s = .next t ∧
    Only [.time, .host, .evt, .acq, .bus, .ctl, .thr, .sch, .grp, .saf, .out, .fresh] s t := by
  show ∃ t, execCascFrameRx d f s = .next t ∧ _
  unfold execCascFrameRx
  extract_lets port n len typ src dst seq s1 dist s2 key seen g s3
  split
  · exact ⟨s, rfl, Only.refl⟩
  · split
    · exact ⟨_, rfl, (badFrame_row port s).2.2.mono (by decide)⟩
    · have h1 : Only [.grp, .out] s s1 := forward_only port f s
      have h2 : Only [.grp, .out] s s2 := h1.comp (Only.ite (fun _ => modPeer_only _ _ s1) fun _ => Only.refl)
      split
      · exact ⟨s2, rfl, h2.mono (by decide)⟩
      · have h3 : Only [.grp, .out] s s3 := h2.comp (Only.setGrp _)
        exact ⟨_, rfl, h3.comp ((takeFrame2_only _ _ s3).mono (ps := [.time, .host, .evt, .acq, .bus, .ctl, .thr, .sch, .grp, .saf, .out, .fresh])
          (by decide))⟩

/-- Settles O46: a lemma for each row. -/
theorem cascadeRows : Obligations.CascadeRows := by
  intro s
  refine ⟨fun d hup hin hlinks => ⟨cascLinkUp_row d hup hin hlinks, cascLinkDown_row d hup hlinks⟩, fun d hoff => ⟨?_, ?_⟩, fun d hout => ?_,
    fun d f hdown => cascFrameRx_unheard hdown f, fun d f hup hbad => ?_, fun d f => cascFrameRx_only d f s, announceTx_row,
    fun hasleep => congrArg Host.Outcome.next (if_neg (Bool.eq_false_iff.mp hasleep)),
    fun m hrun hother hsrc => announceRx_row hrun hother hsrc, fun m hstopped => ⟨congrArg Host.Outcome.next (if_pos ?_), ?_⟩,
    fun m hlength => congrArg Host.Outcome.next (healthIn_idle (.inr hlength)),
    fun m hrun hlength hsrc => healthRx_row hrun hlength hsrc, fun m => ⟨_, rfl, bootReqIn_only m s, bootReqIn_asleep⟩, bootReqTx_row,
    fun hnot => ⟨if_neg (Bool.eq_false_iff.mp hnot), fun m => congrArg Host.Outcome.next (bootDataIn_idle hnot m)⟩, fun m hawaits => ?_⟩
  · exact congrArg Host.Outcome.next (if_neg (by rw [hoff, Bool.false_and]; decide))
  · exact congrArg Host.Outcome.next (if_neg (Bool.eq_false_iff.mp hoff))
  · exact congrArg Host.Outcome.next (if_neg (by rw [hout, Bool.not_true, Bool.and_false]; decide))
  · refine ⟨badFrame (b2n d) s, ?_, badFrame_row (b2n d) s⟩
    show execCascFrameRx d f s = _
    unfold execCascFrameRx
    extract_lets port n len typ src dst seq s1 dist s2 key seen g s3
    rw [if_neg (by rw [show linkUp s port = true from hup]; decide), if_pos hbad]
  · rw [hstopped]
    rfl
  · exact congrArg Host.Outcome.next (healthIn_idle (.inl hstopped))
  · intro i ps img
    have hexec : exec (.bootData m) s = .next (if img.any (·.isNone) then { s with grp := { s.grp with bootParts := ps } }
        else if Config.imageVerifies (img.flatMap (·.getD [])) then { s with grp := { s.grp with bootParts := ps, bootOk := true } }
        else { s with grp := { s.grp with bootParts := ps.filter fun p => p.1 != m.src } }) :=
      congrArg Host.Outcome.next (if_neg (by rw [hawaits]; decide))
    refine ⟨fun hsome => ?_, fun hwhole => ?_⟩
    · rw [hexec, if_pos hsome]
    · rw [hexec, if_neg (Bool.eq_false_iff.mp hwhole)]

end Sys2Proof.Machine
end
